-- ==== Sys2Proof/Word.lean ====
section
/-! DEFINITION. The word types of the module: bytes, and the 32-bit words of its registers (R4). -/

namespace Sys2Proof

/-- One byte. -/
abbrev Byte := BitVec 8

/-- One register word (R4). -/
abbrev W32 := BitVec 32

/-- A bit as a number. -/
abbrev bitNat (b : Bool) : Nat := if b then 1 else 0

end Sys2Proof
end

