-- ==== Sys2Proof/Syntax.lean ====
section
/-! DEFINITION. The commands of the module: one constructor per row of the opcode table, with its operands, and the
types of those operands. A TAI instant is a number of ns since the epoch. -/

namespace Sys2Proof

/-- The 32-bit atomic operations IRQ_MASK and IRQ_PEND accept (R338), and any other. -/
inductive AmoOp where
  | and | or | swap | add | xor | min | max | minu | maxu | other
  deriving DecidableEq, Repr

/-- The data set of a PTP master as an Announce message gives it (R63): the default best-master comparison's fields,
and the inaccuracy in ns that its C37.238 TLV states, where it carries one (R71). -/
structure PtpMaster where
  priority1 : Nat
  clockClass : Nat
  accuracy : Nat
  variance : Nat
  priority2 : Nat
  identity : Nat
  steps : Nat
  tlv : Option Nat
  deriving DecidableEq, Repr

/-- A PTP message of R63, with the times it carries in ns. -/
inductive PtpMsg where
  | announce (m : PtpMaster)
  | sync (seq : Nat) (twoStep : Bool) (origin corr : Int)
  | followUp (seq : Nat) (origin corr : Int)
  | delayReq (seq : Nat) (corr : Int)
  | delayResp (seq : Nat) (rx corr : Int)
  | pdelayReq (seq : Nat) (corr : Int)
  | pdelayResp (seq : Nat) (rx tx corr : Int)
  deriving DecidableEq, Repr

/-- A PTP message as a port receives it: its domain and what it says. -/
structure PtpFrame where
  domain : Nat
  msg : PtpMsg
  deriving DecidableEq, Repr

/-- The messages an interval timer of the PTP engine sends. -/
inductive PtpTx where
  | sync | announce | delayReq
  deriving DecidableEq, Repr

/-- An 802.1Q tag: VLAN ID, PCP and DEI. -/
structure VTag where
  vid : Nat
  pcp : Nat
  dei : Bool
  deriving DecidableEq, Repr

/-- An Ethernet frame without its FCS: addresses (first octet most significant), the 802.1Q tag where it has one,
EtherType and payload. -/
structure EthFrame where
  dst : Nat
  src : Nat
  tag : Option VTag
  etype : Nat
  payload : List Byte
  deriving DecidableEq, Repr

/-- A C37.118.2 frame as the host port hands it to stream ingress (R80, R82): its bytes, whether it came over IPv6, the
source address in network order (16 bytes) and port, the connection for TCP, and the port receive stamp in ns. -/
structure C37Frame where
  data : List Byte
  v6 : Bool
  addr : List Byte
  port : Nat
  conn : Option Nat
  arrival : Nat
  deriving DecidableEq, Repr

/-- A TCP segment on the C37.118.2 port (R82): addresses in network order (16 bytes), ports, sequence number, FIN, RST,
the data, the whole Ethernet frame that carried it and the port receive stamp in ns. -/
structure TcpSeg where
  v6 : Bool
  remote : List Byte
  local_ : List Byte
  remotePort : Nat
  localPort : Nat
  seq : Nat
  fin : Bool
  rst : Bool
  data : List Byte
  frame : List Byte
  arrival : Nat
  deriving DecidableEq, Repr

/-- The selection registers of grid analytics (R154). -/
inductive GanSel where
  | rule | tuner | node | edge | monitor
  deriving DecidableEq, Repr

/-- A Brodsan message as the host port hands it on (R164): its bytes, the IPv4 source address, whether it came over the
pair link, and its arrival in TAI ns. -/
structure BrdMsg where
  data : List Byte
  src : Nat
  link : Bool
  t : Nat
  deriving DecidableEq, Repr

/-- An ADC link frame (R180): its 16 words, its CRC-16 field, and the TAI ns at which its last bit came. -/
structure AdcFrame where
  link : Nat
  words : List W32
  crc : Nat
  ends : Nat
  deriving DecidableEq, Repr

/-- A value of a sampled-values dataset: the INT32 reading, its validity bits and its test bit. -/
structure SvValue where
  raw : Int
  validity : Nat
  test : Bool
  deriving DecidableEq, Repr

/-- An ASDU: confRev, smpCnt, smpSynch and its 4 currents and 4 voltages. -/
structure SvAsdu where
  confRev : Nat
  smpCnt : Nat
  smpSynch : Nat
  values : List SvValue
  deriving DecidableEq, Repr

/-- A frame of IEC 61850-9-2 sampled values (R182), with its arrival stamp in TAI ns. -/
structure SvFrame where
  appid : Nat
  simulate : Bool
  asdus : List SvAsdu
  arrival : Nat
  deriving DecidableEq, Repr

/-- A data frame a radio received (R230, R238): the sender's short or extended address, sequence number, AR, key index,
frame counter, the secured payload, its MIC and the frame's FCS, the received power as a signed byte, and the link quality. -/
structure RadioFrame where
  radio : Nat
  ext : Bool
  src : Nat
  seq : Nat
  ack : Bool
  key : Nat
  ctr : Nat
  cipher : List Byte
  mic : List Byte
  fcs : Nat
  rssi : Nat
  lqi : Nat
  deriving DecidableEq, Repr


/-- Kinds of outbound request of a lane (R309, R414). -/
inductive ReqKind where
  | fetch | load | store | atomic
  deriving DecidableEq, Repr

/-- An outbound request (R309, R311): kind, physical address, bytes, byte enables (bit k for byte k), write data as a
little-endian number, the atomic operation, and whether it is a cache fill or write-back. -/
structure Req where
  kind : ReqKind
  addr : Nat
  size : Nat
  enables : Nat
  data : Nat
  op : AmoOp
  fill : Bool
  deriving DecidableEq, Repr

/-- Why a lane reports a local fault (R311): an uncorrectable L1 or L2 error, or a core lock-up. -/
inductive LocalCause where
  | l1 | l2 | lockup
  deriving DecidableEq, Repr

/-- How far a start gets before the next command acts (R29, R384): into WAKING, into RESTORING, or to firmware entry. -/
inductive StartStage where
  | waking | restoring | entry
  deriving DecidableEq, Repr

/-- The commands, in the order of the opcode table. -/
inductive Instr where
  /-- REGISTER_WRITE. A voted lane write of a device register, 32 bits wide, by a hart in machine mode or not, at TAI ns `t` (R4, R5). -/
  | registerWrite (machine : Bool) (addr : Nat) (v : W32) (t : Nat)
  /-- RC_COUNTER_READ. A voted lane read of a device register, 32 bits wide; an RC counter is cleared (R4, R5). -/
  | rcCounterRead (addr : Nat)
  /-- SWITCH_FRAME_RX. An Ethernet frame is received on a port at TAI ns `t` (R22). -/
  | switchFrameRx (port : Nat) (f : EthFrame) (t : Nat)
  /-- MAIN_SUPPLY_VALID. The main supply becomes valid at TAI ns `t`; the start it begins gets as far as `stage` before the next command acts (R382, R384). -/
  | mainSupplyValid (stage : StartStage) (t : Nat)
  /-- DRAM_INIT_DONE. The DRAM init pointer completes at TAI ns `t` (R320). -/
  | dramInitDone (t : Nat)
  /-- MAIN_SUPPLY_LOST. The bus falls below 18.0 V at TAI ns `t` (R442). -/
  | mainSupplyLost (t : Nat)
  /-- PFAIL_N_FALL. PFAIL_N falls at TAI ns `t` (R397). -/
  | pfailNFall (t : Nat)
  /-- PFAIL_N_RISE. PFAIL_N has risen with the supply valid, at TAI ns `t` (R31). -/
  | pfailNRise (t : Nat)
  /-- RESET_N_LOW. RESET_N has been low for `width` ns at TAI ns `t` (R382). -/
  | resetNLow (width t : Nat)
  /-- RESET_N_HIGH. RESET_N rises at TAI ns `t` (R382). -/
  | resetNHigh (stage : StartStage) (t : Nat)
  /-- RESET_HOLD_END. The hold of a reset ends at TAI ns `t` (R383). -/
  | resetHoldEnd (stage : StartStage) (t : Nat)
  /-- WATCHDOG_EXPIRE. The watchdog's count is judged at TAI ns `t` (R394). -/
  | watchdogExpire (t : Nat)
  /-- WATCHDOG_KICK. A lane write of SYS_WDOG_KICK at TAI ns `t` (R394). -/
  | watchdogKick (v : W32) (t : Nat)
  /-- BOOT_LOOP_CLEAR. 60 s without an early watchdog reset are judged at TAI ns `t` (R395). -/
  | bootLoopClear (t : Nat)
  /-- OVERVOLTAGE_LOCKOUT. VIN rises above the over-voltage lockout at TAI ns `t` (R459). -/
  | overvoltageLockout (t : Nat)
  /-- SFP_OVERCURRENT. The SFP+ module of a port draws over 600 mA (R454). -/
  | sfpOvercurrent (port : Nat)
  /-- HOLDUP_CHARGER_STOP. The HOLDUP contact has been shorted for 1 s, at TAI ns `t` (R459). -/
  | holdupChargerStop (t : Nat)
  /-- VBAK_RISE. VBAK comes within its limits, at TAI ns `t` (R352). -/
  | vbakRise (t : Nat)
  /-- SAVE_SETTINGS. SYS_CMD SAVE_SETTINGS at TAI ns `t` (R390). -/
  | saveSettings (t : Nat)
  /-- SYSTEM_RESET. SYS_CMD SYSTEM_RESET with a confirm value at TAI ns `t` (R382). -/
  | systemReset (confirm t : Nat)
  /-- PATTERN_RELOAD. SYS_CMD PATTERN_RELOAD with a confirm value at TAI ns `t` (R392). -/
  | patternReload (confirm t : Nat)
  /-- PATTERN_RELOAD_DONE. The pattern-reload reset ends at TAI ns `t` (R392). -/
  | patternReloadDone (t : Nat)
  /-- SLEEP. SYS_CMD SLEEP with a confirm value at TAI ns `t` (R398). -/
  | sleep (confirm t : Nat)
  /-- STAGE_FW. SYS_CMD STAGE_FW of the image at SYS_FW_SRC (R387). -/
  | stageFw
  /-- STAGE_FW_DONE. The staging write ends at TAI ns `t`; whether the flash took it (R387). -/
  | stageFwDone (ok : Bool) (t : Nat)
  /-- FW_COMMIT. SYS_CMD FW_COMMIT (R387). -/
  | fwCommit
  /-- AUTO_SAVE. auto_s is judged at TAI ns `t` (R390). -/
  | autoSave (t : Nat)
  /-- SETTINGS_SAVE_DONE. The settings save in progress completes at TAI ns `t` (R389). -/
  | settingsSaveDone (t : Nat)
  /-- WAKE_TIMER_EXPIRE. WCH_WAKE_TIMER is judged in SLEEP at TAI ns `t` (R399). -/
  | wakeTimerExpire (t : Nat)
  /-- WAKE_RX_MATCH. The wake-up receiver decodes a pattern of an address with good CRC, at TAI ns `t` (R248). -/
  | wakeRxMatch (addr t : Nat)
  /-- GIO_WAKE_EDGE. An edge on a general I/O pin at TAI ns `t` (R399). -/
  | gioWakeEdge (pin : Nat) (rising : Bool) (t : Nat)
  /-- CONSOLE_BREAK. A break on CON_RXD at TAI ns `t` (R448). -/
  | consoleBreak (t : Nat)
  /-- VERIFY. PAT_CMD VERIFY of the pattern at PAT_SRC (R51). -/
  | verify
  /-- VERIFY_DONE. VERIFY ends, at TAI ns `t` (R56). -/
  | verifyDone (t : Nat)
  /-- ARM. PAT_CMD ARM at TAI ns `t` (R56). -/
  | arm (t : Nat)
  /-- CANCEL. PAT_CMD CANCEL (R56). -/
  | cancel
  /-- COMMIT. PAT_CMD COMMIT at TAI ns `t` (R55). -/
  | commit (t : Nat)
  /-- COMMIT_DONE. The Larder copy of the pattern is written and checked, at TAI ns `t` (R55). -/
  | commitDone (t : Nat)
  /-- REVERT. PAT_CMD REVERT at TAI ns `t` (R54). -/
  | revert (t : Nat)
  /-- PATTERN_BARRIER. The barrier instant is judged at TAI ns `t` (R53). -/
  | patternBarrier (t : Nat)
  /-- HOLD_END. The barrier hold ends at TAI ns `t` (R56). -/
  | holdEnd (t : Nat)
  /-- TRIAL_TIMEOUT. The trial timeout is judged at TAI ns `t` (R54). -/
  | trialTimeout (t : Nat)
  /-- PAT_TRIAL_TIMEOUT_WRITE. A lane write of PAT_TRIAL_TIMEOUT at TAI ns `t` (R54). -/
  | patTrialTimeoutWrite (v : W32) (t : Nat)
  /-- DEFERRED_BARRIER. A deferred barrier is judged again at TAI ns `t` (R31). -/
  | deferredBarrier (t : Nat)
  /-- PTP_MESSAGE_RX. A PTP message of a domain is received on an Ethernet port at TAI ns `t` (R63). -/
  | ptpMessageRx (port : Nat) (m : PtpFrame) (t : Nat)
  /-- PTP_MESSAGE_TX. An interval timer of the PTP engine fires for a port at TAI ns `t` (R63). -/
  | ptpMessageTx (port : Nat) (k : PtpTx) (t : Nat)
  /-- ANNOUNCE_TIMEOUT. announceReceiptTimeout has passed without an Announce of the master, at TAI ns `t` (R63). -/
  | announceTimeout (t : Nat)
  /-- PPS_EDGE. A rising edge of PPS_IN (or of the GNSS pulse, with the receiver's second `sec`) at counter ns `t` (R65). -/
  | ppsEdge (gnss : Bool) (sec : Nat) (t : Nat)
  /-- PPS_LOST. 1.1 s without a PPS edge, at TAI ns `t` (R65). -/
  | ppsLost (t : Nat)
  /-- REF10M_VALID. REF10M_IN has measured within 10 ppm over 1 s, at TAI ns `t` (R66). -/
  | ref10mValid (t : Nat)
  /-- REF10M_LOST. REF10M_IN stops or departs, at TAI ns `t` (R66). -/
  | ref10mLost (t : Nat)
  /-- STEP. TBS_CMD STEP (R69). -/
  | step
  /-- HOLD. TBS_CMD HOLD (R67). -/
  | hold
  /-- RELEASE. TBS_CMD RELEASE (R67). -/
  | release
  /-- SLEW_DONE. The slew term has removed its correction, at TAI ns `t` (R68). -/
  | slewDone (t : Nat)
  /-- TBS_CTRL_WRITE. A lane write of TBS_CTRL (R462). -/
  | tbsCtrlWrite (v : W32)
  /-- LEAP_SECOND. The counter reaches TBS_LEAP_AT, at TAI ns `t` (R72). -/
  | leapSecond (t : Nat)
  /-- LEAP_OCCURRED_EXPIRE. 86,400 s have passed since the leap, at TAI ns `t` (R72). -/
  | leapOccurredExpire (t : Nat)
  /-- TRIGGER_ARM. A lane write of TRG_CTRL[n] (R74). -/
  | triggerArm (n : Nat) (v : W32)
  /-- TRIGGER_FIRE. Trigger unit n reaches its instant, at TAI ns `t` (R73). -/
  | triggerFire (n t : Nat)
  /-- EPOCH_TICK. The per-second epoch tick, at TAI ns `t` (R75). -/
  | epochTick (t : Nat)
  /-- PPS_OUT_RISE. A whole TAI second, at TAI ns `t` (R75). -/
  | ppsOutRise (t : Nat)
  /-- PPS_OUT_FALL. out_width_ms has passed since PPS_OUT rose, at TAI ns `t` (R75). -/
  | ppsOutFall (t : Nat)
  /-- CAPTURE_EDGE. An edge on a capture input at TAI ns `t` (R76). -/
  | captureEdge (input : Nat) (rising : Bool) (t frac : Nat)
  /-- CAP_NS_READ. A lane load of CAP_NS[n] (R76). -/
  | capNsRead (n : Nat)
  /-- CAP_POP. A lane write of CAP_POP[n] (R76). -/
  | capPop (n : Nat)
  /-- TBS_NOW_READ. A lane load of TBS_NOW_NS (R59). -/
  | tbsNowRead
  /-- INGRESS_FRAME. Stream ingress takes a C37.118.2 frame (R89). -/
  | ingressFrame (f : C37Frame)
  /-- TCP_SEGMENT_RX. The receive offload takes a TCP segment (R82). -/
  | tcpSegmentRx (g : TcpSeg)
  /-- TCP_ACK_TIMER. Received data of a connection has waited 5 ms, at TAI ns `t` (R82). -/
  | tcpAckTimer (conn t : Nat)
  /-- TCP_LANE_SEGMENT_TX. The lanes send a segment on an attached connection (R82). -/
  | tcpLaneSegmentTx (conn seq : Nat) (data : List Byte)
  /-- ING_INVALIDATE. ING_CMD INVALIDATE (R101). -/
  | ingInvalidate (index : Nat)
  /-- ING_ENABLE. ING_CMD ENABLE (R88). -/
  | ingEnable (index : Nat)
  /-- ING_DISABLE. ING_CMD DISABLE (R101). -/
  | ingDisable (index : Nat)
  /-- ING_FLUSH. ING_CMD FLUSH (R101). -/
  | ingFlush (index : Nat)
  /-- ING_CLEAR. ING_CMD CLEAR (R101). -/
  | ingClear (index : Nat)
  /-- MAP_SET. ING_CMD MAP_SET of the IDCODE in ING_CMD_ARG_LO (R85). -/
  | mapSet (index : Nat)
  /-- MAP_CLEAR. ING_CMD MAP_CLEAR of the IDCODE in ING_CMD_ARG_LO (R85). -/
  | mapClear
  /-- TCP_ATTACH. ING_CMD TCP_ATTACH of the descriptor at ING_CMD_ARG (R83). -/
  | tcpAttach
  /-- TCP_DETACH. ING_CMD TCP_DETACH of the connection in ING_CMD_ARG_LO (R101). -/
  | tcpDetach
  /-- MAP_QUERY. A lane write of ING_MAP_QUERY (R85). -/
  | mapQuery (v : W32)
  /-- ING_CTRL_WRITE. A lane write of ING_CTRL (R83). -/
  | ingCtrlWrite (v : W32)
  /-- SILENCE_SCAN. The 4 ms silence scan, at TAI ns `t` (R99). -/
  | silenceScan (t : Nat)
  /-- ING_WRITEBACK. A dirty state half is written back, at TAI ns `t` (R100). -/
  | ingWriteback (index t : Nat)
  /-- RECORD_PLACE. The alignment engine takes the head record of the ingress queue, or with `loc` of the Sieve queue, at TAI ns `t` (R115). -/
  | recordPlace (loc : Bool) (t : Nat)
  /-- SET_OPEN. The time counter reaches reporting instant `inst`, TAI ns, of group g (R112). -/
  | setOpen (g inst : Nat)
  /-- SET_EXPIRE. The window of group g's set of instant `inst` has run out at TAI ns `t` (R113). -/
  | setExpire (g inst t : Nat)
  /-- LATENCY_SAMPLE. window_max_ms has passed since instant `inst` of adaptive group g, at TAI ns `t` (R117). -/
  | latencySample (g inst t : Nat)
  /-- ALN_CTRL_WRITE. A lane write of ALN_CTRL (R113). -/
  | alnCtrlWrite (v : W32)
  /-- ALN_GRP_CTRL_WRITE. A lane write of ALN_GRP_CTRL[g] (R113). -/
  | alnGrpCtrlWrite (g : Nat) (v : W32)
  /-- CFG_ACK. A lane write of 1 to ALN_OUT_CTRL[n].cfg_ack (R125). -/
  | cfgAck (n : Nat)
  /-- NOTICE. Grid analytics takes the head notice of its queue at TAI ns `t` (R128). -/
  | notice (t : Nat)
  /-- TUNER_REPORT. The Tuner writes the report of a signal due at the last whole-second set, at TAI ns `t` (R140). -/
  | tunerReport (signal t : Nat)
  /-- PARAM_WRITE. A lane write of GAN_PARAM_DATA (R154). -/
  | paramWrite (v : W32)
  /-- RULE_ENABLE. A lane write of GAN_RULE_EN[word] (R150). -/
  | ruleEnable (word : Nat) (v : W32)
  /-- RULE_ACK. A lane write of GAN_RULE_ACK[word] (R150). -/
  | ruleAck (word : Nat) (v : W32)
  /-- GAN_SEL_LATCH. A lane write of a selection register of grid analytics (R154). -/
  | ganSelLatch (sel : GanSel) (v : W32)
  /-- GAN_CTRL_WRITE. A lane write of GAN_CTRL (R149). -/
  | ganCtrlWrite (v : W32)
  /-- CRIER_RECORD. The Crier takes the record at the head of its queue at TAI ns `t` (R156). -/
  | crierRecord (t : Nat)
  /-- ALARM_HEARTBEAT. alarm_hb_s has passed since the last heartbeat, at TAI ns `t` (R159). -/
  | alarmHeartbeat (t : Nat)
  /-- GOOSE_RETRANSMIT. The retransmission interval of GOOSE control block c has passed, at TAI ns `t` (R161). -/
  | gooseRetransmit (c t : Nat)
  /-- GCB_CTRL_WRITE. A lane write of CRY_GCB_CTRL[c] (R160). -/
  | gcbCtrlWrite (c : Nat) (v : W32)
  /-- ALARM_FAN_RX. A Brodsan message of type ALARM_FAN arrives (R170). -/
  | alarmFanRx (m : BrdMsg)
  /-- GOP_ANNOUNCE_RX. A Brodsan message of type BROADCAST, SNAPSHOT or RESET arrives (R173). -/
  | gopAnnounceRx (m : BrdMsg)
  /-- ABORT_RX. A Brodsan message of type ABORT arrives (R173). -/
  | abortRx (m : BrdMsg)
  /-- CONFIRM_RX. A Brodsan message of type CONFIRM arrives (R173). -/
  | confirmRx (m : BrdMsg)
  /-- BARRIER_ENTER_RX. A Brodsan message of type BARRIER_ENTER arrives (R175). -/
  | barrierEnterRx (m : BrdMsg)
  /-- BARRIER_RELEASE_RX. A Brodsan message of type BARRIER_RELEASE arrives (R175). -/
  | barrierReleaseRx (m : BrdMsg)
  /-- LIVENESS_RX. A Brodsan message of type LIVENESS arrives (R168). -/
  | livenessRx (m : BrdMsg)
  /-- LIVENESS_SEND. brd_hb_ms has passed since the last LIVENESS, at TAI ns `t` (R168). -/
  | livenessSend (t : Nat)
  /-- MODULE_DOWN. A module has been missed miss times or its bit is absent from the map, at TAI ns `t` (R168). -/
  | moduleDown (module t : Nat)
  /-- GOP_BROADCAST. CRY_GOP_CMD BROADCAST with its flags late_exec and lantern_level (R171). -/
  | gopBroadcast (late level : Bool)
  /-- GOP_SNAPSHOT. CRY_GOP_CMD SNAPSHOT (R171). -/
  | gopSnapshot (late : Bool)
  /-- GOP_RESET. CRY_GOP_CMD RESET with its kind in arg (R171). -/
  | gopReset (kind : Nat)
  /-- GOP_ENTER. CRY_GOP_CMD ENTER of a barrier number (R175). -/
  | gopEnter (late : Bool) (number : Nat)
  /-- GOP_ABORT. CRY_GOP_CMD ABORT of the operation whose op_id arg gives (R173). -/
  | gopAbort (op : Nat)
  /-- CONFIRM_DEADLINE. The confirmation deadline of operation (origin, op_id) passes at TAI ns `t` (R173). -/
  | confirmDeadline (origin op t : Nat)
  /-- BARRIER_TIMEOUT. CRY_BAR_TIMEOUT has passed for a barrier at its root, at TAI ns `t` (R175). -/
  | barrierTimeout (number t : Nat)
  /-- SYS_CFG_WRITE. A lane write of CRY_SYS_CFG (R166). -/
  | sysCfgWrite (v : W32)
  /-- ADC_FRAME. The frame of an ADC link ends (R180). -/
  | adcFrame (f : AdcFrame)
  /-- SV_FRAME. A frame of sampled values arrives (R182). -/
  | svFrame (f : SvFrame)
  /-- SV_PROCESS. The Sieve processes the instant of absolute sample count `n` (TAI second × rate + count) at TAI ns `t` (R183). -/
  | svProcess (n t : Nat)
  /-- PHASOR_REPORT. The window of reporting instant `inst` is full at TAI ns `t` (R194). -/
  | phasorReport (inst t : Nat)
  /-- SMP_SNAP. A lane write of SMP_SNAP (R190). -/
  | smpSnap
  /-- PEAK_READ. A lane load of SMP_CH_PEAK[c] (R190). -/
  | peakRead (c : Nat)
  /-- CH_CFG_WRITE. A lane write of SMP_CH_CFG[c] (R196). -/
  | chCfgWrite (c : Nat) (v : W32)
  /-- SMP_TEST_WRITE. A lane write of SMP_TEST (reg 0) or of SMP_TEST_SEL[reg - 1] (R188). -/
  | smpTestWrite (reg : Nat) (v : W32)
  /-- PHS_SET_WRITE. A lane write of SMP_PHS_SET[n] (R196). -/
  | phsSetWrite (n : Nat) (v : W32)
  /-- SMP_CTRL_WRITE. A lane write of SMP_CTRL (R188). -/
  | smpCtrlWrite (v : W32)
  /-- LINK_CFG_WRITE. A lane write of SMP_LINK_CFG[l] (R181). -/
  | linkCfgWrite (l : Nat) (v : W32)
  /-- FIELD_CYCLE_DONE. The light-field cycle that runs completes at TAI ns `t` (R220). -/
  | fieldCycleDone (t : Nat)
  /-- GRID_RESPONSE_CMD. The Lamplighter takes a grid-response command from its queue at TAI ns `t` (R213). -/
  | gridResponseCmd (t : Nat)
  /-- CONTACTOR_DEFERRED. min_switch_s has passed for drive k, whose change waits, at TAI ns `t` (R217). -/
  | contactorDeferred (k t : Nat)
  /-- LEVEL_ORDER. The Lamplighter takes a lantern-level order unit from its queue at TAI ns `t` (R219). -/
  | levelOrder (t : Nat)
  /-- ORDER_LOCAL_APPLY. The instant T of a lantern-level order is reached, at TAI ns `t` (R219). -/
  | orderLocalApply (t : Nat)
  /-- ASTRO_COMPUTE. Local midnight, at TAI ns `t` (R202). -/
  | astroCompute (t : Nat)
  /-- LOAD_ALL. LMP_CMD LOAD_ALL (R207). -/
  | loadAll
  /-- LOAD_ONE. LMP_CMD LOAD_ONE of a lantern index (R207). -/
  | loadOne (index : Nat)
  /-- GR_RELEASE. LMP_CMD GR_RELEASE of a response entry (R213). -/
  | grRelease (n : Nat)
  /-- STAGE_CLEAR. LMP_CMD STAGE_CLEAR (R213). -/
  | stageClear
  /-- SENSOR_EVENT. The Lamplighter takes a sensor event record from its queue at TAI ns `t` (R209). -/
  | sensorEvent (t : Nat)
  /-- LMP_INJECT. A lane write of LMP_INJECT[7] (R208). -/
  | lmpInject (v : W32)
  /-- GR_HOLD_EXPIRE. hold_s has passed since the last raise of response entry n, at TAI ns `t` (R213). -/
  | grHoldExpire (n t : Nat)
  /-- TRACK_EXPIRE. The age of track n exceeds track_max_s at TAI ns `t` (R212). -/
  | trackExpire (n t : Nat)
  /-- LMP_CTRL_WRITE. A lane write of LMP_CTRL (R213). -/
  | lmpCtrlWrite (v : W32)
  /-- BEACON_BOUNDARY. The comparator of radio r fires at its boundary B_n (R226). -/
  | beaconBoundary (r n : Nat)
  /-- SLOT_START. Slot k of radio r starts; `marks` are the cells of a roll-call slot and the power in dBm measured in them (R228, R242). -/
  | slotStart (r k : Nat) (marks : List (Nat × Int))
  /-- RADIO_FRAME_RX. A frame ends at a radio at TAI ns `t` (R241). -/
  | radioFrameRx (f : RadioFrame) (t : Nat)
  /-- IMM_ACK_RX. An Imm-Ack with a sequence number ends at radio r at TAI ns `t` (R236). -/
  | immAckRx (r seq t : Nat)
  /-- GRID_STATE_TAKE. The radio MAC takes a grid-state record from its queue at TAI ns `t` (R232). -/
  | gridStateTake (t : Nat)
  /-- ORDER_RECORD. The radio MAC takes an order record from its queue at TAI ns `t` (R234). -/
  | orderRecord (t : Nat)
  /-- RAD_INVALIDATE. RAD_CMD INVALIDATE of a global index (R251). -/
  | radInvalidate (g : Nat)
  /-- RAD_ENABLE. RAD_CMD ENABLE (R252). -/
  | radEnable (g : Nat)
  /-- RAD_DISABLE. RAD_CMD DISABLE (R252). -/
  | radDisable (g : Nat)
  /-- RAD_FLUSH. RAD_CMD FLUSH (R252). -/
  | radFlush (g : Nat)
  /-- RAD_CLEAR. RAD_CMD CLEAR (R252). -/
  | radClear (g : Nat)
  /-- RESET_CTR. RAD_CMD RESET_CTR (R252). -/
  | resetCtr (g : Nat)
  /-- WAKE. RAD_CMD WAKE (R252). -/
  | wake (g : Nat)
  /-- WAKE_ADDR. RAD_CMD WAKE_ADDR (R252). -/
  | wakeAddr
  /-- SCHED_CHANGED. RAD_CMD SCHED_CHANGED (R252). -/
  | schedChanged
  /-- WAKE_PATTERN_DONE. The wake pattern being sent ends at TAI ns `t` (R247). -/
  | wakePatternDone (t : Nat)
  /-- NODE_TIMEOUT. node_timeout_s is judged for a node at TAI ns `t` (R243). -/
  | nodeTimeout (g t : Nat)
  /-- RAD_WRITEBACK. The dirty state half of an entry is written back at TAI ns `t` (R251). -/
  | radWriteback (g t : Nat)
  /-- SCHED_TIMER. The programme-copy timer is judged at TAI ns `t` (R234). -/
  | schedTimer (t : Nat)
  /-- STORE. FLT_CMD STORE into a flash slot (R257). -/
  | store (slot : Nat)
  /-- STORE_DONE. The STORE that runs ends at TAI ns `t`, the flash having taken it or not (R257). -/
  | storeDone (flashOk : Bool) (t : Nat)
  /-- ERASE. FLT_CMD ERASE of a flash slot (R257). -/
  | erase (slot : Nat)
  /-- START. FLT_CMD START of a campaign with the image of a flash slot (R265). -/
  | start (slot : Nat)
  /-- STOP. FLT_CMD STOP (R265). -/
  | stop
  /-- ACTIVATE. FLT_CMD ACTIVATE of the image of a flash slot (R268). -/
  | activate (slot : Nat)
  /-- CANCEL_ACT. FLT_CMD CANCEL_ACT (R272). -/
  | cancelAct
  /-- PEDLAR_REPORT. The Pedlar takes a report record from its queue at TAI ns `t` (R269). -/
  | pedlarReport (t : Nat)
  /-- POLL_END. The end of the POLL phase is judged at TAI ns `t` (R265). -/
  | pollEnd (t : Nat)
  /-- CHANDLER_RECORD. The Chandler takes a level record from its queue at TAI ns `t` (R275). -/
  | chandlerRecord (t : Nat)
  /-- REC_TIMEOUT. rec_timeout_s is judged at TAI ns `t` (R276). -/
  | recTimeout (t : Nat)
  /-- TRIM_UPDATE. The 100 ms trim update of colour set c, with the rising edges of the sensors of its positions, at TAI ns `t` (R279). -/
  | trimUpdate (c : Nat) (edges : List Nat) (t : Nat)
  /-- CSET_TEMP_STALE. The age of LED_CSET_TEMP of colour set c is judged at TAI ns `t` (R279). -/
  | csetTempStale (c t : Nat)
  /-- STRING_FAULT. A fault of string n: 1 OC, 2 OPEN, 3 SHORT, 4 SENSE, at TAI ns `t` (R284). -/
  | stringFault (n cause t : Nat)
  /-- RETRY_EXPIRE. retry_s is judged for string n at TAI ns `t` (R283). -/
  | retryExpire (n t : Nat)
  /-- RETRY_COUNT_RESET. 60 s in RUN without a fault are judged for string n at TAI ns `t` (R283). -/
  | retryCountReset (n t : Nat)
  /-- SOFT_START_DONE. The end of the soft-start ramp of string n is judged at TAI ns `t` (R283). -/
  | softStartDone (n t : Nat)
  /-- LED_CLEAR. LED_CMD CLEAR of a string (R283). -/
  | ledClear (n : Nat)
  /-- CAL. LED_CMD CAL of a colour set (R280). -/
  | cal (c : Nat)
  /-- CAL_DONE. The CAL that runs ends at TAI ns `t`, with the frequencies in Hz its sensors gave per colour position, dark and at full drive (R280). -/
  | calDone (dark ref : List Nat) (t : Nat)
  /-- LED_LOAD. LED_CMD LOAD of a matrix port (R286). -/
  | ledLoad (p : Nat)
  /-- SHIFT_DONE. The shift of a matrix port ends at TAI ns `t` (R286). -/
  | shiftDone (p t : Nat)
  /-- FRAME_SYNC_EDGE. A rising edge of FRAME_SYNC[p] at TAI ns `t` (R286). -/
  | frameSyncEdge (p t : Nat)
  /-- CURVE_DATA_ACCESS. A lane read of LED_CURVE_DATA, or a write of a value (R277). -/
  | curveDataAccess (v : Option W32)
  /-- LED_CTRL_WRITE. A lane write of LED_CTRL (R283). -/
  | ledCtrlWrite (v : W32)
  /-- ASSAYER_RECORD. The Assayer takes a channel record from its queue at TAI ns `t` (R297). -/
  | assayerRecord (t : Nat)
  /-- PULSE_IN_EDGE. A filtered active edge of pulse input n at TAI ns `t` (R298). -/
  | pulseInEdge (n t : Nat)
  /-- PULSE_RATE_SECOND. The end of a TAI second for pulse input n, at TAI ns `t` (R299). -/
  | pulseRateSecond (n t : Nat)
  /-- POUT_PULSE_START. Pulse output o judged for the start of a pulse at TAI ns `t` (R300). -/
  | poutPulseStart (o t : Nat)
  /-- POUT_PULSE_END. Pulse output o judged for the end of its pulse at TAI ns `t` (R300). -/
  | poutPulseEnd (o t : Nat)
  /-- PERIODIC_SAVE. The periodic save judged at TAI ns `t` (R303). -/
  | periodicSave (t : Nat)
  /-- SAVE_NOW. MTR_CMD SAVE_NOW (R303). -/
  | saveNow
  /-- ACC_CLEAR. MTR_CMD CLEAR of an accumulator (R305). -/
  | accClear (a : Nat)
  /-- ACC_LO_READ. A lane read of MTR_ACC_LO[a] (R293). -/
  | accLoRead (a : Nat)
  /-- LEG_READ. A lane read of MTR_LEG[a] (R304). -/
  | legRead (a : Nat)
  /-- GAP_SEL_WRITE. A lane write of MTR_GAP_SEL (R302). -/
  | gapSelWrite (v : W32)
  /-- TC_DATA_ACCESS. A lane read of MTR_TC_DATA, or a write of a value (R296). -/
  | tcDataAccess (v : Option W32)
  /-- MTR_TEMP_STALE. The age of MTR_TEMP[src] is judged at TAI ns `t` (R296). -/
  | mtrTempStale (src t : Nat)
  /-- VOTER_REQUEST. The next outbound request of a hart in lanes A, B and C (none: not yet there), of the instruction word `insn` at `pc`, in machine mode or not, at TAI ns `t` (R311). -/
  | voterRequest (hart : Nat) (a b c : Option Req) (pc insn : Nat) (machine : Bool) (t : Nat)
  /-- VOTE_WINDOW_EXPIRE. The compare window of a hart's request ends at TAI ns `t` (R311). -/
  | voteWindowExpire (hart t : Nat)
  /-- LOCAL_FAULT. A lane's local fault on a hart, at TAI ns `t` (R311). -/
  | localFault (lane hart : Nat) (cause : LocalCause) (t : Nat)
  /-- SELFTEST_DONE. The self-test of the stopped lane ends at TAI ns `t` (R314). -/
  | selftestDone (pass : Bool) (t : Nat)
  /-- COPY_PASS_DONE. An L2 copy pass ends, having copied `lines` lines, at TAI ns `t` (R314). -/
  | copyPassDone (lines t : Nat)
  /-- RESYNC_RESTART. The pause ends and the lanes restart, at TAI ns `t` (R314). -/
  | resyncRestart (t : Nat)
  /-- DELIVERY_POINT. The running lanes reach the named delivery point of a hart; `skew` is their retired-instruction skew, at TAI ns `t` (R313). -/
  | deliveryPoint (hart skew : Nat) (t : Nat)
  /-- LNV_RESYNC. LNV_CMD RESYNC of a lane at TAI ns `t` (R316). -/
  | lnvResync (lane t : Nat)
  /-- INJECT. LNV_CMD INJECT for a lane (R463). -/
  | inject (lane : Nat)
  /-- SCRUB_PASS. A scrubber completes a pass over a region: 0 DRAM, 1 SRAM, 2 Larder, at TAI ns `t` (R326). -/
  | scrubPass (region t : Nat)
  /-- MEMORY_ERROR. A memory error at an address is reported for a requester class and block, uncorrectable where `bad`, at TAI ns `t` (R327). -/
  | memoryError (addr cls block : Nat) (bad : Bool) (t : Nat)
  /-- FL_READ. MEM_FL_CMD READ (R325). -/
  | flRead (partition : Nat)
  /-- FL_WRITE. MEM_FL_CMD WRITE (R325). -/
  | flWrite (partition : Nat)
  /-- FL_TRIM. MEM_FL_CMD TRIM (R325). -/
  | flTrim (partition : Nat)
  /-- FL_SYNC. MEM_FL_CMD SYNC (R325). -/
  | flSync (partition : Nat)
  /-- FL_CMD_DONE. The flash command ends, well or with a device error; the device reports its life used in %, at TAI ns `t` (R325). -/
  | flCmdDone (ok : Bool) (life : Nat) (t : Nat)
  /-- IRQ_EVENT_LATCH. The oldest raised block event reaches the staging store (R329). -/
  | irqEventLatch
  /-- IRQ_RECORD_WRITE. The interrupt block serves the ring of target `tgt`, group `grp` at TAI ns `t` (R332, R333). -/
  | irqRecordWrite (tgt grp t : Nat)
  /-- MODERATION_EXPIRE. mod_us has passed for target `tgt` at TAI ns `t` (R335). -/
  | moderationExpire (tgt t : Nat)
  /-- IRQ_PEND_WRITE. A lane write of IRQ_PEND[word] (R337). -/
  | irqPendWrite (word : Nat) (v : W32)
  /-- IRQ_MASK_WRITE. A lane write of IRQ_MASK[word] (R336). -/
  | irqMaskWrite (word : Nat) (v : W32)
  /-- IRQ_AMO. An atomic operation of the lanes on a device register (R338). -/
  | irqAmo (op : AmoOp) (addr : Nat) (v : W32)
  /-- RIDX_WRITE. A lane write of IRQ_RING_RIDX (R333, R334). -/
  | ridxWrite (tgt grp : Nat) (v : W32)
  /-- THRESH_WRITE. A lane write of IRQ_TGT_THRESH[tgt] (R334). -/
  | threshWrite (tgt : Nat) (v : W32)
  /-- QUEUE_FLUSH. QUE_CMD FLUSH of queue q (R345). -/
  | queueFlush (q : Nat)
  /-- FLUSH_BOUNDARY. The producer of queue q is between units while a flush waits (R345). -/
  | flushBoundary (q : Nat)
  /-- FLUSH_TIMEOUT. 1 ms has passed since a flush of q was asked for, at TAI ns `t` (R345). -/
  | flushTimeout (q t : Nat)
  /-- QUEUE_RESET. QUE_CMD RESET of queue q (R343). -/
  | queueReset (q : Nat)
  /-- PTR_MISMATCH. The pointer copies of queue q disagree (R343). -/
  | ptrMismatch (q : Nat)
  /-- QUEUE_WDATA. A lane store to QUE_Q_WDATA of queue q (R346). -/
  | queueWdata (q : Nat) (v : W32)
  /-- QUEUE_WEND. A lane store to QUE_Q_WEND of queue q (R346). -/
  | queueWend (q : Nat) (v : W32)
  /-- QUEUE_RDATA. A lane load of QUE_Q_RDATA of queue q (R346). -/
  | queueRdata (q : Nat)
  /-- QUEUE_HWM_READ. A lane load of QUE_Q_HWM of queue q (R342). -/
  | queueHwmRead (q : Nat)
  /-- QUEUE_SPACE. Space has appeared in queue q while a producer is held (R346). -/
  | queueSpace (q : Nat)
  /-- RTC_SECOND. The RTC's sub-second field wraps, at TAI ns `t` (R349). -/
  | rtcSecond (t : Nat)
  /-- RTC_TIME_READ. A lane read of RTC_TIME0 (k = 0), RTC_TIME1 (1) or RTC_DATE (2) (R350). -/
  | rtcTimeRead (k : Nat)
  /-- SHADOW_TIMEOUT. 1 s since the freeze of the shadows is judged at TAI ns `t` (R350). -/
  | shadowTimeout (t : Nat)
  /-- RTC_SET. A SET written to RTC_CMD takes effect at TAI ns `t` (R351). -/
  | rtcSet (t : Nat)
  /-- OSC_STOPPED. The Watchman's monitor has seen no CLK_AON edge for 4 ms, at TAI ns `t` (R352). -/
  | oscStopped (t : Nat)
  /-- OSC_STOPPED_CLEAR. A 1 written to RTC_EVENT.osc_stopped takes effect (R352). -/
  | oscStoppedClear
  /-- DISCIPLINE_COMPARE. The compare of the RTC with UTC at a whole TAI second, at TAI ns `t` (R353). -/
  | disciplineCompare (t : Nat)
  /-- AUTO_CAL. The end of 1,024 s of discipline is judged at TAI ns `t` (R354). -/
  | autoCal (t : Nat)
  /-- ALARM_WRITE. A write of RTC_ALM_TIME[a], or of RTC_ALM_DATE[a], takes effect (R356). -/
  | alarmWrite (a : Nat) (date : Bool) (v : W32)
  /-- ALARM_ARM. A write of RTC_ALM_CTRL[a] takes effect (R357). -/
  | alarmArm (a : Nat) (v : W32)
  /-- AON_WRITE_ARRIVAL. The oldest lane write on its way to a CLK_AON block takes effect at TAI ns `t` (R28). -/
  | aonWriteArrival (t : Nat)
  /-- KEY_LOAD. KEY_CMD LOAD of the blob at KEY_SRC into a slot (R369). -/
  | keyLoad (slot : Nat)
  /-- UNLOAD. KEY_CMD UNLOAD of a slot (R381). -/
  | unload (slot : Nat)
  /-- IMPORT. KEY_CMD IMPORT of the clear key at KEY_SRC for a target state, by a hart in machine mode or not (R370). -/
  | importKey (machine : Bool) (slot target : Nat)
  /-- EXPORT. KEY_CMD EXPORT of a slot's key under the kek aux (R371). -/
  | exportKey (machine : Bool) (slot aux : Nat)
  /-- REWRAP_NEXT. KEY_CMD REWRAP_NEXT of the blob at KEY_SRC for the stage aux (R371). -/
  | rewrapNext (machine : Bool) (aux : Nat)
  /-- CHALLENGE. KEY_CMD CHALLENGE (R374). -/
  | challenge
  /-- AUTHORISE. KEY_CMD AUTHORISE of the token at KEY_SRC (R374). -/
  | authorise
  /-- LC_CHANGE. KEY_CMD LC_CHANGE to a target state (R364). -/
  | lcChange (machine : Bool) (target : Nat)
  /-- CLEAR_TAMPER. KEY_CMD CLEAR_TAMPER (R377). -/
  | clearTamper (machine : Bool)
  /-- ANCHOR_WRITE. KEY_CMD ANCHOR_WRITE of an anchor table entry from KEY_SRC (R367). -/
  | anchorWrite (machine : Bool) (entry : Nat)
  /-- OP_HMAC. KEY_CMD OP_HMAC (R373). -/
  | opHmac (slot : Nat)
  /-- OP_GCM_ENC. KEY_CMD OP_GCM_ENC (R373). -/
  | opGcmEnc (slot : Nat)
  /-- OP_GCM_DEC. KEY_CMD OP_GCM_DEC (R373). -/
  | opGcmDec (slot : Nat)
  /-- OP_VERIFY. KEY_CMD OP_VERIFY (R373). -/
  | opVerify (slot : Nat)
  /-- TAMPER_SAMPLE. The tamper loops are sampled at TAI ns `t`: whether loops A and B read above 2 kΩ (R375). -/
  | tamperSample (a b : Bool) (t : Nat)
  /-- TAMPER_DETECT. A glitch (2), temperature (3) or clock (4) source fires at TAI ns `t` (R375). -/
  | tamperDetect (source t : Nat)
  /-- GRANT_EXPIRE. 300 s have passed since the grant, at TAI ns `t` (R374). -/
  | grantExpire (t : Nat)
  /-- SCRIVENER_RECORD. The Scrivener takes the oldest record of its input FIFO at TAI ns `t` (R405, R406). -/
  | scrivenerRecord (t : Nat)
  /-- LOST_RECORD_EMIT. 1 ms has passed without a loss, at TAI ns `t` (R405). -/
  | lostRecordEmit (t : Nat)
  /-- TOKEN_GAIN. The bucket of `code` gains a token at TAI ns `t` (R406). -/
  | tokenGain (code t : Nat)
  /-- SW_RECORD. A lane write of REC_SW_CODE[hart] (R407). -/
  | swRecord (hart : Nat) (v : W32)
  /-- RD_SEL. A lane write of REC_RD_SEL (R409). -/
  | rdSel (v : W32)
  /-- REC_CLEAR. REC_CMD CLEAR of a log (R410). -/
  | recClear (log : Nat)
  /-- RL_CFG_WRITE. A lane write of REC_RL_CFG for the code in REC_RL_SEL (R406). -/
  | rlCfgWrite (v : W32)
  /-- PRF_SNAPSHOT. PRF_CMD SNAPSHOT (R413). -/
  | prfSnapshot
  /-- CLEAR_SEL. PRF_CMD CLEAR_SEL of selected counter k (R412). -/
  | clearSel (k : Nat)
  /-- FREEZE. A lane write of PRF_CTRL.freeze at TAI ns `t` (R413). -/
  | freeze (isOn : Bool) (t : Nat)
  /-- SW_INC. A lane write of PRF_SW_INC (R411). -/
  | swInc (v : W32)
  /-- SMP_STAT_CLEAR. A lane write of PRF_SMP_STAT (R414). -/
  | smpStatClear
  /-- SMP_SEL_LATCH. A lane write of PRF_SMP_SEL (R414). -/
  | smpSelLatch (v : W32)
  /-- PRF_CNT_READ. A lane load of a Tallyman LO register (R413). -/
  | prfCntRead (addr : Nat)
  /-- DAILY_SAMPLE. The first moment in SERVING at or after 00:00:00 UTC, at TAI ns `t` (R418). -/
  | dailySample (t : Nat)
  /-- RESET_IND. HLT_CMD RESET_IND of the indicator in HLT_SEL (R419). -/
  | resetInd
  /-- HELLO_SEND. The heartbeat period ends at TAI ns `t` (R423). -/
  | helloSend (t : Nat)
  /-- HELLO_RX. A HELLO from the partner (R423, R425). -/
  | helloRx (m : BrdMsg)
  /-- PARTNER_LOST. No HELLO has come on either path for miss × hb_ms, at TAI ns `t` (R429). -/
  | partnerLost (t : Nat)
  /-- SEEK_TIMEOUT. No partner has been heard for seek_s, at TAI ns `t` (R425). -/
  | seekTimeout (t : Nat)
  /-- MIRROR_SEND. The next MIRROR message is due at TAI ns `t` (R426). -/
  | mirrorSend (t : Nat)
  /-- MACC_MIRROR. The accumulators are due for the standby at TAI ns `t` (R426). -/
  | maccMirror (t : Nat)
  /-- MIRROR_RX. A MIRROR from the partner (R426). -/
  | mirrorRx (m : BrdMsg)
  /-- MIRROR_ACK_RX. An ACK from the partner (R426). -/
  | mirrorAckRx (m : BrdMsg)
  /-- SYNC_REQ_RX. A SYNC_REQ from the partner (R426). -/
  | syncReqRx (m : BrdMsg)
  /-- FULL_COPY_DONE. The full copy completes at TAI ns `t` (R426). -/
  | fullCopyDone (t : Nat)
  /-- SYNC_DONE_RX. A SYNC_DONE from the partner (R425). -/
  | syncDoneRx (m : BrdMsg)
  /-- STOP_RX. A STOP from the partner (R429). -/
  | stopRx (m : BrdMsg)
  /-- SWAP_RX. A SWAP from the partner (R433). -/
  | swapRx (m : BrdMsg)
  /-- SWAP_INSTANT. The instant T of a swap comes at the standby (R433). -/
  | swapInstant (t : Nat)
  /-- SWAP_HANDOVER. T + 5 µs comes at the former active member (R433). -/
  | swapHandover (t : Nat)
  /-- DRILL_CHECK. T + 100 ms comes at the former active member (R433). -/
  | drillCheck (t : Nat)
  /-- DRILL_DUE. A drill falls due at TAI ns `t` (R433). -/
  | drillDue (t : Nat)
  /-- PTN_SWAP. PTN_CMD SWAP (R433). -/
  | ptnSwap
  /-- BLOB_SYNC. PTN_CMD BLOB_SYNC (R426). -/
  | blobSync
  /-- PTN_RESYNC. PTN_CMD RESYNC (R432). -/
  | ptnResync
  /-- TAKE. PTN_CMD TAKE (R429). -/
  | take
  /-- PTN_ENABLE_WRITE. A lane write of PTN_CTRL (R425). -/
  | ptnEnableWrite (v : W32)
  /-- OSCILLATOR_RESTART. CLK_AON starts again at TAI ns `t` (R352). -/
  | oscillatorRestart (t : Nat)
  /-- VBAK_LOST. VBAK leaves its limits, at TAI ns `t` (R444). -/
  | vbakLost (t : Nat)
  /-- PORT_LINK_CHANGE. A port's link, SFP+ presence, loss of signal or transmitter fault changes (R454). -/
  | portLinkChange (port : Nat) (up present los fault : Bool)
  /-- PAIR_PATH_LOST. No HELLO has come on one path for miss × hb_ms, at TAI ns `t`: the pair link or the host port (R432). -/
  | pairPathLost (link : Bool) (t : Nat)
  /-- HART_IDLE. Hart `hart` waits in WFI in every running lane (R335). -/
  | hartIdle (hart : Nat)
  /-- SLEEP_ENTRY_DONE. Sleep entry completes at TAI ns `t` (R398). -/
  | sleepEntryDone (t : Nat)
  /-- BLOB_SYNC_DONE. The mirroring of the key-blob region completes at TAI ns `t` (R426). -/
  | blobSyncDone (t : Nat)
  /-- GLIDE_UPDATE. The 1 ms update at TAI ns `t` (R275). -/
  | glideUpdate (t : Nat)
  /-- STRING_RUN_SECOND. String n has spent one more second in RUN, at TAI ns `t` (R417). -/
  | stringRunSecond (n t : Nat)
  deriving DecidableEq, Repr

end Sys2Proof
end

