-- ==== Sys2Proof/Decode.lean ====
section
/-! DEFINITION. The words of the opcode table: it gives no row any bits, so that no word spells a command. -/

namespace Sys2Proof

/-- The command that a word of the opcode table spells: none. -/
def decodeTableWord (_nbits _w : Nat) : Option Instr := none

end Sys2Proof
end

