-- ==== Sys2Proof/Config.lean ====
section
/-! DEFINITION. What one part fixes at manufacture and the values the spec leaves open: constants with no body, so that
no proof can see a value of them. -/

namespace Sys2Proof

/-- NET_BASE_MAC_LO and NET_BASE_MAC_HI: the base MAC address, fixed at manufacture (R465). -/
opaque Config.baseMacLo : W32
opaque Config.baseMacHi : W32

/-- The silicon issue of block `n` (R14). -/
opaque Config.siliconIssue : Nat → W32

/-- TBS_PORT_LAT[p] as calibrated at the factory. -/
opaque Config.portLat : Nat → W32

/-- KEY_UID[k], fixed at manufacture. -/
opaque Config.uid : Nat → W32

end Sys2Proof
end

