-- ==== Sys2Proof/Machine/Bits.lean ====
section
/-! DEFINITION. Bytes and numbers: little-endian structures in memory and big-endian fields on the network (R8), signed
readings, truncation and rounding (R460). -/

namespace Sys2Proof.Machine

/-- The number a little-endian byte string spells. -/
def leNat : List Byte → Nat
  | [] => 0
  | b :: t => b.toNat + 256 * leNat t

/-- The number a big-endian byte string spells. -/
def beNat (b : List Byte) : Nat := leNat b.reverse

/-- The `n` little-endian bytes of a number. -/
def leBytes : Nat → Nat → List Byte
  | 0, _ => []
  | n + 1, v => BitVec.ofNat 8 v :: leBytes n (v / 256)

/-- The `n` big-endian bytes of a number. -/
def beBytes (n v : Nat) : List Byte := (leBytes n v).reverse

/-- The `n` bytes of a string from position `at_`. -/
def cut (b : List Byte) (at_ n : Nat) : List Byte := (b.drop at_).take n

/-- A little-endian field of a byte string. -/
def le (b : List Byte) (at_ n : Nat) : Nat := leNat (cut b at_ n)

/-- A big-endian field of a byte string. -/
def be (b : List Byte) (at_ n : Nat) : Nat := beNat (cut b at_ n)

/-- Bits hi to lo of a number. -/
def bits (n hi lo : Nat) : Nat := (n / 2 ^ lo) % 2 ^ (hi + 1 - lo)

/-- Bit i of a number. -/
def tst (n i : Nat) : Bool := (n / 2 ^ i) % 2 == 1

/-- The signed reading of the low `w` bits of a number. -/
def sgn (w n : Nat) : Int :=
  let m := n % 2 ^ w
  if m < 2 ^ (w - 1) then (m : Int) else (m : Int) - (2 ^ w : Nat)

/-- The `w`-bit two's complement of an integer. -/
def unsgn (w : Nat) (i : Int) : Nat := (i % ((2 ^ w : Nat) : Int)).toNat

/-- Quotient rounded up. -/
def ceilDiv (a b : Nat) : Nat := (a + b - 1) / b

/-- Quotient rounded to nearest, halves away from zero (R460). -/
def roundDiv (a : Int) (b : Nat) : Int :=
  if 0 ≤ a then (2 * a + b) / (2 * b : Nat) else -((2 * (-a) + b) / (2 * b : Nat))

/-- The largest r with r² ≤ n, found from bit `k` down. -/
def isqrtFrom (n : Nat) : Nat → Nat → Nat
  | 0, r => r
  | k + 1, r => let c := r + 2 ^ k; isqrtFrom n k (if c * c ≤ n then c else r)

def isqrt (n : Nat) : Nat := isqrtFrom n (Nat.log2 n / 2 + 1) 0

/-- A value kept within bounds. -/
def clip (lo hi x : Int) : Int := if x < lo then lo else if hi < x then hi else x

/-- Zero padding to a length. -/
def padTo (n : Nat) (b : List Byte) : List Byte := b ++ List.replicate (n - b.length) 0

/-- Whether every byte is 0. -/
def allZero (b : List Byte) : Bool := b.all (fun x => x == 0)

/-- The CRC-32 of the IEEE 802.3 polynomial (R34): one bit, one byte, a string. -/
def crc32Bit (c : Nat) : Nat := if c % 2 = 1 then (c / 2) ^^^ 0xEDB88320 else c / 2

def crc32Byte (c : Nat) (b : Byte) : Nat :=
  let x := c ^^^ b.toNat
  crc32Bit (crc32Bit (crc32Bit (crc32Bit (crc32Bit (crc32Bit (crc32Bit (crc32Bit x)))))))

def crc32 (b : List Byte) : Nat := (b.foldl crc32Byte 0xFFFFFFFF) ^^^ 0xFFFFFFFF

/-- The CRC-16 of polynomial 0x1021 with a starting value, most significant bit first. -/
def crc16Bit (c : Nat) : Nat :=
  if c < 0x8000 then c * 2 else ((c * 2) ^^^ 0x1021) % 0x10000

def crc16Byte (c : Nat) (b : Byte) : Nat :=
  let x := c ^^^ (b.toNat * 256)
  crc16Bit (crc16Bit (crc16Bit (crc16Bit (crc16Bit (crc16Bit (crc16Bit (crc16Bit x)))))))

def crc16 (init : Nat) (b : List Byte) : Nat := b.foldl crc16Byte init

/-- The list with element `i` replaced. -/
def setAt {α : Type} (l : List α) (i : Nat) (v : α) : List α := l.set i v

/-- The first `n` whole numbers. -/
abbrev upTo (n : Nat) : List Nat := List.range n

end Sys2Proof.Machine
end

