-- ==== Sys2Proof/Machine/Float.lean ====
section
/-! DEFINITION. Single-precision values as words: exact readings and comparisons, and the word of a number. The manual
names float32 and states no rounding, so the word of a number that float32 cannot hold exactly is a free value; so are
square roots, angles and the other functions of floats. -/

namespace Sys2Proof

/-- The float32 of the number n / d where it is not exact. -/
opaque Config.f32Round : Int → Nat → W32
/-- The float32 of the square root of n / d where it is not exact. -/
opaque Config.f32Sqrt : Nat → Nat → W32
/-- The float32 of atan2(y, x) for integers. -/
opaque Config.f32Atan2 : Int → Int → W32
/-- Sum, product, quotient, magnitude and angle of float32 values. -/
opaque Config.f32Hypot : W32 → W32 → W32
opaque Config.f32Angle : W32 → W32 → W32
/-- The float32 of the angle n / d rad brought into (-π, π]. -/
opaque Config.f32Wrap : Int → Nat → W32
opaque Config.f32Add : W32 → W32 → W32
opaque Config.f32Mul : W32 → W32 → W32
opaque Config.f32Div : W32 → W32 → W32
/-- The result of a filter or a detector over values that are not all finite. -/
opaque Config.f32Odd : List W32 → W32

end Sys2Proof

namespace Sys2Proof.Machine

def f32Exp (b : W32) : Nat := bits b.toNat 30 23
def f32Man (b : W32) : Nat := b.toNat % 2 ^ 23
def f32Neg (b : W32) : Bool := tst b.toNat 31
def f32NaN (b : W32) : Bool := f32Exp b == 255 && f32Man b != 0
def f32Inf (b : W32) : Bool := f32Exp b == 255 && f32Man b == 0
def f32Finite (b : W32) : Bool := f32Exp b != 255

/-- The quiet NaN this model uses where a value is to read NaN. -/
def f32QNaN : W32 := 0x7FC00000

/-- A finite value exactly: numerator over a power of two. -/
def f32Num (b : W32) : Int :=
  let m := if f32Exp b = 0 then f32Man b else 2 ^ 23 + f32Man b
  let e := max 1 (f32Exp b)
  let n := m * 2 ^ (e - 150)
  if f32Neg b then -(n : Int) else n
def f32Den (b : W32) : Nat := 2 ^ (150 - max 1 (f32Exp b))

/-- Comparison of finite values, and of a value with the number n / d. -/
def f32Lt (a b : W32) : Bool := decide (f32Num a * f32Den b < f32Num b * f32Den a)
def f32Le (a b : W32) : Bool := decide (f32Num a * f32Den b ≤ f32Num b * f32Den a)
def f32GtRat (a : W32) (n : Int) (d : Nat) : Bool := decide (n * f32Den a < f32Num a * d)
def f32Zero (a : W32) : Bool := a.toNat % 2 ^ 31 == 0
def f32Abs (a : W32) : W32 := a &&& 0x7FFFFFFF
def f32Minus (a : W32) : W32 := a ^^^ 0x80000000

/-- The word of n / d where float32 holds it exactly. -/
def f32Exact (n : Int) (d : Nat) : Option W32 :=
  let g := Nat.gcd n.natAbs d
  if d = 0 then none
  else if n = 0 then some 0
  else
    let a := n.natAbs / g
    let q := d / g
    let z := Nat.gcd a (2 ^ 200)
    let odd := a / z
    if 2 ^ Nat.log2 q ≠ q ∨ 2 ^ 24 ≤ odd then none
    else
      let e : Int := (Nat.log2 z : Int) - Nat.log2 q
      let len := Nat.log2 odd + 1
      let top : Int := e + len - 1
      let sign : Nat := if n < 0 then 2 ^ 31 else 0
      if 127 < top then none
      else if -126 ≤ top then
        some (BitVec.ofNat 32 (sign + (top + 127).toNat * 2 ^ 23 + (odd * 2 ^ (24 - len) - 2 ^ 23)))
      else if -149 ≤ e then some (BitVec.ofNat 32 (sign + odd * 2 ^ (e + 149).toNat))
      else none

/-- The word of the number n / d. -/
def f32Rat (n : Int) (d : Nat) : W32 := (f32Exact n d).getD (Config.f32Round n d)

/-- The word of the square root of n / d. -/
def f32Root (n d : Nat) : W32 :=
  let g := max 1 (Nat.gcd n d)
  let a := isqrt (n / g)
  let b := isqrt (d / g)
  if a * a = n / g ∧ b * b = d / g then f32Rat a b else Config.f32Sqrt (n / g) (d / g)

/-- Whether a word is an angle within (-π, π]: π lies between 0x40490FDA and the next float32. -/
def f32InPi (a : W32) : Bool := decide ((f32Abs a).toNat ≤ 0x40490FDA)

/-- The sum of products of pairs of finite values, as n / d. -/
def dotWords : List (W32 × W32) → Int × Nat
  | [] => (0, 1)
  | (a, b) :: t =>
    let (n, d) := dotWords t
    (n * (f32Den a * f32Den b : Nat) + f32Num a * f32Num b * (d : Nat), d * (f32Den a * f32Den b))

/-- A linear-phase FIR of `order` + 1 taps over samples, newest first: taps at equal distances from the two ends are the
same; samples that are missing count as 0. -/
def firWord (tap : Nat → W32) (order : Nat) (xs : List W32) : W32 :=
  if xs.all f32Finite then
    let s := dotWords ((upTo (order + 1)).map (fun j => (tap (min j (order - j)), xs.getD j 0)))
    f32Rat s.1 s.2
  else Config.f32Odd xs

/-- A finite value rounded to the nearest integer, halves away from zero (R460). -/
def f32RoundInt (a : W32) : Int := roundDiv (f32Num a) (f32Den a)

end Sys2Proof.Machine
end

