-- ==== Sys2Proof/Machine/Pattern.lean ====
section
/-! DEFINITION. A pattern as the loader holds it: the header, clock plan, tile map, queue map, table geometry and pin map
taken apart (R33 to R40), the items of the engines' sections as their bytes, and the pattern's own bytes. -/

namespace Sys2Proof.Machine

/-- A tile map item (R37) with its image. -/
structure TileItem where
  tile : Nat
  engine : Nat
  weave : Nat
  image : List Byte
  deriving DecidableEq, Repr

/-- A queue map item (R38). -/
structure QItem where
  queue : Nat
  producer : Nat
  consumer : Nat
  cutThrough : Bool
  size : Nat
  maxUnit : Nat
  ctThreshold : Nat
  deriving DecidableEq, Repr

/-- A pin map item (R40). -/
structure PinItem where
  pin : Nat
  func : Nat
  flags : Nat
  deriving DecidableEq, Repr

structure Pattern where
  factory : Bool
  serial : Nat
  compact : Bool
  domains : Nat
  tbSources : Nat
  smpRate : Nat
  smpChannels : Nat
  tiles : List TileItem
  queues : List QItem
  streamEntries : Nat
  lanterns : List Nat
  c37Udp : Nat
  c37Tcp : Nat
  streamBase : Nat
  lanternBase : Nat
  alignBase : Nat
  alignSize : Nat
  /-- Items of sections 0x0005 to 0x0009; none where the section is absent. -/
  groups : Option (List (List Byte))
  wiring : Option (List (List Byte))
  rules : Option (List (List Byte))
  radios : Option (List (List Byte))
  leds : Option (List (List Byte))
  pins : List PinItem
  /-- The pattern's bytes, for COMMIT and the measurement (R50, R55). -/
  raw : List Byte
  deriving DecidableEq, Repr

/-- The pins that the factory pattern gives the safe state (R58, R451): pulse outputs, contactor drives, LED gates, matrix
pins and ADC link pins. -/
def safePins : List PinItem :=
  ((List.range 0xD8).filter (fun i => (decide (0x60 ≤ i) && decide (i < 0x98)) || (decide (0xA0 ≤ i) && decide (i < 0xBC))
    || decide (0xC0 ≤ i))).map (fun i => ⟨i, 5, 0⟩)

/-- The factory pattern (R58). Its one queue leads from the switch's host port to the lanes (R17); that it is queue 0 of
the smallest legal size is a DESIGN CHOICE. -/
def Pattern.factoryPattern : Pattern :=
  { factory := true, serial := 0, compact := false, domains := 0x1FF, tbSources := 0, smpRate := 0, smpChannels := 0,
    tiles := [], queues := [⟨0, 0xF1, 0xF0, false, 18112, 9018, 0⟩], streamEntries := 0, lanterns := [0, 0, 0, 0],
    c37Udp := 0, c37Tcp := 0, streamBase := 0, lanternBase := 0, alignBase := 0, alignSize := 0,
    groups := none, wiring := none, rules := none, radios := none, leds := none, pins := safePins, raw := [] }

/-- Whether an engine holds tiles (R461): 1 alignment, 2 monitors and rules, 3 Tuner, 4 Surveyor, 5 light field, 6 Sieve. -/
def Pattern.hasEngine (p : Pattern) (e : Nat) : Bool := p.tiles.any (fun t => t.engine == e)

/-- Whether the queue path from a producer to a consumer exists, and its item. -/
def Pattern.path (p : Pattern) (producer consumer : Nat) : Option QItem :=
  p.queues.find? (fun q => q.producer == producer && q.consumer == consumer)

end Sys2Proof.Machine
end

