-- ==== Sys2Proof/Machine/RegMap.lean ====
section
/-! DEFINITION. The register map: for every register table of the spec one row (address, array dimensions, the bits of
each access code of R5, the reset value and the bits a restore brings back, R7), and one name for every field.
An array index counts from 0 here (the entries of LMP_STAGE_CLS and LMP_GR0/LMP_GR1, which the manual numbers from 1,
are index - 1). -/

namespace Sys2Proof.Machine

/-- A field of a register: the register's address, its lowest bit and its width. -/
structure Fld where
  addr : Nat
  lo : Nat
  width : Nat
  deriving DecidableEq, Repr

/-- A register, or an array of registers (`dims`: count and stride, outermost first), with the access of its bits (R5). -/
structure RegDef where
  name : String
  addr : Nat
  dims : List (Nat × Nat)
  rw : W32
  w1c : W32
  rc : W32
  ro : W32
  reset : W32
  saved : W32
  deriving DecidableEq, Repr

/-! ## NET (R22-R24,R465) -/

abbrev NET_PORT_CTRL_enable (i : Nat) : Fld := ⟨0x40180000 + 0x4 * i, 0, 1⟩
abbrev NET_PORT_CTRL_tx_enable (i : Nat) : Fld := ⟨0x40180000 + 0x4 * i, 1, 1⟩
abbrev NET_PORT_CTRL_ptp_ts (i : Nat) : Fld := ⟨0x40180000 + 0x4 * i, 2, 1⟩
abbrev NET_PORT_CTRL_loopback (i : Nat) : Fld := ⟨0x40180000 + 0x4 * i, 3, 1⟩
abbrev NET_PORT_CTRL_pvid (i : Nat) : Fld := ⟨0x40180000 + 0x4 * i, 4, 12⟩
abbrev NET_PORT_CTRL_default_pcp (i : Nat) : Fld := ⟨0x40180000 + 0x4 * i, 16, 3⟩
abbrev NET_PORT_STAT_link_up (i : Nat) : Fld := ⟨0x40180020 + 0x4 * i, 0, 1⟩
abbrev NET_PORT_STAT_present (i : Nat) : Fld := ⟨0x40180020 + 0x4 * i, 1, 1⟩
abbrev NET_PORT_STAT_rx_los (i : Nat) : Fld := ⟨0x40180020 + 0x4 * i, 2, 1⟩
abbrev NET_PORT_STAT_tx_fault (i : Nat) : Fld := ⟨0x40180020 + 0x4 * i, 3, 1⟩
abbrev NET_PORT_STAT_speed (i : Nat) : Fld := ⟨0x40180020 + 0x4 * i, 4, 2⟩
abbrev NET_DROP_CNT_v (i : Nat) : Fld := ⟨0x40180040 + 0x4 * i, 0, 32⟩
abbrev NET_BASE_MAC_LO_v : Fld := ⟨0x40180060, 0, 32⟩
abbrev NET_BASE_MAC_HI_v : Fld := ⟨0x40180064, 0, 16⟩

/-- The registers of NET. -/
def regsNET : List RegDef := [
  ⟨"NET_PORT_CTRL", 0x40180000, [(6, 0x4)], 0x0007FFFF, 0x00000000, 0x00000000, 0x00000000, 0x00000014, 0x0007FFF7⟩,
  ⟨"NET_PORT_STAT", 0x40180020, [(6, 0x4)], 0x00000000, 0x00000000, 0x00000000, 0x0000003F, 0x00000000, 0x00000000⟩,
  ⟨"NET_DROP_CNT", 0x40180040, [(5, 0x4)], 0x00000000, 0x00000000, 0xFFFFFFFF, 0x00000000, 0x00000000, 0x00000000⟩,
  ⟨"NET_BASE_MAC_LO", 0x40180060, [], 0x00000000, 0x00000000, 0x00000000, 0xFFFFFFFF, 0x00000000, 0x00000000⟩,
  ⟨"NET_BASE_MAC_HI", 0x40180064, [], 0x00000000, 0x00000000, 0x00000000, 0x0000FFFF, 0x00000000, 0x00000000⟩]

/-! ## PAT (R51-R58) -/

abbrev PAT_CMD_cmd : Fld := ⟨0x40010000, 0, 4⟩
abbrev PAT_STATUS_state : Fld := ⟨0x40010004, 0, 3⟩
abbrev PAT_STATUS_factory : Fld := ⟨0x40010004, 3, 1⟩
abbrev PAT_STATUS_compact : Fld := ⟨0x40010004, 4, 1⟩
abbrev PAT_STATUS_error : Fld := ⟨0x40010004, 8, 8⟩
abbrev PAT_SRC_LO_v : Fld := ⟨0x40010008, 0, 32⟩
abbrev PAT_SRC_HI_v : Fld := ⟨0x4001000C, 0, 32⟩
abbrev PAT_SRC_LEN_v : Fld := ⟨0x40010010, 0, 32⟩
abbrev PAT_BARRIER_NS_v : Fld := ⟨0x40010014, 0, 32⟩
abbrev PAT_BARRIER_SEC_LO_v : Fld := ⟨0x40010018, 0, 32⟩
abbrev PAT_BARRIER_SEC_HI_v : Fld := ⟨0x4001001C, 0, 16⟩
abbrev PAT_ACTIVE_SERIAL_v : Fld := ⟨0x40010020, 0, 32⟩
abbrev PAT_MIN_SERIAL_v : Fld := ⟨0x40010024, 0, 32⟩
abbrev PAT_TRIAL_TIMEOUT_seconds : Fld := ⟨0x40010028, 0, 16⟩
abbrev PAT_ERR_INFO_offset : Fld := ⟨0x4001002C, 0, 24⟩
abbrev PAT_ERR_INFO_section : Fld := ⟨0x4001002C, 24, 8⟩
abbrev PAT_EVENT_load_deferred : Fld := ⟨0x40010030, 0, 1⟩
abbrev PAT_EVENT_load_discarded : Fld := ⟨0x40010030, 1, 1⟩
abbrev PAT_EVENT_reverted : Fld := ⟨0x40010030, 2, 1⟩
abbrev PAT_EVENT_committed : Fld := ⟨0x40010030, 3, 1⟩
abbrev PAT_EVENT_restore_failed : Fld := ⟨0x40010030, 4, 1⟩
abbrev PAT_MEASURE_v (i : Nat) : Fld := ⟨0x40010040 + 0x4 * i, 0, 32⟩

/-- The registers of PAT. -/
def regsPAT : List RegDef := [
  ⟨"PAT_CMD", 0x40010000, [], 0x00000000, 0x00000000, 0x00000000, 0x00000000, 0x00000000, 0x00000000⟩,
  ⟨"PAT_STATUS", 0x40010004, [], 0x00000000, 0x00000000, 0x00000000, 0x0000FF1F, 0x00000000, 0x00000000⟩,
  ⟨"PAT_SRC_LO", 0x40010008, [], 0xFFFFFFFF, 0x00000000, 0x00000000, 0x00000000, 0x00000000, 0x00000000⟩,
  ⟨"PAT_SRC_HI", 0x4001000C, [], 0xFFFFFFFF, 0x00000000, 0x00000000, 0x00000000, 0x00000000, 0x00000000⟩,
  ⟨"PAT_SRC_LEN", 0x40010010, [], 0xFFFFFFFF, 0x00000000, 0x00000000, 0x00000000, 0x00000000, 0x00000000⟩,
  ⟨"PAT_BARRIER_NS", 0x40010014, [], 0xFFFFFFFF, 0x00000000, 0x00000000, 0x00000000, 0x00000000, 0x00000000⟩,
  ⟨"PAT_BARRIER_SEC_LO", 0x40010018, [], 0xFFFFFFFF, 0x00000000, 0x00000000, 0x00000000, 0x00000000, 0x00000000⟩,
  ⟨"PAT_BARRIER_SEC_HI", 0x4001001C, [], 0x0000FFFF, 0x00000000, 0x00000000, 0x00000000, 0x00000000, 0x00000000⟩,
  ⟨"PAT_ACTIVE_SERIAL", 0x40010020, [], 0x00000000, 0x00000000, 0x00000000, 0xFFFFFFFF, 0x00000000, 0xFFFFFFFF⟩,
  ⟨"PAT_MIN_SERIAL", 0x40010024, [], 0xFFFFFFFF, 0x00000000, 0x00000000, 0x00000000, 0x00000000, 0xFFFFFFFF⟩,
  ⟨"PAT_TRIAL_TIMEOUT", 0x40010028, [], 0x0000FFFF, 0x00000000, 0x00000000, 0x00000000, 0x00000000, 0x0000FFFF⟩,
  ⟨"PAT_ERR_INFO", 0x4001002C, [], 0x00000000, 0x00000000, 0x00000000, 0xFFFFFFFF, 0x00000000, 0x00000000⟩,
  ⟨"PAT_EVENT", 0x40010030, [], 0x00000000, 0x0000001F, 0x00000000, 0x00000000, 0x00000000, 0x00000000⟩,
  ⟨"PAT_MEASURE", 0x40010040, [(12, 0x4)], 0x00000000, 0x00000000, 0x00000000, 0xFFFFFFFF, 0x00000000, 0x00000000⟩]

/-! ## TBS (R59-R78,R462) -/

abbrev TBS_CTRL_servo_enable : Fld := ⟨0x40020000, 0, 1⟩
abbrev TBS_CTRL_pps_select : Fld := ⟨0x40020000, 1, 1⟩
abbrev TBS_CTRL_pps_out_gate : Fld := ⟨0x40020000, 2, 1⟩
abbrev TBS_CTRL_tc_enable : Fld := ⟨0x40020000, 3, 1⟩
abbrev TBS_CTRL_ptp_role : Fld := ⟨0x40020000, 4, 2⟩
abbrev TBS_CTRL_profile : Fld := ⟨0x40020000, 6, 2⟩
abbrev TBS_CTRL_domain : Fld := ⟨0x40020000, 8, 8⟩
abbrev TBS_CTRL_slew_limit : Fld := ⟨0x40020000, 16, 9⟩
abbrev TBS_CTRL_pps_term : Fld := ⟨0x40020000, 25, 1⟩
abbrev TBS_STATUS_servo_state : Fld := ⟨0x40020004, 0, 2⟩
abbrev TBS_STATUS_phase_src : Fld := ⟨0x40020004, 2, 2⟩
abbrev TBS_STATUS_ref_in_use : Fld := ⟨0x40020004, 4, 1⟩
abbrev TBS_STATUS_startup_step_done : Fld := ⟨0x40020004, 5, 1⟩
abbrev TBS_STATUS_slewing : Fld := ⟨0x40020004, 6, 1⟩
abbrev TBS_NOW_NS_v : Fld := ⟨0x40020008, 0, 32⟩
abbrev TBS_NOW_SEC_LO_v : Fld := ⟨0x4002000C, 0, 32⟩
abbrev TBS_NOW_SEC_HI_v : Fld := ⟨0x40020010, 0, 32⟩
abbrev TBS_OFFSET_v : Fld := ⟨0x40020014, 0, 32⟩
abbrev TBS_ERR_EST_v : Fld := ⟨0x40020018, 0, 32⟩
abbrev TBS_QUALITY_tq_code : Fld := ⟨0x4002001C, 0, 4⟩
abbrev TBS_QUALITY_stat_tq : Fld := ⟨0x4002001C, 4, 3⟩
abbrev TBS_QUALITY_unsync : Fld := ⟨0x4002001C, 7, 1⟩
abbrev TBS_UTC_OFFSET_tai_utc : Fld := ⟨0x40020020, 0, 16⟩
abbrev TBS_UTC_OFFSET_leap_pending : Fld := ⟨0x40020020, 16, 1⟩
abbrev TBS_UTC_OFFSET_leap_dir : Fld := ⟨0x40020020, 17, 1⟩
abbrev TBS_UTC_OFFSET_leap_occurred : Fld := ⟨0x40020020, 18, 1⟩
abbrev TBS_LEAP_AT_LO_v : Fld := ⟨0x40020024, 0, 32⟩
abbrev TBS_LEAP_AT_HI_v : Fld := ⟨0x40020028, 0, 16⟩
abbrev TBS_STEP_SEC_v : Fld := ⟨0x4002002C, 0, 32⟩
abbrev TBS_STEP_NS_v : Fld := ⟨0x40020030, 0, 32⟩
abbrev TBS_CMD_cmd : Fld := ⟨0x40020034, 0, 4⟩
abbrev TBS_EVENT_locked : Fld := ⟨0x40020038, 0, 1⟩
abbrev TBS_EVENT_unlocked : Fld := ⟨0x40020038, 1, 1⟩
abbrev TBS_EVENT_holdover : Fld := ⟨0x40020038, 2, 1⟩
abbrev TBS_EVENT_stepped : Fld := ⟨0x40020038, 3, 1⟩
abbrev TBS_EVENT_src_lost : Fld := ⟨0x40020038, 4, 1⟩
abbrev TBS_EVENT_leap_done : Fld := ⟨0x40020038, 5, 1⟩
abbrev TBS_PTP_DS_priority1 : Fld := ⟨0x4002003C, 0, 8⟩
abbrev TBS_PTP_DS_priority2 : Fld := ⟨0x4002003C, 8, 8⟩
abbrev TBS_PTP_DS_log_sync : Fld := ⟨0x4002003C, 16, 4⟩
abbrev TBS_PTP_DS_log_announce : Fld := ⟨0x4002003C, 20, 4⟩
abbrev TBS_PORT_LAT_rx_lat (i : Nat) : Fld := ⟨0x40020040 + 0x4 * i, 0, 16⟩
abbrev TBS_PORT_LAT_tx_lat (i : Nat) : Fld := ⟨0x40020040 + 0x4 * i, 16, 16⟩
abbrev TBS_PPS_CFG_out_width_ms : Fld := ⟨0x40020060, 0, 10⟩
abbrev TBS_PPS_CFG_in_acc_ns : Fld := ⟨0x40020060, 10, 6⟩
abbrev TBS_PPS_CFG_in_delay_ns : Fld := ⟨0x40020060, 16, 16⟩
abbrev TBS_PTP_TAG_vid : Fld := ⟨0x40020064, 0, 12⟩
abbrev TBS_PTP_TAG_pcp : Fld := ⟨0x40020064, 12, 3⟩
abbrev TBS_PTP_TAG_tagged : Fld := ⟨0x40020064, 15, 1⟩
abbrev TRG_CTRL_arm (i : Nat) : Fld := ⟨0x40020100 + 0x20 * i, 0, 1⟩
abbrev TRG_CTRL_target (i : Nat) : Fld := ⟨0x40020100 + 0x20 * i, 4, 4⟩
abbrev TRG_CTRL_sel (i : Nat) : Fld := ⟨0x40020100 + 0x20 * i, 8, 4⟩
abbrev TRG_CTRL_fired (i : Nat) : Fld := ⟨0x40020100 + 0x20 * i, 16, 1⟩
abbrev TRG_CTRL_late (i : Nat) : Fld := ⟨0x40020100 + 0x20 * i, 17, 1⟩
abbrev TRG_CTRL_skipped (i : Nat) : Fld := ⟨0x40020100 + 0x20 * i, 18, 1⟩
abbrev TRG_NS_v (i : Nat) : Fld := ⟨0x40020104 + 0x20 * i, 0, 32⟩
abbrev TRG_SEC_LO_v (i : Nat) : Fld := ⟨0x40020108 + 0x20 * i, 0, 32⟩
abbrev TRG_SEC_HI_v (i : Nat) : Fld := ⟨0x4002010C + 0x20 * i, 0, 16⟩
abbrev TRG_PERIOD_v (i : Nat) : Fld := ⟨0x40020110 + 0x20 * i, 0, 32⟩
abbrev TRG_COUNT_v (i : Nat) : Fld := ⟨0x40020114 + 0x20 * i, 0, 32⟩
abbrev CAP_CTRL_enable (i : Nat) : Fld := ⟨0x40020400 + 0x20 * i, 0, 1⟩
abbrev CAP_CTRL_edge (i : Nat) : Fld := ⟨0x40020400 + 0x20 * i, 1, 2⟩
abbrev CAP_CTRL_input (i : Nat) : Fld := ⟨0x40020400 + 0x20 * i, 4, 7⟩
abbrev CAP_CTRL_count (i : Nat) : Fld := ⟨0x40020400 + 0x20 * i, 16, 3⟩
abbrev CAP_CTRL_overflow (i : Nat) : Fld := ⟨0x40020400 + 0x20 * i, 19, 1⟩
abbrev CAP_NS_v (i : Nat) : Fld := ⟨0x40020404 + 0x20 * i, 0, 32⟩
abbrev CAP_SEC_LO_v (i : Nat) : Fld := ⟨0x40020408 + 0x20 * i, 0, 32⟩
abbrev CAP_SEC_HI_v (i : Nat) : Fld := ⟨0x4002040C + 0x20 * i, 0, 32⟩
abbrev CAP_POP_v (i : Nat) : Fld := ⟨0x40020410 + 0x20 * i, 0, 32⟩

/-- The registers of TBS. -/
def regsTBS : List RegDef := [
  ⟨"TBS_CTRL", 0x40020000, [], 0x03FFFFFF, 0x00000000, 0x00000000, 0x00000000, 0x0032FE51, 0x03FFFFFF⟩,
  ⟨"TBS_STATUS", 0x40020004, [], 0x00000000, 0x00000000, 0x00000000, 0x0000007F, 0x00000000, 0x00000000⟩,
  ⟨"TBS_NOW_NS", 0x40020008, [], 0x00000000, 0x00000000, 0x00000000, 0xFFFFFFFF, 0x00000000, 0x00000000⟩,
  ⟨"TBS_NOW_SEC_LO", 0x4002000C, [], 0x00000000, 0x00000000, 0x00000000, 0xFFFFFFFF, 0x00000000, 0x00000000⟩,
  ⟨"TBS_NOW_SEC_HI", 0x40020010, [], 0x00000000, 0x00000000, 0x00000000, 0xFFFFFFFF, 0x00000000, 0x00000000⟩,
  ⟨"TBS_OFFSET", 0x40020014, [], 0x00000000, 0x00000000, 0x00000000, 0xFFFFFFFF, 0x00000000, 0x00000000⟩,
  ⟨"TBS_ERR_EST", 0x40020018, [], 0x00000000, 0x00000000, 0x00000000, 0xFFFFFFFF, 0xFFFFFFFF, 0x00000000⟩,
  ⟨"TBS_QUALITY", 0x4002001C, [], 0x00000000, 0x00000000, 0x00000000, 0x000000FF, 0x000000FF, 0x00000000⟩,
  ⟨"TBS_UTC_OFFSET", 0x40020020, [], 0x0003FFFF, 0x00000000, 0x00000000, 0x00040000, 0x00000000, 0x0003FFFF⟩,
  ⟨"TBS_LEAP_AT_LO", 0x40020024, [], 0xFFFFFFFF, 0x00000000, 0x00000000, 0x00000000, 0x00000000, 0xFFFFFFFF⟩,
  ⟨"TBS_LEAP_AT_HI", 0x40020028, [], 0x0000FFFF, 0x00000000, 0x00000000, 0x00000000, 0x00000000, 0x0000FFFF⟩,
  ⟨"TBS_STEP_SEC", 0x4002002C, [], 0xFFFFFFFF, 0x00000000, 0x00000000, 0x00000000, 0x00000000, 0x00000000⟩,
  ⟨"TBS_STEP_NS", 0x40020030, [], 0xFFFFFFFF, 0x00000000, 0x00000000, 0x00000000, 0x00000000, 0x00000000⟩,
  ⟨"TBS_CMD", 0x40020034, [], 0x00000000, 0x00000000, 0x00000000, 0x00000000, 0x00000000, 0x00000000⟩,
  ⟨"TBS_EVENT", 0x40020038, [], 0x00000000, 0x0000003F, 0x00000000, 0x00000000, 0x00000000, 0x00000000⟩,
  ⟨"TBS_PTP_DS", 0x4002003C, [], 0x00FFFFFF, 0x00000000, 0x00000000, 0x00000000, 0x00008080, 0x00FFFFFF⟩,
  ⟨"TBS_PORT_LAT", 0x40020040, [(6, 0x4)], 0xFFFFFFFF, 0x00000000, 0x00000000, 0x00000000, 0x00000000, 0xFFFFFFFF⟩,
  ⟨"TBS_PPS_CFG", 0x40020060, [], 0xFFFFFFFF, 0x00000000, 0x00000000, 0x00000000, 0x0000A064, 0xFFFFFFFF⟩,
  ⟨"TBS_PTP_TAG", 0x40020064, [], 0x0000FFFF, 0x00000000, 0x00000000, 0x00000000, 0x0000C000, 0x0000FFFF⟩,
  ⟨"TRG_CTRL", 0x40020100, [(16, 0x20)], 0x00000FF1, 0x00070000, 0x00000000, 0x00000000, 0x00000000, 0x00000FF1⟩,
  ⟨"TRG_NS", 0x40020104, [(16, 0x20)], 0xFFFFFFFF, 0x00000000, 0x00000000, 0x00000000, 0x00000000, 0xFFFFFFFF⟩,
  ⟨"TRG_SEC_LO", 0x40020108, [(16, 0x20)], 0xFFFFFFFF, 0x00000000, 0x00000000, 0x00000000, 0x00000000, 0xFFFFFFFF⟩,
  ⟨"TRG_SEC_HI", 0x4002010C, [(16, 0x20)], 0x0000FFFF, 0x00000000, 0x00000000, 0x00000000, 0x00000000, 0x0000FFFF⟩,
  ⟨"TRG_PERIOD", 0x40020110, [(16, 0x20)], 0xFFFFFFFF, 0x00000000, 0x00000000, 0x00000000, 0x00000000, 0xFFFFFFFF⟩,
  ⟨"TRG_COUNT", 0x40020114, [(16, 0x20)], 0x00000000, 0x00000000, 0x00000000, 0xFFFFFFFF, 0x00000000, 0x00000000⟩,
  ⟨"CAP_CTRL", 0x40020400, [(16, 0x20)], 0x000007F7, 0x00080000, 0x00000000, 0x00070000, 0x00000002, 0x000007F7⟩,
  ⟨"CAP_NS", 0x40020404, [(16, 0x20)], 0x00000000, 0x00000000, 0x00000000, 0xFFFFFFFF, 0x00000000, 0x00000000⟩,
  ⟨"CAP_SEC_LO", 0x40020408, [(16, 0x20)], 0x00000000, 0x00000000, 0x00000000, 0xFFFFFFFF, 0x00000000, 0x00000000⟩,
  ⟨"CAP_SEC_HI", 0x4002040C, [(16, 0x20)], 0x00000000, 0x00000000, 0x00000000, 0xFFFFFFFF, 0x00000000, 0x00000000⟩,
  ⟨"CAP_POP", 0x40020410, [(16, 0x20)], 0x00000000, 0x00000000, 0x00000000, 0x00000000, 0x00000000, 0x00000000⟩]

/-! ## ING (R79-R106) -/

abbrev ING_CTRL_enable : Fld := ⟨0x40050000, 0, 1⟩
abbrev ING_CTRL_range_enable : Fld := ⟨0x40050000, 1, 1⟩
abbrev ING_CTRL_tcp_enable : Fld := ⟨0x40050000, 2, 1⟩
abbrev ING_STATUS_entries : Fld := ⟨0x40050004, 0, 14⟩
abbrev ING_STATUS_time_unchecked : Fld := ⟨0x40050004, 14, 1⟩
abbrev ING_STATUS_cache_used : Fld := ⟨0x40050004, 16, 11⟩
abbrev ING_CMD_op : Fld := ⟨0x40050008, 0, 4⟩
abbrev ING_CMD_index : Fld := ⟨0x40050008, 16, 13⟩
abbrev ING_CMD_ARG_LO_v : Fld := ⟨0x4005000C, 0, 32⟩
abbrev ING_CMD_ARG_HI_v : Fld := ⟨0x40050010, 0, 32⟩
abbrev ING_CMD_STATUS_busy : Fld := ⟨0x40050014, 0, 1⟩
abbrev ING_CMD_STATUS_done : Fld := ⟨0x40050014, 1, 1⟩
abbrev ING_CMD_STATUS_result : Fld := ⟨0x40050014, 8, 8⟩
abbrev ING_EVENT_silent : Fld := ⟨0x40050018, 0, 1⟩
abbrev ING_EVENT_resumed : Fld := ⟨0x40050018, 1, 1⟩
abbrev ING_EVENT_cfg_change : Fld := ⟨0x40050018, 2, 1⟩
abbrev ING_EVENT_unknown : Fld := ⟨0x40050018, 3, 1⟩
abbrev ING_EVENT_tcp_detached : Fld := ⟨0x40050018, 4, 1⟩
abbrev ING_EVENT_entry_fault : Fld := ⟨0x40050018, 5, 1⟩
abbrev ING_SILENT_CNT_count : Fld := ⟨0x4005001C, 0, 14⟩
abbrev ING_UNKNOWN_LAST_idcode : Fld := ⟨0x40050020, 0, 16⟩
abbrev ING_MAP_QUERY_idcode : Fld := ⟨0x40050024, 0, 16⟩
abbrev ING_MAP_RESULT_index : Fld := ⟨0x40050028, 0, 13⟩
abbrev ING_MAP_RESULT_valid : Fld := ⟨0x40050028, 31, 1⟩
abbrev ING_TCP_OOO_CNT_v : Fld := ⟨0x4005002C, 0, 32⟩
abbrev ING_DROP_CNT_v (i : Nat) : Fld := ⟨0x40050040 + 0x4 * i, 0, 32⟩
abbrev ING_RANGE_CNT_v : Fld := ⟨0x40050080, 0, 32⟩

/-- The registers of ING. -/
def regsING : List RegDef := [
  ⟨"ING_CTRL", 0x40050000, [], 0x00000007, 0x00000000, 0x00000000, 0x00000000, 0x00000002, 0x00000007⟩,
  ⟨"ING_STATUS", 0x40050004, [], 0x00000000, 0x00000000, 0x00000000, 0x07FF7FFF, 0x00000000, 0x00000000⟩,
  ⟨"ING_CMD", 0x40050008, [], 0x00000000, 0x00000000, 0x00000000, 0x00000000, 0x00000000, 0x00000000⟩,
  ⟨"ING_CMD_ARG_LO", 0x4005000C, [], 0xFFFFFFFF, 0x00000000, 0x00000000, 0x00000000, 0x00000000, 0x00000000⟩,
  ⟨"ING_CMD_ARG_HI", 0x40050010, [], 0xFFFFFFFF, 0x00000000, 0x00000000, 0x00000000, 0x00000000, 0x00000000⟩,
  ⟨"ING_CMD_STATUS", 0x40050014, [], 0x00000000, 0x00000002, 0x00000000, 0x0000FF01, 0x00000000, 0x00000000⟩,
  ⟨"ING_EVENT", 0x40050018, [], 0x00000000, 0x0000003F, 0x00000000, 0x00000000, 0x00000000, 0x00000000⟩,
  ⟨"ING_SILENT_CNT", 0x4005001C, [], 0x00000000, 0x00000000, 0x00000000, 0x00003FFF, 0x00000000, 0x00000000⟩,
  ⟨"ING_UNKNOWN_LAST", 0x40050020, [], 0x00000000, 0x00000000, 0x00000000, 0x0000FFFF, 0x00000000, 0x00000000⟩,
  ⟨"ING_MAP_QUERY", 0x40050024, [], 0x0000FFFF, 0x00000000, 0x00000000, 0x00000000, 0x00000000, 0x00000000⟩,
  ⟨"ING_MAP_RESULT", 0x40050028, [], 0x00000000, 0x00000000, 0x00000000, 0x80001FFF, 0x00000000, 0x00000000⟩,
  ⟨"ING_TCP_OOO_CNT", 0x4005002C, [], 0x00000000, 0x00000000, 0xFFFFFFFF, 0x00000000, 0x00000000, 0x00000000⟩,
  ⟨"ING_DROP_CNT", 0x40050040, [(13, 0x4)], 0x00000000, 0x00000000, 0xFFFFFFFF, 0x00000000, 0x00000000, 0x00000000⟩,
  ⟨"ING_RANGE_CNT", 0x40050080, [], 0x00000000, 0x00000000, 0xFFFFFFFF, 0x00000000, 0x00000000, 0x00000000⟩]

/-! ## ALN (R107-R127) -/

abbrev ALN_CTRL_enable : Fld := ⟨0x40060000, 0, 1⟩
abbrev ALN_STATUS_groups : Fld := ⟨0x40060004, 0, 7⟩
abbrev ALN_STATUS_compact : Fld := ⟨0x40060004, 7, 1⟩
abbrev ALN_EVENT_over_members : Fld := ⟨0x40060008, 0, 1⟩
abbrev ALN_EVENT_late_full : Fld := ⟨0x40060008, 1, 1⟩
abbrev ALN_EVENT_early : Fld := ⟨0x40060008, 2, 1⟩
abbrev ALN_EVENT_gap : Fld := ⟨0x40060008, 3, 1⟩
abbrev ALN_EVENT_out_oversize : Fld := ⟨0x40060008, 4, 1⟩
abbrev ALN_EVENT_cfg_stale : Fld := ⟨0x40060008, 5, 1⟩
abbrev ALN_EVENT_window_clip : Fld := ⟨0x40060008, 6, 1⟩
abbrev ALN_LOCAL_CFG_enable : Fld := ⟨0x4006000C, 0, 1⟩
abbrev ALN_LOCAL_CFG_group : Fld := ⟨0x4006000C, 8, 6⟩
abbrev ALN_GRP_CTRL_run (i : Nat) : Fld := ⟨0x40061000 + 0x40 * i, 0, 1⟩
abbrev ALN_GRP_CTRL_irq_close (i : Nat) : Fld := ⟨0x40061000 + 0x40 * i, 1, 1⟩
abbrev ALN_GRP_CTRL_late_fwd (i : Nat) : Fld := ⟨0x40061000 + 0x40 * i, 2, 1⟩
abbrev ALN_GRP_STATUS_members (i : Nat) : Fld := ⟨0x40061004 + 0x40 * i, 0, 14⟩
abbrev ALN_GRP_STATUS_running (i : Nat) : Fld := ⟨0x40061004 + 0x40 * i, 14, 1⟩
abbrev ALN_GRP_STATUS_adaptive (i : Nat) : Fld := ⟨0x40061004 + 0x40 * i, 15, 1⟩
abbrev ALN_GRP_STATUS_window_cur_ms (i : Nat) : Fld := ⟨0x40061004 + 0x40 * i, 16, 16⟩
abbrev ALN_GRP_WIN_window_ms (i : Nat) : Fld := ⟨0x40061008 + 0x40 * i, 0, 16⟩
abbrev ALN_GRP_WIDX_slot (i : Nat) : Fld := ⟨0x4006100C + 0x40 * i, 0, 16⟩
abbrev ALN_GRP_SEQ_v (i : Nat) : Fld := ⟨0x40061010 + 0x40 * i, 0, 32⟩
abbrev ALN_GRP_INCOMPLETE_v (i : Nat) : Fld := ⟨0x40061014 + 0x40 * i, 0, 32⟩
abbrev ALN_GRP_LATE_v (i : Nat) : Fld := ⟨0x40061018 + 0x40 * i, 0, 32⟩
abbrev ALN_GRP_DUP_v (i : Nat) : Fld := ⟨0x4006101C + 0x40 * i, 0, 32⟩
abbrev ALN_GRP_STRAY_v (i : Nat) : Fld := ⟨0x40061020 + 0x40 * i, 0, 32⟩
abbrev ALN_GRP_EARLY_v (i : Nat) : Fld := ⟨0x40061024 + 0x40 * i, 0, 32⟩
abbrev ALN_GRP_LATE_DROP_v (i : Nat) : Fld := ⟨0x40061028 + 0x40 * i, 0, 32⟩
abbrev ALN_GRP_LATE_RIDX_index (i : Nat) : Fld := ⟨0x4006102C + 0x40 * i, 0, 16⟩
abbrev ALN_GRP_LATE_WIDX_index (i : Nat) : Fld := ⟨0x40061030 + 0x40 * i, 0, 16⟩
abbrev ALN_GRP_P999_k_ms (i : Nat) : Fld := ⟨0x40061034 + 0x40 * i, 0, 11⟩
abbrev ALN_GRP_P999_samples (i : Nat) : Fld := ⟨0x40061034 + 0x40 * i, 16, 13⟩
abbrev ALN_OUT_CTRL_enable (i : Nat) : Fld := ⟨0x40062000 + 0x20 * i, 0, 1⟩
abbrev ALN_OUT_CTRL_cfg_stale (i : Nat) : Fld := ⟨0x40062000 + 0x20 * i, 1, 1⟩
abbrev ALN_OUT_CTRL_cfg_ack (i : Nat) : Fld := ⟨0x40062000 + 0x20 * i, 2, 1⟩
abbrev ALN_OUT_CTRL_group (i : Nat) : Fld := ⟨0x40062000 + 0x20 * i, 8, 6⟩
abbrev ALN_OUT_CTRL_idcode (i : Nat) : Fld := ⟨0x40062000 + 0x20 * i, 16, 16⟩
abbrev ALN_OUT_DST_v (i : Nat) : Fld := ⟨0x40062004 + 0x20 * i, 0, 32⟩
abbrev ALN_OUT_SRC_v (i : Nat) : Fld := ⟨0x40062008 + 0x20 * i, 0, 32⟩
abbrev ALN_OUT_PORT_dst_port (i : Nat) : Fld := ⟨0x4006200C + 0x20 * i, 0, 16⟩
abbrev ALN_OUT_PORT_src_port (i : Nat) : Fld := ⟨0x4006200C + 0x20 * i, 16, 16⟩
abbrev ALN_OUT_MAC_LO_v (i : Nat) : Fld := ⟨0x40062010 + 0x20 * i, 0, 32⟩
abbrev ALN_OUT_MAC_HI_mac_hi (i : Nat) : Fld := ⟨0x40062014 + 0x20 * i, 0, 16⟩
abbrev ALN_OUT_MAC_HI_vid (i : Nat) : Fld := ⟨0x40062014 + 0x20 * i, 16, 12⟩
abbrev ALN_OUT_MAC_HI_pcp (i : Nat) : Fld := ⟨0x40062014 + 0x20 * i, 28, 3⟩
abbrev ALN_OUT_FRAMES_v (i : Nat) : Fld := ⟨0x40062018 + 0x20 * i, 0, 32⟩
abbrev ALN_OUT_OVERSIZE_v (i : Nat) : Fld := ⟨0x4006201C + 0x20 * i, 0, 32⟩

/-- The registers of ALN. -/
def regsALN : List RegDef := [
  ⟨"ALN_CTRL", 0x40060000, [], 0x00000001, 0x00000000, 0x00000000, 0x00000000, 0x00000000, 0x00000001⟩,
  ⟨"ALN_STATUS", 0x40060004, [], 0x00000000, 0x00000000, 0x00000000, 0x000000FF, 0x00000000, 0x00000000⟩,
  ⟨"ALN_EVENT", 0x40060008, [], 0x00000000, 0x0000007F, 0x00000000, 0x00000000, 0x00000000, 0x00000000⟩,
  ⟨"ALN_LOCAL_CFG", 0x4006000C, [], 0x00003F01, 0x00000000, 0x00000000, 0x00000000, 0x00000000, 0x00003F01⟩,
  ⟨"ALN_GRP_CTRL", 0x40061000, [(64, 0x40)], 0x00000007, 0x00000000, 0x00000000, 0x00000000, 0x00000000, 0x00000007⟩,
  ⟨"ALN_GRP_STATUS", 0x40061004, [(64, 0x40)], 0x00000000, 0x00000000, 0x00000000, 0xFFFFFFFF, 0x00000000, 0x00000000⟩,
  ⟨"ALN_GRP_WIN", 0x40061008, [(64, 0x40)], 0x0000FFFF, 0x00000000, 0x00000000, 0x00000000, 0x00000000, 0x0000FFFF⟩,
  ⟨"ALN_GRP_WIDX", 0x4006100C, [(64, 0x40)], 0x00000000, 0x00000000, 0x00000000, 0x0000FFFF, 0x00000000, 0x00000000⟩,
  ⟨"ALN_GRP_SEQ", 0x40061010, [(64, 0x40)], 0x00000000, 0x00000000, 0x00000000, 0xFFFFFFFF, 0x00000000, 0x00000000⟩,
  ⟨"ALN_GRP_INCOMPLETE", 0x40061014, [(64, 0x40)], 0x00000000, 0x00000000, 0xFFFFFFFF, 0x00000000, 0x00000000, 0x00000000⟩,
  ⟨"ALN_GRP_LATE", 0x40061018, [(64, 0x40)], 0x00000000, 0x00000000, 0xFFFFFFFF, 0x00000000, 0x00000000, 0x00000000⟩,
  ⟨"ALN_GRP_DUP", 0x4006101C, [(64, 0x40)], 0x00000000, 0x00000000, 0xFFFFFFFF, 0x00000000, 0x00000000, 0x00000000⟩,
  ⟨"ALN_GRP_STRAY", 0x40061020, [(64, 0x40)], 0x00000000, 0x00000000, 0xFFFFFFFF, 0x00000000, 0x00000000, 0x00000000⟩,
  ⟨"ALN_GRP_EARLY", 0x40061024, [(64, 0x40)], 0x00000000, 0x00000000, 0xFFFFFFFF, 0x00000000, 0x00000000, 0x00000000⟩,
  ⟨"ALN_GRP_LATE_DROP", 0x40061028, [(64, 0x40)], 0x00000000, 0x00000000, 0xFFFFFFFF, 0x00000000, 0x00000000, 0x00000000⟩,
  ⟨"ALN_GRP_LATE_RIDX", 0x4006102C, [(64, 0x40)], 0x0000FFFF, 0x00000000, 0x00000000, 0x00000000, 0x00000000, 0x00000000⟩,
  ⟨"ALN_GRP_LATE_WIDX", 0x40061030, [(64, 0x40)], 0x00000000, 0x00000000, 0x00000000, 0x0000FFFF, 0x00000000, 0x00000000⟩,
  ⟨"ALN_GRP_P999", 0x40061034, [(64, 0x40)], 0x00000000, 0x00000000, 0x00000000, 0x1FFF07FF, 0x00000000, 0x00000000⟩,
  ⟨"ALN_OUT_CTRL", 0x40062000, [(16, 0x20)], 0xFFFF3F01, 0x00000000, 0x00000000, 0x00000002, 0x00000000, 0xFFFF3F01⟩,
  ⟨"ALN_OUT_DST", 0x40062004, [(16, 0x20)], 0xFFFFFFFF, 0x00000000, 0x00000000, 0x00000000, 0x00000000, 0xFFFFFFFF⟩,
  ⟨"ALN_OUT_SRC", 0x40062008, [(16, 0x20)], 0xFFFFFFFF, 0x00000000, 0x00000000, 0x00000000, 0x00000000, 0xFFFFFFFF⟩,
  ⟨"ALN_OUT_PORT", 0x4006200C, [(16, 0x20)], 0xFFFFFFFF, 0x00000000, 0x00000000, 0x00000000, 0x12691269, 0xFFFFFFFF⟩,
  ⟨"ALN_OUT_MAC_LO", 0x40062010, [(16, 0x20)], 0xFFFFFFFF, 0x00000000, 0x00000000, 0x00000000, 0x00000000, 0xFFFFFFFF⟩,
  ⟨"ALN_OUT_MAC_HI", 0x40062014, [(16, 0x20)], 0x7FFFFFFF, 0x00000000, 0x00000000, 0x00000000, 0x00000000, 0x7FFFFFFF⟩,
  ⟨"ALN_OUT_FRAMES", 0x40062018, [(16, 0x20)], 0x00000000, 0x00000000, 0xFFFFFFFF, 0x00000000, 0x00000000, 0x00000000⟩,
  ⟨"ALN_OUT_OVERSIZE", 0x4006201C, [(16, 0x20)], 0x00000000, 0x00000000, 0xFFFFFFFF, 0x00000000, 0x00000000, 0x00000000⟩]

/-! ## GAN (R128-R155) -/

abbrev GAN_CTRL_enable : Fld := ⟨0x40070000, 0, 1⟩
abbrev GAN_CTRL_rules_enable : Fld := ⟨0x40070000, 1, 1⟩
abbrev GAN_CTRL_stale_ms : Fld := ⟨0x40070000, 16, 16⟩
abbrev GAN_STATUS_mon_present : Fld := ⟨0x40070004, 0, 1⟩
abbrev GAN_STATUS_tun_present : Fld := ⟨0x40070004, 1, 1⟩
abbrev GAN_STATUS_svy_present : Fld := ⟨0x40070004, 2, 1⟩
abbrev GAN_STATUS_rules : Fld := ⟨0x40070004, 16, 11⟩
abbrev GAN_EVENT_stale_term : Fld := ⟨0x40070008, 0, 1⟩
abbrev GAN_EVENT_tun_restart : Fld := ⟨0x40070008, 1, 1⟩
abbrev GAN_EVENT_svy_change : Fld := ⟨0x40070008, 2, 1⟩
abbrev GAN_EVENT_hit_wait : Fld := ⟨0x40070008, 3, 1⟩
abbrev GAN_SETS_CNT_v : Fld := ⟨0x4007000C, 0, 32⟩
abbrev GAN_PARAM_SEL_kind : Fld := ⟨0x40070010, 0, 4⟩
abbrev GAN_PARAM_SEL_word : Fld := ⟨0x40070010, 4, 2⟩
abbrev GAN_PARAM_SEL_number : Fld := ⟨0x40070010, 16, 16⟩
abbrev GAN_PARAM_DATA_v : Fld := ⟨0x40070014, 0, 32⟩
abbrev GAN_PARAM_STATUS_result : Fld := ⟨0x40070018, 0, 2⟩
abbrev GAN_RULE_EN_v (i : Nat) : Fld := ⟨0x40070100 + 0x4 * i, 0, 32⟩
abbrev GAN_RULE_ACTIVE_v (i : Nat) : Fld := ⟨0x40070180 + 0x4 * i, 0, 32⟩
abbrev GAN_RULE_ACK_v (i : Nat) : Fld := ⟨0x40070200 + 0x4 * i, 0, 32⟩
abbrev GAN_RULE_SEL_rule : Fld := ⟨0x40070280, 0, 10⟩
abbrev GAN_RULE_STATE_state : Fld := ⟨0x40070284, 0, 3⟩
abbrev GAN_RULE_STATE_enabled : Fld := ⟨0x40070284, 3, 1⟩
abbrev GAN_RULE_STATE_values : Fld := ⟨0x40070284, 4, 4⟩
abbrev GAN_RULE_STATE_stale : Fld := ⟨0x40070284, 8, 4⟩
abbrev GAN_RULE_STATE_count : Fld := ⟨0x40070284, 16, 16⟩
abbrev GAN_RULE_HITS_v : Fld := ⟨0x40070288, 0, 32⟩
abbrev GAN_TUN_BAND_EDGE_lo (i j : Nat) : Fld := ⟨0x40070400 + 0x80 * i + 0x10 * j, 0, 16⟩
abbrev GAN_TUN_BAND_EDGE_hi (i j : Nat) : Fld := ⟨0x40070400 + 0x80 * i + 0x10 * j, 16, 16⟩
abbrev GAN_TUN_BAND_THR_v (i j : Nat) : Fld := ⟨0x40070404 + 0x80 * i + 0x10 * j, 0, 32⟩
abbrev GAN_TUN_BAND_TAU_v (i j : Nat) : Fld := ⟨0x40070408 + 0x80 * i + 0x10 * j, 0, 16⟩
abbrev GAN_TUN_ZETA_MIN_v (i : Nat) : Fld := ⟨0x40070600 + 0x8 * i, 0, 32⟩
abbrev GAN_TUN_AMP_MIN_v (i : Nat) : Fld := ⟨0x40070604 + 0x8 * i, 0, 32⟩
abbrev GAN_TUN_SEL_signal : Fld := ⟨0x40070640, 0, 9⟩
abbrev GAN_TUN_INFO_modes : Fld := ⟨0x40070644, 0, 4⟩
abbrev GAN_TUN_INFO_modes_valid : Fld := ⟨0x40070644, 4, 1⟩
abbrev GAN_TUN_INFO_bands_valid : Fld := ⟨0x40070644, 5, 1⟩
abbrev GAN_TUN_INFO_report_seq : Fld := ⟨0x40070644, 16, 16⟩
abbrev GAN_TUN_RPT_NS_v : Fld := ⟨0x40070648, 0, 32⟩
abbrev GAN_TUN_RPT_SEC_LO_v : Fld := ⟨0x4007064C, 0, 32⟩
abbrev GAN_TUN_RPT_SEC_HI_v : Fld := ⟨0x40070650, 0, 16⟩
abbrev GAN_TUN_MODE_FREQ_v (i : Nat) : Fld := ⟨0x40070660 + 0x10 * i, 0, 32⟩
abbrev GAN_TUN_MODE_ZETA_v (i : Nat) : Fld := ⟨0x40070664 + 0x10 * i, 0, 32⟩
abbrev GAN_TUN_MODE_AMP_v (i : Nat) : Fld := ⟨0x40070668 + 0x10 * i, 0, 32⟩
abbrev GAN_TUN_MODE_PHASE_v (i : Nat) : Fld := ⟨0x4007066C + 0x10 * i, 0, 32⟩
abbrev GAN_TUN_ENERGY_v (i : Nat) : Fld := ⟨0x400706E0 + 0x4 * i, 0, 32⟩
abbrev GAN_SVY_CFG_pace_group : Fld := ⟨0x40070800, 0, 6⟩
abbrev GAN_SVY_CFG_ref_node : Fld := ⟨0x40070800, 16, 13⟩
abbrev GAN_SVY_TIMING_skew_ms : Fld := ⟨0x40070804, 0, 10⟩
abbrev GAN_SVY_TIMING_node_timeout_ms : Fld := ⟨0x40070804, 16, 16⟩
abbrev GAN_SVY_STATUS_components : Fld := ⟨0x40070808, 0, 14⟩
abbrev GAN_SVY_STATUS_valid : Fld := ⟨0x40070808, 14, 1⟩
abbrev GAN_SVY_STATUS_open_edges : Fld := ⟨0x40070808, 16, 16⟩
abbrev GAN_SVY_DIGEST_LO_v : Fld := ⟨0x4007080C, 0, 32⟩
abbrev GAN_SVY_DIGEST_HI_v : Fld := ⟨0x40070810, 0, 32⟩
abbrev GAN_SVY_SEQ_v : Fld := ⟨0x40070814, 0, 32⟩
abbrev GAN_SVY_CALC_NS_v : Fld := ⟨0x40070818, 0, 32⟩
abbrev GAN_SVY_NODE_SEL_index : Fld := ⟨0x40070820, 0, 15⟩
abbrev GAN_SVY_NODE_label : Fld := ⟨0x40070824, 0, 13⟩
abbrev GAN_SVY_NODE_separated : Fld := ⟨0x40070824, 16, 1⟩
abbrev GAN_SVY_NODE_stale : Fld := ⟨0x40070824, 17, 1⟩
abbrev GAN_SVY_EDGE_SEL_index : Fld := ⟨0x40070828, 0, 15⟩
abbrev GAN_SVY_EDGE_open : Fld := ⟨0x4007082C, 0, 1⟩
abbrev GAN_SVY_EDGE_by_status : Fld := ⟨0x4007082C, 1, 1⟩
abbrev GAN_SVY_EDGE_by_freq : Fld := ⟨0x4007082C, 2, 1⟩
abbrev GAN_SVY_EDGE_status_unknown : Fld := ⟨0x4007082C, 3, 1⟩
abbrev GAN_SVY_EDGE_freq_unknown : Fld := ⟨0x4007082C, 4, 1⟩
abbrev GAN_SVY_EDGE_cnt_over : Fld := ⟨0x4007082C, 8, 8⟩
abbrev GAN_SVY_EDGE_cnt_under : Fld := ⟨0x4007082C, 16, 8⟩
abbrev GAN_MON_SEL_kind : Fld := ⟨0x40070900, 0, 4⟩
abbrev GAN_MON_SEL_number : Fld := ⟨0x40070900, 16, 16⟩
abbrev GAN_MON_OUT_outputs : Fld := ⟨0x40070904, 0, 16⟩
abbrev GAN_MON_OUT_age_ms : Fld := ⟨0x40070904, 16, 16⟩
abbrev GAN_MON_VAL_v : Fld := ⟨0x40070908, 0, 32⟩
abbrev GAN_MON_RATE_v : Fld := ⟨0x4007090C, 0, 32⟩

/-- The registers of GAN. -/
def regsGAN_0 : List RegDef := [
  ⟨"GAN_CTRL", 0x40070000, [], 0xFFFF0003, 0x00000000, 0x00000000, 0x00000000, 0x00640002, 0xFFFF0003⟩,
  ⟨"GAN_STATUS", 0x40070004, [], 0x00000000, 0x00000000, 0x00000000, 0x07FF0007, 0x00000000, 0x00000000⟩,
  ⟨"GAN_EVENT", 0x40070008, [], 0x00000000, 0x0000000F, 0x00000000, 0x00000000, 0x00000000, 0x00000000⟩,
  ⟨"GAN_SETS_CNT", 0x4007000C, [], 0x00000000, 0x00000000, 0x00000000, 0xFFFFFFFF, 0x00000000, 0x00000000⟩,
  ⟨"GAN_PARAM_SEL", 0x40070010, [], 0xFFFF003F, 0x00000000, 0x00000000, 0x00000000, 0x00000000, 0x00000000⟩,
  ⟨"GAN_PARAM_DATA", 0x40070014, [], 0xFFFFFFFF, 0x00000000, 0x00000000, 0x00000000, 0x00000000, 0x00000000⟩,
  ⟨"GAN_PARAM_STATUS", 0x40070018, [], 0x00000000, 0x00000000, 0x00000000, 0x00000003, 0x00000000, 0x00000000⟩,
  ⟨"GAN_RULE_EN", 0x40070100, [(32, 0x4)], 0xFFFFFFFF, 0x00000000, 0x00000000, 0x00000000, 0x00000000, 0xFFFFFFFF⟩,
  ⟨"GAN_RULE_ACTIVE", 0x40070180, [(32, 0x4)], 0x00000000, 0x00000000, 0x00000000, 0xFFFFFFFF, 0x00000000, 0x00000000⟩,
  ⟨"GAN_RULE_ACK", 0x40070200, [(32, 0x4)], 0x00000000, 0x00000000, 0x00000000, 0x00000000, 0x00000000, 0x00000000⟩,
  ⟨"GAN_RULE_SEL", 0x40070280, [], 0x000003FF, 0x00000000, 0x00000000, 0x00000000, 0x00000000, 0x00000000⟩,
  ⟨"GAN_RULE_STATE", 0x40070284, [], 0x00000000, 0x00000000, 0x00000000, 0xFFFF0FFF, 0x00000000, 0x00000000⟩,
  ⟨"GAN_RULE_HITS", 0x40070288, [], 0x00000000, 0x00000000, 0x00000000, 0xFFFFFFFF, 0x00000000, 0x00000000⟩,
  ⟨"GAN_TUN_BAND_EDGE", 0x40070400, [(4, 0x80), (8, 0x10)], 0xFFFFFFFF, 0x00000000, 0x00000000, 0x00000000, 0x00000000, 0xFFFFFFFF⟩,
  ⟨"GAN_TUN_BAND_THR", 0x40070404, [(4, 0x80), (8, 0x10)], 0xFFFFFFFF, 0x00000000, 0x00000000, 0x00000000, 0x00000000, 0xFFFFFFFF⟩,
  ⟨"GAN_TUN_BAND_TAU", 0x40070408, [(4, 0x80), (8, 0x10)], 0x0000FFFF, 0x00000000, 0x00000000, 0x00000000, 0x00000000, 0x0000FFFF⟩,
  ⟨"GAN_TUN_ZETA_MIN", 0x40070600, [(4, 0x8)], 0xFFFFFFFF, 0x00000000, 0x00000000, 0x00000000, 0x3D4CCCCD, 0xFFFFFFFF⟩,
  ⟨"GAN_TUN_AMP_MIN", 0x40070604, [(4, 0x8)], 0xFFFFFFFF, 0x00000000, 0x00000000, 0x00000000, 0x00000000, 0xFFFFFFFF⟩,
  ⟨"GAN_TUN_SEL", 0x40070640, [], 0x000001FF, 0x00000000, 0x00000000, 0x00000000, 0x00000000, 0x00000000⟩,
  ⟨"GAN_TUN_INFO", 0x40070644, [], 0x00000000, 0x00000000, 0x00000000, 0xFFFF003F, 0x00000000, 0x00000000⟩,
  ⟨"GAN_TUN_RPT_NS", 0x40070648, [], 0x00000000, 0x00000000, 0x00000000, 0xFFFFFFFF, 0x00000000, 0x00000000⟩,
  ⟨"GAN_TUN_RPT_SEC_LO", 0x4007064C, [], 0x00000000, 0x00000000, 0x00000000, 0xFFFFFFFF, 0x00000000, 0x00000000⟩,
  ⟨"GAN_TUN_RPT_SEC_HI", 0x40070650, [], 0x00000000, 0x00000000, 0x00000000, 0x0000FFFF, 0x00000000, 0x00000000⟩,
  ⟨"GAN_TUN_MODE_FREQ", 0x40070660, [(8, 0x10)], 0x00000000, 0x00000000, 0x00000000, 0xFFFFFFFF, 0x00000000, 0x00000000⟩,
  ⟨"GAN_TUN_MODE_ZETA", 0x40070664, [(8, 0x10)], 0x00000000, 0x00000000, 0x00000000, 0xFFFFFFFF, 0x00000000, 0x00000000⟩,
  ⟨"GAN_TUN_MODE_AMP", 0x40070668, [(8, 0x10)], 0x00000000, 0x00000000, 0x00000000, 0xFFFFFFFF, 0x00000000, 0x00000000⟩,
  ⟨"GAN_TUN_MODE_PHASE", 0x4007066C, [(8, 0x10)], 0x00000000, 0x00000000, 0x00000000, 0xFFFFFFFF, 0x00000000, 0x00000000⟩,
  ⟨"GAN_TUN_ENERGY", 0x400706E0, [(8, 0x4)], 0x00000000, 0x00000000, 0x00000000, 0xFFFFFFFF, 0x00000000, 0x00000000⟩,
  ⟨"GAN_SVY_CFG", 0x40070800, [], 0x1FFF003F, 0x00000000, 0x00000000, 0x00000000, 0x00000000, 0x1FFF003F⟩,
  ⟨"GAN_SVY_TIMING", 0x40070804, [], 0xFFFF03FF, 0x00000000, 0x00000000, 0x00000000, 0x03E80014, 0xFFFF03FF⟩,
  ⟨"GAN_SVY_STATUS", 0x40070808, [], 0x00000000, 0x00000000, 0x00000000, 0xFFFF7FFF, 0x00000000, 0x00000000⟩,
  ⟨"GAN_SVY_DIGEST_LO", 0x4007080C, [], 0x00000000, 0x00000000, 0x00000000, 0xFFFFFFFF, 0x00000000, 0x00000000⟩,
  ⟨"GAN_SVY_DIGEST_HI", 0x40070810, [], 0x00000000, 0x00000000, 0x00000000, 0xFFFFFFFF, 0x00000000, 0x00000000⟩,
  ⟨"GAN_SVY_SEQ", 0x40070814, [], 0x00000000, 0x00000000, 0x00000000, 0xFFFFFFFF, 0x00000000, 0x00000000⟩,
  ⟨"GAN_SVY_CALC_NS", 0x40070818, [], 0x00000000, 0x00000000, 0x00000000, 0xFFFFFFFF, 0x00000000, 0x00000000⟩,
  ⟨"GAN_SVY_NODE_SEL", 0x40070820, [], 0x00007FFF, 0x00000000, 0x00000000, 0x00000000, 0x00000000, 0x00000000⟩,
  ⟨"GAN_SVY_NODE", 0x40070824, [], 0x00000000, 0x00000000, 0x00000000, 0x00031FFF, 0x00000000, 0x00000000⟩,
  ⟨"GAN_SVY_EDGE_SEL", 0x40070828, [], 0x00007FFF, 0x00000000, 0x00000000, 0x00000000, 0x00000000, 0x00000000⟩,
  ⟨"GAN_SVY_EDGE", 0x4007082C, [], 0x00000000, 0x00000000, 0x00000000, 0x00FFFF1F, 0x00000000, 0x00000000⟩,
  ⟨"GAN_MON_SEL", 0x40070900, [], 0xFFFF000F, 0x00000000, 0x00000000, 0x00000000, 0x00000000, 0x00000000⟩]

/-- The registers of GAN. -/
def regsGAN_1 : List RegDef := [
  ⟨"GAN_MON_OUT", 0x40070904, [], 0x00000000, 0x00000000, 0x00000000, 0xFFFFFFFF, 0xFFFF0000, 0x00000000⟩,
  ⟨"GAN_MON_VAL", 0x40070908, [], 0x00000000, 0x00000000, 0x00000000, 0xFFFFFFFF, 0x00000000, 0x00000000⟩,
  ⟨"GAN_MON_RATE", 0x4007090C, [], 0x00000000, 0x00000000, 0x00000000, 0xFFFFFFFF, 0x00000000, 0x00000000⟩]

/-- The registers of GAN. -/
def regsGAN : List RegDef := regsGAN_0 ++ regsGAN_1

/-! ## CRY (R156-R177) -/

abbrev CRY_CTRL_enable : Fld := ⟨0x40080000, 0, 1⟩
abbrev CRY_CTRL_udp_enable : Fld := ⟨0x40080000, 1, 1⟩
abbrev CRY_CTRL_goose_enable : Fld := ⟨0x40080000, 2, 1⟩
abbrev CRY_CTRL_brodsan_enable : Fld := ⟨0x40080000, 3, 1⟩
abbrev CRY_CTRL_lamp_enable : Fld := ⟨0x40080000, 4, 1⟩
abbrev CRY_STATUS_armed : Fld := ⟨0x40080004, 0, 4⟩
abbrev CRY_STATUS_time_ok : Fld := ⟨0x40080004, 4, 1⟩
abbrev CRY_STATUS_waiting : Fld := ⟨0x40080004, 8, 8⟩
abbrev CRY_STATUS_live : Fld := ⟨0x40080004, 16, 11⟩
abbrev CRY_EVENT_dst_unres : Fld := ⟨0x40080008, 0, 1⟩
abbrev CRY_EVENT_auth_fail : Fld := ⟨0x40080008, 1, 1⟩
abbrev CRY_EVENT_replay : Fld := ⟨0x40080008, 2, 1⟩
abbrev CRY_EVENT_gop_late : Fld := ⟨0x40080008, 3, 1⟩
abbrev CRY_EVENT_gop_abort : Fld := ⟨0x40080008, 4, 1⟩
abbrev CRY_EVENT_gop_done : Fld := ⟨0x40080008, 5, 1⟩
abbrev CRY_EVENT_module_down : Fld := ⟨0x40080008, 6, 1⟩
abbrev CRY_EVENT_barrier_timeout : Fld := ⟨0x40080008, 7, 1⟩
abbrev CRY_EVENT_rx_full : Fld := ⟨0x40080008, 8, 1⟩
abbrev CRY_SYS_CFG_module_no : Fld := ⟨0x4008000C, 0, 10⟩
abbrev CRY_SYS_CFG_sys_size : Fld := ⟨0x4008000C, 16, 11⟩
abbrev CRY_SYS_CFG_fanout : Fld := ⟨0x4008000C, 27, 5⟩
abbrev CRY_SYS_TBL_LO_v : Fld := ⟨0x40080010, 0, 32⟩
abbrev CRY_SYS_TBL_HI_v : Fld := ⟨0x40080014, 0, 32⟩
abbrev CRY_BRD_CFG_udp_port : Fld := ⟨0x40080018, 0, 16⟩
abbrev CRY_BRD_CFG_key_slot : Fld := ⟨0x40080018, 16, 6⟩
abbrev CRY_BRD_CFG_pcp : Fld := ⟨0x40080018, 24, 3⟩
abbrev CRY_BRD_SYSID_system_id : Fld := ⟨0x4008001C, 0, 16⟩
abbrev CRY_BRD_SYSID_epoch : Fld := ⟨0x4008001C, 16, 16⟩
abbrev CRY_GOP_CFG_hop_us : Fld := ⟨0x40080020, 0, 10⟩
abbrev CRY_GOP_CFG_eps_ns : Fld := ⟨0x40080020, 10, 11⟩
abbrev CRY_GOP_CFG_trg_first : Fld := ⟨0x40080020, 21, 4⟩
abbrev CRY_GOP_CFG_trg_count : Fld := ⟨0x40080020, 25, 4⟩
abbrev CRY_GOP_LEAD_lead_us : Fld := ⟨0x40080024, 0, 20⟩
abbrev CRY_HB_CFG_alarm_hb_s : Fld := ⟨0x40080028, 0, 8⟩
abbrev CRY_HB_CFG_brd_hb_ms : Fld := ⟨0x40080028, 8, 8⟩
abbrev CRY_HB_CFG_miss : Fld := ⟨0x40080028, 16, 4⟩
abbrev CRY_BAR_TIMEOUT_timeout_ms : Fld := ⟨0x4008002C, 0, 16⟩
abbrev CRY_BAR_TIMEOUT_barrier_root : Fld := ⟨0x4008002C, 16, 10⟩
abbrev CRY_REC_CNT_v : Fld := ⟨0x40080030, 0, 32⟩
abbrev CRY_FRAME_CNT_v : Fld := ⟨0x40080034, 0, 32⟩
abbrev CRY_BRD_DROP_CNT_v : Fld := ⟨0x40080038, 0, 32⟩
abbrev CRY_UNRES_CNT_v : Fld := ⟨0x4008003C, 0, 32⟩
abbrev CRY_ALM_SEQ_v : Fld := ⟨0x40080040, 0, 32⟩
abbrev CRY_LAT_MAX_v : Fld := ⟨0x40080044, 0, 32⟩
abbrev CRY_SRC_IP_v : Fld := ⟨0x40080048, 0, 32⟩
abbrev CRY_GOP_CMD_cmd : Fld := ⟨0x40080080, 0, 4⟩
abbrev CRY_GOP_CMD_late_exec : Fld := ⟨0x40080080, 4, 1⟩
abbrev CRY_GOP_CMD_lantern_level : Fld := ⟨0x40080080, 5, 1⟩
abbrev CRY_GOP_CMD_arg : Fld := ⟨0x40080080, 16, 16⟩
abbrev CRY_GOP_T_NS_v : Fld := ⟨0x40080084, 0, 32⟩
abbrev CRY_GOP_T_SEC_LO_v : Fld := ⟨0x40080088, 0, 32⟩
abbrev CRY_GOP_T_SEC_HI_v : Fld := ⟨0x4008008C, 0, 16⟩
abbrev CRY_GOP_SRC_LO_v : Fld := ⟨0x40080090, 0, 32⟩
abbrev CRY_GOP_SRC_HI_v : Fld := ⟨0x40080094, 0, 32⟩
abbrev CRY_GOP_LEN_len : Fld := ⟨0x40080098, 0, 11⟩
abbrev CRY_GOP_STATUS_busy : Fld := ⟨0x4008009C, 0, 1⟩
abbrev CRY_GOP_STATUS_done : Fld := ⟨0x4008009C, 1, 1⟩
abbrev CRY_GOP_STATUS_result : Fld := ⟨0x4008009C, 8, 8⟩
abbrev CRY_GOP_OPID_v : Fld := ⟨0x400800A0, 0, 32⟩
abbrev CRY_GOP_RES_lo (i : Nat) : Fld := ⟨0x400800A4 + 0x4 * i, 0, 16⟩
abbrev CRY_GOP_RES_hi (i : Nat) : Fld := ⟨0x400800A4 + 0x4 * i, 16, 16⟩
abbrev CRY_RX_BASE_LO_v : Fld := ⟨0x400800C0, 0, 32⟩
abbrev CRY_RX_BASE_HI_v : Fld := ⟨0x400800C4, 0, 32⟩
abbrev CRY_RX_CFG_entries : Fld := ⟨0x400800C8, 0, 16⟩
abbrev CRY_RX_RIDX_v : Fld := ⟨0x400800CC, 0, 32⟩
abbrev CRY_RX_WIDX_v : Fld := ⟨0x400800D0, 0, 32⟩
abbrev CRY_ACT_dest_group (i : Nat) : Fld := ⟨0x40081000 + 0x4 * i, 0, 6⟩
abbrev CRY_ACT_udp_en (i : Nat) : Fld := ⟨0x40081000 + 0x4 * i, 6, 1⟩
abbrev CRY_ACT_goose_en (i : Nat) : Fld := ⟨0x40081000 + 0x4 * i, 7, 1⟩
abbrev CRY_ACT_goose_cb (i : Nat) : Fld := ⟨0x40081000 + 0x4 * i, 8, 4⟩
abbrev CRY_ACT_fan_out (i : Nat) : Fld := ⟨0x40081000 + 0x4 * i, 12, 1⟩
abbrev CRY_ACT_lamp_cmd (i : Nat) : Fld := ⟨0x40081000 + 0x4 * i, 16, 8⟩
abbrev CRY_DGRP_v (i j : Nat) : Fld := ⟨0x40081400 + 0x20 * i + 0x4 * j, 0, 32⟩
abbrev CRY_DST_IP_v (i : Nat) : Fld := ⟨0x40082000 + 0x10 * i, 0, 32⟩
abbrev CRY_DST_PORT_dst_port (i : Nat) : Fld := ⟨0x40082004 + 0x10 * i, 0, 16⟩
abbrev CRY_DST_PORT_src_port (i : Nat) : Fld := ⟨0x40082004 + 0x10 * i, 16, 16⟩
abbrev CRY_DST_MAC_LO_v (i : Nat) : Fld := ⟨0x40082008 + 0x10 * i, 0, 32⟩
abbrev CRY_DST_MAC_HI_mac_hi (i : Nat) : Fld := ⟨0x4008200C + 0x10 * i, 0, 16⟩
abbrev CRY_DST_MAC_HI_vid (i : Nat) : Fld := ⟨0x4008200C + 0x10 * i, 16, 12⟩
abbrev CRY_DST_MAC_HI_pcp (i : Nat) : Fld := ⟨0x4008200C + 0x10 * i, 28, 3⟩
abbrev CRY_GCB_CTRL_enable (i : Nat) : Fld := ⟨0x40083000 + 0x10 * i, 0, 1⟩
abbrev CRY_GCB_CTRL_test (i : Nat) : Fld := ⟨0x40083000 + 0x10 * i, 1, 1⟩
abbrev CRY_GCB_DESC_LO_v (i : Nat) : Fld := ⟨0x40083004 + 0x10 * i, 0, 32⟩
abbrev CRY_GCB_DESC_HI_v (i : Nat) : Fld := ⟨0x40083008 + 0x10 * i, 0, 32⟩
abbrev CRY_GCB_TIMING_max_ms (i : Nat) : Fld := ⟨0x4008300C + 0x10 * i, 0, 16⟩
abbrev CRY_GCB_TIMING_min_ms (i : Nat) : Fld := ⟨0x4008300C + 0x10 * i, 16, 16⟩

/-- The registers of CRY. -/
def regsCRY_0 : List RegDef := [
  ⟨"CRY_CTRL", 0x40080000, [], 0x0000001F, 0x00000000, 0x00000000, 0x00000000, 0x00000000, 0x0000001F⟩,
  ⟨"CRY_STATUS", 0x40080004, [], 0x00000000, 0x00000000, 0x00000000, 0x07FFFF1F, 0x00000000, 0x00000000⟩,
  ⟨"CRY_EVENT", 0x40080008, [], 0x00000000, 0x000001FF, 0x00000000, 0x00000000, 0x00000000, 0x00000000⟩,
  ⟨"CRY_SYS_CFG", 0x4008000C, [], 0xFFFF03FF, 0x00000000, 0x00000000, 0x00000000, 0x80010000, 0xFFFF03FF⟩,
  ⟨"CRY_SYS_TBL_LO", 0x40080010, [], 0xFFFFFFFF, 0x00000000, 0x00000000, 0x00000000, 0x00000000, 0xFFFFFFFF⟩,
  ⟨"CRY_SYS_TBL_HI", 0x40080014, [], 0xFFFFFFFF, 0x00000000, 0x00000000, 0x00000000, 0x00000000, 0xFFFFFFFF⟩,
  ⟨"CRY_BRD_CFG", 0x40080018, [], 0x073FFFFF, 0x00000000, 0x00000000, 0x00000000, 0x0600B8D0, 0x073FFFFF⟩,
  ⟨"CRY_BRD_SYSID", 0x4008001C, [], 0x0000FFFF, 0x00000000, 0x00000000, 0xFFFF0000, 0x00000000, 0x0000FFFF⟩,
  ⟨"CRY_GOP_CFG", 0x40080020, [], 0x1FFFFFFF, 0x00000000, 0x00000000, 0x00000000, 0x098FA0FA, 0x1FFFFFFF⟩,
  ⟨"CRY_GOP_LEAD", 0x40080024, [], 0x000FFFFF, 0x00000000, 0x00000000, 0x00000000, 0x000007D0, 0x000FFFFF⟩,
  ⟨"CRY_HB_CFG", 0x40080028, [], 0x000FFFFF, 0x00000000, 0x00000000, 0x00000000, 0x00030A01, 0x000FFFFF⟩,
  ⟨"CRY_BAR_TIMEOUT", 0x4008002C, [], 0x03FFFFFF, 0x00000000, 0x00000000, 0x00000000, 0x000003E8, 0x03FFFFFF⟩,
  ⟨"CRY_REC_CNT", 0x40080030, [], 0x00000000, 0x00000000, 0xFFFFFFFF, 0x00000000, 0x00000000, 0x00000000⟩,
  ⟨"CRY_FRAME_CNT", 0x40080034, [], 0x00000000, 0x00000000, 0xFFFFFFFF, 0x00000000, 0x00000000, 0x00000000⟩,
  ⟨"CRY_BRD_DROP_CNT", 0x40080038, [], 0x00000000, 0x00000000, 0xFFFFFFFF, 0x00000000, 0x00000000, 0x00000000⟩,
  ⟨"CRY_UNRES_CNT", 0x4008003C, [], 0x00000000, 0x00000000, 0xFFFFFFFF, 0x00000000, 0x00000000, 0x00000000⟩,
  ⟨"CRY_ALM_SEQ", 0x40080040, [], 0x00000000, 0x00000000, 0x00000000, 0xFFFFFFFF, 0x00000000, 0x00000000⟩,
  ⟨"CRY_LAT_MAX", 0x40080044, [], 0x00000000, 0x00000000, 0xFFFFFFFF, 0x00000000, 0x00000000, 0x00000000⟩,
  ⟨"CRY_SRC_IP", 0x40080048, [], 0xFFFFFFFF, 0x00000000, 0x00000000, 0x00000000, 0x00000000, 0xFFFFFFFF⟩,
  ⟨"CRY_GOP_CMD", 0x40080080, [], 0x00000000, 0x00000000, 0x00000000, 0x00000000, 0x00000000, 0x00000000⟩,
  ⟨"CRY_GOP_T_NS", 0x40080084, [], 0xFFFFFFFF, 0x00000000, 0x00000000, 0x00000000, 0x00000000, 0x00000000⟩,
  ⟨"CRY_GOP_T_SEC_LO", 0x40080088, [], 0xFFFFFFFF, 0x00000000, 0x00000000, 0x00000000, 0x00000000, 0x00000000⟩,
  ⟨"CRY_GOP_T_SEC_HI", 0x4008008C, [], 0x0000FFFF, 0x00000000, 0x00000000, 0x00000000, 0x00000000, 0x00000000⟩,
  ⟨"CRY_GOP_SRC_LO", 0x40080090, [], 0xFFFFFFFF, 0x00000000, 0x00000000, 0x00000000, 0x00000000, 0x00000000⟩,
  ⟨"CRY_GOP_SRC_HI", 0x40080094, [], 0xFFFFFFFF, 0x00000000, 0x00000000, 0x00000000, 0x00000000, 0x00000000⟩,
  ⟨"CRY_GOP_LEN", 0x40080098, [], 0x000007FF, 0x00000000, 0x00000000, 0x00000000, 0x00000000, 0x00000000⟩,
  ⟨"CRY_GOP_STATUS", 0x4008009C, [], 0x00000000, 0x00000002, 0x00000000, 0x0000FF01, 0x00000000, 0x00000000⟩,
  ⟨"CRY_GOP_OPID", 0x400800A0, [], 0x00000000, 0x00000000, 0x00000000, 0xFFFFFFFF, 0x00000000, 0x00000000⟩,
  ⟨"CRY_GOP_RES", 0x400800A4, [(3, 0x4)], 0x00000000, 0x00000000, 0x00000000, 0xFFFFFFFF, 0x00000000, 0x00000000⟩,
  ⟨"CRY_RX_BASE_LO", 0x400800C0, [], 0xFFFFFFFF, 0x00000000, 0x00000000, 0x00000000, 0x00000000, 0xFFFFFFFF⟩,
  ⟨"CRY_RX_BASE_HI", 0x400800C4, [], 0xFFFFFFFF, 0x00000000, 0x00000000, 0x00000000, 0x00000000, 0xFFFFFFFF⟩,
  ⟨"CRY_RX_CFG", 0x400800C8, [], 0x0000FFFF, 0x00000000, 0x00000000, 0x00000000, 0x00000000, 0x0000FFFF⟩,
  ⟨"CRY_RX_RIDX", 0x400800CC, [], 0xFFFFFFFF, 0x00000000, 0x00000000, 0x00000000, 0x00000000, 0x00000000⟩,
  ⟨"CRY_RX_WIDX", 0x400800D0, [], 0x00000000, 0x00000000, 0x00000000, 0xFFFFFFFF, 0x00000000, 0x00000000⟩,
  ⟨"CRY_ACT", 0x40081000, [(256, 0x4)], 0x00FF1FFF, 0x00000000, 0x00000000, 0x00000000, 0x00000000, 0x00FF1FFF⟩,
  ⟨"CRY_DGRP", 0x40081400, [(64, 0x20), (8, 0x4)], 0xFFFFFFFF, 0x00000000, 0x00000000, 0x00000000, 0x00000000, 0xFFFFFFFF⟩,
  ⟨"CRY_DST_IP", 0x40082000, [(256, 0x10)], 0xFFFFFFFF, 0x00000000, 0x00000000, 0x00000000, 0x00000000, 0xFFFFFFFF⟩,
  ⟨"CRY_DST_PORT", 0x40082004, [(256, 0x10)], 0xFFFFFFFF, 0x00000000, 0x00000000, 0x00000000, 0x12C412C4, 0xFFFFFFFF⟩,
  ⟨"CRY_DST_MAC_LO", 0x40082008, [(256, 0x10)], 0xFFFFFFFF, 0x00000000, 0x00000000, 0x00000000, 0x00000000, 0xFFFFFFFF⟩,
  ⟨"CRY_DST_MAC_HI", 0x4008200C, [(256, 0x10)], 0x7FFFFFFF, 0x00000000, 0x00000000, 0x00000000, 0x70000000, 0x7FFFFFFF⟩]

/-- The registers of CRY. -/
def regsCRY_1 : List RegDef := [
  ⟨"CRY_GCB_CTRL", 0x40083000, [(16, 0x10)], 0x00000003, 0x00000000, 0x00000000, 0x00000000, 0x00000000, 0x00000003⟩,
  ⟨"CRY_GCB_DESC_LO", 0x40083004, [(16, 0x10)], 0xFFFFFFFF, 0x00000000, 0x00000000, 0x00000000, 0x00000000, 0xFFFFFFFF⟩,
  ⟨"CRY_GCB_DESC_HI", 0x40083008, [(16, 0x10)], 0xFFFFFFFF, 0x00000000, 0x00000000, 0x00000000, 0x00000000, 0xFFFFFFFF⟩,
  ⟨"CRY_GCB_TIMING", 0x4008300C, [(16, 0x10)], 0xFFFFFFFF, 0x00000000, 0x00000000, 0x00000000, 0x000203E8, 0xFFFFFFFF⟩]

/-- The registers of CRY. -/
def regsCRY : List RegDef := regsCRY_0 ++ regsCRY_1

/-! ## SMP (R178-R197) -/

abbrev SMP_CTRL_enable : Fld := ⟨0x40090000, 0, 1⟩
abbrev SMP_CTRL_source : Fld := ⟨0x40090000, 1, 1⟩
abbrev SMP_CTRL_accept_test : Fld := ⟨0x40090000, 2, 1⟩
abbrev SMP_CTRL_phs_enable : Fld := ⟨0x40090000, 3, 1⟩
abbrev SMP_STATUS_channels : Fld := ⟨0x40090004, 0, 8⟩
abbrev SMP_STATUS_rate_code : Fld := ⟨0x40090004, 8, 3⟩
abbrev SMP_STATUS_cfg_err : Fld := ⟨0x40090004, 16, 8⟩
abbrev SMP_EVENT_link_err : Fld := ⟨0x40090008, 0, 1⟩
abbrev SMP_EVENT_sv_late : Fld := ⟨0x40090008, 1, 1⟩
abbrev SMP_EVENT_grid_err : Fld := ⟨0x40090008, 2, 1⟩
abbrev SMP_EVENT_gap : Fld := ⟨0x40090008, 3, 1⟩
abbrev SMP_EVENT_hold : Fld := ⟨0x40090008, 4, 1⟩
abbrev SMP_EVENT_settled : Fld := ⟨0x40090008, 5, 1⟩
abbrev SMP_EVENT_out_drop : Fld := ⟨0x40090008, 6, 1⟩
abbrev SMP_EVENT_cfg_err : Fld := ⟨0x40090008, 7, 1⟩
abbrev SMP_ENV_CFG_tau_ms : Fld := ⟨0x4009000C, 0, 16⟩
abbrev SMP_TEST_enable : Fld := ⟨0x40090010, 0, 1⟩
abbrev SMP_TEST_k : Fld := ⟨0x40090010, 4, 4⟩
abbrev SMP_TEST_gen : Fld := ⟨0x40090010, 8, 1⟩
abbrev SMP_TEST_freq : Fld := ⟨0x40090010, 16, 16⟩
abbrev SMP_TEST_AMP_v : Fld := ⟨0x40090014, 0, 32⟩
abbrev SMP_TEST_SEL_v (i : Nat) : Fld := ⟨0x40090018 + 0x4 * i, 0, 32⟩
abbrev SMP_SNAP_v : Fld := ⟨0x40090028, 0, 32⟩
abbrev SMP_DROP_CNT_v : Fld := ⟨0x4009002C, 0, 32⟩
abbrev SMP_DET_SEL_channel : Fld := ⟨0x40090030, 0, 7⟩
abbrev SMP_DET_RMS_v : Fld := ⟨0x40090034, 0, 32⟩
abbrev SMP_DET_ENV_v : Fld := ⟨0x40090038, 0, 32⟩
abbrev SMP_LINK_CFG_enable (i : Nat) : Fld := ⟨0x40090100 + 0x10 * i, 0, 1⟩
abbrev SMP_LINK_CFG_sclk (i : Nat) : Fld := ⟨0x40090100 + 0x10 * i, 1, 2⟩
abbrev SMP_LINK_CFG_read_delay (i : Nat) : Fld := ⟨0x40090100 + 0x10 * i, 8, 8⟩
abbrev SMP_LINK_DELAY_delay_ns (i : Nat) : Fld := ⟨0x40090104 + 0x10 * i, 0, 24⟩
abbrev SMP_LINK_CRC_v (i : Nat) : Fld := ⟨0x40090108 + 0x10 * i, 0, 32⟩
abbrev SMP_LINK_LATE_v (i : Nat) : Fld := ⟨0x4009010C + 0x10 * i, 0, 32⟩
abbrev SMP_SV_CFG_appid (i : Nat) : Fld := ⟨0x40090200 + 0x10 * i, 0, 16⟩
abbrev SMP_SV_CFG_enable (i : Nat) : Fld := ⟨0x40090200 + 0x10 * i, 16, 1⟩
abbrev SMP_SV_CFG_wait_us (i : Nat) : Fld := ⟨0x40090200 + 0x10 * i, 20, 12⟩
abbrev SMP_SV_CONFREV_v (i : Nat) : Fld := ⟨0x40090204 + 0x10 * i, 0, 32⟩
abbrev SMP_SV_LOST_v (i : Nat) : Fld := ⟨0x40090208 + 0x10 * i, 0, 32⟩
abbrev SMP_SV_LATE_v (i : Nat) : Fld := ⟨0x4009020C + 0x10 * i, 0, 32⟩
abbrev SMP_PHS_CTRL_fnom_50 : Fld := ⟨0x40090400, 0, 1⟩
abbrev SMP_PHS_CTRL_rate : Fld := ⟨0x40090400, 1, 4⟩
abbrev SMP_PHS_CTRL_sets : Fld := ⟨0x40090400, 5, 6⟩
abbrev SMP_PHS_CTRL_annmr : Fld := ⟨0x40090400, 11, 4⟩
abbrev SMP_PHS_CTRL_freq_set : Fld := ⟨0x40090400, 16, 5⟩
abbrev SMP_PHS_VALID_v : Fld := ⟨0x40090404, 0, 32⟩
abbrev SMP_PHS_AN_code (i : Nat) : Fld := ⟨0x40090440 + 0x4 * i, 0, 4⟩
abbrev SMP_PHS_AN_sel (i : Nat) : Fld := ⟨0x40090440 + 0x4 * i, 8, 7⟩
abbrev SMP_PHS_SET_ch_a (i : Nat) : Fld := ⟨0x40090500 + 0x4 * i, 0, 7⟩
abbrev SMP_PHS_SET_ch_b (i : Nat) : Fld := ⟨0x40090500 + 0x4 * i, 8, 7⟩
abbrev SMP_PHS_SET_ch_c (i : Nat) : Fld := ⟨0x40090500 + 0x4 * i, 16, 7⟩
abbrev SMP_PHS_SET_m_class (i : Nat) : Fld := ⟨0x40090500 + 0x4 * i, 24, 1⟩
abbrev SMP_PHS_SET_out (i : Nat) : Fld := ⟨0x40090500 + 0x4 * i, 25, 2⟩
abbrev SMP_PHS_SET_current (i : Nat) : Fld := ⟨0x40090500 + 0x4 * i, 27, 1⟩
abbrev SMP_CH_CFG_enable (i : Nat) : Fld := ⟨0x40091000 + 0x10 * i, 0, 1⟩
abbrev SMP_CH_CFG_preset (i : Nat) : Fld := ⟨0x40091000 + 0x10 * i, 1, 2⟩
abbrev SMP_CH_CFG_fnom_50 (i : Nat) : Fld := ⟨0x40091000 + 0x10 * i, 3, 1⟩
abbrev SMP_CH_CFG_src (i : Nat) : Fld := ⟨0x40091000 + 0x10 * i, 8, 4⟩
abbrev SMP_CH_CFG_word (i : Nat) : Fld := ⟨0x40091000 + 0x10 * i, 12, 4⟩
abbrev SMP_CH_SCALE_v (i : Nat) : Fld := ⟨0x40091004 + 0x10 * i, 0, 32⟩
abbrev SMP_CH_STATE_state (i : Nat) : Fld := ⟨0x40091008 + 0x10 * i, 0, 3⟩
abbrev SMP_CH_STATE_clipped_seen (i : Nat) : Fld := ⟨0x40091008 + 0x10 * i, 3, 1⟩
abbrev SMP_CH_STATE_k (i : Nat) : Fld := ⟨0x40091008 + 0x10 * i, 4, 4⟩
abbrev SMP_CH_PEAK_v (i : Nat) : Fld := ⟨0x4009100C + 0x10 * i, 0, 32⟩
abbrev SMP_SNAP_RMS_v (i : Nat) : Fld := ⟨0x40093000 + 0x4 * i, 0, 32⟩

/-- The registers of SMP. -/
def regsSMP : List RegDef := [
  ⟨"SMP_CTRL", 0x40090000, [], 0x0000000F, 0x00000000, 0x00000000, 0x00000000, 0x00000000, 0x0000000F⟩,
  ⟨"SMP_STATUS", 0x40090004, [], 0x00000000, 0x00000000, 0x00000000, 0x00FF07FF, 0x00000000, 0x00000000⟩,
  ⟨"SMP_EVENT", 0x40090008, [], 0x00000000, 0x000000FF, 0x00000000, 0x00000000, 0x00000000, 0x00000000⟩,
  ⟨"SMP_ENV_CFG", 0x4009000C, [], 0x0000FFFF, 0x00000000, 0x00000000, 0x00000000, 0x000000C8, 0x0000FFFF⟩,
  ⟨"SMP_TEST", 0x40090010, [], 0xFFFF01F1, 0x00000000, 0x00000000, 0x00000000, 0x00000000, 0x00000000⟩,
  ⟨"SMP_TEST_AMP", 0x40090014, [], 0xFFFFFFFF, 0x00000000, 0x00000000, 0x00000000, 0x00000000, 0xFFFFFFFF⟩,
  ⟨"SMP_TEST_SEL", 0x40090018, [(4, 0x4)], 0xFFFFFFFF, 0x00000000, 0x00000000, 0x00000000, 0x00000000, 0x00000000⟩,
  ⟨"SMP_SNAP", 0x40090028, [], 0x00000000, 0x00000000, 0x00000000, 0x00000000, 0x00000000, 0x00000000⟩,
  ⟨"SMP_DROP_CNT", 0x4009002C, [], 0x00000000, 0x00000000, 0xFFFFFFFF, 0x00000000, 0x00000000, 0x00000000⟩,
  ⟨"SMP_DET_SEL", 0x40090030, [], 0x0000007F, 0x00000000, 0x00000000, 0x00000000, 0x00000000, 0x00000000⟩,
  ⟨"SMP_DET_RMS", 0x40090034, [], 0x00000000, 0x00000000, 0x00000000, 0xFFFFFFFF, 0x00000000, 0x00000000⟩,
  ⟨"SMP_DET_ENV", 0x40090038, [], 0x00000000, 0x00000000, 0x00000000, 0xFFFFFFFF, 0x00000000, 0x00000000⟩,
  ⟨"SMP_LINK_CFG", 0x40090100, [(8, 0x10)], 0x0000FF07, 0x00000000, 0x00000000, 0x00000000, 0x00000000, 0x0000FF07⟩,
  ⟨"SMP_LINK_DELAY", 0x40090104, [(8, 0x10)], 0x00FFFFFF, 0x00000000, 0x00000000, 0x00000000, 0x00000000, 0x00FFFFFF⟩,
  ⟨"SMP_LINK_CRC", 0x40090108, [(8, 0x10)], 0x00000000, 0x00000000, 0xFFFFFFFF, 0x00000000, 0x00000000, 0x00000000⟩,
  ⟨"SMP_LINK_LATE", 0x4009010C, [(8, 0x10)], 0x00000000, 0x00000000, 0xFFFFFFFF, 0x00000000, 0x00000000, 0x00000000⟩,
  ⟨"SMP_SV_CFG", 0x40090200, [(16, 0x10)], 0xFFF1FFFF, 0x00000000, 0x00000000, 0x00000000, 0x1F400000, 0xFFF1FFFF⟩,
  ⟨"SMP_SV_CONFREV", 0x40090204, [(16, 0x10)], 0xFFFFFFFF, 0x00000000, 0x00000000, 0x00000000, 0x00000000, 0xFFFFFFFF⟩,
  ⟨"SMP_SV_LOST", 0x40090208, [(16, 0x10)], 0x00000000, 0x00000000, 0xFFFFFFFF, 0x00000000, 0x00000000, 0x00000000⟩,
  ⟨"SMP_SV_LATE", 0x4009020C, [(16, 0x10)], 0x00000000, 0x00000000, 0xFFFFFFFF, 0x00000000, 0x00000000, 0x00000000⟩,
  ⟨"SMP_PHS_CTRL", 0x40090400, [], 0x001F7FFF, 0x00000000, 0x00000000, 0x00000000, 0x00000000, 0x001F7FFF⟩,
  ⟨"SMP_PHS_VALID", 0x40090404, [], 0x00000000, 0x00000000, 0x00000000, 0xFFFFFFFF, 0x00000000, 0x00000000⟩,
  ⟨"SMP_PHS_AN", 0x40090440, [(8, 0x4)], 0x00007F0F, 0x00000000, 0x00000000, 0x00000000, 0x00000000, 0x00007F0F⟩,
  ⟨"SMP_PHS_SET", 0x40090500, [(32, 0x4)], 0x0F7F7F7F, 0x00000000, 0x00000000, 0x00000000, 0x00000000, 0x0F7F7F7F⟩,
  ⟨"SMP_CH_CFG", 0x40091000, [(128, 0x10)], 0x0000FF0F, 0x00000000, 0x00000000, 0x00000000, 0x00000000, 0x0000FF0F⟩,
  ⟨"SMP_CH_SCALE", 0x40091004, [(128, 0x10)], 0xFFFFFFFF, 0x00000000, 0x00000000, 0x00000000, 0x3F800000, 0xFFFFFFFF⟩,
  ⟨"SMP_CH_STATE", 0x40091008, [(128, 0x10)], 0x00000000, 0x00000008, 0x00000000, 0x000000F7, 0x00000000, 0x00000000⟩,
  ⟨"SMP_CH_PEAK", 0x4009100C, [(128, 0x10)], 0x00000000, 0x00000000, 0xFFFFFFFF, 0x00000000, 0x00000000, 0x00000000⟩,
  ⟨"SMP_SNAP_RMS", 0x40093000, [(128, 0x4)], 0x00000000, 0x00000000, 0x00000000, 0xFFFFFFFF, 0x00000000, 0x00000000⟩]

/-! ## LMP (R198-R222) -/

abbrev LMP_CTRL_enable : Fld := ⟨0x400A0000, 0, 1⟩
abbrev LMP_CTRL_lift_enable : Fld := ⟨0x400A0000, 1, 1⟩
abbrev LMP_CTRL_grid_enable : Fld := ⟨0x400A0000, 2, 1⟩
abbrev LMP_STATUS_stage : Fld := ⟨0x400A0004, 0, 3⟩
abbrev LMP_STATUS_loaded : Fld := ⟨0x400A0004, 3, 1⟩
abbrev LMP_STATUS_gr_seq : Fld := ⟨0x400A0004, 16, 16⟩
abbrev LMP_EVENT_astro_none : Fld := ⟨0x400A0008, 0, 1⟩
abbrev LMP_EVENT_field_err : Fld := ⟨0x400A0008, 1, 1⟩
abbrev LMP_EVENT_edge : Fld := ⟨0x400A0008, 2, 1⟩
abbrev LMP_EVENT_gr_unconfigured : Fld := ⟨0x400A0008, 3, 1⟩
abbrev LMP_EVENT_fanned_refused : Fld := ⟨0x400A0008, 4, 1⟩
abbrev LMP_EVENT_con_limit : Fld := ⟨0x400A0008, 5, 1⟩
abbrev LMP_EVENT_order_err : Fld := ⟨0x400A0008, 6, 1⟩
abbrev LMP_CMD_op : Fld := ⟨0x400A000C, 0, 4⟩
abbrev LMP_CMD_index : Fld := ⟨0x400A000C, 16, 14⟩
abbrev LMP_CMD_STATUS_busy : Fld := ⟨0x400A0010, 0, 1⟩
abbrev LMP_CMD_STATUS_done : Fld := ⟨0x400A0010, 1, 1⟩
abbrev LMP_CMD_STATUS_result : Fld := ⟨0x400A0010, 8, 8⟩
abbrev LMP_FIELD_BASE_LO_v : Fld := ⟨0x400A0014, 0, 32⟩
abbrev LMP_FIELD_BASE_HI_v : Fld := ⟨0x400A0018, 0, 32⟩
abbrev LMP_LOCAL_offset_min : Fld := ⟨0x400A001C, 0, 16⟩
abbrev LMP_ASTRO_LAT_v : Fld := ⟨0x400A0020, 0, 32⟩
abbrev LMP_ASTRO_LON_v : Fld := ⟨0x400A0024, 0, 32⟩
abbrev LMP_ASTRO_TIMES0_first : Fld := ⟨0x400A0028, 0, 11⟩
abbrev LMP_ASTRO_TIMES0_second : Fld := ⟨0x400A0028, 16, 11⟩
abbrev LMP_ASTRO_TIMES1_first : Fld := ⟨0x400A002C, 0, 11⟩
abbrev LMP_ASTRO_TIMES1_second : Fld := ⟨0x400A002C, 16, 11⟩
abbrev LMP_LIFT_CFG_lead_ds : Fld := ⟨0x400A0030, 0, 8⟩
abbrev LMP_LIFT_CFG_hold_ds : Fld := ⟨0x400A0030, 8, 8⟩
abbrev LMP_LIFT_CFG_decay_s : Fld := ⟨0x400A0030, 16, 8⟩
abbrev LMP_LIFT_CFG_presence_m : Fld := ⟨0x400A0030, 24, 8⟩
abbrev LMP_TRACK_CFG_catch_ds : Fld := ⟨0x400A0034, 0, 8⟩
abbrev LMP_TRACK_CFG_track_max_s : Fld := ⟨0x400A0034, 8, 8⟩
abbrev LMP_TRACK_CFG_path_max : Fld := ⟨0x400A0034, 16, 7⟩
abbrev LMP_CLASS_LIFT0_level : Fld := ⟨0x400A0038, 0, 10⟩
abbrev LMP_CLASS_LIFT1_level : Fld := ⟨0x400A003C, 0, 10⟩
abbrev LMP_CLASS_LIFT2_level : Fld := ⟨0x400A0040, 0, 10⟩
abbrev LMP_CLASS_LIFT3_level : Fld := ⟨0x400A0044, 0, 10⟩
abbrev LMP_CON_STATE_drives : Fld := ⟨0x400A0048, 0, 16⟩
abbrev LMP_STAGE_FORCE_stage : Fld := ⟨0x400A004C, 0, 3⟩
abbrev LMP_STAGE_FORCE_force : Fld := ⟨0x400A004C, 3, 1⟩
abbrev LMP_SNAP0_v : Fld := ⟨0x400A0050, 0, 32⟩
abbrev LMP_SNAP1_stage : Fld := ⟨0x400A0054, 0, 3⟩
abbrev LMP_SNAP1_gr_seq : Fld := ⟨0x400A0054, 16, 16⟩
abbrev LMP_CYCLE_CNT_v : Fld := ⟨0x400A0058, 0, 32⟩
abbrev LMP_OVERRUN_CNT_v : Fld := ⟨0x400A005C, 0, 32⟩
abbrev LMP_EVENTS_CNT_v : Fld := ⟨0x400A0060, 0, 32⟩
abbrev LMP_EVENT_DROP_CNT_v : Fld := ⟨0x400A0064, 0, 32⟩
abbrev LMP_TRACK_REPL_CNT_v : Fld := ⟨0x400A0068, 0, 32⟩
abbrev LMP_TRACKS_v : Fld := ⟨0x400A006C, 0, 32⟩
abbrev LMP_TRK_SEL_track : Fld := ⟨0x400A0070, 0, 10⟩
abbrev LMP_TRK_INFO0_lantern : Fld := ⟨0x400A0074, 0, 14⟩
abbrev LMP_TRK_INFO0_class : Fld := ⟨0x400A0074, 14, 2⟩
abbrev LMP_TRK_INFO0_speed : Fld := ⟨0x400A0074, 16, 16⟩
abbrev LMP_TRK_INFO1_toward : Fld := ⟨0x400A0078, 0, 14⟩
abbrev LMP_TRK_INFO1_valid : Fld := ⟨0x400A0078, 31, 1⟩
abbrev LMP_INJECT_v (i : Nat) : Fld := ⟨0x400A0080 + 0x4 * i, 0, 32⟩
abbrev LMP_LEVEL_SEL_lantern : Fld := ⟨0x400A00A0, 0, 14⟩
abbrev LMP_LEVEL_f : Fld := ⟨0x400A00A4, 0, 10⟩
abbrev LMP_LEVEL_lift : Fld := ⟨0x400A00A4, 10, 10⟩
abbrev LMP_LEVEL_out : Fld := ⟨0x400A00A4, 20, 10⟩
abbrev LMP_LOCAL_MAP_group (i : Nat) : Fld := ⟨0x400A0100 + 0x4 * i, 0, 10⟩
abbrev LMP_LOCAL_MAP_enable (i : Nat) : Fld := ⟨0x400A0100 + 0x4 * i, 15, 1⟩
abbrev LMP_LOCAL_MAP_class (i : Nat) : Fld := ⟨0x400A0100 + 0x4 * i, 16, 3⟩
abbrev LMP_CON_CFG_mode (i : Nat) : Fld := ⟨0x400A0180 + 0x4 * i, 0, 2⟩
abbrev LMP_CON_CFG_group (i : Nat) : Fld := ⟨0x400A0180 + 0x4 * i, 2, 10⟩
abbrev LMP_CON_CFG_min_switch_s (i : Nat) : Fld := ⟨0x400A0180 + 0x4 * i, 16, 8⟩
abbrev LMP_STAGE_CLS_delta (i j : Nat) : Fld := ⟨0x400A0220 + 0x20 * i + 0x4 * j, 0, 10⟩
abbrev LMP_STAGE_CLS_floor (i j : Nat) : Fld := ⟨0x400A0220 + 0x20 * i + 0x4 * j, 16, 10⟩
abbrev LMP_SCENE_ACT_v (i : Nat) : Fld := ⟨0x400A0300 + 0x4 * i, 0, 32⟩
abbrev LMP_GR0_stage (i : Nat) : Fld := ⟨0x400A0408 + 0x8 * i, 0, 3⟩
abbrev LMP_GR0_accept_fanned (i : Nat) : Fld := ⟨0x400A0408 + 0x8 * i, 3, 1⟩
abbrev LMP_GR0_latch (i : Nat) : Fld := ⟨0x400A0408 + 0x8 * i, 4, 1⟩
abbrev LMP_GR0_enable (i : Nat) : Fld := ⟨0x400A0408 + 0x8 * i, 5, 1⟩
abbrev LMP_GR0_restore_s (i : Nat) : Fld := ⟨0x400A0408 + 0x8 * i, 8, 8⟩
abbrev LMP_GR0_hold_s (i : Nat) : Fld := ⟨0x400A0408 + 0x8 * i, 16, 16⟩
abbrev LMP_GR1_mask (i : Nat) : Fld := ⟨0x400A040C + 0x8 * i, 0, 16⟩
abbrev LMP_GR1_state (i : Nat) : Fld := ⟨0x400A040C + 0x8 * i, 16, 2⟩
abbrev LMP_GRP_CFG_programme (i : Nat) : Fld := ⟨0x400A1000 + 0x4 * i, 0, 6⟩
abbrev LMP_GRP_CFG_enable (i : Nat) : Fld := ⟨0x400A1000 + 0x4 * i, 6, 1⟩
abbrev LMP_GRP_CFG_lift_at_off (i : Nat) : Fld := ⟨0x400A1000 + 0x4 * i, 7, 1⟩
abbrev LMP_GRP_CFG_no_lift (i : Nat) : Fld := ⟨0x400A1000 + 0x4 * i, 8, 1⟩
abbrev LMP_GRP_CFG_ovr_level (i : Nat) : Fld := ⟨0x400A1000 + 0x4 * i, 16, 10⟩
abbrev LMP_GRP_CFG_ovr_on (i : Nat) : Fld := ⟨0x400A1000 + 0x4 * i, 26, 1⟩
abbrev LMP_PRG_STEPA_ref (i j : Nat) : Fld := ⟨0x400A2000 + 0x80 * i + 0x8 * j, 0, 3⟩
abbrev LMP_PRG_STEPA_days (i j : Nat) : Fld := ⟨0x400A2000 + 0x80 * i + 0x8 * j, 3, 7⟩
abbrev LMP_PRG_STEPA_minutes (i j : Nat) : Fld := ⟨0x400A2000 + 0x80 * i + 0x8 * j, 16, 16⟩
abbrev LMP_PRG_STEPB_level (i j : Nat) : Fld := ⟨0x400A2004 + 0x80 * i + 0x8 * j, 0, 10⟩
abbrev LMP_PRG_STEPB_use_scene (i j : Nat) : Fld := ⟨0x400A2004 + 0x80 * i + 0x8 * j, 15, 1⟩
abbrev LMP_PRG_STEPB_scene (i j : Nat) : Fld := ⟨0x400A2004 + 0x80 * i + 0x8 * j, 16, 8⟩
abbrev LMP_PRG_STEPB_fade_s (i j : Nat) : Fld := ⟨0x400A2004 + 0x80 * i + 0x8 * j, 24, 8⟩
abbrev LMP_SCN_first (i j : Nat) : Fld := ⟨0x400A4000 + 0x40 * i + 0x4 * j, 0, 10⟩
abbrev LMP_SCN_last (i j : Nat) : Fld := ⟨0x400A4000 + 0x40 * i + 0x4 * j, 10, 10⟩
abbrev LMP_SCN_level (i j : Nat) : Fld := ⟨0x400A4000 + 0x40 * i + 0x4 * j, 20, 10⟩
abbrev LMP_SCN_no_lift (i j : Nat) : Fld := ⟨0x400A4000 + 0x40 * i + 0x4 * j, 30, 1⟩
abbrev LMP_SCN_valid (i j : Nat) : Fld := ⟨0x400A4000 + 0x40 * i + 0x4 * j, 31, 1⟩

/-- The registers of LMP. -/
def regsLMP_0 : List RegDef := [
  ⟨"LMP_CTRL", 0x400A0000, [], 0x00000007, 0x00000000, 0x00000000, 0x00000000, 0x00000006, 0x00000007⟩,
  ⟨"LMP_STATUS", 0x400A0004, [], 0x00000000, 0x00000000, 0x00000000, 0xFFFF000F, 0x00000000, 0x00000000⟩,
  ⟨"LMP_EVENT", 0x400A0008, [], 0x00000000, 0x0000007F, 0x00000000, 0x00000000, 0x00000000, 0x00000000⟩,
  ⟨"LMP_CMD", 0x400A000C, [], 0x00000000, 0x00000000, 0x00000000, 0x00000000, 0x00000000, 0x00000000⟩,
  ⟨"LMP_CMD_STATUS", 0x400A0010, [], 0x00000000, 0x00000002, 0x00000000, 0x0000FF01, 0x00000000, 0x00000000⟩,
  ⟨"LMP_FIELD_BASE_LO", 0x400A0014, [], 0xFFFFFFFF, 0x00000000, 0x00000000, 0x00000000, 0x00000000, 0xFFFFFFFF⟩,
  ⟨"LMP_FIELD_BASE_HI", 0x400A0018, [], 0xFFFFFFFF, 0x00000000, 0x00000000, 0x00000000, 0x00000000, 0xFFFFFFFF⟩,
  ⟨"LMP_LOCAL", 0x400A001C, [], 0x0000FFFF, 0x00000000, 0x00000000, 0x00000000, 0x00000000, 0x0000FFFF⟩,
  ⟨"LMP_ASTRO_LAT", 0x400A0020, [], 0xFFFFFFFF, 0x00000000, 0x00000000, 0x00000000, 0x00000000, 0xFFFFFFFF⟩,
  ⟨"LMP_ASTRO_LON", 0x400A0024, [], 0xFFFFFFFF, 0x00000000, 0x00000000, 0x00000000, 0x00000000, 0xFFFFFFFF⟩,
  ⟨"LMP_ASTRO_TIMES0", 0x400A0028, [], 0x00000000, 0x00000000, 0x00000000, 0x07FF07FF, 0x07FF07FF, 0x00000000⟩,
  ⟨"LMP_ASTRO_TIMES1", 0x400A002C, [], 0x00000000, 0x00000000, 0x00000000, 0x07FF07FF, 0x07FF07FF, 0x00000000⟩,
  ⟨"LMP_LIFT_CFG", 0x400A0030, [], 0xFFFFFFFF, 0x00000000, 0x00000000, 0x00000000, 0x3C0A143C, 0xFFFFFFFF⟩,
  ⟨"LMP_TRACK_CFG", 0x400A0034, [], 0x007FFFFF, 0x00000000, 0x00000000, 0x00000000, 0x0040781E, 0x007FFFFF⟩,
  ⟨"LMP_CLASS_LIFT0", 0x400A0038, [], 0x000003FF, 0x00000000, 0x00000000, 0x00000000, 0x000002BC, 0x000003FF⟩,
  ⟨"LMP_CLASS_LIFT1", 0x400A003C, [], 0x000003FF, 0x00000000, 0x00000000, 0x00000000, 0x000002F8, 0x000003FF⟩,
  ⟨"LMP_CLASS_LIFT2", 0x400A0040, [], 0x000003FF, 0x00000000, 0x00000000, 0x00000000, 0x00000384, 0x000003FF⟩,
  ⟨"LMP_CLASS_LIFT3", 0x400A0044, [], 0x000003FF, 0x00000000, 0x00000000, 0x00000000, 0x000003C0, 0x000003FF⟩,
  ⟨"LMP_CON_STATE", 0x400A0048, [], 0x00000000, 0x00000000, 0x00000000, 0x0000FFFF, 0x00000000, 0x00000000⟩,
  ⟨"LMP_STAGE_FORCE", 0x400A004C, [], 0x0000000F, 0x00000000, 0x00000000, 0x00000000, 0x00000000, 0x0000000F⟩,
  ⟨"LMP_SNAP0", 0x400A0050, [], 0x00000000, 0x00000000, 0x00000000, 0xFFFFFFFF, 0x00000000, 0x00000000⟩,
  ⟨"LMP_SNAP1", 0x400A0054, [], 0x00000000, 0x00000000, 0x00000000, 0xFFFF0007, 0x00000000, 0x00000000⟩,
  ⟨"LMP_CYCLE_CNT", 0x400A0058, [], 0x00000000, 0x00000000, 0x00000000, 0xFFFFFFFF, 0x00000000, 0x00000000⟩,
  ⟨"LMP_OVERRUN_CNT", 0x400A005C, [], 0x00000000, 0x00000000, 0xFFFFFFFF, 0x00000000, 0x00000000, 0x00000000⟩,
  ⟨"LMP_EVENTS_CNT", 0x400A0060, [], 0x00000000, 0x00000000, 0xFFFFFFFF, 0x00000000, 0x00000000, 0x00000000⟩,
  ⟨"LMP_EVENT_DROP_CNT", 0x400A0064, [], 0x00000000, 0x00000000, 0xFFFFFFFF, 0x00000000, 0x00000000, 0x00000000⟩,
  ⟨"LMP_TRACK_REPL_CNT", 0x400A0068, [], 0x00000000, 0x00000000, 0xFFFFFFFF, 0x00000000, 0x00000000, 0x00000000⟩,
  ⟨"LMP_TRACKS", 0x400A006C, [], 0x00000000, 0x00000000, 0x00000000, 0xFFFFFFFF, 0x00000000, 0x00000000⟩,
  ⟨"LMP_TRK_SEL", 0x400A0070, [], 0x000003FF, 0x00000000, 0x00000000, 0x00000000, 0x00000000, 0x00000000⟩,
  ⟨"LMP_TRK_INFO0", 0x400A0074, [], 0x00000000, 0x00000000, 0x00000000, 0xFFFFFFFF, 0x00000000, 0x00000000⟩,
  ⟨"LMP_TRK_INFO1", 0x400A0078, [], 0x00000000, 0x00000000, 0x00000000, 0x80003FFF, 0x00000000, 0x00000000⟩,
  ⟨"LMP_INJECT", 0x400A0080, [(8, 0x4)], 0x00000000, 0x00000000, 0x00000000, 0x00000000, 0x00000000, 0x00000000⟩,
  ⟨"LMP_LEVEL_SEL", 0x400A00A0, [], 0x00003FFF, 0x00000000, 0x00000000, 0x00000000, 0x00000000, 0x00000000⟩,
  ⟨"LMP_LEVEL", 0x400A00A4, [], 0x00000000, 0x00000000, 0x00000000, 0x3FFFFFFF, 0x00000000, 0x00000000⟩,
  ⟨"LMP_LOCAL_MAP", 0x400A0100, [(20, 0x4)], 0x000783FF, 0x00000000, 0x00000000, 0x00000000, 0x00000000, 0x000783FF⟩,
  ⟨"LMP_CON_CFG", 0x400A0180, [(16, 0x4)], 0x00FF0FFF, 0x00000000, 0x00000000, 0x00000000, 0x003C0000, 0x00FF0FFF⟩,
  ⟨"LMP_STAGE_CLS", 0x400A0220, [(7, 0x20), (8, 0x4)], 0x03FF03FF, 0x00000000, 0x00000000, 0x00000000, 0x00000000, 0x03FF03FF⟩,
  ⟨"LMP_SCENE_ACT", 0x400A0300, [(8, 0x4)], 0xFFFFFFFF, 0x00000000, 0x00000000, 0x00000000, 0x00000000, 0xFFFFFFFF⟩,
  ⟨"LMP_GR0", 0x400A0408, [(255, 0x8)], 0xFFFFFF3F, 0x00000000, 0x00000000, 0x00000000, 0x00000000, 0xFFFFFF3F⟩,
  ⟨"LMP_GR1", 0x400A040C, [(255, 0x8)], 0x0000FFFF, 0x00000000, 0x00000000, 0x00030000, 0x00000000, 0x0000FFFF⟩]

/-- The registers of LMP. -/
def regsLMP_1 : List RegDef := [
  ⟨"LMP_GRP_CFG", 0x400A1000, [(1024, 0x4)], 0x07FF01FF, 0x00000000, 0x00000000, 0x00000000, 0x00000000, 0x07FF01FF⟩,
  ⟨"LMP_PRG_STEPA", 0x400A2000, [(64, 0x80), (16, 0x8)], 0xFFFF03FF, 0x00000000, 0x00000000, 0x00000000, 0x00000005, 0xFFFF03FF⟩,
  ⟨"LMP_PRG_STEPB", 0x400A2004, [(64, 0x80), (16, 0x8)], 0xFFFF83FF, 0x00000000, 0x00000000, 0x00000000, 0x00000000, 0xFFFF83FF⟩,
  ⟨"LMP_SCN", 0x400A4000, [(256, 0x40), (16, 0x4)], 0xFFFFFFFF, 0x00000000, 0x00000000, 0x00000000, 0x00000000, 0xFFFFFFFF⟩]

/-- The registers of LMP. -/
def regsLMP : List RegDef := regsLMP_0 ++ regsLMP_1

/-! ## RAD (R223-R255) -/

abbrev RAD_CTRL_enable : Fld := ⟨0x400B0000, 0, 1⟩
abbrev RAD_CTRL_silent_irq : Fld := ⟨0x400B0000, 1, 1⟩
abbrev RAD_CTRL_urgent_repeat : Fld := ⟨0x400B0000, 2, 2⟩
abbrev RAD_CTRL_level_repeat : Fld := ⟨0x400B0000, 4, 3⟩
abbrev RAD_CTRL_refresh_s : Fld := ⟨0x400B0000, 8, 8⟩
abbrev RAD_CTRL_sched_s : Fld := ⟨0x400B0000, 16, 8⟩
abbrev RAD_STATUS_radios : Fld := ⟨0x400B0004, 0, 4⟩
abbrev RAD_STATUS_band : Fld := ⟨0x400B0004, 4, 1⟩
abbrev RAD_STATUS_cache_used : Fld := ⟨0x400B0004, 16, 13⟩
abbrev RAD_EVENT_silent : Fld := ⟨0x400B0008, 0, 1⟩
abbrev RAD_EVENT_resumed : Fld := ⟨0x400B0008, 1, 1⟩
abbrev RAD_EVENT_auth_fail : Fld := ⟨0x400B0008, 2, 1⟩
abbrev RAD_EVENT_replay : Fld := ⟨0x400B0008, 3, 1⟩
abbrev RAD_EVENT_unknown_join : Fld := ⟨0x400B0008, 4, 1⟩
abbrev RAD_EVENT_order_late : Fld := ⟨0x400B0008, 5, 1⟩
abbrev RAD_EVENT_order_split : Fld := ⟨0x400B0008, 6, 1⟩
abbrev RAD_EVENT_ctr_warn : Fld := ⟨0x400B0008, 7, 1⟩
abbrev RAD_EVENT_ctr_stop : Fld := ⟨0x400B0008, 8, 1⟩
abbrev RAD_EVENT_duty_limit : Fld := ⟨0x400B0008, 9, 1⟩
abbrev RAD_EVENT_noack : Fld := ⟨0x400B0008, 10, 1⟩
abbrev RAD_EVENT_sensor_drop : Fld := ⟨0x400B0008, 11, 1⟩
abbrev RAD_EVENT_entry_fault : Fld := ⟨0x400B0008, 12, 1⟩
abbrev RAD_CMD_op : Fld := ⟨0x400B000C, 0, 4⟩
abbrev RAD_CMD_index : Fld := ⟨0x400B000C, 16, 14⟩
abbrev RAD_CMD_ARG_v : Fld := ⟨0x400B0010, 0, 32⟩
abbrev RAD_CMD_STATUS_busy : Fld := ⟨0x400B0014, 0, 1⟩
abbrev RAD_CMD_STATUS_done : Fld := ⟨0x400B0014, 1, 1⟩
abbrev RAD_CMD_STATUS_result : Fld := ⟨0x400B0014, 8, 8⟩
abbrev RAD_UNKNOWN_LO_v : Fld := ⟨0x400B0018, 0, 32⟩
abbrev RAD_UNKNOWN_HI_v : Fld := ⟨0x400B001C, 0, 32⟩
abbrev RAD_SILENT_CNT_count : Fld := ⟨0x400B0020, 0, 15⟩
abbrev RAD_SENSOR_DROP_v : Fld := ⟨0x400B0024, 0, 32⟩
abbrev RAD_WAKE_CFG_freq_khz : Fld := ⟨0x400B0028, 0, 20⟩
abbrev RAD_WAKE_CFG_repeat : Fld := ⟨0x400B0028, 20, 4⟩
abbrev RAD_WAKE_CFG_tx_dbm : Fld := ⟨0x400B0028, 24, 5⟩
abbrev RAD_WAKE_CFG_enable : Fld := ⟨0x400B0028, 31, 1⟩
abbrev RAD_WAKE_SENT_v : Fld := ⟨0x400B002C, 0, 32⟩
abbrev RAD_RCTRL_enable (i : Nat) : Fld := ⟨0x400B0100 + 0x40 * i, 0, 1⟩
abbrev RAD_RCTRL_join_open (i : Nat) : Fld := ⟨0x400B0100 + 0x40 * i, 1, 1⟩
abbrev RAD_RCTRL_tx_key (i : Nat) : Fld := ⟨0x400B0100 + 0x40 * i, 2, 1⟩
abbrev RAD_RCTRL_duty_pm (i : Nat) : Fld := ⟨0x400B0100 + 0x40 * i, 8, 8⟩
abbrev RAD_RCTRL_roll_thr (i : Nat) : Fld := ⟨0x400B0100 + 0x40 * i, 16, 8⟩
abbrev RAD_RKEY_slot_a (i : Nat) : Fld := ⟨0x400B0104 + 0x40 * i, 0, 6⟩
abbrev RAD_RKEY_slot_b (i : Nat) : Fld := ⟨0x400B0104 + 0x40 * i, 8, 6⟩
abbrev RAD_RSTAT_running (i : Nat) : Fld := ⟨0x400B0108 + 0x40 * i, 0, 1⟩
abbrev RAD_RSTAT_ctr_stopped (i : Nat) : Fld := ⟨0x400B0108 + 0x40 * i, 1, 1⟩
abbrev RAD_RSTAT_duty_held (i : Nat) : Fld := ⟨0x400B0108 + 0x40 * i, 2, 1⟩
abbrev RAD_RSTAT_pending (i : Nat) : Fld := ⟨0x400B0108 + 0x40 * i, 16, 13⟩
abbrev RAD_TX_CTR_v (i : Nat) : Fld := ⟨0x400B010C + 0x40 * i, 0, 32⟩
abbrev RAD_BSN_v (i : Nat) : Fld := ⟨0x400B0110 + 0x40 * i, 0, 32⟩
abbrev RAD_TX_FRAMES_v (i : Nat) : Fld := ⟨0x400B0114 + 0x40 * i, 0, 32⟩
abbrev RAD_RX_OK_v (i : Nat) : Fld := ⟨0x400B0118 + 0x40 * i, 0, 32⟩
abbrev RAD_AUTH_FAIL_v (i : Nat) : Fld := ⟨0x400B011C + 0x40 * i, 0, 32⟩
abbrev RAD_REPLAY_v (i : Nat) : Fld := ⟨0x400B0120 + 0x40 * i, 0, 32⟩
abbrev RAD_RETRY_ACK_v (i : Nat) : Fld := ⟨0x400B0124 + 0x40 * i, 0, 32⟩
abbrev RAD_NOACK_v (i : Nat) : Fld := ⟨0x400B0128 + 0x40 * i, 0, 32⟩
abbrev RAD_DUTY_USED_v (i : Nat) : Fld := ⟨0x400B012C + 0x40 * i, 0, 32⟩

/-- The registers of RAD. -/
def regsRAD : List RegDef := [
  ⟨"RAD_CTRL", 0x400B0000, [], 0x00FFFF7F, 0x00000000, 0x00000000, 0x00000000, 0x003C1E28, 0x00FFFF7F⟩,
  ⟨"RAD_STATUS", 0x400B0004, [], 0x00000000, 0x00000000, 0x00000000, 0x1FFF001F, 0x00000000, 0x00000000⟩,
  ⟨"RAD_EVENT", 0x400B0008, [], 0x00000000, 0x00001FFF, 0x00000000, 0x00000000, 0x00000000, 0x00000000⟩,
  ⟨"RAD_CMD", 0x400B000C, [], 0x00000000, 0x00000000, 0x00000000, 0x00000000, 0x00000000, 0x00000000⟩,
  ⟨"RAD_CMD_ARG", 0x400B0010, [], 0xFFFFFFFF, 0x00000000, 0x00000000, 0x00000000, 0x00000000, 0x00000000⟩,
  ⟨"RAD_CMD_STATUS", 0x400B0014, [], 0x00000000, 0x00000002, 0x00000000, 0x0000FF01, 0x00000000, 0x00000000⟩,
  ⟨"RAD_UNKNOWN_LO", 0x400B0018, [], 0x00000000, 0x00000000, 0x00000000, 0xFFFFFFFF, 0x00000000, 0x00000000⟩,
  ⟨"RAD_UNKNOWN_HI", 0x400B001C, [], 0x00000000, 0x00000000, 0x00000000, 0xFFFFFFFF, 0x00000000, 0x00000000⟩,
  ⟨"RAD_SILENT_CNT", 0x400B0020, [], 0x00000000, 0x00000000, 0x00000000, 0x00007FFF, 0x00000000, 0x00000000⟩,
  ⟨"RAD_SENSOR_DROP", 0x400B0024, [], 0x00000000, 0x00000000, 0xFFFFFFFF, 0x00000000, 0x00000000, 0x00000000⟩,
  ⟨"RAD_WAKE_CFG", 0x400B0028, [], 0x9FFFFFFF, 0x00000000, 0x00000000, 0x00000000, 0x00100000, 0x9FFFFFFF⟩,
  ⟨"RAD_WAKE_SENT", 0x400B002C, [], 0x00000000, 0x00000000, 0xFFFFFFFF, 0x00000000, 0x00000000, 0x00000000⟩,
  ⟨"RAD_RCTRL", 0x400B0100, [(4, 0x40)], 0x00FFFF07, 0x00000000, 0x00000000, 0x00000000, 0x00A10000, 0x00FFFF07⟩,
  ⟨"RAD_RKEY", 0x400B0104, [(4, 0x40)], 0x00003F3F, 0x00000000, 0x00000000, 0x00000000, 0x00000000, 0x00003F3F⟩,
  ⟨"RAD_RSTAT", 0x400B0108, [(4, 0x40)], 0x00000000, 0x00000000, 0x00000000, 0x1FFF0007, 0x00000000, 0x00000000⟩,
  ⟨"RAD_TX_CTR", 0x400B010C, [(4, 0x40)], 0x00000000, 0x00000000, 0x00000000, 0xFFFFFFFF, 0x00000000, 0xFFFFFFFF⟩,
  ⟨"RAD_BSN", 0x400B0110, [(4, 0x40)], 0x00000000, 0x00000000, 0x00000000, 0xFFFFFFFF, 0x00000000, 0x00000000⟩,
  ⟨"RAD_TX_FRAMES", 0x400B0114, [(4, 0x40)], 0x00000000, 0x00000000, 0xFFFFFFFF, 0x00000000, 0x00000000, 0x00000000⟩,
  ⟨"RAD_RX_OK", 0x400B0118, [(4, 0x40)], 0x00000000, 0x00000000, 0xFFFFFFFF, 0x00000000, 0x00000000, 0x00000000⟩,
  ⟨"RAD_AUTH_FAIL", 0x400B011C, [(4, 0x40)], 0x00000000, 0x00000000, 0xFFFFFFFF, 0x00000000, 0x00000000, 0x00000000⟩,
  ⟨"RAD_REPLAY", 0x400B0120, [(4, 0x40)], 0x00000000, 0x00000000, 0xFFFFFFFF, 0x00000000, 0x00000000, 0x00000000⟩,
  ⟨"RAD_RETRY_ACK", 0x400B0124, [(4, 0x40)], 0x00000000, 0x00000000, 0xFFFFFFFF, 0x00000000, 0x00000000, 0x00000000⟩,
  ⟨"RAD_NOACK", 0x400B0128, [(4, 0x40)], 0x00000000, 0x00000000, 0xFFFFFFFF, 0x00000000, 0x00000000, 0x00000000⟩,
  ⟨"RAD_DUTY_USED", 0x400B012C, [(4, 0x40)], 0x00000000, 0x00000000, 0x00000000, 0xFFFFFFFF, 0x00000000, 0x00000000⟩]

/-! ## FLT (R256-R272) -/

abbrev FLT_CTRL_enable : Fld := ⟨0x400C0000, 0, 1⟩
abbrev FLT_CTRL_key_slot : Fld := ⟨0x400C0000, 8, 6⟩
abbrev FLT_STATUS_phase : Fld := ⟨0x400C0004, 0, 3⟩
abbrev FLT_STATUS_armed : Fld := ⟨0x400C0004, 3, 1⟩
abbrev FLT_STATUS_slot : Fld := ⟨0x400C0004, 4, 3⟩
abbrev FLT_STATUS_round : Fld := ⟨0x400C0004, 8, 8⟩
abbrev FLT_STATUS_image_id : Fld := ⟨0x400C0004, 16, 16⟩
abbrev FLT_EVENT_stored : Fld := ⟨0x400C0008, 0, 1⟩
abbrev FLT_EVENT_phase_done : Fld := ⟨0x400C0008, 1, 1⟩
abbrev FLT_EVENT_campaign_done : Fld := ⟨0x400C0008, 2, 1⟩
abbrev FLT_EVENT_act_sent : Fld := ⟨0x400C0008, 3, 1⟩
abbrev FLT_EVENT_invalid : Fld := ⟨0x400C0008, 4, 1⟩
abbrev FLT_EVENT_rolled_back : Fld := ⟨0x400C0008, 5, 1⟩
abbrev FLT_EVENT_act_dropped : Fld := ⟨0x400C0008, 6, 1⟩
abbrev FLT_CMD_op : Fld := ⟨0x400C000C, 0, 4⟩
abbrev FLT_CMD_slot : Fld := ⟨0x400C000C, 16, 3⟩
abbrev FLT_CMD_STATUS_busy : Fld := ⟨0x400C0010, 0, 1⟩
abbrev FLT_CMD_STATUS_done : Fld := ⟨0x400C0010, 1, 1⟩
abbrev FLT_CMD_STATUS_result : Fld := ⟨0x400C0010, 8, 8⟩
abbrev FLT_SRC_LO_v : Fld := ⟨0x400C0014, 0, 32⟩
abbrev FLT_SRC_HI_v : Fld := ⟨0x400C0018, 0, 32⟩
abbrev FLT_SRC_LEN_v : Fld := ⟨0x400C001C, 0, 32⟩
abbrev FLT_PROG_BASE_LO_v : Fld := ⟨0x400C0020, 0, 32⟩
abbrev FLT_PROG_BASE_HI_v : Fld := ⟨0x400C0024, 0, 32⟩
abbrev FLT_CAMP_CFG_radios : Fld := ⟨0x400C0028, 0, 4⟩
abbrev FLT_CAMP_CFG_parity_first : Fld := ⟨0x400C0028, 8, 6⟩
abbrev FLT_CAMP_CFG_max_rounds : Fld := ⟨0x400C0028, 16, 4⟩
abbrev FLT_CAMP_CFG_repair_margin : Fld := ⟨0x400C0028, 24, 4⟩
abbrev FLT_CAMP_CFG2_poll_sf : Fld := ⟨0x400C002C, 0, 8⟩
abbrev FLT_CAMP_CFG2_announce_sf : Fld := ⟨0x400C002C, 8, 8⟩
abbrev FLT_CAMP_CFG2_tail_sf : Fld := ⟨0x400C002C, 16, 16⟩
abbrev FLT_ACT_NS_v : Fld := ⟨0x400C0030, 0, 32⟩
abbrev FLT_ACT_SEC_LO_v : Fld := ⟨0x400C0034, 0, 32⟩
abbrev FLT_ACT_SEC_HI_v : Fld := ⟨0x400C0038, 0, 16⟩
abbrev FLT_COUNT_count (i : Nat) : Fld := ⟨0x400C0040 + 0x4 * i, 0, 15⟩
abbrev FLT_SLOT_INFO_image_id (i : Nat) : Fld := ⟨0x400C0080 + 0x8 * i, 0, 16⟩
abbrev FLT_SLOT_INFO_fw_version (i : Nat) : Fld := ⟨0x400C0080 + 0x8 * i, 16, 16⟩
abbrev FLT_SLOT_LEN_v (i : Nat) : Fld := ⟨0x400C0084 + 0x8 * i, 0, 32⟩

/-- The registers of FLT. -/
def regsFLT : List RegDef := [
  ⟨"FLT_CTRL", 0x400C0000, [], 0x00003F01, 0x00000000, 0x00000000, 0x00000000, 0x00000000, 0x00003F01⟩,
  ⟨"FLT_STATUS", 0x400C0004, [], 0x00000000, 0x00000000, 0x00000000, 0xFFFFFF7F, 0x00000000, 0x00000000⟩,
  ⟨"FLT_EVENT", 0x400C0008, [], 0x00000000, 0x0000007F, 0x00000000, 0x00000000, 0x00000000, 0x00000000⟩,
  ⟨"FLT_CMD", 0x400C000C, [], 0x00000000, 0x00000000, 0x00000000, 0x00000000, 0x00000000, 0x00000000⟩,
  ⟨"FLT_CMD_STATUS", 0x400C0010, [], 0x00000000, 0x00000002, 0x00000000, 0x0000FF01, 0x00000000, 0x00000000⟩,
  ⟨"FLT_SRC_LO", 0x400C0014, [], 0xFFFFFFFF, 0x00000000, 0x00000000, 0x00000000, 0x00000000, 0x00000000⟩,
  ⟨"FLT_SRC_HI", 0x400C0018, [], 0xFFFFFFFF, 0x00000000, 0x00000000, 0x00000000, 0x00000000, 0x00000000⟩,
  ⟨"FLT_SRC_LEN", 0x400C001C, [], 0xFFFFFFFF, 0x00000000, 0x00000000, 0x00000000, 0x00000000, 0x00000000⟩,
  ⟨"FLT_PROG_BASE_LO", 0x400C0020, [], 0xFFFFFFFF, 0x00000000, 0x00000000, 0x00000000, 0x00000000, 0xFFFFFFFF⟩,
  ⟨"FLT_PROG_BASE_HI", 0x400C0024, [], 0xFFFFFFFF, 0x00000000, 0x00000000, 0x00000000, 0x00000000, 0xFFFFFFFF⟩,
  ⟨"FLT_CAMP_CFG", 0x400C0028, [], 0x0F0F3F0F, 0x00000000, 0x00000000, 0x00000000, 0x00060804, 0x0F0F3F0F⟩,
  ⟨"FLT_CAMP_CFG2", 0x400C002C, [], 0xFFFFFFFF, 0x00000000, 0x00000000, 0x00000000, 0x00100810, 0xFFFFFFFF⟩,
  ⟨"FLT_ACT_NS", 0x400C0030, [], 0xFFFFFFFF, 0x00000000, 0x00000000, 0x00000000, 0x00000000, 0xFFFFFFFF⟩,
  ⟨"FLT_ACT_SEC_LO", 0x400C0034, [], 0xFFFFFFFF, 0x00000000, 0x00000000, 0x00000000, 0x00000000, 0xFFFFFFFF⟩,
  ⟨"FLT_ACT_SEC_HI", 0x400C0038, [], 0x0000FFFF, 0x00000000, 0x00000000, 0x00000000, 0x00000000, 0x0000FFFF⟩,
  ⟨"FLT_COUNT", 0x400C0040, [(10, 0x4)], 0x00000000, 0x00000000, 0x00000000, 0x00007FFF, 0x00000000, 0x00000000⟩,
  ⟨"FLT_SLOT_INFO", 0x400C0080, [(8, 0x8)], 0x00000000, 0x00000000, 0x00000000, 0xFFFFFFFF, 0x00000000, 0xFFFFFFFF⟩,
  ⟨"FLT_SLOT_LEN", 0x400C0084, [(8, 0x8)], 0x00000000, 0x00000000, 0x00000000, 0xFFFFFFFF, 0x00000000, 0xFFFFFFFF⟩]

/-! ## LED (R273-R291) -/

abbrev LED_CTRL_enable : Fld := ⟨0x400D0000, 0, 1⟩
abbrev LED_CTRL_glide_ms : Fld := ⟨0x400D0000, 8, 8⟩
abbrev LED_CTRL_rec_timeout_s : Fld := ⟨0x400D0000, 16, 8⟩
abbrev LED_CTRL_retry_s : Fld := ⟨0x400D0000, 24, 4⟩
abbrev LED_CTRL_max_retries : Fld := ⟨0x400D0000, 28, 3⟩
abbrev LED_STATUS_strings : Fld := ⟨0x400D0004, 0, 16⟩
abbrev LED_STATUS_ports : Fld := ⟨0x400D0004, 16, 4⟩
abbrev LED_EVENT_fault : Fld := ⟨0x400D0008, 0, 1⟩
abbrev LED_EVENT_latched : Fld := ⟨0x400D0008, 1, 1⟩
abbrev LED_EVENT_cal_done : Fld := ⟨0x400D0008, 2, 1⟩
abbrev LED_EVENT_trim_limit : Fld := ⟨0x400D0008, 3, 1⟩
abbrev LED_EVENT_temp_stale : Fld := ⟨0x400D0008, 4, 1⟩
abbrev LED_EVENT_rec_timeout : Fld := ⟨0x400D0008, 5, 1⟩
abbrev LED_EVENT_late_swap : Fld := ⟨0x400D0008, 6, 1⟩
abbrev LED_EVENT_swap_empty : Fld := ⟨0x400D0008, 7, 1⟩
abbrev LED_SOFT_soft_ms : Fld := ⟨0x400D000C, 0, 8⟩
abbrev LED_CMD_op : Fld := ⟨0x400D0010, 0, 4⟩
abbrev LED_CMD_index : Fld := ⟨0x400D0010, 16, 5⟩
abbrev LED_CMD_STATUS_busy : Fld := ⟨0x400D0014, 0, 1⟩
abbrev LED_CMD_STATUS_done : Fld := ⟨0x400D0014, 1, 1⟩
abbrev LED_CMD_STATUS_result : Fld := ⟨0x400D0014, 8, 8⟩
abbrev LED_CURVE_SEL_point : Fld := ⟨0x400D0018, 0, 10⟩
abbrev LED_CURVE_SEL_table : Fld := ⟨0x400D0018, 16, 2⟩
abbrev LED_CURVE_DATA_drive : Fld := ⟨0x400D001C, 0, 16⟩
abbrev LED_STR_CFG_knee (i : Nat) : Fld := ⟨0x400D0100 + 0x10 * i, 0, 16⟩
abbrev LED_STR_CFG_pwm_hz (i : Nat) : Fld := ⟨0x400D0100 + 0x10 * i, 16, 2⟩
abbrev LED_STR_CFG_table (i : Nat) : Fld := ⟨0x400D0100 + 0x10 * i, 18, 2⟩
abbrev LED_STR_CFG_fail_level (i : Nat) : Fld := ⟨0x400D0100 + 0x10 * i, 20, 10⟩
abbrev LED_STR_STAT_state (i : Nat) : Fld := ⟨0x400D0104 + 0x10 * i, 0, 3⟩
abbrev LED_STR_STAT_cause (i : Nat) : Fld := ⟨0x400D0104 + 0x10 * i, 3, 3⟩
abbrev LED_STR_STAT_retries (i : Nat) : Fld := ⟨0x400D0104 + 0x10 * i, 6, 3⟩
abbrev LED_STR_STAT_dac (i : Nat) : Fld := ⟨0x400D0104 + 0x10 * i, 16, 12⟩
abbrev LED_STR_ONTIME_v (i : Nat) : Fld := ⟨0x400D0108 + 0x10 * i, 0, 32⟩
abbrev LED_STR_LEVEL_level (i : Nat) : Fld := ⟨0x400D010C + 0x10 * i, 0, 10⟩
abbrev LED_STR_LEVEL_v (i : Nat) : Fld := ⟨0x400D010C + 0x10 * i, 16, 16⟩
abbrev LED_CSET_CFG_mode (i : Nat) : Fld := ⟨0x400D0200 + 0x40 * i, 0, 2⟩
abbrev LED_CSET_CFG_sns0 (i : Nat) : Fld := ⟨0x400D0200 + 0x40 * i, 8, 6⟩
abbrev LED_CSET_CFG_sns1 (i : Nat) : Fld := ⟨0x400D0200 + 0x40 * i, 14, 6⟩
abbrev LED_CSET_CFG_sns2 (i : Nat) : Fld := ⟨0x400D0200 + 0x40 * i, 20, 6⟩
abbrev LED_CSET_CFG_sns3 (i : Nat) : Fld := ⟨0x400D0200 + 0x40 * i, 26, 6⟩
abbrev LED_CSET_MIX_factor (i j : Nat) : Fld := ⟨0x400D0204 + 0x40 * i + 0x4 * j, 0, 16⟩
abbrev LED_CSET_TRIM_factor (i j : Nat) : Fld := ⟨0x400D0214 + 0x40 * i + 0x4 * j, 0, 16⟩
abbrev LED_CSET_REF_f_ref (i j : Nat) : Fld := ⟨0x400D0224 + 0x40 * i + 0x4 * j, 0, 16⟩
abbrev LED_CSET_REF_f_dark (i j : Nat) : Fld := ⟨0x400D0224 + 0x40 * i + 0x4 * j, 16, 16⟩
abbrev LED_CSET_TEMP_theta (i : Nat) : Fld := ⟨0x400D0234 + 0x40 * i, 0, 16⟩
abbrev LED_TCOMP_factor (i j k : Nat) : Fld := ⟨0x400D0400 + 0x200 * i + 0x80 * j + 0x4 * k, 0, 16⟩
abbrev LED_MTX_CTRL_pwm_hz (i : Nat) : Fld := ⟨0x400D1000 + 0x20 * i, 0, 2⟩
abbrev LED_MTX_CTRL_table (i : Nat) : Fld := ⟨0x400D1000 + 0x20 * i, 2, 2⟩
abbrev LED_MTX_CTRL_fail_level (i : Nat) : Fld := ⟨0x400D1000 + 0x20 * i, 4, 10⟩
abbrev LED_MTX_SRC_LO_v (i : Nat) : Fld := ⟨0x400D1004 + 0x20 * i, 0, 32⟩
abbrev LED_MTX_SRC_HI_v (i : Nat) : Fld := ⟨0x400D1008 + 0x20 * i, 0, 32⟩
abbrev LED_MTX_STAT_preloaded (i : Nat) : Fld := ⟨0x400D100C + 0x20 * i, 0, 1⟩
abbrev LED_MTX_STAT_shifting (i : Nat) : Fld := ⟨0x400D100C + 0x20 * i, 1, 1⟩
abbrev LED_MTX_STAT_front (i : Nat) : Fld := ⟨0x400D100C + 0x20 * i, 2, 1⟩
abbrev LED_MTX_STAT_level (i : Nat) : Fld := ⟨0x400D100C + 0x20 * i, 16, 10⟩
abbrev LED_MTX_SWAPS_v (i : Nat) : Fld := ⟨0x400D1010 + 0x20 * i, 0, 32⟩

/-- The registers of LED. -/
def regsLED : List RegDef := [
  ⟨"LED_CTRL", 0x400D0000, [], 0x7FFFFF01, 0x00000000, 0x00000000, 0x00000000, 0x35006400, 0x7FFFFF01⟩,
  ⟨"LED_STATUS", 0x400D0004, [], 0x00000000, 0x00000000, 0x00000000, 0x000FFFFF, 0x00000000, 0x00000000⟩,
  ⟨"LED_EVENT", 0x400D0008, [], 0x00000000, 0x000000FF, 0x00000000, 0x00000000, 0x00000000, 0x00000000⟩,
  ⟨"LED_SOFT", 0x400D000C, [], 0x000000FF, 0x00000000, 0x00000000, 0x00000000, 0x00000014, 0x000000FF⟩,
  ⟨"LED_CMD", 0x400D0010, [], 0x00000000, 0x00000000, 0x00000000, 0x00000000, 0x00000000, 0x00000000⟩,
  ⟨"LED_CMD_STATUS", 0x400D0014, [], 0x00000000, 0x00000002, 0x00000000, 0x0000FF01, 0x00000000, 0x00000000⟩,
  ⟨"LED_CURVE_SEL", 0x400D0018, [], 0x000303FF, 0x00000000, 0x00000000, 0x00000000, 0x00000000, 0x00000000⟩,
  ⟨"LED_CURVE_DATA", 0x400D001C, [], 0x0000FFFF, 0x00000000, 0x00000000, 0x00000000, 0x00000000, 0x00000000⟩,
  ⟨"LED_STR_CFG", 0x400D0100, [(16, 0x10)], 0x3FFFFFFF, 0x00000000, 0x00000000, 0x00000000, 0x0001199A, 0x3FFFFFFF⟩,
  ⟨"LED_STR_STAT", 0x400D0104, [(16, 0x10)], 0x00000000, 0x00000000, 0x00000000, 0x0FFF01FF, 0x00000000, 0x00000000⟩,
  ⟨"LED_STR_ONTIME", 0x400D0108, [(16, 0x10)], 0x00000000, 0x00000000, 0x00000000, 0xFFFFFFFF, 0x00000000, 0xFFFFFFFF⟩,
  ⟨"LED_STR_LEVEL", 0x400D010C, [(16, 0x10)], 0x00000000, 0x00000000, 0x00000000, 0xFFFF03FF, 0x00000000, 0x00000000⟩,
  ⟨"LED_CSET_CFG", 0x400D0200, [(4, 0x40)], 0xFFFFFF03, 0x00000000, 0x00000000, 0x00000000, 0x00000000, 0xFFFFFF03⟩,
  ⟨"LED_CSET_MIX", 0x400D0204, [(4, 0x40), (4, 0x4)], 0x0000FFFF, 0x00000000, 0x00000000, 0x00000000, 0x00008000, 0x0000FFFF⟩,
  ⟨"LED_CSET_TRIM", 0x400D0214, [(4, 0x40), (4, 0x4)], 0x00000000, 0x00000000, 0x00000000, 0x0000FFFF, 0x00008000, 0x0000FFFF⟩,
  ⟨"LED_CSET_REF", 0x400D0224, [(4, 0x40), (4, 0x4)], 0xFFFFFFFF, 0x00000000, 0x00000000, 0x00000000, 0x00000000, 0xFFFFFFFF⟩,
  ⟨"LED_CSET_TEMP", 0x400D0234, [(4, 0x40)], 0x0000FFFF, 0x00000000, 0x00000000, 0x00000000, 0x00000000, 0x00000000⟩,
  ⟨"LED_TCOMP", 0x400D0400, [(4, 0x200), (4, 0x80), (17, 0x4)], 0x0000FFFF, 0x00000000, 0x00000000, 0x00000000, 0x00008000, 0x0000FFFF⟩,
  ⟨"LED_MTX_CTRL", 0x400D1000, [(4, 0x20)], 0x00003FFF, 0x00000000, 0x00000000, 0x00000000, 0x00000001, 0x00003FFF⟩,
  ⟨"LED_MTX_SRC_LO", 0x400D1004, [(4, 0x20)], 0xFFFFFFFF, 0x00000000, 0x00000000, 0x00000000, 0x00000000, 0x00000000⟩,
  ⟨"LED_MTX_SRC_HI", 0x400D1008, [(4, 0x20)], 0xFFFFFFFF, 0x00000000, 0x00000000, 0x00000000, 0x00000000, 0x00000000⟩,
  ⟨"LED_MTX_STAT", 0x400D100C, [(4, 0x20)], 0x00000000, 0x00000000, 0x00000000, 0x03FF0007, 0x00000000, 0x00000000⟩,
  ⟨"LED_MTX_SWAPS", 0x400D1010, [(4, 0x20)], 0x00000000, 0x00000000, 0xFFFFFFFF, 0x00000000, 0x00000000, 0x00000000⟩]

/-! ## MTR (R292-R307) -/

abbrev MTR_CTRL_enable : Fld := ⟨0x400E0000, 0, 1⟩
abbrev MTR_CTRL_save_s : Fld := ⟨0x400E0000, 4, 12⟩
abbrev MTR_CTRL_net : Fld := ⟨0x400E0000, 16, 4⟩
abbrev MTR_CTRL_gap_ms : Fld := ⟨0x400E0000, 20, 8⟩
abbrev MTR_STATUS_running : Fld := ⟨0x400E0004, 0, 16⟩
abbrev MTR_STATUS_restored : Fld := ⟨0x400E0004, 16, 1⟩
abbrev MTR_EVENT_save_done : Fld := ⟨0x400E0008, 0, 1⟩
abbrev MTR_EVENT_save_fail : Fld := ⟨0x400E0008, 1, 1⟩
abbrev MTR_EVENT_gap : Fld := ⟨0x400E0008, 2, 1⟩
abbrev MTR_EVENT_rate_err : Fld := ⟨0x400E0008, 3, 1⟩
abbrev MTR_EVENT_pulse_backlog : Fld := ⟨0x400E0008, 4, 1⟩
abbrev MTR_EVENT_temp_stale : Fld := ⟨0x400E0008, 5, 1⟩
abbrev MTR_EVENT_fell_back : Fld := ⟨0x400E0008, 6, 1⟩
abbrev MTR_CMD_op : Fld := ⟨0x400E000C, 0, 4⟩
abbrev MTR_CMD_index : Fld := ⟨0x400E000C, 16, 6⟩
abbrev MTR_CMD_STATUS_busy : Fld := ⟨0x400E0010, 0, 1⟩
abbrev MTR_CMD_STATUS_done : Fld := ⟨0x400E0010, 1, 1⟩
abbrev MTR_CMD_STATUS_result : Fld := ⟨0x400E0010, 8, 8⟩
abbrev MTR_EPOCH_v : Fld := ⟨0x400E0014, 0, 32⟩
abbrev MTR_SAVE_SEQ_v : Fld := ⟨0x400E0018, 0, 32⟩
abbrev MTR_SAVE_AGE_v : Fld := ⟨0x400E001C, 0, 32⟩
abbrev MTR_TEMP_theta (i : Nat) : Fld := ⟨0x400E0020 + 0x4 * i, 0, 16⟩
abbrev MTR_TC_SEL_point : Fld := ⟨0x400E0030, 0, 5⟩
abbrev MTR_TC_SEL_channel : Fld := ⟨0x400E0030, 8, 7⟩
abbrev MTR_TC_DATA_g : Fld := ⟨0x400E0034, 0, 16⟩
abbrev MTR_TC_DATA_phi : Fld := ⟨0x400E0034, 16, 16⟩
abbrev MTR_GAP_SEL_entry : Fld := ⟨0x400E0038, 0, 5⟩
abbrev MTR_GAP_COUNT_v : Fld := ⟨0x400E003C, 0, 32⟩
abbrev MTR_GAP_DATA_v (i : Nat) : Fld := ⟨0x400E0040 + 0x4 * i, 0, 32⟩
abbrev MTR_ACC_LO_v (i : Nat) : Fld := ⟨0x400E0100 + 0x8 * i, 0, 32⟩
abbrev MTR_ACC_HI_v (i : Nat) : Fld := ⟨0x400E0104 + 0x8 * i, 0, 32⟩
abbrev MTR_LEG_v (i : Nat) : Fld := ⟨0x400E0300 + 0x4 * i, 0, 32⟩
abbrev MTR_LEG_WRAP_v (i : Nat) : Fld := ⟨0x400E0400 + 0x4 * i, 0, 8⟩
abbrev MTR_SNAP_LO_v (i : Nat) : Fld := ⟨0x400E0500 + 0x8 * i, 0, 32⟩
abbrev MTR_SNAP_HI_v (i : Nat) : Fld := ⟨0x400E0504 + 0x8 * i, 0, 32⟩
abbrev MTR_FDR_V_va (i : Nat) : Fld := ⟨0x400E0800 + 0x10 * i, 0, 7⟩
abbrev MTR_FDR_V_vb (i : Nat) : Fld := ⟨0x400E0800 + 0x10 * i, 8, 7⟩
abbrev MTR_FDR_V_vc (i : Nat) : Fld := ⟨0x400E0800 + 0x10 * i, 16, 7⟩
abbrev MTR_FDR_V_mask (i : Nat) : Fld := ⟨0x400E0800 + 0x10 * i, 24, 3⟩
abbrev MTR_FDR_V_fnom_50 (i : Nat) : Fld := ⟨0x400E0800 + 0x10 * i, 28, 1⟩
abbrev MTR_FDR_V_enable (i : Nat) : Fld := ⟨0x400E0800 + 0x10 * i, 31, 1⟩
abbrev MTR_FDR_I_ia (i : Nat) : Fld := ⟨0x400E0804 + 0x10 * i, 0, 7⟩
abbrev MTR_FDR_I_ib (i : Nat) : Fld := ⟨0x400E0804 + 0x10 * i, 8, 7⟩
abbrev MTR_FDR_I_ic (i : Nat) : Fld := ⟨0x400E0804 + 0x10 * i, 16, 7⟩
abbrev MTR_FDR_I_reverse (i : Nat) : Fld := ⟨0x400E0804 + 0x10 * i, 24, 1⟩
abbrev MTR_FDR_P_v (i : Nat) : Fld := ⟨0x400E0808 + 0x10 * i, 0, 32⟩
abbrev MTR_FDR_STAT_cfg_err (i : Nat) : Fld := ⟨0x400E080C + 0x10 * i, 0, 1⟩
abbrev MTR_FDR_STAT_clipped (i : Nat) : Fld := ⟨0x400E080C + 0x10 * i, 1, 1⟩
abbrev MTR_FDR_STAT_pow2 (i : Nat) : Fld := ⟨0x400E080C + 0x10 * i, 2, 1⟩
abbrev MTR_FDR_STAT_gap (i : Nat) : Fld := ⟨0x400E080C + 0x10 * i, 3, 1⟩
abbrev MTR_PIN_CFG_enable (i : Nat) : Fld := ⟨0x400E0A00 + 0x8 * i, 0, 1⟩
abbrev MTR_PIN_CFG_active_low (i : Nat) : Fld := ⟨0x400E0A00 + 0x8 * i, 1, 1⟩
abbrev MTR_PIN_CFG_min_width_ms (i : Nat) : Fld := ⟨0x400E0A00 + 0x8 * i, 8, 8⟩
abbrev MTR_PIN_CFG_max_rate (i : Nat) : Fld := ⟨0x400E0A00 + 0x8 * i, 16, 16⟩
abbrev MTR_PIN_WEIGHT_v (i : Nat) : Fld := ⟨0x400E0A04 + 0x8 * i, 0, 32⟩
abbrev MTR_PIN_REJ_v (i : Nat) : Fld := ⟨0x400E0B00 + 0x4 * i, 0, 32⟩
abbrev MTR_POUT_CFG_enable (i : Nat) : Fld := ⟨0x400E0C00 + 0x10 * i, 0, 1⟩
abbrev MTR_POUT_CFG_src (i : Nat) : Fld := ⟨0x400E0C00 + 0x10 * i, 1, 6⟩
abbrev MTR_POUT_CFG_width_ms (i : Nat) : Fld := ⟨0x400E0C00 + 0x10 * i, 8, 8⟩
abbrev MTR_POUT_WEIGHT_v (i : Nat) : Fld := ⟨0x400E0C04 + 0x10 * i, 0, 32⟩
abbrev MTR_POUT_OWED_v (i : Nat) : Fld := ⟨0x400E0C08 + 0x10 * i, 0, 32⟩
abbrev MTR_CH_CFG_tsrc (i : Nat) : Fld := ⟨0x400E1000 + 0x4 * i, 0, 2⟩
abbrev MTR_CH_CFG_corr (i : Nat) : Fld := ⟨0x400E1000 + 0x4 * i, 2, 1⟩

/-- The registers of MTR. -/
def regsMTR : List RegDef := [
  ⟨"MTR_CTRL", 0x400E0000, [], 0x0FFFFFF1, 0x00000000, 0x00000000, 0x00000000, 0x014403C0, 0x0FFFFFF1⟩,
  ⟨"MTR_STATUS", 0x400E0004, [], 0x00000000, 0x00000000, 0x00000000, 0x0001FFFF, 0x00000000, 0x00000000⟩,
  ⟨"MTR_EVENT", 0x400E0008, [], 0x00000000, 0x0000007F, 0x00000000, 0x00000000, 0x00000000, 0x00000000⟩,
  ⟨"MTR_CMD", 0x400E000C, [], 0x00000000, 0x00000000, 0x00000000, 0x00000000, 0x00000000, 0x00000000⟩,
  ⟨"MTR_CMD_STATUS", 0x400E0010, [], 0x00000000, 0x00000002, 0x00000000, 0x0000FF01, 0x00000000, 0x00000000⟩,
  ⟨"MTR_EPOCH", 0x400E0014, [], 0x00000000, 0x00000000, 0x00000000, 0xFFFFFFFF, 0x00000000, 0xFFFFFFFF⟩,
  ⟨"MTR_SAVE_SEQ", 0x400E0018, [], 0x00000000, 0x00000000, 0x00000000, 0xFFFFFFFF, 0x00000000, 0xFFFFFFFF⟩,
  ⟨"MTR_SAVE_AGE", 0x400E001C, [], 0x00000000, 0x00000000, 0x00000000, 0xFFFFFFFF, 0x00000000, 0x00000000⟩,
  ⟨"MTR_TEMP", 0x400E0020, [(4, 0x4)], 0x0000FFFF, 0x00000000, 0x00000000, 0x00000000, 0x00000000, 0x00000000⟩,
  ⟨"MTR_TC_SEL", 0x400E0030, [], 0x00007F1F, 0x00000000, 0x00000000, 0x00000000, 0x00000000, 0x00000000⟩,
  ⟨"MTR_TC_DATA", 0x400E0034, [], 0xFFFFFFFF, 0x00000000, 0x00000000, 0x00000000, 0x00000000, 0xFFFFFFFF⟩,
  ⟨"MTR_GAP_SEL", 0x400E0038, [], 0x0000001F, 0x00000000, 0x00000000, 0x00000000, 0x00000000, 0x00000000⟩,
  ⟨"MTR_GAP_COUNT", 0x400E003C, [], 0x00000000, 0x00000000, 0x00000000, 0xFFFFFFFF, 0x00000000, 0xFFFFFFFF⟩,
  ⟨"MTR_GAP_DATA", 0x400E0040, [(8, 0x4)], 0x00000000, 0x00000000, 0x00000000, 0xFFFFFFFF, 0x00000000, 0x00000000⟩,
  ⟨"MTR_ACC_LO", 0x400E0100, [(64, 0x8)], 0x00000000, 0x00000000, 0x00000000, 0xFFFFFFFF, 0x00000000, 0xFFFFFFFF⟩,
  ⟨"MTR_ACC_HI", 0x400E0104, [(64, 0x8)], 0x00000000, 0x00000000, 0x00000000, 0xFFFFFFFF, 0x00000000, 0xFFFFFFFF⟩,
  ⟨"MTR_LEG", 0x400E0300, [(64, 0x4)], 0x00000000, 0x00000000, 0x00000000, 0xFFFFFFFF, 0x00000000, 0xFFFFFFFF⟩,
  ⟨"MTR_LEG_WRAP", 0x400E0400, [(64, 0x4)], 0x00000000, 0x00000000, 0x00000000, 0x000000FF, 0x00000000, 0x000000FF⟩,
  ⟨"MTR_SNAP_LO", 0x400E0500, [(64, 0x8)], 0x00000000, 0x00000000, 0x00000000, 0xFFFFFFFF, 0x00000000, 0x00000000⟩,
  ⟨"MTR_SNAP_HI", 0x400E0504, [(64, 0x8)], 0x00000000, 0x00000000, 0x00000000, 0xFFFFFFFF, 0x00000000, 0x00000000⟩,
  ⟨"MTR_FDR_V", 0x400E0800, [(16, 0x10)], 0x977F7F7F, 0x00000000, 0x00000000, 0x00000000, 0x00000000, 0x977F7F7F⟩,
  ⟨"MTR_FDR_I", 0x400E0804, [(16, 0x10)], 0x017F7F7F, 0x00000000, 0x00000000, 0x00000000, 0x00000000, 0x017F7F7F⟩,
  ⟨"MTR_FDR_P", 0x400E0808, [(16, 0x10)], 0x00000000, 0x00000000, 0x00000000, 0xFFFFFFFF, 0x00000000, 0x00000000⟩,
  ⟨"MTR_FDR_STAT", 0x400E080C, [(16, 0x10)], 0x00000000, 0x00000000, 0x00000000, 0x0000000F, 0x00000000, 0x00000000⟩,
  ⟨"MTR_PIN_CFG", 0x400E0A00, [(32, 0x8)], 0xFFFFFF03, 0x00000000, 0x00000000, 0x00000000, 0x00001E00, 0xFFFFFF03⟩,
  ⟨"MTR_PIN_WEIGHT", 0x400E0A04, [(32, 0x8)], 0xFFFFFFFF, 0x00000000, 0x00000000, 0x00000000, 0x00000000, 0xFFFFFFFF⟩,
  ⟨"MTR_PIN_REJ", 0x400E0B00, [(32, 0x4)], 0x00000000, 0x00000000, 0xFFFFFFFF, 0x00000000, 0x00000000, 0x00000000⟩,
  ⟨"MTR_POUT_CFG", 0x400E0C00, [(8, 0x10)], 0x0000FF7F, 0x00000000, 0x00000000, 0x00000000, 0x00005000, 0x0000FF7F⟩,
  ⟨"MTR_POUT_WEIGHT", 0x400E0C04, [(8, 0x10)], 0xFFFFFFFF, 0x00000000, 0x00000000, 0x00000000, 0x00000000, 0xFFFFFFFF⟩,
  ⟨"MTR_POUT_OWED", 0x400E0C08, [(8, 0x10)], 0x00000000, 0x00000000, 0x00000000, 0xFFFFFFFF, 0x00000000, 0xFFFFFFFF⟩,
  ⟨"MTR_CH_CFG", 0x400E1000, [(128, 0x4)], 0x00000007, 0x00000000, 0x00000000, 0x00000000, 0x00000004, 0x00000007⟩]

/-! ## LNV (R308-R318,R463) -/

abbrev LNV_CTRL_auto_resync : Fld := ⟨0x400F0000, 0, 1⟩
abbrev LNV_CTRL_fence_limit : Fld := ⟨0x400F0000, 1, 3⟩
abbrev LNV_CTRL_window_us : Fld := ⟨0x400F0000, 8, 4⟩
abbrev LNV_STATUS_mode : Fld := ⟨0x400F0004, 0, 2⟩
abbrev LNV_STATUS_lane_a : Fld := ⟨0x400F0004, 4, 3⟩
abbrev LNV_STATUS_lane_b : Fld := ⟨0x400F0004, 8, 3⟩
abbrev LNV_STATUS_lane_c : Fld := ⟨0x400F0004, 12, 3⟩
abbrev LNV_STATUS_resyncs : Fld := ⟨0x400F0004, 16, 16⟩
abbrev LNV_EVENT_disagree : Fld := ⟨0x400F0008, 0, 1⟩
abbrev LNV_EVENT_timeout : Fld := ⟨0x400F0008, 1, 1⟩
abbrev LNV_EVENT_resync_done : Fld := ⟨0x400F0008, 2, 1⟩
abbrev LNV_EVENT_resync_fail : Fld := ⟨0x400F0008, 3, 1⟩
abbrev LNV_EVENT_fenced : Fld := ⟨0x400F0008, 4, 1⟩
abbrev LNV_EVENT_l2_ue : Fld := ⟨0x400F0008, 5, 1⟩
abbrev LNV_EVENT_l1_ue : Fld := ⟨0x400F0008, 6, 1⟩
abbrev LNV_EVENT_lockup : Fld := ⟨0x400F0008, 7, 1⟩
abbrev LNV_LAST_lane : Fld := ⟨0x400F000C, 0, 2⟩
abbrev LNV_LAST_kind : Fld := ⟨0x400F000C, 2, 2⟩
abbrev LNV_LAST_hart : Fld := ⟨0x400F000C, 4, 2⟩
abbrev LNV_LAST_ADDR_LO_v : Fld := ⟨0x400F0010, 0, 32⟩
abbrev LNV_LAST_ADDR_HI_v : Fld := ⟨0x400F0014, 0, 32⟩
abbrev LNV_RESYNC_NS_v : Fld := ⟨0x400F0018, 0, 32⟩
abbrev LNV_PAUSE_NS_v : Fld := ⟨0x400F001C, 0, 32⟩
abbrev LNV_SKEW_v : Fld := ⟨0x400F0020, 0, 12⟩
abbrev LNV_DIS_CNT_v (i : Nat) : Fld := ⟨0x400F0024 + 0x4 * i, 0, 32⟩
abbrev LNV_CMD_op : Fld := ⟨0x400F0030, 0, 4⟩
abbrev LNV_CMD_lane : Fld := ⟨0x400F0030, 16, 2⟩
abbrev LNV_CMD_STATUS_busy : Fld := ⟨0x400F0034, 0, 1⟩
abbrev LNV_CMD_STATUS_done : Fld := ⟨0x400F0034, 1, 1⟩
abbrev LNV_CMD_STATUS_result : Fld := ⟨0x400F0034, 8, 8⟩

/-- The registers of LNV. -/
def regsLNV : List RegDef := [
  ⟨"LNV_CTRL", 0x400F0000, [], 0x00000F0F, 0x00000000, 0x00000000, 0x00000000, 0x00000407, 0x00000F0F⟩,
  ⟨"LNV_STATUS", 0x400F0004, [], 0x00000000, 0x00000000, 0x00000000, 0xFFFF7773, 0x00000000, 0x00000000⟩,
  ⟨"LNV_EVENT", 0x400F0008, [], 0x00000000, 0x000000FF, 0x00000000, 0x00000000, 0x00000000, 0x00000000⟩,
  ⟨"LNV_LAST", 0x400F000C, [], 0x00000000, 0x00000000, 0x00000000, 0x0000003F, 0x00000000, 0x00000000⟩,
  ⟨"LNV_LAST_ADDR_LO", 0x400F0010, [], 0x00000000, 0x00000000, 0x00000000, 0xFFFFFFFF, 0x00000000, 0x00000000⟩,
  ⟨"LNV_LAST_ADDR_HI", 0x400F0014, [], 0x00000000, 0x00000000, 0x00000000, 0xFFFFFFFF, 0x00000000, 0x00000000⟩,
  ⟨"LNV_RESYNC_NS", 0x400F0018, [], 0x00000000, 0x00000000, 0x00000000, 0xFFFFFFFF, 0x00000000, 0x00000000⟩,
  ⟨"LNV_PAUSE_NS", 0x400F001C, [], 0x00000000, 0x00000000, 0x00000000, 0xFFFFFFFF, 0x00000000, 0x00000000⟩,
  ⟨"LNV_SKEW", 0x400F0020, [], 0x00000000, 0x00000000, 0x00000000, 0x00000FFF, 0x00000000, 0x00000000⟩,
  ⟨"LNV_DIS_CNT", 0x400F0024, [(3, 0x4)], 0x00000000, 0x00000000, 0xFFFFFFFF, 0x00000000, 0x00000000, 0x00000000⟩,
  ⟨"LNV_CMD", 0x400F0030, [], 0x00000000, 0x00000000, 0x00000000, 0x00000000, 0x00000000, 0x00000000⟩,
  ⟨"LNV_CMD_STATUS", 0x400F0034, [], 0x00000000, 0x00000002, 0x00000000, 0x0000FF01, 0x00000000, 0x00000000⟩]

/-! ## MEM (R319-R327) -/

abbrev MEM_CTRL_dram_scrub : Fld := ⟨0x40100000, 0, 1⟩
abbrev MEM_CTRL_sram_scrub : Fld := ⟨0x40100000, 1, 1⟩
abbrev MEM_CTRL_larder_scrub : Fld := ⟨0x40100000, 2, 1⟩
abbrev MEM_CTRL_dram_scrub_h : Fld := ⟨0x40100000, 8, 8⟩
abbrev MEM_CTRL_larder_scrub_h : Fld := ⟨0x40100000, 16, 8⟩
abbrev MEM_CTRL_sram_scrub_min : Fld := ⟨0x40100000, 24, 8⟩
abbrev MEM_STATUS_dram_init_done : Fld := ⟨0x40100004, 0, 1⟩
abbrev MEM_STATUS_flash_ready : Fld := ⟨0x40100004, 1, 1⟩
abbrev MEM_STATUS_flash_life : Fld := ⟨0x40100004, 8, 8⟩
abbrev MEM_EVENT_ce : Fld := ⟨0x40100008, 0, 1⟩
abbrev MEM_EVENT_ue : Fld := ⟨0x40100008, 1, 1⟩
abbrev MEM_EVENT_hot : Fld := ⟨0x40100008, 2, 1⟩
abbrev MEM_EVENT_scrub_pass : Fld := ⟨0x40100008, 3, 1⟩
abbrev MEM_EVENT_fl_err : Fld := ⟨0x40100008, 4, 1⟩
abbrev MEM_EVENT_larder_wp : Fld := ⟨0x40100008, 5, 1⟩
abbrev MEM_CE_CNT_v (i : Nat) : Fld := ⟨0x40100010 + 0x4 * i, 0, 32⟩
abbrev MEM_UE_CNT_v (i : Nat) : Fld := ⟨0x40100020 + 0x4 * i, 0, 32⟩
abbrev MEM_ERR_ADDR_LO_v : Fld := ⟨0x40100030, 0, 32⟩
abbrev MEM_ERR_ADDR_HI_v : Fld := ⟨0x40100034, 0, 32⟩
abbrev MEM_ERR_INFO_region : Fld := ⟨0x40100038, 0, 2⟩
abbrev MEM_ERR_INFO_uncorrectable : Fld := ⟨0x40100038, 2, 1⟩
abbrev MEM_ERR_INFO_hot : Fld := ⟨0x40100038, 3, 1⟩
abbrev MEM_ERR_INFO_cls : Fld := ⟨0x40100038, 4, 2⟩
abbrev MEM_ERR_INFO_block : Fld := ⟨0x40100038, 8, 8⟩
abbrev MEM_FL_CMD_op : Fld := ⟨0x40100040, 0, 4⟩
abbrev MEM_FL_CMD_partition : Fld := ⟨0x40100040, 8, 2⟩
abbrev MEM_FL_SECTOR_v : Fld := ⟨0x40100044, 0, 32⟩
abbrev MEM_FL_BUF_LO_v : Fld := ⟨0x40100048, 0, 32⟩
abbrev MEM_FL_BUF_HI_v : Fld := ⟨0x4010004C, 0, 32⟩
abbrev MEM_FL_COUNT_sectors : Fld := ⟨0x40100050, 0, 13⟩
abbrev MEM_FL_STATUS_busy : Fld := ⟨0x40100054, 0, 1⟩
abbrev MEM_FL_STATUS_done : Fld := ⟨0x40100054, 1, 1⟩
abbrev MEM_FL_STATUS_result : Fld := ⟨0x40100054, 8, 8⟩
abbrev MEM_FL_USR_SECTORS_v : Fld := ⟨0x40100058, 0, 32⟩

/-- The registers of MEM. -/
def regsMEM : List RegDef := [
  ⟨"MEM_CTRL", 0x40100000, [], 0xFFFFFF07, 0x00000000, 0x00000000, 0x00000000, 0x3C181807, 0xFFFFFF07⟩,
  ⟨"MEM_STATUS", 0x40100004, [], 0x00000000, 0x00000000, 0x00000000, 0x0000FF03, 0x00000000, 0x00000000⟩,
  ⟨"MEM_EVENT", 0x40100008, [], 0x00000000, 0x0000003F, 0x00000000, 0x00000000, 0x00000000, 0x00000000⟩,
  ⟨"MEM_CE_CNT", 0x40100010, [(4, 0x4)], 0x00000000, 0x00000000, 0xFFFFFFFF, 0x00000000, 0x00000000, 0x00000000⟩,
  ⟨"MEM_UE_CNT", 0x40100020, [(4, 0x4)], 0x00000000, 0x00000000, 0xFFFFFFFF, 0x00000000, 0x00000000, 0x00000000⟩,
  ⟨"MEM_ERR_ADDR_LO", 0x40100030, [], 0x00000000, 0x00000000, 0x00000000, 0xFFFFFFFF, 0x00000000, 0x00000000⟩,
  ⟨"MEM_ERR_ADDR_HI", 0x40100034, [], 0x00000000, 0x00000000, 0x00000000, 0xFFFFFFFF, 0x00000000, 0x00000000⟩,
  ⟨"MEM_ERR_INFO", 0x40100038, [], 0x00000000, 0x00000000, 0x00000000, 0x0000FF3F, 0x00000000, 0x00000000⟩,
  ⟨"MEM_FL_CMD", 0x40100040, [], 0x00000000, 0x00000000, 0x00000000, 0x00000000, 0x00000000, 0x00000000⟩,
  ⟨"MEM_FL_SECTOR", 0x40100044, [], 0xFFFFFFFF, 0x00000000, 0x00000000, 0x00000000, 0x00000000, 0x00000000⟩,
  ⟨"MEM_FL_BUF_LO", 0x40100048, [], 0xFFFFFFFF, 0x00000000, 0x00000000, 0x00000000, 0x00000000, 0x00000000⟩,
  ⟨"MEM_FL_BUF_HI", 0x4010004C, [], 0xFFFFFFFF, 0x00000000, 0x00000000, 0x00000000, 0x00000000, 0x00000000⟩,
  ⟨"MEM_FL_COUNT", 0x40100050, [], 0x00001FFF, 0x00000000, 0x00000000, 0x00000000, 0x00000000, 0x00000000⟩,
  ⟨"MEM_FL_STATUS", 0x40100054, [], 0x00000000, 0x00000002, 0x00000000, 0x0000FF01, 0x00000000, 0x00000000⟩,
  ⟨"MEM_FL_USR_SECTORS", 0x40100058, [], 0x00000000, 0x00000000, 0x00000000, 0xFFFFFFFF, 0x007BC000, 0x00000000⟩]

/-! ## IRQ (R328-R341) -/

abbrev IRQ_CTRL_enable : Fld := ⟨0x40110000, 0, 1⟩
abbrev IRQ_CTRL_group_bits : Fld := ⟨0x40110000, 8, 2⟩
abbrev IRQ_STATUS_staged : Fld := ⟨0x40110004, 0, 13⟩
abbrev IRQ_EVENT_stage_full : Fld := ⟨0x40110008, 0, 1⟩
abbrev IRQ_EVENT_ring_full : Fld := ⟨0x40110008, 1, 1⟩
abbrev IRQ_EVENT_bad_ring : Fld := ⟨0x40110008, 2, 1⟩
abbrev IRQ_EVENT_sleep_lost : Fld := ⟨0x40110008, 3, 1⟩
abbrev IRQ_LOST_CNT_v : Fld := ⟨0x4011000C, 0, 32⟩
abbrev IRQ_SLEEP_LOST_v : Fld := ⟨0x40110010, 0, 32⟩
abbrev IRQ_MASK_v (i : Nat) : Fld := ⟨0x40110100 + 0x4 * i, 0, 32⟩
abbrev IRQ_PEND_v (i : Nat) : Fld := ⟨0x40110140 + 0x4 * i, 0, 32⟩
abbrev IRQ_WAKE_SEL_source (i : Nat) : Fld := ⟨0x40110200 + 0x4 * i, 0, 9⟩
abbrev IRQ_WAKE_SEL_enable (i : Nat) : Fld := ⟨0x40110200 + 0x4 * i, 15, 1⟩
abbrev IRQ_TGT_THRESH_thresh (i : Nat) : Fld := ⟨0x40110300 + 0x10 * i, 0, 4⟩
abbrev IRQ_TGT_MOD_mod_us (i : Nat) : Fld := ⟨0x40110304 + 0x10 * i, 0, 8⟩
abbrev IRQ_TGT_MOD_mod_count (i : Nat) : Fld := ⟨0x40110304 + 0x10 * i, 8, 8⟩
abbrev IRQ_TGT_MOD_fast_group (i : Nat) : Fld := ⟨0x40110304 + 0x10 * i, 16, 3⟩
abbrev IRQ_TGT_TOP_group (i : Nat) : Fld := ⟨0x40110308 + 0x10 * i, 0, 3⟩
abbrev IRQ_TGT_TOP_none (i : Nat) : Fld := ⟨0x40110308 + 0x10 * i, 3, 1⟩
abbrev IRQ_TGT_TOP_asserted (i : Nat) : Fld := ⟨0x40110308 + 0x10 * i, 4, 1⟩
abbrev IRQ_SRC_CFG_priority (i : Nat) : Fld := ⟨0x40111000 + 0x4 * i, 0, 8⟩
abbrev IRQ_SRC_CFG_target (i : Nat) : Fld := ⟨0x40111000 + 0x4 * i, 8, 3⟩
abbrev IRQ_RING_BASE_v (i j : Nat) : Fld := ⟨0x40112000 + 0x100 * i + 0x20 * j, 0, 32⟩
abbrev IRQ_RING_CFG_k (i j : Nat) : Fld := ⟨0x40112004 + 0x100 * i + 0x20 * j, 0, 4⟩
abbrev IRQ_RING_CFG_enable (i j : Nat) : Fld := ⟨0x40112004 + 0x100 * i + 0x20 * j, 31, 1⟩
abbrev IRQ_RING_RIDX_idx (i j : Nat) : Fld := ⟨0x40112008 + 0x100 * i + 0x20 * j, 0, 12⟩
abbrev IRQ_RING_WIDX_idx (i j : Nat) : Fld := ⟨0x4011200C + 0x100 * i + 0x20 * j, 0, 12⟩

/-- The registers of IRQ. -/
def regsIRQ : List RegDef := [
  ⟨"IRQ_CTRL", 0x40110000, [], 0x00000301, 0x00000000, 0x00000000, 0x00000000, 0x00000000, 0x00000301⟩,
  ⟨"IRQ_STATUS", 0x40110004, [], 0x00000000, 0x00000000, 0x00000000, 0x00001FFF, 0x00000000, 0x00000000⟩,
  ⟨"IRQ_EVENT", 0x40110008, [], 0x00000000, 0x0000000F, 0x00000000, 0x00000000, 0x00000000, 0x00000000⟩,
  ⟨"IRQ_LOST_CNT", 0x4011000C, [], 0x00000000, 0x00000000, 0xFFFFFFFF, 0x00000000, 0x00000000, 0x00000000⟩,
  ⟨"IRQ_SLEEP_LOST", 0x40110010, [], 0x00000000, 0x00000000, 0xFFFFFFFF, 0x00000000, 0x00000000, 0x00000000⟩,
  ⟨"IRQ_MASK", 0x40110100, [(16, 0x4)], 0xFFFFFFFF, 0x00000000, 0x00000000, 0x00000000, 0xFFFFFFFF, 0xFFFFFFFF⟩,
  ⟨"IRQ_PEND", 0x40110140, [(16, 0x4)], 0xFFFFFFFF, 0x00000000, 0x00000000, 0x00000000, 0x00000000, 0x00000000⟩,
  ⟨"IRQ_WAKE_SEL", 0x40110200, [(32, 0x4)], 0x000081FF, 0x00000000, 0x00000000, 0x00000000, 0x00000000, 0x000081FF⟩,
  ⟨"IRQ_TGT_THRESH", 0x40110300, [(8, 0x10)], 0x0000000F, 0x00000000, 0x00000000, 0x00000000, 0x00000000, 0x0000000F⟩,
  ⟨"IRQ_TGT_MOD", 0x40110304, [(8, 0x10)], 0x0007FFFF, 0x00000000, 0x00000000, 0x00000000, 0x00000000, 0x0007FFFF⟩,
  ⟨"IRQ_TGT_TOP", 0x40110308, [(8, 0x10)], 0x00000000, 0x00000000, 0x00000000, 0x0000001F, 0x00000000, 0x00000000⟩,
  ⟨"IRQ_SRC_CFG", 0x40111000, [(512, 0x4)], 0x000007FF, 0x00000000, 0x00000000, 0x00000000, 0x00000000, 0x000007FF⟩,
  ⟨"IRQ_RING_BASE", 0x40112000, [(8, 0x100), (8, 0x20)], 0xFFFFFFFF, 0x00000000, 0x00000000, 0x00000000, 0x00000000, 0xFFFFFFFF⟩,
  ⟨"IRQ_RING_CFG", 0x40112004, [(8, 0x100), (8, 0x20)], 0x8000000F, 0x00000000, 0x00000000, 0x00000000, 0x00000000, 0x8000000F⟩,
  ⟨"IRQ_RING_RIDX", 0x40112008, [(8, 0x100), (8, 0x20)], 0x00000FFF, 0x00000000, 0x00000000, 0x00000000, 0x00000000, 0x00000000⟩,
  ⟨"IRQ_RING_WIDX", 0x4011200C, [(8, 0x100), (8, 0x20)], 0x00000000, 0x00000000, 0x00000000, 0x00000FFF, 0x00000000, 0x00000000⟩]

/-! ## QUE (R342-R347) -/

abbrev QUE_STATUS_queues : Fld := ⟨0x40120004, 0, 9⟩
abbrev QUE_EVENT_ptr_reset : Fld := ⟨0x40120008, 0, 1⟩
abbrev QUE_EVENT_underrun : Fld := ⟨0x40120008, 1, 1⟩
abbrev QUE_EVENT_flushed : Fld := ⟨0x40120008, 2, 1⟩
abbrev QUE_EVENT_too_long : Fld := ⟨0x40120008, 3, 1⟩
abbrev QUE_CMD_op : Fld := ⟨0x4012000C, 0, 4⟩
abbrev QUE_CMD_queue : Fld := ⟨0x4012000C, 16, 8⟩
abbrev QUE_CMD_STATUS_busy : Fld := ⟨0x40120010, 0, 1⟩
abbrev QUE_CMD_STATUS_done : Fld := ⟨0x40120010, 1, 1⟩
abbrev QUE_CMD_STATUS_result : Fld := ⟨0x40120010, 8, 8⟩
abbrev QUE_RESET_CNT_v : Fld := ⟨0x40120014, 0, 32⟩
abbrev QUE_Q_INFO_producer (i : Nat) : Fld := ⟨0x40121000 + 0x40 * i, 0, 8⟩
abbrev QUE_Q_INFO_consumer (i : Nat) : Fld := ⟨0x40121000 + 0x40 * i, 8, 8⟩
abbrev QUE_Q_INFO_cut_through (i : Nat) : Fld := ⟨0x40121000 + 0x40 * i, 16, 1⟩
abbrev QUE_Q_INFO_present (i : Nat) : Fld := ⟨0x40121000 + 0x40 * i, 31, 1⟩
abbrev QUE_Q_SIZE_v (i : Nat) : Fld := ⟨0x40121004 + 0x40 * i, 0, 32⟩
abbrev QUE_Q_FREE_v (i : Nat) : Fld := ⟨0x40121008 + 0x40 * i, 0, 32⟩
abbrev QUE_Q_HWM_v (i : Nat) : Fld := ⟨0x4012100C + 0x40 * i, 0, 32⟩
abbrev QUE_Q_STAT_underrun (i : Nat) : Fld := ⟨0x40121010 + 0x40 * i, 0, 1⟩
abbrev QUE_Q_STAT_full (i : Nat) : Fld := ⟨0x40121010 + 0x40 * i, 1, 1⟩
abbrev QUE_Q_STAT_ptr_reset (i : Nat) : Fld := ⟨0x40121010 + 0x40 * i, 2, 1⟩
abbrev QUE_Q_STAT_flushing (i : Nat) : Fld := ⟨0x40121010 + 0x40 * i, 3, 1⟩
abbrev QUE_Q_STAT_too_long (i : Nat) : Fld := ⟨0x40121010 + 0x40 * i, 4, 1⟩
abbrev QUE_Q_STAT_units (i : Nat) : Fld := ⟨0x40121010 + 0x40 * i, 16, 16⟩
abbrev QUE_Q_DROP_v (i : Nat) : Fld := ⟨0x40121014 + 0x40 * i, 0, 32⟩
abbrev QUE_Q_WDATA_v (i : Nat) : Fld := ⟨0x40121018 + 0x40 * i, 0, 32⟩
abbrev QUE_Q_WEND_v (i : Nat) : Fld := ⟨0x4012101C + 0x40 * i, 0, 32⟩
abbrev QUE_Q_WEND_CNT_bytes (i : Nat) : Fld := ⟨0x40121020 + 0x40 * i, 0, 3⟩
abbrev QUE_Q_RDATA_v (i : Nat) : Fld := ⟨0x40121024 + 0x40 * i, 0, 32⟩
abbrev QUE_Q_RHEAD_len (i : Nat) : Fld := ⟨0x40121028 + 0x40 * i, 0, 24⟩
abbrev QUE_Q_RHEAD_aborted (i : Nat) : Fld := ⟨0x40121028 + 0x40 * i, 30, 1⟩
abbrev QUE_Q_RHEAD_valid (i : Nat) : Fld := ⟨0x40121028 + 0x40 * i, 31, 1⟩

/-- The registers of QUE. -/
def regsQUE : List RegDef := [
  ⟨"QUE_STATUS", 0x40120004, [], 0x00000000, 0x00000000, 0x00000000, 0x000001FF, 0x00000000, 0x00000000⟩,
  ⟨"QUE_EVENT", 0x40120008, [], 0x00000000, 0x0000000F, 0x00000000, 0x00000000, 0x00000000, 0x00000000⟩,
  ⟨"QUE_CMD", 0x4012000C, [], 0x00000000, 0x00000000, 0x00000000, 0x00000000, 0x00000000, 0x00000000⟩,
  ⟨"QUE_CMD_STATUS", 0x40120010, [], 0x00000000, 0x00000002, 0x00000000, 0x0000FF01, 0x00000000, 0x00000000⟩,
  ⟨"QUE_RESET_CNT", 0x40120014, [], 0x00000000, 0x00000000, 0xFFFFFFFF, 0x00000000, 0x00000000, 0x00000000⟩,
  ⟨"QUE_Q_INFO", 0x40121000, [(256, 0x40)], 0x00000000, 0x00000000, 0x00000000, 0x8001FFFF, 0x00000000, 0x00000000⟩,
  ⟨"QUE_Q_SIZE", 0x40121004, [(256, 0x40)], 0x00000000, 0x00000000, 0x00000000, 0xFFFFFFFF, 0x00000000, 0x00000000⟩,
  ⟨"QUE_Q_FREE", 0x40121008, [(256, 0x40)], 0x00000000, 0x00000000, 0x00000000, 0xFFFFFFFF, 0x00000000, 0x00000000⟩,
  ⟨"QUE_Q_HWM", 0x4012100C, [(256, 0x40)], 0x00000000, 0x00000000, 0xFFFFFFFF, 0x00000000, 0x00000000, 0x00000000⟩,
  ⟨"QUE_Q_STAT", 0x40121010, [(256, 0x40)], 0x00000000, 0x00000015, 0x00000000, 0xFFFF000A, 0x00000000, 0x00000000⟩,
  ⟨"QUE_Q_DROP", 0x40121014, [(256, 0x40)], 0x00000000, 0x00000000, 0xFFFFFFFF, 0x00000000, 0x00000000, 0x00000000⟩,
  ⟨"QUE_Q_WDATA", 0x40121018, [(256, 0x40)], 0x00000000, 0x00000000, 0x00000000, 0x00000000, 0x00000000, 0x00000000⟩,
  ⟨"QUE_Q_WEND", 0x4012101C, [(256, 0x40)], 0x00000000, 0x00000000, 0x00000000, 0x00000000, 0x00000000, 0x00000000⟩,
  ⟨"QUE_Q_WEND_CNT", 0x40121020, [(256, 0x40)], 0x00000007, 0x00000000, 0x00000000, 0x00000000, 0x00000000, 0x00000000⟩,
  ⟨"QUE_Q_RDATA", 0x40121024, [(256, 0x40)], 0x00000000, 0x00000000, 0x00000000, 0xFFFFFFFF, 0x00000000, 0x00000000⟩,
  ⟨"QUE_Q_RHEAD", 0x40121028, [(256, 0x40)], 0x00000000, 0x00000000, 0x00000000, 0xC0FFFFFF, 0x00000000, 0x00000000⟩]

/-! ## RTC (R348-R360) -/

abbrev RTC_CTRL_disc_enable : Fld := ⟨0x40030000, 0, 1⟩
abbrev RTC_CTRL_auto_cal : Fld := ⟨0x40030000, 1, 1⟩
abbrev RTC_STATUS_disciplined : Fld := ⟨0x40030004, 0, 1⟩
abbrev RTC_STATUS_slewing : Fld := ⟨0x40030004, 1, 1⟩
abbrev RTC_STATUS_set_busy : Fld := ⟨0x40030004, 2, 1⟩
abbrev RTC_STATUS_leap_now : Fld := ⟨0x40030004, 3, 1⟩
abbrev RTC_EVENT_osc_stopped : Fld := ⟨0x40030008, 0, 1⟩
abbrev RTC_EVENT_write_err : Fld := ⟨0x40030008, 1, 1⟩
abbrev RTC_EVENT_alm0 : Fld := ⟨0x40030008, 2, 1⟩
abbrev RTC_EVENT_alm1 : Fld := ⟨0x40030008, 3, 1⟩
abbrev RTC_EVENT_skipped0 : Fld := ⟨0x40030008, 4, 1⟩
abbrev RTC_EVENT_skipped1 : Fld := ⟨0x40030008, 5, 1⟩
abbrev RTC_EVENT_stepped : Fld := ⟨0x40030008, 6, 1⟩
abbrev RTC_EVENT_year_wrap : Fld := ⟨0x40030008, 7, 1⟩
abbrev RTC_EVENT_shadow_timeout : Fld := ⟨0x40030008, 8, 1⟩
abbrev RTC_CMD_cmd : Fld := ⟨0x4003000C, 0, 4⟩
abbrev RTC_TIME0_subsec : Fld := ⟨0x40030010, 0, 15⟩
abbrev RTC_TIME0_second : Fld := ⟨0x40030010, 16, 6⟩
abbrev RTC_TIME0_snap : Fld := ⟨0x40030010, 28, 4⟩
abbrev RTC_TIME1_minute : Fld := ⟨0x40030014, 0, 6⟩
abbrev RTC_TIME1_hour : Fld := ⟨0x40030014, 8, 5⟩
abbrev RTC_TIME1_weekday : Fld := ⟨0x40030014, 16, 3⟩
abbrev RTC_TIME1_snap : Fld := ⟨0x40030014, 28, 4⟩
abbrev RTC_DATE_day : Fld := ⟨0x40030018, 0, 5⟩
abbrev RTC_DATE_month : Fld := ⟨0x40030018, 8, 4⟩
abbrev RTC_DATE_year : Fld := ⟨0x40030018, 12, 14⟩
abbrev RTC_DATE_snap : Fld := ⟨0x40030018, 28, 4⟩
abbrev RTC_SET_TIME0_subsec : Fld := ⟨0x40030020, 0, 15⟩
abbrev RTC_SET_TIME0_second : Fld := ⟨0x40030020, 16, 6⟩
abbrev RTC_SET_TIME1_minute : Fld := ⟨0x40030024, 0, 6⟩
abbrev RTC_SET_TIME1_hour : Fld := ⟨0x40030024, 8, 5⟩
abbrev RTC_SET_DATE_day : Fld := ⟨0x40030028, 0, 5⟩
abbrev RTC_SET_DATE_month : Fld := ⟨0x40030028, 8, 4⟩
abbrev RTC_SET_DATE_year : Fld := ⟨0x40030028, 12, 14⟩
abbrev RTC_CAL_cal : Fld := ⟨0x40030030, 0, 10⟩
abbrev RTC_DISC_ERR_v : Fld := ⟨0x40030034, 0, 32⟩
abbrev RTC_ALM_TIME_second (i : Nat) : Fld := ⟨0x40030040 + 0x10 * i, 0, 6⟩
abbrev RTC_ALM_TIME_minute (i : Nat) : Fld := ⟨0x40030040 + 0x10 * i, 8, 6⟩
abbrev RTC_ALM_TIME_hour (i : Nat) : Fld := ⟨0x40030040 + 0x10 * i, 16, 5⟩
abbrev RTC_ALM_TIME_weekday (i : Nat) : Fld := ⟨0x40030040 + 0x10 * i, 24, 3⟩
abbrev RTC_ALM_DATE_day (i : Nat) : Fld := ⟨0x40030044 + 0x10 * i, 0, 5⟩
abbrev RTC_ALM_DATE_month (i : Nat) : Fld := ⟨0x40030044 + 0x10 * i, 8, 4⟩
abbrev RTC_ALM_DATE_year (i : Nat) : Fld := ⟨0x40030044 + 0x10 * i, 12, 14⟩
abbrev RTC_ALM_CTRL_arm (i : Nat) : Fld := ⟨0x40030048 + 0x10 * i, 0, 1⟩
abbrev RTC_ALM_CTRL_mask (i : Nat) : Fld := ⟨0x40030048 + 0x10 * i, 2, 7⟩
abbrev RTC_ALM_CTRL_wake (i : Nat) : Fld := ⟨0x40030048 + 0x10 * i, 16, 1⟩

/-- The registers of RTC. -/
def regsRTC : List RegDef := [
  ⟨"RTC_CTRL", 0x40030000, [], 0x00000003, 0x00000000, 0x00000000, 0x00000000, 0x00000003, 0x00000003⟩,
  ⟨"RTC_STATUS", 0x40030004, [], 0x00000000, 0x00000000, 0x00000000, 0x0000000F, 0x00000000, 0x00000000⟩,
  ⟨"RTC_EVENT", 0x40030008, [], 0x00000000, 0x000001FF, 0x00000000, 0x00000000, 0x00000001, 0x00000000⟩,
  ⟨"RTC_CMD", 0x4003000C, [], 0x00000000, 0x00000000, 0x00000000, 0x00000000, 0x00000000, 0x00000000⟩,
  ⟨"RTC_TIME0", 0x40030010, [], 0x00000000, 0x00000000, 0x00000000, 0xF03F7FFF, 0x00000000, 0x00000000⟩,
  ⟨"RTC_TIME1", 0x40030014, [], 0x00000000, 0x00000000, 0x00000000, 0xF0071F3F, 0x00060000, 0x00000000⟩,
  ⟨"RTC_DATE", 0x40030018, [], 0x00000000, 0x00000000, 0x00000000, 0xF3FFFF1F, 0x007D0101, 0x00000000⟩,
  ⟨"RTC_SET_TIME0", 0x40030020, [], 0x003F7FFF, 0x00000000, 0x00000000, 0x00000000, 0x00000000, 0x00000000⟩,
  ⟨"RTC_SET_TIME1", 0x40030024, [], 0x00001F3F, 0x00000000, 0x00000000, 0x00000000, 0x00000000, 0x00000000⟩,
  ⟨"RTC_SET_DATE", 0x40030028, [], 0x03FFFF1F, 0x00000000, 0x00000000, 0x00000000, 0x00000000, 0x00000000⟩,
  ⟨"RTC_CAL", 0x40030030, [], 0x000003FF, 0x00000000, 0x00000000, 0x00000000, 0x00000000, 0x000003FF⟩,
  ⟨"RTC_DISC_ERR", 0x40030034, [], 0x00000000, 0x00000000, 0x00000000, 0xFFFFFFFF, 0x00000000, 0x00000000⟩,
  ⟨"RTC_ALM_TIME", 0x40030040, [(2, 0x10)], 0x071F3F3F, 0x00000000, 0x00000000, 0x00000000, 0x01000000, 0x071F3F3F⟩,
  ⟨"RTC_ALM_DATE", 0x40030044, [(2, 0x10)], 0x03FFFF1F, 0x00000000, 0x00000000, 0x00000000, 0x007D0101, 0x03FFFF1F⟩,
  ⟨"RTC_ALM_CTRL", 0x40030048, [(2, 0x10)], 0x000101FD, 0x00000000, 0x00000000, 0x00000000, 0x000001FC, 0x000101FC⟩]

/-! ## WCH (R398-R400) -/

abbrev WCH_STATUS_vbak_ok : Fld := ⟨0x40040004, 0, 1⟩
abbrev WCH_STATUS_main_ok : Fld := ⟨0x40040004, 1, 1⟩
abbrev WCH_STATUS_on_vbak : Fld := ⟨0x40040004, 2, 1⟩
abbrev WCH_STATUS_retention : Fld := ⟨0x40040004, 3, 1⟩
abbrev WCH_WAKE_CFG_rx_enable : Fld := ⟨0x40040008, 0, 1⟩
abbrev WCH_WAKE_CFG_rx_bcast : Fld := ⟨0x40040008, 1, 1⟩
abbrev WCH_WAKE_CFG_timer_en : Fld := ⟨0x40040008, 2, 1⟩
abbrev WCH_WAKE_CFG_gio : Fld := ⟨0x40040008, 4, 4⟩
abbrev WCH_WAKE_CFG_gio_pol : Fld := ⟨0x40040008, 8, 4⟩
abbrev WCH_WAKE_CFG_console_en : Fld := ⟨0x40040008, 12, 1⟩
abbrev WCH_WAKE_ADDR_addr : Fld := ⟨0x4004000C, 0, 16⟩
abbrev WCH_WAKE_TIMER_v : Fld := ⟨0x40040010, 0, 32⟩
abbrev WCH_WAKE_CAUSE_alarm0 : Fld := ⟨0x40040014, 0, 1⟩
abbrev WCH_WAKE_CAUSE_alarm1 : Fld := ⟨0x40040014, 1, 1⟩
abbrev WCH_WAKE_CAUSE_receiver : Fld := ⟨0x40040014, 2, 1⟩
abbrev WCH_WAKE_CAUSE_timer : Fld := ⟨0x40040014, 3, 1⟩
abbrev WCH_WAKE_CAUSE_gio : Fld := ⟨0x40040014, 4, 4⟩
abbrev WCH_WAKE_CAUSE_console : Fld := ⟨0x40040014, 8, 1⟩
abbrev WCH_WAKE_CAUSE_watched : Fld := ⟨0x40040014, 9, 1⟩
abbrev WCH_WAKE_CAUSE_tamper : Fld := ⟨0x40040014, 10, 1⟩
abbrev WCH_WAKE_CAUSE_first : Fld := ⟨0x40040014, 16, 9⟩
abbrev WCH_PF_NS_v : Fld := ⟨0x40040018, 0, 32⟩
abbrev WCH_PF_SEC_LO_v : Fld := ⟨0x4004001C, 0, 32⟩
abbrev WCH_PF_SEC_HI_v : Fld := ⟨0x40040020, 0, 16⟩
abbrev WCH_RET_CNT_events : Fld := ⟨0x40040024, 0, 9⟩
abbrev WCH_RET_CNT_keys : Fld := ⟨0x40040024, 12, 4⟩

/-- The registers of WCH. -/
def regsWCH : List RegDef := [
  ⟨"WCH_STATUS", 0x40040004, [], 0x00000000, 0x00000000, 0x00000000, 0x0000000F, 0x00000000, 0x00000000⟩,
  ⟨"WCH_WAKE_CFG", 0x40040008, [], 0x00001FF7, 0x00000000, 0x00000000, 0x00000000, 0x00000000, 0x00001FF7⟩,
  ⟨"WCH_WAKE_ADDR", 0x4004000C, [], 0x0000FFFF, 0x00000000, 0x00000000, 0x00000000, 0x00000000, 0x0000FFFF⟩,
  ⟨"WCH_WAKE_TIMER", 0x40040010, [], 0xFFFFFFFF, 0x00000000, 0x00000000, 0x00000000, 0x00000000, 0x00000000⟩,
  ⟨"WCH_WAKE_CAUSE", 0x40040014, [], 0x00000000, 0x00000000, 0x00000000, 0x01FF07FF, 0x00000000, 0x00000000⟩,
  ⟨"WCH_PF_NS", 0x40040018, [], 0x00000000, 0x00000000, 0x00000000, 0xFFFFFFFF, 0x00000000, 0x00000000⟩,
  ⟨"WCH_PF_SEC_LO", 0x4004001C, [], 0x00000000, 0x00000000, 0x00000000, 0xFFFFFFFF, 0x00000000, 0x00000000⟩,
  ⟨"WCH_PF_SEC_HI", 0x40040020, [], 0x00000000, 0x00000000, 0x00000000, 0x0000FFFF, 0x00000000, 0x00000000⟩,
  ⟨"WCH_RET_CNT", 0x40040024, [], 0x00000000, 0x00000000, 0x00000000, 0x0000F1FF, 0x00000000, 0x00000000⟩]

/-! ## KEY (R361-R381) -/

abbrev KEY_STATUS_lc_state : Fld := ⟨0x40130004, 0, 3⟩
abbrev KEY_STATUS_root_ok : Fld := ⟨0x40130004, 3, 1⟩
abbrev KEY_STATUS_root_fail : Fld := ⟨0x40130004, 4, 1⟩
abbrev KEY_STATUS_tamper_latched : Fld := ⟨0x40130004, 5, 1⟩
abbrev KEY_STATUS_derive_blocked : Fld := ⟨0x40130004, 6, 1⟩
abbrev KEY_STATUS_grant : Fld := ⟨0x40130004, 8, 8⟩
abbrev KEY_STATUS_used : Fld := ⟨0x40130004, 16, 13⟩
abbrev KEY_EVENT_tamper : Fld := ⟨0x40130008, 0, 1⟩
abbrev KEY_EVENT_lc_change : Fld := ⟨0x40130008, 1, 1⟩
abbrev KEY_EVENT_op_tamper : Fld := ⟨0x40130008, 2, 1⟩
abbrev KEY_EVENT_root_fail : Fld := ⟨0x40130008, 3, 1⟩
abbrev KEY_EVENT_auth_fail : Fld := ⟨0x40130008, 4, 1⟩
abbrev KEY_EVENT_grant_expired : Fld := ⟨0x40130008, 5, 1⟩
abbrev KEY_EVENT_used_warn : Fld := ⟨0x40130008, 6, 1⟩
abbrev KEY_EVENT_retain_full : Fld := ⟨0x40130008, 7, 1⟩
abbrev KEY_CMD_op : Fld := ⟨0x4013000C, 0, 5⟩
abbrev KEY_CMD_slot : Fld := ⟨0x4013000C, 8, 6⟩
abbrev KEY_CMD_arg : Fld := ⟨0x4013000C, 16, 3⟩
abbrev KEY_CMD_aux : Fld := ⟨0x4013000C, 24, 8⟩
abbrev KEY_CMD_STATUS_busy : Fld := ⟨0x40130010, 0, 1⟩
abbrev KEY_CMD_STATUS_done : Fld := ⟨0x40130010, 1, 1⟩
abbrev KEY_CMD_STATUS_result : Fld := ⟨0x40130010, 8, 8⟩
abbrev KEY_SRC_LO_v : Fld := ⟨0x40130014, 0, 32⟩
abbrev KEY_SRC_HI_v : Fld := ⟨0x40130018, 0, 32⟩
abbrev KEY_SRC_LEN_v : Fld := ⟨0x4013001C, 0, 32⟩
abbrev KEY_DST_LO_v : Fld := ⟨0x40130020, 0, 32⟩
abbrev KEY_DST_HI_v : Fld := ⟨0x40130024, 0, 32⟩
abbrev KEY_DST_LEN_v : Fld := ⟨0x40130028, 0, 32⟩
abbrev KEY_TAMPER_CFG_enables : Fld := ⟨0x4013002C, 0, 6⟩
abbrev KEY_TAMPER_STAT_latched : Fld := ⟨0x40130030, 0, 6⟩
abbrev KEY_TAMPER_STAT_now : Fld := ⟨0x40130030, 16, 6⟩
abbrev KEY_UID_v (i : Nat) : Fld := ⟨0x40130040 + 0x4 * i, 0, 32⟩
abbrev KEY_NONCE_v (i : Nat) : Fld := ⟨0x40130050 + 0x4 * i, 0, 32⟩
abbrev KEY_MEAS_v (i : Nat) : Fld := ⟨0x40130080 + 0x4 * i, 0, 32⟩
abbrev KEY_NEXT_v (i : Nat) : Fld := ⟨0x401300C0 + 0x4 * i, 0, 32⟩
abbrev KEY_SLOT_INFO_state (i : Nat) : Fld := ⟨0x40130100 + 0x10 * i, 0, 2⟩
abbrev KEY_SLOT_INFO_key_type (i : Nat) : Fld := ⟨0x40130100 + 0x10 * i, 8, 3⟩
abbrev KEY_SLOT_INFO_flags (i : Nat) : Fld := ⟨0x40130100 + 0x10 * i, 12, 4⟩
abbrev KEY_SLOT_INFO_used (i : Nat) : Fld := ⟨0x40130100 + 0x10 * i, 16, 1⟩
abbrev KEY_SLOT_USES_v (i : Nat) : Fld := ⟨0x40130104 + 0x10 * i, 0, 32⟩
abbrev KEY_SLOT_ID_LO_v (i : Nat) : Fld := ⟨0x40130108 + 0x10 * i, 0, 32⟩
abbrev KEY_SLOT_ID_HI_v (i : Nat) : Fld := ⟨0x4013010C + 0x10 * i, 0, 32⟩

/-- The registers of KEY. -/
def regsKEY : List RegDef := [
  ⟨"KEY_STATUS", 0x40130004, [], 0x00000000, 0x00000000, 0x00000000, 0x1FFFFF7F, 0x00000000, 0x00000000⟩,
  ⟨"KEY_EVENT", 0x40130008, [], 0x00000000, 0x000000FF, 0x00000000, 0x00000000, 0x00000000, 0x00000000⟩,
  ⟨"KEY_CMD", 0x4013000C, [], 0x00000000, 0x00000000, 0x00000000, 0x00000000, 0x00000000, 0x00000000⟩,
  ⟨"KEY_CMD_STATUS", 0x40130010, [], 0x00000000, 0x00000002, 0x00000000, 0x0000FF01, 0x00000000, 0x00000000⟩,
  ⟨"KEY_SRC_LO", 0x40130014, [], 0xFFFFFFFF, 0x00000000, 0x00000000, 0x00000000, 0x00000000, 0x00000000⟩,
  ⟨"KEY_SRC_HI", 0x40130018, [], 0xFFFFFFFF, 0x00000000, 0x00000000, 0x00000000, 0x00000000, 0x00000000⟩,
  ⟨"KEY_SRC_LEN", 0x4013001C, [], 0xFFFFFFFF, 0x00000000, 0x00000000, 0x00000000, 0x00000000, 0x00000000⟩,
  ⟨"KEY_DST_LO", 0x40130020, [], 0xFFFFFFFF, 0x00000000, 0x00000000, 0x00000000, 0x00000000, 0x00000000⟩,
  ⟨"KEY_DST_HI", 0x40130024, [], 0xFFFFFFFF, 0x00000000, 0x00000000, 0x00000000, 0x00000000, 0x00000000⟩,
  ⟨"KEY_DST_LEN", 0x40130028, [], 0x00000000, 0x00000000, 0x00000000, 0xFFFFFFFF, 0x00000000, 0x00000000⟩,
  ⟨"KEY_TAMPER_CFG", 0x4013002C, [], 0x0000003F, 0x00000000, 0x00000000, 0x00000000, 0x0000003F, 0x0000003F⟩,
  ⟨"KEY_TAMPER_STAT", 0x40130030, [], 0x00000000, 0x00000000, 0x00000000, 0x003F003F, 0x00000000, 0x00000000⟩,
  ⟨"KEY_UID", 0x40130040, [(4, 0x4)], 0x00000000, 0x00000000, 0x00000000, 0xFFFFFFFF, 0x00000000, 0x00000000⟩,
  ⟨"KEY_NONCE", 0x40130050, [(8, 0x4)], 0x00000000, 0x00000000, 0x00000000, 0xFFFFFFFF, 0x00000000, 0x00000000⟩,
  ⟨"KEY_MEAS", 0x40130080, [(12, 0x4)], 0x00000000, 0x00000000, 0x00000000, 0xFFFFFFFF, 0x00000000, 0x00000000⟩,
  ⟨"KEY_NEXT", 0x401300C0, [(12, 0x4)], 0x00000000, 0x00000000, 0x00000000, 0xFFFFFFFF, 0x00000000, 0x00000000⟩,
  ⟨"KEY_SLOT_INFO", 0x40130100, [(64, 0x10)], 0x00000000, 0x00000000, 0x00000000, 0x0001F703, 0x00000000, 0x00000000⟩,
  ⟨"KEY_SLOT_USES", 0x40130104, [(64, 0x10)], 0x00000000, 0x00000000, 0x00000000, 0xFFFFFFFF, 0x00000000, 0x00000000⟩,
  ⟨"KEY_SLOT_ID_LO", 0x40130108, [(64, 0x10)], 0x00000000, 0x00000000, 0x00000000, 0xFFFFFFFF, 0x00000000, 0x00000000⟩,
  ⟨"KEY_SLOT_ID_HI", 0x4013010C, [(64, 0x10)], 0x00000000, 0x00000000, 0x00000000, 0xFFFFFFFF, 0x00000000, 0x00000000⟩]

/-! ## SYS (R382-R401,R464) -/

abbrev SYS_CTRL_fw_min_raise : Fld := ⟨0x40000000, 0, 1⟩
abbrev SYS_STATUS_state : Fld := ⟨0x40000004, 0, 3⟩
abbrev SYS_STATUS_factory_loader : Fld := ⟨0x40000004, 3, 1⟩
abbrev SYS_STATUS_fw_slot : Fld := ⟨0x40000004, 4, 1⟩
abbrev SYS_STATUS_fw_trial : Fld := ⟨0x40000004, 5, 1⟩
abbrev SYS_STATUS_reduced : Fld := ⟨0x40000004, 6, 1⟩
abbrev SYS_STATUS_settings_dirty : Fld := ⟨0x40000004, 7, 1⟩
abbrev SYS_EVENT_sleep_rejected : Fld := ⟨0x40000008, 0, 1⟩
abbrev SYS_EVENT_fw_reverted : Fld := ⟨0x40000008, 1, 1⟩
abbrev SYS_EVENT_boot_loop : Fld := ⟨0x40000008, 2, 1⟩
abbrev SYS_EVENT_settings_saved : Fld := ⟨0x40000008, 3, 1⟩
abbrev SYS_EVENT_settings_fail : Fld := ⟨0x40000008, 4, 1⟩
abbrev SYS_EVENT_pfail : Fld := ⟨0x40000008, 5, 1⟩
abbrev SYS_EVENT_epoch_wrap : Fld := ⟨0x40000008, 6, 1⟩
abbrev SYS_EVENT_reload_done : Fld := ⟨0x40000008, 7, 1⟩
abbrev SYS_EVENT_fw_staged : Fld := ⟨0x40000008, 8, 1⟩
abbrev SYS_CMD_op : Fld := ⟨0x4000000C, 0, 4⟩
abbrev SYS_CMD_confirm : Fld := ⟨0x4000000C, 16, 16⟩
abbrev SYS_CMD_STATUS_busy : Fld := ⟨0x40000010, 0, 1⟩
abbrev SYS_CMD_STATUS_done : Fld := ⟨0x40000010, 1, 1⟩
abbrev SYS_CMD_STATUS_result : Fld := ⟨0x40000010, 8, 8⟩
abbrev SYS_START_cause : Fld := ⟨0x40000014, 0, 4⟩
abbrev SYS_START_prev : Fld := ⟨0x40000014, 4, 4⟩
abbrev SYS_START_count : Fld := ⟨0x40000014, 16, 16⟩
abbrev SYS_WDOG_CFG_timeout_ms : Fld := ⟨0x40000018, 0, 16⟩
abbrev SYS_WDOG_CFG_lock : Fld := ⟨0x40000018, 31, 1⟩
abbrev SYS_WDOG_KICK_v : Fld := ⟨0x4000001C, 0, 32⟩
abbrev SYS_WDOG_LEFT_v : Fld := ⟨0x40000020, 0, 32⟩
abbrev SYS_SET_CFG_auto_s : Fld := ⟨0x40000024, 0, 8⟩
abbrev SYS_SET_SEQ_v : Fld := ⟨0x40000028, 0, 32⟩
abbrev SYS_FW_SRC_LO_v : Fld := ⟨0x4000002C, 0, 32⟩
abbrev SYS_FW_SRC_HI_v : Fld := ⟨0x40000030, 0, 32⟩
abbrev SYS_FW_LEN_v : Fld := ⟨0x40000034, 0, 32⟩
abbrev SYS_FW_MIN_SERIAL_v : Fld := ⟨0x40000038, 0, 32⟩
abbrev SYS_FW_SERIAL_v (i : Nat) : Fld := ⟨0x40000040 + 0x4 * i, 0, 32⟩

/-- The registers of SYS. -/
def regsSYS : List RegDef := [
  ⟨"SYS_CTRL", 0x40000000, [], 0x00000001, 0x00000000, 0x00000000, 0x00000000, 0x00000001, 0x00000001⟩,
  ⟨"SYS_STATUS", 0x40000004, [], 0x00000000, 0x00000000, 0x00000000, 0x000000FF, 0x00000001, 0x00000000⟩,
  ⟨"SYS_EVENT", 0x40000008, [], 0x00000000, 0x000001FF, 0x00000000, 0x00000000, 0x00000000, 0x00000000⟩,
  ⟨"SYS_CMD", 0x4000000C, [], 0x00000000, 0x00000000, 0x00000000, 0x00000000, 0x00000000, 0x00000000⟩,
  ⟨"SYS_CMD_STATUS", 0x40000010, [], 0x00000000, 0x00000002, 0x00000000, 0x0000FF01, 0x00000000, 0x00000000⟩,
  ⟨"SYS_START", 0x40000014, [], 0x00000000, 0x00000000, 0x00000000, 0xFFFF00FF, 0x00000000, 0x00000000⟩,
  ⟨"SYS_WDOG_CFG", 0x40000018, [], 0x8000FFFF, 0x00000000, 0x00000000, 0x00000000, 0x00001388, 0x8000FFFF⟩,
  ⟨"SYS_WDOG_KICK", 0x4000001C, [], 0x00000000, 0x00000000, 0x00000000, 0x00000000, 0x00000000, 0x00000000⟩,
  ⟨"SYS_WDOG_LEFT", 0x40000020, [], 0x00000000, 0x00000000, 0x00000000, 0xFFFFFFFF, 0x00000000, 0x00000000⟩,
  ⟨"SYS_SET_CFG", 0x40000024, [], 0x000000FF, 0x00000000, 0x00000000, 0x00000000, 0x0000000A, 0x000000FF⟩,
  ⟨"SYS_SET_SEQ", 0x40000028, [], 0x00000000, 0x00000000, 0x00000000, 0xFFFFFFFF, 0x00000000, 0x00000000⟩,
  ⟨"SYS_FW_SRC_LO", 0x4000002C, [], 0xFFFFFFFF, 0x00000000, 0x00000000, 0x00000000, 0x00000000, 0x00000000⟩,
  ⟨"SYS_FW_SRC_HI", 0x40000030, [], 0xFFFFFFFF, 0x00000000, 0x00000000, 0x00000000, 0x00000000, 0x00000000⟩,
  ⟨"SYS_FW_LEN", 0x40000034, [], 0xFFFFFFFF, 0x00000000, 0x00000000, 0x00000000, 0x00000000, 0x00000000⟩,
  ⟨"SYS_FW_MIN_SERIAL", 0x40000038, [], 0xFFFFFFFF, 0x00000000, 0x00000000, 0x00000000, 0x00000000, 0xFFFFFFFF⟩,
  ⟨"SYS_FW_SERIAL", 0x40000040, [(2, 0x4)], 0x00000000, 0x00000000, 0x00000000, 0xFFFFFFFF, 0x00000000, 0x00000000⟩]

/-! ## REC (R402-R410) -/

abbrev REC_CTRL_mirror_enable : Fld := ⟨0x40140000, 0, 1⟩
abbrev REC_CTRL_accept_mirror : Fld := ⟨0x40140000, 1, 1⟩
abbrev REC_STATUS_held : Fld := ⟨0x40140004, 0, 15⟩
abbrev REC_STATUS_mirror_held : Fld := ⟨0x40140004, 16, 15⟩
abbrev REC_STATUS_tail_valid : Fld := ⟨0x40140004, 31, 1⟩
abbrev REC_EVENT_lost : Fld := ⟨0x40140008, 0, 1⟩
abbrev REC_EVENT_suppressed : Fld := ⟨0x40140008, 1, 1⟩
abbrev REC_EVENT_cleared : Fld := ⟨0x40140008, 2, 1⟩
abbrev REC_EVENT_seq_wrap : Fld := ⟨0x40140008, 3, 1⟩
abbrev REC_EVENT_mirror_gap : Fld := ⟨0x40140008, 4, 1⟩
abbrev REC_EVENT_sw_bad : Fld := ⟨0x40140008, 5, 1⟩
abbrev REC_LAST_SEQ_v : Fld := ⟨0x4014000C, 0, 32⟩
abbrev REC_MIRROR_SEQ_v : Fld := ⟨0x40140010, 0, 32⟩
abbrev REC_CMD_op : Fld := ⟨0x40140014, 0, 4⟩
abbrev REC_CMD_log : Fld := ⟨0x40140014, 16, 2⟩
abbrev REC_CMD_STATUS_busy : Fld := ⟨0x40140018, 0, 1⟩
abbrev REC_CMD_STATUS_done : Fld := ⟨0x40140018, 1, 1⟩
abbrev REC_CMD_STATUS_result : Fld := ⟨0x40140018, 8, 8⟩
abbrev REC_RD_SEL_slot : Fld := ⟨0x4014001C, 0, 14⟩
abbrev REC_RD_SEL_log : Fld := ⟨0x4014001C, 16, 2⟩
abbrev REC_RD_DATA_v (i : Nat) : Fld := ⟨0x40140020 + 0x4 * i, 0, 32⟩
abbrev REC_LOST_CNT_v : Fld := ⟨0x40140040, 0, 32⟩
abbrev REC_SUP_CNT_v : Fld := ⟨0x40140044, 0, 32⟩
abbrev REC_RL_SEL_code : Fld := ⟨0x40140048, 0, 12⟩
abbrev REC_RL_CFG_burst : Fld := ⟨0x4014004C, 0, 8⟩
abbrev REC_RL_CFG_interval_ms : Fld := ⟨0x4014004C, 8, 16⟩
abbrev REC_RL_CFG_disable : Fld := ⟨0x4014004C, 31, 1⟩
abbrev REC_RL_STAT_tokens : Fld := ⟨0x40140050, 0, 8⟩
abbrev REC_RL_STAT_suppressed : Fld := ⟨0x40140050, 16, 16⟩
abbrev REC_SW_P_v (i j : Nat) : Fld := ⟨0x40140100 + 0x20 * i + 0x4 * j, 0, 32⟩
abbrev REC_SW_CODE_code (i : Nat) : Fld := ⟨0x40140110 + 0x20 * i, 0, 12⟩

/-- The registers of REC. -/
def regsREC : List RegDef := [
  ⟨"REC_CTRL", 0x40140000, [], 0x00000003, 0x00000000, 0x00000000, 0x00000000, 0x00000000, 0x00000003⟩,
  ⟨"REC_STATUS", 0x40140004, [], 0x00000000, 0x00000000, 0x00000000, 0xFFFF7FFF, 0x00000000, 0x00000000⟩,
  ⟨"REC_EVENT", 0x40140008, [], 0x00000000, 0x0000003F, 0x00000000, 0x00000000, 0x00000000, 0x00000000⟩,
  ⟨"REC_LAST_SEQ", 0x4014000C, [], 0x00000000, 0x00000000, 0x00000000, 0xFFFFFFFF, 0x00000000, 0x00000000⟩,
  ⟨"REC_MIRROR_SEQ", 0x40140010, [], 0x00000000, 0x00000000, 0x00000000, 0xFFFFFFFF, 0x00000000, 0x00000000⟩,
  ⟨"REC_CMD", 0x40140014, [], 0x00000000, 0x00000000, 0x00000000, 0x00000000, 0x00000000, 0x00000000⟩,
  ⟨"REC_CMD_STATUS", 0x40140018, [], 0x00000000, 0x00000002, 0x00000000, 0x0000FF01, 0x00000000, 0x00000000⟩,
  ⟨"REC_RD_SEL", 0x4014001C, [], 0x00033FFF, 0x00000000, 0x00000000, 0x00000000, 0x00000000, 0x00000000⟩,
  ⟨"REC_RD_DATA", 0x40140020, [(8, 0x4)], 0x00000000, 0x00000000, 0x00000000, 0xFFFFFFFF, 0x00000000, 0x00000000⟩,
  ⟨"REC_LOST_CNT", 0x40140040, [], 0x00000000, 0x00000000, 0xFFFFFFFF, 0x00000000, 0x00000000, 0x00000000⟩,
  ⟨"REC_SUP_CNT", 0x40140044, [], 0x00000000, 0x00000000, 0xFFFFFFFF, 0x00000000, 0x00000000, 0x00000000⟩,
  ⟨"REC_RL_SEL", 0x40140048, [], 0x00000FFF, 0x00000000, 0x00000000, 0x00000000, 0x00000000, 0x00000000⟩,
  ⟨"REC_RL_CFG", 0x4014004C, [], 0x80FFFFFF, 0x00000000, 0x00000000, 0x00000000, 0x00006410, 0x80FFFFFF⟩,
  ⟨"REC_RL_STAT", 0x40140050, [], 0x00000000, 0x00000000, 0x00000000, 0xFFFF00FF, 0x00000010, 0x00000000⟩,
  ⟨"REC_SW_P", 0x40140100, [(4, 0x20), (4, 0x4)], 0xFFFFFFFF, 0x00000000, 0x00000000, 0x00000000, 0x00000000, 0x00000000⟩,
  ⟨"REC_SW_CODE", 0x40140110, [(4, 0x20)], 0x00000000, 0x00000000, 0x00000000, 0x00000000, 0x00000000, 0x00000000⟩]

/-! ## PRF (R411-R414) -/

abbrev PRF_CTRL_freeze : Fld := ⟨0x40150000, 0, 1⟩
abbrev PRF_CMD_op : Fld := ⟨0x40150004, 0, 4⟩
abbrev PRF_CMD_k : Fld := ⟨0x40150004, 16, 5⟩
abbrev PRF_EVENT_sel_limit : Fld := ⟨0x40150008, 0, 1⟩
abbrev PRF_EVENT_smp_high : Fld := ⟨0x40150008, 1, 1⟩
abbrev PRF_EVENT_smp_full : Fld := ⟨0x40150008, 2, 1⟩
abbrev PRF_FROZEN_NS_v : Fld := ⟨0x4015000C, 0, 32⟩
abbrev PRF_SNAP_NS_v : Fld := ⟨0x40150010, 0, 32⟩
abbrev PRF_SNAP_SEC_LO_v : Fld := ⟨0x40150014, 0, 32⟩
abbrev PRF_SNAP_SEC_HI_v : Fld := ⟨0x40150018, 0, 16⟩
abbrev PRF_SW_INC_events : Fld := ⟨0x4015001C, 0, 16⟩
abbrev PRF_SMP_CFG_n : Fld := ⟨0x40150020, 0, 16⟩
abbrev PRF_SMP_CFG_jitter : Fld := ⟨0x40150020, 16, 1⟩
abbrev PRF_SMP_CFG_mode : Fld := ⟨0x40150020, 17, 1⟩
abbrev PRF_SMP_CFG_kinds : Fld := ⟨0x40150020, 18, 4⟩
abbrev PRF_SMP_CFG_harts : Fld := ⟨0x40150020, 22, 4⟩
abbrev PRF_SMP_CFG_regions : Fld := ⟨0x40150020, 26, 5⟩
abbrev PRF_SMP_STAT_held : Fld := ⟨0x40150024, 0, 11⟩
abbrev PRF_SMP_SEL_index : Fld := ⟨0x40150028, 0, 10⟩
abbrev PRF_SMP_DATA_v (i : Nat) : Fld := ⟨0x40150040 + 0x4 * i, 0, 32⟩
abbrev PRF_SEL_CFG_event (i : Nat) : Fld := ⟨0x40150400 + 0x10 * i, 0, 8⟩
abbrev PRF_SEL_CFG_run (i : Nat) : Fld := ⟨0x40150400 + 0x10 * i, 8, 1⟩
abbrev PRF_SEL_CFG_limit (i : Nat) : Fld := ⟨0x40150400 + 0x10 * i, 9, 1⟩
abbrev PRF_SEL_LO_v (i : Nat) : Fld := ⟨0x40150404 + 0x10 * i, 0, 32⟩
abbrev PRF_SEL_HI_v (i : Nat) : Fld := ⟨0x40150408 + 0x10 * i, 0, 32⟩
abbrev PRF_SEL_LIMIT_v (i : Nat) : Fld := ⟨0x4015040C + 0x10 * i, 0, 32⟩
abbrev PRF_SELSNAP_LO_v (i : Nat) : Fld := ⟨0x40150600 + 0x8 * i, 0, 32⟩
abbrev PRF_SELSNAP_HI_v (i : Nat) : Fld := ⟨0x40150604 + 0x8 * i, 0, 32⟩
abbrev PRF_CNT_LO_v (i : Nat) : Fld := ⟨0x40151000 + 0x8 * i, 0, 32⟩
abbrev PRF_CNT_HI_v (i : Nat) : Fld := ⟨0x40151004 + 0x8 * i, 0, 32⟩
abbrev PRF_SNAP_LO_v (i : Nat) : Fld := ⟨0x40151800 + 0x8 * i, 0, 32⟩
abbrev PRF_SNAP_HI_v (i : Nat) : Fld := ⟨0x40151804 + 0x8 * i, 0, 32⟩

/-- The registers of PRF. -/
def regsPRF : List RegDef := [
  ⟨"PRF_CTRL", 0x40150000, [], 0x00000001, 0x00000000, 0x00000000, 0x00000000, 0x00000000, 0x00000000⟩,
  ⟨"PRF_CMD", 0x40150004, [], 0x00000000, 0x00000000, 0x00000000, 0x00000000, 0x00000000, 0x00000000⟩,
  ⟨"PRF_EVENT", 0x40150008, [], 0x00000000, 0x00000007, 0x00000000, 0x00000000, 0x00000000, 0x00000000⟩,
  ⟨"PRF_FROZEN_NS", 0x4015000C, [], 0x00000000, 0x00000000, 0xFFFFFFFF, 0x00000000, 0x00000000, 0x00000000⟩,
  ⟨"PRF_SNAP_NS", 0x40150010, [], 0x00000000, 0x00000000, 0x00000000, 0xFFFFFFFF, 0x00000000, 0x00000000⟩,
  ⟨"PRF_SNAP_SEC_LO", 0x40150014, [], 0x00000000, 0x00000000, 0x00000000, 0xFFFFFFFF, 0x00000000, 0x00000000⟩,
  ⟨"PRF_SNAP_SEC_HI", 0x40150018, [], 0x00000000, 0x00000000, 0x00000000, 0x0000FFFF, 0x00000000, 0x00000000⟩,
  ⟨"PRF_SW_INC", 0x4015001C, [], 0x00000000, 0x00000000, 0x00000000, 0x00000000, 0x00000000, 0x00000000⟩,
  ⟨"PRF_SMP_CFG", 0x40150020, [], 0x7FFFFFFF, 0x00000000, 0x00000000, 0x00000000, 0x7FFC0000, 0x7FFFFFFF⟩,
  ⟨"PRF_SMP_STAT", 0x40150024, [], 0x00000000, 0x00000000, 0x00000000, 0x000007FF, 0x00000000, 0x00000000⟩,
  ⟨"PRF_SMP_SEL", 0x40150028, [], 0x000003FF, 0x00000000, 0x00000000, 0x00000000, 0x00000000, 0x00000000⟩,
  ⟨"PRF_SMP_DATA", 0x40150040, [(8, 0x4)], 0x00000000, 0x00000000, 0x00000000, 0xFFFFFFFF, 0x00000000, 0x00000000⟩,
  ⟨"PRF_SEL_CFG", 0x40150400, [(32, 0x10)], 0x000003FF, 0x00000000, 0x00000000, 0x00000000, 0x00000000, 0x000003FF⟩,
  ⟨"PRF_SEL_LO", 0x40150404, [(32, 0x10)], 0x00000000, 0x00000000, 0x00000000, 0xFFFFFFFF, 0x00000000, 0x00000000⟩,
  ⟨"PRF_SEL_HI", 0x40150408, [(32, 0x10)], 0x00000000, 0x00000000, 0x00000000, 0xFFFFFFFF, 0x00000000, 0x00000000⟩,
  ⟨"PRF_SEL_LIMIT", 0x4015040C, [(32, 0x10)], 0xFFFFFFFF, 0x00000000, 0x00000000, 0x00000000, 0x00000000, 0xFFFFFFFF⟩,
  ⟨"PRF_SELSNAP_LO", 0x40150600, [(32, 0x8)], 0x00000000, 0x00000000, 0x00000000, 0xFFFFFFFF, 0x00000000, 0x00000000⟩,
  ⟨"PRF_SELSNAP_HI", 0x40150604, [(32, 0x8)], 0x00000000, 0x00000000, 0x00000000, 0xFFFFFFFF, 0x00000000, 0x00000000⟩,
  ⟨"PRF_CNT_LO", 0x40151000, [(256, 0x8)], 0x00000000, 0x00000000, 0x00000000, 0xFFFFFFFF, 0x00000000, 0x00000000⟩,
  ⟨"PRF_CNT_HI", 0x40151004, [(256, 0x8)], 0x00000000, 0x00000000, 0x00000000, 0xFFFFFFFF, 0x00000000, 0x00000000⟩,
  ⟨"PRF_SNAP_LO", 0x40151800, [(256, 0x8)], 0x00000000, 0x00000000, 0x00000000, 0xFFFFFFFF, 0x00000000, 0x00000000⟩,
  ⟨"PRF_SNAP_HI", 0x40151804, [(256, 0x8)], 0x00000000, 0x00000000, 0x00000000, 0xFFFFFFFF, 0x00000000, 0x00000000⟩]

/-! ## HLT (R415-R419) -/

abbrev HLT_CTRL_enable : Fld := ⟨0x40160000, 0, 1⟩
abbrev HLT_CTRL_holdup_test : Fld := ⟨0x40160000, 1, 1⟩
abbrev HLT_EVENT_near : Fld := ⟨0x40160008, 0, 1⟩
abbrev HLT_EVENT_reached : Fld := ⟨0x40160008, 1, 1⟩
abbrev HLT_EVENT_holdup_short : Fld := ⟨0x40160008, 2, 1⟩
abbrev HLT_EVENT_holdup_fail : Fld := ⟨0x40160008, 3, 1⟩
abbrev HLT_EVENT_history_lost : Fld := ⟨0x40160008, 4, 1⟩
abbrev HLT_SEL_index : Fld := ⟨0x4016000C, 0, 6⟩
abbrev HLT_IND_U_u : Fld := ⟨0x40160010, 0, 16⟩
abbrev HLT_IND_U_days : Fld := ⟨0x40160010, 16, 7⟩
abbrev HLT_IND_EOL_day : Fld := ⟨0x40160014, 0, 5⟩
abbrev HLT_IND_EOL_month : Fld := ⟨0x40160014, 8, 4⟩
abbrev HLT_IND_EOL_year : Fld := ⟨0x40160014, 12, 14⟩
abbrev HLT_IND_EOL_state : Fld := ⟨0x40160014, 28, 2⟩
abbrev HLT_IND_RAW_LO_v : Fld := ⟨0x40160018, 0, 32⟩
abbrev HLT_IND_RAW_HI_v : Fld := ⟨0x4016001C, 0, 32⟩
abbrev HLT_IND_RATED_v : Fld := ⟨0x40160020, 0, 32⟩
abbrev HLT_CMD_op : Fld := ⟨0x40160024, 0, 4⟩
abbrev HLT_CMD_STATUS_busy : Fld := ⟨0x40160028, 0, 1⟩
abbrev HLT_CMD_STATUS_done : Fld := ⟨0x40160028, 1, 1⟩
abbrev HLT_CMD_STATUS_result : Fld := ⟨0x40160028, 8, 8⟩
abbrev HLT_HOLDUP_C_v : Fld := ⟨0x4016002C, 0, 32⟩
abbrev HLT_HOLDUP_R_esr : Fld := ⟨0x40160030, 0, 16⟩
abbrev HLT_HOLDUP_R_e : Fld := ⟨0x40160030, 16, 16⟩
abbrev HLT_STR_SRC_v : Fld := ⟨0x40160034, 0, 32⟩
abbrev HLT_WARN_pct : Fld := ⟨0x40160038, 0, 7⟩

/-- The registers of HLT. -/
def regsHLT : List RegDef := [
  ⟨"HLT_CTRL", 0x40160000, [], 0x00000003, 0x00000000, 0x00000000, 0x00000000, 0x00000003, 0x00000003⟩,
  ⟨"HLT_EVENT", 0x40160008, [], 0x00000000, 0x0000001F, 0x00000000, 0x00000000, 0x00000000, 0x00000000⟩,
  ⟨"HLT_SEL", 0x4016000C, [], 0x0000003F, 0x00000000, 0x00000000, 0x00000000, 0x00000000, 0x00000000⟩,
  ⟨"HLT_IND_U", 0x40160010, [], 0x00000000, 0x00000000, 0x00000000, 0x007FFFFF, 0x00000000, 0x007FFFFF⟩,
  ⟨"HLT_IND_EOL", 0x40160014, [], 0x00000000, 0x00000000, 0x00000000, 0x33FFFF1F, 0x10000000, 0x33FFFF1F⟩,
  ⟨"HLT_IND_RAW_LO", 0x40160018, [], 0x00000000, 0x00000000, 0x00000000, 0xFFFFFFFF, 0x00000000, 0xFFFFFFFF⟩,
  ⟨"HLT_IND_RAW_HI", 0x4016001C, [], 0x00000000, 0x00000000, 0x00000000, 0xFFFFFFFF, 0x00000000, 0xFFFFFFFF⟩,
  ⟨"HLT_IND_RATED", 0x40160020, [], 0xFFFFFFFF, 0x00000000, 0x00000000, 0x00000000, 0x00000000, 0xFFFFFFFF⟩,
  ⟨"HLT_CMD", 0x40160024, [], 0x00000000, 0x00000000, 0x00000000, 0x00000000, 0x00000000, 0x00000000⟩,
  ⟨"HLT_CMD_STATUS", 0x40160028, [], 0x00000000, 0x00000002, 0x00000000, 0x0000FF01, 0x00000000, 0x00000000⟩,
  ⟨"HLT_HOLDUP_C", 0x4016002C, [], 0x00000000, 0x00000000, 0x00000000, 0xFFFFFFFF, 0x00000000, 0xFFFFFFFF⟩,
  ⟨"HLT_HOLDUP_R", 0x40160030, [], 0x00000000, 0x00000000, 0x00000000, 0xFFFFFFFF, 0x00000000, 0xFFFFFFFF⟩,
  ⟨"HLT_STR_SRC", 0x40160034, [], 0xFFFFFFFF, 0x00000000, 0x00000000, 0x00000000, 0x00000000, 0xFFFFFFFF⟩,
  ⟨"HLT_WARN", 0x40160038, [], 0x0000007F, 0x00000000, 0x00000000, 0x00000000, 0x00000050, 0x0000007F⟩]

/-! ## PTN (R422-R436) -/

abbrev PTN_CTRL_enable : Fld := ⟨0x40170000, 0, 1⟩
abbrev PTN_CTRL_shadow : Fld := ⟨0x40170000, 1, 1⟩
abbrev PTN_STATUS_state : Fld := ⟨0x40170004, 0, 3⟩
abbrev PTN_STATUS_link_up : Fld := ⟨0x40170004, 3, 1⟩
abbrev PTN_STATUS_net_heard : Fld := ⟨0x40170004, 4, 1⟩
abbrev PTN_STATUS_mirror_stale : Fld := ⟨0x40170004, 5, 1⟩
abbrev PTN_STATUS_synced : Fld := ⟨0x40170004, 6, 1⟩
abbrev PTN_STATUS_term : Fld := ⟨0x40170004, 16, 16⟩
abbrev PTN_EVENT_takeover : Fld := ⟨0x40170008, 0, 1⟩
abbrev PTN_EVENT_link_down : Fld := ⟨0x40170008, 1, 1⟩
abbrev PTN_EVENT_net_lost : Fld := ⟨0x40170008, 2, 1⟩
abbrev PTN_EVENT_split : Fld := ⟨0x40170008, 3, 1⟩
abbrev PTN_EVENT_demoted : Fld := ⟨0x40170008, 4, 1⟩
abbrev PTN_EVENT_sync_done : Fld := ⟨0x40170008, 5, 1⟩
abbrev PTN_EVENT_pattern_mismatch : Fld := ⟨0x40170008, 6, 1⟩
abbrev PTN_EVENT_drill_done : Fld := ⟨0x40170008, 7, 1⟩
abbrev PTN_EVENT_drill_skipped : Fld := ⟨0x40170008, 8, 1⟩
abbrev PTN_EVENT_drill_fail : Fld := ⟨0x40170008, 9, 1⟩
abbrev PTN_CFG_port : Fld := ⟨0x4017000C, 0, 2⟩
abbrev PTN_CFG_side : Fld := ⟨0x4017000C, 2, 1⟩
abbrev PTN_CFG_hb_ms : Fld := ⟨0x4017000C, 4, 8⟩
abbrev PTN_CFG_miss : Fld := ⟨0x4017000C, 12, 4⟩
abbrev PTN_CFG_seek_s : Fld := ⟨0x4017000C, 16, 8⟩
abbrev PTN_CFG_key_slot : Fld := ⟨0x4017000C, 24, 6⟩
abbrev PTN_DRILL_interval_d : Fld := ⟨0x40170010, 0, 8⟩
abbrev PTN_DRILL_at_min : Fld := ⟨0x40170010, 8, 11⟩
abbrev PTN_CMD_op : Fld := ⟨0x40170014, 0, 4⟩
abbrev PTN_CMD_STATUS_busy : Fld := ⟨0x40170018, 0, 1⟩
abbrev PTN_CMD_STATUS_done : Fld := ⟨0x40170018, 1, 1⟩
abbrev PTN_CMD_STATUS_result : Fld := ⟨0x40170018, 8, 8⟩
abbrev PTN_BLOB_BASE_LO_v : Fld := ⟨0x4017001C, 0, 32⟩
abbrev PTN_BLOB_BASE_HI_v : Fld := ⟨0x40170020, 0, 32⟩
abbrev PTN_BLOB_SIZE_bytes : Fld := ⟨0x40170024, 0, 21⟩
abbrev PTN_MSEQ_v : Fld := ⟨0x40170028, 0, 32⟩
abbrev PTN_ACK_v : Fld := ⟨0x4017002C, 0, 32⟩
abbrev PTN_TAKE_NS_v : Fld := ⟨0x40170030, 0, 32⟩
abbrev PTN_TAKE_SEC_LO_v : Fld := ⟨0x40170034, 0, 32⟩
abbrev PTN_TAKE_SEC_HI_v : Fld := ⟨0x40170038, 0, 16⟩
abbrev PTN_MACC_EPOCH_v : Fld := ⟨0x40170040, 0, 32⟩
abbrev PTN_MACC_SEQ_v : Fld := ⟨0x40170044, 0, 32⟩
abbrev PTN_MACC_AGE_v : Fld := ⟨0x40170048, 0, 32⟩
abbrev PTN_MACC_LO_v (i : Nat) : Fld := ⟨0x40170100 + 0x8 * i, 0, 32⟩
abbrev PTN_MACC_HI_v (i : Nat) : Fld := ⟨0x40170104 + 0x8 * i, 0, 32⟩

/-- The registers of PTN. -/
def regsPTN : List RegDef := [
  ⟨"PTN_CTRL", 0x40170000, [], 0x00000003, 0x00000000, 0x00000000, 0x00000000, 0x00000002, 0x00000003⟩,
  ⟨"PTN_STATUS", 0x40170004, [], 0x00000000, 0x00000000, 0x00000000, 0xFFFF007F, 0x00000000, 0xFFFF0000⟩,
  ⟨"PTN_EVENT", 0x40170008, [], 0x00000000, 0x000003FF, 0x00000000, 0x00000000, 0x00000000, 0x00000000⟩,
  ⟨"PTN_CFG", 0x4017000C, [], 0x3FFFFFF7, 0x00000000, 0x00000000, 0x00000000, 0x000550A0, 0x3FFFFFF7⟩,
  ⟨"PTN_DRILL", 0x40170010, [], 0x0007FFFF, 0x00000000, 0x00000000, 0x00000000, 0x00007807, 0x0007FFFF⟩,
  ⟨"PTN_CMD", 0x40170014, [], 0x00000000, 0x00000000, 0x00000000, 0x00000000, 0x00000000, 0x00000000⟩,
  ⟨"PTN_CMD_STATUS", 0x40170018, [], 0x00000000, 0x00000002, 0x00000000, 0x0000FF01, 0x00000000, 0x00000000⟩,
  ⟨"PTN_BLOB_BASE_LO", 0x4017001C, [], 0xFFFFFFFF, 0x00000000, 0x00000000, 0x00000000, 0x00000000, 0xFFFFFFFF⟩,
  ⟨"PTN_BLOB_BASE_HI", 0x40170020, [], 0xFFFFFFFF, 0x00000000, 0x00000000, 0x00000000, 0x00000000, 0xFFFFFFFF⟩,
  ⟨"PTN_BLOB_SIZE", 0x40170024, [], 0x001FFFFF, 0x00000000, 0x00000000, 0x00000000, 0x00000000, 0x001FFFFF⟩,
  ⟨"PTN_MSEQ", 0x40170028, [], 0x00000000, 0x00000000, 0x00000000, 0xFFFFFFFF, 0x00000000, 0x00000000⟩,
  ⟨"PTN_ACK", 0x4017002C, [], 0x00000000, 0x00000000, 0x00000000, 0xFFFFFFFF, 0x00000000, 0x00000000⟩,
  ⟨"PTN_TAKE_NS", 0x40170030, [], 0x00000000, 0x00000000, 0x00000000, 0xFFFFFFFF, 0x00000000, 0xFFFFFFFF⟩,
  ⟨"PTN_TAKE_SEC_LO", 0x40170034, [], 0x00000000, 0x00000000, 0x00000000, 0xFFFFFFFF, 0x00000000, 0xFFFFFFFF⟩,
  ⟨"PTN_TAKE_SEC_HI", 0x40170038, [], 0x00000000, 0x00000000, 0x00000000, 0x0000FFFF, 0x00000000, 0x0000FFFF⟩,
  ⟨"PTN_MACC_EPOCH", 0x40170040, [], 0x00000000, 0x00000000, 0x00000000, 0xFFFFFFFF, 0x00000000, 0x00000000⟩,
  ⟨"PTN_MACC_SEQ", 0x40170044, [], 0x00000000, 0x00000000, 0x00000000, 0xFFFFFFFF, 0x00000000, 0x00000000⟩,
  ⟨"PTN_MACC_AGE", 0x40170048, [], 0x00000000, 0x00000000, 0x00000000, 0xFFFFFFFF, 0x00000000, 0x00000000⟩,
  ⟨"PTN_MACC_LO", 0x40170100, [(64, 0x8)], 0x00000000, 0x00000000, 0x00000000, 0xFFFFFFFF, 0x00000000, 0x00000000⟩,
  ⟨"PTN_MACC_HI", 0x40170104, [(64, 0x8)], 0x00000000, 0x00000000, 0x00000000, 0xFFFFFFFF, 0x00000000, 0x00000000⟩]

/-- LMP_CLASS_LIFT[k]: four registers with resets of their own. -/
abbrev LMP_CLASS_LIFT_level (k : Nat) : Fld := ⟨0x400A0038 + 4 * k, 0, 10⟩

/-- The registers of the block with number `n` (R13); none outside the 25 blocks. -/
def regsOfBlock : Nat → List RegDef
  | 0x00 => regsSYS
  | 0x01 => regsPAT
  | 0x02 => regsTBS
  | 0x03 => regsRTC
  | 0x04 => regsWCH
  | 0x05 => regsING
  | 0x06 => regsALN
  | 0x07 => regsGAN
  | 0x08 => regsCRY
  | 0x09 => regsSMP
  | 0x0A => regsLMP
  | 0x0B => regsRAD
  | 0x0C => regsFLT
  | 0x0D => regsLED
  | 0x0E => regsMTR
  | 0x0F => regsLNV
  | 0x10 => regsMEM
  | 0x11 => regsIRQ
  | 0x12 => regsQUE
  | 0x13 => regsKEY
  | 0x14 => regsREC
  | 0x15 => regsPRF
  | 0x16 => regsHLT
  | 0x17 => regsPTN
  | 0x18 => regsNET
  | _ => []

/-- Whether the distance `off` from an array's first register lies on one of its registers. -/
def dimsFit : List (Nat × Nat) → Nat → Bool
  | [], off => off == 0
  | (n, st) :: ds, off => decide (off / st < n) && dimsFit ds (off % st)

/-- Whether the register definition covers the address. -/
def RegDef.covers (d : RegDef) (a : Nat) : Bool :=
  decide (d.addr ≤ a) && dimsFit d.dims (a - d.addr)

/-- The identity register at offset 0xFFFC of a block (R14): read only. -/
def identDef (a : Nat) : RegDef := ⟨"IDENT", a, [], 0, 0, 0, 0xFFFFFFFF, 0, 0⟩

/-- The register definition at an address (R4: blocks of 64 KiB from 0x4000_0000), if a register occupies it. -/
def regDefAt (a : Nat) : Option RegDef :=
  if 0x40000000 ≤ a ∧ a < 0x40190000 then
    if a % 0x10000 = 0xFFFC then some (identDef a)
    else (regsOfBlock ((a - 0x40000000) / 0x10000)).find? (fun d => d.covers a)
  else none

/-- The values fixed at manufacture (R465, R14, the TBS and KEY register maps): words the spec does not state. The base MAC
address is a unicast one. -/
def factoryWord (a : Nat) : Option W32 :=
  if a = 0x40180060 then some (Config.baseMacLo &&& 0xFFFFFFFE)
  else if a = 0x40180064 then some (Config.baseMacHi &&& 0xFFFF)
  else if a % 0x10000 = 0xFFFC ∧ 0x40000000 ≤ a ∧ a < 0x40190000 then
    some (0x5A380000 ||| BitVec.ofNat 32 (((a - 0x40000000) / 0x10000) * 0x100)
      ||| (Config.siliconIssue ((a - 0x40000000) / 0x10000) &&& 0xFF))
  else if 0x40020040 ≤ a ∧ a < 0x40020058 ∧ a % 4 = 0 then some (Config.portLat ((a - 0x40020040) / 4))
  else if 0x40130040 ≤ a ∧ a < 0x40130050 ∧ a % 4 = 0 then some (Config.uid ((a - 0x40130040) / 4))
  else none

/-- What a register reads after a reset that initialises its block (R7); an offset no register occupies reads 0 (R6). -/
def resetOf (a : Nat) : W32 :=
  match factoryWord a with
  | some v => v
  | none => match regDefAt a with
    | some d => d.reset
    | none => 0

/-- The bits of a register that a restore from the Larder brings back (R7). -/
def savedMask (a : Nat) : W32 :=
  match regDefAt a with
  | some d => d.saved
  | none => 0

end Sys2Proof.Machine
end

