-- ==== Sys2Proof/Machine/Table.lean ====
section
/-! DEFINITION. Sorted tables of key and value, the plain-data form of every sparse store of the model. -/

namespace Sys2Proof.Machine

/-- The value at a key, if the table lists one. -/
def tblGet {α : Type} : List (Nat × α) → Nat → Option α
  | [], _ => none
  | (j, v) :: t, k => if j = k then some v else tblGet t k

/-- The table with the key listed at the value, keys kept rising. -/
def tblPut {α : Type} (k : Nat) (v : α) : List (Nat × α) → List (Nat × α)
  | [] => [(k, v)]
  | (j, u) :: t =>
    if j < k then (j, u) :: tblPut k v t
    else if j = k then (k, v) :: t
    else (k, v) :: (j, u) :: t

/-- The table with the key no longer listed. -/
def tblDel {α : Type} (k : Nat) : List (Nat × α) → List (Nat × α)
  | [] => []
  | (j, u) :: t => if j = k then tblDel k t else (j, u) :: tblDel k t

/-- The table without the keys that satisfy `p`. -/
def tblDrop {α : Type} (p : Nat → Bool) (t : List (Nat × α)) : List (Nat × α) :=
  t.filter (fun e => !p e.1)

/-- Whether keys are strictly rising. -/
def tblRising {α : Type} : List (Nat × α) → Bool
  | [] => true
  | [_] => true
  | (j, _) :: (k, v) :: t => decide (j < k) && tblRising ((k, v) :: t)

end Sys2Proof.Machine
end

