-- ==== Sys2Proof/Machine/Regs.lean ====
section
/-! DEFINITION. The register file: the words that registers now hold, where they differ from a fresh reset or were
written since, and the read and write of a register word and of one field. -/

namespace Sys2Proof.Machine

/-- The register file: address and word, addresses rising. An address not listed holds its reset value. -/
abbrev Regs := List (Nat × W32)

/-- The word a register holds. -/
def Regs.rd (rs : Regs) (a : Nat) : W32 :=
  match tblGet rs a with
  | some v => v
  | none => resetOf a

/-- The register file with a register's word stored. -/
def Regs.wr (rs : Regs) (a : Nat) (v : W32) : Regs := tblPut a v rs

/-- Bits lo to lo + width - 1 of a word. -/
def fldOf (w : W32) (lo width : Nat) : Nat := (w.extractLsb' lo width).toNat

/-- A word with bits lo to lo + width - 1 replaced by the low bits of `n`. -/
def fldPut (w : W32) (lo width n : Nat) : W32 :=
  (w &&& ~~~(((BitVec.allOnes width).setWidth 32) <<< lo))
    ||| (((BitVec.ofNat width n).setWidth 32) <<< lo)

/-- A field's value. -/
def Regs.fld (rs : Regs) (f : Fld) : Nat := fldOf (rs.rd f.addr) f.lo f.width

/-- A one-bit field as a truth value. -/
def Regs.bit (rs : Regs) (f : Fld) : Bool := rs.fld f != 0

/-- The register file with one field set (the low bits of `n`), the register's other bits kept. -/
def Regs.put (rs : Regs) (f : Fld) (n : Nat) : Regs :=
  rs.wr f.addr (fldPut (rs.rd f.addr) f.lo f.width n)

/-- The register file with a counter field raised by `n`, holding at its largest value. -/
def Regs.bump (rs : Regs) (f : Fld) (n : Nat) : Regs :=
  rs.put f (min (rs.fld f + n) (2 ^ f.width - 1))

/-- The register file with the registers whose address satisfies `p` at reset (R7). -/
def Regs.resetWhere (rs : Regs) (p : Nat → Bool) : Regs := tblDrop p rs

/-- The register file after a write of `v` at `a` by the access codes of R5: RW bits take `v`, a 1 clears a W1C bit,
every other bit stays; an offset no register occupies is ignored (R6). -/
def Regs.busWrite (rs : Regs) (a : Nat) (v : W32) : Regs :=
  match regDefAt a with
  | none => rs
  | some d =>
    let old := rs.rd a
    rs.wr a (((old &&& ~~~d.rw) ||| (v &&& d.rw)) &&& ~~~(v &&& d.w1c))

/-- The register file after a bus read at `a`: RC bits clear (R5). -/
def Regs.busRead (rs : Regs) (a : Nat) : Regs :=
  match regDefAt a with
  | none => rs
  | some d => if d.rc = 0 then rs else rs.wr a (rs.rd a &&& ~~~d.rc)

end Sys2Proof.Machine
end

