-- ==== Sys2Proof/Machine/Units.lean ====
section
/-! DEFINITION. What travels in Cooper queues: the units of R342 with their contents. -/

namespace Sys2Proof.Machine

/-- A value of a checked record: the float32 word and whether it is valid. -/
structure FVal where
  w : W32
  ok : Bool
  deriving DecidableEq, Repr

/-- A checked record (R97), or a local-phasor record of the same contents: entry index, group, accepted instant and
arrival in TAI ns, STAT, time-quality code, time_unchecked, and the converted values (magnitude and angle share one
valid bit). -/
structure Checked where
  entry : Nat
  isLocal : Bool
  group : Nat
  instant : Nat
  arrival : Nat
  stat : Nat
  tq : Nat
  unchecked : Bool
  phasors : List (W32 × W32 × Bool)
  freq : FVal
  dfreq : FVal
  analog : List FVal
  digital : List Nat
  deriving DecidableEq, Repr

/-- The bytes a checked record takes (R97): a 52-byte header and the values, padded to 8. -/
def Checked.len (c : Checked) : Nat :=
  8 * ((52 + 8 * c.phasors.length + 4 * c.analog.length + 2 * c.digital.length + 7) / 8)

/-- The headers of a datagram the module builds: IPv4 without options, with its time to live, and UDP (R124, R158,
R164). -/
structure UdpHdr where
  srcIp : Nat
  dstIp : Nat
  ttl : Nat
  srcPort : Nat
  dstPort : Nat
  deriving DecidableEq, Repr

/-- What a port sends: a frame the switch forwards, a datagram, a TCP segment, a layer 2 frame or a PTP message of a
domain that the module builds. -/
inductive TxBody where
  | eth (f : EthFrame)
  | udp (h : UdpHdr) (data : List Byte)
  | tcp (conn : Nat) (seq ack window : Nat) (data : List Byte)
  | l2 (etype : Nat) (data : List Byte)
  | ptp (domain : Nat) (m : PtpMsg)
  deriving DecidableEq, Repr

/-- A datagram that the module builds in hardware: TTL 64 (R124, R158, R164). -/
def TxBody.datagram (srcIp dstIp srcPort dstPort : Nat) (data : List Byte) : TxBody :=
  .udp ⟨srcIp, dstIp, 64, srcPort, dstPort⟩ data

/-- The bytes of a frame the module builds, from the destination address to the FCS, with a VLAN tag (the count of
chapter 07's largest unit). A PTP message does not cross a queue (R17). -/
def TxBody.len : TxBody → Nat
  | .eth f => 22 + f.payload.length
  | .udp _ d => 50 + d.length
  | .tcp _ _ _ _ d => 62 + d.length
  | .l2 _ d => 22 + d.length
  | .ptp _ _ => 0

/-- The contents of a queue unit, by the path of R17 it travels: bytes, a checked record, a record fanned
by another module (R170), or a frame for the switch, which goes to one port or as the switch has learned. -/
inductive UnitBody where
  | bytes (b : List Byte)
  | checked (c : Checked)
  | fanned (origin : Nat) (r : List Byte)
  | frame (port : Option Nat) (g : VTag) (dst : Nat) (body : TxBody)
  deriving DecidableEq, Repr

/-- A unit held by a queue (R342): its contents, its length in bytes and whether it was ended with aborted set. -/
structure QUnit where
  body : UnitBody
  len : Nat
  aborted : Bool
  deriving DecidableEq, Repr

end Sys2Proof.Machine
end

