-- ==== Sys2Proof/Machine/Blocks.lean ====
section
/-! DEFINITION. The state of each block beyond its registers, as plain data. -/

namespace Sys2Proof.Machine

/-- The operating states of the module (R29). -/
inductive OpState where
  | cold | waking | restoring | serving | degraded | holding | sleep | stopped
  deriving DecidableEq, Repr

/-! ## Timebase (R59 to R78) -/

/-- An armed trigger unit: the first instant, the period (0 one-shot) and the next instant, TAI ns (R74). -/
structure TrgArm where
  first : Nat
  period : Nat
  next : Nat
  /-- Grid instants have been passed by a step or at arming: after the fire at `next` the unit goes on past it. -/
  jump : Bool
  /-- Up-time of the arming (R77). -/
  armed : Nat
  deriving DecidableEq, Repr

/-- What the estimate of R71 rests on from an instant on: the counter and the true time then, whether the servo is LOCKED, the
estimate, and where it grows by R70 the true time it grows from and whether REF10M_IN is in use. -/
structure TqPast where
  ns : Nat
  up : Nat
  locked : Bool
  est : Option Nat
  grows : Option (Nat × Bool)
  deriving DecidableEq, Repr

structure TbState where
  /-- The tb_sources byte in force (R62): that of the active pattern, which a pattern-reload reset leaves (R67). -/
  list : Nat
  /-- The time counter: TAI since the epoch in units of 2^-32 ns (R59). -/
  now : Nat
  /-- True time elapsed, ns: what timers of a stated length count by; no step moves it. -/
  up : Nat
  /-- Frequency term, 2^-32 ns per CLK_TB edge (R59). -/
  freq : Int
  /-- Correction the slew term has yet to remove, 2^-32 ns (R68). -/
  slew : Int
  good : Nat
  bad : Nat
  /-- Offsets of the last samples in ns, newest first, at most 8 (R71). -/
  offs : List Int
  e0 : Option Nat
  lastGood : Nat
  /-- The stated inaccuracy of the source of the last sample in ns; none where it states none (R71). -/
  inacc : Option Nat
  holdCmd : Bool
  everLocked : Bool
  sampled : Bool
  fromRtc : Bool
  ptpValid : Bool
  ppsValid : Bool
  refValid : Bool
  ppsLast : Option Nat
  ppsRun : Nat
  master : Option PtpMaster
  masterPort : Nat
  /-- A better master not yet qualified, and its Announce messages so far. -/
  foreign : Option (PtpMaster × Nat)
  /-- Up-time of the master's last Announce. -/
  lastAnn : Nat
  /-- The last whole second that ticked (R75). -/
  tickSec : Nat
  /-- Two-step Sync messages whose Follow_Up is awaited: sequence, receive stamp in ns, correction. -/
  syncWait : List (Nat × Nat × Int)
  /-- Delay requests sent: sequence, port and transmit stamp. -/
  delayWait : List (Nat × (Nat × Nat))
  /-- Sync receive stamp and master time of the last Sync, for the end-to-end delay. -/
  lastSync : Option (Nat × Int)
  /-- The end-to-end delay to the master, and the link delay of each port on the peer-to-peer profiles, in ns (R63). -/
  pathDelay : Int
  linkDelay : List (Nat × Int)
  ptpSeq : Nat
  ppsOut : Bool
  ppsRoseAt : Nat
  /-- The last whole second at which the PPS_OUT comparator fired (R75, R77). -/
  ppsSec : Nat
  leapAt : Option Nat
  trg : List (Nat × TrgArm)
  /-- Capture FIFOs: unit and stamps in 2^-16 ns, oldest first (R76). -/
  cap : List (Nat × List Nat)
  /-- CLK_FAB, CLK_TB, CLK_MEM and CLK_SMP fractions of a cycle counted so far, in 1/10,000 (R411). -/
  cyc : List Nat
  /-- Per target and selector, the CLK_TB edge of the last fire that acted (R73). -/
  acted : List (Nat × Nat)
  /-- Output pulses of target 0x5 (R73): the trigger-output selector and the up-time at which the pulse ends. -/
  pulses : List (Nat × Nat)
  /-- What the estimate rested on at earlier instants, newest first: a phasor record tells the quality at its instant (R194). -/
  quals : List TqPast
  deriving DecidableEq, Repr

/-! ## Interrupt records (R328 to R341) -/

/-- An event a block has raised, or one that is staged (R329): source, parameter, stamp and the record flags
software, woke and retained (R330). -/
structure IrqEvent where
  source : Nat
  param : Nat
  stamp : Nat
  software : Bool
  woke : Bool
  retained : Bool
  deriving DecidableEq, Repr

structure IrqState where
  /-- Block events on their way to the staging store, oldest first. -/
  raised : List IrqEvent
  /-- The staging store (R329), in arrival order. -/
  staged : List IrqEvent
  /-- Sources whose next record carries the flag lost. -/
  lost : List Nat
  /-- Per target, the up-time of the first record written while its interrupt was held back (R335). -/
  first : List (Nat × Nat)
  /-- Harts waiting in WFI in every running lane. -/
  idle : List Nat
  /-- Watchman retention: staged events saved at SLEEP entry (R339). -/
  retained : List IrqEvent
  /-- Watcher k: stamp of the first event and parameter of the last (R339). -/
  watch : List (Nat × Nat × Nat)
  deriving DecidableEq, Repr

/-! ## Cooper queues (R342 to R347) -/

/-- A lane store held at a full queue: whether it ends the unit, the word and the byte count (R346). -/
structure HeldStore where
  ends : Bool
  word : W32
  count : Nat
  deriving DecidableEq, Repr

/-- One queue's state. -/
structure QState where
  /-- Units held that have ended, oldest first. -/
  units : List QUnit
  /-- Bytes of the unit the lanes are writing, in order. -/
  part : Option (List Byte)
  /-- The unit being written has passed max_unit (R346). -/
  overrun : Bool
  /-- The producer's remaining bytes of its current unit are discarded (R343). -/
  discard : Bool
  /-- Bytes of the head unit the lanes have read. -/
  rpos : Nat
  /-- A FLUSH waits for the next packet boundary, since this up-time in ns (R345). -/
  flush : Option Nat
  /-- The head unit ends for its consumer with aborted set (R343). -/
  headAborted : Bool
  last : W32
  held : Option HeldStore
  /-- Write and read pointers, each held twice (R343). -/
  wp : Nat
  wp2 : Nat
  rp : Nat
  rp2 : Nat
  deriving DecidableEq, Repr

def QState.empty : QState :=
  ⟨[], none, false, false, 0, none, false, 0, none, 0, 0, 0, 0⟩

/-! ## Scrivener, Tallyman, Cobbler (R402 to R419) -/

/-- A record on its way into the Scrivener: R402 without seq and the flags the Scrivener gives. -/
structure RawRec where
  code : Nat
  software : Bool
  unsync : Bool
  block : Nat
  stamp : Nat
  p0 : Nat
  p1 : Nat
  p2 : Nat
  p3 : Nat
  deriving DecidableEq, Repr

/-- A written record (R402). -/
structure RecEntry where
  code : Nat
  flags : Nat
  block : Nat
  seq : Nat
  stamp : Nat
  p0 : Nat
  p1 : Nat
  p2 : Nat
  p3 : Nat
  deriving DecidableEq, Repr

/-- The token bucket of one code (R406): configuration, tokens, suppressed count and compact stamp of the first
suppressed record, and the up-time (ns) from which the next token's interval runs. -/
structure Bucket where
  burst : Nat
  intervalMs : Nat
  disable : Bool
  tokens : Nat
  sup : Nat
  firstSup : Nat
  since : Nat
  deriving DecidableEq, Repr

structure RecState where
  fifo : List RawRec
  nextSeq : Nat
  /-- Records lost since the last LOST record, the up-time of the last loss, and the flag for the next record. -/
  lostCount : Nat
  lastLoss : Nat
  lostFlag : Bool
  buckets : List (Nat × Bucket)
  log0 : List (Nat × RecEntry)
  log1 : List (Nat × RecEntry)
  /-- Log 2, the Larder tail: newest first. -/
  tail : List RecEntry
  deriving DecidableEq, Repr

/-- A sample of the lanes' requests (R414). -/
structure Sample where
  pc : Nat
  addr : Nat
  insn : Nat
  latency : Nat
  kind : Nat
  hart : Nat
  region : Nat
  flags : Nat
  stamp : Nat
  deriving DecidableEq, Repr

structure PrfState where
  cnt : List (Nat × Nat)
  sel : List (Nat × Nat)
  snap : List (Nat × Nat)
  selSnap : List (Nat × Nat)
  frozenAt : Option Nat
  /-- The sampling buffer, newest first. -/
  samples : List Sample
  /-- Matching requests still to pass before the next sample. -/
  gap : Nat
  lfsr : Nat
  deriving DecidableEq, Repr

/-- A rational number, numerator over positive denominator (denominator 0 reads as 1). -/
structure Ratio where
  num : Int
  den : Nat
  deriving DecidableEq, Repr

/-- A calendar date (R348). -/
structure Date where
  year : Nat
  month : Nat
  day : Nat
  deriving DecidableEq, Repr

/-- A wear indicator (R415): raw quantity, rated value, reference C0 or ESR0, history of (day number, u) newest first,
date and state of the prediction, the day u first reached 1, and whether `near` was raised. -/
structure Indicator where
  raw : Int
  rated : Nat
  ref : Option Nat
  hist : List (Nat × Ratio)
  eol : Date
  eolState : Nat
  reachedDay : Option Nat
  nearSet : Bool
  deriving DecidableEq, Repr

structure HltState where
  ind : List (Nat × Indicator)
  lastDay : Option Nat
  /-- Latest hold-up measurement taken: C in µF and ESR in mΩ. -/
  c : Option Nat
  esr : Option Nat
  /-- Frequency term sums of indicator 3 for the day: sum in 2^-32 ns per edge and count of samples, ns LOCKED, and
  whether REF10M_IN set the frequency. -/
  fSum : Int
  fCnt : Nat
  lockedNs : Nat
  refUsed : Bool
  deriving DecidableEq, Repr

/-! ## Pattern loader (R51 to R58) -/

/-- What VERIFY found: the error code, section and offset of the first failure, or the pattern (R48). -/
inductive Verdict where
  | ok (p : Pattern)
  | bad (code sec off : Nat)
  deriving DecidableEq, Repr

structure PatState where
  active : Pattern
  /-- The inactive banks: the verified pattern, or after the barrier the previous one. -/
  inactive : Option Pattern
  verdict : Option Verdict
  barrier : Nat
  /-- Up-time of the barrier of the pattern on trial (R54). -/
  trialFrom : Nat
  committing : Bool
  /-- The accepted Larder slot, 0 or 1; none when the Larder is blank (R55). -/
  marker : Option Nat
  /-- PAT_MIN_SERIAL as saved in the Larder (R58). -/
  savedMin : Nat
  deriving DecidableEq, Repr

/-! ## Network (R22, R23) -/

/-- A frame on a port's wire: the port, its tag, the destination and source addresses and the body. -/
structure TxFrame where
  port : Nat
  tag : Option VTag
  dst : Nat
  src : Nat
  body : TxBody
  deriving DecidableEq, Repr

/-- A frame that the host buffer holds until its consumer's queue has room: for the lanes, or for stream ingress. -/
inductive HostBody where
  | lanes (b : List Byte)
  | c37 (f : C37Frame)
  deriving DecidableEq, Repr

/-- A held frame: its class (R23), its bytes in the buffer and its contents. -/
structure HostFrame where
  cls : Nat
  len : Nat
  body : HostBody
  deriving DecidableEq, Repr

structure NetState where
  /-- Learned addresses: VLAN × 2^48 + MAC, and the port, 6 being the host port. -/
  fdb : List (Nat × Nat)
  /-- The model's own: every frame sent so far, newest first. -/
  wire : List TxFrame
  /-- The host buffer (R23): frames that wait for room in their consumer's queue, oldest first. -/
  host : List HostFrame
  /-- Frames of blocks that wait for room in their queue to the switch, oldest first: the block, the port where it is
  named, tag, destination and body (R127). -/
  wait : List (Nat × Option Nat × VTag × Nat × TxBody)
  deriving DecidableEq, Repr

/-! ## Stream ingress (R79 to R106) -/

/-- A cached stream-table or lantern-table entry: its bytes, dirty since an up-time, and when last used (a count). -/
structure CacheLine where
  bytes : List Byte
  dirty : Option Nat
  used : Nat
  deriving DecidableEq, Repr

/-- What stream ingress keeps of a head: the chain's entries, the state (R98), the newest reporting-instant index, the
512-bit history (bit j is index newest - j), whether cfg_change was seen, and the up-time silence counts from. -/
structure Head where
  chain : List Nat
  state : Nat
  newest : Option Nat
  hist : Nat
  cfgSeen : Bool
  since : Nat
  deriving DecidableEq, Repr

/-- An attached TCP connection (R82, R83). -/
structure TcpConn where
  v6 : Bool
  remote : List Byte
  local_ : List Byte
  remotePort : Nat
  localPort : Nat
  rcvNext : Nat
  buf : List Byte
  unacked : Option Nat
  full : Nat
  deriving DecidableEq, Repr

structure IngState where
  map : List (Nat × Nat)
  cache : List (Nat × CacheLine)
  heads : List (Nat × Head)
  conns : List (Nat × TcpConn)
  uses : Nat
  deriving DecidableEq, Repr

/-! ## Time alignment (R107 to R127) -/

/-- A member slot: status 0 present, 1 missing, 2 absent, 3 too_large (R113), the counts of the member's values, the
record placed, and the arrival of a record that came after closure while the slot was missing (R117). -/
structure AlnSlot where
  entry : Nat
  status : Nat
  phn : Nat
  ann : Nat
  dgn : Nat
  value : Option Checked
  late : Option Nat
  deriving DecidableEq, Repr

/-- A set, open or closed and still in the ring: instant (TAI ns), window in ms, slots, whether open, whether its window
has run out, the header flags stepped, gap and over_members, reason, seq, the number of slots the group had written
before it, and whether its latency sample was taken. -/
structure AlnSet where
  instant : Nat
  window : Nat
  slots : List AlnSlot
  isOpen : Bool
  expired : Bool
  stepped : Bool
  gap : Bool
  overrun : Bool
  reason : Nat
  seq : Nat
  pos : Nat
  sampled : Bool
  deriving DecidableEq, Repr

/-- A group: its sets in order of instant, ring slots taken since its ring began, seq and instant of the last closed set,
whether it runs and since which instant, the causes of a marker that wait for the next set (an epoch tick, a step, the start,
a mode change; R120), whether the next set carries gap, the adaptive window in ms, its latency samples newest first, and its
members. -/
structure AlnGroup where
  sets : List AlnSet
  written : Nat
  seq : Nat
  lastClosed : Option Nat
  running : Bool
  runFrom : Nat
  tick : Bool
  step : Bool
  start : Bool
  mode : Bool
  gap : Bool
  window : Nat
  samples : List Nat
  known : List Nat
  deriving DecidableEq, Repr

structure AlnState where
  groups : List (Nat × AlnGroup)
  /-- Notices that wait for room, oldest first (R122). -/
  notices : List (List Byte)
  /-- The stamp of the last step, TAI ns (R120). -/
  lastStep : Option Nat
  deriving DecidableEq, Repr

/-! ## Grid analytics (R128 to R155) -/

/-- A monitor: output bits of R148, the closure stamp of its last update, the words shown as value and rate, the history
of R134 newest first (value and instant), and the previous usable difference of a pair (R135). -/
structure GanMon where
  outs : Nat
  upd : Option Nat
  val : W32
  rate : W32
  hist : List (Ratio × Nat)
  prev : Option (Ratio × Nat)
  deriving DecidableEq, Repr

/-- A Tuner signal: band energies and bits, closure stamps of the last sample and the last report, consecutive unusable
samples, last usable value, instant of the first usable sample since the start, valid flags, the report (frequency,
damping, amplitude, phase; its second; reports so far), damping_low with its ratio, the second whose report is due, the input
and the decimated samples since the signal started or restarted, newest first, and for an unwrapped angle the raw one and
the whole turns added. -/
structure GanTun where
  energy : List W32
  bits : Nat
  upd : Option Nat
  dampUpd : Option Nat
  hold : Nat
  last : Option W32
  first : Option Nat
  bandsValid : Bool
  modesValid : Bool
  modes : List (W32 × W32 × W32 × W32)
  rptSec : Nat
  rptSeq : Nat
  damp : Bool
  lowZeta : W32
  due : Option Nat
  xs : List W32
  dec : List W32
  turn : Option (W32 × Int)
  deriving DecidableEq, Repr

/-- A Surveyor edge (R144): the kept breaker bit with its instant, counts, and its state at the last tick. -/
structure GanEdge where
  kept : Option (Bool × Nat)
  cntOver : Nat
  cntUnder : Nat
  freqOpen : Bool
  statusOpen : Bool
  statusUnknown : Bool
  freqUnknown : Bool
  diff : W32
  deriving DecidableEq, Repr

structure GanSvy where
  /-- Per node the kept frequency and its instant (R143). -/
  freq : List (Nat × (W32 × Nat))
  edges : List (Nat × GanEdge)
  labels : List (Nat × Nat)
  /-- Stale and separated nodes at the last tick. -/
  stale : List Nat
  sep : List Nat
  count : Option Nat
  change : Bool
  split : Bool
  merge : Bool
  digest : Nat
  /-- Closure stamp of the last tick's set. -/
  upd : Option Nat
  deriving DecidableEq, Repr

/-- A rule (R150, R151): state 0 IDLE to 4 LATCHED, count, raised records, and the last evaluation: term values, stale
terms, and of its set the seq, instant, closure, the header flags, component count and digest. -/
structure GanRule where
  state : Nat
  count : Nat
  hits : Nat
  values : Nat
  stale : Nat
  seq : Nat
  instant : Nat
  closed : Nat
  flags : Nat
  comps : Nat
  digest : Nat
  deriving DecidableEq, Repr

structure GanState where
  /-- Monitors, by kind × 65536 + number. -/
  mons : List (Nat × GanMon)
  tuns : List (Nat × GanTun)
  svy : GanSvy
  rules : List (Nat × GanRule)
  /-- Run-time parameters: bytes 4 to 15 of changed items, by kind × 65536 + number (R154). -/
  params : List (Nat × List Byte)
  /-- The last epoch marker of each group, TAI ns (R129). -/
  base : List (Nat × Nat)
  /-- Records that wait for the Crier queue, oldest first (R151). -/
  waiting : List (List Byte)
  deriving DecidableEq, Repr

/-! ## Locksmith (R361 to R381) -/

/-- A key slot: state 0 empty, 1 loaded, 2 zeroised by tamper, 3 anchor (with its kind), the 48-byte policy header and
the key. -/
structure KeySlot where
  state : Nat
  kind : Nat
  header : List Byte
  key : List Byte
  deriving DecidableEq, Repr

structure KeyState where
  root : Option (List Byte)
  slots : List (Nat × KeySlot)
  /-- The Locksmith area of the Larder: life-cycle state, whether helper data is enrolled, anchor table, used key_ids. -/
  lc : Nat
  helper : Bool
  anchors : List (Nat × List Byte)
  used : List Nat
  /-- Stage digests of the measurement chain: boot ROM, firmware, pattern (R362). -/
  digests : List (List Byte)
  /-- Digest of the staged firmware image (R371). -/
  staged : Option (List Byte)
  /-- The challenge: nonce, up-time when drawn, and whether used. -/
  nonce : Option (List Byte × Nat × Bool)
  /-- The grant: op, arg, up-time when given. -/
  grant : Option (Nat × Nat × Nat)
  /-- Watchman retention (R378). -/
  retained : List (Nat × KeySlot)
  /-- Consecutive abnormal and normal samples of the loops A and B. -/
  abnormal : List Nat
  normal : List Nat
  deriving DecidableEq, Repr

/-! ## Crier (R156 to R177) -/

/-- A GOOSE control block (R160, R161): the descriptor read last, stNum, sqNum, the interval to the next transmission in
ms, the record published, its TAI instant, and the up-time of the last frame. -/
structure Gcb where
  desc : List Byte
  stNum : Nat
  sqNum : Nat
  interval : Nat
  scr : List Byte
  stamp : Nat
  sentUp : Nat
  deriving DecidableEq, Repr

/-- A global operation at this module (R173): the header of the announcement, payload, T in TAI ns, the module it came
from, its trigger unit, its state (1 ARMED, 3 EXECUTED), whether it confirmed, modules whose confirmation is awaited, and
the counts on_time, late_exec, late_skip, absent, unsure of its subtree. -/
structure Gop where
  origin : Nat
  opId : Nat
  kind : Nat
  flags : Nat
  t : Nat
  fan : Nat
  depth : Nat
  size : Nat
  arg : Nat
  aborted : Bool
  header : List Byte
  payload : List Byte
  parent : Nat
  unit : Option Nat
  state : Nat
  confirmed : Bool
  kids : List Nat
  counts : List Nat
  deriving DecidableEq, Repr

/-- A barrier (R175): whether this module entered, with late_exec, children that entered, whether BARRIER_ENTER was sent
on or the release begun, and the up-time of the first entry. -/
structure Barrier where
  entered : Bool
  late : Bool
  kids : List Nat
  passed : Bool
  since : Nat
  deriving DecidableEq, Repr

structure CryState where
  gcbs : List (Nat × Gcb)
  /-- Messages sent within the epoch. -/
  seq : Nat
  opSeq : Nat
  /-- Per sender × 2 + member: the last epoch and seq accepted (R165). -/
  peers : List (Nat × (Nat × Nat))
  /-- The last 256 (origin, op_id) pairs of ALARM_FAN and of operations handled, newest first. -/
  fans : List (Nat × Nat)
  seen : List (Nat × Nat)
  /-- The system table as read last: module and entry. -/
  table : List (Nat × List Byte)
  /-- Maps of children, the whole map, up-time each neighbour was last heard, modules down (R168). -/
  kidMaps : List (Nat × Nat)
  map : Nat
  heard : List (Nat × Nat)
  down : List Nat
  ops : List Gop
  bars : List (Nat × Barrier)
  /-- Fanned records that wait for room in the Crier queue, or, where the pattern has no such queue, to be taken: origin and
  record (R170). -/
  fanned : List (Nat × List Byte)
  /-- Units that wait for the Lamplighter queue. -/
  lamp : List (List Byte)
  hbUp : Nat
  liveUp : Nat
  /-- Up-time from which neighbours are expected: the reset of the block, or brodsan_enable going to 1 (R168). -/
  since : Nat
  /-- A takeover has come, and the next record takes alarm_seq 0 (R430). -/
  zero : Bool
  deriving DecidableEq, Repr

def CryState.init : CryState :=
  ⟨[], 0, 0, [], [], [], [], [], 0, [], [], [], [], [], [], 0, 0, 0, false⟩

/-! ## Sieve (R178 to R197) -/

/-- The channel configuration in force (R196): enable, preset, fnom_50, link or subscription, word or value. -/
structure ChCfg where
  en : Bool
  preset : Nat
  fnom50 : Bool
  src : Nat
  word : Nat
  deriving DecidableEq, Repr

/-- An input sample a channel keeps: the absolute count of its instant, its value (for an invalid sample the last valid one,
which replaces it, R189), whether it was valid, clipped and unsynchronised, and whether the channel stood in HOLD or TEST. -/
structure Past where
  n : Nat
  x : W32
  valid : Bool
  clipped : Bool
  unsync : Bool
  barred : Bool
  deriving DecidableEq, Repr

/-- A channel: state (R188), consecutive valid and invalid samples, the last valid sample, samples since its filter was
cleared, the newest input samples since it left OFF, newest first, the envelope, RMS and its validity, the output grid in
force (a preset code or 0x80 + k; none before its first output instant) and the largest |x| since the last phasor report. -/
structure Chan where
  cfg : ChCfg
  state : Nat
  run : Nat
  bad : Nat
  last : W32
  fill : Nat
  xs : List Past
  env : W32
  rms : W32
  rmsOk : Bool
  grid : Option Nat
  ivPeak : W32
  deriving DecidableEq, Repr

/-- A conversion of the ADC links: its instant, whether it lies on the grid, links whose frame is awaited, and the words
of the frames read (none: invalid). -/
structure Conv where
  inst : Nat
  good : Bool
  wait : List Nat
  got : List (Nat × Option (List W32))
  deriving DecidableEq, Repr

structure SmpState where
  chans : List (Nat × Chan)
  /-- Conversions not swept yet, oldest first. -/
  convs : List Conv
  /-- Sampled values stored: subscription, absolute count and the ASDU's values with simulate applied and smpSynch. -/
  sv : List (Nat × Nat × SvAsdu × Bool)
  /-- The last instant of sampled values processed, 2^-16 ns. -/
  svDone : Option Nat
  /-- Records so far, per grid. -/
  seqs : List (Nat × Nat)
  /-- Records held for the Assayer and for alignment, oldest first (R192). -/
  holdA : List QUnit
  holdP : List QUnit
  /-- Grids whose next record carries stepped or gap, by grid, and whether any later one of each does. -/
  stepped : List Nat
  gap : List Nat
  /-- Per phasor set written, the reporting instant from which the write holds; and the words that held before, each with the
  instant that ended it, oldest first (R196). -/
  setAt : List (Nat × Nat)
  setWas : List (Nat × Nat × Nat)
  /-- The last reporting instant sent, and the instant windows restart from. -/
  lastRpt : Option Nat
  restart : Nat
  deriving DecidableEq, Repr

def SmpState.init : SmpState := ⟨[], [], [], none, [], [], [], [], [], [], [], none, 0⟩

/-! ## Lamplighter (R198 to R222) -/

/-- A loaded field-table entry (R206): group, flags, grid class, neighbour slots (index 0xFFFF empty) with distances in
0.5 m. -/
structure FieldEnt where
  group : Nat
  flags : Nat
  cls : Nat
  nbr : List (Nat × Nat)
  deriving DecidableEq, Repr

/-- A lantern of a path: its index, its distance from the first in 0.5 m, and its parent, 0xFFFF for the first (R209). -/
structure PathPt where
  lantern : Nat
  x : Nat
  parent : Nat
  deriving DecidableEq, Repr

/-- A track (R209): class, lantern and neighbour it was anchored at, speed in 0.1 m/s, detection instant, up-time of its
creation, and the path. -/
structure Track where
  cls : Nat
  lantern : Nat
  toward : Nat
  speed : Nat
  td : Nat
  born : Nat
  path : List PathPt
  deriving DecidableEq, Repr

/-- Presence lift (R211): class, detection instant, lanterns. -/
structure Presence where
  cls : Nat
  td : Nat
  lanterns : List Nat
  deriving DecidableEq, Repr

/-- A lantern's lift memory (R210): P, t_end, whether a contribution was there at the last cycle, and the lift held. -/
structure LiftMem where
  p : Nat
  tEnd : Nat
  isOn : Bool
  held : Nat
  deriving DecidableEq, Repr

/-- A ramp of a local output (R218): the output it starts from, its start in TAI ns, and its length in s. -/
structure Ramp where
  base : Nat
  start : Nat
  secs : Nat
  deriving DecidableEq, Repr

structure LmpState where
  /-- The field table in force, and entries loaded since the last cycle, which the next one takes (R207). -/
  field : List (Nat × FieldEnt)
  fieldNew : List (Nat × FieldEnt)
  tracks : List (Nat × Track)
  pres : List Presence
  mem : List (Nat × LiftMem)
  /-- F, lift and out of lanterns at the last cycle. -/
  levels : List (Nat × Nat × Nat × Nat)
  /-- Up-time of the last raise of a response entry. -/
  raised : List (Nat × Nat)
  /-- Local outputs and their ramps, by k of LMP_LOCAL_MAP. -/
  outs : List (Nat × Nat)
  ramps : List (Nat × Ramp)
  /-- Scenes that an order holds, and orders whose T is still to come. -/
  scenes : List Nat
  orders : List (Nat × List Byte)
  orderSeq : Nat
  busy : Bool
  inject : List W32
  /-- Up-time of the last change of a drive. -/
  con : List (Nat × Nat)
  /-- Units that wait for the queues to the radio MAC and the Chandler. -/
  toRad : List (List Byte)
  toLed : List (List Byte)
  /-- The local date of the astronomical instants, and whether location or offset were written since (R202). -/
  astroDay : Option Int
  astroDue : Bool
  /-- Base levels of the groups at the last cycle, at which the field stands until the next (R200); none before the first. -/
  bases : List Nat
  /-- Drives whose change waits for min_switch_s (R217). -/
  conWait : List Nat
  /-- A decision or a cycle has come since reset, so that the contactor drives follow (R221). -/
  judged : Bool
  deriving DecidableEq, Repr

def LmpState.init : LmpState :=
  { field := [], fieldNew := [], tracks := [], pres := [], mem := [], levels := [], raised := [], outs := [], ramps := [], scenes := []
    orders := [], orderSeq := 0, busy := false, inject := [], con := [], toRad := [], toLed := [], astroDay := none
    astroDue := false, bases := [], conWait := [], judged := false }

/-! ## Radio MAC (R223 to R255) -/

/-- A frame on air from a radio: slot instant in TAI ns, destination (short, or extended), sequence number, whether an
acknowledgement is requested, key index, counter, payload in the clear and as sent, MIC and FCS. -/
structure AirFrame where
  radio : Nat
  at_ : Nat
  dst : Nat
  ext : Bool
  seq : Nat
  ack : Bool
  key : Nat
  ctr : Nat
  payload : List Byte
  cipher : List Byte
  mic : List Byte
  fcs : Nat
  deriving DecidableEq, Repr

/-- An assign frame to an entry (R235, R237): whether it answers a join, the frame once sent, and its retries. -/
structure Unicast where
  entry : Nat
  ext : Bool
  sent : Option AirFrame
  retries : Nat
  deriving DecidableEq, Repr

/-- One radio: whether it has sent since a boundary, whether it has served receptions since one, its superframe, the last
boundary of its grid that fired, outbound counters per key index (R239),
group commands for beacons (t_exec, command), grid-state repeats left, level repeats owed (local index, level, left), the
local index at which each class of R233 goes on (one above the index last sent in it), assign frames, programmes whose copies are due, the up-time and cfg_seq of
the last round of copies, transmit times (up-time and µs), the sequence number of its next frame, and the superframe in
which it last sent an activate frame. -/
structure Radio where
  running : Bool
  serving : Bool
  sf : Nat
  fired : Option Nat
  ctr : List Nat
  cmds : List (Nat × Nat)
  urgent : Nat
  owed : List (Nat × Nat × Nat)
  last : List Nat
  uni : List Unicast
  copies : List Nat
  schedUp : Nat
  cfg : Nat
  airtime : List (Nat × Nat)
  seq : Nat
  actSf : Option Nat
  deriving DecidableEq, Repr

/-- A counter record of a sender (R240): the last accepted counter per key index, the MIC, and whether the last frame accepted
was a join request on which R235 did not act. -/
structure CtrRec where
  c1 : Option Nat
  c2 : Option Nat
  mic : List Byte
  refused : Bool
  deriving DecidableEq, Repr

structure RadState where
  cache : List (Nat × CacheLine)
  uses : Nat
  enabled : List Nat
  /-- Per entry: the superframe it was last heard in, the up-time of its last frame, the up-time its level was last sent. -/
  heard : List (Nat × Nat)
  frameUp : List (Nat × Nat)
  sentUp : List (Nat × Nat)
  ctrs : List (Nat × CtrRec)
  radios : List (Nat × Radio)
  /-- The current grid-state record (R215). -/
  grid : List Byte
  cfgSeq : Nat
  /-- Wake patterns that wait: address and how often they are still to be sent (R247). -/
  wake : List (Nat × Nat)
  /-- No beacon before this up-time (R430). -/
  holdUp : Nat
  /-- Reports that wait for the queues to the lanes and the Lamplighter. -/
  toLanes : List (List Byte)
  toLmp : List (List Byte)
  toFlt : List (List Byte)
  /-- The model's own: frames sent, newest first, and the 48 bits of each wake pattern sent. -/
  air : List AirFrame
  woke : List Nat
  deriving DecidableEq, Repr

def RadState.init : RadState :=
  { cache := [], uses := 0, enabled := [], heard := [], frameUp := [], sentUp := [], ctrs := [], radios := [], grid := []
    cfgSeq := 0, wake := [], holdUp := 0, toLanes := [], toLmp := [], toFlt := [], air := [], woke := [] }

/-- A flash slot of the Pedlar (R257, R258): the image with its manifest and signature, and whether it has been through a
campaign since its store. -/
structure FlashSlot where
  image : List Byte
  manifest : List Byte
  sig : List Byte
  campaigned : Bool
  deriving DecidableEq, Repr

/-- What FLT_CAMP_CFG and FLT_CAMP_CFG2 held at START (R265). -/
structure CampCfg where
  parityFirst : Nat
  maxRounds : Nat
  margin : Nat
  pollSf : Nat
  annSf : Nat
  tailSf : Nat
  deriving DecidableEq, Repr

/-- A campaign's progress on one radio: the superframe of the phase's announce, and the segments still to send as block
and coded indices. -/
structure RadProg where
  announced : Option Nat
  todo : List (Nat × List Nat)
  deriving DecidableEq, Repr

/-- A campaign (R265): its slot and image, radios and progress, the phase (0 IDLE, 1 SEND, 2 POLL, 3 REPAIR, 4 DONE),
round, the status of each target and other reporting entry with whether it is a target, and the block entries of the last
POLL's reports. -/
structure Campaign where
  slot : Nat
  id : Nat
  cfg : CampCfg
  phase : Nat
  round : Nat
  prog : List (Nat × RadProg)
  status : List (Nat × Nat × Bool)
  reports : List (Nat × List Byte)
  deriving DecidableEq, Repr

/-- An activation (R268): slot, image_id and fw_version, the instant, n_act per radio, and whether B_{n_act} is still
ahead on some radio. -/
structure Activation where
  slot : Nat
  id : Nat
  fw : Nat
  instant : Nat
  nAct : List (Nat × Nat)
  armed : Bool
  deriving DecidableEq, Repr

structure FltState where
  slots : List (Nat × FlashSlot)
  /-- Generation counts of the slots. -/
  gens : List (Nat × Nat)
  /-- A STORE that runs: its slot and what it writes. -/
  storing : Option (Nat × FlashSlot)
  camp : Option Campaign
  /-- The configuration read at the last START. -/
  cfg : CampCfg
  act : Option Activation
  /-- DONE announces owed: radio, and the slot whose image they name. -/
  owedDone : List (Nat × Nat)
  deriving DecidableEq, Repr

def FltState.init : FltState :=
  { slots := [], gens := [], storing := none, camp := none, cfg := ⟨8, 6, 0, 16, 8, 16⟩, act := none, owedDone := [] }

/-- The level of an output of the Chandler (R275): the code in use in 1/64, where the glide began, its target level, and
its length and the time gone by in ms. -/
structure LedOut where
  code : Nat
  start : Nat
  target : Nat
  total : Nat
  elapsed : Nat
  deriving DecidableEq, Repr

/-- A string (R283): its state, fault cause and retries, and the up-time since which it is in its state without a fault. -/
structure LedStr where
  state : Nat
  cause : Nat
  retries : Nat
  since : Nat
  deriving DecidableEq, Repr

/-- How an output is driven (R282, R288), in ticks of 2.5 ns: the set-point of a string's DAC, the PWM period, the on-time of
a pulse (the whole period: it runs continuously; 0: its gates or MTX_EN stay low), and under pulse-density coding the pulses
per period on average, as a fraction. -/
structure LedDrive where
  dac : Nat
  period : Nat
  on : Nat
  density : Option (Nat × Nat)
  deriving DecidableEq, Repr

/-- A matrix port (R285): its two frame buffers, whether a swap event waits for the end of a shift, the up-time at which the
shift began, and the words in the driver chain, lane by lane, as shifted and as latched. -/
structure MtxPort where
  back : List Byte
  front : List Byte
  wanted : Bool
  since : Nat
  chain : List (List Nat)
  latched : List (List Nat)
  deriving DecidableEq, Repr

structure LedState where
  outs : List (Nat × LedOut)
  strs : List (Nat × LedStr)
  /-- What drives each output: strings 0 to 15, ports 16 to 19. -/
  drives : List (Nat × LedDrive)
  /-- Curve points that differ from their reset value, and points written since the last update: 1024·table + point. -/
  curves : List (Nat × Nat)
  newPts : List (Nat × Nat)
  mtx : List (Nat × MtxPort)
  /-- Up-time of the last record, and whether the fail levels are in force. -/
  recUp : Nat
  failed : Bool
  /-- Up-time of the last write of LED_CSET_TEMP per set. -/
  tempUp : List (Nat × Nat)
  /-- A CAL that runs: its set and the up-time it began. -/
  cal : Option (Nat × Nat)
  deriving DecidableEq, Repr

def LedState.init : LedState :=
  { outs := [], strs := [], drives := [], curves := [], newPts := [], mtx := [], recUp := 0, failed := false, tempUp := [], cal := none }

/-- A feeder's sample (R295, R296): signal time, grid, the grid's output period as ratio over rate, channel values, and
whether one of them was clipped or unsync. -/
structure MtrSample where
  t : Nat
  grid : Nat
  ratio : Nat
  vals : List (Nat × W32)
  clipped : Bool
  deriving DecidableEq, Repr

/-- A feeder (R295 to R297): the samples before and at the one to be evaluated next, the last integrated signal time, the
energy of the open netting period in J, and an open INVALID gap's start. -/
structure Feeder where
  prev : Option MtrSample
  cur : Option MtrSample
  tPrev : Option Nat
  net : Ratio
  gap : Option Nat
  deriving DecidableEq, Repr

/-- A pulse input's TAI second, the pulses in it and those rejected (R299). -/
structure PulseIn where
  sec : Nat
  count : Nat
  rejected : Nat
  deriving DecidableEq, Repr

/-- A pulse output (R300): the remainder in 2^-32 mWh, pulses owed, the up-times of the last two moves since the output
was last idle (newest first), since when owed has stood at 0, the width of the pulse that is high and the up-time of its
start, and since when the output is low. -/
structure PulseOut where
  rem : Nat
  owed : Nat
  moves : List Nat
  idle : Option Nat
  high : Option (Nat × Nat)
  low : Nat
  deriving DecidableEq, Repr

/-- A save copy (R303): accumulators in 2^-32 mWh, pulse outputs (owed and remainder), open INVALID gap starts, save_seq,
stamp, and whether it is of the last-gasp kind. A copy whose CRC does not check is none. -/
structure SaveCopy where
  accs : List (Nat × Nat)
  outs : List (Nat × Nat × Nat)
  gaps : List (Nat × Nat)
  seq : Nat
  stamp : Nat
  gasp : Bool
  deriving DecidableEq, Repr

structure MtrState where
  /-- Accumulators in 2^-32 mWh (R292). -/
  accs : List (Nat × Nat)
  feeders : List (Nat × Feeder)
  /-- The last sample of each channel: signal time, value. -/
  chLast : List (Nat × W32)
  pins : List (Nat × PulseIn)
  /-- Up-time of each pulse input's last filtered active edge (R298). -/
  pinUp : List (Nat × Nat)
  pouts : List (Nat × PulseOut)
  /-- Integration has stopped at a last gasp. -/
  stopped : Bool
  /-- The start of an OFF gap that is open for every accumulator. -/
  offFrom : Option Nat
  /-- Larder: gap entries, newest first, at most 32; save copies A and B; the correction tables (32·channel + point). -/
  gapLog : List (List Byte)
  copyA : Option SaveCopy
  copyB : Option SaveCopy
  tc : List (Nat × W32)
  saveUp : Nat
  tempUp : List (Nat × Nat)
  deriving DecidableEq, Repr

def MtrState.init : MtrState :=
  { accs := [], feeders := [], chLast := [], pins := [], pinUp := [], pouts := [], stopped := false, offFrom := none, gapLog := []
    copyA := none, copyB := none, tc := [], saveUp := 0, tempUp := [] }

/-- The shadows of RTC_TIME0, RTC_TIME1 and RTC_DATE (R350): the words frozen, the up-time of the freeze, and which of
the three have been read. -/
structure RtcShadow where
  words : List W32
  since : Nat
  seen : List Nat
  deriving DecidableEq, Repr

/-- The real-time clock (R348 to R360). -/
structure RtcState where
  /-- The whole second on the RTC's calendar, counted from 1970-01-01; second 60 counts as the one before. -/
  secs : Nat
  in60 : Bool
  /-- The sub-second ticks at an up-time; none elapse while the oscillator is stopped. -/
  sub : Nat
  subUp : Nat
  /-- Crystal ticks at that up-time since the RTC started, modulo 2^20: RTC_CAL adds its ticks in every 2^20 (R354). -/
  raw : Nat
  stopped : Bool
  /-- A SET has completed since osc_stopped was last set. -/
  setSince : Bool
  shadow : Option RtcShadow
  snap : Nat
  /-- The staging words as written. -/
  stage : List W32
  /-- Discipline: ticks added (1) or dropped (-1) until the next compare, ticks slewed and seconds in the interval. -/
  slew : Int
  net : Int
  run : Nat
  /-- The TAI second of the last compare. -/
  cmp : Nat
  /-- Per alarm: floor and last fire instant. -/
  floors : List (Nat × Nat)
  lastFire : List (Nat × Nat)
  /-- An alarm with wake has fired. -/
  woke : Bool
  /-- Writes on their way into CLK_AON (R28). -/
  aon : List (Nat × W32)
  deriving DecidableEq, Repr

/-- 2000-01-01 00:00:00 in seconds from 1970-01-01. -/
def rtcEpoch : Nat := 946684800

def RtcState.init : RtcState :=
  { secs := rtcEpoch, in60 := false, sub := 0, subUp := 0, raw := 0, stopped := false, setSince := false, shadow := none, snap := 0
    stage := [0, 0, 0], slew := 0, net := 0, run := 0, cmp := 0, floors := [], lastFire := [], woke := false, aon := [] }

/-! ## Start-up, firmware, settings and the Watchman (R382 to R401, R464) -/

/-- A settings copy (R389): save_seq, pat_serial, TAI ns of the save, whether both CRCs check, the saved bits of the
registers that hold any, the configuration halves of the tables and the field table by address, enabled heads, IDCODE
map, enabled lantern entries, analytics parameters, LED curve points and record buckets (burst, interval, disable). -/
structure SetCopy where
  seq : Nat
  serial : Nat
  saved : Nat
  valid : Bool
  regs : Regs
  cells : List (Nat × List Byte)
  heads : List Nat
  map : List (Nat × Nat)
  lans : List Nat
  params : List (Nat × List Byte)
  curves : List (Nat × Nat)
  buckets : List (Nat × Nat × Nat × Bool)
  deriving DecidableEq, Repr

/-- A save that runs: the copy it writes (0 A, 1 B), its content, and whether it is the one at COMMIT. -/
structure SetSave where
  copy : Nat
  content : SetCopy
  commit : Bool
  /-- A SAVE_SETTINGS waits for its end. -/
  cmd : Bool
  deriving DecidableEq, Repr

/-- The boot record (R386): the committed slot, the slot awaiting trial, and the trial count. -/
structure BootRec where
  active : Nat
  staged : Option Nat
  trial : Nat
  deriving DecidableEq, Repr

/-- A state event that still holds behind another of its CLK_AON edge (R30): RESET_N low, tamper sources, the watchdog run
out. -/
inductive HeldEvent where
  | resetLow
  | tamper (sources : List Nat)
  | watchdog
  deriving DecidableEq, Repr

structure SysState where
  /-- Boot data in the Larder (R389): start count, cause of the last start or reset, boot-loop count and
  SYS_FW_MIN_SERIAL. -/
  starts : Nat
  cause : Nat
  loops : Nat
  fwMin : Nat
  copyA : Option SetCopy
  copyB : Option SetCopy
  saving : Option SetSave
  /-- Saves that wait: behind a save in progress, its COMMIT kind, and until a trial ends. -/
  saveNext : Bool
  commitNext : Bool
  saveHeld : Bool
  /-- A SAVE_SETTINGS waits for a save that has not begun. -/
  saveCmd : Bool
  /-- Up-time of the first change since the last save. -/
  dirtyUp : Option Nat
  /-- A save was cut by a reset or a loss of supply (R464). -/
  saveCut : Bool
  boot : Option BootRec
  /-- A STAGE_FW that runs: its slot and the image. -/
  staging : Option (Nat × List Byte)
  /-- Slot of the running image (none: the factory loader), and whether it is on trial. -/
  slot : Option Nat
  trial : Bool
  /-- Up-time of firmware entry, of the last kick, and the timeout in ms in force since it. -/
  entryUp : Nat
  kickUp : Nat
  kickMs : Nat
  /-- The Watchman: whether it runs, VBAK within limits, main supply valid; VBAK lost since the state became OPERATIONAL. -/
  watch : Bool
  vbak : Bool
  main : Bool
  vbakLost : Bool
  resetLow : Bool
  pfail : Bool
  /-- The cause the next start from COLD takes, and a reset of cause 3, 6 or 7 whose hold runs (R383). -/
  nextCause : Nat
  hold : Option Nat
  /-- RESET_N rose during the hold; PFAIL_N rose during it. -/
  riseWaits : Bool
  /-- Sleep entry in progress; a wake source that fired meanwhile; up-times of SLEEP and of the receiver's last match. -/
  entering : Bool
  wakeWaits : Bool
  sleepUp : Nat
  rxUp : Option Nat
  /-- The CLK_AON edge of the last state event acted on, and its priority (R30). -/
  edge : Option (Nat × Nat)
  /-- Events of that edge that wait, holding, for the one that acts. -/
  heldEvs : List HeldEvent
  /-- The hold-up charger has stopped (R459). -/
  chargerOff : Bool
  /-- Larder copies of the Watchman's settings, since it last lost power; none once they have come back (R358). -/
  wch : Option Regs
  /-- What SLEEP entry left to tell after wake: events discarded, and whether a retain slot found no room (R339, R378). -/
  sleepLost : Nat
  retainFull : Bool
  /-- The sources that IRQ_WAKE_SEL named at SLEEP entry, by watcher. -/
  watched : List (Nat × Nat)
  /-- A start through WAKING has not reached firmware entry; DRAM has been initialised since it was last zeroed; the tamper
  latch has set without a record. -/
  booting : Bool
  dramDone : Bool
  tamperNew : Bool
  deriving DecidableEq, Repr

def SysState.init : SysState :=
  { starts := 0, cause := 0, loops := 0, fwMin := 0, copyA := none, copyB := none, saving := none,
    saveNext := false, commitNext := false, saveHeld := false, dirtyUp := none, saveCut := false, boot := none,
    staging := none, slot := none, trial := false, entryUp := 0, kickUp := 0, kickMs := 5000, watch := false, vbak := false,
    main := false, vbakLost := false, resetLow := false, pfail := false, nextCause := 1, hold := none, riseWaits := false,
    entering := false, wakeWaits := false, sleepUp := 0, rxUp := none, edge := none, heldEvs := [], chargerOff := false, saveCmd := false, wch := none, sleepLost := 0, retainFull := false,
    watched := [], booting := false, dramDone := false, tamperNew := false }

/-! ## Lanes, voter and memories (R308 to R327, R463) -/

/-- A request that the voter holds for a hart (R311, R312): each lane's copy as it arrived, whether it was issued, the response
(data, and whether it is a fault) kept for the lane that is still to come, and the up-time of the first arrival. The entries of
a hart are its requests in order: a lane's k-th request meets the k-th of the others. -/
structure HeldReq where
  hart : Nat
  arrived : List (Nat × Req)
  issued : Bool
  resp : Option (Nat × Bool)
  since : Nat
  deriving DecidableEq, Repr

structure LnvState where
  held : List HeldReq
  /-- Up-times of each lane's outvotes within the last hour, newest first. -/
  outs : List (Nat × List Nat)
  /-- The lane whose next store INJECT flips. -/
  inject : Option Nat
  /-- Lanes that are fenced. -/
  fenced : List Nat
  /-- Up-time of the disagreement whose resync runs, copy passes so far, and lines the last one copied. -/
  since : Nat
  passes : Nat
  lines : Nat
  pauseUp : Nat
  deriving DecidableEq, Repr

def LnvState.init : LnvState := ⟨[], [], none, [], 0, 0, 0, 0⟩

/-- A flash command that runs (R325): op, partition, first sector, sectors and buffer. -/
structure FlashCmd where
  op : Nat
  partition : Nat
  sector : Nat
  count : Nat
  buf : Nat
  deriving DecidableEq, Repr

structure FlsState where
  /-- Sectors that hold data, by partition × 2^24 + sector: 4,096 bytes each. -/
  sectors : List (Nat × List Byte)
  run : Option FlashCmd
  /-- Up-times at which a line was corrected, by address, newest first (R326). -/
  hot : List (Nat × List Nat)
  /-- Words of 8 bytes, by address ÷ 8, in which a scrubber found an uncorrectable error (R327). -/
  bad : List Nat
  /-- Up-time of each scrubber's last completed pass, or of the start since which it runs: 0 DRAM, 1 SRAM, 2 Larder. -/
  scrubs : List (Nat × Nat)
  deriving DecidableEq, Repr

def FlsState.init : FlsState := ⟨[], none, [], [], []⟩

/-! ## Journeyman (R422 to R436) -/

/-- An item for the standby (R426), and whether it belongs to a full copy. -/
structure MirItem where
  kind : Nat
  index : Nat
  data : List Byte
  copy : Bool
  deriving DecidableEq, Repr

/-- What the partner's last HELLO said (R423). -/
structure PtnHello where
  state : Nat
  flags : Nat
  term : Nat
  serial : Nat
  sent : Nat
  applied : Nat
  deriving DecidableEq, Repr

structure PtnState where
  /-- The term, and the instant of the last takeover in ns, which the Larder keeps (R424, R430). -/
  term : Nat
  take : Option Nat
  /-- Up-time at which SEEKING began. -/
  since : Nat
  /-- Up-times of the last HELLO on the pair link and through the host port, and its content. -/
  linkUp : Nat
  netUp : Nat
  hello : Option PtnHello
  /-- The replay record of the partner: epoch and seq (R423). -/
  peer : Option (Nat × Nat)
  /-- mirror_seq: last sent, last acknowledged; last applied here (none: the next message begins a copy). -/
  sent : Nat
  acked : Nat
  applied : Option Nat
  /-- Items that wait, oldest first. -/
  queue : List MirItem
  /-- A full copy runs, and the mirror_seq of its last message. -/
  copying : Bool
  copySeq : Nat
  /-- SYNC_REQ has been sent; a full copy has completed here. -/
  asked : Bool
  full : Bool
  /-- Both members were seen active (the record of a split is written once). -/
  splitSeen : Bool
  /-- The instant T of a swap; T of a drill whose check is due. -/
  swapAt : Option Nat
  drill : Option Nat
  drillDay : Option Nat
  /-- The running command of PTN_CMD; 0 none. -/
  cmd : Nat
  /-- Up-times: last HELLO sent, last accumulators sent, last accumulators received. -/
  helloUp : Nat
  accUp : Nat
  maccUp : Option Nat
  /-- The partner's accumulators. -/
  macc : List (Nat × Nat)
  /-- STOP has been sent: the module has left SERVING and DEGRADED. -/
  left : Bool
  deriving DecidableEq, Repr

def PtnState.init : PtnState :=
  { term := 0, take := none, since := 0, linkUp := 0, netUp := 0, hello := none, peer := none, sent := 0, acked := 0,
    applied := none, queue := [], copying := false, copySeq := 0, asked := false, full := false, splitSeen := false,
    swapAt := none, drill := none, drillDay := none, cmd := 0, helloUp := 0, accUp := 0, maccUp := none, macc := [],
    left := false }

end Sys2Proof.Machine
end

