-- ==== Sys2Proof/Machine/Mem.lean ====
section
/-! DEFINITION. The memories of the address map (R15): one list of address and byte in canonical form. An address the
list does not name reads 0: DRAM and SRAM are zeroed at start (R320, R321); that the Larder and the boot ROM read 0
where nothing was written is a DESIGN CHOICE. -/

namespace Sys2Proof.Machine

/-- Memory: addresses strictly rising, no listed byte 0. -/
abbrev Mem := List Host.Cell

/-- The byte at an address. -/
def Mem.rd (m : Mem) (a : Nat) : Byte := (tblGet m a).getD 0

/-- Memory with one byte stored, in canonical form. -/
def Mem.wr (m : Mem) (a : Nat) (b : Byte) : Mem := if b = 0 then tblDel a m else tblPut a b m

/-- Memory with a list of byte stores applied, the last of the list first. -/
def Mem.wrAll (m : Mem) (ws : List (Nat × Byte)) : Mem := ws.foldr (fun e m => m.wr e.1 e.2) m

/-- The canonical form. -/
def Mem.wf (m : Mem) : Bool := tblRising m && m.all (fun e => e.2 != 0)

/-- Whether `n` bytes from `a` lie wholly in DRAM, in SRAM, in the Larder window (R15). -/
def inDram (a n : Nat) : Bool := decide (0x800000000 ≤ a) && decide (a + n ≤ 0xC00000000)
def inSram (a n : Nat) : Bool := decide (0x10000000 ≤ a) && decide (a + n ≤ 0x13000000)
def inLarder (a n : Nat) : Bool := decide (0x20000000 ≤ a) && decide (a + n ≤ 0x24000000)
def inBootRom (a n : Nat) : Bool := decide (a + n ≤ 0x40000)
def inRegs (a n : Nat) : Bool := decide (0x40000000 ≤ a) && decide (a + n ≤ 0x40190000)

/-- Where a command's source or destination may lie: DRAM or on-chip SRAM. -/
def inRam (a n : Nat) : Bool := inDram a n || inSram a n

/-- Memory with DRAM and on-chip SRAM zeroed (R320, R321). -/
def Mem.clearRam (m : Mem) : Mem := m.filter (fun e => !inRam e.1 1)

end Sys2Proof.Machine
end

