-- ==== Sys2Proof/Machine/State.lean ====
section
/-! DEFINITION. The state of the module, the state right after reset, and the reasons a step can stop. -/

namespace Sys2Proof.Machine

/-- A response the voter delivers to the lanes (R312): the data, or an access fault (R16). -/
structure Resp where
  data : Nat
  fault : Bool
  deriving DecidableEq, Repr

/-- Everything but memory and the queue of commands. -/
structure Dev where
  op : OpState
  regs : Regs
  tb : TbState
  irq : IrqState
  que : List (Nat × QState)
  scr : RecState
  prf : PrfState
  hlt : HltState
  pat : PatState
  net : NetState
  ing : IngState
  aln : AlnState
  gan : GanState
  key : KeyState
  cry : CryState
  smp : SmpState
  lmp : LmpState
  rad : RadState
  flt : FltState
  led : LedState
  mtr : MtrState
  rtc : RtcState
  sys : SysState
  lnv : LnvState
  fls : FlsState
  ptn : PtnState
  /-- The last response to the lanes. -/
  resp : Resp
  /-- The model's own: how many free values have been drawn (what the spec leaves undefined). -/
  free : Nat
  deriving DecidableEq, Repr

/-- The state of the module. -/
structure State where
  /-- Commands that wait, first in first out. -/
  pending : List Instr
  dev : Dev
  mem : Mem
  deriving DecidableEq, Repr

def TbState.init : TbState :=
  { list := 0, now := 0, up := 0, freq := 0, slew := 0, good := 0, bad := 0, offs := [], e0 := none, lastGood := 0, inacc := none,
    holdCmd := false, everLocked := false, sampled := false, fromRtc := false, ptpValid := false, ppsValid := false,
    refValid := false, ppsLast := none, ppsRun := 0, master := none, masterPort := 0, foreign := none, lastAnn := 0, tickSec := 0, syncWait := [], delayWait := [],
    lastSync := none, pathDelay := 0, linkDelay := [], ptpSeq := 0, ppsOut := false, ppsRoseAt := 0, ppsSec := 0, leapAt := none, trg := [],
    cap := [], cyc := [0, 0, 0, 0], acted := [], pulses := [], quals := [] }

def IrqState.init : IrqState :=
  { raised := [], staged := [], lost := [], first := [], idle := [], retained := [], watch := [] }

def RecState.init : RecState :=
  { fifo := [], nextSeq := 1, lostCount := 0, lastLoss := 0, lostFlag := false, buckets := [], log0 := [], log1 := [],
    tail := [] }

def PrfState.init : PrfState :=
  { cnt := [], sel := [], snap := [], selSnap := [], frozenAt := none, samples := [], gap := 0, lfsr := 1 }

def HltState.init : HltState :=
  { ind := [], lastDay := none, c := none, esr := none, fSum := 0, fCnt := 0, lockedNs := 0, refUsed := false }

def PatState.init : PatState :=
  { active := Pattern.factoryPattern, inactive := none, verdict := none, barrier := 0, trialFrom := 0,
    committing := false, marker := none, savedMin := 0 }

def GanState.init : GanState :=
  { mons := [], tuns := [], svy := ⟨[], [], [], [], [], none, false, false, false, 0, none⟩, rules := [], params := [],
    base := [], waiting := [] }

def KeyState.init : KeyState :=
  { root := none, slots := [], lc := 0, helper := false, anchors := [], used := [], digests := [], staged := none,
    nonce := none, grant := none, retained := [], abnormal := [0, 0], normal := [0, 0] }

def Dev.init : Dev :=
  { op := .cold, regs := [], tb := TbState.init, irq := IrqState.init, que := [], scr := RecState.init,
    prf := PrfState.init, hlt := HltState.init, pat := PatState.init, net := ⟨[], [], [], []⟩, ing := ⟨[], [], [], [], 0⟩, aln := ⟨[], [], none⟩,
    gan := GanState.init, key := KeyState.init, cry := CryState.init, smp := SmpState.init,
    lmp := LmpState.init, rad := RadState.init, flt := FltState.init, led := LedState.init, mtr := MtrState.init, rtc := RtcState.init,
    sys := SysState.init, lnv := LnvState.init, fls := FlsState.init, ptn := PtnState.init,
    resp := ⟨0, false⟩, free := 0 }

/-- The module right after reset: COLD, every register at its reset value, memory with nothing listed. -/
def State.reset : State := { pending := [], dev := Dev.init, mem := [] }

/-- Why a step stops. -/
inductive Fault where
  /-- Raised by a tick of the idle module that would carry the 48-bit seconds field past its end (R10): the manual
  does not say what the counter does there. Safe: the model stops where the hardware goes on. -/
  | timeBeyondCounter
  deriving DecidableEq, Repr

/-- Why a command has no effect in the model. -/
inductive Refusal where
  /-- Raised by an arm of `exec` whose command has no meaning yet. Safe: nothing can be proved of its effect. -/
  | notModelled (mnemonic : String)
  /-- Raised by the meaning of a command whose operand names a port, unit, queue or entry that the module does not
  have (WellFormed.lean). Safe: there is no such command. -/
  | illFormed (mnemonic : String)
  deriving DecidableEq, Repr

end Sys2Proof.Machine
end

