-- ==== Sys2Proof/WellFormed.lean ====
section
/-! DEFINITION. Which commands are well formed: every index within the range the spec gives it. The meaning of an
ill-formed command is a refusal (illFormed): the module has no such register, port or unit. -/

namespace Sys2Proof

def wfSwitchFrameRx (port : Nat) : Bool := decide (port < 6)
def wfSfpOvercurrent (port : Nat) : Bool := decide (port < 6)
def wfGioWakeEdge (pin : Nat) : Bool := decide (pin < 4)
def wfPtpMessageRx (port : Nat) : Bool := decide (port < 6)
def wfPtpMessageTx (port : Nat) : Bool := decide (port < 6)
def wfPpsEdge (sec : Nat) : Bool := decide (sec < 0x1000000000000)
def wfTriggerArm (n : Nat) : Bool := decide (n < 16)
def wfTriggerFire (n : Nat) : Bool := decide (n < 16)
def wfCaptureEdge (input frac : Nat) : Bool := decide (input < 128) && decide (frac < 65536)
def wfCapNsRead (n : Nat) : Bool := decide (n < 16)
def wfCapPop (n : Nat) : Bool := decide (n < 16)
def wfTcpAckTimer (conn : Nat) : Bool := decide (conn < 256)
def wfTcpLaneSegmentTx (conn : Nat) : Bool := decide (conn < 256)
def wfIngInvalidate (index : Nat) : Bool := decide (index < 8192)
def wfIngEnable (index : Nat) : Bool := decide (index < 8192)
def wfIngDisable (index : Nat) : Bool := decide (index < 8192)
def wfIngFlush (index : Nat) : Bool := decide (index < 8192)
def wfIngClear (index : Nat) : Bool := decide (index < 8192)
def wfMapSet (index : Nat) : Bool := decide (index < 8192)
def wfIngWriteback (index : Nat) : Bool := decide (index < 8192)
def wfSetOpen (g : Nat) : Bool := decide (g < 64)
def wfSetExpire (g : Nat) : Bool := decide (g < 64)
def wfLatencySample (g : Nat) : Bool := decide (g < 64)
def wfAlnGrpCtrlWrite (g : Nat) : Bool := decide (g < 64)
def wfCfgAck (n : Nat) : Bool := decide (n < 16)
def wfTunerReport (signal : Nat) : Bool := decide (signal < 512)
def wfRuleEnable (word : Nat) : Bool := decide (word < 32)
def wfRuleAck (word : Nat) : Bool := decide (word < 32)
def wfGooseRetransmit (c : Nat) : Bool := decide (c < 16)
def wfGcbCtrlWrite (c : Nat) : Bool := decide (c < 16)
def wfModuleDown (module : Nat) : Bool := decide (module < 1024)
def wfGopReset (kind : Nat) : Bool := decide (kind < 65536)
def wfGopEnter (number : Nat) : Bool := decide (number < 65536)
def wfGopAbort (op : Nat) : Bool := decide (op < 65536)
def wfAdcFrame (f : AdcFrame) : Bool := decide (f.link < 8) && decide (f.words.length = 16)
def wfPeakRead (c : Nat) : Bool := decide (c < 128)
def wfChCfgWrite (c : Nat) : Bool := decide (c < 128)
def wfSmpTestWrite (reg : Nat) : Bool := decide (reg < 5)
def wfPhsSetWrite (n : Nat) : Bool := decide (n < 32)
def wfLinkCfgWrite (l : Nat) : Bool := decide (l < 8)
def wfContactorDeferred (k : Nat) : Bool := decide (k < 16)
def wfLoadOne (index : Nat) : Bool := decide (index < 16384)
def wfGrRelease (n : Nat) : Bool := decide (n < 16384)
def wfGrHoldExpire (n : Nat) : Bool := decide (0 < n) && decide (n < 256)
def wfTrackExpire (n : Nat) : Bool := decide (n < 1024)
def wfBeaconBoundary (r : Nat) : Bool := decide (r < 4)
def wfSlotStart (r : Nat) (k : Nat) (marks : List (Nat × Int)) : Bool := decide (r < 4) && decide (0 < k) && decide (k < 64) && decide (marks.all (fun m => m.1 < 474))
def wfRadioFrameRx (f : RadioFrame) : Bool := decide (f.radio < 4) && decide (f.seq < 256) && decide (f.ctr < 2 ^ 32) && decide (f.rssi < 256) && decide (f.lqi < 256)
def wfImmAckRx (r : Nat) : Bool := decide (r < 4)
def wfRadInvalidate (g : Nat) : Bool := decide (g < 16384)
def wfRadEnable (g : Nat) : Bool := decide (g < 16384)
def wfRadDisable (g : Nat) : Bool := decide (g < 16384)
def wfRadFlush (g : Nat) : Bool := decide (g < 16384)
def wfRadClear (g : Nat) : Bool := decide (g < 16384)
def wfResetCtr (g : Nat) : Bool := decide (g < 16384)
def wfWake (g : Nat) : Bool := decide (g < 16384)
def wfNodeTimeout (g : Nat) : Bool := decide (g < 16384)
def wfRadWriteback (g : Nat) : Bool := decide (g < 16384)
def wfStore (slot : Nat) : Bool := decide (slot < 8)
def wfErase (slot : Nat) : Bool := decide (slot < 8)
def wfStart (slot : Nat) : Bool := decide (slot < 8)
def wfActivate (slot : Nat) : Bool := decide (slot < 8)
def wfTrimUpdate (c : Nat) : Bool := decide (c < 4)
def wfCsetTempStale (c : Nat) : Bool := decide (c < 4)
def wfStringFault (n : Nat) (cause : Nat) : Bool := decide (n < 16) && decide (1 ≤ cause) && decide (cause ≤ 4)
def wfRetryExpire (n : Nat) : Bool := decide (n < 16)
def wfRetryCountReset (n : Nat) : Bool := decide (n < 16)
def wfSoftStartDone (n : Nat) : Bool := decide (n < 16)
def wfLedClear (n : Nat) : Bool := decide (n < 32)
def wfCal (c : Nat) : Bool := decide (c < 32)
def wfLedLoad (p : Nat) : Bool := decide (p < 32)
def wfShiftDone (p : Nat) : Bool := decide (p < 4)
def wfFrameSyncEdge (p : Nat) : Bool := decide (p < 4)
def wfPulseInEdge (n : Nat) : Bool := decide (n < 32)
def wfPulseRateSecond (n : Nat) : Bool := decide (n < 32)
def wfPoutPulseStart (o : Nat) : Bool := decide (o < 8)
def wfPoutPulseEnd (o : Nat) : Bool := decide (o < 8)
def wfAccClear (a : Nat) : Bool := decide (a < 64)
def wfAccLoRead (a : Nat) : Bool := decide (a < 64)
def wfLegRead (a : Nat) : Bool := decide (a < 64)
def wfMtrTempStale (src : Nat) : Bool := decide (src < 4)
def wfVoterRequest (hart : Nat) : Bool := decide (hart < 4)
def wfVoteWindowExpire (hart : Nat) : Bool := decide (hart < 4)
def wfLocalFault (lane : Nat) (hart : Nat) : Bool := decide (lane < 3) && decide (hart < 4)
def wfDeliveryPoint (hart : Nat) (skew : Nat) : Bool := decide (hart < 4) && decide (skew ≤ 2048)
def wfLnvResync (lane : Nat) : Bool := decide (lane < 4)
def wfInject (lane : Nat) : Bool := decide (lane < 4)
def wfScrubPass (region : Nat) : Bool := decide (region < 3)
def wfMemoryError (cls : Nat) : Bool := decide (cls < 4)
def wfFlRead (partition : Nat) : Bool := decide (partition < 4)
def wfFlWrite (partition : Nat) : Bool := decide (partition < 4)
def wfFlTrim (partition : Nat) : Bool := decide (partition < 4)
def wfFlSync (partition : Nat) : Bool := decide (partition < 4)
def wfFlCmdDone (life : Nat) : Bool := decide (life < 256)
def wfIrqRecordWrite (tgt : Nat) (grp : Nat) : Bool := decide (tgt < 8) && decide (grp < 8)
def wfModerationExpire (tgt : Nat) : Bool := decide (tgt < 8)
def wfIrqPendWrite (word : Nat) : Bool := decide (word < 16)
def wfIrqMaskWrite (word : Nat) : Bool := decide (word < 16)
def wfRidxWrite (tgt : Nat) (grp : Nat) : Bool := decide (tgt < 8) && decide (grp < 8)
def wfThreshWrite (tgt : Nat) : Bool := decide (tgt < 8)
def wfQueueFlush (q : Nat) : Bool := decide (q < 256)
def wfFlushBoundary (q : Nat) : Bool := decide (q < 256)
def wfFlushTimeout (q : Nat) : Bool := decide (q < 256)
def wfQueueReset (q : Nat) : Bool := decide (q < 256)
def wfPtrMismatch (q : Nat) : Bool := decide (q < 256)
def wfQueueWdata (q : Nat) : Bool := decide (q < 256)
def wfQueueWend (q : Nat) : Bool := decide (q < 256)
def wfQueueRdata (q : Nat) : Bool := decide (q < 256)
def wfQueueHwmRead (q : Nat) : Bool := decide (q < 256)
def wfQueueSpace (q : Nat) : Bool := decide (q < 256)
def wfRtcTimeRead (k : Nat) : Bool := decide (k < 3)
def wfAlarmWrite (a : Nat) : Bool := decide (a < 2)
def wfAlarmArm (a : Nat) : Bool := decide (a < 2)
def wfKeyLoad (slot : Nat) : Bool := decide (slot < 64)
def wfUnload (slot : Nat) : Bool := decide (slot < 64)
def wfImportKey (slot : Nat) (target : Nat) : Bool := decide (slot < 64) && decide (target < 8)
def wfExportKey (slot : Nat) (aux : Nat) : Bool := decide (slot < 64) && decide (aux < 256)
def wfRewrapNext (aux : Nat) : Bool := decide (aux < 256)
def wfLcChange (target : Nat) : Bool := decide (target < 8)
def wfAnchorWrite (entry : Nat) : Bool := decide (entry < 8)
def wfOpHmac (slot : Nat) : Bool := decide (slot < 64)
def wfOpGcmEnc (slot : Nat) : Bool := decide (slot < 64)
def wfOpGcmDec (slot : Nat) : Bool := decide (slot < 64)
def wfOpVerify (slot : Nat) : Bool := decide (slot < 64)
def wfTamperDetect (source : Nat) : Bool := decide (2 ≤ source) && decide (source ≤ 4)
def wfTokenGain (code : Nat) : Bool := decide (0x100 ≤ code) && decide (code < 0x1000)
def wfSwRecord (hart : Nat) : Bool := decide (hart < 4)
def wfRecClear (log : Nat) : Bool := decide (log < 4)
def wfClearSel (k : Nat) : Bool := decide (k < 32)
def wfPortLinkChange (port : Nat) : Bool := decide (port < 6)
def wfHartIdle (hart : Nat) : Bool := decide (hart < 4)
def wfStringRunSecond (n : Nat) : Bool := decide (n < 16)

/-- Whether a command is well formed. -/
def Instr.wf : Instr → Bool
  | .registerWrite _ _ _ _ => true
  | .rcCounterRead _ => true
  | .switchFrameRx port _ _ => wfSwitchFrameRx port
  | .mainSupplyValid _ _ => true
  | .dramInitDone _ => true
  | .mainSupplyLost _ => true
  | .pfailNFall _ => true
  | .pfailNRise _ => true
  | .resetNLow _ _ => true
  | .resetNHigh _ _ => true
  | .resetHoldEnd _ _ => true
  | .watchdogExpire _ => true
  | .watchdogKick _ _ => true
  | .bootLoopClear _ => true
  | .overvoltageLockout _ => true
  | .sfpOvercurrent port => wfSfpOvercurrent port
  | .holdupChargerStop _ => true
  | .vbakRise _ => true
  | .saveSettings _ => true
  | .systemReset _ _ => true
  | .patternReload _ _ => true
  | .patternReloadDone _ => true
  | .sleep _ _ => true
  | .stageFw => true
  | .stageFwDone _ _ => true
  | .fwCommit => true
  | .autoSave _ => true
  | .settingsSaveDone _ => true
  | .wakeTimerExpire _ => true
  | .wakeRxMatch _ _ => true
  | .gioWakeEdge pin _ _ => wfGioWakeEdge pin
  | .consoleBreak _ => true
  | .verify => true
  | .verifyDone _ => true
  | .arm _ => true
  | .cancel => true
  | .commit _ => true
  | .commitDone _ => true
  | .revert _ => true
  | .patternBarrier _ => true
  | .holdEnd _ => true
  | .trialTimeout _ => true
  | .patTrialTimeoutWrite _ _ => true
  | .deferredBarrier _ => true
  | .ptpMessageRx port _ _ => wfPtpMessageRx port
  | .ptpMessageTx port _ _ => wfPtpMessageTx port
  | .announceTimeout _ => true
  | .ppsEdge _ sec _ => wfPpsEdge sec
  | .ppsLost _ => true
  | .ref10mValid _ => true
  | .ref10mLost _ => true
  | .step => true
  | .hold => true
  | .release => true
  | .slewDone _ => true
  | .tbsCtrlWrite _ => true
  | .leapSecond _ => true
  | .leapOccurredExpire _ => true
  | .triggerArm n _ => wfTriggerArm n
  | .triggerFire n _ => wfTriggerFire n
  | .epochTick _ => true
  | .ppsOutRise _ => true
  | .ppsOutFall _ => true
  | .captureEdge input _ _ frac => wfCaptureEdge input frac
  | .capNsRead n => wfCapNsRead n
  | .capPop n => wfCapPop n
  | .tbsNowRead => true
  | .ingressFrame _ => true
  | .tcpSegmentRx _ => true
  | .tcpAckTimer conn _ => wfTcpAckTimer conn
  | .tcpLaneSegmentTx conn _ _ => wfTcpLaneSegmentTx conn
  | .ingInvalidate index => wfIngInvalidate index
  | .ingEnable index => wfIngEnable index
  | .ingDisable index => wfIngDisable index
  | .ingFlush index => wfIngFlush index
  | .ingClear index => wfIngClear index
  | .mapSet index => wfMapSet index
  | .mapClear => true
  | .tcpAttach => true
  | .tcpDetach => true
  | .mapQuery _ => true
  | .ingCtrlWrite _ => true
  | .silenceScan _ => true
  | .ingWriteback index _ => wfIngWriteback index
  | .recordPlace _ _ => true
  | .setOpen g _ => wfSetOpen g
  | .setExpire g _ _ => wfSetExpire g
  | .latencySample g _ _ => wfLatencySample g
  | .alnCtrlWrite _ => true
  | .alnGrpCtrlWrite g _ => wfAlnGrpCtrlWrite g
  | .cfgAck n => wfCfgAck n
  | .notice _ => true
  | .tunerReport signal _ => wfTunerReport signal
  | .paramWrite _ => true
  | .ruleEnable word _ => wfRuleEnable word
  | .ruleAck word _ => wfRuleAck word
  | .ganSelLatch _ _ => true
  | .ganCtrlWrite _ => true
  | .crierRecord _ => true
  | .alarmHeartbeat _ => true
  | .gooseRetransmit c _ => wfGooseRetransmit c
  | .gcbCtrlWrite c _ => wfGcbCtrlWrite c
  | .alarmFanRx _ => true
  | .gopAnnounceRx _ => true
  | .abortRx _ => true
  | .confirmRx _ => true
  | .barrierEnterRx _ => true
  | .barrierReleaseRx _ => true
  | .livenessRx _ => true
  | .livenessSend _ => true
  | .moduleDown module _ => wfModuleDown module
  | .gopBroadcast _ _ => true
  | .gopSnapshot _ => true
  | .gopReset kind => wfGopReset kind
  | .gopEnter _ number => wfGopEnter number
  | .gopAbort op => wfGopAbort op
  | .confirmDeadline _ _ _ => true
  | .barrierTimeout _ _ => true
  | .sysCfgWrite _ => true
  | .adcFrame f => wfAdcFrame f
  | .svFrame _ => true
  | .svProcess _ _ => true
  | .phasorReport _ _ => true
  | .smpSnap => true
  | .peakRead c => wfPeakRead c
  | .chCfgWrite c _ => wfChCfgWrite c
  | .smpTestWrite reg _ => wfSmpTestWrite reg
  | .phsSetWrite n _ => wfPhsSetWrite n
  | .smpCtrlWrite _ => true
  | .linkCfgWrite l _ => wfLinkCfgWrite l
  | .fieldCycleDone _ => true
  | .gridResponseCmd _ => true
  | .contactorDeferred k _ => wfContactorDeferred k
  | .levelOrder _ => true
  | .orderLocalApply _ => true
  | .astroCompute _ => true
  | .loadAll => true
  | .loadOne index => wfLoadOne index
  | .grRelease n => wfGrRelease n
  | .stageClear => true
  | .sensorEvent _ => true
  | .lmpInject _ => true
  | .grHoldExpire n _ => wfGrHoldExpire n
  | .trackExpire n _ => wfTrackExpire n
  | .lmpCtrlWrite _ => true
  | .beaconBoundary r _ => wfBeaconBoundary r
  | .slotStart r k marks => wfSlotStart r k marks
  | .radioFrameRx f _ => wfRadioFrameRx f
  | .immAckRx r _ _ => wfImmAckRx r
  | .gridStateTake _ => true
  | .orderRecord _ => true
  | .radInvalidate g => wfRadInvalidate g
  | .radEnable g => wfRadEnable g
  | .radDisable g => wfRadDisable g
  | .radFlush g => wfRadFlush g
  | .radClear g => wfRadClear g
  | .resetCtr g => wfResetCtr g
  | .wake g => wfWake g
  | .wakeAddr => true
  | .schedChanged => true
  | .wakePatternDone _ => true
  | .nodeTimeout g _ => wfNodeTimeout g
  | .radWriteback g _ => wfRadWriteback g
  | .schedTimer _ => true
  | .store slot => wfStore slot
  | .storeDone _ _ => true
  | .erase slot => wfErase slot
  | .start slot => wfStart slot
  | .stop => true
  | .activate slot => wfActivate slot
  | .cancelAct => true
  | .pedlarReport _ => true
  | .pollEnd _ => true
  | .chandlerRecord _ => true
  | .recTimeout _ => true
  | .trimUpdate c _ _ => wfTrimUpdate c
  | .csetTempStale c _ => wfCsetTempStale c
  | .stringFault n cause _ => wfStringFault n cause
  | .retryExpire n _ => wfRetryExpire n
  | .retryCountReset n _ => wfRetryCountReset n
  | .softStartDone n _ => wfSoftStartDone n
  | .ledClear n => wfLedClear n
  | .cal c => wfCal c
  | .calDone _ _ _ => true
  | .ledLoad p => wfLedLoad p
  | .shiftDone p _ => wfShiftDone p
  | .frameSyncEdge p _ => wfFrameSyncEdge p
  | .curveDataAccess _ => true
  | .ledCtrlWrite _ => true
  | .assayerRecord _ => true
  | .pulseInEdge n _ => wfPulseInEdge n
  | .pulseRateSecond n _ => wfPulseRateSecond n
  | .poutPulseStart o _ => wfPoutPulseStart o
  | .poutPulseEnd o _ => wfPoutPulseEnd o
  | .periodicSave _ => true
  | .saveNow => true
  | .accClear a => wfAccClear a
  | .accLoRead a => wfAccLoRead a
  | .legRead a => wfLegRead a
  | .gapSelWrite _ => true
  | .tcDataAccess _ => true
  | .mtrTempStale src _ => wfMtrTempStale src
  | .voterRequest hart _ _ _ _ _ _ _ => wfVoterRequest hart
  | .voteWindowExpire hart _ => wfVoteWindowExpire hart
  | .localFault lane hart _ _ => wfLocalFault lane hart
  | .selftestDone _ _ => true
  | .copyPassDone _ _ => true
  | .resyncRestart _ => true
  | .deliveryPoint hart skew _ => wfDeliveryPoint hart skew
  | .lnvResync lane _ => wfLnvResync lane
  | .inject lane => wfInject lane
  | .scrubPass region _ => wfScrubPass region
  | .memoryError _ cls _ _ _ => wfMemoryError cls
  | .flRead partition => wfFlRead partition
  | .flWrite partition => wfFlWrite partition
  | .flTrim partition => wfFlTrim partition
  | .flSync partition => wfFlSync partition
  | .flCmdDone _ life _ => wfFlCmdDone life
  | .irqEventLatch => true
  | .irqRecordWrite tgt grp _ => wfIrqRecordWrite tgt grp
  | .moderationExpire tgt _ => wfModerationExpire tgt
  | .irqPendWrite word _ => wfIrqPendWrite word
  | .irqMaskWrite word _ => wfIrqMaskWrite word
  | .irqAmo _ _ _ => true
  | .ridxWrite tgt grp _ => wfRidxWrite tgt grp
  | .threshWrite tgt _ => wfThreshWrite tgt
  | .queueFlush q => wfQueueFlush q
  | .flushBoundary q => wfFlushBoundary q
  | .flushTimeout q _ => wfFlushTimeout q
  | .queueReset q => wfQueueReset q
  | .ptrMismatch q => wfPtrMismatch q
  | .queueWdata q _ => wfQueueWdata q
  | .queueWend q _ => wfQueueWend q
  | .queueRdata q => wfQueueRdata q
  | .queueHwmRead q => wfQueueHwmRead q
  | .queueSpace q => wfQueueSpace q
  | .rtcSecond _ => true
  | .rtcTimeRead k => wfRtcTimeRead k
  | .shadowTimeout _ => true
  | .rtcSet _ => true
  | .oscStopped _ => true
  | .oscStoppedClear => true
  | .disciplineCompare _ => true
  | .autoCal _ => true
  | .alarmWrite a _ _ => wfAlarmWrite a
  | .alarmArm a _ => wfAlarmArm a
  | .aonWriteArrival _ => true
  | .keyLoad slot => wfKeyLoad slot
  | .unload slot => wfUnload slot
  | .importKey _ slot target => wfImportKey slot target
  | .exportKey _ slot aux => wfExportKey slot aux
  | .rewrapNext _ aux => wfRewrapNext aux
  | .challenge => true
  | .authorise => true
  | .lcChange _ target => wfLcChange target
  | .clearTamper _ => true
  | .anchorWrite _ entry => wfAnchorWrite entry
  | .opHmac slot => wfOpHmac slot
  | .opGcmEnc slot => wfOpGcmEnc slot
  | .opGcmDec slot => wfOpGcmDec slot
  | .opVerify slot => wfOpVerify slot
  | .tamperSample _ _ _ => true
  | .tamperDetect source _ => wfTamperDetect source
  | .grantExpire _ => true
  | .scrivenerRecord _ => true
  | .lostRecordEmit _ => true
  | .tokenGain code _ => wfTokenGain code
  | .swRecord hart _ => wfSwRecord hart
  | .rdSel _ => true
  | .recClear log => wfRecClear log
  | .rlCfgWrite _ => true
  | .prfSnapshot => true
  | .clearSel k => wfClearSel k
  | .freeze _ _ => true
  | .swInc _ => true
  | .smpStatClear => true
  | .smpSelLatch _ => true
  | .prfCntRead _ => true
  | .dailySample _ => true
  | .resetInd => true
  | .helloSend _ => true
  | .helloRx _ => true
  | .partnerLost _ => true
  | .seekTimeout _ => true
  | .mirrorSend _ => true
  | .maccMirror _ => true
  | .mirrorRx _ => true
  | .mirrorAckRx _ => true
  | .syncReqRx _ => true
  | .fullCopyDone _ => true
  | .syncDoneRx _ => true
  | .stopRx _ => true
  | .swapRx _ => true
  | .swapInstant _ => true
  | .swapHandover _ => true
  | .drillCheck _ => true
  | .drillDue _ => true
  | .ptnSwap => true
  | .blobSync => true
  | .ptnResync => true
  | .take => true
  | .ptnEnableWrite _ => true
  | .oscillatorRestart _ => true
  | .vbakLost _ => true
  | .portLinkChange port _ _ _ _ => wfPortLinkChange port
  | .pairPathLost _ _ => true
  | .hartIdle hart => wfHartIdle hart
  | .sleepEntryDone _ => true
  | .blobSyncDone _ => true
  | .glideUpdate _ => true
  | .stringRunSecond n _ => wfStringRunSecond n

end Sys2Proof
end

