-- ==== Sys2Proof/Machine/Ops.lean ====
section
/-! DEFINITION. The operations every command's meaning is written with: the working state, the clock, registers,
memory, events, records, counters and queues. -/

namespace Sys2Proof

/-- A byte of the queue pool as a read finds it, by number of the read and address: where Cooper places a queue in the pool is
not stated (R342). -/
opaque Config.poolByte : Nat → Nat → Byte

end Sys2Proof

namespace Sys2Proof.Machine

/-- The queue pool in on-chip SRAM (R45, R321). -/
def inPool (a : Nat) : Bool := decide (0x12800000 ≤ a) && decide (a < 0x13000000)

/-- The working state of one command: the devices, memory as it stood, and the bytes stored so far, newest first. -/
structure W extends Dev where
  mem : Mem
  out : List (Nat × Byte)
  /-- DRAM and SRAM were zeroed (R320, R321): the stores of `out` into them are those made since. -/
  zeroed : Bool

/-- A command's meaning from its effect: an ill-formed command is refused, any other answers the state with the
devices as the effect leaves them and its stores applied in order. -/
def run (ok : Bool) (name : String) (f : W → W) (s : State) : Host.Outcome State Fault Refusal :=
  if ok then
    let w := f { toDev := s.dev, mem := s.mem, out := [], zeroed := false }
    .next { s with dev := w.toDev, mem := (if w.zeroed then s.mem.clearRam else s.mem).wrAll w.out }
  else .refused (.illFormed name)

/-- The lanes run, so that their writes and reads reach the blocks: not while sleep entry holds them (R398). -/
def W.lanesRun (w : W) : Bool := (w.op == .serving || w.op == .degraded || w.op == .holding) && !w.sys.entering

/-- Whether a write or read by the lanes reaches the blocks. -/
def lanesOn (s : State) : Bool := W.lanesRun { toDev := s.dev, mem := s.mem, out := [], zeroed := false }

/-- The meaning of a write or read by the lanes: without effect while no lane runs. -/
def runL (ok : Bool) (name : String) (f : W → W) (s : State) : Host.Outcome State Fault Refusal :=
  run ok name (fun w => if w.lanesRun then f w else w) s

namespace W

/-! ## Time -/

/-- The time counter in whole ns since the epoch (R10). -/
def ns (w : W) : Nat := w.tb.now / 2 ^ 32

/-- The counter's seconds and nanoseconds. -/
def sec (w : W) : Nat := w.ns / 1000000000
def nsec (w : W) : Nat := w.ns % 1000000000

/-- The base MAC address (R465), byte 0 most significant. -/
def baseMac : Nat := beNat (leBytes 4 (resetOf 0x40180060).toNat ++ leBytes 2 (resetOf 0x40180064).toNat)

/-- A stamp's compact form (R12). -/
def compact (t : Nat) : Nat := t % 2 ^ 32

/-! ## Registers -/

def get (w : W) (f : Fld) : Nat := w.regs.fld f
def bit (w : W) (f : Fld) : Bool := w.regs.bit f
def set (w : W) (f : Fld) (n : Nat) : W := { w with regs := w.regs.put f n }
def setB (w : W) (f : Fld) (b : Bool) : W := w.set f (if b then 1 else 0)
def bump (w : W) (f : Fld) (n : Nat) : W := { w with regs := w.regs.bump f n }

/-- The response to the lanes. -/
def answer (w : W) (v : Nat) : W := { w with resp := ⟨v, false⟩ }
def accessFault (w : W) : W := { w with resp := ⟨0, true⟩ }

/-! ## States -/

/-- The main domain is powered. -/
def mainOn (w : W) : Bool := !(w.op == .cold || w.op == .sleep)

/-- Engines serve. -/
def serves (w : W) : Bool := w.op == .serving || w.op == .degraded

/-- Engines serve and the module is not in reduced mode, which gates the Loom and stops radios and gates (R397). -/
def loom (w : W) : Bool := w.serves && !w.bit SYS_STATUS_reduced

/-! ## Memory -/

def rd8 (w : W) (a : Nat) : Byte :=
  if inPool a then Config.poolByte w.free a
  else match w.out.find? (fun e => e.1 == a) with
  | some e => e.2
  | none => if w.zeroed && inRam a 1 then 0 else w.mem.rd a

/-- DRAM and SRAM zeroed. -/
def zeroRam (w : W) : W := { w with out := w.out.filter (fun (e : Nat × Byte) => !inRam e.1 1), zeroed := true }

def wr8 (w : W) (a : Nat) (b : Byte) : W := { w with out := (a, b) :: w.out }

/-- `n` bytes from an address, or the queue pool's as they happen to be. -/
def rdBytes (w : W) (a n : Nat) : List Byte := (upTo n).map (fun i => w.rd8 (a + i))

/-- A little-endian number of `n` bytes at an address. -/
def rdLe (w : W) (a n : Nat) : Nat := leNat (w.rdBytes a n)

/-- A byte string stored from an address on. -/
def wrBytes (w : W) (a : Nat) : List Byte → W
  | [] => w
  | b :: t => (w.wr8 a b).wrBytes (a + 1) t

def wrLe (w : W) (a n v : Nat) : W := w.wrBytes a (leBytes n v)

/-! ## Free values -/

/-- The next free value's number, drawn. -/
def draw (w : W) : W := { w with free := w.free + 1 }

/-! ## Events (R328) -/

/-- The number of the block a register belongs to (R13). -/
def blockOf (f : Fld) : Nat := (f.addr - 0x40000000) / 0x10000

/-- An interrupt source raised with a parameter. -/
def raise (w : W) (source param : Nat) : W :=
  { w with irq := { w.irq with raised := w.irq.raised ++ [⟨source, param, w.ns, false, false, false⟩] } }

/-- An EVENT bit set; where it rises, its source is raised (R328). -/
def ev (w : W) (f : Fld) (param : Nat) : W :=
  if w.bit f then w else (w.set f 1).raise (16 * blockOf f + f.lo) param

/-- An EVENT bit set and its source raised every time, where the chapter has each occurrence write an interrupt record
(R96, R98, R209). -/
def evEach (w : W) (f : Fld) (param : Nat) : W := (w.set f 1).raise (16 * blockOf f + f.lo) param

/-! ## Unsaved changes (R390) -/

/-- A change of a setting: an automatic save falls due auto_s after the first one since the last save. -/
def dirty (w : W) : W :=
  match w.sys.dirtyUp with
  | some _ => w
  | none => ({ w with sys := { w.sys with dirtyUp := some w.tb.up } } : W).set SYS_STATUS_settings_dirty 1

/-! ## Counters (R411, R412) -/

/-- One selected counter counts: its limit may be reached (R412). -/
def tallySel (w : W) (k n : Nat) : W :=
  let old := (tblGet w.prf.sel k).getD 0
  let new := (old + n) % 2 ^ 64
  let w := { w with prf := { w.prf with sel := tblPut k new w.prf.sel } }
  let lim := w.get (PRF_SEL_LIMIT_v k)
  if w.bit (PRF_SEL_CFG_limit k) && decide (0 < lim) && decide (old % 2 ^ 32 < lim) && decide (lim ≤ old % 2 ^ 32 + n)
  then w.ev PRF_EVENT_sel_limit k else w

/-- Event number `e` counts `n` times, unless the counters are frozen (R413). -/
def tallyN (w : W) (e n : Nat) : W :=
  if w.bit PRF_CTRL_freeze || n == 0 then w
  else
    let w := { w with prf := { w.prf with cnt := tblPut e (((tblGet w.prf.cnt e).getD 0 + n) % 2 ^ 64) w.prf.cnt } }
    ((upTo 32).filter (fun k => w.bit (PRF_SEL_CFG_run k) && w.get (PRF_SEL_CFG_event k) == e)).foldl
      (fun w k => w.tallySel k n) w

def tally (w : W) (e : Nat) : W := w.tallyN e 1

/-! ## Time quality (R62, R70, R71) -/

/-- The discipline sources of the clock plan, in order, ended by none and repeats dropped: 1 PTP, 2 PPS, 3 REF10M. -/
def sources (w : W) : List Nat :=
  let b := w.tb.list
  (([b % 4, b / 4 % 4, b / 16 % 4, b / 64 % 4].takeWhile (· != 0))).eraseDups

def srcValid (w : W) (s : Nat) : Bool :=
  if s = 1 then w.tb.ptpValid else if s = 2 then w.tb.ppsValid else w.tb.refValid

/-- The phase source: the first valid of PTP and PPS in list order; 0 none (R62). -/
def phaseSrc (w : W) : Nat := ((w.sources.filter (· != 3)).find? (fun s => w.srcValid s)).getD 0

/-- REF10M_IN sets the frequency (R62). -/
def refInUse (w : W) : Bool := w.sources.contains 3 && w.tb.refValid

/-- What the estimate grows by in `t` ns of holdover, with and without REF10M_IN (R70). -/
def holdGrowth (ref : Bool) (t : Nat) : Nat :=
  if ref then (20000000000000 * t + t * t) / 100000000000000000000000
  else (7000000000000 * t + 3 * t * t) / 100000000000000000000

/-- The estimate in ns at a true time; none when unknown. -/
def estAt (q : TqPast) (up : Nat) : Option Nat :=
  match q.grows with
  | none => q.est
  | some (from_, ref) => q.est.map (· + holdGrowth ref (up - from_))

/-- What the error estimate of R71 rests on; none when unknown, as where the source states no inaccuracy. The standard
deviation is that of the offsets over the samples held (DEDUCED), and the sum is truncated to whole ns (R460). The spec gives
no estimate in ACQUIRING before any sample, nor in HOLDOVER without one: shown are the formula of R70 from the last e0, else
what FREE shows (DESIGN CHOICE). -/
def tqBasis (w : W) : TqPast :=
  let st := w.get TBS_STATUS_servo_state
  let now (e : Option Nat) : TqPast := ⟨w.ns, w.tb.up, st == 2, e, none⟩
  let free := now (if w.tb.fromRtc then some 1000000000 else none)
  let hold : TqPast := match w.tb.e0 with
    | some e => ⟨w.ns, w.tb.up, false, some e, some (w.tb.lastGood, w.refInUse)⟩
    | none => free
  if st = 2 then
    let n := w.tb.offs.length
    let sAbs := (w.tb.offs.map (fun x => x.natAbs)).sum
    let sx : Int := w.tb.offs.foldl (· + ·) 0
    let sxx := (w.tb.offs.map (fun x => x.natAbs * x.natAbs)).sum
    now (w.tb.inacc.map (fun a => (sAbs + isqrt (9 * (n * sxx - sx.natAbs * sx.natAbs))) / max 1 n + a))
  else if st = 1 then
    match w.tb.offs with
    | x :: _ => now (w.tb.inacc.map (fun a => x.natAbs + a))
    | [] => hold
  else if st = 3 then hold
  else free

/-- The error estimate of R71 in ns. -/
def estimate (w : W) : Option Nat := estAt w.tqBasis w.tb.up

/-- The FRACSEC quality code of an estimate (R71). -/
def tqOf (locked : Bool) (e : Option Nat) : Nat :=
  match e with
  | none => 0xF
  | some e =>
    if e ≤ 100 then (if locked then 0 else 3)
    else if e ≤ 1000 then 4 else if e ≤ 10000 then 5 else if e ≤ 100000 then 6 else if e ≤ 1000000 then 7
    else if e ≤ 10000000 then 8 else if e ≤ 100000000 then 9 else if e ≤ 1000000000 then 0xA
    else if e ≤ 10000000000 then 0xB else 0xF

/-- STAT bits 8:6 of an estimate (R71). -/
def statTqOf (e : Option Nat) : Nat :=
  match e with
  | none => 7
  | some e =>
    if e ≤ 100 then 1 else if e ≤ 1000 then 2 else if e ≤ 10000 then 3 else if e ≤ 100000 then 4
    else if e ≤ 1000000 then 5 else if e ≤ 10000000 then 6 else 7

/-- STAT bit 13 (R71): the estimate is above 1 µs, or unknown. -/
def unsyncOf (e : Option Nat) : Bool := match e with | none => true | some e => decide (1000 < e)

def tqCode (w : W) : Nat := tqOf (w.get TBS_STATUS_servo_state == 2) w.estimate
def statTq (w : W) : Nat := statTqOf w.estimate
def unsync (w : W) : Bool := unsyncOf w.estimate

/-- Whether the servo was LOCKED, and the estimate, at an earlier instant of the counter. -/
def qualityAt (w : W) (inst : Nat) : Bool × Option Nat :=
  let q := (w.tb.quals.find? (fun q => decide (q.ns ≤ inst))).getD w.tqBasis
  (q.locked, estAt q (q.up + (inst - q.ns)))

/-- The estimate is at most 1,000 ns. -/
def timeOk (w : W) : Bool := !w.unsync

/-! ## Scrivener records (R402 to R405) -/

/-- A record put into the FIFO: behind every other, but for those that the same CLK_FAB edge raised in blocks of a higher
number (R405). -/
def fifoPut (r : RawRec) (l : List RawRec) : List RawRec :=
  let later := (l.reverse.takeWhile (fun x => x.stamp / 2 == r.stamp / 2 && decide (r.block < x.block))).length
  l.take (l.length - later) ++ r :: l.drop (l.length - later)

/-- A record handed to the Scrivener's input FIFO: 16 of its 256 entries are held for protected codes, and a record
that finds no room is lost (R405). -/
def recordX (w : W) (software : Bool) (code block p0 p1 p2 p3 : Nat) : W :=
  let r : RawRec := ⟨code, software, w.tqCode == 0xF, block, w.ns, p0, p1, p2, p3⟩
  if w.scr.fifo.length < (if code < 0x100 then 256 else 240) then
    { w with scr := { w.scr with fifo := fifoPut r w.scr.fifo } }
  else
    let w := w.bump REC_LOST_CNT_v 1
    let w := { w with scr := { w.scr with lostCount := w.scr.lostCount + 1, lastLoss := w.tb.up, lostFlag := true } }
    w.ev REC_EVENT_lost 0

/-- A record raised by a block. -/
def record (w : W) (code block p0 p1 p2 p3 : Nat) : W := w.recordX false code block p0 p1 p2 p3

/-- The EVENT register an event bit lies in, as a word. -/
def evWord (w : W) (f : Fld) : Nat := (w.regs.rd f.addr).toNat

/-- An event with its block record (R403): parameter 0 as the interrupt's, parameter 1 the EVENT register after it. -/
def evRec (w : W) (f : Fld) (param : Nat) (p2 p3 : Nat := 0) : W :=
  let w := w.ev f param
  w.record (0x100 + 0x80 * blockOf f + f.lo) (blockOf f) param (w.evWord f) p2 p3

/-! ## The clock (R59, R68) -/

/-- The slew limit in µs/s (TBS_CTRL.slew_limit: 0 acts as 1, above 500 as 500). -/
def slewLimit (w : W) : Nat := max 1 (min 500 (w.get TBS_CTRL_slew_limit))

/-- The bound of R59 on an increment's distance from 4 ns: 0.002 ns, in 2^-32 ns. -/
def incBound : Int := 8589934

/-- The most of a correction that one CLK_TB edge removes, 2^-32 ns (R68): the slew limit, and what the increment limit of
R59 leaves beside the frequency term. -/
def slewPerEdge (slew freq : Int) (limit : Nat) : Int :=
  min (4 * limit * 2 ^ 32 / 1000000 : Nat) (max 0 (if 0 ≤ slew then incBound - freq else incBound + freq))

/-- The part of a correction left after `n` CLK_TB edges that remove at most `per` each. -/
def slewLeft (slew per : Int) (n : Nat) : Int :=
  if 0 ≤ slew then max 0 (slew - n * per) else min 0 (slew + n * per)

/-- Cycle counters over `dt` ns: whole cycles counted and the fractions kept (R411, R25). -/
def cycles (w : W) (dt : Nat) : W :=
  let step (w : W) (i rate : Nat) : W :=
    let acc := w.tb.cyc.getD i 0 + dt * rate
    let w := { w with tb := { w.tb with cyc := w.tb.cyc.set i (acc % 10000) } }
    w.tallyN (0xE0 + i) (acc / 10000)
  step (step (step (step w 0 5000) 1 2500) 2 8000) 3 2048

/-- The counter carried forward to the instant `t`, never back; the slew term consumes its correction meanwhile. -/
def at_ (w : W) (t : Nat) : W :=
  if w.ns < t then
    let dt := t - w.ns
    let s := slewLeft w.tb.slew (slewPerEdge w.tb.slew w.tb.freq w.slewLimit) (dt / 4)
    let w := { w with tb := { w.tb with now := t * 2 ^ 32, up := w.tb.up + dt, slew := s } }
    let w := if w.mainOn then w.cycles dt else w
    w
  else w

/-! ## Cooper queues (R342 to R346) -/

/-- The bytes a unit of `len` bytes occupies (R342). -/
def unitSize (len : Nat) : Nat := 8 + 8 * ceilDiv len 8

def qState (w : W) (q : Nat) : QState := (tblGet w.que q).getD QState.empty

/-- The queue's item in the active pattern. -/
def qItem (w : W) (q : Nat) : Option QItem := w.pat.active.queues.find? (fun i => i.queue == q)

/-- Bytes in use: the units held and the one being written. -/
def qFill (s : QState) : Nat :=
  (s.units.map (fun u => unitSize u.len)).sum + (match s.part with | some b => unitSize b.length | none => 0)

def setQue (w : W) (q : Nat) (s : QState) : W := { w with que := tblPut q s w.que }

/-- A queue's state stored, and its registers brought up to date (QUE_Q_FREE, HWM, STAT, RHEAD). `full` stands while
no unit of any length fits, or a lane store is held (DEDUCED). -/
def qStore (w : W) (i : QItem) (s : QState) : W :=
  let q := i.queue
  let fill := qFill s
  let w := w.setQue q s
  let w := w.set (QUE_Q_FREE_v q) (i.size - fill)
  let w := w.set (QUE_Q_HWM_v q) (max fill (w.get (QUE_Q_HWM_v q)))
  let w := w.setB (QUE_Q_STAT_full q) (decide (i.size - fill < 16) || s.held.isSome)
  let w := w.setB (QUE_Q_STAT_flushing q) s.flush.isSome
  let w := w.set (QUE_Q_STAT_units q) s.units.length
  if i.consumer = 0xF0 then
    match s.units with
    | u :: _ => ((w.set (QUE_Q_RHEAD_len q) u.len).setB (QUE_Q_RHEAD_aborted q) u.aborted).set (QUE_Q_RHEAD_valid q) 1
    | [] => ((w.set (QUE_Q_RHEAD_len q) 0).setB (QUE_Q_RHEAD_aborted q) s.headAborted).set (QUE_Q_RHEAD_valid q) 0
  else w

/-- Whether a block's queue has room for a unit of `len` bytes; a path the pattern lacks has none. -/
def hasRoom (w : W) (producer consumer len : Nat) : Bool :=
  match w.pat.active.path producer consumer with
  | some i => decide (qFill (w.qState i.queue) + unitSize len ≤ i.size)
  | none => false

/-- A block's unit written to its queue; without room the unit is not written (the block's chapter says what then). -/
def push (w : W) (producer consumer : Nat) (u : QUnit) : W :=
  match w.pat.active.path producer consumer with
  | some i =>
    let s := w.qState i.queue
    if qFill s + unitSize u.len ≤ i.size then
      (w.qStore i { s with units := s.units ++ [u], wp := (s.wp + unitSize u.len) % i.size,
                           wp2 := (s.wp2 + unitSize u.len) % i.size }).tally 0xC8
    else w
  | none => w

/-- A unit that its consumer takes as soon as it is whole (R17): in and out of the path's queue. -/
def cross (w : W) (producer consumer len : Nat) : Option W :=
  if w.hasRoom producer consumer len then
    match w.pat.active.path producer consumer with
    | some i =>
      let w := w.push producer consumer ⟨.bytes [], len, false⟩
      let s := w.qState i.queue
      some (w.qStore i { s with units := s.units.dropLast, rp := (s.rp + unitSize len) % i.size,
                                rp2 := (s.rp2 + unitSize len) % i.size })
    | none => none
  else none

/-- The unit at the head of a path, if one is held. -/
def headOf (w : W) (producer consumer : Nat) : Option QUnit :=
  match w.pat.active.path producer consumer with
  | some i => (w.qState i.queue).units.head?
  | none => none

/-- The head unit taken by its consumer: its space is released (R342). -/
def popQ (w : W) (producer consumer : Nat) : W :=
  match w.pat.active.path producer consumer with
  | some i =>
    let s := w.qState i.queue
    match s.units with
    | u :: t => w.qStore i { s with units := t, rpos := 0, headAborted := false,
                                    rp := (s.rp + unitSize u.len) % i.size,
                                    rp2 := (s.rp2 + unitSize u.len) % i.size }
    | [] => w
  | none => w

/-! ## The partner (R426, R428) -/

/-- The serial of the running pattern; 0 for the factory pattern. -/
def patSerial (w : W) : Nat := if w.pat.active.factory then 0 else w.pat.active.serial

/-- The member of a pair whose roles are gated: SYNCING or STANDBY (R428). -/
def isStandby (w : W) : Bool := w.get PTN_STATUS_state == 2 || w.get PTN_STATUS_state == 3

/-- With shadow 0 the gated member's ingress discards every data frame and no group runs (R428). -/
def isQuiet (w : W) : Bool := w.isStandby && !w.bit PTN_CTRL_shadow

/-- The module's own number, a module's system-table entry, and its pair flag (R166). -/
def me (w : W) : Nat := w.get CRY_SYS_CFG_module_no
def sysEntry (w : W) (m : Nat) : List Byte := (tblGet w.cry.table m).getD []
def isPair (w : W) (m : Nat) : Bool := tst (le (w.sysEntry m) 22 1) 0

/-- This member sends its changes: its table entry is a pair's, it is active, hears the partner on the pair link, and both
run a pattern of one serial (R422, R426, R432). -/
def mirrors (w : W) : Bool :=
  w.serves && w.isPair w.me && decide (4 ≤ w.get PTN_STATUS_state) && w.bit PTN_STATUS_link_up
    && (match w.ptn.hello with | some h => h.serial == w.patSerial | none => false)

/-- A change put among the items that wait for the standby. -/
def mirrorItem (w : W) (kind index : Nat) (data : List Byte) : W :=
  if w.mirrors then { w with ptn := { w.ptn with queue := w.ptn.queue ++ [⟨kind, index, data, false⟩] } } else w

/-! ## Pins (R40, R451, R452) -/

/-- The function a pin has: an item's code, else its class's default. -/
def pinFunc (w : W) (pin : Nat) : Nat :=
  let d := if pin < 0x40 then 1 else 6
  match w.pat.active.pins.find? (fun i => i.pin == pin) with
  | some i => if i.func = 0 then d else i.func
  | none => d

/-- The invert flag of a pin's item. -/
def pinInverts (w : W) (pin : Nat) : Bool :=
  match w.pat.active.pins.find? (fun i => i.pin == pin) with
  | some i => tst i.flags 2
  | none => false

/-! ## Gating -/

/-- Blocks in a clock domain the clock plan disables read their reset values (R36). -/
def gated (w : W) (block : Nat) : Bool :=
  let off (i : Nat) : Bool := !tst w.pat.active.domains i
  (block == 0x18 && off 3) || (block == 0x09 && off 5) || (block == 0x0B && off 6) || (block == 0x0D && off 7)

end W

end Sys2Proof.Machine
end

