-- ==== Sys2Proof/Machine/NetOps.lean ====
section
/-! DEFINITION. The switch and the host port (R22, R23): forwarding, learning, tagging, classifying, and the sending of
frames that the module builds. -/

namespace Sys2Proof.Machine

/-- What the host port reads of a frame's IP packet: protocol, ports, the data after the header, and whether it is a
fragment. -/
structure IpView where
  proto : Nat
  srcPort : Nat
  dstPort : Nat
  data : List Byte
  fragment : Bool
  deriving DecidableEq, Repr

/-- The IP packet of a frame, IPv4 or IPv6 without extension headers. -/
def ipView (f : EthFrame) : Option IpView :=
  if f.etype = 0x0800 then
    let ihl := 4 * (be f.payload 0 1 % 16)
    let frag := be f.payload 6 2 % 2 ^ 14 != 0 && be f.payload 6 2 % 2 ^ 14 != 2 ^ 14
    let b := f.payload.drop ihl
    some ⟨be f.payload 9 1, be b 0 2, be b 2 2, b.drop 8, frag⟩
  else if f.etype = 0x86DD then
    let b := f.payload.drop 40
    some ⟨be f.payload 6 1, be b 0 2, be b 2 2, b.drop 8, be f.payload 6 1 == 44⟩
  else none

/-- A frame's bytes from the destination address on. -/
def frameBytes (f : EthFrame) : List Byte :=
  beBytes 6 f.dst ++ beBytes 6 f.src
    ++ (match f.tag with | some g => beBytes 2 0x8100 ++ beBytes 2 (g.pcp * 2 ^ 13 + bitNat g.dei * 2 ^ 12 + g.vid) | none => [])
    ++ beBytes 2 f.etype ++ f.payload

/-- Whether a held frame waits for the lanes. -/
def HostFrame.forLanes (f : HostFrame) : Bool := match f.body with | .lanes _ => true | .c37 _ => false

namespace W

/-- A port's VLAN ID: 0x000 and 0xFFF are treated as 0x001. -/
def pvid (w : W) (p : Nat) : Nat :=
  let v := w.get (NET_PORT_CTRL_pvid p)
  if v = 0 ∨ v = 0xFFF then 1 else v

/-- A port's transmitter may be lit (R453): in no state in which outputs stand in their reset state, and on an SFP+ port not
on the factory pattern nor in HOLDING. -/
def portLit (w : W) (p : Nat) : Bool :=
  w.mainOn && w.op != .stopped && w.sys.hold.isNone && (decide (4 ≤ p) || !(w.pat.active.factory || w.op == .holding))

/-- A frame put on the wire of port p, untagged in the port's own VLAN (R22); a port that is off, and every port while
CLK_NET is gated (R36), sends nothing. -/
def emit (w : W) (p : Nat) (g : VTag) (dst src : Nat) (body : TxBody) : W :=
  if w.bit (NET_PORT_CTRL_enable p) && w.bit (NET_PORT_CTRL_tx_enable p) && w.portLit p && !w.gated 0x18 then
    let tag := if g.vid = w.pvid p then none else some g
    let w : W := { w with net := { w.net with wire := ⟨p, tag, dst, src, body⟩ :: w.net.wire } }
    w.tally (0x26 + p)
  else w

/-- A multicast or broadcast address. -/
def groupAddr (dst : Nat) : Bool := dst / 2 ^ 40 % 2 == 1

/-- The ports a frame goes to: the learned one, or every other one (6 is the host port). -/
def outPorts (w : W) (inPort vlan dst : Nat) : List Nat :=
  match (if groupAddr dst then none else tblGet w.net.fdb (vlan * 2 ^ 48 + dst)) with
  | some p => if p = inPort then [] else [p]
  | none => (upTo 7).filter (· != inPort)

def learn (w : W) (inPort vlan src : Nat) : W :=
  { w with net := { w.net with fdb := tblPut (vlan * 2 ^ 48 + src) inPort w.net.fdb } }

/-- A frame built by the module, sent through the switch from the host port with the base MAC address (R465). VLAN ID 0
stands for 1. -/
def hostSend (w : W) (g : VTag) (dst : Nat) (body : TxBody) : W :=
  let g := if g.vid = 0 then { g with vid := 1 } else g
  let w := w.learn 6 g.vid baseMac
  (w.outPorts 6 g.vid dst).foldl (fun w p => if p = 6 then w else w.emit p g dst baseMac body) w

/-- A frame of a block put out: on the port it names, or as the switch has learned. -/
def sendOut (w : W) (port : Option Nat) (g : VTag) (dst : Nat) (body : TxBody) : W :=
  match port with
  | some p => w.emit p (if g.vid = 0 then { g with vid := 1 } else g) dst baseMac body
  | none => w.hostSend g dst body

/-- A frame of a block through the block's queue to the switch (R17); none where that has no room. While CLK_NET is gated the
frame stays in the queue. -/
def sendFrom (w : W) (producer : Nat) (port : Option Nat) (g : VTag) (dst : Nat) (body : TxBody) : Option W :=
  if w.gated 0x18 then
    if w.hasRoom producer 0xF1 body.len then some (w.push producer 0xF1 ⟨.frame port g dst body, body.len, false⟩) else none
  else (w.cross producer 0xF1 body.len).map (fun (w : W) => w.sendOut port g dst body)

/-- A block sends a frame: behind its other frames that wait, or while its queue has no room, it waits too (R127). Where the
pattern has no queue for the block it sends none (R461). -/
def blockSend (w : W) (producer : Nat) (port : Option Nat) (g : VTag) (dst : Nat) (body : TxBody) : W :=
  match w.pat.active.path producer 0xF1 with
  | none => w
  | some _ =>
    let wait : W := { w with net := { w.net with wait := w.net.wait ++ [(producer, port, g, dst, body)] } }
    if w.net.wait.any (fun x => x.1 == producer) then wait else (w.sendFrom producer port g dst body).getD wait

/-- Frames that wait go into their queues, each block's in their order, while there is room; `stuck` are the blocks whose
queue has none. -/
def waitFlush (stuck : List Nat) : List (Nat × Option Nat × VTag × Nat × TxBody) → W → W
  | [], w => w
  | x :: rest, w =>
    match (if stuck.contains x.1 then none else w.sendFrom x.1 x.2.1 x.2.2.1 x.2.2.2.1 x.2.2.2.2) with
    | some w => waitFlush stuck rest { w with net := { w.net with wait := w.net.wait.erase x } }
    | none => waitFlush (x.1 :: stuck) rest w

/-- Frames that stayed in a block's queue to the switch sent, once CLK_NET runs. -/
def netDrain (producer : Nat) : Nat → W → W
  | 0, w => w
  | n + 1, w =>
    match w.headOf producer 0xF1 with
    | some ⟨.frame port g dst body, _, _⟩ => netDrain producer n ((w.popQ producer 0xF1).sendOut port g dst body)
    | _ => w

/-- The class of a frame at the host port (R23): the lowest it matches. A fragment matches no port, whatever the port its
datagram is sent to: R81 says so of the class 3 ports, for the others it is a DESIGN CHOICE. -/
def hostClass (w : W) (f : EthFrame) : Nat :=
  let p := w.pat.active
  let udpTo (n : Nat) : Bool :=
    match ipView f with | some v => v.proto == 17 && v.dstPort == n && !v.fragment | none => false
  let tcpTo (n : Nat) : Bool :=
    match ipView f with | some v => v.proto == 6 && v.dstPort == n && !v.fragment | none => false
  if f.etype = 0x88F7 ∨ udpTo 319 ∨ udpTo 320 then 0
  else if udpTo (w.get CRY_BRD_CFG_udp_port) then 1
  else if f.etype = 0x88BA then 2
  else if (p.c37Udp ≠ 0 ∧ udpTo p.c37Udp) ∨ (p.c37Tcp ≠ 0 ∧ tcpTo p.c37Tcp) then 3
  else 4

/-- Whether a class 3 datagram goes to stream ingress: its type bits say data, or it is shorter than 2 bytes (R80). -/
def c37Data (d : List Byte) : Bool := decide (d.length < 2) || (be d 1 1 / 16 % 8 == 0)

/-! ## The host buffer (R23) -/

/-- The bytes the host buffer holds. -/
def hostFill (w : W) : Nat := (w.net.host.map (fun (f : HostFrame) => f.len)).sum

/-- The last frame of a list that satisfies `p` taken out. -/
def dropLastOf (p : HostFrame → Bool) (l : List HostFrame) : List HostFrame := (l.reverse.eraseP p).reverse

/-- Frames dropped while the buffer holds more than 256 KiB: from the highest class downward, each counted; of a class the
newest first (DESIGN CHOICE). -/
def hostTrim : Nat → W → W
  | 0, w => w
  | n + 1, w =>
    if w.hostFill ≤ 262144 then w
    else
      let top := (w.net.host.map (fun (f : HostFrame) => f.cls)).foldl max 0
      let w : W := { w with net := { w.net with host := dropLastOf (fun f => f.cls == top) w.net.host } }
      hostTrim n ((w.bump (NET_DROP_CNT_v top) 1).tally 0x2D)

/-- A frame put into the host buffer. -/
def hostHold (w : W) (f : HostFrame) : W :=
  let w : W := { w with net := { w.net with host := w.net.host ++ [f] } }
  hostTrim w.net.host.length w

/-- A frame for the lanes put into their queue; behind others, or without room, it waits in the host buffer (R23). -/
def toLanes (w : W) (cls : Nat) (b : List Byte) : W :=
  if !w.net.host.any HostFrame.forLanes && w.hasRoom 0xF1 0xF0 b.length then w.push 0xF1 0xF0 ⟨.bytes b, b.length, false⟩
  else w.hostHold ⟨cls, b.length, .lanes b⟩

/-- Held frames of the lanes that their queue now has room for move into it, oldest first. -/
def hostLanes : List HostFrame → W → W
  | [], w => w
  | f :: rest, w =>
    match f.body with
    | .c37 _ => hostLanes rest w
    | .lanes b =>
      if w.hasRoom 0xF1 0xF0 b.length then
        let w := w.push 0xF1 0xF0 ⟨.bytes b, b.length, false⟩
        hostLanes rest { w with net := { w.net with host := w.net.host.erase f } }
      else w

/-- The lanes' held frames after their queue has released space. -/
def hostDrain (w : W) : W := hostLanes w.net.host w

/-- The host port takes a frame (R23): frames of class 4, and those of class 3 that are not for stream ingress nor for
the TCP offload, go to the lanes; the others reach their block with that block's own command. -/
def hostTake (w : W) (f : EthFrame) : W :=
  let c := w.hostClass f
  let w := w.tally 0x2C
  if c = 4 then w.toLanes 4 (frameBytes f)
  else if c = 3 then
    match ipView f with
    | some v => if v.proto = 17 ∧ !c37Data v.data then w.toLanes 3 (frameBytes f) else w
    | none => w
  else w

/-- The bytes of a received frame with its tag and FCS. -/
def frameLen (f : EthFrame) : Nat := 18 + (if f.tag.isSome then 4 else 0) + f.payload.length

/-- A frame received on an Ethernet port (R22): tagged, learned and forwarded or flooded. A PTP frame crosses to other ports
only as the timebase passes it on, with PTP_MESSAGE_RX (R63). A frame above 9,018 bytes, which the switch does not support,
is dropped uncounted (DESIGN CHOICE). -/
def switchRx (w : W) (p : Nat) (f : EthFrame) : W :=
  if !w.bit (NET_PORT_CTRL_enable p) || decide (9018 < frameLen f) then w
  else
    let w := w.tally (0x20 + p)
    let g : VTag := match f.tag with
      | none => ⟨w.pvid p, w.get (NET_PORT_CTRL_default_pcp p), false⟩
      | some g => if g.vid = 0 then { g with vid := w.pvid p } else g
    if g.vid = 0xFFF then w
    else
      let w := w.learn p g.vid f.src
      let f := { f with tag := some g }
      let ptp := w.hostClass f == 0
      (w.outPorts p g.vid f.dst).foldl (fun w q =>
        if q = 6 then w.hostTake f
        else if ptp then w
        else w.emit q g f.dst f.src (.eth f)) w

end W

end Sys2Proof.Machine
end

