-- ==== Sys2Proof/Machine/IngOps.lean ====
section
/-! DEFINITION. Stream ingress: the entry cache, the chain checks of ENABLE, the checks of a frame, the conversion of its
values and the TCP receive offload (R79 to R106). -/

namespace Sys2Proof.Machine

/-! ## Entry fields (R86) -/

def entFlags (e : List Byte) : Nat := le e 2 1
def entGroup (e : List Byte) : Nat := le e 3 1
def entRate (e : List Byte) : Int := sgn 16 (le e 4 2)
def entFrameSize (e : List Byte) : Nat := le e 6 2
def entTimeBase (e : List Byte) : Nat := le e 8 4
def entFormat (e : List Byte) : Nat := le e 12 1
def entPh (e : List Byte) : Nat := le e 13 1
def entAn (e : List Byte) : Nat := le e 14 1
def entDg (e : List Byte) : Nat := le e 15 1
def entOffset (e : List Byte) : Nat := le e 16 2
def entNext (e : List Byte) : Nat := le e 18 2
def entSilence (e : List Byte) : Nat := le e 20 2
def entTol (e : List Byte) : Nat := le e 22 2
def entPort (e : List Byte) : Nat := le e 24 2
def entAddr (e : List Byte) : List Byte := cut e 32 16
def entF32 (e : List Byte) (a : Nat) : W32 := BitVec.ofNat 32 (le e a 4)
def entNominal (e : List Byte) : Nat := if tst (entFlags e) 4 then 50 else 60

/-- A block's size in bytes (R87). -/
def blockSize (e : List Byte) : Nat :=
  2 + entPh e * (if tst (entFormat e) 1 then 8 else 4) + (if tst (entFormat e) 3 then 8 else 4)
    + entAn e * (if tst (entFormat e) 2 then 4 else 2) + entDg e * 2

/-- A byte string with bytes replaced from a position on. -/
def patch (b : List Byte) (a : Nat) (v : List Byte) : List Byte := b.take a ++ v ++ b.drop (a + v.length)

/-- A 32-bit counter of an entry raised, saturating (R86). -/
def patchCnt (b : List Byte) (a n : Nat) : List Byte := patch b a (leBytes 4 (min 0xFFFFFFFF (le b a 4 + n)))

/-- A full stamp's bytes (R11). -/
def fullStamp (t : Nat) : List Byte := leBytes 4 (t % 1000000000) ++ leBytes 6 (t / 1000000000)

/-- The groups of the active pattern: byte 0 of an alignment-group item is its number (R108). -/
def patGroups (p : Pattern) : List Nat := (p.groups.getD []).map (fun i => le i 0 1)

namespace W

/-! ## The cache (R100) -/

def entAddrOf (w : W) (i : Nat) : Nat := w.pat.active.streamBase + 256 * i

def setCache (w : W) (c : List (Nat × CacheLine)) : W :=
  ({ w with ing := { w.ing with cache := c } } : W).set ING_STATUS_cache_used c.length

/-- A dirty state half written back to DRAM; the configuration half never is. -/
def writeBack (w : W) (i : Nat) : W :=
  match tblGet w.ing.cache i with
  | some l =>
    match l.dirty with
    | some _ =>
      let w := w.wrBytes (w.entAddrOf i + 192) (l.bytes.drop 192)
      w.setCache (tblPut i { l with dirty := none } w.ing.cache)
    | none => w
  | none => w

/-- A cached copy dropped, its state half written back first. -/
def dropLine (w : W) (i : Nat) : W :=
  let w := w.writeBack i
  w.setCache (tblDel i w.ing.cache)

/-- The entry brought into the cache: 8 ways of 128 sets on the entry index, the least recently used giving way (that
the set is the index modulo 128 is DEDUCED). -/
def fetchEnt (w : W) (i : Nat) : W :=
  let n := w.ing.uses + 1
  let w : W := { w with ing := { w.ing with uses := n } }
  match tblGet w.ing.cache i with
  | some l => (w.setCache (tblPut i { l with used := n } w.ing.cache)).tally 0x33
  | none =>
    let ways := w.ing.cache.filter (fun e => e.1 % 128 == i % 128)
    let w :=
      if ways.length < 8 then w
      else match ways with
        | [] => w
        | h :: t => w.dropLine (t.foldl (fun m e => if e.2.used < m.2.used then e else m) h).1
    let b := w.rdBytes (w.entAddrOf i) 256
    (w.setCache (tblPut i ⟨b, none, n⟩ w.ing.cache)).tally 0x34

/-- A cached entry's bytes. -/
def ent (w : W) (i : Nat) : List Byte :=
  match tblGet w.ing.cache i with
  | some l => l.bytes
  | none => w.rdBytes (w.entAddrOf i) 256

/-- A change of an entry's state half, through the cache. -/
def setEnt (w : W) (i : Nat) (f : List Byte → List Byte) : W :=
  let w := w.fetchEnt i
  match tblGet w.ing.cache i with
  | some l =>
    let d := match l.dirty with | some u => some u | none => some w.tb.up
    w.setCache (tblPut i { l with bytes := f l.bytes, dirty := d } w.ing.cache)
  | none => w

/-! ## Heads and states (R98) -/

def setHead (w : W) (i : Nat) (h : Head) : W :=
  { w with ing := { w.ing with heads := tblPut i h w.ing.heads } }

def headState (w : W) (i : Nat) : Nat :=
  match tblGet w.ing.heads i with | some h => h.state | none => 0

/-- ING_SILENT_CNT: the heads in SILENT (R99). -/
def showSilent (w : W) : W :=
  w.set ING_SILENT_CNT_count (w.ing.heads.filter (fun e => e.2.state == 4)).length

/-- Entries of a chain that an ENABLE has walked belong to no other recorded chain from now on; a head among the later ones
is no head any more. -/
def claim (w : W) (i : Nat) (chain : List Nat) : W :=
  let others := (w.ing.heads.filter (fun e => e.1 != i && !chain.contains e.1)).map
    (fun e => (e.1, { e.2 with chain := e.2.chain.filter (fun x => !chain.contains x) }))
  { w with ing := { w.ing with heads := match tblGet w.ing.heads i with | some h => tblPut i h others | none => others } }

/-- An entry that stands in a chain behind its head: its head-only state fields read 0 (R86). -/
def inTail (w : W) (i : Nat) : Bool := w.ing.heads.any (fun e => e.1 != i && e.2.chain.contains i)

/-- A chain's state stored in its head and in the state byte of every entry. -/
def setChain (w : W) (i : Nat) (h : Head) (st : Nat) : W :=
  let w := w.setHead i { h with state := st }
  (h.chain.foldl (fun w e => w.setEnt e (fun b => patch b 192 (leBytes 1 st))) w).showSilent

/-! ## ENABLE (R88) -/

/-- The walk of R88's first pass from an entry on: the chain, or the code INDEX or CHAIN. An entry is in two chains where
a chain of another head that is WAITING, ACTIVE or SILENT holds it: a disabled or faulty chain may be edited (R102). -/
def walk (w : W) (head : Nat) : Nat → Nat → List Nat → Nat × List Nat
  | 0, i, acc => (if w.pat.active.streamEntries ≤ i then 0x01 else 0x0A, acc)
  | n + 1, i, acc =>
    if w.pat.active.streamEntries ≤ i then (0x01, acc)
    else if acc.contains i || w.ing.heads.any (fun h => h.1 != head && decide (2 ≤ h.2.state) && decide (h.2.state ≤ 4)
        && h.2.chain.contains i)
    then (0x0A, acc)
    else
      let nx := le (w.rdBytes (w.entAddrOf i) 256) 18 2
      if nx = 0xFFFF then (0, acc ++ [i]) else walk w head n nx (acc ++ [i])

/-- A limit field of R88's RANGE: negative, infinite or NaN. -/
def badLimit (e : List Byte) (a : Nat) : Bool :=
  let v := entF32 e a
  !f32Finite v || (f32Neg v && !f32Zero v)

/-- The codes of R88's second pass over the entries of a chain, in the table's order; 0 when all pass. -/
def chainError (groups : List Nat) (es : List (List Byte)) : Nat :=
  let h := es.headD []
  let r := entRate h
  let sizes := es.map blockSize
  let offs := (upTo es.length).map (fun k => 14 + (sizes.take k).sum)
  let total := 14 + sizes.sum + 2
  if r = 0 ∨ r < -60 ∨ 240 < r then 0x02
  else if es.any (fun e => decide (16 ≤ entFormat e) || decide (32 < entPh e) || decide (8 < entAn e)
      || decide (4 < entDg e)) then 0x03
  else if entFrameSize h ≠ total ∨ es.map entOffset ≠ offs ∨ 4096 < entFrameSize h then 0x04
  else if entTimeBase h = 0 ∨ 2 ^ 24 ≤ entTimeBase h then 0x05
  else if entSilence h = 0 ∨ 1000 < entTol h then 0x06
  else if es.any (fun e => entGroup e != 0xFF && !groups.contains (entGroup e)) then 0x07
  else if es.any (fun e => [48, 52, 56, 60, 64].any (badLimit e)) then 0x08
  else if es.any (fun e => decide (32 ≤ entFlags e) || !allZero (cut e 26 6)) then 0x0B
  else 0

/-- ING_CMD_STATUS reports a finished command. -/
def ingDone (w : W) (code : Nat) : W :=
  ((w.set ING_CMD_STATUS_busy 0).set ING_CMD_STATUS_done 1).set ING_CMD_STATUS_result code

/-- The head-only state fields of an entry behind a head zeroed (R86). -/
def tailEnt (w : W) (e : Nat) : W :=
  w.setEnt e (fun b => patch (patch b 208 (List.replicate 24 0)) 236 (List.replicate 20 0))

/-- ENABLE of the chain from head `i` (R88, R98). A failure sets FAULT in every entry that the walk reached, and the error
in the head. -/
def ingEnable (w : W) (i : Nat) : W :=
  if w.pat.active.streamEntries ≤ i then (w.evRec ING_EVENT_entry_fault i).ingDone 0x01
  else
    let (c, chain) := w.walk i 64 i []
    let w := (chain.foldl (fun w e => w.dropLine e) w).claim i chain
    let es := chain.map (fun e => w.rdBytes (w.entAddrOf e) 256)
    let code := if c ≠ 0 then c else chainError (patGroups w.pat.active) es
    let fresh : Head := ⟨chain, 2, none, 0, false, w.tb.up⟩
    if code = 0 then
      let w := w.setChain i fresh 2
      let w := w.setEnt i (fun b => patch b 193 [0])
      let w := (chain.drop 1).foldl tailEnt w
      let w := chain.foldl (fun w e => w.dropLine e) w
      w.ingDone 0
    else
      let w := w.setChain i { fresh with chain := if chain.isEmpty then [i] else chain } 5
      let w := w.setEnt i (fun b => patch b 193 (leBytes 1 code))
      (w.evRec ING_EVENT_entry_fault i).ingDone code

/-- ING_MAP_RESULT: the queried position as it stands (R85). -/
def showMap (w : W) : W :=
  match tblGet w.ing.map (w.get ING_MAP_QUERY_idcode) with
  | some i => (w.set ING_MAP_RESULT_index i).set ING_MAP_RESULT_valid 1
  | none => (w.set ING_MAP_RESULT_index 0).set ING_MAP_RESULT_valid 0

/-! ## Items for the partner (R426) -/

/-- A stream entry, with the enabled byte. -/
def streamItem (w : W) (i : Nat) : List Byte :=
  let st := w.headState i
  w.rdBytes (w.entAddrOf i) 192 ++ leBytes 1 (bitNat (decide (2 ≤ st) && decide (st ≤ 4)))

/-- An IDCODE's position in the map; 0xFFFF for none. -/
def mapItem (w : W) (id : Nat) : List Byte := leBytes 2 ((tblGet w.ing.map id).getD 0xFFFF)

/-- A command has edited an entry: its chain goes to the partner, the head last, and a change of settings waits. -/
def ingTold (w : W) (i : Nat) : W :=
  let rest := match tblGet w.ing.heads i with | some h => h.chain.filter (· != i) | none => []
  ((rest ++ [i]).foldl (fun (w : W) e => w.mirrorItem 1 e (w.streamItem e)) w).dirty

def mapTold (w : W) (id : Nat) : W := (w.mirrorItem 2 id (w.mapItem id)).dirty

/-! ## Values (R94, R95) -/

/-- A converted value: its word, the number n / d that it stands for, and whether the number is finite. The limits of R95
compare the exact numbers. -/
structure NumVal where
  w : W32
  n : Int
  d : Nat
  fin : Bool
  deriving DecidableEq, Repr

def NumVal.ofWord (v : W32) : NumVal := ⟨v, f32Num v, f32Den v, f32Finite v⟩
def NumVal.ofRat (n : Int) (d : Nat) : NumVal := ⟨f32Rat n d, n, d, true⟩

/-- A limit that a value's distance from `mid` exceeds: 0.0 disables the check (R86). -/
def NumVal.over (v : NumVal) (limit : W32) (mid : Nat) : Bool :=
  !f32Zero limit && decide (f32Num limit * v.d < ((v.n - (mid * v.d : Nat)).natAbs : Int) * f32Den limit)

/-- A converted phasor: magnitude and angle words, the square of the magnitude as n / d, and whether it is finite. -/
structure PhVal where
  mag : W32
  ang : W32
  n : Nat
  d : Nat
  fin : Bool
  deriving DecidableEq, Repr

/-- A limit that a magnitude exceeds. -/
def PhVal.over (v : PhVal) (limit : W32) : Bool :=
  !f32Zero limit && decide ((f32Num limit).natAbs * (f32Num limit).natAbs * v.d < v.n * (f32Den limit * f32Den limit))

/-- A magnitude from its square n / d; one beyond the largest float32 is infinite (DESIGN CHOICE: the spec states no
rounding). -/
def PhVal.ofSquare (n d : Nat) (ang : W32) : PhVal :=
  ⟨f32Root n d, ang, n, d, decide (n ≤ d * (2 ^ 128 - 2 ^ 104) ^ 2)⟩

/-- Phasor `n` at byte `a` of the frame in polar form (R94). The angle of a phasor of magnitude 0 in rectangular form is
left free: the spec states none. -/
def phasorAt (e d : List Byte) (n a : Nat) : PhVal :=
  let polar := tst (entFormat e) 0
  if tst (entFormat e) 1 then
    let x := BitVec.ofNat 32 (be d a 4)
    let y := BitVec.ofNat 32 (be d (a + 4) 4)
    let fin := f32Finite x && f32Finite y
    if polar then
      ⟨x, if !f32Finite y || f32InPi y then y else Config.f32Wrap (f32Num y) (f32Den y),
        (f32Num x).natAbs * (f32Num x).natAbs, f32Den x * f32Den x, fin⟩
    else if fin then
      let p := (f32Num x).natAbs * f32Den y
      let q := (f32Num y).natAbs * f32Den x
      let r := f32Den x * f32Den y
      PhVal.ofSquare (p * p + q * q) (r * r) (if f32Zero y && decide (0 < f32Num x) then 0 else Config.f32Angle y x)
    else ⟨Config.f32Hypot x y, Config.f32Angle y x, 0, 1, false⟩
  else
    let unit := le e (72 + 3 * n) 3
    if polar then
      let m := be d a 2 * unit
      let th := sgn 16 (be d (a + 2) 2)
      ⟨f32Rat m 100000, if th.natAbs ≤ 31415 then f32Rat th 10000 else Config.f32Wrap th 10000,
        m * m, 100000 * 100000, true⟩
    else
      let re := sgn 16 (be d a 2)
      let im := sgn 16 (be d (a + 2) 2)
      PhVal.ofSquare ((re.natAbs * re.natAbs + im.natAbs * im.natAbs) * (unit * unit)) (100000 * 100000)
        (if im = 0 ∧ 0 < re then 0 else Config.f32Atan2 im re)

/-- Whether STAT lets a block's values be checked: good data, or test mode with the head's accept_test (R84, R96). -/
def statOk (test : Bool) (stat : Nat) : Bool := stat / 2 ^ 14 == 0 || (stat / 2 ^ 14 == 2 && test)

/-- The checked record of one block of an accepted frame (R94 to R97); `test` is the head's accept_test. -/
def checkedOf (w : W) (test : Bool) (i : Nat) (e d : List Byte) (instant arrival tq : Nat) (unchecked : Bool) : Checked :=
  let o := entOffset e
  let stat := be d o 2
  let phw := if tst (entFormat e) 1 then 8 else 4
  let frw := if tst (entFormat e) 3 then 4 else 2
  let anw := if tst (entFormat e) 2 then 4 else 2
  let fo := o + 2 + phw * entPh e
  let ao := fo + 2 * frw
  let dg := ao + anw * entAn e
  let rng := w.bit ING_CTRL_range_enable
  let ok (v : NumVal) (limit : W32) (mid : Nat) : FVal :=
    ⟨v.w, statOk test stat && v.fin && !(rng && v.over limit mid)⟩
  let nom := entNominal e
  { entry := i, isLocal := false, group := entGroup e, instant := instant, arrival := arrival, stat := stat, tq := tq,
    unchecked := unchecked,
    phasors := (upTo (entPh e)).map (fun n =>
      let v := phasorAt e d n (o + 2 + phw * n)
      (v.mag, v.ang, statOk test stat && v.fin
        && !(rng && v.over (if tst (le e 68 4) n then entF32 e 60 else entF32 e 56)))),
    freq := ok (if frw = 4 then NumVal.ofWord (BitVec.ofNat 32 (be d fo 4))
      else NumVal.ofRat (1000 * nom + sgn 16 (be d fo 2)) 1000) (entF32 e 48) nom,
    dfreq := ok (if frw = 4 then NumVal.ofWord (BitVec.ofNat 32 (be d (fo + 4) 4))
      else NumVal.ofRat (sgn 16 (be d (fo + 2) 2)) 100) (entF32 e 52) 0,
    analog := (upTo (entAn e)).map (fun n =>
      ok (if anw = 4 then NumVal.ofWord (BitVec.ofNat 32 (be d (ao + 4 * n) 4))
        else NumVal.ofRat (sgn 16 (be d (ao + 2 * n) 2) * sgn 24 (le e (168 + 3 * n) 3)) 1) (entF32 e 64) 0),
    digital := (upTo (entDg e)).map (fun n => be d (dg + 2 * n) 2) }

/-- The values R95 counts as marked invalid in a record (a block that STAT makes invalid is not counted). -/
def invalids (c : Checked) : Nat :=
  (c.phasors.filter (fun p => !p.2.2)).length + (if c.freq.ok then 0 else 1) + (if c.dfreq.ok then 0 else 1)
    + (c.analog.filter (fun v => !v.ok)).length

/-! ## Frames (R89 to R93) -/

/-- TBS_LEAP_AT in seconds. -/
def leapSecs (w : W) : Nat := w.get TBS_LEAP_AT_LO_v + 2 ^ 32 * w.get TBS_LEAP_AT_HI_v

/-- TAI seconds of a frame's SOC (R90): in the UTC second an inserted leap second repeats, the leap-occurred bit of
FRACSEC (bit 29) chooses the offset. -/
def taiOf (w : W) (soc frac : Nat) : Int :=
  let cur := sgn 16 (w.get TBS_UTC_OFFSET_tai_utc)
  let old := if w.bit TBS_UTC_OFFSET_leap_occurred then cur - 1 else cur
  let ins := !w.bit TBS_UTC_OFFSET_leap_dir && (w.bit TBS_UTC_OFFSET_leap_pending || w.bit TBS_UTC_OFFSET_leap_occurred)
  if ins && decide ((soc : Int) + old = (w.leapSecs : Int) - 1) then
    (soc : Int) + (if tst frac 29 then old + 1 else old)
  else (soc : Int) + cur



/-- The reporting instant of a stamp (R91): its index and TAI ns, where it lies on the grid within the tolerance. -/
def gridOf (e : List Byte) (sec f : Nat) : Option (Nat × Nat) :=
  let tb := entTimeBase e
  let tol := entTol e
  let r := entRate e
  if 0 < r then
    let R := r.toNat
    let m := (roundDiv (f * R : Nat) tb).toNat
    let diff := ((f * R : Nat) - (m * tb : Nat) : Int).natAbs
    if diff * 1000000 ≤ tol * tb * R then some (sec * R + m, sec * 1000000000 + m * 1000000000 / R) else none
  else
    let R := (-r).toNat
    let g := (roundDiv (sec * tb + f : Nat) (R * tb)).toNat * R
    let diff := ((sec * tb + f : Nat) - (g * tb : Nat) : Int).natAbs
    if diff * 1000000 ≤ tol * tb then some (g / R, g * 1000000000) else none

/-- What the history says of an index (R93): accepted with the new history, a duplicate or stale. -/
def histCheck (h : Head) (k : Nat) : Nat × Head :=
  match h.newest with
  | none => (0, { h with newest := some k, hist := 1 })
  | some n =>
    if n < k then
      (0, { h with newest := some k, hist := if 512 ≤ k - n then 1 else (h.hist * 2 ^ (k - n) + 1) % 2 ^ 512 })
    else if 512 ≤ n - k then (12, h)
    else if tst h.hist (n - k) then (11, h)
    else (0, { h with hist := h.hist + 2 ^ (n - k) })

/-- A frame dropped with a code of R89: counted, and from code 7 on in its head's entry. -/
def dropFrame (w : W) (code : Nat) (head : Option Nat) : W :=
  let w := (w.bump (ING_DROP_CNT_v code) 1).tally 0x31
  match head with
  | some i =>
    if code < 7 then w
    else
      let at_ := if code = 7 then 208 else if code = 8 then 212 else if code = 9 then 216 else if code = 10 then 220
        else if code = 11 then 224 else 228
      if w.inTail i then w else w.setEnt i (fun b => patchCnt b at_ 1)
  | none => w

/-- Checks 0 to 4 of R89, before the lookup; none when all pass. -/
def preCheck (d : List Byte) : Option Nat :=
  let size := be d 2 2
  if d.length < 4 ∨ size < 16 then some 0
  else if be d 0 1 ≠ 0xAA ∨ be d 1 1 / 16 % 8 ≠ 0 ∨ ¬(be d 1 1 % 16 = 1 ∨ be d 1 1 % 16 = 2) then some 1
  else if size ≠ d.length then some 2
  else if 4096 < size then some 3
  else if crc16 0xFFFF (d.take (size - 2)) ≠ be d (size - 2) 2 then some 4
  else none

/-- Whether a frame comes from the source its head names (R89 check 6). -/
def sourceOk (e : List Byte) (f : C37Frame) : Bool :=
  !tst (entFlags e) 3 ||
    (if tst (entFlags e) 0 then f.conn == some (entPort e % 256)
     else f.conn.isNone && f.v6 == tst (entFlags e) 1 && f.addr == entAddr e && (entPort e == 0 || entPort e == f.port))

/-- The checked records of an accepted frame sent to the alignment engine in chain order (R97). -/
def sendChecked (w : W) (cs : List Checked) : W :=
  cs.foldl (fun w c => (w.push 0x05 0x06 ⟨.checked c, c.len, false⟩).tally 0x32) w

/-- Whether the queue to the alignment engine takes these records. -/
def fits (w : W) (cs : List Checked) : Bool :=
  match w.pat.active.path 0x05 0x06 with
  | some i => decide (qFill (w.qState i.queue) + (cs.map (fun c => unitSize c.len)).sum ≤ i.size)
  | none => true

/-- What acceptance of a frame does: `k` is checked against the history by then, `cs` are its records (R93 to R98). -/
def acceptFrame (w : W) (i : Nat) (h h' : Head) (test : Bool) (cs : List Checked) (arrival instant : Nat) : W :=
  let w := w.setChain i { h' with since := w.tb.up } 3
  let newestNs := match h'.newest, h.newest with
    | some a, some b => if a = b then none else some instant
    | _, _ => some instant
  let w := (h.chain.zip cs).foldl (fun w x =>
    let bad := if statOk test x.2.stat then invalids x.2 else 0
    let w := w.setEnt x.1 (fun b =>
      let b := patch b 194 (leBytes 2 x.2.stat)
      let b := patch b 200 (leBytes 8 (le b 200 8 + 1))
      patchCnt b 232 bad)
    w.bump ING_RANGE_CNT_v bad) w
  let w := w.setEnt i (fun b =>
    let b := patch b 236 (fullStamp arrival)
    match newestNs with | some t => patch b 246 (fullStamp t) | none => b)
  let w := w.tally 0x30
  let w := if h.state == 4 then w.evEach ING_EVENT_resumed i else w
  let w := if !h'.cfgSeen && cs.any (fun c => tst c.stat 10) then
      (w.setHead i { h' with state := 3, since := w.tb.up, cfgSeen := true }).evEach ING_EVENT_cfg_change i
    else w
  w.sendChecked (cs.filter (fun c => c.group != 0xFF))

/-- The checks of R89 in their order, and acceptance (R89 to R98); none where stream ingress holds off because the queue to
the alignment engine has no room (R105). -/
def ingressTry (w : W) (f : C37Frame) : Option W :=
  let d := f.data
  if w.isQuiet || !w.bit ING_CTRL_enable then some w
  else match preCheck d with
  | some c => some (w.dropFrame c none)
  | none =>
    let id := be d 4 2
    match tblGet w.ing.map id with
    | none => some (((w.dropFrame 5 none).set ING_UNKNOWN_LAST_idcode id).evRec ING_EVENT_unknown id)
    | some i =>
      let w := w.fetchEnt i
      let e := w.ent i
      match tblGet w.ing.heads i with
      | none => some (if sourceOk e f then w.dropFrame 7 (some i) else w.dropFrame 6 none)
      | some h =>
        let frac := be d 10 4
        let sec := (w.taiOf (be d 6 4) frac).toNat
        let fr := frac % 2 ^ 24
        let tb := entTimeBase e
        let unchecked := w.tqCode == 0xF
        let far : Bool := !unchecked &&
          decide (2000000000 * tb < ((sec * tb * 1000000000 + fr * 1000000000 : Nat) - (f.arrival * tb : Nat) : Int).natAbs)
        if !sourceOk e f then some (w.dropFrame 6 none)
        else if h.state < 2 ∨ 4 < h.state then some (w.dropFrame 7 (some i))
        else if be d 2 2 ≠ entFrameSize e then some (w.dropFrame 8 (some i))
        else if tb ≤ fr ∨ far then some (w.dropFrame 9 (some i))
        else match gridOf e sec fr with
          | none => some (w.dropFrame 10 (some i))
          | some (k, instant) =>
            match histCheck h k with
            | (0, h') =>
              let test := tst (entFlags e) 2
              let cs := h.chain.map (fun x => w.checkedOf test x (w.ent x) d instant f.arrival (frac / 2 ^ 24 % 16) unchecked)
              if w.fits (cs.filter (fun c => c.group != 0xFF)) then some (w.acceptFrame i h h' test cs f.arrival instant)
              else none
            | (c, _) => some (w.dropFrame c (some i))

/-- A frame's bytes in the host buffer and the queue to stream ingress: with Ethernet, IP and UDP headers and FCS, at most
the largest unit (R45). -/
def c37Len (f : C37Frame) : Nat := min 9018 (f.data.length + (if f.v6 then 66 else 46))

/-- A frame through its queue into stream ingress (R17); without the queue, where the stream table has no entry, it is
judged all the same (R106). -/
def ingressOne (w : W) (f : C37Frame) : Option W := ((w.cross 0xF1 0x05 (c37Len f)).getD w).ingressTry f

/-- A data frame for stream ingress: it waits in the host buffer while stream ingress holds off (R23, R105). -/
def ingressFrame (w : W) (f : C37Frame) : W :=
  let wait := w.hostHold ⟨3, c37Len f, .c37 f⟩
  if w.net.host.any (fun x => !x.forLanes) then wait else (w.ingressOne f).getD wait

/-- Held data frames handled in their order, while the queue to the alignment engine has room. -/
def ingHeld : List HostFrame → W → W
  | [], w => w
  | x :: rest, w =>
    match x.body with
    | .lanes _ => ingHeld rest w
    | .c37 f =>
      match w.ingressOne f with
      | some w => ingHeld rest { w with net := { w.net with host := w.net.host.erase x } }
      | none => w

/-- The host buffer after a queue has released space: frames that now have room move on (R23, R105). -/
def hostRelease (w : W) : W := let w := w.hostDrain; ingHeld w.net.host w

/-! ## The TCP receive offload (R82, R83) -/

def setConn (w : W) (c : Nat) (x : TcpConn) : W :=
  { w with ing := { w.ing with conns := tblPut c x w.ing.conns } }

/-- A connection detached by the host port. -/
def tcpDetached (w : W) (c : Nat) : W :=
  ({ w with ing := { w.ing with conns := tblDel c w.ing.conns } } : W).ev ING_EVENT_tcp_detached c

/-- A segment of an attached connection sent with the offload's receive sequence and its fixed window (R82); its
destination address and VLAN are the lanes' affair and are shown as 0 and 1. -/
def tcpSend (w : W) (c : Nat) (x : TcpConn) (seq : Nat) (data : List Byte) : W :=
  let w := w.hostSend ⟨1, 0, false⟩ 0 (.tcp c seq x.rcvNext 65535 data)
  w.setConn c { x with unacked := none, full := 0 }

/-- An acknowledgement by the host port itself; its own sequence number is not stated and is shown as 0 (DESIGN CHOICE). -/
def tcpAck (w : W) (c : Nat) (x : TcpConn) : W := w.tcpSend c x 0 []

/-- A whole frame cut from a byte stream handed to the lanes, in units of at most 9,018 bytes, the largest that their queue
takes (R45, R79); how a longer frame is divided is a DESIGN CHOICE. -/
def toLanesCut : Nat → List Byte → W → W
  | 0, _, w => w
  | n + 1, b, w => if b.isEmpty then w else toLanesCut n (b.drop 9018) (w.toLanes 3 (b.take 9018))

/-- Whole frames at the front of a byte stream (R82): the frames, the rest, and whether a frame boundary lacks 0xAA. -/
def cutFrames : Nat → List Byte → List (List Byte) → List (List Byte) × List Byte × Bool
  | 0, b, acc => (acc, b, false)
  | n + 1, b, acc =>
    match b with
    | [] => (acc, b, false)
    | s :: _ =>
      if s ≠ 0xAA then (acc, b, true)
      else if b.length < 4 then (acc, b, false)
      else
        let size := max 4 (be b 2 2)
        if b.length < size then (acc, b, false)
        else cutFrames n (b.drop size) (acc ++ [b.take size])

/-- A segment taken by the offload where its connection is attached; otherwise its frame goes to the lanes. Full-sized is
a segment of at least 1,460 bytes of data (DESIGN CHOICE: the spec gives no size). -/
def tcpSegment (w : W) (g : TcpSeg) : W :=
  match w.ing.conns.find? (fun c => c.2.v6 == g.v6 && c.2.remote == g.remote && c.2.local_ == g.local_
      && c.2.remotePort == g.remotePort && c.2.localPort == g.localPort) with
  | none => w.toLanes 3 g.frame
  | some (c, x) =>
    if g.rst then w.tcpDetached c
    else if g.seq ≠ x.rcvNext then
      (w.bump ING_TCP_OOO_CNT_v 1).tcpAck c x
    else
      let w := w.tally 0x35
      let (fs, rest, bad) := cutFrames (g.data.length + 1) (x.buf ++ g.data) []
      let x' := { x with
        rcvNext := (x.rcvNext + g.data.length) % 2 ^ 32, buf := rest,
        unacked := if g.data.isEmpty then x.unacked else (match x.unacked with | some u => some u | none => some w.tb.up),
        full := if 1460 ≤ g.data.length then x.full + 1 else x.full }
      let w := w.setConn c x'
      let w := if 2 ≤ x'.full then w.tcpAck c x' else w
      let w := fs.foldl (fun w d =>
        if c37Data d then w.ingressFrame ⟨d, g.v6, g.remote, g.remotePort, some c, g.arrival⟩
        else toLanesCut 8 d w) w
      if g.fin || bad then w.tcpDetached c else w

end W

end Sys2Proof.Machine
end

