-- ==== Sys2Proof/Machine/AlnOps.lean ====
section
/-! DEFINITION. Time alignment: groups, members, sets, the ring, markers, the late lane and the output streams
(R107 to R127). -/

namespace Sys2Proof.Machine

/-! ## Group items (R107, R109) -/

def gNum (i : List Byte) : Nat := le i 0 1
def gAdaptive (i : List Byte) : Bool := tst (le i 1 1) 0
def gRate (i : List Byte) : Int := sgn 16 (le i 2 2)
def gWindow (i : List Byte) : Nat := le i 4 2
def gMin (i : List Byte) : Nat := le i 6 2
def gMax (i : List Byte) : Nat := le i 8 2
def gMargin (i : List Byte) : Nat := le i 10 2
def gMembers (i : List Byte) : Nat := le i 12 2
def gWidth (i : List Byte) : Nat := le i 14 2
def gDepth (i : List Byte) : Nat := le i 16 2
def gLate (i : List Byte) : Nat := le i 18 2
def gRing (i : List Byte) : Nat := le i 24 8
def gLateOff (i : List Byte) : Nat := le i 32 8

/-- Bytes of a ring slot (R109). -/
def gSlotBytes (i : List Byte) : Nat := 64 * ceilDiv (64 + gMembers i * gWidth i) 64

/-! ## The grid (R91, R111) -/

/-- The first reporting instant of a rate at or after `c`. -/
def nextInstant (rate : Int) (c : Nat) : Nat :=
  if 0 < rate then
    let r := rate.toNat
    let s := c / 1000000000
    let m := ceilDiv ((c % 1000000000) * r) 1000000000
    if r ≤ m then (s + 1) * 1000000000 else s * 1000000000 + m * 1000000000 / r
  else
    let p := (-rate).toNat * 1000000000
    if p = 0 then c else ceilDiv c p * p

def isInstant (rate : Int) (t : Nat) : Bool := nextInstant rate t == t

/-- The reporting instants from `c` to `e`, at most `n` of them. -/
def instantsTo (rate : Int) : Nat → Nat → Nat → List Nat
  | 0, _, _ => []
  | n + 1, c, e =>
    let t := nextInstant rate c
    if e < t then [] else t :: instantsTo rate n (t + 1) e

/-! ## Records in memory (R118 to R121) -/

/-- A stamp field: full, or compact in its first 4 bytes (R118). -/
def stampField (compact : Bool) (t : Nat) : List Byte := if compact then padTo 10 (leBytes 4 t) else fullStamp t

/-- The bits of a list of truth values, the first in bit 0. -/
def maskOf : List Bool → Nat
  | [] => 0
  | b :: t => bitNat b + 2 * maskOf t

/-- The bytes of values a member needs in its slot (R119). -/
def slotNeed (ph an dg : Nat) : Nat := 32 + 8 * ph + 4 * an + 2 * dg

def Checked.need (c : Checked) : Nat := slotNeed c.phasors.length c.analog.length c.digital.length

/-- A member slot (R119); `instant` is the set's. -/
def slotBytes (width instant : Nat) (s : AlnSlot) : List Byte :=
  match s.status, s.value with
  | 0, some c =>
    let head := leBytes 2 s.entry ++ [0] ++ leBytes 1 c.tq ++ leBytes 2 c.stat ++ leBytes 1 c.phasors.length
      ++ leBytes 1 c.analog.length ++ leBytes 1 c.digital.length
      ++ leBytes 1 (bitNat c.freq.ok + 2 * bitNat c.dfreq.ok + 4 * bitNat c.unchecked)
      ++ leBytes 1 (maskOf (c.analog.map (·.ok))) ++ [0] ++ leBytes 4 (maskOf (c.phasors.map (·.2.2)))
      ++ leBytes 4 (unsgn 32 (((c.arrival : Int) - instant) / 1000))
      ++ leBytes 4 c.freq.w.toNat ++ leBytes 4 c.dfreq.w.toNat ++ leBytes 4 0
    let vals := (c.phasors.map (fun p => leBytes 4 p.1.toNat ++ leBytes 4 p.2.1.toNat)).flatten
      ++ (c.analog.map (fun v => leBytes 4 v.w.toNat)).flatten ++ (c.digital.map (leBytes 2)).flatten
    padTo width (head ++ vals)
  | st, _ => padTo width (leBytes 2 s.entry ++ leBytes 1 st)

/-- Whether a slot's record holds a value marked invalid. -/
def anyInvalid (c : Checked) : Bool :=
  c.phasors.any (fun p => !p.2.2) || !c.freq.ok || !c.dfreq.ok || c.analog.any (fun v => !v.ok)

def countStatus (ss : List AlnSlot) (st : Nat) : Nat := (ss.filter (fun s => s.status == st)).length

/-- The values of present slots. -/
def presentOf (ss : List AlnSlot) : List Checked := ss.filterMap (fun s => if s.status = 0 then s.value else none)

/-- The largest quality code among present members; 0xF when none is present (R118). -/
def tqWorst (ss : List AlnSlot) : Nat :=
  match presentOf ss with
  | [] => 0xF
  | cs => (cs.map (·.tq)).foldl max 0

/-- Flags of a set record (R118). -/
def setFlags (compact : Bool) (i : List Byte) (s : AlnSet) : Nat :=
  bitNat compact + 2 * bitNat ((presentOf s.slots).any (·.unchecked)) + 4 * bitNat s.stepped + 8 * bitNat s.gap
    + 16 * bitNat (gAdaptive i) + 32 * bitNat s.overrun

/-- A set record (R118). -/
def setBytes (compact : Bool) (i : List Byte) (s : AlnSet) (closed : Nat) : List Byte :=
  let w := gWidth i
  let n := s.slots.length
  padTo 64 ([1] ++ leBytes 1 (gNum i) ++ leBytes 1 s.reason ++ leBytes 1 (setFlags compact i s) ++ leBytes 4 s.seq
    ++ leBytes 2 n ++ leBytes 2 (countStatus s.slots 0) ++ leBytes 2 (countStatus s.slots 1)
    ++ leBytes 2 (countStatus s.slots 2 + countStatus s.slots 3) ++ stampField compact s.instant ++ leBytes 2 s.window
    ++ stampField compact closed ++ leBytes 1 (tqWorst s.slots) ++ [0] ++ leBytes 2 w ++ leBytes 2 0
    ++ leBytes 4 (64 + n * w))
    ++ (s.slots.map (slotBytes w s.instant)).flatten

/-- The first 64 bytes of a slot with an epoch marker (R120). -/
def markerBytes (group flags nextSeq stamp : Nat) : List Byte :=
  padTo 64 ([2] ++ leBytes 1 group ++ [0] ++ leBytes 1 flags ++ leBytes 4 nextSeq ++ leBytes 8 0 ++ fullStamp stamp)

/-- A late-ring entry (R121). -/
def lateBytes (i : List Byte) (flags seq placed : Nat) (c : Checked) (entry : Nat) : List Byte :=
  let st := if gWidth i < c.need then 3 else 0
  padTo 32 ([3] ++ leBytes 1 (gNum i) ++ leBytes 1 flags ++ [0] ++ leBytes 4 seq ++ fullStamp c.instant
    ++ fullStamp placed)
    ++ slotBytes (gWidth i) c.instant ⟨entry, st, 0, 0, 0, some c, none⟩

/-- A notice (R122). -/
def noticeBytes (kind group reason flags seq addr : Nat) : List Byte :=
  leBytes 1 kind ++ leBytes 1 group ++ leBytes 1 reason ++ leBytes 1 flags ++ leBytes 4 seq ++ leBytes 8 addr

/-! ## Output frames (R124, R125) -/

def nan4 : List Byte := beBytes 4 0x7FC00000

def valOrNaN (v : W32) (ok : Bool) : List Byte := if ok then beBytes 4 v.toNat else nan4

/-- One block of an output frame. -/
def outBlock (stale : Bool) (s : AlnSlot) : List Byte :=
  let bit10 := if stale then 0x400 else 0
  match s.status, s.value with
  | 0, some c =>
    let st := (c.stat - (if tst c.stat 12 then 0x1000 else 0)) ||| (if anyInvalid c then 0x200 else 0) ||| bit10
    beBytes 2 st ++ (c.phasors.map (fun p => valOrNaN p.1 p.2.2 ++ valOrNaN p.2.1 p.2.2)).flatten
      ++ valOrNaN c.freq.w c.freq.ok ++ valOrNaN c.dfreq.w c.dfreq.ok
      ++ (c.analog.map (fun v => valOrNaN v.w v.ok)).flatten ++ (c.digital.map (beBytes 2)).flatten
  | _, _ =>
    beBytes 2 (0xC200 ||| bit10) ++ (List.replicate (2 * s.phn + 2 + s.ann) nan4).flatten
      ++ List.replicate (2 * s.dgn) 0

/-- An output frame's bytes. -/
def outFrame (idcode soc fracsec : Nat) (blocks : List Byte) : List Byte :=
  let size := 14 + blocks.length + 2
  let b := beBytes 2 0xAA02 ++ beBytes 2 size ++ beBytes 2 idcode ++ beBytes 4 soc ++ beBytes 4 fracsec ++ blocks
  b ++ beBytes 2 (crc16 0xFFFF b)

namespace W

/-! ## Groups and members -/

def alnItems (w : W) : List (List Byte) := w.pat.active.groups.getD []

/-- The item of a group of the active pattern. -/
def alnItem (w : W) (g : Nat) : Option (List Byte) := w.alnItems.find? (fun i => gNum i == g)

def alnOn (w : W) : Bool := w.pat.active.hasEngine 1

def emptyGroup (i : List Byte) : AlnGroup :=
  { sets := [], written := 0, seq := 0, lastClosed := none, running := false, runFrom := 0, tick := false, step := false,
    start := false, mode := false, gap := false, window := gWindow i, samples := [], known := [] }

def alnGroup (w : W) (i : List Byte) : AlnGroup := (tblGet w.aln.groups (gNum i)).getD (emptyGroup i)

def setGroup (w : W) (g : Nat) (x : AlnGroup) : W :=
  { w with aln := { w.aln with groups := tblPut g x w.aln.groups } }

/-- Live chains with their entries: WAITING, ACTIVE or SILENT (R110). -/
def liveHeads (w : W) : List (Nat × Head) := w.ing.heads.filter (fun h => decide (2 ≤ h.2.state) && decide (h.2.state ≤ 4))

/-- The local-phasor stream's entry index (R110). -/
def localEntry : Nat := 0x2000

/-- Members of a group in slot order: ascending entry index, the local stream last (R110). -/
def membersOf (w : W) (g : Nat) : List Nat :=
  let es := (w.liveHeads.map (fun h => h.2.chain.filter (fun e => entGroup (w.ent e) == g))).flatten
  let sorted := es.foldl (fun (t : List (Nat × Unit)) e => tblPut e () t) []
  sorted.map (·.1) ++
    (if w.bit ALN_LOCAL_CFG_enable && w.get ALN_LOCAL_CFG_group == g then [localEntry] else [])

/-- The head of the chain an entry belongs to. -/
def headOfEntry (w : W) (e : Nat) : Option (Nat × Head) := w.liveHeads.find? (fun h => h.2.chain.contains e)

/-- The rate of a code of SMP_PHS_CTRL in sets/s; 0 where there is none. -/
def phsRate (code : Nat) : Nat := [10, 12, 15, 20, 25, 30, 50, 60, 100, 120, 200, 240].getD code 0

/-- A member's own rate; the local stream's is that of SMP_PHS_CTRL (R194). -/
def memberRate (w : W) (e : Nat) : Int :=
  if e = localEntry then phsRate (w.get SMP_PHS_CTRL_rate)
  else match w.headOfEntry e with | some h => entRate (w.ent h.1) | none => 0

/-- The counts of a member's values. -/
def memberShape (w : W) (e : Nat) : Nat × Nat × Nat :=
  if e = localEntry then (w.get SMP_PHS_CTRL_sets, w.get SMP_PHS_CTRL_annmr, 2)
  else let b := w.ent e; (entPh b, entAn b, entDg b)

def memberSilent (w : W) (e : Nat) : Bool :=
  match w.headOfEntry e with | some h => h.2.state == 4 | none => false

/-- The window in force for sets that open now (R116, R117). -/
def alnWindow (w : W) (i : List Byte) (x : AlnGroup) : Nat :=
  if gAdaptive i then x.window else max (gMin i) (min (gMax i) (w.get (ALN_GRP_WIN_window_ms (gNum i))))

/-- ALN_GRP_STATUS brought up to date. -/
def showGroup (w : W) (i : List Byte) : W :=
  let x := w.alnGroup i
  let g := gNum i
  let w := w.set (ALN_GRP_STATUS_members g) x.known.length
  let w := w.setB (ALN_GRP_STATUS_running g) (x.running && !x.known.isEmpty)
  let w := w.setB (ALN_GRP_STATUS_adaptive g) (gAdaptive i)
  w.set (ALN_GRP_STATUS_window_cur_ms g) (w.alnWindow i x)

/-! ## The ring -/

/-- Notices put into the queue to the analytics while it has room (R122). -/
def sendNotices : Nat → W → W
  | 0, w => w
  | n + 1, w =>
    match w.aln.notices with
    | [] => w
    | b :: t =>
      if w.hasRoom 0x06 0x07 16 then
        sendNotices n (({ w with aln := { w.aln with notices := t } } : W).push 0x06 0x07 ⟨.bytes b, 16, false⟩)
      else w

def notify (w : W) (b : List Byte) : W :=
  match w.pat.active.path 0x06 0x07 with
  | none => w
  | some _ =>
    let w : W := { w with aln := { w.aln with notices := w.aln.notices ++ [b] } }
    sendNotices w.aln.notices.length w

/-- The address of a ring slot, by the count of slots taken before it. -/
def ringAddr (w : W) (i : List Byte) (pos : Nat) : Nat :=
  w.pat.active.alignBase + gRing i + pos % max 1 (gDepth i) * gSlotBytes i

/-- The group's next ring slot taken; answers its count. Closed sets that it overwrites leave the ring. -/
def takeSlot (w : W) (i : List Byte) : W × Nat :=
  let x := w.alnGroup i
  let d := max 1 (gDepth i)
  let n := x.written + 1
  let w := w.setGroup (gNum i) { x with written := n, sets := x.sets.filter (fun s => s.isOpen || decide (n ≤ s.pos + d)) }
  (w.set (ALN_GRP_WIDX_slot (gNum i)) (n % d), x.written)

/-- The header of a slot or of a late-ring entry, written last, its kind after all else (R123). -/
def putHeader (w : W) (addr : Nat) (h : List Byte) : W := (w.wrBytes (addr + 1) (h.drop 1)).wrBytes addr (h.take 1)

/-- The stamp of the most recent epoch tick or step (R120). -/
def lastEpoch (w : W) : Nat :=
  let tick := w.sec * 1000000000
  match w.aln.lastStep with
  | some m => if tick ≤ m ∧ m ≤ w.ns then m else tick
  | none => tick

/-- Whether a group opens sets: it runs and has a member (R112). -/
def opens (x : AlnGroup) : Bool := x.running && !x.known.isEmpty

/-- The marker that a group's stream owes, written ahead of the set that closes now: one for all causes since the last set
(R120). Its slot is the next one of the ring, while the set's own was taken when it opened: the order of the stream is that
in which slots become valid and notices are sent (DEDUCED). -/
def marker (w : W) (i : List Byte) : W :=
  let x := w.alnGroup i
  if x.tick || x.step || x.start || x.mode then
    let fl := bitNat w.pat.active.compact + 2 * bitNat x.step + 4 * bitNat x.start + 8 * bitNat x.mode
    let nx := (x.seq + 1) % 2 ^ 32
    let (w, pos) := w.takeSlot i
    let addr := w.ringAddr i pos
    let w := (w.wr8 addr 0).putHeader addr (markerBytes (gNum i) fl nx w.lastEpoch)
    let w := w.setGroup (gNum i) { w.alnGroup i with tick := false, step := false, start := false, mode := false }
    (w.notify (noticeBytes 2 (gNum i) 0 fl nx addr)).tally 0x45
  else w

/-- A tick or a step owes every group that opens sets a marker (R120). -/
def owe (w : W) (f : AlnGroup → AlnGroup) : W :=
  w.alnItems.foldl (fun w i => let x := w.alnGroup i; if opens x then w.setGroup (gNum i) (f x) else w) w

/-! ## Output streams (R124, R125) -/

/-- The UTC seconds of a TAI second. -/
def utcOf (w : W) (sec : Nat) : Nat := ((sec : Int) - sgn 16 (w.get TBS_UTC_OFFSET_tai_utc)).toNat % 2 ^ 32

/-- FRACSEC bits 31:24: the leap bits of TBS_UTC_OFFSET, the pending bit from 59 s before the leap on (R72), and a
quality code. -/
def fracTop (w : W) (tq : Nat) : Nat :=
  let soon := w.bit TBS_UTC_OFFSET_leap_pending && decide (w.leapSecs ≤ w.sec + 59)
  (64 * bitNat (w.bit TBS_UTC_OFFSET_leap_dir) + 32 * bitNat (w.bit TBS_UTC_OFFSET_leap_occurred)
    + 16 * bitNat soon + tq) * 2 ^ 24

/-- Output stream n sends a set. -/
def outSend (w : W) (n : Nat) (s : AlnSet) : W :=
  let stale := w.bit (ALN_OUT_CTRL_cfg_stale n)
  let us := (s.instant % 1000000000 + 500) / 1000
  let f := outFrame (w.get (ALN_OUT_CTRL_idcode n)) (w.utcOf (s.instant / 1000000000))
    (w.fracTop (tqWorst s.slots) + us) ((s.slots.map (outBlock stale)).flatten)
  if 8960 < f.length then (w.bump (ALN_OUT_OVERSIZE_v n) 1).ev ALN_EVENT_out_oversize 0
  else
    let dst := beNat (leBytes 4 (w.get (ALN_OUT_MAC_LO_v n)) ++ leBytes 2 (w.get (ALN_OUT_MAC_HI_mac_hi n)))
    let g : VTag := ⟨w.get (ALN_OUT_MAC_HI_vid n), w.get (ALN_OUT_MAC_HI_pcp n), false⟩
    let body := TxBody.datagram (w.get (ALN_OUT_SRC_v n)) (w.get (ALN_OUT_DST_v n)) (w.get (ALN_OUT_PORT_src_port n))
      (w.get (ALN_OUT_PORT_dst_port n)) f
    ((w.blockSend 0x06 none g dst body).bump (ALN_OUT_FRAMES_v n) 1).tally 0x46

def outputs (w : W) (g : Nat) (s : AlnSet) : W :=
  match w.pat.active.path 0x06 0xF1 with
  | none => w
  | some _ =>
    if w.isStandby then w
    else
      ((upTo 16).filter (fun n => w.bit (ALN_OUT_CTRL_enable n) && w.get (ALN_OUT_CTRL_group n) == g)).foldl
        (fun w n => w.outSend n s) w

/-! ## Closing (R113, R114, R118) -/

/-- A set of a group stored in place of the one of its instant. -/
def putSet (x : AlnGroup) (s : AlnSet) : AlnGroup :=
  { x with sets := x.sets.map (fun y => if y.instant = s.instant then s else y) }

/-- A set closed with a reason: the marker owed ahead of it, its header, notice, output frames, counts and interrupt. -/
def closeSet (w : W) (i : List Byte) (s : AlnSet) (reason : Nat) : W :=
  let g := gNum i
  let w := w.marker i
  let x := w.alnGroup i
  let seq := (x.seq + 1) % 2 ^ 32
  let s : AlnSet := { s with isOpen := false, reason := reason, seq := seq, gap := x.gap }
  let last := match x.lastClosed with | some l => max l s.instant | none => s.instant
  let w := w.setGroup g { putSet x s with seq := seq, lastClosed := some last, gap := false }
  let addr := w.ringAddr i s.pos
  let w := w.putHeader addr ((setBytes w.pat.active.compact i s w.ns).take 64)
  let w := w.set (ALN_GRP_SEQ_v g) seq
  let w := if 0 < countStatus s.slots 1 then w.bump (ALN_GRP_INCOMPLETE_v g) 1 else w
  let w := (w.notify (noticeBytes 1 g reason (setFlags w.pat.active.compact i s) seq addr)).tally (0x40 + reason)
  let w := w.outputs g s
  if w.bit (ALN_GRP_CTRL_irq_close g) then w.raise (0x1B0 + g) seq else w

/-- An earlier reporting instant, at most 50 ms away, has still to open its set (R114, R115). -/
def owed (w : W) (i : List Byte) (x : AlnGroup) (t : Nat) : Bool :=
  opens x &&
    (instantsTo (gRate i) 16 w.ns (t - 1)).any (fun u => !(x.sets.any (fun s => s.instant == u)))

/-- Sets of a group that are due close in ascending order (R114). -/
def closeReady (i : List Byte) : Nat → W → W
  | 0, w => w
  | n + 1, w =>
    let x := w.alnGroup i
    match x.sets.find? (·.isOpen) with
    | none => w
    | some s =>
      if w.owed i x s.instant then w
      else if s.expired then closeReady i n (w.closeSet i s 2)
      else if countStatus s.slots 1 = 0 then closeReady i n (w.closeSet i s 1)
      else w

def closeDue (w : W) (i : List Byte) : W := closeReady i ((w.alnGroup i).sets.length) w

/-- Every open set of a group closed at once with a reason (R113). -/
def closeAll (w : W) (i : List Byte) (reason : Nat) : W :=
  ((w.alnGroup i).sets.filter (·.isOpen)).foldl (fun w s => w.closeSet i s reason) w

/-! ## Opening (R112) -/

/-- A set put in its place by instant. -/
def insertSet (s : AlnSet) : List AlnSet → List AlnSet
  | [] => [s]
  | y :: t => if s.instant < y.instant then s :: y :: t else y :: insertSet s t

/-- A member's slot as a set opens: missing, or absent where the set is off its grid or it is silent, or too_large. -/
def preSlot (w : W) (i : List Byte) (t e : Nat) : AlnSlot :=
  let (p, a, d) := w.memberShape e
  let st :=
    if !isInstant (w.memberRate e) t || w.memberSilent e then 2
    else if gWidth i < slotNeed p a d then 3 else 1
  ⟨e, st, p, a, d, none, none⟩

/-- The member slots of an open set in its ring slot, whose kind reads 0x00 until it closes. -/
def putMembers (w : W) (i : List Byte) (s : AlnSet) : W :=
  w.wrBytes (w.ringAddr i s.pos + 64) ((s.slots.map (slotBytes (gWidth i) s.instant)).flatten)

/-- A set opened for instant t: it takes the next ring slot, which is pre-filled (R112). -/
def openSet (w : W) (i : List Byte) (t : Nat) : W :=
  let ms := w.membersOf (gNum i)
  if ms.isEmpty then w
  else
    let overrun := decide (gMembers i < ms.length)
    let w := if overrun then w.ev ALN_EVENT_over_members 0 else w
    let (w, pos) := w.takeSlot i
    let x := w.alnGroup i
    let s : AlnSet :=
      { instant := t, window := w.alnWindow i x, slots := (ms.take (gMembers i)).map (w.preSlot i t), isOpen := true,
        expired := false, stepped := false, gap := false, overrun := overrun, reason := 0, seq := 0, pos := pos,
        sampled := false }
    ((w.setGroup (gNum i) { x with sets := insertSet s x.sets }).wr8 (w.ringAddr i pos) 0).putMembers i s

/-! ## Membership and running (R110, R113, R125) -/

/-- A slot of an open set after a change of membership: a missing one becomes absent where its member has left or is
silent. -/
def goneSlot (gone : Nat → Bool) (y : AlnSlot) : AlnSlot := if y.status = 1 ∧ gone y.entry then { y with status := 2 } else y

/-- Membership of every group taken again after a chain or ALN_LOCAL_CFG changed: the output streams of a group whose
members changed go stale, too many members are reported, slots of members that left or are silent become absent, and closure
is judged again. -/
def alnRefresh (w : W) : W :=
  w.alnItems.foldl (fun w i =>
    let g := gNum i
    let x := w.alnGroup i
    let ms := w.membersOf g
    let w :=
      if ms = x.known then w
      else
        let outs := (upTo 16).filter (fun n => w.get (ALN_OUT_CTRL_group n) == g)
        let w := if outs.isEmpty then w
          else (outs.foldl (fun (w : W) n => w.set (ALN_OUT_CTRL_cfg_stale n) 1) w).ev ALN_EVENT_cfg_stale 0
        if gMembers i < ms.length then w.ev ALN_EVENT_over_members 0 else w
    let gone (e : Nat) : Bool := !ms.contains e || w.memberSilent e
    let upd (s : AlnSet) : AlnSet := if s.isOpen then { s with slots := s.slots.map (goneSlot gone) } else s
    let starts := x.running && x.known.isEmpty && !ms.isEmpty
    let w := w.setGroup g { x with
      known := ms, sets := x.sets.map upd, start := x.start || starts, runFrom := if starts then w.ns else x.runFrom }
    let w := (x.sets.filter (fun s => upd s != s)).foldl (fun (w : W) s => w.putMembers i (upd s)) w
    (w.closeDue i).showGroup i) w

/-- A group started or stopped as ALN_CTRL.enable and its run bit say (R112, R113). -/
def alnRun (w : W) (i : List Byte) : W :=
  let x := w.alnGroup i
  let want := w.bit ALN_CTRL_enable && w.bit (ALN_GRP_CTRL_run (gNum i)) && !w.isQuiet
  let w :=
    if want && !x.running then
      w.setGroup (gNum i) { x with running := true, start := !x.known.isEmpty, runFrom := w.ns }
    else if !want && x.running then
      let w := w.closeAll i 3
      w.setGroup (gNum i) { w.alnGroup i with running := false, tick := false, step := false, start := false }
    else w
  w.showGroup i

def alnRunAll (w : W) : W := w.alnItems.foldl (fun w i => w.alnRun i) w

/-! ## Placement (R115) -/

/-- The late lane (R121). -/
def lateForward (w : W) (i : List Byte) (c : Checked) (entry : Nat) (seq : Option Nat) : W :=
  let g := gNum i
  let w := (w.bump (ALN_GRP_LATE_v g) 1).tally 0x44
  if !w.bit (ALN_GRP_CTRL_late_fwd g) || gLate i == 0 then w
  else
    let wi := w.get (ALN_GRP_LATE_WIDX_index g)
    let nx := (wi + 1) % gLate i
    if nx = w.get (ALN_GRP_LATE_RIDX_index g) then (w.bump (ALN_GRP_LATE_DROP_v g) 1).ev ALN_EVENT_late_full 0
    else
      let (n, fl) := match seq with | some n => (n, 0) | none => (0xFFFFFFFF, 2)
      let b := lateBytes i (bitNat w.pat.active.compact + fl) n w.ns c entry
      let a := w.pat.active.alignBase + gLateOff i + wi * (32 + gWidth i)
      (((w.wr8 a 0).wrBytes (a + 32) (b.drop 32)).putHeader a (b.take 32)).set (ALN_GRP_LATE_WIDX_index g) nx

/-- The slots of the set of an instant with the one of a member changed. -/
def onSlot (x : AlnGroup) (t entry : Nat) (f : AlnSlot → AlnSlot) : AlnGroup :=
  { x with sets := x.sets.map (fun s =>
      if s.instant = t then { s with slots := s.slots.map (fun y => if y.entry = entry then f y else y) } else s) }

/-- A record written into its slot of the open set of its instant. -/
def fillSlot (w : W) (i : List Byte) (c : Checked) (entry : Nat) : W :=
  let x := w.alnGroup i
  match x.sets.find? (fun s => s.instant == c.instant) with
  | none => w
  | some s =>
    let st := if gWidth i < c.need then 3 else 0
    let f (y : AlnSlot) : AlnSlot := { y with status := st, value := if st = 0 then some c else none }
    let k := s.slots.findIdx (fun y => y.entry == entry)
    let w := w.setGroup (gNum i) (onSlot x c.instant entry f)
    let w := match s.slots[k]? with
      | some y => w.wrBytes (w.ringAddr i s.pos + 64 + k * gWidth i) (slotBytes (gWidth i) s.instant (f y))
      | none => w
    (w.tally 0x40).closeDue i

/-- A late record's arrival kept for its member's missing slot: it is missing no more for the latency sample (R117). -/
def lateArrival (w : W) (i : List Byte) (c : Checked) (entry : Nat) : W :=
  w.setGroup (gNum i) (onSlot (w.alnGroup i) c.instant entry (fun y =>
    if y.status = 1 ∧ y.late = none then { y with late := some c.arrival } else y))

/-- A record placed, by the algorithm of R115. -/
def place (w : W) (c : Checked) : W :=
  let g := if c.isLocal then w.get ALN_LOCAL_CFG_group else c.group
  let entry := if c.isLocal then localEntry else c.entry
  match w.alnItem g with
  | none => w
  | some i =>
    let x := w.alnGroup i
    let t := c.instant
    if !opens x then w
    else
      let here := x.sets.find? (fun s => s.instant == t)
      let slots : List Nat := match here with
        | some s => s.slots.map (·.entry)
        | none => (w.membersOf g).take (gMembers i)
      if !isInstant (gRate i) t || !slots.contains entry then w.bump (ALN_GRP_STRAY_v g) 1
      else if w.ns + 50000000 < t then (w.bump (ALN_GRP_EARLY_v g) 1).ev ALN_EVENT_early 0
      else match here with
        | some s =>
          let st := (s.slots.find? (fun y => y.entry == entry)).map (·.status)
          if st = some 0 then w.bump (ALN_GRP_DUP_v g) 1
          else if s.isOpen then (if st = some 3 then w else w.fillSlot i c entry)
          else (w.lateArrival i c entry).lateForward i c entry (some s.seq)
        | none =>
          match x.sets with
          | s :: _ => if t < s.instant then w.lateForward i c entry none else (w.openSet i t).fillSlot i c entry
          | [] => (w.openSet i t).fillSlot i c entry

/-! ## The adaptive window (R117) -/

/-- The smallest bin at which the count of samples reaches `need`, searched from bin `b` up. -/
def binOf (samples : List Nat) (need : Nat) : Nat → Nat → Nat
  | 0, b => b
  | n + 1, b => if need ≤ (samples.filter (fun l => decide (l ≤ b))).length then b else binOf samples need n (b + 1)

/-- The latency sample of a set in ms: a member whose record came late, but by now, counts with its arrival. -/
def latencyOf (i : List Byte) (s : AlnSet) : Nat :=
  if s.slots.any (fun y => y.status == 1 && y.late == none) then gMax i
  else
    ((presentOf s.slots).map (·.arrival) ++ s.slots.filterMap (·.late)).foldl
      (fun (m a : Nat) => max m (clip 0 2000 (((a : Int) - s.instant) / 1000000)).toNat) 0

/-- A sample taken and the window recomputed. -/
def takeSample (w : W) (i : List Byte) (s : AlnSet) : W :=
  let x := w.alnGroup i
  let l := (latencyOf i s :: x.samples).take 4096
  let k := binOf l (ceilDiv (999 * l.length) 1000) 2000 0
  let u := k + 1 + gMargin i
  let x := putSet { x with samples := l, window := min (max u (gMin i)) (gMax i) } { s with sampled := true }
  let w := w.setGroup (gNum i) x
  let w := (w.set (ALN_GRP_P999_k_ms (gNum i)) k).set (ALN_GRP_P999_samples (gNum i)) l.length
  let w := if gMax i < u then w.ev ALN_EVENT_window_clip 0 else w
  w.showGroup i

/-- What waits for room moves on after a queue has released space: blocks' frames, notices, the host buffer's frames. -/
def queFreed (w : W) : W :=
  let w := waitFlush [] w.net.wait w
  (sendNotices w.aln.notices.length w).hostRelease

/-! ## Steps (R127) -/

/-- One group after a step of the counter from `old` to now: every crossed instant opens and closes a set as expired. -/
def groupStep (w : W) (i : List Byte) (old : Nat) : W :=
  let new := w.ns
  let x := w.alnGroup i
  let x := { x with
    sets := x.sets.map (fun s => if s.isOpen then { s with stepped := true } else s), runFrom := min x.runFrom new }
  let w := w.setGroup (gNum i) x
  if !opens x || decide (new ≤ old) then w
  else
    let lo := max (old + 1) (new - 2000000000)
    let missed := decide (nextInstant (gRate i) (old + 1) < lo)
    let w := if missed then (w.setGroup (gNum i) { x with gap := true }).ev ALN_EVENT_gap 0 else w
    let closed (t : Nat) : Bool := match x.lastClosed with | some l => decide (t ≤ l) | none => false
    let w := (instantsTo (gRate i) 482 lo new).foldl (fun (w : W) t =>
      if closed t || (w.alnGroup i).sets.any (fun s => s.instant == t) then w else w.openSet i t) w
    let x := w.alnGroup i
    let x := { x with sets := x.sets.map (fun s =>
      if s.isOpen && (decide (old < s.instant ∧ s.instant ≤ new)
          || (decide (s.instant + 1000000 * s.window ≤ new) && decide (0 < countStatus s.slots 1))) then
        { s with stepped := true, expired := true }
      else s) }
    (w.setGroup (gNum i) x).closeDue i

/-- Alignment after a step: a marker is owed, then the crossed instants. -/
def alnStep (w : W) (old : Nat) : W :=
  let w : W := { w with aln := { w.aln with lastStep := some w.ns } }
  let w := w.owe (fun x => { x with step := true })
  w.alnItems.foldl (fun w i => w.groupStep i old) w

end W

end Sys2Proof.Machine
end

