-- ==== Sys2Proof/Machine/SmpOps.lean ====
section
/-! DEFINITION. The Sieve's shared operations: sources, presets, channel states, detectors, records and local phasors
(R178 to R197). -/

namespace Sys2Proof

/-- The taps of a preset's filter at a decimation ratio, from either end (R186), and of the halfband stage's side that is not
zero (R187): the manual bounds the responses and gives no taps. -/
opaque Config.sieveTap (preset d j : Nat) : W32
opaque Config.halfTap (j : Nat) : W32

/-- The test generator's sample of an instant, at a peak amplitude and a frequency in 0.01 Hz (R188): the manual gives no
phase. -/
opaque Config.testSine (amp : W32) (freq inst : Nat) : W32

/-- The phasor estimator (R193): the real and imaginary part of a phase, RMS, and the frequency and its rate of change of a
set, from the samples of the window, oldest first. The arguments name the class, the cycles of the window, the nominal
frequency, the rate, the count of the first sample in its second, the reporting instant in its second and the link delay. -/
opaque Config.phaseRe : List Int → List W32 → W32
opaque Config.phaseIm : List Int → List W32 → W32
opaque Config.setFreq : List Int → List W32 → W32
opaque Config.setRocof : List Int → List W32 → W32

end Sys2Proof

namespace Sys2Proof.Machine

/-- smp_rate's code (R178); 0 where there is none. -/
def rateCode (r : Nat) : Nat :=
  if r = 4000 then 1 else if r = 4800 then 2 else if r = 8000 then 3 else if r = 14400 then 4 else if r = 16000 then 5
  else if r = 32000 then 6 else if r = 64000 then 7 else 0

/-- A rate the source has. -/
def rateLegal (r : Nat) (sv : Bool) : Bool :=
  if sv then r == 4800 || r == 14400 else rateCode r != 0 && r != 4800 && r != 14400

/-- The decimation ratio of a preset at a rate (R186). -/
def presetD (rate preset : Nat) : Nat :=
  if preset = 0 then rate / 400
  else if preset = 1 then rate / 800
  else if preset = 2 then (if rate = 4000 then 2 else rate / 1600)
  else (if rate = 4800 ∨ rate = 14400 then rate / 4800 else rate / 4000)

/-- The taps of a preset's filter. -/
def presetTaps (rate preset : Nat) : Nat := [24, 12, 6, 4].getD preset 4 * presetD rate preset + 1

/-- A grid's ratio, window in input samples and delay in half input periods (R186, R187). -/
def gridRatio (rate g : Nat) : Nat := if 0x80 ≤ g then 2 ^ (g - 0x80) else presetD rate g
def gridTaps (rate g : Nat) : Nat := if 0x80 ≤ g then 10 * (2 ^ (g - 0x80) - 1) + 1 else presetTaps rate g
def gridDelay (rate g : Nat) : Nat := (roundDiv ((((gridTaps rate g - 1) / 2) * 1000000000 : Nat) : Int) (max 1 rate)).toNat

/-- k while SETTLING or RECOVERING: the largest with 2^k ≤ D, at least 1. -/
def settleK (rate preset : Nat) : Nat := max 1 (Nat.log2 (max 1 (presetD rate preset)))

/-- An input sample of a channel. -/
structure Sample1 where
  value : W32
  clipped : Bool
  unsync : Bool
  deriving DecidableEq, Repr

/-- Samples kept of a channel: more than any window holds. -/
def pastKept : Nat := 2 ^ 15

def Chan.empty : Chan :=
  { cfg := ⟨false, 0, false, 0, 0⟩, state := 0, run := 0, bad := 0, last := 0, fill := 0, xs := [], env := 0, rms := 0
    rmsOk := false, grid := none, ivPeak := 0 }

/-- The larger of two values by magnitude. -/
def f32Max (a b : W32) : W32 := if f32Lt a b then b else a

/-- A finite value in units of 2^-149. -/
def f32Units (a : W32) : Nat := (f32Num a).natAbs * (2 ^ 149 / f32Den a)

/-- The samples of the RMS window, one nominal cycle (R190); none while it is not full of valid samples. -/
def rmsWindow (rate fnom : Nat) (xs : List Past) : Option (List W32) :=
  let n := if rate % fnom = 0 then rate / fnom else rate / fnom + 1
  let win := xs.take n
  if win.length < n || win.any (fun p => !p.valid) then none else some (win.map (·.x))

/-- The RMS over a full window: the sample beyond the whole ones, where there is one, carries the remaining weight (R190). -/
def rmsOf (rate fnom : Nat) (win : List W32) : W32 :=
  let n := rate / fnom
  if win.all f32Finite then
    let sq := win.map (fun x => f32Units x * f32Units x)
    f32Root ((sq.take n).sum * fnom + ((sq.drop n).headD 0) * (rate - n * fnom)) (rate * 2 ^ 298)
  else Config.f32Odd win

/-- The grid a channel's state asks for (R187, R188). -/
def Chan.want (c : Chan) (rate testK : Nat) : Nat :=
  if c.state = 1 ∨ c.state = 4 then 0x80 + settleK rate c.cfg.preset
  else if c.state = 5 then 0x80 + testK
  else c.cfg.preset

/-- A channel's filters cleared. -/
def Chan.clear (c : Chan) : Chan := { c with fill := 0 }

/-- A channel sent to SETTLING. -/
def Chan.settle (c : Chan) : Chan := { c with state := 1, run := 0, bad := 0 }.clear

/-- A channel whose windows hold nothing and that stands on no grid: it leaves OFF, or its rate or tiles changed (R196). -/
def Chan.fresh (c : Chan) : Chan := { c with xs := [], rms := 0, rmsOk := false, grid := none }

/-- A channel turned OFF. -/
def Chan.off (c : Chan) : Chan := { c with state := 0 }.clear.fresh

/-- The RMS value at an output instant, and its validity at every sample (R190). -/
def Chan.rmsStep (c : Chan) (rate : Nat) (output : Bool) : Chan :=
  let f := if c.cfg.fnom50 then 50 else 60
  match rmsWindow rate f c.xs with
  | none => { c with rmsOk := false, rms := 0 }
  | some win => if output then { c with rmsOk := true, rms := rmsOf rate f win } else c

/-- The samples in the filter's window of a grid, newest first. -/
def Chan.window (c : Chan) (taps : Nat) : List Past := c.xs.take (min taps c.fill)

/-- A halfband stage of 11 taps over samples, newest first: the taps at even distance from the middle one are 0 (DEDUCED);
its output at every second sample (R187). -/
def halfStage (ys : List W32) : List W32 :=
  (upTo ((ys.length + 1) / 2)).map (fun m => firWord (fun j => if j = 1 ∨ j = 3 then 0 else Config.halfTap j) 10 (ys.drop (2 * m)))

def halfStages : Nat → List W32 → List W32
  | 0, ys => ys
  | k + 1, ys => halfStages k (halfStage ys)

/-- A channel's output on a grid (R186, R187): in HOLD 0.0 (R189). -/
def Chan.value (c : Chan) (rate g : Nat) : W32 :=
  let xs := (c.window (gridTaps rate g)).map (·.x)
  if c.state = 3 then 0
  else if 0x80 ≤ g then (halfStages (g - 0x80) xs).headD 0
  else firWord (Config.sieveTap g (presetD rate g)) (presetTaps rate g - 1) xs

/-- One input sample of a channel, of count `n` (R188 to R190): its new state, and whether it entered NORMAL, or HOLD from
NORMAL. An invalid sample is replaced by the last valid one, 0.0 before any has come (DESIGN CHOICE), in TEST however many
follow one another (DESIGN CHOICE). -/
def Chan.step (c : Chan) (rate tau n : Nat) (x : Option Sample1) : Chan × Bool × Bool :=
  let barred := c.state == 3 || c.state == 5
  let p : Past := match x with
    | some s => ⟨n, s.value, true, s.clipped, s.unsync, barred⟩
    | none => ⟨n, c.last, false, false, false, barred⟩
  let c := { c with xs := (p :: c.xs).take pastKept }
  match x with
  | some s =>
    let mag := f32Abs s.value
    let scale := rate * max 1 tau
    let decayed := if f32Finite c.env then f32Rat (f32Num c.env * ((scale : Int) - 1000)) (f32Den c.env * scale)
      else Config.f32Odd [c.env]
    let c := if c.state = 3 then { c with state := 4, run := 0 }.clear else c
    let c : Chan :=
      { c with
        run := c.run + 1, bad := 0, last := s.value, fill := c.fill + 1
        env := f32Max mag decayed, ivPeak := f32Max c.ivPeak mag }
    if (c.state = 1 ∨ c.state = 4) ∧ presetTaps rate c.cfg.preset ≤ c.run then ({ c with state := 2 }, true, false)
    else (c, false, false)
  | none =>
    if c.state = 3 then (c, false, false)
    else
      let bad := c.bad + 1
      let c : Chan := { c with run := 0, bad := bad, fill := c.fill + 1 }
      if 4 ≤ bad ∧ c.state ≠ 5 then ({ c with state := 3 }.clear, false, c.state == 2)
      else (c, false, false)

namespace W

def setSmp (w : W) (x : SmpState) : W := { w with smp := x }

def smpRate (w : W) : Nat := w.pat.active.smpRate
def smpOn (w : W) : Bool := w.pat.active.hasEngine 6
def smpSv (w : W) : Bool := w.bit SMP_CTRL_source

/-- The Sieve runs, its clock too (R36), and its source is served (R178). -/
def smpServed (w : W) : Bool :=
  w.smpOn && !w.gated 0x09 && w.bit SMP_CTRL_enable && rateLegal w.smpRate w.smpSv

def chan (w : W) (c : Nat) : Chan := (tblGet w.smp.chans c).getD Chan.empty

/-- A channel stored, its state register brought up to date. -/
def setChan (w : W) (c : Nat) (x : Chan) : W :=
  let w := w.setSmp { w.smp with chans := tblPut c x w.smp.chans }
  let g := x.want w.smpRate (let k := w.get SMP_TEST_k; if 1 ≤ k ∧ k ≤ 10 then k else 1)
  (w.set (SMP_CH_STATE_state c) x.state).set (SMP_CH_STATE_k c) (if 0x80 ≤ g && x.state != 0 then g - 0x80 else 0)

/-- The configuration SMP_CH_CFG[c] holds. -/
def cfgOf (w : W) (c : Nat) : ChCfg :=
  ⟨w.bit (SMP_CH_CFG_enable c), w.get (SMP_CH_CFG_preset c), w.bit (SMP_CH_CFG_fnom_50 c), w.get (SMP_CH_CFG_src c),
   w.get (SMP_CH_CFG_word c)⟩

/-- Channels that exist. -/
def smpChans (w : W) : List Nat := upTo (min 128 w.pat.active.smpChannels)

/-- A channel is selected for TEST. -/
def inTest (w : W) (c : Nat) : Bool := w.bit SMP_TEST_enable && tst (w.get (SMP_TEST_SEL_v (c / 32))) (c % 32)

/-- A channel's state after its enables and the test selection (R188). -/
def chanJudge (w : W) (c : Nat) : W :=
  let x := w.chan c
  let live := w.smpServed && x.cfg.en
  if !live then (if x.state = 0 then w else w.setChan c x.off)
  else if x.state = 0 then w.setChan c { x.fresh.settle with state := if w.inTest c then 5 else 1 }
  else if x.state = 5 then (if w.inTest c then w else w.setChan c x.settle)
  else if w.inTest c then w.setChan c { x with state := 5 }.clear
  else w

/-- A link's frame end after CNV in units of 1/204.8 µs: SCLK is CLK_SMP ÷ 4, 8 or 16 (R181). -/
def linkEnd (w : W) (l : Nat) : Nat :=
  (w.get (SMP_LINK_CFG_read_delay l) + 528) * (4 * 2 ^ min 2 (w.get (SMP_LINK_CFG_sclk l)))

/-- A link is enabled with a setting that keeps R181's bound: its end plus 2 µs is not past the next CNV. -/
def linkTimely (w : W) (l : Nat) : Bool :=
  decide (w.linkEnd l * 10000 + 4096 * 1000 ≤ 2048 * (1000000000 / max 1 w.smpRate))

def linkOn (w : W) (l : Nat) : Bool :=
  w.bit (SMP_LINK_CFG_enable l) && w.linkTimely l && (upTo 3).all (fun j => w.pinFunc (0xC0 + 3 * l + j) == 6)

/-- The word a phasor set's register holds. -/
def setWord (w : W) (n : Nat) : Nat := (w.regs.rd (SMP_PHS_SET_ch_a n).addr).toNat

/-- A set's channels. -/
def setPhases (v : Nat) : List Nat := [bits v 6 0, bits v 14 8, bits v 22 16]

/-- A phasor set that is refused: a channel beyond smp_channels, or M class at 200 or 240 sets/s. -/
def wordBeyond (w : W) (v : Nat) : Bool := (setPhases v).any (fun c => decide (w.pat.active.smpChannels ≤ c))
def wordFast (w : W) (v : Nat) : Bool := tst v 24 && decide (10 ≤ w.get SMP_PHS_CTRL_rate)
def setBeyond (w : W) (n : Nat) : Bool := w.wordBeyond (w.setWord n)
def setFast (w : W) (n : Nat) : Bool := w.wordFast (w.setWord n)

def smpSets (w : W) : List Nat := upTo (min 32 (w.get SMP_PHS_CTRL_sets))

/-- SMP_STATUS.cfg_err: the first of its codes that holds. -/
def cfgErr (w : W) : Nat :=
  if !w.smpOn || w.smpRate == 0 then 0
  else if !rateLegal w.smpRate w.smpSv then 1
  else if !w.smpSv && (upTo 8).any (fun l => w.bit (SMP_LINK_CFG_enable l) && !w.linkTimely l) then 2
  else if w.smpSets.any w.setBeyond then 3
  else if 0xB < w.get SMP_PHS_CTRL_rate then 4
  else if w.smpSets.any w.setFast then 5
  else 0

/-- The status of the Sieve brought up to date. -/
def showSmp (w : W) : W :=
  let old := w.get SMP_STATUS_cfg_err
  let w := (w.set SMP_STATUS_channels (if w.smpOn then w.pat.active.smpChannels else 0)).set SMP_STATUS_rate_code
    (if w.smpOn then rateCode w.smpRate else 0)
  let w := w.set SMP_STATUS_cfg_err w.cfgErr
  if old = 0 ∧ w.cfgErr ≠ 0 then w.ev SMP_EVENT_cfg_err 0 else w

/-- Channels judged anew; where the Sieve is started its record counts begin again. -/
def smpRefresh (w : W) : W :=
  let w := w.smpChans.foldl (fun w c => w.chanJudge c) w
  w.showSmp

/-- Configurations written since the last conversion take effect (R196). -/
def applyCfg (w : W) : W :=
  w.smpChans.foldl (fun w c =>
    let x := w.chan c
    let f := w.cfgOf c
    if x.cfg = f then w
    else
      let moved := x.cfg.preset != f.preset && x.state != 0 && x.state != 5
      let x := if moved then { x with cfg := f }.settle else { x with cfg := f }
      (w.setChan c x).chanJudge c) w

/-! ## Held records (R192) -/

def sendHeld (consumer : Nat) : Nat → W → List QUnit → W × List QUnit
  | 0, w, us => (w, us)
  | n + 1, w, us =>
    match us with
    | [] => (w, [])
    | u :: t => if w.hasRoom 0x09 consumer u.len then sendHeld consumer n (w.push 0x09 consumer u) t else (w, us)

def smpFlush (w : W) : W :=
  let (w, a) := sendHeld 0x0E w.smp.holdA.length w w.smp.holdA
  let (w, p) := sendHeld 0x06 w.smp.holdP.length w w.smp.holdP
  w.setSmp { w.smp with holdA := a, holdP := p }

/-- A record put out: held behind those that wait, the oldest displaced where 16 are held. -/
def smpPut (w : W) (aln : Bool) (u : QUnit) : W :=
  match w.pat.active.path 0x09 (if aln then 0x06 else 0x0E) with
  | none => w
  | some _ =>
    let w := w.tally 0x71
    let h := (if aln then w.smp.holdP else w.smp.holdA) ++ [u]
    let w := w.setSmp (if aln then { w.smp with holdP := h } else { w.smp with holdA := h })
    let w := w.smpFlush
    let h := if aln then w.smp.holdP else w.smp.holdA
    if 16 < h.length then
      let w := w.setSmp (if aln then { w.smp with holdP := h.drop 1 } else { w.smp with holdA := h.drop 1 })
      ((w.bump SMP_DROP_CNT_v 1).tally 0x72).ev SMP_EVENT_out_drop 0
    else w

/-! ## A sweep (R185, R188 to R191) -/

/-- The detector registers of the channel in SMP_DET_SEL, those of every channel's peak apart. -/
def showDet (w : W) : W :=
  let x := w.chan (w.get SMP_DET_SEL_channel)
  (w.set SMP_DET_RMS_v (if x.rmsOk then x.rms else f32QNaN).toNat).set SMP_DET_ENV_v x.env.toNat

/-- One channel's entry of a record: invalid also while the filter's window is not full (DEDUCED). -/
def chanBytes (w : W) (c g rate : Nat) : List Byte :=
  let x := w.chan c
  let taps := gridTaps rate g
  let win := x.window taps
  let invalid := x.state == 3 || decide (x.fill < taps)
  let fl := bitNat (win.any (fun p => !p.valid)) + 2 * bitNat invalid + 4 * bitNat (win.any (·.clipped))
    + 8 * bitNat (win.any (·.unsync)) + 16 * bitNat (!x.rmsOk)
  leBytes 1 c ++ leBytes 1 x.state ++ leBytes 1 fl ++ leBytes 1 0 ++ leBytes 4 (x.value rate g).toNat
    ++ leBytes 4 x.rms.toNat ++ leBytes 4 x.env.toNat

/-- SMP_LINK_DELAY[l].delay_ns, signed. -/
def linkDelay (w : W) (l : Nat) : Int := sgn 24 (w.get (SMP_LINK_DELAY_delay_ns l))

/-- The instant a record of channels carries: with ADC links the conversion's reduced by the link delay (R185), of the
record's first channel's link, since a record carries one instant (DESIGN CHOICE). -/
def carried (w : W) (inst : Nat) (cs : List Nat) : Nat :=
  if w.smpSv then inst else ((inst : Int) - w.linkDelay (w.chan (cs.headD 0)).cfg.src).toNat

/-- The record of a grid at a conversion instant (R191). -/
def gridRecord (w : W) (g rate inst : Nat) : W :=
  let cs := w.smpChans.filter (fun c => (w.chan c).state != 0 && (w.chan c).grid == some g)
  let seq := ((tblGet w.smp.seqs g).getD 0)
  let test := cs.any (fun c => (w.chan c).state == 5)
  let fl := bitNat (w.smp.stepped.contains g) + 2 * bitNat (w.smp.gap.contains g) + 4 * bitNat test
  let w := w.setSmp { w.smp with seqs := tblPut g ((seq + 1) % 2 ^ 32) w.smp.seqs
                                 stepped := w.smp.stepped.filter (· != g), gap := w.smp.gap.filter (· != g) }
  let b := padTo 32 (leBytes 1 0x10 ++ leBytes 1 g ++ leBytes 2 cs.length ++ leBytes 4 seq
    ++ fullStamp (w.carried inst cs) ++ leBytes 2 (gridRatio rate g) ++ leBytes 4 (gridDelay rate g) ++ leBytes 1 fl)
    ++ (cs.map (fun c => w.chanBytes c g rate)).flatten
  w.smpPut false ⟨.bytes b, b.length, false⟩

/-- Every grid a record can name: presets, then power-of-two ratios. -/
def allGrids : List Nat := upTo 4 ++ (upTo 11).map (0x80 + ·)

/-- A conversion swept: `samples` gives each channel's sample, none where its source has none at all, some none where it
is invalid. `n` is the absolute count of the instant at the input rate. -/
def sweep (w : W) (inst n : Nat) (samples : List (Nat × Option (Option Sample1))) : W :=
  let rate := w.smpRate
  let tau := w.get SMP_ENV_CFG_tau_ms
  let tk := let k := w.get SMP_TEST_k; if 1 ≤ k ∧ k ≤ 10 then k else 1
  let w := w.tally 0x70
  let w := samples.foldl (fun (w : W) e =>
    let x := w.chan e.1
    match (if x.state = 5 && w.bit SMP_TEST_gen then
        some (some ⟨Config.testSine (BitVec.ofNat 32 (w.get SMP_TEST_AMP_v)) (w.get SMP_TEST_freq) inst, false, false⟩)
      else e.2) with
    | none => w
    | some smp =>
      if x.state = 0 then w
      else
        let w := if smp.isNone then w.tally 0x73 else w
        let (y, normal, hold) := x.step rate tau n smp
        let w := match smp with
          | some s =>
            let w := if s.clipped then w.set (SMP_CH_STATE_clipped_seen e.1) 1 else w
            w.set (SMP_CH_PEAK_v e.1)
              (f32Max (BitVec.ofNat 32 (w.get (SMP_CH_PEAK_v e.1))) (f32Abs s.value)).toNat
          | none => w
        let g := y.want rate tk
        let y := if n % max 1 (gridRatio rate g) = 0 then { y with grid := some g } else y
        let output : Bool := match y.grid with | some g => n % max 1 (gridRatio rate g) == 0 | none => false
        let w := w.setChan e.1 (y.rmsStep rate output)
        let w := if normal then w.ev SMP_EVENT_settled 0 else w
        if hold then w.ev SMP_EVENT_hold 0 else w) w
  let w := allGrids.foldl (fun (w : W) g =>
    if n % max 1 (gridRatio rate g) = 0 && w.smpChans.any (fun c => (w.chan c).state != 0 && (w.chan c).grid == some g)
    then w.gridRecord g rate inst else w) w
  w.showDet

/-! ## ADC links (R179 to R181) -/

/-- A conversion's frames have all come, but for links that are off by now. -/
def convDone (w : W) (cv : Conv) : Bool := cv.wait.all (fun l => !w.linkOn l)

/-- The value of a channel's sample: code × scale (R184). -/
def scaled (w : W) (c : Nat) (n : Int) (d : Nat) : W32 :=
  let s : W32 := BitVec.ofNat 32 (w.get (SMP_CH_SCALE_v c))
  if f32Finite s then f32Rat (n * f32Num s) (d * f32Den s) else Config.f32Mul (f32Rat n d) s

/-- The absolute count of an instant. -/
def absCount (rate inst : Nat) : Nat := (inst / 1000000000) * rate + (inst % 1000000000) * rate / 1000000000

/-- The sweep once the frames of every link in use have ended. -/
def adcSweep (w : W) (cv : Conv) : W :=
  let samples := w.smpChans.map (fun c =>
    let x := (w.chan c).cfg
    (c, match tblGet cv.got x.src with
      | none => none
      | some none => some none
      | some (some ws) =>
        if !cv.good then some none
        else
          let word := (ws.getD x.word 0).toNat
          let code := bits word 31 8
          let clip := code == 0x7FFFFF || code == 0x800000 || tst word 3
          some (some ⟨w.scaled c (sgn 24 code) 1, clip, false⟩)))
  w.sweep cv.inst (absCount w.smpRate cv.inst) samples

/-- Conversions that are complete swept, oldest first. -/
def sweepDone : Nat → W → W
  | 0, w => w
  | k + 1, w =>
    match w.smp.convs with
    | cv :: t => if w.convDone cv then sweepDone k ((w.setSmp { w.smp with convs := t }).adcSweep cv) else w
    | [] => w

/-- A conversion started at a fire of target 0x1, stamped with the fire instant (R179); fires with sampled values as source
are ignored. Without a link in use it is swept at once. -/
def conversion (w : W) (inst : Nat) : W :=
  if !w.loom || !w.smpServed || w.smpSv then w
  else
    let good := ((inst % 1000000000) * w.smpRate) % 1000000000 == 0
    let w := w.applyCfg
    let w := if good then w else w.ev SMP_EVENT_grid_err 0
    let cs := w.smp.convs ++ [⟨inst, good, (upTo 8).filter w.linkOn, []⟩]
    sweepDone cs.length (w.setSmp { w.smp with convs := cs })

/-- A frame of a conversion can have ended by `ends`: CNV rises 25 ns after the fire at the earliest, and the frame ends
`linkEnd` after it (R179, R181). -/
def canEnd (w : W) (l : Nat) (cv : Conv) (ends : Nat) : Bool :=
  decide ((cv.inst + 25) * 2048 + w.linkEnd l * 10000 ≤ ends * 2048)

/-- The conversion a frame that ended at `ends` belongs to: the newest that awaits one of the link and whose frame can have
ended by then, else the oldest that awaits one (DEDUCED). -/
def frameOf (w : W) (l ends : Nat) : Option Conv :=
  let waiting := w.smp.convs.filter (fun cv => cv.wait.contains l)
  match (waiting.filter (fun cv => w.canEnd l cv ends)).getLast? with
  | some cv => some cv
  | none => waiting.head?

/-- The frame of a link read (R180, R181). A conversion before the one it belongs to gets no frame of this link any more: its
samples of the link are invalid. -/
def adcFrame (w : W) (f : AdcFrame) : W :=
  match w.frameOf f.link f.ends with
  | none => w
  | some cv =>
    let bytes := (f.words.map (fun x => beBytes 4 x.toNat)).flatten
    let crcOk := crc16 0xFFFF bytes == f.crc % 65536
    let chanOk := (upTo 16).all (fun k => bits (f.words.getD k 0).toNat 7 4 == k)
    let late := decide (cv.inst + 1000000000 / max 1 w.smpRate + 30 < f.ends + 2000)
    let w := if crcOk && chanOk then w else (w.bump (SMP_LINK_CRC_v f.link) 1).ev SMP_EVENT_link_err 0
    let w := if late then (w.bump (SMP_LINK_LATE_v f.link) 1).ev SMP_EVENT_link_err 0 else w
    let ok := crcOk && chanOk && !late
    let took (c : Conv) : Conv :=
      if c.wait.contains f.link ∧ c.inst ≤ cv.inst then
        { c with wait := c.wait.filter (· != f.link)
                 got := tblPut f.link (if c.inst = cv.inst ∧ ok then some f.words else none) c.got }
      else c
    let cs := w.smp.convs.map took
    sweepDone cs.length (w.setSmp { w.smp with convs := cs })

/-! ## Sampled values (R182, R183) -/

/-- wait_us of a subscription in ns. -/
def svWait (w : W) (k : Nat) : Nat := 1000 * w.get (SMP_SV_CFG_wait_us k)

/-- The instant of an absolute count in 2^-16 ns, what lies below cut (DESIGN CHOICE). -/
def svInstant (rate n : Nat) : Nat := n * 1000000000 * 65536 / max 1 rate

/-- The absolute count of a sample: the latest second that places the arrival no more than 0.5 ms before its instant; the two
bounds of R183 leave 0.5 ms in which either of two seconds would do (DESIGN CHOICE). -/
def svCount (rate cnt arrival : Nat) : Nat :=
  (((arrival + 500000) * 65536 - svInstant rate cnt) / (65536 * 1000000000)) * rate + cnt

/-- An ASDU taken by a subscription. -/
def svAsdu (w : W) (k : Nat) (sim : Bool) (arrival : Nat) (a : SvAsdu) : W :=
  let rate := w.smpRate
  if rate ≤ a.smpCnt then w
  else
    let n := svCount rate a.smpCnt arrival
    let inst := svInstant rate n
    if (match w.smp.svDone with | some d => decide (inst ≤ d) | none => false)
        || decide (inst + 65536 * w.svWait k < 65536 * arrival) then
      (w.bump (SMP_SV_LATE_v k) 1).ev SMP_EVENT_sv_late 0
    else if w.smp.sv.any (fun e => e.1 == k && e.2.1 == n) then w
    else w.setSmp { w.smp with sv := w.smp.sv ++ [(k, n, a, sim)] }

/-- A frame has a form R182 supports: 1 to 8 ASDUs of 4 currents and 4 voltages. -/
def svForm (f : SvFrame) : Bool :=
  !f.asdus.isEmpty && decide (f.asdus.length ≤ 8) && f.asdus.all (fun a => a.values.length == 8)

/-- A frame's length in the queue: 26 bytes, and 100 for each ASDU (DESIGN CHOICE: the command carries what R182 reads). -/
def svBytes (f : SvFrame) : Nat := 26 + 100 * f.asdus.length

/-- A frame of sampled values: every subscription of its APPID takes it, where form and confRev match, or drops it, and counts
it once; one whose APPID no subscription has is counted by each that is enabled (DESIGN CHOICE: R182 names no counter). -/
def svFrame (w : W) (f : SvFrame) : W :=
  let on := (upTo 16).filter (fun k => w.bit (SMP_SV_CFG_enable k))
  let subs := on.filter (fun k => w.get (SMP_SV_CFG_appid k) == f.appid)
  if subs.isEmpty then on.foldl (fun w k => w.bump (SMP_SV_LOST_v k) 1) w
  else subs.foldl (fun w k =>
    if svForm f && f.asdus.all (fun a => a.confRev == w.get (SMP_SV_CONFREV_v k)) then
      f.asdus.foldl (fun w a => w.svAsdu k f.simulate f.arrival a) w
    else w.bump (SMP_SV_LOST_v k) 1) w

/-- An instant of sampled values processed. -/
def svProcess (w : W) (n : Nat) : W :=
  let w := w.applyCfg
  let rate := w.smpRate
  let subs := (upTo 16).filter (fun k => w.bit (SMP_SV_CFG_enable k))
  let have_ (k : Nat) : Option (SvAsdu × Bool) := (w.smp.sv.find? (fun e => e.1 == k && e.2.1 == n)).map (fun e => e.2.2)
  let w := subs.foldl (fun w k => if (have_ k).isSome then w else w.bump (SMP_SV_LOST_v k) 1) w
  let test := w.bit SMP_CTRL_accept_test
  let samples := w.smpChans.map (fun c =>
    let x := (w.chan c).cfg
    (c, if !subs.contains x.src then none
      else match have_ x.src with
        | none => some none
        | some (a, sim) =>
          match a.values[x.word]? with
          | none => some none
          | some v =>
            if v.validity ≠ 0 ∨ ((v.test || sim) && !test) then some none
            else some (some ⟨w.scaled c v.raw (if x.word < 4 then 1000 else 100), decide (2 ^ 31 - 2 < v.raw.natAbs),
              a.smpSynch != 2⟩)))
  let w := w.setSmp { w.smp with sv := w.smp.sv.filter (fun e => n < e.2.1), svDone := some (svInstant rate n) }
  w.sweep (svInstant rate n / 65536) n samples

/-! ## Local phasors (R193, R194) -/

/-- The cycles of half a set's window (R193). -/
def halfCycles (w : W) (v : Nat) : Nat :=
  let r := phsRate (w.get SMP_PHS_CTRL_rate)
  if !tst v 24 then 1 else if r ≤ 30 then 8 else if r ≤ 60 then 4 else 2

def phsNom (w : W) : Nat := if w.bit SMP_PHS_CTRL_fnom_50 then 50 else 60

/-- Half a set's window in ns, rounded up. -/
def halfWindow (w : W) (v : Nat) : Nat := ceilDiv (w.halfCycles v * 1000000000) w.phsNom

/-- The word of a set in force at a reporting instant: the register, or what held before a write that acts later (R196). -/
def setFor (w : W) (n inst : Nat) : Nat :=
  match w.smp.setWas.find? (fun e => e.1 == n && decide (inst < e.2.1)) with
  | some e => e.2.2
  | none => w.setWord n

/-- The counts of the first and the last conversion in a set's window, both ends included. -/
def windowOf (w : W) (v inst : Nat) : Nat × Nat :=
  let f := w.phsNom
  let half := w.halfCycles v * 1000000000 * w.smpRate
  (ceilDiv (inst * w.smpRate * f - half) (1000000000 * f), (inst * w.smpRate * f + half) / (1000000000 * f))

/-- A channel's samples in a window, oldest first. -/
def windowSamples (w : W) (c : Nat) (win : Nat × Nat) : List Past :=
  ((w.chan c).xs.filter (fun p => decide (win.1 ≤ p.n) && decide (p.n ≤ win.2))).reverse

/-- A set's phasor is valid at a reporting instant: its window holds a sample of each conversion, none of them invalid, held,
clipped, unsynchronised or of a channel in HOLD or TEST, no channel is OFF, and neither a restart nor a write of the set
lies within it. -/
def setValid (w : W) (n inst : Nat) : Bool :=
  let v := w.setFor n inst
  let from_ := inst - w.halfWindow v
  let win := w.windowOf v inst
  let written := match (w.smp.setAt.filter (fun e => e.1 == n && decide (e.2 ≤ inst))).getLast? with
    | some e => decide (from_ < e.2)
    | none => false
  !w.wordBeyond v && !w.wordFast v && !written && decide (w.smp.restart ≤ from_) &&
    (setPhases v).all (fun c =>
      let ps := w.windowSamples c win
      (w.chan c).state != 0 && (w.chan c).state != 3 && (w.chan c).state != 5
        && ps.length == win.2 + 1 - win.1 && ps.all (fun p => p.valid && !p.clipped && !p.unsync && !p.barred))

/-- What the estimator is told of a phase: see Config.phaseRe. -/
def estArgs (w : W) (v inst c : Nat) : List Int :=
  [((bitNat (tst v 24) : Nat) : Int), ((2 * w.halfCycles v : Nat) : Int), ((w.phsNom : Nat) : Int), ((w.smpRate : Nat) : Int),
   (((w.windowOf v inst).1 % max 1 w.smpRate : Nat) : Int), ((inst % 1000000000 : Nat) : Int),
   if w.smpSv then 0 else w.linkDelay (w.chan c).cfg.src]

/-- A finite value in units of 2^-149, signed. -/
def f32Int (a : W32) : Int := f32Num a * ((2 ^ 149 / f32Den a : Nat) : Int)

/-- A phase's phasor: its two parts in units of 2^-149. -/
def phasePhasor (w : W) (v inst c : Nat) : Int × Int :=
  let xs := (w.windowSamples c (w.windowOf v inst)).map (·.x)
  (f32Int (Config.phaseRe (w.estArgs v inst c) xs), f32Int (Config.phaseIm (w.estArgs v inst c) xs))

/-- √3 to 50 places. -/
def root3 : Int := isqrt (3 * 10 ^ 100)

/-- Six times (A + a·B + a²·C) ÷ 3, a turning by a third (R193), in units of 10^-50 of those of the phases. -/
def posSeq (a b c : Int × Int) : Int × Int :=
  ((2 * a.1 - b.1 - c.1) * 10 ^ 50 + root3 * (c.2 - b.2), (2 * a.2 - b.2 - c.2) * 10 ^ 50 + root3 * (b.1 - c.1))

/-- The phasor a set puts out (R194): positive sequence or a phase, as magnitude and angle. -/
def setPhasor (w : W) (v inst : Nat) : W32 × W32 :=
  let ph (k : Nat) : Int × Int := w.phasePhasor v inst ((setPhases v).getD k 0)
  let out := bits v 26 25
  let z := if out = 0 then posSeq (ph 0) (ph 1) (ph 2) else ph (out - 1)
  let d := if out = 0 then 6 * 10 ^ 50 * 2 ^ 149 else 2 ^ 149
  (f32Root (z.1.natAbs * z.1.natAbs + z.2.natAbs * z.2.natAbs) (d * d), Config.f32Atan2 z.2 z.1)

/-- The frequency of a set and its rate of change, from the samples of its three phases. -/
def setFreqs (w : W) (v inst : Nat) : W32 × W32 :=
  let xs := (setPhases v).flatMap (fun c => (w.windowSamples c (w.windowOf v inst)).map (·.x))
  let args := w.estArgs v inst ((setPhases v).headD 0)
  (Config.setFreq args xs, Config.setRocof args xs)

/-- The local-phasor record of a reporting instant: STAT's time bits and the quality code are those of the instant. Values
of channels are those of the time the record is formed (DESIGN CHOICE). -/
def phasorReport (w : W) (inst : Nat) : W :=
  let sets := w.smpSets
  let valid := sets.map (fun n => w.setValid n inst)
  let ok (n : Nat) : Bool := valid.getD n false
  let phasors := sets.map (fun n => let p := w.setPhasor (w.setFor n inst) inst; (p.1, p.2, ok n))
  let fs := w.get SMP_PHS_CTRL_freq_set
  let freqs (n : Nat) : W32 × W32 := w.setFreqs (w.setFor n inst) inst
  let analog : List FVal := (upTo (min 8 (w.get SMP_PHS_CTRL_annmr))).map (fun k =>
    let c := w.get (SMP_PHS_AN_sel k)
    let x := w.chan c
    match w.get (SMP_PHS_AN_code k) with
    | 1 => ⟨x.rms, x.rmsOk⟩
    | 2 => ⟨x.env, true⟩
    | 3 => ⟨x.ivPeak, true⟩
    | 4 => ⟨(freqs c).1, ok c⟩
    | 5 => ⟨(freqs c).2, ok c⟩
    | _ => ⟨0, true⟩)
  let all := valid.all id && ok fs && analog.all (·.ok)
  let mask := maskOf valid
  let q := w.qualityAt inst
  let stat := 8192 * bitNat (unsyncOf q.2) + 64 * statTqOf q.2 + 512 * bitNat (!all) + 16384 * bitNat (!valid.any id)
  let c : Checked :=
    { entry := localEntry, isLocal := true, group := w.get ALN_LOCAL_CFG_group, instant := inst, arrival := w.ns
      stat := stat, tq := tqOf q.1 q.2, unchecked := false, phasors := phasors, freq := ⟨(freqs fs).1, ok fs⟩
      dfreq := ⟨(freqs fs).2, ok fs⟩, analog := analog, digital := [mask % 65536, mask / 65536] }
  let w := w.set SMP_PHS_VALID_v mask
  let w := w.setSmp { w.smp with
    lastRpt := some inst, setWas := w.smp.setWas.filter (fun e => decide (inst < e.2.1))
    chans := w.smp.chans.map (fun e => (e.1, { e.2 with ivPeak := 0 })) }
  w.smpPut true ⟨.checked c, c.len, false⟩

/-! ## Steps, snapshots -/

/-- The snapshot strobe: SMP_SNAP_RMS of every channel (R190). -/
def smpSnap (w : W) : W :=
  if !w.smpOn then w
  else w.smpChans.foldl (fun w c =>
    let x := w.chan c
    w.set (SMP_SNAP_RMS_v c) (if x.rmsOk then x.rms else f32QNaN).toNat) w

/-- A unit that starts conversions has had instants jumped by a forward step just made. -/
def skipsConversion (w : W) : Bool :=
  !w.smpSv && w.tb.trg.any (fun e => e.2.jump && decide (e.2.next = w.ns) && w.get (TRG_CTRL_target e.1) == 1)

/-- A forward step: where it skips conversions, channels recover and phasor windows restart (R188, R197). Sampled values come
with counts of their own, and a step skips none (DEDUCED). -/
def smpGap (w : W) : W :=
  if !w.smpServed || !w.skipsConversion then w
  else
    let w := w.smpChans.foldl (fun w c =>
      let x := w.chan c
      if x.state = 1 ∨ x.state = 2 ∨ x.state = 4 then w.setChan c { x with state := 4, run := 0, bad := 0 }.clear else w) w
    let w := w.setSmp { w.smp with gap := allGrids, restart := w.ns }
    w.ev SMP_EVENT_gap 0

/-- A backward step: the next records carry stepped. -/
def smpStepped (w : W) : W := if w.smpServed then w.setSmp { w.smp with stepped := allGrids } else w

end W

end Sys2Proof.Machine
end

