-- ==== Sys2Proof/Machine/Align.lean ====
section
/-! DEFINITION. The commands of the alignment engine (R107 to R127). -/

namespace Sys2Proof.Machine

/-- RECORD_PLACE: the head record is taken and placed (R115). -/
def execRecordPlace (loc : Bool) (t : Nat) (s : State) : Host.Outcome State Fault Refusal :=
  run true "RECORD_PLACE" (fun w =>
    let w := w.at_ t
    let src := if loc then 0x09 else 0x05
    if !w.loom then w
    else match w.headOf src 0x06 with
      | some u =>
        let w := ((w.popQ src 0x06).smpFlush).hostRelease
        match u.body with
        | .checked c => if u.aborted then w else w.place c
        | _ => w
      | none => w) s

/-- SET_OPEN: a running group with members opens the set of a reporting instant that the counter has reached since it
started, unless it has one or has closed it (R112, R127). -/
def execSetOpen (g inst : Nat) (s : State) : Host.Outcome State Fault Refusal :=
  run (wfSetOpen g) "SET_OPEN" (fun w =>
    let w := w.at_ inst
    match w.alnItem g with
    | some i =>
      let x := w.alnGroup i
      let past := decide (inst < x.runFrom) || (match x.lastClosed with | some l => decide (inst ≤ l) | none => false)
      if w.loom && W.opens x && isInstant (gRate i) inst && decide (inst ≤ w.ns) && !past
          && !x.sets.any (fun y => y.instant == inst) then (w.openSet i inst).closeDue i
      else w
    | none => w) s

/-- SET_EXPIRE: a set whose instant plus window is reached closes as expired, in its turn (R113, R114). -/
def execSetExpire (g inst t : Nat) (s : State) : Host.Outcome State Fault Refusal :=
  run (wfSetExpire g) "SET_EXPIRE" (fun w =>
    let w := w.at_ t
    match w.alnItem g with
    | some i =>
      let x := w.alnGroup i
      match x.sets.find? (fun y => y.instant == inst && y.isOpen) with
      | some y =>
        if w.loom && decide (y.instant + 1000000 * y.window ≤ w.ns) then
          (w.setGroup g (W.putSet x { y with expired := y.expired || decide (0 < countStatus y.slots 1) })).closeDue i
        else w
      | none => w
    | none => w) s

/-- LATENCY_SAMPLE (R117). -/
def execLatencySample (g inst t : Nat) (s : State) : Host.Outcome State Fault Refusal :=
  run (wfLatencySample g) "LATENCY_SAMPLE" (fun w =>
    let w := w.at_ t
    match w.alnItem g with
    | some i =>
      match (w.alnGroup i).sets.find? (fun y => y.instant == inst && !y.sampled) with
      | some y =>
        if w.loom && gAdaptive i && decide (y.instant + 1000000 * gMax i ≤ w.ns) then w.takeSample i y else w
      | none => w
    | none => w) s

/-- ALN_CTRL_WRITE: enable 0 closes every open set as forced (R113). -/
def execAlnCtrlWrite (v : W32) (s : State) : Host.Outcome State Fault Refusal :=
  runL true "ALN_CTRL_WRITE" (fun w => if w.alnOn then ((w.set ALN_CTRL_enable v.toNat).dirty).alnRunAll else w) s

/-- ALN_GRP_CTRL_WRITE: run 0 closes the group's open sets as forced (R113). -/
def execAlnGrpCtrlWrite (g : Nat) (v : W32) (s : State) : Host.Outcome State Fault Refusal :=
  runL (wfAlnGrpCtrlWrite g) "ALN_GRP_CTRL_WRITE" (fun w =>
    match w.alnItem g with
    | some i =>
      if w.alnOn then
        (((w.set (ALN_GRP_CTRL_run g) v.toNat).set (ALN_GRP_CTRL_irq_close g) (v.toNat / 2)).set
          (ALN_GRP_CTRL_late_fwd g) (v.toNat / 4)).dirty.alnRun i
      else w
    | none => w) s

/-- CFG_ACK (R125). -/
def execCfgAck (n : Nat) (s : State) : Host.Outcome State Fault Refusal :=
  runL (wfCfgAck n) "CFG_ACK" (fun w => if w.alnOn then w.set (ALN_OUT_CTRL_cfg_stale n) 0 else w) s

end Sys2Proof.Machine
end

