-- ==== Sys2Proof/Machine/GanOps.lean ====
section
/-! DEFINITION. Grid analytics: monitors, Tuner, Surveyor and the rule table (R128 to R155). Comparisons of measured
values with limits are exact; the Tuner's filters and estimator are not stated to the bit, so the filters' taps and the
functions named in Config are free, applied to the samples that they work on. -/

namespace Sys2Proof

/-- The output of the 4th-order Butterworth band-pass from `lo` to `hi`, in 0.01 Hz, at an input rate, over the samples since
the signal started or restarted, newest first (R139). -/
opaque Config.bandpass (lo hi rate : Nat) (xs : List W32) : W32
/-- Tap j of the decimation filter of ratio D (R138). -/
opaque Config.tunTap (d j : Nat) : W32
/-- The coefficients of the autoregressive model of an order, fitted by recursive least squares with the forgetting factor
1 - 3 / (window × fa) to the decimated samples, newest first (R140). -/
opaque Config.arModel (order window fa : Nat) (xs : List W32) : List W32
/-- The k-th pole pair of a model: |z| and arg z. -/
opaque Config.arPole (model : List W32) (k : Nat) : W32 × W32
/-- |arg z| × fa / 2π, and -ln|z| / √(ln²|z| + arg²z) (R140). -/
opaque Config.modeFreq (fa : Nat) (arg : W32) : W32
opaque Config.modeZeta (r arg : W32) : W32
/-- Peak amplitude of a pole's component over the samples of the last 10 s, and its phase referred to the whole second and
corrected for the filter's delay of 8 / fa s (R138, R140). -/
opaque Config.modeAmp (fa : Nat) (xs : List W32) (pole : W32 × W32) : W32
opaque Config.modePhase (fa : Nat) (xs : List W32) (pole : W32 × W32) : W32
/-- The ns a survey tick took, below 300 µs (R146). -/
opaque Config.surveyNs : Nat → Nat

end Sys2Proof

namespace Sys2Proof.Machine

/-! ## Numbers -/

def Ratio.ofF32 (v : W32) : Ratio := ⟨f32Num v, f32Den v⟩
def Ratio.sub (a b : Ratio) : Ratio := ⟨a.num * b.den - b.num * a.den, a.den * b.den⟩
def Ratio.abs (a : Ratio) : Ratio := ⟨a.num.natAbs, a.den⟩
def Ratio.lt (a b : Ratio) : Bool := decide (a.num * b.den < b.num * a.den)
def Ratio.sum : List Ratio → Ratio
  | [] => ⟨0, 1⟩
  | a :: t => let b := Ratio.sum t; ⟨a.num * b.den + b.num * a.den, a.den * b.den⟩
/-- The float32 of a number. -/
def Ratio.f32 (a : Ratio) : W32 := f32Rat a.num a.den

/-- π to 50 places, for comparisons with limits in degrees (DESIGN CHOICE: the spec names no precision). -/
def piNum : Nat := 314159265358979323846264338327950288419716939937510
def piDen : Nat := 10 ^ 50

/-- An angle in hundredths of a degree, in radians. -/
def cdeg (x : Int) : Ratio := ⟨x * piNum, 18000 * piDen⟩

/-- A difference of angles wrapped into (−π, π] (R135). -/
def wrapPi (a : Ratio) : Ratio :=
  let pi : Ratio := ⟨piNum, piDen⟩
  if pi.lt a then a.sub ⟨2 * piNum, piDen⟩
  else if !(Ratio.lt ⟨-(piNum : Int), piDen⟩ a) then a.sub ⟨-(2 * piNum : Int), piDen⟩
  else a

/-! ## The set as the engines read it (R118, R119) -/

/-- A closed set read at its notice: group, seq, instant, closure, header flags and the member slots' bytes. -/
structure GanSet where
  group : Nat
  seq : Nat
  instant : Nat
  closed : Nat
  flags : Nat
  slots : List (List Byte)
  deriving DecidableEq, Repr

/-- A compact stamp extended from a marker (R78). -/
def extendStamp (base c : Nat) : Nat :=
  let d := (c + 2 ^ 32 - base % 2 ^ 32) % 2 ^ 32
  if d < 2 ^ 31 then base + d else base + d - 2 ^ 32

/-- A stamp field read. -/
def readStamp (compact : Bool) (base : Nat) (b : List Byte) (a : Nat) : Nat :=
  if compact then extendStamp base (le b a 4) else le b a 4 + 1000000000 * le b (a + 4) 6

/-- The slot of a set for an entry, unless absent (R130). -/
def slotOf (s : GanSet) (e : Nat) : Option (List Byte) := s.slots.find? (fun b => le b 0 2 == e && le b 2 1 != 2)

/-- A usable value of a slot (R130), by the codes of R132. -/
def usable (b : List Byte) (q idx : Nat) : Option W32 :=
  let ph := le b 6 1
  let rd (a : Nat) : W32 := BitVec.ofNat 32 (le b a 4)
  if le b 2 1 ≠ 0 then none
  else if q = 1 then (if tst (le b 9 1) 0 then some (rd 20) else none)
  else if q = 2 then (if tst (le b 9 1) 1 then some (rd 24) else none)
  else if q = 3 then (if idx < ph ∧ tst (le b 12 4) idx then some (rd (32 + 8 * idx)) else none)
  else if q = 4 then (if idx < ph ∧ tst (le b 12 4) idx then some (rd (36 + 8 * idx)) else none)
  else if q = 5 then (if idx < le b 7 1 ∧ tst (le b 10 1) idx then some (rd (32 + 8 * ph + 4 * idx)) else none)
  else none

/-- A breaker bit of a present slot (R143). -/
def slotBit (b : List Byte) (word bit : Nat) : Option Bool :=
  if le b 2 1 = 0 ∧ word < le b 8 1 then
    some (tst (le b (32 + 8 * le b 6 1 + 4 * le b 7 1 + 2 * word) 2) bit)
  else none

/-! ## Rule items (R147) -/

def rNum (i : List Byte) : Nat := le i 0 2
def rTerms (i : List Byte) : List (Nat × Nat × Bool × Nat) :=
  (upTo (le i 3 1)).map (fun k =>
    (le i (4 + 4 * k) 1, le i (5 + 4 * k) 1 % 32, tst (le i (5 + 4 * k) 1) 7, le i (6 + 4 * k) 2))
def rFlag (i : List Byte) (n : Nat) : Bool := tst (le i 25 1) n
def rIsland (i : List Byte) : Bool := (rTerms i).any (fun t => t.1 == 4 || t.1 == 5)

/-- CRC-64 of R145 over bytes. -/
def crc64Bit (c : Nat) : Nat := if c < 2 ^ 63 then 2 * c else ((2 * c) % 2 ^ 64) ^^^ 0x42F0E1EBA9EA3693
def crc64Byte (c : Nat) (b : Byte) : Nat :=
  let x := c ^^^ (b.toNat * 2 ^ 56)
  crc64Bit (crc64Bit (crc64Bit (crc64Bit (crc64Bit (crc64Bit (crc64Bit (crc64Bit x)))))))
def crc64 (b : List Byte) : Nat := b.foldl crc64Byte 0

def GanMon.empty : GanMon := ⟨0, none, 0, 0, [], none⟩
def GanTun.empty : GanTun :=
  ⟨List.replicate 8 0, 0, none, none, 0, none, none, false, false, [], 0, 0, false, 0, none, [], [], none⟩
def GanEdge.empty : GanEdge := ⟨none, 0, 0, false, false, true, true, 0⟩
def GanRule.empty : GanRule := ⟨0, 0, 0, 0, 0, 0, 0, 0, 0, 0, 0⟩

/-- Rules in ACTIVE, CLEARING or LATCHED. -/
def GanRule.stands (x : GanRule) : Bool := x.state == 2 || x.state == 3 || x.state == 4

/-- The Surveyor restarted: edges closed with counts 0, and no previous count (R145, R155). -/
def GanSvy.empty : GanSvy := ⟨[], [], [], [], [], none, false, false, false, 0, none⟩

namespace W

/-! ## Items -/

/-- An item's table key. -/
def ganKey (kind num : Nat) : Nat := kind * 65536 + num

/-- The wiring items of a kind with run-time parameters in place: number and bytes (R131, R154). -/
def ganItems (w : W) (kind : Nat) : List (Nat × List Byte) :=
  ((w.pat.active.wiring.getD []).filter (fun i => le i 0 1 == kind)).map (fun i =>
    let n := le i 2 2
    (n, match tblGet w.gan.params (ganKey kind n) with | some b => i.take 4 ++ b | none => i))

def ganItem (w : W) (kind num : Nat) : Option (List Byte) := ((w.ganItems kind).find? (fun i => i.1 == num)).map (·.2)

def ganRules (w : W) : List (List Byte) := w.pat.active.rules.getD []

def ganHas (w : W) (e : Nat) : Bool := w.pat.active.hasEngine e

def mon (w : W) (kind num : Nat) : GanMon := (tblGet w.gan.mons (ganKey kind num)).getD GanMon.empty
def setMon (w : W) (kind num : Nat) (m : GanMon) : W :=
  { w with gan := { w.gan with mons := tblPut (ganKey kind num) m w.gan.mons } }
def tun (w : W) (n : Nat) : GanTun := (tblGet w.gan.tuns n).getD GanTun.empty
def setTun (w : W) (n : Nat) (x : GanTun) : W := { w with gan := { w.gan with tuns := tblPut n x w.gan.tuns } }
def rule (w : W) (n : Nat) : GanRule := (tblGet w.gan.rules n).getD GanRule.empty
def setRule (w : W) (n : Nat) (x : GanRule) : W := { w with gan := { w.gan with rules := tblPut n x w.gan.rules } }
def setSvy (w : W) (x : GanSvy) : W := { w with gan := { w.gan with svy := x } }

/-! ## Monitors (R133 to R136) -/

def gapFlag (s : GanSet) : Bool := tst s.flags 3

/-- Frequency monitor n updated from its entry's slot. -/
def freqMon (w : W) (n : Nat) (i : List Byte) (s : GanSet) (b : List Byte) : W :=
  let m := w.mon 1 n
  let f := usable b 1 0
  let fromF := tst (le i 1 1) 1
  let x := if fromF then f else usable b 2 0
  let win := le i 12 1
  let h : List (Ratio × Nat) := match x with
    | some v => ((Ratio.ofF32 v, s.instant) :: (if gapFlag s then [] else m.hist)).take (win + 1)
    | none => []
  let full := h.length == win + 1
  let roc : Ratio :=
    if fromF then
      match h.head?, h.getLast? with
      | some a, some z =>
        let d := a.1.sub z.1
        ⟨d.num * 1000000000, d.den * max 1 (a.2 - z.2)⟩
      | _, _ => ⟨0, 1⟩
    else
      let t := Ratio.sum ((h.take win).map (·.1))
      ⟨t.num, t.den * max 1 win⟩
  let dev : Option Ratio := f.map (fun v => (Ratio.ofF32 v).sub ⟨if tst (le i 1 1) 0 then 50 else 60, 1⟩)
  let band : Ratio := ⟨le i 8 2, 1000⟩
  let outs := match dev with
    | some d => bitNat (band.lt d) + 2 * bitNat (band.lt ⟨-d.num, d.den⟩) + 8
    | none => 0
  let outs := outs + (if full then 4 * bitNat (Ratio.lt ⟨le i 10 2, 1000⟩ roc.abs) + 16 else 0)
  w.setMon 1 n { m with
    outs := outs, upd := some s.closed, hist := h
    val := match dev with | some d => d.f32 | none => 0
    rate := if full then roc.f32 else 0 }

/-- Angle-pair monitor n. -/
def pairMon (w : W) (n : Nat) (i : List Byte) (s : GanSet) (b : List Byte) : W :=
  let m := w.mon 2 n
  let prev := if gapFlag s then none else m.prev
  let other : Option W32 := match slotOf s (le i 6 2) with | some c => usable c 4 (le i 9 1) | none => none
  match usable b 4 (le i 8 1), other with
  | some a, some c =>
    let d := wrapPi ((Ratio.ofF32 a).sub (Ratio.ofF32 c))
    let lims := bitNat (Ratio.lt (cdeg (sgn 16 (le i 14 2))) d) + 2 * bitNat (Ratio.lt d (cdeg (sgn 16 (le i 12 2)))) + 8
    let rate : Option Ratio := match prev with
      | some (p, t) =>
        if t < s.instant then
          let r := wrapPi (d.sub p)
          some ⟨r.num * 1000000000, r.den * (s.instant - t)⟩
        else none
      | none => none
    let outs := match rate with
      | some r => lims + 4 * bitNat (Ratio.lt (cdeg (le i 10 2)) r.abs) + 16
      | none => lims
    w.setMon 2 n { m with
      outs := outs, upd := some s.closed, val := d.f32, rate := match rate with | some r => r.f32 | none => 0
      prev := some (d, s.instant) }
  | _, _ => w.setMon 2 n { m with outs := 0, upd := some s.closed, val := 0, rate := 0, prev := prev }

/-- Level monitor n. -/
def levelMon (w : W) (n : Nat) (i : List Byte) (s : GanSet) (b : List Byte) : W :=
  let m := w.mon 6 n
  match usable b (le i 6 1) (le i 7 1) with
  | some v =>
    let lo : W32 := BitVec.ofNat 32 (le i 8 4)
    let hi : W32 := BitVec.ofNat 32 (le i 12 4)
    w.setMon 6 n { m with outs := bitNat (f32Lt hi v) + 2 * bitNat (f32Lt v lo) + 8, upd := some s.closed, val := v }
  | none => w.setMon 6 n { m with outs := 0, upd := some s.closed, val := 0 }

/-- Every monitor of a kind whose entry the set holds. -/
def monKind (w : W) (kind : Nat) (s : GanSet) (f : W → Nat → List Byte → GanSet → List Byte → W) : W :=
  (w.ganItems kind).foldl (fun w i =>
    match slotOf s (le i.2 4 2) with
    | some b => f w i.1 i.2 s b
    | none => w) w

def monitors (w : W) (s : GanSet) : W :=
  if w.ganHas 2 then ((w.monKind 1 s freqMon).monKind 2 s pairMon).monKind 6 s levelMon else w

/-! ## Tuner (R137 to R141) -/

/-- A signal restarted: filters and estimator cleared (R138). -/
def tunRestart (w : W) (n : Nat) : W :=
  let x := w.tun n
  (w.setTun n { GanTun.empty with
    modes := x.modes, rptSec := x.rptSec, rptSeq := x.rptSeq, damp := x.damp, lowZeta := x.lowZeta,
    dampUpd := x.dampUpd, upd := x.upd, due := x.due }).ev GAN_EVENT_tun_restart 0

/-- One band of R139 over the input samples, newest first: the new energy and the bit. -/
def bandStep (w : W) (rate set b : Nat) (valid : Bool) (xs : List W32) (e : W32) : W32 × Bool :=
  let lo := w.get (GAN_TUN_BAND_EDGE_lo set b)
  let hi := w.get (GAN_TUN_BAND_EDGE_hi set b)
  if (lo == 0 && hi == 0) || decide (45 * rate < hi) || decide (lo < 2) then (e, false)
  else
    let tau := max 1 (w.get (GAN_TUN_BAND_TAU_v set b))
    let y := Config.bandpass lo hi rate xs
    let k := if rate * tau ≤ 1000 then f32Rat 1 1 else f32Rat 1000 (rate * tau)
    let e := Config.f32Add e (Config.f32Mul (Config.f32Add (Config.f32Mul y y) (f32Minus e)) k)
    (e, valid && f32Lt (BitVec.ofNat 32 (w.get (GAN_TUN_BAND_THR_v set b))) e)

/-- An angle unwrapped from set to set (R132): the raw angle and the whole turns added to it so far. -/
def unwrap (last : Option (W32 × Int)) (a : W32) : W32 × Int :=
  match last with
  | none => (a, 0)
  | some (p, k) =>
    let d := (Ratio.ofF32 a).sub (Ratio.ofF32 p)
    (a, if Ratio.lt ⟨piNum, piDen⟩ d then k - 1 else if Ratio.lt d ⟨-(piNum : Int), piDen⟩ then k + 1 else k)

/-- The word of a raw angle with whole turns added. -/
def turnWord (t : W32 × Int) : W32 :=
  if t.2 = 0 then t.1 else ((Ratio.ofF32 t.1).sub ⟨-(t.2 * (2 * piNum : Nat)), piDen⟩).f32

/-- The value a signal takes from a usable one, and its unwrapping state: angles of code 0x04 are unwrapped (R132). -/
def tunValue (i : List Byte) (turn : Option (W32 × Int)) (v : W32) : W32 × Option (W32 × Int) :=
  if le i 6 1 = 4 then let t := unwrap turn v; (turnWord t, some t) else (v, turn)

/-- A signal's input sample (R138, R139): `v` the usable value, if there is one. Every D-th sample since the start, from the
first on, gives a decimated one (DEDUCED). -/
def tunSample (w : W) (n : Nat) (i : List Byte) (s : GanSet) (v : Option W32) : W :=
  let x := w.tun n
  match (match v with | some u => some (tunValue i x.turn u) | none => x.last.map (fun u => (u, x.turn))) with
  | none => w.setTun n { x with bits := 0, upd := some s.closed }
  | some (u, turn) =>
    if v.isNone ∧ 3 ≤ x.hold then
      let w := w.tunRestart n
      w.setTun n { w.tun n with upd := some s.closed }
    else
      let rate := ((w.alnItem s.group).map gRate).getD 1 |>.toNat
      let set := le i 12 1
      let d := max 1 (le i 8 1)
      let first := match x.first with | some t => t | none => s.instant
      let newest := if v.isSome then s.instant else first
      let taus := ((upTo 8).map (fun b => max 1 (w.get (GAN_TUN_BAND_TAU_v set b)))).foldl max 1
      let bv := x.bandsValid || decide (first + 4 * taus * 1000000 ≤ newest)
      let mv := x.modesValid || decide (first + le i 9 1 * 1000000000 ≤ newest)
      let xs := u :: x.xs
      let rs := (upTo 8).map (fun b => w.bandStep rate set b bv xs (x.energy.getD b 0))
      w.setTun n { x with
        energy := rs.map (·.1), bits := maskOf (rs.map (·.2)), upd := some s.closed
        hold := if v.isSome then 0 else x.hold + 1
        last := some u, turn := turn, xs := xs
        dec := if x.xs.length % d = 0 then firWord (Config.tunTap d) (16 * d) xs :: x.dec else x.dec
        first := some first, bandsValid := bv, modesValid := mv
        due := if s.instant % 1000000000 = 0 then some (s.instant / 1000000000) else x.due }

/-- Every signal of the set's group takes its sample. -/
def tuner (w : W) (s : GanSet) : W :=
  if !w.ganHas 3 then w
  else
    ((w.ganItems 3).filter (fun i => le i.2 11 1 == s.group)).foldl (fun w i =>
      let w := if gapFlag s then w.tunRestart i.1 else w
      let e := le i.2 4 2
      if le i.2 6 1 = 6 then
        match w.ganItem 2 e with
        | some p =>
          match slotOf s (le p 4 2) with
          | some _ => let m := w.mon 2 e; w.tunSample i.1 i.2 s (if tst m.outs 3 then some m.val else none)
          | none => w
        | none => w
      else
        match slotOf s e with
        | some b => w.tunSample i.1 i.2 s (usable b (le i.2 6 1) (le i.2 7 1))
        | none => w) w

/-- A list of modes put in ascending order of frequency. -/
def insertMode (m : W32 × W32 × W32 × W32) : List (W32 × W32 × W32 × W32) → List (W32 × W32 × W32 × W32)
  | [] => [m]
  | x :: t => if f32Lt m.1 x.1 then m :: x :: t else x :: insertMode m t

/-- The mode of largest amplitude of a list. -/
def largestMode (m : W32 × W32 × W32 × W32) (t : List (W32 × W32 × W32 × W32)) : W32 × W32 × W32 × W32 :=
  t.foldl (fun a b => if f32Lt a.2.2.1 b.2.2.1 then b else a) m

/-- The `n` modes of largest amplitude, in ascending order of frequency (R140). -/
def pickModes : Nat → List (W32 × W32 × W32 × W32) → List (W32 × W32 × W32 × W32)
  | 0, _ => []
  | _, [] => []
  | n + 1, m :: t => let a := largestMode m t; insertMode a (pickModes n ((m :: t).erase a))

/-- The modes of a model's pole pairs: frequency, damping ratio, amplitude and phase. -/
def modesOf (order window fa : Nat) (xs : List W32) : List (W32 × W32 × W32 × W32) :=
  (upTo (order / 2)).map (fun k =>
    let z := Config.arPole (Config.arModel order window fa xs) k
    (Config.modeFreq fa z.2, Config.modeZeta z.1 z.2, Config.modeAmp fa (xs.take (10 * fa)) z,
      Config.modePhase fa (xs.take (10 * fa)) z))

/-- A signal's report written (R140): of the pole pairs inside the range of R137, those of the largest amplitude. -/
def tunReport (w : W) (n : Nat) (i : List Byte) (sec : Nat) : W :=
  let x := w.tun n
  let rate := ((w.alnItem (le i 11 1)).map gRate).getD 1 |>.toNat
  let fa := rate / max 1 (le i 8 1)
  let inRange (f : W32) : Bool :=
    f32Finite f && !f32GtRat (f32Minus f) (-2) 100 && !f32GtRat f (min 400 (4 * fa)) 10
  let ms := pickModes (le i 10 1)
    ((modesOf (2 * le i 10 1 + 4) (le i 9 1) fa x.dec).filter (fun m => inRange m.1))
  let set := le i 12 1
  let amp : W32 := BitVec.ofNat 32 (w.get (GAN_TUN_AMP_MIN_v set))
  let zeta : W32 := BitVec.ofNat 32 (w.get (GAN_TUN_ZETA_MIN_v set))
  let low := ms.filter (fun m => f32Le amp m.2.2.1 && f32Lt m.2.1 zeta)
  let least := match low with
    | [] => 0
    | m :: t => t.foldl (fun z y => if f32Lt y.2.1 z then y.2.1 else z) m.2.1
  (w.setTun n { x with
    modes := ms, rptSec := sec, rptSeq := (x.rptSeq + 1) % 65536, damp := x.modesValid && !low.isEmpty, lowZeta := least
    dampUpd := some w.ns, due := none }).tally 0x55

/-! ## Surveyor (R142 to R145) -/

/-- Kept inputs renewed from a set (R143). -/
def svyUpdate (w : W) (s : GanSet) : W :=
  let x := w.gan.svy
  let freq := (w.ganItems 4).foldl (fun t i =>
    match slotOf s (le i.2 4 2) with
    | some b =>
      match usable b 1 0, tblGet t i.1 with
      | some v, some (_, old) => if old ≤ s.instant then tblPut i.1 (v, s.instant) t else t
      | some v, none => tblPut i.1 (v, s.instant) t
      | none, _ => t
    | none => t) x.freq
  let edges := (w.ganItems 5).foldl (fun t i =>
    if !tst (le i.2 1 1) 0 then t
    else match slotOf s (le i.2 8 2) with
      | some b =>
        let e := (tblGet t i.1).getD GanEdge.empty
        match slotBit b (le i.2 10 1) (le i.2 11 1), e.kept with
        | some v, some (_, old) => if old ≤ s.instant then tblPut i.1 { e with kept := some (v, s.instant) } t else t
        | some v, none => tblPut i.1 { e with kept := some (v, s.instant) } t
        | none, _ => t
      | none => t) x.edges
  w.setSvy { x with freq := freq, edges := edges }

/-- A node's frequency as a tick at `ts` reads it. -/
def nodeFreq (w : W) (ts n : Nat) : Option W32 :=
  match tblGet w.gan.svy.freq n with
  | some (v, t) => if t ≤ ts ∧ ts ≤ t + 1000000 * min 1000 (w.get GAN_SVY_TIMING_skew_ms) then some v else none
  | none => none

def nodeTimeout (w : W) : Nat := 1000000 * max 1 (w.get GAN_SVY_TIMING_node_timeout_ms)

/-- An edge evaluated at a tick (R144). -/
def edgeTick (w : W) (ts : Nat) (i : List Byte) (e : GanEdge) : GanEdge :=
  let df := le i 12 2
  let fa := w.nodeFreq ts (le i 4 2)
  let fb := w.nodeFreq ts (le i 6 2)
  let diff : Option Ratio := match fa, fb with
    | some a, some b => some ((Ratio.ofF32 a).sub (Ratio.ofF32 b)).abs
    | _, _ => none
  let crit : Option Bool := if df = 0 then none else diff.map (fun d => Ratio.lt ⟨df, 1000⟩ d)
  let (co, cu) := match crit with
    | some true => (min 255 (e.cntOver + 1), 0)
    | some false => (0, min 255 (e.cntUnder + 1))
    | none => (e.cntOver, e.cntUnder)
  let persist := le i 14 1
  let fo := if persist ≤ co then true else if persist ≤ cu then false else e.freqOpen
  let st : Option Bool := match e.kept with
    | some (b, t) => if t ≤ ts + w.nodeTimeout ∧ ts ≤ t + w.nodeTimeout then some b else none
    | none => none
  let so :=
    if !tst (le i 1 1) 0 then false
    else match st with
      | none => e.statusOpen
      | some b => b == tst (le i 1 1) 1
  { e with
    cntOver := co, cntUnder := cu, freqOpen := fo, statusOpen := so, statusUnknown := st.isNone
    freqUnknown := crit.isNone, diff := match diff with | some d => d.f32 | none => 0 }

/-- Two components joined: the larger label gives way to the smaller (R145). -/
def joinLabels (a b : Nat) (t : List (Nat × Nat)) : List (Nat × Nat) :=
  match tblGet t a, tblGet t b with
  | some x, some y => t.map (fun e => if e.2 = max x y then (e.1, min x y) else e)
  | _, _ => t

/-- The components' number: nodes that are their own label. -/
def countLabels (t : List (Nat × Nat)) : Nat := (t.filter (fun e => e.1 == e.2)).length

/-- The Surveyor's registers of the last tick. -/
def showSvy (w : W) : W :=
  let v := w.gan.svy
  let w := w.set GAN_SVY_STATUS_components (v.count.getD 0)
  let w := w.set GAN_SVY_STATUS_open_edges (v.edges.filter (fun e => e.2.freqOpen || e.2.statusOpen)).length
  (w.set GAN_SVY_DIGEST_LO_v (v.digest % 2 ^ 32)).set GAN_SVY_DIGEST_HI_v (v.digest / 2 ^ 32)

/-- A survey tick after a set of the pace group (R143 to R145). -/
def svyTick (w : W) (s : GanSet) : W :=
  let x := w.gan.svy
  let edges := (w.ganItems 5).foldl (fun t i =>
    tblPut i.1 (w.edgeTick s.instant i.2 ((tblGet t i.1).getD GanEdge.empty)) t) x.edges
  let nodes := (w.ganItems 4).map (·.1)
  let labels := (w.ganItems 5).foldl (fun t i =>
    match tblGet edges i.1 with
    | some e => if e.freqOpen || e.statusOpen then t else joinLabels (le i.2 4 2) (le i.2 6 2) t
    | none => t) (nodes.map (fun n => (n, n)))
  let c := countLabels labels
  let stale := nodes.filter (fun n => match tblGet x.freq n with
    | some (_, t) => decide (t + w.nodeTimeout < s.instant) | none => true)
  let dg := crc64 ((labels.map (fun e => leBytes 2 e.1 ++ leBytes 2 e.2)).flatten)
  let (ch, sp, mg) := match x.count with
    | some p => (decide (c ≠ p), decide (p < c), decide (c < p))
    | none => (false, false, false)
  let sep := match tblGet labels (w.get GAN_SVY_CFG_ref_node) with
    | some r => (labels.filter (fun e => e.2 != r)).map (·.1)
    | none => []
  let w := w.setSvy { x with
    edges := edges, labels := labels, stale := stale, sep := sep, count := some c, change := ch, split := sp, merge := mg
    digest := dg, upd := some s.closed }
  let w := w.showSvy
  let w := (w.set GAN_SVY_SEQ_v s.seq).set GAN_SVY_CALC_NS_v (Config.surveyNs w.free % 300001)
  let w := w.draw.tally 0x54
  if ch then w.ev GAN_EVENT_svy_change 0 else w

/-- Whether a node was separated at the last tick (R145). -/
def separated (w : W) (n : Nat) : Bool := w.gan.svy.sep.contains n

def staleNs (w : W) : Nat := 1000000 * max 1 (w.get GAN_CTRL_stale_ms)

/-! ## Rules (R147 to R152) -/

/-- A term's output: its value, the stamp of its update and the quantity behind it (R148, R152). -/
def termOut (w : W) (closed kind idx num : Nat) : Bool × Option Nat × W32 :=
  if kind = 1 ∨ kind = 2 ∨ kind = 6 then
    let m := w.mon kind num
    let cause : W32 := if idx < 2 then m.val else if idx = 2 then m.rate else 0
    (tst m.outs idx, m.upd, cause)
  else if kind = 3 then
    let x := w.tun num
    if idx < 8 then (tst x.bits idx, x.upd, x.energy.getD idx 0)
    else if idx = 8 then (x.damp, x.dampUpd, x.lowZeta)
    else if idx = 9 then (x.bandsValid, x.upd, 0)
    else (x.modesValid, x.upd, 0)
  else
    let v := w.gan.svy
    let n := f32Rat ((v.count.getD 0 : Nat) : Int) 1
    if kind = 4 then
      if num = 0xFFFF then
        let fresh := match v.upd with | some u => decide (closed ≤ u + w.staleNs) | none => false
        if idx = 0 then (v.change, v.upd, n) else if idx = 1 then (v.split, v.upd, n)
        else if idx = 2 then (v.merge, v.upd, n) else if idx = 3 then (decide (1 < v.count.getD 0), v.upd, n)
        else (fresh, v.upd, 0)
      else if idx = 0 then (w.separated num, v.upd, n)
      else (v.stale.contains num, v.upd, 0)
    else
      match tblGet v.edges num with
      | some e =>
        if idx = 0 then (e.freqOpen || e.statusOpen, v.upd, e.diff)
        else if idx = 1 then (e.statusOpen, v.upd, e.diff) else (e.freqOpen, v.upd, e.diff)
      | none => (false, v.upd, 0)

/-- A record of 64 bytes (R151). -/
def hitBytes (i : List Byte) (kind : Nat) (x : GanRule) (cause : Nat) (value : W32) : List Byte :=
  let dv := rIsland i
  let fl := bitNat (rFlag i 1) + 2 * bitNat (x.stale != 0) + 4 * bitNat (rFlag i 2) + 8 * bitNat dv
    + 16 * bitNat (tst x.flags 1) + 32 * bitNat (tst x.flags 2)
  padTo 64 (leBytes 1 kind ++ leBytes 1 (le i 24 1) ++ leBytes 2 (rNum i) ++ leBytes 2 (le i 26 2)
    ++ leBytes 1 (le i 28 1) ++ leBytes 1 fl ++ leBytes 4 x.seq ++ fullStamp x.instant ++ leBytes 2 0
    ++ fullStamp x.closed ++ leBytes 2 0 ++ leBytes 1 (x.values + 16 * x.stale) ++ leBytes 1 cause ++ leBytes 2 0
    ++ leBytes 4 value.toNat ++ leBytes 2 x.comps ++ leBytes 2 0 ++ leBytes 8 (if dv then x.digest else 0))

/-- Waiting records put into the Crier queue while it has room (R151). -/
def sendHits : Nat → W → W
  | 0, w => w
  | n + 1, w =>
    match w.gan.waiting with
    | [] => w
    | b :: t =>
      if w.hasRoom 0x07 0x08 64 then
        sendHits n (({ w with gan := { w.gan with waiting := t } } : W).push 0x07 0x08 ⟨.bytes b, 64, false⟩)
      else w.ev GAN_EVENT_hit_wait 0

def ganFlush (w : W) : W := sendHits w.gan.waiting.length w

/-- A record for the Crier: never dropped, in order. -/
def sendHit (w : W) (kind : Nat) (b : List Byte) : W :=
  match w.pat.active.path 0x07 0x08 with
  | none => w
  | some _ =>
    let w := w.tally (if kind = 1 then 0x52 else 0x53)
    ({ w with gan := { w.gan with waiting := w.gan.waiting ++ [b] } } : W).ganFlush

/-- The bits of a word of rules with a property. -/
def ruleBits (w : W) (word : Nat) (p : GanRule → Bool) : Nat :=
  (((w.ganRules.map rNum).filter (fun n => n / 32 == word && p (w.rule n))).map (fun n => 2 ^ (n % 32))).sum

/-- GAN_RULE_ACTIVE of a rule's word brought up to date. -/
def showRule (w : W) (n : Nat) : W := w.set (GAN_RULE_ACTIVE_v (n / 32)) (w.ruleBits (n / 32) GanRule.stands)

def ruleEnabled (w : W) (n : Nat) : Bool := tst (w.get (GAN_RULE_EN_v (n / 32))) (n % 32)

/-- The next state of a rule (R150): state, count, and 1 where it is raised, 2 where it clears. -/
def ruleNext (i : List Byte) (state count : Nat) (cond : Bool) : Nat × Nat × Nat :=
  let set := le i 20 2
  let clr := le i 22 2
  let pend (n : Nat) : Nat × Nat × Nat := if set ≤ n then (2, 0, 1) else (1, n, 0)
  let clear (n : Nat) : Nat × Nat × Nat := if clr ≤ n then (if rFlag i 2 then (4, 0, 0) else (0, 0, 2)) else (3, n, 0)
  if state = 0 then (if cond then pend 1 else (0, 0, 0))
  else if state = 1 then (if cond then pend (count + 1) else (0, 0, 0))
  else if state = 2 then (if cond then (2, 0, 0) else clear 1)
  else if state = 3 then (if cond then (2, 0, 0) else clear (count + 1))
  else (if cond then (2, 0, 0) else (4, 0, 0))

/-- One rule evaluated after a set (R149 to R151). -/
def ruleEval (w : W) (i : List Byte) (s : GanSet) : W :=
  let n := rNum i
  let x := w.rule n
  let ts := (rTerms i).map (fun t =>
    let (v, upd, c) := w.termOut s.closed t.1 t.2.1 t.2.2.2
    let stale := match upd with | some u => decide (u + w.staleNs < s.closed) | none => true
    (stale, !stale && (v != t.2.2.1), if t.2.2.1 then (0 : W32) else c))
  let w := if ts.any (·.1) then w.ev GAN_EVENT_stale_term 0 else w
  let vals := maskOf (ts.map (·.2.1))
  let cond := if le i 2 1 = 0 then ts.all (·.2.1) else ts.any (·.2.1)
  let (st, cnt, out) := ruleNext i x.state x.count cond
  let x : GanRule :=
    { state := st, count := min 0xFFFF cnt, hits := if out = 1 then min 0xFFFFFFFF (x.hits + 1) else x.hits
      values := vals, stale := maskOf (ts.map (·.1)), seq := s.seq, instant := s.instant, closed := s.closed
      flags := s.flags, comps := w.gan.svy.count.getD 0, digest := w.gan.svy.digest }
  let w := ((w.setRule n x).showRule n).tally 0x51
  if out = 1 then
    let cause := (ts.findIdx? (·.2.1)).getD 0
    w.sendHit 1 (hitBytes i 1 x cause ((ts.map (·.2.2)).getD cause 0))
  else if out = 2 && rFlag i 3 then w.sendHit 2 (hitBytes i 2 x 0xFF 0)
  else w

/-- One pass over the enabled rules of a set's group: `island` chooses the second pass (R149). -/
def rulePass (w : W) (s : GanSet) (island : Bool) : W :=
  if !w.ganHas 2 || !w.bit GAN_CTRL_rules_enable then w
  else
    (w.ganRules.filter (fun i => le i 28 1 == s.group && rIsland i == island && w.ruleEnabled (rNum i))).foldl
      (fun w i => w.ruleEval i s) w

/-- A rule sent to IDLE from outside an evaluation; with `report` its cleared record is sent where report_clear asks. -/
def ruleIdle (w : W) (i : List Byte) (report : Bool) : W :=
  let n := rNum i
  let x := w.rule n
  let w := (w.setRule n { x with state := 0, count := 0 }).showRule n
  if report && x.stands && rFlag i 3 then w.sendHit 2 (hitBytes i 2 x 0xFF 0) else w

/-! ## Notices (R128) -/

/-- A closed set read from the ring. -/
def readSet (w : W) (addr : Nat) : GanSet :=
  let h := w.rdBytes addr 64
  let compact := tst (le h 3 1) 0
  let g := le h 1 1
  let base := (tblGet w.gan.base g).getD 0
  let mb := le h 40 2
  { group := g, seq := le h 4 4, instant := readStamp compact base h 16, closed := readStamp compact base h 28
    flags := le h 3 1, slots := (upTo (le h 8 2)).map (fun k => w.rdBytes (addr + 64 + k * mb) mb) }

/-- A notice processed: both passes of a set, or a marker's stamp kept. -/
def ganNotice (w : W) (b : List Byte) : W :=
  let addr := le b 8 8
  if le b 0 1 = 2 then
    let h := w.rdBytes addr 64
    { w with gan := { w.gan with base := tblPut (le b 1 1) (readStamp false 0 h 16) w.gan.base } }
  else
    let s := w.readSet addr
    let w := ((w.monitors s).tuner s).rulePass s false
    let w := if w.ganHas 4 then w.svyUpdate s else w
    let w := if w.ganHas 4 && s.group == w.get GAN_SVY_CFG_pace_group then w.svyTick s else w
    let w := w.rulePass s true
    (w.set GAN_SETS_CNT_v (w.get GAN_SETS_CNT_v + 1)).tally 0x50

/-! ## Parameters (R154) -/

/-- A word of an item with its parameter bytes replaced, and GAN_PARAM_STATUS: 0 accepted, 2 no parameter there, 3 out of
range. -/
def paramWord (i : List Byte) (kind word v : Nat) : List Byte × Nat :=
  let at_ := 4 + 4 * word
  let lo := v % 65536
  let hi := v / 65536
  if kind = 1 ∧ word = 1 then
    if lo = 0 ∨ hi = 0 then (i, 3) else (patch i at_ (leBytes 4 v), 0)
  else if kind = 1 ∧ word = 2 then
    let n := v % 256
    if n = 0 ∨ 64 < n then (i, 3) else (patch i 12 (leBytes 1 n), 0)
  else if kind = 2 ∧ word = 1 then
    if hi = 0 then (i, 3) else (patch i 10 (leBytes 2 hi), 0)
  else if kind = 2 ∧ word = 2 then
    let l := sgn 16 lo
    let h := sgn 16 hi
    if l < -18000 ∨ 18000 < h ∨ h < l then (i, 3) else (patch i 12 (leBytes 4 v), 0)
  else if kind = 6 ∧ (word = 1 ∨ word = 2) then
    let f : W32 := BitVec.ofNat 32 v
    let o : W32 := BitVec.ofNat 32 (le i (if word = 1 then 12 else 8) 4)
    let ok := f32Finite f && (if word = 1 then f32Le f o else f32Le o f)
    if ok then (patch i at_ (leBytes 4 v), 0) else (i, 3)
  else if kind = 5 ∧ word = 2 then
    let p := v / 65536 % 256
    if p = 0 then (i, 3) else (patch i 12 (leBytes 2 lo ++ leBytes 1 p), 0)
  else (i, 2)

/-- GAN_PARAM_DATA written. -/
def paramWrite (w : W) (v : W32) : W :=
  let kind := w.get GAN_PARAM_SEL_kind
  let word := w.get GAN_PARAM_SEL_word
  let num := w.get GAN_PARAM_SEL_number
  match w.ganItem kind num with
  | none => w.set GAN_PARAM_STATUS_result 1
  | some i =>
    if word = 3 then w.set GAN_PARAM_STATUS_result 2
    else
      let (b, r) := paramWord i kind word v.toNat
      let w := w.set GAN_PARAM_STATUS_result r
      if r = 0 then { w with gan := { w.gan with params := tblPut (ganKey kind num) (b.drop 4) w.gan.params } } else w

/-- The word GAN_PARAM_DATA reads. -/
def paramRead (w : W) : Nat :=
  match w.ganItem (w.get GAN_PARAM_SEL_kind) (w.get GAN_PARAM_SEL_number) with
  | some i => le i (4 + 4 * w.get GAN_PARAM_SEL_word) 4
  | none => 0

/-! ## Selections (R154) -/

/-- GAN_RULE_SEL written: the rule's registers latched. -/
def latchRule (w : W) (n : Nat) : W :=
  let w := w.set GAN_RULE_SEL_rule n
  let here := w.ganRules.any (fun i => rNum i == n)
  let x := if here then w.rule n else GanRule.empty
  let w := (w.set GAN_RULE_STATE_state x.state).setB GAN_RULE_STATE_enabled (here && w.ruleEnabled n)
  let w := (w.set GAN_RULE_STATE_values x.values).set GAN_RULE_STATE_stale x.stale
  (w.set GAN_RULE_STATE_count x.count).set GAN_RULE_HITS_v x.hits

/-- GAN_TUN_SEL written: the signal's last report and energies latched. -/
def latchTun (w : W) (n : Nat) : W :=
  let x := w.tun n
  let w := (w.set GAN_TUN_SEL_signal n).set GAN_TUN_INFO_modes x.modes.length
  let w := (w.setB GAN_TUN_INFO_modes_valid x.modesValid).setB GAN_TUN_INFO_bands_valid x.bandsValid
  let w := (w.set GAN_TUN_INFO_report_seq x.rptSeq).set GAN_TUN_RPT_NS_v 0
  let w := (w.set GAN_TUN_RPT_SEC_LO_v (x.rptSec % 2 ^ 32)).set GAN_TUN_RPT_SEC_HI_v (x.rptSec / 2 ^ 32)
  (upTo 8).foldl (fun (w : W) k =>
    let m := x.modes.getD k (0, 0, 0, 0)
    let w := (w.set (GAN_TUN_MODE_FREQ_v k) m.1.toNat).set (GAN_TUN_MODE_ZETA_v k) m.2.1.toNat
    let w := (w.set (GAN_TUN_MODE_AMP_v k) m.2.2.1.toNat).set (GAN_TUN_MODE_PHASE_v k) m.2.2.2.toNat
    w.set (GAN_TUN_ENERGY_v k) (x.energy.getD k 0).toNat) w

def latchNode (w : W) (n : Nat) : W :=
  let w := (w.set GAN_SVY_NODE_SEL_index n).set GAN_SVY_NODE_label ((tblGet w.gan.svy.labels n).getD 0)
  (w.setB GAN_SVY_NODE_separated (w.separated n)).setB GAN_SVY_NODE_stale (w.gan.svy.stale.contains n)

def latchEdge (w : W) (n : Nat) : W :=
  let e := (tblGet w.gan.svy.edges n).getD { GanEdge.empty with statusUnknown := false, freqUnknown := false }
  let w := (w.set GAN_SVY_EDGE_SEL_index n).setB GAN_SVY_EDGE_open (e.freqOpen || e.statusOpen)
  let w := (w.setB GAN_SVY_EDGE_by_status e.statusOpen).setB GAN_SVY_EDGE_by_freq e.freqOpen
  let w := (w.setB GAN_SVY_EDGE_status_unknown e.statusUnknown).setB GAN_SVY_EDGE_freq_unknown e.freqUnknown
  (w.set GAN_SVY_EDGE_cnt_over e.cntOver).set GAN_SVY_EDGE_cnt_under e.cntUnder

/-- GAN_MON_SEL written; kinds other than the monitors' latch zeros. -/
def latchMon (w : W) (kind num : Nat) : W :=
  let w := (w.set GAN_MON_SEL_kind kind).set GAN_MON_SEL_number num
  let known := kind = 1 ∨ kind = 2 ∨ kind = 6
  let m := if known then w.mon kind num else GanMon.empty
  let age := match m.upd with
    | some u => min 0xFFFF ((w.ns - u) / 1000000)
    | none => if known then 0xFFFF else 0
  let w := (w.set GAN_MON_OUT_outputs m.outs).set GAN_MON_OUT_age_ms age
  (w.set GAN_MON_VAL_v m.val.toNat).set GAN_MON_RATE_v m.rate.toNat

/-- GAN_SVY_STATUS.valid at the moment of a read. -/
def svyValid (w : W) : Bool :=
  match w.gan.svy.upd with | some u => decide (w.ns ≤ u + w.staleNs) | none => false

end W

end Sys2Proof.Machine
end

