-- ==== Sys2Proof/Machine/Analytics.lean ====
section
/-! DEFINITION. The commands of grid analytics (R128 to R155). -/

namespace Sys2Proof.Machine

/-- NOTICE: the head notice is taken, unless records still wait for the Crier queue (R151); with enable 0 it is taken and
discarded. -/
def execNotice (t : Nat) (s : State) : Host.Outcome State Fault Refusal :=
  run true "NOTICE" (fun w =>
    let w := (w.at_ t).ganFlush
    if !w.loom || !w.gan.waiting.isEmpty then w
    else match w.headOf 0x06 0x07 with
      | some u =>
        let w := w.popQ 0x06 0x07
        let w := W.sendNotices w.aln.notices.length w
        match u.body with
        | .bytes b => if w.bit GAN_CTRL_enable && !u.aborted then w.ganNotice b else w
        | _ => w
      | none => w) s

/-- TUNER_REPORT (R140). -/
def execTunerReport (signal t : Nat) (s : State) : Host.Outcome State Fault Refusal :=
  run (wfTunerReport signal) "TUNER_REPORT" (fun w =>
    let w := w.at_ t
    match w.ganItem 3 signal, (w.tun signal).due with
    | some i, some sec => if w.loom && w.ganHas 3 then w.tunReport signal i sec else w
    | _, _ => w) s

/-- PARAM_WRITE (R154). -/
def execParamWrite (v : W32) (s : State) : Host.Outcome State Fault Refusal :=
  runL true "PARAM_WRITE" (fun w => (w.paramWrite v).dirty) s

/-- RULE_ENABLE: a rule disabled goes IDLE, with a cleared record where it stood and report_clear asks (R150). -/
def execRuleEnable (word : Nat) (v : W32) (s : State) : Host.Outcome State Fault Refusal :=
  runL (wfRuleEnable word) "RULE_ENABLE" (fun w =>
    if !w.ganHas 2 then w
    else
      let here := w.ruleBits word (fun _ => true)
      let off := w.ganRules.filter (fun i => rNum i / 32 == word && w.ruleEnabled (rNum i) && !tst v.toNat (rNum i % 32))
      let w := (w.set (GAN_RULE_EN_v word) (v.toNat &&& here)).dirty
      off.foldl (fun w i => w.ruleIdle i true) w) s

/-- RULE_ACK: LATCHED rules go IDLE (R150). -/
def execRuleAck (word : Nat) (v : W32) (s : State) : Host.Outcome State Fault Refusal :=
  runL (wfRuleAck word) "RULE_ACK" (fun w =>
    if !w.ganHas 2 then w
    else
      (w.ganRules.filter (fun i => rNum i / 32 == word && tst v.toNat (rNum i % 32)
          && (w.rule (rNum i)).state == 4)).foldl (fun w i => w.ruleIdle i true) w) s

/-- GAN_SEL_LATCH: the registers a selection shows are latched (R154). -/
def execGanSelLatch (sel : GanSel) (v : W32) (s : State) : Host.Outcome State Fault Refusal :=
  runL true "GAN_SEL_LATCH" (fun w =>
    let n := v.toNat
    match sel with
    | .rule => if w.ganHas 2 then w.latchRule (n % 1024) else w
    | .tuner => if w.ganHas 3 then w.latchTun (n % 512) else w
    | .node => if w.ganHas 4 then w.latchNode (n % 32768) else w
    | .edge => if w.ganHas 4 then w.latchEdge (n % 32768) else w
    | .monitor => if w.ganHas 2 then w.latchMon (n % 16) (n / 65536) else w) s

/-- GAN_CTRL_WRITE: rules_enable 0 sends every rule IDLE without records (R149). -/
def execGanCtrlWrite (v : W32) (s : State) : Host.Outcome State Fault Refusal :=
  runL true "GAN_CTRL_WRITE" (fun w =>
    let n := v.toNat
    let w := ((w.set GAN_CTRL_enable n).set GAN_CTRL_rules_enable (n / 2)).set GAN_CTRL_stale_ms (n / 65536)
    let w := w.dirty
    if tst n 1 then w else w.ganRules.foldl (fun w i => w.ruleIdle i false) w) s

end Sys2Proof.Machine
end

