-- ==== Sys2Proof/Machine/Calendar.lean ====
section
/-! DEFINITION. The proleptic Gregorian calendar of the real-time clock (R348): day numbers and dates. -/

namespace Sys2Proof.Machine

/-- A leap year of the Gregorian calendar. -/
def leapYear (y : Nat) : Bool := (y % 4 == 0 && y % 100 != 0) || y % 400 == 0

/-- The days of a month; 0 outside 1 to 12. -/
def monthDays (y m : Nat) : Nat :=
  if m = 2 then (if leapYear y then 29 else 28)
  else if m = 4 ∨ m = 6 ∨ m = 9 ∨ m = 11 then 30
  else if 1 ≤ m ∧ m ≤ 12 then 31 else 0

/-- Day number of a date, day 0 being 1970-01-01. Years are counted from 1 March. -/
def dayNumber (d : Date) : Nat :=
  let y := if d.month ≤ 2 then d.year - 1 else d.year
  let mp := (d.month + 9) % 12
  let doy := (153 * mp + 2) / 5 + d.day - 1
  365 * y + y / 4 - y / 100 + y / 400 + doy - 719468

/-- The date of a day number. -/
def dateOf (n : Nat) : Date :=
  let z := n + 719468
  let era := z / 146097
  let doe := z % 146097
  let yoe := (doe - doe / 1460 + doe / 36524 - doe / 146096) / 365
  let doy := doe - (365 * yoe + yoe / 4 - yoe / 100)
  let mp := (5 * doy + 2) / 153
  let day := doy - (153 * mp + 2) / 5 + 1
  let month := if mp < 10 then mp + 3 else mp - 9
  ⟨yoe + era * 400 + (if month ≤ 2 then 1 else 0), month, day⟩

/-- The weekday of a day number, Monday 1 to Sunday 7 (1970-01-01 was a Thursday). -/
def weekdayOf (n : Nat) : Nat := (n + 3) % 7 + 1

end Sys2Proof.Machine
end

