-- ==== Sys2Proof/Machine/Crypto.lean ====
section
/-! DEFINITION. The algorithms that the manual names from public standards: SHA-256, SHA-384, HMAC-SHA-256, AES with key
wrap (RFC 3394, RFC 5649), GCM and CCM*, and ECDSA verification on P-384. Their details are PRESUMED from those standards:
FIPS 180-4, FIPS 198-1, FIPS 197, SP 800-38C and 38D, FIPS 186. -/

namespace Sys2Proof.Machine

/-! ## Constants of SHA-2: the first bits of the fractional parts of the roots of the first primes -/

/-- Of the cube roots of the first 64 primes, 32 bits. -/
def k256 : List Nat :=
  [0x428A2F98, 0x71374491, 0xB5C0FBCF, 0xE9B5DBA5, 0x3956C25B, 0x59F111F1, 0x923F82A4, 0xAB1C5ED5,
   0xD807AA98, 0x12835B01, 0x243185BE, 0x550C7DC3, 0x72BE5D74, 0x80DEB1FE, 0x9BDC06A7, 0xC19BF174,
   0xE49B69C1, 0xEFBE4786, 0x0FC19DC6, 0x240CA1CC, 0x2DE92C6F, 0x4A7484AA, 0x5CB0A9DC, 0x76F988DA,
   0x983E5152, 0xA831C66D, 0xB00327C8, 0xBF597FC7, 0xC6E00BF3, 0xD5A79147, 0x06CA6351, 0x14292967]
  ++ [0x27B70A85, 0x2E1B2138, 0x4D2C6DFC, 0x53380D13, 0x650A7354, 0x766A0ABB, 0x81C2C92E, 0x92722C85,
   0xA2BFE8A1, 0xA81A664B, 0xC24B8B70, 0xC76C51A3, 0xD192E819, 0xD6990624, 0xF40E3585, 0x106AA070,
   0x19A4C116, 0x1E376C08, 0x2748774C, 0x34B0BCB5, 0x391C0CB3, 0x4ED8AA4A, 0x5B9CCA4F, 0x682E6FF3,
   0x748F82EE, 0x78A5636F, 0x84C87814, 0x8CC70208, 0x90BEFFFA, 0xA4506CEB, 0xBEF9A3F7, 0xC67178F2]

/-- Of the cube roots of the first 80 primes, 64 bits. -/
def k512 : List Nat :=
  [0x428A2F98D728AE22, 0x7137449123EF65CD, 0xB5C0FBCFEC4D3B2F, 0xE9B5DBA58189DBBC, 0x3956C25BF348B538,
   0x59F111F1B605D019, 0x923F82A4AF194F9B, 0xAB1C5ED5DA6D8118, 0xD807AA98A3030242, 0x12835B0145706FBE,
   0x243185BE4EE4B28C, 0x550C7DC3D5FFB4E2, 0x72BE5D74F27B896F, 0x80DEB1FE3B1696B1, 0x9BDC06A725C71235,
   0xC19BF174CF692694, 0xE49B69C19EF14AD2, 0xEFBE4786384F25E3, 0x0FC19DC68B8CD5B5, 0x240CA1CC77AC9C65]
  ++ [0x2DE92C6F592B0275, 0x4A7484AA6EA6E483, 0x5CB0A9DCBD41FBD4, 0x76F988DA831153B5, 0x983E5152EE66DFAB,
   0xA831C66D2DB43210, 0xB00327C898FB213F, 0xBF597FC7BEEF0EE4, 0xC6E00BF33DA88FC2, 0xD5A79147930AA725,
   0x06CA6351E003826F, 0x142929670A0E6E70, 0x27B70A8546D22FFC, 0x2E1B21385C26C926, 0x4D2C6DFC5AC42AED,
   0x53380D139D95B3DF, 0x650A73548BAF63DE, 0x766A0ABB3C77B2A8, 0x81C2C92E47EDAEE6, 0x92722C851482353B]
  ++ [0xA2BFE8A14CF10364, 0xA81A664BBC423001, 0xC24B8B70D0F89791, 0xC76C51A30654BE30, 0xD192E819D6EF5218,
   0xD69906245565A910, 0xF40E35855771202A, 0x106AA07032BBD1B8, 0x19A4C116B8D2D0C8, 0x1E376C085141AB53,
   0x2748774CDF8EEB99, 0x34B0BCB5E19B48A8, 0x391C0CB3C5C95A63, 0x4ED8AA4AE3418ACB, 0x5B9CCA4F7763E373,
   0x682E6FF3D6B2B8A3, 0x748F82EE5DEFB2FC, 0x78A5636F43172F60, 0x84C87814A1F0AB72, 0x8CC702081A6439EC]
  ++ [0x90BEFFFA23631E28, 0xA4506CEBDE82BDE9, 0xBEF9A3F7B2C67915, 0xC67178F2E372532B, 0xCA273ECEEA26619C,
   0xD186B8C721C0C207, 0xEADA7DD6CDE0EB1E, 0xF57D4F7FEE6ED178, 0x06F067AA72176FBA, 0x0A637DC5A2C898A6,
   0x113F9804BEF90DAE, 0x1B710B35131C471B, 0x28DB77F523047D84, 0x32CAAB7B40C72493, 0x3C9EBE0A15C9BEBC,
   0x431D67C49C100D4C, 0x4CC5D4BECB3E42B6, 0x597F299CFC657E2A, 0x5FCB6FAB3AD6FAEC, 0x6C44198C4A475817]

/-- The initial values of SHA-256 (square roots of the first 8 primes) and of SHA-384 (of the 9th to 16th). -/
def h256 : List Nat :=
  [0x6A09E667, 0xBB67AE85, 0x3C6EF372, 0xA54FF53A, 0x510E527F, 0x9B05688C, 0x1F83D9AB, 0x5BE0CD19]
def h384 : List Nat :=
  [0xCBBB9D5DC1059ED8, 0x629A292A367CD507, 0x9159015A3070DD17, 0x152FECD8F70E5939,
   0x67332667FFC00B31, 0x8EB44A8768581511, 0xDB0C2E0D64F98FA7, 0x47B5481DBEFA4FA4]

/-! ## SHA-2 -/

/-- Word width, rotations and constants of one member of SHA-2. -/
structure Sha where
  w : Nat
  rounds : Nat
  big0 : List Nat
  big1 : List Nat
  small0 : List Nat
  small1 : List Nat
  k : List Nat

def Sha.s256 : Sha := ⟨32, 64, [2, 13, 22], [6, 11, 25], [7, 18, 3], [17, 19, 10], k256⟩
def Sha.s512 : Sha := ⟨64, 80, [28, 34, 39], [14, 18, 41], [1, 8, 7], [19, 61, 6], k512⟩

def rotr (w n x : Nat) : Nat := (x / 2 ^ n) ||| ((x * 2 ^ (w - n)) % 2 ^ w)

def bigSigma (s : Sha) (r : List Nat) (x : Nat) : Nat :=
  rotr s.w (r.getD 0 0) x ^^^ rotr s.w (r.getD 1 0) x ^^^ rotr s.w (r.getD 2 0) x
def smallSigma (s : Sha) (r : List Nat) (x : Nat) : Nat :=
  rotr s.w (r.getD 0 0) x ^^^ rotr s.w (r.getD 1 0) x ^^^ (x / 2 ^ r.getD 2 0)

/-- The message schedule, newest word first. -/
def schedule (s : Sha) : Nat → List Nat → List Nat
  | 0, ws => ws
  | n + 1, ws =>
    let x := smallSigma s s.small1 (ws.getD 1 0) + ws.getD 6 0 + smallSigma s s.small0 (ws.getD 14 0) + ws.getD 15 0
    schedule s n (x % 2 ^ s.w :: ws)

/-- One round on the eight working words. -/
def shaRound (s : Sha) (h : List Nat) (kw : Nat × Nat) : List Nat :=
  match h with
  | [a, b, c, d, e, f, g, i] =>
    let m := 2 ^ s.w
    let ch := (e &&& f) ^^^ ((m - 1 - e) &&& g)
    let mj := (a &&& b) ^^^ (a &&& c) ^^^ (b &&& c)
    let t1 := i + bigSigma s s.big1 e + ch + kw.1 + kw.2
    let t2 := bigSigma s s.big0 a + mj
    [(t1 + t2) % m, a, b, c, (d + t1) % m, e, f, g]
  | _ => h

/-- A byte string cut into pieces of n bytes. -/
def pieces (n : Nat) : Nat → List Byte → List (List Byte)
  | 0, _ => []
  | k + 1, b => if b.isEmpty then [] else b.take n :: pieces n k (b.drop n)

def shaBlock (s : Sha) (ks : List Nat) (h : List Nat) (b : List Byte) : List Nat :=
  let ws := (schedule s (s.rounds - 16) (((pieces (s.w / 8) 16 b).map beNat).reverse)).reverse
  let h' := (ks.zip ws).foldl (shaRound s) h
  (h.zip h').map (fun p => (p.1 + p.2) % 2 ^ s.w)

/-- The padded message. -/
def shaPad (s : Sha) (b : List Byte) : List Byte :=
  let blk := 2 * s.w
  let len := s.w / 4
  let z := (blk - (b.length + 1 + len) % blk) % blk
  b ++ [0x80] ++ List.replicate z 0 ++ beBytes len (8 * b.length)

def shaRun (s : Sha) (init : List Nat) (b : List Byte) : List Byte :=
  let p := shaPad s b
  let h := (pieces (2 * s.w) (p.length / (2 * s.w)) p).foldl (shaBlock s s.k) init
  (h.map (beBytes (s.w / 8))).flatten

/-- SHA-256. -/
def sha256 (b : List Byte) : List Byte := shaRun Sha.s256 h256 b

/-- SHA-384. -/
def sha384 (b : List Byte) : List Byte := (shaRun Sha.s512 h384 b).take 48

/-- HMAC-SHA-256. -/
def hmac256 (key msg : List Byte) : List Byte :=
  let k := padTo 64 (if 64 < key.length then sha256 key else key)
  sha256 (k.map (· ^^^ 0x5C) ++ sha256 (k.map (· ^^^ 0x36) ++ msg))

/-! ## AES -/

/-- Multiplication by x, and of two elements, in the field of AES. -/
def gfX (a : Nat) : Nat := if a < 128 then 2 * a else (2 * a) ^^^ 0x11B
def gfMul : Nat → Nat → Nat → Nat
  | 0, _, _ => 0
  | n + 1, a, b => (if b % 2 = 1 then a else 0) ^^^ gfMul n (gfX a) (b / 2)
def gf (a b : Nat) : Nat := gfMul 8 a b

def gfPow (a : Nat) : Nat → Nat
  | 0 => 1
  | n + 1 => gf a (gfPow a n)

/-- The S-box and its inverse, byte x the value of x, byte 0 lowest. -/
def sboxBits : Nat :=
  0x16BB54B00F2D99416842E6BF0D89A18CDF2855CEE9871E9B948ED9691198F8E19E1DC186B95735610EF6034866B53E708A8BBD4B1F74DDE8C6B4A61C2E2578BA08AE7A65EAF4566CA94ED58D6D37C8E779E4959162ACD3C25C2406490A3A32E0DB0B5EDE14B8EE4688902A22DC4F816073195D643D7EA7C41744975FEC130CCDD2F3FF1021DAB6BCF5389D928F40A351A89F3C507F02F94585334D43FBAAEFD0CF584C4A39BECB6A5BB1FC20ED00D153842FE329B3D63B52A05A6E1B1A2C830975B227EBE28012079A059618C323C7041531D871F1E5A534CCF73F362693FDB7C072A49CAFA2D4ADF04759FA7DC982CA76ABD7FE2B670130C56F6BF27B777C63
def unsboxBits : Nat :=
  0x7D0C2155631469E126D677BA7E042B17619953833CBBEBC8B0F52AAE4D3BE0A0EF9CC9939F7AE52D0D4AB519A97F51605FEC8027591012B131C7078833A8DD1FF45ACD78FEC0DB9A2079D2C64B3E56FC1BBE18AA0E62B76F89C5291D711AF1476EDF751CE837F9E28535ADE72274AC9673E6B4F0CECFF297EADC674F4111913A6B8A130103BDAFC1020F3FCA8F1E2CD00645B3B80558E4F70AD3BC8C00ABD890849D8DA75746155EDAB9EDFD5048706C92B6655DCC5CA4D41698688664F6F87225D18B6D49A25B76B224D92866A12E084EC3FA420B954CEE3D23C2A632947B54CBE9DEC444438E3487FF2F9B8239E37CFBD7F3819EA340BF38A53630D56A0952
def aesSub (x : Nat) : Nat := sboxBits / 2 ^ (8 * x) % 256
def aesUnsub (x : Nat) : Nat := unsboxBits / 2 ^ (8 * x) % 256

/-- The four bytes of a word through the S-box. -/
def subWord (x : Nat) : Nat :=
  aesSub (x / 2 ^ 24 % 256) * 2 ^ 24 + aesSub (x / 2 ^ 16 % 256) * 2 ^ 16 + aesSub (x / 2 ^ 8 % 256) * 2 ^ 8 + aesSub (x % 256)

/-- The expanded key: 32-bit words, newest first. -/
def aesExpand (nk : Nat) : Nat → Nat → List Nat → List Nat
  | 0, _, ws => ws
  | n + 1, i, ws =>
    let t := ws.getD 0 0
    let t :=
      if i % nk = 0 then subWord (t * 2 ^ 8 % 2 ^ 32 + t / 2 ^ 24) ^^^ (gfPow 2 (i / nk - 1) * 2 ^ 24)
      else if 6 < nk ∧ i % nk = 4 then subWord t
      else t
    aesExpand nk n (i + 1) ((ws.getD (nk - 1) 0 ^^^ t) :: ws)

/-- Round keys, first round first. A key and a block are 128-bit numbers, their first byte the highest. -/
def aesKeys (key : List Byte) : List Nat :=
  let nk := key.length / 4
  let rounds := nk + 6
  let ws := (aesExpand nk (4 * (rounds + 1) - nk) nk ((pieces 4 nk key).map beNat).reverse).reverse
  (upTo (rounds + 1)).map (fun r => ((ws.drop (4 * r)).take 4).foldl (fun x v => x * 2 ^ 32 + v) 0)

/-- A mask repeated in each of the four columns. -/
def columns (m : Nat) : Nat := m * (1 + 2 ^ 32 + 2 ^ 64 + 2 ^ 96)

/-- Every byte of a block multiplied by x. -/
def x2 (s : Nat) : Nat := ((s &&& columns 0x7F7F7F7F) * 2) ^^^ ((s / 128 &&& columns 0x01010101) * 0x1B)

/-- Every column of a block moved up by one byte, by two. -/
def up1 (s : Nat) : Nat := (s * 2 ^ 8 &&& columns 0xFFFFFF00) + (s / 2 ^ 24 &&& columns 0xFF)
def up2 (s : Nat) : Nat := (s * 2 ^ 16 &&& columns 0xFFFF0000) + (s / 2 ^ 16 &&& columns 0xFFFF)

/-- MixColumns (2, 3, 1, 1), and its inverse. -/
def mixColumns (s : Nat) : Nat := let r := up1 s; x2 (s ^^^ r) ^^^ r ^^^ up2 (s ^^^ r)
def unmixColumns (s : Nat) : Nat := mixColumns (s ^^^ x2 (x2 (s ^^^ up2 s)))

/-- SubBytes with ShiftRows, and their inverse: byte i, from the highest, comes from byte i + 4 (i mod 4), i - 4 (i mod 4). -/
def subShift (s : Nat) : Nat :=
  (upTo 16).foldl (fun x i => x * 256 + aesSub (s / 2 ^ (8 * (15 - (i + 4 * (i % 4)) % 16)) % 256)) 0
def unsubShift (s : Nat) : Nat :=
  (upTo 16).foldl (fun x i => x * 256 + aesUnsub (s / 2 ^ (8 * (15 - (i + 16 - 4 * (i % 4)) % 16)) % 256)) 0

/-- One block encrypted, with the round keys. -/
def aesEnc (ks : List Nat) (b : List Byte) : List Byte :=
  match ks with
  | [] => b
  | k0 :: t =>
    let s := (t.dropLast).foldl (fun s k => mixColumns (subShift s) ^^^ k) (beNat b ^^^ k0)
    beBytes 16 (subShift s ^^^ t.getLastD 0)

/-- One block decrypted. -/
def aesDec (ks : List Nat) (b : List Byte) : List Byte :=
  match ks.reverse with
  | [] => b
  | k0 :: t =>
    let s := (t.dropLast).foldl (fun s k => unmixColumns (unsubShift s ^^^ k)) (beNat b ^^^ k0)
    beBytes 16 (unsubShift s ^^^ t.getLastD 0)

/-! ## Key wrap with padding (RFC 5649) -/

/-- One step of the wrap: A with the registers, R[i] at the front. -/
def wrapStep (ks : List Nat) (st : List Byte × List (List Byte)) (t : Nat) : List Byte × List (List Byte) :=
  match st.2 with
  | r :: rest =>
    let b := aesEnc ks (st.1 ++ r)
    (beBytes 8 (beNat (b.take 8) ^^^ t), rest ++ [b.drop 8])
  | [] => st

def unwrapStep (ks : List Nat) (st : List Byte × List (List Byte)) (t : Nat) : List Byte × List (List Byte) :=
  match st.2.getLast? with
  | some r =>
    let b := aesDec ks (beBytes 8 (beNat st.1 ^^^ t) ++ r)
    (b.take 8, b.drop 8 :: st.2.dropLast)
  | none => st

/-- The wrapped form of a byte string under a 256-bit key. -/
def kwp (key data : List Byte) : List Byte :=
  let ks := aesKeys key
  let n := ceilDiv data.length 8
  let aiv := beBytes 4 0xA65959A6 ++ beBytes 4 data.length
  let p := padTo (8 * n) data
  if n = 1 then aesEnc ks (aiv ++ p)
  else
    let (a, rs) := ((upTo (6 * n)).map (· + 1)).foldl (wrapStep ks) (aiv, pieces 8 n p)
    a ++ rs.flatten

/-- A wrapped string opened; none where its integrity fails. -/
def kwpOpen (key data : List Byte) : Option (List Byte) :=
  let ks := aesKeys key
  let n := data.length / 8 - 1
  let (a, p) :=
    if n = 1 then let b := aesDec ks data; (b.take 8, b.drop 8)
    else
      let (a, rs) := (((upTo (6 * n)).map (· + 1)).reverse).foldl (unwrapStep ks) (data.take 8, pieces 8 n (data.drop 8))
      (a, rs.flatten)
  let len := beNat (a.drop 4)
  if data.length % 8 = 0 ∧ 16 ≤ data.length ∧ beNat (a.take 4) = 0xA65959A6 ∧ len ≤ 8 * n ∧ 8 * (n - 1) < len
      ∧ allZero (p.drop len) then
    some (p.take len)
  else none

/-! ## Counter modes -/

def xorB (a b : List Byte) : List Byte := (a.zip b).map (fun p => p.1 ^^^ p.2)

/-- Blocks of key stream from a counter block's first bytes, `n` bytes of counter starting at `c`. -/
def keyStream (ks : List Nat) (pre : List Byte) (n c blocks : Nat) : List Byte :=
  ((upTo blocks).map (fun i => aesEnc ks (pre ++ beBytes n (c + i)))).flatten

def ctrMode (ks : List Nat) (pre : List Byte) (n c : Nat) (data : List Byte) : List Byte :=
  xorB data (keyStream ks pre n c (ceilDiv data.length 16))

/-- The GHASH product: bit 0 is the leftmost. -/
def ghMul : Nat → Nat → Nat → Nat → Nat
  | 0, _, _, z => z
  | n + 1, x, v, z =>
    let z := if x / 2 ^ n % 2 = 1 then z ^^^ v else z
    ghMul n x (if v % 2 = 1 then (v / 2) ^^^ (0xE1 * 2 ^ 120) else v / 2) z

def ghash (h : Nat) (b : List Byte) : Nat :=
  (pieces 16 (ceilDiv b.length 16) b).foldl (fun y p => ghMul 128 (y ^^^ beNat (padTo 16 p)) h 0) 0

def pad16 (b : List Byte) : List Byte := padTo (16 * ceilDiv b.length 16) b

/-- The GCM tag over cipher text, with a 12-byte IV. -/
def gcmTag (ks : List Nat) (iv aad c : List Byte) : List Byte :=
  let h := beNat (aesEnc ks (List.replicate 16 0))
  let s := ghash h (pad16 aad ++ pad16 c ++ beBytes 8 (8 * aad.length) ++ beBytes 8 (8 * c.length))
  xorB (beBytes 16 s) (aesEnc ks (iv ++ beBytes 4 1))

def gcmCrypt (ks : List Nat) (iv data : List Byte) : List Byte := ctrMode ks iv 4 2 data

/-- CCM* with a 13-byte nonce and a tag of m bytes (0 allowed): the tag and the encryption. -/
def ccmTag (ks : List Nat) (m : Nat) (nonce aad msg : List Byte) : List Byte :=
  let flags := (if aad.isEmpty then 0 else 0x40) + (if m = 0 then 0 else 8 * ((m - 2) / 2)) + 1
  let b0 := leBytes 1 flags ++ nonce ++ beBytes 2 msg.length
  let a := if aad.isEmpty then [] else pad16 (beBytes 2 aad.length ++ aad)
  let all := b0 ++ a ++ pad16 msg
  let x := (pieces 16 (all.length / 16) all).foldl (fun x p => aesEnc ks (xorB x p)) (List.replicate 16 0)
  xorB (x.take m) (aesEnc ks ([1] ++ nonce ++ [0, 0]))

def ccmCrypt (ks : List Nat) (nonce data : List Byte) : List Byte := ctrMode ks ([1] ++ nonce) 2 1 data

/-! ## ECDSA on P-384 -/

def p384 : Nat := 2 ^ 384 - 2 ^ 128 - 2 ^ 96 + 2 ^ 32 - 1
def n384 : Nat := 0xFFFFFFFFFFFFFFFFFFFFFFFFFFFFFFFFFFFFFFFFFFFFFFFFC7634D81F4372DDF581A0DB248B0A77AECEC196ACCC52973
def b384 : Nat := 0xB3312FA7E23EE7E4988E056BE3F82D19181D9C6EFE8141120314088F5013875AC656398D8A2ED19D2A85C8EDD3EC2AEF
def gx384 : Nat := 0xAA87CA22BE8B05378EB1C71EF320AD746E1D3B628BA79B9859F741E082542A385502F25DBF55296C3A545E3872760AB7
def gy384 : Nat := 0x3617DE4A96262C6F5D9E98BF9292DC29F8F41DBD289A147CE9DA3113B5F0B8C00A60B1CE1D7E819D7A431D7C90EA0E5F

/-- The inverse of a modulo a prime m by Euclid's algorithm: r0 and r1 with their factors t0 and t1. -/
def invGo (m : Nat) : Nat → Nat → Nat → Nat → Nat → Nat
  | 0, _, _, t0, _ => t0
  | k + 1, r0, r1, t0, t1 =>
    if r1 = 0 then t0 else invGo m k r1 (r0 % r1) t1 ((t0 + (m - r0 / r1 % m) * t1) % m)

def invMod (m a : Nat) : Nat := invGo m 768 m (a % m) 0 1

/-- Differences modulo p. -/
def subP (a b : Nat) : Nat := (a + p384 - b % p384) % p384

/-- A point as (X, Y, Z): x is X / Z², y is Y / Z³, and Z = 0 at infinity. -/
structure Pt where
  x : Nat
  y : Nat
  z : Nat

def ptInf : Pt := ⟨1, 1, 0⟩

def ptDouble (a : Pt) : Pt :=
  let zz := a.z * a.z % p384
  let yy := a.y * a.y % p384
  let m := 3 * subP a.x zz * (a.x + zz) % p384
  let s := 4 * a.x * yy % p384
  let x := subP (m * m) (2 * s)
  ⟨x, subP (m * subP s x) (8 * yy * yy), 2 * a.y * a.z % p384⟩

def ptAdd (a b : Pt) : Pt :=
  if a.z = 0 then b
  else if b.z = 0 then a
  else
    let za := a.z * a.z % p384
    let zb := b.z * b.z % p384
    let u := a.x * zb % p384
    let h := subP (b.x * za) u
    let s := a.y * (zb * b.z % p384) % p384
    let r := subP (b.y * (za * a.z % p384)) s
    if h = 0 then (if r = 0 then ptDouble a else ptInf)
    else
      let hh := h * h % p384
      let v := u * hh % p384
      let c := h * hh % p384
      let x := subP (r * r) (c + 2 * v)
      ⟨x, subP (r * subP v x) (s * c), a.z * b.z * h % p384⟩

/-- The multiple e of a point, over k bits of e from the least. -/
def ptMul : Nat → Nat → Pt → Pt
  | 0, _, _ => ptInf
  | k + 1, e, a =>
    let h := ptMul k (e / 2) (ptDouble a)
    if e % 2 = 1 then ptAdd a h else h

/-- A point's x; none at infinity. -/
def ptX (a : Pt) : Option Nat :=
  if a.z = 0 then none
  else
    let i := invMod p384 a.z
    some (a.x * (i * i % p384) % p384)

/-- A public key in uncompressed form (97 bytes) read; none where it is no point of the curve. -/
def pubKey (b : List Byte) : Option (Nat × Nat) :=
  let x := be b 1 48
  let y := be b 49 48
  if b.length = 97 ∧ be b 0 1 = 4 ∧ x < p384 ∧ y < p384
      ∧ y * y % p384 = (x * x * x + (p384 - 3) * x + b384) % p384 then some (x, y) else none

/-- Whether (r, s), big-endian, is a signature of a SHA-384 digest under a public key. -/
def ecdsaOk (key digest sig : List Byte) : Bool :=
  match pubKey key with
  | none => false
  | some q =>
    let r := be sig 0 48
    let s := be sig 48 48
    if sig.length ≠ 96 ∨ r = 0 ∨ n384 ≤ r ∨ s = 0 ∨ n384 ≤ s then false
    else
      let w := invMod n384 s
      let u1 := beNat digest * w % n384
      let u2 := r * w % n384
      match ptX (ptAdd (ptMul 384 u1 ⟨gx384, gy384, 1⟩) (ptMul 384 u2 ⟨q.1, q.2, 1⟩)) with
      | some x => x % n384 == r
      | none => false

end Sys2Proof.Machine
end

