-- ==== Sys2Proof/Machine/KeyOps.lean ====
section
/-! DEFINITION. The Locksmith: slots, blobs, key-encryption keys, grants and zeroisation (R361 to R381). -/

namespace Sys2Proof

/-- Byte k of the root rebuilt from the silicon (R361). -/
opaque Config.rootByte : Nat → Byte
/-- Byte k of the boot ROM's SHA-384 digest (R362). -/
opaque Config.bootDigest : Nat → Byte
/-- A byte of the random-number generator (R374). -/
opaque Config.random : Nat → Byte

end Sys2Proof

namespace Sys2Proof.Machine

/-! ## Policy headers (R368) -/

def kType (h : List Byte) : Nat := le h 5 1
def kKek (h : List Byte) : Nat := le h 6 1
def kFlag (h : List Byte) (n : Nat) : Bool := tst (le h 7 1) n
def kUses (h : List Byte) : Nat := le h 8 4
def kState (h : List Byte) : Nat := le h 12 1
def kLen (h : List Byte) : Nat := le h 14 2
def kId (h : List Byte) : Nat := le h 16 8
def kNotAfter (h : List Byte) : Nat := le h 24 6
def kWrapped (h : List Byte) : Nat := le h 32 2

/-- Key length by type; 0 for no type. -/
def typeLen (t : Nat) : Nat := if t = 1 then 16 else if t = 2 then 32 else if t = 3 then 32 else if t = 4 then 97 else 0

/-- Use bits that fit a key type. -/
def typeUses (t : Nat) : Nat :=
  if t = 1 then 0x001 else if t = 2 then 0x0A0 else if t = 3 then 0x046 else if t = 4 then 0x118 else 0

/-- Step 2 of R369: the header agrees with R368. -/
def headerOk (h : List Byte) : Bool :=
  le h 0 4 == 0x59454B5A && le h 4 1 == 1 && typeLen (kType h) != 0 && kLen h == typeLen (kType h)
    && kWrapped h == 8 + 8 * ceilDiv (48 + kLen h) 8 && decide (le h 7 1 < 16) && le h 13 1 == 0 && le h 30 2 == 0
    && allZero (cut h 34 14)

/-- Step 3 of R369: bound to a state, with uses that fit. -/
def policyOk (h : List Byte) (state : Nat) : Bool :=
  kState h == state && (kUses h &&& typeUses (kType h)) == kUses h

/-- Uses of a slot: those of its header, or those its anchor's kind allows (DEDUCED for anchors). -/
def KeySlot.uses (s : KeySlot) : Nat :=
  if s.state = 1 then kUses s.header
  else if s.state = 3 then (if s.kind = 1 then 0x008 else if s.kind = 2 then 0x010 else if s.kind = 4 then 0x100 else 0)
  else 0

def KeySlot.empty : KeySlot := ⟨0, 0, [], []⟩

namespace W

def slotAt (w : W) (n : Nat) : KeySlot := (tblGet w.key.slots n).getD KeySlot.empty

/-- A slot's registers brought up to date. -/
def showSlot (w : W) (n : Nat) : W :=
  let s := w.slotAt n
  let w := (w.set (KEY_SLOT_INFO_state n) s.state).set (KEY_SLOT_INFO_key_type n) (if s.state = 1 then kType s.header else 0)
  let w := w.set (KEY_SLOT_INFO_flags n) (if s.state = 1 then le s.header 7 1 else 0)
  let w := w.setB (KEY_SLOT_INFO_used n) (s.state == 1 && w.key.used.contains (kId s.header))
  let w := w.set (KEY_SLOT_USES_v n) s.uses
  let id := if s.state = 1 then kId s.header else 0
  (w.set (KEY_SLOT_ID_LO_v n) (id % 2 ^ 32)).set (KEY_SLOT_ID_HI_v n) (id / 2 ^ 32)

def setSlot (w : W) (n : Nat) (s : KeySlot) : W :=
  ({ w with key := { w.key with slots := if s.state = 0 then tblDel n w.key.slots else tblPut n s w.key.slots } } : W).showSlot n

/-- KEY_STATUS brought up to date. -/
def showKey (w : W) : W :=
  let w := (w.set KEY_STATUS_lc_state w.key.lc).setB KEY_STATUS_root_ok w.key.root.isSome
  let w := w.setB KEY_STATUS_tamper_latched (w.get KEY_TAMPER_STAT_latched != 0)
  let w := w.set KEY_STATUS_grant (match w.key.grant with | some g => g.1 | none => 0)
  w.set KEY_STATUS_used w.key.used.length

/-- The key a block gets from a slot: only where the slot's uses permit it (R366). -/
def keyFor (w : W) (slot use : Nat) : Option (List Byte) :=
  let s := w.slotAt slot
  if (s.state = 1 ∨ s.state = 3) ∧ tst s.uses use then some s.key else none

/-- The tamper latch. -/
def tampered (w : W) : Bool := w.get KEY_TAMPER_STAT_latched != 0

/-! ## The chain and the key-encryption key (R362, R363) -/

/-- The chain of a list of stage digests. -/
def chainOf (ds : List (List Byte)) : List Byte := ds.foldl (fun c d => sha384 (c ++ d)) (List.replicate 48 0)

/-- The device KEK for a state and a chain. -/
def kekOf (root chain : List Byte) (state : Nat) : List Byte :=
  let label : List Byte := [0x5A, 0x53, 0x43, 0x38, 0x20, 0x4B, 0x45, 0x4B]
  hmac256 root ([0, 0, 0, 1] ++ label ++ [0] ++ chain ++ leBytes 1 state ++ [0, 0, 1, 0])

/-- The wrapping key a header names, for a state and a chain; none where there is none. -/
def kekFor (w : W) (h : List Byte) (state : Nat) (chain : List Byte) : Option (List Byte) :=
  if kKek h = 0xFF then
    w.key.root.map (fun r => kekOf r (if kFlag h 0 then chain else List.replicate 48 0) state)
  else if kKek h < 56 then w.keyFor (kKek h) 5
  else none

/-- Words of an array of registers from bytes, byte 4 k in bits 7:0. -/
def setWords (w : W) (f : Nat → Fld) (b : List Byte) : W :=
  (upTo (b.length / 4)).foldl (fun (w : W) k => w.set (f k) (le b (4 * k) 4)) w

def showChain (w : W) : W := w.setWords KEY_MEAS_v (chainOf w.key.digests)

/-! ## Commands -/

def keySrc (w : W) : Nat := w.get KEY_SRC_LO_v + 2 ^ 32 * w.get KEY_SRC_HI_v
def keyDst (w : W) : Nat := w.get KEY_DST_LO_v + 2 ^ 32 * w.get KEY_DST_HI_v

/-- A command done with a result of R379. -/
def keyDone (w : W) (result : Nat) : W :=
  (((w.set KEY_CMD_STATUS_busy 0).set KEY_CMD_STATUS_done 1).set KEY_CMD_STATUS_result result).tally 0xB8

/-- Bytes written to the destination, their number in KEY_DST_LEN. -/
def keyOut (w : W) (b : List Byte) : W := (w.wrBytes w.keyDst b).set KEY_DST_LEN_v b.length

/-- A command refused in DECOMMISSIONED (R364). -/
def keyCmd (w : W) (f : W → W) : W := if w.key.lc = 4 then w.keyDone 0x01 else f w

/-- A command that only machine mode may give (R370). -/
def keyPriv (w : W) (machine : Bool) (f : W → W) : W := if machine then w.keyCmd f else w.keyDone 0x0E

/-- Steps 7 and 8 of R369, and the slot filled. -/
def fillKey (w : W) (slot : Nat) (h key : List Byte) : W :=
  if kNotAfter h ≠ 0 ∧ kNotAfter h < w.sec then w.keyDone 0x10
  else if kFlag h 2 ∧ !w.key.used.contains (kId h) ∧ 4096 ≤ w.key.used.length then w.keyDone 0x0A
  else (w.setSlot slot ⟨1, 0, h, key⟩).keyDone 0

/-- Steps 2 to 6 of R369 on a blob: its header and key, or a result. While the latch is set, which leaves no root either, the
result is TAMPER (R376). -/
def openBlob (w : W) (b : List Byte) : Except Nat (List Byte × List Byte) :=
  let h := b.take 48
  if !headerOk h then .error 0x04
  else if !policyOk h w.key.lc then .error 0x06
  else if w.tampered then .error 0x07
  else if w.key.root.isNone then .error 0x0D
  else match w.kekFor h w.key.lc (chainOf w.key.digests) with
    | none => .error 0x06
    | some k =>
      match kwpOpen k (b.drop 48) with
      | some p => if p.take 48 = h ∧ p.length = 48 + kLen h then .ok (h, p.drop 48) else .error 0x05
      | none => .error 0x05

/-- A blob of a header and a key under a wrapping key. -/
def blobOf (kek h key : List Byte) : List Byte := h ++ kwp kek (h ++ key)

/-- LOAD (R369). -/
def keyLoad (w : W) (slot : Nat) : W :=
  let len := w.get KEY_SRC_LEN_v
  if 56 ≤ slot then w.keyDone 0x02
  else if !inRam w.keySrc (max 48 len) || w.keySrc % 8 != 0 || decide (len < 48) || decide (4096 < len) then w.keyDone 0x03
  else
    let b := w.rdBytes w.keySrc len
    if len ≠ 48 + kWrapped b then w.keyDone 0x03
    else match w.openBlob b with
      | .error r => w.keyDone r
      | .ok (h, k) => w.fillKey slot h k

/-- IMPORT of a key for a target state (R370). -/
def keyImport (w : W) (slot target : Nat) : W :=
  let len := w.get KEY_SRC_LEN_v
  let src := w.keySrc
  let lc := w.key.lc
  if !(target = lc ∨ (target = 2 ∧ (lc = 1 ∨ lc = 3))) then w.keyDone 0x01
  else if decide (src < 0x10000000) || decide (0x12800000 < src + len) || decide (len < 48) then w.keyDone 0x03
  else
    let b := w.rdBytes src (min len 256)
    let h := b.take 48
    if len ≠ 48 + kLen h then w.keyDone 0x03
    else if !headerOk h then w.keyDone 0x04
    else if !policyOk h target then w.keyDone 0x06
    else if w.tampered then w.keyDone 0x07
    else if kKek h = 0xFF ∧ w.key.root.isNone then w.keyDone 0x0D
    else match w.kekFor h target (chainOf w.key.digests) with
      | none => w.keyDone 0x06
      | some k =>
        let blob := blobOf k h (b.drop 48)
        if !inRam w.keyDst blob.length then w.keyDone 0x03
        else
          let w := (w.keyOut blob).wrBytes (src + 48) (List.replicate (kLen h) 0)
          if slot < 56 ∧ target = lc then
            (if w.key.root.isNone then w.keyDone 0x0D else w.fillKey slot h (b.drop 48))
          else w.keyDone 0

/-- EXPORT of a slot's key under another KEK (R371). -/
def keyExport (w : W) (slot aux : Nat) : W :=
  let s := w.slotAt slot
  if w.tampered then w.keyDone 0x07
  else if 56 ≤ slot ∨ s.state ≠ 1 then w.keyDone 0x02
  else if !kFlag s.header 1 then w.keyDone 0x06
  else if aux = 0xFF ∧ w.key.root.isNone then w.keyDone 0x0D
  else
    let h := s.header.take 6 ++ leBytes 1 aux ++ s.header.drop 7
    match w.kekFor h w.key.lc (chainOf w.key.digests) with
    | none => w.keyDone 0x06
    | some k =>
      let blob := blobOf k h s.key
      if !inRam w.keyDst blob.length then w.keyDone 0x03 else (w.keyOut blob).keyDone 0

/-- PAT_MEASURE's bytes. -/
def patMeasure (w : W) : List Byte := ((upTo 12).map (fun k => leBytes 4 (w.get (PAT_MEASURE_v k)))).flatten

/-- The stage digests that will stand at the next start, by the stage that changes (R371). -/
def nextDigests (w : W) (aux : Nat) : Option (List (List Byte)) :=
  match w.key.digests with
  | [b, f, p] =>
    if aux = 0 then (if w.get PAT_STATUS_state = 5 then some [b, f, w.patMeasure] else none)
    else if aux = 1 then w.key.staged.map (fun d => [b, d, p])
    else none
  | _ => none

/-- REWRAP_NEXT (R371). -/
def keyRewrap (w : W) (aux : Nat) : W :=
  let len := w.get KEY_SRC_LEN_v
  if !inRam w.keySrc (max 48 len) || w.keySrc % 8 != 0 || decide (len < 48) || decide (4096 < len) then w.keyDone 0x03
  else
    let b := w.rdBytes w.keySrc len
    if len ≠ 48 + kWrapped b then w.keyDone 0x03
    else match w.openBlob b with
      | .error r => w.keyDone r
      | .ok (h, k) =>
        if !kFlag h 0 then w.keyDone 0x06
        else match w.nextDigests aux with
          | none => w.keyDone 0x0B
          | some ds =>
            let c := chainOf ds
            let w := w.setWords KEY_NEXT_v c
            match w.kekFor h w.key.lc c with
            | none => w.keyDone 0x06
            | some kek =>
              let blob := blobOf kek h k
              if !inRam w.keyDst blob.length then w.keyDone 0x03 else (w.keyOut blob).keyDone 0

/-! ## Grants (R374) -/

def setGrant (w : W) (g : Option (Nat × Nat × Nat)) : W := ({ w with key := { w.key with grant := g } } : W).showKey

/-- Whether a grant of an op stands; with an argument that must match. -/
def granted (w : W) (op : Nat) (arg : Option Nat) : Bool :=
  match w.key.grant with
  | some (o, a, t) => o == op && (match arg with | some x => x == a | none => true) && decide (w.tb.up < t + 300000000000)
  | none => false

/-- CHALLENGE: a fresh nonce; the grant lapses. -/
def keyChallenge (w : W) : W :=
  let n := (upTo 32).map (fun k => Config.random (w.free + k))
  let w := (upTo 32).foldl (fun (w : W) _ => w.draw) w
  let w : W := { w with key := { w.key with nonce := some (n, w.tb.up, false) } }
  ((w.setWords KEY_NONCE_v n).setGrant none).keyDone 0

/-- The UID, as KEY_UID reads. -/
def uidBytes (w : W) : List Byte := ((upTo 4).map (fun k => leBytes 4 (w.get (KEY_UID_v k)))).flatten

/-- AUTHORISE: the token at KEY_SRC verified under each authority anchor. -/
def keyAuthorise (w : W) : W :=
  let src := w.keySrc
  if !inRam src 160 then w.keyDone 0x03
  else
    let b := w.rdBytes src 160
    let fresh := match w.key.nonce with
      | some (n, t, used) => n == cut b 24 32 && !used && decide (w.tb.up ≤ t + 600000000000)
      | none => false
    let body := le b 0 4 == 0x41544B5A && le b 4 1 == 1 && decide (1 ≤ le b 5 1) && decide (le b 5 1 ≤ 5)
      && cut b 8 16 == w.uidBytes && allZero (cut b 56 8)
    let digest := sha384 (b.take 64)
    let signed := (upTo 8).any (fun i =>
      let s := w.slotAt (56 + i)
      s.state == 3 && s.kind == 3 && ecdsaOk s.key digest (b.drop 64))
    if fresh && body && signed then
      let w : W := { w with key := { w.key with nonce := w.key.nonce.map (fun n => (n.1, n.2.1, true)) } }
      (w.setGrant (some (le b 5 1, le b 6 2, w.tb.up))).keyDone 0
    else (w.evRec KEY_EVENT_auth_fail 0).keyDone 0x08

/-! ## Zeroisation (R365, R376) -/

/-- Working slots emptied: state 2 where tamper did it and a key was there. -/
def clearSlots (w : W) (tamper : Bool) : W :=
  (upTo 56).foldl (fun (w : W) n =>
    let s := w.slotAt n
    if s.state = 0 then w else w.setSlot n ⟨if tamper then 2 else 0, 0, [], []⟩) w

/-- Root, KEK and working slots zeroised after the latch sets (R376). -/
def zeroise (w : W) : W :=
  (({ w with key := { w.key with root := none } } : W).clearSlots true).showKey

/-! ## Life cycle (R364, R365) -/

/-- The 256-bit root that the silicon and its helper data give (R361). -/
def rootBytes : List Byte := (upTo 32).map Config.rootByte

/-- A change of state carried out (R365). -/
def lcTo (w : W) (target : Nat) : W :=
  let old := w.key.lc
  let w := w.clearSlots false
  let w : W := { w with key := { w.key with lc := target, grant := none }, lnv := { w.lnv with inject := none } }
  let w : W := if target = 1 then { w with key := { w.key with helper := true, root := some rootBytes } } else w
  let w : W :=
    if target = 4 then
      let w : W := { w with key := { w.key with root := none, helper := false, anchors := [], used := [] } }
      (upTo 8).foldl (fun (w : W) i => w.setSlot (56 + i) KeySlot.empty) w
    else w
  let w := (w.showKey).ev KEY_EVENT_lc_change 0
  (w.record 0x021 0x13 old target 0 0).keyDone 0

/-- LC_CHANGE (R364). -/
def lcChange (w : W) (target : Nat) : W :=
  let lc := w.key.lc
  if w.tampered ∧ target ≠ 4 then w.keyDone 0x07
  else if lc = 0 ∧ target = 1 then w.lcTo 1
  else if lc = 1 ∧ target = 2 then
    let has (k : Nat) : Bool := w.key.anchors.any (fun a => le a.2 0 1 == k)
    if has 3 && has 1 then w.lcTo 2 else w.keyDone 0x01
  else if lc = 2 ∧ target = 3 then (if w.granted 2 none then w.lcTo 3 else w.keyDone 0x09)
  else if lc = 3 ∧ target = 2 then w.lcTo 2
  else if lc < 2 ∧ target = 4 then w.lcTo 4
  else if (lc = 2 ∨ lc = 3) ∧ target = 4 then (if w.granted 3 none then w.lcTo 4 else w.keyDone 0x09)
  else w.keyDone 0x01

/-- ANCHOR_WRITE (R367). -/
def anchorWrite (w : W) (i : Nat) : W :=
  let lc := w.key.lc
  let store (w : W) : W :=
    if !inRam w.keySrc 112 then w.keyDone 0x03
    else ({ w with key := { w.key with anchors := tblPut i (w.rdBytes w.keySrc 112) w.key.anchors } } : W).keyDone 0
  if lc = 1 then store w
  else if lc = 2 ∨ lc = 3 then
    if w.granted 4 (some i) then store (w.setGrant none) else w.keyDone 0x09
  else w.keyDone 0x01

/-! ## Operations for the lanes (R373) -/

/-- A slot's key for the lanes with a use: result SLOT or POLICY where there is none. -/
def laneKey (w : W) (slot use : Nat) : Except Nat (List Byte) :=
  let s := w.slotAt slot
  if w.tampered then .error 0x07
  else if s.state ≠ 1 ∧ s.state ≠ 3 then .error 0x02
  else if !tst s.uses use then .error 0x06
  else .ok s.key

def opHmac (w : W) (slot : Nat) : W :=
  match w.laneKey slot 6 with
  | .error r => w.keyDone r
  | .ok k =>
    let n := w.get KEY_SRC_LEN_v
    if n = 0 ∨ 65536 < n ∨ !inRam w.keySrc n ∨ !inRam w.keyDst 32 then w.keyDone 0x03
    else (w.keyOut (hmac256 k (w.rdBytes w.keySrc n))).keyDone 0

/-- The source of a GCM operation: IV, additional data, the rest. -/
def gcmParts (w : W) : Option (List Byte × List Byte × List Byte) :=
  let n := w.get KEY_SRC_LEN_v
  if n < 16 ∨ 65536 < n ∨ !inRam w.keySrc n then none
  else
    let b := w.rdBytes w.keySrc n
    let a := le b 12 4
    if n < 16 + a then none else some (b.take 12, cut b 16 a, b.drop (16 + a))

def opGcmEnc (w : W) (slot : Nat) : W :=
  match w.laneKey slot 7 with
  | .error r => w.keyDone r
  | .ok k =>
    match w.gcmParts with
    | none => w.keyDone 0x03
    | some (iv, aad, d) =>
      if !inRam w.keyDst (d.length + 16) then w.keyDone 0x03
      else
        let ks := aesKeys k
        let c := gcmCrypt ks iv d
        (w.keyOut (c ++ gcmTag ks iv aad c)).keyDone 0

def opGcmDec (w : W) (slot : Nat) : W :=
  match w.laneKey slot 7 with
  | .error r => w.keyDone r
  | .ok k =>
    match w.gcmParts with
    | none => w.keyDone 0x03
    | some (iv, aad, d) =>
      if d.length < 16 ∨ !inRam w.keyDst (d.length - 16) then w.keyDone 0x03
      else
        let ks := aesKeys k
        let c := d.take (d.length - 16)
        if gcmTag ks iv aad c = d.drop (d.length - 16) then (w.keyOut (gcmCrypt ks iv c)).keyDone 0
        else w.keyDone 0x11

def opVerify (w : W) (slot : Nat) : W :=
  match w.laneKey slot 8 with
  | .error r => w.keyDone r
  | .ok k =>
    if w.get KEY_SRC_LEN_v ≠ 144 ∨ !inRam w.keySrc 144 then w.keyDone 0x03
    else
      let b := w.rdBytes w.keySrc 144
      w.keyDone (if ecdsaOk k (b.take 48) (b.drop 48) then 0 else 0x11)

/-! ## The used-key register (R372) -/

/-- A counter-bound key's first use as a transmit key enters its key_id. -/
def useKey (w : W) (slot : Nat) : W :=
  let s := w.slotAt slot
  if s.state = 1 ∧ kFlag s.header 2 ∧ !w.key.used.contains (kId s.header) ∧ w.key.used.length < 4096 then
    let w : W := { w with key := { w.key with used := w.key.used ++ [kId s.header] } }
    let w := (w.showKey).showSlot slot
    if 3840 < w.key.used.length then w.ev KEY_EVENT_used_warn 0 else w
  else w

end W

end Sys2Proof.Machine
end

