-- ==== Sys2Proof/Machine/TbOps.lean ====
section
/-! DEFINITION. The timebase's shared operations: sources, the servo's states, the PTP master, stamps, captures (R62 to R76). -/

namespace Sys2Proof

/-- The frequency term the servo sets at its n-th sample, 2^-32 ns per edge: the manual states its limit (±200 ppm, R68)
and not its law. -/
opaque Config.servoFreq : Nat → Int

/-- The frequency term that REF10M_IN sets (R62): the reference's rate against CLK_TB, 2^-32 ns per edge. -/
opaque Config.refFreq : Nat → Int

end Sys2Proof

namespace Sys2Proof.Machine.W

/-! ## The RTC's ticks (R348, R353, R354) -/

def setRtc (w : W) (x : RtcState) : W := { w with rtc := x }

def rtcCal (w : W) : Int := max (-511) (sgn 10 (w.get RTC_CAL_cal))

/-- Ticks of the nominal crystal up to an up-time, since the sub-second field was last known. -/
def rtcTicks (w : W) (up : Nat) : Nat := if w.rtc.stopped then 0 else (up - w.rtc.subUp) * 32768 / 1000000000

/-- The sub-second field at an up-time: slewing adds or drops a tick in every 1,024, and RTC_CAL its ticks in every 2^20,
spread evenly (DESIGN CHOICE: which ticks is not stated). -/
def rtcSubAt (w : W) (up : Nat) : Nat :=
  let n := w.rtcTicks up
  let cal := w.rtcCal * ((w.rtc.raw + n : Nat) : Int) / 2 ^ 20 - w.rtcCal * (w.rtc.raw : Int) / 2 ^ 20
  min 32767 (((w.rtc.sub + n : Nat) : Int) + w.rtc.slew * ((n / 1024 : Nat) : Int) + cal).toNat

/-- The sub-second field now. -/
def rtcSub (w : W) : Nat := w.rtcSubAt w.tb.up

/-- The ticks counted so far taken in, before the rate changes. -/
def rtcMark (w : W) : W :=
  w.setRtc { w.rtc with sub := w.rtcSub, subUp := w.tb.up, raw := (w.rtc.raw + w.rtcTicks w.tb.up) % 2 ^ 20 }

/-- Discipline ends: a slew ends with it (R353, R360). -/
def rtcFree (w : W) : W :=
  let w := if w.rtc.slew = 0 then w else w.rtcMark
  ((w.set RTC_STATUS_disciplined 0).set RTC_STATUS_slewing 0).setRtc { w.rtc with slew := 0, net := 0, run := 0 }

/-- Registers of the estimate brought up to date (TBS_ERR_EST, TBS_QUALITY). -/
def showQuality (w : W) : W :=
  let q := w.tqBasis
  let same : Bool := match w.tb.quals with
    | p :: _ => p.locked == q.locked && p.est == q.est && p.grows == q.grows && decide (p.ns ≤ q.ns)
    | [] => false
  let w : W := if same then w else { w with tb := { w.tb with quals := (q :: w.tb.quals).take 256 } }
  let w := w.set TBS_ERR_EST_v (match w.estimate with | some e => min e 0xFFFFFFFF | none => 0xFFFFFFFF)
  ((w.set TBS_QUALITY_tq_code w.tqCode).set TBS_QUALITY_stat_tq w.statTq).setB TBS_QUALITY_unsync w.unsync

/-- Servo states: 0 FREE, 1 ACQUIRING, 2 LOCKED, 3 HOLDOVER. -/
def servo (w : W) : Nat := w.get TBS_STATUS_servo_state

/-- The servo's state changed: events of entering and leaving (TBS_EVENT), counts cleared. -/
def setServo (w : W) (st : Nat) : W :=
  let old := w.servo
  let w := w.set TBS_STATUS_servo_state st
  let w : W := { w with tb := { w.tb with good := 0, bad := 0 } }
  let w := if old = 2 ∧ st ≠ 2 then (w.evRec TBS_EVENT_unlocked 0).rtcFree else w
  let w : W := if st = 2 then
      let w : W := { w with tb := { w.tb with everLocked := true } }
      w.evRec TBS_EVENT_locked 0
    else w
  if st = 3 ∧ old ≠ 3 then w.evRec TBS_EVENT_holdover 0 else w

/-- The estimate at the last good sample kept for holdover (R70): every sample the servo takes counts as good (DESIGN
CHOICE). -/
def keepE0 (w : W) : W := { w with tb := { w.tb with e0 := w.estimate, lastGood := w.tb.up } }

/-- A frequency term set, within ±200 ppm of 4 ns (R68). -/
def setFreq (w : W) (f : Int) : W := { w with tb := { w.tb with freq := clip (-3435973) 3435973 f } }

/-- The source fields of TBS_STATUS brought up to date, a change recorded (SOURCE_CHANGE, R404). REF10M_IN that comes into
use sets the frequency (R62). -/
def showSources (w : W) : W :=
  let before := (w.regs.rd 0x40020004).toNat
  let w := if w.refInUse && !w.bit TBS_STATUS_ref_in_use then (w.setFreq (Config.refFreq w.free)).draw else w
  let w := (w.set TBS_STATUS_phase_src w.phaseSrc).setB TBS_STATUS_ref_in_use w.refInUse
  let after := (w.regs.rd 0x40020004).toNat
  if before = after then w else w.record 0x031 0x02 before after 0 0

/-- The servo judged after a change of sources or commands (R67): without sources FREE; from FREE or HOLDOVER to
ACQUIRING once a phase source is valid and no HOLD is in force. -/
def judge (w : W) : W :=
  let w := w.showSources
  if w.sources.isEmpty then (if w.servo = 0 then w else w.setServo 0)
  else if !w.bit TBS_CTRL_servo_enable || w.phaseSrc = 0 then w
  else if w.servo = 0 then w.setServo 1
  else if w.servo = 3 ∧ !w.tb.holdCmd then w.setServo 1
  else w

/-- The servo enters HOLDOVER from LOCKED or ACQUIRING (R67, R462). -/
def toHoldover (w : W) : W := if w.servo = 1 ∨ w.servo = 2 then w.setServo 3 else w

/-- A source lost, or the master changed (R77): src_lost, and HOLDOVER where it was the phase source in use. -/
def srcLost (w : W) (wasPhase : Bool) : W :=
  let w := w.evRec TBS_EVENT_src_lost 0
  let w := if wasPhase then w.toHoldover else w
  w.judge

/-- A phase correction handed to the slew term, replacing what was left of the one before (R68). -/
def slewBy (w : W) (corr : Int) : W :=
  let w : W := { w with tb := { w.tb with slew := corr * 2 ^ 32 } }
  w.setB TBS_STATUS_slewing (corr != 0)

/-- The frequency term after a sample; while REF10M_IN sets the frequency, a sample corrects phase only (R62). -/
def newFreq (w : W) : W := if w.refInUse then w else (w.setFreq (Config.servoFreq w.free)).draw

/-- An offset taken as a sample of the servo (R67): counted, corrected by slewing, states changed. -/
def sampleAs (w : W) (off : Int) (inacc : Option Nat) : W :=
  let w : W := { w with tb := { w.tb with offs := (off :: w.tb.offs).take 8, inacc := inacc, sampled := true } }
  let w := (w.set TBS_OFFSET_v (unsgn 32 off)).slewBy (-off)
  let w := w.newFreq
  let w : W :=
    if w.servo = 1 then
      if off.natAbs ≤ 100 then
        if w.tb.good + 1 = 8 then w.setServo 2
        else { w with tb := { w.tb with good := w.tb.good + 1 } }
      else { w with tb := { w.tb with good := 0 } }
    else if w.servo = 2 then
      if 1000 < off.natAbs then
        if w.tb.bad + 1 = 4 then w.setServo 1
        else { w with tb := { w.tb with bad := w.tb.bad + 1 } }
      else { w with tb := { w.tb with bad := 0 } }
    else w
  w.keepE0.showQuality

/-- The rank of a master in the default comparison (R63): priority1, class, accuracy, variance, priority2, identity. -/
def betterThan (a b : PtpMaster) : Bool :=
  let ka := [a.priority1, a.clockClass, a.accuracy, a.variance, a.priority2, a.identity, a.steps]
  let kb := [b.priority1, b.clockClass, b.accuracy, b.variance, b.priority2, b.identity, b.steps]
  match (ka.zip kb).find? (fun p => p.1 != p.2) with
  | some p => decide (p.1 < p.2)
  | none => false

/-- The clockClass the module announces (R64); none where it never announces. -/
def clockClass (w : W) : Option Nat :=
  if w.get TBS_CTRL_ptp_role < 2 then none
  else if w.servo = 2 then
    if w.phaseSrc = 2 then some 6
    else if w.get TBS_CTRL_ptp_role = 3 then w.tb.master.map (·.clockClass) else none
  else if w.servo = 3 then some (if w.timeOk then 7 else 52)
  else some 248

/-- The PTP clock identity (R63): the EUI-64 of the base MAC address, 0xFFFE between its halves (PRESUMED, IEEE 1588). -/
def clockIdentity : Nat := (baseMac / 2 ^ 24 * 2 ^ 16 + 0xFFFE) * 2 ^ 24 + baseMac % 2 ^ 24

/-- The module's own data set; its C37.238 TLV states the error estimate. Accuracy and variance unknown: PRESUMED from
IEEE 1588. -/
def ownMaster (w : W) : PtpMaster :=
  { priority1 := w.get TBS_PTP_DS_priority1, clockClass := w.clockClass.getD 248, accuracy := 0xFE, variance := 0xFFFF,
    priority2 := w.get TBS_PTP_DS_priority2, identity := clockIdentity, steps := 0,
    tlv := if w.get TBS_CTRL_profile = 1 then w.estimate else none }

/-- The data set the module announces (R64): as a boundary clock LOCKED under a PTP master the parent's attributes, one step
further (PRESUMED, IEEE 1588); none where it never announces. -/
def announced (w : W) : Option PtpMaster :=
  match w.clockClass with
  | none => none
  | some _ =>
    if w.servo = 2 ∧ w.phaseSrc = 1 then w.tb.master.map (fun m => { m with steps := m.steps + 1 }) else some w.ownMaster

/-- The inaccuracy in ns that a clockAccuracy code states, from 1 ps (0x17) to 10 s (0x30); codes outside state none
(PRESUMED, IEEE 1588-2019). Below 1 ns it is rounded up. -/
def accuracyNs (code : Nat) : Option Nat :=
  if code < 0x17 ∨ 0x30 < code then none
  else if code < 0x1D then some 1
  else if code = 0x30 then some 10000000000
  else
    let k := code - 0x1D
    some ([1, 3, 10, 25, 100, 250].getD (k % 6) 1 * 1000 ^ (k / 6) - (if k % 6 = 1 ∧ 0 < k / 6 then 500 * 1000 ^ (k / 6 - 1) else 0))

/-- The stated inaccuracy of a master (R71): its TLV's, else its clockAccuracy's. -/
def statedNs (m : PtpMaster) : Option Nat := match m.tlv with | some n => some n | none => accuracyNs m.accuracy

/-- PTP is no longer valid: the master is gone (R64, R67). -/
def ptpDrop (w : W) : W :=
  let wasPhase := w.phaseSrc == 1
  let w : W := { w with tb := { w.tb with ptpValid := false, master := none, syncWait := [], delayWait := [], lastSync := none } }
  (w.srcLost wasPhase).showQuality

/-- An Announce judged (R63): the master's own renews it, unless the module has become the better clock (R64); a better clock becomes master once two of its messages have
come (PRESUMED, the foreign master threshold of IEEE 1588). -/
def announce (w : W) (port : Nat) (m : PtpMaster) : W :=
  let same : Bool := match w.tb.master with | some x => w.tb.ptpValid && x.identity == m.identity | none => false
  if same && w.get TBS_CTRL_ptp_role != 1 && betterThan w.ownMaster m then w.ptpDrop
  else if same then { w with tb := { w.tb with master := some m, masterPort := port, lastAnn := w.tb.up } }
  else
    let beats : Bool := (match w.tb.master with | some x => !w.tb.ptpValid || betterThan m x | none => true)
      && (w.get TBS_CTRL_ptp_role = 1 || betterThan m w.ownMaster)
    if !beats then w
    else
      let n := match w.tb.foreign with | some (x, k) => if x.identity = m.identity then k + 1 else 1 | none => 1
      if n < 2 then { w with tb := { w.tb with foreign := some (m, n) } }
      else
        let had := w.tb.ptpValid
        let wasPhase := w.phaseSrc == 1
        let w : W := { w with tb := { w.tb with
          master := some m, masterPort := port, foreign := none, ptpValid := true, lastAnn := w.tb.up,
          syncWait := [], delayWait := [], lastSync := none } }
        if had then w.srcLost wasPhase else w.judge

/-- A leap second applied (R72): the offset changes by one, leap_pending clears, leap_occurred and leap_done set. -/
def applyLeap (w : W) : W :=
  let o := w.get TBS_UTC_OFFSET_tai_utc
  let w := w.set TBS_UTC_OFFSET_tai_utc (if w.bit TBS_UTC_OFFSET_leap_dir then o + 0xFFFF else o + 1)
  let w := (w.set TBS_UTC_OFFSET_leap_pending 0).set TBS_UTC_OFFSET_leap_occurred 1
  let w : W := { w with tb := { w.tb with leapAt := some w.ns } }
  w.evRec TBS_EVENT_leap_done 0

/-- TBS_LEAP_AT in seconds. -/
def leapSec (w : W) : Nat := w.get TBS_LEAP_AT_LO_v + 2 ^ 32 * w.get TBS_LEAP_AT_HI_v

/-- A trigger unit's instant registers in ns; none where TRG_NS is invalid (R10). -/
def trgInstant (w : W) (n : Nat) : Option Nat :=
  if 999999999 < w.get (TRG_NS_v n) then none
  else some ((w.get (TRG_SEC_LO_v n) + 2 ^ 32 * w.get (TRG_SEC_HI_v n)) * 1000000000 + w.get (TRG_NS_v n))

/-- The period in force: 0 one-shot, 1 to 39 as 40 (R74). -/
def trgPeriod (w : W) (n : Nat) : Nat := let p := w.get (TRG_PERIOD_v n); if p = 0 then 0 else max 40 p

/-- The first grid instant after `t`. -/
def gridAfter (first period t : Nat) : Nat := if t < first then first else first + ((t - first) / period + 1) * period

/-- A unit armed at the counter's present time: at or before its instant it fires at the next edge, late (R74). -/
def armAt (w : W) (n first period : Nat) : W :=
  let late := decide (first ≤ w.ns)
  let w := w.setB (TRG_CTRL_late n) (late || w.bit (TRG_CTRL_late n))
  { w with tb := { w.tb with trg := tblPut n ⟨first, period, if late then w.ns else first, late, w.tb.up⟩ w.tb.trg } }

/-- A unit whose arm bit has been set is armed, or fails with late (R74). -/
def armUnit (w : W) (n : Nat) : W :=
  match (if w.get (TRG_CTRL_target n) < 6 then w.trgInstant n else none) with
  | none => (w.set (TRG_CTRL_arm n) 0).set (TRG_CTRL_late n) 1
  | some t => (w.set (TRG_COUNT_v n) 0).armAt n t (w.trgPeriod n)

/-- Units whose arm bit a restore brought back are armed (R7, R74). -/
def armRestored (w : W) : W :=
  (upTo 16).foldl (fun (w : W) n => if w.bit (TRG_CTRL_arm n) && (tblGet w.tb.trg n).isNone then w.armUnit n else w) w

/-- A step's effect on the armed units (R77): one armed in this CLK_TB cycle is judged with the new time; of the others,
each whose instants a forward step has passed is marked skipped and fires once, at the step. -/
def stepTriggers (w : W) (forward : Bool) : W :=
  w.tb.trg.foldl (fun w e =>
    if e.2.armed / 4 = w.tb.up / 4 then (if e.2.jump then w.set (TRG_CTRL_late e.1) 0 else w).armAt e.1 e.2.first e.2.period
    else if forward ∧ e.2.next ≤ w.ns then
      let w : W := { w with tb := { w.tb with trg := tblPut e.1 { e.2 with next := w.ns, jump := true } w.tb.trg } }
      w.set (TRG_CTRL_skipped e.1) 1
    else w) w

/-- The counter moved by a step (R69): record, event, triggers and a leap crossed; the extra epoch tick is the
caller's. -/
def stepCounter (w : W) (delta : Int) : W :=
  let old := w.ns
  let new := ((w.tb.now : Int) + delta * 2 ^ 32).toNat
  let w : W := { w with tb := { w.tb with
    now := new, lastSync := w.tb.lastSync.map (fun (e : Nat × Int) => ((e.1 + delta).toNat, e.2)) } }
  let w := w.record 0x030 0x02 (old % 1000000000) (old / 1000000000 % 2 ^ 32) w.nsec (w.sec % 2 ^ 32)
  let w := w.ev TBS_EVENT_stepped 0
  let w := w.stepTriggers (decide (old < w.ns))
  if w.bit TBS_UTC_OFFSET_leap_pending && decide (old / 1000000000 < w.leapSec) && decide (w.leapSec ≤ w.sec)
  then w.applyLeap else w

/-- A UTC instant of the counter in seconds: TAI minus tai_utc, read as signed (R72). -/
def utcSec (w : W) (taiSec : Nat) : Int := (taiSec : Int) - sgn 16 (w.get TBS_UTC_OFFSET_tai_utc)

/-- The stamp of an edge at `x` on a capture input, in 2^-16 ns: PPS_IN and the GNSS pulse resolve to 1 ns, every other
input to 4 ns (R60), counted down to a multiple (DESIGN CHOICE). -/
def captureStamp (input x : Nat) : Nat := 65536 * (if input < 2 then x / 65536 else 4 * (x / 262144))

/-- The pin of a capture input, and the function that lets a unit see it; PPS_IN and the GNSS pulse have none. -/
def capturePin (input : Nat) : Option (Nat × Nat) :=
  if 2 ≤ input ∧ input ≤ 5 then some (0x98 + (input - 2), 6)
  else if 0x10 ≤ input ∧ input ≤ 0x4F then some (input - 0x10, 1) else none

/-- A capture unit sees an input: a general pin that is one, a FRAME_SYNC pin not in safe state (R452). -/
def captureSees (w : W) (input : Nat) : Bool :=
  match capturePin input with | some (p, f) => w.pinFunc p == f | none => true

/-- An edge on a capture input at `x` × 2^-16 ns: every unit that watches it stamps the edge, or drops it with overflow
(R76). An inverted pin turns the edge round (R40). -/
def capture (w : W) (input : Nat) (edgeUp : Bool) (x : Nat) : W :=
  let rising := edgeUp != (match capturePin input with | some (p, _) => w.pinInverts p | none => false)
  let stamp := captureStamp input x
  (upTo 16).foldl (fun w n =>
    let e := w.get (CAP_CTRL_edge n)
    if w.captureSees input && w.bit (CAP_CTRL_enable n) && w.get (CAP_CTRL_input n) == input && (if rising then e % 2 == 1 else e / 2 == 1) then
      let q := (tblGet w.tb.cap n).getD []
      if q.length < 4 then
        let q := q ++ [stamp]
        let w : W := { w with tb := { w.tb with cap := tblPut n q w.tb.cap } }
        (((w.set (CAP_CTRL_count n) q.length).tally 0xD9)).raise (0x1A0 + n) q.length
      else w.set (CAP_CTRL_overflow n) 1
    else w) w

end Sys2Proof.Machine.W
end

