-- ==== Sys2Proof/Machine/CryOps.lean ====
section
/-! DEFINITION. The Crier's shared operations: alarm frames, GOOSE, Brodsan messages, trees and global operations (R156 to
R177). -/

namespace Sys2Proof

/-- The outcome byte of a receive-ring entry: 0 executed in time, 1 late; 2 and 3 the same of a barrier released as aborted.
The manual gives it no code. -/
opaque Config.rxOutcome : Nat → Byte

end Sys2Proof

namespace Sys2Proof.Machine

/-! ## Stamps and alarm frames (R158) -/

/-- A TAI instant in ns as the 10 big-endian bytes of a message: seconds, nanoseconds. -/
def beStamp (t : Nat) : List Byte := beBytes 6 (t / 1000000000) ++ beBytes 4 (t % 1000000000)

/-- The payload of an alarm frame for a record of R151, or of a heartbeat. -/
def alarmBytes (me origin alm built : Nat) (fanned : Bool) (r : Option (List Byte)) : List Byte :=
  let inst (b : List Byte) (a : Nat) : Nat := le b a 4 + 1000000000 * le b (a + 4) 6
  let b := match r with
    | some b =>
      beBytes 2 0x5A41 ++ beBytes 1 1 ++ beBytes 1 (le b 0 1) ++ beBytes 2 me ++ beBytes 2 origin ++ beBytes 2 (le b 2 2)
        ++ beBytes 2 (le b 4 2) ++ beBytes 1 (le b 1 1) ++ beBytes 1 (le b 7 1 % 64 + 64 * bitNat fanned)
        ++ beBytes 1 (le b 6 1) ++ beBytes 1 (le b 36 1) ++ beBytes 4 alm ++ beBytes 4 (le b 8 4) ++ beStamp (inst b 12)
        ++ beStamp (inst b 24) ++ beStamp built ++ beBytes 1 (le b 37 1) ++ beBytes 1 0 ++ beBytes 4 (le b 40 4)
        ++ beBytes 2 (le b 44 2) ++ beBytes 2 0 ++ beBytes 8 (le b 48 8)
    | none =>
      beBytes 2 0x5A41 ++ beBytes 1 1 ++ beBytes 1 0 ++ beBytes 2 me ++ beBytes 10 0 ++ beBytes 4 alm ++ beBytes 4 0
        ++ beBytes 20 0 ++ beStamp built ++ beBytes 18 0
  b ++ beBytes 4 (crc32 b)

/-! ## GOOSE (R160). The encoding of IEC 61850-8-1 is PRESUMED. -/

/-- A BER element. -/
def ber (tag : Nat) (b : List Byte) : List Byte :=
  let n := b.length
  beBytes 1 tag ++ (if n < 128 then beBytes 1 n else if n < 256 then beBytes 1 0x81 ++ beBytes 1 n
    else beBytes 1 0x82 ++ beBytes 2 n) ++ b

/-- The shortest non-negative BER integer. -/
def berNat (n : Nat) : List Byte :=
  if n < 2 ^ 7 then beBytes 1 n else if n < 2 ^ 15 then beBytes 2 n else if n < 2 ^ 23 then beBytes 3 n
  else if n < 2 ^ 31 then beBytes 4 n else beBytes 5 n

/-- Sub-second accuracy bits of TimeQuality for an accuracy code of R71. -/
def goAccuracy (tq : Nat) : Nat :=
  if tq ≤ 3 then 23 else if tq = 4 then 19 else if tq = 5 then 16 else if tq = 6 then 13 else if tq = 7 then 9
  else if tq = 8 then 6 else if tq = 9 then 3 else if tq = 0xA then 0 else 31

/-- The eight bytes of an IEC 61850 Timestamp: UTC seconds, fraction in 2^-24 s, TimeQuality. -/
def goStamp (utc ns tq : Nat) (unsync : Bool) : List Byte :=
  beBytes 4 utc ++ beBytes 3 (ns * 2 ^ 24 / 1000000000)
    ++ beBytes 1 (128 + 64 * bitNat (decide (tq = 0xF)) + 32 * bitNat unsync + goAccuracy tq)

/-! ## Brodsan (R164 to R168) -/

/-- The header fields of a Brodsan message. -/
structure BrdHdr where
  kind : Nat
  flags : Nat
  hops : Nat
  len : Nat
  sys : Nat
  origin : Nat
  sender : Nat
  epoch : Nat
  seq : Nat
  op : Nat
  t : Nat
  fan : Nat
  depth : Nat
  size : Nat
  arg : Nat
  deriving DecidableEq, Repr

/-- The 48 bytes of a header. -/
def brdBytes (h : BrdHdr) : List Byte :=
  beBytes 2 0x425A ++ beBytes 1 1 ++ beBytes 1 h.kind ++ beBytes 1 h.flags ++ beBytes 1 h.hops ++ beBytes 2 h.len
    ++ beBytes 2 h.sys ++ beBytes 2 h.origin ++ beBytes 2 h.sender ++ beBytes 2 h.epoch ++ beBytes 4 h.seq
    ++ beBytes 4 h.op ++ beStamp h.t ++ beBytes 1 h.fan ++ beBytes 1 h.depth ++ beBytes 2 h.size ++ beBytes 2 h.arg
    ++ beBytes 8 0

def brdRead (b : List Byte) : BrdHdr :=
  { kind := be b 3 1, flags := be b 4 1, hops := be b 5 1, len := be b 6 2, sys := be b 8 2, origin := be b 10 2
    sender := be b 12 2, epoch := be b 14 2, seq := be b 16 4, op := be b 20 4
    t := be b 24 6 * 1000000000 + be b 30 4, fan := be b 34 1, depth := be b 35 1, size := be b 36 2, arg := be b 38 2 }

/-- The position of a module in the tree of an originator (R167). -/
def treePos (n origin m : Nat) : Nat := (m + (n - origin % n)) % max 1 n

/-- The children of a module in that tree. -/
def treeKids (n f origin m : Nat) : List Nat :=
  let p := treePos n origin m
  ((upTo f).map (fun k => f * p + 1 + k)).filter (fun q => decide (q < n)) |>.map (fun q => (q + origin) % max 1 n)

/-- The parent of a module in that tree; none at the root. -/
def treeParent (n f origin m : Nat) : Option Nat :=
  let p := treePos n origin m
  if p = 0 then none else some (((p - 1) / max 1 f + origin) % max 1 n)

/-- The level of a position. -/
def treeLevel (f : Nat) : Nat → Nat → Nat
  | 0, _ => 0
  | k + 1, p => if p = 0 then 0 else 1 + treeLevel f k ((p - 1) / max 1 f)

/-- The depth d = ceil(log_f N). -/
def treeDepthFrom (n f : Nat) : Nat → Nat → Nat → Nat
  | 0, d, _ => d
  | k + 1, d, reach => if n ≤ reach then d else treeDepthFrom n f k (d + 1) (reach * f)

def treeDepth (n f : Nat) : Nat := treeDepthFrom n f 11 0 1

/-- Positions in the subtree of positions lo to hi. -/
def subtreeFrom (n f : Nat) : Nat → Nat → Nat → Nat
  | 0, _, _ => 0
  | k + 1, lo, hi => if n ≤ lo then 0 else (min hi (n - 1) + 1 - lo) + subtreeFrom n f k (f * lo + 1) (f * hi + f)

/-- The size of the subtree of a module. -/
def subtree (n f origin m : Nat) : Nat := let p := treePos n origin m; subtreeFrom n f 11 p p

/-- The modules a message goes to: each live child, and in place of a down one its children, flagged adopted (R168);
beside them how many down modules were passed over. -/
def reachKids (n f origin : Nat) (down : List Nat) : Nat → Bool → List Nat → List (Nat × Bool) × Nat
  | 0, _, _ => ([], 0)
  | k + 1, adopted, ms =>
    ms.foldl (fun (a : List (Nat × Bool) × Nat) m =>
      if down.contains m then
        let s := reachKids n f origin down k true (treeKids n f origin m)
        (a.1 ++ s.1, a.2 + 1 + s.2)
      else (a.1 ++ [(m, adopted)], a.2)) ([], 0)

/-- Operation kinds that are armed: BROADCAST, SNAPSHOT, RESET, BARRIER_RELEASE. -/
def isAnnounce (k : Nat) : Bool := k == 1 || k == 2 || k == 3

def addCounts (a b : List Nat) : List Nat := (upTo 5).map (fun i => min 0xFFFF (a.getD i 0 + b.getD i 0))

def oneCount (i : Nat) (n : Nat := 1) : List Nat := (upTo 5).map (fun j => if j = i then n else 0)

namespace W

/-- The Crier is present: the tile map has an item. Absent, it has its registers and its operations but no queue paths, so
that it neither sends nor receives (R461). -/
def cryOn (w : W) : Bool := w.serves && !w.pat.active.tiles.isEmpty

def sysN (w : W) : Nat := max 1 (min 1024 (w.get CRY_SYS_CFG_sys_size))
def sysF (w : W) : Nat := let f := w.get CRY_SYS_CFG_fanout; if 2 ≤ f ∧ f ≤ 16 then f else 16

/-- The hop bound and the clock error in ns (R169). -/
def hopNs (w : W) : Nat := 1000 * max 1 (min 1000 (w.get CRY_GOP_CFG_hop_us))
def epsNs (w : W) : Nat := w.get CRY_GOP_CFG_eps_ns

def setCry (w : W) (c : CryState) : W := { w with cry := c }

/-- The system table read (R166). -/
def readTable (w : W) : W :=
  let base := w.get CRY_SYS_TBL_LO_v + 2 ^ 32 * w.get CRY_SYS_TBL_HI_v
  let es := (upTo w.sysN).map (fun m => (m, w.rdBytes (base + 32 * m) 32))
  w.setCry { w.cry with table := es.filter (fun e => !allZero e.2) }

/-- The module's own address in the system table (R158, R164). -/
def ownIp (w : W) : Nat :=
  let e := w.sysEntry w.me
  if w.bit PTN_CFG_side && w.isPair w.me then be e 4 4 else be e 0 4

/-- Status fields: operations armed, modules live in the map. -/
def showCry (w : W) : W :=
  let w := w.set CRY_STATUS_armed (w.cry.ops.filter (fun o => o.state == 1)).length
  w.set CRY_STATUS_live ((upTo 1024).filter (fun m => tst w.cry.map m)).length

/-! ## Units for the Lamplighter (R157) -/

/-- Waiting units put into the queue to the Lamplighter while it has room. -/
def sendLamp : Nat → W → W
  | 0, w => w
  | n + 1, w =>
    match w.cry.lamp with
    | [] => w
    | b :: t =>
      if w.hasRoom 0x08 0x0A b.length then
        sendLamp n ((w.setCry { w.cry with lamp := t }).push 0x08 0x0A ⟨.bytes b, b.length, false⟩)
      else w

def cryFlush (w : W) : W := sendLamp w.cry.lamp.length w

def toLamp (w : W) (b : List Byte) : W :=
  match w.pat.active.path 0x08 0x0A with
  | none => w
  | some _ => (w.setCry { w.cry with lamp := w.cry.lamp ++ [b] }).cryFlush

/-- The grid-response command of a record. -/
def gridCmd (r : List Byte) (cmd origin decided : Nat) (fanned : Bool) : List Byte :=
  leBytes 1 (le r 0 1) ++ leBytes 1 cmd ++ leBytes 2 (le r 2 2) ++ leBytes 2 origin ++ leBytes 1 (le r 1 1)
    ++ leBytes 1 (bitNat fanned) ++ leBytes 8 decided

/-- The lantern-level order unit of a broadcast. -/
def orderUnit (o : Gop) : List Byte :=
  let n := o.payload.length
  leBytes 1 3 ++ leBytes 1 0 ++ leBytes 2 n ++ leBytes 2 o.origin ++ leBytes 2 0 ++ leBytes 8 o.t
    ++ padTo (8 * ceilDiv n 8) o.payload

/-! ## Alarm frames -/

def dstMac (w : W) (k : Nat) : Nat :=
  beNat (leBytes 4 (w.get (CRY_DST_MAC_LO_v k)) ++ leBytes 2 (w.get (CRY_DST_MAC_HI_mac_hi k)))

/-- Destinations of a group, ascending. -/
def groupDsts (w : W) (g : Nat) : List Nat :=
  (upTo 256).filter (fun d => tst (w.get (CRY_DGRP_v g (d / 32))) (d % 32))

/-- One alarm frame to destination k. -/
def alarmTo (w : W) (k origin alm : Nat) (fanned : Bool) (r : Option (List Byte)) : W :=
  let src := if w.get CRY_SRC_IP_v = 0 then w.ownIp else w.get CRY_SRC_IP_v
  let w := w.blockSend 0x08 none ⟨w.get (CRY_DST_MAC_HI_vid k), w.get (CRY_DST_MAC_HI_pcp k), false⟩ (w.dstMac k)
    (.datagram src (w.get (CRY_DST_IP_v k)) (w.get (CRY_DST_PORT_src_port k)) (w.get (CRY_DST_PORT_dst_port k))
      (alarmBytes w.me origin alm w.ns fanned r))
  (w.bump CRY_FRAME_CNT_v 1).tally 0x61

/-- The alarm frames of a record (R156, R163). -/
def alarmFrames (w : W) (g origin alm : Nat) (fanned : Bool) (r : List Byte) : W :=
  let closed := le r 24 4 + 1000000000 * le r 28 6
  let s : W × Bool := (w.groupDsts g).foldl (fun (s : W × Bool) k =>
    if s.1.dstMac k = 0 then ((s.1.bump CRY_UNRES_CNT_v 1).ev CRY_EVENT_dst_unres 0, s.2)
    else
      let w := s.1.alarmTo k origin alm fanned (some r)
      (if s.2 then w else w.set CRY_LAT_MAX_v (max (w.get CRY_LAT_MAX_v) (min 0xFFFFFFFF (w.ns - closed))), true))
    (w, false)
  s.1

/-! ## GOOSE -/

def gcb (w : W) (c : Nat) : Gcb := (tblGet w.cry.gcbs c).getD ⟨[], 0, 0, 0, [], 0, 0⟩
def setGcb (w : W) (c : Nat) (g : Gcb) : W := w.setCry { w.cry with gcbs := tblPut c g w.cry.gcbs }

/-- The descriptor read (R160). -/
def readGcb (w : W) (c : Nat) : W :=
  let a := w.get (CRY_GCB_DESC_LO_v c) + 2 ^ 32 * w.get (CRY_GCB_DESC_HI_v c)
  w.setGcb c { w.gcb c with desc := w.rdBytes a 256 }

def gooseOn (w : W) (c : Nat) : Bool := w.bit CRY_CTRL_goose_enable && w.bit (CRY_GCB_CTRL_enable c)

def gcbMin (w : W) (c : Nat) : Nat := max 1 (w.get (CRY_GCB_TIMING_min_ms c))
def gcbMax (w : W) (c : Nat) : Nat := max 1 (w.get (CRY_GCB_TIMING_max_ms c))

/-- A Timestamp of a TAI instant. -/
def goTime (w : W) (t : Nat) : List Byte :=
  goStamp (w.utcOf (t / 1000000000)) (t % 1000000000) w.tqCode w.unsync

/-- The frame of a control block, with the interval to the next transmission. -/
def gooseSend (w : W) (c : Nat) (g : Gcb) : W :=
  let d := g.desc
  let r := g.scr
  let tci := le d 8 2
  let str (a l : Nat) : List Byte := cut d a (min 65 (le d l 1))
  let inst := le r 12 4 + 1000000000 * le r 16 6
  let all := ber 0x86 (berNat (le r 2 2)) ++ ber 0x83 (beBytes 1 (bitNat (le r 0 1 == 1) * 255))
    ++ ber 0x86 (berNat (le r 1 1)) ++ ber 0x91 (w.goTime inst) ++ ber 0x87 (beBytes 1 8 ++ beBytes 4 (le r 40 4))
    ++ ber 0x86 (berNat (le r 44 2))
  let pdu := ber 0x61 (ber 0x80 (str 24 14) ++ ber 0x81 (berNat (2 * g.interval)) ++ ber 0x82 (str 89 15)
    ++ ber 0x83 (str 154 16) ++ ber 0x84 (w.goTime g.stamp) ++ ber 0x85 (berNat g.stNum) ++ ber 0x86 (berNat g.sqNum)
    ++ ber 0x87 (beBytes 1 (bitNat (w.bit (CRY_GCB_CTRL_test c)) * 255)) ++ ber 0x88 (berNat (le d 10 4))
    ++ ber 0x89 (beBytes 1 0) ++ ber 0x8A (berNat 6) ++ ber 0xAB all)
  let w := w.blockSend 0x08 none ⟨tci % 4096, tci / 8192, tst tci 12⟩ (beNat (cut d 0 6))
    (.l2 0x88B8 (beBytes 2 (le d 6 2) ++ beBytes 2 (8 + pdu.length) ++ beBytes 4 0 ++ pdu))
  let w := w.setGcb c { g with sentUp := w.tb.up }
  (w.bump CRY_FRAME_CNT_v 1).tally 0x62

/-- A record reaches a control block: stNum rises, sqNum 0 (R161). -/
def goosePublish (w : W) (c : Nat) (r : List Byte) : W :=
  let g := w.gcb c
  w.gooseSend c { g with stNum := (g.stNum + 1) % 2 ^ 32, sqNum := 0, interval := w.gcbMin c, scr := r, stamp := w.ns }

/-- A retransmission: the interval doubles up to max_ms. -/
def gooseAgain (w : W) (c : Nat) : W :=
  let g := w.gcb c
  w.gooseSend c { g with sqNum := (g.sqNum + 1) % 2 ^ 32, interval := min (2 * g.interval) (w.gcbMax c) }

/-! ## Messages -/

def brdKey (w : W) : Option (List Byte) := w.keyFor (w.get CRY_BRD_CFG_key_slot) 1

/-- A message sent to a module: to both addresses of a pair (R166). A module without a key sends none. -/
def brdSend (w : W) (dst : Nat) (h : BrdHdr) (payload : List Byte) : W :=
  match (if w.pat.active.tiles.isEmpty then none else w.brdKey) with
  | none => w
  | some key =>
    let n := (w.cry.seq + 1) % 2 ^ 32
    let w := w.setCry { w.cry with seq := n }
    let h := { h with len := payload.length, sys := w.get CRY_BRD_SYSID_system_id, sender := w.me,
                      epoch := w.get CRY_BRD_SYSID_epoch, seq := n }
    let b := brdBytes h ++ payload
    let b := b ++ (hmac256 key b).take 16
    let e := w.sysEntry dst
    let tci := le e 20 2
    let port := w.get CRY_BRD_CFG_udp_port
    let send (w : W) (ip mac : Nat) : W :=
      w.blockSend 0x08 none ⟨tci % 4096, w.get CRY_BRD_CFG_pcp, tst tci 12⟩ mac (.datagram w.ownIp ip port port b)
    let w := send w (be e 0 4) (be e 8 6)
    let w := if w.isPair dst then send w (be e 4 4) (be e 14 6) else w
    w.tally 0x63

/-- A message copied down the tree of an originator; answers the modules it went to and how many down modules it passed
over. -/
def brdDown (w : W) (n f origin : Nat) (h : BrdHdr) (payload : List Byte) : W × List Nat × Nat :=
  let (ks, skipped) := reachKids n f origin w.cry.down 12 false (treeKids n f origin w.me)
  let w := ks.foldl (fun w k =>
    w.brdSend k.1 { h with flags := h.flags % 4 + 4 * bitNat k.2 } payload) w
  (w, ks.map (·.1), skipped)

/-- A received message checked (R165): its header and payload where it is accepted. A message that is not of the form of
R164, or comes while brodsan_enable is 0, is ignored. -/
def brdAccept (w : W) (m : BrdMsg) (ok : Nat → Bool) : W × Option (BrdHdr × List Byte) :=
  let h := brdRead m.data
  let drop (w : W) : W := w.bump CRY_BRD_DROP_CNT_v 1
  if !w.cryOn || !w.bit CRY_CTRL_brodsan_enable || be m.data 0 2 != 0x425A || be m.data 2 1 != 1
      || m.data.length != 64 + h.len || decide (1024 < h.len) || !ok h.kind then (w, none)
  else match w.cross 0xF1 0x08 (50 + m.data.length) with
  | none => (w, none)
  | some w =>
    let good : Bool := match w.brdKey with
      | some key => (hmac256 key (m.data.take (48 + h.len))).take 16 == m.data.drop (48 + h.len)
      | none => false
    if !good then ((drop w).ev CRY_EVENT_auth_fail 0, none)
    else if h.sys ≠ w.get CRY_BRD_SYSID_system_id then (drop w, none)
    else
      let k := 2 * h.sender + bitNat (w.isPair h.sender && m.src == be (w.sysEntry h.sender) 4 4)
      let stale : Bool := match tblGet w.cry.peers k with
        | some (e, s) => decide (h.epoch < e) || (h.epoch == e && decide (h.seq ≤ s))
        | none => false
      if stale then ((drop w).ev CRY_EVENT_replay 0, none)
      else
        let w := w.setCry { w.cry with
          peers := tblPut k (h.epoch, h.seq) w.cry.peers
          heard := tblPut h.sender w.tb.up w.cry.heard
          down := w.cry.down.filter (· != h.sender) }
        (w.tally 0x64, some (h, cut m.data 48 h.len))

/-! ## Records (R156, R159, R170) -/

/-- A record taken from the Crier queue. -/
def cryTake (w : W) (r : List Byte) (origin : Nat) (fanned : Bool) : W :=
  let w := (w.bump CRY_REC_CNT_v 1).tally 0x60
  if !w.bit CRY_CTRL_enable || w.isStandby then w
  else
    let alm := if w.cry.zero then 0 else (w.get CRY_ALM_SEQ_v + 1) % 2 ^ 32
    let w := w.setCry { w.cry with zero := false }
    let w := w.set CRY_ALM_SEQ_v alm
    let a := le r 4 2 % 256
    let cmd := w.get (CRY_ACT_lamp_cmd a)
    let w := if tst (le r 7 1) 0 && cmd != 0 && w.bit CRY_CTRL_lamp_enable
      then w.toLamp (gridCmd r cmd origin w.ns fanned) else w
    let w := if w.bit (CRY_ACT_udp_en a) && w.bit CRY_CTRL_udp_enable
      then w.alarmFrames (w.get (CRY_ACT_dest_group a)) origin alm fanned r else w
    let cb := w.get (CRY_ACT_goose_cb a)
    let w := if w.bit (CRY_ACT_goose_en a) && w.gooseOn cb then w.goosePublish cb r else w
    if w.bit (CRY_ACT_fan_out a) && w.bit CRY_CTRL_brodsan_enable && !fanned then
      (w.brdDown w.sysN w.sysF w.me
        { kind := 8, flags := 0, hops := 0, len := 0, sys := 0, origin := w.me, sender := 0, epoch := 0, seq := 0
          op := alm, t := 0, fan := 0, depth := 0, size := w.sysN, arg := 0 } r).1
    else w

/-- Fanned records put into the Crier queue while it has room, behind the records there (R170). -/
def sendFanned : Nat → W → W
  | 0, w => w
  | n + 1, w =>
    match w.cry.fanned with
    | [] => w
    | (o, r) :: t =>
      if w.hasRoom 0x07 0x08 64 then
        sendFanned n ((w.setCry { w.cry with fanned := t }).push 0x07 0x08 ⟨.fanned o r, 64, false⟩)
      else w

def fanFlush (w : W) : W := sendFanned w.cry.fanned.length w

/-- An accepted ALARM_FAN (R170). -/
def fanRx (w : W) (h : BrdHdr) (r : List Byte) : W :=
  if w.isStandby || w.cry.fans.contains (h.origin, h.op) then w
  else
    let w := w.setCry { w.cry with fans := ((h.origin, h.op) :: w.cry.fans).take 256 }
    let w := (w.brdDown w.sysN w.sysF h.origin { h with hops := h.hops + 1 } r).1
    (w.setCry { w.cry with fanned := w.cry.fanned ++ [(h.origin, r)] }).fanFlush

/-! ## Trigger units of the Crier (R172) -/

/-- The units of the Crier. -/
def cryUnits (w : W) : List Nat :=
  let a := w.get CRY_GOP_CFG_trg_first
  (upTo (max 1 (min 8 (w.get CRY_GOP_CFG_trg_count)))).map (a + ·) |>.filter (· < 16)

def freeUnit (w : W) : Option Nat := w.cryUnits.find? (fun n => !w.bit (TRG_CTRL_arm n))

/-- A unit armed once at T with target 0x4. -/
def cryArm (w : W) (n t : Nat) : W :=
  let w := ((w.set (TRG_CTRL_arm n) 1).set (TRG_CTRL_target n) 4).set (TRG_PERIOD_v n) 0
  let w := ((w.set (TRG_NS_v n) (t % 1000000000)).set (TRG_SEC_LO_v n) (t / 1000000000 % 2 ^ 32)).set
    (TRG_SEC_HI_v n) (t / 1000000000 / 2 ^ 32)
  w.armAt n t 0

def disarmUnit (w : W) (n : Nat) : W :=
  let w := w.set (TRG_CTRL_arm n) 0
  { w with tb := { w.tb with trg := tblDel n w.tb.trg } }

/-! ## Operations (R171 to R177) -/

def sameOp (o : Gop) (origin op : Nat) : Bool := o.origin == origin && o.opId == op

def putOp (w : W) (o : Gop) : W :=
  (w.setCry { w.cry with ops := w.cry.ops.map (fun x => if sameOp x o.origin o.opId then o else x) }).showCry

def dropOp (w : W) (o : Gop) : W :=
  (w.setCry { w.cry with ops := w.cry.ops.filter (fun x => !sameOp x o.origin o.opId) }).showCry

/-- A Scrivener record of the Crier's notice code (R177). -/
def cryNote (w : W) : W := w.record 0x50F 8 0 (w.evWord CRY_EVENT_dst_unres) 0 0

/-- The result at the originator. -/
def gopResult (w : W) (o : Gop) : W :=
  let c (i : Nat) : Nat := o.counts.getD i 0
  let w := (w.set (CRY_GOP_RES_lo 0) (c 0)).set (CRY_GOP_RES_hi 0) (c 1)
  let w := (w.set (CRY_GOP_RES_lo 1) (c 2)).set (CRY_GOP_RES_hi 1) (c 3)
  let w := (w.set (CRY_GOP_RES_lo 2) (c 4)).set (CRY_GOP_RES_hi 2) 0
  w.ev CRY_EVENT_gop_done 0

/-- CONFIRM sent to the module the announcement came from, or the result at the originator; the operation is then
forgotten unless it has still to execute. -/
def gopConfirm (w : W) (o : Gop) : W :=
  let w := if o.origin = w.me then w.gopResult o
    else
      let w := if w.cry.down.contains o.origin then w.cryNote else w
      w.brdSend o.parent
        { kind := 5, flags := 0, hops := 0, len := 0, sys := 0, origin := o.origin, sender := 0, epoch := 0, seq := 0
          op := o.opId, t := o.t, fan := o.fan, depth := o.depth, size := o.size, arg := o.arg }
        ((upTo 5).map (fun i => beBytes 2 (o.counts.getD i 0))).flatten
  if o.state = 1 then w.putOp { o with confirmed := true } else w.dropOp o

/-- The confirmation falls due once every child has confirmed, after execution or for RESET after arming. -/
def gopCheck (w : W) (o : Gop) : W :=
  if !o.confirmed && o.kids.isEmpty && (o.state == 3 || o.kind == 3) then w.gopConfirm o else w

/-- A broadcast or a release executed: the receive ring, the interrupt, the order for the Lamplighter (R174, R175). -/
def gopDeliver (w : W) (o : Gop) (late : Bool) : W :=
  let n := w.get CRY_RX_CFG_entries
  let wi := w.get CRY_RX_WIDX_v
  let w := if n = 0 then w
    else if (wi + 1) % n = w.get CRY_RX_RIDX_v then w.ev CRY_EVENT_rx_full 0
    else
      let a := w.get CRY_RX_BASE_LO_v + 2 ^ 32 * w.get CRY_RX_BASE_HI_v + 1152 * wi
      let b := padTo 1072 (o.header ++ o.payload) ++ fullStamp w.ns ++ [Config.rxOutcome (bitNat late + 2 * bitNat o.aborted)]
      (w.wrBytes a (padTo 1152 b)).set CRY_RX_WIDX_v ((wi + 1) % n)
  let w := w.raise 0x8F 0
  let w := if o.kind = 7 then w.setCry { w.cry with bars := tblDel o.arg w.cry.bars } else w
  if o.kind = 1 && tst o.flags 1 && !o.payload.isEmpty then w.toLamp (orderUnit o) else w

/-- An operation after its execution: counted on_time or late_exec, or unsure where the own estimate exceeds 1,000 ns. -/
def gopDone (w : W) (o : Gop) (late : Bool) : W :=
  let w := w.tally 0x65
  let w := if w.unsync then w.cryNote else w
  let i := if w.unsync then 4 else if late then 1 else 0
  let o := { o with state := 3, unit := none, counts := addCounts o.counts (oneCount i) }
  (w.putOp o).gopCheck o

/-- An operation armed or late at this module (R172, R173), its children already told. -/
def gopArm (w : W) (o : Gop) : W :=
  let w := w.setCry { w.cry with ops := w.cry.ops ++ [o] }
  match (if w.ns + 5000 ≤ o.t then w.freeUnit else none) with
  | some n =>
    let w := w.cryArm n o.t
    let w := if o.kind = 3 ∧ w.unsync then w.cryNote else w
    let o := { o with unit := some n, state := 1,
                      counts := if o.kind = 3 then addCounts o.counts (oneCount (if w.unsync then 4 else 0)) else o.counts }
    (w.putOp o).gopCheck o
  | none =>
    let w := w.ev CRY_EVENT_gop_late 0
    if tst o.flags 0 && (o.kind == 1 || o.kind == 7) then (w.gopDeliver o true).gopDone o true
    else
      let o := { o with state := 3, counts := addCounts o.counts (oneCount 2) }
      (w.putOp o).gopCheck o

/-- An operation of a header and payload, coming from a module. -/
def gopOf (h : BrdHdr) (payload : List Byte) (parent : Nat) (header : List Byte) : Gop :=
  { origin := h.origin, opId := h.op, kind := h.kind, flags := h.flags, t := h.t, fan := h.fan, depth := h.depth
    size := h.size, arg := h.arg, aborted := false, header := header, payload := payload, parent := parent, unit := none, state := 0
    confirmed := false, kids := [], counts := [] }

/-- An announcement or a release taken (R173): forwarded and armed, once; the standby of a pair only arms it. One whose T
is an invalid stamp (R10) is ignored (DESIGN CHOICE). -/
def gopRx (w : W) (h : BrdHdr) (payload header : List Byte) : W :=
  if w.cry.seen.contains (h.origin, h.op) || decide (999999999 < be header 30 4) then w
  else
    let w := w.setCry { w.cry with seen := ((h.origin, h.op) :: w.cry.seen).take 256 }
    let o := gopOf h payload h.sender header
    if w.isStandby then
      match (if w.ns + 5000 ≤ o.t then w.freeUnit else none) with
      | some n =>
        let w := (w.setCry { w.cry with ops := w.cry.ops ++ [{ o with unit := some n, state := 1 }] }).cryArm n o.t
        w.showCry
      | none => w
    else
      let (w, kids, skipped) := w.brdDown h.size h.fan h.origin { h with hops := h.hops + 1 } payload
      w.gopArm { o with kids := kids, counts := oneCount 3 skipped }

/-- An operation started here, at T (R171). -/
def gopStart (w : W) (kind flags arg t : Nat) (payload : List Byte) (aborted : Bool := false) : W :=
  let n := w.sysN
  let f := w.sysF
  let op := (w.cry.opSeq + 1) % 2 ^ 32
  let w := w.setCry { w.cry with opSeq := op, seen := ((w.me, op) :: w.cry.seen).take 256 }
  let w := w.set CRY_GOP_OPID_v op
  let h : BrdHdr :=
    { kind := kind, flags := flags, hops := 0, len := payload.length, sys := w.get CRY_BRD_SYSID_system_id,
      origin := w.me, sender := w.me, epoch := w.get CRY_BRD_SYSID_epoch, seq := 0, op := op, t := t, fan := f,
      depth := treeDepth n f, size := n, arg := arg }
  let (w, kids, skipped) := w.brdDown n f w.me h payload
  w.gopArm { gopOf h payload w.me (brdBytes h) with kids := kids, counts := oneCount 3 skipped, aborted := aborted }

/-- CRY_GOP_STATUS after a command. -/
def gopStatus (w : W) (result : Nat) : W :=
  (w.set CRY_GOP_STATUS_done 1).set CRY_GOP_STATUS_result result

/-- T as CRY_GOP_T names it: all zeros is now + lead; none where the nanoseconds are invalid (R10). -/
def gopT (w : W) : Option Nat :=
  let ns := w.get CRY_GOP_T_NS_v
  let s := w.get CRY_GOP_T_SEC_LO_v + 2 ^ 32 * w.get CRY_GOP_T_SEC_HI_v
  if ns = 0 ∧ s = 0 then some (w.ns + 1000 * max 1 (min 1000000 (w.get CRY_GOP_LEAD_lead_us)))
  else if 999999999 < ns then none else some (s * 1000000000 + ns)

/-- The conditions of R171 in order, for a command with T, the least lead in hops and the payload's length. -/
def gopRefuse (w : W) (t : Option Nat) (hops len : Nat) : Nat :=
  let least := hops * treeDepth w.sysN w.sysF * w.hopNs + 2 * w.epsNs
  let lead := match t with | some t => decide (t < w.ns + least) | none => true
  if lead then 1
  else if w.unsync then 2
  else if w.freeUnit.isNone then 3
  else if 1024 < len then 4
  else if w.brdKey.isNone then 5
  else if !w.bit CRY_CTRL_brodsan_enable then 6
  else 0

/-- One of the commands BROADCAST, SNAPSHOT, RESET. -/
def gopCommand (w : W) (kind flags arg : Nat) : W :=
  let len := if kind = 1 then w.get CRY_GOP_LEN_len else 0
  let t := w.gopT
  let r := w.gopRefuse t (if kind = 3 then 2 else 1) len
  let w := w.gopStatus r
  if r = 0 then
    w.gopStart kind flags arg (t.getD 0) (w.rdBytes (w.get CRY_GOP_SRC_LO_v + 2 ^ 32 * w.get CRY_GOP_SRC_HI_v) len)
  else w

/-- An armed operation aborted: IDLE (R173). -/
def gopAbort (w : W) (o : Gop) : W :=
  let w := match o.unit with | some n => w.disarmUnit n | none => w
  (w.dropOp o).ev CRY_EVENT_gop_abort 0

/-! ## Barriers (R175) -/

def barrier (w : W) (n : Nat) : Barrier := (tblGet w.cry.bars n).getD ⟨false, false, [], false, w.tb.up⟩
def setBar (w : W) (n : Nat) (b : Barrier) : W := w.setCry { w.cry with bars := tblPut n b w.cry.bars }

/-- The nearest live ancestor of a module in a tree. -/
def liveParent (w : W) (n f origin : Nat) : Nat → Nat → Option Nat
  | 0, _ => none
  | k + 1, m =>
    match treeParent n f origin m with
    | some p => if w.cry.down.contains p && p != origin then liveParent w n f origin k p else some p
    | none => none

/-- The release of a barrier from its root: T is now + lead. The message has no field for an outcome, so that `aborted`
shows in the root's own ring entry alone (DEDUCED). -/
def release (w : W) (n : Nat) (b : Barrier) (aborted : Bool := false) : W :=
  let w := w.setBar n { b with passed := true }
  w.gopStart 7 (bitNat b.late) n (w.ns + 1000 * max 1 (min 1000000 (w.get CRY_GOP_LEAD_lead_us))) [] aborted

/-- Once this module and its live children have entered: ENTER goes to the parent, or the root releases. -/
def barCheck (w : W) (n : Nat) : W :=
  let b := w.barrier n
  let root := w.get CRY_BAR_TIMEOUT_barrier_root
  let kids := ((reachKids w.sysN w.sysF root w.cry.down 12 false (treeKids w.sysN w.sysF root w.me)).1).map (·.1)
  if !b.entered || b.passed || kids.any (fun k => !b.kids.contains k) then w
  else if w.me = root then w.release n b
  else
    let w := w.setBar n { b with passed := true }
    match w.liveParent w.sysN w.sysF root 12 w.me with
    | some p => w.brdSend p
        { kind := 6, flags := 0, hops := 0, len := 0, sys := 0, origin := root, sender := 0, epoch := 0, seq := 0, op := 0
          t := 0, fan := w.sysF, depth := treeDepth w.sysN w.sysF, size := w.sysN, arg := n } []
    | none => w

/-! ## Liveness (R168) -/

def mapBytes (m : Nat) : List Byte := leBytes 128 m

def liveHdr (origin : Nat) (w : W) : BrdHdr :=
  { kind := 9, flags := 0, hops := 0, len := 0, sys := 0, origin := origin, sender := 0, epoch := 0, seq := 0, op := 0, t := 0
    fan := w.sysF, depth := treeDepth w.sysN w.sysF, size := w.sysN, arg := 0 }

/-- The OR of the own bit and the children's maps. -/
def ownMap (w : W) : Nat :=
  w.cry.kidMaps.foldl (fun a e => if w.cry.down.contains e.1 then a else a ||| e.2) (2 ^ w.me)

def liveSend (w : W) : W :=
  let w := w.setCry { w.cry with liveUp := w.tb.up }
  if w.me = 0 then
    let m := w.ownMap
    let w := (w.setCry { w.cry with map := m }).showCry
    (w.brdDown w.sysN w.sysF 0 (liveHdr 0 w) (mapBytes m)).1
  else match w.liveParent w.sysN w.sysF 0 12 w.me with
    | some p => w.brdSend p (liveHdr w.me w) (mapBytes w.ownMap)
    | none => w

/-- A map received: from a module nearer to module 0 it is the whole map and goes on down; else a child's. -/
def liveRx (w : W) (h : BrdHdr) (b : List Byte) : W :=
  let m := leNat b
  if h.sender < w.me then
    let w := (w.setCry { w.cry with map := m, down := w.cry.down.filter (fun k => !tst m k) }).showCry
    (w.brdDown w.sysN w.sysF 0 { h with hops := h.hops + 1 } b).1
  else w.setCry { w.cry with kidMaps := tblPut h.sender m w.cry.kidMaps }

/-- How long a neighbour may be silent: its messages come every brd_hb_ms from a child and every 100 ms, with the map, from
the parent. -/
def missNs (w : W) (parent : Bool) : Nat :=
  max 1 (w.get CRY_HB_CFG_miss) * (1000000 * (if parent then 100 else max 1 (w.get CRY_HB_CFG_brd_hb_ms)))

/-- A module taken as down: its map is forgotten, and barriers that waited for it are judged again (R168, R175). -/
def moduleDown (w : W) (m : Nat) : W :=
  let w := (w.setCry { w.cry with down := m :: w.cry.down, kidMaps := tblDel m w.cry.kidMaps }).ev CRY_EVENT_module_down 0
  (w.cry.bars.map (·.1)).foldl (fun (w : W) n => w.barCheck n) w

end W

end Sys2Proof.Machine
end

