-- ==== Sys2Proof/Machine/RecOps.lean ====
section
/-! DEFINITION. Shared operations of the Scrivener, the Tallyman and the Cobbler (R402 to R418). -/

namespace Sys2Proof.Machine

/-- A record's 32 bytes (R402). -/
def recBytes (r : RecEntry) : List Byte :=
  leBytes 2 r.code ++ leBytes 1 r.flags ++ leBytes 1 r.block ++ leBytes 4 r.seq ++ leBytes 8 r.stamp
    ++ leBytes 4 r.p0 ++ leBytes 4 r.p1 ++ leBytes 4 r.p2 ++ leBytes 4 r.p3

/-- The bucket of a code that nothing has configured (REC_RL_CFG's reset value). -/
def Bucket.fresh : Bucket := ⟨16, 100, false, 16, 0, 0, 0⟩

/-- The most tokens a bucket holds: a burst of 0 acts as 1. -/
def Bucket.cap (b : Bucket) : Nat := max 1 b.burst

/-- Sum of rationals in lowest terms. -/
def Ratio.add (a b : Ratio) : Ratio :=
  let n := a.num * b.den + b.num * a.den
  let d := a.den * b.den
  let g := Nat.gcd n.natAbs d
  if g = 0 then ⟨0, 1⟩ else ⟨n / g, d / g⟩

def Ratio.scale (a : Ratio) (k : Int) : Ratio := ⟨a.num * k, a.den⟩

/-- The rated value an indicator starts with (R415): operations, hours, or 0.01 ppm for indicator 3. -/
def ratedDefault (i : Nat) : Nat :=
  if i = 3 then 2000 else if 4 ≤ i ∧ i ≤ 35 then 100000 else if 36 ≤ i ∧ i ≤ 39 then 87600 else 0

def Indicator.fresh (i : Nat) : Indicator := ⟨0, ratedDefault i, none, [], ⟨0, 0, 0⟩, 1, none, false⟩

/-- The unit raw quantities are kept in: string seconds in 2^-32 s, radio seconds in ns, others whole. -/
def rawUnit (i : Nat) : Nat := if 20 ≤ i ∧ i ≤ 35 then 2 ^ 32 else if 36 ≤ i then 1000000000 else 1

/-- The wear fraction u of an indicator (R415). -/
def Indicator.u (i : Nat) (x : Indicator) : Ratio :=
  if i = 0 then ⟨x.raw, 100⟩
  else if i = 1 then
    match x.ref with
    | some c0 => if c0 = 0 then ⟨0, 1⟩ else ⟨5 * ((c0 : Int) - x.raw), c0⟩
    | none => ⟨0, 1⟩
  else if i = 2 then
    match x.ref with
    | some r0 => if r0 = 0 then ⟨0, 1⟩ else ⟨x.raw - (r0 : Int), r0⟩
    | none => ⟨0, 1⟩
  else if i = 3 then ⟨x.raw.natAbs, max 1 x.rated⟩
  else if i < 20 then ⟨x.raw, max 1 x.rated⟩
  else ⟨x.raw, max 1 (x.rated * 3600 * rawUnit i)⟩

/-- Least-squares slope of u over day numbers as a ratio of two numbers (R418): n Σdu − Σd Σu over n Σd² − (Σd)². -/
def lsSlope (h : List (Nat × Ratio)) : Ratio :=
  let n := h.length
  let sd := (h.map (·.1)).sum
  let sdd := (h.map (fun e => e.1 * e.1)).sum
  let su : Ratio := h.foldl (fun (a : Ratio) e => a.add e.2) ⟨0, 1⟩
  let sdu : Ratio := h.foldl (fun (a : Ratio) e => a.add (e.2.scale e.1)) ⟨0, 1⟩
  let top := (sdu.scale n).add (su.scale (-(sd : Int)))
  let bottom := n * sdd - sd * sd
  if bottom = 0 then ⟨0, 1⟩ else ⟨top.num, top.den * bottom⟩

namespace W

/-- A record written to log 0 under the next seq (R405, R408). -/
def writeRec (w : W) (r : RawRec) (carried : Bool) : W :=
  let seq := w.scr.nextSeq
  let flags := bitNat r.software + 2 * bitNat w.scr.lostFlag + 4 * bitNat carried
    + 8 * bitNat (decide (r.code < 0x100)) + 16 * bitNat r.unsync
  let e : RecEntry := ⟨r.code, flags, r.block, seq, r.stamp, r.p0, r.p1, r.p2, r.p3⟩
  let slot := (seq + 16383) % 16384
  let nx := (seq + 1) % 2 ^ 32
  let w := { w with scr := { w.scr with
    nextSeq := nx, lostFlag := false, log0 := tblPut slot e w.scr.log0 } }
  let w := if w.bit REC_CTRL_mirror_enable then w.mirrorItem 9 seq (recBytes e) else w
  let w := (w.set REC_LAST_SEQ_v seq).set REC_STATUS_held w.scr.log0.length
  let w := w.tally 0xD0
  if nx = 0 then w.ev REC_EVENT_seq_wrap 0 else w

/-- A record the Scrivener itself writes (block 0xFF). -/
def writeOwn (w : W) (code p0 p1 p2 p3 : Nat) : W :=
  w.writeRec ⟨code, false, w.tqCode == 0xF, 0xFF, w.ns, p0, p1, p2, p3⟩ false

def bucket (w : W) (code : Nat) : Bucket := (tblGet w.scr.buckets code).getD Bucket.fresh

def setBucket (w : W) (code : Nat) (b : Bucket) : W :=
  { w with scr := { w.scr with buckets := tblPut code b w.scr.buckets } }

/-- The SUPPRESSED record of a code, where records of it were suppressed, and the count cleared (R406). -/
def flushSup (w : W) (code : Nat) : W :=
  let b := w.bucket code
  if b.sup = 0 then w
  else (w.setBucket code { b with sup := 0 }).writeOwn 0x002 code b.sup b.firstSup 0

/-- The Scrivener writes: from START on, the first record of a start (R408). -/
def scrivenerOn (w : W) : Bool := w.mainOn && !w.sys.booting

/-- A token gained by a code's bucket where one is due (R406). -/
def gainToken (w : W) (code : Nat) : W :=
  let b := w.bucket code
  if b.intervalMs = 0 ∨ b.cap ≤ b.tokens ∨ w.tb.up < b.since + b.intervalMs * 1000000 then w
  else
    let w := w.setBucket code { b with tokens := b.tokens + 1, since := b.since + b.intervalMs * 1000000 }
    w.flushSup code

/-- Every token that is due gained, before a record of the code is judged (R406). -/
def gainDue (w : W) (code : Nat) : W := (upTo (w.bucket code).cap).foldl (fun (w : W) _ => w.gainToken code) w

/-- The oldest record of the FIFO taken: written, suppressed for want of a token, or discarded (R405, R406). -/
def takeRec (w : W) : W :=
  match w.scr.fifo with
  | [] => w
  | r :: t =>
    let w := { w with scr := { w.scr with fifo := t } }
    if r.code < 0x100 then w.writeRec r false
    else
      let w := w.gainDue r.code
      let b := w.bucket r.code
      if b.disable then w
      else if b.intervalMs = 0 then w.writeRec r false
      else if b.tokens = 0 then
        let w := w.setBucket r.code { b with sup := min 0xFFFFFFFF (b.sup + 1),
                                             firstSup := if b.sup = 0 then compact r.stamp else b.firstSup }
        ((w.bump REC_SUP_CNT_v 1).ev REC_EVENT_suppressed r.code).tally 0xD1
      else
        let since := if b.tokens = b.cap then w.tb.up else b.since
        (w.setBucket r.code { b with tokens := b.tokens - 1, since := since }).writeRec r false

/-- A 64-bit count shown in a pair of registers. -/
def show64 (w : W) (lo hi : Fld) (v : Nat) : W := (w.set lo (v % 2 ^ 32)).set hi (v / 2 ^ 32 % 2 ^ 32)

/-- All 288 counters copied, with the instant (R413). -/
def prfSnap (w : W) : W :=
  let w := { w with prf := { w.prf with snap := w.prf.cnt, selSnap := w.prf.sel } }
  ((w.set PRF_SNAP_NS_v w.nsec).set PRF_SNAP_SEC_LO_v (w.sec % 2 ^ 32)).set PRF_SNAP_SEC_HI_v (w.sec / 2 ^ 32)

def indicator (w : W) (i : Nat) : Indicator := (tblGet w.hlt.ind i).getD (Indicator.fresh i)

def setInd (w : W) (i : Nat) (x : Indicator) : W := { w with hlt := { w.hlt with ind := tblPut i x w.hlt.ind } }

/-- Whether u has reached `p` percent. -/
def reaches (u : Ratio) (p : Nat) : Bool := decide ((p : Int) * (max 1 u.den : Nat) ≤ 100 * u.num)

/-- The warnings of an indicator after a change of its raw quantity: near when u first reaches HLT_WARN, reached when
it first reaches 1 (R418). `day` is today's day number. -/
def wearCheck (w : W) (i day : Nat) : W :=
  let x := w.indicator i
  let u := x.u i
  let w := if !x.nearSet && reaches u (max 1 (w.get HLT_WARN_pct)) then
    (w.setInd i { x with nearSet := true }).ev HLT_EVENT_near i else w
  let x := w.indicator i
  if x.reachedDay.isNone && reaches u 100 then
    (w.setInd i { x with reachedDay := some day }).ev HLT_EVENT_reached i else w

/-- The predicted end of life from the samples held (R418); the date reads 0 where there is none (DESIGN CHOICE). -/
def predict (x : Indicator) : Indicator :=
  let none_ : Indicator := { x with eolState := 1, eol := ⟨0, 0, 0⟩ }
  match x.hist with
  | [] => none_
  | (d, u) :: _ =>
    if reaches u 100 then { x with eolState := 2, eol := dateOf (x.reachedDay.getD d) }
    else if x.hist.length < 14 then none_
    else
      let s := lsSlope x.hist
      if s.num ≤ 0 then none_
      else
        let top := ((max 1 u.den : Nat) - u.num) * s.den
        let bottom := (max 1 u.den : Nat) * s.num
        let days := ceilDiv top.toNat bottom.toNat
        { x with eolState := 0, eol := dateOf (min (d + days) (dayNumber ⟨9999, 12, 31⟩)) }

/-- An indicator's history that a Larder copy no longer gives back: it restarts (HLT_EVENT.history_lost). -/
def loseHistory (w : W) (i : Nat) : W :=
  let x := w.indicator i
  (w.setInd i (predict { x with hist := [] })).ev HLT_EVENT_history_lost i

/-- Today's day number on the RTC calendar. -/
def today (w : W) : Nat := w.rtc.secs / 86400

/-- A raw quantity of an indicator raised, while indicators are kept (R415). -/
def wear (w : W) (i : Nat) (n : Int) : W :=
  if w.bit HLT_CTRL_enable then
    let x := w.indicator i
    (w.setInd i { x with raw := x.raw + n }).wearCheck i w.today
  else w

/-- A raw quantity of an indicator measured anew; its first value is kept as C0 or ESR0 where none is. -/
def wearTo (w : W) (i : Nat) (v : Int) : W :=
  if w.bit HLT_CTRL_enable then
    let x := w.indicator i
    (w.setInd i { x with raw := v, ref := match x.ref with | some r => some r | none => some v.toNat }).wearCheck i w.today
  else w

/-- HLT_IND_RAW: reading LO shows the raw quantity and latches HI. -/
def showRaw (w : W) : W :=
  let i := w.get HLT_SEL_index
  if 40 ≤ i then w
  else w.show64 HLT_IND_RAW_LO_v HLT_IND_RAW_HI_v (unsgn 64 ((w.indicator i).raw / (rawUnit i : Nat)))

/-- The IND registers shown for the indicator in HLT_SEL. -/
def showInd (w : W) : W :=
  let i := w.get HLT_SEL_index
  if 40 ≤ i then w
  else
    let x := w.indicator i
    let u := x.u i
    let u100 : Nat := (u.num * 10000 / (max 1 u.den : Nat)).toNat
    let w := (w.set HLT_IND_U_u (min 0xFFFF u100)).set HLT_IND_U_days x.hist.length
    let w := ((w.set HLT_IND_EOL_day x.eol.day).set HLT_IND_EOL_month x.eol.month).set HLT_IND_EOL_year x.eol.year
    let w := w.set HLT_IND_EOL_state x.eolState
    w.set HLT_IND_RATED_v x.rated

end W

end Sys2Proof.Machine
end

