-- ==== Sys2Proof/Machine/LanTable.lean ====
section
/-! DEFINITION. The lantern table and its cache in the radio MAC (R250, R251), and waiting units of a block. -/

namespace Sys2Proof.Machine.W

/-- Units that wait for a queue, put into it while it has room. -/
def sendUnits (producer consumer : Nat) : Nat → W → List (List Byte) → W × List (List Byte)
  | 0, w, bs => (w, bs)
  | n + 1, w, bs =>
    match bs with
    | [] => (w, [])
    | b :: t =>
      if w.hasRoom producer consumer b.length then
        sendUnits producer consumer n (w.push producer consumer ⟨.bytes b, b.length, false⟩) t
      else (w, bs)

def setRad (w : W) (x : RadState) : W := { w with rad := x }

/-- Entries of the table, and where a radio's begin. -/
def lanSum (w : W) : Nat := (w.pat.active.lanterns.map id).sum
def lanFirst (w : W) (r : Nat) : Nat := ((w.pat.active.lanterns.take r).map id).sum
def lanCount (w : W) (r : Nat) : Nat := w.pat.active.lanterns.getD r 0

/-- The radio a global index belongs to. -/
def lanRadio (w : W) (g : Nat) : Nat :=
  ((upTo 4).find? (fun r => decide (w.lanFirst r ≤ g) && decide (g < w.lanFirst r + w.lanCount r))).getD 0

def lanAddr (w : W) (g : Nat) : Nat := w.pat.active.lanternBase + 128 * g

def setLanCache (w : W) (c : List (Nat × CacheLine)) : W :=
  (w.setRad { w.rad with cache := c }).set RAD_STATUS_cache_used c.length

/-- A dirty state half written back. -/
def lanBack (w : W) (g : Nat) : W :=
  match tblGet w.rad.cache g with
  | some l =>
    match l.dirty with
    | some _ => (w.wrBytes (w.lanAddr g + 72) (l.bytes.drop 72)).setLanCache (tblPut g { l with dirty := none } w.rad.cache)
    | none => w
  | none => w

def lanDrop (w : W) (g : Nat) : W :=
  let w := w.lanBack g
  w.setLanCache (tblDel g w.rad.cache)

/-- An entry brought into the cache: 8 ways of 512 sets, the least recently used giving way. -/
def lanFetch (w : W) (g : Nat) : W :=
  let n := w.rad.uses + 1
  let w := w.setRad { w.rad with uses := n }
  match tblGet w.rad.cache g with
  | some l => w.setLanCache (tblPut g { l with used := n } w.rad.cache)
  | none =>
    let ways := w.rad.cache.filter (fun e => e.1 % 512 == g % 512)
    let w :=
      if ways.length < 8 then w
      else match ways with
        | [] => w
        | h :: t => w.lanDrop (t.foldl (fun m e => if e.2.used < m.2.used then e else m) h).1
    w.setLanCache (tblPut g ⟨w.rdBytes (w.lanAddr g) 128, none, n⟩ w.rad.cache)

/-- An entry's bytes as the radio MAC sees them. -/
def lan (w : W) (g : Nat) : List Byte :=
  match tblGet w.rad.cache g with
  | some l => l.bytes
  | none => w.rdBytes (w.lanAddr g) 128

/-- A change of an entry's state half. -/
def setLan (w : W) (g : Nat) (f : List Byte → List Byte) : W :=
  let w := w.lanFetch g
  match tblGet w.rad.cache g with
  | some l =>
    let d := match l.dirty with | some u => some u | none => some w.tb.up
    w.setLanCache (tblPut g { l with bytes := f l.bytes, dirty := d } w.rad.cache)
  | none => w

/-- F written by the Lamplighter through the table port: always coherent. -/
def levelWrite (w : W) (g f : Nat) : W :=
  let w := w.wrLe (w.lanAddr g + 64) 2 f
  match tblGet w.rad.cache g with
  | some l =>
    let l : CacheLine := { l with bytes := l.bytes.take 64 ++ leBytes 2 f ++ l.bytes.drop 66 }
    w.setRad { w.rad with cache := tblPut g l w.rad.cache }
  | none => w

end Sys2Proof.Machine.W
end

