-- ==== Sys2Proof/Machine/LmpOps.lean ====
section
/-! DEFINITION. The Lamplighter's shared operations: programmes, scenes, lift, the field, grid response, contactors, local
outputs and orders (R198 to R222). -/

namespace Sys2Proof

/-- The altitude of the centre of the sun, in 10^-6 degree, by latitude and longitude in 10^-6 degree and UTC second since
1970: the manual gives no formula. -/
opaque Config.sunAltitude (lat lon utc : Int) : Int

/-- The minutes by which an instant the module computes differs from the sun's (R202), by kind, latitude, longitude and
day. -/
opaque Config.sunError (kind : Nat) (lat lon day : Int) : Int

end Sys2Proof

namespace Sys2Proof.Machine

/-- A day in ns. -/
def dayNs : Int := 86400000000000

/-- The output of a lantern or local string from F (R199 step 4). -/
def outLevel (f stage delta floor : Nat) : Nat :=
  if f = 0 then 0 else if stage = 0 then f else min f (max (f - delta) floor)

/-- Whether an entry passes LOAD's range checks (R207): reserved bits 0, and each neighbour in the table at a distance
above 0. -/
def fieldOk (n : Nat) (b : List Byte) : Bool :=
  decide (le b 0 2 ≤ 1023) && decide (le b 2 1 < 8) && decide (le b 3 1 ≤ 7) && allZero (cut b 28 4) &&
    (upTo 8).all (fun k => le b (4 + 3 * k) 2 == 0xFFFF || (decide (le b (4 + 3 * k) 2 < n) && le b (6 + 3 * k) 1 != 0))

/-- A loaded entry. -/
def fieldOf (b : List Byte) : FieldEnt :=
  ⟨le b 0 2, le b 2 1, le b 3 1, (upTo 8).map (fun k => (le b (4 + 3 * k) 2, le b (6 + 3 * k) 1))⟩

/-- The entry's slot that lists a neighbour. -/
def FieldEnt.slotOf (e : FieldEnt) (m : Nat) : Option Nat :=
  (upTo 8).find? (fun k => (e.nbr.getD k (0xFFFF, 0)).1 == m && m != 0xFFFF)

/-- Neighbours with distances. -/
def FieldEnt.near (e : FieldEnt) : List (Nat × Nat) := e.nbr.filter (fun x => x.1 != 0xFFFF)

namespace W

def setLmp (w : W) (x : LmpState) : W := { w with lmp := x }
def lmpOn (w : W) : Bool := w.loom && w.pat.active.hasEngine 5

/-- A present lantern's loaded entry: until a LOAD_ALL every lantern counts as absent (R221). -/
def fieldAt (w : W) (i : Nat) : Option FieldEnt :=
  match (if w.bit LMP_STATUS_loaded then tblGet w.lmp.field i else none) with
  | some e => if tst e.flags 0 then some e else none
  | none => none

/-! ## Local time and programmes (R201 to R203) -/

def offsetMin (w : W) : Int := clip (-1080) 1080 (sgn 16 (w.get LMP_LOCAL_offset_min))

/-- Local time in ns of a TAI instant. -/
def localNs (w : W) (t : Nat) : Int :=
  (t : Int) - sgn 16 (w.get TBS_UTC_OFFSET_tai_utc) * 1000000000 + w.offsetMin * 60000000000

/-- The local day of a local time, days since 1970-01-01. -/
def dayOf (l : Int) : Int := l / dayNs

/-- An astronomical instant of a local day (1 sunset, 2 sunrise, 3 civil dusk, 4 civil dawn): the first minute in which the
sun passes −0.833° or −6°, if any, downward for 1 and 3, upward for 2 and 4, stated in whole minutes within ±2 min of it for
latitudes to ±60°, beyond those with any error (R202). -/
def sunAt (w : W) (kind : Nat) (day : Int) : Option Nat :=
  let lat := clip (-90000000) 90000000 (sgn 32 (w.get LMP_ASTRO_LAT_v))
  let lon := clip (-180000000) 180000000 (sgn 32 (w.get LMP_ASTRO_LON_v))
  let above (m : Nat) : Bool :=
    decide ((if kind ≤ 2 then -833000 else -6000000)
      ≤ Config.sunAltitude lat lon (day * 86400 + ((m : Int) - w.offsetMin) * 60))
  match (upTo 1440).find? (fun m => above m == (kind == 1 || kind == 3) && above (m + 1) == (kind == 2 || kind == 4)) with
  | none => none
  | some m =>
    let err := Config.sunError kind lat lon day
    let err := if lat.natAbs ≤ 60000000 then clip (-1) 2 err else err
    some (clip 0 1439 ((m : Int) + err)).toNat

/-- The instant of step k of a programme on a local day. -/
def stepInstant (w : W) (p k : Nat) (day : Int) : Option Int :=
  let ref := w.get (LMP_PRG_STEPA_ref p k)
  let m := sgn 16 (w.get (LMP_PRG_STEPA_minutes p k))
  let wd := weekdayOf day.toNat
  if 5 ≤ ref || !tst (w.get (LMP_PRG_STEPA_days p k)) (wd - 1) then none
  else if ref = 0 then some (day * dayNs + clip 0 1439 (w.get (LMP_PRG_STEPA_minutes p k)) * 60000000000)
  else match w.sunAt ref day with
    | some s => some (day * dayNs + ((s : Int) + clip (-720) 720 m) * 60000000000)
    | none => none

/-- The latest step instant up to a local time within seven days back from a date, on equal instants the higher step. -/
def stepFrom (w : W) (p : Nat) (l today : Int) : Option (Nat × Int) :=
  ((upTo 7).map (fun (d : Nat) => today - d)).foldl (fun (best : Option (Nat × Int)) day =>
    (upTo 16).foldl (fun best k =>
      match w.stepInstant p k day with
      | some i =>
        if l < i then best
        else match best with
          | none => some (k, i)
          | some (k', i') => if i' < i ∨ (i' = i ∧ k' < k) then some (k, i) else best
      | none => best) best) none

/-- The step in force at a local time: the latest instant of seven days. -/
def stepAt (w : W) (p : Nat) (l : Int) : Option (Nat × Int) := w.stepFrom p l (dayOf l)

/-- Weeks looked back for the step whose scene still holds: 28 years, after which dates fall on the same weekdays. -/
def sceneWeeks : Nat := 1461

/-- The programme level at a local time (R203); the recursion ends at a step whose fade is complete. -/
def programmeLevel (w : W) (p : Nat) : Nat → Int → Nat
  | 0, _ => 0
  | n + 1, l =>
    match w.stepAt p l with
    | none => 0
    | some (k, i) =>
      let level := w.get (LMP_PRG_STEPB_level p k)
      let fade : Int := w.get (LMP_PRG_STEPB_fade_s p k) * 1000000000
      if fade ≤ l - i then level
      else
        let prev := w.programmeLevel p n (i - 1)
        (roundDiv ((prev : Int) * fade + ((level : Int) - prev) * (l - i)) fade.toNat).toNat

/-- A programme has a step with a reference and a weekday. -/
def hasSteps (w : W) (p : Nat) : Bool :=
  (upTo 16).any (fun k => decide (w.get (LMP_PRG_STEPA_ref p k) < 5) && w.get (LMP_PRG_STEPA_days p k) != 0)

/-- The scene that a programme's last step instant activates for its groups: it holds until the programme's next step instant,
however far that is (R203). -/
def stepScene (w : W) (p : Nat) (l : Int) : Option Nat :=
  match (if w.hasSteps p then (upTo sceneWeeks).findSome? (fun (k : Nat) => w.stepFrom p l (dayOf l - 7 * k)) else none) with
  | some (k, _) => if w.bit (LMP_PRG_STEPB_use_scene p k) then some (w.get (LMP_PRG_STEPB_scene p k)) else none
  | none => none

/-! ## Scenes and the base level (R199, R205) -/

/-- The highest-numbered entry of a scene that covers a group: level and no_lift. -/
def sceneFor (w : W) (s g : Nat) : Option (Nat × Bool) :=
  match ((upTo 16).filter (fun e => w.bit (LMP_SCN_valid s e) && decide (w.get (LMP_SCN_first s e) ≤ g)
      && decide (g ≤ w.get (LMP_SCN_last s e)))).getLast? with
  | some e => some (w.get (LMP_SCN_level s e), w.bit (LMP_SCN_no_lift s e))
  | none => none

/-- Scenes active for a group at a local time, highest number first. -/
def activeScenes (w : W) (g : Nat) (l : Int) : List Nat :=
  let p := w.stepScene (w.get (LMP_GRP_CFG_programme g)) l
  (upTo 256).reverse.filter (fun s => tst (w.get (LMP_SCENE_ACT_v (s / 32))) (s % 32) || w.lmp.scenes.contains s
    || p == some s)

/-- Base level of a group at a TAI instant, and whether the covering scene has no_lift. -/
def baseOf (w : W) (g t : Nat) : Nat × Bool :=
  let l := w.localNs t
  if !w.bit (LMP_GRP_CFG_enable g) then (0, false)
  else if w.bit (LMP_GRP_CFG_ovr_on g) then (w.get (LMP_GRP_CFG_ovr_level g), false)
  else match (w.activeScenes g l).findSome? (fun s => w.sceneFor s g) with
    | some x => x
    | none => (w.programmeLevel (w.get (LMP_GRP_CFG_programme g)) 64 l, false)

/-! ## Traffic lift (R208 to R212) -/

/-- Paths of R209 and neighbourhoods of R211: lanterns still to be looked at, the path so far. -/
def growPath (w : W) (limit : Nat) : Nat → List PathPt → List PathPt → List PathPt
  | 0, _, path => path
  | n + 1, todo, path =>
    match todo with
    | [] => path
    | h :: t =>
      let b := t.foldl (fun (m : PathPt) e => if e.x < m.x then e else m) h
      let rest := todo.filter (fun e => e.lantern != b.lantern)
      match w.fieldAt b.lantern with
      | none => w.growPath limit n rest path
      | some e =>
        let next := match e.slotOf b.parent with
          | some k =>
            let o := e.nbr.getD (k ^^^ 1) (0xFFFF, 0)
            if o.1 != 0xFFFF then [o] else e.near.filter (fun x => x.1 != b.parent)
          | none => e.near.filter (fun x => x.1 != b.parent)
        let r := next.foldl (fun (s : List PathPt × List PathPt) m =>
          if s.2.any (fun x => x.lantern == m.1) || decide (limit ≤ s.2.length) || (w.fieldAt m.1).isNone then s
          else (s.1 ++ [⟨m.1, b.x + m.2, b.lantern⟩], s.2 ++ [⟨m.1, b.x + m.2, b.lantern⟩])) (rest, path)
        w.growPath limit n r.1 r.2

def pathMax (w : W) : Nat := let p := w.get LMP_TRACK_CFG_path_max; if 1 ≤ p ∧ p ≤ 64 then p else 64

/-- The path of a road user from lantern o toward its neighbour n. -/
def pathOf (w : W) (o n : Nat) : List PathPt :=
  let start : PathPt := ⟨o, 0, 0xFFFF⟩
  match w.fieldAt o with
  | some e =>
    match e.slotOf n with
    | some k =>
      let d := (e.nbr.getD k (0, 0)).2
      if w.pathMax ≤ 1 || (w.fieldAt n).isNone then [start]
      else w.growPath w.pathMax 80 [⟨n, d, o⟩] [start, ⟨n, d, o⟩]
    | none => [start]
  | none => []

/-- Lanterns within a distance (0.5 m) over the neighbour graph. -/
def nearTo (w : W) (limit : Nat) : Nat → List (Nat × Nat) → List Nat → List Nat
  | 0, _, done => done
  | n + 1, todo, done =>
    match todo with
    | [] => done
    | h :: t =>
      let b := t.foldl (fun (m : Nat × Nat) e => if e.2 < m.2 then e else m) h
      let rest := todo.filter (fun e => e != b)
      if done.contains b.1 || decide (limit < b.2) then w.nearTo limit n rest done
      else match w.fieldAt b.1 with
        | some e => w.nearTo limit n (rest ++ (e.near.map (fun m => (m.1, b.2 + m.2))).filter (fun m => decide (m.2 ≤ limit)))
            (done ++ [b.1])
        | none => w.nearTo limit n rest done

def classLift (w : W) (c : Nat) : Nat :=
  if c = 0 then w.get LMP_CLASS_LIFT0_level else if c = 1 then w.get LMP_CLASS_LIFT1_level
  else if c = 2 then w.get LMP_CLASS_LIFT2_level else w.get LMP_CLASS_LIFT3_level

/-- lead_s and hold_s in ns. -/
def leadNs (w : W) : Int := w.get LMP_LIFT_CFG_lead_ds * 100000000
def holdNs (w : W) : Int := w.get LMP_LIFT_CFG_hold_ds * 100000000

/-- Passing time tp − t_d of a distance x in 0.5 m at v in 0.1 m/s is 5·x/v s; the comparisons are made times v. -/
def passed (w : W) (k : Track) (x t : Nat) : Bool := decide (((k.td : Int) + w.holdNs) * k.speed + 5000000000 * x < (t : Int) * k.speed)
def lifts (w : W) (k : Track) (x t : Nat) : Bool :=
  decide (((k.td : Int) - w.leadNs) * k.speed + 5000000000 * x ≤ (t : Int) * k.speed) && !w.passed k x t

/-- The track registers of the selection, and their count. -/
def showTracks (w : W) : W :=
  let n := w.get LMP_TRK_SEL_track
  let w := w.set LMP_TRACKS_v w.lmp.tracks.length
  match tblGet w.lmp.tracks n with
  | some k =>
    let w := (w.set LMP_TRK_INFO0_lantern k.lantern).set LMP_TRK_INFO0_class k.cls
    ((w.set LMP_TRK_INFO0_speed k.speed).set LMP_TRK_INFO1_toward k.toward).set LMP_TRK_INFO1_valid 1
  | none =>
    let w := (w.set LMP_TRK_INFO0_lantern 0).set LMP_TRK_INFO0_class 0
    ((w.set LMP_TRK_INFO0_speed 0).set LMP_TRK_INFO1_toward 0).set LMP_TRK_INFO1_valid 0

/-- LMP_LEVEL of the selected lantern. -/
def showLevel (w : W) : W :=
  let x := (tblGet w.lmp.levels (w.get LMP_LEVEL_SEL_lantern)).getD (0, 0, 0)
  ((w.set LMP_LEVEL_f x.1).set LMP_LEVEL_lift x.2.1).set LMP_LEVEL_out x.2.2

/-- A track stored under its number; where its path reaches an edge lantern the event is set (R209). -/
def putTrack (w : W) (n : Nat) (k : Track) : W :=
  let w := (w.setLmp { w.lmp with tracks := tblPut n k w.lmp.tracks }).showTracks
  if k.path.any (fun x => match w.fieldAt x.lantern with | some e => tst e.flags 1 | none => false) then w.evEach LMP_EVENT_edge n
  else w

/-- A moving event: an existing track re-anchored, or a new one (R209, R212). -/
def moving (w : W) (cls o n speed td : Nat) : W :=
  let catch_ : Int := w.get LMP_TRACK_CFG_catch_ds * 100000000
  let fits (k : Track) : Bool :=
    k.cls == cls &&
      (match k.path.find? (fun x => x.lantern == o) with
      | some p =>
        let gap := ((td : Int) - k.td) * k.speed - 5000000000 * p.x
        k.path.any (fun c => c.lantern == n && c.parent == o) && decide (-(catch_ * k.speed) ≤ gap) && decide (gap ≤ catch_ * k.speed)
      | none => false)
  let new : Track := ⟨cls, o, n, speed, td, w.tb.up, w.pathOf o n⟩
  match w.lmp.tracks.find? (fun e => fits e.2) with
  | some (j, k) => w.putTrack j { new with born := k.born }
  | none =>
    match (upTo 1024).find? (fun j => (tblGet w.lmp.tracks j).isNone) with
    | some j => w.putTrack j new
    | none =>
      match w.lmp.tracks with
      | [] => w
      | h :: t =>
        let old := t.foldl (fun (m : Nat × Track) e => if e.2.born < m.2.born then e else m) h
        (w.bump LMP_TRACK_REPL_CNT_v 1).putTrack old.1 new

/-- A sensor event record taken (R208 to R212); one of another class, or whose detection stamp is invalid (R10), is dropped
(DESIGN CHOICE). -/
def sensorEvent (w : W) (b : List Byte) : W :=
  let w := (w.bump LMP_EVENTS_CNT_v 1).tally 0x82
  if !w.bit LMP_CTRL_lift_enable then w
  else
    let o := le b 2 2
    let cls := le b 1 1
    let n := le b 4 2
    let speed := min 600 (le b 6 2)
    let td := le b 8 4 + 1000000000 * le b 12 6
    match w.fieldAt o with
    | none => w.bump LMP_EVENT_DROP_CNT_v 1
    | some e =>
      if 3 < cls ∨ w.lanSum ≤ o ∨ 999999999 < le b 8 4 then w.bump LMP_EVENT_DROP_CNT_v 1
      else if speed != 0 && (e.slotOf n).isSome then w.moving cls o n speed td
      else
        let ls := w.nearTo (2 * w.get LMP_LIFT_CFG_presence_m) 140000 [(o, 0)] []
        w.setLmp { w.lmp with pres := w.lmp.pres ++ [⟨cls, td, ls⟩] }

/-- A lantern's contributions at an instant. -/
def contributions (w : W) (i t : Nat) : List Nat :=
  (w.lmp.tracks.filterMap (fun e =>
      match e.2.path.find? (fun x => x.lantern == i) with
      | some x => if w.lifts e.2 x.x t then some (w.classLift e.2.cls) else none
      | none => none))
    ++ (w.lmp.pres.filterMap (fun p =>
      if p.lanterns.contains i && decide ((t : Int) ≤ p.td + w.holdNs) then some (w.classLift p.cls) else none))

/-- The lift of a lantern at a cycle and its memory after it (R210). -/
def liftOf (w : W) (i t : Nat) : Nat × LiftMem :=
  let m := (tblGet w.lmp.mem i).getD ⟨0, 0, false, 0⟩
  let c := w.contributions i t
  let m : LiftMem := if c.isEmpty && m.isOn then { m with p := m.held, tEnd := t, isOn := false } else m
  let decay : Nat := 1000000000 * max 1 (w.get LMP_LIFT_CFG_decay_s)
  let gone := t - m.tEnd
  let left := if decay ≤ gone then 0 else (roundDiv ((m.p * (decay - gone) : Nat) : Int) decay).toNat
  let lift := max (c.foldl max 0) left
  (lift, if c.isEmpty then m else { m with isOn := true, held := lift })

/-! ## Units for the radio MAC and the Chandler -/

/-- Waiting units sent on; the standby of a pair puts nothing into the radio MAC queue (R428). -/
def lmpFlush (w : W) : W :=
  let (w, r) := sendUnits 0x0A 0x0B w.lmp.toRad.length w w.lmp.toRad
  let (w, l) := sendUnits 0x0A 0x0D w.lmp.toLed.length w w.lmp.toLed
  w.setLmp { w.lmp with toRad := r, toLed := l }

def toRadio (w : W) (b : List Byte) : W :=
  match w.pat.active.path 0x0A 0x0B with
  | some _ => if w.isStandby then w else (w.setLmp { w.lmp with toRad := w.lmp.toRad ++ [b] }).lmpFlush
  | none => w

def toChandler (w : W) (b : List Byte) : W :=
  match w.pat.active.path 0x0A 0x0D with
  | some _ => (w.setLmp { w.lmp with toLed := w.lmp.toLed ++ [b] }).lmpFlush
  | none => w

/-! ## Stages (R213 to R215) -/

/-- delta and floor of a class at a stage. -/
def stageCls (w : W) (s c : Nat) : Nat × Nat :=
  if s = 0 then (0, 0) else (w.get (LMP_STAGE_CLS_delta (s - 1) c), w.get (LMP_STAGE_CLS_floor (s - 1) c))

def grState (w : W) (n : Nat) : Nat := w.get (LMP_GR1_state (n - 1))
def setGr (w : W) (n st : Nat) : W := w.set (LMP_GR1_state (n - 1)) st

/-- Entries that are ACTIVE or RELEASING. -/
def grLive (w : W) : List Nat := ((upTo 255).map (· + 1)).filter (fun n => w.grState n == 1 || w.grState n == 2)

def calcStage (w : W) : Nat :=
  let forced := if w.bit LMP_STAGE_FORCE_force then w.get LMP_STAGE_FORCE_stage else 0
  (w.grLive.map (fun n => w.get (LMP_GR0_stage (n - 1)))).foldl max forced

def shedMask (w : W) : Nat := (w.grLive.map (fun n => w.get (LMP_GR1_mask (n - 1)))).foldl (· ||| ·) 0

/-- The grid-state record (R215). -/
def gridBytes (w : W) (stage seq restore decided : Nat) : List Byte :=
  leBytes 1 0x31 ++ leBytes 1 stage ++ leBytes 2 seq ++ leBytes 1 restore ++ leBytes 3 0
    ++ ((upTo 8).map (fun c => leBytes 2 (w.stageCls stage c).1)).flatten
    ++ ((upTo 8).map (fun c => leBytes 2 (w.stageCls stage c).2)).flatten ++ leBytes 8 decided

/-- The base level of a group as the field stands: that of the last cycle (R200), before the first that of now (DESIGN
CHOICE). -/
def baseNow (w : W) (g : Nat) : Nat :=
  match w.lmp.bases[g]? with
  | some x => x
  | none => (w.baseOf g w.ns).1

/-- The level a local output asks for, as the field stands. -/
def localTarget (w : W) (k : Nat) : Nat :=
  if !w.bit LMP_CTRL_enable || !w.bit (LMP_LOCAL_MAP_enable k) then 0
  else
    let s := w.get LMP_STATUS_stage
    let c := w.stageCls s (w.get (LMP_LOCAL_MAP_class k))
    outLevel (w.baseNow (w.get (LMP_LOCAL_MAP_group k))) s c.1 c.2

/-- restore_s of a fall of the stage: the largest of the entries that have just left a higher stage, given by their
stage and restore_s (R215). -/
def restoreOf (w : W) (left : List (Nat × Nat)) : Nat :=
  let new := w.calcStage
  let above := left.filter (fun e => decide (new < e.1))
  if new < w.get LMP_STATUS_stage then (above.map (·.2)).foldl max 0 else 0

/-- An entry's stage and restore_s. -/
def grPair (w : W) (n : Nat) : Nat × Nat := (w.get (LMP_GR0_stage (n - 1)), w.get (LMP_GR0_restore_s (n - 1)))

/-- The grid-state item of the mirror (R426). -/
def gridItem (w : W) (restore : Nat) : List Byte :=
  let st (n : Nat) : Nat := if n = 0 then 0 else w.grState n
  leBytes 1 (w.get LMP_STATUS_stage) ++ leBytes 1 restore ++ leBytes 2 (w.get LMP_STATUS_gr_seq) ++ List.replicate 4 0
    ++ (upTo 64).map (fun k => BitVec.ofNat 8 (st (4 * k) + 4 * st (4 * k + 1) + 16 * st (4 * k + 2) + 64 * st (4 * k + 3)))

/-- The stage judged anew, `left` being the entries that have just left: a change gives a grid state and, on a fall with
restore_s, ramps of the local outputs (R214, R215, R218). -/
def stageUpdate (w : W) (left : List (Nat × Nat)) : W :=
  let old := w.get LMP_STATUS_stage
  let new := w.calcStage
  if old = new || w.isStandby then w
  else
    let restore := w.restoreOf left
    let seq := (w.get LMP_STATUS_gr_seq + 1) % 2 ^ 16
    let w := (w.set LMP_STATUS_stage new).set LMP_STATUS_gr_seq seq
    let rs : List (Nat × Ramp) := if restore = 0 then []
      else (upTo 20).filterMap (fun k =>
        let cur := (tblGet w.lmp.outs k).getD 0
        if cur < w.localTarget k then some (k, ⟨cur, w.ns, restore⟩) else none)
    let w := w.setLmp { w.lmp with ramps := rs }
    w.toRadio (w.gridBytes new seq restore w.ns)

/-! ## Contactors (R217) -/

/-- Whether a drive is to be energised now, and whether by the shed mask. -/
def conWant (w : W) (k : Nat) : Bool × Bool :=
  let m := w.get (LMP_CON_CFG_mode k)
  let shed := tst w.shedMask k
  if !w.bit LMP_CTRL_enable then (false, false)
  else if m = 0 then (shed, shed)
  else if m = 1 then (shed || w.baseNow (w.get (LMP_CON_CFG_group k)) == 0, shed)
  else if m = 2 then (true, false)
  else (false, false)

/-- A drive's state changed; con_limit where the change has waited (R217). A drive in safe state energises no contactor
(R452). -/
def conSet (w : W) (k : Nat) (isOn : Bool) : W :=
  let w := if w.lmp.conWait.contains k then w.ev LMP_EVENT_con_limit 0 else w
  let w := w.setLmp { w.lmp with conWait := w.lmp.conWait.filter (· != k) }
  let d := w.get LMP_CON_STATE_drives
  let w := w.set LMP_CON_STATE_drives (if isOn then d ||| 2 ^ k else d - 2 ^ k)
  let w := (w.setLmp { w.lmp with con := tblPut k w.tb.up w.lmp.con }).tally 0x83
  if isOn ∧ w.pinFunc (0x68 + k) = 6 then w.wear (4 + k) 1 else w

def conOn (w : W) (k : Nat) : Bool := tst (w.get LMP_CON_STATE_drives) k

/-- A drive may change now, at most once in min_switch_s. -/
def conFree (w : W) (k : Nat) : Bool :=
  match tblGet w.lmp.con k with
  | some u => decide (u + 1000000000 * w.get (LMP_CON_CFG_min_switch_s k) ≤ w.tb.up)
  | none => true

/-- Every drive judged, once a decision or a cycle has come (R221): an energising by the shed mask and a de-energising by
enable 0 act at once, another change inside min_switch_s waits. -/
def conUpdate (w : W) : W :=
  if !w.lmp.judged then w
  else (upTo 16).foldl (fun w k =>
    let (want, shed) := w.conWant k
    if want == w.conOn k then w.setLmp { w.lmp with conWait := w.lmp.conWait.filter (· != k) }
    else if w.conFree k then w.conSet k want
    else if (want && shed) || (!want && !w.bit LMP_CTRL_enable) then
      (w.setLmp { w.lmp with conWait := w.lmp.conWait.filter (· != k) }).conSet k want
    else w.setLmp { w.lmp with conWait := w.lmp.conWait.filter (· != k) ++ [k] }) w

/-! ## Local outputs (R218, R274) -/

/-- Local output k at an instant, its ramp applied. -/
def localStep (w : W) (k t : Nat) : W :=
  let target := w.localTarget k
  let cur := (tblGet w.lmp.outs k).getD 0
  let put (w : W) (v : Nat) (keep : Bool) : W :=
    w.setLmp { w.lmp with outs := tblPut k v w.lmp.outs
                          ramps := if keep then w.lmp.ramps else tblDel k w.lmp.ramps }
  match tblGet w.lmp.ramps k with
  | some r =>
    let el := t - r.start
    let len := 1000000000 * r.secs
    if target ≤ cur ∨ len ≤ el then put w target false
    else put w (max cur (r.base + (roundDiv ((((target - r.base) * el : Nat)) : Int) len).toNat)) true
  | none => put w target false

/-- The record for the Chandler at an instant: the fire's in a cycle, the decision's otherwise. -/
def ledRecord (w : W) (urgent : Bool) (t : Nat) : W :=
  let w := (upTo 20).foldl (fun w k => w.localStep k t) w
  let outs := ((upTo 20).map (fun k =>
    let isOn := w.bit (LMP_LOCAL_MAP_enable k)
    leBytes 2 (if isOn then (tblGet w.lmp.outs k).getD 0 + 0x8000 else 0))).flatten
  w.toChandler (padTo 64 (leBytes 1 0x35 ++ leBytes 1 (bitNat urgent) ++ leBytes 2 (w.get LMP_STATUS_gr_seq) ++ leBytes 4 0
    ++ leBytes 8 t ++ outs))

/-- What follows a change of the response entries, the forced stage or the contactor masks: the stage, the drives, the
item for the partner. -/
def follow (w : W) (left : List (Nat × Nat)) : W :=
  let restore := w.restoreOf left
  let w := (w.stageUpdate left).conUpdate
  w.mirrorItem 6 0 (w.gridItem restore)

/-- A decision: the drives follow from now on, and a record goes to the Chandler (R213, R218, R221). -/
def decision (w : W) : W := ((w.setLmp { w.lmp with judged := true }).follow []).ledRecord true w.ns

/-- Entries sent to IDLE at once; answers what those that were not IDLE held. -/
def grIdle (w : W) (ns : List Nat) : W × List (Nat × Nat) :=
  let live := ns.filter (fun n => w.grLive.contains n)
  (live.foldl (fun w n => w.setGr n 0) w, live.map w.grPair)

/-- The astronomical instants of the local date at an instant, where a new date has begun or location or offset were written
(R202). A local midnight that has passed raises cfg_seq (R234); the first computation after reset is none. -/
def astroCheck (w : W) (t : Nat) : W :=
  let day := dayOf (w.localNs t)
  if w.lmp.astroDay = some day ∧ !w.lmp.astroDue then w
  else
    let midnight : Bool := match w.lmp.astroDay with | some d => decide (d < day) | none => false
    let w := w.setLmp { w.lmp with astroDay := some day, astroDue := false }
    let m (k : Nat) : Nat := (w.sunAt k day).getD 0x7FF
    let some_ := (upTo 4).any (fun k => (w.sunAt (k + 1) day).isNone)
    let w := (w.set LMP_ASTRO_TIMES0_first (m 1)).set LMP_ASTRO_TIMES0_second (m 2)
    let w := (w.set LMP_ASTRO_TIMES1_first (m 3)).set LMP_ASTRO_TIMES1_second (m 4)
    let w := if some_ then w.ev LMP_EVENT_astro_none 0 else w
    if midnight then w.setRad { w.rad with cfgSeq := (w.rad.cfgSeq + 1) % 2 ^ 16 } else w

/-- LMP_LOCAL, latitude or longitude written, `old` being the word LMP_LOCAL held: the instants are due, and a date that moves
with the offset is no midnight. -/
def astroWritten (w : W) (old : W32) (offset : Bool) : W :=
  let l := w.localNs w.ns
  let was := if offset then l + (clip (-1080) 1080 (sgn 16 (old.toNat % 2 ^ 16)) - w.offsetMin) * 60000000000 else l
  let day := match w.lmp.astroDay with
    | some d => if d = dayOf was then some (dayOf l) else some d
    | none => none
  w.setLmp { w.lmp with astroDay := day, astroDue := true }

/-! ## The field cycle (R199, R200) -/

/-- One lantern in a cycle. -/
def lanternCycle (w : W) (i t : Nat) : W :=
  match w.fieldAt i with
  | none =>
    let w := if le (w.lan i) 64 2 = 0 then w else w.levelWrite i 0
    w.setLmp { w.lmp with levels := tblDel i w.lmp.levels, mem := tblDel i w.lmp.mem }
  | some e =>
    let g := e.group
    let (base, sceneNo) := w.baseOf g t
    let (lift, m) := w.liftOf i t
    let none_ := !w.bit LMP_CTRL_lift_enable || w.bit (LMP_GRP_CFG_no_lift g) || sceneNo || tst e.flags 2
      || (base == 0 && !w.bit (LMP_GRP_CFG_lift_at_off g))
    let lift := if none_ then 0 else lift
    let f := if w.bit LMP_CTRL_enable then max base lift else 0
    let s := w.get LMP_STATUS_stage
    let c := w.stageCls s e.cls
    let w := w.setLmp { w.lmp with mem := tblPut i m w.lmp.mem, levels := tblPut i (f, lift, outLevel f s c.1 c.2) w.lmp.levels }
    if le (w.lan i) 64 2 = f then w else w.levelWrite i f

/-- A fire of target 0x3: a cycle at the fire instant, or a fire skipped while the last one runs. It takes the entries
loaded, the bases of every group and the astronomical instants where they are due, and judges the stage (R200 to R202,
R207, R214). -/
def fieldCycle (w : W) (t : Nat) : W :=
  if !w.lmpOn then w
  else if w.lmp.busy then w.bump LMP_OVERRUN_CNT_v 1
  else
    let w := if w.bit LMP_STATUS_loaded then w.setLmp { w.lmp with
        field := w.lmp.fieldNew.foldl (fun f e => tblPut e.1 e.2 f) w.lmp.field, fieldNew := [] } else w
    let w := w.astroCheck t
    let w := w.setLmp { w.lmp with bases := (upTo 1024).map (fun g => (w.baseOf g t).1), judged := true }
    let w := w.stageUpdate []
    let is_ := (w.lmp.field.map (·.1)).filter (fun i => decide (i < w.lanSum))
    let w := is_.foldl (fun w i => w.lanternCycle i t) w
    let w := w.setLmp { w.lmp with
      busy := true
      tracks := w.lmp.tracks.filter (fun e => e.2.path.any (fun x => !w.passed e.2 x.x t))
      pres := w.lmp.pres.filter (fun p => decide ((t : Int) ≤ p.td + w.holdNs)) }
    (((w.conUpdate).ledRecord false t).showTracks).showLevel

/-- A register of the Lamplighter that holds settings, for the partner. -/
def lmpTold (w : W) (addr : Nat) : W :=
  w.mirrorItem 5 (addr - 0x400A0000) (leBytes 4 (w.regs.rd addr).toNat)

/-! ## Orders (R219) -/

/-- An order's entries: op, arg, first, last, level. -/
def orderEntries (b : List Byte) : List (Nat × Nat × Nat × Nat × Nat) :=
  (upTo (le b 2 2)).map (fun e =>
    let a := 8 + 8 * e
    (le b a 1, le b (a + 1) 1, le b (a + 2) 2, le b (a + 4) 2, le b (a + 6) 2))

/-- A payload within the ranges of R219. -/
def orderOk (b : List Byte) : Bool :=
  let n := le b 2 2
  le b 0 1 == 0x4C && le b 1 1 == 1 && decide (1 ≤ n) && decide (n ≤ 127) && allZero (cut b 4 4)
    && decide (8 + 8 * n ≤ b.length) && (orderEntries b).all (fun e =>
      decide (1 ≤ e.1) && decide (e.1 ≤ 5) && decide (e.2.2.1 ≤ 1023) && decide (e.2.2.2.1 ≤ 1023)
        && decide (e.2.2.2.2 ≤ 1023) && (e.1 != 5 || decide (e.2.1 ≤ 7)))

/-- One entry of an order in force: what it writes are settings (R221, R391, R426). -/
def orderEntry (w : W) (e : Nat × Nat × Nat × Nat × Nat) : W :=
  let (op, arg, first, last, level) := e
  let groups := (upTo 1024).filter (fun g => decide (first ≤ g) && decide (g ≤ last))
  if op = 1 then w.setLmp { w.lmp with scenes := arg :: w.lmp.scenes.filter (· != arg) }
  else if op = 2 then w.setLmp { w.lmp with scenes := w.lmp.scenes.filter (· != arg) }
  else if op = 3 then
    (groups.foldl (fun w g => ((w.set (LMP_GRP_CFG_ovr_on g) 1).set (LMP_GRP_CFG_ovr_level g) level).lmpTold
      (LMP_GRP_CFG_ovr_on g).addr) w).dirty
  else if op = 4 then
    (groups.foldl (fun w g => (w.set (LMP_GRP_CFG_ovr_on g) 0).lmpTold (LMP_GRP_CFG_ovr_on g).addr) w).dirty
  else (((w.setB LMP_STAGE_FORCE_force (arg != 0)).set LMP_STAGE_FORCE_stage arg).lmpTold LMP_STAGE_FORCE_stage.addr).dirty

def orderApply (w : W) (b : List Byte) : W := (orderEntries b).foldl (fun w e => w.orderEntry e) w

/-- Groups an order touches. -/
def orderGroups (w : W) (b : List Byte) : List Nat :=
  (upTo 1024).filter (fun g => (orderEntries b).any (fun e =>
    if e.1 = 3 ∨ e.1 = 4 then decide (e.2.2.1 ≤ g) && decide (g ≤ e.2.2.2.1)
    else if e.1 = 1 ∨ e.1 = 2 then (w.sceneFor e.2.1 g).isSome
    else false))

/-- Groups with their levels as group commands, neighbours of one level in one range (R231). -/
def rangesOf : List (Nat × Nat) → List (Nat × Nat × Nat) → List (Nat × Nat × Nat)
  | [], acc => acc.reverse
  | (g, l) :: t, acc =>
    match acc with
    | (a, z, m) :: r => if z + 1 = g ∧ m = l then rangesOf t ((a, g, m) :: r) else rangesOf t ((g, g, l) :: acc)
    | [] => rangesOf t [(g, g, l)]

/-- Order records of at most 12 commands. -/
def sendOrders (t : Nat) : Nat → W → List (Nat × Nat × Nat) → W
  | 0, w, _ => w
  | n + 1, w, cs =>
    if cs.isEmpty then w
    else
      let h := cs.take 12
      let seq := (w.lmp.orderSeq + 1) % 2 ^ 16
      let b := leBytes 1 0x32 ++ leBytes 1 h.length ++ leBytes 2 seq ++ leBytes 4 0 ++ leBytes 8 t
        ++ (h.map (fun c => leBytes 4 (c.1 * 2 ^ 22 + c.2.1 * 2 ^ 12 + c.2.2 * 4))).flatten
      sendOrders t n ((w.setLmp { w.lmp with orderSeq := seq }).toRadio b) (cs.drop 12)

/-- Local application of every order whose T has come: the bases of the groups it touches follow at once. -/
def ordersDue (w : W) : W :=
  let due := w.lmp.orders.filter (fun o => decide (o.1 ≤ w.ns))
  if due.isEmpty then w
  else
    let w := w.setLmp { w.lmp with orders := w.lmp.orders.filter (fun o => decide (w.ns < o.1)) }
    let w := due.foldl (fun (w : W) (o : Nat × List Byte) =>
      let w := w.orderApply o.2
      let bs := (w.orderGroups o.2).foldl (fun (bs : List Nat) g => bs.set g (w.baseOf g w.ns).1) w.lmp.bases
      w.setLmp { w.lmp with bases := bs }) w
    (w.follow []).ledRecord true w.ns

/-- A lantern-level order unit taken. -/
def levelOrder (w : W) (u : List Byte) : W :=
  let b := cut u 16 (le u 2 2)
  let t := le u 8 8
  if !orderOk b then w.ev LMP_EVENT_order_err 0
  else
    let gs := w.orderGroups b
    let after := w.orderApply b
    let cs := rangesOf (gs.map (fun g => (g, (after.baseOf g (max t w.ns)).1))) []
    let w := sendOrders t 100 w cs
    (w.setLmp { w.lmp with orders := w.lmp.orders ++ [(t, b)] }).ordersDue

/-! ## Commands -/

def lmpDone (w : W) (result : Nat) : W := (w.set LMP_CMD_STATUS_done 1).set LMP_CMD_STATUS_result result

/-- Two extents have a byte in common. -/
def meets (a n b m : Nat) : Bool := n != 0 && m != 0 && decide (a < b + m) && decide (b < a + n)

def fieldBase (w : W) : Nat := w.get LMP_FIELD_BASE_LO_v + 2 ^ 32 * w.get LMP_FIELD_BASE_HI_v

/-- The extent check of LOAD_ALL and LOAD_ONE (R207). -/
def fieldBaseOk (w : W) : Bool :=
  let a := w.fieldBase
  let n := 32 * w.lanSum
  let p := w.pat.active
  a % 4096 == 0 && inDram a n && !meets a n p.streamBase (256 * p.streamEntries)
    && !meets a n p.lanternBase (128 * w.lanSum) && !meets a n p.alignBase p.alignSize

/-- An entry loaded: the next cycle takes it (R207). -/
def putField (w : W) (i : Nat) (e : FieldEnt) : W := w.setLmp { w.lmp with fieldNew := tblPut i e w.lmp.fieldNew }

/-- Entry i loaded; answers whether it passed its checks. -/
def loadEntry (w : W) (i : Nat) : W × Bool :=
  let b := w.rdBytes (w.fieldBase + 32 * i) 32
  if fieldOk w.lanSum b then (w.putField i (fieldOf b), true)
  else (w.putField i { fieldOf b with flags := 0 }, false)

/-- A field entry for the partner (R426). -/
def fieldItem (w : W) (i : Nat) : List Byte := w.rdBytes (w.fieldBase + 32 * i) 32

/-- A load has taken some entries: they go to the partner, and a change of settings waits. -/
def fieldTold (w : W) (is_ : List Nat) : W := (is_.foldl (fun (w : W) i => w.mirrorItem 4 i (w.fieldItem i)) w).dirty

/-- A Crier SNAPSHOT (LMP_SNAP0, LMP_SNAP1). -/
def lmpSnap (w : W) : W :=
  let w := w.set LMP_SNAP0_v (w.get LMP_CON_STATE_drives)
  (w.set LMP_SNAP1_stage (w.get LMP_STATUS_stage)).set LMP_SNAP1_gr_seq (w.get LMP_STATUS_gr_seq)

end W

end Sys2Proof.Machine
end

