-- ==== Sys2Proof/Machine/LedOps.lean ====
section
/-! DEFINITION. The Chandler's shared operations: curve tables, levels, colour sets, strings and matrix ports (R273 to
R291). -/

namespace Sys2Proof

/-- What one second in RUN at drive value v and source temperature θ (0.1 °C, 25 °C where it is stale) adds to h_eff, in
2^-32 s: (v ÷ 65,535) × 2^((θ − 25 °C) ÷ 10), the power being rounded as the part rounds it (R417). -/
opaque Config.effSecond : Nat → Int → Nat

end Sys2Proof

namespace Sys2Proof.Machine

/-- The largest r with r^e ≤ n, from bit `k` down. -/
def rootFrom (e n : Nat) : Nat → Nat → Nat
  | 0, r => r
  | k + 1, r => let c := r + 2 ^ k; rootFrom e n k (if c ^ e ≤ n then c else r)

/-- round(65,535 × (num ÷ den)^(1/e)): half of the rounded-down double is rounded up at the half. -/
def scaledRoot (e num den : Nat) : Nat := (rootFrom e (131070 ^ e * num / den) 18 0 + 1) / 2

/-- The reset contents of a curve table (R277): F(n) is 10^(−3(1,023 − n)/1,022). -/
def curveReset (table n : Nat) : Nat :=
  if n = 0 then 0
  else if table = 0 then scaledRoot 1022 1 (10 ^ (3 * (1023 - n)))
  else if table = 1 then scaledRoot 5 (n ^ 11) (1023 ^ 11)
  else if table = 2 then scaledRoot 1 n 1023
  else scaledRoot 5 (n ^ 14) (1023 ^ 14)

def LedOut.off : LedOut := ⟨0, 0, 0, 0, 0⟩
def LedStr.off : LedStr := ⟨0, 0, 0, 0⟩
def MtxPort.empty : MtxPort := ⟨[], [], false, 0, [], []⟩
def LedDrive.off : LedDrive := ⟨0, 0, 0, none⟩

/-- The code a glide has reached: linear from its start, with a 6-bit fraction (R275). -/
def LedOut.at_ (o : LedOut) : Nat :=
  if o.total ≤ o.elapsed then 64 * o.target
  else ((o.start : Int) + roundDiv ((64 * (o.target : Int) - o.start) * o.elapsed) o.total).toNat

/-- PWM of a duty `num` of `den`, `period` ticks long, with pulses of at least `least` ticks (R282, R288): shorter ones become
pulses of that length, so many per period that the average matches. -/
def LedDrive.pwm (dac period least num den : Nat) : LedDrive :=
  let on := (roundDiv ((num * period : Nat) : Int) den).toNat
  if num = 0 then LedDrive.off
  else if on < least then ⟨dac, period, least, some (num * period, den * least)⟩
  else ⟨dac, period, on, none⟩

/-- The PWM period of a pwm_hz code, in ticks of 2.5 ns: 1, 2 and 4 kHz (LED_STR_CFG). -/
def pwmPeriod (code : Nat) : Nat := if code = 0 then 400000 else if code = 2 then 100000 else 200000

/-- The 16-bit words of a frame (R285). -/
def pixelWords (bpp : Nat) : List Byte → List Nat
  | [] => []
  | a :: rest =>
    if bpp = 2 then match rest with
      | b :: more => (a.toNat + 256 * b.toNat) :: pixelWords bpp more
      | [] => []
    else a.toNat * 257 :: pixelWords bpp rest

/-- The pixels of each lane (R285). -/
def laneWords (lanes per : Nat) (ws : List Nat) : List (List Nat) :=
  (upTo lanes).map (fun l => (ws.drop (l * per)).take per)

/-- A new level: a glide towards it, or at once. -/
def LedOut.aim (o : LedOut) (level glide : Nat) (atOnce : Bool) : LedOut :=
  if atOnce || glide == 0 then ⟨64 * level, 64 * level, level, 0, 0⟩
  else if o.target = level then o
  else ⟨o.code, o.code, level, glide, 0⟩

namespace W

def setLed (w : W) (x : LedState) : W := { w with led := x }

/-- The Chandler is present and runs (R461, R289). -/
def ledHere (w : W) : Bool := w.mainOn && w.pat.active.leds.isSome && !w.gated 0x0D
def ledOn (w : W) : Bool := w.loom && w.ledHere

def ledItem (w : W) (k : Nat) : Option (List Byte) := (w.pat.active.leds.getD []).find? (fun b => le b 0 1 == k)
def ledStrings (w : W) : List Nat := (upTo 16).filter (fun k => (w.ledItem k).isSome)
def ledPorts (w : W) : List Nat := (upTo 4).filter (fun p => (w.ledItem (16 + p)).isSome)

/-! ## Curves (R277) -/

def curvePoint (w : W) (table n : Nat) : Nat :=
  if n = 0 then 0 else (tblGet w.led.curves (1024 * table + n)).getD (curveReset table n)

/-- The drive value of a code in 1/64. -/
def curveAt (w : W) (table code : Nat) : Nat :=
  let n := code / 64
  let f := code % 64
  let a := w.curvePoint table n
  if f = 0 then a
  else ((a : Int) + roundDiv (((w.curvePoint table (n + 1) : Int) - a) * f) 64).toNat

/-! ## Colour sets (R278, R279) -/

/-- A string's colour set, if it has one, and its position. -/
def csetOf (w : W) (n : Nat) : Option Nat :=
  match w.ledItem n with | some b => if le b 8 1 < 4 then some (le b 8 1) else none | none => none
def colourOf (w : W) (n : Nat) : Nat := match w.ledItem n with | some b => le b 9 1 % 4 | none => 0
def csetMembers (w : W) (c : Nat) : List Nat := w.ledStrings.filter (fun n => w.csetOf n == some c)

def ledOut (w : W) (k : Nat) : LedOut := (tblGet w.led.outs k).getD LedOut.off

/-- The output whose level a string takes: its set's lowest-numbered string, or itself. -/
def leaderOf (w : W) (n : Nat) : Nat :=
  match w.csetOf n with | some c => (w.csetMembers c).headD n | none => n

def sensorPin (w : W) (c pos : Nat) : Nat :=
  if pos = 0 then w.get (LED_CSET_CFG_sns0 c) else if pos = 1 then w.get (LED_CSET_CFG_sns1 c)
  else if pos = 2 then w.get (LED_CSET_CFG_sns2 c) else w.get (LED_CSET_CFG_sns3 c)

/-- T_c at a temperature of 0.1 °C (R279 mode 2). -/
def tempFactor (w : W) (c pos : Nat) (theta : Int) : Nat :=
  let x := (clip (-400) 1200 theta + 400).toNat
  let k := x / 100
  let a := w.get (LED_TCOMP_factor c pos k)
  if x % 100 = 0 then a
  else ((a : Int) + roundDiv (((w.get (LED_TCOMP_factor c pos (k + 1)) : Int) - a) * (x % 100 : Nat)) 100).toNat

def tempStale (w : W) (c : Nat) : Bool := decide ((tblGet w.led.tempUp c).getD 0 + 10000000000 ≤ w.tb.up)

/-- Trims of modes 0 and 2 brought up to date. -/
def trimMode (w : W) (c : Nat) : W :=
  let m := w.get (LED_CSET_CFG_mode c)
  let theta := if w.tempStale c then 250 else sgn 16 (w.get (LED_CSET_TEMP_theta c))
  (upTo 4).foldl (fun (w : W) p =>
    if m = 0 then w.set (LED_CSET_TRIM_factor c p) 0x8000
    else if m = 2 then w.set (LED_CSET_TRIM_factor c p) (w.tempFactor c p theta)
    else w) w

/-- The curve value of a string with its mix: vc. -/
def mixed (w : W) (n : Nat) : Nat :=
  let v := w.curveAt (w.get (LED_STR_CFG_table n)) (w.ledOut (w.leaderOf n)).code
  match w.csetOf n with
  | some c => (roundDiv ((v * w.get (LED_CSET_MIX_factor c (w.colourOf n)) : Nat) : Int) 0x8000).toNat
  | none => v

/-- The drive value of a string (R278, R280). -/
def strV (w : W) (n : Nat) : Nat :=
  let v := w.curveAt (w.get (LED_STR_CFG_table n)) (w.ledOut (w.leaderOf n)).code
  match w.csetOf n with
  | none => v
  | some c =>
    let plain := min 65535 (roundDiv ((v * w.get (LED_CSET_MIX_factor c (w.colourOf n))
      * w.get (LED_CSET_TRIM_factor c (w.colourOf n)) : Nat) : Int) (2 ^ 30)).toNat
    match w.led.cal with
    | some (s, up) => if s = c then (if w.tb.up < up + 200000000 then 0 else 65535) else plain
    | none => plain

/-- One sensor-feedback update of a colour position (R279 mode 1). -/
def trimStep (w : W) (c pos edges : Nat) : W :=
  match (w.csetMembers c).find? (fun n => w.colourOf n == pos) with
  | none => w
  | some n =>
    let vc := w.mixed n
    let dark : Int := w.get (LED_CSET_REF_f_dark c pos) * 10
    let ref : Int := w.get (LED_CSET_REF_f_ref c pos) * 10
    let tgt : Int := dark * 65535 + (ref - dark) * vc
    if w.pinFunc (w.sensorPin c pos) ≠ 4 ∨ vc < 1311 ∨ tgt - dark * 65535 < 1000 * 65535 then w
    else
      let diff := tgt - (edges * 10 : Nat) * 65535
      let den := (4 * tgt).toNat
      let trim : Int := w.get (LED_CSET_TRIM_factor c pos)
      let new := if den < 256 * diff.natAbs then roundDiv (trim * (if diff < 0 then 255 else 257)) 256
        else roundDiv (trim * (den + diff)) den
      let w := w.set (LED_CSET_TRIM_factor c pos) (clip 24576 40960 new).toNat
      if new < 24576 ∨ 40960 < new then w.ev LED_EVENT_trim_limit 0 else w

/-! ## Strings (R281 to R284) -/

def ledStr (w : W) (n : Nat) : LedStr := (tblGet w.led.strs n).getD LedStr.off

/-- The set-point of a drive value (R282). -/
def dacOf (w : W) (n v : Nat) : Nat :=
  let k := w.get (LED_STR_CFG_knee n)
  if v = 0 then 0 else (roundDiv ((max v k * 4095 : Nat) : Int) 65535).toNat

def softNs (w : W) : Nat := max 1 (w.get LED_SOFT_soft_ms) * 1000000

def setDrive (w : W) (k : Nat) (d : LedDrive) : W := w.setLed { w.led with drives := tblPut k d w.led.drives }

/-- A string's hybrid dimming (R282): continuous from the knee up, pulses of at least 4 µs below it; off where it does not
run. -/
def strDrive (w : W) (n state v dac : Nat) : LedDrive :=
  let k := w.get (LED_STR_CFG_knee n)
  let period := pwmPeriod (w.get (LED_STR_CFG_pwm_hz n))
  if (state ≠ 2 ∧ state ≠ 3) ∨ v = 0 then LedDrive.off
  else if k ≤ v then ⟨dac, period, period, none⟩
  else LedDrive.pwm dac period 1600 v k

/-- A string's registers and drive. -/
def showStr (w : W) (n : Nat) : W :=
  let s := w.ledStr n
  let v := w.strV n
  let d := w.dacOf n v
  let d := if s.state = 3 then d else if s.state = 2 then min d (d * (w.tb.up - s.since) / w.softNs) else 0
  let w := w.setDrive n (w.strDrive n s.state v d)
  let w := (w.set (LED_STR_STAT_state n) s.state).set (LED_STR_STAT_cause n) s.cause
  let w := (w.set (LED_STR_STAT_retries n) (min 7 s.retries)).set (LED_STR_STAT_dac n) d
  (w.set (LED_STR_LEVEL_level n) ((w.ledOut (w.leaderOf n)).code / 64)).set (LED_STR_LEVEL_v n) v

def setStr (w : W) (n : Nat) (s : LedStr) : W := (w.setLed { w.led with strs := tblPut n s w.led.strs }).showStr n

/-- A string's state after a change of enable or drive value. -/
def strStep (w : W) (n : Nat) : W :=
  let s := w.ledStr n
  let v := w.strV n
  if !w.bit LED_CTRL_enable then w.setStr n { s with state := 0 }
  else
    let s : LedStr := if s.state = 0 then { s with state := 1, since := w.tb.up } else s
    let s : LedStr := if s.state = 1 ∧ 0 < v then { s with state := 2, since := w.tb.up }
      else if (s.state = 2 ∨ s.state = 3) ∧ v = 0 then { s with state := 1, since := w.tb.up } else s
    w.setStr n s

/-- A matrix port's brightness (R288): MTX_EN at the duty of the port's curve value, with pulses of at least 100 ns; low with
outputs OFF. -/
def portDrive (w : W) (p : Nat) : LedDrive :=
  if !w.bit LED_CTRL_enable then LedDrive.off
  else LedDrive.pwm 0 (pwmPeriod (w.get (LED_MTX_CTRL_pwm_hz p))) 40
    (w.curveAt (w.get (LED_MTX_CTRL_table p)) (w.ledOut (16 + p)).code) 65535

/-- Every output brought up to date. -/
def ledRefresh (w : W) : W :=
  let w := w.ledStrings.foldl (fun w n => w.strStep n) w
  w.ledPorts.foldl (fun w p =>
    (w.setDrive (16 + p) (w.portDrive p)).set (LED_MTX_STAT_level p) ((w.ledOut (16 + p)).code / 64)) w

/-- Every output with an item set towards a level. -/
def ledLevels (w : W) (level : Nat → Nat) (atOnce : LedOut → Nat → Bool) : W :=
  let glide := w.get LED_CTRL_glide_ms
  let ks := w.ledStrings ++ w.ledPorts.map (· + 16)
  let outs := ks.foldl (fun (t : List (Nat × LedOut)) k =>
    let o := w.ledOut k
    tblPut k (o.aim (level k) glide (atOnce o (level k))) t) w.led.outs
  (w.setLed { w.led with outs := outs }).ledRefresh

def failLevel (w : W) (k : Nat) : Nat :=
  if k < 16 then w.get (LED_STR_CFG_fail_level k) else w.get (LED_MTX_CTRL_fail_level (k - 16))

/-- A CAL ends. -/
def calEnd (w : W) (result : Nat) : W :=
  let w := (w.setLed { w.led with cal := none }).set LED_CMD_STATUS_busy 0
  ((w.set LED_CMD_STATUS_done 1).set LED_CMD_STATUS_result result).ev LED_EVENT_cal_done 0

def ledDone (w : W) (result : Nat) : W := (w.set LED_CMD_STATUS_done 1).set LED_CMD_STATUS_result result

/-! ## Matrix ports (R285 to R287) -/

def mtx (w : W) (p : Nat) : MtxPort := (tblGet w.led.mtx p).getD MtxPort.empty
def setMtx (w : W) (p : Nat) (m : MtxPort) : W := w.setLed { w.led with mtx := tblPut p m w.led.mtx }

/-- Pixels per lane, and the length of a shift in ns (R285). -/
def lanePixels (b : List Byte) : Nat := (le b 4 4 + le b 2 1 - 1) / le b 2 1
def shiftNs (b : List Byte) : Nat := lanePixels b * 16 * (40 * 2 ^ le b 3 1)

/-- The latch: the chips show the chain's words, and the buffers exchange. -/
def mtxLatch (w : W) (p : Nat) : W :=
  let m := w.mtx p
  let w := w.setMtx p { m with back := m.front, front := m.back, latched := m.chain, wanted := false }
  let w := (w.set (LED_MTX_STAT_preloaded p) 0).set (LED_MTX_STAT_front p) (1 - w.get (LED_MTX_STAT_front p))
  (w.bump (LED_MTX_SWAPS_v p) 1).tally 0xA9

/-- A swap event of a source: 0 a trigger unit, 1 FRAME_SYNC (R287). -/
def swapEvent (w : W) (p source : Nat) : W :=
  match w.ledItem (16 + p) with
  | none => w
  | some b =>
    if !w.ledOn || (le b 9 1 != source && le b 9 1 != 2) then w
    else if w.bit (LED_MTX_STAT_shifting p) then
      let m := w.mtx p
      if m.wanted then w.ev LED_EVENT_swap_empty 0
      else (w.setMtx p { m with wanted := true }).ev LED_EVENT_late_swap 0
    else if w.bit (LED_MTX_STAT_preloaded p) then w.mtxLatch p
    else w.ev LED_EVENT_swap_empty 0

/-- LED_STATUS, and the Chandler's state where the module begins to serve: levels 0, strings OFF or IDLE, buffers empty
(R291). -/
def ledServe (w : W) : W :=
  let w := (w.set LED_STATUS_strings ((w.ledStrings.map (2 ^ ·)).sum)).set LED_STATUS_ports ((w.ledPorts.map (2 ^ ·)).sum)
  if w.pat.active.leds.isSome then
    let w := w.setLed { w.led with recUp := w.tb.up }
    ((upTo 4).foldl (fun (w : W) c => w.trimMode c) w).ledRefresh
  else w

/-- An output whose item a pattern barrier changed (R291). -/
def ledChanged (w : W) (k : Nat) : W :=
  let w := w.setLed { w.led with
    outs := tblDel k w.led.outs
    strs := tblDel k w.led.strs
    drives := tblDel k w.led.drives
    mtx := if 16 ≤ k then tblDel (k - 16) w.led.mtx else w.led.mtx }
  if k < 16 then
    (((w.set (LED_STR_STAT_state k) 0).set (LED_STR_STAT_cause k) 0).set (LED_STR_STAT_retries k) 0).set (LED_STR_STAT_dac k) 0
  else ((w.set (LED_MTX_STAT_preloaded (k - 16)) 0).set (LED_MTX_STAT_shifting (k - 16)) 0).set (LED_MTX_STAT_front (k - 16)) 0

end W

end Sys2Proof.Machine
end

