-- ==== Sys2Proof/Machine/MtrOps.lean ====
section
/-! DEFINITION. The Assayer's shared operations: feeders, accumulators, pulse outputs, gap entries and saves (R292 to
R307). -/

namespace Sys2Proof.Machine

/-- τ = φ ÷ (2π × fnom) in ns, of φ in 1/50 µrad and the nominal frequency in Hz (R296), with π to 50 places. -/
def phaseTau (phi : Int) (fnom : Nat) : Ratio := ⟨10 * phi * piDen, piNum * fnom⟩

def Feeder.empty : Feeder := ⟨none, none, none, ⟨0, 1⟩, none⟩
def PulseOut.empty : PulseOut := ⟨0, 0, [], some 0, none, 0⟩

/-- One mWh in the residue's unit. -/
def mwh : Nat := 2 ^ 32

/-- net_ms in ns (MTR_CTRL.net). -/
def netNs (code : Nat) : Nat := [20, 25, 40, 50, 100, 125, 200, 250, 500, 1000].getD code 100 * 1000000

namespace W

def setMtr (w : W) (x : MtrState) : W := { w with mtr := x }

/-- The Assayer is present with the Sieve (R461), and runs. -/
def mtrHere (w : W) : Bool := w.mainOn && w.pat.active.hasEngine 6 && !w.gated 0x09
def mtrOn (w : W) : Bool := w.serves && w.mtrHere && w.bit MTR_CTRL_enable && !w.mtr.stopped

def feeder (w : W) (f : Nat) : Feeder := (tblGet w.mtr.feeders f).getD Feeder.empty
def setFeeder (w : W) (f : Nat) (x : Feeder) : W :=
  (w.setMtr { w.mtr with feeders := tblPut f x w.mtr.feeders }).setB (MTR_FDR_STAT_gap f) x.gap.isSome

/-! ## Gap entries (R302) -/

/-- A gap entry closed: written to the log and to the Scrivener. -/
def gapEntry (w : W) (kind target : Nat) (estimated : Bool) (start stop count : Nat) : W :=
  let seq := w.get MTR_GAP_COUNT_v + 1
  let b := leBytes 1 kind ++ leBytes 1 target ++ leBytes 1 (bitNat estimated) ++ [0] ++ leBytes 4 seq ++ fullStamp start
    ++ fullStamp stop ++ leBytes 4 (min 0xFFFFFFFF count)
  let w := (w.setMtr { w.mtr with gapLog := (b :: w.mtr.gapLog).take 32 }).set MTR_GAP_COUNT_v seq
  (w.record 0x070 0xE seq (kind + target * 256) 0 0).ev MTR_EVENT_gap 0

/-! ## Accumulators and pulse outputs (R292, R300) -/

def acc (w : W) (a : Nat) : Nat := (tblGet w.mtr.accs a).getD 0
def accMwh (w : W) (a : Nat) : Nat := w.acc a / mwh

def pout (w : W) (o : Nat) : PulseOut := (tblGet w.mtr.pouts o).getD PulseOut.empty
def setPout (w : W) (o : Nat) (x : PulseOut) : W :=
  (w.setMtr { w.mtr with pouts := tblPut o x w.mtr.pouts }).set (MTR_POUT_OWED_v o) x.owed

def poutWidth (w : W) (o : Nat) : Nat := max 2 (w.get (MTR_POUT_CFG_width_ms o)) * 1000000

/-- Moves from a remainder into the owed count. -/
def poutMoves (w : W) (o weight : Nat) : Nat → PulseOut → PulseOut
  | 0, x => x
  | n + 1, x =>
    if x.rem < weight * mwh ∨ weight = 0 ∨ 2 ^ 32 - 1 ≤ x.owed then x
    else
      let idle := match x.idle with | some u => decide (x.owed = 0 ∧ u + 2 * w.poutWidth o ≤ w.tb.up) | none => false
      let moves := if idle then [w.tb.up] else (w.tb.up :: x.moves).take 2
      w.poutMoves o weight n { x with rem := x.rem - weight * mwh, owed := x.owed + 1, moves := moves, idle := none }

/-- MTR_EVENT.pulse_backlog while an output owes more than 16 pulses. -/
def backlog (w : W) : W :=
  if !w.bit MTR_EVENT_pulse_backlog && (upTo 8).any (fun o => decide (16 < (w.pout o).owed)) then
    w.ev MTR_EVENT_pulse_backlog 0
  else w

/-- Growth of an accumulator seen by the outputs that follow it. -/
def poutGrow (w : W) (a grown : Nat) : W :=
  ((upTo 8).filter (fun o => w.bit (MTR_POUT_CFG_enable o) && w.get (MTR_POUT_CFG_src o) == a)).foldl (fun w o =>
    let x := w.pout o
    let weight := w.get (MTR_POUT_WEIGHT_v o)
    let x : PulseOut := { x with rem := x.rem + grown }
    (w.setPout o (w.poutMoves o weight (x.rem / (max 1 weight * mwh)) x)).backlog) w

/-- An accumulator grown. -/
def accGrow (w : W) (a n : Nat) : W :=
  if n = 0 then w
  else (w.setMtr { w.mtr with accs := tblPut a ((w.acc a + n) % 2 ^ 96) w.mtr.accs }).poutGrow a n

/-- The width of a pulse that starts now. -/
def pulseWidth (w : W) (o : Nat) : Nat :=
  let x := w.pout o
  let full := w.poutWidth o
  match x.moves with
  | a :: b :: _ => max 2000000 (min full ((a - b) / (2 * max 1 x.owed)))
  | _ => max 2000000 full

/-! ## Corrections (R296) -/

def mtrStale (w : W) (s : Nat) : Bool := decide ((tblGet w.mtr.tempUp s).getD 0 + 10000000000 ≤ w.tb.up)

def tcPoint (w : W) (c k : Nat) : W32 := (tblGet w.mtr.tc (32 * c + k)).getD 0

/-- g and φ of a channel in 1/50 ppm and 1/50 µrad. -/
def corrOf (w : W) (c : Nat) : Int × Int :=
  if !w.bit (MTR_CH_CFG_corr c) then (0, 0)
  else
    let s := w.get (MTR_CH_CFG_tsrc c)
    let th := if w.mtrStale s then 250 else sgn 16 (w.get (MTR_TEMP_theta s))
    let x := (clip (-400) 1150 th + 400).toNat
    let k := x / 50
    let f : Int := (x % 50 : Nat)
    let a := (w.tcPoint c k).toNat
    let b := (w.tcPoint c (k + 1)).toNat
    (sgn 16 a * (50 - f) + sgn 16 b * f, sgn 16 (a / 65536) * (50 - f) + sgn 16 (b / 65536) * f)

def ratOf (x : W32) : Ratio := ⟨f32Num x, f32Den x⟩
def sampleOf (s : MtrSample) (c : Nat) : Ratio := ratOf ((tblGet s.vals c).getD 0)

/-- A channel's corrected value at a sample, between its neighbours. -/
def corrected (w : W) (f c : Nat) (prev : Option MtrSample) (s : MtrSample) (next : Option MtrSample) : Ratio :=
  let (g, phi) := w.corrOf c
  let x := sampleOf s c
  let tau := phaseTau phi (if w.bit (MTR_FDR_V_fnom_50 f) then 50 else 60)
  let y :=
    if phi = 0 then x
    else match if 0 < phi then next else prev with
      | some o =>
        let dx := Ratio.add (sampleOf o c) (x.scale (-1))
        let dt : Int := (o.t : Int) - s.t
        Ratio.add x ⟨dx.num * tau.num * (if dt < 0 then -1 else 1), dx.den * (tau.den * dt.natAbs)⟩
      | none => x
  ⟨y.num * (50000000 + g), y.den * 50000000⟩

/-- Voltage and current channels of the phases a feeder names. -/
def phasesOf (w : W) (f : Nat) : List (Nat × Nat) :=
  let m := w.get (MTR_FDR_V_mask f)
  let all := [(w.get (MTR_FDR_V_va f), w.get (MTR_FDR_I_ia f)), (w.get (MTR_FDR_V_vb f), w.get (MTR_FDR_I_ib f)),
    (w.get (MTR_FDR_V_vc f), w.get (MTR_FDR_I_ic f))]
  ((upTo 3).filter (fun k => tst m k)).map (fun k => all.getD k (0, 0))

def channelsOf (w : W) (f : Nat) : List Nat := ((w.phasesOf f).flatMap (fun p => [p.1, p.2])).eraseDups

def ratMul (a b : Ratio) : Ratio := ⟨a.num * b.num, a.den * b.den⟩

/-! ## Feeders (R294 to R297) -/

/-- A feeder runs: its channels exist, are enabled and share one preset. -/
def feederRuns (w : W) (f : Nat) : Bool :=
  let cs := w.channelsOf f
  w.bit (MTR_FDR_V_enable f) && cs.all (fun c =>
    decide (c < w.pat.active.smpChannels) && (w.chan c).state != 0 && (w.chan c).cfg.preset == (w.chan (cs.headD 0)).cfg.preset)

/-- Net energy booked into import or export (R297). -/
def netting (w : W) (f : Nat) : W :=
  let x := w.feeder f
  let n := x.net.num.natAbs * mwh * 10 / (x.net.den * 36)
  let up := decide (0 < x.net.num)
  let imp := up != w.bit (MTR_FDR_I_reverse f)
  (w.setFeeder f { x with net := ⟨0, 1⟩ }).accGrow (if imp then 2 * f else 2 * f + 1) n

/-- The evaluation of the sample that waits, with the next one if there is one. -/
def evaluate (w : W) (f : Nat) (next : Option MtrSample) : W :=
  let x := w.feeder f
  match x.cur with
  | none => w.setFeeder f { x with cur := next }
  | some s =>
    let x' : Feeder := { x with prev := some s, cur := next }
    let late := match x.tPrev with | some p => decide (s.t ≤ p) | none => false
    if late then w.setFeeder f x'
    else
      let p := (w.phasesOf f).foldl (fun (a : Ratio) c =>
        Ratio.add a (ratMul (w.corrected f c.1 x.prev s next) (w.corrected f c.2 x.prev s next))) ⟨0, 1⟩
      let w := (w.set (MTR_FDR_P_v f) (f32Rat p.num p.den).toNat).setB (MTR_FDR_STAT_clipped f) s.clipped
      let w := w.setB (MTR_FDR_STAT_pow2 f) (decide (0x80 ≤ s.grid))
      let w := match w.mtr.offFrom with
        | some o => (w.setMtr { w.mtr with offFrom := none }).gapEntry 2 0xFF false o s.t 0
        | none => w
      let n := netNs (w.get MTR_CTRL_net)
      let bounded (w : W) : W := match x.tPrev with
        | some tp => if tp / n < s.t / n then w.netting f else w
        | none => w
      match x.gap with
      | some g => bounded ((w.setFeeder f { x' with tPrev := some s.t, gap := none }).gapEntry 3 f false g s.t 0)
      | none =>
        match x.tPrev with
        | none => w.setFeeder f { x' with tPrev := some s.t }
        | some tp =>
          let gapMs := max 1 (w.get MTR_CTRL_gap_ms)
          let rate := max 1 w.smpRate
          let dt := s.t - tp
          let whole := decide (dt ≤ gapMs * 1000000)
          let e : Ratio := if whole then ⟨p.num * dt, p.den * 1000000000⟩ else ⟨p.num * s.ratio, p.den * rate⟩
          let w := w.setFeeder f { x' with tPrev := some s.t, net := Ratio.add x.net e }
          bounded (if whole then w else w.gapEntry 4 f false (tp + s.ratio * 1000000000 / rate) s.t 0)

/-- An INVALID gap opens at the last integrated time, or at `t` where nothing has been integrated: the waiting sample is
evaluated first. -/
def openGap (w : W) (f t : Nat) : W :=
  let x := w.feeder f
  if x.gap.isSome then w
  else
    let w := w.evaluate f none
    let x := w.feeder f
    w.setFeeder f { x with prev := none, cur := none, gap := some (x.tPrev.getD t) }

/-- Pulse outputs are low while the Assayer or the output is not enabled (R301). -/
def poutLow (w : W) : W :=
  (upTo 8).foldl (fun (w : W) o =>
    let x := w.pout o
    if x.high.isSome && (!w.mtrOn || !w.bit (MTR_POUT_CFG_enable o)) then w.setPout o { x with high := none, low := w.tb.up }
    else w) w

/-- Which feeders run, and their configuration errors; one that has stopped opens a gap. -/
def mtrRefresh (w : W) : W :=
  (upTo 16).foldl (fun w f =>
    let runs := w.feederRuns f
    let w := w.setB (MTR_FDR_STAT_cfg_err f) (w.bit (MTR_FDR_V_enable f) && !runs)
    let isOn := runs && w.mtrOn
    let m := w.get MTR_STATUS_running
    let was := tst m f
    let w := w.set MTR_STATUS_running (m - (if was then 2 ^ f else 0) + (if isOn then 2 ^ f else 0))
    if was && !isOn then w.openGap f w.ns else w) w.poutLow.backlog

/-- A channel record taken (R191, R295, R297). -/
def assayerRecord (w : W) (b : List Byte) : W :=
  let w := w.tally 0xB0
  let n := le b 2 2
  let grid := le b 1 1
  let ratio := le b 18 2
  let t := le b 8 4 + 1000000000 * le b 12 6 - le b 20 4
  let chs : List (Nat × List Byte) := (upTo n).foldl (fun l i => let e := cut b (32 + 16 * i) 16; tblPut (le e 0 1) e l) []
  let w := w.setMtr { w.mtr with
    chLast := chs.foldl (fun l e => tblPut e.1 (BitVec.ofNat 32 (le e.2 4 4)) l) w.mtr.chLast }
  let w := w.mtrRefresh
  (upTo 16).foldl (fun w f =>
    let cs := w.channelsOf f
    if !w.mtrOn || !w.feederRuns f || !cs.any (fun c => (tblGet chs c).isSome) then w
    else
      let states := cs.map (fun c => match tblGet chs c with | some e => le e 1 1 | none => (w.chan c).state)
      if states.any (fun s => s == 0 || s == 3 || s == 5) then w.openGap f t
      else
        let steady := states.all (· == 2)
        if steady != decide (grid < 0x80) then w
        else
          let fl (c : Nat) : Nat := match tblGet chs c with | some e => le e 2 1 | none => 0
          let s : MtrSample := ⟨t, grid, ratio, cs.foldl (fun l c => tblPut c ((tblGet w.mtr.chLast c).getD 0) l) [],
            cs.any (fun c => tst (fl c) 2 || tst (fl c) 3)⟩
          match (w.feeder f).cur with
          | some c => if t ≤ c.t then w else w.evaluate f (some s)
          | none =>
            match (w.feeder f).tPrev with
            | some p => if t ≤ p then w else w.evaluate f (some s)
            | none => w.evaluate f (some s)) w

/-! ## Saves (R303) -/

/-- A save: into the copy that does not hold the newest one. -/
def save (w : W) (gasp : Bool) (stamp : Nat) : W :=
  let seq := w.get MTR_SAVE_SEQ_v + 1
  let gaps := (upTo 16).filterMap (fun f => match (w.feeder f).gap with | some g => some (f, g) | none => none)
  let outs := (upTo 8).map (fun o => (o, (w.pout o).owed, (w.pout o).rem))
  let c : SaveCopy := ⟨w.mtr.accs, outs, gaps, seq, stamp, gasp⟩
  let newA := match w.mtr.copyA, w.mtr.copyB with
    | some a, some b => decide (b.seq < a.seq)
    | some _, none => true
    | _, _ => false
  let m : MtrState := if newA then { w.mtr with copyB := some c } else { w.mtr with copyA := some c }
  let w := (w.setMtr { m with saveUp := w.tb.up }).set MTR_SAVE_SEQ_v seq
  (w.tally 0xB2).ev MTR_EVENT_save_done 0

/-- The newest valid copy. -/
def newestSave (w : W) : Option SaveCopy :=
  match w.mtr.copyA, w.mtr.copyB with
  | some a, some b => if b.seq < a.seq then some a else some b
  | some a, none => some a
  | none, b => b

/-- A last gasp or reset save: every open period netted at the instant, integration stopped. -/
def lastGasp (w : W) (t : Nat) : W :=
  if !w.mainOn || w.sys.booting || w.mtr.stopped then w
  else
    let w := (upTo 16).foldl (fun (w : W) f => (if (w.feeder f).gap.isNone then w.evaluate f none else w).netting f) w
    (w.setMtr { w.mtr with stopped := true }).save true t

/-- The restore at start-up; `pf` is the power-fail instant the Watchman holds. -/
def mtrRestore (w : W) (pf : Option Nat) : W :=
  let load (w : W) (c : SaveCopy) : W :=
    let w := w.setMtr { w.mtr with
      accs := c.accs
      feeders := c.gaps.foldl (fun l g => tblPut g.1 { Feeder.empty with gap := some g.2 } l) []
      stopped := false
      saveUp := w.tb.up }
    c.outs.foldl (fun (w : W) o => w.setPout o.1 { PulseOut.empty with owed := o.2.1, rem := o.2.2, idle := none }) w
  let epoch (w : W) : W := w.set MTR_EPOCH_v (w.get MTR_EPOCH_v + 1)
  let off (w : W) (t : Nat) : W := w.setMtr { w.mtr with offFrom := some t }
  match w.newestSave with
  | some c =>
    let w := load w c
    if c.gasp then (off w c.stamp).set MTR_STATUS_restored 1
    else match pf with
      | some p =>
        if c.stamp < p then ((off (epoch w) p).gapEntry 1 0xFF false c.stamp p 0).ev MTR_EVENT_fell_back 0
        else ((off (epoch w) w.ns).gapEntry 1 0xFF true c.stamp w.ns 0).ev MTR_EVENT_fell_back 0
      | none => ((off (epoch w) w.ns).gapEntry 1 0xFF true c.stamp w.ns 0).ev MTR_EVENT_fell_back 0
  | none =>
    let w := w.setMtr { w.mtr with accs := [], feeders := [], stopped := false, saveUp := w.tb.up }
    ((off (epoch w) w.ns).gapEntry 1 0xFF true 0 w.ns 0).ev MTR_EVENT_save_fail 0

/-- A SNAPSHOT of the accumulators (R293). -/
def mtrSnap (w : W) : W :=
  if !w.mtrHere then w
  else (upTo 64).foldl (fun (w : W) a =>
    (w.set (MTR_SNAP_LO_v a) (w.accMwh a % 2 ^ 32)).set (MTR_SNAP_HI_v a) (w.accMwh a / 2 ^ 32 % 2 ^ 32)) w

/-- MTR_SAVE_AGE as it stands. -/
def showMtr (w : W) : W := w.set MTR_SAVE_AGE_v (min 0xFFFFFFFF ((w.tb.up - w.mtr.saveUp) / 1000000))

def mtrDone (w : W) (result : Nat) : W := (w.set MTR_CMD_STATUS_done 1).set MTR_CMD_STATUS_result result

end W

end Sys2Proof.Machine
end

