-- ==== Sys2Proof/Machine/Assayer.lean ====
section
/-! DEFINITION. The commands of the Assayer (R292 to R307). -/

namespace Sys2Proof.Machine

/-- ASSAYER_RECORD (R297). -/
def execAssayerRecord (t : Nat) (s : State) : Host.Outcome State Fault Refusal :=
  run true "ASSAYER_RECORD" (fun w =>
    let w := (w.at_ t).smpFlush
    if !w.serves || !w.mtrHere then w
    else match w.headOf 0x09 0x0E with
      | some ⟨.bytes b, _, _⟩ => ((w.popQ 0x09 0x0E).smpFlush).assayerRecord b
      | _ => w) s

/-- The second of an input that has ended closes: its rejected pulses go into one gap entry (R299). -/
def W.pulseSecond (w : W) (i : Nat) : W :=
  match tblGet w.mtr.pins i with
  | some x =>
    if x.sec < w.sec then
      let w := w.setMtr { w.mtr with pins := tblDel i w.mtr.pins }
      if x.rejected = 0 then w
      else w.gapEntry 5 (0x20 + i) false (x.sec * 1000000000) ((x.sec + 1) * 1000000000) x.rejected
    else w
  | none => w

/-- The filter of R298 lets an input's next active edge pass after min_width_ms active and min_width_ms inactive. -/
def W.pulseApart (w : W) (i : Nat) : Bool :=
  match tblGet w.mtr.pinUp i with
  | some u => decide (u + 2000000 * max 1 (w.get (MTR_PIN_CFG_min_width_ms i)) ≤ w.tb.up)
  | none => true

/-- PULSE_IN_EDGE (R298, R299): a filtered active edge. -/
def execPulseInEdge (i t : Nat) (s : State) : Host.Outcome State Fault Refusal :=
  run (wfPulseInEdge i) "PULSE_IN_EDGE" (fun w =>
    let w := w.at_ t
    if !w.mtrOn || !w.bit (MTR_PIN_CFG_enable i) || w.pinFunc (0x40 + i) != 6 || !w.pulseApart i then w
    else
      let w := w.setMtr { w.mtr with pinUp := tblPut i w.tb.up w.mtr.pinUp }
      let w := (w.tally 0xB1).pulseSecond i
      let x := (tblGet w.mtr.pins i).getD ⟨0, 0, 0⟩
      let x : PulseIn := if x.sec = w.sec then x else ⟨w.sec, 0, 0⟩
      let lim := w.get (MTR_PIN_CFG_max_rate i)
      if lim ≠ 0 ∧ lim ≤ x.count then
        let w := w.setMtr { w.mtr with pins := tblPut i { x with rejected := x.rejected + 1 } w.mtr.pins }
        (w.bump (MTR_PIN_REJ_v i) 1).ev MTR_EVENT_rate_err 0
      else
        let w := w.setMtr { w.mtr with pins := tblPut i { x with count := x.count + 1 } w.mtr.pins }
        w.accGrow (32 + i) (w.get (MTR_PIN_WEIGHT_v i) * mwh)) s

/-- PULSE_RATE_SECOND (R299). -/
def execPulseRateSecond (i t : Nat) (s : State) : Host.Outcome State Fault Refusal :=
  run (wfPulseRateSecond i) "PULSE_RATE_SECOND" (fun w =>
    let w := w.at_ t
    if w.mtrOn then w.pulseSecond i else w) s

/-- POUT_PULSE_START (R300, R301). -/
def execPoutPulseStart (o t : Nat) (s : State) : Host.Outcome State Fault Refusal :=
  run (wfPoutPulseStart o) "POUT_PULSE_START" (fun w =>
    let w := w.at_ t
    let x := w.pout o
    let wd := w.pulseWidth o
    if w.mtrOn && w.bit (MTR_POUT_CFG_enable o) && x.owed != 0 && x.high.isNone && decide (x.low + wd ≤ w.tb.up) then
      let left := x.owed - 1
      w.setPout o { x with owed := left, high := some (wd, w.tb.up), idle := if left = 0 then some w.tb.up else none }
    else w) s

/-- POUT_PULSE_END (R300). -/
def execPoutPulseEnd (o t : Nat) (s : State) : Host.Outcome State Fault Refusal :=
  run (wfPoutPulseEnd o) "POUT_PULSE_END" (fun w =>
    let w := w.at_ t
    let x := w.pout o
    match x.high with
    | some (wd, up) => if up + wd ≤ w.tb.up then w.setPout o { x with high := none, low := w.tb.up } else w
    | none => w) s

/-- PERIODIC_SAVE (R303). -/
def execPeriodicSave (t : Nat) (s : State) : Host.Outcome State Fault Refusal :=
  run true "PERIODIC_SAVE" (fun w =>
    let w := w.at_ t
    let every := max 1 (min 3600 (w.get MTR_CTRL_save_s)) * 1000000000
    if w.serves && w.mtrHere && !w.mtr.stopped && decide (w.mtr.saveUp + every ≤ w.tb.up) then w.save false w.ns else w) s

/-- SAVE_NOW (R303). -/
def execSaveNow (s : State) : Host.Outcome State Fault Refusal :=
  runL true "SAVE_NOW" (fun w =>
    if !w.mtrHere then w else if w.mtr.stopped then w.mtrDone 3 else (w.save false w.ns).mtrDone 0) s

/-- MTR CLEAR (R305). -/
def execAccClear (a : Nat) (s : State) : Host.Outcome State Fault Refusal :=
  runL (wfAccClear a) "ACC_CLEAR" (fun w =>
    if !w.mtrHere then w
    else if w.key.lc != 3 then w.mtrDone 2
    else if w.mtr.stopped then w.mtrDone 3
    else
      let n := w.accMwh a
      let w := w.setMtr { w.mtr with accs := tblDel a w.mtr.accs }
      let w := w.gapEntry 6 (if a < 32 then a / 2 else a) false w.ns w.ns n
      (w.save false w.ns).mtrDone 0) s

/-- A read of MTR_ACC_LO (R293). -/
def execAccLoRead (a : Nat) (s : State) : Host.Outcome State Fault Refusal :=
  runL (wfAccLoRead a) "ACC_LO_READ" (fun w =>
    if !w.mtrHere then w.answer 0
    else (w.set (MTR_ACC_HI_v a) (w.accMwh a / 2 ^ 32 % 2 ^ 32)).answer (w.accMwh a % 2 ^ 32)) s

/-- A read of MTR_LEG (R304). -/
def execLegRead (a : Nat) (s : State) : Host.Outcome State Fault Refusal :=
  runL (wfLegRead a) "LEG_READ" (fun w =>
    if !w.mtrHere then w.answer 0
    else (w.set (MTR_LEG_WRAP_v a) (w.accMwh a / 2 ^ 32 % 256)).answer (w.accMwh a % 2 ^ 32)) s

/-- A write of MTR_GAP_SEL (R302). -/
def execGapSelWrite (v : W32) (s : State) : Host.Outcome State Fault Refusal :=
  runL true "GAP_SEL_WRITE" (fun w =>
    if !w.mtrHere then w
    else
      let k := v.toNat % 32
      let b := w.mtr.gapLog.getD k (List.replicate 32 0)
      (upTo 8).foldl (fun (w : W) i => w.set (MTR_GAP_DATA_v i) (le b (4 * i) 4)) (w.set MTR_GAP_SEL_entry k)) s

/-- An access to MTR_TC_DATA (R296). -/
def execTcDataAccess (v : Option W32) (s : State) : Host.Outcome State Fault Refusal :=
  runL true "TC_DATA_ACCESS" (fun w =>
    if !w.mtrHere then (if v.isSome then w else w.answer 0)
    else
      let k := w.get MTR_TC_SEL_point
      let c := w.get MTR_TC_SEL_channel
      let w := match v with
        | some x => (w.setMtr { w.mtr with tc := tblPut (32 * c + k) x w.mtr.tc }).dirty
        | none => w.answer (w.tcPoint c k).toNat
      if k < 31 then w.set MTR_TC_SEL_point (k + 1)
      else (w.set MTR_TC_SEL_point 0).set MTR_TC_SEL_channel ((c + 1) % 128)) s

/-- MTR_TEMP_STALE (R296). -/
def execMtrTempStale (src t : Nat) (s : State) : Host.Outcome State Fault Refusal :=
  run (wfMtrTempStale src) "MTR_TEMP_STALE" (fun w =>
    let w := w.at_ t
    if w.mtrOn && w.mtrStale src then w.ev MTR_EVENT_temp_stale 0 else w) s

end Sys2Proof.Machine
end

