-- ==== Sys2Proof/Machine/Chandler.lean ====
section
/-! DEFINITION. The commands of the Chandler (R273 to R291) and of the strings' wear (R417). -/

namespace Sys2Proof.Machine

/-- CHANDLER_RECORD (R274 to R276). -/
def execChandlerRecord (t : Nat) (s : State) : Host.Outcome State Fault Refusal :=
  run true "CHANDLER_RECORD" (fun w =>
    let w := (w.at_ t).lmpFlush
    match w.headOf 0x0A 0x0D with
    | some ⟨.bytes b, _, _⟩ =>
      if !w.ledOn then w
      else
        let w := (w.popQ 0x0A 0x0D).lmpFlush
        let urgent := tst (le b 1 1) 0
        let level (k : Nat) : Nat := let o := le b (16 + 2 * k) 2; if tst o 15 then o % 1024 else 0
        let w := w.setLed { w.led with recUp := w.tb.up, failed := false }
        w.ledLevels level (fun old new => urgent && decide (new < old.target) && decide (64 * new < old.code))
    | _ => w) s

/-- REC_TIMEOUT (R276). -/
def execRecTimeout (t : Nat) (s : State) : Host.Outcome State Fault Refusal :=
  run true "REC_TIMEOUT" (fun w =>
    let w := w.at_ t
    let lim := w.get LED_CTRL_rec_timeout_s
    if w.ledOn && !w.led.failed && lim != 0 && decide (w.led.recUp + lim * 1000000000 ≤ w.tb.up) then
      ((w.setLed { w.led with failed := true }).ledLevels (fun k => w.failLevel k) (fun _ _ => false)).ev LED_EVENT_rec_timeout 0
    else w) s

/-- TRIM_UPDATE (R279 mode 1). -/
def execTrimUpdate (c : Nat) (edges : List Nat) (t : Nat) (s : State) : Host.Outcome State Fault Refusal :=
  run (wfTrimUpdate c) "TRIM_UPDATE" (fun w =>
    let w := w.at_ t
    if w.ledOn && w.get (LED_CSET_CFG_mode c) == 1 && w.led.cal.all (fun x => x.1 != c) then
      ((upTo 4).foldl (fun (w : W) p => w.trimStep c p (edges.getD p 0)) w).ledRefresh
    else w) s

/-- CSET_TEMP_STALE (R279 mode 2). -/
def execCsetTempStale (c t : Nat) (s : State) : Host.Outcome State Fault Refusal :=
  run (wfCsetTempStale c) "CSET_TEMP_STALE" (fun w =>
    let w := w.at_ t
    if w.ledOn && w.get (LED_CSET_CFG_mode c) == 2 && w.tempStale c then
      ((w.trimMode c).ledRefresh).ev LED_EVENT_temp_stale 0
    else w) s

/-- STRING_FAULT (R284). -/
def execStringFault (n cause t : Nat) (s : State) : Host.Outcome State Fault Refusal :=
  run (wfStringFault n cause) "STRING_FAULT" (fun w =>
    let w := w.at_ t
    let x := w.ledStr n
    if w.ledOn && (w.ledItem n).isSome && (x.state == 2 || x.state == 3) then
      let w := (w.setStr n ⟨4, cause, x.retries + 1, w.tb.up⟩).tally 0xA8
      let w := if cause = 1 then w.evRec LED_EVENT_fault 0 else w
      match w.led.cal with
      | some (c, _) => if w.csetOf n == some c then (w.calEnd 4).ledRefresh else w
      | none => w
    else w) s

/-- RETRY_EXPIRE (R283). -/
def execRetryExpire (n t : Nat) (s : State) : Host.Outcome State Fault Refusal :=
  run (wfRetryExpire n) "RETRY_EXPIRE" (fun w =>
    let w := w.at_ t
    let x := w.ledStr n
    if w.ledOn && x.state == 4 && decide (x.since + max 1 (w.get LED_CTRL_retry_s) * 1000000000 ≤ w.tb.up) then
      if x.retries ≤ w.get LED_CTRL_max_retries then (w.setStr n { x with state := 1, since := w.tb.up }).strStep n
      else (w.setStr n { x with state := 5 }).ev LED_EVENT_latched 0
    else w) s

/-- RETRY_COUNT_RESET (R283). -/
def execRetryCountReset (n t : Nat) (s : State) : Host.Outcome State Fault Refusal :=
  run (wfRetryCountReset n) "RETRY_COUNT_RESET" (fun w =>
    let w := w.at_ t
    let x := w.ledStr n
    if w.ledOn && x.state == 3 && decide (x.since + 60000000000 ≤ w.tb.up) then w.setStr n { x with retries := 0 } else w) s

/-- SOFT_START_DONE (R283). -/
def execSoftStartDone (n t : Nat) (s : State) : Host.Outcome State Fault Refusal :=
  run (wfSoftStartDone n) "SOFT_START_DONE" (fun w =>
    let w := w.at_ t
    let x := w.ledStr n
    if w.ledOn && x.state == 2 && decide (x.since + w.softNs ≤ w.tb.up) then
      w.setStr n { x with state := 3, since := w.tb.up }
    else w) s

/-- LED CLEAR (R283). -/
def execLedClear (n : Nat) (s : State) : Host.Outcome State Fault Refusal :=
  runL (wfLedClear n) "LED_CLEAR" (fun w =>
    if !w.ledHere then w
    else if w.led.cal.isSome then w.ledDone 3
    else if 16 ≤ n ∨ (w.ledItem n).isNone then w.ledDone 1
    else
      let x := w.ledStr n
      if x.state = 5 then ((w.setStr n { x with state := 1, retries := 0, since := w.tb.up }).strStep n).ledDone 0
      else w.ledDone 0) s

/-- LED CAL (R280). -/
def execCal (c : Nat) (s : State) : Host.Outcome State Fault Refusal :=
  runL (wfCal c) "CAL" (fun w =>
    if !w.ledHere then w
    else if w.led.cal.isSome then w.ledDone 3
    else if 4 ≤ c ∨ (w.csetMembers c).isEmpty then w.ledDone 1
    else if (w.csetMembers c).any (fun n => w.pinFunc (w.sensorPin c (w.colourOf n)) != 4) then w.ledDone 5
    else (((w.setLed { w.led with cal := some (c, w.tb.up) }).set LED_CMD_STATUS_busy 1).ledRefresh)) s

/-- CAL_DONE (R280). -/
def execCalDone (dark ref : List Nat) (t : Nat) (s : State) : Host.Outcome State Fault Refusal :=
  run true "CAL_DONE" (fun w =>
    let w := w.at_ t
    match w.led.cal with
    | none => w
    | some (c, up) =>
      if !w.ledOn || decide (w.tb.up < up + 700000000) then w
      else
        let hz (l : List Nat) (p : Nat) : Nat := min 0xFFFF (roundDiv (l.getD p 0 : Int) 10).toNat
        let w := (w.csetMembers c).foldl (fun (w : W) n =>
          let p := w.colourOf n
          ((w.set (LED_CSET_REF_f_dark c p) (hz dark p)).set (LED_CSET_REF_f_ref c p) (hz ref p)).set
            (LED_CSET_TRIM_factor c p) 0x8000) w
        (w.calEnd 0).ledRefresh) s

/-- LED LOAD (R286). -/
def execLedLoad (p : Nat) (s : State) : Host.Outcome State Fault Refusal :=
  runL (wfLedLoad p) "LED_LOAD" (fun w =>
    if !w.ledHere then w
    else if w.led.cal.isSome then w.ledDone 3
    else match if p < 4 then w.ledItem (16 + p) else none with
      | none => w.ledDone 1
      | some b =>
        let n := le b 4 4 * le b 8 1
        let src := w.get (LED_MTX_SRC_LO_v p) + 2 ^ 32 * w.get (LED_MTX_SRC_HI_v p)
        if src % 8 ≠ 0 ∨ !inRam src n then w.ledDone 2
        else if w.bit (LED_MTX_STAT_shifting p) then w.ledDone 3
        else
          let m := w.mtx p
          let w := w.setMtx p { m with back := w.rdBytes src n, wanted := false, since := w.tb.up }
          ((w.set (LED_MTX_STAT_preloaded p) 0).set (LED_MTX_STAT_shifting p) 1).ledDone 0) s

/-- SHIFT_DONE (R286, R287). -/
def execShiftDone (p t : Nat) (s : State) : Host.Outcome State Fault Refusal :=
  run (wfShiftDone p) "SHIFT_DONE" (fun w =>
    let w := w.at_ t
    match w.ledItem (16 + p) with
    | none => w
    | some b =>
      let m := w.mtx p
      if w.ledOn && w.bit (LED_MTX_STAT_shifting p) && decide (m.since + W.shiftNs b ≤ w.tb.up) then
        let words := laneWords (le b 2 1) (W.lanePixels b) (pixelWords (le b 8 1) m.back)
        let w := (w.setMtx p { m with chain := words }).set (LED_MTX_STAT_shifting p) 0
        let w := w.set (LED_MTX_STAT_preloaded p) 1
        if m.wanted then w.mtxLatch p else w
      else w) s

/-- FRAME_SYNC_EDGE (R286, R287, R452). -/
def execFrameSyncEdge (p t : Nat) (s : State) : Host.Outcome State Fault Refusal :=
  run (wfFrameSyncEdge p) "FRAME_SYNC_EDGE" (fun w =>
    let w := w.at_ t
    if w.pinFunc (0x98 + p) = 6 then w.swapEvent p 1 else w) s

/-- CURVE_DATA_ACCESS (R277). -/
def execCurveDataAccess (v : Option W32) (s : State) : Host.Outcome State Fault Refusal :=
  runL true "CURVE_DATA_ACCESS" (fun w =>
    if !w.ledHere then (if v.isSome then w else w.answer 0)
    else
      let n := w.get LED_CURVE_SEL_point
      let t := w.get LED_CURVE_SEL_table
      let k := 1024 * t + n
      let w := match v with
        | some x => w.dirty.setLed { w.led with newPts := tblPut k (x.toNat % 65536) w.led.newPts }
        | none => w.answer (if n = 0 then 0 else (tblGet w.led.newPts k).getD (w.curvePoint t n))
      w.set LED_CURVE_SEL_point ((n + 1) % 1024)) s

/-- LED_CTRL_WRITE (R283). -/
def execLedCtrlWrite (v : W32) (s : State) : Host.Outcome State Fault Refusal :=
  runL true "LED_CTRL_WRITE" (fun w =>
    if !w.ledHere then w
    else
      let w := ({ w with regs := w.regs.busWrite LED_CTRL_enable.addr v } : W).dirty
      if w.serves then w.ledRefresh else w) s

/-- GLIDE_UPDATE (R275, R277). -/
def execGlideUpdate (t : Nat) (s : State) : Host.Outcome State Fault Refusal :=
  run true "GLIDE_UPDATE" (fun w =>
    let w := w.at_ t
    if !w.ledOn then w
    else
      let w := w.setLed { w.led with
        curves := w.led.newPts.foldl (fun (c : List (Nat × Nat)) e => tblPut e.1 e.2 c) w.led.curves
        newPts := []
        outs := w.led.outs.map (fun e =>
          let o : LedOut := { e.2 with elapsed := min e.2.total (e.2.elapsed + 1) }
          (e.1, { o with code := o.at_ })) }
      w.ledRefresh) s

/-- STRING_RUN_SECOND (R417). -/
def execStringRunSecond (n t : Nat) (s : State) : Host.Outcome State Fault Refusal :=
  run (wfStringRunSecond n) "STRING_RUN_SECOND" (fun w =>
    let w := w.at_ t
    if w.ledOn && (w.ledStr n).state == 3 then
      let src := w.get HLT_STR_SRC_v / 4 ^ n % 4
      let theta := if w.mtrStale src then 250 else sgn 16 (w.get (MTR_TEMP_theta src))
      (w.bump (LED_STR_ONTIME_v n) 1).wear (20 + n) (Config.effSecond (w.strV n) theta)
    else w) s

end Sys2Proof.Machine
end

