-- ==== Sys2Proof/Machine/Records.lean ====
section
/-! DEFINITION. The commands of the Scrivener and the Tallyman (R402 to R414), but for CLEAR, which needs a grant. -/

namespace Sys2Proof

/-- What an event number has counted, by instant, of what no command shows (R411). -/
opaque Config.traffic : Nat → Nat → Nat

end Sys2Proof

namespace Sys2Proof.Machine

/-- SCRIVENER_RECORD: the oldest record of the FIFO is taken (R405). -/
def execScrivenerRecord (t : Nat) (s : State) : Host.Outcome State Fault Refusal :=
  run true "SCRIVENER_RECORD" (fun w => let w := w.at_ t; if w.scrivenerOn then w.takeRec else w) s

/-- LOST_RECORD_EMIT: after 1 ms without a loss a LOST record gives the count (R405). -/
def execLostRecordEmit (t : Nat) (s : State) : Host.Outcome State Fault Refusal :=
  run true "LOST_RECORD_EMIT" (fun w =>
    let w := w.at_ t
    if w.scr.lostCount = 0 ∨ w.tb.up < w.scr.lastLoss + 1000000 then w
    else
      let n := w.scr.lostCount
      ({ w with scr := { w.scr with lostCount := 0 } } : W).writeOwn 0x004 n 0 0 0) s

/-- TOKEN_GAIN (R406). -/
def execTokenGain (code t : Nat) (s : State) : Host.Outcome State Fault Refusal :=
  run (wfTokenGain code) "TOKEN_GAIN" (fun w => (w.at_ t).gainToken code) s

/-- SW_RECORD: a software record with the staged parameters, or sw_bad (R407). -/
def execSwRecord (hart : Nat) (v : W32) (s : State) : Host.Outcome State Fault Refusal :=
  runL (wfSwRecord hart) "SW_RECORD" (fun w =>
    let code := v.toNat % 0x1000
    if 0xE00 ≤ code then
      let p (k : Nat) : Nat := w.get (REC_SW_P_v hart k)
      w.recordX true code 0xF0 (p 0) (p 1) (p 2) (p 3)
    else w.ev REC_EVENT_sw_bad 0) s

/-- The record of a log and slot as eight words; a slot that holds none reads 0. -/
def W.logSlot (w : W) (log slot : Nat) : List Byte :=
  let e := if log = 0 then tblGet w.scr.log0 slot else if log = 1 then tblGet w.scr.log1 slot
    else if log = 2 then w.scr.tail[slot]? else none
  match e with
  | some r => recBytes r
  | none => List.replicate 32 0

/-- Eight words latched into an array of registers. -/
def W.latch8 (w : W) (f : Nat → Fld) (b : List Byte) : W :=
  (upTo 8).foldl (fun w k => w.set (f k) (le b (4 * k) 4)) w

/-- RD_SEL: one whole record latched (R409). -/
def execRdSel (v : W32) (s : State) : Host.Outcome State Fault Refusal :=
  runL true "RD_SEL" (fun w =>
    let w := (w.set REC_RD_SEL_slot v.toNat).set REC_RD_SEL_log (v.toNat / 2 ^ 16)
    w.latch8 REC_RD_DATA_v (w.logSlot (w.get REC_RD_SEL_log) (w.get REC_RD_SEL_slot))) s

/-- RL_CFG_WRITE: the bucket refilled, and any SUPPRESSED record written at once (R406, R421). -/
def execRlCfgWrite (v : W32) (s : State) : Host.Outcome State Fault Refusal :=
  runL true "RL_CFG_WRITE" (fun w =>
    let code := w.get REC_RL_SEL_code
    if code < 0x100 then w
    else
      let w := w.flushSup code
      let burst := v.toNat % 256
      (w.setBucket code ⟨burst, bits v.toNat 23 8, tst v.toNat 31, max 1 burst, 0, 0, w.tb.up⟩).dirty) s

/-- PRF_SNAPSHOT (R413). -/
def execPrfSnapshot (s : State) : Host.Outcome State Fault Refusal :=
  runL true "PRF_SNAPSHOT" (fun w => w.prfSnap) s

/-- CLEAR_SEL: a selected counter zeroed (R412). -/
def execClearSel (k : Nat) (s : State) : Host.Outcome State Fault Refusal :=
  runL (wfClearSel k) "CLEAR_SEL" (fun w => { w with prf := { w.prf with sel := tblPut k 0 w.prf.sel } }) s

/-- FREEZE: all counters stop or restart on one edge, and the time frozen is totalled (R413). -/
def execFreeze (isOn : Bool) (t : Nat) (s : State) : Host.Outcome State Fault Refusal :=
  runL true "FREEZE" (fun w =>
    let w := w.at_ t
    match isOn, w.prf.frozenAt with
    | true, none => ({ w with prf := { w.prf with frozenAt := some w.tb.up } } : W).set PRF_CTRL_freeze 1
    | false, some u =>
      (({ w with prf := { w.prf with frozenAt := none } } : W).bump PRF_FROZEN_NS_v (w.tb.up - u)).set PRF_CTRL_freeze 0
    | _, _ => w.setB PRF_CTRL_freeze isOn) s

/-- SW_INC: one count of each software event named (R411). -/
def execSwInc (v : W32) (s : State) : Host.Outcome State Fault Refusal :=
  runL true "SW_INC" (fun w =>
    (upTo 16).foldl (fun w n => if v.getLsbD n then w.tally (0xF0 + n) else w) w) s

/-- SMP_STAT_CLEAR: the sample buffer emptied (R414). -/
def execSmpStatClear (s : State) : Host.Outcome State Fault Refusal :=
  runL true "SMP_STAT_CLEAR" (fun w =>
    ({ w with prf := { w.prf with samples := [] } } : W).set PRF_SMP_STAT_held 0) s

/-- A sample's 32 bytes (R414). -/
def sampleBytes (x : Sample) : List Byte :=
  leBytes 8 x.pc ++ leBytes 8 x.addr ++ leBytes 4 x.insn ++ leBytes 4 x.latency ++ leBytes 1 x.kind ++ leBytes 1 x.hart
    ++ leBytes 1 x.region ++ leBytes 1 x.flags ++ leBytes 4 x.stamp

/-- SMP_SEL_LATCH: a sample latched, 0 the newest (R414). -/
def execSmpSelLatch (v : W32) (s : State) : Host.Outcome State Fault Refusal :=
  runL true "SMP_SEL_LATCH" (fun w =>
    let i := v.toNat % 1024
    let b := match w.prf.samples[i]? with | some x => sampleBytes x | none => List.replicate 32 0
    (w.set PRF_SMP_SEL_index i).latch8 PRF_SMP_DATA_v b) s

/-- Event numbers that also count what no command shows: stalls of a lane, the blocks' own memory traffic, deliveries of
keys and back pressure (R411). -/
def unseenEvents : List Nat := [0x07, 0x10, 0x12, 0x13, 0x15, 0x16, 0x17, 0x18, 0x19, 0xB9, 0xCA]

/-- What event number `e` has counted by the instant `up` beside what commands showed. -/
def unseen (e up : Nat) : Nat := if unseenEvents.contains e then Config.traffic e up else 0

/-- The counter whose LO register lies at an address: its value and its HI register. -/
def W.counterAt (w : W) (a : Nat) : Option (Nat × Fld) :=
  let v (t : List (Nat × Nat)) (k : Nat) (hid : Nat) : Nat := ((tblGet t k).getD 0 + hid) % 2 ^ 64
  let snap := (w.get PRF_SNAP_SEC_LO_v + 2 ^ 32 * w.get PRF_SNAP_SEC_HI_v) * 1000000000 + w.get PRF_SNAP_NS_v
  if 0x40150404 ≤ a ∧ a < 0x40150600 ∧ (a - 0x40150404) % 16 = 0 then
    let k := (a - 0x40150404) / 16
    some (v w.prf.sel k (unseen (w.get (PRF_SEL_CFG_event k)) w.tb.up), PRF_SEL_HI_v k)
  else if 0x40150600 ≤ a ∧ a < 0x40150700 ∧ a % 8 = 0 then
    let k := (a - 0x40150600) / 8
    some (v w.prf.selSnap k (unseen (w.get (PRF_SEL_CFG_event k)) snap), PRF_SELSNAP_HI_v k)
  else if 0x40151000 ≤ a ∧ a < 0x40151800 ∧ a % 8 = 0 then
    let k := (a - 0x40151000) / 8
    some (v w.prf.cnt k (unseen k w.tb.up), PRF_CNT_HI_v k)
  else if 0x40151800 ≤ a ∧ a < 0x40152000 ∧ a % 8 = 0 then
    let k := (a - 0x40151800) / 8
    some (v w.prf.snap k (unseen k snap), PRF_SNAP_HI_v k)
  else none

/-- PRF_CNT_READ: the LO word answered and the HI register latched (R413). -/
def execPrfCntRead (addr : Nat) (s : State) : Host.Outcome State Fault Refusal :=
  runL true "PRF_CNT_READ" (fun w =>
    match w.counterAt addr with
    | some (v, hi) => (w.set hi (v / 2 ^ 32)).answer (v % 2 ^ 32)
    | none => w.answer 0) s

end Sys2Proof.Machine
end

