-- ==== Sys2Proof/Machine/RtcOps.lean ====
section
/-! DEFINITION. The real-time clock's shared operations: counting, setting, discipline and alarms (R348 to R360). -/

namespace Sys2Proof.Machine

/-- The last second the calendar holds, 9999-12-31 23:59:59. -/
def rtcLast : Nat := dayNumber ⟨9999, 12, 31⟩ * 86400 + 86399

/-- The value of an alarm's field at an instant: 0 second, 1 minute, 2 hour, 3 weekday, 4 day, 5 month, 6 year. -/
def fieldOfInstant (x k : Nat) : Nat :=
  let d := dateOf (x / 86400)
  if k = 0 then x % 60 else if k = 1 then x / 60 % 60 else if k = 2 then x / 3600 % 24
  else if k = 3 then weekdayOf (x / 86400) else if k = 4 then d.day else if k = 5 then d.month else d.year

namespace W

/-- The three time words as the RTC stands, without snap. -/
def rtcWords (w : W) : List W32 :=
  let x := w.rtc.secs
  let d := dateOf (x / 86400)
  let s := if w.rtc.in60 then 60 else x % 60
  [BitVec.ofNat 32 (w.rtcSub + s * 2 ^ 16),
   BitVec.ofNat 32 (x / 60 % 60 + x / 3600 % 24 * 2 ^ 8 + weekdayOf (x / 86400) * 2 ^ 16),
   BitVec.ofNat 32 (d.day + d.month * 2 ^ 8 + d.year * 2 ^ 12)]

/-! ## Alarms (R356, R357, R359) -/

def almField (w : W) (a k : Nat) : Nat :=
  if k = 0 then w.get (RTC_ALM_TIME_second a) else if k = 1 then w.get (RTC_ALM_TIME_minute a)
  else if k = 2 then w.get (RTC_ALM_TIME_hour a) else if k = 3 then w.get (RTC_ALM_TIME_weekday a)
  else if k = 4 then w.get (RTC_ALM_DATE_day a) else if k = 5 then w.get (RTC_ALM_DATE_month a)
  else w.get (RTC_ALM_DATE_year a)

/-- Whether an alarm ignores a field. -/
def almMasked (w : W) (a k : Nat) : Bool := tst (w.get (RTC_ALM_CTRL_mask a)) k

/-- Whether an instant matches in fields lo to lo + n - 1. -/
def almMatch (w : W) (a x lo n : Nat) : Bool :=
  (upTo n).all (fun i => w.almMasked a (lo + i) || w.almField a (lo + i) == fieldOfInstant x (lo + i))

/-- The latest time of day, below a limit, that matches hour, minute and second. -/
def almTimeOfDay (w : W) (a limit : Nat) : Option Nat :=
  let hs := if w.almMasked a 2 then (upTo 24).reverse else [w.almField a 2]
  let ms := if w.almMasked a 1 then (upTo 60).reverse else [w.almField a 1]
  let ss := if w.almMasked a 0 then (upTo 60).reverse else if w.almField a 0 < 60 then [w.almField a 0] else []
  hs.findSome? (fun h =>
    if limit ≤ h * 3600 then none
    else ms.findSome? (fun m =>
      if limit ≤ h * 3600 + m * 60 then none
      else (ss.find? (fun s => decide (h * 3600 + m * 60 + s < limit))).map (fun s => h * 3600 + m * 60 + s)))

/-- The latest matching instant above `lo` and at most `hi`, searched over `n` days back from hi's. -/
def almLatest (w : W) (a lo hi : Nat) : Nat → Option Nat
  | 0 => none
  | n + 1 =>
    let day := hi / 86400
    if hi ≤ lo then none
    else
      let here := if w.almMatch a (day * 86400) 3 4 then w.almTimeOfDay a (hi % 86400 + 1) else none
      match here with
      | some s => if lo < day * 86400 + s then some (day * 86400 + s) else none
      | none => if day = 0 then none else w.almLatest a lo (day * 86400 - 1) n

def almFlag (a : Nat) : Fld := if a = 0 then RTC_EVENT_alm0 else RTC_EVENT_alm1
def skipFlag (a : Nat) : Fld := if a = 0 then RTC_EVENT_skipped0 else RTC_EVENT_skipped1

/-- An alarm fires. -/
def almFire (w : W) (a inst : Nat) : W :=
  let w := (w.ev (almFlag a) 0).set (RTC_ALM_CTRL_arm a) 0
  w.setRtc { w.rtc with
    lastFire := tblPut a inst w.rtc.lastFire
    woke := w.rtc.woke || w.bit (RTC_ALM_CTRL_wake a) }

/-- An alarm at a move of the count from `o` to `n`, by counting or by a step. -/
def almJudge (w : W) (a o n : Nat) : W :=
  let lo := max o ((tblGet w.rtc.floors a).getD 0)
  if !w.bit (RTC_ALM_CTRL_arm a) || w.bit RTC_EVENT_osc_stopped || decide (n ≤ lo) then w
  else match w.almLatest a lo n ((n - lo) / 86400 + 2) with
    | none => w
    | some x =>
      let w := w.almFire a x
      if x < n ∨ (w.almLatest a lo (n - 1) ((n - lo) / 86400 + 2)).isSome then w.ev (skipFlag a) 0 else w

/-! ## Counting and steps (R349, R355, R359) -/

/-- The count set to a second and sub-second. -/
def rtcLoad (w : W) (secs sub : Nat) : W :=
  w.rtcMark.setRtc { w.rtcMark.rtc with secs := secs, in60 := false, sub := sub }

/-- A step to a new time, alarms judged. -/
def rtcStep (w : W) (secs sub : Nat) : W :=
  let o := w.rtc.secs
  let w := w.rtcLoad secs sub
  (w.almJudge 0 o secs).almJudge 1 o secs

/-- Status bits that follow the servo: no discipline without LOCKED and disc_enable. -/
def rtcJudge (w : W) : W :=
  let w := if w.servo = 2 ∧ w.bit RTC_CTRL_disc_enable then w
    else w.rtcFree
  w.setB RTC_STATUS_leap_now w.rtc.in60

/-- A leap second of a direction falls at the TAI second that begins now. -/
def leapDue (w : W) (deleted : Bool) : Bool :=
  w.bit RTC_STATUS_disciplined && (w.bit TBS_UTC_OFFSET_leap_pending || w.bit TBS_UTC_OFFSET_leap_occurred)
    && w.bit TBS_UTC_OFFSET_leap_dir == deleted && decide ((w.ns + 500000000) / 1000000000 = w.leapSec)

/-- The seconds count advances. -/
def rtcSecond (w : W) : W :=
  if w.rtc.stopped then w
  else
    let o := w.rtc.secs
    let w := w.rtcJudge
    let move (w : W) (n : Nat) : W :=
      let w := w.rtcLoad n 0
      (w.almJudge 0 o n).almJudge 1 o n
    let w :=
      if w.rtc.in60 then move w (o + 1)
      else if o % 86400 = 86399 ∧ w.leapDue false then
        w.rtcMark.setRtc { w.rtcMark.rtc with in60 := true, sub := 0 }
      else if o % 86400 = 86398 ∧ w.leapDue true then move w (o + 2)
      else if o = rtcLast then
        let w := (w.rtcLoad rtcEpoch 0).ev RTC_EVENT_year_wrap 0
        (w.almJudge 0 (rtcEpoch - 1) rtcEpoch).almJudge 1 (rtcEpoch - 1) rtcEpoch
      else move w (o + 1)
    w.setB RTC_STATUS_leap_now w.rtc.in60

/-! ## Setting (R351) -/

/-- The time that staging words give, if every check passes: seconds and sub-second. -/
def stagedTime (w : W) : Option (Nat × Nat) :=
  let a := (w.rtc.stage.getD 0 0).toNat
  let b := (w.rtc.stage.getD 1 0).toNat
  let c := (w.rtc.stage.getD 2 0).toNat
  let s := bits a 21 16
  let m := bits b 5 0
  let h := bits b 12 8
  let d : Date := ⟨bits c 25 12, bits c 11 8, bits c 4 0⟩
  let reserved := decide (a = bits a 14 0 + s * 2 ^ 16) && decide (b = m + h * 2 ^ 8)
    && decide (c = d.day + d.month * 2 ^ 8 + d.year * 2 ^ 12)
  if reserved && decide (2000 ≤ d.year) && decide (d.year ≤ 9999) && decide (1 ≤ d.day)
      && decide (d.day ≤ monthDays d.year d.month) && decide (h < 24) && decide (m < 60) && decide (s < 60) then
    some (dayNumber d * 86400 + h * 3600 + m * 60 + s, bits a 14 0)
  else none

/-- SET takes effect. -/
def rtcSet (w : W) : W :=
  let w := w.set RTC_STATUS_set_busy 0
  match w.stagedTime with
  | none => w.ev RTC_EVENT_write_err 0
  | some (s, sub) => (w.setRtc { w.rtc with setSince := true }).rtcStep s sub

/-! ## Reading (R350) -/

/-- The shadows released 1 s after the freeze. -/
def rtcRelease (w : W) : W :=
  match w.rtc.shadow with
  | some sh =>
    if sh.since + 1000000000 ≤ w.tb.up then (w.setRtc { w.rtc with shadow := none }).ev RTC_EVENT_shadow_timeout 0 else w
  | none => w

/-- A read of one of the three time registers, and its word. -/
def rtcRead (w : W) (k : Nat) : W × W32 :=
  let w := w.rtcRelease
  let w := match w.rtc.shadow with
    | some _ => w
    | none =>
      let snap := (w.rtc.snap + 1) % 16
      let ws := w.rtcWords.map (fun x => x ||| BitVec.ofNat 32 (snap * 2 ^ 28))
      w.setRtc { w.rtc with snap := snap, shadow := some ⟨ws, w.tb.up, []⟩ }
  match w.rtc.shadow with
  | some sh =>
    let seen := if sh.seen.contains k then sh.seen else k :: sh.seen
    (w.setRtc { w.rtc with shadow := if seen.length = 3 then none else some { sh with seen := seen } }, sh.words.getD k 0)
  | none => (w, 0)

/-! ## Discipline (R353, R354) -/

/-- The compare, once at each whole TAI second. -/
def rtcCompare (w : W) : W :=
  let w := w.rtcJudge
  if !(w.servo == 2 && w.bit RTC_CTRL_disc_enable) ∨ w.nsec ≠ 0 ∨ w.rtc.cmp = w.sec then w
  else
    let w := w.rtcMark
    let utcNs : Int := (w.ns : Int) - sgn 16 (w.get TBS_UTC_OFFSET_tai_utc) * 1000000000
    let utc : Int := utcNs * 32768 / 1000000000
    let e : Int := (w.rtc.secs * 32768 + w.rtcSub : Nat) - utc
    let slewed : Int := if w.rtc.slew = 0 then 0 else 32 * w.rtc.slew
    let w := w.setRtc { w.rtc with net := w.rtc.net + slewed, run := w.rtc.run + 1, slew := 0, cmp := w.sec }
    let w := w.set RTC_DISC_ERR_v (unsgn 32 (clip (-0x7FFFFFFF) 0x7FFFFFFF e))
    if -1 ≤ e ∧ e ≤ 1 then (w.set RTC_STATUS_disciplined 1).set RTC_STATUS_slewing 0
    else if e.natAbs * 1000000 ≤ 32768 * 1000 then
      (w.set RTC_STATUS_slewing 1).setRtc { w.rtc with slew := if 0 < e then -1 else 1 }
    else
      let w := w.set RTC_STATUS_slewing 0
      (w.rtcStep (utc / 32768).toNat (utc % 32768).toNat).ev RTC_EVENT_stepped 0

/-- cal brought up to date at the end of 1,024 s of unbroken discipline. -/
def rtcAutoCal (w : W) : W :=
  if w.rtc.run < 1024 then w
  else if !w.bit RTC_CTRL_auto_cal then w.setRtc { w.rtc with net := 0, run := 0 }
  else
    let cal := clip (-511) 511 (w.rtcCal + roundDiv w.rtc.net 32)
    ((w.rtcMark).set RTC_CAL_cal (unsgn 10 cal)).setRtc { w.rtcMark.rtc with net := 0, run := 0 }

/-! ## Writes that take effect in CLK_AON (R28) -/

/-- A write of an alarm's fields: refused where one is out of range. -/
def almWrite (w : W) (a : Nat) (date : Bool) (v : W32) : W :=
  let n := v.toNat
  let ok := if date then
      decide (1 ≤ bits n 4 0) && decide (1 ≤ bits n 11 8) && decide (bits n 11 8 ≤ 12) && decide (2000 ≤ bits n 25 12)
        && decide (bits n 25 12 ≤ 9999)
    else decide (bits n 5 0 ≤ 60) && decide (bits n 13 8 < 60) && decide (bits n 20 16 < 24) && decide (1 ≤ bits n 26 24)
  if ok then
    let addr := if date then (RTC_ALM_DATE_day a).addr else (RTC_ALM_TIME_second a).addr
    let w : W := { w with regs := w.regs.busWrite addr v }
    w.setRtc { w.rtc with lastFire := tblDel a w.rtc.lastFire }
  else w.ev RTC_EVENT_write_err 0

/-- A write of RTC_ALM_CTRL: arming sets the floor. -/
def almCtrl (w : W) (a : Nat) (v : W32) : W :=
  let w : W := { w with regs := w.regs.busWrite (RTC_ALM_CTRL_arm a).addr v }
  if tst v.toNat 0 then
    w.setRtc { w.rtc with floors := tblPut a (max w.rtc.secs ((tblGet w.rtc.lastFire a).getD 0)) w.rtc.floors }
  else w

/-- osc_stopped cleared, if a SET has completed since it was set. -/
def oscClear (w : W) : W := if w.rtc.setSince then w.set RTC_EVENT_osc_stopped 0 else w

/-- A write to the RTC block takes effect. -/
def rtcWrite (w : W) (addr : Nat) (v : W32) : W :=
  if addr = RTC_CMD_cmd.addr then (if bits v.toNat 3 0 = 1 then w.rtcSet else w)
  else if addr = RTC_EVENT_osc_stopped.addr then
    let w := if tst v.toNat 0 then w.oscClear else w
    { w with regs := w.regs.busWrite addr (v &&& 0xFFFFFFFE) }
  else if addr = RTC_SET_TIME0_subsec.addr ∨ addr = RTC_SET_TIME1_minute.addr ∨ addr = RTC_SET_DATE_day.addr then
    let k := (addr - RTC_SET_TIME0_subsec.addr) / 4
    let w : W := { w with regs := w.regs.busWrite addr v }
    w.setRtc { w.rtc with stage := w.rtc.stage.set k v }
  else if addr = (RTC_ALM_TIME_second 0).addr then w.almWrite 0 false v
  else if addr = (RTC_ALM_TIME_second 1).addr then w.almWrite 1 false v
  else if addr = (RTC_ALM_DATE_day 0).addr then w.almWrite 0 true v
  else if addr = (RTC_ALM_DATE_day 1).addr then w.almWrite 1 true v
  else if addr = (RTC_ALM_CTRL_arm 0).addr then w.almCtrl 0 v
  else if addr = (RTC_ALM_CTRL_arm 1).addr then w.almCtrl 1 v
  else if addr = RTC_CAL_cal.addr then
    { w.rtcMark with regs := w.regs.busWrite addr (if bits v.toNat 9 0 = 512 then v + 1 else v) }
  else ({ w with regs := w.regs.busWrite addr v } : W).rtcJudge

/-- A lane write that leaves the voter for a CLK_AON block. -/
def aonSend (w : W) (addr : Nat) (v : W32) : W :=
  if addr = RTC_CMD_cmd.addr ∧ bits v.toNat 3 0 = 1 then
    if w.bit RTC_STATUS_set_busy then w.ev RTC_EVENT_write_err 0
    else (w.set RTC_STATUS_set_busy 1).setRtc { w.rtc with aon := w.rtc.aon ++ [(addr, v)] }
  else w.setRtc { w.rtc with aon := w.rtc.aon ++ [(addr, v)] }

end W

end Sys2Proof.Machine
end

