-- ==== Sys2Proof/Machine/Cobbler.lean ====
section
/-! DEFINITION. CLEAR of the Scrivener, and the daily sample and RESET_IND of the Cobbler (R410, R415, R418, R419). -/

namespace Sys2Proof.Machine

namespace W

/-- REC_CMD_STATUS and HLT_CMD_STATUS at the end of a command. -/
def recDone (w : W) (result : Nat) : W := (w.set REC_CMD_STATUS_done 1).set REC_CMD_STATUS_result result
def hltDone (w : W) (result : Nat) : W := (w.set HLT_CMD_STATUS_done 1).set HLT_CMD_STATUS_result result

/-- A log emptied, with its CLEARED record: log, first and last seq cleared. -/
def logClear (w : W) (log : Nat) : W :=
  let back (last n : Nat) : Nat := (last + 2 ^ 32 + 1 - n) % 2 ^ 32
  let w := w.ev REC_EVENT_cleared 0
  if log = 0 then
    let last := (w.scr.nextSeq + 2 ^ 32 - 1) % 2 ^ 32
    let n := w.scr.log0.length
    ({ w with scr := { w.scr with log0 := [] } } : W).writeOwn 0x003 0 (back last n) last 0
  else
    let last := w.get REC_MIRROR_SEQ_v
    let n := w.scr.log1.length
    (({ w with scr := { w.scr with log1 := [] } } : W).set REC_STATUS_mirror_held 0).writeOwn 0x003 1 (back last n) last 0

/-- Indicator 3's daily mean in 0.01 ppm; none on a day on which REF10M_IN was used or LOCKED lasted less than 1 h. -/
def ageing (w : W) : Option Int :=
  let h := w.hlt
  if h.refUsed || decide (h.lockedNs < 3600000000000) || h.fCnt == 0 then none
  else some (roundDiv (h.fSum * 100000000) (h.fCnt * 2 ^ 34))

/-- Today's sample of an indicator, where it has one, and the date predicted anew. -/
def sampleInd (w : W) (day i : Nat) : W :=
  let taken := (w.indicator i).ref.isSome
  let has := (i != 1 || (w.hlt.c.isSome && taken)) && (i != 2 || (w.hlt.esr.isSome && taken)) && (i != 3 || w.ageing.isSome)
  let w := if i = 3 then (match w.ageing with | some v => w.wearTo 3 v | none => w) else w
  let x := w.indicator i
  let x : Indicator := if has then { x with hist := ((day, x.u i) :: x.hist).take 90 } else x
  w.setInd i (predict x)

/-- The sample of the day (R418). -/
def daily (w : W) (day : Nat) : W :=
  let w := (upTo 40).foldl (fun (w : W) i => w.sampleInd day i) w
  let w : W := { w with hlt := { w.hlt with lastDay := some day, fSum := 0, fCnt := 0, lockedNs := 0, refUsed := false } }
  w.showInd

end W

/-- REC_CLEAR: needs the grant CLEAR_RECORDS of the log, and consumes it (R410). -/
def execRecClear (log : Nat) (s : State) : Host.Outcome State Fault Refusal :=
  runL (wfRecClear log) "REC_CLEAR" (fun w =>
    if 2 ≤ log then w.recDone 2
    else if !w.granted 5 (some log) then w.recDone 1
    else ((w.setGrant none).logClear log).recDone 0) s

/-- DAILY_SAMPLE: one sample a day, at the first moment in SERVING at or after 00:00:00 UTC by the RTC (R418, R421). -/
def execDailySample (t : Nat) (s : State) : Host.Outcome State Fault Refusal :=
  run true "DAILY_SAMPLE" (fun w =>
    let w := w.at_ t
    let new := match w.hlt.lastDay with | some d => decide (d < w.today) | none => true
    if w.op == .serving && w.bit HLT_CTRL_enable && new then w.daily w.today else w) s

/-- RESET_IND: in MAINTENANCE only, with a block record of the indicator and its old raw quantity (R419). -/
def execResetInd (s : State) : Host.Outcome State Fault Refusal :=
  runL true "RESET_IND" (fun w =>
    let i := w.get HLT_SEL_index
    if w.key.lc ≠ 3 then w.hltDone 1
    else if 40 ≤ i then w
    else
      let x := w.indicator i
      let old := unsgn 64 (x.raw / (rawUnit i : Nat))
      let w := w.setInd i { Indicator.fresh i with rated := x.rated }
      let w := w.record 0xC0F 0x16 i (old % 2 ^ 32) (old / 2 ^ 32) 0
      w.showInd.hltDone 0) s

end Sys2Proof.Machine
end

