-- ==== Sys2Proof/Machine/Crier.lean ====
section
/-! DEFINITION. The commands of the Crier (R156 to R177). -/

namespace Sys2Proof.Machine

/-- CRIER_RECORD: the record at the head of the Crier queue, of the analytics or fanned, is acted on; while units wait for
the Lamplighter queue it stays (R156). A module whose pattern has no Crier queue takes a fanned record as it stands. -/
def execCrierRecord (t : Nat) (s : State) : Host.Outcome State Fault Refusal :=
  run true "CRIER_RECORD" (fun w =>
    let w := (w.at_ t).cryFlush
    if !w.cryOn || !w.cry.lamp.isEmpty then w
    else match w.headOf 0x07 0x08 with
      | some u =>
        let w := ((w.popQ 0x07 0x08).fanFlush).ganFlush
        if u.aborted then w
        else match u.body with
          | .bytes r => w.cryTake r w.me false
          | .fanned o r => w.cryTake r o true
          | _ => w
      | none =>
        match w.cry.fanned with
        | (o, r) :: rest => (w.setCry { w.cry with fanned := rest }).cryTake r o true
        | [] => w) s

/-- ALARM_HEARTBEAT: to each destination with a MAC in the group of an action with udp_en (R159). -/
def execAlarmHeartbeat (t : Nat) (s : State) : Host.Outcome State Fault Refusal :=
  run true "ALARM_HEARTBEAT" (fun w =>
    let w := w.at_ t
    let p := w.get CRY_HB_CFG_alarm_hb_s
    if !w.cryOn || w.isStandby || p == 0 || !w.bit CRY_CTRL_udp_enable || decide (w.tb.up < w.cry.hbUp + p * 1000000000)
    then w
    else
      let w := w.setCry { w.cry with hbUp := w.tb.up }
      let gs := ((upTo 256).filter (fun a => w.bit (CRY_ACT_udp_en a))).map (fun a => w.get (CRY_ACT_dest_group a))
      let ds := (upTo 256).filter (fun d => w.dstMac d != 0 &&
        gs.any (fun g => tst (w.get (CRY_DGRP_v g (d / 32))) (d % 32)))
      ds.foldl (fun w d => w.alarmTo d 0 (w.get CRY_ALM_SEQ_v) false none) w) s

/-- GOOSE_RETRANSMIT (R161). -/
def execGooseRetransmit (c t : Nat) (s : State) : Host.Outcome State Fault Refusal :=
  run (wfGooseRetransmit c) "GOOSE_RETRANSMIT" (fun w =>
    let w := w.at_ t
    let g := w.gcb c
    if w.cryOn && !w.isStandby && w.gooseOn c && !g.scr.isEmpty && decide (g.sentUp + 1000000 * g.interval ≤ w.tb.up)
    then w.gooseAgain c else w) s

/-- GCB_CTRL_WRITE (R160). -/
def execGcbCtrlWrite (c : Nat) (v : W32) (s : State) : Host.Outcome State Fault Refusal :=
  runL (wfGcbCtrlWrite c) "GCB_CTRL_WRITE" (fun w =>
    (((w.set (CRY_GCB_CTRL_enable c) v.toNat).set (CRY_GCB_CTRL_test c) (v.toNat / 2)).dirty).readGcb c) s

/-- ALARM_FAN_RX (R170). -/
def execAlarmFanRx (m : BrdMsg) (s : State) : Host.Outcome State Fault Refusal :=
  run true "ALARM_FAN_RX" (fun w =>
    match (w.at_ m.t).brdAccept m (· == 8) with
    | (w, some (h, r)) => w.fanRx h r
    | (w, none) => w) s

/-- GOP_ANNOUNCE_RX (R173). -/
def execGopAnnounceRx (m : BrdMsg) (s : State) : Host.Outcome State Fault Refusal :=
  run true "GOP_ANNOUNCE_RX" (fun w =>
    match (w.at_ m.t).brdAccept m isAnnounce with
    | (w, some (h, p)) => w.gopRx h p (m.data.take 48)
    | (w, none) => w) s

/-- ABORT_RX: an armed operation returns to IDLE, ABORT goes on to its children; at or after T it is ignored (R173,
R177). -/
def execAbortRx (m : BrdMsg) (s : State) : Host.Outcome State Fault Refusal :=
  run true "ABORT_RX" (fun w =>
    match (w.at_ m.t).brdAccept m (· == 4) with
    | (w, some (h, _)) =>
      match w.cry.ops.find? (fun o => W.sameOp o h.origin h.op && o.state == 1 && decide (w.ns < o.t)) with
      | some o =>
        let w := if w.isStandby then w
          else (w.brdDown o.size o.fan o.origin { h with hops := h.hops + 1 } []).1
        w.gopAbort o
      | none => if w.cry.seen.contains (h.origin, h.op) then w.ev CRY_EVENT_gop_late 0 else w
    | (w, none) => w) s

/-- CONFIRM_RX: a child's counts are added (R173). -/
def execConfirmRx (m : BrdMsg) (s : State) : Host.Outcome State Fault Refusal :=
  run true "CONFIRM_RX" (fun w =>
    match (w.at_ m.t).brdAccept m (· == 5) with
    | (w, some (h, b)) =>
      match w.cry.ops.find? (fun o => W.sameOp o h.origin h.op && o.kids.contains h.sender && !o.confirmed) with
      | some o =>
        let o : Gop :=
          { o with
            kids := o.kids.filter (· != h.sender)
            counts := addCounts o.counts ((upTo 5).map (fun i => be b (2 * i) 2)) }
        if w.isStandby then w else (w.putOp o).gopCheck o
      | none => w
    | (w, none) => w) s

/-- BARRIER_ENTER_RX (R175). -/
def execBarrierEnterRx (m : BrdMsg) (s : State) : Host.Outcome State Fault Refusal :=
  run true "BARRIER_ENTER_RX" (fun w =>
    match (w.at_ m.t).brdAccept m (· == 6) with
    | (w, some (h, _)) =>
      if w.isStandby then w
      else
        let b := w.barrier h.arg
        (w.setBar h.arg { b with kids := h.sender :: b.kids.filter (· != h.sender) }).barCheck h.arg
    | (w, none) => w) s

/-- BARRIER_RELEASE_RX: armed and forwarded as an operation (R173, R175). -/
def execBarrierReleaseRx (m : BrdMsg) (s : State) : Host.Outcome State Fault Refusal :=
  run true "BARRIER_RELEASE_RX" (fun w =>
    match (w.at_ m.t).brdAccept m (· == 7) with
    | (w, some (h, p)) => w.gopRx h p (m.data.take 48)
    | (w, none) => w) s

/-- LIVENESS_RX (R168). -/
def execLivenessRx (m : BrdMsg) (s : State) : Host.Outcome State Fault Refusal :=
  run true "LIVENESS_RX" (fun w =>
    match (w.at_ m.t).brdAccept m (· == 9) with
    | (w, some (h, b)) => if w.isStandby then w else w.liveRx h b
    | (w, none) => w) s

/-- LIVENESS_SEND: every brd_hb_ms to the parent; module 0 sends the map down every 100 ms (R168). -/
def execLivenessSend (t : Nat) (s : State) : Host.Outcome State Fault Refusal :=
  run true "LIVENESS_SEND" (fun w =>
    let w := w.at_ t
    let p := if w.me = 0 then 100 else max 1 (w.get CRY_HB_CFG_brd_hb_ms)
    if w.cryOn && !w.isStandby && w.bit CRY_CTRL_brodsan_enable && decide (w.cry.liveUp + 1000000 * p ≤ w.tb.up)
    then w.liveSend else w) s

/-- MODULE_DOWN: a neighbour silent for miss intervals, or a module whose bit the map lacks (R168). -/
def execModuleDown (module t : Nat) (s : State) : Host.Outcome State Fault Refusal :=
  run (wfModuleDown module) "MODULE_DOWN" (fun w =>
    let w := w.at_ t
    let up := treeParent w.sysN w.sysF 0 w.me == some module
    let near := (treeKids w.sysN w.sysF 0 w.me).contains module || up
    let heard := max w.cry.since ((tblGet w.cry.heard module).getD 0)
    let silent := near && decide (heard + w.missNs up ≤ w.tb.up)
    let absent := w.cry.map != 0 && !tst w.cry.map module
    if w.serves && !w.isStandby && w.bit CRY_CTRL_brodsan_enable && decide (module < w.sysN) && module != w.me
        && !w.cry.down.contains module && (silent || absent)
    then w.moduleDown module else w) s

/-- GOP_BROADCAST (R171). -/
def execGopBroadcast (late level : Bool) (s : State) : Host.Outcome State Fault Refusal :=
  runL true "GOP_BROADCAST" (fun w =>
    if w.serves then w.gopCommand 1 (bitNat late + 2 * bitNat level) 0 else w) s

/-- GOP_SNAPSHOT (R171). -/
def execGopSnapshot (late : Bool) (s : State) : Host.Outcome State Fault Refusal :=
  runL true "GOP_SNAPSHOT" (fun w => if w.serves then w.gopCommand 2 (bitNat late) 0 else w) s

/-- GOP_RESET (R171). -/
def execGopReset (kind : Nat) (s : State) : Host.Outcome State Fault Refusal :=
  runL (wfGopReset kind) "GOP_RESET" (fun w => if w.serves then w.gopCommand 3 0 kind else w) s

/-- GOP_ENTER: this module's work has reached the barrier (R175). -/
def execGopEnter (late : Bool) (number : Nat) (s : State) : Host.Outcome State Fault Refusal :=
  runL (wfGopEnter number) "GOP_ENTER" (fun w =>
    if !w.serves then w
    else
      let r := w.gopRefuse (some (w.ns + 2 ^ 64)) 1 0
      let w := w.gopStatus r
      if r = 0 then (w.setBar number { w.barrier number with entered := true, late := late }).barCheck number else w) s

/-- GOP_ABORT: an armed operation of this module is aborted here and down the tree, RESET only until T − d·h − ε (R173). -/
def execGopAbort (op : Nat) (s : State) : Host.Outcome State Fault Refusal :=
  runL (wfGopAbort op) "GOP_ABORT" (fun w =>
    if !w.serves then w
    else
      let r := if w.brdKey.isNone then 5 else if !w.bit CRY_CTRL_brodsan_enable then 6 else 0
      let w := w.gopStatus r
      if r != 0 then w
      else match w.cry.ops.find? (fun o => o.origin == w.me && o.opId % 65536 == op && o.state == 1 && decide (w.ns < o.t)) with
        | some o =>
          if o.kind == 3 && decide (o.t < w.ns + o.depth * w.hopNs + w.epsNs) then w
          else
            let w := (w.brdDown o.size o.fan o.origin
              { kind := 4, flags := 0, hops := 0, len := 0, sys := 0, origin := w.me, sender := 0, epoch := 0, seq := 0,
                op := o.opId, t := o.t, fan := o.fan, depth := o.depth, size := o.size, arg := o.arg } []).1
            w.gopAbort o
        | none => w.ev CRY_EVENT_gop_late 0) s

/-- CONFIRM_DEADLINE: T + 10 µs + (d − level)·h, for RESET T − level·h: children that have not confirmed count absent with
their subtrees (R173). -/
def execConfirmDeadline (origin op t : Nat) (s : State) : Host.Outcome State Fault Refusal :=
  run true "CONFIRM_DEADLINE" (fun w =>
    let w := w.at_ t
    match w.cry.ops.find? (fun o => W.sameOp o origin op && !o.confirmed && (o.state == 3 || o.kind == 3)) with
    | some o =>
      let level := treeLevel o.fan 12 (treePos o.size o.origin w.me)
      let due := if o.kind = 3 then o.t - level * w.hopNs else o.t + 10000 + (o.depth - level) * w.hopNs
      if !w.serves || w.isStandby || decide (w.ns < due) then w
      else
        let n := (o.kids.map (subtree o.size o.fan o.origin)).sum
        w.gopConfirm { o with kids := [], counts := addCounts o.counts (oneCount 3 n) }
    | none => w) s

/-- BARRIER_TIMEOUT (R175). -/
def execBarrierTimeout (number t : Nat) (s : State) : Host.Outcome State Fault Refusal :=
  run true "BARRIER_TIMEOUT" (fun w =>
    let w := w.at_ t
    match tblGet w.cry.bars number with
    | some b =>
      if w.serves && !w.isStandby && w.me == w.get CRY_BAR_TIMEOUT_barrier_root && !b.passed
          && decide (b.since + 1000000 * w.get CRY_BAR_TIMEOUT_timeout_ms ≤ w.tb.up)
      then (w.ev CRY_EVENT_barrier_timeout 0).release number b true
      else w
    | none => w) s

/-- SYS_CFG_WRITE: the system table is read again (R166). -/
def execSysCfgWrite (v : W32) (s : State) : Host.Outcome State Fault Refusal :=
  runL true "SYS_CFG_WRITE" (fun w =>
    let n := v.toNat
    ((((w.set CRY_SYS_CFG_module_no n).set CRY_SYS_CFG_sys_size (n / 2 ^ 16)).set CRY_SYS_CFG_fanout (n / 2 ^ 27)).dirty).readTable) s

end Sys2Proof.Machine
end

