-- ==== Sys2Proof/Machine/RadOps.lean ====
section
/-! DEFINITION. The radio MAC's shared operations: PHY modes, frames and their security, outbound counters, the lantern
table's states, level frames, group commands, programme copies, assign frames and reception (R223 to R255). -/

namespace Sys2Proof

/-- The extended address of the module's radio `r`, which the spec names (R238) and does not give. -/
opaque Config.radioAddr : Nat → Nat

end Sys2Proof

namespace Sys2Proof.Machine

/-- The time a PSDU of `n` octets takes in a PHY mode, in µs (R223). -/
def airUs (mode n : Nat) : Nat :=
  if mode = 0x11 then 1440 + 120 * ceilDiv n 6
  else if mode = 0x12 then 1440 + 120 * ceilDiv n 12
  else 480 + 40 * n

/-- Level entries per frame, and Pedlar segments per frame, of a PHY mode (R223, R262). -/
def levelCap (mode : Nat) : Nat := if mode = 0x11 then 125 else if mode = 0x12 then 259 else 66
def segCap (mode : Nat) : Nat := if mode = 0x11 then 3 else if mode = 0x12 then 7 else 2

/-- A superframe in ns (R226). -/
def sfNs : Nat := 640000000

/-- The MAC header with its auxiliary security header (R230, R238): frame control, sequence number, PAN identifier,
destination and source, security control, frame counter and key index, in the little-endian layout of IEEE 802.15.4. -/
def macHeader (ack dstExt srcExt : Bool) (seq pan dst src ctr key : Nat) : List Byte :=
  let fc := 0x2049 + (if ack then 0x20 else 0) + (if dstExt then 0x0C00 else 0x0800) + (if srcExt then 0xC000 else 0x8000)
  leBytes 2 fc ++ leBytes 1 seq ++ leBytes 2 pan ++ leBytes (if dstExt then 8 else 2) dst
    ++ leBytes (if srcExt then 8 else 2) src ++ [0x0D] ++ leBytes 4 ctr ++ leBytes 1 key

/-- The CCM* nonce: the sender's extended address, the frame counter and the security level (R238). -/
def macNonce (sender ctr : Nat) : List Byte := beBytes 8 sender ++ beBytes 4 ctr ++ [5]

def Radio.init : Radio :=
  { running := false, serving := false, sf := 0, fired := none, ctr := [0, 0], cmds := [], urgent := 0, owed := [], last := [0, 0, 0], uni := []
    copies := [], schedUp := 0, cfg := 0, airtime := [], seq := 0, actSf := none }

def CtrRec.empty : CtrRec := ⟨none, none, [], false⟩

/-- Fields of an entry of the lantern table (R250). -/
def lanExt (b : List Byte) : Nat := le b 0 8
def lanKind (b : List Byte) : Nat := le b 8 1
def lanState (b : List Byte) : Nat := le b 72 1
def lanF (b : List Byte) : Nat := le b 64 2
def lanSent (b : List Byte) : Nat := le b 74 2

namespace W

/-! ## Radios -/

def radItem (w : W) (r : Nat) : Option (List Byte) := (w.pat.active.radios.getD []).find? (fun b => le b 0 1 == r)
def radMode (w : W) (r : Nat) : Nat := match w.radItem r with | some b => le b 2 1 | none => 1
def radPan (w : W) (r : Nat) : Nat := match w.radItem r with | some b => le b 4 2 | none => 0

/-- Radios the pattern configures. -/
def radList (w : W) : List Nat := (upTo 4).filter (fun r => (w.radItem r).isSome)

/-- The code of slot k (R224). -/
def slotCode (w : W) (r k : Nat) : Nat := match w.radItem r with | some b => le b 12 16 / 4 ^ k % 4 | none => 1

/-- The boundary B_n of a radio, and the superframe an instant lies in (R226). -/
def boundary (w : W) (r n : Nat) : Nat :=
  n * sfNs + (match w.radItem r with | some b => le b 8 4 * 1000 | none => 0)
def sfAt (w : W) (r t : Nat) : Nat := (t - w.boundary r 0) / sfNs

def radio (w : W) (r : Nat) : Radio := (tblGet w.rad.radios r).getD Radio.init
def setRadio (w : W) (r : Nat) (x : Radio) : W := w.setRad { w.rad with radios := tblPut r x w.rad.radios }

/-- The radio receives: the module serves, and both enables are on (R226, R255). -/
def radOn (w : W) (r : Nat) : Bool :=
  w.loom && (w.radItem r).isSome && w.bit RAD_CTRL_enable && w.bit (RAD_RCTRL_enable r) && !w.gated 0x0B

/-- It sends as well: not while the partner gates it (R428). -/
def radSends (w : W) (r : Nat) : Bool := w.radOn r && !w.isStandby

/-! ## Transmit time and the duty limit (R255) -/

def dutyUs (w : W) (r : Nat) : Nat :=
  (((w.radio r).airtime.filter (fun a => decide (w.tb.up < a.1 + 3600000000000))).map (·.2)).sum

def dutyHeld (w : W) (r : Nat) : Bool :=
  decide (0 < w.get (RAD_RCTRL_duty_pm r)) && decide (w.get (RAD_RCTRL_duty_pm r) * 3600000 ≤ w.dutyUs r)

/-- Time on air spent from `after` ns on; it counts in the radio's wear as well (R415). -/
def spend (w : W) (r us after : Nat) : W :=
  let held := w.dutyHeld r
  let x := w.radio r
  let keep := x.airtime.filter (fun a => decide (w.tb.up < a.1 + 3600000000000))
  let w := w.setRadio r { x with airtime := (w.tb.up + after, us) :: keep }
  let w := w.wear (36 + r) (us * 1000)
  if !held && w.dutyHeld r then w.ev RAD_EVENT_duty_limit 0 else w

/-! ## Sending (R230, R238, R239) -/

/-- The key index in use, 0 for key index 1, and its key. -/
def txIdx (w : W) (r : Nat) : Nat := w.get (RAD_RCTRL_tx_key r)
def keySlotOf (w : W) (r idx : Nat) : Nat := if idx = 0 then w.get (RAD_RKEY_slot_a r) else w.get (RAD_RKEY_slot_b r)
def radKey (w : W) (r idx : Nat) : Option (List Byte) := w.keyFor (w.keySlotOf r idx) 0

/-- From the content cutoff of a slot to the first bit of its frame, in ns (R228). -/
def firstBit : Nat := 50000

/-- A frame goes on air: counted, its time spent, and logged with the instant of its first bit. -/
def onAir (w : W) (f : AirFrame) : W :=
  let n := (if f.ext then 29 else 23) + f.payload.length
  let w := ((w.spend f.radio (airUs (w.radMode f.radio) n) firstBit).bump (RAD_TX_FRAMES_v f.radio) 1).tally (0x90 + f.radio)
  w.setRad { w.rad with air := { f with at_ := w.ns + firstBit } :: w.rad.air }

/-- The radio transmits at some time of the `us` µs that end now: it receives nothing meanwhile (R228). -/
def talking (w : W) (r us : Nat) : Bool :=
  (w.radio r).airtime.any (fun a => decide (a.1 < w.tb.up) && decide (w.tb.up < a.1 + 1000 * (a.2 + us)))

/-- A new data frame sent, unless the radio has no key or its counter has stopped. -/
def sendFrame (w : W) (r dst : Nat) (ext ack : Bool) (payload : List Byte) : W × Option AirFrame :=
  let idx := w.txIdx r
  let x := w.radio r
  let c := x.ctr.getD idx 0
  match w.radKey r idx with
  | none => (w, none)
  | some key =>
    if 0xFFFFFFF0 ≤ c then (w, none)
    else
      let hdr := macHeader ack ext false x.seq (w.radPan r) dst 0 c (idx + 1)
      let nonce := macNonce (Config.radioAddr r) c
      let mic := ccmTag (aesKeys key) 4 nonce hdr payload
      let cipher := ccmCrypt (aesKeys key) nonce payload
      let f : AirFrame := ⟨r, w.ns, dst, ext, x.seq, ack, idx + 1, c, payload, cipher, mic, crc32 (hdr ++ cipher ++ mic)⟩
      let w := (w.setRadio r { x with ctr := x.ctr.set idx (c + 1), seq := (x.seq + 1) % 256 }).useKey (w.keySlotOf r idx)
      let w := if c + 1 = 0xF0000000 then w.ev RAD_EVENT_ctr_warn 0 else w
      let w := if c + 1 = 0xFFFFFFF0 then w.ev RAD_EVENT_ctr_stop 0 else w
      (w.onAir f, some f)

def broadcast (w : W) (r : Nat) (payload : List Byte) : W := (w.sendFrame r 0xFFFF false false payload).1

/-- Whether a broadcast would leave: a key, a counter below the stop. -/
def canSend (w : W) (r : Nat) : Bool :=
  (w.radKey r (w.txIdx r)).isSome && decide ((w.radio r).ctr.getD (w.txIdx r) 0 < 0xFFFFFFF0)

/-- A change of tx_key to an index whose slot holds a key not used before, its key_id being absent from the used-key
register, returns the index's counter to 0; the key then serves as the transmit key (R239, R372). -/
def txKeyChanged (w : W) (r : Nat) : W :=
  let idx := w.txIdx r
  let slot := w.keySlotOf r idx
  match w.radKey r idx with
  | some _ =>
    let new := !w.key.used.contains (kId (w.slotAt slot).header)
    let x := w.radio r
    let w := if new then w.setRadio r { x with ctr := x.ctr.set idx 0 } else w
    w.useKey slot
  | none => w

/-! ## The lantern table's states (R243, R250, R252) -/

def isEnabled (w : W) (g : Nat) : Bool := w.rad.enabled.contains g
def stateOf (w : W) (g : Nat) : Nat := lanState (w.lan g)

/-- An interrupt record for a change of state, with the global index, always while silent_irq asks for it. -/
def silentEv (w : W) (f : Fld) (g : Nat) : W :=
  if w.bit f && (w.bit RAD_CTRL_silent_irq || tst (le (w.lan g) 9 1) 1) then w.raise (16 * blockOf f + f.lo) g
  else w.ev f g

/-- A new state of an entry, RAD_SILENT_CNT following. -/
def setEntry (w : W) (g st : Nat) : W :=
  let old := w.stateOf g
  if old = st then w
  else
    let w := w.setLan g (fun b => patch b 72 [BitVec.ofNat 8 st])
    if st = 4 then
      ((w.setLan g (fun b => patchCnt b 92 1)).set RAD_SILENT_CNT_count (w.get RAD_SILENT_CNT_count + 1)).silentEv
        RAD_EVENT_silent g
    else if old = 4 then
      (w.set RAD_SILENT_CNT_count (w.get RAD_SILENT_CNT_count - 1)).silentEv RAD_EVENT_resumed g
    else w

/-- Heard in a superframe: last_heard follows, and a SILENT entry becomes PRESENT. -/
def heardIn (w : W) (g sf : Nat) : W :=
  let w := w.setRad { w.rad with heard := tblPut g sf w.rad.heard }
  let w := w.setLan g (fun b => patch b 112 (fullStamp w.ns))
  if w.stateOf g = 4 then w.setEntry g 3 else w

def local_ (w : W) (g : Nat) : Nat := g - w.lanFirst (w.lanRadio g)

/-- SILENT marking at a boundary B_n (R243). -/
def silentMarks (w : W) (r n : Nat) : W :=
  let gs := (upTo (w.lanCount r)).map (· + w.lanFirst r)
  (gs.filter (fun g => w.isEnabled g)).foldl (fun w g =>
    let b := w.lan g
    let late := match tblGet w.rad.heard g with | some h => decide (h + 3 < n) | none => true
    if lanKind b == 1 && lanState b == 3 && late then w.setEntry g 4 else w) w

/-! ## Level frames (R233) -/

/-- An entry that takes levels: an enabled lantern that is PRESENT. -/
def takes (w : W) (g : Nat) : Bool := w.isEnabled g && lanKind (w.lan g) == 1 && lanState (w.lan g) == 3

/-- Why an entry is pending: 0 a rise, 1 a fall, 2 a refresh; none when it is not. -/
def pendClass (w : W) (g : Nat) : Option Nat :=
  if !w.takes g then none
  else
    let b := w.lan g
    let last := (tblGet w.rad.sentUp g).getD 0
    if lanSent b < lanF b then some 0
    else if lanF b < lanSent b then some 1
    else if last + max 1 (w.get RAD_CTRL_refresh_s) * 1000000000 ≤ w.tb.up then some 2 else none

/-- Local indices pending in a class, beginning after the one last sent in it. -/
def pendList (w : W) (r cls : Nat) : List Nat :=
  let is_ := (upTo (w.lanCount r)).filter (fun i => w.pendClass (w.lanFirst r + i) == some cls)
  let next := (w.radio r).last.getD cls 0
  is_.filter (fun i => decide (next ≤ i)) ++ is_.filter (fun i => decide (i < next))

/-- f_sent of an entry. -/
def sentLevel (w : W) (g f : Nat) : W :=
  let w := w.setLan g (fun b => patch b 74 (leBytes 2 f))
  w.setRad { w.rad with sentUp := tblPut g w.tb.up w.rad.sentUp }

/-- The next level frame of a radio, sent; false when there is nothing to send. -/
def levelFrame (w : W) (r : Nat) : W × Bool :=
  let x := w.radio r
  let cap := levelCap (w.radMode r)
  let first := w.lanFirst r
  let owed := x.owed.filter (fun o => w.takes (first + o.1) && lanF (w.lan (first + o.1)) == o.2.1)
  let again := owed.take cap
  let fresh (c : Nat) : List (Nat × Nat) :=
    ((w.pendList r c).filter (fun i => !owed.any (fun o => o.1 == i))).map (fun i => (i, c))
  let new := (fresh 0 ++ fresh 1 ++ fresh 2).take (cap - again.length)
  if (again.isEmpty && new.isEmpty) || !w.canSend r then (w, false)
  else
    let entries := again.map (fun o => (o.1, o.2.1)) ++ new.map (fun e => (e.1, lanF (w.lan (first + e.1))))
    let rep := max 1 (min 4 (w.get RAD_CTRL_level_repeat))
    let still := (again.map (fun o => (o.1, o.2.1, o.2.2 - 1))).filter (fun o => o.2.2 != 0) ++ owed.drop cap
    let more := if rep = 1 then [] else new.map (fun e => (e.1, lanF (w.lan (first + e.1)), rep - 1))
    let last := new.foldl (fun l e => l.set e.2 (e.1 + 1)) x.last
    let w := w.setRadio r { x with owed := still ++ more, last := last }
    let w := w.broadcast r ([0x03] ++ beBytes 2 entries.length
      ++ (entries.map (fun e => beBytes 3 (e.1 * 4096 + e.2 * 4))).flatten)
    (entries.foldl (fun w e => w.sentLevel (first + e.1) e.2) w, true)

/-! ## Beacons and grid states (R231, R232, R234) -/

/-- The eight classes of 20 bits. -/
def gridClasses (w : W) : List Byte :=
  beBytes 20 ((upTo 8).foldl (fun n c => n * 2 ^ 20 + le w.rad.grid (8 + 2 * c) 2 % 1024 * 1024 + le w.rad.grid (24 + 2 * c) 2 % 1024) 0)

def gridFrame (w : W) : List Byte :=
  [0x02] ++ leBytes 1 (le w.rad.grid 1 1) ++ leBytes 1 (le w.rad.grid 4 1) ++ [0] ++ beBytes 2 (le w.rad.grid 2 2) ++ w.gridClasses

/-- A group command's range and level. -/
def cmdRange (c : Nat) : Nat × Nat × Nat := (c / 2 ^ 22, c / 2 ^ 12 % 1024, c / 4 % 1024)

/-- f_sent of every lantern of a radio in a commanded range takes the level. -/
def commanded (w : W) (r c : Nat) : W :=
  let (a, z, l) := cmdRange c
  ((upTo (w.lanCount r)).map (· + w.lanFirst r)).foldl (fun w g =>
    if w.isEnabled g && lanKind (w.lan g) == 1 then
      match w.fieldAt g with
      | some e => if a ≤ e.group ∧ e.group ≤ z then w.sentLevel g l else w
      | none => w
    else w) w

/-- The beacon of boundary B_n with the group commands whose t_exec has come. -/
def beacon (w : W) (r n : Nat) : W :=
  let x := w.radio r
  let b := w.boundary r n
  let due := x.cmds.filter (fun c => decide (c.1 ≤ b))
  let out := due.take 32
  if !w.canSend r then w
  else
    let more := decide (32 < due.length)
    let w := w.setRadio r { x with cmds := due.drop 32 ++ x.cmds.filter (fun c => decide (b < c.1)) }
    let flags := (if w.bit (RAD_RCTRL_join_open r) then 1 else 0) + (if more then 2 else 0)
    let w := w.broadcast r ([0x01] ++ leBytes 1 flags ++ beBytes 6 (b / 1000000000) ++ beBytes 4 (b % 1000000000)
      ++ beBytes 2 (w.get TBS_UTC_OFFSET_tai_utc) ++ beBytes 2 (unsgn 16 w.offsetMin)
      ++ leBytes 1 (le w.rad.grid 1 1) ++ leBytes 1 (le w.rad.grid 4 1) ++ beBytes 2 (le w.rad.grid 2 2) ++ w.gridClasses
      ++ beBytes 2 w.rad.cfgSeq ++ leBytes 1 out.length ++ (out.map (fun c => beBytes 4 c.2)).flatten)
    let w := out.foldl (fun w c => w.commanded r c.2) w
    if more then w.ev RAD_EVENT_order_split 0 else w

/-! ## Programme copies (R234) -/

/-- The programme of an entry's group, if the field table gives it a group. -/
def programmeOf (w : W) (g : Nat) : Option Nat :=
  match w.fieldAt g with
  | some e => some (w.get (LMP_GRP_CFG_programme e.group))
  | none => none

/-- Copies fall due: of every programme that a PRESENT lantern of the radio uses. -/
def copiesDue (w : W) (r : Nat) : W :=
  let x := w.radio r
  if x.cfg != w.rad.cfgSeq || decide (x.schedUp + max 1 (w.get RAD_CTRL_sched_s) * 1000000000 ≤ w.tb.up) then
    let gs := ((upTo (w.lanCount r)).map (· + w.lanFirst r)).filter (fun g => w.takes g)
    let ps := gs.filterMap (fun g => w.programmeOf g)
    w.setRadio r { x with copies := (upTo 64).filter (fun p => ps.contains p), schedUp := w.tb.up, cfg := w.rad.cfgSeq }
  else w

def copyFrame (w : W) (p : Nat) : List Byte :=
  let day := dayOf (w.localNs w.ns)
  let step (k : Nat) : List Byte :=
    beBytes 8 (((((((w.get (LMP_PRG_STEPA_ref p k) * 2 ^ 7 + w.get (LMP_PRG_STEPA_days p k)) * 2 ^ 16
      + w.get (LMP_PRG_STEPA_minutes p k)) * 2 ^ 10 + w.get (LMP_PRG_STEPB_level p k)) * 2 ^ 8
      + w.get (LMP_PRG_STEPB_fade_s p k)) * 2 + w.get (LMP_PRG_STEPB_use_scene p k)) * 2 ^ 8
      + w.get (LMP_PRG_STEPB_scene p k)) * 2 ^ 11)
  [0x05] ++ leBytes 1 p ++ [0, 0] ++ beBytes 2 w.rad.cfgSeq ++ beBytes 2 (unsgn 16 (day - 10957))
    ++ ((upTo 4).map (fun k => beBytes 2 ((w.sunAt (k + 1) day).getD 0x7FF))).flatten ++ ((upTo 16).map step).flatten

/-! ## Assign frames (R235, R237) -/

def assignPayload (w : W) (g : Nat) : List Byte :=
  let b := w.lan g
  let (grp, cls) := match w.fieldAt g with | some e => (e.group, e.cls) | none => (0, 0)
  [0x07, 0] ++ beBytes 2 (w.local_ g + 1) ++ beBytes 2 grp ++ leBytes 1 cls ++ leBytes 1 (w.get (LMP_GRP_CFG_programme grp))
    ++ beBytes 2 (le b 16 2) ++ beBytes 2 (le b 18 2)

/-- Byte 73 of an entry: assign pending and fault. -/
def sflag (w : W) (g i : Nat) (v : Bool) : W :=
  w.setLan g (fun b =>
    let old := le b 73 1
    patch b 73 [BitVec.ofNat 8 (if v then old ||| 2 ^ i else old - (if tst old i then 2 ^ i else 0))])

/-- An assign frame queued; one of the entry that has not been sent gives way. -/
def queueAssign (w : W) (g : Nat) (ext : Bool) : W :=
  let r := w.lanRadio g
  let x := w.radio r
  let uni := x.uni.filter (fun u => u.entry != g || u.sent.isSome) ++ [⟨g, ext, none, 0⟩]
  (w.setRadio r { x with uni := uni }).sflag g 0 true

/-- The assign frames of an entry dropped (R237). -/
def dropUni (w : W) (g : Nat) : W :=
  let r := w.lanRadio g
  let x := w.radio r
  w.setRadio r { x with uni := x.uni.filter (fun u => u.entry != g), owed := x.owed.filter (fun o => o.1 != w.local_ g) }

/-- The unicast frame of a slot: a first sending, or a retry, neither under a key index whose counter has stopped; one whose
retries are spent is abandoned first. -/
def unicastFrame (w : W) (r : Nat) : Nat → W
  | 0 => w
  | n + 1 =>
    let x := w.radio r
    match x.uni with
    | [] => w
    | u :: t =>
      match u.sent with
      | none =>
        let w := w.lanFetch u.entry
        let b := w.lan u.entry
        let (w, f) := w.sendFrame r (if u.ext then lanExt b else w.local_ u.entry + 1) u.ext true (w.assignPayload u.entry)
        match f with
        | some f => let x := w.radio r; w.setRadio r { x with uni := { u with sent := some f } :: t }
        | none => w
      | some f =>
        if 0xFFFFFFF0 ≤ x.ctr.getD (f.key - 1) 0 then w
        else if u.retries < 3 then
          (w.setRadio r { x with uni := { u with retries := u.retries + 1 } :: t }).onAir f
        else
          let w := w.setRadio r { x with uni := t }
          let w := ((w.bump (RAD_NOACK_v r) 1).ev RAD_EVENT_noack 0).sflag u.entry 0 false
          (w.setEntry u.entry 1).unicastFrame r n

/-- An Imm-Ack with a sequence number (R235, R237, R243). -/
def immAck (w : W) (r seq : Nat) : W :=
  let x := w.radio r
  match x.uni with
  | u :: t =>
    match u.sent with
    | some f =>
      if f.seq = seq ∧ !w.talking r (airUs (w.radMode r) 7) then
        let w := (w.setRadio r { x with uni := t }).sflag u.entry 0 false
        let w := w.setRad { w.rad with frameUp := tblPut u.entry w.tb.up w.rad.frameUp }
        (w.setEntry u.entry 3).heardIn u.entry (w.sfAt r w.ns)
      else w
    | none => w
  | [] => w

/-! ## Units for other blocks -/

/-- Waiting reports sent on as their queues have room. -/
def radFlush (w : W) : W :=
  let (w, a) := sendUnits 0x0B 0xF0 w.rad.toLanes.length w w.rad.toLanes
  let (w, b) := sendUnits 0x0B 0x0A w.rad.toLmp.length w w.rad.toLmp
  let (w, c) := sendUnits 0x0B 0x0C w.rad.toFlt.length w w.rad.toFlt
  w.setRad { w.rad with toLanes := a, toLmp := b, toFlt := c }

/-- The record of a received frame (R245, R270). -/
def reportBytes (kind : Nat) (f : RadioFrame) (index t : Nat) (payload : List Byte) : List Byte :=
  leBytes 1 kind ++ leBytes 1 f.radio ++ leBytes 2 index ++ leBytes 1 (le payload 0 1) ++ leBytes 1 f.rssi
    ++ leBytes 2 payload.length ++ fullStamp t ++ leBytes 1 f.lqi ++ [0] ++ leBytes 4 f.ctr ++ payload

def report (w : W) (f : RadioFrame) (index : Nat) (payload : List Byte) : W :=
  match w.pat.active.path 0x0B 0xF0 with
  | some _ => (w.setRad { w.rad with toLanes := w.rad.toLanes ++ [reportBytes 0x40 f index w.ns payload] }).radFlush
  | none => w

/-- A sensor event (R244). -/
def sensorFrame (w : W) (g : Nat) (p : List Byte) : W :=
  let b := w.lan g
  let o := if lanKind b = 2 then le b 10 2 else g
  if lanKind b = 2 ∧ o = 0xFFFF then (w.bump RAD_SENSOR_DROP_v 1).ev RAD_EVENT_sensor_drop 0
  else
    let r := w.lanRadio g
    let slot := be p 2 1
    let toward := match w.fieldAt o with
      | some e => if slot < 8 then (e.nbr.getD slot (0xFFFF, 0)).1 else 0xFFFF
      | none => 0xFFFF
    let sf := w.sfAt r w.ns
    let m := sf - (sf + 0x10000 - be p 6 2) % 0x10000
    let det := w.boundary r m + be p 8 4 * 1000
    let u := [0x20] ++ leBytes 1 (be p 1 1) ++ leBytes 2 o ++ leBytes 2 toward ++ leBytes 2 (be p 4 2) ++ fullStamp det ++ [0, 0]
      ++ leBytes 8 (lanExt b) ++ [0, 0, 0, 0]
    match w.pat.active.path 0x0B 0x0A with
    | some _ => (w.setRad { w.rad with toLmp := w.rad.toLmp ++ [u] }).radFlush
    | none => w

/-! ## Reception (R235, R236, R241) -/

/-- Whether the radio MAC acts on join requests of known addresses now. -/
def joinsOpen (w : W) (r : Nat) : Bool := w.bit (RAD_RCTRL_join_open r) && w.bit LMP_STATUS_loaded

/-- An Imm-Ack sent 1,000 µs after the frame: unsecured, 7 octets (R236); a radio that may send nothing sends none. -/
def sendAck (w : W) (f : RadioFrame) : W :=
  if f.ack && w.radSends f.radio && (w.radio f.radio).running && !w.dutyHeld f.radio then
    let w := w.spend f.radio (airUs (w.radMode f.radio) 7) 1000000
    let a : AirFrame := ⟨f.radio, w.ns + 1000000, f.src, f.ext, f.seq, false, 0, 0, [], [], [], crc32 ([0x02, 0] ++ leBytes 1 f.seq)⟩
    w.setRad { w.rad with air := a :: w.rad.air }
  else w

/-- A join request of a known address, acted on (R235). -/
def joinKnown (w : W) (g : Nat) : W := (w.setEntry g 2).queueAssign g true

/-- What an accepted frame of an entry delivers. -/
def deliver (w : W) (f : RadioFrame) (g : Nat) (p : List Byte) : W :=
  if w.isStandby then w
  else
    let ty := be p 0 1
    if ty = 0x10 then (if w.joinsOpen f.radio then w.joinKnown g else w)
    else if ty = 0x11 then (w.sflag g 1 (be p 1 1 != 0)).report f g p
    else if ty = 0x12 then w.report f g p
    else if ty = 0x13 then w.sensorFrame g p
    else if ty = 0x28 then
      match w.pat.active.path 0x0B 0x0C with
      | some _ => (w.setRad { w.rad with toFlt := w.rad.toFlt ++ [reportBytes 0x41 f g w.ns p] }).radFlush
      | none => w
    else w

/-- The sender's entry: by short address, or by extended address among the enabled entries of the radio. -/
def senderEntry (w : W) (f : RadioFrame) : Option Nat :=
  let first := w.lanFirst f.radio
  if f.ext then
    ((upTo (w.lanCount f.radio)).map (· + first)).find? (fun g => w.isEnabled g && lanExt (w.lan g) == f.src)
  else if 1 ≤ f.src ∧ f.src ≤ w.lanCount f.radio ∧ w.isEnabled (first + f.src - 1) then some (first + f.src - 1)
  else none

def ctrRec (w : W) (ext : Nat) : CtrRec := (tblGet w.rad.ctrs ext).getD CtrRec.empty

/-- A counter of an entry raised, if the sender has one. -/
def entryCnt (w : W) (g : Option Nat) (at_ : Nat) : W :=
  match g with | some g => w.setLan g (fun b => patchCnt b at_ 1) | none => w

/-- Acceptance: counter and MIC stored for an entry, the entry's fields brought up to date, heard, delivered, and
acknowledged. A join request that is not acted on leaves the entry's state, and is served when it comes again (R235). -/
def accept (w : W) (f : RadioFrame) (sender : Nat) (entry : Option Nat) (payload : List Byte) : W :=
  let w := (w.bump (RAD_RX_OK_v f.radio) 1).tally (0x94 + f.radio)
  let join := be payload 0 1 == 0x10
  match entry with
  | none =>
    if join then
      let w := (w.ev RAD_EVENT_unknown_join 0).set RAD_UNKNOWN_LO_v (sender % 2 ^ 32)
      let w := w.set RAD_UNKNOWN_HI_v (sender / 2 ^ 32)
      if w.isStandby then w else w.report f 0xFFFF payload
    else w
  | some g =>
    let c := w.ctrRec sender
    let acts := !join || w.joinsOpen f.radio
    let c : CtrRec := { c with mic := f.mic, refused := !acts }
    let c : CtrRec := if f.key = 1 then { c with c1 := some f.ctr } else { c with c2 := some f.ctr }
    let w := w.setRad { w.rad with
      ctrs := tblPut sender c w.rad.ctrs
      frameUp := tblPut g w.tb.up w.rad.frameUp }
    let w := w.setLan g (fun b =>
      let b := patch (patch b 76 (leBytes 1 f.rssi ++ leBytes 1 f.lqi)) (if f.key = 1 then 80 else 84) (leBytes 4 f.ctr)
      patchCnt (patch b 88 (f.mic.take 4)) 96 1)
    let w := if acts then w.heardIn g (w.sfAt f.radio w.ns) else w
    let w := w.deliver f g payload
    if acts then w.sendAck f else w

/-- A retry after a lost acknowledgement (R241): acknowledged again, not delivered; a join request that was not acted on is
served now, where joins are open. -/
def retryRx (w : W) (f : RadioFrame) (sender : Nat) (entry : Option Nat) (payload : List Byte) : W :=
  let w := (w.bump (RAD_RETRY_ACK_v f.radio) 1).entryCnt entry 108
  let join := be payload 0 1 == 0x10
  match entry with
  | none => if join then w else w.sendAck f
  | some g =>
    let c := w.ctrRec sender
    let acts := !join || w.joinsOpen f.radio
    let w := w.setRad { w.rad with frameUp := tblPut g w.tb.up w.rad.frameUp }
    let w := w.setLan g (fun b => patch b 76 (leBytes 1 f.rssi ++ leBytes 1 f.lqi))
    if !acts then w
    else
      let w := w.heardIn g (w.sfAt f.radio w.ns)
      let w := if c.refused then
          (w.setRad { w.rad with ctrs := tblPut sender { c with refused := false } w.rad.ctrs }).deliver f g payload else w
      w.sendAck f

/-- The octets of a received frame's PSDU (R230). -/
def psduOf (f : RadioFrame) : Nat := (if f.ext then 29 else 23) + f.cipher.length

/-- A received frame: authenticated first, then its counter compared (R241). One whose FCS is wrong, or that arrives while
the radio transmits, is no frame received: nothing changes (that a wrong FCS discards a frame is PRESUMED from IEEE 802.15.4). -/
def radioRx (w : W) (f : RadioFrame) : W :=
  let hdr := macHeader f.ack false f.ext f.seq (w.radPan f.radio) 0 f.src f.ctr f.key
  if f.fcs != crc32 (hdr ++ f.cipher ++ f.mic) || w.talking f.radio (airUs (w.radMode f.radio) (psduOf f)) then w
  else
  let entry := w.senderEntry f
  let w := match entry with | some g => w.lanFetch g | none => w
  let sender := match entry with | some g => lanExt (w.lan g) | none => f.src
  let fail (w : W) : W := ((w.bump (RAD_AUTH_FAIL_v f.radio) 1).ev RAD_EVENT_auth_fail 0).entryCnt entry 100
  if (!f.ext && entry.isNone) || (f.key != 1 && f.key != 2) then fail w
  else match w.radKey f.radio (f.key - 1) with
    | none => fail w
    | some key =>
      let ks := aesKeys key
      let nonce := macNonce sender f.ctr
      let payload := ccmCrypt ks nonce f.cipher
      if ccmTag ks 4 nonce hdr payload != f.mic then fail w
      else
        let c := w.ctrRec sender
        let last := if f.key = 1 then c.c1 else c.c2
        let replay (w : W) : W := ((w.bump (RAD_REPLAY_v f.radio) 1).ev RAD_EVENT_replay 0).entryCnt entry 104
        match last with
        | none => w.accept f sender entry payload
        | some l =>
          if l < f.ctr then w.accept f sender entry payload
          else if l = f.ctr ∧ c.mic = f.mic then w.retryRx f sender entry payload
          else replay w

/-! ## Registers and commands -/

/-- A radio that no longer sends, or no longer receives, starts anew at a boundary (R226). -/
def radGate (w : W) : W :=
  w.rad.radios.foldl (fun (w : W) (e : Nat × Radio) =>
    w.setRadio e.1 { e.2 with running := e.2.running && w.radSends e.1, serving := e.2.serving && w.radOn e.1 }) w

/-- RAD_RSTAT, RAD_TX_CTR, RAD_BSN, RAD_DUTY_USED, RAD_STATUS as they stand. -/
def showRad (w : W) : W :=
  let w := w.radGate
  let rs := w.radList
  let w := w.set RAD_STATUS_radios ((rs.map (fun r => 2 ^ r)).sum)
  let w := w.set RAD_STATUS_band (match w.pat.active.radios.getD [] with | b :: _ => le b 1 1 | [] => 0)
  (upTo 4).foldl (fun w r =>
    let x := w.radio r
    let c := x.ctr.getD (w.txIdx r) 0
    let w := (w.setB (RAD_RSTAT_running r) (x.running && w.radSends r)).setB (RAD_RSTAT_ctr_stopped r) (decide (0xFFFFFFF0 ≤ c))
    let w := w.setB (RAD_RSTAT_duty_held r) (w.dutyHeld r)
    let w := w.set (RAD_RSTAT_pending r)
      ((upTo (w.lanCount r)).filter (fun i => (w.pendClass (w.lanFirst r + i)).isSome)).length
    let w := (w.set (RAD_TX_CTR_v r) c).set (RAD_BSN_v r) x.sf
    w.set (RAD_DUTY_USED_v r) (w.dutyUs r / 1000)) w

def radDone (w : W) (result : Nat) : W := (w.set RAD_CMD_STATUS_done 1).set RAD_CMD_STATUS_result result

/-- A command of the radio MAC: without effect where the pattern has no radio plan or the block's clock is off. -/
def radCmd (w : W) (f : W → W) : W := if w.pat.active.radios.isSome && !w.gated 0x0B then f w else w

/-- A command on an index of the table. -/
def radIndex (w : W) (g : Nat) (f : W → W) : W := w.radCmd (fun w => if w.lanSum ≤ g then w.radDone 1 else f w)

/-- One step of CRC-8 with polynomial 0x07. -/
def crc8Bit (c : Nat) : Nat := if c < 128 then 2 * c else (2 * c % 256) ^^^ 0x07

/-- CRC-8 over bytes, initial value 0 (R247). -/
def crc8 (b : List Byte) : Nat :=
  b.foldl (fun c x => crc8Bit (crc8Bit (crc8Bit (crc8Bit (crc8Bit (crc8Bit (crc8Bit (crc8Bit (c ^^^ x.toNat))))))))) 0

/-- The 48 bits of a wake pattern, the first sent the most significant: preamble, sync word, address and CRC-8 (R247). -/
def wakePattern (addr : Nat) : Nat :=
  0xAA * 2 ^ 40 + 0x2DD4 * 2 ^ 24 + addr % 2 ^ 16 * 2 ^ 8 + crc8 (beBytes 2 addr)

/-- A wake address queued (R247, R252). -/
def wakeQueue (w : W) (addr : Nat) : W :=
  let k := w.get RAD_WAKE_CFG_freq_khz
  let inBand := match w.pat.active.radios.getD [] with
    | b :: _ => if le b 1 1 = 0 then decide (863000 ≤ k) && decide (k ≤ 870000) else decide (902000 ≤ k) && decide (k ≤ 928000)
    | [] => decide (863000 ≤ k) && decide (k ≤ 870000)
  if !inBand || addr == 0 then w.radDone 4
  else if 16 ≤ w.rad.wake.length then w.radDone 5
  else (w.setRad { w.rad with wake := w.rad.wake ++ [(addr, max 1 (w.get RAD_WAKE_CFG_repeat))] }).radDone 0

/-- ENABLE's checks in their order: the failure's code (R252). -/
def enableCheck (w : W) (g : Nat) (b : List Byte) : Nat :=
  let r := w.lanRadio g
  let others := w.rad.enabled.filter (fun h => h != g && w.lanRadio h == r)
  if lanKind b != 1 && lanKind b != 2 then 2
  else if others.any (fun h => lanExt (w.lan h) == lanExt b) then 3
  else if lanKind b = 2 ∧ le b 10 2 ≠ 0xFFFF ∧ w.lanSum ≤ le b 10 2 then 7
  else if !(allZero (cut b 20 44) && allZero (cut b 66 6) && allZero (cut b 78 2) && allZero (cut b 122 6)) then 6
  else if lanKind b = 2 ∧ (le b 12 2 = 0 ∨ le b 12 2 = 0xFFFF) then 4
  else 0

/-- An entry enabled in a state, with its counter record (R252, R253). -/
def enableEntry (w : W) (g st : Nat) : W :=
  let c := w.ctrRec (lanExt (w.lan g))
  let ctrs := leBytes 4 (c.c1.getD 0) ++ leBytes 4 (c.c2.getD 0) ++ padTo 4 c.mic
  let w := w.setRad { w.rad with
    enabled := g :: w.rad.enabled.filter (· != g)
    heard := tblDel g w.rad.heard
    frameUp := tblPut g w.tb.up w.rad.frameUp }
  let w := w.setLan g (fun b => patch (patch b 73 ([0] ++ leBytes 2 0xFFFF)) 80 ctrs)
  w.setEntry g st

/-- A lantern entry for the partner, with the enabled byte (R426). -/
def lanternItem (w : W) (g : Nat) : List Byte := w.rdBytes (w.lanAddr g) 64 ++ leBytes 1 (bitNat (w.isEnabled g))

/-- A command has edited an entry: it goes to the partner, and a change of settings waits. -/
def radTold (w : W) (g : Nat) : W := (w.mirrorItem 3 g (w.lanternItem g)).dirty

/-- The table emptied: a pattern barrier has changed its geometry (R253). -/
def emptyTable (w : W) : W :=
  let w := w.setRad { w.rad with
    cache := []
    enabled := []
    heard := []
    frameUp := []
    sentUp := []
    radios := w.rad.radios.map (fun e => (e.1, { e.2 with owed := [], uni := [], copies := [], last := [0, 0, 0] })) }
  let w := (upTo w.lanSum).foldl (fun (w : W) g => w.wr8 (w.lanAddr g + 72) 0) w
  (w.set RAD_SILENT_CNT_count 0).set RAD_STATUS_cache_used 0

end W

end Sys2Proof.Machine
end

