-- ==== Sys2Proof/Machine/FltOps.lean ====
section
/-! DEFINITION. The Pedlar's shared operations: images and their coding, frames, campaigns, activations and progress
(R256 to R272). -/

namespace Sys2Proof.Machine

/-! ## Coding (R259) -/

/-- A product in GF(256) with the primitive polynomial 0x11D, over `n` bits of the second factor. -/
def rsX (a : Nat) : Nat := if a < 128 then 2 * a else (2 * a) ^^^ 0x11D
def rsMulN : Nat → Nat → Nat → Nat
  | 0, _, _ => 0
  | n + 1, a, b => (if b % 2 = 1 then a else 0) ^^^ rsMulN n (rsX a) (b / 2)
def rsMul (a b : Nat) : Nat := rsMulN 8 a b
def rsAlpha : Nat → Nat
  | 0 => 1
  | n + 1 => rsX (rsAlpha n)

/-- The generator's coefficients below the leading one, highest first: the product of (x + α^i) for i below n. -/
def rsGen (n : Nat) : List Nat :=
  ((upTo n).foldl (fun g i => ((g ++ [0]).zip (0 :: g.map (rsMul (rsAlpha i)))).map (fun (p : Nat × Nat) => p.1 ^^^ p.2)) [1]).drop 1

/-- One step of the division by the generator. -/
def rsStep (gen rem : List Nat) (d : Nat) : List Nat :=
  let f := d ^^^ rem.getD 0 0
  ((rem.drop 1 ++ [0]).zip gen).map (fun (p : Nat × Nat) => p.1 ^^^ rsMul f p.2)

/-- The 40 parity bytes of a codeword's data bytes. -/
def rsParity (data : List Nat) : List Nat := data.foldl (rsStep (rsGen 40)) (List.replicate 40 0)

/-- S, B and k_b of an image length. -/
def segsOf (len : Nat) : Nat := ceilDiv len 96
def blocksOf (len : Nat) : Nat := ceilDiv (segsOf len) 200
def blockLen (len b : Nat) : Nat := min 200 (segsOf len - 200 * b)

/-- A coded segment of a block: data segments in order, then parity segments byte position by byte position. -/
def codedSeg (image : List Byte) (b idx : Nat) : List Byte :=
  let k := blockLen image.length b
  let seg (i : Nat) : List Byte := padTo 96 (cut image ((200 * b + i) * 96) 96)
  if idx < k then seg idx
  else (upTo 96).map (fun j => BitVec.ofNat 8 ((rsParity ((upTo k).map (fun i => le (seg i) j 1))).getD (idx - k) 0))

/-- Whether a held bitmap names a coded index (R263). -/
def heldBit (held : List Byte) (i : Nat) : Bool := tst (le held (i / 8) 1) (7 - i % 8)

namespace W

def setFlt (w : W) (x : FltState) : W := { w with flt := x }
def fltSlot (w : W) (s : Nat) : Option FlashSlot := tblGet w.flt.slots s

/-- image_id of a slot (R258). -/
def imageId (w : W) (s : Nat) : Nat := s + 8 * (tblGet w.flt.gens s).getD 0

/-- FLT_SLOT_INFO and FLT_SLOT_LEN of a slot. -/
def showFlash (w : W) (s : Nat) : W :=
  match w.fltSlot s with
  | some x => ((w.set (FLT_SLOT_INFO_image_id s) (w.imageId s)).set (FLT_SLOT_INFO_fw_version s) (be x.manifest 8 2)).set
      (FLT_SLOT_LEN_v s) x.image.length
  | none => ((w.set (FLT_SLOT_INFO_image_id s) 0).set (FLT_SLOT_INFO_fw_version s) 0).set (FLT_SLOT_LEN_v s) 0

/-- The Pedlar is present when the pattern has a radio plan (R461). -/
def fltHere (w : W) : Bool := w.mainOn && w.pat.active.radios.isSome
/-- It runs campaigns and activations. -/
def fltRuns (w : W) : Bool := w.loom && w.fltHere && w.bit FLT_CTRL_enable && !w.isStandby

def fltDone (w : W) (result : Nat) : W := (w.set FLT_CMD_STATUS_done 1).set FLT_CMD_STATUS_result result

/-- A command of the Pedlar: refused while a STORE runs. -/
def fltCmd (w : W) (f : W → W) : W :=
  if !w.fltHere then w else if w.flt.storing.isSome then w.fltDone 8 else f w

/-- A campaign that runs: SEND, POLL or REPAIR. -/
def campRuns (w : W) : Bool := match w.flt.camp with | some c => c.phase == 1 || c.phase == 2 || c.phase == 3 | none => false

/-- FLT_STATUS and FLT_COUNT as the campaign stands. -/
def showFlt (w : W) : W :=
  let w := w.setB FLT_STATUS_armed (match w.flt.act with | some a => a.armed | none => false)
  match w.flt.camp with
  | none => w
  | some c =>
    let w := (((w.set FLT_STATUS_phase c.phase).set FLT_STATUS_slot c.slot).set FLT_STATUS_round c.round).set
      FLT_STATUS_image_id c.id
    (upTo 10).foldl (fun (w : W) k =>
      w.set (FLT_COUNT_count k) (c.status.filter (fun s => s.2.2 && s.2.1 == k)).length) w

def setCamp (w : W) (c : Campaign) : W := (w.setFlt { w.flt with camp := some c }).showFlt

/-! ## STORE and ERASE (R257) -/

/-- Whether a slot serves the running campaign or an armed activation. -/
def slotBusy (w : W) (s : Nat) : Bool :=
  (w.campRuns && (match w.flt.camp with | some c => c.slot == s | none => false)) ||
    (match w.flt.act with | some a => a.armed && a.slot == s | none => false)

/-- STORE's checks in their order: what the slot is to hold, or the failure's code. -/
def storeCheck (w : W) (slot : Nat) : Except Nat FlashSlot :=
  let src := w.get FLT_SRC_LO_v + 2 ^ 32 * w.get FLT_SRC_HI_v
  let len := w.get FLT_SRC_LEN_v
  let m := w.rdBytes src 64
  let n := be m 12 4
  if !inRam src len || src % 8 != 0 || len < 160 || len != 160 + n then .error 1
  else if be m 0 2 != 0x5A49 || be m 2 1 != 1 || n == 0 || 4194304 < n then .error 2
  else
    let image := w.rdBytes (src + 160) n
    let sig := w.rdBytes (src + 64) 96
    if sha384 image != cut m 16 48 then .error 3
    else match w.keyFor (w.get FLT_CTRL_key_slot) 4 with
      | none => .error 4
      | some key =>
        if !ecdsaOk key (sha384 m) sig then .error 4
        else if w.slotBusy slot then .error 5
        else .ok ⟨image, m, sig, false⟩

/-! ## Frames (R261, R262, R268) -/

def announce_ (w : W) (slot id phase round : Nat) : List Byte :=
  match w.fltSlot slot with
  | some x => [0x20] ++ leBytes 1 phase ++ beBytes 2 id ++ leBytes 1 round ++ [0] ++ beBytes 2 (blocksOf x.image.length)
      ++ x.manifest ++ x.sig
  | none => []

def segmentsFrame (w : W) (slot id round block : Nat) (idx : List Nat) : List Byte :=
  match w.fltSlot slot with
  | some x => [0x21] ++ leBytes 1 idx.length ++ beBytes 2 id ++ beBytes 2 block ++ leBytes 1 round ++ [0]
      ++ (idx.map (fun i => leBytes 1 i ++ codedSeg x.image block i)).flatten
  | none => []

/-! ## Phases (R265, R266) -/

/-- Radios that still run: of the campaign and in the pattern. -/
def progOf (c : Campaign) (r : Nat) : RadProg := (tblGet c.prog r).getD ⟨none, []⟩

/-- A phase's start: its segments on every radio, its announce owed. -/
def startPhase (c : Campaign) (phase round : Nat) (todo : List (Nat × List Nat)) : Campaign :=
  { c with phase := phase, round := round, prog := c.prog.map (fun e => (e.1, ⟨none, todo⟩)),
           reports := if phase = 2 then [] else c.reports }

/-- What SEND sends: each block's data segments and its first parity segments. -/
def sendList (len parity : Nat) : List (Nat × List Nat) :=
  (upTo (blocksOf len)).map (fun b => (b, upTo (blockLen len b + min 40 parity)))

/-- What a repair round sends: per block the largest need with the margin, the indices most reports lack first. -/
def repairList (len margin : Nat) (reports : List (Nat × List Byte)) : List (Nat × List Nat) :=
  (upTo (blocksOf len)).filterMap (fun b =>
    let k := blockLen len b
    let hs := (reports.filter (fun x => x.1 == b)).map (·.2)
    let cnt (h : List Byte) : Nat := ((upTo (k + 40)).filter (fun i => heldBit h i)).length
    let need := (hs.map (fun h => k - cnt h)).foldl max 0
    if need = 0 then none
    else
      let lack (i : Nat) : Nat := (hs.filter (fun h => !heldBit h i)).length
      let order := (upTo (hs.length + 1)).reverse.flatMap (fun v => (upTo (k + 40)).filter (fun i => lack i == v))
      some (b, order.take (need + margin)))

/-- SEND or REPAIR has ended when every radio has announced it and sent its segments; POLL follows. -/
def phaseCheck (w : W) : W :=
  match w.flt.camp with
  | some c =>
    if (c.phase = 1 ∨ c.phase = 3) ∧ c.prog.all (fun e => e.2.announced.isSome && e.2.todo.isEmpty) then
      (w.setCamp (startPhase c 2 c.round [])).ev FLT_EVENT_phase_done 0
    else w
  | none => w

/-- DONE announces owed on radios, in the order they came to be owed. -/
def oweDone (w : W) (rs : List Nat) (slot : Nat) : W :=
  w.setFlt { w.flt with owedDone := w.flt.owedDone ++ (rs.map (fun r => (r, slot))).filter (fun e => !w.flt.owedDone.contains e) }

/-- A Pedlar frame on its way to a radio: through the queue to the radio MAC, then on air (R270). -/
def pedlarSend (w : W) (r : Nat) (p : List Byte) : W :=
  match w.cross 0x0C 0x0B p.length with
  | some w => w.broadcast r p
  | none => w

/-- A background slot's Pedlar frame on a radio: an owed DONE announce or the phase's announce in the first background
slot of a superframe, an activate frame, then segments; false when there is none. -/
def backgroundFrame (w : W) (r : Nat) (first : Bool) (actDue : Option (List Byte)) : W × Bool :=
  let sf := (w.radio r).sf
  match w.flt.owedDone.find? (fun e => e.1 == r && first && (w.fltSlot e.2).isSome) with
  | some (_, slot) =>
    let w := w.setFlt { w.flt with owedDone := w.flt.owedDone.erase (r, slot) }
    (w.pedlarSend r (w.announce_ slot (w.imageId slot) 3 (match w.flt.camp with | some c => c.round | none => 0)), true)
  | none =>
    let act (w : W) : W × Bool :=
      match actDue with
      | some p =>
        let x := w.radio r
        ((w.setRadio r { x with actSf := some sf }).pedlarSend r p, true)
      | none => (w, false)
    match w.flt.camp with
    | none => act w
    | some c =>
      if c.phase = 0 ∨ c.phase = 4 ∨ (tblGet c.prog r).isNone then act w
      else
        let p := progOf c r
        if first && (p.announced.isNone || sf % c.cfg.annSf == 0) then
          let c' := { c with prog := tblPut r { p with announced := some (p.announced.getD sf) } c.prog }
          let code := if c.phase = 1 then 0 else if c.phase = 2 then 1 else 2
          (((w.setCamp c').pedlarSend r (w.announce_ c.slot c.id code c.round)).phaseCheck, true)
        else
          let (w, sent) := act w
          if sent then (w, true)
          else if p.announced.isNone then (w, false)
          else match p.todo with
            | [] => (w, false)
            | (b, is_) :: t =>
              let n := segCap (w.radMode r)
              let rest := is_.drop n
              let p := { p with todo := if rest.isEmpty then t else (b, rest) :: t }
              let w := w.setCamp { c with prog := tblPut r p c.prog }
              let w := (w.pedlarSend r (w.segmentsFrame c.slot c.id c.round b (is_.take n))).tallyN 0xA0 (is_.take n).length
              (w.phaseCheck, true)

/-! ## Activation (R268) -/

/-- n_act of a radio: the number of the first boundary at or after an instant. -/
def nActOf (w : W) (r t : Nat) : Nat := ceilDiv (t - w.boundary r 0) sfNs

/-- The activate frame due on a radio in its superframe, if it has not been sent in it. -/
def activateDue (w : W) (r : Nat) : Option (List Byte) :=
  match w.flt.act with
  | some a =>
    match tblGet a.nAct r with
    | some n =>
      let x := w.radio r
      if x.sf < n + w.flt.cfg.tailSf ∧ x.actSf ≠ some x.sf then
        some ([0x22, 0] ++ beBytes 2 a.id ++ beBytes 2 a.fw ++ [0, 0] ++ beBytes 8 n)
      else none
    | none => none
  | none => none

/-- A boundary passes: act_sent once B_{n_act} has passed on every radio; the activation ends with its tail. -/
def actBoundary (w : W) : W :=
  match w.flt.act with
  | some a =>
    let past (d : Nat) : Bool := a.nAct.all (fun e => decide (e.2 + d ≤ (w.radio e.1).sf))
    let w := if a.armed && past 0 then
        ((w.setFlt { w.flt with act := some { a with armed := false } }).showFlt).ev FLT_EVENT_act_sent 0
      else w
    if past (max 1 w.flt.cfg.tailSf) then (w.setFlt { w.flt with act := none }).showFlt else w
  | none => w

/-! ## Progress (R269) -/

def progAddr (w : W) (g : Nat) : Nat := w.get FLT_PROG_BASE_LO_v + 2 ^ 32 * w.get FLT_PROG_BASE_HI_v + 16 * g

/-- The progress table cleared, each target marked NO_REPORT. -/
def clearProgress (w : W) (targets : List Nat) : W :=
  (upTo w.lanSum).foldl (fun (w : W) g =>
    w.wrBytes (w.progAddr g) (if targets.contains g then [9, 1] ++ List.replicate 14 0 else List.replicate 16 0)) w

/-- Blocks fully held as a report tells. -/
def blocksHeld (len status : Nat) (listed : List Nat) : Nat :=
  let n := blocksOf len
  if status = 4 ∨ status = 6 then 0
  else if status = 0 then
    if listed.length < 4 then n - listed.length else listed.foldl max 0 + 1 - listed.length
  else n

/-- A report record taken (R245, R263, R269). -/
def fltReport (w : W) (u : List Byte) : W :=
  let p := u.drop 24
  let g := le u 2 2
  let st := be p 1 1
  let id := be p 2 2
  let w := w.tally 0xA1
  match w.flt.camp with
  | none => w
  | some c =>
    if id != c.id || 8 < st then w
    else
      let listed := (upTo (min 4 (be p 6 1))).map (fun e => (be p (8 + 32 * e) 2, cut p (10 + 32 * e) 30))
      let target := match tblGet c.status g with | some x => x.2 | none => false
      let len := match w.fltSlot c.slot with | some x => x.image.length | none => 0
      let w := w.setCamp { c with
        status := tblPut g (st, target) c.status
        reports := if c.phase = 2 && st == 0 then c.reports ++ listed else c.reports }
      let w := w.wrBytes (w.progAddr g) (leBytes 1 st ++ leBytes 1 (2 + (if target then 1 else 0)) ++ leBytes 2 (be p 4 2)
        ++ leBytes 2 (blocksHeld len st (listed.map (·.1))) ++ [0, 0] ++ leBytes 8 (le u 8 4 + 1000000000 * le u 12 6))
      let w := if 2 ≤ st ∧ st ≤ 6 then w.ev FLT_EVENT_invalid 0 else w
      if st = 8 then w.ev FLT_EVENT_rolled_back 0 else w

/-- The end of POLL: poll_sf superframes have ended on every radio (R265). -/
def pollEnd (w : W) : W :=
  match w.flt.camp with
  | some c =>
    let overrun := c.prog.all (fun e =>
      match e.2.announced with | some s => decide (s + c.cfg.pollSf ≤ (w.radio e.1).sf) | none => false)
    if c.phase = 2 ∧ overrun then
      let w := w.ev FLT_EVENT_phase_done 0
      let ok := c.status.all (fun s => !s.2.2 || s.2.1 == 1 || s.2.1 == 4 || s.2.1 == 5)
      if ok ∨ c.cfg.maxRounds ≤ c.round then
        ((w.setCamp { c with phase := 4 }).oweDone (c.prog.map (·.1)) c.slot).ev FLT_EVENT_campaign_done 0
      else
        let len := match w.fltSlot c.slot with | some x => x.image.length | none => 0
        let w := (c.status.map (·.1)).foldl (fun (w : W) g =>
          let b := w.rd8 (w.progAddr g + 1)
          w.wr8 (w.progAddr g + 1) (b &&& 1)) w
        w.setCamp (startPhase c 3 (c.round + 1) (repairList len c.cfg.margin c.reports))
    else w
  | none => w

/-- A radio that leaves the pattern leaves the campaign (R272), and the activation that is armed. -/
def fltLose (w : W) (r : Nat) : W :=
  let w := w.setFlt { w.flt with act := w.flt.act.map (fun a => { a with nAct := tblDel r a.nAct }) }
  match w.flt.camp with
  | some c =>
    if w.campRuns && (tblGet c.prog r).isSome then
      let w := w.setCamp { c with prog := tblDel r c.prog }
      (w.record (0x100 + 0x80 * 0xC + 15) 0xC r (w.evWord FLT_EVENT_stored) 0 0).phaseCheck
    else w
  | none => w

/-- The campaign and the activation after a restore (R271). -/
def fltRestore (w : W) : W :=
  let w := match w.flt.camp with
    | some c =>
      if w.campRuns then
        let ts : List Nat := (c.status.filter (fun (s : Nat × Nat × Bool) => s.2.2)).map (fun (s : Nat × Nat × Bool) => s.1)
        let c : Campaign := { startPhase c 2 (c.round + 1) [] with status := ts.map (fun g => (g, 9, true)) }
        (w.setCamp c).clearProgress ts
      else w
    | none => w
  match w.flt.act with
  | some a =>
    if w.ns + 2560000000 ≤ a.instant then w
    else
      let w := (w.setFlt { w.flt with act := none }).showFlt
      if a.armed then w.evRec FLT_EVENT_act_dropped 0 else w
  | none => w

end W

end Sys2Proof.Machine
end

