-- ==== Sys2Proof/Machine/Fleet.lean ====
section
/-! DEFINITION. The commands of the Pedlar (R256 to R272). -/

namespace Sys2Proof.Machine

/-- STORE (R257). -/
def execStore (slot : Nat) (s : State) : Host.Outcome State Fault Refusal :=
  runL (wfStore slot) "STORE" (fun w =>
    w.fltCmd (fun w =>
      match w.storeCheck slot with
      | .error e => w.fltDone e
      | .ok x => (w.setFlt { w.flt with storing := some (slot, x) }).set FLT_CMD_STATUS_busy 1)) s

/-- STORE_DONE: the slot takes the image and a new image_id (R257, R258). -/
def execStoreDone (flashOk : Bool) (t : Nat) (s : State) : Host.Outcome State Fault Refusal :=
  run true "STORE_DONE" (fun w =>
    let w := w.at_ t
    match w.flt.storing with
    | none => w
    | some (slot, x) =>
      let w := (w.setFlt { w.flt with storing := none }).set FLT_CMD_STATUS_busy 0
      if !flashOk then w.fltDone 9
      else
        let w := w.setFlt { w.flt with
          slots := tblPut slot x w.flt.slots
          gens := tblPut slot (((tblGet w.flt.gens slot).getD 0 + 1) % 8192) w.flt.gens }
        ((w.showFlash slot).fltDone 0).ev FLT_EVENT_stored 0) s

/-- ERASE (R257). -/
def execErase (slot : Nat) (s : State) : Host.Outcome State Fault Refusal :=
  runL (wfErase slot) "ERASE" (fun w =>
    w.fltCmd (fun w =>
      if w.slotBusy slot then w.fltDone 5
      else ((w.setFlt { w.flt with slots := tblDel slot w.flt.slots }).showFlash slot).fltDone 0)) s

/-- START (R265). -/
def execStart (slot : Nat) (s : State) : Host.Outcome State Fault Refusal :=
  runL (wfStart slot) "START" (fun w =>
    w.fltCmd (fun w =>
      if w.campRuns then w.fltDone 8
      else match w.fltSlot slot with
        | none => w.fltDone 2
        | some x =>
          let cfg : CampCfg := ⟨min 40 (w.get FLT_CAMP_CFG_parity_first), w.get FLT_CAMP_CFG_max_rounds,
            w.get FLT_CAMP_CFG_repair_margin, max 1 (w.get FLT_CAMP_CFG2_poll_sf), max 1 (w.get FLT_CAMP_CFG2_announce_sf),
            w.get FLT_CAMP_CFG2_tail_sf⟩
          let rs := w.radList.filter (fun r => tst (w.get FLT_CAMP_CFG_radios) r)
          let ts := w.rad.enabled.filter (fun g => rs.contains (w.lanRadio g) && lanKind (w.lan g) == 1
            && (w.stateOf g == 3 || w.stateOf g == 4))
          let c : Campaign := ⟨slot, w.imageId slot, cfg, 1, 0, rs.map (fun r => (r, ⟨none, W.sendList x.image.length cfg.parityFirst⟩)),
            ts.foldl (fun st g => tblPut g (9, true) st) [], []⟩
          let w := w.setFlt { w.flt with slots := tblPut slot { x with campaigned := true } w.flt.slots, cfg := cfg }
          (((w.clearProgress ts).setCamp c).phaseCheck).fltDone 0)) s

/-- STOP (R265). -/
def execStop (s : State) : Host.Outcome State Fault Refusal :=
  runL true "STOP" (fun w =>
    w.fltCmd (fun w =>
      match w.flt.camp with
      | some c =>
        if w.campRuns then ((w.setCamp { c with phase := 0 }).oweDone (c.prog.map (·.1)) c.slot).fltDone 0 else w.fltDone 0
      | none => w.fltDone 0)) s

/-- ACTIVATE (R268). An instant whose nanoseconds exceed 999,999,999 is invalid (R10) and refused with LEAD (DESIGN CHOICE: no
code is given). -/
def execActivate (slot : Nat) (s : State) : Host.Outcome State Fault Refusal :=
  runL (wfActivate slot) "ACTIVATE" (fun w =>
    w.fltCmd (fun w =>
      let t := (w.get FLT_ACT_SEC_LO_v + 2 ^ 32 * w.get FLT_ACT_SEC_HI_v) * 1000000000 + w.get FLT_ACT_NS_v
      if 999999999 < w.get FLT_ACT_NS_v ∨ t < w.ns + 2560000000 then w.fltDone 6
      else match w.fltSlot slot with
        | some x =>
          if !x.campaigned then w.fltDone 7
          else
            let a : Activation := ⟨slot, w.imageId slot, be x.manifest 8 2, t, w.radList.map (fun r => (r, w.nActOf r t)), true⟩
            ((w.setFlt { w.flt with act := some a }).showFlt).fltDone 0
        | none => w.fltDone 7)) s

/-- CANCEL_ACT (R272). -/
def execCancelAct (s : State) : Host.Outcome State Fault Refusal :=
  runL true "CANCEL_ACT" (fun w =>
    w.fltCmd (fun w =>
      match w.flt.act with
      | some a =>
        if a.armed then
          (((w.setFlt { w.flt with act := none }).showFlt).oweDone (a.nAct.map (·.1)) a.slot).fltDone 0
        else w.fltDone 0
      | none => w.fltDone 0)) s

/-- PEDLAR_REPORT (R266, R269). -/
def execPedlarReport (t : Nat) (s : State) : Host.Outcome State Fault Refusal :=
  run true "PEDLAR_REPORT" (fun w =>
    let w := (w.at_ t).radFlush
    if !w.loom || !w.fltHere || w.isStandby then w
    else match w.headOf 0x0B 0x0C with
      | some ⟨.bytes b, _, _⟩ => ((w.popQ 0x0B 0x0C).radFlush).fltReport b
      | _ => w) s

/-- POLL_END (R265). -/
def execPollEnd (t : Nat) (s : State) : Host.Outcome State Fault Refusal :=
  run true "POLL_END" (fun w =>
    let w := w.at_ t
    if w.fltRuns then w.pollEnd else w) s

end Sys2Proof.Machine
end

