-- ==== Sys2Proof/Machine/Ingress.lean ====
section
/-! DEFINITION. The commands of stream ingress (R79 to R106). -/

namespace Sys2Proof.Machine

namespace W

/-- A lane write to stream ingress reaches it: the lanes run and its clock domain is on. -/
def ingCmd (w : W) (f : W → W) : W := if w.bit ING_CMD_STATUS_busy then w.set ING_CMD_STATUS_result 0x0D else f w

/-- A command's op and index shown in ING_CMD. -/
def ingOp (w : W) (op index : Nat) : W := (w.set ING_CMD_op op).set ING_CMD_index index

/-- A command on an entry within the table, INDEX otherwise (R101). -/
def onEntry (w : W) (op index : Nat) (f : W → W) : W :=
  (w.ingOp op index).ingCmd (fun w => if w.pat.active.streamEntries ≤ index then w.ingDone 0x01 else (f w).ingDone 0)

/-- DISABLE of a head in WAITING, ACTIVE, SILENT or FAULT (R98). -/
def ingDisable (w : W) (i : Nat) : W :=
  match tblGet w.ing.heads i with
  | some h => if 2 ≤ h.state ∧ h.state ≤ 5 then w.setChain i h 1 else w
  | none => w

/-- The IDCODE a command names. -/
def argId (w : W) : Nat := w.get ING_CMD_ARG_LO_v % 65536

def mapSet (w : W) (i : Nat) : W :=
  match tblGet w.ing.map w.argId with
  | some j => if j = i then w.ingDone 0 else w.ingDone 0x09
  | none => (({ w with ing := { w.ing with map := tblPut w.argId i w.ing.map } } : W).mapTold w.argId).ingDone 0

/-- The 48-byte descriptor of TCP_ATTACH taken apart, with its connection number (R83). -/
def tcpDesc (b : List Byte) : Nat × TcpConn :=
  (le b 40 1, { v6 := tst (le b 41 1) 0, remote := cut b 0 16, local_ := cut b 16 16, remotePort := le b 32 2,
                localPort := le b 34 2, rcvNext := le b 36 4, buf := [], unacked := none, full := 0 })

/-- Whether two connections have the same addresses and ports. -/
def sameConn (a b : TcpConn) : Bool :=
  a.v6 == b.v6 && a.remote == b.remote && a.local_ == b.local_ && a.remotePort == b.remotePort && a.localPort == b.localPort

/-- TCP_ATTACH: the four refusals of R83, and a descriptor that cannot be one (its place or its reserved bits), answer
TCP_CONN. -/
def tcpAttach (w : W) : W :=
  let a := w.get ING_CMD_ARG_LO_v + 2 ^ 32 * w.get ING_CMD_ARG_HI_v
  if !inRam a 48 || a % 8 != 0 then w.ingDone 0x0C
  else
    let b := w.rdBytes a 48
    let (c, x) := tcpDesc b
    if (tblGet w.ing.conns c).isSome || w.ing.conns.any (fun e => sameConn e.2 x) || x.localPort != w.pat.active.c37Tcp
        || w.pat.active.c37Tcp == 0 || !w.bit ING_CTRL_tcp_enable then w.ingDone 0x0C
    else if 1 < le b 41 1 || !allZero (cut b 42 6) then w.ingDone 0x0C
    else (w.setConn c x).ingDone 0

def tcpDetach (w : W) : W :=
  let c := w.get ING_CMD_ARG_LO_v % 256
  if (tblGet w.ing.conns c).isSome then
    ({ w with ing := { w.ing with conns := tblDel c w.ing.conns } } : W).ingDone 0
  else w.ingDone 0x0C

/-- One head visited by the silence scanner (R99). -/
def scanHead (w : W) (i : Nat) (h : Head) : W :=
  if (h.state == 2 || h.state == 3) && decide (h.since + 1000000 * entSilence (w.ent i) ≤ w.tb.up) then
    let w := w.setChain i h 4
    let w := h.chain.foldl (fun w e => w.setEnt e (fun b => patchCnt b 196 1)) w
    w.evEach ING_EVENT_silent i
  else w

end W

/-- INGRESS_FRAME: a data frame checked, and its records forwarded (R89 to R97). -/
def execIngressFrame (f : C37Frame) (s : State) : Host.Outcome State Fault Refusal :=
  run true "INGRESS_FRAME" (fun w =>
    let w := w.at_ f.arrival
    if w.serves then w.ingressFrame f else w) s

/-- TCP_SEGMENT_RX (R82). -/
def execTcpSegmentRx (g : TcpSeg) (s : State) : Host.Outcome State Fault Refusal :=
  run true "TCP_SEGMENT_RX" (fun w =>
    let w := w.at_ g.arrival
    if w.mainOn then w.tcpSegment g else w) s

/-- TCP_ACK_TIMER: data that has waited 5 ms is acknowledged (R82). -/
def execTcpAckTimer (conn t : Nat) (s : State) : Host.Outcome State Fault Refusal :=
  run (wfTcpAckTimer conn) "TCP_ACK_TIMER" (fun w =>
    let w := w.at_ t
    match tblGet w.ing.conns conn with
    | some x =>
      match x.unacked with
      | some u => if u + 5000000 ≤ w.tb.up then w.tcpAck conn x else w
      | none => w
    | none => w) s

/-- TCP_LANE_SEGMENT_TX: the segment goes out with the offload's receive sequence as its acknowledgement (R82). -/
def execTcpLaneSegmentTx (conn seq : Nat) (data : List Byte) (s : State) : Host.Outcome State Fault Refusal :=
  runL (wfTcpLaneSegmentTx conn) "TCP_LANE_SEGMENT_TX" (fun w =>
    match tblGet w.ing.conns conn with
    | some x =>
      w.tcpSend conn x seq data
    | none => w) s

/-- ING_INVALIDATE (R101). -/
def execIngInvalidate (index : Nat) (s : State) : Host.Outcome State Fault Refusal :=
  runL (wfIngInvalidate index) "ING_INVALIDATE" (fun w => w.onEntry 1 index (fun w => (w.dropLine index).ingTold index)) s

/-- ING_ENABLE (R88, R98). -/
def execIngEnable (index : Nat) (s : State) : Host.Outcome State Fault Refusal :=
  runL (wfIngEnable index) "ING_ENABLE" (fun w => (w.ingOp 2 index).ingCmd (fun w =>
    let w := (w.ingEnable index).alnRefresh
    if index < w.pat.active.streamEntries then w.ingTold index else w)) s

/-- ING_DISABLE (R98, R101). -/
def execIngDisable (index : Nat) (s : State) : Host.Outcome State Fault Refusal :=
  runL (wfIngDisable index) "ING_DISABLE" (fun w => w.onEntry 3 index (fun w => ((w.ingDisable index).alnRefresh).ingTold index)) s

/-- ING_FLUSH (R101). -/
def execIngFlush (index : Nat) (s : State) : Host.Outcome State Fault Refusal :=
  runL (wfIngFlush index) "ING_FLUSH" (fun w => w.onEntry 4 index (fun w => w.writeBack index)) s

/-- ING_CLEAR: bytes 196 to 255 zeroed (R101). -/
def execIngClear (index : Nat) (s : State) : Host.Outcome State Fault Refusal :=
  runL (wfIngClear index) "ING_CLEAR" (fun w =>
    w.onEntry 5 index (fun w => w.setEnt index (fun b => patch b 196 (List.replicate 60 0)))) s

/-- MAP_SET (R85). -/
def execMapSet (index : Nat) (s : State) : Host.Outcome State Fault Refusal :=
  runL (wfMapSet index) "MAP_SET" (fun w =>
    (w.ingOp 6 index).ingCmd (fun w => if w.pat.active.streamEntries ≤ index then w.ingDone 0x01 else w.mapSet index)) s

/-- MAP_CLEAR (R85). -/
def execMapClear (s : State) : Host.Outcome State Fault Refusal :=
  runL true "MAP_CLEAR" (fun w =>
    (w.set ING_CMD_op 7).ingCmd (fun w =>
      (({ w with ing := { w.ing with map := tblDel w.argId w.ing.map } } : W).mapTold w.argId).ingDone 0)) s

/-- TCP_ATTACH (R83). -/
def execTcpAttach (s : State) : Host.Outcome State Fault Refusal :=
  runL true "TCP_ATTACH" (fun w => (w.set ING_CMD_op 8).ingCmd W.tcpAttach) s

/-- TCP_DETACH; a connection that is not attached answers TCP_CONN (R88, R101). -/
def execTcpDetach (s : State) : Host.Outcome State Fault Refusal :=
  runL true "TCP_DETACH" (fun w => (w.set ING_CMD_op 9).ingCmd W.tcpDetach) s

/-- MAP_QUERY: ING_MAP_RESULT shows the position (R85). -/
def execMapQuery (v : W32) (s : State) : Host.Outcome State Fault Refusal :=
  runL true "MAP_QUERY" (fun w => (w.set ING_MAP_QUERY_idcode v.toNat).showMap) s

/-- ING_CTRL_WRITE: tcp_enable 0 detaches every connection (R83). -/
def execIngCtrlWrite (v : W32) (s : State) : Host.Outcome State Fault Refusal :=
  runL true "ING_CTRL_WRITE" (fun w =>
    let w := ((w.set ING_CTRL_enable v.toNat).set ING_CTRL_range_enable (v.toNat / 2)).set ING_CTRL_tcp_enable (v.toNat / 4)
    let w := w.dirty
    (if tst v.toNat 2 then w else { w with ing := { w.ing with conns := [] } } : W).hostRelease) s

/-- SILENCE_SCAN: every head visited (R99). -/
def execSilenceScan (t : Nat) (s : State) : Host.Outcome State Fault Refusal :=
  run true "SILENCE_SCAN" (fun w =>
    let w := w.at_ t
    if w.serves then (w.ing.heads.foldl (fun (w : W) e => w.scanHead e.1 e.2) w).alnRefresh else w) s

/-- ING_WRITEBACK: a state half dirty for up to 10 ms goes to DRAM (R100). -/
def execIngWriteback (index t : Nat) (s : State) : Host.Outcome State Fault Refusal :=
  run (wfIngWriteback index) "ING_WRITEBACK" (fun w => (w.at_ t).writeBack index) s

end Sys2Proof.Machine
end

