-- ==== Sys2Proof/Machine/IrqOps.lean ====
section
/-! DEFINITION. The interrupt block's shared operations: the staging store, rings, assertion and moderation (R329 to R336). -/

namespace Sys2Proof.Machine.W

/-- IRQ_PEND of a source brought up to date: 1 while an event of it is staged (R329). -/
def syncPend (w : W) (source : Nat) : W :=
  w.setB ⟨(IRQ_PEND_v (source / 32)).addr, source % 32, 1⟩ (w.irq.staged.any (fun e => e.source == source))

def syncStaged (w : W) : W := w.set IRQ_STATUS_staged w.irq.staged.length

/-- An event latched into the staging store of 4,096 entries; with the store full it is lost (R329). -/
def stage (w : W) (e : IrqEvent) : W :=
  if w.irq.staged.length < 4096 then
    let w := { w with irq := { w.irq with staged := w.irq.staged ++ [e] } }
    ((w.syncPend e.source).syncStaged).tally 0xC0
  else
    let w := w.bump IRQ_LOST_CNT_v 1
    let w := { w with irq := { w.irq with lost := w.irq.lost ++ [e.source] } }
    w.ev IRQ_EVENT_stage_full 0

/-- Whether a source is masked (R336). -/
def masked (w : W) (source : Nat) : Bool := w.bit ⟨(IRQ_MASK_v (source / 32)).addr, source % 32, 1⟩

/-- A source's target, group and sub-priority (R331, R332). -/
def srcTarget (w : W) (source : Nat) : Nat := w.get (IRQ_SRC_CFG_target source)
def srcPriority (w : W) (source : Nat) : Nat := w.get (IRQ_SRC_CFG_priority source)
def groupBits (w : W) : Nat := w.get IRQ_CTRL_group_bits
def srcGroup (w : W) (source : Nat) : Nat := w.srcPriority source / 2 ^ (8 - w.groupBits)
def srcSub (w : W) (source : Nat) : Nat := w.srcPriority source % 2 ^ (8 - w.groupBits)

/-- A ring's records (2^k), and whether its base and size obey R333. -/
def ringLen (w : W) (t g : Nat) : Nat := 2 ^ w.get (IRQ_RING_CFG_k t g)

/-- The software range of on-chip SRAM ends where the queue pool begins (R45, R321). -/
def ringOk (w : W) (t g : Nat) : Bool :=
  let k := w.get (IRQ_RING_CFG_k t g)
  let base := w.get (IRQ_RING_BASE_v t g)
  decide (4 ≤ k) && decide (k ≤ 12) && base % (16 * 2 ^ k) == 0 && decide (0x10000000 ≤ base)
    && decide (base + 16 * 2 ^ k ≤ 0x12800000)

def ringHolds (w : W) (t g : Nat) : Bool :=
  w.get (IRQ_RING_RIDX_idx t g) != w.get (IRQ_RING_WIDX_idx t g)

/-- Records waiting in a target's rings. -/
def waiting (w : W) (t : Nat) : Nat :=
  ((upTo 8).map (fun g =>
    (w.get (IRQ_RING_WIDX_idx t g) + w.ringLen t g - w.get (IRQ_RING_RIDX_idx t g) % w.ringLen t g) % w.ringLen t g)).sum

/-- The interrupt of a target asserted. -/
def assertTgt (w : W) (t : Nat) : W :=
  let w := { w with irq := { w.irq with first := tblDel t w.irq.first } }
  (w.set (IRQ_TGT_TOP_asserted t) 1).tally 0xC2

/-- The assertion of target `t` evaluated (R334) with moderation (R335); `fast` says that a record was just written to
a ring at or above fast_group. Records left over from an assertion that a threshold or IRQ_CTRL ended wait mod_us from the
evaluation that finds them (DESIGN CHOICE). -/
def evalTgt (w : W) (t : Nat) (fast : Bool) : W :=
  let holds := (upTo 8).filter (fun g => w.ringHolds t g)
  let w := w.set (IRQ_TGT_TOP_group t) (holds.foldl max 0)
  let w := w.setB (IRQ_TGT_TOP_none t) holds.isEmpty
  let want := w.bit IRQ_CTRL_enable && holds.any (fun g => decide (w.get (IRQ_TGT_THRESH_thresh t) ≤ g))
  if !want then
    let w := if holds.isEmpty then { w with irq := { w.irq with first := tblDel t w.irq.first } } else w
    w.set (IRQ_TGT_TOP_asserted t) 0
  else if w.bit (IRQ_TGT_TOP_asserted t) then w
  else
    let us := w.get (IRQ_TGT_MOD_mod_us t)
    let since := tblGet w.irq.first t
    let passed := match since with | some u => decide (u + 1000 * us ≤ w.tb.up) | none => false
    if us == 0 || passed || decide (max 1 (w.get (IRQ_TGT_MOD_mod_count t)) ≤ w.waiting t)
        || w.irq.idle.contains (t / 2) || fast then w.assertTgt t
    else match since with
      | some _ => w
      | none => { w with irq := { w.irq with first := tblPut t w.tb.up w.irq.first } }

/-- Of the staged events that are eligible for ring (t, g), the one written first: the highest sub-priority, then the
lowest source, then the oldest (R332). -/
def nextFor (w : W) (t g : Nat) : Option IrqEvent :=
  let el := w.irq.staged.filter (fun e => !w.masked e.source && w.srcTarget e.source == t && w.srcGroup e.source == g)
  el.foldl (fun best e =>
    match best with
    | none => some e
    | some b =>
      if w.srcSub b.source < w.srcSub e.source
          || (w.srcSub b.source == w.srcSub e.source && decide (e.source < b.source)) then some e else some b) none

/-- The 16 bytes of a record (R330). -/
def recordBytes (e : IrqEvent) (priority : Nat) (lost : Bool) : List Byte :=
  leBytes 2 e.source ++ leBytes 1 priority ++
    leBytes 1 (bitNat lost + 2 * bitNat e.software + 4 * bitNat e.woke + 8 * bitNat e.retained)
    ++ leBytes 4 e.param ++ leBytes 8 e.stamp

/-- Ring (t, g) served (R333): one staged event written as a record and WIDX advanced; a bad ring is flagged, and a
full ring keeps its events staged. -/
def serveRing (w : W) (t g : Nat) : W :=
  if !w.bit IRQ_CTRL_enable || !w.bit (IRQ_RING_CFG_enable t g) then w
  else match w.nextFor t g with
    | none => w
    | some e =>
      if !w.ringOk t g then w.ev IRQ_EVENT_bad_ring 0
      else
        let wi := w.get (IRQ_RING_WIDX_idx t g)
        let nx := (wi + 1) % w.ringLen t g
        if nx = w.get (IRQ_RING_RIDX_idx t g) then w.ev IRQ_EVENT_ring_full 0
        else
          let b := recordBytes e (w.srcPriority e.source) (w.irq.lost.contains e.source)
          let w := w.wrBytes (w.get (IRQ_RING_BASE_v t g) + 16 * wi) b
          let w := { w with irq := { w.irq with staged := w.irq.staged.erase e, lost := w.irq.lost.filter (fun n => n != e.source) } }
          let w := ((w.syncPend e.source).syncStaged).set (IRQ_RING_WIDX_idx t g) nx
          let w := if w.bit (IRQ_TGT_TOP_asserted t) || (tblGet w.irq.first t).isSome then w
            else { w with irq := { w.irq with first := tblPut t w.tb.up w.irq.first } }
          (w.tally 0xC1).evalTgt t (decide (w.get (IRQ_TGT_MOD_fast_group t) ≤ g))

/-- The assertion of every target evaluated again. -/
def evalAll (w : W) : W := (upTo 8).foldl (fun w t => w.evalTgt t false) w

/-- IRQ_PEND[word] written (R337): per bit, 1 over 0 stages a software event, 0 over 1 discards the source's events. -/
def writePend (w : W) (word : Nat) (v : W32) : W :=
  (upTo 32).foldl (fun w j =>
    let src := 32 * word + j
    let old := w.irq.staged.any (fun e => e.source == src)
    let new := v.getLsbD j
    if new && !old then w.stage ⟨src, 0, w.ns, true, false, false⟩
    else if !new && old then
      let w := { w with irq := { w.irq with staged := w.irq.staged.filter (fun e => e.source != src) } }
      (w.syncPend src).syncStaged
    else w) w

/-- IRQ_MASK[word] written (R336). -/
def writeMask (w : W) (word : Nat) (v : W32) : W := { w with regs := w.regs.wr (IRQ_MASK_v word).addr v }

end Sys2Proof.Machine.W
end

