-- ==== Sys2Proof/Machine/Irq.lean ====
section
/-! DEFINITION. The interrupt block's commands (R328 to R341), but for IRQ_EVENT_LATCH, which can wake the module. -/

namespace Sys2Proof.Machine

/-- IRQ_RECORD_WRITE: the ring of target `tgt` and group `grp` is served (R333). -/
def execIrqRecordWrite (tgt grp t : Nat) (s : State) : Host.Outcome State Fault Refusal :=
  run (wfIrqRecordWrite tgt grp) "IRQ_RECORD_WRITE" (fun w =>
    let w := w.at_ t
    if w.mainOn then w.serveRing tgt grp else w) s

/-- MODERATION_EXPIRE: mod_us has passed since the first record held back, and the interrupt is asserted (R335). -/
def execModerationExpire (tgt t : Nat) (s : State) : Host.Outcome State Fault Refusal :=
  run (wfModerationExpire tgt) "MODERATION_EXPIRE" (fun w => (w.at_ t).evalTgt tgt false) s

/-- IRQ_PEND_WRITE (R337). -/
def execIrqPendWrite (word : Nat) (v : W32) (s : State) : Host.Outcome State Fault Refusal :=
  runL (wfIrqPendWrite word) "IRQ_PEND_WRITE" (fun w => w.writePend word v) s

/-- IRQ_MASK_WRITE (R336). -/
def execIrqMaskWrite (word : Nat) (v : W32) (s : State) : Host.Outcome State Fault Refusal :=
  runL (wfIrqMaskWrite word) "IRQ_MASK_WRITE" (fun w => (w.writeMask word v).dirty) s

/-- The value an atomic operation leaves (R338). -/
def amoValue (op : AmoOp) (old v : W32) : W32 :=
  match op with
  | .and => old &&& v
  | .or => old ||| v
  | .swap => v
  | .add | .xor | .min | .max | .minu | .maxu | .other => old

/-- An atomic operation of the lanes (R338): on IRQ_MASK and IRQ_PEND it acts and answers the old value; any other
operation or register gives an access fault. -/
def W.amo (w : W) (op : AmoOp) (addr : Nat) (v : W32) : W :=
  if ¬(op = .and ∨ op = .or ∨ op = .swap) ∨ addr % 4 ≠ 0 then w.accessFault
  else if 0x40110100 ≤ addr ∧ addr < 0x40110140 then
    let old := w.regs.rd addr
    (w.writeMask ((addr - 0x40110100) / 4) (amoValue op old v)).dirty.answer old.toNat
  else if 0x40110140 ≤ addr ∧ addr < 0x40110180 then
    let old := w.regs.rd addr
    (w.writePend ((addr - 0x40110140) / 4) (amoValue op old v)).answer old.toNat
  else w.accessFault

/-- IRQ_AMO (R338). -/
def execIrqAmo (op : AmoOp) (addr : Nat) (v : W32) (s : State) : Host.Outcome State Fault Refusal :=
  runL true "IRQ_AMO" (fun w => w.amo op addr v) s

/-- RIDX_WRITE: records are freed and the assertion evaluated again (R334). -/
def execRidxWrite (tgt grp : Nat) (v : W32) (s : State) : Host.Outcome State Fault Refusal :=
  runL (wfRidxWrite tgt grp) "RIDX_WRITE" (fun w =>
    (w.set (IRQ_RING_RIDX_idx tgt grp) v.toNat).evalTgt tgt false) s

/-- THRESH_WRITE: the threshold and the assertion evaluated again (R334). -/
def execThreshWrite (tgt : Nat) (v : W32) (s : State) : Host.Outcome State Fault Refusal :=
  runL (wfThreshWrite tgt) "THRESH_WRITE" (fun w =>
    ((w.set (IRQ_TGT_THRESH_thresh tgt) v.toNat).dirty).evalTgt tgt false) s

/-- HART_IDLE: an idle hart's targets are never moderated (R335). -/
def execHartIdle (hart : Nat) (s : State) : Host.Outcome State Fault Refusal :=
  runL (wfHartIdle hart) "HART_IDLE" (fun w =>
    let w := { w with irq := { w.irq with idle := hart :: w.irq.idle.erase hart } }
    (w.evalTgt (2 * hart) false).evalTgt (2 * hart + 1) false) s

end Sys2Proof.Machine
end

