-- ==== Sys2Proof/Machine/PatCheck.lean ====
section
/-! DEFINITION. The loader's checks of a pattern, in the order of the error codes (R32 to R49, R57, R461), with the item
layouts of the engines' sections (R107 to R109, R131 to R148, R224, R225, R273, R451, R452). -/

namespace Sys2Proof

/-- The Torvelo factory key in boot ROM, SEC 1 uncompressed (R41). -/
opaque Config.factoryKey : Nat → Byte
/-- The digest of the factory pattern (R50). -/
opaque Config.factoryDigest : Nat → Byte
/-- Whether IEEE 802.15.4-2020 defines a mode for a band, and a channel for a band and mode (R223, R224). -/
opaque Config.modeInBand : Nat → Nat → Bool
opaque Config.channelExists : Nat → Nat → Nat → Bool

end Sys2Proof

namespace Sys2Proof.Machine

/-- A section found by the walk of R34: its index from 1, where its header starts, and its fields. -/
structure Sect where
  idx : Nat
  off : Nat
  typ : Nat
  ver : Nat
  bodyLen : Nat
  count : Nat
  crc : Nat
  resv : Nat
  body : List Byte
  deriving DecidableEq, Repr

/-- A failed check: section index (0 header or trailer) and byte offset; none where it passes. -/
abbrev Chk := Option (Nat × Nat)

def chk (ok : Bool) (sec off : Nat) : Chk := if ok then none else some (sec, off)

/-- The first failure of a list of checks. -/
def firstOf (l : List Chk) : Chk := l.findSome? id

/-- The walk of R34: the sections found, where it ends, and whether it overran `lim`. -/
def patWalk (raw : List Byte) (lim : Nat) : Nat → Nat → Nat → List Sect × Nat × Bool
  | 0, _, off => ([], off, false)
  | n + 1, idx, off =>
    if lim < off + 16 then ([], off, true)
    else
      let h := cut raw off 16
      let s : Sect := ⟨idx, off, le h 0 2, le h 2 1, le h 4 4, le h 8 4, le h 12 4, le h 3 1, cut raw (off + 16) (le h 4 4)⟩
      if lim < off + 16 + s.bodyLen then ([s], off, true)
      else
        let r := patWalk raw lim n (idx + 1) (off + 16 + s.bodyLen)
        (s :: r.1, r.2)

/-- Item size by section type (R35). -/
def itemSize (t : Nat) : Nat := [0, 32, 16, 16, 48, 64, 16, 32, 32, 16, 4].getD t 0
/-- Largest count by section type (R35). -/
def maxCount (t : Nat) : Nat := [0, 1, 192, 256, 1, 64, 65536, 1024, 4, 20, 256].getD t 0

def up8 (n : Nat) : Nat := 8 * ceilDiv n 8

namespace Sect

/-- The items with their offsets in the pattern. -/
def items (s : Sect) : List (Nat × List Byte) :=
  (upTo s.count).map (fun k => (s.off + 16 + itemSize s.typ * k, cut s.body (itemSize s.typ * k) (itemSize s.typ)))

/-- The items' bytes; none for an absent section (R35). -/
def present (s : Sect) : Bool := s.bodyLen != 0

end Sect

/-- The pattern's bytes with its sections. -/
structure Src where
  raw : List Byte
  total : Nat
  sects : List Sect
  stop : Nat
  overrun : Bool

namespace Src

def head (p : Src) (at_ n : Nat) : Nat := le p.raw at_ n

def sect (p : Src) (t : Nat) : Option Sect := p.sects.find? (fun s => s.typ == t)
/-- The items of a section type, absent sections holding none. -/
def items (p : Src) (t : Nat) : List (Nat × List Byte) :=
  match p.sect t with | some s => if s.present then s.items else [] | none => []
def bodies (p : Src) (t : Nat) : List (List Byte) := (p.items t).map (fun (i : Nat × List Byte) => i.2)
def has (p : Src) (t : Nat) : Bool := match p.sect t with | some s => s.present | none => false
def idx (p : Src) (t : Nat) : Nat := match p.sect t with | some s => s.idx | none => 0
def at_ (p : Src) (t : Nat) : Nat := match p.sect t with | some s => s.off | none => 0

/-- A check of every item of a section type. -/
def each (p : Src) (t : Nat) (f : Nat → List Byte → List Chk) : Chk :=
  firstOf ((p.items t).flatMap (fun (i : Nat × List Byte) => f i.1 i.2))

/-- One field check of an item: the offset within it and what must hold. -/
def fieldChk (p : Src) (t o at_ : Nat) (ok : Bool) : Chk := chk ok (p.idx t) (o + at_)

def clock (p : Src) : List Byte := ((p.bodies 1).head?).getD []
def geo (p : Src) : List Byte := ((p.bodies 4).head?).getD []
def streams (p : Src) : Nat := le p.geo 0 2
def lanterns (p : Src) : List Nat := (upTo 4).map (fun r => le p.geo (4 + 2 * r) 2)
def channels (p : Src) : Nat := le p.clock 8 2

/-- Tiles of an engine. -/
def tilesOf (p : Src) (e : Nat) : List Nat :=
  ((p.bodies 2).filter (fun i => le i 1 1 == e)).map (fun i => le i 0 1)
def hasEngine (p : Src) (e : Nat) : Bool := !(p.tilesOf e).isEmpty

/-- Wiring items of a kind, by number. -/
def wired (p : Src) (kind : Nat) : List (List Byte) := (p.bodies 6).filter (fun i => le i 0 1 == kind)
def wiredHas (p : Src) (kind num : Nat) : Bool := (p.wired kind).any (fun i => le i 2 2 == num)

/-! ## 0x02 to 0x0B -/

/-- 0x03: the versions (R33, R34). -/
def versions (p : Src) : Chk :=
  firstOf ([chk (p.head 4 2 == 1) 0 4, chk (p.head 6 2 == 128) 0 6]
    ++ p.sects.map (fun s => chk (s.ver == 1) s.idx (s.off + 2)))

/-- 0x04: a section's body agrees with its count, the tile map with its images (R37, R49). Each item's image counts for
itself, rounded up to 8, so that two items cannot share one and no gap lies between them (DESIGN CHOICE). -/
def bodyFits (s : Sect) : Bool :=
  let n := up8 (s.count * itemSize s.typ)
  if itemSize s.typ = 0 then s.bodyLen % 8 == 0
  else if s.typ = 2 then
    decide (n ≤ s.bodyLen)
      && s.bodyLen == (s.items.map (fun (i : Nat × List Byte) => up8 (le i.2 8 4))).foldl (· + ·) n
      && s.items.all (fun (i : Nat × List Byte) => decide (n ≤ le i.2 4 4) && decide (le i.2 4 4 + le i.2 8 4 ≤ s.bodyLen))
  else s.bodyLen == n

/-- A walk that overran: at the body_len of the section whose body does, else where the next header would start. -/
def overran (p : Src) : Chk :=
  if !p.overrun then none
  else match p.sects.getLast? with
    | some s => if s.off = p.stop then some (s.idx, s.off + 4) else some (s.idx + 1, p.stop)
    | none => some (1, p.stop)

def lengths (p : Src) (len : Nat) : Chk :=
  firstOf ([chk (decide (p.total ≤ 0x1000000) && p.total == len) 0 8]
    ++ p.sects.map (fun s => chk (bodyFits s) s.idx (s.off + 4))
    ++ [p.overran, chk (p.stop + 96 == p.total) 0 12])

/-- 0x09: ascending order, no repeats, known types (R35). -/
def order (p : Src) : Chk :=
  firstOf ((p.sects.zip (0 :: p.sects.map (fun s => s.typ))).map
    (fun (e : Sect × Nat) => chk (decide (e.2 < e.1.typ) && decide (e.1.typ ≤ 10)) e.1.idx e.1.off))

/-- 0x0A: CRCs of bodies and images. -/
def crcs (p : Src) : Chk :=
  firstOf (p.sects.flatMap (fun s =>
    chk (s.crc == (if s.bodyLen = 0 then 0 else crc32 s.body)) s.idx (s.off + 12)
      :: (if s.typ = 2 then s.items.map (fun (i : Nat × List Byte) =>
            chk (le i.2 12 4 == crc32 (cut s.body (le i.2 4 4) (le i.2 8 4))) s.idx (i.1 + 12)) else [])))

/-- 0x0B: required sections (R35). -/
def required (p : Src) : Chk :=
  firstOf ([1, 2, 3, 4, 10].map (fun t =>
    match p.sect t with
    | none => some (0, 12)
    | some s => chk (s.present || (t == 2 && s.count == 0)) s.idx (s.off + 4)))

/-! ## 0x0C: counts and ranges -/

/-- A group item's ranges and depth (R107 to R109). -/
def groupChk (p : Src) (o : Nat) (b : List Byte) : List Chk :=
  let f := p.fieldChk 5 o
  let rate := gRate b
  let n := rate.natAbs
  let minS := (if 0 < rate then ceilDiv (n * (gMax b + 60)) 1000 else ceilDiv (gMax b + 60) (1000 * n)) + 3
  let maxS := minS + (if 0 < rate then 2 * n else ceilDiv 2 n) + 3
  [f 0 (decide (gNum b ≤ 63) && ((p.bodies 5).filter (fun c => gNum c == gNum b)).length == 1),
   f 2 (decide (1 ≤ rate) && decide (rate ≤ 240) || decide (-60 ≤ rate) && decide (rate ≤ -1)),
   f 4 (decide (gMin b ≤ gWindow b) && decide (gWindow b ≤ gMax b)),
   f 6 (decide (gMin b ≤ 2000)), f 8 (decide (gMin b ≤ gMax b) && decide (gMax b ≤ 2000)), f 10 (decide (gMargin b ≤ 500)),
   f 12 (decide (1 ≤ gMembers b) && decide (gMembers b ≤ 8193)),
   f 14 (decide (32 ≤ gWidth b) && decide (gWidth b ≤ 336) && gWidth b % 16 == 0),
   f 16 (decide (minS ≤ gDepth b) && decide (gDepth b ≤ maxS)),
   f 24 (gRing b % 4096 == 0), f 32 (gLate b == 0 || gLateOff b % 4096 == 0)]

def entryOk (e : Nat) : Bool := decide (e ≤ 0x2000)

/-- A float32 word that is finite, and its order. -/
def finite (n : Nat) : Bool := n / 2 ^ 23 % 256 != 255
def f32Le (a b : Nat) : Bool :=
  decide ((Ratio.ofF32 (BitVec.ofNat 32 a)).num * (Ratio.ofF32 (BitVec.ofNat 32 b)).den
    ≤ (Ratio.ofF32 (BitVec.ofNat 32 b)).num * (Ratio.ofF32 (BitVec.ofNat 32 a)).den)

def qIndexMax (q : Nat) : Nat := if q = 3 ∨ q = 4 then 31 else if q = 5 then 7 else 0

/-- A wiring item's ranges and references (R131 to R142). -/
def wireChk (p : Src) (o : Nat) (b : List Byte) : List Chk :=
  let f := p.fieldChk 6 o
  let k := le b 0 1
  let q := le b 6 1
  [f 0 (decide (1 ≤ k) && decide (k ≤ 6)), f 2 (decide (le b 2 2 ≤ [0, 8192, 4095, 511, 8191, 32767, 2047].getD k 0))]
  ++ (if k = 1 then
    [f 4 (entryOk (le b 4 2)), f 8 (le b 8 2 != 0), f 10 (le b 10 2 != 0), f 12 (decide (1 ≤ le b 12 1) && decide (le b 12 1 ≤ 64))]
  else if k = 2 then
    [f 4 (entryOk (le b 4 2)), f 6 (entryOk (le b 6 2)), f 8 (decide (le b 8 1 ≤ 31)), f 9 (decide (le b 9 1 ≤ 31)),
     f 10 (le b 10 2 != 0), f 12 (decide (-18000 ≤ sgn 16 (le b 12 2)) && decide (sgn 16 (le b 12 2) ≤ 18000)),
     f 14 (decide (sgn 16 (le b 12 2) ≤ sgn 16 (le b 14 2)) && decide (sgn 16 (le b 14 2) ≤ 18000))]
  else if k = 3 then
    let rate := match (p.bodies 5).find? (fun g => gNum g == le b 11 1) with | some g => gRate g | none => 0
    let d := le b 8 1
    [f 4 (if q = 6 then p.wiredHas 2 (le b 4 2) else entryOk (le b 4 2)), f 6 (decide (1 ≤ q) && decide (q ≤ 6)),
     f 7 (decide (le b 7 1 ≤ qIndexMax q)),
     f 8 (decide (1 ≤ d) && decide (d ≤ 240) && decide (0 < rate) && rate.toNat % d == 0 && decide (1 ≤ rate.toNat / d)
       && decide (rate.toNat / d ≤ 120)),
     f 9 (decide (10 ≤ le b 9 1) && decide (le b 9 1 ≤ 120)), f 10 (decide (1 ≤ le b 10 1) && decide (le b 10 1 ≤ 8)),
     f 11 (decide (0 < rate)), f 12 (decide (le b 12 1 ≤ 3))]
  else if k = 4 then [f 4 (entryOk (le b 4 2))]
  else if k = 5 then
    [f 4 (p.wiredHas 4 (le b 4 2)), f 6 (p.wiredHas 4 (le b 6 2) && le b 4 2 != le b 6 2),
     f 8 (!tst (le b 1 1) 0 || entryOk (le b 8 2)), f 10 (decide (le b 10 1 ≤ 3)), f 11 (decide (le b 11 1 ≤ 15)), f 14 (le b 14 1 != 0)]
  else
    [f 4 (entryOk (le b 4 2)), f 6 (q == 1 || q == 2 || q == 3 || q == 5), f 7 (decide (le b 7 1 ≤ qIndexMax q)),
     f 8 (finite (le b 8 4)), f 12 (finite (le b 12 4) && f32Le (le b 8 4) (le b 12 4))])

/-- Items in ascending order of a key, none repeated. -/
def ascending (p : Src) (t at_ : Nat) (key : List Byte → Nat) : Chk :=
  firstOf (((p.items t).zip ((p.items t).drop 1)).map (fun (e : (Nat × List Byte) × (Nat × List Byte)) =>
    chk (decide (key e.1.2 < key e.2.2)) (p.idx t) (e.2.1 + at_)))

/-- A term names an item and an output that exist (R147, R148). -/
def termOk (p : Src) (kind idx num : Nat) : Bool :=
  if kind = 1 ∨ kind = 2 then decide (idx ≤ 4) && p.wiredHas kind num
  else if kind = 3 then decide (idx ≤ 10) && p.wiredHas 3 num
  else if kind = 4 then (if num = 0xFFFF then decide (idx ≤ 4) && p.hasEngine 4 else decide (idx ≤ 1) && p.wiredHas 4 num)
  else if kind = 5 then decide (idx ≤ 2) && p.wiredHas 5 num
  else if kind = 6 then (idx == 0 || idx == 1 || idx == 3) && p.wiredHas 6 num
  else false

def ruleChk (p : Src) (o : Nat) (b : List Byte) : List Chk :=
  let f := p.fieldChk 7 o
  [f 0 (decide (le b 0 2 ≤ 1023)), f 2 (decide (le b 2 1 ≤ 1)), f 3 (decide (1 ≤ le b 3 1) && decide (le b 3 1 ≤ 4))]
  ++ (upTo (min 4 (le b 3 1))).map (fun j => f (4 + 4 * j) (p.termOk (le b (4 + 4 * j) 1) (le b (5 + 4 * j) 1 % 32) (le b (6 + 4 * j) 2)))
  ++ [f 20 (le b 20 2 != 0), f 22 (le b 22 2 != 0), f 24 (decide (le b 24 1 ≤ 7)), f 26 (decide (le b 26 2 ≤ 255)),
      f 28 ((p.bodies 5).any (fun g => gNum g == le b 28 1))]

/-- A radio item (R224, R225). -/
def radioChk (p : Src) (o : Nat) (b : List Byte) : List Chk :=
  let f := p.fieldChk 8 o
  let slots := (upTo 64).map (fun k => le b 12 16 / 4 ^ k % 4)
  [f 0 (decide (le b 0 1 ≤ 3) && ((p.bodies 8).filter (fun c => le c 0 1 == le b 0 1)).length == 1),
   f 1 (decide (le b 1 1 ≤ 1) && (p.bodies 8).all (fun c => le c 1 1 == le b 1 1)),
   f 2 ([0x01, 0x02, 0x11, 0x12].contains (le b 2 1) && Config.modeInBand (le b 1 1) (le b 2 1)),
   f 3 (Config.channelExists (le b 1 1) (le b 2 1) (le b 3 1)
     && ((p.bodies 8).filter (fun c => le c 3 1 == le b 3 1)).length == 1),
   f 4 (decide (le b 4 2 ≤ 0xFFFD)), f 6 (decide (-10 ≤ sgn 8 (le b 6 1)) && decide (sgn 8 (le b 6 1) ≤ 20)),
   f 8 (decide (le b 8 4 ≤ 639999)),
   f 12 ((upTo 16).all (fun k => slots.getD (4 * k) 0 == 0) && decide (4 ≤ (slots.filter (· == 1)).length)
     && decide (p.lanterns.getD (le b 0 1) 0 ≤ 474 * (slots.filter (· == 2)).length))]

/-- An LED or matrix item (R273). -/
def ledChk (p : Src) (o : Nat) (b : List Byte) : List Chk :=
  let f := p.fieldChk 9 o
  let once := ((p.bodies 9).filter (fun c => le c 0 1 == le b 0 1)).length == 1
  if le b 1 1 = 1 then
    let prod := le b 2 2 * le b 4 2
    [f 0 (decide (le b 0 1 ≤ 15) && once), f 2 (decide (10 ≤ le b 2 2) && decide (le b 2 2 ≤ 3000)),
     f 4 (decide (10 ≤ le b 4 2) && decide (le b 4 2 ≤ 20000) && decide (50000 ≤ prod) && decide (prod ≤ 200000)),
     f 6 (decide (4 ≤ le b 6 1) && decide (le b 6 1 ≤ 40)), f 7 (decide (50 ≤ le b 7 1) && decide (le b 7 1 ≤ 95)),
     f 8 (decide (le b 8 1 ≤ 3) || le b 8 1 == 0xFF),
     f 9 (decide (le b 9 1 ≤ 3) && (le b 8 1 == 0xFF || ((p.bodies 9).filter
       (fun c => le c 1 1 == 1 && le c 8 1 == le b 8 1 && le c 9 1 == le b 9 1)).length == 1))]
  else
    [f 0 (decide (16 ≤ le b 0 1) && decide (le b 0 1 ≤ 19) && once), f 1 (le b 1 1 == 2),
     f 2 (decide (1 ≤ le b 2 1) && decide (le b 2 1 ≤ 4)), f 3 (decide (le b 3 1 ≤ 3)),
     f 4 (decide (1 ≤ le b 4 4) && decide (le b 4 4 ≤ (if le b 8 1 = 2 then 65536 else 131072))),
     f 8 (le b 8 1 == 1 || le b 8 1 == 2), f 9 (decide (le b 9 1 ≤ 2))]

/-- A pin item (R451, R452). -/
def pinChk (p : Src) (o : Nat) (b : List Byte) : List Chk :=
  let f := p.fieldChk 10 o
  let i := le b 0 2
  let c := le b 2 1
  let general := decide (i < 0x40)
  [f 0 (decide (i ≤ 0x9B) || (decide (0xA0 ≤ i) && decide (i ≤ 0xBB)) || (decide (0xC0 ≤ i) && decide (i ≤ 0xD7))),
   f 2 (if general then decide (c ≤ 4) || (decide (0x10 ≤ c) && decide (c ≤ 0x1F)) else c == 0 || c == 5 || c == 6),
   f 3 ((general || le b 3 1 % 4 == 0) && !(tst (le b 3 1) 2
     && ((decide (0x68 ≤ i) && decide (i ≤ 0x97)) || (decide (0xA0 ≤ i) && decide (i ≤ 0xBB) && (i - 0xA0) % 7 == 6))))]

def tileChk (p : Src) (o : Nat) (b : List Byte) : List Chk :=
  let f := p.fieldChk 2 o
  [f 0 (decide (le b 0 1 ≤ 191)), f 1 (decide (1 ≤ le b 1 1) && decide (le b 1 1 ≤ 6)), f 4 (le b 4 4 % 8 == 0),
   f 8 (decide (8 ≤ le b 8 4) && decide (le b 8 4 ≤ 73728))]

def queueChk (p : Src) (o : Nat) (b : List Byte) : List Chk :=
  [p.fieldChk 3 o 4 (le b 4 4 % 64 == 0), p.fieldChk 3 o 12 (!tst (le b 3 1) 0 || le b 12 2 % 64 == 0)]

def clockChk (p : Src) (o : Nat) (b : List Byte) : List Chk :=
  let f := p.fieldChk 1 o
  [f 0 ((le b 0 2 &&& 0x117) == 0x117),
   f 4 ([0, 4000, 4800, 8000, 14400, 16000, 32000, 64000].contains (le b 4 4) && !(le b 4 4 == 0 && le b 8 2 != 0)),
   f 8 (decide (le b 8 2 ≤ 128))]

def geoChk (p : Src) (o : Nat) (b : List Byte) : List Chk :=
  p.fieldChk 4 o 0 (decide (le b 0 2 ≤ 8192)) :: (upTo 4).map (fun r => p.fieldChk 4 o (4 + 2 * r)
    (decide (le b (4 + 2 * r) 2 ≤ 4096) && (le b (4 + 2 * r) 2 == 0 || (p.bodies 8).any (fun c => le c 0 1 == r))))

def counts (p : Src) : Chk :=
  firstOf ([chk (decide (5 ≤ p.head 12 2) && decide (p.head 12 2 ≤ 10)) 0 12, chk (decide (p.head 34 4 ≤ 999999999)) 0 34]
    ++ p.sects.map (fun s => chk (decide (s.count ≤ maxCount s.typ) && ((s.typ != 1 && s.typ != 4) || s.count == 1)) s.idx (s.off + 8))
    ++ [p.each 1 p.clockChk, p.each 2 p.tileChk, p.each 3 p.queueChk, p.each 4 p.geoChk, p.each 5 p.groupChk,
        p.each 6 p.wireChk, p.ascending 6 2 (fun b => le b 0 1 * 65536 + le b 2 2), p.each 7 p.ruleChk,
        p.ascending 7 0 (fun b => le b 0 2), p.each 8 p.radioChk, p.each 9 p.ledChk, p.each 10 p.pinChk])

/-! ## 0x0D: reserved bytes and bits -/

/-- Reserved byte ranges of an item, and reserved bits: byte and mask. -/
def reserved (t : Nat) (b : List Byte) : List (Nat × Nat) × List (Nat × Nat) :=
  if t = 1 then ([(3, 1), (10, 22)], [(1, 0xFE)])
  else if t = 3 then ([(14, 2)], [(3, 0xFE)])
  else if t = 4 then ([(2, 2)], [])
  else if t = 5 then ([(20, 4), (40, 24)], [(1, 0xFE)])
  else if t = 6 then
    let k := le b 0 1
    if k = 1 then ([(6, 2), (13, 3)], [(1, 0xFC)]) else if k = 2 then ([(1, 1)], []) else if k = 3 then ([(1, 1), (13, 3)], [])
    else if k = 4 then ([(1, 1), (6, 10)], []) else if k = 5 then ([(15, 1)], [(1, 0xFC)]) else ([(1, 1)], [])
  else if t = 7 then ([(4 + 4 * le b 3 1, 4 * (4 - le b 3 1)), (29, 3)], [(5, 0x60), (9, 0x60), (13, 0x60), (17, 0x60), (25, 0xF0)])
  else if t = 8 then ([(7, 1), (28, 4)], [])
  else if t = 9 then ([(10, 6)], [])
  else if t = 10 then ([], [(3, 0xF8)])
  else ([], [])

def reservedChk (t sec o : Nat) (b : List Byte) : List Chk :=
  let r := reserved t b
  r.1.map (fun (e : Nat × Nat) => chk (allZero (cut b e.1 e.2)) sec (o + e.1))
    ++ r.2.map (fun (e : Nat × Nat) => chk ((le b e.1 1 &&& e.2) == 0) sec (o + e.1))

/-- The padding after a body's items, and between and after the images of the tile map (R34). -/
def padding (s : Sect) : Chk :=
  let n := s.count * itemSize s.typ
  let images := if s.typ = 2 then s.items.map (fun (i : Nat × List Byte) => (le i.2 4 4, le i.2 8 4)) else []
  match s.body.zipIdx.find? (fun (e : Byte × Nat) => e.1 != 0 && decide (n ≤ e.2)
      && !images.any (fun (m : Nat × Nat) => decide (m.1 ≤ e.2) && decide (e.2 < m.1 + m.2))) with
  | some e => some (s.idx, s.off + 16 + e.2)
  | none => none

def zeros (p : Src) : Chk :=
  firstOf ([chk (p.head 14 2 == 0) 0 14, chk (p.head 25 3 == 0) 0 25, chk (p.head 28 4 < 2) 0 28, chk (allZero (cut p.raw 92 36)) 0 92]
    ++ p.sects.flatMap (fun s => chk (s.resv == 0) s.idx (s.off + 3)
        :: (s.items.flatMap (fun (i : Nat × List Byte) => reservedChk s.typ s.idx i.1 i.2) ++ [padding s])))

/-! ## 0x0E to 0x11: tiles and engines -/

/-- Tiles next to each other (R19): rows of 16. -/
def nextTo (a b : Nat) : Bool :=
  (a / 16 == b / 16 && (a + 1 == b || b + 1 == a)) || a + 16 == b || b + 16 == a

/-- The tiles reached from those of `from_`, grown `n` times. -/
def reach (all : List Nat) : Nat → List Nat → List Nat
  | 0, l => l
  | n + 1, l => reach all n (all.filter (fun t => l.contains t || l.any (fun u => nextTo u t)))

def shapeOk (ts : List Nat) : Bool :=
  match ts with
  | [] => true
  | t :: _ => (reach ts ts.length [t]).length == ts.length && ts.any (fun u => decide (u < 16) || decide (176 ≤ u))

/-- The least tiles of an engine (R42). -/
def minTiles (p : Src) (e : Nat) : Nat :=
  if e = 1 then 16 + ceilDiv p.streams 256
  else if e = 2 then 4 + ceilDiv (p.items 7).length 128 + ceilDiv (p.wired 2).length 1024
  else if e = 3 then 8 + 6 * ceilDiv (p.wired 3).length 64
  else if e = 4 then 8 + ceilDiv (p.wired 4).length 512
  else if e = 5 then 8 + ceilDiv (p.lanterns.foldl (· + ·) 0) 1024
  else 8 + ceilDiv p.channels 8

def engines : List Nat := [1, 2, 3, 4, 5, 6]

/-- Where an engine's first tile is named. -/
def engineAt (p : Src) (e : Nat) : Nat :=
  match (p.items 2).find? (fun (i : Nat × List Byte) => le i.2 1 1 == e) with | some i => i.1 | none => p.at_ 2

def tileConflict (p : Src) : Chk :=
  p.each 2 (fun o b => [p.fieldChk 2 o 0 (((p.bodies 2).filter (fun c => le c 0 1 == le b 0 1)).length == 1)])
def tileShape (p : Src) : Chk := firstOf (engines.map (fun e => chk (shapeOk (p.tilesOf e)) (p.idx 2) (p.engineAt e)))
def tileBudget (p : Src) : Chk :=
  firstOf (engines.map (fun e => chk ((p.tilesOf e).isEmpty || decide (p.minTiles e ≤ (p.tilesOf e).length)) (p.idx 2) (p.engineAt e)))

/-- Engine of a wiring kind (R131). -/
def kindEngine (k : Nat) : Nat := if k = 3 then 3 else if k = 4 ∨ k = 5 then 4 else 2

/-- R43, R131. -/
def mismatch (p : Src) : Chk :=
  let e := p.hasEngine
  let sec (t : Nat) (ok : Bool) : Chk := chk (!p.has t || ok) (p.idx t) (p.at_ t)
  let eng (n : Nat) (ok : Bool) : Chk := chk (!e n || ok) (p.idx 2) (p.engineAt n)
  firstOf [eng 1 (p.has 5), eng 2 (p.has 6 && p.has 7), eng 3 (p.has 6), eng 4 (p.has 6), eng 5 (p.has 8 || p.has 9),
    eng 6 (p.channels != 0), chk (p.channels == 0 || e 6) (p.idx 1) (p.at_ 1 + 24), sec 5 (e 1),
    sec 6 (e 2 || e 3 || e 4), p.each 6 (fun o b => [p.fieldChk 6 o 0 (e (kindEngine (le b 0 1)))]), sec 7 (e 2), sec 8 (e 5), sec 9 (e 5)]

/-! ## 0x12 to 0x14: queues -/

/-- The queue paths of R17 and their producers' largest units (R45). The weaves' units for the engines are DESIGN CHOICES
where no chapter states them, and so are the Journeyman's 1,152 bytes, the figure of the Crier. -/
def paths : List (Nat × Nat × Nat) :=
  [(0xF1, 0x05, 9018), (0xF1, 0xF0, 9018), (0xF1, 0x09, 9018), (0xF1, 0x08, 9018), (0xF1, 0x17, 9018), (0x08, 0xF1, 1152),
   (0x17, 0xF1, 1152), (0x05, 0x06, 4096), (0x09, 0x06, 352), (0x09, 0x0E, 2080), (0x06, 0x07, 16), (0x06, 0xF1, 9018),
   (0x07, 0x08, 64), (0x08, 0x0A, 1040), (0x0A, 0x0B, 64), (0x0A, 0x0D, 64), (0x0B, 0x0A, 32), (0x0B, 0xF0, 544),
   (0x0C, 0x0B, 832), (0x0B, 0x0C, 182)]

/-- Whether a producer or consumer is present (R461). -/
def there (p : Src) (b : Nat) : Bool :=
  if b = 0xF0 ∨ b = 0xF1 then true
  else if b = 0x06 then p.hasEngine 1
  else if b = 0x07 then p.hasEngine 2 || p.hasEngine 3 || p.hasEngine 4
  else if b = 0x0A then p.hasEngine 5
  else if b = 0x09 ∨ b = 0x0E then p.hasEngine 6
  else if b = 0x05 then p.streams != 0
  else if b = 0x0B ∨ b = 0x0C then p.has 8
  else if b = 0x0D then p.has 9
  else !(p.items 2).isEmpty

def samePath (i : List Byte) (e : Nat × Nat × Nat) : Bool := le i 1 1 == e.1 && le i 2 1 == e.2.1

def queuePath (p : Src) : Chk :=
  let wanted := paths.filter (fun (e : Nat × Nat × Nat) => p.there e.1 && p.there e.2.1)
  firstOf [p.each 3 (fun o b =>
      [p.fieldChk 3 o 0 (((p.bodies 3).filter (fun c => le c 0 1 == le b 0 1)).length == 1),
       p.fieldChk 3 o 1 (wanted.any (fun (e : Nat × Nat × Nat) => samePath b e)
         && ((p.bodies 3).filter (fun c => le c 1 2 == le b 1 2)).length == 1)]),
    chk (wanted.all (fun (e : Nat × Nat × Nat) => (p.bodies 3).any (fun b => samePath b e))) (p.idx 3) (p.at_ 3)]

def queueSize (p : Src) : Chk :=
  p.each 3 (fun o b =>
    let unit := match paths.find? (fun (e : Nat × Nat × Nat) => samePath b e) with | some e => e.2.2 | none => 0
    [p.fieldChk 3 o 4 (decide (8192 ≤ le b 4 4) && decide (2 * le b 8 4 + 64 ≤ le b 4 4)), p.fieldChk 3 o 8 (decide (unit ≤ le b 8 4))])

def queuePool (p : Src) : Chk :=
  chk (decide (((p.bodies 3).map (fun b => le b 4 4)).foldl (· + ·) 0 ≤ 8388608)) (p.idx 3) (p.at_ 3)

/-! ## 0x15 to 0x17 -/

def stampMode (p : Src) : Chk := chk ((p.head 28 4 == 1) == decide (4096 < p.streams)) 0 28

/-- A region: where its base is named, base and bytes. -/
def overlap (a b : Nat × Nat) : Bool := a.2 != 0 && b.2 != 0 && decide (a.1 < b.1 + b.2) && decide (b.1 < a.1 + a.2)

def disjoint : List (Nat × Nat) → Bool
  | [] => true
  | a :: t => t.all (fun (b : Nat × Nat) => !overlap a b) && disjoint t

/-- R39, R47, and the rings of R108 inside the alignment buffer region. Every base is a multiple of 4 KiB in DRAM, that of an
empty region too. A size 0 beside groups answers this code as well (DESIGN CHOICE: R57 names no cause for it). -/
def geometry (p : Src) : Chk :=
  let g := p.geo
  let o := p.at_ 4 + 16
  let regions := [(le g 16 8, 256 * p.streams), (le g 24 8, 128 * p.lanterns.foldl (· + ·) 0), (le g 32 8, le g 40 8)]
  let rings := (p.bodies 5).flatMap (fun b => [(gRing b, gDepth b * gSlotBytes b), (gLateOff b, gLate b * (32 + gWidth b))])
  firstOf ((upTo 3).map (fun k =>
      let r := regions.getD k (0, 0)
      chk (r.1 % 4096 == 0 && inDram r.1 (max 1 r.2)) (p.idx 4) (o + 16 + 8 * k))
    ++ [chk (disjoint regions) (p.idx 4) (o + 16), chk (!p.has 5 || le g 40 8 != 0) (p.idx 4) (o + 40),
        chk (rings.all (fun (r : Nat × Nat) => r.2 == 0 || decide (r.1 + r.2 ≤ le g 40 8)) && disjoint rings) (p.idx 5) (p.at_ 5)])

def pins (p : Src) : Chk :=
  p.each 10 (fun o b => [p.fieldChk 10 o 0 (((p.bodies 10).filter (fun c => le c 0 2 == le b 0 2)).length == 1),
    p.fieldChk 10 o 3 (le b 3 1 % 4 != 3)])

/-! ## The pattern -/

def optional (p : Src) (t : Nat) : Option (List (List Byte)) := if p.has t then some (p.bodies t) else none

/-- The pattern the source spells. -/
def pattern (p : Src) : Pattern :=
  let img (b : List Byte) : List Byte := match p.sect 2 with | some s => cut s.body (le b 4 4) (le b 8 4) | none => []
  { factory := false, serial := p.head 16 4, compact := tst (p.head 28 4) 0, domains := le p.clock 0 2, tbSources := le p.clock 2 1,
    smpRate := le p.clock 4 4, smpChannels := p.channels,
    tiles := (p.bodies 2).map (fun b => ⟨le b 0 1, le b 1 1, le b 2 2, img b⟩),
    queues := (p.bodies 3).map (fun b => ⟨le b 0 1, le b 1 1, le b 2 1, tst (le b 3 1) 0, le b 4 4, le b 8 4, le b 12 2⟩),
    streamEntries := p.streams, lanterns := p.lanterns, c37Udp := le p.geo 12 2, c37Tcp := le p.geo 14 2,
    streamBase := le p.geo 16 8, lanternBase := le p.geo 24 8, alignBase := le p.geo 32 8, alignSize := le p.geo 40 8,
    groups := p.optional 5, wiring := p.optional 6, rules := p.optional 7, radios := p.optional 8, leds := p.optional 9,
    pins := (p.bodies 10).map (fun b => ⟨le b 0 2, le b 2 1, le b 3 1⟩), raw := p.raw }

end Src

namespace W

/-- The silicon issue, as PAT_IDENT reads (R14). -/
def patIssue : Fld := ⟨0x4001FFFC, 0, 8⟩

/-- The keys a pattern may be signed under (R41): SEC 1 public keys. -/
def signers (w : W) : List (List Byte) :=
  (w.key.slots.filterMap (fun (e : Nat × KeySlot) => w.keyFor e.1 3)) ++ [(upTo 97).map Config.factoryKey]

/-- The source as bytes, its sections walked. -/
def source (w : W) (addr len : Nat) : Src :=
  let raw := w.rdBytes addr (min len 0x1000000)
  let total := le raw 8 4
  let r := patWalk raw (min total raw.length - 96) (le raw 12 2) 1 128
  ⟨raw, total, r.1, r.2.1, r.2.2⟩

/-- What VERIFY finds (R48, R57): the first failure in the order of the codes, or the pattern. `len` is the length the
command gives, `larder` stands for the check of an accepted slot at start-up (R58), `min_` the least serial accepted. -/
def verdict (w : W) (larder : Bool) (addr len min_ : Nat) (src : Src) : Verdict :=
  let bad (code : Nat) (c : Chk) (rest : Unit → Verdict) : Verdict :=
    match c with | some f => .bad code f.1 f.2 | none => rest ()
  bad 0x01 (chk (addr % 4096 == 0 && (if larder then inLarder addr len else inRam addr len)) 0 0) fun _ =>
  bad 0x02 (chk (src.head 0 4 == 0x5441505A) 0 0) fun _ =>
  bad 0x03 src.versions fun _ =>
  bad 0x04 (src.lengths len) fun _ =>
  match w.signers.find? (fun k => sha384 k == cut src.raw 44 48) with
  | none => .bad 0x05 0 44
  | some k =>
    bad 0x06 (chk (ecdsaOk k (sha384 (src.raw.take (src.total - 96))) (cut src.raw (src.total - 96) 96)) 0 (src.total - 96)) fun _ =>
    bad 0x07 (chk (decide (min_ ≤ src.head 16 4)) 0 16) fun _ =>
    bad 0x08 (chk (decide (src.head 24 1 ≤ w.get patIssue)) 0 24) fun _ =>
    bad 0x09 src.order fun _ =>
    bad 0x0A src.crcs fun _ =>
    bad 0x0B src.required fun _ =>
    bad 0x0C src.counts fun _ =>
    bad 0x0D src.zeros fun _ =>
    bad 0x0E src.tileConflict fun _ =>
    bad 0x0F src.tileShape fun _ =>
    bad 0x10 src.tileBudget fun _ =>
    bad 0x11 src.mismatch fun _ =>
    bad 0x12 src.queuePath fun _ =>
    bad 0x13 src.queueSize fun _ =>
    bad 0x14 src.queuePool fun _ =>
    bad 0x15 src.stampMode fun _ =>
    bad 0x16 src.geometry fun _ =>
    bad 0x17 src.pins fun _ =>
    .ok src.pattern

end W

end Sys2Proof.Machine
end

