-- ==== Sys2Proof/Machine/Queues.lean ====
section
/-! DEFINITION. Cooper's commands (R342 to R347). -/

namespace Sys2Proof.Machine

namespace W

/-- QUE_CMD's result reported: done, with a code. -/
def queDone (w : W) (result : Nat) : W :=
  ((w.set QUE_CMD_STATUS_busy 0).set QUE_CMD_STATUS_done 1).set QUE_CMD_STATUS_result result

/-- A queue reset (R343): pointers to 0, units dropped and counted, the unit being read aborted, the producer's
current unit discarded, the flags, the count and the record. -/
def resetQ (w : W) (i : QItem) : W :=
  let q := i.queue
  let s := w.qState q
  let n := s.units.length
  let s' : QState := { QState.empty with
    discard := s.part.isSome, headAborted := decide (0 < s.rpos), last := s.last, held := s.held }
  let w := (w.qStore i s').set (QUE_Q_STAT_ptr_reset q) 1
  let w := (w.bump (QUE_Q_DROP_v q) n).bump QUE_RESET_CNT_v 1
  let w := w.tallyN 0xC9 n
  let w := w.ev QUE_EVENT_ptr_reset q
  let w := (w.record 0x060 0x12 q n 0 0).queFreed
  match s.flush with
  | some _ => (w.queDone 0).ev QUE_EVENT_flushed q
  | none => w

/-- A flush at a packet boundary (R345): the units held are dropped and counted, all but one the consumer has begun. -/
def flushQ (w : W) (i : QItem) : W :=
  let q := i.queue
  let s := w.qState q
  let keep := if 0 < s.rpos then s.units.take 1 else []
  let n := s.units.length - keep.length
  let end_ := (keep.map (fun u => unitSize u.len)).sum
  let w := w.qStore i { s with units := keep, flush := none, wp := (s.rp + end_) % i.size, wp2 := (s.rp2 + end_) % i.size }
  ((((w.bump (QUE_Q_DROP_v q) n).tallyN 0xC9 n).queFreed).queDone 0).ev QUE_EVENT_flushed q

/-- The producer is between units. -/
def atBoundary (s : QState) : Bool := s.part.isNone && !s.discard

/-- A flush of another queue is still running. -/
def queBusy (w : W) (s : QState) : Bool := w.bit QUE_CMD_STATUS_busy && s.flush.isNone

/-- QUE_CMD FLUSH (R345): at once where the producer is between units, otherwise at its next boundary; a second FLUSH
merges with the first (R347). -/
def cmdFlush (w : W) (q : Nat) : W :=
  match w.qItem q with
  | none => if w.bit QUE_CMD_STATUS_busy then w.set QUE_CMD_STATUS_result 2 else w.queDone 1
  | some i =>
    let s := w.qState q
    if w.queBusy s then w.set QUE_CMD_STATUS_result 2
    else if atBoundary s then w.flushQ i
    else match s.flush with
      | some _ => w
      | none =>
        ((w.qStore i { s with flush := some w.tb.up }).set QUE_CMD_STATUS_busy 1).set QUE_CMD_STATUS_done 0

/-- QUE_CMD RESET (R343); a reset during a flush of its queue wins (R347). -/
def cmdReset (w : W) (q : Nat) : W :=
  match w.qItem q with
  | none => if w.bit QUE_CMD_STATUS_busy then w.set QUE_CMD_STATUS_result 2 else w.queDone 1
  | some i => if w.queBusy (w.qState q) then w.set QUE_CMD_STATUS_result 2 else (w.queDone 0).resetQ i

/-- Bytes of a unit written by the lanes into queue `i`: those past max_unit are discarded and too_long is set (R346). -/
def lanePart (w : W) (i : QItem) (b : List Byte) : W :=
  let s := w.qState i.queue
  let p := (s.part.getD []) ++ b
  if i.maxUnit < p.length then
    let w := w.qStore i { s with part := some (p.take i.maxUnit), overrun := true }
    (w.set (QUE_Q_STAT_too_long i.queue) 1).ev QUE_EVENT_too_long i.queue
  else w.qStore i { s with part := some p }

/-- The lanes' unit ended (R346): it becomes visible, aborted where it was too long. -/
def laneEnd (w : W) (i : QItem) : W :=
  let s := w.qState i.queue
  let p := s.part.getD []
  let u : QUnit := ⟨.bytes p, p.length, s.overrun⟩
  let n := unitSize p.length
  (w.qStore i { s with units := s.units ++ [u], part := none, overrun := false, wp := (s.wp + n) % i.size,
                       wp2 := (s.wp2 + n) % i.size }).tally 0xC8

/-- Whether the unit being written may grow by `n` bytes: the bytes past max_unit take no space. -/
def canGrow (s : QState) (i : QItem) (n : Nat) : Bool :=
  let p := (s.part.getD []).length
  let fill := qFill { s with part := none }
  decide (fill + unitSize (min i.maxUnit (p + n)) ≤ i.size)

/-- A lane store of QUE_Q_WDATA or QUE_Q_WEND carried out. -/
def laneStore (w : W) (i : QItem) (h : HeldStore) : W :=
  let s := w.qState i.queue
  let w := w.qStore i { s with held := none }
  let b := leBytes h.count h.word.toNat
  let w :=
    if s.discard then
      if h.ends then w.qStore i { s with held := none, discard := false } else w
    else
      let w := w.lanePart i b
      if h.ends then w.laneEnd i else w
  match h.ends, (w.qState i.queue).flush with
  | true, some _ => w.flushQ i
  | _, _ => w

/-- A lane store to a queue: an access fault where the lanes are not its producer (R347), held where the queue is full
(R346). -/
def laneWrite (w : W) (q : Nat) (ends : Bool) (v : W32) : W :=
  match w.qItem q with
  | none => w.answer 0
  | some i =>
    if i.producer != 0xF0 then w.accessFault
    else
      let n := if ends then (let c := w.get (QUE_Q_WEND_CNT_bytes q); if c = 0 ∨ 4 < c then 4 else c) else 4
      let h : HeldStore := ⟨ends, v, n⟩
      let s := w.qState q
      if s.discard || canGrow s i n then (w.laneStore i h).answer 0
      else w.qStore i { s with held := some h }

/-- A lane load of QUE_Q_RDATA (R346): the next 4 bytes of the head unit; an empty queue returns the last value read
and sets underrun. -/
def laneRead (w : W) (q : Nat) : W :=
  match w.qItem q with
  | none => w.answer 0
  | some i =>
    if i.consumer != 0xF0 then w.answer 0
    else
      let s := w.qState q
      match s.units with
      | [] =>
        let w := (w.set (QUE_Q_STAT_underrun q) 1).ev QUE_EVENT_underrun q
        w.answer s.last.toNat
      | u :: t =>
        let b := match u.body with | .bytes b => b | _ => []
        let v := leNat (cut b s.rpos 4)
        let pos := s.rpos + 4
        let s := { s with last := BitVec.ofNat 32 v }
        if u.len ≤ pos then
          let n := unitSize u.len
          ((w.qStore i { s with units := t, rpos := 0, headAborted := false, rp := (s.rp + n) % i.size,
                                rp2 := (s.rp2 + n) % i.size }).queFreed).answer v
        else (w.qStore i { s with rpos := pos }).answer v

end W

/-- QUEUE_FLUSH: FLUSH of queue q, at once where the producer is between units (R345). -/
def execQueueFlush (q : Nat) (s : State) : Host.Outcome State Fault Refusal :=
  runL (wfQueueFlush q) "QUEUE_FLUSH" (fun w => w.cmdFlush q) s

/-- FLUSH_BOUNDARY: the producer reaches a boundary and a waiting flush is done (R345). -/
def execFlushBoundary (q : Nat) (s : State) : Host.Outcome State Fault Refusal :=
  run (wfFlushBoundary q) "FLUSH_BOUNDARY" (fun w =>
    match w.qItem q, (w.qState q).flush with
    | some i, some _ => if W.atBoundary (w.qState q) then w.flushQ i else w
    | _, _ => w) s

/-- FLUSH_TIMEOUT: with no boundary within 1 ms the flush acts as a reset (R345). -/
def execFlushTimeout (q t : Nat) (s : State) : Host.Outcome State Fault Refusal :=
  run (wfFlushTimeout q) "FLUSH_TIMEOUT" (fun w =>
    let w := w.at_ t
    match w.qItem q, (w.qState q).flush with
    | some i, some u => if u + 1000000 ≤ w.tb.up then w.resetQ i else w
    | _, _ => w) s

/-- QUEUE_RESET: RESET of queue q (R343). -/
def execQueueReset (q : Nat) (s : State) : Host.Outcome State Fault Refusal :=
  runL (wfQueueReset q) "QUEUE_RESET" (fun w => w.cmdReset q) s

/-- PTR_MISMATCH: the pointer copies of a queue disagree and it resets (R343). -/
def execPtrMismatch (q : Nat) (s : State) : Host.Outcome State Fault Refusal :=
  run (wfPtrMismatch q) "PTR_MISMATCH" (fun w =>
    match w.qItem q with
    | some i => if w.mainOn then w.resetQ i else w
    | none => w) s

/-- QUEUE_WDATA (R346). -/
def execQueueWdata (q : Nat) (v : W32) (s : State) : Host.Outcome State Fault Refusal :=
  runL (wfQueueWdata q) "QUEUE_WDATA" (fun w => w.laneWrite q false v) s

/-- QUEUE_WEND (R346). -/
def execQueueWend (q : Nat) (v : W32) (s : State) : Host.Outcome State Fault Refusal :=
  runL (wfQueueWend q) "QUEUE_WEND" (fun w => w.laneWrite q true v) s

/-- QUEUE_RDATA (R346). -/
def execQueueRdata (q : Nat) (s : State) : Host.Outcome State Fault Refusal :=
  runL (wfQueueRdata q) "QUEUE_RDATA" (fun w => w.laneRead q) s

/-- QUEUE_HWM_READ: the fill high-water mark is returned and cleared (R342). -/
def execQueueHwmRead (q : Nat) (s : State) : Host.Outcome State Fault Refusal :=
  runL (wfQueueHwmRead q) "QUEUE_HWM_READ" (fun w =>
    (w.answer (w.get (QUE_Q_HWM_v q))).set (QUE_Q_HWM_v q) 0) s

/-- QUEUE_SPACE: the store held at a full queue completes once it fits (R346). -/
def execQueueSpace (q : Nat) (s : State) : Host.Outcome State Fault Refusal :=
  run (wfQueueSpace q) "QUEUE_SPACE" (fun w =>
    match w.qItem q, (w.qState q).held with
    | some i, some h => if (w.qState q).discard || W.canGrow (w.qState q) i h.count then (w.laneStore i h).answer 0 else w
    | _, _ => w) s

end Sys2Proof.Machine
end

