-- ==== Sys2Proof/Machine/PatOps.lean ====
section
/-! DEFINITION. A pattern put in force: what a barrier, a revert or a load at start-up changes in every block (R51, R53,
R58). -/

namespace Sys2Proof.Machine.W

def setPat (w : W) (x : PatState) : W := { w with pat := x }

/-! ## What shows the active pattern -/

/-- Registers that describe the active pattern: PAT_STATUS, PAT_ACTIVE_SERIAL, PAT_MEASURE and the blocks' status. -/
def showPattern (w : W) : W :=
  let p := w.pat.active
  let w := (w.setB PAT_STATUS_factory p.factory).setB PAT_STATUS_compact p.compact
  let w := w.set PAT_ACTIVE_SERIAL_v p.serial
  let w := w.setWords PAT_MEASURE_v (if p.factory then (upTo 48).map Config.factoryDigest else sha384 p.raw)
  let w := w.set ING_STATUS_entries p.streamEntries
  let w := (w.set ALN_STATUS_groups (p.groups.getD []).length).setB ALN_STATUS_compact p.compact
  let w := (w.setB GAN_STATUS_mon_present (p.hasEngine 2)).setB GAN_STATUS_tun_present (p.hasEngine 3)
  let w := (w.setB GAN_STATUS_svy_present (p.hasEngine 4)).set GAN_STATUS_rules (p.rules.getD []).length
  (w.set QUE_STATUS_queues p.queues.length).showSmp.showRad

/-- A queue's registers of its item (QUE_Q_INFO, QUE_Q_SIZE); none: the registers read 0. -/
def showQueue (w : W) (q : Nat) (i : Option QItem) : W :=
  let v (f : QItem → Nat) : Nat := match i with | some x => f x | none => 0
  let w := (w.set (QUE_Q_INFO_producer q) (v (·.producer))).set (QUE_Q_INFO_consumer q) (v (·.consumer))
  let w := (w.set (QUE_Q_INFO_cut_through q) (v (fun x => bitNat x.cutThrough))).set (QUE_Q_INFO_present q) (v (fun _ => 1))
  w.set (QUE_Q_SIZE_v q) (v (·.size))

/-- What a flush at the barrier keeps of a queue (R53, R345): the unit its consumer has begun, where a queue of that number
between the same two stays. -/
def barrierKeeps (w : W) (i : QItem) : QState :=
  let s := w.qState i.queue
  if 0 < s.rpos ∧ w.pat.active.queues.any (fun j => j.queue == i.queue && j.producer == i.producer && j.consumer == i.consumer)
  then
    let n := ((s.units.take 1).map (fun u => unitSize u.len)).sum
    { QState.empty with units := s.units.take 1, rpos := s.rpos, last := s.last, wp := n, wp2 := n }
  else QState.empty

/-- Queues whose item changed or which are removed are flushed: their units dropped and counted (R53). Every producer is a
block or an engine, which writes whole units, so that the barrier is a packet boundary. -/
def swapQueues (w : W) (old : Pattern) : W :=
  let new := w.pat.active
  let gone := old.queues.filter (fun i => !new.queues.contains i)
  let kept := gone.map (fun i => (i.queue, w.barrierKeeps i))
  let w := gone.foldl (fun (w : W) (i : QItem) =>
    let n := (w.qState i.queue).units.length - ((tblGet kept i.queue).getD QState.empty).units.length
    let w : W := { w with que := tblDel i.queue w.que }
    let w := ((w.bump (QUE_Q_DROP_v i.queue) n).tallyN 0xC9 n).showQueue i.queue none
    let w := (w.set (QUE_Q_FREE_v i.queue) 0).set (QUE_Q_HWM_v i.queue) 0
    let w := { w with regs := w.regs.wr (QUE_Q_STAT_units i.queue).addr 0 }
    { w with regs := w.regs.wr (QUE_Q_RHEAD_len i.queue).addr 0 }) w
  (new.queues.filter (fun i => !old.queues.contains i)).foldl (fun (w : W) (i : QItem) =>
    (w.showQueue i.queue (some i)).qStore i ((tblGet kept i.queue).getD QState.empty)) w

/-! ## Barriers (R53) -/

def sameTiles (a b : Pattern) (e : Nat) : Bool :=
  a.tiles.filter (fun t => t.engine == e) == b.tiles.filter (fun t => t.engine == e)

/-- The table geometry item is the same (R98, R253). -/
def sameGeometry (a b : Pattern) : Bool :=
  a.streamEntries == b.streamEntries && a.lanterns == b.lanterns && a.c37Udp == b.c37Udp && a.c37Tcp == b.c37Tcp
    && a.streamBase == b.streamBase && a.lanternBase == b.lanternBase && a.alignBase == b.alignBase && a.alignSize == b.alignSize

def sameGroup (a b : Pattern) (i : List Byte) : Bool :=
  (b.groups.getD []).contains i && a.alignBase == b.alignBase && a.alignSize == b.alignSize

/-- Sets open in groups whose item changes close as expired, and the groups end (R53). -/
def closeChanged (w : W) (new : Pattern) : W :=
  let old := w.pat.active
  (w.alnItems.filter (fun i => !sameGroup old new i)).foldl (fun (w : W) i =>
    let w := w.closeAll i 2
    { w with aln := { w.aln with groups := tblDel (gNum i) w.aln.groups } }) w

/-- Groups of the new pattern whose item changed start over with its window, the late ring with both its indexes at 0
(DESIGN CHOICE: the spec names the ring and the history); a changed stamp mode owes every group a marker (R53, R116,
R117). -/
def openChanged (w : W) (old : Pattern) : W :=
  let new := w.pat.active
  let w := (w.alnItems.filter (fun i => !sameGroup old new i)).foldl (fun (w : W) i =>
    let g := gNum i
    let w := ((w.set (ALN_GRP_WIN_window_ms g) (gWindow i)).set (ALN_GRP_WIDX_slot g) 0).set (ALN_GRP_SEQ_v g) 0
    let w := (w.set (ALN_GRP_P999_k_ms g) 0).set (ALN_GRP_P999_samples g) 0
    let w := (w.set (ALN_GRP_LATE_WIDX_index g) 0).set (ALN_GRP_LATE_RIDX_index g) 0
    (w.setGroup g (emptyGroup i)).showGroup i) w
  let w := if old.compact = new.compact then w
    else w.alnItems.foldl (fun (w : W) i => w.setGroup (gNum i) { w.alnGroup i with mode := true }) w
  if new.groups.isSome then w.alnRefresh.alnRunAll else w

/-- Whether an analytics item is the same in both patterns. -/
def sameItem (old new : List (List Byte)) (kind num : Nat) : Bool :=
  let f (l : List (List Byte)) : Option (List Byte) := l.find? (fun b => le b 0 1 == kind && le b 2 2 == num)
  f old == f new

/-- Grid analytics over a barrier (R154, R155): engines whose tiles changed restart, changed items restart, rules whose
item changed start in IDLE with the item's enable. Which of an engine's items lie in which of its tiles the spec does not
say: one changed tile restarts the engine, as R155 has it (DEDUCED). -/
def swapGan (w : W) (old : Pattern) : W :=
  let new := w.pat.active
  let o := old.wiring.getD []
  let n := new.wiring.getD []
  let same (key : Nat) : Bool := sameItem o n (key / 65536) (key % 65536)
  let mon (key : Nat) : Bool := same key && sameTiles old new 2
  let g := w.gan
  let kept3 (k : Nat) : Bool := new.hasEngine 3 && sameItem o n 3 k && sameTiles old new 3
  let restarts := (g.tuns.map (fun (e : Nat × GanTun) => e.1)).filter (fun k =>
    !kept3 k && n.any (fun b => le b 0 1 == 3 && le b 2 2 == k))
  let svyKept := sameTiles old new 4
  let node (k : Nat) : Bool := sameItem o n 4 k
  let edges := g.svy.edges.filter (fun (e : Nat × GanEdge) => sameItem o n 5 e.1)
  let oldR := old.rules.getD []
  let newR := new.rules.getD []
  let ruleSame (k : Nat) : Bool := oldR.find? (fun b => le b 0 2 == k) == newR.find? (fun b => le b 0 2 == k)
  let w : W := { w with gan := { g with
    mons := g.mons.filter (fun (e : Nat × GanMon) => mon e.1)
    tuns := g.tuns.filter (fun (e : Nat × GanTun) => kept3 e.1)
    svy := if svyKept then { g.svy with
        freq := g.svy.freq.filter (fun (e : Nat × (W32 × Nat)) => node e.1), edges := edges
        labels := g.svy.labels.filter (fun (e : Nat × Nat) => node e.1)
        stale := g.svy.stale.filter node, sep := g.svy.sep.filter node }
      else GanSvy.empty
    rules := g.rules.filter (fun (e : Nat × GanRule) => ruleSame e.1 && sameTiles old new 2)
    params := g.params.filter (fun (e : Nat × List Byte) => same e.1) } }
  let w := if svyKept then w else w.showSvy
  let w := if restarts.isEmpty then w else w.ev GAN_EVENT_tun_restart 0
  let changed := newR.filter (fun b => !(ruleSame (le b 0 2)))
  let w := changed.foldl (fun (w : W) b =>
    w.setB ⟨(GAN_RULE_EN_v (le b 0 2 / 32)).addr, le b 0 2 % 32, 1⟩ (rFlag b 0)) w
  let w := (oldR.filter (fun b => !(newR.any (fun c => le c 0 2 == le b 0 2)))).foldl (fun (w : W) b =>
    w.setB ⟨(GAN_RULE_EN_v (le b 0 2 / 32)).addr, le b 0 2 % 32, 1⟩ false) w
  (upTo 32).foldl (fun (w : W) k => w.set (GAN_RULE_ACTIVE_v k) (w.ruleBits k GanRule.stands)) w

/-- The Sieve over a barrier (R196). -/
def swapSmp (w : W) (old : Pattern) : W :=
  let new := w.pat.active
  if sameTiles old new 6 && old.smpRate == new.smpRate then w.smpRefresh
  else
    let w := w.smpChans.foldl (fun (w : W) c =>
      let x := w.chan c
      if x.state = 0 then w else w.setChan c { x.fresh.settle with env := 0, ivPeak := 0 }) w
    (w.setSmp { w.smp with convs := [], sv := [], restart := w.ns }).smpRefresh

/-- The tables over a barrier: both caches are invalidated whole, and a changed geometry empties heads, map and lantern
entries (R53, R98, R253). Dirty state halves reach DRAM first (DEDUCED). -/
def swapTables (w : W) (old : Pattern) : W :=
  let new := w.pat.active
  if sameGeometry old new then w
  else
    let w := (upTo new.streamEntries).foldl (fun (w : W) i => w.wr8 (new.streamBase + 256 * i + 192) 0) w
    let w : W := { w with ing := { w.ing with map := [], cache := [], heads := [] } }
    ((w.set ING_STATUS_cache_used 0).showSilent).emptyTable

def flushCaches (w : W) : W :=
  let w := w.ing.cache.foldl (fun (w : W) (e : Nat × CacheLine) => w.dropLine e.1) w
  w.rad.cache.foldl (fun (w : W) (e : Nat × CacheLine) => w.lanDrop e.1) w

/-- Radios, Pedlar, Chandler and Lamplighter over a barrier (R222, R255, R272, R291). -/
def swapField (w : W) (old : Pattern) : W :=
  let new := w.pat.active
  let radio (p : Pattern) (r : Nat) : Option (List Byte) := (p.radios.getD []).find? (fun b => le b 0 1 == r)
  let led (p : Pattern) (k : Nat) : Option (List Byte) := (p.leds.getD []).find? (fun b => le b 0 1 == k)
  let w := (upTo 4).foldl (fun (w : W) r =>
    let w := if radio old r == radio new r then w else w.setRadio r { w.radio r with running := false, serving := false, fired := none }
    if (radio new r).isNone && (radio old r).isSome then w.fltLose r else w) w
  let w := (upTo 20).foldl (fun (w : W) k => if led old k == led new k then w else w.ledChanged k) w
  let w := if old.leds == new.leds then w else w.ledServe
  if sameTiles old new 5 then w else w.setLmp { w.lmp with tracks := [], pres := [], mem := [] } |>.showTracks

/-- The active pattern's list of discipline sources put in force: a phase source that goes out of use is lost (R62, R67). -/
def swapSources (w : W) : W :=
  let phase := w.phaseSrc
  let w : W := { w with tb := { w.tb with list := w.pat.active.tbSources } }
  let w := if phase = w.phaseSrc ∨ phase = 0 then w else w.toHoldover
  (w.judge).showQuality

/-- Frames and notices that waited for room, or for CLK_NET, after the queues have changed. -/
def afterSwap (w : W) : W :=
  let w := if w.gated 0x18 then w
    else [0x06, 0x08, 0x17].foldl (fun (w : W) p =>
      match w.pat.active.path p 0xF1 with
      | some q => netDrain p (w.qState q.queue).units.length w
      | none => w) w
  w.queFreed

/-- A pattern takes effect on every block at once (R51, R53). -/
def applyPattern (w : W) (new : Pattern) : W :=
  let old := w.pat.active
  let w := (w.closeChanged new).flushCaches
  let w := w.setPat { w.pat with active := new }
  let w := w.swapQueues old
  let w := w.swapTables old
  let w := w.swapGan old
  let w := w.openChanged old
  let w := w.swapSmp old
  let w := w.swapField old
  let w := if w.tb.list = new.tbSources then w else w.swapSources
  (w.afterSwap).showPattern

/-! ## The loader's state machine (R56) -/

def patState (w : W) : Nat := w.get PAT_STATUS_state
def setPatState (w : W) (st : Nat) : W := w.set PAT_STATUS_state st
def patErr (w : W) (code : Nat) : W := w.set PAT_STATUS_error code

/-- An event of PAT with its record (R404). -/
def patEv (w : W) (f : Fld) : W := (w.ev f 0).record 0x040 1 f.lo w.pat.active.serial 0 0

/-- The barrier itself: banks swap and the hold begins (R53, R56). -/
def patSwitch (w : W) : W :=
  match w.pat.inactive with
  | none => w
  | some p =>
    let old := w.pat.active
    let w := w.applyPattern p
    (w.setPat { w.pat with inactive := some old, trialFrom := w.tb.up }).setPatState 4

/-- The barrier instant judged (R31, R56): reached in SERVING it switches, in any other state it is deferred. -/
def patBarrier (w : W) : W :=
  if w.patState = 3 ∧ w.pat.barrier ≤ w.ns then
    if w.op == .serving then w.patSwitch
    else if w.bit PAT_EVENT_load_deferred then w else w.patEv PAT_EVENT_load_deferred
  else w

/-- An armed load is discarded on entry to STOPPED (R31, R56). -/
def loadDiscard (w : W) : W :=
  if w.patState = 3 then
    ((w.setPat { w.pat with inactive := none }).setPatState 0).patEv PAT_EVENT_load_discarded
  else w

/-- The previous pattern comes back (R54). -/
def patRevert (w : W) : W :=
  match w.pat.inactive with
  | none => w
  | some p =>
    let w := w.applyPattern p
    ((w.setPat { w.pat with inactive := none }).setPatState 0).patEv PAT_EVENT_reverted

/-- The accepted slot's address in the Larder window, and the other slot's (R55). -/
def slotAddr (n : Nat) : Nat := 0x22000000 + 0x1000000 * n

end Sys2Proof.Machine.W
end

