-- ==== Sys2Proof/Machine/PtnOps.lean ====
section
/-! DEFINITION. Partner messages and the pairing state (R422 to R425): what other blocks need of the Journeyman. -/

namespace Sys2Proof.Machine.W

def setPtn (w : W) (x : PtnState) : W := { w with ptn := x }

/-- The partner's key: PTN_CFG.key_slot's, used as PARTNER (R422). -/
def ptnKey (w : W) : Option (List Byte) := w.keyFor (w.get PTN_CFG_key_slot) 2

/-- The partner's address and MAC in the system table. -/
def ptnIp (w : W) : Nat := be (w.sysEntry w.me) (if w.bit PTN_CFG_side then 0 else 4) 4
def ptnMac (w : W) : Nat := be (w.sysEntry w.me) (if w.bit PTN_CFG_side then 8 else 14) 6

/-- PTN_STATUS.term and PTN_TAKE, as the Larder keeps them. -/
def showPtn (w : W) : W :=
  let w := w.set PTN_STATUS_term w.ptn.term
  match w.ptn.take with
  | some t => ((w.set PTN_TAKE_NS_v (t % 1000000000)).set PTN_TAKE_SEC_LO_v (t / 1000000000 % 2 ^ 32)).set PTN_TAKE_SEC_HI_v
      (t / 1000000000 / 2 ^ 32)
  | none => w

/-- One copy of a partner message, on the pair link or through the host port. -/
def ptnCopy (w : W) (key : List Byte) (link : Bool) (kind : Nat) (payload : List Byte) : W :=
  let n := (w.cry.seq + 1) % 2 ^ 32
  let w := w.setCry { w.cry with seq := n }
  let b := brdBytes
    { kind := kind, flags := 0, hops := 0, len := payload.length, sys := w.get CRY_BRD_SYSID_system_id, origin := w.me
      sender := w.me, epoch := w.get CRY_BRD_SYSID_epoch, seq := n, op := 0, t := 0, fan := w.sysF
      depth := treeDepth w.sysN w.sysF, size := w.sysN, arg := 0 } ++ payload
  let port := w.get CRY_BRD_CFG_udp_port
  let tci := le (w.sysEntry w.me) 20 2
  let w := w.blockSend 0x17 (if link then some (w.get PTN_CFG_port) else none)
    ⟨tci % 4096, w.get CRY_BRD_CFG_pcp, tst tci 12⟩ w.ptnMac
    (.datagram w.ownIp w.ptnIp port port (b ++ (hmac256 key b).take 16))
  w.tally 0x63

/-- A partner message sent on both paths (R423): on the pair link, and through the host port to the partner's
system-table address. A member without the key, or whose pattern has no tile, sends none (R461). -/
def ptnSend (w : W) (kind : Nat) (payload : List Byte) : W :=
  match (if w.pat.active.tiles.isEmpty then none else w.ptnKey) with
  | none => w
  | some key =>
    let w := w.ptnCopy key true kind payload
    if w.isPair w.me then w.ptnCopy key false kind payload else w

/-- The pairing state changed (R425); a held enable 0 takes effect in SEEKING and ALONE. Groups start or stop with the
gates (R428). -/
def ptnSet (w : W) (st : Nat) : W :=
  let st := if (st = 1 ∨ st = 5) ∧ !w.bit PTN_CTRL_enable then 0 else st
  let new := w.get PTN_STATUS_state != st
  let w := w.set PTN_STATUS_state st
  let w := if st = 1 ∧ new then w.setPtn { w.ptn with since := w.tb.up } else w
  if w.pat.active.groups.isSome then w.alnRunAll else w

/-- The module leaves SERVING and DEGRADED for a state: STOP is sent, and the member seeks again at the next start
(R425). -/
def ptnLeave (w : W) (state : Nat) : W :=
  if !w.serves || w.get PTN_STATUS_state = 0 || w.ptn.left then w
  else
    let w := w.ptnSend 0x15 (beBytes 4 state)
    let w := w.setPtn { PtnState.init with
      term := w.ptn.term
      take := w.ptn.take
      peer := w.ptn.peer
      left := true }
    let w := (w.set PTN_STATUS_link_up 0).set PTN_STATUS_net_heard 0
    w.set PTN_STATUS_state 1

/-- The Journeyman at a start that serves: SEEKING where pairing is enabled. -/
def ptnBegin (w : W) : W :=
  let w := w.setPtn { w.ptn with left := false }
  if w.bit PTN_CTRL_enable && w.serves then w.ptnSet 1 else w.set PTN_STATUS_state 0

end Sys2Proof.Machine.W
end

