-- ==== Sys2Proof/Machine/SysOps.lean ====
section
/-! DEFINITION. The operating states (R29 to R31), settings saves and restores (R388 to R391, R464) and the resets of
blocks (R7, R382). -/

namespace Sys2Proof

/-- Length and CRC-32 of a settings body, whose layout is internal to the module (R389). -/
opaque Config.setBodyLen : Nat → Nat
opaque Config.setBodyCrc : Nat → Nat

/-- A byte of a flash sector that nothing has written since it was made or released: the manual does not say what it
reads as. By number of the read and byte index. -/
opaque Config.flashByte : Nat → Nat → Byte

/-- Whether a sector of a WRITE that never reported done holds its new content (R325). -/
opaque Config.sectorNew : Nat → Bool

end Sys2Proof

namespace Sys2Proof.Machine

/-- SYS_STATUS.state of an operating state; 0 while the main domain is off. -/
def OpState.code : OpState → Nat
  | .cold | .sleep => 0
  | .waking => 1
  | .restoring => 2
  | .serving => 3
  | .degraded => 4
  | .holding => 5
  | .stopped => 6

/-- Registers a main-domain reset leaves alone: they show what the Watchman or the Larder keeps (R375, R382, R415, R303). -/
def keepsReg (a : Nat) : Bool :=
  (decide (0x40030000 ≤ a) && decide (a < 0x40050000)) || a == 0x4013002C || a == 0x40130030
    || a == HLT_HOLDUP_C_v.addr || a == HLT_HOLDUP_R_esr.addr
    || a == MTR_EPOCH_v.addr || a == MTR_SAVE_SEQ_v.addr || a == MTR_GAP_COUNT_v.addr
    || (upTo 16).any (fun n => a == (LED_STR_ONTIME_v n).addr)

/-- Registers whose restored value does not come from a settings copy: another store of the Larder keeps it. -/
def ownStore (a : Nat) : Bool :=
  keepsReg a || a == PAT_MIN_SERIAL_v.addr || a == PAT_ACTIVE_SERIAL_v.addr || a == SYS_FW_MIN_SERIAL_v.addr
    || a == REC_RL_CFG_burst.addr || (decide (HLT_IND_U_u.addr ≤ a) && decide (a ≤ HLT_IND_RATED_v.addr))
    || a == PTN_STATUS_state.addr || (decide (0x40170030 ≤ a) && decide (a ≤ 0x40170038))
    || (decide (0x400C0080 ≤ a) && decide (a < 0x400C00C0)) || (upTo 4).any (fun r => a == (RAD_TX_CTR_v r).addr)

/-- The block a register address belongs to. -/
def blockAt (a : Nat) : Nat := (a - 0x40000000) / 0x10000

/-- The blocks a pattern-reload reset resets (R392). -/
def reloadBlock (b : Nat) : Bool := [0x18, 1, 5, 6, 7, 8, 9, 0xA, 0xB, 0xC, 0xD, 0x12].contains b

namespace W

def setSys (w : W) (x : SysState) : W := { w with sys := x }

/-! ## States (R29, R31) -/

/-- The module's state changed, with its STATE record (R404); the partner is told that it stops serving (R425). -/
def setOp (w : W) (st : OpState) : W :=
  let old := w.get SYS_STATUS_state
  let w := if st = .serving ∨ st = .degraded then w else w.ptnLeave st.code
  let w := ({ w with op := st } : W).set SYS_STATUS_state st.code
  if old = st.code ∨ st.code = 0 then w else w.record 0x010 0 old st.code 0 0

/-- Every output in its reset state (R383, R453): drives, gates, matrix, radios and the PPS output. -/
def outputsOff (w : W) : W :=
  let w := w.set LMP_CON_STATE_drives 0
  let w := w.setLed { w.led with outs := [], strs := [], drives := [], mtx := w.led.mtx.map (fun (e : Nat × MtxPort) => (e.1, { e.2 with wanted := false })) }
  let w := (upTo 4).foldl (fun (w : W) r => w.setRadio r { w.radio r with running := false }) w
  let w := (upTo 8).foldl (fun (w : W) o => w.setMtr { w.mtr with pouts := tblPut o { w.pout o with high := none } w.mtr.pouts }) w
  { w with tb := { w.tb with ppsOut := false, pulses := [] } }

/-- The newest 256 records of log 0 kept in the Larder (R408). -/
def tailSave (w : W) : W :=
  if !w.scrivenerOn then w
  else
    let n := w.scr.nextSeq
    let l := (upTo 256).filterMap (fun k => (tblGet w.scr.log0 ((n + 2 ^ 32 - 2 - k) % 16384)).filter
      (fun (e : RecEntry) => e.seq == (n + 2 ^ 32 - 1 - k) % 2 ^ 32))
    ({ w with scr := { w.scr with tail := l } } : W).setB REC_STATUS_tail_valid (!l.isEmpty)

/-! ## Settings (R388 to R390) -/

/-- The saved bits of the registers that hold any. -/
def savedRegs (w : W) : Regs :=
  w.regs.filterMap (fun (e : Nat × W32) =>
    if ownStore e.1 || savedMask e.1 == 0 then none else some (e.1, e.2 &&& savedMask e.1))

/-- The configuration halves of both tables and the field table, as DRAM holds them. -/
def savedCells (w : W) : List (Nat × List Byte) :=
  let cell (a n : Nat) : Nat × List Byte := (a, w.rdBytes a n)
  (upTo w.pat.active.streamEntries).map (fun i => cell (w.entAddrOf i) 192)
    ++ (upTo w.lanSum).map (fun g => cell (w.lanAddr g) 64)
    ++ (if w.fieldBaseOk then (upTo w.lanSum).map (fun g => cell (w.fieldBase + 32 * g) 32) else [])

/-- The newest valid copy: 0 A, 1 B. -/
def newestCopy (w : W) : Option (Nat × SetCopy) :=
  let v (k : Nat) (c : Option SetCopy) : List (Nat × SetCopy) := match c with | some x => if x.valid then [(k, x)] else [] | none => []
  match v 0 w.sys.copyA ++ v 1 w.sys.copyB with
  | [a, b] => if a.2.seq < b.2.seq then some b else some a
  | [a] => some a
  | _ => none

def putCopy (w : W) (k : Nat) (c : SetCopy) : W :=
  if k = 0 then w.setSys { w.sys with copyA := some c } else w.setSys { w.sys with copyB := some c }

/-- A save begins: it writes the copy that does not hold the newest valid save, body first. -/
def saveStart (w : W) (commit : Bool) : W :=
  let newest := w.newestCopy
  let k := match newest with | some (0, _) => 1 | _ => 0
  let seq := match newest with | some (_, c) => c.seq + 1 | none => 1
  let c : SetCopy :=
    { seq := seq, serial := w.patSerial, saved := w.ns, valid := true, regs := w.savedRegs, cells := w.savedCells,
      heads := (w.ing.heads.filter (fun (e : Nat × Head) => decide (2 ≤ e.2.state) && decide (e.2.state ≤ 4))).map (fun (e : Nat × Head) => e.1),
      map := w.ing.map, lans := w.rad.enabled, params := w.gan.params, curves := w.led.curves,
      buckets := w.scr.buckets.map (fun (e : Nat × Bucket) => (e.1, e.2.burst, e.2.intervalMs, e.2.disable)) }
  let w := w.putCopy k { c with valid := false }
  let w := w.setSys { w.sys with saving := some ⟨k, c, commit, w.sys.saveCmd⟩, dirtyUp := none, saveCmd := false }
  (w.set SYS_STATUS_settings_dirty 0).set SYS_CMD_STATUS_busy 1

/-- A save falls due: held in TRIAL, behind a save in progress, or begun (R390). -/
def saveAsk (w : W) : W :=
  if w.patState = 4 ∨ w.patState = 5 then w.setSys { w.sys with saveHeld := true }
  else if w.sys.saving.isSome then w.setSys { w.sys with saveNext := true }
  else w.saveStart false

/-- The save at COMMIT, which serves a held one. -/
def saveCommit (w : W) : W :=
  let w := w.setSys { w.sys with saveHeld := false }
  if w.sys.saving.isSome then w.setSys { w.sys with commitNext := true } else w.saveStart true

/-- A held save starts once a trial has ended by a revert (R390). -/
def saveReleased (w : W) : W :=
  if w.sys.saveHeld then (w.setSys { w.sys with saveHeld := false }).saveAsk else w

/-- A copy's 64-byte header (R389). -/
def copyHeader (c : SetCopy) : List Byte :=
  let b := leBytes 4 0x5445535A ++ [1, 0, 0, 0] ++ leBytes 4 c.seq ++ leBytes 4 c.serial ++ fullStamp c.saved
    ++ List.replicate 6 0 ++ leBytes 4 (min 0x400000 (Config.setBodyLen c.seq)) ++ leBytes 4 (Config.setBodyCrc c.seq)
    ++ List.replicate 20 0
  b ++ leBytes 4 (crc32 b)

/-- The save in progress completes: its header makes the copy valid, and a save that waits follows at once. -/
def saveDone (w : W) : W :=
  match w.sys.saving with
  | none => w
  | some s =>
    let w := (w.putCopy s.copy s.content).wrBytes (0x20000000 + 0x500000 * s.copy) (copyHeader s.content)
    let w := w.setSys { w.sys with saving := none }
    let w := (w.ev SYS_EVENT_settings_saved 0).set SYS_SET_SEQ_v s.content.seq
    let w := if s.cmd then (w.set SYS_CMD_STATUS_done 1).set SYS_CMD_STATUS_result 0 else w
    if w.sys.commitNext then (w.setSys { w.sys with commitNext := false }).saveStart true
    else if w.sys.saveNext then (w.setSys { w.sys with saveNext := false }).saveAsk
    else w.setB SYS_CMD_STATUS_busy w.sys.staging.isSome

/-- A save cut by a reset or a loss of supply: the copy it was writing stays invalid (R464). -/
def saveCutOff (w : W) : W :=
  let w := match w.sys.saving with
    | some _ => w.setSys { w.sys with saving := none, saveCut := true }
    | none => w
  w.setSys { w.sys with saveNext := false, commitNext := false, saveHeld := false, saveCmd := false, dirtyUp := none }

/-! ## Flash transfers (R325) -/

/-- A sector's bytes. -/
def sectorBytes (w : W) (key : Nat) : List Byte :=
  match tblGet w.fls.sectors key with
  | some b => b
  | none => (upTo 4096).map (fun i => Config.flashByte w.free i)

/-- What a command that ends well has moved. -/
def flMove (w : W) (c : FlashCmd) : W :=
  let key (k : Nat) : Nat := c.partition * 2 ^ 24 + c.sector + k
  if c.op = 1 then
    ((upTo c.count).foldl (fun (w : W) k => (w.wrBytes (c.buf + 4096 * k) (w.sectorBytes (key k))).draw) w).tallyN 0x1A c.count
  else if c.op = 2 then
    let l := (upTo c.count).foldl (fun (l : List (Nat × List Byte)) k =>
      tblPut (key k) (w.rdBytes (c.buf + 4096 * k) 4096) l) w.fls.sectors
    ({ w with fls := { w.fls with sectors := l } } : W).tallyN 0x1B c.count
  else if c.op = 3 then
    { w with fls := { w.fls with
        sectors := tblDrop (fun k => decide (key 0 ≤ k) && decide (k < key c.count)) w.fls.sectors } }
  else w

/-- A WRITE that ends without having reported done, at a device error or with the supply: each sector wholly old or wholly
new, as it falls out. -/
def flTear (w : W) (c : FlashCmd) : W :=
  if c.op ≠ 2 then w
  else
    let l := (upTo c.count).foldl (fun (l : List (Nat × List Byte)) k =>
      if Config.sectorNew (w.free + k) then
        tblPut (c.partition * 2 ^ 24 + c.sector + k) (w.rdBytes (c.buf + 4096 * k) 4096) l
      else l) w.fls.sectors
    { w with fls := { w.fls with sectors := l }, free := w.free + c.count }

/-! ## Resets of blocks -/

/-- Every main-domain block at its reset values (R7); what the Watchman, the Larder and the flash keep stays. -/
def mainReset (w : W) : W :=
  let d := Dev.init
  let w := match w.fls.run with | some c => w.flTear c | none => w
  let rad : RadState := { RadState.init with
    ctrs := w.rad.ctrs
    air := w.rad.air
    woke := w.rad.woke
    radios := w.rad.radios.map (fun (e : Nat × Radio) => (e.1, { Radio.init with ctr := e.2.ctr })) }
  let flt : FltState := { FltState.init with slots := w.flt.slots, gens := w.flt.gens, camp := w.flt.camp, act := w.flt.act }
  let mtr : MtrState := { MtrState.init with
    copyA := w.mtr.copyA
    copyB := w.mtr.copyB
    gapLog := w.mtr.gapLog
    tc := w.mtr.tc }
  let key : KeyState := { KeyState.init with
    lc := w.key.lc
    helper := w.key.helper
    anchors := w.key.anchors
    used := w.key.used
    staged := w.key.staged
    retained := w.key.retained
    abnormal := w.key.abnormal
    normal := w.key.normal }
  { w with
    regs := w.regs.resetWhere (fun a => !keepsReg a)
    tb := { TbState.init with now := w.tb.now, up := w.tb.up, tickSec := w.tb.tickSec, ppsSec := w.tb.ppsSec }
    irq := { IrqState.init with retained := w.irq.retained, watch := w.irq.watch }
    que := d.que
    scr := { RecState.init with tail := w.scr.tail }
    prf := d.prf
    hlt := { HltState.init with ind := w.hlt.ind, lastDay := w.hlt.lastDay, c := w.hlt.c, esr := w.hlt.esr }
    pat := { PatState.init with marker := w.pat.marker, savedMin := w.pat.savedMin }
    net := { w.net with fdb := [], host := [], wait := [] }
    ing := d.ing
    aln := d.aln
    gan := d.gan
    key := key
    cry := { d.cry with since := w.tb.up }
    smp := d.smp
    lmp := d.lmp
    rad := rad
    flt := flt
    led := d.led
    mtr := mtr
    lnv := { LnvState.init with outs := w.lnv.outs, fenced := w.lnv.fenced }
    fls := { w.fls with run := none, hot := [], scrubs := [(0, w.tb.up), (1, w.tb.up), (2, w.tb.up)] }
    ptn := { PtnState.init with term := w.ptn.term, take := w.ptn.take }
    resp := d.resp }

/-- The blocks of a pattern-reload reset at their reset values (R392 step 2). -/
def reloadReset (w : W) : W :=
  let m := w.mainReset
  { w with
    regs := w.regs.resetWhere (fun a => reloadBlock (blockAt a) && !keepsReg a)
    que := m.que
    pat := m.pat
    net := m.net
    ing := m.ing
    aln := m.aln
    gan := m.gan
    cry := { m.cry with seq := w.cry.seq }
    smp := m.smp
    lmp := m.lmp
    rad := m.rad
    flt := m.flt
    led := m.led }

/-! ## Loading and restoring (R58, R391) -/

/-- A pattern in the active banks of blocks at reset. -/
def install (w : W) (p : Pattern) : W :=
  let f := Pattern.factoryPattern
  let w := (w.setPat { w.pat with active := f }).swapQueues { f with queues := [] }
  if p.factory then w.showPattern else w.applyPattern p

/-- The accepted slot, checked (R58): the pattern it holds. -/
def accepted (w : W) : Option Pattern :=
  match w.pat.marker with
  | none => none
  | some n =>
    let a := slotAddr n
    let len := w.rdLe (a + 8) 4
    match w.verdict true a len w.pat.savedMin (w.source a len) with
    | .ok p => some p
    | .bad _ _ _ => none

/-- The valid copy with the highest save_seq that fits a pattern's serial (R391). -/
def copyFor (w : W) (serial : Nat) : Option SetCopy :=
  let v (c : Option SetCopy) : List SetCopy := match c with | some x => if x.valid && x.serial == serial then [x] else [] | none => []
  match v w.sys.copyA ++ v w.sys.copyB with
  | [a, b] => if a.seq < b.seq then some b else some a
  | [a] => some a
  | _ => none

/-- Saved bits put back into the registers of the blocks that satisfy `p`. -/
def restoreRegs (w : W) (rs : Regs) (p : Nat → Bool) : W :=
  rs.foldl (fun (w : W) (e : Nat × W32) =>
    if p (blockAt e.1) then { w with regs := w.regs.wr e.1 ((w.regs.rd e.1 &&& ~~~ savedMask e.1) ||| e.2) } else w) w

/-- Tables rewritten in DRAM, chains and lanterns enabled again (R104, R253). -/
def restoreTables (w : W) (c : SetCopy) : W :=
  let w := c.cells.foldl (fun (w : W) (e : Nat × List Byte) => w.wrBytes e.1 e.2) w
  let w := (upTo w.pat.active.streamEntries).foldl (fun (w : W) i => w.wrBytes (w.entAddrOf i + 192) (List.replicate 64 0)) w
  let w := (upTo w.lanSum).foldl (fun (w : W) g => w.wrBytes (w.lanAddr g + 64) (List.replicate 64 0)) w
  let w : W := { w with ing := { w.ing with map := c.map } }
  let w := c.heads.foldl (fun (w : W) i => w.ingEnable i) w
  let w : W := { w with regs := tblDel ING_CMD_STATUS_done.addr w.regs }
  c.lans.foldl (fun (w : W) g => w.enableEntry g (if lanKind (w.lan g) = 1 then 4 else 1)) w

/-- Blocks that follow their settings brought up to date. -/
def refreshAll (w : W) : W :=
  let w := if w.pat.active.groups.isSome then w.alnRefresh.alnRunAll else w
  let w := ((w.smpRefresh.ledServe).ledRefresh).mtrRefresh
  let w := if w.lmpOn then w.stageUpdate [] else w
  ((w.judge).showQuality).showPattern

/-- Settings of a copy restored into the blocks that satisfy `p` (R391). -/
def restoreFrom (w : W) (c : SetCopy) (p : Nat → Bool) : W :=
  let w := w.restoreRegs c.regs p
  let w : W := { w with gan := { w.gan with params := c.params } }
  let w := w.setLed { w.led with curves := c.curves }
  let w : W := if p 0x14 then
      { w with scr := { w.scr with
        buckets := c.buckets.map (fun (e : Nat × Nat × Nat × Bool) => (e.1, ⟨e.2.1, e.2.2.1, e.2.2.2, max 1 e.2.1, 0, 0, w.tb.up⟩)) } }
    else w
  let w := ((upTo 16).filter (fun n => w.bit (CRY_GCB_CTRL_enable n))).foldl (fun (w : W) n => w.readGcb n) w
  ((w.restoreTables c).readTable).refreshAll

/-! ## Records of state events (R30) -/

/-- The CLK_AON edge at which an event at TAI ns `t` is registered. -/
def aonEdge (t : Nat) : Nat := ceilDiv (t * 32768) 1000000000

end W

end Sys2Proof.Machine
end

