-- ==== Sys2Proof/Machine/BootOps.lean ====
section
/-! DEFINITION. Starts through WAKING (R382 to R387), resets, sleep and wake (R397 to R400), and the tamper latch (R375,
R376). A start takes no model time: its bounds are not modelled. -/

namespace Sys2Proof

/-- Whether the SRAM array gives the root back at a start (R361). -/
opaque Config.rootOk : Nat → Bool
/-- The factory loader's SHA-384 digest (R362, R387). -/
opaque Config.loaderDigest : Nat → Byte
/-- What the hold-up test of a start measures (R416): within range, C in µF, ESR in mΩ, V0 in mV. -/
opaque Config.holdupOk : Nat → Bool
opaque Config.holdupC : Nat → Nat
opaque Config.holdupEsr : Nat → Nat
opaque Config.holdupMv : Nat → Nat
/-- Whether a RESET_N pulse of 1 to 10 µs is taken (R382). -/
opaque Config.resetTaken : Nat → Bool

end Sys2Proof

namespace Sys2Proof.Machine

/-! ## Firmware images (R385 to R387) -/

/-- Bytes of the SYS flash partition from a sector on; a sector that holds nothing reads 0. -/
def FlsState.bytes (f : FlsState) (sector count : Nat) : List Byte :=
  ((upTo count).map (fun i => (tblGet f.sectors (sector + i)).getD (List.replicate 4096 0))).flatten

/-- The image of a firmware slot, as long as its header says, at most the largest. -/
def FlsState.image (f : FlsState) (slot : Nat) : List Byte :=
  let h := f.bytes (8192 * slot) 1
  let len := min (128 + le h 8 4 + 96) 0x10000E0
  (f.bytes (8192 * slot) (ceilDiv len 4096)).take len

def imgSerial (b : List Byte) : Nat := le b 12 4

/-- The silicon issue, as SYS_IDENT reads (R14). -/
def sysIssue : Fld := ⟨0x4000FFFC, 0, 8⟩

/-- What R385 asks of an image's form, for a silicon issue. -/
def imgForm (b : List Byte) (issue : Nat) : Bool :=
  let n := le b 8 4
  let load := le b 16 8
  let entry := le b 24 8
  le b 0 4 == 0x4957465A && le b 4 2 == 1 && le b 6 2 == 128 && decide (1 ≤ n) && decide (n ≤ 0x1000000)
    && b.length == 128 + n + 96 && imgSerial b != 0 && load % 4096 == 0
    && (inDram load n || (decide (0x10000000 ≤ load) && decide (load + n ≤ 0x12800000)))
    && decide (load ≤ entry) && decide (entry < load + n) && decide (le b 32 1 ≤ issue)
    && allZero (cut b 33 3) && allZero (cut b 96 32)

namespace W

/-- Step 3 of R387: 0, or the result an image fails with. -/
def imgCheck (w : W) (b : List Byte) : Nat :=
  if !imgForm b (w.get sysIssue) then 3
  else if imgSerial b < w.sys.fwMin then 5
  else match w.signers.find? (fun k => sha384 k == cut b 48 48) with
    | none => 4
    | some k => if ecdsaOk k (sha384 (b.take (b.length - 96))) (b.drop (b.length - 96)) then 0 else 4

/-- SYS_FW_SERIAL: the serial of the valid image in each slot. -/
def showFw (w : W) : W :=
  let w := (upTo 2).foldl (fun (w : W) s =>
    let b := w.fls.image s
    w.set (SYS_FW_SERIAL_v s) (if w.imgCheck b = 0 then imgSerial b else 0)) w
  w.set SYS_FW_MIN_SERIAL_v w.sys.fwMin

/-- The slots the boot ROM tries, in order, and whether the first is a trial (R387). -/
def imgOrder (w : W) : List Nat × Bool :=
  match w.sys.boot with
  | some b =>
    match b.staged, b.trial with
    | some s, 0 => ([s, 1 - s], true)
    | _, _ => ([b.active, 1 - b.active], false)
  | none => if imgSerial (w.fls.image 0) < imgSerial (w.fls.image 1) then ([1, 0], false) else ([0, 1], false)

/-- The boot ROM chooses, measures and copies the firmware (R387, R395). -/
def fwSelect (w : W) : W :=
  let looped := if 3 ≤ w.sys.loops then w.sys.slot else none
  let w := if 3 ≤ w.sys.loops then (w.setSys { w.sys with loops := 0 }).evRec SYS_EVENT_boot_loop 0 else w
  let w := match w.sys.boot with
    | some b => if b.staged.isSome && b.trial != 0 then w.evRec SYS_EVENT_fw_reverted 0 else w
    | none => w
  let (order, trial) := w.imgOrder
  let w := match w.sys.boot with
    | some b => if trial then w.setSys { w.sys with boot := some { b with trial := 1 } } else w
    | none => w
  let measure (w : W) (d : List Byte) : W := { w with key := { w.key with digests := [(upTo 48).map Config.bootDigest, d] } }
  match order.find? (fun s => looped != some s && w.imgCheck (w.fls.image s) == 0) with
  | some s =>
    let b := w.fls.image s
    let onTrial := trial && order.head? == some s
    let w := w.setSys { w.sys with slot := some s, trial := onTrial }
    let w := ((w.set SYS_STATUS_factory_loader 0).set SYS_STATUS_fw_slot s).setB SYS_STATUS_fw_trial onTrial
    (measure w (sha384 b)).wrBytes (le b 16 8) (cut b 128 (le b 8 4))
  | none =>
    let w := w.setSys { w.sys with slot := none, trial := false }
    measure (w.set SYS_STATUS_factory_loader 1) ((upTo 48).map Config.loaderDigest)

/-! ## What a start shows -/

/-- WCH_STATUS. -/
def showWch (w : W) : W :=
  let w := (w.setB WCH_STATUS_vbak_ok w.sys.vbak).setB WCH_STATUS_main_ok w.sys.main
  (w.setB WCH_STATUS_on_vbak (w.sys.watch && !w.sys.main)).setB WCH_STATUS_retention
    (!w.irq.retained.isEmpty || !w.irq.watch.isEmpty || !w.key.retained.isEmpty)

/-- Registers that show what is kept through a reset of the main domain: start, epoch, DRAM, fenced lanes, anchors. -/
def showStart (w : W) (prev : Nat) : W :=
  let w := ((w.set SYS_START_cause w.sys.cause).set SYS_START_prev prev).set SYS_START_count w.sys.starts
  let w := (w.set CRY_BRD_SYSID_epoch w.sys.starts).setB MEM_STATUS_dram_init_done w.sys.dramDone
  let w := w.set MEM_STATUS_flash_ready 1
  let w := w.lnv.fenced.foldl (fun (w : W) l =>
    if l = 0 then w.set LNV_STATUS_lane_a 5 else if l = 1 then w.set LNV_STATUS_lane_b 5 else w.set LNV_STATUS_lane_c 5) w
  let w := w.key.anchors.foldl (fun (w : W) (e : Nat × List Byte) =>
    if le e.2 0 1 = 0 then w else w.setSlot (56 + e.1) ⟨3, le e.2 0 1, [], cut e.2 8 97⟩) w
  let w := match w.newestCopy with | some (_, c) => w.set SYS_SET_SEQ_v c.seq | none => w
  ((w.showFw.showKey.showWch).showPtn).setB REC_STATUS_tail_valid (!w.scr.tail.isEmpty)

/-! ## Starts through WAKING -/

/-- The Watchman's settings, with arm cleared, as the Larder copies hold them (R358). -/
def wchSettings (w : W) : Regs :=
  w.regs.filterMap (fun (e : Nat × W32) =>
    let v := e.2 &&& savedMask e.1
    let v := if e.1 = (RTC_ALM_CTRL_arm 0).addr ∨ e.1 = (RTC_ALM_CTRL_arm 1).addr then v &&& 0xFFFFFFFE else v
    if (blockAt e.1 == 3 || blockAt e.1 == 4 || e.1 == 0x4013002C) && savedMask e.1 != 0 then some (e.1, v) else none)

/-- The Watchman loses its last supply. -/
def watchLost (w : W) : W :=
  if !w.sys.watch then w
  else
    let lost := w.sys.vbakLost || w.key.lc == 2 || w.key.lc == 3
    w.setSys { w.sys with watch := false, vbakLost := lost, wch := some ((w.sys.wch).getD w.wchSettings) }

/-- The Watchman starts: its registers and the RTC at reset, osc_stopped set (R352, R382). -/
def watchStart (w : W) : W :=
  if w.sys.watch then w
  else
    let w : W := { w with
      regs := w.regs.resetWhere (fun a => blockAt a == 3 || blockAt a == 4 || a == 0x4013002C || a == 0x40130030)
      rtc := { RtcState.init with subUp := w.tb.up }
      irq := { w.irq with retained := [], watch := [] }
      key := { w.key with retained := [], abnormal := [0, 0], normal := [0, 0] } }
    (w.setSys { w.sys with watch := true }).set RTC_EVENT_osc_stopped 1

/-- The tamper record and event (R376). -/
def tamperTold (w : W) : W :=
  let w := w.setSys { w.sys with tamperNew := false }
  (w.ev KEY_EVENT_tamper 0).record 0x020 0x13 (w.regs.rd 0x40130030).toNat w.key.lc 0 0

/-- The beginning of a start: WAKING, everything of the main domain at reset, cause and count recorded, the root rebuilt
(R361, R375, R382, R396). -/
def startBegin (w : W) (cause : Nat) : W :=
  let zero := cause = 1 ∨ cause = 2 ∨ cause = 8
  let prev := w.sys.cause
  let w := if cause = 3 ∨ cause = 6 then w else { w with lnv := { w.lnv with fenced := [], outs := [] } }
  let w := if zero then w.zeroRam else w
  let wraps := w.sys.starts = 0xFFFF
  let w := w.mainReset.setSys { w.sys with
    starts := if wraps then 1 else w.sys.starts + 1
    cause := cause
    saving := none
    saveNext := false
    commitNext := false
    saveHeld := false
    saveCmd := false
    dirtyUp := none
    staging := none
    hold := none
    riseWaits := false
    nextCause := 0
    entering := false
    wakeWaits := false
    booting := true
    dramDone := w.sys.dramDone && !zero
    kickUp := w.tb.up
    kickMs := 2000
    chargerOff := false }
  let w : W := { w with op := .waking, key := { w.key with digests := [] } }
  let w := match w.sys.wch with
    | some rs => (w.restoreRegs rs (fun _ => true)).setSys { w.sys with wch := none }
    | none => w
  let w := w.showStart prev
  let w := if wraps then w.evRec SYS_EVENT_epoch_wrap 0 else w
  let w := if w.sys.saveCut then (w.setSys { w.sys with saveCut := false }).evRec SYS_EVENT_settings_fail 0 else w
  let w := if w.sys.vbakLost then
      let w := w.setSys { w.sys with vbakLost := false }
      if tst (w.get KEY_TAMPER_CFG_enables) 5 then
        (w.set KEY_TAMPER_STAT_latched (w.get KEY_TAMPER_STAT_latched ||| 0x20)).setSys { w.sys with tamperNew := true }
      else w
    else w
  let w :=
    if w.tampered then w.set KEY_STATUS_derive_blocked 1
    else if !w.key.helper then w
    else
      let n := w.free
      let w := w.draw
      if Config.rootOk n then { w with key := { w.key with root := some rootBytes } }
      else (w.set KEY_STATUS_root_fail 1).evRec KEY_EVENT_root_fail 0
  w.showKey

/-- The hold-up bank measured (R416). -/
def holdupTest (w : W) : W :=
  let c := w.sys.cause
  if !(c == 1 || c == 2 || c == 3 || c == 6 || c == 7) || w.sys.pfail || !w.bit HLT_CTRL_holdup_test then w
  else
    let n := w.free
    let w := w.draw
    if !Config.holdupOk n then w.evRec HLT_EVENT_holdup_fail 0
    else
      let cap := Config.holdupC n
      let esr := Config.holdupEsr n
      let e := cap * (Config.holdupMv n * Config.holdupMv n - 324000000)
      let w : W := { w with hlt := { w.hlt with c := some cap, esr := some esr } }
      let w := ((w.set HLT_HOLDUP_C_v cap).set HLT_HOLDUP_R_esr (min 0xFFFF esr)).set HLT_HOLDUP_R_e (min 0xFFFF (e / 2000000000))
      let w := ((w.wearTo 1 cap).wearTo 2 esr).showInd
      if e < 720000000000 then w.evRec HLT_EVENT_holdup_short 0 else w

/-- The counter set from the RTC (R69). -/
def clockFromRtc (w : W) (restored : Bool) : W :=
  let s : Int := if w.rtc.in60 then w.leapSec else w.rtc.secs + sgn 16 (w.get TBS_UTC_OFFSET_tai_utc)
  let t := s.toNat * 1000000000 + w.rtcSub * 1000000000 / 32768
  let w : W := { w with tb := { w.tb with
    now := t * 2 ^ 32
    tickSec := t / 1000000000
    ppsSec := t / 1000000000
    fromRtc := restored && !w.bit RTC_EVENT_osc_stopped } }
  w.showQuality

/-- What SLEEP held comes back (R339, R378): watched sources, retained events, retained key slots. -/
def wakeReturn (w : W) : W :=
  let w := w.key.retained.foldl (fun (w : W) (e : Nat × KeySlot) => if w.tampered then w else w.setSlot e.1 e.2) w
  let w := w.irq.watch.foldl (fun (w : W) (e : Nat × Nat × Nat) =>
    w.stage ⟨(tblGet w.sys.watched e.1).getD 0, e.2.2, e.2.1, false, true, false⟩) w
  let w := w.irq.retained.foldl (fun (w : W) (e : IrqEvent) => w.stage { e with retained := true }) w
  let w : W := { w with irq := { w.irq with watch := [], retained := [] }, key := { w.key with retained := [] } }
  let w := if w.sys.sleepLost = 0 then w else (w.set IRQ_SLEEP_LOST_v w.sys.sleepLost).ev IRQ_EVENT_sleep_lost 0
  let w := if w.sys.retainFull then w.ev KEY_EVENT_retain_full 0 else w
  let w := w.setSys { w.sys with sleepLost := 0, retainFull := false }
  w.record 0x015 4 (w.regs.rd 0x40040014).toNat 0 0 0

/-- The instant of the last power failure, as the Watchman holds it. -/
def pfInstant (w : W) : Option Nat :=
  let t := (w.get WCH_PF_SEC_LO_v + 2 ^ 32 * w.get WCH_PF_SEC_HI_v) * 1000000000 + w.get WCH_PF_NS_v
  if t = 0 then none else some t

/-- START as the first record, then the tail of the last run, oldest first (R404, R408). -/
def startRecords (w : W) : W :=
  let serial := match w.sys.slot with | some s => imgSerial (w.fls.image s) | none => 0
  let w := w.writeRec ⟨0x001, false, w.tqCode == 0xF, 0, w.ns, (w.regs.rd SYS_START_cause.addr).toNat % 256, w.sys.starts,
    serial, w.patSerial⟩ false
  w.scr.tail.reverse.foldl (fun (w : W) (e : RecEntry) =>
    w.writeRec ⟨e.code, tst e.flags 0, tst e.flags 4, e.block, e.stamp, e.p0, e.p1, e.p2, e.p3⟩ true) w

/-- Firmware entry: the measurement chain closed, blocks that keep something started, the first records, the state. -/
def entry (w : W) (st : OpState) (restored : Bool) : W :=
  let w : W := { w with key := { w.key with digests := w.key.digests ++ [w.patMeasure] } }
  let w := ((w.showChain).clockFromRtc restored).armRestored
  let w := w.holdupTest
  let w := ((w.fltRestore).mtrRestore w.pfInstant).showInd
  let w := (upTo 8).foldl (fun (w : W) s => w.showFlash s) w
  let w := w.startRecords
  let w := if w.sys.cause = 8 then w.wakeReturn else w
  let w := w.setSys { w.sys with booting := false, entryUp := w.tb.up, kickUp := w.tb.up, kickMs := max 100 (w.get SYS_WDOG_CFG_timeout_ms) }
  let down := w.get LNV_STATUS_lane_a != 0 || w.get LNV_STATUS_lane_b != 0 || w.get LNV_STATUS_lane_c != 0
  let st := if st = .serving ∧ down then .degraded else st
  let w := (w.set LNV_STATUS_mode (bitNat down)).setOp st
  ((w.showWch).showFlt).ptnBegin

/-- HOLDING: every main-domain field at reset, the factory pattern, the firmware started (R376, R384). -/
def enterHolding (w : W) : W :=
  let blocked := w.bit KEY_STATUS_derive_blocked
  let st := w.regs.rd SYS_STATUS_state.addr
  let prev := w.get SYS_START_prev
  let ds := w.key.digests
  let w := w.mainReset
  let w : W := { w with key := { w.key with digests := ds.take 2 }, regs := w.regs.wr SYS_STATUS_state.addr st }
  let w := ((w.showStart prev).setB KEY_STATUS_derive_blocked blocked).install Pattern.factoryPattern
  let w := if w.sys.tamperNew then w.tamperTold else w
  w.entry .holding false

/-- The end of WAKING (R29, R58, R387): firmware, then HOLDING, the factory pattern, or RESTORING with the pattern. -/
def wakeEnd (w : W) : W :=
  let w := w.fwSelect
  if w.tampered then w.enterHolding
  else if w.key.lc = 4 ∨ w.pat.marker = none ∨ w.sys.slot = none then (w.install Pattern.factoryPattern).entry .serving false
  else
    let w := w.setOp .restoring
    match w.accepted with
    | none => (w.install Pattern.factoryPattern).patEv PAT_EVENT_restore_failed
    | some p =>
      match w.copyFor p.serial with
      | none => ((w.install Pattern.factoryPattern).patEv PAT_EVENT_restore_failed).evRec SYS_EVENT_settings_fail 0
      | some _ => w.install p

/-- The end of RESTORING (R391). -/
def restoreEnd (w : W) : W :=
  if w.pat.active.factory then w.entry .serving false
  else match w.copyFor w.pat.active.serial with
    | some c => (w.restoreFrom c (fun _ => true)).entry .serving true
    | none => w.entry .serving false

/-- A start that has got to WAKING or RESTORING carried to its end, unless the supply fails. -/
def finishStart (w : W) : W :=
  if !w.sys.booting || w.sys.hold.isSome || w.sys.pfail then w
  else
    let w := if w.op = .waking then w.wakeEnd else w
    if w.op = .restoring then w.restoreEnd else w

/-- A start with a cause, as far as a stage. -/
def startUp (w : W) (cause : Nat) (stage : StartStage) : W :=
  let w := w.startBegin cause
  match stage with
  | .waking => w
  | .restoring => w.wakeEnd
  | .entry => w.finishStart

/-! ## Resets (R382, R383, R392) -/

/-- A watchdog, software or RESET_N reset begins: outputs in reset, the reset save, the tail, any settings save cut. -/
def resetBegin (w : W) (cause : Nat) (dst : OpState) : W :=
  let w := w.ptnLeave dst.code
  let w := (((w.outputsOff).lastGasp w.ns).tailSave).saveCutOff
  let w : W := { w.mainReset with op := dst }
  w.setSys { w.sys with hold := some cause, booting := true, entering := false, staging := none }

/-- A watchdog or software system reset (R29). -/
def softReset (w : W) (cause : Nat) : W :=
  if w.op = .serving ∨ w.op = .degraded ∨ w.op = .holding ∨ (w.sys.booting && w.mainOn && w.sys.hold.isNone) then
    w.resetBegin cause .waking
  else w

/-- The pattern-reload reset itself (R392 steps 1 and 2). -/
def reloadBegin (w : W) : W :=
  let prev := w.sys.cause
  let w := w.setSys { w.sys with hold := none, saveHeld := false, cause := 5 }
  let w := (w.set SYS_START_cause 5).set SYS_START_prev prev
  ((w.ptnLeave 2).reloadReset).setOp .restoring

/-- PATTERN_RELOAD: SERVING only; it waits for a save in progress (R464). -/
def patReload (w : W) : W :=
  if w.op ≠ .serving then (w.set SYS_CMD_STATUS_done 1).set SYS_CMD_STATUS_result 1
  else if w.sys.saving.isSome then w.setSys { w.sys with hold := some 5 }
  else w.reloadBegin

/-- Steps 3 and 4 of R392. -/
def reloadEnd (w : W) : W :=
  let w := (w.set CRY_BRD_SYSID_epoch w.sys.starts).install Pattern.factoryPattern
  let w :=
    if w.key.lc = 4 ∨ w.pat.marker = none then w
    else match w.accepted with
      | none => w.patEv PAT_EVENT_restore_failed
      | some p =>
        match w.copyFor p.serial with
        | none => (w.patEv PAT_EVENT_restore_failed).evRec SYS_EVENT_settings_fail 0
        | some c => (w.applyPattern p).restoreFrom c reloadBlock
  let w := if w.tb.list = w.pat.active.tbSources then w else w.swapSources
  let w := ((w.fltRestore).showInd)
  let down := w.get LNV_STATUS_lane_a != 0 || w.get LNV_STATUS_lane_b != 0 || w.get LNV_STATUS_lane_c != 0
  ((w.setOp (if down then .degraded else .serving)).ptnBegin).ev SYS_EVENT_reload_done 0

/-- COLD (R29, R442): the main domain is off, and what only SLEEP keeps is gone (R378). -/
def toCold (w : W) (next : Nat) : W :=
  let w := w.saveCutOff
  let w : W := { w.mainReset with op := .cold }
  let w : W := { w with irq := { w.irq with retained := [], watch := [] }, key := { w.key with retained := [] } }
  (w.setSys { w.sys with nextCause := next, hold := none, booting := false, entering := false, staging := none, pfail := false }).showWch

/-- RESET_N taken low (R29, R382): COLD, with the reset save before it. -/
def resetAct (w : W) : W :=
  let w := w.setSys { w.sys with resetLow := true }
  if w.op = .cold then w
  else if w.op = .sleep then w.toCold 7
  else
    let w := w.resetBegin 7 .cold
    w.setSys { w.sys with nextCause := 7, booting := false }

/-- The start COLD waits for, where the supply is valid and RESET_N high. -/
def coldStart (w : W) (stage : StartStage) : W :=
  if w.op ≠ .cold ∨ !w.sys.main ∨ w.sys.resetLow ∨ w.sys.pfail ∨ w.sys.hold.isSome then w.watchStart.showWch
  else
    let cause := if !w.sys.watch then 1 else if w.sys.nextCause = 7 then 7 else 2
    w.watchStart.startUp cause stage

/-- A hold-up test is due in the start that runs: a power failure ends it with holdup_fail (R416). When in the start it runs
is not stated; the model takes the whole start before firmware entry (DESIGN CHOICE). -/
def holdupRuns (w : W) : Bool :=
  let c := w.sys.cause
  (c == 1 || c == 2 || c == 3 || c == 6 || c == 7) && w.sys.booting && w.mainOn && w.sys.hold.isNone && w.bit HLT_CTRL_holdup_test

/-- A power failure (R397, R401, R459). -/
def powerFail (w : W) (t : Nat) : W :=
  let w := w.setSys { w.sys with pfail := true }
  let w := ((w.set WCH_PF_NS_v (t % 1000000000)).set WCH_PF_SEC_LO_v (t / 1000000000 % 2 ^ 32)).set WCH_PF_SEC_HI_v
    (t / 1000000000 / 2 ^ 32)
  let w := if w.mainOn then w.saveCutOff else w
  let w := if w.holdupRuns then w.ev HLT_EVENT_holdup_fail 0 else w
  if w.serves then
    let w := w.setSys { w.sys with entering := false, wakeWaits := false }
    let w := ((w.set SYS_STATUS_reduced 1).ev SYS_EVENT_pfail 0).record 0x013 0 0 0 0 0
    ((w.lastGasp t).outputsOff).tailSave
  else w

/-! ## Sleep and wake (R398 to R400) -/

/-- Events of watched sources latched by the Watchman: stamp of the first, parameter of the last (R339). -/
def latchWatched (w : W) : W :=
  let evs := w.irq.raised ++ w.irq.staged
  let w := evs.foldl (fun (w : W) (e : IrqEvent) =>
    w.sys.watched.foldl (fun (w : W) (k : Nat × Nat) =>
      if k.2 = e.source then
        let first := match tblGet w.irq.watch k.1 with | some x => x.1 | none => e.stamp
        { w with irq := { w.irq with watch := tblPut k.1 (first, e.param) w.irq.watch } }
      else w) w) w
  { w with irq := { w.irq with raised := [], staged := [] } }

/-- The main domain goes off: step 4 of R398 with the retention of R339 and R378, then SLEEP. -/
def toSleep (w : W) : W :=
  let w := ((w.ptnLeave 0).lastGasp w.ns).tailSave
  let sel := (upTo 32).filterMap (fun k => if w.bit (IRQ_WAKE_SEL_enable k) then some (k, w.get (IRQ_WAKE_SEL_source k)) else none)
  let w := w.setSys { w.sys with watched := sel }
  let w := w.irq.raised.foldl (fun (w : W) e => w.stage e) { w with irq := { w.irq with raised := [] } }
  let evs := w.irq.staged
  let lost := if sel.isEmpty then evs.length - 256 else (evs.filter (fun e => sel.all (fun (k : Nat × Nat) => k.2 != e.source))).length
  let w := if sel.isEmpty then { w with irq := { w.irq with retained := evs.take 256, raised := [], staged := [] } } else w.latchWatched
  let keep := (w.key.slots.filter (fun (e : Nat × KeySlot) => e.1 < 56 && e.2.state == 1 && kFlag e.2.header 3))
  let w : W := { w with key := { w.key with retained := keep.take 8 } }
  let held := if sel.isEmpty then w.irq.retained.length else w.irq.watch.length
  let w := (w.set WCH_RET_CNT_events held).set WCH_RET_CNT_keys (keep.take 8).length
  let w := w.setSys { w.sys with sleepLost := lost, retainFull := decide (8 < keep.length), entering := false, sleepUp := w.tb.up }
  ({ (w.outputsOff).mainReset with op := .sleep } : W).showWch

/-- What is left of WCH_WAKE_TIMER, which counts down in SLEEP only. -/
def wakeTimerLeft (w : W) : Nat := w.get WCH_WAKE_TIMER_v - (w.tb.up - w.sys.sleepUp) / 1000000000

/-- The first watched source that fired, into WCH_WAKE_CAUSE. -/
def causeWatched (w : W) : W :=
  match w.irq.watch.head? with
  | some (k, _) => (w.set WCH_WAKE_CAUSE_watched 1).set WCH_WAKE_CAUSE_first ((tblGet w.sys.watched k).getD 0)
  | none => w

/-- A wake source has fired: SLEEP is left with cause 8; during entry the wake waits for its end (R31, R400). -/
def wake (w : W) (cause : Fld) : W :=
  let due := decide (0 < w.get WCH_WAKE_TIMER_v) && w.wakeTimerLeft == 0 && w.bit WCH_WAKE_CFG_timer_en
  if w.op = .sleep then
    let w := w.set cause 1
    let w := if due then w.set WCH_WAKE_CAUSE_timer 1 else w
    let w := if w.get WCH_WAKE_TIMER_v = 0 then w else w.set WCH_WAKE_TIMER_v w.wakeTimerLeft
    let w := if w.sys.watched.isEmpty then w else w.latchWatched.causeWatched
    (w.setSys { w.sys with edge := some (aonEdge w.ns, 9) }).startUp 8 .entry
  else if w.sys.entering then (w.set cause 1).setSys { w.sys with wakeWaits := true }
  else match w.sys.edge with
    | some (e, p) => if p = 9 ∧ e = aonEdge w.ns then w.set cause 1 else w
    | none => w

/-! ## Tamper (R375, R376) -/

/-- Whether a detection of source 2 to 5 sets the latch: the Watchman runs, and GLITCH needs the main supply and CLOCK the
main domain (R375). -/
def tamperTakes (w : W) (src : Nat) : Bool :=
  w.sys.watch && (src != 2 || w.sys.main) && (src != 4 || w.mainOn)
    && tst (w.get KEY_TAMPER_CFG_enables) src && !tst (w.get KEY_TAMPER_STAT_latched) src

/-- The loops that a sample finds abnormal for the second time running, enabled and not latched (R375). -/
def loopsFire (w : W) (a b : Bool) : List Nat :=
  let k := w.key.abnormal
  (upTo 2).filter (fun i => (if i = 0 then a else b) && decide (1 ≤ k.getD i 0) && w.sys.watch && w.sys.vbak
    && tst (w.get KEY_TAMPER_CFG_enables) i && !tst (w.get KEY_TAMPER_STAT_latched) i)

/-- A source fires. -/
def tamperFires (w : W) (src : Nat) : W :=
  let old := w.get KEY_TAMPER_STAT_latched
  if !tst (w.get KEY_TAMPER_CFG_enables) src || tst old src then w
  else
    let w := w.set KEY_TAMPER_STAT_latched (old ||| 2 ^ src)
    if old ≠ 0 then w
    else
      let w := w.zeroise.showKey
      match w.op with
      | .cold => w.setSys { w.sys with tamperNew := true }
      | .waking => w.setSys { w.sys with tamperNew := true }
      | .restoring => (w.setSys { w.sys with tamperNew := true }).enterHolding
      | .serving | .degraded | .stopped =>
        let w := w.tamperTold
        if w.sys.entering then w.wake WCH_WAKE_CAUSE_tamper else w
      | .holding => w.tamperTold
      | .sleep =>
        let w : W := { w with key := { w.key with retained := [] } }
        (w.setSys { w.sys with tamperNew := true }).wake WCH_WAKE_CAUSE_tamper

end W

end Sys2Proof.Machine
end

