-- ==== Sys2Proof/Machine/TrgOps.lean ====
section
/-! DEFINITION. Servo samples, steps, PTP times, trigger fires and the execution of global operations (R63, R67 to R77,
R173, R174). -/

namespace Sys2Proof

/-- Residence time in ns of a PTP event message that crosses the switch, and the turnaround of a Pdelay_Req (R63). -/
opaque Config.residence : Nat → Nat

/-- Whether a port sends two-step Sync messages: both are supported on transmit, and no register chooses (R63). -/
opaque Config.ptpTwoStep : Nat → Bool

end Sys2Proof

namespace Sys2Proof.Machine.W

def setTb (w : W) (x : TbState) : W := { w with tb := x }

/-! ## Steps and samples -/

/-- A step with everything that follows it: epoch tick, sets, samples (R69, R75, R77). -/
def stepAll (w : W) (delta : Int) : W :=
  let old := w.ns
  let w := w.stepCounter delta
  let w := w.setTb { w.tb with tickSec := max w.tb.tickSec w.sec }
  let w := w.alnStep old
  let w := if old < w.ns then w.smpGap else w.smpStepped
  w.showQuality

/-- An offset from the phase source (R67): nothing while the servo is off or a HOLD is in force; the first one since
WAKING beyond ±1 ms steps the counter, `extra` ns with it where the source gives whole seconds (R65, R69). -/
def phaseSample (w : W) (off extra : Int) (inacc : Option Nat) : W :=
  let w := w.judge
  if !w.bit TBS_CTRL_servo_enable || w.servo = 0 || w.servo = 3 then w
  else if !w.tb.sampled && !w.tb.everLocked && decide (1000000 < (off + extra).natAbs) then
    let w := (w.setTb { w.tb with sampled := true, inacc := inacc, offs := [off] }).set TBS_OFFSET_v (unsgn 32 off)
    ((w.stepAll (-(off + extra))).set TBS_STATUS_startup_step_done 1).keepE0.showQuality
  else
    let locked := w.servo = 2
    let since := w.tb.up - w.tb.lastGood
    let w := w.sampleAs off inacc
    if locked then
      let h := w.hlt
      let h : HltState := { h with
        lockedNs := h.lockedNs + since
        refUsed := h.refUsed || w.refInUse
        fSum := h.fSum + w.tb.freq
        fCnt := h.fCnt + 1 }
      { w with hlt := h }
    else w

/-! ## PTP (R63) -/

/-- The whole second that PTP, where it is valid, gives an instant near a whole second of the counter, and else the counter's
own (R65): the last Sync tells how far the counter is from the master. -/
def ptpSecond (w : W) (x : Int) : Int :=
  let ahead : Int := match (if w.tb.ptpValid then w.tb.lastSync else none) with
    | some (rx, time) => rx - time - w.tb.pathDelay
    | none => 0
  (x - ahead + 500000000) / 1000000000

def ptpRole (w : W) : Nat := w.get TBS_CTRL_ptp_role

/-- Peer-to-peer delay: C37.238 and 61850-9-3. -/
def ptpPeer (w : W) : Bool := w.get TBS_CTRL_profile == 1 || w.get TBS_CTRL_profile == 2

/-- A receive stamp less the port's latency. -/
def rxStamp (w : W) (p t : Nat) : Int := (t : Int) - w.get (TBS_PORT_LAT_rx_lat p)

/-- A PTP message sent from a port whose transmitter is on, tagged by TBS_PTP_TAG; NET_PORT_CTRL's other fields do not
govern PTP (R63). -/
def ptpSend (w : W) (p dst dom : Nat) (m : PtpMsg) : W :=
  let vid := w.get TBS_PTP_TAG_vid
  let tag : Option VTag :=
    if w.bit TBS_PTP_TAG_tagged then some ⟨if vid = 0xFFF then 0 else vid, w.get TBS_PTP_TAG_pcp, false⟩ else none
  if w.bit (NET_PORT_CTRL_tx_enable p) && w.portLit p && !w.gated 0x18 then
    ({ w with net := { w.net with wire := ⟨p, tag, dst, baseMac, .ptp dom m⟩ :: w.net.wire } } : W).tally (0x26 + p)
  else w

/-- The PTP multicast addresses: general, and peer delay. -/
def ptpMac : Nat := 0x011B19000000
def ptpPeerMac : Nat := 0x0180C200000E

/-- Whether a port is in MASTER state. -/
def ptpMasterPort (w : W) (p : Nat) : Bool :=
  (w.ptpRole == 2 && !w.tb.ptpValid) || (w.ptpRole == 3 && (!w.tb.ptpValid || p != w.tb.masterPort))

/-- The delay from the master: the link delay of its port on the peer-to-peer profiles, else the end-to-end delay. -/
def masterDelay (w : W) : Int :=
  if w.ptpPeer then (tblGet w.tb.linkDelay w.tb.masterPort).getD 0 else w.tb.pathDelay

/-- A Sync with its master time: an offset where PTP is the phase source. -/
def ptpSample (w : W) (rx time : Int) : W :=
  let w := w.setTb { w.tb with lastSync := some (rx.toNat, time) }
  if w.phaseSrc = 1 then
    w.phaseSample (rx - time - w.masterDelay) 0 (match w.tb.master with | some m => statedNs m | none => none)
  else w

/-- The transparent clock (R63): a message leaves every other port; an event message carries its residence time, and on a
peer-to-peer profile the ingress link delay, in its correction. The peer delay messages of those profiles stay on their
link (PRESUMED, IEEE 1588). The source address is the module's (DESIGN CHOICE). -/
def ptpForward (w : W) (p dom : Nat) (m : PtpMsg) : W :=
  let stay : Int := Config.residence w.free
  let add : Int := stay + (if w.ptpPeer then (tblGet w.tb.linkDelay p).getD 0 else 0)
  let out (w : W) (dst : Nat) (m : PtpMsg) : W :=
    ((upTo 6).filter (· != p)).foldl (fun (w : W) q => w.ptpSend q dst dom m) w
  if !w.bit TBS_CTRL_tc_enable then w
  else match m with
    | .sync seq two origin corr => (out w ptpMac (.sync seq two origin (corr + add))).draw
    | .delayReq seq corr => (out w ptpMac (.delayReq seq (corr + add))).draw
    | .pdelayReq seq corr => if w.ptpPeer then w else (out w ptpPeerMac (.pdelayReq seq (corr + stay))).draw
    | .pdelayResp seq at_ tx corr => if w.ptpPeer then w else (out w ptpPeerMac (.pdelayResp seq at_ tx (corr + stay))).draw
    | m => out w ptpMac m

/-- A message that needs a hardware stamp. -/
def ptpEvent : PtpMsg → Bool
  | .sync _ _ _ _ | .delayReq _ _ | .pdelayReq _ _ | .pdelayResp _ _ _ _ => true
  | _ => false

/-- A PTP message of a domain received on a port at counter ns `t`. The engine takes those of its own domain, and event
messages only where the port stamps (NET_PORT_CTRL.ptp_ts; that they are else ignored is a DESIGN CHOICE). -/
def ptpRx (w : W) (p dom : Nat) (m : PtpMsg) (t : Nat) : W :=
  let rx := w.rxStamp p t
  let w := w.ptpForward p dom m
  let here := w.tb.ptpValid && p == w.tb.masterPort
  if w.ptpRole = 0 ∨ dom ≠ w.get TBS_CTRL_domain ∨ (ptpEvent m ∧ !w.bit (NET_PORT_CTRL_ptp_ts p)) then w
  else match m with
    | .announce x => w.announce p x
    | .sync seq two origin corr =>
      if !here then w
      else if two then w.setTb { w.tb with syncWait := ((seq, rx.toNat, corr) :: w.tb.syncWait).take 8 }
      else w.ptpSample rx (origin + corr)
    | .followUp seq origin corr =>
      match (if here then w.tb.syncWait.find? (fun (e : Nat × Nat × Int) => e.1 == seq) else none) with
      | some (_, r, c) =>
        (w.setTb { w.tb with syncWait := w.tb.syncWait.filter (fun (e : Nat × Nat × Int) => e.1 != seq) }).ptpSample r (origin + corr + c)
      | none => w
    | .delayReq seq corr =>
      if w.ptpMasterPort p && !w.ptpPeer && w.clockClass.isSome then w.ptpSend p ptpMac dom (.delayResp seq rx corr) else w
    | .delayResp seq at_ corr =>
      match (if here && !w.ptpPeer then tblGet w.tb.delayWait seq else none), w.tb.lastSync with
      | some (q, t3), some (t2, t1) =>
        if q ≠ p then w
        else w.setTb { w.tb with delayWait := tblDel seq w.tb.delayWait, pathDelay := (((t2 : Int) - t1) + (at_ - t3 - corr)) / 2 }
      | _, _ => w
    | .pdelayReq seq corr =>
      if !w.ptpPeer then w
      else
        let back := rx + Config.residence w.free
        (w.ptpSend p ptpPeerMac dom (.pdelayResp seq rx back corr)).draw
    | .pdelayResp seq at_ tx corr =>
      match (if w.ptpPeer then tblGet w.tb.delayWait seq else none) with
      | some (q, t1) =>
        if q ≠ p then w
        else w.setTb { w.tb with
          delayWait := tblDel seq w.tb.delayWait
          linkDelay := tblPut p (((rx - t1) - (tx - at_) - corr) / 2) w.tb.linkDelay }
      | none => w

/-- An interval timer of the PTP engine fires for a port: a Sync (its Follow_Up with it where the port is two-step), an
Announce, or the delay request of the profile. -/
def ptpTx (w : W) (p : Nat) (k : PtpTx) (t : Nat) : W :=
  let seq := (w.tb.ptpSeq + 1) % 65536
  let dom := w.get TBS_CTRL_domain
  let sent := t + w.get (TBS_PORT_LAT_tx_lat p)
  let next := w.setTb { w.tb with ptpSeq := seq }
  let master := w.ptpMasterPort p
  match k with
  | .delayReq =>
    if w.ptpRole = 0 ∨ !w.bit (NET_PORT_CTRL_ptp_ts p) ∨ (!w.ptpPeer && (!w.tb.ptpValid || p != w.tb.masterPort)) then w
    else
      let next := next.setTb { next.tb with delayWait := tblPut seq (p, sent) next.tb.delayWait }
      if w.ptpPeer then next.ptpSend p ptpPeerMac dom (.pdelayReq seq 0) else next.ptpSend p ptpMac dom (.delayReq seq 0)
  | .sync =>
    if !master ∨ w.clockClass.isNone ∨ !w.bit (NET_PORT_CTRL_ptp_ts p) then w
    else if Config.ptpTwoStep p then
      (next.ptpSend p ptpMac dom (.sync seq true 0 0)).ptpSend p ptpMac dom (.followUp seq sent 0)
    else next.ptpSend p ptpMac dom (.sync seq false sent 0)
  | .announce =>
    match (if master then w.announced else none) with
    | some m => next.ptpSend p ptpMac dom (.announce m)
    | none => w

/-! ## Global operations at T (R173, R174, R177) -/

/-- An armed operation executed at T. -/
def gopExec (w : W) (o : Gop) : W :=
  if o.kind = 1 ∨ o.kind = 7 then (w.gopDeliver o false).gopDone o false
  else if o.kind = 2 then ((((w.prfSnap).smpSnap).lmpSnap).mtrSnap).gopDone o false
  else
    let w := (w.tally 0x65).dropOp o
    if o.arg = 1 then w.softReset 6 else if o.arg = 2 then w.patReload else w

/-- The order in which operations that share T execute. -/
def gopBefore (a b : Gop) : Bool :=
  decide (a.t < b.t) || (a.t == b.t && (decide (a.origin < b.origin) || (a.origin == b.origin && decide (a.opId < b.opId))))

/-- The first of some operations in that order. -/
def gopFirst (os : List Gop) : Option Gop :=
  os.foldl (fun (best : Option Gop) o => match best with
    | none => some o
    | some b => if gopBefore o b then some o else some b) none

/-- A pattern load barrier stands at or before now, or its hold runs: operations wait (R177). -/
def gopHeld (w : W) : Bool := w.patState == 4 || (w.patState == 3 && w.op == .serving && decide (w.pat.barrier ≤ w.ns))

/-- Trigger unit `n` of the Crier fires: of the operations that share its T the first one left executes. The standby of
a pair executes none (R177): the operation stays as missed until a takeover or the next one missed. -/
def gopFire (w : W) (n : Nat) : W :=
  match w.cry.ops.find? (fun o => o.state == 1 && o.unit == some n) with
  | none => w
  | some o =>
    let same := w.cry.ops.filter (fun x => x.state == 1 && x.t == o.t)
    match gopFirst same with
    | none => w
    | some x =>
      let w := if sameOp x o.origin o.opId then w.putOp { x with unit := none }
        else (w.putOp { x with unit := none }).putOp { o with unit := x.unit }
      let x := { x with unit := none }
      if w.isStandby then
        let w := w.setCry { w.cry with ops := w.cry.ops.filter (fun y => !(y.state == 4 && y.t != x.t)) }
        w.putOp { x with state := 4 }
      else if w.gopHeld then w
      else w.gopExec x

/-- Operations that waited for the hold of a barrier execute (R177). -/
def gopRelease : Nat → W → W
  | 0, w => w
  | n + 1, w =>
    match gopFirst (w.cry.ops.filter (fun o => o.state == 1 && o.unit == none && decide (o.t ≤ w.ns))) with
    | some o => gopRelease n (w.gopExec o)
    | none => w

/-- Operations missed as the standby are recorded and dropped when a takeover completes after T (R177). -/
def gopMissed (w : W) : W :=
  (w.cry.ops.filter (fun o => o.state == 4)).foldl (fun (w : W) o => (w.dropOp o).cryNote) w

/-! ## Triggers (R73, R74) -/

/-- The pulse of target 0x5 (R73): 64 ns on every pin whose function is the trigger output of the selector (R452). -/
def trgPulse (w : W) (sel : Nat) : W :=
  if w.pat.active.pins.any (fun i => i.func == 0x10 + sel) then
    w.setTb { w.tb with pulses := tblPut sel (w.tb.up + 64) w.tb.pulses }
  else w

/-- What a target does at a fire of an instant. -/
def targetAct (w : W) (n inst : Nat) : W :=
  let tgt := w.get (TRG_CTRL_target n)
  let sel := w.get (TRG_CTRL_sel n)
  if tgt = 1 then w.conversion inst
  else if tgt = 2 then (if sel < 4 then w.swapEvent sel 0 else w)
  else if tgt = 3 then w.fieldCycle inst
  else if tgt = 4 then w.gopFire n
  else if tgt = 5 then w.trgPulse sel
  else w

/-- What tells two targets apart (R73): the target, and the port or pin where it has several. -/
def targetKey (w : W) (n : Nat) : Nat :=
  let tgt := w.get (TRG_CTRL_target n)
  16 * tgt + (if tgt = 2 ∨ tgt = 5 then w.get (TRG_CTRL_sel n) else 0)

/-- Unit `n` fires: counted and flagged; a target that has acted on this CLK_TB edge does not act again. -/
def trgFire (w : W) (n : Nat) (a : TrgArm) : W :=
  let edge := ceilDiv a.next 4
  let w := ((w.bump (TRG_COUNT_v n) 1).set (TRG_CTRL_fired n) 1).tally 0xD8
  let w := w.raise (0x190 + n) (w.get (TRG_COUNT_v n))
  let w :=
    if a.period = 0 then w.disarmUnit n
    else
      let next := if a.jump then gridAfter a.first a.period a.next else a.next + a.period
      w.setTb { w.tb with trg := tblPut n { a with next := next, jump := false } w.tb.trg }
  let key := w.targetKey n
  if tblGet w.tb.acted key = some edge ∧ w.get (TRG_CTRL_target n) ≠ 4 then w
  else (w.setTb { w.tb with acted := tblPut key edge w.tb.acted }).targetAct n a.next

/-- A write of TRG_CTRL[n] (R74). -/
def trgWrite (w : W) (n : Nat) (v : W32) : W :=
  let w := ({ w with regs := w.regs.busWrite (TRG_CTRL_arm n).addr v } : W).dirty
  let w := w.setTb { w.tb with trg := tblDel n w.tb.trg }
  if v.getLsbD 0 then w.armUnit n else w

end Sys2Proof.Machine.W
end

