-- ==== Sys2Proof/Machine/PartnerOps.lean ====
section
/-! DEFINITION. The Journeyman: heartbeats, the pairing states, mirroring, takeover and drills (R422 to R436). -/

namespace Sys2Proof.Machine

/-- The 32 bytes of a HELLO (R423). -/
def helloBytes (h : PtnHello) : List Byte :=
  beBytes 1 h.state ++ beBytes 1 h.flags ++ beBytes 2 0 ++ beBytes 4 h.term ++ beBytes 4 h.serial ++ beBytes 4 h.sent
    ++ beBytes 4 h.applied ++ List.replicate 12 0

def helloRead (b : List Byte) : PtnHello := ⟨be b 0 1, be b 1 1, be b 4 4, be b 8 4, be b 12 4, be b 16 4⟩

/-- An item in a MIRROR message: header, and data padded to 8 bytes (R426). -/
def itemBytes (i : MirItem) : List Byte :=
  beBytes 1 i.kind ++ beBytes 1 0 ++ beBytes 2 i.data.length ++ beBytes 4 i.index
    ++ padTo (8 * ceilDiv i.data.length 8) i.data

/-- The items of a message; none where its bytes are no items. -/
def itemsOf : Nat → List Byte → Option (List MirItem)
  | 0, b => if b.isEmpty then some [] else none
  | n + 1, b =>
    if b.isEmpty then some []
    else
      let len := be b 2 2
      let size := 8 + 8 * ceilDiv len 8
      if b.length < size ∨ be b 1 1 ≠ 0 then none
      else match itemsOf n (b.drop size) with
        | some is_ => some (⟨be b 0 1, be b 4 4, cut b 8 len, false⟩ :: is_)
        | none => none

/-- As many items from the front of a list as fit into a message of 1,024 bytes, and the rest. -/
def fillMessage : Nat → List MirItem → List MirItem → List MirItem × List MirItem
  | _, [], acc => (acc.reverse, [])
  | room, i :: t, acc =>
    let n := (itemBytes i).length
    if n ≤ room then fillMessage (room - n) t (i :: acc) else (acc.reverse, i :: t)

/-- Bytes cut into chunks of at most 1,000, each with its offset. -/
def chunks : Nat → Nat → List Byte → List (Nat × List Byte)
  | 0, _, _ => []
  | n + 1, off, b => if b.isEmpty then [] else (off, b.take 1000) :: chunks n (off + 1000) (b.drop 1000)

namespace W

def ptnState (w : W) : Nat := w.get PTN_STATUS_state

/-- hb_ms and miss in force (R423). -/
def hbMs (w : W) : Nat := max 1 (min 100 (w.get PTN_CFG_hb_ms))
def ptnMiss (w : W) : Nat := max 2 (min (w.get PTN_CFG_miss) (495 / w.hbMs - 1))
def quietNs (w : W) : Nat := w.ptnMiss * w.hbMs * 1000000

/-- This member wins against a term: the higher term, or with equal terms side 0 (R425). -/
def wins (w : W) (term : Nat) : Bool := decide (term < w.ptn.term) || (term == w.ptn.term && !w.bit PTN_CFG_side)

/-- The term raised by one, in the Larder first (R424). -/
def termUp (w : W) : W := (w.setPtn { w.ptn with term := (w.ptn.term + 1) % 2 ^ 32 }).showPtn

/-- PTN_CMD_STATUS at the end of a command. -/
def ptnDone (w : W) (result : Nat) : W :=
  (((w.setPtn { w.ptn with cmd := 0 }).set PTN_CMD_STATUS_busy 0).set PTN_CMD_STATUS_done 1).set PTN_CMD_STATUS_result result

/-- The command that runs ends, if it is this one. -/
def ptnEnds (w : W) (op result : Nat) : W := if w.ptn.cmd = op then w.ptnDone result else w

/-- A command begins, unless one runs (BUSY). -/
def ptnCommand (w : W) (op : Nat) (f : W → W) : W :=
  if w.ptn.cmd ≠ 0 then (w.set PTN_CMD_STATUS_done 1).set PTN_CMD_STATUS_result 2
  else f ((w.setPtn { w.ptn with cmd := op }).set PTN_CMD_STATUS_busy 1)

/-! ## Heartbeats -/

def ownHello (w : W) : PtnHello :=
  { state := w.ptnState, flags := bitNat (w.bit PTN_CTRL_shadow) + 2 * bitNat (w.bit PTN_STATUS_mirror_stale)
    term := w.ptn.term, serial := w.patSerial, sent := w.ptn.sent, applied := w.ptn.applied.getD 0 }

/-- A received partner message checked as R165 checks one, under the partner's key (R423); a module whose pattern has no
queue to the Journeyman receives none (R461). -/
def ptnAccept (w : W) (m : BrdMsg) (kind : Nat) : W × Option (List Byte) :=
  let h := brdRead m.data
  let drop (w : W) : W := w.bump CRY_BRD_DROP_CNT_v 1
  if !w.serves || w.ptnState == 0 || be m.data 0 2 != 0x425A || be m.data 2 1 != 1 || m.data.length != 64 + h.len
      || decide (1024 < h.len) then (w, none)
  else if 0x17 ≤ h.kind ∧ h.kind ≤ 0x1F then (drop w, none)
  else if h.kind ≠ kind then (w, none)
  else match w.cross 0xF1 0x17 (50 + m.data.length) with
  | none => (w, none)
  | some w =>
    let good : Bool := match w.ptnKey with
      | some key => (hmac256 key (m.data.take (48 + h.len))).take 16 == m.data.drop (48 + h.len)
      | none => false
    if !good then ((drop w).ev CRY_EVENT_auth_fail 0, none)
    else if h.sys ≠ w.get CRY_BRD_SYSID_system_id then (drop w, none)
    else if h.sender ≠ w.me ∨ (!m.link ∧ m.src ≠ w.ptnIp) then (w, none)
    else
      let stale : Bool := match w.ptn.peer with
        | some (e, s) => decide (h.epoch < e) || (h.epoch == e && decide (h.seq ≤ s))
        | none => false
      if stale then ((drop w).ev CRY_EVENT_replay 0, none)
      else ((w.setPtn { w.ptn with peer := some (h.epoch, h.seq) }).tally 0x64, some (cut m.data 48 h.len))

/-! ## Takeover (R429, R430) -/

/-- A raised record for a rule that stands, from its last evaluation. -/
def resend (w : W) (i : List Byte) : W :=
  let x := w.rule (rNum i)
  if !x.stands then w
  else
    let cause := ((upTo 4).find? (fun k => tst x.values k)).getD 0
    let value := match (rTerms i)[cause]? with
      | some t => let r := w.termOut x.closed t.1 t.2.1 t.2.2.2; if t.2.2.1 then 0 else r.2.2
      | none => 0
    w.sendHit 1 (hitBytes i 1 x cause value)

/-- The sequence of R430, into ALONE or ACTIVE. -/
def takeover (w : W) (st : Nat) : W :=
  let old := w.ptn.term
  let w := w.termUp
  let w := w.setPtn { w.ptn with swapAt := none, drill := none, queue := [], copying := false, splitSeen := false }
  let w := w.ptnSet st
  let w := (upTo w.lanSum).foldl (fun (w : W) g => w.setLan g (fun b => patch b 74 [0xFF, 0xFF])) w
  let seq := (w.get LMP_STATUS_gr_seq + 1) % 2 ^ 16
  let w := w.set LMP_STATUS_gr_seq seq
  let w := w.toRadio (w.gridBytes (w.get LMP_STATUS_stage) seq 0 w.ns)
  let w := w.setCry { w.cry with zero := true }
  let w := w.ganRules.foldl (fun (w : W) i => w.resend i) w
  let w := w.setRad { w.rad with holdUp := w.tb.up + 1000000 }
  let w := w.gopMissed
  let w := (w.setPtn { w.ptn with take := some w.ns }).showPtn
  w.evRec PTN_EVENT_takeover 0 old w.ptn.term

/-- A member that may take over: in STANDBY, or in SYNCING after a completed full copy. -/
def mayTake (w : W) : Bool := w.ptnState == 3 || (w.ptnState == 2 && w.ptn.full)

/-! ## Synchronisation -/

/-- SYNC_REQ sent: this member is SYNCING until a full copy has been applied (R426). -/
def askCopy (w : W) : W :=
  let w := w.setPtn { w.ptn with applied := none, asked := true }
  let w := (w.set PTN_STATUS_synced 0).ptnSet 2
  w.ptnSend 0x13 []

/-- The member that loses gates its roles and enters SYNCING. -/
def demote (w : W) : W :=
  let w := w.setPtn { w.ptn with queue := [], copying := false, full := false, swapAt := none, drill := none }
  (((w.ptnEnds 1 1).ptnEnds 2 1).evRec PTN_EVENT_demoted 0).askCopy

/-- Both members are active (R432): the loser gates, and both record it once. -/
def split (w : W) (h : PtnHello) : W :=
  let w := if w.ptn.splitSeen then w
    else (w.setPtn { w.ptn with splitSeen := true }).evRec PTN_EVENT_split 0 w.ptn.term h.term
  if w.wins h.term then w else w.demote

/-- The partner is heard on neither path (R425, R429). -/
def ptnUnheard (w : W) : W :=
  let w := w.setPtn { w.ptn with hello := none, queue := [], copying := false, splitSeen := false }
  if w.mayTake then w.takeover 5
  else if w.ptnState = 4 then (w.ptnEnds 2 4).ptnSet 5
  else w

/-- A path goes quiet (R432). Without the pair link the mirror goes stale, and a member that was SYNCING asks again once the
link is back. -/
def pathLost (w : W) (link : Bool) : W :=
  if link then
    let w := (w.set PTN_STATUS_link_up 0).ev PTN_EVENT_link_down 0
    let w := w.setPtn { w.ptn with queue := [], copying := false, asked := w.ptn.asked && w.ptnState != 2 }
    if w.ptnState = 3 then w.set PTN_STATUS_mirror_stale 1 else w
  else (w.set PTN_STATUS_net_heard 0).ev PTN_EVENT_net_lost 0

/-- The partner sends that it stops, or its HELLO says that it is not active. -/
def ptnStops (w : W) : W :=
  if w.mayTake || w.ptnState == 6 then w.takeover 5
  else if w.ptnState = 4 then (w.ptnEnds 2 4).ptnSet 5
  else w

/-- The drill's partner is active: the swap is complete (R433). -/
def drillOver (w : W) : W := ((w.setPtn { w.ptn with drill := none }).ev PTN_EVENT_drill_done 0).ptnEnds 1 0

/-- What a HELLO does to the pairing state (R425, R429, R432). -/
def helloActs (w : W) (h : PtnHello) : W :=
  let st := w.ptnState
  let active := h.state == 4 || h.state == 5 || h.state == 6
  let w := if active then w else w.setPtn { w.ptn with splitSeen := false }
  if st = 1 then
    if h.state = 4 ∨ h.state = 5 then (w.setPtn { w.ptn with term := max w.ptn.term h.term }).showPtn.askCopy
    else if h.state = 1 then
      if w.wins h.term then w.termUp.ptnSet 5
      else (w.setPtn { w.ptn with asked := false, applied := none }).ptnSet 2
    else w
  else if st = 2 ∨ st = 3 then
    let w := if w.ptn.drill.isSome && h.state == 4 then w.drillOver else w
    let awaits := w.ptn.drill.isSome && h.state == 3
    if w.mayTake && h.state != 4 && h.state != 6 && !awaits then w.takeover 5
    else
      let w := if active then (w.setPtn { w.ptn with term := max w.ptn.term h.term }).showPtn else w
      let w := if st = 3 ∧ h.serial ≠ w.patSerial then w.set PTN_STATUS_mirror_stale 1 else w
      if active && w.bit PTN_STATUS_link_up && ((st == 2 && !w.ptn.asked) || (st == 3 && w.bit PTN_STATUS_mirror_stale
          && h.serial == w.patSerial)) then w.askCopy
      else w
  else if st = 4 ∨ st = 5 ∨ st = 6 then
    if active then w.split h
    else if st = 5 ∧ h.state = 3 then (w.set PTN_STATUS_mirror_stale 0).ptnSet 4
    else w
  else w

/-- A HELLO accepted on a path. -/
def helloRx (w : W) (link : Bool) (b : List Byte) : W :=
  let h := helloRead b
  let w := w.setPtn (if link then { w.ptn with hello := some h, linkUp := w.tb.up }
    else { w.ptn with hello := some h, netUp := w.tb.up })
  let w := if link then w.set PTN_STATUS_link_up 1 else w.set PTN_STATUS_net_heard 1
  let w := if h.serial = w.patSerial then w else w.ev PTN_EVENT_pattern_mismatch 0
  w.helloActs h

/-! ## The items of a full copy (R426) -/

/-- The Lamplighter's registers that hold settings, as items of one word. -/
def lmpItems (w : W) : List (Nat × List Byte) :=
  w.regs.filterMap (fun (e : Nat × W32) =>
    if 0x400A0000 ≤ e.1 ∧ e.1 < 0x400B0000 ∧ savedMask e.1 ≠ 0 then some (e.1 - 0x400A0000, leBytes 4 e.2.toNat) else none)

/-- The accumulators (item 0x07): epoch, save_seq, 64 values in mWh. -/
def accItem (w : W) : List Byte :=
  leBytes 4 (w.get MTR_EPOCH_v) ++ leBytes 4 (w.get MTR_SAVE_SEQ_v)
    ++ ((upTo 64).map (fun a => leBytes 8 ((tblGet w.mtr.accs a).getD 0 / 2 ^ 32))).flatten

def blobBase (w : W) : Nat := w.get PTN_BLOB_BASE_LO_v + 2 ^ 32 * w.get PTN_BLOB_BASE_HI_v
def blobSize (w : W) : Nat := min 1048576 (w.get PTN_BLOB_SIZE_bytes)

/-- The key-blob region is one: of some size, 4 KiB-aligned, in DRAM. -/
def blobOk (w : W) : Bool := decide (0 < w.blobSize) && w.blobBase % 4096 == 0 && inDram w.blobBase w.blobSize

def blobItems (w : W) (copy : Bool) : List MirItem :=
  if w.blobOk then (chunks 1049 0 (w.rdBytes w.blobBase w.blobSize)).map (fun c => ⟨8, c.1, c.2, copy⟩) else []

/-- Every item, in the order of the kinds: stream entries that head an enabled chain after all others, and every position
of the IDCODE map, those that hold no head too. -/
def fullCopy (w : W) : List MirItem :=
  let heads (i : Nat) : Bool := le (w.streamItem i) 192 1 == 1
  let entries := (upTo w.pat.active.streamEntries).filter (fun i => !heads i)
    ++ (upTo w.pat.active.streamEntries).filter heads
  entries.map (fun i => ⟨1, i, w.streamItem i, true⟩)
    ++ (upTo 65536).map (fun id => ⟨2, id, w.mapItem id, true⟩)
    ++ (upTo w.lanSum).map (fun g => ⟨3, g, w.lanternItem g, true⟩)
    ++ (if w.fieldBaseOk then (upTo w.lanSum).map (fun i => ⟨4, i, w.fieldItem i, true⟩) else [])
    ++ w.lmpItems.map (fun (e : Nat × List Byte) => ⟨5, e.1, e.2, true⟩)
    ++ [⟨6, 0, w.gridItem 0, true⟩, ⟨7, 0, w.accItem, true⟩]
    ++ w.blobItems true
    ++ (if w.bit REC_CTRL_mirror_enable then w.scr.log0.map (fun (e : Nat × RecEntry) => ⟨9, e.2.seq, recBytes e.2, true⟩)
        else [])

/-- A MIRROR message of some items, under the next mirror_seq. -/
def mirrorSend (w : W) (is_ : List MirItem) : W :=
  let n := (w.ptn.sent + 1) % 2 ^ 32
  let w := (w.setPtn { w.ptn with sent := n, copySeq := if is_.any (·.copy) then n else w.ptn.copySeq }).set PTN_MSEQ_v n
  w.ptnSend 0x11 (beBytes 4 n ++ (is_.map itemBytes).flatten)

/-- The next message of the items that wait: grid state first and alone (R426). -/
def mirrorNext (w : W) : W :=
  match w.ptn.queue.find? (·.kind == 6) with
  | some g => (w.setPtn { w.ptn with queue := w.ptn.queue.erase g }).mirrorSend [g]
  | none =>
    let (is_, rest) := fillMessage 1020 w.ptn.queue []
    if is_.isEmpty then w else (w.setPtn { w.ptn with queue := rest }).mirrorSend is_

/-! ## Items applied at the standby (R426, R427) -/

/-- The range checks of an item. -/
def itemOk (w : W) (i : MirItem) : Bool :=
  let n := i.data.length
  if i.kind = 1 then decide (i.index < w.pat.active.streamEntries) && n == 193 && decide (le i.data 192 1 ≤ 1)
  else if i.kind = 2 then
    decide (i.index < 65536) && n == 2 && (le i.data 0 2 == 0xFFFF || decide (le i.data 0 2 < w.pat.active.streamEntries))
  else if i.kind = 3 then decide (i.index < w.lanSum) && n == 65 && decide (le i.data 64 1 ≤ 1)
  else if i.kind = 4 then decide (i.index < w.lanSum) && n == 32 && fieldOk w.lanSum i.data
  else if i.kind = 5 then i.index % 4 == 0 && n % 4 == 0 && decide (n ≤ 1000) && decide (i.index + n ≤ 0x10000)
  else if i.kind = 6 then i.index == 0 && n == 72 && decide (le i.data 0 1 ≤ 7)
  else if i.kind = 7 then i.index == 0 && n == 520
  else if i.kind = 8 then w.blobOk && decide (n ≤ 1000) && decide (i.index + n ≤ w.blobSize)
  else i.kind == 9 && n == 32 && le i.data 4 4 == i.index

/-- A mirrored stream entry: its configuration half, and its chain enabled or disabled. -/
def applyStream (w : W) (i : Nat) (b : List Byte) : W :=
  let st := w.regs.rd ING_CMD_STATUS_done.addr
  let w := w.wrBytes (w.entAddrOf i) (b.take 192)
  let w :=
    if le b 192 1 = 1 then w.ingEnable i
    else match tblGet w.ing.heads i with
      | some h => if 2 ≤ h.state ∧ h.state ≤ 5 then w.setChain i h 1 else w
      | none => w
  ({ w with regs := w.regs.wr ING_CMD_STATUS_done.addr st } : W).alnRefresh

/-- A mirrored lantern entry: an entry that stays enabled keeps what this member's radio heard of it. -/
def applyLantern (w : W) (g : Nat) (b : List Byte) : W :=
  let isOn := w.isEnabled g
  let w := w.lanBack g
  let w := (w.wrBytes (w.lanAddr g) (b.take 64)).lanDrop g
  if le b 64 1 = 1 then (if isOn then w else w.enableEntry g (if lanKind b = 1 then 4 else 1))
  else if isOn then (w.setRad { w.rad with enabled := w.rad.enabled.filter (· != g) }).setEntry g 5
  else w

/-- The mirrored grid state: stage, gr_seq and entry states; local outputs and contactors follow (R428). -/
def applyGrid (w : W) (b : List Byte) : W :=
  let old := w.get LMP_STATUS_stage
  let new := le b 0 1
  let restore := le b 1 1
  let w := (w.set LMP_STATUS_stage new).set LMP_STATUS_gr_seq (le b 2 2)
  let w := ((upTo 255).map (· + 1)).foldl (fun (w : W) n => w.setGr n (le b (8 + n / 4) 1 / 4 ^ (n % 4) % 4)) w
  let rs : List (Nat × Ramp) := if restore = 0 ∨ old ≤ new then []
    else (upTo 20).filterMap (fun k =>
      let cur := (tblGet w.lmp.outs k).getD 0
      if cur < w.localTarget k then some (k, ⟨cur, w.ns, restore⟩) else none)
  let w := if old = new then w else w.setLmp { w.lmp with ramps := rs }
  ((w.setLmp { w.lmp with judged := true }).conUpdate).ledRecord true w.ns

/-- A mirrored record into log 1 (R408, R410, R421). -/
def applyRecord (w : W) (b : List Byte) : W :=
  let seq := le b 4 4
  let e : RecEntry := ⟨le b 0 2, le b 2 1, le b 3 1, seq, le b 8 8, le b 16 4, le b 20 4, le b 24 4, le b 28 4⟩
  let gap := !w.scr.log1.isEmpty && seq != (w.get REC_MIRROR_SEQ_v + 1) % 2 ^ 32 && seq != 1
  let log := if e.code = 0x003 ∧ e.p0 = 0 then [] else w.scr.log1
  let w : W := { w with scr := { w.scr with log1 := tblPut ((seq + 16383) % 16384) e log } }
  let w := (w.set REC_MIRROR_SEQ_v seq).set REC_STATUS_mirror_held w.scr.log1.length
  if gap then w.ev REC_EVENT_mirror_gap 0 else w

/-- An item applied; settings become this member's own (R427). -/
def applyItem (w : W) (i : MirItem) : W :=
  if i.kind = 1 then (w.applyStream i.index i.data).dirty
  else if i.kind = 2 then
    let j := le i.data 0 2
    let map := if j = 0xFFFF then tblDel i.index w.ing.map else tblPut i.index j w.ing.map
    ({ w with ing := { w.ing with map := map } } : W).dirty
  else if i.kind = 3 then (w.applyLantern i.index i.data).dirty
  else if i.kind = 4 then
    let w := if w.fieldBaseOk then w.wrBytes (w.fieldBase + 32 * i.index) i.data else w
    (w.putField i.index (fieldOf i.data)).dirty
  else if i.kind = 5 then
    let w := (upTo (i.data.length / 4)).foldl (fun (w : W) k =>
      let a := 0x400A0000 + i.index + 4 * k
      let m := savedMask a
      if m = 0 then w
      else { w with regs := w.regs.wr a ((w.regs.rd a &&& ~~~ m) ||| (BitVec.ofNat 32 (le i.data (4 * k) 4) &&& m)) }) w
    w.dirty
  else if i.kind = 6 then w.applyGrid i.data
  else if i.kind = 7 then
    let accs := (upTo 64).map (fun a => (a, le i.data (8 + 8 * a) 8))
    ((w.setPtn { w.ptn with macc := accs, maccUp := some w.tb.up }).set PTN_MACC_EPOCH_v (le i.data 0 4)).set PTN_MACC_SEQ_v
      (le i.data 4 4)
  else if i.kind = 8 then w.wrBytes (w.blobBase + i.index) i.data
  else if i.kind = 9 ∧ w.bit REC_CTRL_accept_mirror then w.applyRecord i.data
  else w

/-- A MIRROR message at the standby: applied in order and answered with ACK, or a copy asked for (R426). -/
def mirrorRx (w : W) (b : List Byte) : W :=
  let n := be b 0 4
  let st := w.ptnState
  if (st ≠ 2 ∧ st ≠ 3) ∨ !w.bit PTN_STATUS_link_up then w
  else
    let next := match w.ptn.applied with | some a => n == (a + 1) % 2 ^ 32 | none => w.ptn.asked
    let old := match w.ptn.applied with | some a => decide ((a + 2 ^ 32 - n) % 2 ^ 32 < 2 ^ 31) | none => true
    if next then
      match itemsOf 128 (b.drop 4) with
      | some is_ =>
        if is_.all (fun i => w.itemOk i) then
          let w := is_.foldl (fun (w : W) i => w.applyItem i) w
          let w := (w.setPtn { w.ptn with applied := some n }).set PTN_MSEQ_v n
          (w.set PTN_ACK_v n).ptnSend 0x12 (beBytes 4 n)
        else w.askCopy
      | none => w.askCopy
    else if old then w
    else w.askCopy

/-! ## Drills (R433) -/

/-- T: the first beacon boundary of the lowest-numbered radio at least 2 s ahead, less 1 ms; without radios now + 2 s. -/
def swapT (w : W) : Nat :=
  let from_ := w.ns + 2000000000
  match w.radList with
  | r :: _ =>
    let n := w.sfAt r from_
    let b := w.boundary r n
    (if from_ ≤ b then b else w.boundary r (n + 1)) - 1000000
  | [] => from_

/-- The checks of step 1: 0, or the result a SWAP command reports. -/
def drillCheck (w : W) : Nat :=
  match w.ptn.hello with
  | some h =>
    if w.ptnState ≠ 4 ∨ h.state ≠ 3 then 1
    else if h.serial ≠ w.patSerial then 3
    else if w.bit PTN_STATUS_mirror_stale ∨ tst h.flags 1 ∨ !w.bit PTN_STATUS_link_up then 4
    else if w.ptn.acked ≠ w.ptn.sent then 2 else 0
  | none => 1

/-- The sequence begins, or drill_skipped is set. -/
def drillBegin (w : W) : W :=
  match w.drillCheck with
  | 0 =>
    let t := w.swapT
    ((w.setPtn { w.ptn with swapAt := some t }).ptnSet 6).ptnSend 0x16 (beStamp t)
  | r => (w.ev PTN_EVENT_drill_skipped 0).ptnEnds 1 r

end W

end Sys2Proof.Machine
end

