-- ==== Sys2Proof/Machine/Journeyman.lean ====
section
/-! DEFINITION. The commands of the Journeyman (R422 to R436). -/

namespace Sys2Proof.Machine

/-- HELLO_SEND: every hb_ms on both paths (R423). -/
def execHelloSend (t : Nat) (s : State) : Host.Outcome State Fault Refusal :=
  run true "HELLO_SEND" (fun w =>
    let w := w.at_ t
    if w.serves && w.ptnState != 0 && decide (w.ptn.helloUp + w.hbMs * 1000000 ≤ w.tb.up) then
      (w.setPtn { w.ptn with helloUp := w.tb.up }).ptnSend 0x10 (helloBytes w.ownHello)
    else w) s

/-- A partner message of a kind with a payload of `len` bytes acted on. -/
def W.onPtn (w : W) (m : BrdMsg) (kind : Nat) (ok : Nat → Bool) (f : W → List Byte → W) : W :=
  match (w.at_ m.t).ptnAccept m kind with
  | (w, some b) => if ok b.length then f w b else w
  | (w, none) => w

/-- HELLO_RX (R425, R429, R432). -/
def execHelloRx (m : BrdMsg) (s : State) : Host.Outcome State Fault Refusal :=
  run true "HELLO_RX" (fun w => w.onPtn m 0x10 (· == 32) (fun w b => w.helloRx m.link b)) s

/-- PARTNER_LOST: no HELLO on either path for miss × hb_ms (R425, R429). -/
def execPartnerLost (t : Nat) (s : State) : Host.Outcome State Fault Refusal :=
  run true "PARTNER_LOST" (fun w =>
    let w := w.at_ t
    let link := w.bit PTN_STATUS_link_up
    let net := w.bit PTN_STATUS_net_heard
    let late (u : Nat) : Bool := decide (u + w.quietNs ≤ w.tb.up)
    if w.serves && (link || net) && (!link || late w.ptn.linkUp) && (!net || late w.ptn.netUp) then
      let w := if link then w.pathLost true else w
      let w := if net then w.pathLost false else w
      w.ptnUnheard
    else w) s

/-- PAIR_PATH_LOST: no HELLO on one path for miss × hb_ms (R432). -/
def execPairPathLost (link : Bool) (t : Nat) (s : State) : Host.Outcome State Fault Refusal :=
  run true "PAIR_PATH_LOST" (fun w =>
    let w := w.at_ t
    let heard := if link then w.bit PTN_STATUS_link_up else w.bit PTN_STATUS_net_heard
    let last := if link then w.ptn.linkUp else w.ptn.netUp
    if w.serves && heard && decide (last + w.quietNs ≤ w.tb.up) then
      let w := w.pathLost link
      if !w.bit PTN_STATUS_link_up && !w.bit PTN_STATUS_net_heard then w.ptnUnheard else w
    else w) s

/-- SEEK_TIMEOUT: no partner heard for seek_s (R425). -/
def execSeekTimeout (t : Nat) (s : State) : Host.Outcome State Fault Refusal :=
  run true "SEEK_TIMEOUT" (fun w =>
    let w := w.at_ t
    if w.serves && w.ptnState == 1 && !w.bit PTN_STATUS_link_up && !w.bit PTN_STATUS_net_heard
        && decide (w.ptn.since + max 1 (w.get PTN_CFG_seek_s) * 1000000000 ≤ w.tb.up)
    then w.termUp.ptnSet 5 else w) s

/-- MIRROR_SEND: the next message of items that wait (R426). -/
def execMirrorSend (t : Nat) (s : State) : Host.Outcome State Fault Refusal :=
  run true "MIRROR_SEND" (fun w => let w := w.at_ t; if w.mirrors then w.mirrorNext else w) s

/-- MACC_MIRROR: the accumulators, every 1 s (R426). -/
def execMaccMirror (t : Nat) (s : State) : Host.Outcome State Fault Refusal :=
  run true "MACC_MIRROR" (fun w =>
    let w := w.at_ t
    if w.mirrors && decide (w.ptn.accUp + 1000000000 ≤ w.tb.up) then
      (w.setPtn { w.ptn with accUp := w.tb.up }).mirrorSend [⟨7, 0, w.accItem, false⟩]
    else w) s

/-- MIRROR_RX (R426, R427). -/
def execMirrorRx (m : BrdMsg) (s : State) : Host.Outcome State Fault Refusal :=
  run true "MIRROR_RX" (fun w => w.onPtn m 0x11 (fun n => decide (4 ≤ n)) (fun w b => w.mirrorRx b)) s

/-- MIRROR_ACK_RX (R426). -/
def execMirrorAckRx (m : BrdMsg) (s : State) : Host.Outcome State Fault Refusal :=
  run true "MIRROR_ACK_RX" (fun w => w.onPtn m 0x12 (· == 4) (fun w b =>
    if 4 ≤ w.ptnState then (w.setPtn { w.ptn with acked := be b 0 4 }).set PTN_ACK_v (be b 0 4) else w)) s

/-- SYNC_REQ_RX: a full copy starts, in place of what waits (R426). -/
def execSyncReqRx (m : BrdMsg) (s : State) : Host.Outcome State Fault Refusal :=
  run true "SYNC_REQ_RX" (fun w => w.onPtn m 0x13 (· == 0) (fun w _ =>
    if w.mirrors then w.setPtn { w.ptn with queue := w.fullCopy, copying := true, copySeq := w.ptn.sent } else w)) s

/-- FULL_COPY_DONE: every item of the copy has been sent, and SYNC_DONE follows (R426). -/
def execFullCopyDone (t : Nat) (s : State) : Host.Outcome State Fault Refusal :=
  run true "FULL_COPY_DONE" (fun w =>
    let w := w.at_ t
    if w.mirrors && w.ptn.copying && !(w.ptn.queue.any (·.copy)) then
      ((w.setPtn { w.ptn with copying := false }).ptnSend 0x14 (beBytes 4 w.ptn.copySeq)).ev PTN_EVENT_sync_done 0
    else w) s

/-- SYNC_DONE_RX: with every item applied the member is STANDBY; without, it asks again (R425). -/
def execSyncDoneRx (m : BrdMsg) (s : State) : Host.Outcome State Fault Refusal :=
  run true "SYNC_DONE_RX" (fun w => w.onPtn m 0x14 (· == 4) (fun w b =>
    if w.ptnState ≠ 2 then w
    else
      let whole := match w.ptn.applied with
        | some a => decide ((a + 2 ^ 32 - be b 0 4) % 2 ^ 32 < 2 ^ 31)
        | none => false
      if whole then
        let w := ((w.set PTN_STATUS_synced 1).set PTN_STATUS_mirror_stale 0).ev PTN_EVENT_sync_done 0
        ((w.setPtn { w.ptn with full := true }).ptnSet 3).ptnEnds 3 0
      else w.askCopy)) s

/-- STOP_RX (R425, R429, R436). -/
def execStopRx (m : BrdMsg) (s : State) : Host.Outcome State Fault Refusal :=
  run true "STOP_RX" (fun w => w.onPtn m 0x15 (· == 4) (fun w _ => w.ptnStops)) s

/-- SWAP_RX: the instant T at which this member becomes active (R425, R433). -/
def execSwapRx (m : BrdMsg) (s : State) : Host.Outcome State Fault Refusal :=
  run true "SWAP_RX" (fun w => w.onPtn m 0x16 (· == 10) (fun w b =>
    if w.ptnState = 3 ∧ be b 6 4 ≤ 999999999 then w.setPtn { w.ptn with swapAt := some (be b 0 6 * 1000000000 + be b 6 4) } else w)) s

/-- SWAP_INSTANT: at T the standby acts as in R430 and is ACTIVE (R433 step 3). -/
def execSwapInstant (t : Nat) (s : State) : Host.Outcome State Fault Refusal :=
  run true "SWAP_INSTANT" (fun w =>
    let w := w.at_ t
    match w.ptn.swapAt with
    | some x => if w.serves && w.ptnState == 3 && decide (x ≤ w.ns) then w.takeover 4 else w
    | none => w) s

/-- SWAP_HANDOVER: at T + 5 µs the former active member gates its roles and is STANDBY (R433 step 4). -/
def execSwapHandover (t : Nat) (s : State) : Host.Outcome State Fault Refusal :=
  run true "SWAP_HANDOVER" (fun w =>
    let w := w.at_ t
    match w.ptn.swapAt with
    | some x =>
      if w.serves && w.ptnState == 6 && decide (x + 5000 ≤ w.ns) then
        (w.setPtn { w.ptn with
          swapAt := none
          drill := some x
          full := true
          asked := true
          applied := none
          queue := []
          copying := false }).ptnSet 3
      else w
    | none => w) s

/-- DRILL_CHECK: no HELLO with state 4 by T + 100 ms, so this member takes over again (R433 step 5). Its term passes over the
one that the former standby took at T, so that the former standby loses. -/
def execDrillCheck (t : Nat) (s : State) : Host.Outcome State Fault Refusal :=
  run true "DRILL_CHECK" (fun w =>
    let w := w.at_ t
    match w.ptn.drill with
    | some x =>
      if w.serves && w.isStandby && decide (x + 100000000 ≤ w.ns) then
        ((w.termUp.takeover 5).ev PTN_EVENT_drill_fail 0).ptnEnds 1 4
      else w
    | none => w) s

/-- DRILL_DUE: every interval_d days at at_min of the RTC's day (R433). -/
def execDrillDue (t : Nat) (s : State) : Host.Outcome State Fault Refusal :=
  run true "DRILL_DUE" (fun w =>
    let w := w.at_ t
    let day := w.rtc.secs / 86400
    let every := w.get PTN_DRILL_interval_d
    let due := match w.ptn.drillDay with | some d => decide (d + every ≤ day) | none => true
    if w.serves && w.ptnState != 0 && decide (0 < every) && due
        && w.rtc.secs % 86400 / 60 == min 1439 (w.get PTN_DRILL_at_min) then
      let w := w.setPtn { w.ptn with drillDay := some day }
      if 4 ≤ w.ptnState then w.drillBegin else w
    else w) s

/-- PTN_SWAP: the sequence starts at once (R433). -/
def execPtnSwap (s : State) : Host.Outcome State Fault Refusal :=
  runL true "PTN_SWAP" (fun w => w.ptnCommand 1 W.drillBegin) s

/-- BLOB_SYNC: the key-blob region goes to the standby (R426). -/
def execBlobSync (s : State) : Host.Outcome State Fault Refusal :=
  runL true "BLOB_SYNC" (fun w => w.ptnCommand 2 (fun w =>
    let same := match w.ptn.hello with | some h => h.serial == w.patSerial | none => true
    if w.ptnState ≠ 4 then w.ptnDone 1
    else if !same then w.ptnDone 3
    else if !w.bit PTN_STATUS_link_up then w.ptnDone 4
    else if !w.blobOk then w.ptnDone 5
    else w.setPtn { w.ptn with queue := w.ptn.queue ++ w.blobItems false })) s

/-- BLOB_SYNC_DONE: every chunk has been sent. -/
def execBlobSyncDone (t : Nat) (s : State) : Host.Outcome State Fault Refusal :=
  run true "BLOB_SYNC_DONE" (fun w =>
    let w := w.at_ t
    if w.ptn.cmd = 2 ∧ !(w.ptn.queue.any (·.kind == 8)) then w.ptnDone 0 else w) s

/-- PTN_RESYNC: the standby asks for a full copy (R426, R432). -/
def execPtnResync (s : State) : Host.Outcome State Fault Refusal :=
  runL true "PTN_RESYNC" (fun w => w.ptnCommand 3 (fun w =>
    let same := match w.ptn.hello with | some h => h.serial == w.patSerial | none => true
    if !w.isStandby then w.ptnDone 1
    else if !same then w.ptnDone 3
    else if !w.bit PTN_STATUS_link_up then w.ptnDone 4
    else w.askCopy)) s

/-- TAKE (R429). -/
def execTake (s : State) : Host.Outcome State Fault Refusal :=
  runL true "TAKE" (fun w => w.ptnCommand 4 (fun w => if w.serves && w.mayTake then (w.takeover 5).ptnDone 0 else w.ptnDone 1)) s

/-- PTN_ENABLE_WRITE: a write of PTN_CTRL (R425, R428). -/
def execPtnEnableWrite (v : W32) (s : State) : Host.Outcome State Fault Refusal :=
  runL true "PTN_ENABLE_WRITE" (fun w =>
    let w := ({ w with regs := w.regs.busWrite PTN_CTRL_enable.addr v } : W).dirty
    if !w.serves then w
    else if v.getLsbD 0 && w.ptnState == 0 then w.ptnSet 1
    else w.ptnSet w.ptnState) s

end Sys2Proof.Machine
end

