-- ==== Sys2Proof/Machine/Lamplighter.lean ====
section
/-! DEFINITION. The commands of the Lamplighter (R198 to R222). -/

namespace Sys2Proof.Machine

/-- FIELD_CYCLE_DONE. -/
def execFieldCycleDone (t : Nat) (s : State) : Host.Outcome State Fault Refusal :=
  run true "FIELD_CYCLE_DONE" (fun w =>
    let w := w.at_ t
    if w.lmpOn && w.lmp.busy then
      let w := w.setLmp { w.lmp with busy := false }
      (w.set LMP_CYCLE_CNT_v (w.get LMP_CYCLE_CNT_v + 1)).tally 0x80
    else w) s

/-- GRID_RESPONSE_CMD: the decision (R213, R222). -/
def execGridResponseCmd (t : Nat) (s : State) : Host.Outcome State Fault Refusal :=
  run true "GRID_RESPONSE_CMD" (fun w =>
    let w := (w.at_ t).lmpFlush
    if !w.lmpOn then w
    else match w.headOf 0x08 0x0A with
      | some ⟨.bytes b, _, _⟩ =>
        if le b 0 1 != 1 && le b 0 1 != 2 then w
        else
          let w := ((w.popQ 0x08 0x0A).cryFlush).tally 0x81
          let n := le b 1 1
          if !w.bit LMP_CTRL_grid_enable then w
          else if n = 0 ∨ !w.bit (LMP_GR0_enable (n - 1)) then w.ev LMP_EVENT_gr_unconfigured 0
          else if tst (le b 7 1) 0 ∧ !w.bit (LMP_GR0_accept_fanned (n - 1)) then w.ev LMP_EVENT_fanned_refused 0
          else if le b 0 1 = 1 then
            ((w.setGr n 1).setLmp { w.lmp with raised := tblPut n w.tb.up w.lmp.raised }).decision
          else if w.grState n = 1 then
            (if w.bit (LMP_GR0_latch (n - 1)) then w else w.setGr n 2).decision
          else w
      | _ => w) s

/-- CONTACTOR_DEFERRED (R217). -/
def execContactorDeferred (k t : Nat) (s : State) : Host.Outcome State Fault Refusal :=
  run (wfContactorDeferred k) "CONTACTOR_DEFERRED" (fun w =>
    let w := w.at_ t
    let (want, _) := w.conWant k
    if w.lmpOn && w.lmp.conWait.contains k && want != w.conOn k && w.conFree k then w.conSet k want else w) s

/-- LEVEL_ORDER (R219). -/
def execLevelOrder (t : Nat) (s : State) : Host.Outcome State Fault Refusal :=
  run true "LEVEL_ORDER" (fun w =>
    let w := (w.at_ t).lmpFlush
    if !w.lmpOn then w
    else match w.headOf 0x08 0x0A with
      | some ⟨.bytes b, _, _⟩ => if le b 0 1 = 3 then ((w.popQ 0x08 0x0A).cryFlush).levelOrder b else w
      | _ => w) s

/-- ORDER_LOCAL_APPLY (R219). -/
def execOrderLocalApply (t : Nat) (s : State) : Host.Outcome State Fault Refusal :=
  run true "ORDER_LOCAL_APPLY" (fun w =>
    let w := w.at_ t
    if w.lmpOn then w.ordersDue else w) s

/-- ASTRO_COMPUTE: at a new local day, and after a write of location or offset (R202). -/
def execAstroCompute (t : Nat) (s : State) : Host.Outcome State Fault Refusal :=
  run true "ASTRO_COMPUTE" (fun w =>
    let w := w.at_ t
    if w.lmpOn then w.astroCheck w.ns else w) s

/-- LOAD_ALL (R207). -/
def execLoadAll (s : State) : Host.Outcome State Fault Refusal :=
  runL true "LOAD_ALL" (fun w =>
    if !w.lmpOn then w
    else if !w.fieldBaseOk then w.lmpDone 4
    else
      let r : W × Bool := (upTo w.lanSum).foldl (fun (r : W × Bool) i =>
        let (w, ok) := r.1.loadEntry i
        (w, r.2 && ok)) (w, true)
      let w := (r.1.set LMP_STATUS_loaded 1).fieldTold (upTo w.lanSum)
      if r.2 then w.lmpDone 0 else (w.ev LMP_EVENT_field_err 0).lmpDone 2) s

/-- LOAD_ONE (R207). -/
def execLoadOne (index : Nat) (s : State) : Host.Outcome State Fault Refusal :=
  runL (wfLoadOne index) "LOAD_ONE" (fun w =>
    if !w.lmpOn then w
    else if w.lanSum ≤ index then w.lmpDone 1
    else if !w.fieldBaseOk then w.lmpDone 4
    else
      let (w, ok) := w.loadEntry index
      let w := w.fieldTold [index]
      if ok then w.lmpDone 0 else (w.ev LMP_EVENT_field_err 0).lmpDone 2) s

/-- GR_RELEASE (R213). -/
def execGrRelease (n : Nat) (s : State) : Host.Outcome State Fault Refusal :=
  runL (wfGrRelease n) "GR_RELEASE" (fun w =>
    if !w.lmpOn then w
    else if n = 0 ∨ 255 < n then w.lmpDone 1
    else
      let w := w.lmpDone 0
      if w.grState n = 1 then (w.setGr n 2).follow [] else w) s

/-- STAGE_CLEAR (R213). -/
def execStageClear (s : State) : Host.Outcome State Fault Refusal :=
  runL true "STAGE_CLEAR" (fun w =>
    if !w.lmpOn then w
    else
      let (w, left) := (w.lmpDone 0).grIdle w.grLive
      w.follow left) s

/-- SENSOR_EVENT (R209). -/
def execSensorEvent (t : Nat) (s : State) : Host.Outcome State Fault Refusal :=
  run true "SENSOR_EVENT" (fun w =>
    let w := w.at_ t
    if !w.lmpOn then w
    else match w.headOf 0x0B 0x0A with
      | some u =>
        let w := w.popQ 0x0B 0x0A
        match u.body with
        | .bytes b => if u.aborted then w else w.sensorEvent b
        | _ => w
      | none => w) s

/-- LMP_INJECT: word 7 injects the record (R208). -/
def execLmpInject (v : W32) (s : State) : Host.Outcome State Fault Refusal :=
  runL true "LMP_INJECT" (fun w =>
    if !w.lmpOn then w
    else
      let b := ((upTo 7).map (fun k => leBytes 4 (w.lmp.inject.getD k 0).toNat)).flatten ++ leBytes 4 v.toNat
      if le b 0 1 = 0x20 then w.sensorEvent b else w) s

/-- GR_HOLD_EXPIRE (R213). -/
def execGrHoldExpire (n t : Nat) (s : State) : Host.Outcome State Fault Refusal :=
  run (wfGrHoldExpire n) "GR_HOLD_EXPIRE" (fun w =>
    let w := w.at_ t
    let since := (tblGet w.lmp.raised n).getD 0
    if w.lmpOn && w.grState n == 2 && decide (since + 1000000000 * w.get (LMP_GR0_hold_s (n - 1)) ≤ w.tb.up) then
      (w.setGr n 0).follow [w.grPair n]
    else w) s

/-- TRACK_EXPIRE (R212). -/
def execTrackExpire (n t : Nat) (s : State) : Host.Outcome State Fault Refusal :=
  run (wfTrackExpire n) "TRACK_EXPIRE" (fun w =>
    let w := w.at_ t
    match tblGet w.lmp.tracks n with
    | some k =>
      if w.lmpOn && decide (k.born + 1000000000 * max 1 (w.get LMP_TRACK_CFG_track_max_s) < w.tb.up) then
        (w.setLmp { w.lmp with tracks := tblDel n w.lmp.tracks }).showTracks
      else w
    | none => w) s

/-- LMP_CTRL_WRITE: grid_enable 0 returns every entry to IDLE, enable 0 de-energises the drives (R213, R217). -/
def execLmpCtrlWrite (v : W32) (s : State) : Host.Outcome State Fault Refusal :=
  runL true "LMP_CTRL_WRITE" (fun w =>
    if !w.pat.active.hasEngine 5 then w
    else
      let n := v.toNat
      let w := ((w.set LMP_CTRL_enable n).set LMP_CTRL_lift_enable (n / 2)).set LMP_CTRL_grid_enable (n / 4)
      let w := (w.lmpTold LMP_CTRL_enable.addr).dirty
      let (w, left) := if tst n 2 then (w, []) else w.grIdle w.grLive
      if !w.lmpOn then w
      else if !left.isEmpty then w.follow left
      else w.conUpdate) s

end Sys2Proof.Machine
end

