-- ==== Sys2Proof/Machine/Loader.lean ====
section
/-! DEFINITION. The pattern loader's commands (R51 to R58). -/

namespace Sys2Proof.Machine

/-- VERIFY: the source read once and checked; the verdict comes with VERIFY_DONE (R48, R52, R56). -/
def execVerify (s : State) : Host.Outcome State Fault Refusal :=
  runL true "VERIFY" (fun w =>
    if w.patState ≠ 0 then w.patErr 0x18
    else
      let addr := w.get PAT_SRC_LO_v + 2 ^ 32 * w.get PAT_SRC_HI_v
      let len := w.get PAT_SRC_LEN_v
      let v := w.verdict false addr len (w.get PAT_MIN_SERIAL_v) (w.source addr len)
      ((w.setPat { w.pat with verdict := some v }).setPatState 1).patErr 0) s

/-- VERIFY_DONE: VERIFIED with the inactive banks written, or IDLE with the error (R56, R57). -/
def execVerifyDone (t : Nat) (s : State) : Host.Outcome State Fault Refusal :=
  run true "VERIFY_DONE" (fun w =>
    let w := w.at_ t
    if w.patState ≠ 1 then w
    else match w.pat.verdict with
      | some (.ok p) => (w.setPat { w.pat with verdict := none, inactive := some p }).setPatState 2
      | some (.bad code sec off) =>
        let w := ((w.setPat { w.pat with verdict := none }).setPatState 0).patErr code
        (w.set PAT_ERR_INFO_section sec).set PAT_ERR_INFO_offset off
      | none => w.setPatState 0) s

/-- ARM: the barrier instant taken from PAT_BARRIER; one that has passed falls due at once (R51, R56). -/
def execArm (t : Nat) (s : State) : Host.Outcome State Fault Refusal :=
  runL true "ARM" (fun w =>
    let w := w.at_ t
    if w.patState ≠ 2 ∨ w.op = .holding then w.patErr 0x18
    else if 999999999 < w.get PAT_BARRIER_NS_v then w.patErr 0x0C
    else
      let sec := w.get PAT_BARRIER_SEC_LO_v + 2 ^ 32 * w.get PAT_BARRIER_SEC_HI_v
      let at_ := sec * 1000000000 + w.get PAT_BARRIER_NS_v
      ((w.setPat { w.pat with barrier := max w.ns at_ }).setPatState 3).patErr 0) s

/-- CANCEL: the inactive banks discarded (R56). -/
def execCancel (s : State) : Host.Outcome State Fault Refusal :=
  runL true "CANCEL" (fun w =>
    if w.patState = 2 ∨ w.patState = 3 then ((w.setPat { w.pat with inactive := none }).setPatState 0).patErr 0
    else w.patErr 0x18) s

/-- PATTERN_BARRIER: the barrier instant is reached (R51, R53, R56). -/
def execPatternBarrier (t : Nat) (s : State) : Host.Outcome State Fault Refusal :=
  run true "PATTERN_BARRIER" (fun w => (w.at_ t).patBarrier) s

/-- DEFERRED_BARRIER: a deferred load switches once SERVING has resumed (R31, R56). -/
def execDeferredBarrier (t : Nat) (s : State) : Host.Outcome State Fault Refusal :=
  run true "DEFERRED_BARRIER" (fun w => (w.at_ t).patBarrier) s

/-- HOLD_END: ingress resumes, the trial begins, and operations that waited execute (R53, R56, R177). -/
def execHoldEnd (t : Nat) (s : State) : Host.Outcome State Fault Refusal :=
  run true "HOLD_END" (fun w =>
    let w := w.at_ t
    if w.patState = 4 then W.gopRelease w.cry.ops.length (w.setPatState 5) else w) s

/-- COMMIT: the save of R390, and the copy into the other slot (R54, R55). -/
def execCommit (t : Nat) (s : State) : Host.Outcome State Fault Refusal :=
  runL true "COMMIT" (fun w =>
    let w := w.at_ t
    if w.patState ≠ 5 ∨ w.pat.committing then w.patErr 0x18
    else ((w.setPat { w.pat with committing := true }).patErr 0).saveCommit) s

/-- COMMIT_DONE: the copy verified and the marker switched, once the settings save is done (R55, R390). Where the marker
names no slot the copy goes to slot 0 (DESIGN CHOICE). -/
def execCommitDone (t : Nat) (s : State) : Host.Outcome State Fault Refusal :=
  run true "COMMIT_DONE" (fun w =>
    let w := w.at_ t
    let saving := w.sys.commitNext || (match w.sys.saving with | some x => x.commit | none => false)
    if w.patState ≠ 5 ∨ !w.pat.committing ∨ saving ∨ !w.mainOn then w
    else
      let n := match w.pat.marker with | some m => 1 - m | none => 0
      let w := w.wrBytes (W.slotAddr n) w.pat.active.raw
      let w := w.setPat { w.pat with marker := some n, savedMin := w.get PAT_MIN_SERIAL_v, committing := false, inactive := none }
      (w.setPatState 0).patEv PAT_EVENT_committed) s

/-- REVERT: refused once a COMMIT has been accepted (R54, R56). -/
def execRevert (t : Nat) (s : State) : Host.Outcome State Fault Refusal :=
  runL true "REVERT" (fun w =>
    let w := w.at_ t
    if w.patState ≠ 5 ∨ w.pat.committing then w.patErr 0x18 else (w.patRevert.patErr 0).saveReleased) s

/-- The trial timeout judged against the value in force (R54). -/
def W.trialJudge (w : W) : W :=
  let lim := w.get PAT_TRIAL_TIMEOUT_seconds
  if w.patState = 5 ∧ !w.pat.committing ∧ lim ≠ 0 ∧ w.pat.trialFrom + lim * 1000000000 ≤ w.tb.up then
    w.patRevert.saveReleased
  else w

/-- TRIAL_TIMEOUT. -/
def execTrialTimeout (t : Nat) (s : State) : Host.Outcome State Fault Refusal :=
  run true "TRIAL_TIMEOUT" (fun w => (w.at_ t).trialJudge) s

/-- PAT_TRIAL_TIMEOUT_WRITE: a value that the time since the barrier has reached reverts at once (R54). -/
def execPatTrialTimeoutWrite (v : W32) (t : Nat) (s : State) : Host.Outcome State Fault Refusal :=
  runL true "PAT_TRIAL_TIMEOUT_WRITE" (fun w =>
    let w := w.at_ t
    ((w.set PAT_TRIAL_TIMEOUT_seconds v.toNat).dirty).trialJudge) s

end Sys2Proof.Machine
end

