-- ==== Sys2Proof/Machine/Locksmith.lean ====
section
/-! DEFINITION. The Locksmith's commands (R361 to R381), but for those of the tamper latch, which can change the module's
state. -/

namespace Sys2Proof.Machine

/-- KEY_LOAD (R369). -/
def execKeyLoad (slot : Nat) (s : State) : Host.Outcome State Fault Refusal :=
  runL (wfKeyLoad slot) "KEY_LOAD" (fun w => w.keyCmd (fun w => w.keyLoad slot)) s

/-- UNLOAD: a working slot emptied (R381); an anchor slot answers SLOT. -/
def execUnload (slot : Nat) (s : State) : Host.Outcome State Fault Refusal :=
  runL (wfUnload slot) "UNLOAD" (fun w =>
    w.keyCmd (fun w => if 56 ≤ slot then w.keyDone 0x02 else (w.setSlot slot KeySlot.empty).keyDone 0)) s

/-- IMPORT (R370). -/
def execImportKey (machine : Bool) (slot target : Nat) (s : State) : Host.Outcome State Fault Refusal :=
  runL (wfImportKey slot target) "IMPORT" (fun w => w.keyPriv machine (fun w => w.keyImport slot target)) s

/-- EXPORT (R371). -/
def execExportKey (machine : Bool) (slot aux : Nat) (s : State) : Host.Outcome State Fault Refusal :=
  runL (wfExportKey slot aux) "EXPORT" (fun w => w.keyPriv machine (fun w => w.keyExport slot aux)) s

/-- REWRAP_NEXT (R371). -/
def execRewrapNext (machine : Bool) (aux : Nat) (s : State) : Host.Outcome State Fault Refusal :=
  runL (wfRewrapNext aux) "REWRAP_NEXT" (fun w => w.keyPriv machine (fun w => w.keyRewrap aux)) s

/-- CHALLENGE (R374). -/
def execChallenge (s : State) : Host.Outcome State Fault Refusal :=
  runL true "CHALLENGE" (fun w => w.keyCmd W.keyChallenge) s

/-- AUTHORISE (R374). -/
def execAuthorise (s : State) : Host.Outcome State Fault Refusal :=
  runL true "AUTHORISE" (fun w => w.keyCmd W.keyAuthorise) s

/-- LC_CHANGE (R364, R365). -/
def execLcChange (machine : Bool) (target : Nat) (s : State) : Host.Outcome State Fault Refusal :=
  runL (wfLcChange target) "LC_CHANGE" (fun w => w.keyPriv machine (fun w => w.lcChange target)) s

/-- ANCHOR_WRITE (R367). -/
def execAnchorWrite (machine : Bool) (entry : Nat) (s : State) : Host.Outcome State Fault Refusal :=
  runL (wfAnchorWrite entry) "ANCHOR_WRITE" (fun w => w.keyPriv machine (fun w => w.anchorWrite entry)) s

/-- OP_HMAC (R373). -/
def execOpHmac (slot : Nat) (s : State) : Host.Outcome State Fault Refusal :=
  runL (wfOpHmac slot) "OP_HMAC" (fun w => w.keyCmd (fun w => w.opHmac slot)) s

/-- OP_GCM_ENC (R373). -/
def execOpGcmEnc (slot : Nat) (s : State) : Host.Outcome State Fault Refusal :=
  runL (wfOpGcmEnc slot) "OP_GCM_ENC" (fun w => w.keyCmd (fun w => w.opGcmEnc slot)) s

/-- OP_GCM_DEC (R373). -/
def execOpGcmDec (slot : Nat) (s : State) : Host.Outcome State Fault Refusal :=
  runL (wfOpGcmDec slot) "OP_GCM_DEC" (fun w => w.keyCmd (fun w => w.opGcmDec slot)) s

/-- OP_VERIFY (R373). -/
def execOpVerify (slot : Nat) (s : State) : Host.Outcome State Fault Refusal :=
  runL (wfOpVerify slot) "OP_VERIFY" (fun w => w.keyCmd (fun w => w.opVerify slot)) s

/-- GRANT_EXPIRE: a grant of 300 s lapses (R374). -/
def execGrantExpire (t : Nat) (s : State) : Host.Outcome State Fault Refusal :=
  run true "GRANT_EXPIRE" (fun w =>
    let w := w.at_ t
    match w.key.grant with
    | some (_, _, u) =>
      if w.mainOn && decide (u + 300000000000 ≤ w.tb.up) then (w.setGrant none).evRec KEY_EVENT_grant_expired 0 else w
    | none => w) s

end Sys2Proof.Machine
end

