-- ==== Sys2Proof/Machine/LnvOps.lean ====
section
/-! DEFINITION. The lane voter's shared operations: the vote, outvotes, the safe stop, and what an issued request does to
the memories (R309 to R318, R321 to R323, R414). -/

namespace Sys2Proof

/-- Nanoseconds from the issue of a request to its response (R414). -/
opaque Config.busLatency : Nat → Nat

/-- The values of the sampler's 8-bit LFSR, by step; the manual gives neither its polynomial nor its seed (R414). -/
opaque Config.lfsrByte : Nat → Nat

/-- Instructions a hart has retired between two delivery points (R411). -/
opaque Config.retired : Nat → Nat

/-- Which of its queues' head units a block was reading when an uncorrectable error met it (R327). -/
opaque Config.unitRead : Nat → Nat

/-- What holds an address of the Larder's system area: the Assayer's save copy A (1) or B (2), the Cobbler's history of
indicator i (3 + i), or anything else (R322, R303, R418). -/
opaque Config.saveCopyAt : Nat → Nat

/-- What an atomic operation of no kind that this model names leaves in memory. -/
opaque Config.amoLeaves : Nat → Nat

end Sys2Proof

namespace Sys2Proof.Machine

namespace W

def setLnv (w : W) (x : LnvState) : W := { w with lnv := x }

/-! ## Lanes -/

/-- LNV_STATUS's field of a lane: 0 RUN, 1 STOPPED, 2 SELFTEST, 3 COPY, 4 PAUSE, 5 FENCED. -/
def laneFld (l : Nat) : Fld := if l = 0 then LNV_STATUS_lane_a else if l = 1 then LNV_STATUS_lane_b else LNV_STATUS_lane_c
def lane (w : W) (l : Nat) : Nat := w.get (laneFld l)
def setLane (w : W) (l n : Nat) : W := w.set (laneFld l) n

/-- Lanes that run: none where the lanes are off, halted, held by SLEEP entry or paused (R314, R317, R398). -/
def running (w : W) : List Nat :=
  if !w.mainOn || w.op == .stopped || w.sys.hold.isSome && w.sys.hold != some 5 || w.sys.entering
    || (upTo 3).any (fun l => w.lane l == 4) then []
  else (upTo 3).filter (fun l => w.lane l == 0)

/-- The lane that a resync is bringing back. -/
def resyncLane (w : W) : Option Nat := (upTo 3).find? (fun l => w.lane l == 2 || w.lane l == 3 || w.lane l == 4)

def lnvDone (w : W) (result : Nat) : W :=
  ((w.set LNV_CMD_STATUS_busy 0).set LNV_CMD_STATUS_done 1).set LNV_CMD_STATUS_result result

/-! ## The vote (R311) -/

/-- What the voter decides on a lane's request: the request to issue, the lane outvoted with its kind and request address, a
safe stop, and the entry that stays held. -/
structure Vote where
  issue : Option Req
  out : Option (Nat × Nat × Nat)
  stop : Bool
  held : Option HeldReq

def quiet : Vote := ⟨none, none, false, none⟩

/-- The kind of an outvote by the request: 0 write, 1 read. -/
def outKind (r : Req) : Nat := match r.kind with | .fetch => 1 | .load => 1 | .store => 0 | .atomic => 0

/-- Two lanes' requests that agree. -/
def agreed (l : List (Nat × Req)) : Option Req :=
  match l.find? (fun x => decide (2 ≤ (l.filter (fun y => y.2 == x.2)).length)) with
  | some x => some x.2
  | none => none

/-- The vote on an entry, with the lanes that run. -/
def judgeVote (run : List Nat) (h : HeldReq) : Vote :=
  let l := h.arrived.filter (fun x => run.contains x.1)
  match run.length, agreed l with
  | 3, some r =>
    let issue := if h.issued then none else some r
    if l.length = 3 then
      match l.find? (fun x => x.2 != r) with
      | some x => ⟨issue, some (x.1, outKind r, r.addr), false, none⟩
      | none => ⟨issue, none, false, none⟩
    else ⟨issue, none, false, some { h with issued := true }⟩
  | 3, none => if l.length = 3 then ⟨none, none, true, none⟩ else ⟨none, none, false, some h⟩
  | 2, some r => ⟨if h.issued then none else some r, none, false, none⟩
  | 2, none => if l.length = 2 then ⟨none, none, true, none⟩ else ⟨none, none, false, some h⟩
  | _, _ => quiet

/-- The copy of a lane's request as it leaves the lane: a pending injection flips bit 0 of the data of a store (R463). -/
def injected (w : W) (l : Nat) (r : Req) : Req :=
  if w.lnv.inject = some l ∧ r.kind = .store then { r with data := r.data ^^^ 1 } else r

/-- The lanes' requests that have come, by lane. -/
def arrivals (a b c : Option Req) : List (Nat × Req) :=
  (match a with | some r => [(0, r)] | none => []) ++ (match b with | some r => [(1, r)] | none => [])
    ++ (match c with | some r => [(2, r)] | none => [])

/-- A lane's request meets the first entry of its hart that the lane has not reached, or begins one (R311): the entry as it was,
what the voter decides of it, and the entries that stay. -/
def meet (run : List Nat) (hart since l : Nat) (r : Req) : List HeldReq → HeldReq × Vote × List HeldReq
  | [] =>
    let h : HeldReq := ⟨hart, [], false, none, since⟩
    let v := judgeVote run { h with arrived := [(l, r)] }
    (h, v, v.held.toList)
  | h :: rest =>
    if h.hart == hart && !h.arrived.any (fun x => x.1 == l) then
      let v := judgeVote run { h with arrived := h.arrived ++ [(l, r)] }
      (h, v, v.held.toList ++ rest)
    else
      let (e, v, rest') := meet run hart since l r rest
      (e, v, h :: rest')

/-- A lane's request on a hart, as the voter takes it. -/
def voteOn (w : W) (hart l : Nat) (r : Req) : HeldReq × Vote × List HeldReq :=
  meet w.running hart w.tb.up l (w.injected l r) w.lnv.held

/-- Requests of a lane that has stopped count no more: an issued request that only it still owed is done with. -/
def dropLane (l : Nat) (held : List HeldReq) : List HeldReq :=
  held.filterMap (fun (h : HeldReq) =>
    if h.issued && !h.arrived.any (fun x => x.1 == l) then none
    else some { h with arrived := h.arrived.filter (fun x => x.1 != l) })

/-- What the voter decides of the requests of a hart that come, lane by lane; nothing of a lane that does not run. -/
def votes (w : W) (hart : Nat) (run : List Nat) (held : List HeldReq) : List (Nat × Req) → List Vote
  | [] => []
  | x :: rest =>
    if !run.contains x.1 then w.votes hart run held rest
    else
      let (_, v, held') := meet run hart w.tb.up x.1 (w.injected x.1 x.2) held
      v :: (if v.stop then [] else match v.out with
        | some o => w.votes hart (run.erase o.1) (dropLane o.1 held') rest
        | none => w.votes hart run held' rest)

/-- Whether the vote window of a hart's held request has passed (R311). -/
def windowDue (w : W) (h : HeldReq) : Bool :=
  w.running != [] && decide (h.since + max 1 (w.get LNV_CTRL_window_us) * 1000 ≤ w.tb.up)

/-- The entries held, replaced. -/
def keepHeld (w : W) (l : List HeldReq) : W := w.setLnv { w.lnv with held := l }

/-- The response of a request that has been issued, kept for the lane still to come (R312). -/
def keepResp (w : W) (hart : Nat) : W :=
  w.keepHeld (w.lnv.held.map (fun (h : HeldReq) =>
    if h.hart == hart && h.issued && h.resp.isNone then { h with resp := some (w.resp.data, w.resp.fault) } else h))

/-! ## Outvotes and the safe stop (R311, R314, R316, R317) -/

/-- The safe stop. -/
def safeStop (w : W) : W :=
  let w := w.setLnv { w.lnv with held := [], inject := none }
  let w := (upTo 3).foldl (fun (w : W) l => if w.lane l = 5 then w else w.setLane l 1) w
  let w := w.record 0x012 0xF (w.regs.rd LNV_LAST_lane.addr).toNat 0 0 0
  let w := (w.lastGasp w.ns).tailSave
  let w := (w.setOp .stopped).outputsOff
  w.loadDiscard

/-- Outvotes of a lane within the last hour. -/
def outsOf (w : W) (l : Nat) : List Nat :=
  ((tblGet w.lnv.outs l).getD []).filter (fun u => decide (w.tb.up < u + 3600000000000))

/-- A lane outvoted: what LNV_LAST, the counters and the record say, the lane-stop reset, and DEGRADED. -/
def outvote (w : W) (l kind hart : Nat) (addr : Option Nat) : W :=
  let w := ((w.set LNV_LAST_lane l).set LNV_LAST_kind kind).set LNV_LAST_hart hart
  let w := match addr with
    | some a => (w.set LNV_LAST_ADDR_LO_v (a % 2 ^ 32)).set LNV_LAST_ADDR_HI_v (a / 2 ^ 32)
    | none => w
  let w := ((w.bump (LNV_DIS_CNT_v l) 1).tally 6).ev LNV_EVENT_disagree 0
  let w := if kind = 2 then w.ev LNV_EVENT_timeout 0 else w
  let w := w.record 0x011 0xF (w.regs.rd LNV_LAST_lane.addr).toNat (w.get LNV_LAST_ADDR_LO_v) (w.get LNV_LAST_ADDR_HI_v) 0
  let prev := w.sys.cause
  let w := ((w.setSys { w.sys with cause := 4 }).set SYS_START_cause 4).set SYS_START_prev prev
  let outs := w.tb.up :: w.outsOf l
  let w := w.setLnv { w.lnv with
    outs := tblPut l outs w.lnv.outs
    inject := if w.lnv.inject = some l then none else w.lnv.inject
    since := w.tb.up
    passes := 0
    lines := 0 }
  let w := (w.keepHeld (dropLane l w.lnv.held)).set LNV_STATUS_mode 1
  let w :=
    if max 1 (w.get LNV_CTRL_fence_limit) ≤ outs.length then
      ((w.setLnv { w.lnv with fenced := l :: w.lnv.fenced.erase l }).setLane l 5).ev LNV_EVENT_fenced 0
    else w.setLane l (if w.bit LNV_CTRL_auto_resync then 2 else 1)
  let w := if w.op = .serving then w.setOp .degraded else w
  if w.lnv.held.any (fun h => !h.issued && h.arrived.length == 2) then w.safeStop else w

/-! ## Memory errors (R326, R327) -/

/-- The region an address lies in: 0 DRAM, 1 SRAM, 2 Larder, 3 L2. -/
def errRegion (a : Nat) : Nat := if inDram a 1 then 0 else if inSram a 1 then 1 else if inLarder a 1 then 2 else 3

/-- MEM_ERR_ADDR and MEM_ERR_INFO of an error. -/
def errInfo (w : W) (a cls block : Nat) (bad hot : Bool) : W :=
  let w := (w.set MEM_ERR_ADDR_LO_v (a % 2 ^ 32)).set MEM_ERR_ADDR_HI_v (a / 2 ^ 32)
  let w := (w.set MEM_ERR_INFO_region (errRegion a)).setB MEM_ERR_INFO_uncorrectable bad
  ((w.setB MEM_ERR_INFO_hot hot).set MEM_ERR_INFO_cls cls).set MEM_ERR_INFO_block block

/-- A corrected error; the third of a line within 24 h makes it hot. -/
def memCorrected (w : W) (a cls block : Nat) : W :=
  let line := a / 64
  let ups := w.tb.up :: ((tblGet w.fls.hot line).getD []).filter (fun u => decide (w.tb.up < u + 86400000000000))
  let hot := decide (3 ≤ ups.length)
  let w : W := { w with fls := { w.fls with hot := tblPut line (ups.take 3) w.fls.hot } }
  let w := ((w.bump (MEM_CE_CNT_v (errRegion a)) 1).tally 0x1C).errInfo a cls block false hot
  let w := w.ev MEM_EVENT_ce 0
  if hot then w.ev MEM_EVENT_hot 0 else w

/-- The unit a block was reading from the queue pool is discarded: the head of one of the queues it consumes, the one in
progress being free where it consumes several (R327). -/
def loseUnit (w : W) (block : Nat) : W :=
  match w.pat.active.queues.filter (fun i => i.consumer == block && !((w.qState i.queue).units.isEmpty)) with
  | [] => w
  | i :: is =>
    let j := ((i :: is).getD (Config.unitRead w.free % (is.length + 1)) i)
    (w.draw).popQ j.producer j.consumer

/-- An uncorrectable error in a save copy in the Larder makes the copy invalid (R327, R389): the settings copies lie at stated
addresses; where the Assayer's and the Cobbler's lie in the system area is not stated. -/
def loseCopy (w : W) (a : Nat) : W :=
  let bad (c : Option SetCopy) : Option SetCopy := c.map (fun (x : SetCopy) => { x with valid := false })
  if decide (0x20000000 ≤ a) && decide (a < 0x20500000) then { w with sys := { w.sys with copyA := bad w.sys.copyA } }
  else if decide (0x20500000 ≤ a) && decide (a < 0x20A00000) then { w with sys := { w.sys with copyB := bad w.sys.copyB } }
  else if decide (0x20A00000 ≤ a) && decide (a < 0x20F00000) then
    let k := Config.saveCopyAt a
    let w : W := { w with mtr := { w.mtr with
        copyA := if k = 1 then none else w.mtr.copyA
        copyB := if k = 2 then none else w.mtr.copyB } }
    if 3 ≤ k ∧ k < 43 then w.loseHistory (k - 3) else w
  else w

/-- An uncorrectable error: every lane has an access fault where the lanes read; a block loses the unit it read; where a
scrubber found it, the location is recorded for a later read, and no record is written. -/
def memUncorrected (w : W) (a cls block : Nat) : W :=
  let w := (w.bump (MEM_UE_CNT_v (errRegion a)) 1).errInfo a cls block true false
  let w := (w.ev MEM_EVENT_ue 0).loseCopy a
  if cls = 3 then { w with fls := { w.fls with bad := a / 8 :: w.fls.bad.erase (a / 8) } }
  else
    let w := w.record 0x050 0x10 (a % 2 ^ 32) (a / 2 ^ 32) (w.regs.rd MEM_ERR_INFO_region.addr).toNat 0
    if cls = 1 then w.accessFault
    else if decide (0x12800000 ≤ a) && decide (a < 0x13000000) then w.loseUnit block
    else w

/-! ## Memories (R15, R16, R321 to R323) -/

def overlaps (a n lo hi : Nat) : Bool := decide (a < hi) && decide (lo < a + n)

/-- Whether a lane access to memory faults. -/
def memFault (a n : Nat) (write : Bool) : Bool :=
  if inDram a n then false
  else if inSram a n then write && overlaps a n 0x12800000 0x13000000
  else if inLarder a n then
    overlaps a n 0x20F00000 0x21000000 || (write && !(decide (0x21000000 ≤ a) && decide (a + n ≤ 0x22000000)))
  else if inBootRom a n then write
  else true

/-- A lane access that faulted; in the Larder a store sets larder_wp. -/
def memRefuse (w : W) (a n : Nat) (write : Bool) : W :=
  let w := w.accessFault
  if write && inLarder a n then w.ev MEM_EVENT_larder_wp 0 else w

/-- The counts of a voted request (R411). -/
def memTally (w : W) (a n : Nat) (write : Bool) : W :=
  if inDram a n then w.tally (if write then 0x14 else 0x11)
  else if inSram a n then w.tally (if write then 0x18 else 0x17)
  else if inLarder a n && write then w.tally 0x19
  else w

/-- The bytes a store's byte enables name, written. -/
def storeBytes (w : W) (r : Req) : W :=
  (upTo r.size).foldl (fun (w : W) k =>
    if tst r.enables k then w.wr8 (r.addr + k) (BitVec.ofNat 8 (r.data / 2 ^ (8 * k))) else w) w

/-- What an atomic operation leaves, of an old value and an operand of `n` bytes. -/
def amoMem (w : W) (op : AmoOp) (n old v : Nat) : Nat :=
  let s (x : Nat) : Int := sgn (8 * n) x
  match op with
  | .and => old &&& v
  | .or => old ||| v
  | .swap => v
  | .add => (old + v) % 2 ^ (8 * n)
  | .xor => old ^^^ v
  | .min => if s old ≤ s v then old else v
  | .max => if s old ≤ s v then v else old
  | .minu => min old v
  | .maxu => max old v
  | .other => Config.amoLeaves w.free

/-- Words of 8 bytes that `n` bytes from `a` on touch. -/
def touches (a n k : Nat) : Bool := decide (a < 8 * k + 8) && decide (8 * k < a + n)

/-- A store of whole words mends them: they carry new check bits. -/
def mend (w : W) (r : Req) : W :=
  { w with fls := { w.fls with bad := w.fls.bad.filter (fun k =>
      !(decide (r.addr ≤ 8 * k) && decide (8 * k + 8 ≤ r.addr + r.size) && (upTo r.size).all (fun i => tst r.enables i))) } }

/-- A voted request to a memory; a load of a word in which a scrubber found an uncorrectable error faults (R327). -/
def memAccess (w : W) (r : Req) : W :=
  match r.kind with
  | .fetch | .load =>
    if memFault r.addr r.size false then w.memRefuse r.addr r.size false
    else if w.fls.bad.any (fun k => touches r.addr r.size k) then
      w.memUncorrected (8 * (w.fls.bad.find? (fun k => touches r.addr r.size k)).getD 0) 1 0xF0
    else
      let v := w.rdLe r.addr r.size
      ((if inPool r.addr then w.draw else w).memTally r.addr r.size false).answer v
  | .store =>
    if memFault r.addr r.size true then w.memRefuse r.addr r.size true
    else (((w.memTally r.addr r.size true).storeBytes r).mend r).answer 0
  | .atomic =>
    if memFault r.addr r.size true || !(r.size == 4 || r.size == 8) || r.addr % r.size != 0 then
      w.memRefuse r.addr r.size true
    else
      let old := w.rdLe r.addr r.size
      let v := w.amoMem r.op r.size old (r.data % 2 ^ (8 * r.size))
      let w := if r.op = .other then w.draw else w
      (((w.memTally r.addr r.size false).memTally r.addr r.size true).wrLe r.addr r.size v).answer old

/-! ## Counts and samples of issued requests (R411, R414) -/

/-- An issued request counted. -/
def countReq (w : W) (hart : Nat) (r : Req) : W :=
  let w := w.tally 0
  let w := w.tally (match r.kind with | .fetch => 1 | .load => 1 | .store => 2 | .atomic => 3)
  if r.fill then w.tally (0x0C + hart) else w

def kindNo (k : ReqKind) : Nat := match k with | .fetch => 0 | .load => 1 | .store => 2 | .atomic => 3

/-- The region of R414; none where the address lies in no region. -/
def regionNo (a n : Nat) : Option Nat :=
  if inDram a n then some 0 else if inSram a n then some 1 else if inLarder a n then some 2
  else if inRegs a n then some 3 else if inBootRom a n then some 4 else none

/-- A sample put into the buffer. -/
def putSample (w : W) (x : Sample) : W :=
  if w.bit PRF_SMP_CFG_mode ∧ 1024 ≤ w.prf.samples.length then w
  else
    let l := (x :: w.prf.samples).take 1024
    let w := ({ w with prf := { w.prf with samples := l } } : W).set PRF_SMP_STAT_held l.length
    let w := if 768 ≤ l.length then w.ev PRF_EVENT_smp_high 0 else w
    if w.bit PRF_SMP_CFG_mode ∧ l.length = 1024 then w.ev PRF_EVENT_smp_full 0 else w

/-- The sampler sees an issued request with its response: every N-th that passes the filter is taken. -/
def sampleReq (w : W) (hart : Nat) (r : Req) (pc insn stamp : Nat) : W :=
  let n := w.get PRF_SMP_CFG_n
  match regionNo r.addr r.size with
  | none => w
  | some g =>
    if n = 0 ∨ !tst (w.get PRF_SMP_CFG_kinds) (kindNo r.kind) ∨ !tst (w.get PRF_SMP_CFG_harts) hart
      ∨ !tst (w.get PRF_SMP_CFG_regions) g then w
    else if w.prf.gap + 1 < n + (if w.bit PRF_SMP_CFG_jitter then Config.lfsrByte w.prf.lfsr % 256 else 0) then
      { w with prf := { w.prf with gap := w.prf.gap + 1 } }
    else
      let w : W := { w with prf := { w.prf with gap := 0, lfsr := w.prf.lfsr + 1 } }
      let posted := r.kind = .store ∧ g < 2
      let lat := if posted then 0 else Config.busLatency w.free
      let w := if posted then w else w.draw
      let x : Sample := ⟨pc % 2 ^ 64, r.addr, insn, lat % 2 ^ 32, kindNo r.kind, hart, g, bitNat r.fill + 2 * bitNat w.resp.fault, stamp⟩
      w.putSample x

end W

end Sys2Proof.Machine
end

