-- ==== Sys2Proof/Machine/Memory.lean ====
section
/-! DEFINITION. Managed flash, scrubbers and memory errors (R324 to R327). -/

namespace Sys2Proof.Machine

namespace W

/-! ## Flash commands (R324, R325) -/

def flDone (w : W) (result : Nat) : W :=
  ((w.set MEM_FL_STATUS_busy 0).set MEM_FL_STATUS_done 1).set MEM_FL_STATUS_result result

def flBuf (w : W) : Nat := w.get MEM_FL_BUF_LO_v + 2 ^ 32 * w.get MEM_FL_BUF_HI_v

/-- Sectors of a partition: SYS 0, PED 1, USR 2. -/
def partSectors (p : Nat) : Nat := if p = 0 then 262144 else if p = 1 then 16384 else if p = 2 then 8110080 else 0

/-- Whether the lanes may use a partition, for a change or a read of it. -/
def partOk (p : Nat) (change : Bool) : Bool := p == 2 || (p == 0 && !change)

/-- A flash command: 1 READ, 2 WRITE, 3 TRIM, 4 SYNC. -/
def flCommand (w : W) (op p : Nat) : W :=
  let sector := w.get MEM_FL_SECTOR_v
  let count := w.get MEM_FL_COUNT_sectors
  let buf := w.flBuf
  if w.bit MEM_FL_STATUS_busy then w.set MEM_FL_STATUS_result 4
  else if !partOk p (op == 2 || op == 3) then w.flDone 1
  else if op ≠ 4 ∧ partSectors p < sector + count then w.flDone 1
  else if (op = 1 ∨ op = 2) ∧ (count = 0 ∨ 4096 < count ∨ buf % 4096 ≠ 0 ∨ !inRam buf (4096 * count)) then w.flDone 2
  else
    let w : W := { w with fls := { w.fls with run := some ⟨op, p, sector, count, buf⟩ } }
    ((w.set MEM_FL_STATUS_busy 1).set MEM_FL_STATUS_done 0).set MEM_FL_STATUS_result 0

end W

/-- FL_READ. -/
def execFlRead (partition : Nat) (s : State) : Host.Outcome State Fault Refusal :=
  runL (wfFlRead partition) "FL_READ" (fun w => w.flCommand 1 partition) s

/-- FL_WRITE. -/
def execFlWrite (partition : Nat) (s : State) : Host.Outcome State Fault Refusal :=
  runL (wfFlWrite partition) "FL_WRITE" (fun w => w.flCommand 2 partition) s

/-- FL_TRIM. -/
def execFlTrim (partition : Nat) (s : State) : Host.Outcome State Fault Refusal :=
  runL (wfFlTrim partition) "FL_TRIM" (fun w => w.flCommand 3 partition) s

/-- FL_SYNC. -/
def execFlSync (partition : Nat) (s : State) : Host.Outcome State Fault Refusal :=
  runL (wfFlSync partition) "FL_SYNC" (fun w => w.flCommand 4 partition) s

/-- FL_CMD_DONE: the command's move is done, or the device has failed; its life used goes to MEM_STATUS and the Cobbler. -/
def execFlCmdDone (ok : Bool) (life : Nat) (t : Nat) (s : State) : Host.Outcome State Fault Refusal :=
  run (wfFlCmdDone life) "FL_CMD_DONE" (fun w =>
    let w := w.at_ t
    match w.fls.run with
    | some c =>
      if !w.mainOn then w
      else
        let w : W := { w with fls := { w.fls with run := none } }
        let w := if ok then (w.flMove c).flDone 0 else ((w.flTear c).ev MEM_EVENT_fl_err 0).flDone 3
        (w.set MEM_STATUS_flash_life life).wearTo 0 life
    | none => w) s

/-- A scrubber's period in ns (MEM_CTRL). -/
def W.scrubPeriod (w : W) (region : Nat) : Nat :=
  let hour := 3600000000000
  if region = 0 then max 1 (min 168 (w.get MEM_CTRL_dram_scrub_h)) * hour
  else if region = 1 then max 1 (w.get MEM_CTRL_sram_scrub_min) * 60000000000
  else max 1 (w.get MEM_CTRL_larder_scrub_h) * hour

/-- SCRUB_PASS (R326): a pass that has run for the scrubber's period. -/
def execScrubPass (region t : Nat) (s : State) : Host.Outcome State Fault Refusal :=
  run (wfScrubPass region) "SCRUB_PASS" (fun w =>
    let w := w.at_ t
    let isOn := if region = 0 then w.bit MEM_CTRL_dram_scrub else if region = 1 then w.bit MEM_CTRL_sram_scrub
      else w.bit MEM_CTRL_larder_scrub
    let from_ := (tblGet w.fls.scrubs region).getD 0
    if w.mainOn && isOn && decide (from_ + w.scrubPeriod region ≤ w.tb.up) then
      ({ w with fls := { w.fls with scrubs := tblPut region w.tb.up w.fls.scrubs } } : W).ev MEM_EVENT_scrub_pass 0
    else w) s

/-- MEMORY_ERROR (R316, R326, R327). -/
def execMemoryError (addr cls block : Nat) (bad : Bool) (t : Nat) (s : State) : Host.Outcome State Fault Refusal :=
  run (wfMemoryError cls) "MEMORY_ERROR" (fun w =>
    let w := w.at_ t
    if !w.mainOn then w
    else if bad then w.memUncorrected addr cls block else w.memCorrected addr cls block) s

end Sys2Proof.Machine
end

