-- ==== Sys2Proof/Machine/Net.lean ====
section
/-! DEFINITION. The commands of the network ports (R22, R454). -/

namespace Sys2Proof.Machine

/-- SWITCH_FRAME_RX (R22). -/
def execSwitchFrameRx (port : Nat) (f : EthFrame) (t : Nat) (s : State) : Host.Outcome State Fault Refusal :=
  run (wfSwitchFrameRx port) "SWITCH_FRAME_RX" (fun w =>
    let w := w.at_ t
    if w.mainOn && !w.gated 0x18 then w.switchRx port f else w) s

/-- PORT_LINK_CHANGE: NET_PORT_STAT follows the port (R454); the RJ45 ports have no module and no link while their
transmitter is off. -/
def execPortLinkChange (port : Nat) (up present los fault : Bool) (s : State) : Host.Outcome State Fault Refusal :=
  run (wfPortLinkChange port) "PORT_LINK_CHANGE" (fun w =>
    if !w.mainOn then w
    else if port < 4 then
      let w := (w.setB (NET_PORT_STAT_link_up port) up).setB (NET_PORT_STAT_present port) present
      let w := (w.setB (NET_PORT_STAT_rx_los port) los).setB (NET_PORT_STAT_tx_fault port) fault
      w.set (NET_PORT_STAT_speed port) (if up then 2 else 0)
    else
      let up := up && w.bit (NET_PORT_CTRL_tx_enable port)
      (w.setB (NET_PORT_STAT_link_up port) up).set (NET_PORT_STAT_speed port) (if up then 1 else 0)) s

end Sys2Proof.Machine
end

