-- ==== Sys2Proof/Machine/Radio.lean ====
section
/-! DEFINITION. The commands of the radio MAC (R223 to R255). -/

namespace Sys2Proof.Machine

namespace W

/-- What a downlink-capable slot k sends, in order of precedence (R227, R260): an activate frame waits for a background slot
that is still to come in the superframe. -/
def downlink (w : W) (r k : Nat) : W :=
  if w.dutyHeld r then w
  else
    let (w, sent) := w.levelFrame r
    if sent then w
    else
      let x := w.radio r
      let waits := (upTo 64).any (fun j => decide (k < j) && w.slotCode r j == 3)
      match if w.fltRuns && w.canSend r && !waits && (w.pat.active.path 0x0C 0x0B).isSome then w.activateDue r else none with
      | some p => (w.setRadio r { x with actSf := some x.sf }).pedlarSend r p
      | none =>
        match x.copies with
        | p :: t => if w.canSend r then (w.setRadio r { x with copies := t }).broadcast r (w.copyFrame p) else w
        | [] => w.unicastFrame r (x.uni.length + 1)

/-- Roll-call marks of a slot: those above the threshold, of enabled lanterns (R242). -/
def rollCall (w : W) (r k : Nat) (marks : List (Nat × Int)) : W :=
  let j := ((upTo k).filter (fun i => w.slotCode r i == 2)).length
  marks.foldl (fun w m =>
    let i := 474 * j + m.1
    let g := w.lanFirst r + i
    if i < w.lanCount r ∧ sgn 8 (w.get (RAD_RCTRL_roll_thr r)) < m.2 then
      let w := w.tally (0x98 + r)
      if w.isEnabled g && lanKind (w.lan g) == 1 then w.heardIn g (w.radio r).sf else w
    else w) w

/-- A slot of a radio after its beacon (R226, R227). -/
def slotStart (w : W) (r k : Nat) (marks : List (Nat × Int)) : W :=
  let code := w.slotCode r k
  let send := w.radSends r && (w.radio r).running
  let w := if code == 2 && w.radOn r && (w.radio r).serving then w.rollCall r k marks else w
  if !send then w
  else if k % 4 = 0 then
    let x := w.radio r
    if x.urgent ≠ 0 ∧ !w.rad.grid.isEmpty then
      let w := ((w.setRadio r { x with urgent := x.urgent - 1 }).broadcast r w.gridFrame)
      if w.canSend r then w.tally 0x9C else w
    else w.downlink r k
  else if code = 0 then w.downlink r k
  else if code = 3 then
    if w.fltRuns && w.canSend r && !w.dutyHeld r && (w.pat.active.path 0x0C 0x0B).isSome then
      let first := (upTo k).all (fun i => w.slotCode r i != 3)
      let (w, sent) := w.backgroundFrame r first (w.activateDue r)
      if sent then w else w.downlink r k
    else w.downlink r k
  else w

end W

/-- The content cutoff: 150 µs after the start of a slot the radio MAC freezes what it sends in it (R228). -/
def cutoff : Nat := 150000

/-- BEACON_BOUNDARY (R226, R231, R243): the comparator fires, and superframes are counted, whatever the enables say; the
beacon holds what stands at its cutoff. -/
def execBeaconBoundary (r n : Nat) (s : State) : Host.Outcome State Fault Refusal :=
  run (wfBeaconBoundary r) "BEACON_BOUNDARY" (fun w =>
    let w := w.at_ (w.boundary r n)
    let x := w.radio r
    if !w.loom || (w.radItem r).isNone || w.gated 0x0B then w.setRadio r { x with running := false, serving := false }
    else if (match x.fired with | some f => decide (n ≤ f) | none => false) then w
    else if !w.radOn r then
      (w.setRadio r { x with running := false, serving := false, sf := n, fired := some n }).actBoundary
    else
      let sends := w.radSends r && decide (w.rad.holdUp ≤ w.tb.up)
      let w := (w.setRadio r { x with running := sends, serving := true, sf := n, fired := some n }).silentMarks r n
      let w := w.at_ (w.boundary r n + cutoff)
      let w := if sends then w.beacon r n else w
      w.actBoundary) s

/-- SLOT_START: a slot and its content at the cutoff (R227, R228). -/
def execSlotStart (r k : Nat) (marks : List (Nat × Int)) (s : State) : Host.Outcome State Fault Refusal :=
  run (wfSlotStart r k marks) "SLOT_START" (fun w =>
    let w := w.at_ (w.boundary r (w.radio r).sf + k * 10000000 + cutoff)
    w.slotStart r k marks) s

/-- RADIO_FRAME_RX (R241). -/
def execRadioFrameRx (f : RadioFrame) (t : Nat) (s : State) : Host.Outcome State Fault Refusal :=
  run (wfRadioFrameRx f) "RADIO_FRAME_RX" (fun w =>
    let w := w.at_ t
    if w.radOn f.radio && (w.radio f.radio).serving then w.radioRx f else w) s

/-- IMM_ACK_RX (R236, R237). -/
def execImmAckRx (r seq t : Nat) (s : State) : Host.Outcome State Fault Refusal :=
  run (wfImmAckRx r) "IMM_ACK_RX" (fun w =>
    let w := w.at_ t
    if w.radOn r && (w.radio r).serving then w.immAck r seq else w) s

/-- GRID_STATE_TAKE (R232). -/
def execGridStateTake (t : Nat) (s : State) : Host.Outcome State Fault Refusal :=
  run true "GRID_STATE_TAKE" (fun w =>
    let w := (w.at_ t).lmpFlush
    match w.headOf 0x0A 0x0B with
    | some ⟨.bytes b, _, _⟩ =>
      if !w.loom || le b 0 1 != 0x31 then w
      else
        let w := ((w.popQ 0x0A 0x0B).lmpFlush).setRad { w.rad with grid := b }
        let rep := max 1 (w.get RAD_CTRL_urgent_repeat)
        w.radList.foldl (fun (w : W) r => let x := w.radio r; w.setRadio r { x with urgent := rep }) w
    | _ => w) s

/-- ORDER_RECORD (R234). -/
def execOrderRecord (t : Nat) (s : State) : Host.Outcome State Fault Refusal :=
  run true "ORDER_RECORD" (fun w =>
    let w := (w.at_ t).lmpFlush
    match w.headOf 0x0A 0x0B with
    | some ⟨.bytes b, _, _⟩ =>
      if !w.loom || le b 0 1 != 0x32 then w
      else
        let w := (w.popQ 0x0A 0x0B).lmpFlush
        let te := le b 8 8
        let cs := (upTo (min 12 (le b 1 1))).map (fun k => (te, le b (16 + 4 * k) 4))
        let late := w.radList.any (fun r => w.radSends r && decide (w.boundary r (w.nActOf r te) + cutoff < w.ns))
        let w := w.radList.foldl (fun (w : W) r => let x := w.radio r; w.setRadio r { x with cmds := x.cmds ++ cs }) w
        if late then w.ev RAD_EVENT_order_late 0 else w
    | _ => w) s

/-- RAD INVALIDATE (R251). -/
def execRadInvalidate (g : Nat) (s : State) : Host.Outcome State Fault Refusal :=
  runL (wfRadInvalidate g) "RAD_INVALIDATE" (fun w =>
    w.radIndex g (fun w =>
      let again := w.isEnabled g && lanKind (w.lan g) == 1 && w.stateOf g == 3
      let w := w.lanDrop g
      ((if again then w.queueAssign g false else w).radTold g).radDone 0)) s

/-- RAD ENABLE (R252). -/
def execRadEnable (g : Nat) (s : State) : Host.Outcome State Fault Refusal :=
  runL (wfRadEnable g) "RAD_ENABLE" (fun w =>
    w.radCmd (fun w =>
      if w.lanSum ≤ g then (w.radDone 1).ev RAD_EVENT_entry_fault g
      else
        let w := w.lanDrop g
        match w.enableCheck g (w.lan g) with
        | 0 => ((w.enableEntry g 1).radTold g).radDone 0
        | e => (w.radDone e).ev RAD_EVENT_entry_fault g)) s

/-- RAD DISABLE (R237, R252). -/
def execRadDisable (g : Nat) (s : State) : Host.Outcome State Fault Refusal :=
  runL (wfRadDisable g) "RAD_DISABLE" (fun w =>
    w.radIndex g (fun w =>
      let w := w.setRad { w.rad with enabled := w.rad.enabled.filter (· != g) }
      ((((w.dropUni g).sflag g 0 false).setEntry g 5).radTold g).radDone 0)) s

/-- RAD FLUSH (R251). -/
def execRadFlush (g : Nat) (s : State) : Host.Outcome State Fault Refusal :=
  runL (wfRadFlush g) "RAD_FLUSH" (fun w => w.radIndex g (fun w => (w.lanBack g).radDone 0)) s

/-- RAD CLEAR (R252). -/
def execRadClear (g : Nat) (s : State) : Host.Outcome State Fault Refusal :=
  runL (wfRadClear g) "RAD_CLEAR" (fun w =>
    w.radIndex g (fun w => (w.setLan g (fun b => patch b 92 (List.replicate 20 0))).radDone 0)) s

/-- RESET_CTR (R241, R252). -/
def execResetCtr (g : Nat) (s : State) : Host.Outcome State Fault Refusal :=
  runL (wfResetCtr g) "RESET_CTR" (fun w =>
    w.radIndex g (fun w =>
      let w := w.setRad { w.rad with ctrs := tblDel (lanExt (w.lan g)) w.rad.ctrs }
      (w.setLan g (fun b => patch b 80 (List.replicate 12 0))).radDone 0)) s

/-- WAKE (R247, R252). -/
def execWake (g : Nat) (s : State) : Host.Outcome State Fault Refusal :=
  runL (wfWake g) "WAKE" (fun w => w.radIndex g (fun w => (w.lanFetch g).wakeQueue (le (w.lan g) 12 2))) s

/-- WAKE_ADDR (R247, R252). -/
def execWakeAddr (s : State) : Host.Outcome State Fault Refusal :=
  runL true "WAKE_ADDR" (fun w => w.radCmd (fun w => w.wakeQueue (w.get RAD_CMD_ARG_v % 2 ^ 16))) s

/-- SCHED_CHANGED (R234). -/
def execSchedChanged (s : State) : Host.Outcome State Fault Refusal :=
  runL true "SCHED_CHANGED" (fun w =>
    w.radCmd (fun w => (w.setRad { w.rad with cfgSeq := (w.rad.cfgSeq + 1) % 2 ^ 16 }).radDone 0)) s

/-- WAKE_PATTERN_DONE (R247). -/
def execWakePatternDone (t : Nat) (s : State) : Host.Outcome State Fault Refusal :=
  run true "WAKE_PATTERN_DONE" (fun w =>
    let w := w.at_ t
    match w.rad.wake with
    | (a, n) :: rest =>
      if w.loom && w.bit RAD_WAKE_CFG_enable && !w.isStandby && !w.gated 0x0B then
        (w.setRad { w.rad with
          wake := if n ≤ 1 then rest else (a, n - 1) :: rest
          woke := W.wakePattern a :: w.rad.woke }).bump RAD_WAKE_SENT_v 1
      else w
    | [] => w) s

/-- NODE_TIMEOUT (R243). -/
def execNodeTimeout (g t : Nat) (s : State) : Host.Outcome State Fault Refusal :=
  run (wfNodeTimeout g) "NODE_TIMEOUT" (fun w =>
    let w := w.at_ t
    let b := w.lan g
    let since := w.tb.up - (tblGet w.rad.frameUp g).getD 0
    if w.radOn (w.lanRadio g) && w.isEnabled g && lanKind b == 2 && lanState b == 3
        && decide (le b 14 2 * 1000000000 ≤ since) then w.setEntry g 4 else w) s

/-- RAD_WRITEBACK (R251). -/
def execRadWriteback (g t : Nat) (s : State) : Host.Outcome State Fault Refusal :=
  run (wfRadWriteback g) "RAD_WRITEBACK" (fun w =>
    let w := w.at_ t
    if w.mainOn then w.lanBack g else w) s

/-- SCHED_TIMER (R234). -/
def execSchedTimer (t : Nat) (s : State) : Host.Outcome State Fault Refusal :=
  run true "SCHED_TIMER" (fun w =>
    let w := w.at_ t
    (w.radList.filter (fun r => w.radOn r)).foldl (fun (w : W) r => w.copiesDue r) w) s

end Sys2Proof.Machine
end

