-- ==== Sys2Proof/Machine/Events.lean ====
section
/-! DEFINITION. State events and the edges of CLK_AON that register them (R30): which waiting commands are events, what is
done with events that share an edge, and the lanes' disagreements. -/

namespace Sys2Proof.Machine

namespace W

/-- The priority of a lane disagreement (R30): 6 where three lanes run, 4 where two do. -/
def lanePrio (w : W) : Nat := if w.running.length = 3 then 6 else 4

/-- The watchdog has run out while it counts (R394). -/
def watchdogOut (w : W) : Bool :=
  decide (w.sys.kickUp + w.sys.kickMs * 1000000 ≤ w.tb.up)
    && (w.lanesRun || w.sys.entering || (w.sys.booting && w.mainOn && w.sys.hold.isNone))

/-- What the watchdog's expiry does (R394, R395). -/
def watchdogAct (w : W) : W :=
  let early := w.sys.booting || decide (w.tb.up < w.sys.entryUp + 60000000000)
  (w.setSys { w.sys with loops := if early then w.sys.loops + 1 else w.sys.loops }).softReset 3

/-- Whether a store of a word at an address is a reset command of SYS_CMD, and its priority. -/
def resetWrite (addr v : Nat) : Option Nat :=
  if addr = SYS_CMD_op.addr ∧ v / 2 ^ 16 = 0xC0DE then
    if v % 16 = 2 then some 5 else if v % 16 = 3 then some 7 else none
  else none

/-- The state event in what the voter decides: a disagreement, or a reset command issued. -/
def voteEvent (w : W) (v : Vote) : Option Nat :=
  if v.stop ∨ v.out.isSome then some w.lanePrio
  else match v.issue with
    | some r => if r.kind = .store ∧ r.size = 4 then resetWrite r.addr r.data else none
    | none => none

/-- The priority and the instant of a waiting command that is a state event for the module as it stands. -/
def eventOf (w : W) : Instr → Option (Nat × Nat)
  | .mainSupplyLost t => if w.sys.main then some (1, t) else none
  | .resetNLow width t => if 10000 ≤ width then some (2, t) else none
  | .tamperDetect source t => if w.tamperTakes source then some (3, t) else none
  | .tamperSample a b t => if (w.loopsFire a b).isEmpty then none else some (3, t)
  | .watchdogExpire t => if (w.at_ t).watchdogOut then some (5, t) else none
  | .systemReset confirm t => if confirm = 0xC0DE ∧ w.lanesRun then some (5, t) else none
  | .patternReload confirm t => if confirm = 0xC0DE ∧ w.lanesRun then some (7, t) else none
  | .registerWrite _ addr v t => if w.lanesRun then (resetWrite addr v.toNat).map (fun p => (p, t)) else none
  | .voterRequest hart a b c _ _ _ t =>
    ((w.votes hart w.running w.lnv.held (arrivals a b c)).findSome? (fun v => w.voteEvent v)).map (fun p => (p, t))
  | .voteWindowExpire hart t =>
    if w.lnv.held.any (fun h => h.hart == hart && (w.at_ t).windowDue h) then some (w.lanePrio, t) else none
  | .localFault lane _ _ t => if w.running.contains lane then some (w.lanePrio, t) else none
  | _ => none

/-- Whether an event of a priority that satisfies `p` has acted on the CLK_AON edge of `t`. -/
def actedOn (w : W) (t : Nat) (p : Nat → Bool) : Bool :=
  match w.sys.edge with | some (e, q) => e == aonEdge t && p q | none => false

/-- Whether a waiting command is an event of such a priority that the same edge registers. -/
def waitsOn (w : W) (wait : List Instr) (t : Nat) (p : Nat → Bool) : Bool :=
  wait.any (fun c => match w.eventOf c with | some (q, u) => p q && aonEdge u == aonEdge t | none => false)

/-- An event that still holds, judged on the state as it now stands (R30). -/
def judgeEvent (w : W) : HeldEvent → W
  | .resetLow => w.resetAct
  | .tamper srcs => (srcs.foldl (fun (w : W) s => w.tamperFires s) w).finishStart
  | .watchdog => if w.watchdogOut then w.watchdogAct else w

/-- The events that were held behind the one that has acted. -/
def judgeHeld (w : W) : W :=
  w.sys.heldEvs.foldl (fun (w : W) h => w.judgeEvent h) (w.setSys { w.sys with heldEvs := [] })

/-- A state event of a priority at TAI ns `t` (R30): the module acts on it, unless one of higher priority is registered on
the same edge. Behind one that has acted, or one that waits, it is recorded (a block record of SYS, code 0x10F: DESIGN
CHOICE) and discarded; where it still holds, it is judged on the new state, without the one period of CLK_AON between
(DESIGN CHOICE). -/
def takeEvent (w : W) (wait : List Instr) (prio t : Nat) (holds : Option HeldEvent) (act : W → W) : W :=
  let higher (p : Nat) : Bool := decide (p < prio)
  if w.actedOn t higher then
    let w := w.record 0x10F 0 prio 0 0 0
    match holds with | some h => w.judgeEvent h | none => w
  else if w.waitsOn wait t higher then
    let w := w.record 0x10F 0 prio 0 0 0
    w.setSys { w.sys with heldEvs := w.sys.heldEvs ++ holds.toList }
  else (act (w.setSys { w.sys with edge := some (aonEdge t, prio) })).judgeHeld

/-! ## Lanes -/

/-- A disagreement among the lanes that run (R30, R311): discarded with an event on its edge that resets the lanes; else it
holds whatever acts before it, an outvote where three ran, a safe stop where two did. -/
def laneEvent (w : W) (wait : List Instr) (t : Nat) (act : W → W) : W :=
  let prio := w.lanePrio
  let resets (p : Nat) : Bool := decide (p < prio) && (p == 1 || p == 2 || p == 5)
  if w.actedOn t resets || w.waitsOn wait t resets then w.record 0x10F 0 prio 0 0 0
  else
    let w := if w.actedOn t (fun p => decide (p < prio)) then w else w.setSys { w.sys with edge := some (aonEdge t, prio) }
    act w

/-- The voter's disagreement: the lane outvoted, with its kind and the request's address, or none of two agreed. -/
def disagree (w : W) (wait : List Instr) (t : Nat) (out : Option (Nat × Nat × Nat)) (hart : Nat) : W :=
  let prio := w.lanePrio
  w.laneEvent wait t (fun w =>
    match out, prio with
    | some (l, kind, a), 6 => w.outvote l kind hart (some a)
    | _, _ => w.safeStop)

end W

/-- The meaning of a command that is a state event where `isEv` says so, and else has no effect. -/
def runEv (ok : Bool) (name : String) (prio t : Nat) (isEv : W → Bool) (holds : Option HeldEvent) (act : W → W) (s : State) :
    Host.Outcome State Fault Refusal :=
  run ok name (fun w =>
    let w := w.at_ t
    if isEv w then w.takeEvent s.pending prio t holds act else w) s

end Sys2Proof.Machine
end

