-- ==== Sys2Proof/Machine/Resync.lean ====
section
/-! DEFINITION. Local faults, the resynchronisation of a lane, and the voter's commands (R311 to R316, R463). -/

namespace Sys2Proof.Machine

/-- LOCAL_FAULT: as an outvote of that lane, of kind local (R311); an uncorrectable L2 error counts in its region. -/
def execLocalFault (lane hart : Nat) (cause : LocalCause) (t : Nat) (s : State) : Host.Outcome State Fault Refusal :=
  run (wfLocalFault lane hart) "LOCAL_FAULT" (fun w =>
    let w := w.at_ t
    if !w.running.contains lane then w
    else
      let prio := w.lanePrio
      w.laneEvent s.pending t (fun w =>
        let w := match cause with
          | .l1 => w.ev LNV_EVENT_l1_ue 0
          | .l2 => (w.bump (MEM_UE_CNT_v 3) 1).ev LNV_EVENT_l2_ue 0
          | .lockup => w.ev LNV_EVENT_lockup 0
        if prio = 6 then w.outvote lane 3 hart none else w.safeStop)) s

/-- SELFTEST_DONE (R314, R316). -/
def execSelftestDone (pass : Bool) (t : Nat) (s : State) : Host.Outcome State Fault Refusal :=
  run true "SELFTEST_DONE" (fun w =>
    let w := w.at_ t
    match w.resyncLane with
    | some l =>
      if w.lane l ≠ 2 then w
      else if pass then w.setLane l 3
      else
        let w := (w.setLane l 1).evRec LNV_EVENT_resync_fail 0
        if w.bit LNV_CMD_STATUS_busy then w.lnvDone 0 else w
    | none => w) s

/-- COPY_PASS_DONE: copying ends after the first pass below 512 lines, or after 16 passes (R314). -/
def execCopyPassDone (lines t : Nat) (s : State) : Host.Outcome State Fault Refusal :=
  run true "COPY_PASS_DONE" (fun w =>
    let w := w.at_ t
    match w.resyncLane with
    | some l =>
      if w.lane l ≠ 3 then w
      else
        let w := w.setLnv { w.lnv with passes := w.lnv.passes + 1, lines := lines }
        if lines < 512 ∨ 16 ≤ w.lnv.passes then
          ((w.setLane l 4).setLnv { w.lnv with pauseUp := w.tb.up }).tally 5
        else w
    | none => w) s

/-- RESYNC_RESTART: the three lanes restart, and the module returns to SERVING (R314, R315). -/
def execResyncRestart (t : Nat) (s : State) : Host.Outcome State Fault Refusal :=
  run true "RESYNC_RESTART" (fun w =>
    let w := w.at_ t
    match w.resyncLane with
    | some l =>
      if w.lane l ≠ 4 then w
      else
        let w := (w.setLane l 0).set LNV_RESYNC_NS_v (min 0xFFFFFFFF (w.tb.up - w.lnv.since))
        let w := (w.set LNV_PAUSE_NS_v (min 0xFFFFFFFF (w.tb.up - w.lnv.pauseUp))).bump LNV_STATUS_resyncs 1
        let w := (w.set LNV_STATUS_mode 0).ev LNV_EVENT_resync_done 0
        let w := if w.bit LNV_CMD_STATUS_busy then w.lnvDone 0 else w
        if w.op = .degraded then w.setOp .serving else w
    | none => w) s

/-- DELIVERY_POINT: the largest skew seen, and the instructions retired since the last point (R313, R411). -/
def execDeliveryPoint (hart skew : Nat) (t : Nat) (s : State) : Host.Outcome State Fault Refusal :=
  run (wfDeliveryPoint hart skew) "DELIVERY_POINT" (fun w =>
    let w := w.at_ t
    if w.running = [] then w
    else
      let w := (w.set LNV_SKEW_v (max skew (w.get LNV_SKEW_v))).tally 4
      (w.tallyN (8 + hart) (Config.retired w.free)).draw) s

/-- LNV_RESYNC: a stopped lane is brought back; refused for a lane that runs, is fenced or does not exist (R316). -/
def execLnvResync (lane t : Nat) (s : State) : Host.Outcome State Fault Refusal :=
  runL (wfLnvResync lane) "LNV_RESYNC" (fun w =>
    let w := w.at_ t
    if w.bit LNV_CMD_STATUS_busy then w.set LNV_CMD_STATUS_result 3
    else if 3 ≤ lane ∨ w.lane lane = 0 ∨ w.lane lane = 5 then w.lnvDone 1
    else if w.lane lane ≠ 1 then w.lnvDone 3
    else
      let w := ((w.set LNV_CMD_STATUS_busy 1).set LNV_CMD_STATUS_done 0).set LNV_CMD_STATUS_result 0
      (w.setLane lane 2).setLnv { w.lnv with since := w.tb.up, passes := 0, lines := 0 }) s

/-- INJECT (R463). -/
def execInject (lane : Nat) (s : State) : Host.Outcome State Fault Refusal :=
  runL (wfInject lane) "INJECT" (fun w =>
    let done (w : W) (result : Nat) : W := (w.set LNV_CMD_STATUS_done 1).set LNV_CMD_STATUS_result result
    if w.key.lc ≠ 3 then done w 2
    else if 3 ≤ lane ∨ w.lane lane ≠ 0 ∨ w.get LNV_STATUS_mode ≠ 0 then done w 1
    else if w.lnv.inject.isSome then done w 3
    else done (w.setLnv { w.lnv with inject := some lane }) 0) s

end Sys2Proof.Machine
end

