-- ==== Sys2Proof/Machine/Rtc.lean ====
section
/-! DEFINITION. The real-time clock's commands (R28, R348 to R360). -/

namespace Sys2Proof.Machine

/-- An alarm with wake that has just fired is a wake source (R357, R399). -/
def W.rtcWake (w : W) (before : List (Nat × Nat)) : W :=
  if !w.rtc.woke then w
  else
    let w := w.setRtc { w.rtc with woke := false }
    let fired (a : Nat) : Bool := tblGet w.rtc.lastFire a != tblGet before a && w.bit (RTC_ALM_CTRL_wake a)
    let w := if fired 0 && fired 1 && w.op == .sleep then w.set WCH_WAKE_CAUSE_alarm1 1 else w
    if fired 0 then w.wake WCH_WAKE_CAUSE_alarm0 else if fired 1 then w.wake WCH_WAKE_CAUSE_alarm1 else w

/-- A change of the RTC, with the wake it may bring. -/
def W.rtcDo (w : W) (f : W → W) : W := if w.sys.watch then (f w).rtcWake w.rtc.lastFire else w

/-- RTC_SECOND (R349). -/
def execRtcSecond (t : Nat) (s : State) : Host.Outcome State Fault Refusal :=
  run true "RTC_SECOND" (fun w => (w.at_ t).rtcDo W.rtcSecond) s

/-- RTC_TIME_READ (R350). -/
def execRtcTimeRead (k : Nat) (s : State) : Host.Outcome State Fault Refusal :=
  runL (wfRtcTimeRead k) "RTC_TIME_READ" (fun w =>
    let r := w.rtcRead k
    r.1.answer r.2.toNat) s

/-- SHADOW_TIMEOUT (R350): the shadows released 1 s after the freeze. -/
def execShadowTimeout (t : Nat) (s : State) : Host.Outcome State Fault Refusal :=
  run true "SHADOW_TIMEOUT" (fun w =>
    let w := w.at_ t
    w.rtcRelease) s

/-- Writes on their way into CLK_AON take effect in order, up to and with the first SET (R28, R351). -/
def W.rtcArrive (w : W) : List (Nat × W32) → W
  | [] => w.rtcSet
  | (a, v) :: rest =>
    let w := w.setRtc { w.rtc with aon := rest }
    if a = RTC_CMD_cmd.addr ∧ bits v.toNat 3 0 = 1 then w.rtcSet
    else
      let w := if blockAt a = 3 then w.rtcWrite a v else { w with regs := w.regs.busWrite a v }
      w.rtcArrive rest

/-- RTC_SET: a SET takes effect, behind the writes that left the lanes before it (R351). -/
def execRtcSet (t : Nat) (s : State) : Host.Outcome State Fault Refusal :=
  run true "RTC_SET" (fun w => (w.at_ t).rtcDo (fun w => w.rtcArrive w.rtc.aon)) s

/-- OSC_STOPPED (R352): no edge has come for 4 ms. -/
def execOscStopped (t : Nat) (s : State) : Host.Outcome State Fault Refusal :=
  run true "OSC_STOPPED" (fun w =>
    let w := w.at_ t
    if w.sys.watch && !w.rtc.stopped then
      let last := max w.rtc.subUp (w.tb.up - 4000000)
      (w.setRtc { w.rtc with
        sub := w.rtcSubAt last
        subUp := w.tb.up
        raw := (w.rtc.raw + w.rtcTicks last) % 2 ^ 20
        stopped := true
        setSince := false }).ev RTC_EVENT_osc_stopped 0
    else w) s

/-- OSCILLATOR_RESTART: counting resumes from the held value (R352). -/
def execOscillatorRestart (t : Nat) (s : State) : Host.Outcome State Fault Refusal :=
  run true "OSCILLATOR_RESTART" (fun w =>
    let w := w.at_ t
    if w.rtc.stopped then w.setRtc { w.rtc with stopped := false, subUp := w.tb.up } else w) s

/-- OSC_STOPPED_CLEAR (R352). -/
def execOscStoppedClear (s : State) : Host.Outcome State Fault Refusal :=
  run true "OSC_STOPPED_CLEAR" (fun w => if w.sys.watch then w.oscClear else w) s

/-- DISCIPLINE_COMPARE (R353). -/
def execDisciplineCompare (t : Nat) (s : State) : Host.Outcome State Fault Refusal :=
  run true "DISCIPLINE_COMPARE" (fun w =>
    let w := w.at_ t
    if w.mainOn then w.rtcDo W.rtcCompare else w) s

/-- AUTO_CAL (R354). -/
def execAutoCal (t : Nat) (s : State) : Host.Outcome State Fault Refusal :=
  run true "AUTO_CAL" (fun w => (w.at_ t).rtcDo W.rtcAutoCal) s

/-- ALARM_WRITE (R356). -/
def execAlarmWrite (a : Nat) (date : Bool) (v : W32) (s : State) : Host.Outcome State Fault Refusal :=
  run (wfAlarmWrite a) "ALARM_WRITE" (fun w => if w.sys.watch then w.almWrite a date v else w) s

/-- ALARM_ARM (R357). -/
def execAlarmArm (a : Nat) (v : W32) (s : State) : Host.Outcome State Fault Refusal :=
  run (wfAlarmArm a) "ALARM_ARM" (fun w => if w.sys.watch then w.almCtrl a v else w) s

/-- AON_WRITE_ARRIVAL: the oldest write on its way into CLK_AON takes effect (R28). -/
def execAonWriteArrival (t : Nat) (s : State) : Host.Outcome State Fault Refusal :=
  run true "AON_WRITE_ARRIVAL" (fun w =>
    let w := w.at_ t
    match w.rtc.aon with
    | [] => w
    | (a, v) :: rest =>
      let w := w.setRtc { w.rtc with aon := rest }
      if blockAt a = 3 then w.rtcDo (fun w => w.rtcWrite a v)
      else { w with regs := w.regs.busWrite a v }) s

end Sys2Proof.Machine
end

