-- ==== Sys2Proof/Machine/Sieve.lean ====
section
/-! DEFINITION. The commands of the Sieve (R178 to R197). -/

namespace Sys2Proof.Machine

/-- ADC_FRAME (R180). -/
def execAdcFrame (f : AdcFrame) (s : State) : Host.Outcome State Fault Refusal :=
  run (wfAdcFrame f) "ADC_FRAME" (fun w =>
    let w := w.at_ f.ends
    if w.loom && w.smpServed then w.adcFrame f else w) s

/-- SV_FRAME (R182). -/
def execSvFrame (f : SvFrame) (s : State) : Host.Outcome State Fault Refusal :=
  run true "SV_FRAME" (fun w =>
    let w := w.at_ f.arrival
    if !w.loom || !w.smpServed || !w.smpSv then w
    else match w.cross 0xF1 0x09 (W.svBytes f) with
      | none => w
      | some w => w.svFrame f) s

/-- SV_PROCESS: an instant is processed once, when the wait of every subscription has passed (R183). -/
def execSvProcess (n t : Nat) (s : State) : Host.Outcome State Fault Refusal :=
  run true "SV_PROCESS" (fun w =>
    let w := w.at_ t
    let waits := ((upTo 16).filter (fun k => w.bit (SMP_SV_CFG_enable k))).map w.svWait
    let due := decide (W.svInstant w.smpRate n + 65536 * waits.foldl max 0 ≤ 65536 * w.ns)
    let fresh := match w.smp.svDone with | some d => decide (d < W.svInstant w.smpRate n) | none => true
    if w.loom && w.smpServed && w.smpSv && due && fresh then w.svProcess n else w) s

/-- PHASOR_REPORT (R194). -/
def execPhasorReport (inst t : Nat) (s : State) : Host.Outcome State Fault Refusal :=
  run true "PHASOR_REPORT" (fun w =>
    let w := w.at_ t
    let rate := W.phsRate (w.get SMP_PHS_CTRL_rate)
    let full := decide (inst + (w.smpSets.map (fun n => w.halfWindow (w.setFor n inst))).foldl max 0 ≤ w.ns)
    let fresh := match w.smp.lastRpt with | some l => decide (l < inst) | none => true
    if w.loom && w.smpServed && w.bit SMP_CTRL_phs_enable && rate != 0 && !w.smpSets.isEmpty && isInstant rate inst
        && full && fresh then w.phasorReport inst else w) s

/-- SMP_SNAP (R190). -/
def execSmpSnap (s : State) : Host.Outcome State Fault Refusal :=
  runL true "SMP_SNAP" (fun w => w.smpSnap) s

/-- PEAK_READ: the peak is read and becomes 0.0 (R190). -/
def execPeakRead (c : Nat) (s : State) : Host.Outcome State Fault Refusal :=
  runL (wfPeakRead c) "PEAK_READ" (fun w =>
    if w.smpOn && w.smpChans.contains c then (w.answer (w.get (SMP_CH_PEAK_v c))).set (SMP_CH_PEAK_v c) 0
    else w.answer 0) s

/-- CH_CFG_WRITE: held until the next conversion (R196); a channel that does not exist ignores it (R178). -/
def execChCfgWrite (c : Nat) (v : W32) (s : State) : Host.Outcome State Fault Refusal :=
  runL (wfChCfgWrite c) "CH_CFG_WRITE" (fun w =>
    if w.smpOn && w.smpChans.contains c then
      let n := v.toNat
      let w := ((w.set (SMP_CH_CFG_enable c) n).set (SMP_CH_CFG_preset c) (n / 2)).set (SMP_CH_CFG_fnom_50 c) (n / 8)
      ((w.set (SMP_CH_CFG_src c) (n / 256)).set (SMP_CH_CFG_word c) (n / 4096)).dirty
    else w) s

/-- SMP_TEST_WRITE (R188). -/
def execSmpTestWrite (reg : Nat) (v : W32) (s : State) : Host.Outcome State Fault Refusal :=
  runL (wfSmpTestWrite reg) "SMP_TEST_WRITE" (fun w =>
    if !w.smpOn then w
    else
      let n := v.toNat
      let w := if reg = 0 then
          ((w.set SMP_TEST_enable n).set SMP_TEST_k (n / 16)).set SMP_TEST_gen (n / 256) |>.set SMP_TEST_freq (n / 65536)
        else w.set (SMP_TEST_SEL_v (reg - 1)) n
      w.smpChans.foldl (fun w c => w.chanJudge c) w) s

/-- PHS_SET_WRITE: the set is invalid until its window is full again from the next reporting instant (R196). -/
def execPhsSetWrite (n : Nat) (v : W32) (s : State) : Host.Outcome State Fault Refusal :=
  runL (wfPhsSetWrite n) "PHS_SET_WRITE" (fun w =>
    if !w.smpOn then w
    else
      let x := v.toNat
      let from_ := nextInstant (W.phsRate (w.get SMP_PHS_CTRL_rate)) (w.ns + 1)
      let w := w.setSmp { w.smp with
        setWas := w.smp.setWas ++ [(n, from_, w.setWord n)]
        setAt := w.smp.setAt.filter (fun e => e.1 != n || decide (e.2 ≤ w.ns)) ++ [(n, from_)] }
      let w := ((w.set (SMP_PHS_SET_ch_a n) x).set (SMP_PHS_SET_ch_b n) (x / 2 ^ 8)).set (SMP_PHS_SET_ch_c n) (x / 2 ^ 16)
      let w := ((w.set (SMP_PHS_SET_m_class n) (x / 2 ^ 24)).set (SMP_PHS_SET_out n) (x / 2 ^ 25)).set
        (SMP_PHS_SET_current n) (x / 2 ^ 27)
      w.dirty.showSmp) s

/-- SMP_CTRL_WRITE: enable 0 turns every channel OFF (R188). -/
def execSmpCtrlWrite (v : W32) (s : State) : Host.Outcome State Fault Refusal :=
  runL true "SMP_CTRL_WRITE" (fun w =>
    if !w.smpOn then w
    else
      let n := v.toNat
      let was := w.bit SMP_CTRL_enable
      let w := ((w.set SMP_CTRL_enable n).set SMP_CTRL_source (n / 2)).set SMP_CTRL_accept_test (n / 4)
      let w := (w.set SMP_CTRL_phs_enable (n / 8)).dirty
      let w := if was then w
        else (w.setSmp { w.smp with seqs := [], convs := [], svDone := none, sv := [] }).applyCfg
      w.smpRefresh) s

/-- LINK_CFG_WRITE: a link whose setting breaks R181 stays off with LINK_TIMING. -/
def execLinkCfgWrite (l : Nat) (v : W32) (s : State) : Host.Outcome State Fault Refusal :=
  runL (wfLinkCfgWrite l) "LINK_CFG_WRITE" (fun w =>
    if !w.smpOn then w
    else
      let n := v.toNat
      (((w.set (SMP_LINK_CFG_enable l) n).set (SMP_LINK_CFG_sclk l) (n / 2)).set (SMP_LINK_CFG_read_delay l) (n / 256)).dirty.showSmp) s

end Sys2Proof.Machine
end

