-- ==== Sys2Proof/Machine/Sleep.lean ====
section
/-! DEFINITION. Sleep, wake sources, the tamper latch and the latching of interrupt events (R329, R339, R375 to R377,
R398 to R400). -/

namespace Sys2Proof.Machine

/-! ## Sleep (R398) -/

/-- The active member whose partner is STANDBY does not enter SLEEP, unless enable is first written 0 (R436). -/
def W.pairHeld (w : W) : Bool :=
  w.bit PTN_CTRL_enable && w.get PTN_STATUS_state == 4
    && (match w.ptn.hello with | some h => h.state == 3 | none => false)

/-- SLEEP: accepted, and a save of unsaved changes begun; or rejected (R31). -/
def execSleep (confirm t : Nat) (s : State) : Host.Outcome State Fault Refusal :=
  if lanesOn s && confirm == 0xC0DE then
    runEv true "SLEEP" 8 t (fun _ => true) none (fun w =>
      if w.op = .serving ∧ w.patState = 0 ∧ w.get CRY_STATUS_armed = 0 ∧ w.get FLT_STATUS_armed = 0 ∧ !w.pairHeld then
        let w : W := { w with regs := w.regs.wr WCH_WAKE_CAUSE_alarm0.addr 0 }
        let w := w.setSys { w.sys with entering := true, wakeWaits := false }
        if w.sys.dirtyUp.isSome then w.saveAsk else w
      else
        let w := (w.ev SYS_EVENT_sleep_rejected 0).record 0x014 0 (w.get SYS_STATUS_state) 0 0 0
        (w.set SYS_CMD_STATUS_done 1).set SYS_CMD_STATUS_result 1) s
  else runL true "SLEEP" id s

/-- SLEEP_ENTRY_DONE: once no settings save runs, the main domain goes off; a wake source that fired meanwhile wakes at
once (R31). -/
def execSleepEntryDone (t : Nat) (s : State) : Host.Outcome State Fault Refusal :=
  run true "SLEEP_ENTRY_DONE" (fun w =>
    let w := w.at_ t
    if !w.sys.entering || w.sys.saving.isSome then w
    else
      let woke := w.sys.wakeWaits
      let w := w.toSleep
      if woke then (w.setSys { w.sys with wakeWaits := false }).startUp 8 .entry else w) s

/-! ## Wake sources (R399) -/

/-- WAKE_TIMER_EXPIRE: WCH_WAKE_TIMER, which counts down in SLEEP only, is judged. -/
def execWakeTimerExpire (t : Nat) (s : State) : Host.Outcome State Fault Refusal :=
  run true "WAKE_TIMER_EXPIRE" (fun w =>
    let w := w.at_ t
    if w.op = .sleep ∧ w.bit WCH_WAKE_CFG_timer_en ∧ 0 < w.get WCH_WAKE_TIMER_v ∧ w.wakeTimerLeft = 0 then
      w.wake WCH_WAKE_CAUSE_timer
    else w) s

/-- WAKE_RX_MATCH (R248): at most one match in 10 s is reported. -/
def execWakeRxMatch (addr t : Nat) (s : State) : Host.Outcome State Fault Refusal :=
  run true "WAKE_RX_MATCH" (fun w =>
    let w := w.at_ t
    let hit := addr != 0 && (addr == w.get WCH_WAKE_ADDR_addr || (addr == 0xFFFF && w.bit WCH_WAKE_CFG_rx_bcast))
    let free := match w.sys.rxUp with | some u => decide (u + 10000000000 ≤ w.tb.up) | none => true
    if w.sys.watch && w.bit WCH_WAKE_CFG_rx_enable && hit && free then
      (w.setSys { w.sys with rxUp := some w.tb.up }).wake WCH_WAKE_CAUSE_receiver
    else w) s

/-- GIO_WAKE_EDGE; in SLEEP every general pin is an input (R453), before it the pin map says which are (R452). -/
def execGioWakeEdge (pin : Nat) (rising : Bool) (t : Nat) (s : State) : Host.Outcome State Fault Refusal :=
  run (wfGioWakeEdge pin) "GIO_WAKE_EDGE" (fun w =>
    let w := w.at_ t
    if (w.op == .sleep || w.pinFunc pin == 1) && tst (w.get WCH_WAKE_CFG_gio) pin && tst (w.get WCH_WAKE_CFG_gio_pol) pin == rising then
      w.wake ⟨WCH_WAKE_CAUSE_gio.addr, WCH_WAKE_CAUSE_gio.lo + pin, 1⟩
    else w) s

/-- CONSOLE_BREAK (R448). -/
def execConsoleBreak (t : Nat) (s : State) : Host.Outcome State Fault Refusal :=
  run true "CONSOLE_BREAK" (fun w =>
    let w := w.at_ t
    if w.bit WCH_WAKE_CFG_console_en then w.wake WCH_WAKE_CAUSE_console else w) s

/-- IRQ_EVENT_LATCH: the oldest raised event enters the staging store (R329); in SLEEP or while entering it the Watchman
latches an event of a watched source and wakes the module (R339). -/
def execIrqEventLatch (s : State) : Host.Outcome State Fault Refusal :=
  run true "IRQ_EVENT_LATCH" (fun w =>
    match w.irq.raised with
    | [] => w
    | e :: rest =>
      let w : W := { w with irq := { w.irq with raised := rest } }
      if w.op = .sleep then
        if w.sys.watched.any (fun (k : Nat × Nat) => k.2 == e.source) then
          let r := w.irq.raised
          let w := ({ w with irq := { w.irq with raised := [e] } } : W).latchWatched
          ({ w with irq := { w.irq with raised := r } } : W).wake WCH_WAKE_CAUSE_watched
        else w
      else if w.sys.entering then
        let w := w.stage e
        if (upTo 32).any (fun k => w.bit (IRQ_WAKE_SEL_enable k) && w.get (IRQ_WAKE_SEL_source k) == e.source) then
          ((w.set WCH_WAKE_CAUSE_watched 1).set WCH_WAKE_CAUSE_first e.source).setSys { w.sys with wakeWaits := true }
        else w
      else if w.mainOn then w.stage e
      else w) s

/-! ## Tamper (R375 to R377) -/

/-- One sample of a loop: its run of abnormal or normal readings. -/
def W.loopSample (w : W) (i : Nat) (abnormal : Bool) : W :=
  let k := w.key
  let a := if abnormal then k.abnormal.getD i 0 + 1 else 0
  let n := if abnormal then 0 else k.normal.getD i 0 + 1
  let w : W := { w with key := { k with abnormal := k.abnormal.set i a, normal := k.normal.set i n } }
  let now := w.get KEY_TAMPER_STAT_now
  w.set KEY_TAMPER_STAT_now (if abnormal then now ||| 2 ^ i else now - (if tst now i then 2 ^ i else 0))

/-- TAMPER_SAMPLE: every 31.25 ms while VBAK is valid (R375); a loop abnormal for two samples running is a tamper event. -/
def execTamperSample (a b : Bool) (t : Nat) (s : State) : Host.Outcome State Fault Refusal :=
  run true "TAMPER_SAMPLE" (fun w =>
    let w := w.at_ t
    if !w.sys.watch || !w.sys.vbak then w
    else
      let fires := w.loopsFire a b
      let w := (w.loopSample 0 a).loopSample 1 b
      if fires.isEmpty then w
      else w.takeEvent s.pending 3 t (some (.tamper fires)) (fun w => w.judgeEvent (.tamper fires))) s

/-- TAMPER_DETECT: GLITCH while the main supply is valid, TEMP or CLOCK (R375, R376). -/
def execTamperDetect (source t : Nat) (s : State) : Host.Outcome State Fault Refusal :=
  runEv (wfTamperDetect source) "TAMPER_DETECT" 3 t (fun w => w.tamperTakes source) (some (.tamper [source]))
    (fun w => w.judgeEvent (.tamper [source])) s

/-- CLEAR_TAMPER (R377): a grant, and every enabled source normal, each loop by two samples. -/
def execClearTamper (machine : Bool) (s : State) : Host.Outcome State Fault Refusal :=
  runL true "CLEAR_TAMPER" (fun w => w.keyPriv machine (fun w =>
    let en := w.get KEY_TAMPER_CFG_enables
    let quiet := (upTo 2).all (fun i => !tst en i || decide (2 ≤ w.key.normal.getD i 0))
      && (w.get KEY_TAMPER_STAT_now &&& en) == 0
    if !w.granted 1 none then w.keyDone 0x09
    else if !quiet then w.keyDone 0x0F
    else
      let old := w.get KEY_TAMPER_STAT_latched
      let w := ((w.setGrant none).set KEY_TAMPER_STAT_latched 0).record 0x022 0x13 old 0 0 0
      w.showKey.keyDone 0)) s

end Sys2Proof.Machine
end

