-- ==== Sys2Proof/Machine/Startup.lean ====
section
/-! DEFINITION. Supplies, resets, settings, firmware and the watchdog (R382 to R396, R442, R459, R464). -/

namespace Sys2Proof.Machine

/-! ## Supplies and RESET_N -/

/-- MAIN_SUPPLY_VALID (R382, R384). -/
def execMainSupplyValid (stage : StartStage) (t : Nat) (s : State) : Host.Outcome State Fault Refusal :=
  run true "MAIN_SUPPLY_VALID" (fun w =>
    let w := w.at_ t
    (w.setSys { w.sys with main := true }).coldStart stage) s

/-- DRAM_INIT_DONE (R320); a start still short of firmware entry goes on to it (R384). -/
def execDramInitDone (t : Nat) (s : State) : Host.Outcome State Fault Refusal :=
  run true "DRAM_INIT_DONE" (fun w =>
    let w := w.at_ t
    if w.mainOn then
      ((w.setSys { w.sys with dramDone := true }).set MEM_STATUS_dram_init_done 1).finishStart
    else w) s

/-- MAIN_SUPPLY_LOST: COLD, but SLEEP goes on while VBAK lasts (R29, R400, R442). -/
def execMainSupplyLost (t : Nat) (s : State) : Host.Outcome State Fault Refusal :=
  runEv true "MAIN_SUPPLY_LOST" 1 t (fun w => w.sys.main) none (fun w =>
    let w := w.setSys { w.sys with main := false }
    let w := if w.op = .cold ∨ (w.op = .sleep ∧ w.sys.vbak) then w else w.toCold 0
    let w := w.setSys { w.sys with pfail := false }
    (if w.sys.vbak then w else w.watchLost).showWch) s

/-- PFAIL_N_FALL (R397, R401, R459). -/
def execPfailNFall (t : Nat) (s : State) : Host.Outcome State Fault Refusal :=
  run true "PFAIL_N_FALL" (fun w => (w.at_ t).powerFail t) s

/-- OVERVOLTAGE_LOCKOUT: a power-fail event (R459). -/
def execOvervoltageLockout (t : Nat) (s : State) : Host.Outcome State Fault Refusal :=
  run true "OVERVOLTAGE_LOCKOUT" (fun w => (w.at_ t).powerFail t) s

/-- PFAIL_N_RISE with the supply valid: a supply-return reset after reduced mode or an abandoned start, and the start
that COLD waits for (R31, R401). -/
def execPfailNRise (t : Nat) (s : State) : Host.Outcome State Fault Refusal :=
  run true "PFAIL_N_RISE" (fun w =>
    let w := w.at_ t
    if !w.sys.pfail then w
    else
      let w := w.setSys { w.sys with pfail := false, main := true }
      if w.op = .cold then w.coldStart .entry
      else if w.bit SYS_STATUS_reduced ∨ w.op = .waking ∨ w.op = .restoring then w.startUp 2 .entry
      else w.showWch) s

/-- RESET_N_LOW (R382, R383): a pulse below 1 µs is ignored, one of 1 to 10 µs is either ignored or taken. -/
def execResetNLow (width t : Nat) (s : State) : Host.Outcome State Fault Refusal :=
  run true "RESET_N_LOW" (fun w =>
    let w := w.at_ t
    let short := decide (1000 ≤ width) && decide (width < 10000)
    let taken := decide (10000 ≤ width) || (short && Config.resetTaken w.free)
    let w := if short then w.draw else w
    if taken then w.takeEvent s.pending 2 t (some .resetLow) W.resetAct else w) s

/-- RESET_N_HIGH: the start from COLD, after a hold that runs (R383). -/
def execResetNHigh (stage : StartStage) (t : Nat) (s : State) : Host.Outcome State Fault Refusal :=
  run true "RESET_N_HIGH" (fun w =>
    let w := w.at_ t
    let w := w.setSys { w.sys with resetLow := false }
    if w.sys.hold = some 7 then w.setSys { w.sys with riseWaits := true } else w.coldStart stage) s

/-- RESET_HOLD_END: the reset completes (R383). -/
def execResetHoldEnd (stage : StartStage) (t : Nat) (s : State) : Host.Outcome State Fault Refusal :=
  run true "RESET_HOLD_END" (fun w =>
    let w := w.at_ t
    match w.sys.hold with
    | some 7 => (w.setSys { w.sys with hold := none, riseWaits := false }).coldStart stage
    | some 3 => if w.sys.pfail then w else w.startUp 3 stage
    | some 6 => if w.sys.pfail then w else w.startUp 6 stage
    | _ => w) s

/-- VBAK_RISE: the Watchman starts, where it does not run (R352). -/
def execVbakRise (t : Nat) (s : State) : Host.Outcome State Fault Refusal :=
  run true "VBAK_RISE" (fun w =>
    let w := w.at_ t
    ((w.setSys { w.sys with vbak := true }).watchStart).showWch) s

/-- VBAK_LOST: the Watchman stops without the main supply (R400, R444). -/
def execVbakLost (t : Nat) (s : State) : Host.Outcome State Fault Refusal :=
  run true "VBAK_LOST" (fun w =>
    let w := w.at_ t
    let w := w.setSys { w.sys with vbak := false }
    let w := if w.sys.main then w else (if w.op = .sleep then w.toCold 0 else w).watchLost
    w.showWch) s

/-- HOLDUP_CHARGER_STOP (R459). -/
def execHoldupChargerStop (t : Nat) (s : State) : Host.Outcome State Fault Refusal :=
  run true "HOLDUP_CHARGER_STOP" (fun w =>
    let w := w.at_ t
    if w.mainOn then (w.setSys { w.sys with chargerOff := true }).evRec HLT_EVENT_holdup_fail 0 else w) s

/-- SFP_OVERCURRENT: the cage of an SFP+ port loses power (R454); ports 4 and 5 have none. -/
def execSfpOvercurrent (port : Nat) (s : State) : Host.Outcome State Fault Refusal :=
  run (wfSfpOvercurrent port) "SFP_OVERCURRENT" (fun w =>
    if w.mainOn && decide (port < 4) then
      ((w.set (NET_PORT_STAT_present port) 0).set (NET_PORT_STAT_link_up port) 0).set (NET_PORT_STAT_speed port) 0
    else w) s

/-! ## Watchdog (R394, R395) -/

/-- WATCHDOG_EXPIRE. -/
def execWatchdogExpire (t : Nat) (s : State) : Host.Outcome State Fault Refusal :=
  runEv true "WATCHDOG_EXPIRE" 5 t W.watchdogOut (some .watchdog) W.watchdogAct s

/-- WATCHDOG_KICK. -/
def execWatchdogKick (v : W32) (t : Nat) (s : State) : Host.Outcome State Fault Refusal :=
  runL true "WATCHDOG_KICK" (fun w =>
    let w := w.at_ t
    if v.toNat = 0x4B49 then
      w.setSys { w.sys with kickUp := w.tb.up, kickMs := max 100 (w.get SYS_WDOG_CFG_timeout_ms) }
    else w) s

/-- BOOT_LOOP_CLEAR. -/
def execBootLoopClear (t : Nat) (s : State) : Host.Outcome State Fault Refusal :=
  run true "BOOT_LOOP_CLEAR" (fun w =>
    let w := w.at_ t
    if w.mainOn && !w.sys.booting && decide (w.sys.entryUp + 60000000000 ≤ w.tb.up) then
      w.setSys { w.sys with loops := 0 }
    else w) s

/-! ## Settings (R389, R390) -/

/-- SAVE_SETTINGS. -/
def execSaveSettings (t : Nat) (s : State) : Host.Outcome State Fault Refusal :=
  runL true "SAVE_SETTINGS" (fun w =>
    let w := w.at_ t
    (w.setSys { w.sys with saveCmd := true }).saveAsk) s

/-- AUTO_SAVE. -/
def execAutoSave (t : Nat) (s : State) : Host.Outcome State Fault Refusal :=
  run true "AUTO_SAVE" (fun w =>
    let w := w.at_ t
    let auto := w.get SYS_SET_CFG_auto_s
    match w.sys.dirtyUp with
    | some u => if w.lanesRun && auto != 0 && decide (u + auto * 1000000000 ≤ w.tb.up) then w.saveAsk else w
    | none => w) s

/-- SETTINGS_SAVE_DONE; a pattern-reload reset that waits for it acts then (R464). -/
def execSettingsSaveDone (t : Nat) (s : State) : Host.Outcome State Fault Refusal :=
  run true "SETTINGS_SAVE_DONE" (fun w =>
    let w := w.at_ t
    if !w.mainOn then w
    else
      let w := w.saveDone
      if w.sys.hold = some 5 ∧ w.sys.saving.isNone then w.reloadBegin else w) s

/-! ## Commanded resets (R382, R392) -/

/-- SYSTEM_RESET. -/
def execSystemReset (confirm t : Nat) (s : State) : Host.Outcome State Fault Refusal :=
  if lanesOn s && confirm == 0xC0DE then runEv true "SYSTEM_RESET" 5 t (fun _ => true) none (fun w => w.softReset 6) s
  else runL true "SYSTEM_RESET" id s

/-- PATTERN_RELOAD. -/
def execPatternReload (confirm t : Nat) (s : State) : Host.Outcome State Fault Refusal :=
  if lanesOn s && confirm == 0xC0DE then runEv true "PATTERN_RELOAD" 7 t (fun _ => true) none W.patReload s
  else runL true "PATTERN_RELOAD" id s

/-- PATTERN_RELOAD_DONE. -/
def execPatternReloadDone (t : Nat) (s : State) : Host.Outcome State Fault Refusal :=
  run true "PATTERN_RELOAD_DONE" (fun w =>
    let w := w.at_ t
    if w.op = .restoring ∧ !w.sys.booting ∧ !w.sys.pfail then w.reloadEnd else w) s

/-! ## Firmware (R387) -/

/-- A SYS command done with a result. -/
def W.sysDone (w : W) (result : Nat) : W :=
  ((w.set SYS_CMD_STATUS_busy 0).set SYS_CMD_STATUS_done 1).set SYS_CMD_STATUS_result result

/-- STAGE_FW: the image checked, and its write to the slot that is not active begun. -/
def execStageFw (s : State) : Host.Outcome State Fault Refusal :=
  runL true "STAGE_FW" (fun w =>
    let src := w.get SYS_FW_SRC_LO_v + 2 ^ 32 * w.get SYS_FW_SRC_HI_v
    let len := w.get SYS_FW_LEN_v
    if w.sys.staging.isSome then w.set SYS_CMD_STATUS_result 6
    else if !inRam src (max 1 len) then w.sysDone 2
    else if 0x10000E0 < len then w.sysDone 3
    else
      let b := w.rdBytes src len
      let r := w.imgCheck b
      if r ≠ 0 then w.sysDone r
      else
        let active := match w.sys.boot, w.sys.slot with
          | some x, _ => some x.active
          | none, x => x
        let target := match active with | some a => 1 - a | none => 0
        let w : W := { w with fls := { w.fls with
          sectors := tblDrop (fun k => decide (8192 * target ≤ k) && decide (k < 8192 * target + 8192)) w.fls.sectors } }
        ((w.setSys { w.sys with staging := some (target, b) }).set SYS_CMD_STATUS_busy 1).showFw) s

/-- STAGE_FW_DONE. -/
def execStageFwDone (ok : Bool) (t : Nat) (s : State) : Host.Outcome State Fault Refusal :=
  run true "STAGE_FW_DONE" (fun w =>
    let w := w.at_ t
    match w.sys.staging with
    | none => w
    | some (target, b) =>
      let w := w.setSys { w.sys with staging := none }
      if !ok then (w.sysDone 7).setB SYS_CMD_STATUS_busy w.sys.saving.isSome
      else
        let n := ceilDiv b.length 4096
        let secs := (upTo n).foldl (fun (m : List (Nat × List Byte)) i =>
          tblPut (8192 * target + i) (padTo 4096 (cut b (4096 * i) 4096)) m) w.fls.sectors
        let w : W := { w with fls := { w.fls with sectors := secs }, key := { w.key with staged := some (sha384 b) } }
        let w := w.setSys { w.sys with
          boot := some ⟨match w.sys.boot, w.sys.slot with | some x, _ => x.active | none, some x => x | none, none => 1 - target,
            some target, 0⟩ }
        let w := ((w.tallyN 0x1B n).ev SYS_EVENT_fw_staged 0).sysDone 0
        (w.setB SYS_CMD_STATUS_busy w.sys.saving.isSome).showFw) s

/-- FW_COMMIT: the trial image made active; result STATE where none runs on trial. -/
def execFwCommit (s : State) : Host.Outcome State Fault Refusal :=
  runL true "FW_COMMIT" (fun w =>
    if w.sys.staging.isSome then w.set SYS_CMD_STATUS_result 6
    else match w.sys.trial, w.sys.slot with
      | true, some n =>
        let serial := imgSerial (w.fls.image n)
        let w := w.setSys { w.sys with
          boot := some ⟨n, none, 0⟩
          trial := false
          fwMin := if w.bit SYS_CTRL_fw_min_raise then max w.sys.fwMin serial else w.sys.fwMin }
        let w : W := { w with key := { w.key with staged := none } }
        (((w.set SYS_STATUS_fw_trial 0).sysDone 0).setB SYS_CMD_STATUS_busy w.sys.saving.isSome).showFw
      | _, _ => (w.sysDone 1).setB SYS_CMD_STATUS_busy w.sys.saving.isSome) s

end Sys2Proof.Machine
end

