-- ==== Sys2Proof/Machine/Timebase.lean ====
section
/-! DEFINITION. The commands of the timebase (R59 to R78, R462). -/

namespace Sys2Proof.Machine

/-! ## Sources -/

/-- PTP_MESSAGE_RX (R63). -/
def execPtpMessageRx (port : Nat) (m : PtpFrame) (t : Nat) (s : State) : Host.Outcome State Fault Refusal :=
  run (wfPtpMessageRx port) "PTP_MESSAGE_RX" (fun w =>
    let w := w.at_ t
    if w.mainOn && !w.gated 0x18 then w.ptpRx port m.domain m.msg t else w) s

/-- PTP_MESSAGE_TX (R63, R64). -/
def execPtpMessageTx (port : Nat) (k : PtpTx) (t : Nat) (s : State) : Host.Outcome State Fault Refusal :=
  run (wfPtpMessageTx port) "PTP_MESSAGE_TX" (fun w =>
    let w := w.at_ t
    if w.mainOn then w.ptpTx port k t else w) s

/-- ANNOUNCE_TIMEOUT: three announce intervals without an Announce of the master (R63, R67). -/
def execAnnounceTimeout (t : Nat) (s : State) : Host.Outcome State Fault Refusal :=
  run true "ANNOUNCE_TIMEOUT" (fun w =>
    let w := w.at_ t
    let log := w.get TBS_PTP_DS_log_announce
    let ns := 3000000000 * 2 ^ (if log ≤ 2 then log else 0)
    if w.tb.ptpValid && decide (w.tb.lastAnn + ns ≤ w.tb.up) then w.ptpDrop else w) s

/-- PPS_EDGE: a capture edge of input 0 (PPS_IN) or 1 (the GNSS pulse), and a sample where PPS is the source (R65). -/
def execPpsEdge (gnss : Bool) (sec t : Nat) (s : State) : Host.Outcome State Fault Refusal :=
  run (wfPpsEdge sec) "PPS_EDGE" (fun w =>
    let w := w.at_ t
    if !w.mainOn then w
    else
      let w := w.capture (bitNat gnss) true (65536 * t)
      if w.bit TBS_CTRL_pps_select != gnss then w
      else
        let good : Bool := match w.tb.ppsLast with
          | some u => decide (u + 999900000 ≤ w.tb.up) && decide (w.tb.up ≤ u + 1000100000)
          | none => false
        let run_ := if good then w.tb.ppsRun + 1 else 1
        let w := w.setTb { w.tb with ppsLast := some w.tb.up, ppsRun := run_, ppsValid := w.tb.ppsValid || decide (3 ≤ run_) }
        let w := w.judge
        if w.phaseSrc ≠ 2 then w.showQuality
        else
          let x : Int := (t : Int) - w.get TBS_PPS_CFG_in_delay_ns
          let r := x % 1000000000
          let off := if r < 500000000 then r else r - 1000000000
          let extra : Int := if gnss then (x - off) - (sec : Int) * 1000000000 else (x - off) - w.ptpSecond (x - off) * 1000000000
          (w.phaseSample off extra (some (w.get TBS_PPS_CFG_in_acc_ns))).showQuality) s

/-- PPS_LOST: 1.1 s without an edge (R65). -/
def execPpsLost (t : Nat) (s : State) : Host.Outcome State Fault Refusal :=
  run true "PPS_LOST" (fun w =>
    let w := w.at_ t
    match w.tb.ppsLast with
    | some u =>
      if w.mainOn && decide (u + 1100000000 ≤ w.tb.up) then
        let was := w.tb.ppsValid
        let wasPhase := w.phaseSrc == 2
        let w := w.setTb { w.tb with ppsLast := none, ppsRun := 0, ppsValid := false }
        (if was then w.srcLost wasPhase else w).showQuality
      else w
    | none => w) s

/-- REF10M_VALID (R66). -/
def execRef10mValid (t : Nat) (s : State) : Host.Outcome State Fault Refusal :=
  run true "REF10M_VALID" (fun w =>
    let w := w.at_ t
    if w.mainOn then ((w.setTb { w.tb with refValid := true }).judge).showQuality else w) s

/-- REF10M_LOST: the counter keeps the last rate (R66). -/
def execRef10mLost (t : Nat) (s : State) : Host.Outcome State Fault Refusal :=
  run true "REF10M_LOST" (fun w =>
    let w := w.at_ t
    if w.mainOn && w.tb.refValid then ((w.setTb { w.tb with refValid := false }).srcLost false).showQuality else w) s

/-! ## Servo commands -/

/-- STEP: TBS_STEP applied; it fails where TBS_STEP_NS is beyond ±999,999,999 (R69). -/
def execStep (s : State) : Host.Outcome State Fault Refusal :=
  runL true "STEP" (fun w =>
    let ns := sgn 32 (w.get TBS_STEP_NS_v)
    if 999999999 < ns.natAbs then w else w.stepAll (sgn 32 (w.get TBS_STEP_SEC_v) * 1000000000 + ns)) s

/-- HOLD (R67). -/
def execHold (s : State) : Host.Outcome State Fault Refusal :=
  runL true "HOLD" (fun w => ((w.setTb { w.tb with holdCmd := true }).toHoldover).showQuality) s

/-- RELEASE (R67). -/
def execRelease (s : State) : Host.Outcome State Fault Refusal :=
  runL true "RELEASE" (fun w => ((w.setTb { w.tb with holdCmd := false }).judge).showQuality) s

/-- SLEW_DONE (R68). -/
def execSlewDone (t : Nat) (s : State) : Host.Outcome State Fault Refusal :=
  run true "SLEW_DONE" (fun w =>
    let w := w.at_ t
    if w.tb.slew = 0 then w.set TBS_STATUS_slewing 0 else w) s

/-- TBS_CTRL_WRITE: servo_enable acts at once (R462); another PPS source starts without validity (R65). -/
def execTbsCtrlWrite (v : W32) (s : State) : Host.Outcome State Fault Refusal :=
  runL true "TBS_CTRL_WRITE" (fun w =>
    let sel := w.bit TBS_CTRL_pps_select
    let isOn := w.bit TBS_CTRL_servo_enable
    let wasPps := w.tb.ppsValid
    let phase := w.phaseSrc
    let w := ({ w with regs := w.regs.busWrite TBS_CTRL_servo_enable.addr v } : W).dirty
    let w := if w.bit TBS_CTRL_pps_select = sel then w
      else
        let w := w.setTb { w.tb with ppsLast := none, ppsRun := 0, ppsValid := false }
        if wasPps then w.srcLost (phase == 2) else w
    let w := if isOn && !w.bit TBS_CTRL_servo_enable then
        ((w.setTb { w.tb with slew := 0 }).set TBS_STATUS_slewing 0).toHoldover
      else w
    (w.judge).showQuality) s

/-! ## Leap seconds (R72) -/

/-- LEAP_SECOND. -/
def execLeapSecond (t : Nat) (s : State) : Host.Outcome State Fault Refusal :=
  run true "LEAP_SECOND" (fun w =>
    let w := w.at_ t
    if w.mainOn && w.bit TBS_UTC_OFFSET_leap_pending && decide (w.leapSec ≤ w.sec) then w.applyLeap else w) s

/-- LEAP_OCCURRED_EXPIRE. -/
def execLeapOccurredExpire (t : Nat) (s : State) : Host.Outcome State Fault Refusal :=
  run true "LEAP_OCCURRED_EXPIRE" (fun w =>
    let w := w.at_ t
    match w.tb.leapAt with
    | some u =>
      if u + 86400000000000 ≤ w.ns then (w.setTb { w.tb with leapAt := none }).set TBS_UTC_OFFSET_leap_occurred 0 else w
    | none => w) s

/-! ## Triggers, ticks and captures -/

/-- TRIGGER_ARM (R74). -/
def execTriggerArm (n : Nat) (v : W32) (s : State) : Host.Outcome State Fault Refusal :=
  runL (wfTriggerArm n) "TRIGGER_ARM" (fun w => w.trgWrite n v) s

/-- TRIGGER_FIRE (R73, R74). -/
def execTriggerFire (n t : Nat) (s : State) : Host.Outcome State Fault Refusal :=
  run (wfTriggerFire n) "TRIGGER_FIRE" (fun w =>
    let w := w.at_ t
    match tblGet w.tb.trg n with
    | some a => if w.mainOn && decide (a.next ≤ w.ns) then w.trgFire n a else w
    | none => w) s

/-- EPOCH_TICK: every running group owes a marker of the whole second ahead of its next set (R75, R120). -/
def execEpochTick (t : Nat) (s : State) : Host.Outcome State Fault Refusal :=
  run true "EPOCH_TICK" (fun w =>
    let w := w.at_ t
    if w.mainOn && decide (w.tb.tickSec < w.sec) then
      (w.setTb { w.tb with tickSec := w.sec }).owe (fun x => { x with tick := true })
    else w) s

/-- PPS_OUT_RISE: the comparator fires once for the newest whole second (R75, R77); the gate is judged at the rise. -/
def execPpsOutRise (t : Nat) (s : State) : Host.Outcome State Fault Refusal :=
  run true "PPS_OUT_RISE" (fun w =>
    let w := w.at_ t
    if w.mainOn && decide (w.tb.ppsSec < w.sec) then
      let w := w.setTb { w.tb with ppsSec := w.sec }
      if !w.bit TBS_CTRL_pps_out_gate || w.timeOk then w.setTb { w.tb with ppsOut := true, ppsRoseAt := w.tb.up } else w
    else w) s

/-- PPS_OUT_FALL (R75). -/
def execPpsOutFall (t : Nat) (s : State) : Host.Outcome State Fault Refusal :=
  run true "PPS_OUT_FALL" (fun w =>
    let w := w.at_ t
    let ms := max 1 (min 999 (w.get TBS_PPS_CFG_out_width_ms))
    if w.tb.ppsOut && decide (w.tb.ppsRoseAt + ms * 1000000 ≤ w.tb.up) then w.setTb { w.tb with ppsOut := false } else w) s

/-- CAPTURE_EDGE: an edge at `t` ns and `frac` × 2^-16 ns (R76). -/
def execCaptureEdge (input : Nat) (rising : Bool) (t frac : Nat) (s : State) : Host.Outcome State Fault Refusal :=
  run (wfCaptureEdge input frac) "CAPTURE_EDGE" (fun w =>
    let w := w.at_ t
    if w.mainOn then w.capture input rising (65536 * t + frac) else w) s

/-- CAP_NS_READ: the head entry latched; 0 where the FIFO is empty (R76). -/
def execCapNsRead (n : Nat) (s : State) : Host.Outcome State Fault Refusal :=
  runL (wfCapNsRead n) "CAP_NS_READ" (fun w =>
    let x := (((tblGet w.tb.cap n).getD []).head?).getD 0
    let ns := x / 65536
    let sec := ns / 1000000000
    let w := (w.set (CAP_SEC_LO_v n) (sec % 2 ^ 32)).set (CAP_SEC_HI_v n) (sec / 2 ^ 32 % 65536 + x % 65536 * 65536)
    (w.set (CAP_NS_v n) (ns % 1000000000)).answer (ns % 1000000000)) s

/-- CAP_POP: the head entry removed (R76). -/
def execCapPop (n : Nat) (s : State) : Host.Outcome State Fault Refusal :=
  runL (wfCapPop n) "CAP_POP" (fun w =>
    let q := ((tblGet w.tb.cap n).getD []).drop 1
    (w.setTb { w.tb with cap := tblPut n q w.tb.cap }).set (CAP_CTRL_count n) q.length) s

/-- TBS_NOW_READ: the nanoseconds answered, seconds and fraction latched. -/
def execTbsNowRead (s : State) : Host.Outcome State Fault Refusal :=
  runL true "TBS_NOW_READ" (fun w =>
    let w := (w.set TBS_NOW_SEC_LO_v (w.sec % 2 ^ 32)).set TBS_NOW_SEC_HI_v
      (w.sec / 2 ^ 32 % 65536 + w.tb.now % 2 ^ 32 / 65536 * 65536)
    (w.set TBS_NOW_NS_v w.nsec).answer w.nsec) s

end Sys2Proof.Machine
end

