-- ==== Sys2Proof/Machine/Bus.lean ====
section
/-! DEFINITION. The register bus (R4 to R6, R13 to R16): a word the lanes write to, or read from, a device register
reaches the command, the view or the plain register that its address names. -/

namespace Sys2Proof.Machine

/-- One meaning after another, ending where the first stops. -/
def andThen (o : Host.Outcome State Fault Refusal) (f : State → Host.Outcome State Fault Refusal) :
    Host.Outcome State Fault Refusal :=
  match o with
  | .next s => f s
  | .fault x => .fault x
  | .refused x => .refused x

/-- The index of the element of an array of `n` registers that lies at an address. -/
def idxOf (base stride n addr : Nat) : Option Nat :=
  if base ≤ addr ∧ (addr - base) % stride = 0 ∧ (addr - base) / stride < n then some ((addr - base) / stride) else none

namespace W

/-! ## Registers that are not there -/

/-- A register that reads its reset value and ignores writes: its block's clock domain is gated (R36), or the active
pattern lacks its engine, section, group, radio, string, port, channel or queue. -/
def regGone (w : W) (a : Nat) : Bool :=
  let p := w.pat.active
  let b := blockAt a
  let o := a % 0x10000
  if o = 0xFFFC then false
  else if w.gated b then true
  else if b = 0x06 then
    !w.alnOn || (decide (0x1000 ≤ o ∧ o < 0x2000) && (w.alnItem ((o - 0x1000) / 0x40)).isNone)
  else if b = 0x07 then
    if o < 0x1C then !(w.ganHas 2 || w.ganHas 3 || w.ganHas 4)
    else if 0x400 ≤ o ∧ o < 0x700 then !w.ganHas 3
    else if 0x800 ≤ o ∧ o < 0x900 then !w.ganHas 4
    else !w.ganHas 2
  else if b = 0x09 then
    !w.smpOn || (decide (0x1000 ≤ o ∧ o < 0x1800) && decide (p.smpChannels ≤ (o - 0x1000) / 0x10))
      || (decide (0x3000 ≤ o ∧ o < 0x3200) && decide (p.smpChannels ≤ (o - 0x3000) / 4))
  else if b = 0x0A then !p.hasEngine 5
  else if b = 0x0B then
    p.radios.isNone || (decide (0x100 ≤ o ∧ o < 0x200) && (w.radItem ((o - 0x100) / 0x40)).isNone)
  else if b = 0x0C then p.radios.isNone
  else if b = 0x0D then
    p.leds.isNone || (decide (0x100 ≤ o ∧ o < 0x200) && (w.ledItem ((o - 0x100) / 0x10)).isNone)
      || (decide (0x1000 ≤ o ∧ o < 0x1080) && (w.ledItem (16 + (o - 0x1000) / 0x20)).isNone)
  else if b = 0x12 then decide (0x1000 ≤ o) && (w.qItem ((o - 0x1000) / 0x40)).isNone
  else false

/-! ## Writes -/

/-- A write by the access codes of R5; one that reaches a field the settings hold is a change (R390). -/
def plainWrite (w : W) (a : Nat) (v : W32) : W :=
  let w : W := { w with regs := w.regs.busWrite a v }
  match regDefAt a with
  | some d => if d.rw &&& d.saved = 0 then w else w.dirty
  | none => w

/-- The bucket of the code selected, in REC_RL_CFG and REC_RL_STAT (R406). -/
def showRl (w : W) : W :=
  let b := w.bucket (w.get REC_RL_SEL_code)
  let w := ((w.set REC_RL_CFG_burst b.burst).set REC_RL_CFG_interval_ms b.intervalMs).setB REC_RL_CFG_disable b.disable
  (w.set REC_RL_STAT_tokens b.tokens).set REC_RL_STAT_suppressed b.sup

/-- A field brought into its range by the write itself: the Lamplighter's location, offset and step times, the units of
global operations and the partner's miss. -/
def clipWrite (w : W) (a : Nat) : W :=
  let put (f : Fld) (n lo hi : Int) : W := w.set f (unsgn f.width (clip lo hi n))
  if a = LMP_LOCAL_offset_min.addr then put LMP_LOCAL_offset_min (sgn 16 (w.get LMP_LOCAL_offset_min)) (-1080) 1080
  else if a = LMP_ASTRO_LAT_v.addr then put LMP_ASTRO_LAT_v (sgn 32 (w.get LMP_ASTRO_LAT_v)) (-90000000) 90000000
  else if a = LMP_ASTRO_LON_v.addr then put LMP_ASTRO_LON_v (sgn 32 (w.get LMP_ASTRO_LON_v)) (-180000000) 180000000
  else if a = CRY_GOP_CFG_trg_count.addr then
    put CRY_GOP_CFG_trg_count (w.get CRY_GOP_CFG_trg_count) 0 (16 - (w.get CRY_GOP_CFG_trg_first : Int))
  else if a = PTN_CFG_miss.addr then put PTN_CFG_miss w.ptnMiss 2 15
  else match idxOf 0x400A2000 8 1024 a with
    | some j =>
      let f := LMP_PRG_STEPA_minutes (j / 16) (j % 16)
      if w.get (LMP_PRG_STEPA_ref (j / 16) (j % 16)) = 0 then put f (w.get f) 0 1439 else put f (sgn 16 (w.get f)) (-720) 720
    | none => w

/-- What a write does beside storing its bits, by the address: `old` is the word the register held. -/
def afterWrite (w : W) (a : Nat) (old : W32) : W :=
  let b := blockAt a
  let o := a % 0x10000
  if b = 0x00 then (if a = SYS_FW_MIN_SERIAL_v.addr then
      w.setSys { w.sys with fwMin := max w.sys.fwMin (w.get SYS_FW_MIN_SERIAL_v) } |>.showFw else w)
  else if b = 0x02 then
    if a = TBS_STATUS_servo_state.addr then w else (w.judge).showQuality
  else if b = 0x06 then
    match idxOf 0x40061008 0x40 64 a, idxOf 0x40062000 0x20 16 a with
    | some g, _ =>
      match w.alnItem g with
      | some i => (w.set (ALN_GRP_WIN_window_ms g) (max (gMin i) (min (gMax i) (w.get (ALN_GRP_WIN_window_ms g))))).showGroup i
      | none => w
    | _, some _ => w.alnRefresh
    | none, none => if a = ALN_LOCAL_CFG_enable.addr then w.alnRefresh else w
  else if b = 0x08 then
    let w := if a = CRY_CTRL_goose_enable.addr ∧ !old.getLsbD 3 ∧ w.bit CRY_CTRL_brodsan_enable then
        w.setCry { w.cry with since := w.tb.up } else w
    if a = CRY_CTRL_goose_enable.addr ∧ !old.getLsbD 2 ∧ w.bit CRY_CTRL_goose_enable then
      (upTo 16).foldl (fun (w : W) c => w.readGcb c) w
    else w
  else if b = 0x09 then
    if a = SMP_DET_SEL_channel.addr then w.showDet else w.showSmp
  else if b = 0x0A then
    let w := if savedMask a = 0 then w else w.lmpTold a
    if a = LMP_TRK_SEL_track.addr then w.showTracks
    else if a = LMP_LEVEL_SEL_lantern.addr then w.showLevel
    else if a = LMP_ASTRO_LAT_v.addr ∨ a = LMP_ASTRO_LON_v.addr ∨ a = LMP_LOCAL_offset_min.addr then
      w.astroWritten old (a == LMP_LOCAL_offset_min.addr)
    else if !w.lmpOn then w
    else if a = LMP_STAGE_FORCE_stage.addr then w.follow []
    else match idxOf 0x400A0408 8 255 a, idxOf 0x400A040C 8 255 a, idxOf 0x400A0180 4 16 a with
      | some n, _, _ =>
        if w.grState (n + 1) = 0 then w
        else if old.getLsbD 5 && !w.bit (LMP_GR0_enable n) then
          (w.grIdle [n + 1]).1.follow [(old.toNat % 8, old.toNat / 2 ^ 8 % 2 ^ 8)]
        else w.follow []
      | _, some n, _ => if w.grState (n + 1) = 0 then w else w.follow []
      | _, _, some _ => w.conUpdate
      | none, none, none => w
  else if b = 0x0B then
    match idxOf 0x400B0100 0x40 4 a with
    | some r => (if old.getLsbD 2 != w.bit (RAD_RCTRL_tx_key r) then w.txKeyChanged r else w).showRad
    | none => if a = RAD_CTRL_enable.addr then w.showRad else w
  else if b = 0x0D then
    match idxOf 0x400D0234 0x40 4 a, idxOf 0x400D0200 0x40 4 a with
    | some c, _ =>
      let w := w.setLed { w.led with tempUp := tblPut c w.tb.up w.led.tempUp }
      let w := w.trimMode c
      if w.ledOn then w.ledRefresh else w
    | _, some c => let w := w.trimMode c; if w.ledOn then w.ledRefresh else w
    | none, none => if w.ledOn then w.ledRefresh else w
  else if b = 0x0E then
    match idxOf 0x400E0020 4 4 a with
    | some s => w.setMtr { w.mtr with tempUp := tblPut s w.tb.up w.mtr.tempUp }
    | none => if w.mtrHere ∧ (o < 0x10 ∨ 0x800 ≤ o) then w.mtrRefresh else w
  else if b = 0x11 then
    if a = IRQ_CTRL_enable.addr then w.evalAll
    else if 0x2000 ≤ o ∧ o < 0x2800 then
      let k := (o - 0x2000) / 0x20
      if w.bit (IRQ_RING_CFG_enable (k / 8) (k % 8)) && !w.ringOk (k / 8) (k % 8) then w.ev IRQ_EVENT_bad_ring 0 else w
    else w
  else if b = 0x14 then (if a = REC_RL_SEL_code.addr then w.showRl else w)
  else if b = 0x16 then
    if a = HLT_SEL_index.addr then w.showInd
    else if a = HLT_IND_RATED_v.addr then
      let i := w.get HLT_SEL_index
      if i < 3 ∨ 40 ≤ i then w.showInd
      else
        let w := w.setInd i { w.indicator i with rated := w.get HLT_IND_RATED_v }
        (if w.bit HLT_CTRL_enable then w.wearCheck i w.today else w).showInd
    else if a = HLT_WARN_pct.addr ∧ w.bit HLT_CTRL_enable then (upTo 40).foldl (fun (w : W) i => w.wearCheck i w.today) w
    else w
  else if b = 0x18 then
    match idxOf 0x40180000 4 6 a with
    | some p =>
      if 4 ≤ p ∧ !w.bit (NET_PORT_CTRL_tx_enable p) then
        (w.set (NET_PORT_STAT_link_up p) 0).set (NET_PORT_STAT_speed p) 0
      else w
    | none => w
  else w

/-- Whether a write is ignored where it stands: a locked watchdog (R394), a serial below the one held (R55, R387), a
phasor layout while the stream runs (R196), tamper enables outside PROVISIONED and MAINTENANCE (R375), a store to a
queue register the lanes have no part in. -/
def writeHeld (w : W) (a : Nat) (v : W32) : Bool :=
  if a = SYS_WDOG_CFG_timeout_ms.addr then w.bit SYS_WDOG_CFG_lock
  else if a = SYS_FW_MIN_SERIAL_v.addr then decide (v.toNat < w.get SYS_FW_MIN_SERIAL_v)
  else if a = PAT_MIN_SERIAL_v.addr then decide (v.toNat < w.get PAT_MIN_SERIAL_v)
  else if a = SMP_PHS_CTRL_fnom_50.addr ∨ (idxOf 0x40090440 4 8 a).isSome then w.bit SMP_CTRL_phs_enable
  else if a = KEY_TAMPER_CFG_enables.addr then !(w.key.lc == 1 || w.key.lc == 3)
  else match idxOf 0x40121020 0x40 256 a with
    | some q => match w.qItem q with | some i => i.producer != 0xF0 | none => true
    | none => false

end W

/-- A write that is no command of its own; an offset that no register occupies ignores it (R6). -/
def wrPlain (a : Nat) (v : W32) (s : State) : Host.Outcome State Fault Refusal :=
  runL true "REGISTER_WRITE" (fun w =>
    if (regDefAt a).isNone then w
    else if blockAt a = 3 ∨ blockAt a = 4 then w.aonSend a v
    else if w.regGone a || w.writeHeld a v then w
    else
      let old := w.regs.rd a
      ((w.plainWrite a v).clipWrite a).afterWrite a old) s

/-! ## Commands by address -/

/-- SYS, PAT and TBS. -/
def wrSys (a : Nat) (v : W32) (t : Nat) : Option (State → Host.Outcome State Fault Refusal) :=
  let n := v.toNat
  let confirm := n / 2 ^ 16
  if a = SYS_CMD_op.addr then
    match n % 16 with
    | 1 => some (execSaveSettings t)
    | 2 => some (execSystemReset confirm t)
    | 3 => some (execPatternReload confirm t)
    | 4 => some (execSleep confirm t)
    | 5 => some execStageFw
    | 6 => some execFwCommit
    | _ => none
  else if a = SYS_WDOG_KICK_v.addr then some (execWatchdogKick v t)
  else none

def wrPat (a : Nat) (v : W32) (t : Nat) : Option (State → Host.Outcome State Fault Refusal) :=
  if a = PAT_CMD_cmd.addr then
    match v.toNat % 16 with
    | 1 => some execVerify
    | 2 => some (execArm t)
    | 3 => some execCancel
    | 4 => some (execCommit t)
    | 5 => some (execRevert t)
    | _ => none
  else if a = PAT_TRIAL_TIMEOUT_seconds.addr then some (execPatTrialTimeoutWrite v t)
  else none

def wrTbs (a : Nat) (v : W32) : Option (State → Host.Outcome State Fault Refusal) :=
  if a = TBS_CTRL_servo_enable.addr then some (execTbsCtrlWrite v)
  else if a = TBS_CMD_cmd.addr then
    match v.toNat % 16 with
    | 1 => some execStep
    | 2 => some execHold
    | 3 => some execRelease
    | _ => none
  else match idxOf 0x40020100 0x20 16 a, idxOf 0x40020410 0x20 16 a with
    | some k, _ => some (execTriggerArm k v)
    | _, some k => some (execCapPop k)
    | none, none => none

/-- Stream ingress, the alignment engine, the grid analytics. -/
def wrIng (a : Nat) (v : W32) : Option (State → Host.Outcome State Fault Refusal) :=
  let i := v.toNat / 2 ^ 16 % 2 ^ 13
  if a = ING_CTRL_enable.addr then some (execIngCtrlWrite v)
  else if a = ING_MAP_QUERY_idcode.addr then some (execMapQuery v)
  else if a = ING_CMD_op.addr then
    match v.toNat % 16 with
    | 1 => some (execIngInvalidate i)
    | 2 => some (execIngEnable i)
    | 3 => some (execIngDisable i)
    | 4 => some (execIngFlush i)
    | 5 => some (execIngClear i)
    | 6 => some (execMapSet i)
    | 7 => some execMapClear
    | 8 => some execTcpAttach
    | 9 => some execTcpDetach
    | _ => none
  else none

def wrAln (a : Nat) (v : W32) : Option (State → Host.Outcome State Fault Refusal) :=
  if a = ALN_CTRL_enable.addr then some (execAlnCtrlWrite v)
  else match idxOf 0x40061000 0x40 64 a, idxOf 0x40062000 0x20 16 a with
    | some g, _ => some (execAlnGrpCtrlWrite g v)
    | _, some k => if v.getLsbD 2 then some (fun s => andThen (wrPlain a v s) (execCfgAck k)) else none
    | none, none => none

def wrGan (a : Nat) (v : W32) : Option (State → Host.Outcome State Fault Refusal) :=
  if a = GAN_CTRL_enable.addr then some (execGanCtrlWrite v)
  else if a = GAN_PARAM_DATA_v.addr then some (execParamWrite v)
  else if a = GAN_RULE_SEL_rule.addr then some (fun s => andThen (wrPlain a v s) (execGanSelLatch .rule v))
  else if a = GAN_TUN_SEL_signal.addr then some (fun s => andThen (wrPlain a v s) (execGanSelLatch .tuner v))
  else if a = GAN_SVY_NODE_SEL_index.addr then some (fun s => andThen (wrPlain a v s) (execGanSelLatch .node v))
  else if a = GAN_SVY_EDGE_SEL_index.addr then some (fun s => andThen (wrPlain a v s) (execGanSelLatch .edge v))
  else if a = GAN_MON_SEL_kind.addr then some (fun s => andThen (wrPlain a v s) (execGanSelLatch .monitor v))
  else match idxOf 0x40070100 4 32 a, idxOf 0x40070200 4 32 a with
    | some k, _ => some (execRuleEnable k v)
    | _, some k => some (execRuleAck k v)
    | none, none => none

/-- The Crier, the Sieve, the Lamplighter. -/
def wrCry (a : Nat) (v : W32) : Option (State → Host.Outcome State Fault Refusal) :=
  let late := v.getLsbD 4
  let arg := v.toNat / 2 ^ 16
  if a = CRY_SYS_CFG_module_no.addr then some (execSysCfgWrite v)
  else if a = CRY_GOP_CMD_cmd.addr then
    match v.toNat % 16 with
    | 1 => some (execGopBroadcast late (v.getLsbD 5))
    | 2 => some (execGopSnapshot late)
    | 3 => some (execGopReset arg)
    | 4 => some (execGopEnter late arg)
    | 5 => some (execGopAbort arg)
    | _ => none
  else match idxOf 0x40083000 0x10 16 a with
    | some c => some (execGcbCtrlWrite c v)
    | none => none

def wrSmp (a : Nat) (v : W32) : Option (State → Host.Outcome State Fault Refusal) :=
  if a = SMP_CTRL_enable.addr then some (execSmpCtrlWrite v)
  else if a = SMP_TEST_enable.addr then some (execSmpTestWrite 0 v)
  else if a = SMP_SNAP_v.addr then some execSmpSnap
  else match idxOf 0x40090018 4 4 a, idxOf 0x40090500 4 32 a, idxOf 0x40091000 0x10 128 a, idxOf 0x40090100 0x10 8 a with
    | some k, _, _, _ => some (execSmpTestWrite (k + 1) v)
    | _, some n, _, _ => some (execPhsSetWrite n v)
    | _, _, some c, _ => some (execChCfgWrite c v)
    | _, _, _, some l => some (execLinkCfgWrite l v)
    | none, none, none, none => none

/-- A word of LMP_INJECT below the seventh held. -/
def wrInject (k : Nat) (v : W32) (s : State) : Host.Outcome State Fault Refusal :=
  runL true "REGISTER_WRITE" (fun w =>
    if w.pat.active.hasEngine 5 then
      w.setLmp { w.lmp with inject := (upTo 8).map (fun i => if i = k then v else w.lmp.inject.getD i 0) }
    else w) s

def wrLmp (a : Nat) (v : W32) : Option (State → Host.Outcome State Fault Refusal) :=
  let i := v.toNat / 2 ^ 16 % 2 ^ 14
  if a = LMP_CTRL_enable.addr then some (execLmpCtrlWrite v)
  else if a = LMP_CMD_op.addr then
    match v.toNat % 16 with
    | 1 => some execLoadAll
    | 2 => some (execLoadOne i)
    | 3 => some (execGrRelease i)
    | 4 => some execStageClear
    | _ => none
  else match idxOf 0x400A0080 4 8 a with
    | some k => if k = 7 then some (execLmpInject v) else some (wrInject k v)
    | none => none

/-- The radio MAC, the Pedlar, the Chandler, the Assayer. -/
def wrRad (a : Nat) (v : W32) : Option (State → Host.Outcome State Fault Refusal) :=
  let g := v.toNat / 2 ^ 16 % 2 ^ 14
  if a = RAD_CMD_op.addr then
    match v.toNat % 16 with
    | 1 => some (execRadInvalidate g)
    | 2 => some (execRadEnable g)
    | 3 => some (execRadDisable g)
    | 4 => some (execRadFlush g)
    | 5 => some (execRadClear g)
    | 6 => some (execResetCtr g)
    | 7 => some (execWake g)
    | 8 => some execWakeAddr
    | 9 => some execSchedChanged
    | _ => none
  else none

def wrFlt (a : Nat) (v : W32) : Option (State → Host.Outcome State Fault Refusal) :=
  let n := v.toNat / 2 ^ 16 % 8
  if a = FLT_CMD_op.addr then
    match v.toNat % 16 with
    | 1 => some (execStore n)
    | 2 => some (execErase n)
    | 3 => some (execStart n)
    | 4 => some execStop
    | 5 => some (execActivate n)
    | 6 => some execCancelAct
    | _ => none
  else none

def wrLed (a : Nat) (v : W32) : Option (State → Host.Outcome State Fault Refusal) :=
  let n := v.toNat / 2 ^ 16 % 32
  if a = LED_CTRL_enable.addr then some (execLedCtrlWrite v)
  else if a = LED_CURVE_DATA_drive.addr then some (execCurveDataAccess (some v))
  else if a = LED_CMD_op.addr then
    match v.toNat % 16 with
    | 1 => some (execLedClear n)
    | 2 => some (execCal n)
    | 3 => some (execLedLoad n)
    | _ => none
  else none

def wrMtr (a : Nat) (v : W32) : Option (State → Host.Outcome State Fault Refusal) :=
  if a = MTR_GAP_SEL_entry.addr then some (execGapSelWrite v)
  else if a = MTR_TC_DATA_g.addr then some (execTcDataAccess (some v))
  else if a = MTR_CMD_op.addr then
    match v.toNat % 16 with
    | 1 => some execSaveNow
    | 2 => some (execAccClear (v.toNat / 2 ^ 16 % 64))
    | _ => none
  else none

/-- Interrupts, queues and keys. -/
def wrIrq (a : Nat) (v : W32) : Option (State → Host.Outcome State Fault Refusal) :=
  match idxOf 0x40110100 4 16 a, idxOf 0x40110140 4 16 a, idxOf 0x40110300 0x10 8 a, idxOf 0x40112008 0x20 64 a with
  | some k, _, _, _ => some (execIrqMaskWrite k v)
  | _, some k, _, _ => some (execIrqPendWrite k v)
  | _, _, some k, _ => some (execThreshWrite k v)
  | _, _, _, some k => some (execRidxWrite (k / 8) (k % 8) v)
  | none, none, none, none => none

def wrQue (a : Nat) (v : W32) : Option (State → Host.Outcome State Fault Refusal) :=
  let q := v.toNat / 2 ^ 16 % 256
  if a = QUE_CMD_op.addr then
    match v.toNat % 16 with
    | 1 => some (execQueueFlush q)
    | 2 => some (execQueueReset q)
    | _ => none
  else match idxOf 0x40121018 0x40 256 a, idxOf 0x4012101C 0x40 256 a with
    | some k, _ => some (execQueueWdata k v)
    | _, some k => some (execQueueWend k v)
    | none, none => none

def wrKey (machine : Bool) (a : Nat) (v : W32) : Option (State → Host.Outcome State Fault Refusal) :=
  let n := v.toNat
  let slot := n / 2 ^ 8 % 64
  let arg := n / 2 ^ 16 % 8
  let aux := n / 2 ^ 24
  if a = KEY_CMD_op.addr then
    match n % 32 with
    | 0x1 => some (execKeyLoad slot)
    | 0x2 => some (execUnload slot)
    | 0x3 => some (execImportKey machine slot arg)
    | 0x4 => some (execExportKey machine slot aux)
    | 0x5 => some (execRewrapNext machine aux)
    | 0x6 => some execChallenge
    | 0x7 => some execAuthorise
    | 0x8 => some (execLcChange machine arg)
    | 0x9 => some (execClearTamper machine)
    | 0xA => some (execAnchorWrite machine arg)
    | 0xB => some (execOpHmac slot)
    | 0xC => some (execOpGcmEnc slot)
    | 0xD => some (execOpGcmDec slot)
    | 0xE => some (execOpVerify slot)
    | _ => none
  else none

/-- The voter and flash. -/
def wrLnv (a : Nat) (v : W32) (t : Nat) : Option (State → Host.Outcome State Fault Refusal) :=
  let l := v.toNat / 2 ^ 16 % 4
  if a = LNV_CMD_op.addr then
    match v.toNat % 16 with
    | 1 => some (execLnvResync l t)
    | 2 => some (execInject l)
    | _ => none
  else none

def wrMem (a : Nat) (v : W32) : Option (State → Host.Outcome State Fault Refusal) :=
  let p := v.toNat / 2 ^ 8 % 4
  if a = MEM_FL_CMD_op.addr then
    match v.toNat % 16 with
    | 1 => some (execFlRead p)
    | 2 => some (execFlWrite p)
    | 3 => some (execFlTrim p)
    | 4 => some (execFlSync p)
    | _ => none
  else none

/-- Records, counters, wear and the partner. -/
def wrRec (a : Nat) (v : W32) : Option (State → Host.Outcome State Fault Refusal) :=
  if a = REC_RD_SEL_slot.addr then some (execRdSel v)
  else if a = REC_RL_CFG_burst.addr then some (execRlCfgWrite v)
  else if a = REC_CMD_op.addr then (if v.toNat % 16 = 1 then some (execRecClear (v.toNat / 2 ^ 16 % 4)) else none)
  else match idxOf 0x40140110 0x20 4 a with
    | some h => some (execSwRecord h v)
    | none => none

def wrPrf (a : Nat) (v : W32) (t : Nat) : Option (State → Host.Outcome State Fault Refusal) :=
  if a = PRF_CTRL_freeze.addr then some (execFreeze (v.getLsbD 0) t)
  else if a = PRF_CMD_op.addr then
    match v.toNat % 16 with
    | 1 => some execPrfSnapshot
    | 2 => some (execClearSel (v.toNat / 2 ^ 16 % 32))
    | _ => none
  else if a = PRF_SW_INC_events.addr then some (execSwInc v)
  else if a = PRF_SMP_STAT_held.addr then some execSmpStatClear
  else if a = PRF_SMP_SEL_index.addr then some (execSmpSelLatch v)
  else none

def wrHlt (a : Nat) (v : W32) : Option (State → Host.Outcome State Fault Refusal) :=
  if a = HLT_CMD_op.addr ∧ v.toNat % 16 = 1 then some execResetInd else none

def wrPtn (a : Nat) (v : W32) : Option (State → Host.Outcome State Fault Refusal) :=
  if a = PTN_CTRL_enable.addr then some (execPtnEnableWrite v)
  else if a = PTN_CMD_op.addr then
    match v.toNat % 16 with
    | 1 => some execPtnSwap
    | 2 => some execBlobSync
    | 3 => some execPtnResync
    | 4 => some execTake
    | _ => none
  else none

/-- The command a write to a register is, if it is one. -/
def wrRoute (machine : Bool) (a : Nat) (v : W32) (t : Nat) : Option (State → Host.Outcome State Fault Refusal) :=
  match blockAt a with
  | 0x00 => wrSys a v t
  | 0x01 => wrPat a v t
  | 0x02 => wrTbs a v
  | 0x05 => wrIng a v
  | 0x06 => wrAln a v
  | 0x07 => wrGan a v
  | 0x08 => wrCry a v
  | 0x09 => wrSmp a v
  | 0x0A => wrLmp a v
  | 0x0B => wrRad a v
  | 0x0C => wrFlt a v
  | 0x0D => wrLed a v
  | 0x0E => wrMtr a v
  | 0x0F => wrLnv a v t
  | 0x10 => wrMem a v
  | 0x11 => wrIrq a v
  | 0x12 => wrQue a v
  | 0x13 => wrKey machine a v
  | 0x14 => wrRec a v
  | 0x15 => wrPrf a v t
  | 0x16 => wrHlt a v
  | 0x17 => wrPtn a v
  | _ => none

/-! ## Reads -/

namespace W

/-- Registers that show what time or the block's state has since made of them, before a read. -/
def beforeRead (w : W) (a : Nat) : W :=
  match blockAt a with
  | 0x00 =>
    if a = SYS_WDOG_LEFT_v.addr then
      w.set SYS_WDOG_LEFT_v (if w.op = .stopped then 0
        else (w.sys.kickUp + w.sys.kickMs * 1000000 - w.tb.up) / 1000000)
    else w
  | 0x02 => (w.setB TBS_STATUS_slewing (w.tb.slew != 0)).showQuality
  | 0x05 => w.showMap.setB ING_STATUS_time_unchecked (w.tqCode == 0xF)
  | 0x07 => if a = GAN_SVY_STATUS_valid.addr then w.setB GAN_SVY_STATUS_valid w.svyValid else w
  | 0x08 =>
    let n := match w.pat.active.path 0x07 0x08 with
      | some i => (w.qState i.queue).units.length
      | none => w.cry.fanned.length
    (w.setB CRY_STATUS_time_ok w.timeOk).set CRY_STATUS_waiting (min 255 n)
  | 0x0B => w.showRad
  | 0x0D => w.ledStrings.foldl (fun (w : W) n => w.showStr n) w
  | 0x0E => w.showMtr
  | 0x14 => w.showRl
  | 0x15 =>
    match w.prf.frozenAt with
    | some u =>
      if a = PRF_FROZEN_NS_v.addr then
        ({ w with prf := { w.prf with frozenAt := some w.tb.up } } : W).bump PRF_FROZEN_NS_v (w.tb.up - u)
      else w
    | none => w
  | 0x16 => if a = HLT_IND_RAW_LO_v.addr then w.showRaw else w.showInd
  | 0x17 =>
    let w := w.set PTN_MACC_AGE_v (match w.ptn.maccUp with | some u => min 0xFFFFFFFF ((w.tb.up - u) / 1000000) | none => 0)
    match idxOf 0x40170100 8 64 a with
    | some k =>
      let x := (tblGet w.ptn.macc k).getD 0
      (w.set (PTN_MACC_LO_v k) (x % 2 ^ 32)).set (PTN_MACC_HI_v k) (x / 2 ^ 32)
    | none => w
  | _ => w

/-- The word a read of a register answers: write-only bits read 0 (R5), an offset without a register 0 (R6). -/
def regWord (w : W) (a : Nat) : W32 :=
  match regDefAt a with
  | some d => w.regs.rd a &&& (d.rw ||| d.w1c ||| d.rc ||| d.ro)
  | none => 0

end W

/-- A read that is no command of its own: the word answered, and RC bits cleared (R5). -/
def rdPlain (a : Nat) (s : State) : Host.Outcome State Fault Refusal :=
  runL true "RC_COUNTER_READ" (fun w =>
    if w.regGone a then w.answer (resetOf a).toNat
    else if a = GAN_PARAM_DATA_v.addr then w.answer w.paramRead
    else
      let w := w.beforeRead a
      let v := w.regWord a
      ({ w with regs := w.regs.busRead a } : W).answer v.toNat) s

/-- The row a read of a register is, if it is one. -/
def rdRoute (a : Nat) : Option (State → Host.Outcome State Fault Refusal) :=
  match blockAt a with
  | 0x02 =>
    if a = TBS_NOW_NS_v.addr then some execTbsNowRead
    else match idxOf 0x40020404 0x20 16 a with
      | some n => some (execCapNsRead n)
      | none => none
  | 0x03 => match idxOf 0x40030010 4 3 a with
    | some k => some (execRtcTimeRead k)
    | none => none
  | 0x09 => match idxOf 0x4009100C 0x10 128 a with
    | some c => some (execPeakRead c)
    | none => none
  | 0x0D => if a = LED_CURVE_DATA_drive.addr then some (execCurveDataAccess none) else none
  | 0x0E =>
    if a = MTR_TC_DATA_g.addr then some (execTcDataAccess none)
    else match idxOf 0x400E0100 8 64 a, idxOf 0x400E0300 4 64 a with
      | some k, _ => some (execAccLoRead k)
      | _, some k => some (execLegRead k)
      | none, none => none
  | 0x12 => match idxOf 0x40121024 0x40 256 a, idxOf 0x4012100C 0x40 256 a with
    | some q, _ => some (execQueueRdata q)
    | _, some q => some (execQueueHwmRead q)
    | none, none => none
  | 0x15 =>
    if (idxOf 0x40150404 0x10 32 a).isSome ∨ (idxOf 0x40150600 8 32 a).isSome ∨ (idxOf 0x40151000 8 256 a).isSome
      ∨ (idxOf 0x40151800 8 256 a).isSome then some (execPrfCntRead a)
    else none
  | _ => none

/-! ## The bus -/

/-- A 4-byte access that names no device register, or is not aligned (R4, R16). -/
def badReg (a : Nat) : Bool := !inRegs a 4 || a % 4 != 0

/-- A voted write of a device register, at TAI ns `t`, by a hart that runs in machine mode or not. -/
def busWrite (machine : Bool) (a : Nat) (v : W32) (t : Nat) (s : State) : Host.Outcome State Fault Refusal :=
  if badReg a then runL true "REGISTER_WRITE" (fun w => w.accessFault) s
  else match wrRoute machine a v t with
    | some f => f s
    | none => wrPlain a v s

/-- A voted read of a device register. -/
def busRead (a : Nat) (s : State) : Host.Outcome State Fault Refusal :=
  if badReg a then runL true "RC_COUNTER_READ" (fun w => w.accessFault) s
  else match rdRoute a with
    | some f => f s
    | none => rdPlain a s

/-- REGISTER_WRITE: the clock carried to `t`, the store answered without a fault, and the write done. -/
def execRegisterWrite (machine : Bool) (addr : Nat) (v : W32) (t : Nat) (s : State) :
    Host.Outcome State Fault Refusal :=
  andThen (runL true "REGISTER_WRITE" (fun w => (w.at_ t).answer 0) s) (busWrite machine addr v t)

/-- RC_COUNTER_READ: the value answered, then cleared. -/
def execRcCounterRead (addr : Nat) (s : State) : Host.Outcome State Fault Refusal := busRead addr s

end Sys2Proof.Machine
end

