-- ==== Sys2Proof/Machine/Lanes.lean ====
section
/-! DEFINITION. Voted requests (R309 to R313, R316). -/

namespace Sys2Proof.Machine

/-- The state's devices and memory as a command's working state. -/
def W.ofState (s : State) : W := { toDev := s.dev, mem := s.mem, out := [], zeroed := false }

/-- The time CSR that the voter supplies to every lane: the low 64 bits of the counter in ns (R310). -/
def W.timeCsr (w : W) : Nat := w.ns % 2 ^ 64

/-- An issued request carried out: by a register (R4, R338), or by a memory; then counted and seen by the sampler. -/
def access (r : Req) (hart pc insn : Nat) (machine : Bool) (t : Nat) (s : State) : Host.Outcome State Fault Refusal :=
  let isReg := decide (0x40000000 ≤ r.addr) && decide (r.addr < 0x40190000)
  let act : State → Host.Outcome State Fault Refusal :=
    if isReg then
      match r.kind with
      | .load => if r.size = 4 then busRead r.addr else runL true "VOTER_REQUEST" (fun w => w.accessFault)
      | .store => if r.size = 4 ∧ r.enables % 16 = 15 then busWrite machine r.addr (BitVec.ofNat 32 r.data) t
          else runL true "VOTER_REQUEST" (fun w => w.accessFault)
      | .atomic => if r.size = 4 then execIrqAmo r.op r.addr (BitVec.ofNat 32 r.data)
          else runL true "VOTER_REQUEST" (fun w => w.accessFault)
      | .fetch => runL true "VOTER_REQUEST" (fun w => w.accessFault)
    else run true "VOTER_REQUEST" (fun w => w.memAccess r)
  let stamp := (W.ofState s).ns % 2 ^ 32
  andThen (run true "VOTER_REQUEST" (fun w => (w.countReq hart r).answer 0) s) (fun s1 =>
  andThen (act s1) (run true "VOTER_REQUEST" (fun w => w.sampleReq hart r pc insn stamp)))

/-- A lane's request on a hart (R311, R312): the vote on it; the request issued once, its response kept for the lane still to
come, or that response delivered; then a lane outvoted or a safe stop. A hart that makes a request is not idle. -/
def laneRequest (pending : List Instr) (hart pc insn : Nat) (machine : Bool) (t l : Nat) (r : Req) (s : State) :
    Host.Outcome State Fault Refusal :=
  let w0 := (W.ofState s).at_ t
  if !w0.running.contains l then run true "VOTER_REQUEST" (fun w => w.at_ t) s
  else
    let (e, v, held) := w0.voteOn hart l r
    andThen (run true "VOTER_REQUEST" (fun w =>
        let w := w.at_ t
        let w : W := { w with irq := { w.irq with idle := w.irq.idle.erase hart } }
        let w := if w.lnv.inject = some l ∧ r.kind = .store then w.setLnv { w.lnv with inject := none } else w
        let w := w.keepHeld held
        match e.resp, v.stop || v.out.isSome with
        | some (d, f), false => { w with resp := ⟨d, f⟩ }
        | _, _ => w) s) (fun s1 =>
    andThen (match v.issue with
      | some q => andThen (access q hart pc insn machine t s1) (run true "VOTER_REQUEST" (fun w => w.keepResp hart))
      | none => .next s1)
      (run true "VOTER_REQUEST" (fun w =>
        if w.running ≠ [] ∧ (v.stop ∨ v.out.isSome) then w.disagree pending t v.out hart else w)))

/-- Lanes' requests taken one after another. -/
def laneRequests (pending : List Instr) (hart pc insn : Nat) (machine : Bool) (t : Nat) :
    List (Nat × Req) → State → Host.Outcome State Fault Refusal
  | [], s => .next s
  | x :: rest, s =>
    andThen (laneRequest pending hart pc insn machine t x.1 x.2 s) (laneRequests pending hart pc insn machine t rest)

/-- VOTER_REQUEST: the requests of a hart that the lanes send, lane A first. -/
def execVoterRequest (hart : Nat) (a b c : Option Req) (pc insn : Nat) (machine : Bool) (t : Nat) (s : State) :
    Host.Outcome State Fault Refusal :=
  andThen (run (wfVoterRequest hart) "VOTER_REQUEST" (fun w => w.at_ t) s)
    (laneRequests s.pending hart pc insn machine t (W.arrivals a b c))

/-- VOTE_WINDOW_EXPIRE: a lane absent from an issued request is outvoted; a request that no two lanes agreed on is a safe
stop (R311). -/
def execVoteWindowExpire (hart t : Nat) (s : State) : Host.Outcome State Fault Refusal :=
  run (wfVoteWindowExpire hart) "VOTE_WINDOW_EXPIRE" (fun w =>
    let w := w.at_ t
    match w.lnv.held.find? (fun h => h.hart == hart && w.windowDue h) with
    | some h =>
      let w := w.keepHeld (w.lnv.held.erase h)
      match h.issued, w.running.find? (fun l => !h.arrived.any (fun x => x.1 == l)), h.arrived with
      | true, some l, x :: _ => w.disagree s.pending t (some (l, 2, x.2.addr)) hart
      | _, _, _ => w.disagree s.pending t none hart
    | none => w) s

end Sys2Proof.Machine
end

