-- ==== Sys2Proof/Machine/Dispatch.lean ====
section
/-! DEFINITION. The meaning of each command: one arm per row of the opcode table. -/

namespace Sys2Proof.Machine

/-- The effect of a command on everything but the queue of commands. -/
def exec (i : Instr) (s : State) : Host.Outcome State Fault Refusal :=
  match i with
  | .registerWrite machine addr v t => Sys2Proof.Machine.execRegisterWrite machine addr v t s
  | .rcCounterRead addr => Sys2Proof.Machine.execRcCounterRead addr s
  | .switchFrameRx port f t => Sys2Proof.Machine.execSwitchFrameRx port f t s
  | .mainSupplyValid stage t => Sys2Proof.Machine.execMainSupplyValid stage t s
  | .dramInitDone t => Sys2Proof.Machine.execDramInitDone t s
  | .mainSupplyLost t => Sys2Proof.Machine.execMainSupplyLost t s
  | .pfailNFall t => Sys2Proof.Machine.execPfailNFall t s
  | .pfailNRise t => Sys2Proof.Machine.execPfailNRise t s
  | .resetNLow width t => Sys2Proof.Machine.execResetNLow width t s
  | .resetNHigh stage t => Sys2Proof.Machine.execResetNHigh stage t s
  | .resetHoldEnd stage t => Sys2Proof.Machine.execResetHoldEnd stage t s
  | .watchdogExpire t => Sys2Proof.Machine.execWatchdogExpire t s
  | .watchdogKick v t => Sys2Proof.Machine.execWatchdogKick v t s
  | .bootLoopClear t => Sys2Proof.Machine.execBootLoopClear t s
  | .overvoltageLockout t => Sys2Proof.Machine.execOvervoltageLockout t s
  | .sfpOvercurrent port => Sys2Proof.Machine.execSfpOvercurrent port s
  | .holdupChargerStop t => Sys2Proof.Machine.execHoldupChargerStop t s
  | .vbakRise t => Sys2Proof.Machine.execVbakRise t s
  | .saveSettings t => Sys2Proof.Machine.execSaveSettings t s
  | .systemReset confirm t => Sys2Proof.Machine.execSystemReset confirm t s
  | .patternReload confirm t => Sys2Proof.Machine.execPatternReload confirm t s
  | .patternReloadDone t => Sys2Proof.Machine.execPatternReloadDone t s
  | .sleep confirm t => Sys2Proof.Machine.execSleep confirm t s
  | .stageFw => Sys2Proof.Machine.execStageFw s
  | .stageFwDone ok t => Sys2Proof.Machine.execStageFwDone ok t s
  | .fwCommit => Sys2Proof.Machine.execFwCommit s
  | .autoSave t => Sys2Proof.Machine.execAutoSave t s
  | .settingsSaveDone t => Sys2Proof.Machine.execSettingsSaveDone t s
  | .wakeTimerExpire t => Sys2Proof.Machine.execWakeTimerExpire t s
  | .wakeRxMatch addr t => Sys2Proof.Machine.execWakeRxMatch addr t s
  | .gioWakeEdge pin rising t => Sys2Proof.Machine.execGioWakeEdge pin rising t s
  | .consoleBreak t => Sys2Proof.Machine.execConsoleBreak t s
  | .verify => Sys2Proof.Machine.execVerify s
  | .verifyDone t => Sys2Proof.Machine.execVerifyDone t s
  | .arm t => Sys2Proof.Machine.execArm t s
  | .cancel => Sys2Proof.Machine.execCancel s
  | .commit t => Sys2Proof.Machine.execCommit t s
  | .commitDone t => Sys2Proof.Machine.execCommitDone t s
  | .revert t => Sys2Proof.Machine.execRevert t s
  | .patternBarrier t => Sys2Proof.Machine.execPatternBarrier t s
  | .holdEnd t => Sys2Proof.Machine.execHoldEnd t s
  | .trialTimeout t => Sys2Proof.Machine.execTrialTimeout t s
  | .patTrialTimeoutWrite v t => Sys2Proof.Machine.execPatTrialTimeoutWrite v t s
  | .deferredBarrier t => Sys2Proof.Machine.execDeferredBarrier t s
  | .ptpMessageRx port m t => Sys2Proof.Machine.execPtpMessageRx port m t s
  | .ptpMessageTx port k t => Sys2Proof.Machine.execPtpMessageTx port k t s
  | .announceTimeout t => Sys2Proof.Machine.execAnnounceTimeout t s
  | .ppsEdge gnss sec t => Sys2Proof.Machine.execPpsEdge gnss sec t s
  | .ppsLost t => Sys2Proof.Machine.execPpsLost t s
  | .ref10mValid t => Sys2Proof.Machine.execRef10mValid t s
  | .ref10mLost t => Sys2Proof.Machine.execRef10mLost t s
  | .step => Sys2Proof.Machine.execStep s
  | .hold => Sys2Proof.Machine.execHold s
  | .release => Sys2Proof.Machine.execRelease s
  | .slewDone t => Sys2Proof.Machine.execSlewDone t s
  | .tbsCtrlWrite v => Sys2Proof.Machine.execTbsCtrlWrite v s
  | .leapSecond t => Sys2Proof.Machine.execLeapSecond t s
  | .leapOccurredExpire t => Sys2Proof.Machine.execLeapOccurredExpire t s
  | .triggerArm n v => Sys2Proof.Machine.execTriggerArm n v s
  | .triggerFire n t => Sys2Proof.Machine.execTriggerFire n t s
  | .epochTick t => Sys2Proof.Machine.execEpochTick t s
  | .ppsOutRise t => Sys2Proof.Machine.execPpsOutRise t s
  | .ppsOutFall t => Sys2Proof.Machine.execPpsOutFall t s
  | .captureEdge input rising t frac => Sys2Proof.Machine.execCaptureEdge input rising t frac s
  | .capNsRead n => Sys2Proof.Machine.execCapNsRead n s
  | .capPop n => Sys2Proof.Machine.execCapPop n s
  | .tbsNowRead => Sys2Proof.Machine.execTbsNowRead s
  | .ingressFrame f => Sys2Proof.Machine.execIngressFrame f s
  | .tcpSegmentRx g => Sys2Proof.Machine.execTcpSegmentRx g s
  | .tcpAckTimer conn t => Sys2Proof.Machine.execTcpAckTimer conn t s
  | .tcpLaneSegmentTx conn seq data => Sys2Proof.Machine.execTcpLaneSegmentTx conn seq data s
  | .ingInvalidate index => Sys2Proof.Machine.execIngInvalidate index s
  | .ingEnable index => Sys2Proof.Machine.execIngEnable index s
  | .ingDisable index => Sys2Proof.Machine.execIngDisable index s
  | .ingFlush index => Sys2Proof.Machine.execIngFlush index s
  | .ingClear index => Sys2Proof.Machine.execIngClear index s
  | .mapSet index => Sys2Proof.Machine.execMapSet index s
  | .mapClear => Sys2Proof.Machine.execMapClear s
  | .tcpAttach => Sys2Proof.Machine.execTcpAttach s
  | .tcpDetach => Sys2Proof.Machine.execTcpDetach s
  | .mapQuery v => Sys2Proof.Machine.execMapQuery v s
  | .ingCtrlWrite v => Sys2Proof.Machine.execIngCtrlWrite v s
  | .silenceScan t => Sys2Proof.Machine.execSilenceScan t s
  | .ingWriteback index t => Sys2Proof.Machine.execIngWriteback index t s
  | .recordPlace loc t => Sys2Proof.Machine.execRecordPlace loc t s
  | .setOpen g inst => Sys2Proof.Machine.execSetOpen g inst s
  | .setExpire g inst t => Sys2Proof.Machine.execSetExpire g inst t s
  | .latencySample g inst t => Sys2Proof.Machine.execLatencySample g inst t s
  | .alnCtrlWrite v => Sys2Proof.Machine.execAlnCtrlWrite v s
  | .alnGrpCtrlWrite g v => Sys2Proof.Machine.execAlnGrpCtrlWrite g v s
  | .cfgAck n => Sys2Proof.Machine.execCfgAck n s
  | .notice t => Sys2Proof.Machine.execNotice t s
  | .tunerReport signal t => Sys2Proof.Machine.execTunerReport signal t s
  | .paramWrite v => Sys2Proof.Machine.execParamWrite v s
  | .ruleEnable word v => Sys2Proof.Machine.execRuleEnable word v s
  | .ruleAck word v => Sys2Proof.Machine.execRuleAck word v s
  | .ganSelLatch sel v => Sys2Proof.Machine.execGanSelLatch sel v s
  | .ganCtrlWrite v => Sys2Proof.Machine.execGanCtrlWrite v s
  | .crierRecord t => Sys2Proof.Machine.execCrierRecord t s
  | .alarmHeartbeat t => Sys2Proof.Machine.execAlarmHeartbeat t s
  | .gooseRetransmit c t => Sys2Proof.Machine.execGooseRetransmit c t s
  | .gcbCtrlWrite c v => Sys2Proof.Machine.execGcbCtrlWrite c v s
  | .alarmFanRx m => Sys2Proof.Machine.execAlarmFanRx m s
  | .gopAnnounceRx m => Sys2Proof.Machine.execGopAnnounceRx m s
  | .abortRx m => Sys2Proof.Machine.execAbortRx m s
  | .confirmRx m => Sys2Proof.Machine.execConfirmRx m s
  | .barrierEnterRx m => Sys2Proof.Machine.execBarrierEnterRx m s
  | .barrierReleaseRx m => Sys2Proof.Machine.execBarrierReleaseRx m s
  | .livenessRx m => Sys2Proof.Machine.execLivenessRx m s
  | .livenessSend t => Sys2Proof.Machine.execLivenessSend t s
  | .moduleDown module t => Sys2Proof.Machine.execModuleDown module t s
  | .gopBroadcast late level => Sys2Proof.Machine.execGopBroadcast late level s
  | .gopSnapshot late => Sys2Proof.Machine.execGopSnapshot late s
  | .gopReset kind => Sys2Proof.Machine.execGopReset kind s
  | .gopEnter late number => Sys2Proof.Machine.execGopEnter late number s
  | .gopAbort op => Sys2Proof.Machine.execGopAbort op s
  | .confirmDeadline origin op t => Sys2Proof.Machine.execConfirmDeadline origin op t s
  | .barrierTimeout number t => Sys2Proof.Machine.execBarrierTimeout number t s
  | .sysCfgWrite v => Sys2Proof.Machine.execSysCfgWrite v s
  | .adcFrame f => Sys2Proof.Machine.execAdcFrame f s
  | .svFrame f => Sys2Proof.Machine.execSvFrame f s
  | .svProcess n t => Sys2Proof.Machine.execSvProcess n t s
  | .phasorReport inst t => Sys2Proof.Machine.execPhasorReport inst t s
  | .smpSnap => Sys2Proof.Machine.execSmpSnap s
  | .peakRead c => Sys2Proof.Machine.execPeakRead c s
  | .chCfgWrite c v => Sys2Proof.Machine.execChCfgWrite c v s
  | .smpTestWrite reg v => Sys2Proof.Machine.execSmpTestWrite reg v s
  | .phsSetWrite n v => Sys2Proof.Machine.execPhsSetWrite n v s
  | .smpCtrlWrite v => Sys2Proof.Machine.execSmpCtrlWrite v s
  | .linkCfgWrite l v => Sys2Proof.Machine.execLinkCfgWrite l v s
  | .fieldCycleDone t => Sys2Proof.Machine.execFieldCycleDone t s
  | .gridResponseCmd t => Sys2Proof.Machine.execGridResponseCmd t s
  | .contactorDeferred k t => Sys2Proof.Machine.execContactorDeferred k t s
  | .levelOrder t => Sys2Proof.Machine.execLevelOrder t s
  | .orderLocalApply t => Sys2Proof.Machine.execOrderLocalApply t s
  | .astroCompute t => Sys2Proof.Machine.execAstroCompute t s
  | .loadAll => Sys2Proof.Machine.execLoadAll s
  | .loadOne index => Sys2Proof.Machine.execLoadOne index s
  | .grRelease n => Sys2Proof.Machine.execGrRelease n s
  | .stageClear => Sys2Proof.Machine.execStageClear s
  | .sensorEvent t => Sys2Proof.Machine.execSensorEvent t s
  | .lmpInject v => Sys2Proof.Machine.execLmpInject v s
  | .grHoldExpire n t => Sys2Proof.Machine.execGrHoldExpire n t s
  | .trackExpire n t => Sys2Proof.Machine.execTrackExpire n t s
  | .lmpCtrlWrite v => Sys2Proof.Machine.execLmpCtrlWrite v s
  | .beaconBoundary r n => Sys2Proof.Machine.execBeaconBoundary r n s
  | .slotStart r k marks => Sys2Proof.Machine.execSlotStart r k marks s
  | .radioFrameRx f t => Sys2Proof.Machine.execRadioFrameRx f t s
  | .immAckRx r seq t => Sys2Proof.Machine.execImmAckRx r seq t s
  | .gridStateTake t => Sys2Proof.Machine.execGridStateTake t s
  | .orderRecord t => Sys2Proof.Machine.execOrderRecord t s
  | .radInvalidate g => Sys2Proof.Machine.execRadInvalidate g s
  | .radEnable g => Sys2Proof.Machine.execRadEnable g s
  | .radDisable g => Sys2Proof.Machine.execRadDisable g s
  | .radFlush g => Sys2Proof.Machine.execRadFlush g s
  | .radClear g => Sys2Proof.Machine.execRadClear g s
  | .resetCtr g => Sys2Proof.Machine.execResetCtr g s
  | .wake g => Sys2Proof.Machine.execWake g s
  | .wakeAddr => Sys2Proof.Machine.execWakeAddr s
  | .schedChanged => Sys2Proof.Machine.execSchedChanged s
  | .wakePatternDone t => Sys2Proof.Machine.execWakePatternDone t s
  | .nodeTimeout g t => Sys2Proof.Machine.execNodeTimeout g t s
  | .radWriteback g t => Sys2Proof.Machine.execRadWriteback g t s
  | .schedTimer t => Sys2Proof.Machine.execSchedTimer t s
  | .store slot => Sys2Proof.Machine.execStore slot s
  | .storeDone flashOk t => Sys2Proof.Machine.execStoreDone flashOk t s
  | .erase slot => Sys2Proof.Machine.execErase slot s
  | .start slot => Sys2Proof.Machine.execStart slot s
  | .stop => Sys2Proof.Machine.execStop s
  | .activate slot => Sys2Proof.Machine.execActivate slot s
  | .cancelAct => Sys2Proof.Machine.execCancelAct s
  | .pedlarReport t => Sys2Proof.Machine.execPedlarReport t s
  | .pollEnd t => Sys2Proof.Machine.execPollEnd t s
  | .chandlerRecord t => Sys2Proof.Machine.execChandlerRecord t s
  | .recTimeout t => Sys2Proof.Machine.execRecTimeout t s
  | .trimUpdate c edges t => Sys2Proof.Machine.execTrimUpdate c edges t s
  | .csetTempStale c t => Sys2Proof.Machine.execCsetTempStale c t s
  | .stringFault n cause t => Sys2Proof.Machine.execStringFault n cause t s
  | .retryExpire n t => Sys2Proof.Machine.execRetryExpire n t s
  | .retryCountReset n t => Sys2Proof.Machine.execRetryCountReset n t s
  | .softStartDone n t => Sys2Proof.Machine.execSoftStartDone n t s
  | .ledClear n => Sys2Proof.Machine.execLedClear n s
  | .cal c => Sys2Proof.Machine.execCal c s
  | .calDone dark ref t => Sys2Proof.Machine.execCalDone dark ref t s
  | .ledLoad p => Sys2Proof.Machine.execLedLoad p s
  | .shiftDone p t => Sys2Proof.Machine.execShiftDone p t s
  | .frameSyncEdge p t => Sys2Proof.Machine.execFrameSyncEdge p t s
  | .curveDataAccess v => Sys2Proof.Machine.execCurveDataAccess v s
  | .ledCtrlWrite v => Sys2Proof.Machine.execLedCtrlWrite v s
  | .assayerRecord t => Sys2Proof.Machine.execAssayerRecord t s
  | .pulseInEdge n t => Sys2Proof.Machine.execPulseInEdge n t s
  | .pulseRateSecond n t => Sys2Proof.Machine.execPulseRateSecond n t s
  | .poutPulseStart o t => Sys2Proof.Machine.execPoutPulseStart o t s
  | .poutPulseEnd o t => Sys2Proof.Machine.execPoutPulseEnd o t s
  | .periodicSave t => Sys2Proof.Machine.execPeriodicSave t s
  | .saveNow => Sys2Proof.Machine.execSaveNow s
  | .accClear a => Sys2Proof.Machine.execAccClear a s
  | .accLoRead a => Sys2Proof.Machine.execAccLoRead a s
  | .legRead a => Sys2Proof.Machine.execLegRead a s
  | .gapSelWrite v => Sys2Proof.Machine.execGapSelWrite v s
  | .tcDataAccess v => Sys2Proof.Machine.execTcDataAccess v s
  | .mtrTempStale src t => Sys2Proof.Machine.execMtrTempStale src t s
  | .voterRequest hart a b c pc insn machine t => Sys2Proof.Machine.execVoterRequest hart a b c pc insn machine t s
  | .voteWindowExpire hart t => Sys2Proof.Machine.execVoteWindowExpire hart t s
  | .localFault lane hart cause t => Sys2Proof.Machine.execLocalFault lane hart cause t s
  | .selftestDone pass t => Sys2Proof.Machine.execSelftestDone pass t s
  | .copyPassDone lines t => Sys2Proof.Machine.execCopyPassDone lines t s
  | .resyncRestart t => Sys2Proof.Machine.execResyncRestart t s
  | .deliveryPoint hart skew t => Sys2Proof.Machine.execDeliveryPoint hart skew t s
  | .lnvResync lane t => Sys2Proof.Machine.execLnvResync lane t s
  | .inject lane => Sys2Proof.Machine.execInject lane s
  | .scrubPass region t => Sys2Proof.Machine.execScrubPass region t s
  | .memoryError addr cls block bad t => Sys2Proof.Machine.execMemoryError addr cls block bad t s
  | .flRead partition => Sys2Proof.Machine.execFlRead partition s
  | .flWrite partition => Sys2Proof.Machine.execFlWrite partition s
  | .flTrim partition => Sys2Proof.Machine.execFlTrim partition s
  | .flSync partition => Sys2Proof.Machine.execFlSync partition s
  | .flCmdDone ok life t => Sys2Proof.Machine.execFlCmdDone ok life t s
  | .irqEventLatch => Sys2Proof.Machine.execIrqEventLatch s
  | .irqRecordWrite tgt grp t => Sys2Proof.Machine.execIrqRecordWrite tgt grp t s
  | .moderationExpire tgt t => Sys2Proof.Machine.execModerationExpire tgt t s
  | .irqPendWrite word v => Sys2Proof.Machine.execIrqPendWrite word v s
  | .irqMaskWrite word v => Sys2Proof.Machine.execIrqMaskWrite word v s
  | .irqAmo op addr v => Sys2Proof.Machine.execIrqAmo op addr v s
  | .ridxWrite tgt grp v => Sys2Proof.Machine.execRidxWrite tgt grp v s
  | .threshWrite tgt v => Sys2Proof.Machine.execThreshWrite tgt v s
  | .queueFlush q => Sys2Proof.Machine.execQueueFlush q s
  | .flushBoundary q => Sys2Proof.Machine.execFlushBoundary q s
  | .flushTimeout q t => Sys2Proof.Machine.execFlushTimeout q t s
  | .queueReset q => Sys2Proof.Machine.execQueueReset q s
  | .ptrMismatch q => Sys2Proof.Machine.execPtrMismatch q s
  | .queueWdata q v => Sys2Proof.Machine.execQueueWdata q v s
  | .queueWend q v => Sys2Proof.Machine.execQueueWend q v s
  | .queueRdata q => Sys2Proof.Machine.execQueueRdata q s
  | .queueHwmRead q => Sys2Proof.Machine.execQueueHwmRead q s
  | .queueSpace q => Sys2Proof.Machine.execQueueSpace q s
  | .rtcSecond t => Sys2Proof.Machine.execRtcSecond t s
  | .rtcTimeRead k => Sys2Proof.Machine.execRtcTimeRead k s
  | .shadowTimeout t => Sys2Proof.Machine.execShadowTimeout t s
  | .rtcSet t => Sys2Proof.Machine.execRtcSet t s
  | .oscStopped t => Sys2Proof.Machine.execOscStopped t s
  | .oscStoppedClear => Sys2Proof.Machine.execOscStoppedClear s
  | .disciplineCompare t => Sys2Proof.Machine.execDisciplineCompare t s
  | .autoCal t => Sys2Proof.Machine.execAutoCal t s
  | .alarmWrite a date v => Sys2Proof.Machine.execAlarmWrite a date v s
  | .alarmArm a v => Sys2Proof.Machine.execAlarmArm a v s
  | .aonWriteArrival t => Sys2Proof.Machine.execAonWriteArrival t s
  | .keyLoad slot => Sys2Proof.Machine.execKeyLoad slot s
  | .unload slot => Sys2Proof.Machine.execUnload slot s
  | .importKey machine slot target => Sys2Proof.Machine.execImportKey machine slot target s
  | .exportKey machine slot aux => Sys2Proof.Machine.execExportKey machine slot aux s
  | .rewrapNext machine aux => Sys2Proof.Machine.execRewrapNext machine aux s
  | .challenge => Sys2Proof.Machine.execChallenge s
  | .authorise => Sys2Proof.Machine.execAuthorise s
  | .lcChange machine target => Sys2Proof.Machine.execLcChange machine target s
  | .clearTamper machine => Sys2Proof.Machine.execClearTamper machine s
  | .anchorWrite machine entry => Sys2Proof.Machine.execAnchorWrite machine entry s
  | .opHmac slot => Sys2Proof.Machine.execOpHmac slot s
  | .opGcmEnc slot => Sys2Proof.Machine.execOpGcmEnc slot s
  | .opGcmDec slot => Sys2Proof.Machine.execOpGcmDec slot s
  | .opVerify slot => Sys2Proof.Machine.execOpVerify slot s
  | .tamperSample a b t => Sys2Proof.Machine.execTamperSample a b t s
  | .tamperDetect source t => Sys2Proof.Machine.execTamperDetect source t s
  | .grantExpire t => Sys2Proof.Machine.execGrantExpire t s
  | .scrivenerRecord t => Sys2Proof.Machine.execScrivenerRecord t s
  | .lostRecordEmit t => Sys2Proof.Machine.execLostRecordEmit t s
  | .tokenGain code t => Sys2Proof.Machine.execTokenGain code t s
  | .swRecord hart v => Sys2Proof.Machine.execSwRecord hart v s
  | .rdSel v => Sys2Proof.Machine.execRdSel v s
  | .recClear log => Sys2Proof.Machine.execRecClear log s
  | .rlCfgWrite v => Sys2Proof.Machine.execRlCfgWrite v s
  | .prfSnapshot => Sys2Proof.Machine.execPrfSnapshot s
  | .clearSel k => Sys2Proof.Machine.execClearSel k s
  | .freeze isOn t => Sys2Proof.Machine.execFreeze isOn t s
  | .swInc v => Sys2Proof.Machine.execSwInc v s
  | .smpStatClear => Sys2Proof.Machine.execSmpStatClear s
  | .smpSelLatch v => Sys2Proof.Machine.execSmpSelLatch v s
  | .prfCntRead addr => Sys2Proof.Machine.execPrfCntRead addr s
  | .dailySample t => Sys2Proof.Machine.execDailySample t s
  | .resetInd => Sys2Proof.Machine.execResetInd s
  | .helloSend t => Sys2Proof.Machine.execHelloSend t s
  | .helloRx m => Sys2Proof.Machine.execHelloRx m s
  | .partnerLost t => Sys2Proof.Machine.execPartnerLost t s
  | .seekTimeout t => Sys2Proof.Machine.execSeekTimeout t s
  | .mirrorSend t => Sys2Proof.Machine.execMirrorSend t s
  | .maccMirror t => Sys2Proof.Machine.execMaccMirror t s
  | .mirrorRx m => Sys2Proof.Machine.execMirrorRx m s
  | .mirrorAckRx m => Sys2Proof.Machine.execMirrorAckRx m s
  | .syncReqRx m => Sys2Proof.Machine.execSyncReqRx m s
  | .fullCopyDone t => Sys2Proof.Machine.execFullCopyDone t s
  | .syncDoneRx m => Sys2Proof.Machine.execSyncDoneRx m s
  | .stopRx m => Sys2Proof.Machine.execStopRx m s
  | .swapRx m => Sys2Proof.Machine.execSwapRx m s
  | .swapInstant t => Sys2Proof.Machine.execSwapInstant t s
  | .swapHandover t => Sys2Proof.Machine.execSwapHandover t s
  | .drillCheck t => Sys2Proof.Machine.execDrillCheck t s
  | .drillDue t => Sys2Proof.Machine.execDrillDue t s
  | .ptnSwap => Sys2Proof.Machine.execPtnSwap s
  | .blobSync => Sys2Proof.Machine.execBlobSync s
  | .ptnResync => Sys2Proof.Machine.execPtnResync s
  | .take => Sys2Proof.Machine.execTake s
  | .ptnEnableWrite v => Sys2Proof.Machine.execPtnEnableWrite v s
  | .oscillatorRestart t => Sys2Proof.Machine.execOscillatorRestart t s
  | .vbakLost t => Sys2Proof.Machine.execVbakLost t s
  | .portLinkChange port up present los fault => Sys2Proof.Machine.execPortLinkChange port up present los fault s
  | .pairPathLost link t => Sys2Proof.Machine.execPairPathLost link t s
  | .hartIdle hart => Sys2Proof.Machine.execHartIdle hart s
  | .sleepEntryDone t => Sys2Proof.Machine.execSleepEntryDone t s
  | .blobSyncDone t => Sys2Proof.Machine.execBlobSyncDone t s
  | .glideUpdate t => Sys2Proof.Machine.execGlideUpdate t s
  | .stringRunSecond n t => Sys2Proof.Machine.execStringRunSecond n t s

end Sys2Proof.Machine
end

