-- ==== Sys2Proof/Machine/Tick.lean ====
section
/-! DEFINITION. What the module does while no command waits: one period of CLK_TB passes (R10, R25, R59, R68). -/

namespace Sys2Proof.Machine

/-- The counter 4 ns of its own clock later: the frequency and slew terms of the servo applied. -/
def W.tick (w : W) : W :=
  let s := W.slewLeft w.tb.slew (W.slewPerEdge w.tb.slew w.tb.freq w.slewLimit) 1
  let w : W := { w with tb := { w.tb with
    now := ((w.tb.now : Int) + 4 * 2 ^ 32 + w.tb.freq + (w.tb.slew - s)).toNat
    up := w.tb.up + 4
    slew := s } }
  if w.mainOn then w.cycles 4 else w

/-- The idle module: one period of CLK_TB; a fault where the 48-bit seconds field would pass its end. -/
def idle (s : State) : Host.Outcome State Fault Refusal :=
  andNext (run true "" W.tick s)
where
  andNext : Host.Outcome State Fault Refusal → Host.Outcome State Fault Refusal
    | .next t => if t.dev.tb.now / (2 ^ 32 * 1000000000) < 2 ^ 48 then .next t else .fault .timeBeyondCounter
    | .fault r => .fault r
    | .refused r => .refused r

end Sys2Proof.Machine
end

