-- ==== Sys2Proof/Machine/Pins.lean ====
section
/-! DEFINITION. What the module drives each output contact to (R451 to R453). -/

namespace Sys2Proof.Machine

/-- A contact: undriven or an input; driven low or high (a switch open or closed, a drive off or conducting); or following
its block from edge to edge (LED gates, matrix pins, ADC clocks). -/
inductive PinOut where
  | undriven
  | level (high : Bool)
  | block
  deriving DecidableEq, Repr

namespace W

/-- Outputs stand in their reset state (R453): WAKING, the hold of a reset, SLEEP and STOPPED. -/
def inReset (w : W) : Bool := w.op == .waking || w.op == .sleep || w.op == .stopped || w.sys.hold.isSome

/-- An output of a block, driven low by its block or following it. -/
def blockOut (on : Bool) : PinOut := if on then .block else .level false

/-- A dedicated output contact whose pin has the dedicated function. -/
def ownOut (w : W) (pin : Nat) : PinOut :=
  if decide (0x60 ≤ pin) && decide (pin < 0x68) then .level (w.pout (pin - 0x60)).high.isSome
  else if decide (0x68 ≤ pin) && decide (pin < 0x78) then .level (tst (w.get LMP_CON_STATE_drives) (pin - 0x68))
  else if decide (0x78 ≤ pin) && decide (pin < 0x98) then
    blockOut (match tblGet w.led.drives ((pin - 0x78) % 16) with | some d => d.on != 0 | none => false)
  else if decide (0xA0 ≤ pin) && decide (pin < 0xBC) then
    if (pin - 0xA0) % 7 = 6 then
      blockOut (match tblGet w.led.drives (16 + (pin - 0xA0) / 7) with | some d => d.on != 0 | none => false)
    else blockOut (w.ledPorts.contains ((pin - 0xA0) / 7))
  else if decide (0xC0 ≤ pin) && decide (pin < 0xD8) && (pin - 0xC0) % 3 != 2 then blockOut (w.bit (SMP_LINK_CFG_enable ((pin - 0xC0) / 3)))
  else .undriven

/-- A contact of the pin map's table. -/
def pinOut (w : W) (pin : Nat) : PinOut :=
  let input := decide (0x40 ≤ pin ∧ pin < 0x60) || decide (0x98 ≤ pin ∧ pin < 0x9C)
    || (decide (0xC0 ≤ pin) && (pin - 0xC0) % 3 == 2)
  let isSwitch := decide (0x60 ≤ pin ∧ pin < 0x78)
  if input || decide (0xD8 ≤ pin) then .undriven
  else if w.op = .cold then if isSwitch then .level false else .undriven
  else if w.inReset then if pin < 0x40 then .undriven else .level false
  else if pin < 0x40 then
    let f := w.pinFunc pin
    let lv (b : Bool) : PinOut := .level (b != w.pinInverts pin)
    if f = 2 then lv false
    else if f = 3 then lv true
    else if 0x10 ≤ f then lv (w.tb.pulses.any (fun (e : Nat × Nat) => e.1 == f - 0x10 && decide (w.tb.up < e.2)))
    else .undriven
  else if w.pinFunc pin = 6 then w.ownOut pin else .level false

/-- PPS_OUT (R75, R453). -/
def ppsPin (w : W) : Bool := w.tb.ppsOut && w.mainOn && !w.inReset

end W

end Sys2Proof.Machine
end

