-- ==== Sys2Proof/Safety.lean ====
section
/-! DEFINITION. What claims mean by a safe run: steps that stop nowhere, over states of canonical form; and the names
claims use for what a state shows. -/

namespace Sys2Proof.Machine

/-- The state's memory has its canonical form. -/
def State.canonical (s : State) : Bool := Mem.wf s.mem

/-- A step that stops neither with a fault nor with a refusal. -/
def Safe (s : State) : Prop := ∃ t, step s = .next t

/-- `n` steps that stop nowhere. -/
def SafeFor : Nat → State → Prop
  | 0, _ => True
  | n + 1, s => ∃ t, step s = .next t ∧ SafeFor n t

/-- A command carried out: its meaning answers a next state. -/
def Completes (i : Instr) (s : State) : Prop := ∃ t, exec i s = .next t

/-! ## What a state shows -/

/-- A register field's value. -/
def State.reg (s : State) (f : Fld) : Nat := s.dev.regs.fld f

/-- A one-bit register field. -/
def State.bitOf (s : State) (f : Fld) : Bool := s.dev.regs.bit f

/-- The word a register holds. -/
def State.word (s : State) (a : Nat) : W32 := s.dev.regs.rd a

/-- The state as a command's meaning finds it. -/
def State.w (s : State) : W := W.ofState s

/-- The lanes run, so that their writes and reads reach the blocks. -/
abbrev State.lanes (s : State) : Prop := s.w.lanesRun = true

/-- The time counter in whole ns. -/
def State.ns (s : State) : Nat := s.w.ns

/-- The up-time a command with the instant `t` finds: the counter is carried forward to `t`, never back. -/
def State.upAt (s : State) (t : Nat) : Nat := s.dev.tb.up + (t - s.ns)

/-- The instant a command with the instant `t` finds. -/
def State.nsAt (s : State) (t : Nat) : Nat := max s.ns t

/-- An event of priority `prio` at the instant `t` is acted on (R30): no event of higher priority is registered on the
same CLK_AON edge, neither one that has acted nor one that waits; and none is held behind another. -/
abbrev State.acts (s : State) (prio t : Nat) : Prop :=
  (s.w.at_ t).actedOn t (fun p => decide (p < prio)) = false
    ∧ (s.w.at_ t).waitsOn s.pending t (fun p => decide (p < prio)) = false ∧ s.dev.sys.heldEvs = []

/-- No waiting command is of a kind that can be a state event (R30). -/
def noEvents (l : List Instr) : Bool :=
  l.all (fun c => match c with
    | .mainSupplyLost .. | .resetNLow .. | .tamperDetect .. | .tamperSample .. | .watchdogExpire .. | .systemReset ..
    | .patternReload .. | .registerWrite .. | .voterRequest .. | .voteWindowExpire .. | .localFault .. => false
    | _ => true)

/-- A command that is a write or a read by the lanes. -/
def ofLanes : Instr → Bool
  | .registerWrite .. | .rcCounterRead .. | .watchdogKick .. | .saveSettings .. | .systemReset ..
  | .patternReload .. | .sleep .. | .stageFw .. | .fwCommit .. | .verify .. | .arm .. | .cancel .. | .commit ..
  | .revert .. | .patTrialTimeoutWrite .. | .step .. | .hold .. | .release .. | .tbsCtrlWrite ..
  | .triggerArm .. | .capNsRead .. | .capPop .. | .tbsNowRead .. | .tcpLaneSegmentTx .. | .ingInvalidate ..
  | .ingEnable .. | .ingDisable .. | .ingFlush .. | .ingClear .. | .mapSet .. | .mapClear .. | .tcpAttach ..
  | .tcpDetach .. | .mapQuery .. | .ingCtrlWrite .. | .alnCtrlWrite .. | .alnGrpCtrlWrite .. | .cfgAck ..
  | .paramWrite .. | .ruleEnable .. | .ruleAck .. | .ganSelLatch .. | .ganCtrlWrite .. | .gcbCtrlWrite ..
  | .gopBroadcast .. | .gopSnapshot .. | .gopReset .. | .gopEnter .. | .gopAbort .. | .sysCfgWrite ..
  | .smpSnap .. | .peakRead .. | .chCfgWrite .. | .smpTestWrite .. | .phsSetWrite .. | .smpCtrlWrite ..
  | .linkCfgWrite .. | .loadAll .. | .loadOne .. | .grRelease .. | .stageClear .. | .lmpInject ..
  | .lmpCtrlWrite .. | .radInvalidate .. | .radEnable .. | .radDisable .. | .radFlush .. | .radClear ..
  | .resetCtr .. | .wake .. | .wakeAddr .. | .schedChanged .. | .store .. | .erase .. | .start .. | .stop ..
  | .activate .. | .cancelAct .. | .ledClear .. | .cal .. | .ledLoad .. | .curveDataAccess ..
  | .ledCtrlWrite .. | .saveNow .. | .accClear .. | .accLoRead .. | .legRead .. | .gapSelWrite ..
  | .tcDataAccess .. | .lnvResync .. | .inject .. | .flRead .. | .flWrite .. | .flTrim .. | .flSync ..
  | .irqPendWrite .. | .irqMaskWrite .. | .irqAmo .. | .ridxWrite .. | .threshWrite .. | .queueFlush ..
  | .queueReset .. | .queueWdata .. | .queueWend .. | .queueRdata .. | .queueHwmRead .. | .rtcTimeRead ..
  | .keyLoad .. | .unload .. | .importKey .. | .exportKey .. | .rewrapNext .. | .challenge .. | .authorise ..
  | .lcChange .. | .clearTamper .. | .anchorWrite .. | .opHmac .. | .opGcmEnc .. | .opGcmDec .. | .opVerify ..
  | .swRecord .. | .rdSel .. | .recClear .. | .rlCfgWrite .. | .prfSnapshot .. | .clearSel .. | .freeze ..
  | .swInc .. | .smpStatClear .. | .smpSelLatch .. | .prfCntRead .. | .resetInd .. | .ptnSwap .. | .blobSync ..
  | .ptnResync .. | .take .. | .ptnEnableWrite .. | .hartIdle .. => true
  | _ => false

/-! ## What a command leaves alone -/

/-- The parts of the devices beside the register file. -/
inductive Part where
  | op | tb | irq | que | scr | prf | hlt | pat | net | ing | aln | gan | key | cry
  | smp | lmp | rad | flt | led | mtr | rtc | sys | lnv | fls | ptn | resp | free
  deriving DecidableEq, Repr

/-- A part is the same in two states. -/
def Part.same (p : Part) (d e : Dev) : Prop :=
  match p with
  | .op => e.op = d.op
  | .tb => e.tb = d.tb
  | .irq => e.irq = d.irq
  | .que => e.que = d.que
  | .scr => e.scr = d.scr
  | .prf => e.prf = d.prf
  | .hlt => e.hlt = d.hlt
  | .pat => e.pat = d.pat
  | .net => e.net = d.net
  | .ing => e.ing = d.ing
  | .aln => e.aln = d.aln
  | .gan => e.gan = d.gan
  | .key => e.key = d.key
  | .cry => e.cry = d.cry
  | .smp => e.smp = d.smp
  | .lmp => e.lmp = d.lmp
  | .rad => e.rad = d.rad
  | .flt => e.flt = d.flt
  | .led => e.led = d.led
  | .mtr => e.mtr = d.mtr
  | .rtc => e.rtc = d.rtc
  | .sys => e.sys = d.sys
  | .lnv => e.lnv = d.lnv
  | .fls => e.fls = d.fls
  | .ptn => e.ptn = d.ptn
  | .resp => e.resp = d.resp
  | .free => e.free = d.free

/-- Bit `b` of the register word at `a` belongs to a field. -/
def Fld.covers (f : Fld) (a b : Nat) : Prop := a = f.addr ∧ f.lo ≤ b ∧ b < f.lo + f.width

/-- The whole register a field lies in. -/
def Fld.whole (f : Fld) : Fld := ⟨f.addr, 0, 32⟩

/-- From `s` to `t` only the parts `ps` of the devices may have changed, and of the registers only the fields `fs` and
the fields of the arrays `gs`: every other part, and every other bit of every register, is as it was. -/
structure State.Keeps (s t : State) (ps : List Part) (fs : List Fld) (gs : List (Nat → Fld)) : Prop where
  queue : t.pending = s.pending
  parts : ∀ p : Part, p ∉ ps → p.same s.dev t.dev
  bits : ∀ a b : Nat, (∀ f ∈ fs, ¬ f.covers a b) → (∀ g ∈ gs, ∀ k : Nat, ¬ (g k).covers a b) →
    (t.word a).getLsbD b = (s.word a).getLsbD b

/-- Every byte of memory outside a region reads as before. -/
def State.MemOutside (s t : State) (region : Nat → Prop) : Prop := ∀ x : Nat, ¬ region x → t.mem.rd x = s.mem.rd x

/-- An address is one of `n` from `a` on. -/
def within (a n x : Nat) : Prop := a ≤ x ∧ x < a + n

/-- A byte of the state half of a stream entry, where a dirty cached copy is written back (R100, R101). -/
def State.streamHalves (s : State) (x : Nat) : Prop :=
  ∃ i : Nat, within (s.w.entAddrOf i + 192)
    (max 64 ((match tblGet s.dev.ing.cache i with | some l => l.bytes.length | none => 0) - 192)) x

/-- A byte of the state half of a lantern entry, where a dirty cached copy is written back (R251). -/
def State.lanternHalves (s : State) (x : Nat) : Prop :=
  ∃ g : Nat, within (s.w.lanAddr g + 72)
    (max 56 ((match tblGet s.dev.rad.cache g with | some l => l.bytes.length | none => 0) - 72)) x

/-- A byte at or above the base of the alignment rings (R118, R120, R121). -/
def State.alignRings (s : State) (x : Nat) : Prop := s.dev.pat.active.alignBase ≤ x

/-- A byte at or above the base of the Crier's receive ring (R174). -/
def State.crierRing (s : State) (x : Nat) : Prop := s.reg CRY_RX_BASE_LO_v + 2 ^ 32 * s.reg CRY_RX_BASE_HI_v ≤ x

end Sys2Proof.Machine
end

