-- ==== Sys2Proof/Certificates/Slice0/Obligations.lean ====
section
/-! DEFINITION. The statements for the provers. -/

section
open Sys2Proof Sys2Proof.Machine

/-- For every command and state, a step of the state with the command at the front of its queue is exec of that
  command on the state with the queue's rest. That the queue is first in, first out is the model's (log entry 125).
  -/
def Obligations.StepRunsFrontCommand : Prop :=
  ∀ (c : Instr) (rest : List Instr) (s : State), step { s with pending := c :: rest } = exec c { s with pending := rest }

/-- With no command waiting, a step is one period of CLK_TB. That the idle module ticks, and that it stops at the
  end of the seconds field, are the model's choices (log entry 121). -/
def Obligations.IdleModuleTicks : Prop :=
  ∀ (s : State), s.pending = [] →
    (s.w.tick.tb.now / (2 ^ 32 * 1000000000) < 2 ^ 48 →
      ∃ t, step s = .next t ∧ t.pending = [] ∧ t.mem = s.mem ∧ t.dev.op = s.dev.op ∧ t.dev.tb.up = s.dev.tb.up + 4) ∧
    (2 ^ 48 ≤ s.w.tick.tb.now / (2 ^ 32 * 1000000000) → step s = .fault .timeBeyondCounter)

/-- What State.reset holds. The value of a register to which the manual gives no reset value, and what stands in
  memory, in the time counter and in the parts without registers, are the model's choices (log entries 1, 2, 123
  and 124). -/
def Obligations.ResetState : Prop :=
  State.reset.dev.op = .cold ∧ State.reset.pending = [] ∧ State.reset.mem = [] ∧ State.reset.canonical = true ∧
    (∀ a : Nat, State.reset.word a = resetOf a) ∧ (∀ a : Nat, State.reset.mem.rd a = 0) ∧
    State.reset.dev.pat.active = Pattern.factoryPattern ∧ State.reset.ns = 0

/-- From every state whose memory is in canonical form (addresses strictly rising, no byte listed that an unlisted
  address reads as), a step that answers a next state leaves it so. The form is the model's; that an unlisted
  address reads 0 is log entry 1. -/
def Obligations.EveryStepKeepsMemoryCanonical : Prop :=
  ∀ (s t : State), s.canonical = true → step s = .next t → t.canonical = true

/-- In every state a well-formed command answers a next state with the queue as it was. That a command whose
  precondition does not hold leaves the state as it was, and that an ill-formed one is refused, are the model's
  conventions (log entries 4 and 122). -/
def Obligations.CommandsComplete : Prop :=
  ∀ (c : Instr) (s : State),
    (c.wf = true → ∃ t, exec c s = .next t ∧ t.pending = s.pending) ∧
    (c.wf = false → ∃ name, exec c s = .refused (.illFormed name))

/-- From every state whose waiting commands are all well formed, as many steps as commands wait stop nowhere. -/
def Obligations.QueuedRunsAreSafe : Prop :=
  ∀ (n : Nat) (s : State), (∀ c ∈ s.pending, c.wf = true) → n ≤ s.pending.length → SafeFor n s

/-- While no lane runs, every well-formed command that is a write or a read by the lanes leaves the state as it
  was. That such a command can be sent and is then without effect is the model's convention (log entry 4). -/
def Obligations.StoppedLanesHaveNoEffect : Prop :=
  ∀ (c : Instr) (s : State), ofLanes c = true → c.wf = true → ¬ s.lanes → exec c s = .next s

/-- The split of a priority by IRQ_CTRL.group_bits, and the choice among the events that are eligible for ring g of
  target t: events held, not masked, of that target and group. The event chosen is the one that serving the ring
  takes out of the store; where none is eligible, none is written (R332). -/
def Obligations.InterruptOrder : Prop :=
  (∀ (w : W) (source : Nat), w.get (IRQ_SRC_CFG_priority source) =
      w.srcGroup source * 2 ^ (8 - w.get IRQ_CTRL_group_bits) + w.srcSub source ∧
      w.srcGroup source < 2 ^ w.get IRQ_CTRL_group_bits ∧ w.srcSub source < 2 ^ (8 - w.get IRQ_CTRL_group_bits)) ∧
  (∀ (w : W) (t g : Nat) (e : IrqEvent), w.nextFor t g = some e →
    (e ∈ w.irq.staged ∧ w.masked e.source = false ∧ w.srcTarget e.source = t ∧ w.srcGroup e.source = g) ∧
    ∀ x ∈ w.irq.staged, w.masked x.source = false → w.srcTarget x.source = t → w.srcGroup x.source = g →
      w.srcSub x.source < w.srcSub e.source ∨ (w.srcSub x.source = w.srcSub e.source ∧ e.source ≤ x.source)) ∧
  (∀ (w : W) (t g : Nat), w.nextFor t g = none →
    (∀ x ∈ w.irq.staged, w.masked x.source = false → w.srcTarget x.source = t → w.srcGroup x.source ≠ g) ∧
    w.serveRing t g = w) ∧
  (∀ (w : W) (t g : Nat) (e : IrqEvent), w.nextFor t g = some e → w.bit IRQ_CTRL_enable = true →
    w.bit (IRQ_RING_CFG_enable t g) = true → w.ringOk t g = true →
    (w.get (IRQ_RING_WIDX_idx t g) + 1) % w.ringLen t g ≠ w.get (IRQ_RING_RIDX_idx t g) →
    (w.serveRing t g).irq.staged = w.irq.staged.erase e)

/-- Where each field of a record lies (R330), that an event raised carries its parameter and the TAI time of that
  moment in ns, and that serving a ring whose index lies inside it writes these bytes with the source's priority of
  that moment. -/
def Obligations.RecordLayout : Prop :=
  (∀ (e : IrqEvent) (priority : Nat) (lost : Bool), e.source < 512 → priority < 256 → e.param < 2 ^ 32 → e.stamp < 2 ^ 64 →
    (W.recordBytes e priority lost).length = 16 ∧
    leNat ((W.recordBytes e priority lost).take 2) = e.source ∧
    leNat (((W.recordBytes e priority lost).drop 2).take 1) = priority ∧
    leNat (((W.recordBytes e priority lost).drop 3).take 1) =
      bitNat lost + 2 * bitNat e.software + 4 * bitNat e.woke + 8 * bitNat e.retained ∧
    leNat (((W.recordBytes e priority lost).drop 4).take 4) = e.param ∧
    leNat (((W.recordBytes e priority lost).drop 8).take 8) = e.stamp) ∧
  (∀ (w : W) (source param : Nat), (w.raise source param).irq.raised =
    w.irq.raised ++ [⟨source, param, w.tb.now / 2 ^ 32, false, false, false⟩]) ∧
  (∀ (w : W) (t g : Nat) (e : IrqEvent), w.nextFor t g = some e → w.bit IRQ_CTRL_enable = true →
    w.bit (IRQ_RING_CFG_enable t g) = true → w.ringOk t g = true →
    (w.get (IRQ_RING_WIDX_idx t g) + 1) % w.ringLen t g ≠ w.get (IRQ_RING_RIDX_idx t g) → w.get (IRQ_RING_WIDX_idx t g) < w.ringLen t g →
    (w.serveRing t g).rdBytes (w.get (IRQ_RING_BASE_v t g) + 16 * w.get (IRQ_RING_WIDX_idx t g)) 16 =
      W.recordBytes e (w.get (IRQ_SRC_CFG_priority e.source)) (w.irq.lost.contains e.source))

/-- The tree of R167 over n modules with fan-out f, for every origin and module, at every size a system has and
  every fan-out (2 to 16). -/
def Obligations.TreeOfOperations : Prop :=
  ∀ (n f origin m : Nat), 0 < n → n ≤ 1024 → 2 ≤ f → f ≤ 16 → origin < n → m < n →
    treePos n origin m = (m + n - origin) % n ∧
    (treePos n origin m = 0 → treeParent n f origin m = none) ∧
    (treePos n origin m ≠ 0 → ∃ q, treeParent n f origin m = some q ∧ q < n ∧
      treePos n origin q = (treePos n origin m - 1) / f) ∧
    (∀ q, q < n → (q ∈ treeKids n f origin m ↔
      f * treePos n origin m + 1 ≤ treePos n origin q ∧ treePos n origin q ≤ f * treePos n origin m + f)) ∧
    treeLevel f n (treePos n origin m) ≤ treeDepth n f ∧
    n ≤ f ^ treeDepth n f ∧ (∀ e, n ≤ f ^ e → treeDepth n f ≤ e) ∧ treeDepth 1 f = 0

/-- A lane write of a plain register of the blocks 1, 5, 7, 8, 0xC, 0xF, 0x10, 0x11 and 0x17 that is there sets its
  RW bits to the value, clears its W1C bits where the value has a 1, keeps its other bits and is answered without a
  fault. One of CRY_GOP_CFG or PTN_CFG does the same, trg_count cut to 16 - trg_first and miss brought into 2 to
  15. A write of a register of a block on CLK_AON waits on its way there. A write of a register that is not there,
  or where none lies, changes no register. A write of an address that is none of the register space, or not
  aligned, is an access fault. A lane read of a register of a block that shows nothing of the moment answers its
  word without the write-only bits, and clears its RC bits only; of any other block, the word once the block has
  brought it up to date. A read of a register that is not there answers its reset value, and of a bad address is an
  access fault. A frame of at most 9,018 bytes received on an enabled port, untagged or of VLAN ID 0, teaches the
  switch that its source lies at that port in the port's VLAN; of another VLAN ID, in that one. A longer one, or
  one on a port that is not enabled, changes nothing in the switch. A change of an SFP+ port shows in
  NET_PORT_STAT: link_up, present, rx_los, tx_fault, and speed 2 with a link, else 0; of an RJ45 port, link_up and
  speed 1 while its transmitter is on and it has a link, else 0. An absent register reads its reset value: R36, R49
  and log entry 110. The drop of a frame of more than 9,018 bytes, and a frame of VLAN ID 0xFFF, are the model's
  (log entry 129), and so are log entries 3, 4, 107 and 108. -/
def Obligations.RegisterBusAndSwitch : Prop :=
  (∀ (s : State) (m : Bool) (a : Nat) (v : W32) (t : Nat) (d : RegDef), s.lanes ∧ badReg a = false ∧ wrRoute m a v
    t = none ∧ blockAt a ∈ [1, 5, 7, 8, 0xC, 0xF, 0x10, 0x11, 0x17] ∧ a ≠ CRY_GOP_CFG_trg_count.addr ∧ a ≠
    PTN_CFG_miss.addr ∧ (s.w.at_ t).regGone a = false ∧ (s.w.at_ t).writeHeld a v = false ∧ regDefAt a = some d → ∃
    u, exec (.registerWrite m a v t) s = .next u ∧ u.word a = ((s.word a &&& ~~~d.rw) ||| (v &&& d.rw)) &&& ~~~(v
    &&& d.w1c) ∧ u.dev.resp = ⟨0, false⟩) ∧
  (∀ (s : State) (m : Bool) (a : Nat) (v : W32) (t : Nat), s.lanes ∧ (a = CRY_GOP_CFG_trg_count.addr ∨ a =
    PTN_CFG_miss.addr) → ∃ u, exec (.registerWrite m a v t) s = .next u ∧ u.dev.resp = ⟨0, false⟩ ∧ (a =
    CRY_GOP_CFG_trg_count.addr → u.reg CRY_GOP_CFG_hop_us = fldOf v 0 10 ∧ u.reg CRY_GOP_CFG_eps_ns = fldOf v 10 11
    ∧ u.reg CRY_GOP_CFG_trg_first = fldOf v 21 4 ∧ u.reg CRY_GOP_CFG_trg_count = min (fldOf v 25 4) (16 - fldOf v
    21 4)) ∧ (a = PTN_CFG_miss.addr → u.reg PTN_CFG_hb_ms = fldOf v 4 8 ∧ u.reg PTN_CFG_seek_s = fldOf v 16 8 ∧
    u.reg PTN_CFG_miss = max 2 (min 15 (fldOf v 12 4)))) ∧
  (∀ (s : State) (m : Bool) (a : Nat) (v : W32) (t : Nat), s.lanes ∧ badReg a = false ∧ (blockAt a = 3 ∨ blockAt a
    = 4) ∧ (regDefAt a).isSome = true ∧ a ≠ RTC_CMD_cmd.addr → ∃ u, exec (.registerWrite m a v t) s = .next u ∧
    u.dev.rtc.aon = s.dev.rtc.aon ++ [(a, v)] ∧ u.word a = s.word a ∧ u.dev.resp = ⟨0, false⟩) ∧
  (∀ (s : State) (m : Bool) (a : Nat) (v : W32) (t : Nat), s.lanes ∧ badReg a = false ∧ wrRoute m a v t = none ∧
    blockAt a ≠ 3 ∧ blockAt a ≠ 4 ∧ ((s.w.at_ t).regGone a = true ∨ regDefAt a = none) → ∃ u, exec (.registerWrite
    m a v t) s = .next u ∧ u.dev.regs = (s.w.at_ t).regs ∧ u.dev.resp = ⟨0, false⟩) ∧
  (∀ (s : State) (m : Bool) (a : Nat) (v : W32) (t : Nat), s.lanes ∧ badReg a = true → ∃ u, exec (.registerWrite m
    a v t) s = .next u ∧ u.dev.resp = ⟨0, true⟩ ∧ u.dev.regs = (s.w.at_ t).regs) ∧
  (∀ (s : State) (a : Nat) (d : RegDef), s.lanes ∧ badReg a = false ∧ rdRoute a = none ∧ blockAt a ∈ [1, 3, 4, 6,
    9, 0xA, 0xC, 0xF, 0x10, 0x11, 0x12, 0x13, 0x18] ∧ s.w.regGone a = false ∧ regDefAt a = some d → ∃ u, exec
    (.rcCounterRead a) s = .next u ∧ u.dev.resp = ⟨(s.word a &&& (d.rw ||| d.w1c ||| d.rc ||| d.ro)).toNat, false⟩
    ∧ u.word a = s.word a &&& ~~~d.rc) ∧
  (∀ (s : State) (a : Nat) (d : RegDef), s.lanes ∧ badReg a = false ∧ rdRoute a = none ∧ a ≠ GAN_PARAM_DATA_v.addr
    ∧ s.w.regGone a = false ∧ regDefAt a = some d → ∃ u, exec (.rcCounterRead a) s = .next u ∧ u.dev.resp =
    ⟨((s.w.beforeRead a).regs.rd a &&& (d.rw ||| d.w1c ||| d.rc ||| d.ro)).toNat, false⟩ ∧ u.word a =
    (s.w.beforeRead a).regs.rd a &&& ~~~d.rc) ∧
  (∀ (s : State) (a : Nat), s.lanes ∧ (badReg a = true ∨ (rdRoute a = none ∧ s.w.regGone a = true)) → ∃ u, exec
    (.rcCounterRead a) s = .next u ∧ u.dev.regs = s.dev.regs ∧ u.dev.resp = (if badReg a then ⟨0, true⟩ else
    ⟨(resetOf a).toNat, false⟩)) ∧
  (∀ (s : State) (p : Nat) (f : EthFrame) (t : Nat), p < 6 ∧ s.w.mainOn = true ∧ s.w.gated 0x18 = false ∧ s.bitOf
    (NET_PORT_CTRL_enable p) = true ∧ W.frameLen f ≤ 9018 ∧ f.tag.map (fun g => g.vid) ≠ some 0xFFF → ∃ u, exec
    (.switchFrameRx p f t) s = .next u ∧ tblGet u.dev.net.fdb
    ((match f.tag with | some g => if g.vid = 0 then s.w.pvid p else g.vid | none => s.w.pvid p) * 2 ^ 48 + f.src)
    = some p) ∧
  (∀ (s : State) (p : Nat) (f : EthFrame) (t : Nat), p < 6 ∧ s.w.mainOn = true ∧ s.w.gated 0x18 = false ∧ (9018 <
    W.frameLen f ∨ s.bitOf (NET_PORT_CTRL_enable p) = false) → ∃ u, exec (.switchFrameRx p f t) s = .next u ∧
    u.dev.net = s.dev.net) ∧
  (∀ (s : State) (p : Nat) (up present los fault : Bool), p < 4 ∧ s.w.mainOn = true → ∃ u, exec (.portLinkChange p
    up present los fault) s = .next u ∧ u.bitOf (NET_PORT_STAT_link_up p) = up ∧ u.bitOf (NET_PORT_STAT_present p)
    = present ∧ u.bitOf (NET_PORT_STAT_rx_los p) = los ∧ u.bitOf (NET_PORT_STAT_tx_fault p) = fault ∧ u.reg
    (NET_PORT_STAT_speed p) = if up then 2 else 0) ∧
  (∀ (s : State) (p : Nat) (up present los fault : Bool), 4 ≤ p ∧ p < 6 ∧ s.w.mainOn = true → ∃ u, exec
    (.portLinkChange p up present los fault) s = .next u ∧ u.bitOf (NET_PORT_STAT_link_up p) = (up && s.bitOf
    (NET_PORT_CTRL_tx_enable p)) ∧ u.reg (NET_PORT_STAT_speed p) = if up && s.bitOf (NET_PORT_CTRL_tx_enable p)
    then 1 else 0)

/-- VERIFY in IDLE enters VERIFYING with error NONE and the verdict on the source that PAT_SRC names; in any other
  state it changes nothing but the error, BUSY. VERIFY_DONE of a pattern that passed leaves VERIFIED with it in the
  inactive banks, the active ones as they were; of one that failed, IDLE with its error code, the failing section
  and offset in PAT_ERR_INFO, and both banks as they were. ARM in VERIFIED, not in HOLDING, with at most
  999,999,999 ns in PAT_BARRIER_NS leaves ARMED with the instant of PAT_BARRIER, or the present one where that is
  past, and error NONE; with more, the error is BAD_COUNT, and in any other state or HOLDING it is BUSY, the
  loader's state as it was. CANCEL in VERIFIED or ARMED leaves IDLE with empty inactive banks and error NONE; in
  any other state, the error BUSY and nothing else of the loader. The barrier of an ARMED load, its instant reached
  in SERVING, makes the verified pattern the active one and the former one the inactive, and begins the hold in
  SWITCHING. Reached in DEGRADED it sets load_deferred, and the load stays ARMED; a deferred load switches in the
  same way once the module is in SERVING. The end of the hold, with no operation waiting it out, begins the TRIAL.
  What a clause says beyond the rules cited is the model's own convention: log entries 3, 4, 82 to 85 and 137. -/
def Obligations.LoaderStaging : Prop :=
  (∀ (s : State), s.lanes ∧ s.reg PAT_STATUS_state = 0 → ∃ u, exec .verify s = .next u ∧ u.reg PAT_STATUS_state = 1
    ∧ u.reg PAT_STATUS_error = 0 ∧ u.dev.pat.verdict = some (s.w.verdict false (s.reg PAT_SRC_LO_v + 2 ^ 32 * s.reg
    PAT_SRC_HI_v) (s.reg PAT_SRC_LEN_v) (s.reg PAT_MIN_SERIAL_v) (s.w.source (s.reg PAT_SRC_LO_v + 2 ^ 32 * s.reg
    PAT_SRC_HI_v) (s.reg PAT_SRC_LEN_v))) ∧ u.dev.pat.active = s.dev.pat.active) ∧
  (∀ (s : State), s.lanes ∧ s.reg PAT_STATUS_state ≠ 0 → ∃ u, exec .verify s = .next u ∧ u.reg PAT_STATUS_state =
    s.reg PAT_STATUS_state ∧ u.reg PAT_STATUS_error = 0x18 ∧ u.dev.pat = s.dev.pat) ∧
  (∀ (s : State) (t : Nat) (p : Pattern), s.reg PAT_STATUS_state = 1 ∧ s.dev.pat.verdict = some (.ok p) → ∃ u, exec
    (.verifyDone t) s = .next u ∧ u.reg PAT_STATUS_state = 2 ∧ u.dev.pat.inactive = some p ∧ u.dev.pat.active =
    s.dev.pat.active) ∧
  (∀ (s : State) (t code sec off : Nat), s.reg PAT_STATUS_state = 1 ∧ s.dev.pat.verdict = some (.bad code sec off)
    ∧ code < 256 → ∃ u, exec (.verifyDone t) s = .next u ∧ u.reg PAT_STATUS_state = 0 ∧ u.reg PAT_STATUS_error =
    code ∧ u.reg PAT_ERR_INFO_section = sec % 256 ∧ u.reg PAT_ERR_INFO_offset = off % 2 ^ 24 ∧ u.dev.pat.active =
    s.dev.pat.active ∧ u.dev.pat.inactive = s.dev.pat.inactive) ∧
  (∀ (s : State) (t : Nat), s.lanes ∧ s.reg PAT_STATUS_state = 2 ∧ s.dev.op ≠ .holding ∧ s.reg PAT_BARRIER_NS_v ≤
    999999999 → ∃ u, exec (.arm t) s = .next u ∧ u.reg PAT_STATUS_state = 3 ∧ u.reg PAT_STATUS_error = 0 ∧
    u.dev.pat.barrier = max (s.nsAt t) ((s.reg PAT_BARRIER_SEC_LO_v + 2 ^ 32 * s.reg PAT_BARRIER_SEC_HI_v) *
    1000000000 + s.reg PAT_BARRIER_NS_v)) ∧
  (∀ (s : State) (t : Nat), s.lanes ∧ (s.reg PAT_STATUS_state ≠ 2 ∨ s.dev.op = .holding ∨ 999999999 < s.reg
    PAT_BARRIER_NS_v) → ∃ u, exec (.arm t) s = .next u ∧ u.reg PAT_STATUS_state = s.reg PAT_STATUS_state ∧
    u.dev.pat = s.dev.pat ∧ u.reg PAT_STATUS_error = if s.reg PAT_STATUS_state = 2 ∧ s.dev.op ≠ .holding then 0x0C
    else 0x18) ∧
  (∀ (s : State), s.lanes ∧ (s.reg PAT_STATUS_state = 2 ∨ s.reg PAT_STATUS_state = 3) → ∃ u, exec .cancel s = .next
    u ∧ u.reg PAT_STATUS_state = 0 ∧ u.dev.pat.inactive = none ∧ u.reg PAT_STATUS_error = 0) ∧
  (∀ (s : State), s.lanes ∧ s.reg PAT_STATUS_state ≠ 2 ∧ s.reg PAT_STATUS_state ≠ 3 → ∃ u, exec .cancel s = .next u
    ∧ u.reg PAT_STATUS_state = s.reg PAT_STATUS_state ∧ u.dev.pat = s.dev.pat ∧ u.reg PAT_STATUS_error = 0x18) ∧
  (∀ (s : State) (t : Nat) (p : Pattern), s.reg PAT_STATUS_state = 3 ∧ s.dev.pat.barrier ≤ s.nsAt t ∧ s.dev.op =
    .serving ∧ s.dev.pat.inactive = some p → ∃ u, exec (.patternBarrier t) s = .next u ∧ u.reg PAT_STATUS_state = 4
    ∧ u.dev.pat.active = p ∧ u.dev.pat.inactive = some s.dev.pat.active) ∧
  (∀ (s : State) (t : Nat), s.reg PAT_STATUS_state = 3 ∧ s.dev.pat.barrier ≤ s.nsAt t ∧ s.dev.op = .degraded → ∃ u,
    exec (.patternBarrier t) s = .next u ∧ u.reg PAT_STATUS_state = 3 ∧ u.bitOf PAT_EVENT_load_deferred = true ∧
    u.dev.pat = s.dev.pat) ∧
  (∀ (s : State) (t : Nat) (p : Pattern), s.reg PAT_STATUS_state = 3 ∧ s.dev.pat.barrier ≤ s.nsAt t ∧ s.dev.op =
    .serving ∧ s.dev.pat.inactive = some p → ∃ u, exec (.deferredBarrier t) s = .next u ∧ u.reg PAT_STATUS_state =
    4 ∧ u.dev.pat.active = p ∧ u.dev.pat.inactive = some s.dev.pat.active) ∧
  (∀ (s : State) (t : Nat), s.reg PAT_STATUS_state = 4 ∧ (∀ o ∈ s.dev.cry.ops, ¬(o.state = 1 ∧ o.unit = none ∧ o.t
    ≤ s.nsAt t)) → ∃ u, exec (.holdEnd t) s = .next u ∧ u.reg PAT_STATUS_state = 5 ∧ u.dev.pat = s.dev.pat)

/-- COMMIT in TRIAL, none accepted before, is accepted: error NONE, and a settings save begins or is asked for; in
  any other state, or after one accepted, the error is BUSY. COMMIT_DONE, once the settings save is done, puts the
  pattern's bytes into the slot the marker does not name (slot 0 where it names none), then the marker names it,
  PAT_MIN_SERIAL is kept, committed is set and the loader is IDLE. REVERT in TRIAL, no COMMIT accepted, makes the
  former pattern active again, sets reverted and leaves IDLE with error NONE; in any other state, or after a COMMIT
  accepted, the error is BUSY. A trial without a COMMIT accepted reverts in the same way once the time since its
  barrier reaches PAT_TRIAL_TIMEOUT, not 0; before that, or with 0, it goes on. A write of PAT_TRIAL_TIMEOUT that
  does not end a trial stores the value; during a trial without a COMMIT accepted, a value other than 0 that the
  time since the barrier has reached reverts at once. That the copy goes to slot 0 where the marker names no slot
  is the model's choice (log entry 130). What a clause says beyond the rules cited is the model's own convention:
  log entries 3, 4, 83 and 84. -/
def Obligations.LoaderTrials : Prop :=
  (∀ (s : State) (t : Nat), s.lanes ∧ s.reg PAT_STATUS_state = 5 ∧ s.dev.pat.committing = false → ∃ u, exec
    (.commit t) s = .next u ∧ u.dev.pat.committing = true ∧ u.reg PAT_STATUS_error = 0 ∧ u.dev.sys.saving.isSome =
    true ∧ u.reg PAT_STATUS_state = 5) ∧
  (∀ (s : State) (t : Nat), s.lanes ∧ (s.reg PAT_STATUS_state ≠ 5 ∨ s.dev.pat.committing = true) → ∃ u, exec
    (.commit t) s = .next u ∧ u.reg PAT_STATUS_state = s.reg PAT_STATUS_state ∧ u.dev.pat = s.dev.pat ∧ u.reg
    PAT_STATUS_error = 0x18) ∧
  (∀ (s : State) (t : Nat), s.w.mainOn = true ∧ s.reg PAT_STATUS_state = 5 ∧ s.dev.pat.committing = true ∧
    s.dev.sys.commitNext = false ∧ s.dev.sys.saving = none → ∃ u, exec (.commitDone t) s = .next u ∧ u.reg
    PAT_STATUS_state = 0 ∧ u.dev.pat.marker = some (match s.dev.pat.marker with | some m => 1 - m | none => 0) ∧
    u.dev.pat.committing = false ∧ u.dev.pat.inactive = none ∧ u.dev.pat.savedMin = s.reg PAT_MIN_SERIAL_v ∧
    u.bitOf PAT_EVENT_committed = true ∧ (upTo s.dev.pat.active.raw.length).map (fun i => u.mem.rd (W.slotAddr
    (match s.dev.pat.marker with | some m => 1 - m | none => 0) + i)) = s.dev.pat.active.raw) ∧
  (∀ (s : State) (t : Nat) (p : Pattern), s.lanes ∧ s.reg PAT_STATUS_state = 5 ∧ s.dev.pat.committing = false ∧
    s.dev.pat.inactive = some p → ∃ u, exec (.revert t) s = .next u ∧ u.reg PAT_STATUS_state = 0 ∧ u.dev.pat.active
    = p ∧ u.dev.pat.inactive = none ∧ u.bitOf PAT_EVENT_reverted = true ∧ u.reg PAT_STATUS_error = 0) ∧
  (∀ (s : State) (t : Nat), s.lanes ∧ (s.reg PAT_STATUS_state ≠ 5 ∨ s.dev.pat.committing = true) → ∃ u, exec
    (.revert t) s = .next u ∧ u.reg PAT_STATUS_state = s.reg PAT_STATUS_state ∧ u.dev.pat = s.dev.pat ∧ u.reg
    PAT_STATUS_error = 0x18) ∧
  (∀ (s : State) (t : Nat) (p : Pattern), s.reg PAT_STATUS_state = 5 ∧ s.dev.pat.committing = false ∧ s.reg
    PAT_TRIAL_TIMEOUT_seconds ≠ 0 ∧ s.dev.pat.trialFrom + s.reg PAT_TRIAL_TIMEOUT_seconds * 1000000000 ≤ s.upAt t ∧
    s.dev.pat.inactive = some p → ∃ u, exec (.trialTimeout t) s = .next u ∧ u.reg PAT_STATUS_state = 0 ∧
    u.dev.pat.active = p ∧ u.dev.pat.inactive = none ∧ u.bitOf PAT_EVENT_reverted = true) ∧
  (∀ (s : State) (t : Nat), s.reg PAT_TRIAL_TIMEOUT_seconds = 0 ∨ s.upAt t < s.dev.pat.trialFrom + s.reg
    PAT_TRIAL_TIMEOUT_seconds * 1000000000 → ∃ u, exec (.trialTimeout t) s = .next u ∧ u.dev.pat = s.dev.pat ∧
    u.reg PAT_STATUS_state = s.reg PAT_STATUS_state) ∧
  (∀ (s : State) (v : W32) (t : Nat), s.lanes ∧ (s.reg PAT_STATUS_state ≠ 5 ∨ s.dev.pat.committing = true ∨ v.toNat
    % 2 ^ 16 = 0 ∨ s.upAt t < s.dev.pat.trialFrom + v.toNat % 2 ^ 16 * 1000000000) → ∃ u, exec
    (.patTrialTimeoutWrite v t) s = .next u ∧ u.reg PAT_TRIAL_TIMEOUT_seconds = v.toNat % 2 ^ 16 ∧ u.reg
    PAT_STATUS_state = s.reg PAT_STATUS_state ∧ u.dev.pat = s.dev.pat) ∧
  (∀ (s : State) (v : W32) (t : Nat) (p : Pattern), s.lanes ∧ s.reg PAT_STATUS_state = 5 ∧ s.dev.pat.committing =
    false ∧ v.toNat % 2 ^ 16 ≠ 0 ∧ s.dev.pat.trialFrom + v.toNat % 2 ^ 16 * 1000000000 ≤ s.upAt t ∧
    s.dev.pat.inactive = some p → ∃ u, exec (.patTrialTimeoutWrite v t) s = .next u ∧ u.reg PAT_STATUS_state = 0 ∧
    u.dev.pat.active = p ∧ u.bitOf PAT_EVENT_reverted = true)

/-- An Announce of the master in force, in the module's PTP domain and with role 1, renews it: its data set, its
  port and the instant of the last one. The first of another clock while no master is in force is remembered, and
  the second makes it the master. A one-step Sync of the master, with PTP the phase source and the servo ACQUIRING
  or LOCKED past its first sample, gives the offset TBS_OFFSET: receive stamp less latency, master time and delay.
  A delay request of a peer-to-peer profile, or to the master from its port, is remembered by its sequence number
  with its port and send stamp, the port's latency added. A port in MASTER state with its transmitter on sends an
  Announce of the data set the module announces, in its domain. Three announce intervals without one end the
  master, with src_lost. An edge of the selected PPS source is counted where it comes 1 s +-100 us after the one
  before, else starts the count at 1; three make the source valid. 1.1 s without an edge end it, with src_lost
  where it was valid. REF10M_IN that becomes valid is in use where the clock plan lists it; lost, it leaves the
  rate as it was, with src_lost. What a clause says beyond the rules cited is the model's own convention: log
  entries 3, 4, 15, 16, 98, 99 and 134 to 136. -/
def Obligations.TimebaseSources : Prop :=
  (∀ (s : State) (p dom : Nat) (m x : PtpMaster) (t : Nat), p < 6 ∧ s.w.mainOn = true ∧ s.w.gated 0x18 = false ∧
    dom = s.reg TBS_CTRL_domain ∧ s.reg TBS_CTRL_ptp_role = 1 ∧ s.dev.tb.ptpValid = true ∧ s.dev.tb.master = some x
    ∧ x.identity = m.identity → ∃ u, exec (.ptpMessageRx p ⟨dom, .announce m⟩ t) s = .next u ∧ u.dev.tb.master =
    some m ∧ u.dev.tb.masterPort = p ∧ u.dev.tb.lastAnn = s.upAt t ∧ u.dev.tb.ptpValid = true) ∧
  (∀ (s : State) (p dom : Nat) (m : PtpMaster) (t : Nat), p < 6 ∧ s.w.mainOn = true ∧ s.w.gated 0x18 = false ∧ dom
    = s.reg TBS_CTRL_domain ∧ s.reg TBS_CTRL_ptp_role = 1 ∧ s.dev.tb.ptpValid = false → ∃ u, exec (.ptpMessageRx p
    ⟨dom, .announce m⟩ t) s = .next u ∧ (s.dev.tb.foreign = none → u.dev.tb.foreign = some (m, 1) ∧
    u.dev.tb.ptpValid = false) ∧ (s.dev.tb.foreign = some (m, 1) → u.dev.tb.master = some m ∧ u.dev.tb.masterPort =
    p ∧ u.dev.tb.ptpValid = true ∧ u.dev.tb.lastAnn = s.upAt t)) ∧
  (∀ (s : State) (p dom seq : Nat) (origin corr : Int) (t : Nat), p < 6 ∧ s.w.mainOn = true ∧ s.w.gated 0x18 =
    false ∧ dom = s.reg TBS_CTRL_domain ∧ s.reg TBS_CTRL_ptp_role ≠ 0 ∧ s.bitOf (NET_PORT_CTRL_ptp_ts p) = true ∧
    s.dev.tb.ptpValid = true ∧ p = s.dev.tb.masterPort ∧ s.w.phaseSrc = 1 ∧ s.bitOf TBS_CTRL_servo_enable = true ∧
    (s.reg TBS_STATUS_servo_state = 1 ∨ s.reg TBS_STATUS_servo_state = 2) ∧ s.dev.tb.sampled = true → ∃ u, exec
    (.ptpMessageRx p ⟨dom, .sync seq false origin corr⟩ t) s = .next u ∧ u.reg TBS_OFFSET_v = unsgn 32 (((t : Int)
    - s.reg (TBS_PORT_LAT_rx_lat p)).toNat - (origin + corr) - s.w.masterDelay) % 2 ^ 32) ∧
  (∀ (s : State) (p t : Nat), p < 6 ∧ s.w.mainOn = true ∧ s.reg TBS_CTRL_ptp_role ≠ 0 ∧ s.bitOf
    (NET_PORT_CTRL_ptp_ts p) = true ∧ (s.w.ptpPeer = true ∨ (s.dev.tb.ptpValid = true ∧ p = s.dev.tb.masterPort)) →
    ∃ u, exec (.ptpMessageTx p .delayReq t) s = .next u ∧ u.dev.tb.ptpSeq = (s.dev.tb.ptpSeq + 1) % 65536 ∧ tblGet
    u.dev.tb.delayWait ((s.dev.tb.ptpSeq + 1) % 65536) = some (p, t + s.reg (TBS_PORT_LAT_tx_lat p))) ∧
  (∀ (s : State) (p t : Nat) (m : PtpMaster), p < 6 ∧ s.w.mainOn = true ∧ s.w.gated 0x18 = false ∧
    s.w.ptpMasterPort p = true ∧ (s.w.at_ t).announced = some m ∧ s.bitOf (NET_PORT_CTRL_tx_enable p) = true ∧
    s.w.portLit p = true ∧ s.bitOf TBS_PTP_TAG_tagged = false → ∃ u, exec (.ptpMessageTx p .announce t) s = .next u
    ∧ u.dev.net.wire = ⟨p, none, W.ptpMac, W.baseMac, .ptp (s.reg TBS_CTRL_domain) (.announce m)⟩ :: s.dev.net.wire
    ∧ u.dev.tb.ptpSeq = (s.dev.tb.ptpSeq + 1) % 65536) ∧
  (∀ (s : State) (t : Nat), s.dev.tb.ptpValid = true ∧ s.dev.tb.lastAnn + 3000000000 * 2 ^ (if s.reg
    TBS_PTP_DS_log_announce ≤ 2 then s.reg TBS_PTP_DS_log_announce else 0) ≤ s.upAt t → ∃ u, exec (.announceTimeout
    t) s = .next u ∧ u.dev.tb.ptpValid = false ∧ u.dev.tb.master = none ∧ u.bitOf TBS_EVENT_src_lost = true) ∧
  (∀ (s : State) (gnss : Bool) (sec t : Nat), sec < 0x1000000000000 ∧ s.w.mainOn = true ∧ s.bitOf
    TBS_CTRL_pps_select = gnss → ∃ u, exec (.ppsEdge gnss sec t) s = .next u ∧ u.dev.tb.ppsLast = some (s.upAt t) ∧
    u.dev.tb.ppsRun =
    (match s.dev.tb.ppsLast with | some x => (if x + 999900000 ≤ s.upAt t ∧ s.upAt t ≤ x + 1000100000 then s.dev.tb.ppsRun + 1 else 1) | none => 1)
    ∧ u.dev.tb.ppsValid = (s.dev.tb.ppsValid || decide (3 ≤ u.dev.tb.ppsRun))) ∧
  (∀ (s : State) (t x : Nat), s.w.mainOn = true ∧ s.dev.tb.ppsLast = some x ∧ x + 1100000000 ≤ s.upAt t → ∃ u, exec
    (.ppsLost t) s = .next u ∧ u.dev.tb.ppsLast = none ∧ u.dev.tb.ppsValid = false ∧ u.dev.tb.ppsRun = 0 ∧
    (s.dev.tb.ppsValid = true → u.bitOf TBS_EVENT_src_lost = true)) ∧
  (∀ (s : State) (t : Nat), s.w.mainOn = true → ∃ u, exec (.ref10mValid t) s = .next u ∧ u.dev.tb.refValid = true ∧
    u.bitOf TBS_STATUS_ref_in_use = s.w.sources.contains 3) ∧
  (∀ (s : State) (t : Nat), s.w.mainOn = true ∧ s.dev.tb.refValid = true → ∃ u, exec (.ref10mLost t) s = .next u ∧
    u.dev.tb.refValid = false ∧ u.bitOf TBS_EVENT_src_lost = true ∧ u.dev.tb.freq = s.dev.tb.freq ∧ u.bitOf
    TBS_STATUS_ref_in_use = false)

/-- STEP with at most 999,999,999 ns in TBS_STEP_NS moves the counter by TBS_STEP and sets stepped; with more, it
  changes nothing. HOLD is remembered and takes a LOCKED or ACQUIRING servo to HOLDOVER, another stays as it is;
  RELEASE ends it: with the servo on and a valid phase source, HOLDOVER goes to ACQUIRING. A slew whose correction
  is used up is over: slewing clears; while some is left, it stands. A write of TBS_CTRL sets its RW bits;
  servo_enable going to 0 ends a slew. A leap second that is pending and reached changes tai_utc by one, down with
  leap_dir, clears leap_pending and sets leap_occurred and leap_done. leap_occurred clears 24 h after. A read of
  TBS_NOW_NS answers the counter's nanoseconds and latches its seconds and fraction. What a clause says beyond the
  rules cited is the model's own convention: log entries 3, 4, 12 to 14, 134 and 135. -/
def Obligations.TimebaseClock : Prop :=
  (∀ (s : State), s.lanes ∧ (sgn 32 (s.reg TBS_STEP_NS_v)).natAbs ≤ 999999999 → ∃ u, exec .step s = .next u ∧
    u.dev.tb.now = ((s.dev.tb.now : Int) + (sgn 32 (s.reg TBS_STEP_SEC_v) * 1000000000 + sgn 32 (s.reg
    TBS_STEP_NS_v)) * 2 ^ 32).toNat ∧ u.bitOf TBS_EVENT_stepped = true) ∧
  (∀ (s : State), s.lanes ∧ 999999999 < (sgn 32 (s.reg TBS_STEP_NS_v)).natAbs → ∃ u, exec .step s = .next u ∧ u =
    s) ∧
  (∀ (s : State), s.lanes → ∃ u, exec .hold s = .next u ∧ u.dev.tb.holdCmd = true ∧ u.reg TBS_STATUS_servo_state =
    if s.reg TBS_STATUS_servo_state = 1 ∨ s.reg TBS_STATUS_servo_state = 2 then 3 else s.reg
    TBS_STATUS_servo_state) ∧
  (∀ (s : State), s.lanes → ∃ u, exec .release s = .next u ∧ u.dev.tb.holdCmd = false ∧ (s.reg
    TBS_STATUS_servo_state = 3 ∧ s.bitOf TBS_CTRL_servo_enable = true ∧ s.w.phaseSrc ≠ 0 → u.reg
    TBS_STATUS_servo_state = 1)) ∧
  (∀ (s : State) (t : Nat), (s.w.at_ t).tb.slew = 0 → ∃ u, exec (.slewDone t) s = .next u ∧ u.reg
    TBS_STATUS_slewing = 0) ∧
  (∀ (s : State) (t : Nat), (s.w.at_ t).tb.slew ≠ 0 → ∃ u, exec (.slewDone t) s = .next u ∧ u.reg
    TBS_STATUS_slewing = s.reg TBS_STATUS_slewing ∧ u.dev.tb = (s.w.at_ t).tb) ∧
  (∀ (s : State) (v : W32) (d : RegDef), s.lanes ∧ regDefAt TBS_CTRL_servo_enable.addr = some d → ∃ u, exec
    (.tbsCtrlWrite v) s = .next u ∧ u.word TBS_CTRL_servo_enable.addr = ((s.word TBS_CTRL_servo_enable.addr &&&
    ~~~d.rw) ||| (v &&& d.rw)) &&& ~~~(v &&& d.w1c) ∧ (s.bitOf TBS_CTRL_servo_enable = true ∧ v.getLsbD 0 = false →
    u.dev.tb.slew = 0 ∧ u.reg TBS_STATUS_slewing = 0)) ∧
  (∀ (s : State) (t : Nat), s.w.mainOn = true ∧ s.bitOf TBS_UTC_OFFSET_leap_pending = true ∧ s.reg TBS_LEAP_AT_LO_v
    + 2 ^ 32 * s.reg TBS_LEAP_AT_HI_v ≤ s.nsAt t / 1000000000 → ∃ u, exec (.leapSecond t) s = .next u ∧ u.reg
    TBS_UTC_OFFSET_tai_utc = (s.reg TBS_UTC_OFFSET_tai_utc + if s.bitOf TBS_UTC_OFFSET_leap_dir then 0xFFFF else 1)
    % 2 ^ 16 ∧ u.reg TBS_UTC_OFFSET_leap_pending = 0 ∧ u.reg TBS_UTC_OFFSET_leap_occurred = 1 ∧ u.bitOf
    TBS_EVENT_leap_done = true) ∧
  (∀ (s : State) (t x : Nat), s.dev.tb.leapAt = some x ∧ x + 86400000000000 ≤ s.nsAt t → ∃ u, exec
    (.leapOccurredExpire t) s = .next u ∧ u.dev.tb.leapAt = none ∧ u.reg TBS_UTC_OFFSET_leap_occurred = 0) ∧
  (∀ (s : State), s.lanes → ∃ u, exec .tbsNowRead s = .next u ∧ u.dev.resp = ⟨s.ns % 1000000000, false⟩ ∧ u.reg
    TBS_NOW_SEC_LO_v = s.ns / 1000000000 % 2 ^ 32 ∧ u.reg TBS_NOW_SEC_HI_v = (s.ns / 1000000000 / 2 ^ 32 % 65536 +
    s.dev.tb.now % 2 ^ 32 / 65536 * 65536) % 2 ^ 32)

/-- Arming a unit with a target of R73 and a valid instant counts from 0 for that instant and period; one at or
  before now fires at the next edge, late. Without arm the unit is disarmed; with a reserved target or an invalid
  instant arm reads 0 and late 1. A unit whose instant is reached (of target 4, with no operation bound to it)
  fires: fired, counted; a one-shot is disarmed, a periodic one goes on one period later, after a jump at its next
  instant on the grid. An epoch tick of a later second makes that the last ticked. PPS_OUT rises in a second it has
  not yet risen in where the gate is off or the estimate at most 1,000 ns, never twice, and falls after
  out_width_ms (1 to 999). An edge that an enabled unit watches, on an input it sees, an inverted pin turned round,
  enters its FIFO of 4 with its stamp (1 ns for PPS_IN and the GNSS pulse, else 4 ns) and counts; with 4 held it is
  dropped and overflow set. A read of CAP_NS answers the head's nanoseconds (0 of an empty FIFO) and latches its
  seconds; CAP_POP takes it out. What a clause says beyond the rules cited is the model's own convention: log
  entries 3, 4, 98, 100 and 131. -/
def Obligations.TimebaseTriggers : Prop :=
  (∀ (s : State) (n : Nat) (v : W32) (x : Nat), s.lanes ∧ n < 16 ∧ v.getLsbD 0 = true ∧ fldOf v (TRG_CTRL_target
    n).lo (TRG_CTRL_target n).width < 6 ∧ s.w.trgInstant n = some x → ∃ u, exec (.triggerArm n v) s = .next u ∧
    tblGet u.dev.tb.trg n = some ⟨x, s.w.trgPeriod n, (if x ≤ s.ns then s.ns else x), decide (x ≤ s.ns),
    s.dev.tb.up⟩ ∧ u.reg (TRG_COUNT_v n) = 0 ∧ (x ≤ s.ns → u.reg (TRG_CTRL_late n) = 1) ∧ u.bitOf (TRG_CTRL_arm n)
    = true) ∧
  (∀ (s : State) (n : Nat) (v : W32), s.lanes ∧ n < 16 ∧ (v.getLsbD 0 = false ∨ 6 ≤ fldOf v (TRG_CTRL_target n).lo
    (TRG_CTRL_target n).width ∨ s.w.trgInstant n = none) → ∃ u, exec (.triggerArm n v) s = .next u ∧ tblGet
    u.dev.tb.trg n = none ∧ u.bitOf (TRG_CTRL_arm n) = false ∧ (v.getLsbD 0 = true → u.reg (TRG_CTRL_late n) = 1)) ∧
  (∀ (s : State) (n t : Nat) (a : TrgArm), n < 16 ∧ s.w.mainOn = true ∧ tblGet s.dev.tb.trg n = some a ∧ a.next ≤
    s.nsAt t ∧ (s.reg (TRG_CTRL_target n) ≠ 4 ∨ (∀ o ∈ s.dev.cry.ops, ¬(o.state = 1 ∧ o.unit = some n))) → ∃ u,
    exec (.triggerFire n t) s = .next u ∧ u.reg (TRG_CTRL_fired n) = 1 ∧ u.reg (TRG_COUNT_v n) = min (s.reg
    (TRG_COUNT_v n) + 1) (2 ^ 32 - 1) ∧ (a.period = 0 → tblGet u.dev.tb.trg n = none ∧ u.reg (TRG_CTRL_arm n) = 0)
    ∧ (a.period ≠ 0 → tblGet u.dev.tb.trg n = some
    { a with next := (if a.jump then W.gridAfter a.first a.period a.next else a.next + a.period), jump := false })) ∧
  (∀ (s : State) (t : Nat), s.w.mainOn = true ∧ s.dev.tb.tickSec < s.nsAt t / 1000000000 → ∃ u, exec (.epochTick t)
    s = .next u ∧ u.dev.tb.tickSec = s.nsAt t / 1000000000) ∧
  (∀ (s : State) (t : Nat), s.w.mainOn = true ∧ s.dev.tb.ppsSec < s.nsAt t / 1000000000 ∧ (s.bitOf
    TBS_CTRL_pps_out_gate = false ∨ (s.w.at_ t).timeOk = true) → ∃ u, exec (.ppsOutRise t) s = .next u ∧
    u.dev.tb.ppsOut = true ∧ u.dev.tb.ppsRoseAt = s.upAt t ∧ u.dev.tb.ppsSec = s.nsAt t / 1000000000) ∧
  (∀ (s : State) (t : Nat), s.nsAt t / 1000000000 ≤ s.dev.tb.ppsSec → ∃ u, exec (.ppsOutRise t) s = .next u ∧
    u.dev.tb.ppsOut = s.dev.tb.ppsOut ∧ u.dev.tb.ppsRoseAt = s.dev.tb.ppsRoseAt) ∧
  (∀ (s : State) (t : Nat), s.dev.tb.ppsOut = true ∧ s.dev.tb.ppsRoseAt + max 1 (min 999 (s.reg
    TBS_PPS_CFG_out_width_ms)) * 1000000 ≤ s.upAt t → ∃ u, exec (.ppsOutFall t) s = .next u ∧ u.dev.tb.ppsOut =
    false) ∧
  (∀ (s : State) (input : Nat) (rising : Bool) (t frac n : Nat), input < 128 ∧ frac < 65536 ∧ s.w.mainOn = true ∧ n
    < 16 ∧ s.w.captureSees input = true ∧ s.bitOf (CAP_CTRL_enable n) = true ∧ s.reg (CAP_CTRL_input n) = input ∧
    (if rising != (match W.capturePin input with | some (p, _) => s.w.pinInverts p | none => false) then s.reg
    (CAP_CTRL_edge n) % 2 = 1 else s.reg (CAP_CTRL_edge n) / 2 = 1) → ∃ u, exec (.captureEdge input rising t frac)
    s = .next u ∧ (((tblGet s.dev.tb.cap n).getD []).length < 4 → tblGet u.dev.tb.cap n = some ((tblGet
    s.dev.tb.cap n).getD [] ++ [65536 * (if input < 2 then t else 4 * (t / 4))]) ∧ u.reg (CAP_CTRL_count n) =
    ((tblGet s.dev.tb.cap n).getD []).length + 1) ∧ (4 ≤ ((tblGet s.dev.tb.cap n).getD []).length → tblGet
    u.dev.tb.cap n = tblGet s.dev.tb.cap n ∧ u.reg (CAP_CTRL_overflow n) = 1)) ∧
  (∀ (s : State) (n x : Nat), s.lanes ∧ n < 16 ∧ x = (((tblGet s.dev.tb.cap n).getD []).head?).getD 0 → ∃ u, exec
    (.capNsRead n) s = .next u ∧ u.dev.resp = ⟨x / 65536 % 1000000000, false⟩ ∧ u.reg (CAP_SEC_LO_v n) = x / 65536
    / 1000000000 % 2 ^ 32 ∧ u.dev.tb.cap = s.dev.tb.cap) ∧
  (∀ (s : State) (n : Nat), s.lanes ∧ n < 16 → ∃ u, exec (.capPop n) s = .next u ∧ tblGet u.dev.tb.cap n = some
    (((tblGet s.dev.tb.cap n).getD []).drop 1) ∧ u.reg (CAP_CTRL_count n) = (((tblGet s.dev.tb.cap n).getD []).drop
    1).length % 2 ^ (CAP_CTRL_count n).width)

/-- A frame that passes R89's checks, while no frame waits for stream ingress and the alignment queue takes its
  records, makes its head ACTIVE, updates its history, and silence counts anew. One that fails a check before the
  lookup counts in ING_DROP_CNT of its code, and so does one of an unmapped IDCODE, under 5, with ING_UNKNOWN_LAST.
  A segment in order on an attached connection advances its receive sequence and keeps what is no whole frame yet;
  one out of order counts and is acknowledged; a reset detaches, with tcp_detached. A segment of no attached
  connection goes to the lanes as its whole frame, in their queue where it has room and none waits. Data
  unacknowledged for 5 ms is acknowledged by a segment without data, and none is due any more; a segment the lanes
  send carries the acknowledgement and has the same effect. The scan finds a head (the only one) in WAITING or
  ACTIVE whose silence time has passed: SILENT, counted in ING_SILENT_CNT, with ING_EVENT.silent; where none is
  due, it leaves every head. What a clause says beyond the rules cited is the model's own convention: log entries
  3, 4, 17, 19, 21 and 132. -/
def Obligations.IngressStreams : Prop :=
  (∀ (s : State) (f : C37Frame) (i k inst : Nat) (h h' : Head) (e : List Byte) (sec : Nat), s.w.serves = true ∧
    s.bitOf ING_CTRL_enable = true ∧ s.w.isQuiet = false ∧ s.dev.net.host.any (fun x => !x.forLanes) = false ∧
    W.preCheck f.data = none ∧ tblGet s.dev.ing.map (be f.data 4 2) = some i ∧ tblGet s.dev.ing.heads i = some h ∧
    ((((s.w.at_ f.arrival).cross 0xF1 5 (W.c37Len f)).getD (s.w.at_ f.arrival)).fetchEnt i).ent i = e ∧ W.sourceOk
    e f = true ∧ 2 ≤ h.state ∧ h.state ≤ 4 ∧ be f.data 2 2 = entFrameSize e ∧ be f.data 10 4 % 2 ^ 24 < entTimeBase
    e ∧ (s.w.taiOf (be f.data 6 4) (be f.data 10 4)).toNat = sec ∧ ((s.w.at_ f.arrival).tqCode = 0xF ∨ ((sec *
    entTimeBase e * 1000000000 + be f.data 10 4 % 2 ^ 24 * 1000000000 : Nat) - (f.arrival * entTimeBase e : Nat) :
    Int).natAbs ≤ 2000000000 * entTimeBase e) ∧ W.gridOf e sec (be f.data 10 4 % 2 ^ 24) = some (k, inst) ∧
    W.histCheck h k = (0, h') ∧ ((((s.w.at_ f.arrival).cross 0xF1 5 (W.c37Len f)).getD (s.w.at_
    f.arrival)).fetchEnt i).fits ((h.chain.map (fun x => ((((s.w.at_ f.arrival).cross 0xF1 5 (W.c37Len f)).getD
    (s.w.at_ f.arrival)).fetchEnt i).checkedOf (tst (entFlags e) 2) x (((((s.w.at_ f.arrival).cross 0xF1 5
    (W.c37Len f)).getD (s.w.at_ f.arrival)).fetchEnt i).ent x) f.data inst f.arrival (be f.data 10 4 / 2 ^ 24 % 16)
    ((s.w.at_ f.arrival).tqCode == 0xF))).filter (fun c => c.group != 0xFF)) = true → ∃ u, exec (.ingressFrame f) s
    = .next u ∧ (tblGet u.dev.ing.heads i).map (fun x => (x.state, x.newest, x.hist, x.since)) = some (3,
    h'.newest, h'.hist, s.upAt f.arrival)) ∧
  (∀ (s : State) (f : C37Frame) (k : Nat), s.w.serves = true ∧ s.bitOf ING_CTRL_enable = true ∧ s.w.isQuiet = false
    ∧ s.dev.net.host.any (fun x => !x.forLanes) = false ∧ (W.preCheck f.data = some k ∨ (W.preCheck f.data = none ∧
    tblGet s.dev.ing.map (be f.data 4 2) = none ∧ k = 5)) → ∃ u, exec (.ingressFrame f) s = .next u ∧ u.reg
    (ING_DROP_CNT_v k) = min (s.reg (ING_DROP_CNT_v k) + 1) (2 ^ 32 - 1) ∧ u.dev.ing.heads = s.dev.ing.heads ∧ (k =
    5 → u.reg ING_UNKNOWN_LAST_idcode = be f.data 4 2)) ∧
  (∀ (s : State) (g : TcpSeg) (k : Nat) (x : TcpConn), s.w.mainOn = true ∧ s.dev.ing.conns.find? (fun c => c.2.v6
    == g.v6 && c.2.remote == g.remote && c.2.local_ == g.local_ && c.2.remotePort == g.remotePort && c.2.localPort
    == g.localPort) = some (k, x) ∧ g.rst = false ∧ g.fin = false ∧ g.seq = x.rcvNext ∧ (W.cutFrames (g.data.length
    + 1) (x.buf ++ g.data) []).2.2 = false → ∃ u, exec (.tcpSegmentRx g) s = .next u ∧ (tblGet u.dev.ing.conns
    k).map (fun y => (y.rcvNext, y.buf)) = some ((x.rcvNext + g.data.length) % 2 ^ 32, (W.cutFrames (g.data.length
    + 1) (x.buf ++ g.data) []).2.1)) ∧
  (∀ (s : State) (g : TcpSeg) (k : Nat) (x : TcpConn), s.w.mainOn = true ∧ s.dev.ing.conns.find? (fun c => c.2.v6
    == g.v6 && c.2.remote == g.remote && c.2.local_ == g.local_ && c.2.remotePort == g.remotePort && c.2.localPort
    == g.localPort) = some (k, x) ∧ (g.rst = true ∨ g.seq ≠ x.rcvNext) → ∃ u, exec (.tcpSegmentRx g) s = .next u ∧
    if g.rst then tblGet u.dev.ing.conns k = none ∧ u.bitOf ING_EVENT_tcp_detached = true else tblGet
    u.dev.ing.conns k = some { x with unacked := none, full := 0 } ∧ u.reg ING_TCP_OOO_CNT_v = min (s.reg
    ING_TCP_OOO_CNT_v + 1) (2 ^ 32 - 1)) ∧
  (∀ (s : State) (g : TcpSeg) (q : QItem), s.w.mainOn = true ∧ s.dev.ing.conns.find? (fun c => c.2.v6 == g.v6 &&
    c.2.remote == g.remote && c.2.local_ == g.local_ && c.2.remotePort == g.remotePort && c.2.localPort ==
    g.localPort) = none ∧ s.dev.pat.active.path 0xF1 0xF0 = some q ∧ s.w.hasRoom 0xF1 0xF0 g.frame.length = true ∧
    s.dev.net.host.any HostFrame.forLanes = false → ∃ u, exec (.tcpSegmentRx g) s = .next u ∧ (u.w.qState
    q.queue).units = (s.w.qState q.queue).units ++ [⟨.bytes g.frame, g.frame.length, false⟩]) ∧
  (∀ (s : State) (conn t m : Nat) (x : TcpConn), conn < 256 ∧ tblGet s.dev.ing.conns conn = some x ∧ x.unacked =
    some m ∧ m + 5000000 ≤ s.upAt t → ∃ u, exec (.tcpAckTimer conn t) s = .next u ∧ tblGet u.dev.ing.conns conn =
    some { x with unacked := none, full := 0 } ∧ u.dev.net.wire = ((s.w.at_ t).hostSend ⟨1, 0, false⟩ 0 (.tcp conn
    0 x.rcvNext 65535 [])).net.wire) ∧
  (∀ (s : State) (conn q : Nat) (data : List Byte) (x : TcpConn), s.lanes ∧ conn < 256 ∧ tblGet s.dev.ing.conns
    conn = some x → ∃ u, exec (.tcpLaneSegmentTx conn q data) s = .next u ∧ tblGet u.dev.ing.conns conn = some
    { x with unacked := none, full := 0 } ∧ u.dev.net.wire = (s.w.hostSend ⟨1, 0, false⟩ 0 (.tcp conn q x.rcvNext
    65535 data)).net.wire) ∧
  (∀ (s : State) (t i : Nat) (h : Head), s.w.serves = true ∧ (h.state = 2 ∨ h.state = 3) ∧ h.since + 1000000 *
    entSilence ((s.w.at_ t).ent i) ≤ s.upAt t ∧ s.dev.ing.heads = [(i, h)] → ∃ u, exec (.silenceScan t) s = .next u
    ∧ (tblGet u.dev.ing.heads i).map (fun x => x.state) = some 4 ∧ u.bitOf ING_EVENT_silent = true ∧ u.reg
    ING_SILENT_CNT_count = 1) ∧
  (∀ (s : State) (t : Nat), (∀ e ∈ s.dev.ing.heads, (e.2.state ≠ 2 ∧ e.2.state ≠ 3) ∨ s.upAt t < e.2.since +
    1000000 * entSilence ((s.w.at_ t).ent e.1)) → ∃ u, exec (.silenceScan t) s = .next u ∧ u.dev.ing.heads =
    s.dev.ing.heads)

/-- INVALIDATE drops the cached copy; done, result OK. ENABLE of a chain that passes both passes of R88 makes it
  WAITING with no history, result OK; of one that fails, FAULT with the code as the result and entry_fault. DISABLE
  takes a head in WAITING, ACTIVE, SILENT or FAULT to DISABLED, result OK; any other it leaves. FLUSH writes a
  dirty state half (bytes from 192 on) to DRAM, the copy then clean, result OK; CLEAR zeroes bytes 196 to 255,
  result OK. MAP_SET puts the index at the IDCODE's empty position, result OK; at one of another index it answers
  IDCODE and changes nothing. MAP_CLEAR empties it. TCP_ATTACH of a descriptor that R83 does not refuse attaches
  its connection, result OK; of one it refuses, TCP_CONN. TCP_DETACH removes an attached connection, result OK;
  another answers TCP_CONN. A command on an index beyond the table answers INDEX, while one runs BUSY, and changes
  no entry. MAP_QUERY shows the IDCODE's position in ING_MAP_RESULT, 0 where it is empty. A write of ING_CTRL sets
  its three bits, and tcp_enable 0 detaches every connection. The write-back has the effect of FLUSH on a dirty
  copy. What a clause says beyond the rules cited is the model's own convention: log entries 3, 4, 18, 20 and 138.
  -/
def Obligations.IngressTable : Prop :=
  (∀ (s : State) (i : Nat), s.lanes ∧ i < 8192 ∧ s.bitOf ING_CMD_STATUS_busy = false ∧ i <
    s.dev.pat.active.streamEntries → ∃ u, exec (.ingInvalidate i) s = .next u ∧ tblGet u.dev.ing.cache i = none ∧
    u.reg ING_CMD_STATUS_done = 1 ∧ u.reg ING_CMD_STATUS_result = 0) ∧
  (∀ (s : State) (i : Nat) (chain : List Nat), s.lanes ∧ i < 8192 ∧ s.bitOf ING_CMD_STATUS_busy = false ∧ i <
    s.dev.pat.active.streamEntries ∧ s.w.walk i 64 i [] = (0, chain) ∧ W.chainError (patGroups s.dev.pat.active)
    (chain.map (fun e => (chain.foldl (fun w e => w.dropLine e) s.w).rdBytes (s.w.entAddrOf e) 256)) = 0 → ∃ u,
    exec (.ingEnable i) s = .next u ∧ (tblGet u.dev.ing.heads i).map (fun x => (x.state, x.chain, x.newest)) = some
    (2, chain, none) ∧ u.reg ING_CMD_STATUS_done = 1 ∧ u.reg ING_CMD_STATUS_result = 0) ∧
  (∀ (s : State) (i k : Nat) (chain : List Nat), s.lanes ∧ i < 8192 ∧ s.bitOf ING_CMD_STATUS_busy = false ∧ i <
    s.dev.pat.active.streamEntries ∧ k ≠ 0 ∧ (s.w.walk i 64 i [] = (k, chain) ∨ (s.w.walk i 64 i [] = (0, chain) ∧
    W.chainError (patGroups s.dev.pat.active) (chain.map (fun e => (chain.foldl (fun w e => w.dropLine e)
    s.w).rdBytes (s.w.entAddrOf e) 256)) = k)) → ∃ u, exec (.ingEnable i) s = .next u ∧ (tblGet u.dev.ing.heads
    i).map (fun x => x.state) = some 5 ∧ u.reg ING_CMD_STATUS_done = 1 ∧ u.reg ING_CMD_STATUS_result = k ∧ u.bitOf
    ING_EVENT_entry_fault = true) ∧
  (∀ (s : State) (i : Nat) (h : Head), s.lanes ∧ i < 8192 ∧ s.bitOf ING_CMD_STATUS_busy = false ∧ i <
    s.dev.pat.active.streamEntries ∧ tblGet s.dev.ing.heads i = some h ∧ 2 ≤ h.state ∧ h.state ≤ 5 → ∃ u, exec
    (.ingDisable i) s = .next u ∧ (tblGet u.dev.ing.heads i).map (fun x => x.state) = some 1 ∧ u.reg
    ING_CMD_STATUS_done = 1 ∧ u.reg ING_CMD_STATUS_result = 0) ∧
  (∀ (s : State) (i : Nat), s.lanes ∧ i < 8192 ∧ s.bitOf ING_CMD_STATUS_busy = false ∧ i <
    s.dev.pat.active.streamEntries ∧ (s.w.headState i < 2 ∨ 5 < s.w.headState i) → ∃ u, exec (.ingDisable i) s =
    .next u ∧ u.dev.ing.heads = s.dev.ing.heads ∧ u.reg ING_CMD_STATUS_done = 1 ∧ u.reg ING_CMD_STATUS_result = 0) ∧
  (∀ (s : State) (i m : Nat) (l : CacheLine), s.lanes ∧ i < 8192 ∧ s.bitOf ING_CMD_STATUS_busy = false ∧ i <
    s.dev.pat.active.streamEntries ∧ tblGet s.dev.ing.cache i = some l ∧ l.dirty = some m → ∃ u, exec (.ingFlush i)
    s = .next u ∧ tblGet u.dev.ing.cache i = some { l with dirty := none } ∧ u.reg ING_CMD_STATUS_done = 1 ∧ u.reg
    ING_CMD_STATUS_result = 0 ∧ (upTo (l.bytes.length - 192)).map (fun k => u.mem.rd (s.w.entAddrOf i + 192 + k)) =
    l.bytes.drop 192) ∧
  (∀ (s : State) (i : Nat), s.lanes ∧ i < 8192 ∧ s.bitOf ING_CMD_STATUS_busy = false ∧ i <
    s.dev.pat.active.streamEntries → ∃ u, exec (.ingClear i) s = .next u ∧ (tblGet u.dev.ing.cache i).map (fun x =>
    x.bytes) = some (patch (s.w.ent i) 196 (List.replicate 60 0)) ∧ u.reg ING_CMD_STATUS_done = 1 ∧ u.reg
    ING_CMD_STATUS_result = 0) ∧
  (∀ (s : State) (i : Nat), s.lanes ∧ i < 8192 ∧ s.bitOf ING_CMD_STATUS_busy = false ∧ i <
    s.dev.pat.active.streamEntries → ∃ u, exec (.mapSet i) s = .next u ∧ u.dev.ing.map = (if tblGet s.dev.ing.map
    (s.reg ING_CMD_ARG_LO_v % 65536) = none then tblPut (s.reg ING_CMD_ARG_LO_v % 65536) i s.dev.ing.map else
    s.dev.ing.map) ∧ u.reg ING_CMD_STATUS_result = if tblGet s.dev.ing.map (s.reg ING_CMD_ARG_LO_v % 65536) = none
    ∨ tblGet s.dev.ing.map (s.reg ING_CMD_ARG_LO_v % 65536) = some i then 0 else 0x09) ∧
  (∀ (s : State), s.lanes ∧ s.bitOf ING_CMD_STATUS_busy = false → ∃ u, exec .mapClear s = .next u ∧ tblGet
    u.dev.ing.map (s.reg ING_CMD_ARG_LO_v % 65536) = none ∧ u.reg ING_CMD_STATUS_result = 0) ∧
  (∀ (s : State) (a k : Nat) (x : TcpConn) (b : List Byte), s.lanes ∧ s.bitOf ING_CMD_STATUS_busy = false ∧ s.reg
    ING_CMD_ARG_LO_v + 2 ^ 32 * s.reg ING_CMD_ARG_HI_v = a ∧ inRam a 48 = true ∧ a % 8 = 0 ∧ s.w.rdBytes a 48 = b ∧
    W.tcpDesc b = (k, x) ∧ tblGet s.dev.ing.conns k = none ∧ s.dev.ing.conns.any (fun e => W.sameConn e.2 x) =
    false ∧ x.localPort = s.dev.pat.active.c37Tcp ∧ s.dev.pat.active.c37Tcp ≠ 0 ∧ s.bitOf ING_CTRL_tcp_enable =
    true ∧ le b 41 1 ≤ 1 ∧ allZero (cut b 42 6) = true → ∃ u, exec .tcpAttach s = .next u ∧ tblGet u.dev.ing.conns
    k = some x ∧ u.reg ING_CMD_STATUS_result = 0) ∧
  (∀ (s : State) (a k : Nat) (x : TcpConn) (b : List Byte), s.lanes ∧ s.bitOf ING_CMD_STATUS_busy = false ∧ s.reg
    ING_CMD_ARG_LO_v + 2 ^ 32 * s.reg ING_CMD_ARG_HI_v = a ∧ s.w.rdBytes a 48 = b ∧ W.tcpDesc b = (k, x) ∧ ((tblGet
    s.dev.ing.conns k).isSome = true ∨ s.dev.ing.conns.any (fun e => W.sameConn e.2 x) = true ∨ x.localPort ≠
    s.dev.pat.active.c37Tcp ∨ s.dev.pat.active.c37Tcp = 0 ∨ s.bitOf ING_CTRL_tcp_enable = false) → ∃ u, exec
    .tcpAttach s = .next u ∧ u.dev.ing = s.dev.ing ∧ u.reg ING_CMD_STATUS_result = 0x0C) ∧
  (∀ (s : State), s.lanes ∧ s.bitOf ING_CMD_STATUS_busy = false → ∃ u, exec .tcpDetach s = .next u ∧ tblGet
    u.dev.ing.conns (s.reg ING_CMD_ARG_LO_v % 256) = none ∧ u.reg ING_CMD_STATUS_result = if (tblGet
    s.dev.ing.conns (s.reg ING_CMD_ARG_LO_v % 256)).isSome then 0 else 0x0C) ∧
  (∀ (s : State) (i : Nat), s.lanes ∧ i < 8192 ∧ (s.bitOf ING_CMD_STATUS_busy = true ∨
    s.dev.pat.active.streamEntries ≤ i) → ∀ c ∈ [Instr.ingInvalidate i, .ingEnable i, .ingDisable i, .ingFlush i,
    .ingClear i, .mapSet i], ∃ u, exec c s = .next u ∧ u.dev.ing = s.dev.ing ∧ u.reg ING_CMD_STATUS_result = if
    s.bitOf ING_CMD_STATUS_busy then 0x0D else 0x01) ∧
  (∀ (s : State) (v : W32), s.lanes → ∃ u, exec (.mapQuery v) s = .next u ∧ u.bitOf ING_MAP_RESULT_valid = (tblGet
    s.dev.ing.map (v.toNat % 65536)).isSome ∧ u.reg ING_MAP_RESULT_index = (tblGet s.dev.ing.map (v.toNat %
    65536)).getD 0 % 2 ^ ING_MAP_RESULT_index.width) ∧
  (∀ (s : State) (v : W32), s.lanes → ∃ u, exec (.ingCtrlWrite v) s = .next u ∧ u.reg ING_CTRL_enable = v.toNat % 2
    ∧ u.reg ING_CTRL_range_enable = v.toNat / 2 % 2 ∧ u.reg ING_CTRL_tcp_enable = v.toNat / 4 % 2 ∧ u.dev.ing.conns
    = (if v.toNat / 4 % 2 = 1 then s.dev.ing.conns else [])) ∧
  (∀ (s : State) (i t m : Nat) (l : CacheLine), i < 8192 ∧ tblGet s.dev.ing.cache i = some l ∧ l.dirty = some m → ∃
    u, exec (.ingWriteback i t) s = .next u ∧ tblGet u.dev.ing.cache i = some { l with dirty := none } ∧ (upTo
    (l.bytes.length - 192)).map (fun k => u.mem.rd (s.w.entAddrOf i + 192 + k)) = l.bytes.drop 192)

/-- A record of the queue's head for a member's missing slot in the open set of its instant, at most 50 ms early
  and no wider than the group's slots, makes that slot present with the record. One off the group's grid, or of no
  member of the set, counts as stray; more than 50 ms ahead, as early, with its event; for a slot already present,
  as a duplicate. A running group with members opens the set of an instant of its grid since its start, later than
  its last closed set, that has none, with the window in force. An instant off the grid, closed before, or that has
  a set, opens none. An open set whose window has run out with a member missing is marked expired, and closes with
  reason 2 where it is the first open one and no earlier instant has still to open; before, it stays. In an
  adaptive group a set not yet sampled gives, from window_max after its instant, one latency sample; the newest
  4,096 are kept. A write of ALN_CTRL sets enable, and every group runs or stops as enable, its run bit and the
  standby say. A write of ALN_GRP_CTRL sets its three bits, and the group runs or stops by the same rule. CFG_ACK
  clears the output stream's cfg_stale. What a clause says beyond the rules cited is the model's own convention:
  log entries 3, 4 23 to 26 and 139. -/
def Obligations.AlignmentCommands : Prop :=
  (∀ (s : State) (loc : Bool) (t : Nat) (q : QUnit) (c : Checked) (i : List Byte) (y : AlnSet) (e g : Nat),
    s.w.loom = true ∧ s.w.headOf (if loc then 9 else 5) 6 = some q ∧ q.body = .checked c ∧ q.aborted = false ∧ (if
    c.isLocal then s.reg ALN_LOCAL_CFG_group else c.group) = g ∧ (if c.isLocal then W.localEntry else c.entry) = e
    ∧ s.w.alnItem g = some i ∧ (s.w.alnGroup i).running = true ∧ (s.w.alnGroup i).known ≠ [] ∧ (s.w.alnGroup
    i).sets = [y] ∧ y.instant = c.instant ∧ y.isOpen = true ∧ isInstant (gRate i) c.instant = true ∧ y.slots.any
    (fun z => z.entry == e) = true ∧ y.slots.all (fun z => z.entry != e || z.status == 1) = true ∧ c.instant ≤
    s.nsAt t + 50000000 ∧ c.need ≤ gWidth i → ∃ u, exec (.recordPlace loc t) s = .next u ∧ (u.w.alnGroup
    i).sets.any (fun x => x.instant == c.instant && x.slots.any (fun z => z.entry == e && z.status == 0 && z.value
    == some c)) = true) ∧
  (∀ (s : State) (loc : Bool) (t : Nat) (q : QUnit) (c : Checked) (i : List Byte) (e g : Nat), s.w.loom = true ∧
    s.w.headOf (if loc then 9 else 5) 6 = some q ∧ q.body = .checked c ∧ q.aborted = false ∧ (if c.isLocal then
    s.reg ALN_LOCAL_CFG_group else c.group) = g ∧ (if c.isLocal then W.localEntry else c.entry) = e ∧ s.w.alnItem g
    = some i ∧ (s.w.alnGroup i).running = true ∧ (s.w.alnGroup i).known ≠ [] ∧ (isInstant (gRate i) c.instant =
    false ∨ ((s.w.alnGroup i).sets.any (fun y => y.instant == c.instant) = true ∧ (s.w.alnGroup i).sets.all (fun y
    => y.instant != c.instant || !(y.slots.map (fun z => z.entry)).contains e) = true)) → ∃ u, exec (.recordPlace
    loc t) s = .next u ∧ u.reg (ALN_GRP_STRAY_v g) = min (s.reg (ALN_GRP_STRAY_v g) + 1) (2 ^ (ALN_GRP_STRAY_v
    g).width - 1)) ∧
  (∀ (s : State) (loc : Bool) (t : Nat) (q : QUnit) (c : Checked) (i : List Byte) (y : AlnSet) (e g : Nat),
    s.w.loom = true ∧ s.w.headOf (if loc then 9 else 5) 6 = some q ∧ q.body = .checked c ∧ q.aborted = false ∧ (if
    c.isLocal then s.reg ALN_LOCAL_CFG_group else c.group) = g ∧ (if c.isLocal then W.localEntry else c.entry) = e
    ∧ s.w.alnItem g = some i ∧ (s.w.alnGroup i).running = true ∧ (s.w.alnGroup i).known ≠ [] ∧ (s.w.alnGroup
    i).sets = [y] ∧ y.instant = c.instant ∧ isInstant (gRate i) c.instant = true ∧ (y.slots.map (fun z =>
    z.entry)).contains e = true ∧ (s.nsAt t + 50000000 < c.instant ∨ y.slots.all (fun z => z.entry != e || z.status
    == 0) = true) → ∃ u, exec (.recordPlace loc t) s = .next u ∧ if s.nsAt t + 50000000 < c.instant then u.reg
    (ALN_GRP_EARLY_v g) = min (s.reg (ALN_GRP_EARLY_v g) + 1) (2 ^ (ALN_GRP_EARLY_v g).width - 1) ∧ u.bitOf
    ALN_EVENT_early = true else u.reg (ALN_GRP_DUP_v g) = min (s.reg (ALN_GRP_DUP_v g) + 1) (2 ^ (ALN_GRP_DUP_v
    g).width - 1)) ∧
  (∀ (s : State) (g inst : Nat) (i : List Byte), g < 64 ∧ s.w.loom = true ∧ s.w.alnItem g = some i ∧ (s.w.alnGroup
    i).running = true ∧ (s.w.alnGroup i).known ≠ [] ∧ (s.w.at_ inst).membersOf (gNum i) ≠ [] ∧ isInstant (gRate i)
    inst = true ∧ inst ≤ s.nsAt inst ∧ (s.w.alnGroup i).runFrom ≤ inst ∧ ((s.w.alnGroup i).lastClosed.all (fun l =>
    decide (l < inst))) = true ∧ (s.w.alnGroup i).sets.any (fun y => y.instant == inst) = false → ∃ u, exec
    (.setOpen g inst) s = .next u ∧ (u.w.alnGroup i).sets.any (fun x => x.instant == inst && x.window ==
    s.w.alnWindow i (s.w.alnGroup i)) = true) ∧
  (∀ (s : State) (g inst : Nat) (i : List Byte), g < 64 ∧ s.w.alnItem g = some i ∧ (isInstant (gRate i) inst =
    false ∨ ((s.w.alnGroup i).lastClosed.any (fun l => decide (inst ≤ l))) = true ∨ (s.w.alnGroup i).sets.any (fun
    y => y.instant == inst) = true) → ∃ u, exec (.setOpen g inst) s = .next u ∧ u.dev.aln = s.dev.aln) ∧
  (∀ (s : State) (g inst t : Nat) (i : List Byte) (y : AlnSet), g < 64 ∧ s.w.loom = true ∧ s.w.alnItem g = some i ∧
    (s.w.alnGroup i).sets.find? (fun y => y.instant == inst && y.isOpen) = some y ∧ y.instant + 1000000 * y.window
    ≤ s.nsAt t ∧ 0 < countStatus y.slots 1 → ∃ u, exec (.setExpire g inst t) s = .next u ∧ (u.w.alnGroup
    i).sets.any (fun x => x.instant == inst && x.expired) = true ∧ ((s.w.alnGroup i).sets.find? (fun y => y.isOpen)
    = some y ∧ (s.w.at_ t).owed i (s.w.alnGroup i) inst = false → (u.w.alnGroup i).sets.any (fun x => x.instant ==
    inst && !x.isOpen && x.reason == 2) = true)) ∧
  (∀ (s : State) (g inst t : Nat) (i : List Byte) (y : AlnSet), g < 64 ∧ s.w.alnItem g = some i ∧ (s.w.alnGroup
    i).sets.find? (fun y => y.instant == inst && y.isOpen) = some y ∧ s.nsAt t < y.instant + 1000000 * y.window → ∃
    u, exec (.setExpire g inst t) s = .next u ∧ u.dev.aln = s.dev.aln) ∧
  (∀ (s : State) (g inst t : Nat) (i : List Byte) (y : AlnSet), g < 64 ∧ s.w.loom = true ∧ s.w.alnItem g = some i ∧
    gAdaptive i = true ∧ (s.w.alnGroup i).sets.find? (fun y => y.instant == inst && !y.sampled) = some y ∧
    y.instant + 1000000 * gMax i ≤ s.nsAt t → ∃ u, exec (.latencySample g inst t) s = .next u ∧ (u.w.alnGroup
    i).sets.any (fun x => x.instant == inst && x.sampled) = true ∧ (u.w.alnGroup i).samples = (W.latencyOf i y ::
    (s.w.alnGroup i).samples).take 4096 ∧ (u.w.alnGroup i).window ≤ gMax i) ∧
  (∀ (s : State) (v : W32), s.lanes ∧ s.w.alnOn = true → ∃ u, exec (.alnCtrlWrite v) s = .next u ∧ u.reg
    ALN_CTRL_enable = v.toNat % 2 ∧ (∀ i ∈ s.w.alnItems, (u.w.alnGroup i).running = (decide (v.toNat % 2 = 1) &&
    s.bitOf (ALN_GRP_CTRL_run (gNum i)) && !s.w.isQuiet))) ∧
  (∀ (s : State) (g : Nat) (v : W32) (i : List Byte), s.lanes ∧ g < 64 ∧ s.w.alnOn = true ∧ s.w.alnItem g = some i
    → ∃ u, exec (.alnGrpCtrlWrite g v) s = .next u ∧ u.reg (ALN_GRP_CTRL_run g) = v.toNat % 2 ∧ u.reg
    (ALN_GRP_CTRL_irq_close g) = v.toNat / 2 % 2 ∧ u.reg (ALN_GRP_CTRL_late_fwd g) = v.toNat / 4 % 2 ∧
    (u.w.alnGroup i).running = (s.bitOf ALN_CTRL_enable && decide (v.toNat % 2 = 1) && !s.w.isQuiet)) ∧
  (∀ (s : State) (n : Nat), s.lanes ∧ n < 16 ∧ s.w.alnOn = true → ∃ u, exec (.cfgAck n) s = .next u ∧ u.reg
    (ALN_OUT_CTRL_cfg_stale n) = 0)

/-- The notice of a marker, no record waiting for the Crier, keeps the marker's stamp as the base of its group. The
  notice of a set counts it in GAN_SETS_CNT, and a level monitor (the only one) whose signal the set holds usable
  takes its value: high above its upper level, low below its lower, valid. A report of a Tuner signal that is due
  is written: its second, its sequence number and the instant of its update. A write of GAN_PARAM_DATA replaces a
  parameter of the selected item where it is one in its range, with result 0; without such an item the result is 1,
  of a word that holds no parameter 2, of a value out of range 3, and nothing is replaced. A write of GAN_RULE_EN
  enables the rules of its word that exist, and a rule it disables goes IDLE. A write of GAN_RULE_ACK sends a
  LATCHED rule of its bits IDLE, and no other changes its state. A selection latches the words of the rule (0 where
  there is none), the sequence number and second of the Tuner signal's last report, the node's label, separated and
  stale, the edge's states, and the monitor's outputs, value and rate (0 for a kind that is no monitor's). A write
  of GAN_CTRL sets its fields, and rules_enable 0 sends every rule IDLE. What a clause says beyond the rules cited
  is the model's own convention: log entries 3, 4 22 and 27 to 31. -/
def Obligations.AnalyticsCommands : Prop :=
  (∀ (s : State) (t : Nat) (q : QUnit) (b : List Byte), s.w.loom = true ∧ s.dev.gan.waiting = [] ∧ s.w.headOf 6 7 =
    some q ∧ q.body = .bytes b ∧ q.aborted = false ∧ s.bitOf GAN_CTRL_enable = true ∧ le b 0 1 = 2 → ∃ u, exec
    (.notice t) s = .next u ∧ tblGet u.dev.gan.base (le b 1 1) = some (readStamp false 0 (s.w.rdBytes (le b 8 8)
    64) 16)) ∧
  (∀ (s : State) (t : Nat) (q : QUnit) (b : List Byte), s.w.loom = true ∧ s.dev.gan.waiting = [] ∧ s.w.headOf 6 7 =
    some q ∧ q.body = .bytes b ∧ q.aborted = false ∧ s.bitOf GAN_CTRL_enable = true ∧ le b 0 1 ≠ 2 → ∃ u, exec
    (.notice t) s = .next u ∧ u.reg GAN_SETS_CNT_v = (s.reg GAN_SETS_CNT_v + 1) % 2 ^ 32) ∧
  (∀ (s : State) (t n : Nat) (q : QUnit) (b i z : List Byte) (x : W32), s.w.loom = true ∧ s.dev.gan.waiting = [] ∧
    s.w.headOf 6 7 = some q ∧ q.body = .bytes b ∧ q.aborted = false ∧ s.bitOf GAN_CTRL_enable = true ∧ le b 0 1 ≠ 2
    ∧ s.w.ganHas 2 = true ∧ s.w.ganItems 6 = [(n, i)] ∧ slotOf (s.w.readSet (le b 8 8)) (le i 4 2) = some z ∧
    usable z (le i 6 1) (le i 7 1) = some x → ∃ u, exec (.notice t) s = .next u ∧ (u.w.mon 6 n).val = x ∧ (u.w.mon
    6 n).outs = bitNat (f32Lt (BitVec.ofNat 32 (le i 12 4)) x) + 2 * bitNat (f32Lt x (BitVec.ofNat 32 (le i 8 4)))
    + 8 ∧ (u.w.mon 6 n).upd = some (s.w.readSet (le b 8 8)).closed) ∧
  (∀ (s : State) (signal t sec : Nat) (i : List Byte), signal < 512 ∧ s.w.loom = true ∧ s.w.ganHas 3 = true ∧
    s.w.ganItem 3 signal = some i ∧ (s.w.tun signal).due = some sec → ∃ u, exec (.tunerReport signal t) s = .next u
    ∧ (u.w.tun signal).rptSec = sec ∧ (u.w.tun signal).rptSeq = ((s.w.tun signal).rptSeq + 1) % 65536 ∧ (u.w.tun
    signal).due = none ∧ (u.w.tun signal).dampUpd = some (s.nsAt t)) ∧
  (∀ (s : State) (v : W32) (i : List Byte), s.lanes ∧ s.w.ganItem (s.reg GAN_PARAM_SEL_kind) (s.reg
    GAN_PARAM_SEL_number) = some i ∧ s.reg GAN_PARAM_SEL_word ≠ 3 ∧ (W.paramWord i (s.reg GAN_PARAM_SEL_kind)
    (s.reg GAN_PARAM_SEL_word) v.toNat).2 = 0 → ∃ u, exec (.paramWrite v) s = .next u ∧ u.reg
    GAN_PARAM_STATUS_result = 0 ∧ tblGet u.dev.gan.params (W.ganKey (s.reg GAN_PARAM_SEL_kind) (s.reg
    GAN_PARAM_SEL_number)) = some ((W.paramWord i (s.reg GAN_PARAM_SEL_kind) (s.reg GAN_PARAM_SEL_word)
    v.toNat).1.drop 4)) ∧
  (∀ (s : State) (v : W32), s.lanes ∧ (∀ i ∈ (s.w.ganItem (s.reg GAN_PARAM_SEL_kind) (s.reg
    GAN_PARAM_SEL_number)).toList, s.reg GAN_PARAM_SEL_word = 3 ∨ (W.paramWord i (s.reg GAN_PARAM_SEL_kind) (s.reg
    GAN_PARAM_SEL_word) v.toNat).2 ≠ 0) → ∃ u, exec (.paramWrite v) s = .next u ∧ u.dev.gan = s.dev.gan ∧ u.reg
    GAN_PARAM_STATUS_result =
    (match s.w.ganItem (s.reg GAN_PARAM_SEL_kind) (s.reg GAN_PARAM_SEL_number) with | none => 1 | some i => if s.reg GAN_PARAM_SEL_word = 3 then 2 else (W.paramWord i (s.reg GAN_PARAM_SEL_kind) (s.reg GAN_PARAM_SEL_word) v.toNat).2)) ∧
  (∀ (s : State) (word : Nat) (v : W32), s.lanes ∧ word < 32 ∧ s.w.ganHas 2 = true → ∃ u, exec (.ruleEnable word v)
    s = .next u ∧ u.reg (GAN_RULE_EN_v word) = v.toNat &&& s.w.ruleBits word (fun _ => true) ∧ ∀ i ∈ s.w.ganRules,
    rNum i / 32 = word → s.w.ruleEnabled (rNum i) = true → tst v.toNat (rNum i % 32) = false → (u.w.rule (rNum
    i)).state = 0) ∧
  (∀ (s : State) (word : Nat) (v : W32), s.lanes ∧ word < 32 ∧ s.w.ganHas 2 = true → ∃ u, exec (.ruleAck word v) s
    = .next u ∧ ∀ i ∈ s.w.ganRules, (u.w.rule (rNum i)).state = if rNum i / 32 = word ∧ tst v.toNat (rNum i % 32) =
    true ∧ (s.w.rule (rNum i)).state = 4 then 0 else (s.w.rule (rNum i)).state) ∧
  (∀ (s : State) (v : W32), s.lanes ∧ s.w.ganHas 2 = true → ∃ u, exec (.ganSelLatch .rule v) s = .next u ∧ u.reg
    GAN_RULE_SEL_rule = v.toNat % 1024 ∧ u.reg GAN_RULE_STATE_state = (if s.w.ganRules.any (fun i => rNum i ==
    v.toNat % 1024) then (s.w.rule (v.toNat % 1024)).state % 8 else 0) ∧ u.reg GAN_RULE_STATE_count = (if
    s.w.ganRules.any (fun i => rNum i == v.toNat % 1024) then (s.w.rule (v.toNat % 1024)).count % 65536 else 0) ∧
    u.reg GAN_RULE_HITS_v = (if s.w.ganRules.any (fun i => rNum i == v.toNat % 1024) then (s.w.rule (v.toNat %
    1024)).hits % 2 ^ 32 else 0)) ∧
  (∀ (s : State) (v : W32), s.lanes ∧ s.w.ganHas 3 = true → ∃ u, exec (.ganSelLatch .tuner v) s = .next u ∧ u.reg
    GAN_TUN_SEL_signal = v.toNat % 512 ∧ u.reg GAN_TUN_INFO_report_seq = (s.w.tun (v.toNat % 512)).rptSeq % 65536 ∧
    u.reg GAN_TUN_RPT_SEC_LO_v = (s.w.tun (v.toNat % 512)).rptSec % 2 ^ 32) ∧
  (∀ (s : State) (v : W32), s.lanes ∧ s.w.ganHas 4 = true → ∃ u, exec (.ganSelLatch .node v) s = .next u ∧ u.reg
    GAN_SVY_NODE_SEL_index = v.toNat % 32768 ∧ u.reg GAN_SVY_NODE_label = (tblGet s.dev.gan.svy.labels (v.toNat %
    32768)).getD 0 % 8192 ∧ u.bitOf GAN_SVY_NODE_separated = s.w.separated (v.toNat % 32768) ∧ u.bitOf
    GAN_SVY_NODE_stale = s.dev.gan.svy.stale.contains (v.toNat % 32768)) ∧
  (∀ (s : State) (v : W32) (x : GanEdge), s.lanes ∧ s.w.ganHas 4 = true ∧ tblGet s.dev.gan.svy.edges (v.toNat %
    32768) = some x → ∃ u, exec (.ganSelLatch .edge v) s = .next u ∧ u.reg GAN_SVY_EDGE_SEL_index = v.toNat % 32768
    ∧ u.bitOf GAN_SVY_EDGE_open = (x.freqOpen || x.statusOpen) ∧ u.bitOf GAN_SVY_EDGE_by_status = x.statusOpen ∧
    u.bitOf GAN_SVY_EDGE_by_freq = x.freqOpen ∧ u.bitOf GAN_SVY_EDGE_status_unknown = x.statusUnknown ∧ u.bitOf
    GAN_SVY_EDGE_freq_unknown = x.freqUnknown) ∧
  (∀ (s : State) (v : W32), s.lanes ∧ s.w.ganHas 2 = true → ∃ u, exec (.ganSelLatch .monitor v) s = .next u ∧ u.reg
    GAN_MON_SEL_kind = v.toNat % 16 ∧ u.reg GAN_MON_VAL_v = (if v.toNat % 16 ∈ [1, 2, 6] then (s.w.mon (v.toNat %
    16) (v.toNat / 65536)).val.toNat else 0) ∧ u.reg GAN_MON_RATE_v = (if v.toNat % 16 ∈ [1, 2, 6] then (s.w.mon
    (v.toNat % 16) (v.toNat / 65536)).rate.toNat else 0) ∧ u.reg GAN_MON_OUT_outputs = (if v.toNat % 16 ∈ [1, 2, 6]
    then (s.w.mon (v.toNat % 16) (v.toNat / 65536)).outs % 2 ^ GAN_MON_OUT_outputs.width else 0)) ∧
  (∀ (s : State) (v : W32), s.lanes → ∃ u, exec (.ganCtrlWrite v) s = .next u ∧ u.reg GAN_CTRL_enable = v.toNat % 2
    ∧ u.reg GAN_CTRL_rules_enable = v.toNat / 2 % 2 ∧ u.reg GAN_CTRL_stale_ms = v.toNat / 65536 ∧ (v.toNat / 2 % 2
    = 0 → ∀ i ∈ s.w.ganRules, (u.w.rule (rNum i)).state = 0))

/-- CRIER_RECORD, no unit waiting for the Lamplighter, takes the record at the head of the Crier queue: CRY_REC_CNT
  rises to its end value, and CRY_ALM_SEQ, where the Crier is enabled and the module no standby, by 1 (to 0 after a
  takeover); the same of a fanned record in the queue, and, where the queue gives no unit, of the oldest fanned
  record kept beside it, which is then kept no longer. An aborted unit is neither counted nor numbered; while a
  unit still waits for the Lamplighter, no record is taken. ALARM_HEARTBEAT, when its period has passed on a Crier
  that is present and no standby, period and udp_enable not 0, counts a frame for each destination with a MAC in
  the group of an action with udp_en, and leaves CRY_ALM_SEQ; otherwise it sends nothing. GOOSE_RETRANSMIT, when
  the interval of an enabled control block with a published record has passed, raises sqNum, keeps stNum and
  doubles the interval up to max_ms; otherwise the control block keeps all. A write of CRY_GCB_CTRL sets enable and
  test and reads the block's descriptor of 256 bytes. An accepted ALARM_FAN of an (origin, op_id) not remembered is
  remembered among 256 and its record goes to the end of the Crier queue or is kept beside it; one that is
  remembered, or comes to a standby, adds no record. What a clause says beyond the rules cited is the model's own
  convention: log entries 3, 4, 37, 38, 45 and 46. -/
def Obligations.CrierRecords : Prop :=
  (∀ (s : State) (t : Nat) (q : QUnit) (r : List Byte), s.w.cryOn = true ∧ s.dev.cry.lamp = [] ∧ s.w.headOf 7 8 =
    some q ∧ q.body = .bytes r ∧ q.aborted = false → ∃ u, exec (.crierRecord t) s = .next u ∧ u.reg CRY_REC_CNT_v =
    min (s.reg CRY_REC_CNT_v + 1) (2 ^ 32 - 1) ∧ u.reg CRY_ALM_SEQ_v = (if s.bitOf CRY_CTRL_enable = true ∧
    s.w.isStandby = false then (if s.dev.cry.zero then 0 else (s.reg CRY_ALM_SEQ_v + 1) % 2 ^ 32) else s.reg
    CRY_ALM_SEQ_v)) ∧
  (∀ (s : State) (t o : Nat) (q : QUnit) (r : List Byte), s.w.cryOn = true ∧ s.dev.cry.lamp = [] ∧ s.w.headOf 7 8 =
    some q ∧ q.body = .fanned o r ∧ q.aborted = false → ∃ u, exec (.crierRecord t) s = .next u ∧ u.reg
    CRY_REC_CNT_v = min (s.reg CRY_REC_CNT_v + 1) (2 ^ 32 - 1) ∧ u.reg CRY_ALM_SEQ_v = (if s.bitOf CRY_CTRL_enable
    = true ∧ s.w.isStandby = false then (if s.dev.cry.zero then 0 else (s.reg CRY_ALM_SEQ_v + 1) % 2 ^ 32) else
    s.reg CRY_ALM_SEQ_v)) ∧
  (∀ (s : State) (t origin : Nat) (r : List Byte) (rest : List (Nat × List Byte)), s.w.cryOn = true ∧
    s.dev.cry.lamp = [] ∧ s.w.headOf 7 8 = none ∧ s.dev.cry.fanned = (origin, r) :: rest → ∃ u, exec (.crierRecord
    t) s = .next u ∧ u.dev.cry.fanned = rest ∧ u.reg CRY_REC_CNT_v = min (s.reg CRY_REC_CNT_v + 1) (2 ^ 32 - 1) ∧
    u.reg CRY_ALM_SEQ_v = (if s.bitOf CRY_CTRL_enable = true ∧ s.w.isStandby = false then (if s.dev.cry.zero then 0
    else (s.reg CRY_ALM_SEQ_v + 1) % 2 ^ 32) else s.reg CRY_ALM_SEQ_v)) ∧
  (∀ (s : State) (t : Nat) (q : QUnit), s.w.cryOn = true ∧ s.dev.cry.lamp = [] ∧ s.w.headOf 7 8 = some q ∧
    q.aborted = true → ∃ u, exec (.crierRecord t) s = .next u ∧ u.reg CRY_REC_CNT_v = s.reg CRY_REC_CNT_v ∧ u.reg
    CRY_ALM_SEQ_v = s.reg CRY_ALM_SEQ_v) ∧
  (∀ (s : State) (t : Nat), (s.w.at_ t).cryFlush.cry.lamp ≠ [] → ∃ u, exec (.crierRecord t) s = .next u ∧ u.reg
    CRY_REC_CNT_v = s.reg CRY_REC_CNT_v ∧ u.reg CRY_ALM_SEQ_v = s.reg CRY_ALM_SEQ_v ∧ u.dev.cry.lamp ≠ [] ∧
    u.dev.cry.fanned = s.dev.cry.fanned) ∧
  (∀ (s : State) (t : Nat), ∃ u, exec (.alarmHeartbeat t) s = .next u ∧ u.reg CRY_ALM_SEQ_v = s.reg CRY_ALM_SEQ_v ∧
    (if s.w.cryOn = true ∧ s.w.isStandby = false ∧ s.reg CRY_HB_CFG_alarm_hb_s ≠ 0 ∧ s.bitOf CRY_CTRL_udp_enable =
    true ∧ s.dev.cry.hbUp + s.reg CRY_HB_CFG_alarm_hb_s * 1000000000 ≤ s.upAt t then u.dev.cry.hbUp = s.upAt t ∧
    u.reg CRY_FRAME_CNT_v = min (s.reg CRY_FRAME_CNT_v + ((upTo 256).filter (fun d => s.w.dstMac d != 0 && (upTo
    256).any (fun a => s.bitOf (CRY_ACT_udp_en a) && tst (s.reg (CRY_DGRP_v (s.reg (CRY_ACT_dest_group a)) (d /
    32))) (d % 32)))).length) (2 ^ 32 - 1) else u.dev.cry = s.dev.cry ∧ u.dev.net.wire = s.dev.net.wire ∧ u.reg
    CRY_FRAME_CNT_v = s.reg CRY_FRAME_CNT_v)) ∧
  (∀ (s : State) (k t : Nat), k < 16 → ∃ u, exec (.gooseRetransmit k t) s = .next u ∧ if s.w.cryOn = true ∧
    s.w.isStandby = false ∧ s.w.gooseOn k = true ∧ (s.w.gcb k).scr ≠ [] ∧ (s.w.gcb k).sentUp + 1000000 * (s.w.gcb
    k).interval ≤ s.upAt t then (u.w.gcb k).sqNum = ((s.w.gcb k).sqNum + 1) % 2 ^ 32 ∧ (u.w.gcb k).stNum = (s.w.gcb
    k).stNum ∧ (u.w.gcb k).interval = min (2 * (s.w.gcb k).interval) (s.w.gcbMax k) ∧ (u.w.gcb k).sentUp = s.upAt t
    ∧ u.reg CRY_FRAME_CNT_v = min (s.reg CRY_FRAME_CNT_v + 1) (2 ^ 32 - 1) else u.w.gcb k = s.w.gcb k ∧
    u.dev.net.wire = s.dev.net.wire) ∧
  (∀ (s : State) (k : Nat) (v : W32), s.lanes ∧ k < 16 → ∃ u, exec (.gcbCtrlWrite k v) s = .next u ∧ u.reg
    (CRY_GCB_CTRL_enable k) = v.toNat % 2 ∧ u.reg (CRY_GCB_CTRL_test k) = v.toNat / 2 % 2 ∧ (u.w.gcb k).desc =
    s.w.rdBytes (s.reg (CRY_GCB_DESC_LO_v k) + 2 ^ 32 * s.reg (CRY_GCB_DESC_HI_v k)) 256) ∧
  (∀ (s : State) (m : BrdMsg) (h : BrdHdr) (r : List Byte), ((s.w.at_ m.t).brdAccept m (· == 8)).2 = some (h, r) ∧
    s.w.isStandby = false ∧ s.dev.cry.fans.contains (h.origin, h.op) = false ∧ s.dev.cry.fanned = [] → ∃ u, exec
    (.alarmFanRx m) s = .next u ∧ u.dev.cry.fans = ((h.origin, h.op) :: s.dev.cry.fans).take 256 ∧ tblGet
    u.dev.cry.heard h.sender = some (s.upAt m.t) ∧ ((u.dev.cry.fanned = [] ∧ ((s.w.pat.active.path 7 8).map (fun i
    => (u.w.qState i.queue).units.getLast?)) = some (some ⟨.fanned h.origin r, 64, false⟩)) ∨ u.dev.cry.fanned =
    [(h.origin, r)])) ∧
  (∀ (s : State) (m : BrdMsg) (h : BrdHdr) (r : List Byte), ((s.w.at_ m.t).brdAccept m (· == 8)).2 = some (h, r) ∧
    (s.w.isStandby = true ∨ s.dev.cry.fans.contains (h.origin, h.op) = true) → ∃ u, exec (.alarmFanRx m) s = .next
    u ∧ u.dev.cry.fans = s.dev.cry.fans ∧ u.dev.cry.fanned = s.dev.cry.fanned ∧ (s.w.pat.active.path 7 8).map (fun
    i => (u.w.qState i.queue).units) = (s.w.pat.active.path 7 8).map (fun i => (s.w.qState i.queue).units))

/-- A message that is not accepted leaves the Crier's operations, barriers, maps and memory as they are. An
  accepted announcement, its T a valid stamp, is remembered among 256 unless it is already; the new one arms the
  first free unit of the Crier once at T when T is 5 µs or more ahead, and otherwise, in a module that is no
  standby, gop_late is raised; one remembered, or whose T is no valid stamp, leaves operations and triggers alone.
  A release is taken as an announcement: remembered, and armed. ABORT drops its armed operation before T, with the
  event; with none it changes no operation, and of a remembered one raises gop_late. CONFIRM of an awaited child,
  others awaited still, adds its counts; the last one after execution ends the operation, at its originator with
  the summed counts in CRY_GOP_RES and gop_done; one awaited by none changes no operation. ENTER of a child is
  noted while this module has not entered (a standby notes none); once it has, and the last live child enters, the
  barrier passes here. LIVENESS from a module of a lower number is the whole map, from another that child's; a
  standby takes neither. What a clause says beyond the rules cited is the model's own convention: log entries 3, 4,
  39, 41 to 44 and 147. -/
def Obligations.CrierReception : Prop :=
  (∀ (s : State) (m : BrdMsg), ((s.w.at_ m.t).brdAccept m (fun _ => true)).2 = none → ∃ u, exec (.gopAnnounceRx m)
    s = .next u ∧ u.dev.cry = s.dev.cry ∧ u.mem = s.mem) ∧
  (∀ (s : State) (m : BrdMsg), ((s.w.at_ m.t).brdAccept m (fun _ => true)).2 = none → ∀ c ∈ [Instr.abortRx m,
    .confirmRx m, .barrierEnterRx m, .barrierReleaseRx m, .livenessRx m, .alarmFanRx m], ∃ u, exec c s = .next u ∧
    u.dev.cry = s.dev.cry ∧ u.mem = s.mem) ∧
  (∀ (s : State) (m : BrdMsg) (h : BrdHdr) (p : List Byte), ((s.w.at_ m.t).brdAccept m isAnnounce).2 = some (h, p)
    ∧ be (m.data.take 48) 30 4 ≤ 999999999 → ∃ u, exec (.gopAnnounceRx m) s = .next u ∧ u.dev.cry.seen = (if
    s.dev.cry.seen.contains (h.origin, h.op) then s.dev.cry.seen else ((h.origin, h.op) :: s.dev.cry.seen).take
    256)) ∧
  (∀ (s : State) (m : BrdMsg) (h : BrdHdr) (p : List Byte) (n : Nat), ((s.w.at_ m.t).brdAccept m isAnnounce).2 =
    some (h, p) ∧ be (m.data.take 48) 30 4 ≤ 999999999 ∧ s.dev.cry.seen.contains (h.origin, h.op) = false ∧
    s.w.freeUnit = some n ∧ s.nsAt m.t + 5000 ≤ h.t → ∃ u, exec (.gopAnnounceRx m) s = .next u ∧ u.bitOf
    (TRG_CTRL_arm n) = true ∧ u.reg (TRG_CTRL_target n) = 4 ∧ (tblGet u.dev.tb.trg n).map (fun x => (x.next,
    x.period)) = some (h.t, 0)) ∧
  (∀ (s : State) (m : BrdMsg) (h : BrdHdr) (p : List Byte), ((s.w.at_ m.t).brdAccept m isAnnounce).2 = some (h, p)
    ∧ be (m.data.take 48) 30 4 ≤ 999999999 ∧ s.dev.cry.seen.contains (h.origin, h.op) = false ∧ s.w.isStandby =
    false ∧ (s.w.freeUnit = none ∨ h.t < s.nsAt m.t + 5000) → ∃ u, exec (.gopAnnounceRx m) s = .next u ∧ u.bitOf
    CRY_EVENT_gop_late = true) ∧
  (∀ (s : State) (m : BrdMsg) (h : BrdHdr) (p : List Byte), ((s.w.at_ m.t).brdAccept m isAnnounce).2 = some (h, p)
    ∧ (999999999 < be (m.data.take 48) 30 4 ∨ s.dev.cry.seen.contains (h.origin, h.op) = true) → ∃ u, exec
    (.gopAnnounceRx m) s = .next u ∧ u.dev.cry.ops = s.dev.cry.ops ∧ u.dev.cry.seen = s.dev.cry.seen ∧ u.dev.tb.trg
    = s.dev.tb.trg) ∧
  (∀ (s : State) (m : BrdMsg) (h : BrdHdr) (p : List Byte), ((s.w.at_ m.t).brdAccept m (· == 7)).2 = some (h, p) ∧
    be (m.data.take 48) 30 4 ≤ 999999999 → ∃ u, exec (.barrierReleaseRx m) s = .next u ∧ u.dev.cry.seen = (if
    s.dev.cry.seen.contains (h.origin, h.op) then s.dev.cry.seen else ((h.origin, h.op) :: s.dev.cry.seen).take
    256)) ∧
  (∀ (s : State) (m : BrdMsg) (h : BrdHdr) (p : List Byte) (n : Nat), ((s.w.at_ m.t).brdAccept m (· == 7)).2 = some
    (h, p) ∧ be (m.data.take 48) 30 4 ≤ 999999999 ∧ s.dev.cry.seen.contains (h.origin, h.op) = false ∧ s.w.freeUnit
    = some n ∧ s.nsAt m.t + 5000 ≤ h.t → ∃ u, exec (.barrierReleaseRx m) s = .next u ∧ u.bitOf (TRG_CTRL_arm n) =
    true ∧ u.reg (TRG_CTRL_target n) = 4 ∧ (tblGet u.dev.tb.trg n).map (fun x => (x.next, x.period)) = some (h.t,
    0)) ∧
  (∀ (s : State) (m : BrdMsg) (h : BrdHdr) (p : List Byte) (o : Gop), ((s.w.at_ m.t).brdAccept m (· == 4)).2 = some
    (h, p) ∧ s.dev.cry.ops.find? (fun o => W.sameOp o h.origin h.op && o.state == 1 && decide (s.nsAt m.t < o.t)) =
    some o → ∃ u, exec (.abortRx m) s = .next u ∧ u.dev.cry.ops.any (fun x => W.sameOp x h.origin h.op) = false ∧
    u.bitOf CRY_EVENT_gop_abort = true) ∧
  (∀ (s : State) (m : BrdMsg) (h : BrdHdr) (p : List Byte), ((s.w.at_ m.t).brdAccept m (· == 4)).2 = some (h, p) ∧
    s.dev.cry.ops.find? (fun o => W.sameOp o h.origin h.op && o.state == 1 && decide (s.nsAt m.t < o.t)) = none → ∃
    u, exec (.abortRx m) s = .next u ∧ u.dev.cry.ops = s.dev.cry.ops ∧ u.bitOf CRY_EVENT_gop_late = (s.bitOf
    CRY_EVENT_gop_late || s.dev.cry.seen.contains (h.origin, h.op))) ∧
  (∀ (s : State) (m : BrdMsg) (h : BrdHdr) (b : List Byte) (o : Gop), ((s.w.at_ m.t).brdAccept m (· == 5)).2 = some
    (h, b) ∧ s.w.isStandby = false ∧ s.dev.cry.ops.find? (fun o => W.sameOp o h.origin h.op && o.kids.contains
    h.sender && !o.confirmed) = some o ∧ o.kids.filter (· != h.sender) ≠ [] → ∃ u, exec (.confirmRx m) s = .next u
    ∧ u.dev.cry.ops.any (fun x => W.sameOp x h.origin h.op && x.kids == o.kids.filter (· != h.sender) && x.counts
    == addCounts o.counts ((upTo 5).map (fun i => be b (2 * i) 2))) = true) ∧
  (∀ (s : State) (m : BrdMsg) (h : BrdHdr) (b : List Byte) (o : Gop), ((s.w.at_ m.t).brdAccept m (· == 5)).2 = some
    (h, b) ∧ s.w.isStandby = false ∧ s.dev.cry.ops.find? (fun o => W.sameOp o h.origin h.op && o.kids.contains
    h.sender && !o.confirmed) = some o ∧ o.kids.filter (· != h.sender) = [] ∧ o.state = 3 → ∃ u, exec (.confirmRx
    m) s = .next u ∧ u.dev.cry.ops.any (fun x => W.sameOp x h.origin h.op) = false ∧ (o.origin = s.w.me → u.bitOf
    CRY_EVENT_gop_done = true ∧ [u.reg (CRY_GOP_RES_lo 0), u.reg (CRY_GOP_RES_hi 0), u.reg (CRY_GOP_RES_lo 1),
    u.reg (CRY_GOP_RES_hi 1), u.reg (CRY_GOP_RES_lo 2)] = (addCounts o.counts ((upTo 5).map (fun i => be b (2 * i)
    2))).map (· % 65536))) ∧
  (∀ (s : State) (m : BrdMsg) (h : BrdHdr) (b : List Byte), ((s.w.at_ m.t).brdAccept m (· == 5)).2 = some (h, b) ∧
    (s.w.isStandby = true ∨ s.dev.cry.ops.find? (fun o => W.sameOp o h.origin h.op && o.kids.contains h.sender &&
    !o.confirmed) = none) → ∃ u, exec (.confirmRx m) s = .next u ∧ u.dev.cry.ops = s.dev.cry.ops) ∧
  (∀ (s : State) (m : BrdMsg) (h : BrdHdr) (p : List Byte), ((s.w.at_ m.t).brdAccept m (· == 6)).2 = some (h, p) ∧
    (s.w.barrier h.arg).entered = false → ∃ u, exec (.barrierEnterRx m) s = .next u ∧ if s.w.isStandby then
    u.dev.cry.bars = s.dev.cry.bars else (tblGet u.dev.cry.bars h.arg).map (fun b => b.kids.contains h.sender &&
    !b.entered) = some true) ∧
  (∀ (s : State) (m : BrdMsg) (h : BrdHdr) (p : List Byte), ((s.w.at_ m.t).brdAccept m (· == 6)).2 = some (h, p) ∧
    s.w.isStandby = false ∧ (s.w.barrier h.arg).entered = true ∧ (s.w.barrier h.arg).passed = false ∧ (s.w.me ≠
    s.reg CRY_BAR_TIMEOUT_barrier_root) ∧ ((reachKids s.w.sysN s.w.sysF (s.reg CRY_BAR_TIMEOUT_barrier_root)
    (s.dev.cry.down.filter (· != h.sender)) 12 false (treeKids s.w.sysN s.w.sysF (s.reg
    CRY_BAR_TIMEOUT_barrier_root) s.w.me)).1.map (fun k => k.1)).all (fun k => k == h.sender || (s.w.barrier
    h.arg).kids.contains k) = true → ∃ u, exec (.barrierEnterRx m) s = .next u ∧ (tblGet u.dev.cry.bars h.arg).map
    (·.passed) = some true) ∧
  (∀ (s : State) (m : BrdMsg) (h : BrdHdr) (b : List Byte), ((s.w.at_ m.t).brdAccept m (· == 9)).2 = some (h, b) →
    ∃ u, exec (.livenessRx m) s = .next u ∧ if s.w.isStandby then u.dev.cry.map = s.dev.cry.map ∧ u.dev.cry.kidMaps
    = s.dev.cry.kidMaps else if h.sender < s.w.me then u.dev.cry.map = leNat b ∧ (∀ k ∈ u.dev.cry.down, tst (leNat
    b) k = false) else tblGet u.dev.cry.kidMaps h.sender = some (leNat b))

/-- LIVENESS_SEND, its period passed on a present Crier that is no standby with brodsan_enable, renews the time it
  was sent; otherwise nothing is sent. MODULE_DOWN of a module not yet down: a neighbour silent for miss intervals
  (brd_hb_ms of a child, 100 ms of the parent), or one whose bit the whole map lacks, becomes down with the event,
  its map forgotten; any other does not. GOP_BROADCAST answers the first condition of R171 that refuses it, or 0
  and takes the next operation number; T being 5 µs or more ahead, it arms the first free unit at T. GOP_SNAPSHOT
  and GOP_RESET answer and number alike. GOP_ENTER answers the first condition other than the lead that refuses it,
  changing nothing else; not refused, it enters the barrier and waits for its live children, and, all of them in at
  the root, releases it under the next operation number. GOP_ABORT without a key answers 5, without brodsan_enable
  6, and aborts nothing; else it drops an armed operation of this module before T, RESET only up to T − d·h − ε,
  and with none raises gop_late. A confirmation's deadline, due on a serving module that is no standby, confirms
  the operation; without one nothing changes. A barrier's timeout, due at its root before release, raises the event
  and releases it; otherwise nothing changes. A write of CRY_SYS_CFG sets its fields and reads the system table.
  What a clause says beyond the rules cited is the model's own convention: log entries 3, 4 and 39 to 44. -/
def Obligations.CrierOperations : Prop :=
  (∀ (s : State) (t : Nat), ∃ u, exec (.livenessSend t) s = .next u ∧ if s.w.cryOn = true ∧ s.w.isStandby = false ∧
    s.bitOf CRY_CTRL_brodsan_enable = true ∧ s.dev.cry.liveUp + 1000000 * (if s.w.me = 0 then 100 else max 1 (s.reg
    CRY_HB_CFG_brd_hb_ms)) ≤ s.upAt t then u.dev.cry.liveUp = s.upAt t ∧ (s.w.me = 0 → u.dev.cry.map = s.w.ownMap)
    else u.dev.cry = s.dev.cry ∧ u.dev.net.wire = s.dev.net.wire) ∧
  (∀ (s : State) (m t : Nat), m < 1024 → ∃ u, exec (.moduleDown m t) s = .next u ∧ if s.w.serves = true ∧
    s.w.isStandby = false ∧ s.bitOf CRY_CTRL_brodsan_enable = true ∧ m < s.w.sysN ∧ m ≠ s.w.me ∧
    s.dev.cry.down.contains m = false ∧ ((s.dev.cry.map ≠ 0 ∧ tst s.dev.cry.map m = false) ∨ (((treeKids s.w.sysN
    s.w.sysF 0 s.w.me).contains m = true ∨ treeParent s.w.sysN s.w.sysF 0 s.w.me = some m) ∧ max s.dev.cry.since
    ((tblGet s.dev.cry.heard m).getD 0) + s.w.missNs (treeParent s.w.sysN s.w.sysF 0 s.w.me == some m) ≤ s.upAt t))
    then u.dev.cry.down = m :: s.dev.cry.down ∧ u.bitOf CRY_EVENT_module_down = true ∧ tblGet u.dev.cry.kidMaps m =
    none else u.dev.cry = s.dev.cry ∧ u.bitOf CRY_EVENT_module_down = s.bitOf CRY_EVENT_module_down) ∧
  (∀ (s : State) (late level : Bool), s.lanes ∧ s.w.serves = true → ∃ u, exec (.gopBroadcast late level) s = .next
    u ∧ u.reg CRY_GOP_STATUS_done = 1 ∧ u.reg CRY_GOP_STATUS_result = s.w.gopRefuse s.w.gopT 1 (s.reg
    CRY_GOP_LEN_len) ∧ (if s.w.gopRefuse s.w.gopT 1 (s.reg CRY_GOP_LEN_len) = 0 then u.reg CRY_GOP_OPID_v =
    (s.dev.cry.opSeq + 1) % 2 ^ 32 ∧ u.dev.cry.opSeq = (s.dev.cry.opSeq + 1) % 2 ^ 32 else u.reg CRY_GOP_OPID_v =
    s.reg CRY_GOP_OPID_v ∧ u.dev.cry = s.dev.cry)) ∧
  (∀ (s : State) (late level : Bool) (n T : Nat), s.lanes ∧ s.w.serves = true ∧ s.w.gopRefuse s.w.gopT 1 (s.reg
    CRY_GOP_LEN_len) = 0 ∧ s.w.gopT = some T ∧ s.w.freeUnit = some n ∧ s.ns + 5000 ≤ T → ∃ u, exec (.gopBroadcast
    late level) s = .next u ∧ u.bitOf (TRG_CTRL_arm n) = true ∧ (tblGet u.dev.tb.trg n).map (fun x => (x.next,
    x.period)) = some (T, 0) ∧ u.dev.cry.ops.any (fun o => W.sameOp o s.w.me ((s.dev.cry.opSeq + 1) % 2 ^ 32) &&
    o.kind == 1 && o.t == T) = true) ∧
  (∀ (s : State) (late : Bool), s.lanes ∧ s.w.serves = true → ∃ u, exec (.gopSnapshot late) s = .next u ∧ u.reg
    CRY_GOP_STATUS_done = 1 ∧ u.reg CRY_GOP_STATUS_result = s.w.gopRefuse s.w.gopT 1 0 ∧ (if s.w.gopRefuse s.w.gopT
    1 0 = 0 then u.reg CRY_GOP_OPID_v = (s.dev.cry.opSeq + 1) % 2 ^ 32 ∧ u.dev.cry.opSeq = (s.dev.cry.opSeq + 1) %
    2 ^ 32 else u.reg CRY_GOP_OPID_v = s.reg CRY_GOP_OPID_v ∧ u.dev.cry = s.dev.cry)) ∧
  (∀ (s : State) (kind : Nat), s.lanes ∧ kind < 65536 ∧ s.w.serves = true → ∃ u, exec (.gopReset kind) s = .next u
    ∧ u.reg CRY_GOP_STATUS_done = 1 ∧ u.reg CRY_GOP_STATUS_result = s.w.gopRefuse s.w.gopT 2 0 ∧ (if s.w.gopRefuse
    s.w.gopT 2 0 = 0 then u.reg CRY_GOP_OPID_v = (s.dev.cry.opSeq + 1) % 2 ^ 32 ∧ u.dev.cry.opSeq =
    (s.dev.cry.opSeq + 1) % 2 ^ 32 else u.reg CRY_GOP_OPID_v = s.reg CRY_GOP_OPID_v ∧ u.dev.cry = s.dev.cry)) ∧
  (∀ (s : State) (late : Bool) (n : Nat), s.lanes ∧ n < 65536 ∧ s.w.serves = true ∧ s.w.gopRefuse (some (s.ns + 2 ^
    64)) 1 0 ≠ 0 → ∃ u, exec (.gopEnter late n) s = .next u ∧ u.dev.cry = s.dev.cry ∧ u.reg CRY_GOP_STATUS_result =
    s.w.gopRefuse (some (s.ns + 2 ^ 64)) 1 0) ∧
  (∀ (s : State) (late : Bool) (n : Nat), s.lanes ∧ n < 65536 ∧ s.w.serves = true ∧ s.w.gopRefuse (some (s.ns + 2 ^
    64)) 1 0 = 0 ∧ ((reachKids s.w.sysN s.w.sysF (s.reg CRY_BAR_TIMEOUT_barrier_root) s.dev.cry.down 12 false
    (treeKids s.w.sysN s.w.sysF (s.reg CRY_BAR_TIMEOUT_barrier_root) s.w.me)).1.map (fun k => k.1)).any (fun k =>
    !(s.w.barrier n).kids.contains k) = true → ∃ u, exec (.gopEnter late n) s = .next u ∧ tblGet u.dev.cry.bars n =
    some { s.w.barrier n with entered := true, late := late } ∧ u.reg CRY_GOP_STATUS_result = 0) ∧
  (∀ (s : State) (late : Bool) (n : Nat), s.lanes ∧ n < 65536 ∧ s.w.serves = true ∧ s.w.gopRefuse (some (s.ns + 2 ^
    64)) 1 0 = 0 ∧ (s.w.barrier n).passed = false ∧ s.w.me = s.reg CRY_BAR_TIMEOUT_barrier_root ∧ ((reachKids
    s.w.sysN s.w.sysF s.w.me s.dev.cry.down 12 false (treeKids s.w.sysN s.w.sysF s.w.me s.w.me)).1.map (fun k =>
    k.1)).all (fun k => (s.w.barrier n).kids.contains k) = true → ∃ u, exec (.gopEnter late n) s = .next u ∧ u.reg
    CRY_GOP_OPID_v = (s.dev.cry.opSeq + 1) % 2 ^ 32 ∧ u.reg CRY_GOP_STATUS_result = 0) ∧
  (∀ (s : State) (op : Nat), s.lanes ∧ op < 65536 ∧ s.w.serves = true ∧ (s.w.brdKey.isSome = false ∨ s.bitOf
    CRY_CTRL_brodsan_enable = false) → ∃ u, exec (.gopAbort op) s = .next u ∧ u.dev.cry = s.dev.cry ∧ u.reg
    CRY_GOP_STATUS_result = (if s.w.brdKey.isSome then 6 else 5)) ∧
  (∀ (s : State) (op : Nat) (o : Gop), s.lanes ∧ op < 65536 ∧ s.w.serves = true ∧ s.w.brdKey.isSome = true ∧
    s.bitOf CRY_CTRL_brodsan_enable = true ∧ s.dev.cry.ops.find? (fun o => o.origin == s.w.me && o.opId % 65536 ==
    op && o.state == 1 && decide (s.ns < o.t)) = some o → ∃ u, exec (.gopAbort op) s = .next u ∧ u.reg
    CRY_GOP_STATUS_result = 0 ∧ (if o.kind = 3 ∧ o.t < s.ns + o.depth * s.w.hopNs + s.w.epsNs then u.dev.cry.ops =
    s.dev.cry.ops else u.dev.cry.ops.any (fun x => W.sameOp x o.origin o.opId) = false ∧ u.bitOf
    CRY_EVENT_gop_abort = true)) ∧
  (∀ (s : State) (op : Nat), s.lanes ∧ op < 65536 ∧ s.w.serves = true ∧ s.w.brdKey.isSome = true ∧ s.bitOf
    CRY_CTRL_brodsan_enable = true ∧ s.dev.cry.ops.find? (fun o => o.origin == s.w.me && o.opId % 65536 == op &&
    o.state == 1 && decide (s.ns < o.t)) = none → ∃ u, exec (.gopAbort op) s = .next u ∧ u.dev.cry.ops =
    s.dev.cry.ops ∧ u.bitOf CRY_EVENT_gop_late = true ∧ u.reg CRY_GOP_STATUS_result = 0) ∧
  (∀ (s : State) (origin op t : Nat) (o : Gop), s.dev.cry.ops.find? (fun o => W.sameOp o origin op && !o.confirmed
    && (o.state == 3 || o.kind == 3)) = some o → ∃ u, exec (.confirmDeadline origin op t) s = .next u ∧ if
    s.w.serves = true ∧ s.w.isStandby = false ∧ (if o.kind = 3 then o.t - treeLevel o.fan 12 (treePos o.size
    o.origin s.w.me) * s.w.hopNs else o.t + 10000 + (o.depth - treeLevel o.fan 12 (treePos o.size o.origin s.w.me))
    * s.w.hopNs) ≤ s.nsAt t then u.dev.cry.ops.all (fun x => !W.sameOp x origin op || x.confirmed) = true else
    u.dev.cry = s.dev.cry) ∧
  (∀ (s : State) (origin op t : Nat), s.dev.cry.ops.find? (fun o => W.sameOp o origin op && !o.confirmed &&
    (o.state == 3 || o.kind == 3)) = none → ∃ u, exec (.confirmDeadline origin op t) s = .next u ∧ u.dev.cry =
    s.dev.cry ∧ u.mem = s.mem) ∧
  (∀ (s : State) (n t : Nat) (b : Barrier), tblGet s.dev.cry.bars n = some b → ∃ u, exec (.barrierTimeout n t) s =
    .next u ∧ if s.w.serves = true ∧ s.w.isStandby = false ∧ s.w.me = s.reg CRY_BAR_TIMEOUT_barrier_root ∧ b.passed
    = false ∧ b.since + 1000000 * s.reg CRY_BAR_TIMEOUT_timeout_ms ≤ s.upAt t then u.bitOf
    CRY_EVENT_barrier_timeout = true ∧ u.reg CRY_GOP_OPID_v = (s.dev.cry.opSeq + 1) % 2 ^ 32 else u.dev.cry =
    s.dev.cry ∧ u.reg CRY_GOP_OPID_v = s.reg CRY_GOP_OPID_v) ∧
  (∀ (s : State) (v : W32), s.lanes → ∃ u, exec (.sysCfgWrite v) s = .next u ∧ u.reg CRY_SYS_CFG_module_no =
    v.toNat % 1024 ∧ u.reg CRY_SYS_CFG_sys_size = v.toNat / 65536 % 2048 ∧ u.reg CRY_SYS_CFG_fanout = v.toNat / 2 ^
    27 ∧ u.dev.cry.table = ((upTo u.w.sysN).map (fun m => (m, s.w.rdBytes (s.reg CRY_SYS_TBL_LO_v + 2 ^ 32 * s.reg
    CRY_SYS_TBL_HI_v + 32 * m) 32))).filter (fun e => !allZero e.2))

/-- ADC_FRAME belongs to the newest conversion that awaits one of its link and whose frame can have ended by then,
  else to the oldest that awaits one. One that has a wrong CRC or status word adds to SMP_LINK_CRC, one that ends
  past its bound to SMP_LINK_LATE, each with the event; where that conversion is the only one and a link in use is
  still awaited, it then holds the frame's words, or nothing where the frame failed; the last awaited one completes
  the conversion; a frame no conversion awaits, or of a Sieve not served, changes no conversion. SV_FRAME with room
  in its queue: an ASDU of a subscription's APPID, form and confRev, its instant not processed and within the wait,
  is kept under its count, once; a late one adds to SMP_SV_LATE and is dropped; a frame of a wrong form or confRev
  adds 1 to SMP_SV_LOST of its subscription and is dropped; and one without room, or of a Sieve that serves no
  sampled values, is dropped. SV_PROCESS processes an instant once, the wait of every subscription past: its values
  are forgotten; PHASOR_REPORT of a reporting instant past, with half of every set's window after it, is made once,
  SMP_PHS_VALID showing the sets valid; else nothing is. SMP_SNAP copies the RMS of every channel (a quiet NaN
  where it is invalid); a peak that is read becomes 0.0, one of no channel reads 0. What a clause says beyond the
  rules cited is the model's own convention: log entries 3, 4, 47 to 50 and 140. -/
def Obligations.SieveConversion : Prop :=
  (∀ (s : State) (f : AdcFrame) (cv : Conv), f.link < 8 ∧ f.words.length = 16 ∧ s.w.loom = true ∧ s.w.smpServed =
    true ∧ s.w.frameOf f.link f.ends = some cv → ∃ u, exec (.adcFrame f) s = .next u ∧ u.reg (SMP_LINK_CRC_v
    f.link) = (if crc16 0xFFFF ((f.words.map (fun x => beBytes 4 x.toNat)).flatten) = f.crc % 65536 ∧ (upTo 16).all
    (fun k => bits (f.words.getD k 0).toNat 7 4 == k) = true then s.reg (SMP_LINK_CRC_v f.link) else min (s.reg
    (SMP_LINK_CRC_v f.link) + 1) (2 ^ 32 - 1)) ∧ u.reg (SMP_LINK_LATE_v f.link) = (if f.ends + 2000 ≤ cv.inst +
    1000000000 / max 1 s.w.smpRate + 30 then s.reg (SMP_LINK_LATE_v f.link) else min (s.reg (SMP_LINK_LATE_v
    f.link) + 1) (2 ^ 32 - 1)) ∧ u.bitOf SMP_EVENT_link_err = (s.bitOf SMP_EVENT_link_err || !(crc16 0xFFFF
    ((f.words.map (fun x => beBytes 4 x.toNat)).flatten) == f.crc % 65536 && (upTo 16).all (fun k => bits
    (f.words.getD k 0).toNat 7 4 == k) && decide (f.ends + 2000 ≤ cv.inst + 1000000000 / max 1 s.w.smpRate + 30)))) ∧
  (∀ (s : State) (f : AdcFrame) (cv : Conv), f.link < 8 ∧ f.words.length = 16 ∧ s.w.loom = true ∧ s.w.smpServed =
    true ∧ s.dev.smp.convs = [cv] ∧ cv.wait.contains f.link = true ∧ cv.wait.any (fun l => l != f.link &&
    s.w.linkOn l) = true → ∃ u, exec (.adcFrame f) s = .next u ∧ u.dev.smp.convs =
    [{ cv with wait := cv.wait.filter (· != f.link), got := tblPut f.link (if crc16 0xFFFF ((f.words.map (fun x => beBytes 4 x.toNat)).flatten) = f.crc % 65536 ∧ (upTo 16).all (fun k => bits (f.words.getD k 0).toNat 7 4 == k) = true ∧ f.ends + 2000 ≤ cv.inst + 1000000000 / max 1 s.w.smpRate + 30 then some f.words else none) cv.got }]) ∧
  (∀ (s : State) (f : AdcFrame) (cv : Conv), f.link < 8 ∧ f.words.length = 16 ∧ s.w.loom = true ∧ s.w.smpServed =
    true ∧ s.dev.smp.convs = [cv] ∧ cv.wait.contains f.link = true ∧ cv.wait.any (fun l => l != f.link &&
    s.w.linkOn l) = false → ∃ u, exec (.adcFrame f) s = .next u ∧ u.dev.smp.convs = []) ∧
  (∀ (s : State) (f : AdcFrame), f.link < 8 ∧ f.words.length = 16 ∧ (s.w.loom = false ∨ s.w.smpServed = false ∨
    s.w.frameOf f.link f.ends = none) → ∃ u, exec (.adcFrame f) s = .next u ∧ u.dev.smp = s.dev.smp ∧ u.reg
    (SMP_LINK_CRC_v f.link) = s.reg (SMP_LINK_CRC_v f.link)) ∧
  (∀ (s : State) (f : SvFrame) (k n : Nat) (a : SvAsdu), s.w.loom = true ∧ s.w.smpServed = true ∧ s.w.smpSv = true
    ∧ s.w.hasRoom 0xF1 9 (W.svBytes f) = true ∧ (upTo 16).filter (fun k => s.bitOf (SMP_SV_CFG_enable k) && s.reg
    (SMP_SV_CFG_appid k) == f.appid) = [k] ∧ f.asdus = [a] ∧ a.values.length = 8 ∧ a.confRev = s.reg
    (SMP_SV_CONFREV_v k) ∧ a.smpCnt < s.w.smpRate ∧ n = W.svCount s.w.smpRate a.smpCnt f.arrival ∧
    s.dev.smp.svDone.all (fun d => decide (d < W.svInstant s.w.smpRate n)) = true ∧ 65536 * f.arrival ≤ W.svInstant
    s.w.smpRate n + 65536 * s.w.svWait k → ∃ u, exec (.svFrame f) s = .next u ∧ u.dev.smp.sv = (if s.dev.smp.sv.any
    (fun e => e.1 == k && e.2.1 == n) then s.dev.smp.sv else s.dev.smp.sv ++ [(k, n, a, f.simulate)])) ∧
  (∀ (s : State) (f : SvFrame) (k n : Nat) (a : SvAsdu), s.w.loom = true ∧ s.w.smpServed = true ∧ s.w.smpSv = true
    ∧ s.w.hasRoom 0xF1 9 (W.svBytes f) = true ∧ (upTo 16).filter (fun k => s.bitOf (SMP_SV_CFG_enable k) && s.reg
    (SMP_SV_CFG_appid k) == f.appid) = [k] ∧ f.asdus = [a] ∧ a.values.length = 8 ∧ a.confRev = s.reg
    (SMP_SV_CONFREV_v k) ∧ a.smpCnt < s.w.smpRate ∧ n = W.svCount s.w.smpRate a.smpCnt f.arrival ∧
    (s.dev.smp.svDone.any (fun d => decide (W.svInstant s.w.smpRate n ≤ d)) = true ∨ W.svInstant s.w.smpRate n +
    65536 * s.w.svWait k < 65536 * f.arrival) → ∃ u, exec (.svFrame f) s = .next u ∧ u.dev.smp.sv = s.dev.smp.sv ∧
    u.reg (SMP_SV_LATE_v k) = min (s.reg (SMP_SV_LATE_v k) + 1) (2 ^ (SMP_SV_LATE_v k).width - 1) ∧ u.bitOf
    SMP_EVENT_sv_late = true) ∧
  (∀ (s : State) (f : SvFrame) (k : Nat), s.w.loom = true ∧ s.w.smpServed = true ∧ s.w.smpSv = true ∧ s.w.hasRoom
    0xF1 9 (W.svBytes f) = true ∧ (upTo 16).filter (fun k => s.bitOf (SMP_SV_CFG_enable k) && s.reg
    (SMP_SV_CFG_appid k) == f.appid) = [k] ∧ (f.asdus = [] ∨ 8 < f.asdus.length ∨ f.asdus.any (fun a =>
    a.values.length != 8 || a.confRev != s.reg (SMP_SV_CONFREV_v k)) = true) → ∃ u, exec (.svFrame f) s = .next u ∧
    u.reg (SMP_SV_LOST_v k) = min (s.reg (SMP_SV_LOST_v k) + 1) (2 ^ (SMP_SV_LOST_v k).width - 1) ∧ u.dev.smp.sv =
    s.dev.smp.sv) ∧
  (∀ (s : State) (f : SvFrame), s.w.loom = false ∨ s.w.smpServed = false ∨ s.w.smpSv = false ∨ s.w.hasRoom 0xF1 9
    (W.svBytes f) = false → ∃ u, exec (.svFrame f) s = .next u ∧ u.dev.smp = s.dev.smp) ∧
  (∀ (s : State) (n t : Nat), ∃ u, exec (.svProcess n t) s = .next u ∧ if s.w.loom = true ∧ s.w.smpServed = true ∧
    s.w.smpSv = true ∧ W.svInstant s.w.smpRate n + 65536 * (((upTo 16).filter (fun k => s.bitOf (SMP_SV_CFG_enable
    k))).map s.w.svWait).foldl max 0 ≤ 65536 * s.nsAt t ∧ s.dev.smp.svDone.all (fun d => decide (d < W.svInstant
    s.w.smpRate n)) = true then u.dev.smp.svDone = some (W.svInstant s.w.smpRate n) ∧ u.dev.smp.sv =
    s.dev.smp.sv.filter (fun e => decide (n < e.2.1)) else u.dev.smp = s.dev.smp) ∧
  (∀ (s : State) (inst t : Nat), ∃ u, exec (.phasorReport inst t) s = .next u ∧ if s.w.loom = true ∧ s.w.smpServed
    = true ∧ s.bitOf SMP_CTRL_phs_enable = true ∧ W.phsRate (s.reg SMP_PHS_CTRL_rate) ≠ 0 ∧ s.w.smpSets ≠ [] ∧
    isInstant (W.phsRate (s.reg SMP_PHS_CTRL_rate)) inst = true ∧ inst + (s.w.smpSets.map (fun n => s.w.halfWindow
    (s.w.setFor n inst))).foldl max 0 ≤ s.nsAt t ∧ s.dev.smp.lastRpt.all (fun l => decide (l < inst)) = true then
    u.dev.smp.lastRpt = some inst ∧ u.reg SMP_PHS_VALID_v = maskOf (s.w.smpSets.map (fun n => s.w.setValid n inst))
    % 2 ^ 32 else u.dev.smp = s.dev.smp ∧ u.reg SMP_PHS_VALID_v = s.reg SMP_PHS_VALID_v) ∧
  (∀ (s : State), s.lanes → ∃ u, exec .smpSnap s = .next u ∧ if s.w.smpOn then (∀ k ∈ s.w.smpChans, u.reg
    (SMP_SNAP_RMS_v k) = (if (s.w.chan k).rmsOk then (s.w.chan k).rms else f32QNaN).toNat) else u.dev.regs =
    s.dev.regs) ∧
  (∀ (s : State) (k : Nat), s.lanes ∧ k < 128 → ∃ u, exec (.peakRead k) s = .next u ∧ if s.w.smpOn = true ∧
    s.w.smpChans.contains k = true then u.dev.resp = ⟨s.reg (SMP_CH_PEAK_v k), false⟩ ∧ u.reg (SMP_CH_PEAK_v k) = 0
    else u.dev.resp = ⟨0, false⟩ ∧ u.dev.regs = s.dev.regs)

/-- A write of SMP_CH_CFG of a channel that exists sets its fields and leaves the channel as it runs; of another it
  does nothing. A write of SMP_TEST_SEL, with a Sieve in the pattern, sets its word, of SMP_TEST its fields; after
  either, no channel is in TEST that the two do not select. A write of SMP_PHS_SET sets its fields and acts from
  the next reporting instant on: earlier instants keep the word they had. A write of SMP_CTRL sets its fields, and
  enable 0 turns every channel OFF. A write of SMP_LINK_CFG sets its fields, and a link whose setting breaks the
  bound of R181 is not on. In a pattern without a Sieve, such a write changes no register. What a clause says
  beyond the rules cited is the model's own convention: log entries 3, 4 51 and 140. -/
def Obligations.SieveSettings : Prop :=
  (∀ (s : State) (k : Nat) (v : W32), s.lanes ∧ k < 128 → ∃ u, exec (.chCfgWrite k v) s = .next u ∧ u.w.chan k =
    s.w.chan k ∧ (if s.w.smpOn = true ∧ s.w.smpChans.contains k = true then u.w.cfgOf k = ⟨v.toNat % 2 == 1,
    v.toNat / 2 % 4, v.toNat / 8 % 2 == 1, v.toNat / 256 % 2 ^ (SMP_CH_CFG_src k).width, v.toNat / 4096 % 2 ^
    (SMP_CH_CFG_word k).width⟩ else u.w.cfgOf k = s.w.cfgOf k)) ∧
  (∀ (s : State) (r : Nat) (v : W32), s.lanes ∧ r < 5 ∧ s.w.smpOn = true ∧ 0 < r → ∃ u, exec (.smpTestWrite r v) s
    = .next u ∧ u.reg (SMP_TEST_SEL_v (r - 1)) = v.toNat) ∧
  (∀ (s : State) (r : Nat) (v : W32), s.lanes ∧ s.w.smpOn = true ∧ r = 0 → ∃ u, exec (.smpTestWrite r v) s = .next
    u ∧ u.reg SMP_TEST_enable = v.toNat % 2 ∧ u.reg SMP_TEST_k = v.toNat / 16 % 16 ∧ u.reg SMP_TEST_gen = v.toNat /
    256 % 2 ∧ u.reg SMP_TEST_freq = v.toNat / 65536 % 2 ^ SMP_TEST_freq.width) ∧
  (∀ (s : State) (r : Nat) (v : W32), s.lanes ∧ r < 5 ∧ s.w.smpOn = true → ∃ u, exec (.smpTestWrite r v) s = .next
    u ∧ ∀ k ∈ s.w.smpChans, (u.w.chan k).state = 5 → u.w.inTest k = true) ∧
  (∀ (s : State) (n inst : Nat) (v : W32), s.lanes ∧ n < 32 ∧ s.w.smpOn = true → ∃ u, exec (.phsSetWrite n v) s =
    .next u ∧ u.reg (SMP_PHS_SET_ch_a n) = v.toNat % 128 ∧ u.reg (SMP_PHS_SET_ch_b n) = v.toNat / 2 ^ 8 % 128 ∧
    u.reg (SMP_PHS_SET_ch_c n) = v.toNat / 2 ^ 16 % 128 ∧ u.reg (SMP_PHS_SET_m_class n) = v.toNat / 2 ^ 24 % 2 ∧
    u.reg (SMP_PHS_SET_out n) = v.toNat / 2 ^ 25 % 2 ^ (SMP_PHS_SET_out n).width ∧ u.reg (SMP_PHS_SET_current n) =
    v.toNat / 2 ^ 27 % 2 ^ (SMP_PHS_SET_current n).width ∧ u.dev.smp.setAt.contains (n, nextInstant (W.phsRate
    (s.reg SMP_PHS_CTRL_rate)) (s.ns + 1)) = true ∧ (inst < nextInstant (W.phsRate (s.reg SMP_PHS_CTRL_rate)) (s.ns
    + 1) → u.w.setFor n inst = s.w.setFor n inst)) ∧
  (∀ (s : State) (v : W32), s.lanes ∧ s.w.smpOn = true → ∃ u, exec (.smpCtrlWrite v) s = .next u ∧ u.reg
    SMP_CTRL_enable = v.toNat % 2 ∧ u.reg SMP_CTRL_source = v.toNat / 2 % 2 ∧ u.reg SMP_CTRL_accept_test = v.toNat
    / 4 % 2 ∧ u.reg SMP_CTRL_phs_enable = v.toNat / 8 % 2 ∧ (v.toNat % 2 = 0 → ∀ k ∈ s.w.smpChans, (u.w.chan
    k).state = 0)) ∧
  (∀ (s : State) (l : Nat) (v : W32), s.lanes ∧ l < 8 ∧ s.w.smpOn = true → ∃ u, exec (.linkCfgWrite l v) s = .next
    u ∧ u.reg (SMP_LINK_CFG_enable l) = v.toNat % 2 ∧ u.reg (SMP_LINK_CFG_sclk l) = v.toNat / 2 % 2 ^
    (SMP_LINK_CFG_sclk l).width ∧ u.reg (SMP_LINK_CFG_read_delay l) = v.toNat / 256 % 2 ^ (SMP_LINK_CFG_read_delay
    l).width ∧ (u.w.linkTimely l = false → u.w.linkOn l = false)) ∧
  (∀ (s : State) (r : Nat) (v : W32), s.lanes ∧ r < 5 ∧ s.w.smpOn = false → ∃ u, exec (.smpTestWrite r v) s = .next
    u ∧ u.dev.regs = s.dev.regs) ∧
  (∀ (s : State) (n l : Nat) (v : W32), s.lanes ∧ n < 32 ∧ l < 8 ∧ s.w.smpOn = false → ∀ c ∈ [Instr.phsSetWrite n
    v, .smpCtrlWrite v, .linkCfgWrite l v], ∃ u, exec c s = .next u ∧ u.dev.regs = s.dev.regs)

/-- FIELD_CYCLE_DONE ends a cycle that runs and counts it; with none it does nothing. GRID_RESPONSE_CMD takes a
  command unit at the head of the Lamplighter queue (units that wait sent on first). A raise of an enabled entry,
  not fanned or accepting fanned ones, makes it ACTIVE and starts its hold time; a release makes an ACTIVE one
  RELEASING unless it latches, and leaves another as it is; a command of an entry that is not enabled sets
  gr_unconfigured, a fanned one not accepted fanned_refused, and the entries stay; with grid_enable 0 it does
  nothing. Without such a unit at the head no entry changes. CONTACTOR_DEFERRED makes a change that waited, once
  min_switch_s has passed, with con_limit; no other changes a drive. LEVEL_ORDER takes an order unit at the head of
  that queue: one within the ranges of R219 waits for its T, and orders whose T has come wait no longer; another is
  dropped with order_err. ORDER_LOCAL_APPLY leaves the orders whose T is ahead. SENSOR_EVENT counts each record it
  takes; with lift_enable one of a lantern absent or beyond the table, of no class or no valid stamp is dropped and
  counted; one without a speed or a neighbour is a presence of its class and instant; another sets a track of its
  class, lanterns, speed, instant and path. LMP_INJECT counts an injected record whose first byte is 20H like one
  received, and drops any other. What a clause says beyond the rules cited is the model's own convention: log
  entries 3, 4, 53, 55 and 56. -/
def Obligations.LampOrders : Prop :=
  (∀ (s : State) (t : Nat), ∃ u, exec (.fieldCycleDone t) s = .next u ∧ u.dev.lmp.busy = (if s.w.lmpOn then false
    else s.dev.lmp.busy) ∧ u.reg LMP_CYCLE_CNT_v = (if s.w.lmpOn = true ∧ s.dev.lmp.busy = true then (s.reg
    LMP_CYCLE_CNT_v + 1) % 2 ^ 32 else s.reg LMP_CYCLE_CNT_v)) ∧
  (∀ (s : State) (t n : Nat) (q : QUnit) (b : List Byte), s.w.lmpOn = true ∧ (s.w.at_ t).lmpFlush.headOf 8 0xA =
    some q ∧ q.body = .bytes b ∧ le b 0 1 = 1 ∧ s.bitOf LMP_CTRL_grid_enable = true ∧ le b 1 1 = n ∧ n ≠ 0 ∧
    s.bitOf (LMP_GR0_enable (n - 1)) = true ∧ (tst (le b 7 1) 0 = false ∨ s.bitOf (LMP_GR0_accept_fanned (n - 1)) =
    true) → ∃ u, exec (.gridResponseCmd t) s = .next u ∧ u.w.grState n = 1 ∧ tblGet u.dev.lmp.raised n = some
    (s.upAt t) ∧ u.dev.lmp.judged = true ∧ (s.w.isStandby = false → u.reg LMP_STATUS_stage = u.w.calcStage)) ∧
  (∀ (s : State) (t n : Nat) (q : QUnit) (b : List Byte), s.w.lmpOn = true ∧ (s.w.at_ t).lmpFlush.headOf 8 0xA =
    some q ∧ q.body = .bytes b ∧ le b 0 1 = 2 ∧ s.bitOf LMP_CTRL_grid_enable = true ∧ le b 1 1 = n ∧ n ≠ 0 ∧
    s.bitOf (LMP_GR0_enable (n - 1)) = true ∧ (tst (le b 7 1) 0 = false ∨ s.bitOf (LMP_GR0_accept_fanned (n - 1)) =
    true) → ∃ u, exec (.gridResponseCmd t) s = .next u ∧ u.w.grState n = (if s.w.grState n = 1 ∧ s.bitOf
    (LMP_GR0_latch (n - 1)) = false then 2 else s.w.grState n)) ∧
  (∀ (s : State) (t n : Nat) (q : QUnit) (b : List Byte), s.w.lmpOn = true ∧ (s.w.at_ t).lmpFlush.headOf 8 0xA =
    some q ∧ q.body = .bytes b ∧ (le b 0 1 = 1 ∨ le b 0 1 = 2) ∧ le b 1 1 = n ∧ (s.bitOf LMP_CTRL_grid_enable =
    false ∨ n = 0 ∨ s.bitOf (LMP_GR0_enable (n - 1)) = false ∨ (tst (le b 7 1) 0 = true ∧ s.bitOf
    (LMP_GR0_accept_fanned (n - 1)) = false)) → ∃ u, exec (.gridResponseCmd t) s = .next u ∧ u.w.grLive =
    s.w.grLive ∧ (s.bitOf LMP_CTRL_grid_enable = true → (if n = 0 ∨ s.bitOf (LMP_GR0_enable (n - 1)) = false then
    u.bitOf LMP_EVENT_gr_unconfigured = true else u.bitOf LMP_EVENT_fanned_refused = true))) ∧
  (∀ (s : State) (t : Nat), s.w.lmpOn = false ∨ (s.w.at_ t).lmpFlush.headOf 8 0xA = none → ∃ u, exec
    (.gridResponseCmd t) s = .next u ∧ u.w.grLive = s.w.grLive ∧ u.reg LMP_STATUS_stage = s.reg LMP_STATUS_stage) ∧
  (∀ (s : State) (k t : Nat), k < 16 → ∃ u, exec (.contactorDeferred k t) s = .next u ∧ if s.w.lmpOn = true ∧
    s.dev.lmp.conWait.contains k = true ∧ ((s.w.at_ t).conWant k).1 ≠ s.w.conOn k ∧ (s.w.at_ t).conFree k = true
    then u.w.conOn k = ((s.w.at_ t).conWant k).1 ∧ tblGet u.dev.lmp.con k = some (s.upAt t) ∧ u.bitOf
    LMP_EVENT_con_limit = true ∧ u.dev.lmp.conWait.contains k = false else u.reg LMP_CON_STATE_drives = s.reg
    LMP_CON_STATE_drives ∧ u.dev.lmp = s.dev.lmp) ∧
  (∀ (s : State) (t T : Nat) (q : QUnit) (b p : List Byte), s.w.lmpOn = true ∧ (s.w.at_ t).lmpFlush.headOf 8 0xA =
    some q ∧ q.body = .bytes b ∧ le b 0 1 = 3 ∧ cut b 16 (le b 2 2) = p ∧ le b 8 8 = T ∧ W.orderOk p = true → ∃ u,
    exec (.levelOrder t) s = .next u ∧ u.dev.lmp.orders = (s.dev.lmp.orders ++ [(T, p)]).filter (fun o => decide
    (s.nsAt t < o.1))) ∧
  (∀ (s : State) (t : Nat) (q : QUnit) (b : List Byte), s.w.lmpOn = true ∧ (s.w.at_ t).lmpFlush.headOf 8 0xA = some
    q ∧ q.body = .bytes b ∧ le b 0 1 = 3 ∧ W.orderOk (cut b 16 (le b 2 2)) = false → ∃ u, exec (.levelOrder t) s =
    .next u ∧ u.bitOf LMP_EVENT_order_err = true ∧ u.dev.lmp.orders = s.dev.lmp.orders) ∧
  (∀ (s : State) (t : Nat), s.w.lmpOn = false ∨ (s.w.at_ t).lmpFlush.headOf 8 0xA = none → ∃ u, exec (.levelOrder
    t) s = .next u ∧ u.dev.lmp.orders = s.dev.lmp.orders) ∧
  (∀ (s : State) (t : Nat), s.w.lmpOn = true → ∃ u, exec (.orderLocalApply t) s = .next u ∧ u.dev.lmp.orders =
    s.dev.lmp.orders.filter (fun o => decide (s.nsAt t < o.1))) ∧
  (∀ (s : State) (t : Nat), s.w.lmpOn = false → ∃ u, exec (.orderLocalApply t) s = .next u ∧ u.dev.lmp = s.dev.lmp) ∧
  (∀ (s : State) (t : Nat) (q : QUnit) (b : List Byte), s.w.lmpOn = true ∧ s.w.headOf 0xB 0xA = some q ∧ q.body =
    .bytes b ∧ q.aborted = false → ∃ u, exec (.sensorEvent t) s = .next u ∧ u.reg LMP_EVENTS_CNT_v = min (s.reg
    LMP_EVENTS_CNT_v + 1) (2 ^ 32 - 1) ∧ (s.bitOf LMP_CTRL_lift_enable = false → u.dev.lmp = s.dev.lmp)) ∧
  (∀ (s : State) (t : Nat) (q : QUnit) (b : List Byte), s.w.lmpOn = true ∧ s.w.headOf 0xB 0xA = some q ∧ q.body =
    .bytes b ∧ q.aborted = false ∧ s.bitOf LMP_CTRL_lift_enable = true ∧ (s.w.fieldAt (le b 2 2) = none ∨ 3 < le b
    1 1 ∨ s.w.lanSum ≤ le b 2 2 ∨ 999999999 < le b 8 4) → ∃ u, exec (.sensorEvent t) s = .next u ∧ u.reg
    LMP_EVENT_DROP_CNT_v = min (s.reg LMP_EVENT_DROP_CNT_v + 1) (2 ^ 32 - 1) ∧ u.dev.lmp = s.dev.lmp) ∧
  (∀ (s : State) (t : Nat) (q : QUnit) (b : List Byte) (x : FieldEnt), s.w.lmpOn = true ∧ s.w.headOf 0xB 0xA = some
    q ∧ q.body = .bytes b ∧ q.aborted = false ∧ s.bitOf LMP_CTRL_lift_enable = true ∧ s.w.fieldAt (le b 2 2) = some
    x ∧ le b 1 1 ≤ 3 ∧ le b 2 2 < s.w.lanSum ∧ le b 8 4 ≤ 999999999 ∧ (le b 6 2 = 0 ∨ (x.slotOf (le b 4 2)).isNone
    = true) → ∃ u, exec (.sensorEvent t) s = .next u ∧ (u.dev.lmp.pres.getLast?).map (fun p => (p.cls, p.td)) =
    some (le b 1 1, le b 8 4 + 1000000000 * le b 12 6)) ∧
  (∀ (s : State) (t : Nat) (q : QUnit) (b : List Byte) (x : FieldEnt), s.w.lmpOn = true ∧ s.w.headOf 0xB 0xA = some
    q ∧ q.body = .bytes b ∧ q.aborted = false ∧ s.bitOf LMP_CTRL_lift_enable = true ∧ s.w.fieldAt (le b 2 2) = some
    x ∧ le b 1 1 ≤ 3 ∧ le b 2 2 < s.w.lanSum ∧ le b 8 4 ≤ 999999999 ∧ le b 6 2 ≠ 0 ∧ (x.slotOf (le b 4 2)).isSome =
    true → ∃ u, exec (.sensorEvent t) s = .next u ∧ u.dev.lmp.tracks.any (fun e => e.2.cls == le b 1 1 &&
    e.2.lantern == le b 2 2 && e.2.toward == le b 4 2 && e.2.speed == min 600 (le b 6 2) && e.2.td == le b 8 4 +
    1000000000 * le b 12 6 && e.2.path == s.w.pathOf (le b 2 2) (le b 4 2)) = true) ∧
  (∀ (s : State) (t : Nat), s.w.lmpOn = false ∨ s.w.headOf 0xB 0xA = none → ∃ u, exec (.sensorEvent t) s = .next u
    ∧ u.dev.lmp = s.dev.lmp ∧ u.reg LMP_EVENTS_CNT_v = s.reg LMP_EVENTS_CNT_v) ∧
  (∀ (s : State) (v : W32), s.lanes ∧ s.w.lmpOn = true → ∃ u, exec (.lmpInject v) s = .next u ∧ if
    (s.dev.lmp.inject.getD 0 0).toNat % 256 = 0x20 then u.reg LMP_EVENTS_CNT_v = min (s.reg LMP_EVENTS_CNT_v + 1)
    (2 ^ 32 - 1) else u.dev.lmp = s.dev.lmp ∧ u.reg LMP_EVENTS_CNT_v = s.reg LMP_EVENTS_CNT_v)

/-- ASTRO_COMPUTE takes the four instants of the local date, where it is new or they are due (7FFH for one that
  does not occur), and raises cfg_seq where a local midnight has passed; else it does nothing. LOAD_ALL with a base
  of R207 takes every entry for the next cycle, one that fails its checks as absent: result 0, or 2 with field_err
  where one fails; with another the result is 4 and the field stays. LOAD_ONE does so with one entry; an index
  beyond the table answers 1, a base not of R207 4. GR_RELEASE of an entry answers 0, an ACTIVE one becomes
  RELEASING; of number 0 or above 255 it answers 1. STAGE_CLEAR sends every entry to IDLE and the stage follows.
  GR_HOLD_EXPIRE sends a RELEASING entry whose hold_s has passed since it was raised to IDLE, and no other.
  TRACK_EXPIRE ends a track older than track_max_s, and no other. A write of LMP_CTRL sets its fields; grid_enable
  0 returns every entry to IDLE. A pattern without a Lamplighter takes none of these. What a clause says beyond the
  rules cited is the model's own convention: log entries 3, 4, 52 to 54, 56 and 141. -/
def Obligations.LampTables : Prop :=
  (∀ (s : State) (t : Nat), ∃ u, exec (.astroCompute t) s = .next u ∧ if s.w.lmpOn = true ∧ (s.dev.lmp.astroDay ≠
    some (W.dayOf (s.w.localNs (s.nsAt t))) ∨ s.dev.lmp.astroDue = true) then u.dev.lmp.astroDay = some (W.dayOf
    (s.w.localNs (s.nsAt t))) ∧ u.dev.lmp.astroDue = false ∧ [u.reg LMP_ASTRO_TIMES0_first, u.reg
    LMP_ASTRO_TIMES0_second, u.reg LMP_ASTRO_TIMES1_first, u.reg LMP_ASTRO_TIMES1_second] = (upTo 4).map (fun k =>
    (s.w.sunAt (k + 1) (W.dayOf (s.w.localNs (s.nsAt t)))).getD 0x7FF) ∧ u.dev.rad.cfgSeq = (if
    s.dev.lmp.astroDay.any (fun d => decide (d < W.dayOf (s.w.localNs (s.nsAt t)))) then (s.dev.rad.cfgSeq + 1) % 2
    ^ 16 else s.dev.rad.cfgSeq) else u.dev.lmp = s.dev.lmp ∧ u.dev.rad = s.dev.rad) ∧
  (∀ (s : State), s.lanes ∧ s.w.lmpOn = true ∧ s.w.fieldBaseOk = true → ∃ u, exec .loadAll s = .next u ∧ u.reg
    LMP_STATUS_loaded = 1 ∧ u.reg LMP_CMD_STATUS_done = 1 ∧ u.reg LMP_CMD_STATUS_result = (if (upTo s.w.lanSum).all
    (fun i => fieldOk s.w.lanSum (s.w.rdBytes (s.w.fieldBase + 32 * i) 32)) then 0 else 2) ∧ ((upTo s.w.lanSum).all
    (fun i => fieldOk s.w.lanSum (s.w.rdBytes (s.w.fieldBase + 32 * i) 32)) = false → u.bitOf LMP_EVENT_field_err =
    true) ∧ ∀ i ∈ upTo s.w.lanSum, tblGet u.dev.lmp.fieldNew i = some (if fieldOk s.w.lanSum (s.w.rdBytes
    (s.w.fieldBase + 32 * i) 32) then fieldOf (s.w.rdBytes (s.w.fieldBase + 32 * i) 32) else
    { fieldOf (s.w.rdBytes (s.w.fieldBase + 32 * i) 32) with flags := 0 })) ∧
  (∀ (s : State), s.lanes ∧ s.w.lmpOn = true ∧ s.w.fieldBaseOk = false → ∃ u, exec .loadAll s = .next u ∧ u.reg
    LMP_CMD_STATUS_done = 1 ∧ u.reg LMP_CMD_STATUS_result = 4 ∧ u.dev.lmp = s.dev.lmp) ∧
  (∀ (s : State) (i : Nat), s.lanes ∧ i < 16384 ∧ s.w.lmpOn = true ∧ i < s.w.lanSum ∧ s.w.fieldBaseOk = true → ∃ u,
    exec (.loadOne i) s = .next u ∧ u.reg LMP_CMD_STATUS_done = 1 ∧ u.reg LMP_CMD_STATUS_result = (if fieldOk
    s.w.lanSum (s.w.rdBytes (s.w.fieldBase + 32 * i) 32) then 0 else 2) ∧ tblGet u.dev.lmp.fieldNew i = some (if
    fieldOk s.w.lanSum (s.w.rdBytes (s.w.fieldBase + 32 * i) 32) then fieldOf (s.w.rdBytes (s.w.fieldBase + 32 * i)
    32) else { fieldOf (s.w.rdBytes (s.w.fieldBase + 32 * i) 32) with flags := 0 })) ∧
  (∀ (s : State) (i : Nat), s.lanes ∧ i < 16384 ∧ s.w.lmpOn = true ∧ (s.w.lanSum ≤ i ∨ s.w.fieldBaseOk = false) → ∃
    u, exec (.loadOne i) s = .next u ∧ u.reg LMP_CMD_STATUS_done = 1 ∧ u.reg LMP_CMD_STATUS_result = (if s.w.lanSum
    ≤ i then 1 else 4) ∧ u.dev.lmp = s.dev.lmp) ∧
  (∀ (s : State) (n : Nat), s.lanes ∧ n < 16384 ∧ s.w.lmpOn = true → ∃ u, exec (.grRelease n) s = .next u ∧ u.reg
    LMP_CMD_STATUS_done = 1 ∧ (if n = 0 ∨ 255 < n then u.reg LMP_CMD_STATUS_result = 1 ∧ u.w.grLive = s.w.grLive
    else u.reg LMP_CMD_STATUS_result = 0 ∧ u.w.grState n = (if s.w.grState n = 1 then 2 else s.w.grState n))) ∧
  (∀ (s : State), s.lanes ∧ s.w.lmpOn = true → ∃ u, exec .stageClear s = .next u ∧ u.w.grLive = [] ∧ u.reg
    LMP_CMD_STATUS_done = 1 ∧ u.reg LMP_CMD_STATUS_result = 0 ∧ (s.w.isStandby = false → u.reg LMP_STATUS_stage =
    u.w.calcStage)) ∧
  (∀ (s : State) (n t : Nat), 0 < n ∧ n < 256 → ∃ u, exec (.grHoldExpire n t) s = .next u ∧ u.w.grState n = (if
    s.w.lmpOn = true ∧ s.w.grState n = 2 ∧ (tblGet s.dev.lmp.raised n).getD 0 + 1000000000 * s.reg (LMP_GR0_hold_s
    (n - 1)) ≤ s.upAt t then 0 else s.w.grState n)) ∧
  (∀ (s : State) (n t : Nat) (k : Track), n < 1024 ∧ tblGet s.dev.lmp.tracks n = some k → ∃ u, exec (.trackExpire n
    t) s = .next u ∧ tblGet u.dev.lmp.tracks n = (if s.w.lmpOn = true ∧ k.born + 1000000000 * max 1 (s.reg
    LMP_TRACK_CFG_track_max_s) < s.upAt t then none else some k)) ∧
  (∀ (s : State) (n t : Nat), n < 1024 ∧ tblGet s.dev.lmp.tracks n = none → ∃ u, exec (.trackExpire n t) s = .next
    u ∧ u.dev.lmp = s.dev.lmp) ∧
  (∀ (s : State) (v : W32), s.lanes ∧ s.dev.pat.active.hasEngine 5 = true → ∃ u, exec (.lmpCtrlWrite v) s = .next u
    ∧ u.reg LMP_CTRL_enable = v.toNat % 2 ∧ u.reg LMP_CTRL_lift_enable = v.toNat / 2 % 2 ∧ u.reg
    LMP_CTRL_grid_enable = v.toNat / 4 % 2 ∧ (v.toNat / 4 % 2 = 0 → u.w.grLive = [])) ∧
  (∀ (s : State) (i n : Nat) (v : W32), s.lanes ∧ i < 16384 ∧ n < 16384 ∧ s.dev.pat.active.hasEngine 5 = false → ∀
    c ∈ [Instr.lmpInject v, .loadAll, .loadOne i, .grRelease n, .stageClear, .lmpCtrlWrite v], ∃ u, exec c s =
    .next u ∧ u.dev.lmp = s.dev.lmp ∧ u.dev.regs = s.dev.regs)

/-- BEACON_BOUNDARY of a boundary not past: a radio on begins superframe n, serves, and runs unless a standby or
  before the end of a takeover's wait; one that runs and has a key and counter left has broadcast its beacon first;
  one off only counts it; without plan, clock or service it stops. SLOT_START: in slots 0, 4, ... 60 a running
  radio with a grid state to repeat broadcasts it and counts the repeat; another slot of these or a downlink slot
  is a downlink of its content as it stands 150 µs after its start; in a roll-call slot of a serving radio a mark
  above the threshold of an enabled lantern has it heard; a contention slot, and any but a roll call of a radio
  that does not run, sends nothing. RADIO_FRAME_RX of a radio that serves, FCS right, not while it transmits: one
  of a known sender (or extended address) with a key and its MIC, its counter above the last of its key, is
  accepted: counted, counter and MIC kept for an entry; with an equal counter and the MIC of the last frame it is a
  retry, counted, and no counter changes; else a replay, counted with its event; without sender, key or MIC its
  authentication fails, counted with its event. Any other frame is none. IMM_ACK_RX of the frame awaited ends it
  and its lantern is PRESENT; another does nothing. A grid state at the head of the radio MAC queue is kept, and
  its repeats are due on each radio of the plan. An order record there adds its commands to each radio, with
  order_late where the beacon of its time has passed its cutoff. What a clause says beyond the rules cited is the
  model's own convention: log entries 3, 4, 57 to 59, 61, 63 and 142. -/
def Obligations.RadioAir : Prop :=
  (∀ (s : State) (r n : Nat), r < 4 ∧ s.w.radOn r = true ∧ (s.w.radio r).fired.all (fun f => decide (f < n)) = true
    → ∃ u, exec (.beaconBoundary r n) s = .next u ∧ (u.w.radio r).sf = n ∧ (u.w.radio r).fired = some n ∧
    (u.w.radio r).serving = true ∧ (u.w.radio r).running = (!s.w.isStandby && decide (s.dev.rad.holdUp ≤ s.upAt
    (s.w.boundary r n)))) ∧
  (∀ (s : State) (r n : Nat), r < 4 ∧ s.w.radSends r = true ∧ (s.w.radio r).fired.all (fun f => decide (f < n)) =
    true ∧ s.dev.rad.holdUp ≤ s.upAt (s.w.boundary r n) ∧ s.w.canSend r = true → ∃ u, exec (.beaconBoundary r n) s
    = .next u ∧ u.dev.rad.air.any (fun f => f.radio == r && f.dst == 0xFFFF && f.payload.head? == some 1 && f.ctr
    == (s.w.radio r).ctr.getD (s.w.txIdx r) 0) = true) ∧
  (∀ (s : State) (r n : Nat), r < 4 ∧ s.w.radOn r = false → ∃ u, exec (.beaconBoundary r n) s = .next u ∧ if
    s.w.loom = false ∨ s.w.radItem r = none ∨ s.w.gated 0xB = true then (u.w.radio r).running = false ∧ (u.w.radio
    r).serving = false else if (s.w.radio r).fired.all (fun f => decide (f < n)) = true then (u.w.radio r).running
    = false ∧ (u.w.radio r).sf = n ∧ (u.w.radio r).fired = some n else u.w.radio r = s.w.radio r) ∧
  (∀ (s : State) (r n : Nat), r < 4 ∧ s.w.radOn r = true ∧ (s.w.radio r).fired.any (fun f => decide (n ≤ f)) = true
    → ∃ u, exec (.beaconBoundary r n) s = .next u ∧ u.dev.rad = s.dev.rad) ∧
  (∀ (s : State) (r k : Nat) (marks : List (Nat × Int)), r < 4 ∧ 0 < k ∧ k < 64 ∧ marks.all (fun m => m.1 < 474) =
    true ∧ k % 4 = 0 ∧ s.w.slotCode r k ≠ 2 ∧ s.w.radSends r = true ∧ (s.w.radio r).running = true ∧ (s.w.radio
    r).urgent ≠ 0 ∧ s.dev.rad.grid ≠ [] → ∃ u, exec (.slotStart r k marks) s = .next u ∧ (u.w.radio r).urgent =
    (s.w.radio r).urgent - 1 ∧ (s.w.canSend r = true → (u.dev.rad.air.head?).map (fun f => (f.radio, f.dst,
    f.payload.head?)) = some (r, 0xFFFF, some 2))) ∧
  (∀ (s : State) (r k : Nat) (marks : List (Nat × Int)), r < 4 ∧ 0 < k ∧ k < 64 ∧ marks.all (fun m => m.1 < 474) =
    true ∧ s.w.radSends r = true ∧ (s.w.radio r).running = true ∧ s.w.slotCode r k ≠ 2 ∧ (if k % 4 = 0 then
    (s.w.radio r).urgent = 0 ∨ s.dev.rad.grid = [] else s.w.slotCode r k = 0) → ∃ u, exec (.slotStart r k marks) s
    = .next u ∧ u.dev.rad = ((s.w.at_ (s.w.boundary r (s.w.radio r).sf + k * 10000000 + cutoff)).downlink r k).rad) ∧
  (∀ (s : State) (r k m g j : Nat) (p : Int) (marks : List (Nat × Int)), r < 4 ∧ 0 < k ∧ k < 64 ∧ marks = [(m, p)]
    ∧ m < 474 ∧ k % 4 ≠ 0 ∧ s.w.radOn r = true ∧ (s.w.radio r).serving = true ∧ s.w.slotCode r k = 2 ∧ j = ((upTo
    k).filter (fun i => s.w.slotCode r i == 2)).length ∧ g = s.w.lanFirst r + (474 * j + m) ∧ 474 * j + m <
    s.w.lanCount r ∧ sgn 8 (s.reg (RAD_RCTRL_roll_thr r)) < p ∧ s.w.isEnabled g = true ∧ lanKind (s.w.lan g) = 1 →
    ∃ u, exec (.slotStart r k marks) s = .next u ∧ tblGet u.dev.rad.heard g = some (s.w.radio r).sf ∧ u.w.stateOf g
    = (if s.w.stateOf g = 4 then 3 else s.w.stateOf g)) ∧
  (∀ (s : State) (r k : Nat) (marks : List (Nat × Int)), r < 4 ∧ 0 < k ∧ k < 64 ∧ marks.all (fun m => m.1 < 474) =
    true ∧ ((k % 4 ≠ 0 ∧ s.w.slotCode r k = 1) ∨ (s.w.slotCode r k ≠ 2 ∧ (s.w.radSends r = false ∨ (s.w.radio
    r).running = false))) → ∃ u, exec (.slotStart r k marks) s = .next u ∧ u.dev.rad = s.dev.rad) ∧
  (∀ (s : State) (f : RadioFrame) (t snd : Nat) (key hd : List Byte), f.radio < 4 ∧ f.seq < 256 ∧ f.ctr < 2 ^ 32 ∧
    f.rssi < 256 ∧ f.lqi < 256 ∧ s.w.radOn f.radio = true ∧ (s.w.radio f.radio).serving = true ∧ hd = macHeader
    f.ack false f.ext f.seq (s.w.radPan f.radio) 0 f.src f.ctr f.key ∧ f.fcs = crc32 (hd ++ f.cipher ++ f.mic) ∧
    (s.w.at_ t).talking f.radio (airUs (s.w.radMode f.radio) (W.psduOf f)) = false ∧ (f.ext = true ∨
    (s.w.senderEntry f).isSome = true) ∧ (f.key = 1 ∨ f.key = 2) ∧ snd = ((s.w.senderEntry f).map (fun g => lanExt
    (s.w.lan g))).getD f.src ∧ s.w.radKey f.radio (f.key - 1) = some key ∧ ccmTag (aesKeys key) 4 (macNonce snd
    f.ctr) hd (ccmCrypt (aesKeys key) (macNonce snd f.ctr) f.cipher) = f.mic ∧ (if f.key = 1 then (s.w.ctrRec
    snd).c1 else (s.w.ctrRec snd).c2).all (fun l => decide (l < f.ctr)) = true → ∃ u, exec (.radioFrameRx f t) s =
    .next u ∧ u.reg (RAD_RX_OK_v f.radio) = min (s.reg (RAD_RX_OK_v f.radio) + 1) (2 ^ 32 - 1) ∧ ((s.w.senderEntry
    f).isSome = true → (if f.key = 1 then (u.w.ctrRec snd).c1 else (u.w.ctrRec snd).c2) = some f.ctr ∧ (u.w.ctrRec
    snd).mic = f.mic)) ∧
  (∀ (s : State) (f : RadioFrame) (t snd l : Nat) (key hd : List Byte), f.radio < 4 ∧ f.seq < 256 ∧ f.ctr < 2 ^ 32
    ∧ f.rssi < 256 ∧ f.lqi < 256 ∧ s.w.radOn f.radio = true ∧ (s.w.radio f.radio).serving = true ∧ hd = macHeader
    f.ack false f.ext f.seq (s.w.radPan f.radio) 0 f.src f.ctr f.key ∧ f.fcs = crc32 (hd ++ f.cipher ++ f.mic) ∧
    (s.w.at_ t).talking f.radio (airUs (s.w.radMode f.radio) (W.psduOf f)) = false ∧ (f.ext = true ∨
    (s.w.senderEntry f).isSome = true) ∧ (f.key = 1 ∨ f.key = 2) ∧ snd = ((s.w.senderEntry f).map (fun g => lanExt
    (s.w.lan g))).getD f.src ∧ s.w.radKey f.radio (f.key - 1) = some key ∧ ccmTag (aesKeys key) 4 (macNonce snd
    f.ctr) hd (ccmCrypt (aesKeys key) (macNonce snd f.ctr) f.cipher) = f.mic ∧ (if f.key = 1 then (s.w.ctrRec
    snd).c1 else (s.w.ctrRec snd).c2) = some l ∧ f.ctr ≤ l → ∃ u, exec (.radioFrameRx f t) s = .next u ∧
    (u.w.ctrRec snd).c1 = (s.w.ctrRec snd).c1 ∧ (u.w.ctrRec snd).c2 = (s.w.ctrRec snd).c2 ∧ (if f.ctr = l ∧
    (s.w.ctrRec snd).mic = f.mic then u.reg (RAD_RETRY_ACK_v f.radio) = min (s.reg (RAD_RETRY_ACK_v f.radio) + 1)
    (2 ^ (RAD_RETRY_ACK_v f.radio).width - 1) else u.reg (RAD_REPLAY_v f.radio) = min (s.reg (RAD_REPLAY_v f.radio)
    + 1) (2 ^ (RAD_REPLAY_v f.radio).width - 1) ∧ u.bitOf RAD_EVENT_replay = true)) ∧
  (∀ (s : State) (f : RadioFrame) (t : Nat) (hd : List Byte), f.radio < 4 ∧ f.seq < 256 ∧ f.ctr < 2 ^ 32 ∧ f.rssi <
    256 ∧ f.lqi < 256 ∧ s.w.radOn f.radio = true ∧ (s.w.radio f.radio).serving = true ∧ hd = macHeader f.ack false
    f.ext f.seq (s.w.radPan f.radio) 0 f.src f.ctr f.key ∧ f.fcs = crc32 (hd ++ f.cipher ++ f.mic) ∧ (s.w.at_
    t).talking f.radio (airUs (s.w.radMode f.radio) (W.psduOf f)) = false ∧ ((f.ext = false ∧ s.w.senderEntry f =
    none) ∨ (f.key ≠ 1 ∧ f.key ≠ 2) ∨ s.w.radKey f.radio (f.key - 1) = none ∨ (s.w.radKey f.radio (f.key - 1)).any
    (fun key => ccmTag (aesKeys key) 4 (macNonce (((s.w.senderEntry f).map (fun g => lanExt (s.w.lan g))).getD
    f.src) f.ctr) hd (ccmCrypt (aesKeys key) (macNonce (((s.w.senderEntry f).map (fun g => lanExt (s.w.lan
    g))).getD f.src) f.ctr) f.cipher) != f.mic) = true) → ∃ u, exec (.radioFrameRx f t) s = .next u ∧ u.reg
    (RAD_AUTH_FAIL_v f.radio) = min (s.reg (RAD_AUTH_FAIL_v f.radio) + 1) (2 ^ (RAD_AUTH_FAIL_v f.radio).width - 1)
    ∧ u.bitOf RAD_EVENT_auth_fail = true ∧ u.dev.rad.ctrs = s.dev.rad.ctrs) ∧
  (∀ (s : State) (f : RadioFrame) (t : Nat), f.radio < 4 ∧ f.seq < 256 ∧ f.ctr < 2 ^ 32 ∧ f.rssi < 256 ∧ f.lqi <
    256 ∧ (s.w.radOn f.radio = false ∨ (s.w.radio f.radio).serving = false ∨ f.fcs ≠ crc32 (macHeader f.ack false
    f.ext f.seq (s.w.radPan f.radio) 0 f.src f.ctr f.key ++ f.cipher ++ f.mic) ∨ (s.w.at_ t).talking f.radio (airUs
    (s.w.radMode f.radio) (W.psduOf f)) = true) → ∃ u, exec (.radioFrameRx f t) s = .next u ∧ u.dev.rad =
    s.dev.rad) ∧
  (∀ (s : State) (r seq t : Nat) (x : Unicast) (rest : List Unicast) (f : AirFrame), r < 4 ∧ (s.w.radio r).uni = x
    :: rest ∧ x.sent = some f → ∃ u, exec (.immAckRx r seq t) s = .next u ∧ if s.w.radOn r = true ∧ (s.w.radio
    r).serving = true ∧ f.seq = seq ∧ (s.w.at_ t).talking r (airUs (s.w.radMode r) 7) = false then (u.w.radio
    r).uni = rest ∧ tblGet u.dev.rad.frameUp x.entry = some (s.upAt t) ∧ u.w.stateOf x.entry = 3 else u.dev.rad =
    s.dev.rad) ∧
  (∀ (s : State) (r seq t : Nat), r < 4 ∧ (s.w.radio r).uni.head?.all (fun x => x.sent.isNone) = true → ∃ u, exec
    (.immAckRx r seq t) s = .next u ∧ u.dev.rad = s.dev.rad) ∧
  (∀ (s : State) (t : Nat) (q : QUnit) (b : List Byte), s.w.loom = true ∧ (s.w.at_ t).lmpFlush.headOf 0xA 0xB =
    some q ∧ q.body = .bytes b ∧ le b 0 1 = 0x31 → ∃ u, exec (.gridStateTake t) s = .next u ∧ u.dev.rad.grid = b ∧
    ∀ r ∈ s.w.radList, (u.w.radio r).urgent = max 1 (s.reg RAD_CTRL_urgent_repeat)) ∧
  (∀ (s : State) (t : Nat) (q : QUnit) (b : List Byte), s.w.loom = true ∧ (s.w.at_ t).lmpFlush.headOf 0xA 0xB =
    some q ∧ q.body = .bytes b ∧ le b 0 1 = 0x32 → ∃ u, exec (.orderRecord t) s = .next u ∧ (∀ r ∈ s.w.radList,
    (u.w.radio r).cmds = (s.w.radio r).cmds ++ (upTo (min 12 (le b 1 1))).map (fun k => (le b 8 8, le b (16 + 4 *
    k) 4))) ∧ u.bitOf RAD_EVENT_order_late = (s.bitOf RAD_EVENT_order_late || s.w.radList.any (fun r =>
    s.w.radSends r && decide (s.w.boundary r (s.w.nActOf r (le b 8 8)) + cutoff < s.nsAt t)))) ∧
  (∀ (s : State) (t : Nat), s.w.loom = false ∨ (s.w.at_ t).lmpFlush.headOf 0xA 0xB = none → ∃ u, exec
    (.gridStateTake t) s = .next u ∧ u.dev.rad = s.dev.rad) ∧
  (∀ (s : State) (t : Nat), s.w.loom = false ∨ (s.w.at_ t).lmpFlush.headOf 0xA 0xB = none → ∃ u, exec (.orderRecord
    t) s = .next u ∧ u.dev.rad = s.dev.rad)

/-- In a pattern with a radio plan, CLK_RAD on, for an index of the table: INVALIDATE drops the cached entry, an
  enabled lantern that is PRESENT getting an assign frame; ENABLE reads it anew and enables it where R252's checks
  find nothing, else answers the first failure; DISABLE ends it in state DISABLED with its assign frames dropped;
  FLUSH writes a dirty state half back to memory; of another it changes none; CLEAR sets its counters, bytes 92 to
  111, to 0; RESET_CTR forgets the counter record of its address, and bytes 80 to 91 become 0. An index beyond the
  table answers 1 and changes no entry; without a plan or with CLK_RAD off a command does nothing. What a clause
  says beyond the rules cited is the model's own convention: log entries 3, 4, 62, 64 and 65. -/
def Obligations.RadioTable : Prop :=
  (∀ (s : State) (g : Nat), s.lanes ∧ g < 16384 ∧ s.dev.pat.active.radios.isSome = true ∧ s.w.gated 0xB = false ∧ g
    < s.w.lanSum → ∃ u, exec (.radInvalidate g) s = .next u ∧ u.reg RAD_CMD_STATUS_done = 1 ∧ u.reg
    RAD_CMD_STATUS_result = 0 ∧ (if s.w.isEnabled g = true ∧ lanKind (s.w.lan g) = 1 ∧ s.w.stateOf g = 3 then
    (u.w.radio (s.w.lanRadio g)).uni.contains ⟨g, false, none, 0⟩ = true else tblGet u.dev.rad.cache g = none)) ∧
  (∀ (s : State) (g : Nat), s.lanes ∧ g < 16384 ∧ s.dev.pat.active.radios.isSome = true ∧ s.w.gated 0xB = false ∧ g
    < s.w.lanSum → ∃ u, exec (.radEnable g) s = .next u ∧ u.reg RAD_CMD_STATUS_done = 1 ∧ u.reg
    RAD_CMD_STATUS_result = (s.w.lanDrop g).enableCheck g ((s.w.lanDrop g).lan g) ∧ (if (s.w.lanDrop g).enableCheck
    g ((s.w.lanDrop g).lan g) = 0 then u.w.isEnabled g = true ∧ u.w.stateOf g = 1 else u.dev.rad.enabled =
    s.dev.rad.enabled ∧ u.bitOf RAD_EVENT_entry_fault = true)) ∧
  (∀ (s : State) (g : Nat), s.lanes ∧ g < 16384 ∧ s.dev.pat.active.radios.isSome = true ∧ s.w.gated 0xB = false ∧ g
    < s.w.lanSum → ∃ u, exec (.radDisable g) s = .next u ∧ u.w.isEnabled g = false ∧ u.w.stateOf g = 5 ∧ (u.w.radio
    (s.w.lanRadio g)).uni.all (fun x => x.entry != g) = true ∧ u.reg RAD_CMD_STATUS_done = 1 ∧ u.reg
    RAD_CMD_STATUS_result = 0) ∧
  (∀ (s : State) (g m : Nat) (l : CacheLine), s.lanes ∧ g < 16384 ∧ s.dev.pat.active.radios.isSome = true ∧
    s.w.gated 0xB = false ∧ g < s.w.lanSum ∧ tblGet s.dev.rad.cache g = some l ∧ l.dirty = some m → ∃ u, exec
    (.radFlush g) s = .next u ∧ tblGet u.dev.rad.cache g = some { l with dirty := none } ∧ (upTo (l.bytes.length -
    72)).map (fun k => u.mem.rd (s.w.lanAddr g + 72 + k)) = l.bytes.drop 72 ∧ u.reg RAD_CMD_STATUS_done = 1 ∧ u.reg
    RAD_CMD_STATUS_result = 0) ∧
  (∀ (s : State) (g : Nat), s.lanes ∧ g < 16384 ∧ s.dev.pat.active.radios.isSome = true ∧ s.w.gated 0xB = false ∧ g
    < s.w.lanSum ∧ (tblGet s.dev.rad.cache g).all (fun l => l.dirty.isNone) = true → ∃ u, exec (.radFlush g) s =
    .next u ∧ u.dev.rad = s.dev.rad ∧ u.mem = s.mem ∧ u.reg RAD_CMD_STATUS_done = 1 ∧ u.reg RAD_CMD_STATUS_result =
    0) ∧
  (∀ (s : State) (g : Nat), s.lanes ∧ g < 16384 ∧ s.dev.pat.active.radios.isSome = true ∧ s.w.gated 0xB = false ∧ g
    < s.w.lanSum → ∃ u, exec (.radClear g) s = .next u ∧ u.w.lan g = patch (s.w.lan g) 92 (List.replicate 20 0) ∧
    u.reg RAD_CMD_STATUS_done = 1 ∧ u.reg RAD_CMD_STATUS_result = 0) ∧
  (∀ (s : State) (g : Nat), s.lanes ∧ g < 16384 ∧ s.dev.pat.active.radios.isSome = true ∧ s.w.gated 0xB = false ∧ g
    < s.w.lanSum → ∃ u, exec (.resetCtr g) s = .next u ∧ tblGet u.dev.rad.ctrs (lanExt (s.w.lan g)) = none ∧
    u.w.lan g = patch (s.w.lan g) 80 (List.replicate 12 0) ∧ u.reg RAD_CMD_STATUS_done = 1 ∧ u.reg
    RAD_CMD_STATUS_result = 0) ∧
  (∀ (s : State) (g : Nat), s.lanes ∧ g < 16384 ∧ s.dev.pat.active.radios.isSome = true ∧ s.w.gated 0xB = false ∧
    s.w.lanSum ≤ g → ∃ u, exec (.radEnable g) s = .next u ∧ u.reg RAD_CMD_STATUS_done = 1 ∧ u.reg
    RAD_CMD_STATUS_result = 1 ∧ u.dev.rad = s.dev.rad ∧ u.bitOf RAD_EVENT_entry_fault = true) ∧
  (∀ (s : State) (g : Nat), s.lanes ∧ g < 16384 ∧ s.dev.pat.active.radios.isSome = true ∧ s.w.gated 0xB = false ∧
    s.w.lanSum ≤ g → ∀ c ∈ [Instr.radInvalidate g, .radDisable g, .radFlush g, .radClear g, .resetCtr g, .wake g],
    ∃ u, exec c s = .next u ∧ u.reg RAD_CMD_STATUS_done = 1 ∧ u.reg RAD_CMD_STATUS_result = 1 ∧ u.dev.rad =
    s.dev.rad) ∧
  (∀ (s : State) (g : Nat), s.lanes ∧ g < 16384 ∧ (s.dev.pat.active.radios = none ∨ s.w.gated 0xB = true) → ∀ c ∈
    [Instr.radInvalidate g, .radEnable g, .radDisable g, .radFlush g, .radClear g, .resetCtr g, .wake g, .wakeAddr,
    .schedChanged], ∃ u, exec c s = .next u ∧ u.dev.rad = s.dev.rad ∧ u.dev.regs = s.dev.regs)

/-- In a pattern with a radio plan, CLK_RAD on, for an index of the table: WAKE queues its wake address with its
  repeats, result 0; a frequency outside the band or an address 0 answers 4, a full queue of 16 answers 5.
  WAKE_ADDR does the same with the address in RAD_CMD_ARG; SCHED_CHANGED raises cfg_seq. WAKE_PATTERN_DONE, with
  wakes enabled on a serving module that is no standby, counts and records the first queued pattern and takes one
  repeat from it; with none queued it does nothing. NODE_TIMEOUT makes an enabled node that is PRESENT and has been
  silent for its time SILENT, with the event, and changes no other. RAD_WRITEBACK writes a dirty state half back to
  memory while the main domain has power; of another entry it writes nothing. SCHED_TIMER makes a radio's programme
  copies due when cfg_seq has changed or sched_s has passed, and leaves its time otherwise. What a clause says
  beyond the rules cited is the model's own convention: log entries 3, 4, 59 and 60. -/
def Obligations.RadioTimes : Prop :=
  (∀ (s : State) (g : Nat), s.lanes ∧ g < 16384 ∧ s.dev.pat.active.radios.isSome = true ∧ s.w.gated 0xB = false ∧ g
    < s.w.lanSum → ∃ u, exec (.wake g) s = .next u ∧ u.reg RAD_CMD_STATUS_done = 1 ∧ (if (if
    (s.dev.pat.active.radios.getD []).head?.any (fun b => le b 1 1 != 0) = true then 902000 ≤ s.reg
    RAD_WAKE_CFG_freq_khz ∧ s.reg RAD_WAKE_CFG_freq_khz ≤ 928000 else 863000 ≤ s.reg RAD_WAKE_CFG_freq_khz ∧ s.reg
    RAD_WAKE_CFG_freq_khz ≤ 870000) ∧ le (s.w.lan g) 12 2 ≠ 0 then (if s.dev.rad.wake.length < 16 then
    u.dev.rad.wake = s.dev.rad.wake ++ [(le (s.w.lan g) 12 2, max 1 (s.reg RAD_WAKE_CFG_repeat))] ∧ u.reg
    RAD_CMD_STATUS_result = 0 else u.dev.rad.wake = s.dev.rad.wake ∧ u.reg RAD_CMD_STATUS_result = 5) else
    u.dev.rad.wake = s.dev.rad.wake ∧ u.reg RAD_CMD_STATUS_result = 4)) ∧
  (∀ (s : State), s.lanes ∧ s.dev.pat.active.radios.isSome = true ∧ s.w.gated 0xB = false → ∃ u, exec .wakeAddr s =
    .next u ∧ u.reg RAD_CMD_STATUS_done = 1 ∧ (if (if (s.dev.pat.active.radios.getD []).head?.any (fun b => le b 1
    1 != 0) = true then 902000 ≤ s.reg RAD_WAKE_CFG_freq_khz ∧ s.reg RAD_WAKE_CFG_freq_khz ≤ 928000 else 863000 ≤
    s.reg RAD_WAKE_CFG_freq_khz ∧ s.reg RAD_WAKE_CFG_freq_khz ≤ 870000) ∧ s.reg RAD_CMD_ARG_v % 2 ^ 16 ≠ 0 then (if
    s.dev.rad.wake.length < 16 then u.dev.rad.wake = s.dev.rad.wake ++ [(s.reg RAD_CMD_ARG_v % 2 ^ 16, max 1 (s.reg
    RAD_WAKE_CFG_repeat))] ∧ u.reg RAD_CMD_STATUS_result = 0 else u.dev.rad.wake = s.dev.rad.wake ∧ u.reg
    RAD_CMD_STATUS_result = 5) else u.dev.rad.wake = s.dev.rad.wake ∧ u.reg RAD_CMD_STATUS_result = 4)) ∧
  (∀ (s : State), s.lanes ∧ s.dev.pat.active.radios.isSome = true ∧ s.w.gated 0xB = false → ∃ u, exec .schedChanged
    s = .next u ∧ u.dev.rad.cfgSeq = (s.dev.rad.cfgSeq + 1) % 2 ^ 16 ∧ u.reg RAD_CMD_STATUS_done = 1 ∧ u.reg
    RAD_CMD_STATUS_result = 0) ∧
  (∀ (s : State) (t a n : Nat) (rest : List (Nat × Nat)), s.dev.rad.wake = (a, n) :: rest → ∃ u, exec
    (.wakePatternDone t) s = .next u ∧ if s.w.loom = true ∧ s.bitOf RAD_WAKE_CFG_enable = true ∧ s.w.isStandby =
    false ∧ s.w.gated 0xB = false then u.dev.rad.wake = (if n ≤ 1 then rest else (a, n - 1) :: rest) ∧
    u.dev.rad.woke = W.wakePattern a :: s.dev.rad.woke ∧ u.reg RAD_WAKE_SENT_v = min (s.reg RAD_WAKE_SENT_v + 1) (2
    ^ 32 - 1) else u.dev.rad = s.dev.rad) ∧
  (∀ (s : State) (t : Nat), s.dev.rad.wake = [] → ∃ u, exec (.wakePatternDone t) s = .next u ∧ u.dev.rad =
    s.dev.rad ∧ u.reg RAD_WAKE_SENT_v = s.reg RAD_WAKE_SENT_v) ∧
  (∀ (s : State) (g t : Nat), g < 16384 → ∃ u, exec (.nodeTimeout g t) s = .next u ∧ if s.w.radOn (s.w.lanRadio g)
    = true ∧ s.w.isEnabled g = true ∧ lanKind (s.w.lan g) = 2 ∧ lanState (s.w.lan g) = 3 ∧ le (s.w.lan g) 14 2 *
    1000000000 ≤ s.upAt t - (tblGet s.dev.rad.frameUp g).getD 0 then u.w.stateOf g = 4 ∧ u.bitOf RAD_EVENT_silent =
    true else u.dev.rad = s.dev.rad) ∧
  (∀ (s : State) (g t m : Nat) (l : CacheLine), g < 16384 ∧ s.w.mainOn = true ∧ tblGet s.dev.rad.cache g = some l ∧
    l.dirty = some m → ∃ u, exec (.radWriteback g t) s = .next u ∧ tblGet u.dev.rad.cache g = some
    { l with dirty := none } ∧ (upTo (l.bytes.length - 72)).map (fun k => u.mem.rd (s.w.lanAddr g + 72 + k)) =
    l.bytes.drop 72) ∧
  (∀ (s : State) (g t : Nat), g < 16384 ∧ (s.w.mainOn = false ∨ (tblGet s.dev.rad.cache g).all (fun l =>
    l.dirty.isNone) = true) → ∃ u, exec (.radWriteback g t) s = .next u ∧ u.dev.rad = s.dev.rad ∧ u.mem = s.mem) ∧
  (∀ (s : State) (t r : Nat), s.w.radList.contains r = true → ∃ u, exec (.schedTimer t) s = .next u ∧ if s.w.radOn
    r = true ∧ ((s.w.radio r).cfg ≠ s.dev.rad.cfgSeq ∨ (s.w.radio r).schedUp + max 1 (s.reg RAD_CTRL_sched_s) *
    1000000000 ≤ s.upAt t) then (u.w.radio r).cfg = s.dev.rad.cfgSeq ∧ (u.w.radio r).schedUp = s.upAt t ∧
    (u.w.radio r).copies = (upTo 64).filter (fun p => (((upTo (s.w.lanCount r)).map (· + s.w.lanFirst r)).filter
    (fun g => s.w.takes g)).any (fun g => s.w.programmeOf g == some p)) else u.w.radio r = s.w.radio r)

/-- In a pattern with a radio plan, no STORE running: STORE of a block that passes the checks of R257 begins; else
  it answers the code of the first that fails. STORE_DONE gives the slot the image and a new generation with result
  0, or, the flash failing, answers 9; with none running it does nothing. ERASE empties a slot that neither the
  campaign nor an armed activation uses, else answers 5. START begins SEND, round 0, of a full slot's image (with
  no radio POLL at once), clearing the progress table; a running campaign answers 8, an empty slot 2. STOP ends a
  running campaign, a DONE announce being owed on its radios; with none it does nothing. ACTIVATE of a slot that
  has been through a campaign arms it at its instant; one less than 2.56 s ahead or no valid stamp answers 6,
  another slot 7. CANCEL_ACT disarms an armed activation, and changes nothing else. While a STORE runs each of
  these commands answers 8, without a radio plan it does nothing. PEDLAR_REPORT takes a report at the head of the
  Pedlar queue, of the campaign's image with a status up to 8: it is its entry's status and stands in the progress
  table; any other report changes no campaign. POLL_END, poll_sf superframes past on every radio: the campaign is
  DONE where every target is well or the rounds are spent, else REPAIR begins the next round; before that it does
  nothing. What a clause says beyond the rules cited is the model's own convention: log entries 3, 4, 66 to 70. -/
def Obligations.PedlarCommands : Prop :=
  (∀ (s : State) (slot : Nat), s.lanes ∧ slot < 8 ∧ s.w.fltHere = true ∧ s.dev.flt.storing = none → ∃ u, exec
    (.store slot) s = .next u ∧ if (s.w.storeCheck slot).toOption.isSome = true then u.dev.flt.storing =
    (s.w.storeCheck slot).toOption.map (fun x => (slot, x)) ∧ u.reg FLT_CMD_STATUS_busy = 1 else u.dev.flt =
    s.dev.flt ∧ u.reg FLT_CMD_STATUS_done = 1 ∧ u.reg FLT_CMD_STATUS_result =
    (match s.w.storeCheck slot with | .error e => e % 16 | .ok _ => 0)) ∧
  (∀ (s : State) (t slot : Nat) (x : FlashSlot) (ok : Bool), s.dev.flt.storing = some (slot, x) → ∃ u, exec
    (.storeDone ok t) s = .next u ∧ u.dev.flt.storing = none ∧ u.reg FLT_CMD_STATUS_busy = 0 ∧ u.reg
    FLT_CMD_STATUS_done = 1 ∧ (if ok then u.w.fltSlot slot = some x ∧ u.w.imageId slot = slot + 8 * (((tblGet
    s.dev.flt.gens slot).getD 0 + 1) % 8192) ∧ u.reg FLT_CMD_STATUS_result = 0 ∧ u.bitOf FLT_EVENT_stored = true
    else u.dev.flt.slots = s.dev.flt.slots ∧ u.reg FLT_CMD_STATUS_result = 9)) ∧
  (∀ (s : State) (t : Nat) (ok : Bool), s.dev.flt.storing = none → ∃ u, exec (.storeDone ok t) s = .next u ∧
    u.dev.flt = s.dev.flt) ∧
  (∀ (s : State) (slot : Nat), s.lanes ∧ slot < 8 ∧ s.w.fltHere = true ∧ s.dev.flt.storing = none → ∃ u, exec
    (.erase slot) s = .next u ∧ u.reg FLT_CMD_STATUS_done = 1 ∧ (if s.w.slotBusy slot then u.dev.flt = s.dev.flt ∧
    u.reg FLT_CMD_STATUS_result = 5 else u.w.fltSlot slot = none ∧ u.reg FLT_CMD_STATUS_result = 0)) ∧
  (∀ (s : State) (slot : Nat), s.lanes ∧ slot < 8 ∧ s.w.fltHere = true ∧ s.dev.flt.storing = none → ∃ u, exec
    (.start slot) s = .next u ∧ u.reg FLT_CMD_STATUS_done = 1 ∧ (if s.w.campRuns = true ∨ s.w.fltSlot slot = none
    then u.dev.flt = s.dev.flt ∧ u.reg FLT_CMD_STATUS_result = (if s.w.campRuns then 8 else 2) else
    u.dev.flt.camp.map (fun c => (c.slot, c.id, c.phase, c.round)) = some (slot, s.w.imageId slot, (if
    s.w.radList.any (fun r => tst (s.reg FLT_CAMP_CFG_radios) r) then 1 else 2), 0) ∧ u.reg FLT_CMD_STATUS_result =
    0 ∧ (u.w.fltSlot slot).map (·.campaigned) = some true)) ∧
  (∀ (s : State), s.lanes ∧ s.w.fltHere = true ∧ s.dev.flt.storing = none → ∃ u, exec .stop s = .next u ∧ u.reg
    FLT_CMD_STATUS_done = 1 ∧ u.reg FLT_CMD_STATUS_result = 0 ∧ (if s.w.campRuns then u.dev.flt.camp =
    s.dev.flt.camp.map (fun c => { c with phase := 0 }) ∧ s.dev.flt.camp.all (fun c => c.prog.all (fun p =>
    u.dev.flt.owedDone.contains (p.1, c.slot))) = true else u.dev.flt = s.dev.flt)) ∧
  (∀ (s : State) (slot T : Nat), s.lanes ∧ slot < 8 ∧ s.w.fltHere = true ∧ s.dev.flt.storing = none ∧ T = (s.reg
    FLT_ACT_SEC_LO_v + 2 ^ 32 * s.reg FLT_ACT_SEC_HI_v) * 1000000000 + s.reg FLT_ACT_NS_v → ∃ u, exec (.activate
    slot) s = .next u ∧ u.reg FLT_CMD_STATUS_done = 1 ∧ (if 999999999 < s.reg FLT_ACT_NS_v ∨ T < s.ns + 2560000000
    then u.dev.flt = s.dev.flt ∧ u.reg FLT_CMD_STATUS_result = 6 else if (s.w.fltSlot slot).any (·.campaigned) =
    false then u.dev.flt = s.dev.flt ∧ u.reg FLT_CMD_STATUS_result = 7 else u.dev.flt.act.map (fun a => (a.slot,
    a.id, a.instant, a.armed)) = some (slot, s.w.imageId slot, T, true) ∧ u.dev.flt.act.map (·.nAct) = some
    (s.w.radList.map (fun r => (r, s.w.nActOf r T))) ∧ u.reg FLT_STATUS_armed = 1 ∧ u.reg FLT_CMD_STATUS_result =
    0)) ∧
  (∀ (s : State), s.lanes ∧ s.w.fltHere = true ∧ s.dev.flt.storing = none → ∃ u, exec .cancelAct s = .next u ∧
    u.reg FLT_CMD_STATUS_done = 1 ∧ u.reg FLT_CMD_STATUS_result = 0 ∧ (if s.dev.flt.act.any (·.armed) = true then
    u.dev.flt.act = none ∧ u.reg FLT_STATUS_armed = 0 ∧ u.dev.flt.camp = s.dev.flt.camp else u.dev.flt =
    s.dev.flt)) ∧
  (∀ (s : State) (slot : Nat), s.lanes ∧ slot < 8 ∧ (s.dev.flt.storing.isSome = true ∨ s.w.fltHere = false) → ∀ c ∈
    [Instr.store slot, .erase slot, .start slot, .stop, .activate slot, .cancelAct], ∃ u, exec c s = .next u ∧
    u.dev.flt = s.dev.flt ∧ (if s.w.fltHere then u.reg FLT_CMD_STATUS_done = 1 ∧ u.reg FLT_CMD_STATUS_result = 8
    else u.dev.regs = s.dev.regs)) ∧
  (∀ (s : State) (t : Nat) (q : QUnit) (b : List Byte) (c : Campaign), s.w.loom = true ∧ s.w.fltHere = true ∧
    s.w.isStandby = false ∧ (s.w.at_ t).radFlush.headOf 0xB 0xC = some q ∧ q.body = .bytes b ∧ s.dev.flt.camp =
    some c ∧ be (b.drop 24) 2 2 = c.id ∧ be (b.drop 24) 1 1 ≤ 8 → ∃ u, exec (.pedlarReport t) s = .next u ∧
    (u.dev.flt.camp.map (fun c => (tblGet c.status (le b 2 2)).map (fun x => x.1))) = some (some (be (b.drop 24) 1
    1)) ∧ u.mem.rd (s.w.progAddr (le b 2 2)) = BitVec.ofNat 8 (be (b.drop 24) 1 1)) ∧
  (∀ (s : State) (t : Nat) (q : QUnit) (b : List Byte), (s.w.at_ t).radFlush.headOf 0xB 0xC = some q ∧ q.body =
    .bytes b ∧ (s.w.loom = false ∨ s.w.fltHere = false ∨ s.w.isStandby = true ∨ s.dev.flt.camp.all (fun c => be
    (b.drop 24) 2 2 != c.id || decide (8 < be (b.drop 24) 1 1)) = true) → ∃ u, exec (.pedlarReport t) s = .next u ∧
    u.dev.flt = s.dev.flt) ∧
  (∀ (s : State) (t : Nat), (s.w.at_ t).radFlush.headOf 0xB 0xC = none → ∃ u, exec (.pedlarReport t) s = .next u ∧
    u.dev.flt = s.dev.flt) ∧
  (∀ (s : State) (t : Nat) (c : Campaign), s.dev.flt.camp = some c → ∃ u, exec (.pollEnd t) s = .next u ∧ if
    s.w.fltRuns = true ∧ c.phase = 2 ∧ c.prog.all (fun e => e.2.announced.any (fun n => decide (n + c.cfg.pollSf ≤
    (s.w.radio e.1).sf))) = true then u.bitOf FLT_EVENT_phase_done = true ∧ (if c.status.all (fun x => !x.2.2 ||
    x.2.1 == 1 || x.2.1 == 4 || x.2.1 == 5) = true ∨ c.cfg.maxRounds ≤ c.round then u.dev.flt.camp = some
    { c with phase := 4 } ∧ u.bitOf FLT_EVENT_campaign_done = true else u.dev.flt.camp.map (fun d => (d.slot, d.id,
    d.phase, d.round)) = some (c.slot, c.id, 3, c.round + 1)) else u.dev.flt = s.dev.flt) ∧
  (∀ (s : State) (t : Nat), s.dev.flt.camp = none → ∃ u, exec (.pollEnd t) s = .next u ∧ u.dev.flt = s.dev.flt)

/-- CHANDLER_RECORD takes a record at the head of the Chandler queue: it renews the record time, ends the fail
  levels and aims every output of the plan at its level, 0 where the record marks none; with none, or a Chandler
  that does not run, no output changes. REC_TIMEOUT, the time not 0 and past since the last record, aims every
  output at its fail level, once; before that it does nothing. STRING_FAULT of a string in SOFT or RUN, no
  calibration of its set running: FAULT with the cause and a retry more, with the event for cause 1; one running
  ends with result 4. In another state it does nothing. RETRY_EXPIRE, retry_s past in FAULT: with retries left the
  string is SOFT where its drive value is above 0, IDLE where it is 0, OFF without enable; with none left it is
  LATCHED; before that it does nothing. RETRY_COUNT_RESET, 60 s in RUN, clears the retries and nothing before.
  SOFT_START_DONE, the soft start's time past, makes the string RUN and nothing before. CLEAR takes a LATCHED
  string out of LATCHED with no retries, result 0; during a calibration it answers 3, of no string 1.
  STRING_RUN_SECOND counts a second in RUN. What a clause says beyond the rules cited is the model's own
  convention: log entries 3, 4, 71, 72 and 75. -/
def Obligations.ChandlerStrings : Prop :=
  (∀ (s : State) (t : Nat) (q : QUnit) (b : List Byte), s.w.ledOn = true ∧ (s.w.at_ t).lmpFlush.headOf 0xA 0xD =
    some q ∧ q.body = .bytes b → ∃ u, exec (.chandlerRecord t) s = .next u ∧ u.dev.led.recUp = s.upAt t ∧
    u.dev.led.failed = false ∧ ∀ k ∈ s.w.ledStrings ++ s.w.ledPorts.map (fun p => p + 16), (u.w.ledOut k).target =
    (if tst (le b (16 + 2 * k) 2) 15 then le b (16 + 2 * k) 2 % 1024 else 0)) ∧
  (∀ (s : State) (t : Nat), s.w.ledOn = false ∨ (s.w.at_ t).lmpFlush.headOf 0xA 0xD = none → ∃ u, exec
    (.chandlerRecord t) s = .next u ∧ u.dev.led = s.dev.led) ∧
  (∀ (s : State) (t : Nat), ∃ u, exec (.recTimeout t) s = .next u ∧ if s.w.ledOn = true ∧ s.dev.led.failed = false
    ∧ s.reg LED_CTRL_rec_timeout_s ≠ 0 ∧ s.dev.led.recUp + s.reg LED_CTRL_rec_timeout_s * 1000000000 ≤ s.upAt t
    then u.dev.led.failed = true ∧ u.bitOf LED_EVENT_rec_timeout = true ∧ ∀ k ∈ s.w.ledStrings ++ s.w.ledPorts.map
    (fun p => p + 16), (u.w.ledOut k).target = s.w.failLevel k else u.dev.led = s.dev.led) ∧
  (∀ (s : State) (n cause t : Nat), n < 16 ∧ 1 ≤ cause ∧ cause ≤ 4 ∧ s.w.ledOn = true ∧ (s.w.ledItem n).isSome =
    true ∧ ((s.w.ledStr n).state = 2 ∨ (s.w.ledStr n).state = 3) ∧ s.dev.led.cal.all (fun x => s.w.csetOf n != some
    x.1) = true → ∃ u, exec (.stringFault n cause t) s = .next u ∧ u.w.ledStr n = ⟨4, cause, (s.w.ledStr n).retries
    + 1, s.upAt t⟩ ∧ u.reg (LED_STR_STAT_state n) = 4 ∧ (cause = 1 → u.bitOf LED_EVENT_fault = true)) ∧
  (∀ (s : State) (n cause t : Nat), n < 16 ∧ 1 ≤ cause ∧ cause ≤ 4 ∧ s.w.ledOn = true ∧ (s.w.ledItem n).isSome =
    true ∧ ((s.w.ledStr n).state = 2 ∨ (s.w.ledStr n).state = 3) ∧ s.dev.led.cal.any (fun x => s.w.csetOf n == some
    x.1) = true → ∃ u, exec (.stringFault n cause t) s = .next u ∧ u.dev.led.cal = none ∧ u.reg
    LED_CMD_STATUS_result = 4) ∧
  (∀ (s : State) (n cause t : Nat), n < 16 ∧ 1 ≤ cause ∧ cause ≤ 4 ∧ (s.w.ledOn = false ∨ s.w.ledItem n = none ∨
    ((s.w.ledStr n).state ≠ 2 ∧ (s.w.ledStr n).state ≠ 3)) → ∃ u, exec (.stringFault n cause t) s = .next u ∧
    u.dev.led = s.dev.led) ∧
  (∀ (s : State) (n t : Nat), n < 16 → ∃ u, exec (.retryExpire n t) s = .next u ∧ if s.w.ledOn = true ∧ (s.w.ledStr
    n).state = 4 ∧ (s.w.ledStr n).since + max 1 (s.reg LED_CTRL_retry_s) * 1000000000 ≤ s.upAt t then (if
    (s.w.ledStr n).retries ≤ s.reg LED_CTRL_max_retries then (u.w.ledStr n).state = (if s.bitOf LED_CTRL_enable =
    false then 0 else if 0 < (s.w.at_ t).strV n then 2 else 1) ∧ (u.w.ledStr n).since = s.upAt t ∧ (u.w.ledStr
    n).retries = (s.w.ledStr n).retries else (u.w.ledStr n).state = 5 ∧ u.bitOf LED_EVENT_latched = true) else
    u.dev.led = s.dev.led) ∧
  (∀ (s : State) (n t : Nat), n < 16 → ∃ u, exec (.retryCountReset n t) s = .next u ∧ u.w.ledStr n = (if s.w.ledOn
    = true ∧ (s.w.ledStr n).state = 3 ∧ (s.w.ledStr n).since + 60000000000 ≤ s.upAt t then
    { s.w.ledStr n with retries := 0 } else s.w.ledStr n)) ∧
  (∀ (s : State) (n t : Nat), n < 16 → ∃ u, exec (.softStartDone n t) s = .next u ∧ u.w.ledStr n = (if s.w.ledOn =
    true ∧ (s.w.ledStr n).state = 2 ∧ (s.w.ledStr n).since + s.w.softNs ≤ s.upAt t then
    { s.w.ledStr n with state := 3, since := s.upAt t } else s.w.ledStr n)) ∧
  (∀ (s : State) (n : Nat), s.lanes ∧ n < 32 ∧ s.w.ledHere = true → ∃ u, exec (.ledClear n) s = .next u ∧ u.reg
    LED_CMD_STATUS_done = 1 ∧ (if s.dev.led.cal.isSome then u.reg LED_CMD_STATUS_result = 3 ∧ u.dev.led = s.dev.led
    else if 16 ≤ n ∨ s.w.ledItem n = none then u.reg LED_CMD_STATUS_result = 1 ∧ u.dev.led = s.dev.led else u.reg
    LED_CMD_STATUS_result = 0 ∧ (if (s.w.ledStr n).state = 5 then (u.w.ledStr n).state = (if s.bitOf
    LED_CTRL_enable = false then 0 else if 0 < s.w.strV n then 2 else 1) ∧ (u.w.ledStr n).retries = 0 else
    u.dev.led = s.dev.led))) ∧
  (∀ (s : State) (n t : Nat), n < 16 → ∃ u, exec (.stringRunSecond n t) s = .next u ∧ u.reg (LED_STR_ONTIME_v n) =
    (if s.w.ledOn = true ∧ (s.w.ledStr n).state = 3 then min (s.reg (LED_STR_ONTIME_v n) + 1) (2 ^ 32 - 1) else
    s.reg (LED_STR_ONTIME_v n)))

/-- TRIM_UPDATE of a set in mode 1 that is not being calibrated makes the step of R279 for each position from its
  edges; of another it changes no trim. CSET_TEMP_STALE of a set in mode 2 without a temperature for 10 s takes the
  factors of 25 °C, with the event; else nothing. CAL of a set whose sensors are on free inputs starts (busy); one
  running answers 3, a set without strings 1, other pins 5. CAL_DONE, 700 ms after the start, takes both
  frequencies in 10 Hz and trims of 8000H, result 0; before, or with none, it does nothing. A write of
  LED_CURVE_DATA waits for the next update as the selected point, a read answers it, and either steps the
  selection. A write of LED_CTRL sets enable, and enable 0 turns every string of a serving module OFF. GLIDE_UPDATE
  takes the curve points written and moves every glide on by 1 ms; on a Chandler that does not run it does nothing.
  LOAD of a port reads its frame into the back buffer and shifts it; a calibration or a shift that runs answers 3,
  no port 1, a source not aligned or not in memory 2. SHIFT_DONE, the shift's length past, leaves the port
  preloaded with the words of its back buffer in the chain, or latches them where a swap waits; else it does
  nothing. FRAME_SYNC_EDGE on a dedicated pin of a port that swaps on it: a preloaded frame is latched; in a shift
  one swap waits with late_swap; a second one, or nothing preloaded, is swap_empty. What a clause says beyond the
  rules cited is the model's own convention: log entries 3, 4, 71 and 73. -/
def Obligations.ChandlerColourAndMatrix : Prop :=
  (∀ (s : State) (k p t : Nat) (edges : List Nat), k < 4 ∧ p < 4 → ∃ u, exec (.trimUpdate k edges t) s = .next u ∧
    u.reg (LED_CSET_TRIM_factor k p) = (if s.w.ledOn = true ∧ s.reg (LED_CSET_CFG_mode k) = 1 ∧ s.dev.led.cal.all
    (fun x => x.1 != k) = true then ((s.w.at_ t).trimStep k p (edges.getD p 0)).get (LED_CSET_TRIM_factor k p) else
    s.reg (LED_CSET_TRIM_factor k p))) ∧
  (∀ (s : State) (k p t : Nat), k < 4 ∧ p < 4 → ∃ u, exec (.csetTempStale k t) s = .next u ∧ if s.w.ledOn = true ∧
    s.reg (LED_CSET_CFG_mode k) = 2 ∧ (tblGet s.dev.led.tempUp k).getD 0 + 10000000000 ≤ s.upAt t then u.bitOf
    LED_EVENT_temp_stale = true ∧ u.reg (LED_CSET_TRIM_factor k p) = s.w.tempFactor k p 250 % 2 ^
    (LED_CSET_TRIM_factor k p).width else u.dev.led = s.dev.led ∧ u.reg (LED_CSET_TRIM_factor k p) = s.reg
    (LED_CSET_TRIM_factor k p)) ∧
  (∀ (s : State) (k : Nat), s.lanes ∧ k < 32 ∧ s.w.ledHere = true → ∃ u, exec (.cal k) s = .next u ∧ if
    s.dev.led.cal = none ∧ k < 4 ∧ s.w.csetMembers k ≠ [] ∧ (s.w.csetMembers k).all (fun n => s.w.pinFunc
    (s.w.sensorPin k (s.w.colourOf n)) == 4) = true then u.dev.led.cal = some (k, s.dev.tb.up) ∧ u.reg
    LED_CMD_STATUS_busy = 1 else u.dev.led = s.dev.led ∧ u.reg LED_CMD_STATUS_done = 1 ∧ u.reg
    LED_CMD_STATUS_result = (if s.dev.led.cal.isSome then 3 else if 4 ≤ k ∨ s.w.csetMembers k = [] then 1 else 5)) ∧
  (∀ (s : State) (dark ref : List Nat) (t k m : Nat), s.dev.led.cal = some (k, m) → ∃ u, exec (.calDone dark ref t)
    s = .next u ∧ if s.w.ledOn = true ∧ m + 700000000 ≤ s.upAt t then u.dev.led.cal = none ∧ u.reg
    LED_CMD_STATUS_busy = 0 ∧ u.reg LED_CMD_STATUS_done = 1 ∧ u.reg LED_CMD_STATUS_result = 0 ∧ u.bitOf
    LED_EVENT_cal_done = true ∧ ∀ n ∈ s.w.csetMembers k, u.reg (LED_CSET_TRIM_factor k (s.w.colourOf n)) = 0x8000 ∧
    u.reg (LED_CSET_REF_f_dark k (s.w.colourOf n)) = min 0xFFFF (roundDiv (dark.getD (s.w.colourOf n) 0 : Int)
    10).toNat ∧ u.reg (LED_CSET_REF_f_ref k (s.w.colourOf n)) = min 0xFFFF (roundDiv (ref.getD (s.w.colourOf n) 0 :
    Int) 10).toNat else u.dev.led = s.dev.led) ∧
  (∀ (s : State) (dark ref : List Nat) (t : Nat), s.dev.led.cal = none → ∃ u, exec (.calDone dark ref t) s = .next
    u ∧ u.dev.led = s.dev.led) ∧
  (∀ (s : State) (x : W32), s.lanes ∧ s.w.ledHere = true → ∃ u, exec (.curveDataAccess (some x)) s = .next u ∧
    tblGet u.dev.led.newPts (1024 * s.reg LED_CURVE_SEL_table + s.reg LED_CURVE_SEL_point) = some (x.toNat % 65536)
    ∧ u.reg LED_CURVE_SEL_point = (s.reg LED_CURVE_SEL_point + 1) % 1024) ∧
  (∀ (s : State), s.lanes ∧ s.w.ledHere = true → ∃ u, exec (.curveDataAccess none) s = .next u ∧ u.dev.resp = ⟨if
    s.reg LED_CURVE_SEL_point = 0 then 0 else (tblGet s.dev.led.newPts (1024 * s.reg LED_CURVE_SEL_table + s.reg
    LED_CURVE_SEL_point)).getD (s.w.curvePoint (s.reg LED_CURVE_SEL_table) (s.reg LED_CURVE_SEL_point)), false⟩ ∧
    u.reg LED_CURVE_SEL_point = (s.reg LED_CURVE_SEL_point + 1) % 1024) ∧
  (∀ (s : State) (v : W32), s.lanes ∧ s.w.ledHere = true → ∃ u, exec (.ledCtrlWrite v) s = .next u ∧ u.reg
    LED_CTRL_enable = v.toNat % 2 ∧ (s.w.serves = true → v.toNat % 2 = 0 → ∀ n ∈ s.w.ledStrings, (u.w.ledStr
    n).state = 0)) ∧
  (∀ (s : State) (t : Nat), ∃ u, exec (.glideUpdate t) s = .next u ∧ if s.w.ledOn then u.dev.led.newPts = [] ∧
    u.dev.led.curves = s.dev.led.newPts.foldl (fun c x => tblPut x.1 x.2 c) s.dev.led.curves ∧ u.dev.led.outs =
    s.dev.led.outs.map (fun e => (e.1,
    { e.2 with elapsed := min e.2.total (e.2.elapsed + 1), code := LedOut.at_ { e.2 with elapsed := min e.2.total (e.2.elapsed + 1) } }))
    else u.dev.led = s.dev.led) ∧
  (∀ (s : State) (p : Nat) (b : List Byte) (src : Nat), s.lanes ∧ p < 4 ∧ s.w.ledHere = true ∧ s.w.ledItem (16 + p)
    = some b ∧ src = s.reg (LED_MTX_SRC_LO_v p) + 2 ^ 32 * s.reg (LED_MTX_SRC_HI_v p) → ∃ u, exec (.ledLoad p) s =
    .next u ∧ u.reg LED_CMD_STATUS_done = 1 ∧ (if s.dev.led.cal = none ∧ src % 8 = 0 ∧ inRam src (le b 4 4 * le b 8
    1) = true ∧ s.bitOf (LED_MTX_STAT_shifting p) = false then (u.w.mtx p).back = s.w.rdBytes src (le b 4 4 * le b
    8 1) ∧ (u.w.mtx p).front = (s.w.mtx p).front ∧ u.reg (LED_MTX_STAT_shifting p) = 1 ∧ u.reg
    (LED_MTX_STAT_preloaded p) = 0 ∧ u.reg LED_CMD_STATUS_result = 0 else u.dev.led = s.dev.led ∧ u.reg
    LED_CMD_STATUS_result = (if s.dev.led.cal.isSome then 3 else if src % 8 ≠ 0 ∨ inRam src (le b 4 4 * le b 8 1) =
    false then 2 else 3))) ∧
  (∀ (s : State) (p : Nat), s.lanes ∧ p < 32 ∧ s.w.ledHere = true ∧ s.dev.led.cal = none ∧ (4 ≤ p ∨ s.w.ledItem (16
    + p) = none) → ∃ u, exec (.ledLoad p) s = .next u ∧ u.dev.led = s.dev.led ∧ u.reg LED_CMD_STATUS_done = 1 ∧
    u.reg LED_CMD_STATUS_result = 1) ∧
  (∀ (s : State) (p t : Nat) (b : List Byte), p < 4 ∧ s.w.ledItem (16 + p) = some b → ∃ u, exec (.shiftDone p t) s
    = .next u ∧ if s.w.ledOn = true ∧ s.bitOf (LED_MTX_STAT_shifting p) = true ∧ (s.w.mtx p).since + W.shiftNs b ≤
    s.upAt t then u.reg (LED_MTX_STAT_shifting p) = 0 ∧ (u.w.mtx p).chain = laneWords (le b 2 1) (W.lanePixels b)
    (pixelWords (le b 8 1) (s.w.mtx p).back) ∧ (if (s.w.mtx p).wanted then (u.w.mtx p).latched = (u.w.mtx p).chain
    ∧ (u.w.mtx p).front = (s.w.mtx p).back ∧ (u.w.mtx p).back = (s.w.mtx p).front ∧ u.reg (LED_MTX_STAT_preloaded
    p) = 0 ∧ u.reg (LED_MTX_SWAPS_v p) = min (s.reg (LED_MTX_SWAPS_v p) + 1) (2 ^ 32 - 1) else u.reg
    (LED_MTX_STAT_preloaded p) = 1) else u.dev.led = s.dev.led) ∧
  (∀ (s : State) (p t : Nat), p < 4 ∧ s.w.ledItem (16 + p) = none → ∃ u, exec (.shiftDone p t) s = .next u ∧
    u.dev.led = s.dev.led) ∧
  (∀ (s : State) (p t : Nat) (b : List Byte), p < 4 ∧ s.w.pinFunc (0x98 + p) = 6 ∧ s.w.ledOn = true ∧ s.w.ledItem
    (16 + p) = some b ∧ (le b 9 1 = 1 ∨ le b 9 1 = 2) → ∃ u, exec (.frameSyncEdge p t) s = .next u ∧ if s.bitOf
    (LED_MTX_STAT_shifting p) = true ∧ (s.w.mtx p).wanted = false then u.w.mtx p =
    { s.w.mtx p with wanted := true } ∧ u.bitOf LED_EVENT_late_swap = true else if s.bitOf (LED_MTX_STAT_shifting
    p) = true ∨ s.bitOf (LED_MTX_STAT_preloaded p) = false then u.w.mtx p = s.w.mtx p ∧ u.bitOf
    LED_EVENT_swap_empty = true else (u.w.mtx p).latched = (s.w.mtx p).chain ∧ (u.w.mtx p).front = (s.w.mtx p).back
    ∧ (u.w.mtx p).back = (s.w.mtx p).front ∧ u.reg (LED_MTX_STAT_preloaded p) = 0 ∧ u.reg (LED_MTX_SWAPS_v p) = min
    (s.reg (LED_MTX_SWAPS_v p) + 1) (2 ^ 32 - 1)) ∧
  (∀ (s : State) (p t : Nat), p < 4 ∧ (s.w.pinFunc (0x98 + p) ≠ 6 ∨ s.w.ledOn = false ∨ (s.w.ledItem (16 + p)).all
    (fun b => le b 9 1 != 1 && le b 9 1 != 2) = true) → ∃ u, exec (.frameSyncEdge p t) s = .next u ∧ u.dev.led =
    s.dev.led)

/-- ASSAYER_RECORD takes the record at the head of the Assayer queue (records that wait sent on first): the last
  value it holds of a channel is the channel's last sample. With none it changes nothing of the Assayer.
  PULSE_IN_EDGE of an enabled input on its dedicated pin, the edge apart from the last by R298's filter: while its
  second holds fewer pulses than max_rate (or that is 0) its weight is added to its accumulator; else it is
  rejected, counted, with rate_err. Any other edge does nothing. PULSE_RATE_SECOND closes an input's second that
  has ended, one gap entry standing for its rejected pulses; with none it does nothing. POUT_PULSE_START of an
  enabled output that owes pulses, low for its width, starts one; else nothing. POUT_PULSE_END ends a pulse whose
  width has passed, and no other. What a clause says beyond the rules cited is the model's own convention: log
  entries 3, 4, 77 to 80. -/
def Obligations.AssayerPulses : Prop :=
  (∀ (s : State) (t : Nat) (q : QUnit) (b : List Byte), s.w.serves = true ∧ s.w.mtrHere = true ∧ (s.w.at_
    t).smpFlush.headOf 9 0xE = some q ∧ q.body = .bytes b → ∃ u, exec (.assayerRecord t) s = .next u ∧ ∀ i ∈ upTo
    (le b 2 2), (∀ j ∈ upTo (le b 2 2), i < j → le (cut b (32 + 16 * j) 16) 0 1 ≠ le (cut b (32 + 16 * i) 16) 0 1)
    → tblGet u.dev.mtr.chLast (le (cut b (32 + 16 * i) 16) 0 1) = some (BitVec.ofNat 32 (le (cut b (32 + 16 * i)
    16) 4 4))) ∧
  (∀ (s : State) (t : Nat), s.w.serves = false ∨ s.w.mtrHere = false ∨ (s.w.at_ t).smpFlush.headOf 9 0xE = none → ∃
    u, exec (.assayerRecord t) s = .next u ∧ u.dev.mtr = s.dev.mtr) ∧
  (∀ (s : State) (i t n : Nat), i < 32 ∧ s.w.mtrOn = true ∧ s.bitOf (MTR_PIN_CFG_enable i) = true ∧ s.w.pinFunc
    (0x40 + i) = 6 ∧ (s.w.at_ t).pulseApart i = true ∧ n = ((tblGet s.dev.mtr.pins i).map (fun x => if x.sec =
    s.nsAt t / 1000000000 then x.count else 0)).getD 0 ∧ (s.reg (MTR_PIN_CFG_max_rate i) = 0 ∨ n < s.reg
    (MTR_PIN_CFG_max_rate i)) → ∃ u, exec (.pulseInEdge i t) s = .next u ∧ u.w.acc (32 + i) = (if s.reg
    (MTR_PIN_WEIGHT_v i) = 0 then s.w.acc (32 + i) else (s.w.acc (32 + i) + s.reg (MTR_PIN_WEIGHT_v i) * 2 ^ 32) %
    2 ^ 96) ∧ tblGet u.dev.mtr.pinUp i = some (s.upAt t) ∧ (tblGet u.dev.mtr.pins i).map (fun x => x.count) = some
    (n + 1)) ∧
  (∀ (s : State) (i t : Nat) (x : PulseIn), i < 32 ∧ s.w.mtrOn = true ∧ s.bitOf (MTR_PIN_CFG_enable i) = true ∧
    s.w.pinFunc (0x40 + i) = 6 ∧ (s.w.at_ t).pulseApart i = true ∧ s.reg (MTR_PIN_CFG_max_rate i) ≠ 0 ∧ tblGet
    s.dev.mtr.pins i = some x ∧ x.sec = s.nsAt t / 1000000000 ∧ s.reg (MTR_PIN_CFG_max_rate i) ≤ x.count → ∃ u,
    exec (.pulseInEdge i t) s = .next u ∧ u.w.acc (32 + i) = s.w.acc (32 + i) ∧ tblGet u.dev.mtr.pins i = some
    { x with rejected := x.rejected + 1 } ∧ u.reg (MTR_PIN_REJ_v i) = min (s.reg (MTR_PIN_REJ_v i) + 1) (2 ^ 32 -
    1) ∧ u.bitOf MTR_EVENT_rate_err = true) ∧
  (∀ (s : State) (i t : Nat), i < 32 ∧ (s.w.mtrOn = false ∨ s.bitOf (MTR_PIN_CFG_enable i) = false ∨ s.w.pinFunc
    (0x40 + i) ≠ 6 ∨ (s.w.at_ t).pulseApart i = false) → ∃ u, exec (.pulseInEdge i t) s = .next u ∧ u.dev.mtr =
    s.dev.mtr) ∧
  (∀ (s : State) (i t : Nat) (x : PulseIn), i < 32 ∧ tblGet s.dev.mtr.pins i = some x → ∃ u, exec (.pulseRateSecond
    i t) s = .next u ∧ if s.w.mtrOn = true ∧ x.sec < s.nsAt t / 1000000000 then tblGet u.dev.mtr.pins i = none ∧
    u.reg MTR_GAP_COUNT_v = (if x.rejected = 0 then s.reg MTR_GAP_COUNT_v else (s.reg MTR_GAP_COUNT_v + 1) % 2 ^
    32) else u.dev.mtr = s.dev.mtr) ∧
  (∀ (s : State) (i t : Nat), i < 32 ∧ tblGet s.dev.mtr.pins i = none → ∃ u, exec (.pulseRateSecond i t) s = .next
    u ∧ u.dev.mtr = s.dev.mtr) ∧
  (∀ (s : State) (o t : Nat), o < 8 → ∃ u, exec (.poutPulseStart o t) s = .next u ∧ if s.w.mtrOn = true ∧ s.bitOf
    (MTR_POUT_CFG_enable o) = true ∧ (s.w.pout o).owed ≠ 0 ∧ (s.w.pout o).high = none ∧ (s.w.pout o).low +
    s.w.pulseWidth o ≤ s.upAt t then (u.w.pout o).owed = (s.w.pout o).owed - 1 ∧ (u.w.pout o).high = some
    (s.w.pulseWidth o, s.upAt t) else u.w.pout o = s.w.pout o) ∧
  (∀ (s : State) (o t wd m : Nat), o < 8 ∧ (s.w.pout o).high = some (wd, m) → ∃ u, exec (.poutPulseEnd o t) s =
    .next u ∧ u.w.pout o = (if m + wd ≤ s.upAt t then { s.w.pout o with high := none, low := s.upAt t } else
    s.w.pout o)) ∧
  (∀ (s : State) (o t : Nat), o < 8 ∧ (s.w.pout o).high = none → ∃ u, exec (.poutPulseEnd o t) s = .next u ∧
    u.w.pout o = s.w.pout o)

/-- PERIODIC_SAVE, save_s past since the last save of a serving module whose integration has not stopped, saves the
  accumulators under the next sequence number; else nothing. With the Assayer present: SAVE_NOW saves at once with
  result 0, or answers 3 where integration has stopped; CLEAR sets an accumulator to 0 with a gap entry and a save,
  result 0, in MAINTENANCE alone; else it answers 2, or 3 where integration has stopped; a read of MTR_ACC_LO
  answers the low word of an accumulator in mWh and latches its high word, one of MTR_LEG the same word and latches
  the count of its wraps; a write of MTR_GAP_SEL shows the selected entry's words, newest first, zeros where there
  is none; a write of MTR_TC_DATA sets the selected point and a read answers it, either stepping the point, and
  after point 31 the channel. MTR_TEMP_STALE of a source without a temperature for 10 s sets temp_stale, and
  changes nothing of the Assayer else. Without the Assayer these change nothing. What a clause says beyond the
  rules cited is the model's own convention: log entries 3, 4, 80 and 81. -/
def Obligations.AssayerRegisters : Prop :=
  (∀ (s : State) (t : Nat), ∃ u, exec (.periodicSave t) s = .next u ∧ if s.w.serves = true ∧ s.w.mtrHere = true ∧
    s.dev.mtr.stopped = false ∧ s.dev.mtr.saveUp + max 1 (min 3600 (s.reg MTR_CTRL_save_s)) * 1000000000 ≤ s.upAt t
    then u.reg MTR_SAVE_SEQ_v = (s.reg MTR_SAVE_SEQ_v + 1) % 2 ^ 32 ∧ u.dev.mtr.saveUp = s.upAt t ∧ u.bitOf
    MTR_EVENT_save_done = true ∧ (u.dev.mtr.copyA.any (fun c => c.accs == s.dev.mtr.accs && c.seq == s.reg
    MTR_SAVE_SEQ_v + 1) || u.dev.mtr.copyB.any (fun c => c.accs == s.dev.mtr.accs && c.seq == s.reg MTR_SAVE_SEQ_v
    + 1)) = true else u.dev.mtr = s.dev.mtr ∧ u.reg MTR_SAVE_SEQ_v = s.reg MTR_SAVE_SEQ_v) ∧
  (∀ (s : State), s.lanes ∧ s.w.mtrHere = true → ∃ u, exec .saveNow s = .next u ∧ u.reg MTR_CMD_STATUS_done = 1 ∧
    (if s.dev.mtr.stopped then u.reg MTR_CMD_STATUS_result = 3 ∧ u.dev.mtr = s.dev.mtr else u.reg MTR_SAVE_SEQ_v =
    (s.reg MTR_SAVE_SEQ_v + 1) % 2 ^ 32 ∧ u.dev.mtr.saveUp = s.dev.tb.up ∧ u.bitOf MTR_EVENT_save_done = true ∧
    u.reg MTR_CMD_STATUS_result = 0)) ∧
  (∀ (s : State) (a : Nat), s.lanes ∧ a < 64 ∧ s.w.mtrHere = true → ∃ u, exec (.accClear a) s = .next u ∧ u.reg
    MTR_CMD_STATUS_done = 1 ∧ (if s.dev.key.lc = 3 ∧ s.dev.mtr.stopped = false then u.w.acc a = 0 ∧ u.reg
    MTR_GAP_COUNT_v = (s.reg MTR_GAP_COUNT_v + 1) % 2 ^ 32 ∧ u.reg MTR_SAVE_SEQ_v = (s.reg MTR_SAVE_SEQ_v + 1) % 2
    ^ 32 ∧ u.reg MTR_CMD_STATUS_result = 0 else u.dev.mtr = s.dev.mtr ∧ u.reg MTR_CMD_STATUS_result = (if
    s.dev.key.lc ≠ 3 then 2 else 3))) ∧
  (∀ (s : State) (a : Nat), s.lanes ∧ a < 64 ∧ s.w.mtrHere = true → ∃ u, exec (.accLoRead a) s = .next u ∧
    u.dev.resp = ⟨s.w.accMwh a % 2 ^ 32, false⟩ ∧ u.reg (MTR_ACC_HI_v a) = s.w.accMwh a / 2 ^ 32 % 2 ^ 32) ∧
  (∀ (s : State) (a : Nat), s.lanes ∧ a < 64 ∧ s.w.mtrHere = true → ∃ u, exec (.legRead a) s = .next u ∧ u.dev.resp
    = ⟨s.w.accMwh a % 2 ^ 32, false⟩ ∧ u.reg (MTR_LEG_WRAP_v a) = s.w.accMwh a / 2 ^ 32 % 256) ∧
  (∀ (s : State) (v : W32), s.lanes ∧ s.w.mtrHere = true → ∃ u, exec (.gapSelWrite v) s = .next u ∧ u.reg
    MTR_GAP_SEL_entry = v.toNat % 32 ∧ ∀ i ∈ upTo 8, u.reg (MTR_GAP_DATA_v i) = le (s.dev.mtr.gapLog.getD (v.toNat
    % 32) (List.replicate 32 0)) (4 * i) 4) ∧
  (∀ (s : State) (x : W32), s.lanes ∧ s.w.mtrHere = true → ∃ u, exec (.tcDataAccess (some x)) s = .next u ∧
    u.w.tcPoint (s.reg MTR_TC_SEL_channel) (s.reg MTR_TC_SEL_point) = x ∧ u.reg MTR_TC_SEL_point = (s.reg
    MTR_TC_SEL_point + 1) % 32 ∧ u.reg MTR_TC_SEL_channel = (if s.reg MTR_TC_SEL_point = 31 then (s.reg
    MTR_TC_SEL_channel + 1) % 128 else s.reg MTR_TC_SEL_channel)) ∧
  (∀ (s : State), s.lanes ∧ s.w.mtrHere = true → ∃ u, exec (.tcDataAccess none) s = .next u ∧ u.dev.resp =
    ⟨(s.w.tcPoint (s.reg MTR_TC_SEL_channel) (s.reg MTR_TC_SEL_point)).toNat, false⟩ ∧ u.reg MTR_TC_SEL_point =
    (s.reg MTR_TC_SEL_point + 1) % 32 ∧ u.reg MTR_TC_SEL_channel = (if s.reg MTR_TC_SEL_point = 31 then (s.reg
    MTR_TC_SEL_channel + 1) % 128 else s.reg MTR_TC_SEL_channel)) ∧
  (∀ (s : State) (src t : Nat), src < 4 → ∃ u, exec (.mtrTempStale src t) s = .next u ∧ u.dev.mtr = s.dev.mtr ∧
    u.bitOf MTR_EVENT_temp_stale = (s.bitOf MTR_EVENT_temp_stale || (s.w.mtrOn && decide ((tblGet s.dev.mtr.tempUp
    src).getD 0 + 10000000000 ≤ s.upAt t)))) ∧
  (∀ (s : State) (a : Nat) (v : W32), s.lanes ∧ a < 64 ∧ s.w.mtrHere = false → ∀ c ∈ [Instr.saveNow, .accClear a,
    .accLoRead a, .legRead a, .gapSelWrite v, .tcDataAccess none, .tcDataAccess (some v)], ∃ u, exec c s = .next u
    ∧ u.dev.mtr = s.dev.mtr ∧ u.dev.regs = s.dev.regs)

/-- Of two or three running lanes: a first request is held, none issued. The second that matches of three issues
  it: a read's response is kept for the third lane, whose match, later, is answered with it and issues nothing. A
  read that three agree on is answered once, a store writes the bytes its enables name; where a memory refuses it
  there is an access fault and nothing written. With no other state event and no other request undecided: a third
  lane that differs is outvoted (here lane C, reads), its kind and address shown; it is fenced at the limit, else
  goes to the self-test or stops. Three that differ are a safe stop: all requests dropped, the lanes halted,
  STOPPED; so are two of two. VOTE_WINDOW_EXPIRE of a request whose window is over outvotes the lane absent from an
  issued one of three, kind timeout; else it is a safe stop; with none nothing. LOCAL_FAULT of a running lane of
  three is an outvote of kind local that names its cause, of two a safe stop, of a lane that does not run, or on an
  edge with a reset of the lanes, nothing of the voter. A request to a memory is issued by a load or a store of it
  (memFault: no fault; fls.bad: words a scrubber found bad). What a clause says beyond the rules cited is the
  model's own convention: log entries 3, 4, 109, 111, 112 and 115. -/
def Obligations.LaneVoting : Prop :=
  (∀ (s : State) (hart pc insn t : Nat) (machine : Bool) (r : Req), hart < 4 ∧ 2 ≤ s.w.running.length ∧ 0 ∈
    s.w.running ∧ s.dev.lnv.held.all (fun x => x.hart != hart) = true ∧ s.dev.lnv.inject ≠ some 0 → ∃ u, exec
    (.voterRequest hart (some r) none none pc insn machine t) s = .next u ∧ u.dev.lnv.held = s.dev.lnv.held ++
    [⟨hart, [(0, r)], false, none, s.upAt t⟩] ∧ u.dev.resp = s.dev.resp ∧ u.mem = s.mem) ∧
  (∀ (s : State) (hart pc insn t : Nat) (machine : Bool) (r : Req), hart < 4 ∧ s.w.running = [0, 1, 2] ∧
    s.dev.lnv.held.all (fun x => x.hart != hart) = true ∧ (r.kind = .load ∨ r.kind = .fetch) ∧ (r.addr < 0x40000000
    ∨ 0x40190000 ≤ r.addr) ∧ W.memFault r.addr r.size false = false ∧ s.dev.fls.bad.any (fun k => W.touches r.addr
    r.size k) = false → ∃ u, exec (.voterRequest hart (some r) (some r) none pc insn machine t) s = .next u ∧
    u.dev.resp = ⟨s.w.rdLe r.addr r.size, false⟩ ∧ u.mem = s.mem ∧ u.dev.lnv.held = s.dev.lnv.held ++ [⟨hart, [(0,
    r), (1, r)], true, some (s.w.rdLe r.addr r.size, false), s.upAt t⟩]) ∧
  (∀ (s : State) (hart pc insn t since d : Nat) (machine f : Bool) (r : Req), hart < 4 ∧ s.w.running = [0, 1, 2] ∧
    s.dev.lnv.held = [⟨hart, [(0, r), (1, r)], true, some (d, f), since⟩] ∧ s.dev.lnv.inject ≠ some 2 → ∃ u, exec
    (.voterRequest hart none none (some r) pc insn machine t) s = .next u ∧ u.dev.resp = ⟨d, f⟩ ∧ u.mem = s.mem ∧
    u.dev.regs = s.dev.regs ∧ u.dev.lnv.held = []) ∧
  (∀ (s : State) (hart pc insn t : Nat) (machine : Bool) (r : Req), hart < 4 ∧ s.w.running = [0, 1, 2] ∧
    s.dev.lnv.held.all (fun x => x.hart != hart) = true ∧ (r.kind = .load ∨ r.kind = .fetch) ∧ (r.addr < 0x40000000
    ∨ 0x40190000 ≤ r.addr) ∧ W.memFault r.addr r.size false = false ∧ s.dev.fls.bad.any (fun k => W.touches r.addr
    r.size k) = false → ∃ u, exec (.voterRequest hart (some r) (some r) (some r) pc insn machine t) s = .next u ∧
    u.dev.resp = ⟨s.w.rdLe r.addr r.size, false⟩ ∧ u.mem = s.mem ∧ u.dev.lnv.held = s.dev.lnv.held) ∧
  (∀ (s : State) (hart pc insn t : Nat) (machine : Bool) (r : Req), hart < 4 ∧ s.w.running = [0, 1, 2] ∧
    s.dev.lnv.held.all (fun x => x.hart != hart) = true ∧ s.dev.lnv.inject = none ∧ r.kind = .store ∧ (r.addr <
    0x40000000 ∨ 0x40190000 ≤ r.addr) ∧ W.memFault r.addr r.size true = false → ∃ u, exec (.voterRequest hart (some
    r) (some r) (some r) pc insn machine t) s = .next u ∧ (upTo r.size).map (fun k => u.mem.rd (r.addr + k)) =
    (upTo r.size).map (fun k => if tst r.enables k then BitVec.ofNat 8 (r.data / 2 ^ (8 * k)) else s.mem.rd (r.addr
    + k))) ∧
  (∀ (s : State) (hart pc insn t : Nat) (machine : Bool) (r : Req), hart < 4 ∧ s.w.running = [0, 1] ∧
    s.dev.lnv.held.all (fun x => x.hart != hart) = true ∧ s.dev.lnv.inject = none ∧ r.kind ≠ .atomic ∧ (r.addr <
    0x40000000 ∨ 0x40190000 ≤ r.addr) ∧ W.memFault r.addr r.size (r.kind == .store) = true → ∃ u, exec
    (.voterRequest hart (some r) (some r) none pc insn machine t) s = .next u ∧ u.dev.resp.fault = true ∧ u.mem =
    s.mem ∧ u.dev.lnv.held = s.dev.lnv.held) ∧
  (∀ (s : State) (hart pc insn t : Nat) (machine : Bool) (r q : Req), hart < 4 ∧ s.w.running = [0, 1, 2] ∧
    s.dev.lnv.held = [] ∧ r.kind = .load ∧ q.kind = .load ∧ q ≠ r ∧ (r.addr < 0x40000000 ∨ 0x40190000 ≤ r.addr) ∧
    W.memFault r.addr r.size false = false ∧ s.dev.fls.bad.any (fun k => W.touches r.addr r.size k) = false ∧
    noEvents s.pending = true ∧ s.w.actedOn t (fun p => p == 1 || p == 2 || p == 5) = false → ∃ u, exec
    (.voterRequest hart (some r) (some r) (some q) pc insn machine t) s = .next u ∧ u.reg LNV_LAST_lane = 2 ∧ u.reg
    LNV_LAST_kind = 1 ∧ u.reg LNV_LAST_hart = hart ∧ u.reg LNV_LAST_ADDR_LO_v = r.addr % 2 ^ 32 ∧ u.bitOf
    LNV_EVENT_disagree = true ∧ u.reg LNV_STATUS_mode = 1 ∧ u.dev.resp = ⟨s.w.rdLe r.addr r.size, false⟩ ∧ u.w.lane
    2 = (if max 1 (s.reg LNV_CTRL_fence_limit) ≤ ((s.w.at_ t).outsOf 2).length + 1 then 5 else if s.bitOf
    LNV_CTRL_auto_resync then 2 else 1) ∧ (s.dev.op = .serving → u.dev.op = .degraded)) ∧
  (∀ (s : State) (hart pc insn t : Nat) (machine : Bool) (p q r : Req), hart < 4 ∧ s.w.running = [0, 1, 2] ∧
    s.dev.lnv.held.all (fun x => x.hart != hart) = true ∧ p.kind = .load ∧ q.kind = .load ∧ r.kind = .load ∧ p ≠ q
    ∧ q ≠ r ∧ p ≠ r ∧ noEvents s.pending = true ∧ s.w.actedOn t (fun p => p == 1 || p == 2 || p == 5) = false → ∃
    u, exec (.voterRequest hart (some p) (some q) (some r) pc insn machine t) s = .next u ∧ u.dev.op = .stopped ∧
    u.dev.lnv.held = [] ∧ u.w.lane 0 = 1 ∧ u.w.lane 1 = 1 ∧ u.w.lane 2 = 1) ∧
  (∀ (s : State) (hart pc insn t : Nat) (machine : Bool) (p q : Req), hart < 4 ∧ s.w.running = [0, 1] ∧
    s.dev.lnv.held.all (fun x => x.hart != hart) = true ∧ p.kind = .load ∧ q.kind = .load ∧ p ≠ q ∧ noEvents
    s.pending = true ∧ s.w.actedOn t (fun p => p == 1 || p == 2) = false → ∃ u, exec (.voterRequest hart (some p)
    (some q) none pc insn machine t) s = .next u ∧ u.dev.op = .stopped ∧ u.dev.lnv.held = [] ∧ u.w.lane 0 = 1 ∧
    u.w.lane 1 = 1) ∧
  (∀ (s : State) (hart t l m : Nat) (x : HeldReq) (r : Req) (rest : List (Nat × Req)), hart < 4 ∧ s.w.running = [0,
    1, 2] ∧ s.dev.lnv.held.find? (fun h => h.hart == hart && (s.w.at_ t).windowDue h) = some x ∧ x.issued = true ∧
    x.arrived = (m, r) :: rest ∧ s.w.running.find? (fun l => !x.arrived.any (fun y => y.1 == l)) = some l ∧
    (s.dev.lnv.held.erase x).all (fun y => y.issued || decide (y.arrived.length < 2)) = true ∧ noEvents s.pending =
    true ∧ s.w.actedOn t (fun p => p == 1 || p == 2 || p == 5) = false → ∃ u, exec (.voteWindowExpire hart t) s =
    .next u ∧ u.reg LNV_LAST_lane = l ∧ u.reg LNV_LAST_kind = 2 ∧ u.reg LNV_LAST_ADDR_LO_v = r.addr % 2 ^ 32 ∧
    u.bitOf LNV_EVENT_timeout = true ∧ u.bitOf LNV_EVENT_disagree = true ∧ u.reg LNV_STATUS_mode = 1 ∧ u.w.lane l =
    (if max 1 (s.reg LNV_CTRL_fence_limit) ≤ ((s.w.at_ t).outsOf l).length + 1 then 5 else if s.bitOf
    LNV_CTRL_auto_resync then 2 else 1)) ∧
  (∀ (s : State) (hart t : Nat) (x : HeldReq), hart < 4 ∧ s.dev.lnv.held.find? (fun h => h.hart == hart && (s.w.at_
    t).windowDue h) = some x ∧ (x.issued = false ∨ s.w.running.length ≠ 3) ∧ noEvents s.pending = true ∧
    s.w.actedOn t (fun p => p == 1 || p == 2 || p == 5) = false → ∃ u, exec (.voteWindowExpire hart t) s = .next u
    ∧ u.dev.op = .stopped ∧ u.dev.lnv.held = []) ∧
  (∀ (s : State) (hart t : Nat), hart < 4 ∧ s.dev.lnv.held.any (fun h => h.hart == hart && (s.w.at_ t).windowDue h)
    = false → ∃ u, exec (.voteWindowExpire hart t) s = .next u ∧ u.dev.lnv = s.dev.lnv ∧ u.dev.op = s.dev.op) ∧
  (∀ (s : State) (l hart t : Nat) (cause : LocalCause), l < 3 ∧ hart < 4 ∧ s.w.running = [0, 1, 2] ∧
    s.dev.lnv.held.all (fun y => y.issued || decide (y.arrived.length < 2)) = true ∧ noEvents s.pending = true ∧
    s.w.actedOn t (fun p => p == 1 || p == 2 || p == 5) = false → ∃ u, exec (.localFault l hart cause t) s = .next
    u ∧ u.reg LNV_LAST_lane = l ∧ u.reg LNV_LAST_kind = 3 ∧ u.reg LNV_LAST_hart = hart ∧ u.bitOf LNV_EVENT_disagree
    = true ∧ u.reg LNV_STATUS_mode = 1 ∧ u.bitOf (if cause = .l1 then LNV_EVENT_l1_ue else if cause = .l2 then
    LNV_EVENT_l2_ue else LNV_EVENT_lockup) = true ∧ u.w.lane l = (if max 1 (s.reg LNV_CTRL_fence_limit) ≤ ((s.w.at_
    t).outsOf l).length + 1 then 5 else if s.bitOf LNV_CTRL_auto_resync then 2 else 1)) ∧
  (∀ (s : State) (l hart t : Nat) (cause : LocalCause), l < 3 ∧ hart < 4 ∧ l ∈ s.w.running ∧ s.w.running.length ≠ 3
    ∧ noEvents s.pending = true ∧ s.w.actedOn t (fun p => p == 1 || p == 2) = false → ∃ u, exec (.localFault l hart
    cause t) s = .next u ∧ u.dev.op = .stopped ∧ u.dev.lnv.held = [] ∧ u.bitOf (if cause = .l1 then LNV_EVENT_l1_ue
    else if cause = .l2 then LNV_EVENT_l2_ue else LNV_EVENT_lockup) = true) ∧
  (∀ (s : State) (l hart t : Nat) (cause : LocalCause), l < 3 ∧ hart < 4 ∧ (l ∉ s.w.running ∨ s.w.actedOn t (fun p
    => p == 1 || p == 2) = true) → ∃ u, exec (.localFault l hart cause t) s = .next u ∧ u.dev.lnv = s.dev.lnv ∧
    u.dev.op = s.dev.op)

/-- SELFTEST_DONE of a lane in the self-test sends it to COPY, or, failed, leaves it stopped with resync_fail, a
  RESYNC that runs done with result 0; COPY_PASS_DONE counts the pass and its lines, and pauses the lane after the
  first of fewer than 512 lines or the 16th; RESYNC_RESTART runs it again, three lanes, with the resync's and the
  pause's time, resyncs counted, resync_done, and DEGRADED becomes SERVING. With no lane in resync each does
  nothing to it. DELIVERY_POINT keeps the largest skew seen; nothing where no lane runs. RESYNC starts the
  self-test of a stopped lane; a lane that runs, is fenced or does not exist answers LANE (1), one in resync BUSY
  (3); while one runs, any answers BUSY. INJECT reports done at once and arms where the module is in MAINTENANCE,
  the lane runs among three and none is pending; else it answers STATE (2), LANE (1) or BUSY (3), in that order. An
  armed lane's next store, agreed on else, is outvoted with kind write, and the injection ends. What a clause says
  beyond the rules cited is the model's own convention: log entries 3, 4, 112, 113, 114 and 116. -/
def Obligations.LaneResync : Prop :=
  (∀ (s : State) (pass : Bool) (t l : Nat), s.w.resyncLane = some l ∧ s.w.lane l = 2 → ∃ u, exec (.selftestDone
    pass t) s = .next u ∧ if pass then u.w.lane l = 3 else u.w.lane l = 1 ∧ u.bitOf LNV_EVENT_resync_fail = true ∧
    u.reg LNV_CMD_STATUS_busy = 0 ∧ (s.bitOf LNV_CMD_STATUS_busy = true → u.reg LNV_CMD_STATUS_done = 1 ∧ u.reg
    LNV_CMD_STATUS_result = 0)) ∧
  (∀ (s : State) (lines t l : Nat), s.w.resyncLane = some l ∧ s.w.lane l = 3 → ∃ u, exec (.copyPassDone lines t) s
    = .next u ∧ u.dev.lnv.passes = s.dev.lnv.passes + 1 ∧ u.dev.lnv.lines = lines ∧ u.w.lane l = (if lines < 512 ∨
    16 ≤ s.dev.lnv.passes + 1 then 4 else 3) ∧ u.dev.lnv.pauseUp = (if lines < 512 ∨ 16 ≤ s.dev.lnv.passes + 1 then
    s.upAt t else s.dev.lnv.pauseUp)) ∧
  (∀ (s : State) (t l : Nat), s.w.resyncLane = some l ∧ s.w.lane l = 4 → ∃ u, exec (.resyncRestart t) s = .next u ∧
    u.w.lane l = 0 ∧ u.reg LNV_STATUS_mode = 0 ∧ u.bitOf LNV_EVENT_resync_done = true ∧ u.reg LNV_RESYNC_NS_v = min
    0xFFFFFFFF (s.upAt t - s.dev.lnv.since) ∧ u.reg LNV_PAUSE_NS_v = min 0xFFFFFFFF (s.upAt t - s.dev.lnv.pauseUp)
    ∧ u.reg LNV_STATUS_resyncs = min (s.reg LNV_STATUS_resyncs + 1) 0xFFFF ∧ u.dev.op = (if s.dev.op = .degraded
    then .serving else s.dev.op)) ∧
  (∀ (s : State) (pass : Bool) (n t : Nat), s.w.resyncLane = none → ∀ c ∈ [Instr.selftestDone pass t, .copyPassDone
    n t, .resyncRestart t], ∃ u, exec c s = .next u ∧ u.dev.lnv = s.dev.lnv ∧ u.dev.regs = s.dev.regs) ∧
  (∀ (s : State) (hart skew t : Nat), hart < 4 ∧ skew ≤ 2048 → ∃ u, exec (.deliveryPoint hart skew t) s = .next u ∧
    u.reg LNV_SKEW_v = (if s.w.running = [] then s.reg LNV_SKEW_v else max skew (s.reg LNV_SKEW_v))) ∧
  (∀ (s : State) (l t : Nat), s.lanes ∧ s.bitOf LNV_CMD_STATUS_busy = false ∧ l < 4 → ∃ u, exec (.lnvResync l t) s
    = .next u ∧ if l < 3 ∧ s.w.lane l = 1 then u.w.lane l = 2 ∧ u.reg LNV_CMD_STATUS_busy = 1 ∧ u.reg
    LNV_CMD_STATUS_done = 0 ∧ u.reg LNV_CMD_STATUS_result = 0 ∧ u.dev.lnv.since = s.upAt t ∧ u.dev.lnv.passes = 0
    else u.dev.lnv = s.dev.lnv ∧ u.reg LNV_CMD_STATUS_done = 1 ∧ u.reg LNV_CMD_STATUS_result = (if 3 ≤ l ∨ s.w.lane
    l = 0 ∨ s.w.lane l = 5 then 1 else 3)) ∧
  (∀ (s : State) (l t : Nat), s.lanes ∧ s.bitOf LNV_CMD_STATUS_busy = true ∧ l < 4 → ∃ u, exec (.lnvResync l t) s =
    .next u ∧ u.dev.lnv = s.dev.lnv ∧ u.reg LNV_CMD_STATUS_busy = 1 ∧ u.reg LNV_CMD_STATUS_result = 3) ∧
  (∀ (s : State) (l : Nat), s.lanes ∧ l < 4 → ∃ u, exec (.inject l) s = .next u ∧ u.reg LNV_CMD_STATUS_done = 1 ∧
    (if s.dev.key.lc = 3 ∧ l < 3 ∧ s.w.lane l = 0 ∧ s.reg LNV_STATUS_mode = 0 ∧ s.dev.lnv.inject = none then
    u.dev.lnv.inject = some l ∧ u.reg LNV_CMD_STATUS_result = 0 else u.dev.lnv = s.dev.lnv ∧ u.reg
    LNV_CMD_STATUS_result = (if s.dev.key.lc ≠ 3 then 2 else if 3 ≤ l ∨ s.w.lane l ≠ 0 ∨ s.reg LNV_STATUS_mode ≠ 0
    then 1 else 3))) ∧
  (∀ (s : State) (hart pc insn t : Nat) (machine : Bool) (r : Req), hart < 4 ∧ s.w.running = [0, 1, 2] ∧
    s.dev.lnv.held = [] ∧ s.dev.lnv.inject = some 2 ∧ r.kind = .store ∧ (r.addr < 0x40000000 ∨ 0x40190000 ≤ r.addr)
    ∧ W.memFault r.addr r.size true = false ∧ noEvents s.pending = true ∧ s.w.actedOn t (fun p => p == 1 || p == 2
    || p == 5) = false → ∃ u, exec (.voterRequest hart (some r) (some r) (some r) pc insn machine t) s = .next u ∧
    u.dev.lnv.inject = none ∧ u.reg LNV_LAST_lane = 2 ∧ u.reg LNV_LAST_kind = 0 ∧ u.bitOf LNV_EVENT_disagree = true
    ∧ u.w.lane 2 ≠ 0)

/-- A flash command while one runs answers BUSY (4); a partition the lanes may not use so, or sectors beyond its
  end, PARTITION (1); a READ or WRITE without 1 to 4,096 sectors and an aligned buffer in RAM, BUFFER (2); else it
  begins: READ, WRITE, TRIM, SYNC. FL_CMD_DONE ends it: done with the sectors moved (READ: those that hold data),
  or failed with DEVICE (3) and fl_err, each sector of a WRITE wholly old or new; with none it does nothing.
  SCRUB_PASS of a scrubber that runs, its period past since its last, sets scrub_pass; no other. A corrected error
  is counted in its region and shown with ce, hot at the third of a line in 24 h; an uncorrectable one with ue: a
  lane's read faults, a scrubber's is recorded for a later read. The codes of a partition or a buffer that is not
  allowed are MEM_FL_STATUS's. What a clause says beyond the rules cited is the model's own convention: log entries
  3, 4, 117 to 120. -/
def Obligations.FlashAndMemory : Prop :=
  (∀ (s : State) (p : Nat), s.lanes ∧ p < 4 → ∃ u, exec (.flRead p) s = .next u ∧ if s.bitOf MEM_FL_STATUS_busy
    then u.dev.fls = s.dev.fls ∧ u.reg MEM_FL_STATUS_result = 4 else if (p ≠ 0 ∧ p ≠ 2) ∨ W.partSectors p < s.reg
    MEM_FL_SECTOR_v + s.reg MEM_FL_COUNT_sectors then u.dev.fls = s.dev.fls ∧ u.reg MEM_FL_STATUS_done = 1 ∧ u.reg
    MEM_FL_STATUS_result = 1 else if s.reg MEM_FL_COUNT_sectors = 0 ∨ 4096 < s.reg MEM_FL_COUNT_sectors ∨ s.w.flBuf
    % 4096 ≠ 0 ∨ inRam s.w.flBuf (4096 * s.reg MEM_FL_COUNT_sectors) = false then u.dev.fls = s.dev.fls ∧ u.reg
    MEM_FL_STATUS_done = 1 ∧ u.reg MEM_FL_STATUS_result = 2 else u.dev.fls.run = some ⟨1, p, s.reg MEM_FL_SECTOR_v,
    s.reg MEM_FL_COUNT_sectors, s.w.flBuf⟩ ∧ u.reg MEM_FL_STATUS_busy = 1 ∧ u.reg MEM_FL_STATUS_done = 0 ∧ u.reg
    MEM_FL_STATUS_result = 0) ∧
  (∀ (s : State) (p : Nat), s.lanes ∧ p < 4 → ∃ u, exec (.flWrite p) s = .next u ∧ if s.bitOf MEM_FL_STATUS_busy
    then u.dev.fls = s.dev.fls ∧ u.reg MEM_FL_STATUS_result = 4 else if p ≠ 2 ∨ W.partSectors p < s.reg
    MEM_FL_SECTOR_v + s.reg MEM_FL_COUNT_sectors then u.dev.fls = s.dev.fls ∧ u.reg MEM_FL_STATUS_done = 1 ∧ u.reg
    MEM_FL_STATUS_result = 1 else if s.reg MEM_FL_COUNT_sectors = 0 ∨ 4096 < s.reg MEM_FL_COUNT_sectors ∨ s.w.flBuf
    % 4096 ≠ 0 ∨ inRam s.w.flBuf (4096 * s.reg MEM_FL_COUNT_sectors) = false then u.dev.fls = s.dev.fls ∧ u.reg
    MEM_FL_STATUS_done = 1 ∧ u.reg MEM_FL_STATUS_result = 2 else u.dev.fls.run = some ⟨2, p, s.reg MEM_FL_SECTOR_v,
    s.reg MEM_FL_COUNT_sectors, s.w.flBuf⟩ ∧ u.reg MEM_FL_STATUS_busy = 1 ∧ u.reg MEM_FL_STATUS_done = 0 ∧ u.reg
    MEM_FL_STATUS_result = 0) ∧
  (∀ (s : State) (p : Nat), s.lanes ∧ p < 4 → ∃ u, exec (.flTrim p) s = .next u ∧ if s.bitOf MEM_FL_STATUS_busy
    then u.dev.fls = s.dev.fls ∧ u.reg MEM_FL_STATUS_result = 4 else if p ≠ 2 ∨ W.partSectors p < s.reg
    MEM_FL_SECTOR_v + s.reg MEM_FL_COUNT_sectors then u.dev.fls = s.dev.fls ∧ u.reg MEM_FL_STATUS_done = 1 ∧ u.reg
    MEM_FL_STATUS_result = 1 else u.dev.fls.run = some ⟨3, p, s.reg MEM_FL_SECTOR_v, s.reg MEM_FL_COUNT_sectors,
    s.w.flBuf⟩ ∧ u.reg MEM_FL_STATUS_busy = 1 ∧ u.reg MEM_FL_STATUS_done = 0 ∧ u.reg MEM_FL_STATUS_result = 0) ∧
  (∀ (s : State) (p : Nat), s.lanes ∧ p < 4 → ∃ u, exec (.flSync p) s = .next u ∧ if s.bitOf MEM_FL_STATUS_busy
    then u.dev.fls = s.dev.fls ∧ u.reg MEM_FL_STATUS_result = 4 else if p ≠ 0 ∧ p ≠ 2 then u.dev.fls = s.dev.fls ∧
    u.reg MEM_FL_STATUS_done = 1 ∧ u.reg MEM_FL_STATUS_result = 1 else u.dev.fls.run = some ⟨4, p, s.reg
    MEM_FL_SECTOR_v, s.reg MEM_FL_COUNT_sectors, s.w.flBuf⟩ ∧ u.reg MEM_FL_STATUS_busy = 1 ∧ u.reg
    MEM_FL_STATUS_done = 0 ∧ u.reg MEM_FL_STATUS_result = 0) ∧
  (∀ (s : State) (life t : Nat) (x : FlashCmd), life < 256 ∧ s.w.mainOn = true ∧ s.dev.fls.run = some x → ∃ u, exec
    (.flCmdDone true life t) s = .next u ∧ u.dev.fls.run = none ∧ u.reg MEM_FL_STATUS_busy = 0 ∧ u.reg
    MEM_FL_STATUS_done = 1 ∧ u.reg MEM_FL_STATUS_result = 0 ∧ u.reg MEM_STATUS_flash_life = life ∧ (x.op = 2 → ∀ k
    ∈ upTo x.count, tblGet u.dev.fls.sectors (x.partition * 2 ^ 24 + x.sector + k) = some (s.w.rdBytes (x.buf +
    4096 * k) 4096)) ∧ (x.op = 3 → ∀ k ∈ upTo x.count, tblGet u.dev.fls.sectors (x.partition * 2 ^ 24 + x.sector +
    k) = none) ∧ (x.op = 1 ∧ inDram x.buf (4096 * x.count) = true → ∀ k ∈ upTo x.count, ∀ b ∈ (tblGet
    s.dev.fls.sectors (x.partition * 2 ^ 24 + x.sector + k)).toList, b.length = 4096 → (upTo 4096).map (fun i =>
    u.mem.rd (x.buf + 4096 * k + i)) = b)) ∧
  (∀ (s : State) (life t : Nat) (x : FlashCmd), life < 256 ∧ s.w.mainOn = true ∧ s.dev.fls.run = some x → ∃ u, exec
    (.flCmdDone false life t) s = .next u ∧ u.dev.fls.run = none ∧ u.reg MEM_FL_STATUS_busy = 0 ∧ u.reg
    MEM_FL_STATUS_done = 1 ∧ u.reg MEM_FL_STATUS_result = 3 ∧ u.bitOf MEM_EVENT_fl_err = true ∧ u.reg
    MEM_STATUS_flash_life = life ∧ u.mem = s.mem ∧ (if x.op = 2 then ∀ k ∈ upTo x.count, tblGet u.dev.fls.sectors
    (x.partition * 2 ^ 24 + x.sector + k) = some (s.w.rdBytes (x.buf + 4096 * k) 4096) ∨ tblGet u.dev.fls.sectors
    (x.partition * 2 ^ 24 + x.sector + k) = tblGet s.dev.fls.sectors (x.partition * 2 ^ 24 + x.sector + k) else
    u.dev.fls.sectors = s.dev.fls.sectors)) ∧
  (∀ (s : State) (ok : Bool) (life t : Nat), life < 256 ∧ (s.w.mainOn = false ∨ s.dev.fls.run = none) → ∃ u, exec
    (.flCmdDone ok life t) s = .next u ∧ u.dev.fls = s.dev.fls ∧ u.dev.regs = s.dev.regs) ∧
  (∀ (s : State) (region t : Nat), region < 3 → ∃ u, exec (.scrubPass region t) s = .next u ∧ if s.w.mainOn = true
    ∧ s.bitOf (if region = 0 then MEM_CTRL_dram_scrub else if region = 1 then MEM_CTRL_sram_scrub else
    MEM_CTRL_larder_scrub) = true ∧ (tblGet s.dev.fls.scrubs region).getD 0 + s.w.scrubPeriod region ≤ s.upAt t
    then u.bitOf MEM_EVENT_scrub_pass = true ∧ tblGet u.dev.fls.scrubs region = some (s.upAt t) else u.bitOf
    MEM_EVENT_scrub_pass = s.bitOf MEM_EVENT_scrub_pass ∧ u.dev.fls = s.dev.fls) ∧
  (∀ (s : State) (addr cls block t : Nat), cls < 4 ∧ s.w.mainOn = true → ∃ u, exec (.memoryError addr cls block
    false t) s = .next u ∧ u.reg (MEM_CE_CNT_v (W.errRegion addr)) = min (s.reg (MEM_CE_CNT_v (W.errRegion addr)) +
    1) (2 ^ 32 - 1) ∧ u.bitOf MEM_EVENT_ce = true ∧ u.reg MEM_ERR_ADDR_LO_v = addr % 2 ^ 32 ∧ u.reg
    MEM_ERR_INFO_cls = cls ∧ u.reg MEM_ERR_INFO_region = W.errRegion addr ∧ u.reg MEM_ERR_INFO_uncorrectable = 0 ∧
    u.mem = s.mem ∧ (2 ≤ (((tblGet s.dev.fls.hot (addr / 64)).getD []).filter (fun x => decide (s.upAt t < x +
    86400000000000))).length → u.bitOf MEM_EVENT_hot = true)) ∧
  (∀ (s : State) (addr cls block t : Nat), cls < 4 ∧ s.w.mainOn = true → ∃ u, exec (.memoryError addr cls block
    true t) s = .next u ∧ u.reg (MEM_UE_CNT_v (W.errRegion addr)) = min (s.reg (MEM_UE_CNT_v (W.errRegion addr)) +
    1) (2 ^ 32 - 1) ∧ u.bitOf MEM_EVENT_ue = true ∧ u.reg MEM_ERR_ADDR_LO_v = addr % 2 ^ 32 ∧ u.reg
    MEM_ERR_INFO_cls = cls ∧ u.reg MEM_ERR_INFO_region = W.errRegion addr ∧ u.reg MEM_ERR_INFO_uncorrectable = 1 ∧
    (cls = 1 → u.dev.resp.fault = true) ∧ (cls = 3 → addr / 8 ∈ u.dev.fls.bad ∧ u.dev.resp = s.dev.resp))

/-- IRQ_RECORD_WRITE, ring and block enabled, takes the next unmasked staged event of the ring: a bad or full ring
  is flagged and the event stays staged; else its record is in memory and WIDX advanced; with none it does nothing.
  MODERATION_EXPIRE: the interrupt of a target whose rings at or above its threshold hold no record (or IRQ_CTRL is
  off) is not asserted; else it stays asserted, or is where mod_us is 0 or has passed, mod_count records wait or
  the hart idles. A write of IRQ_PEND, the store having room, stages a software event for each 1 over 0, discards a
  source's events for each 0 over 1, and leaves the rest. A write of IRQ_MASK sets the mask and touches no staged
  event. An atomic and, or, swap of IRQ_MASK or IRQ_PEND acts as such a write of the new value and answers the old;
  any other has an access fault. Writes of RIDX and of THRESH evaluate TOP and the assertion again. An idle hart's
  targets are not moderated. IRQ_EVENT_LATCH stages the oldest raised event, its pending bit 1; into a full store
  it is lost, counted, and its source's next record flagged; in SLEEP a watched source's wakes the module,
  another's is gone; with none raised nothing happens. What a clause says beyond the rules cited is the model's own
  convention: log entries 3, 4, 127 and 128. -/
def Obligations.InterruptCommands : Prop :=
  (∀ (s : State) (tgt grp t : Nat) (x : IrqEvent), tgt < 8 ∧ grp < 8 ∧ s.w.mainOn = true ∧ s.bitOf IRQ_CTRL_enable
    = true ∧ s.bitOf (IRQ_RING_CFG_enable tgt grp) = true ∧ s.w.nextFor tgt grp = some x ∧ s.reg (IRQ_RING_WIDX_idx
    tgt grp) < s.w.ringLen tgt grp → ∃ u, exec (.irqRecordWrite tgt grp t) s = .next u ∧ if s.w.ringOk tgt grp =
    false then u.dev.irq.staged = s.dev.irq.staged ∧ u.bitOf IRQ_EVENT_bad_ring = true ∧ u.mem = s.mem else if
    (s.reg (IRQ_RING_WIDX_idx tgt grp) + 1) % s.w.ringLen tgt grp = s.reg (IRQ_RING_RIDX_idx tgt grp) then
    u.dev.irq.staged = s.dev.irq.staged ∧ u.bitOf IRQ_EVENT_ring_full = true ∧ u.mem = s.mem else u.dev.irq.staged
    = s.dev.irq.staged.erase x ∧ u.reg (IRQ_RING_WIDX_idx tgt grp) = (s.reg (IRQ_RING_WIDX_idx tgt grp) + 1) %
    s.w.ringLen tgt grp ∧ (upTo 16).map (fun k => u.mem.rd (s.reg (IRQ_RING_BASE_v tgt grp) + 16 * s.reg
    (IRQ_RING_WIDX_idx tgt grp) + k)) = W.recordBytes x (s.w.srcPriority x.source) (s.dev.irq.lost.contains
    x.source)) ∧
  (∀ (s : State) (tgt grp t : Nat), tgt < 8 ∧ grp < 8 ∧ (s.w.mainOn = false ∨ s.bitOf IRQ_CTRL_enable = false ∨
    s.bitOf (IRQ_RING_CFG_enable tgt grp) = false ∨ s.w.nextFor tgt grp = none) → ∃ u, exec (.irqRecordWrite tgt
    grp t) s = .next u ∧ u.dev.irq = s.dev.irq ∧ u.mem = s.mem ∧ u.dev.regs = s.dev.regs) ∧
  (∀ (s : State) (tgt t : Nat), tgt < 8 → ∃ u, exec (.moderationExpire tgt t) s = .next u ∧ u.dev.irq.staged =
    s.dev.irq.staged ∧ u.reg (IRQ_TGT_TOP_asserted tgt) = (if s.bitOf IRQ_CTRL_enable = false ∨ (upTo 8).any (fun g
    => s.w.ringHolds tgt g && decide (s.reg (IRQ_TGT_THRESH_thresh tgt) ≤ g)) = false then 0 else if s.bitOf
    (IRQ_TGT_TOP_asserted tgt) = true ∨ s.reg (IRQ_TGT_MOD_mod_us tgt) = 0 ∨ (tblGet s.dev.irq.first tgt).any (fun
    m => decide (m + 1000 * s.reg (IRQ_TGT_MOD_mod_us tgt) ≤ s.upAt t)) = true ∨ max 1 (s.reg
    (IRQ_TGT_MOD_mod_count tgt)) ≤ s.w.waiting tgt ∨ tgt / 2 ∈ s.dev.irq.idle then 1 else 0)) ∧
  (∀ (s : State) (word : Nat) (v : W32), s.lanes ∧ word < 16 ∧ s.dev.irq.staged.length + 32 ≤ 4096 → ∃ u, exec
    (.irqPendWrite word v) s = .next u ∧ (∀ j ∈ upTo 32, u.dev.irq.staged.filter (fun x => x.source == 32 * word +
    j) = (if v.getLsbD j = false then [] else if s.dev.irq.staged.any (fun x => x.source == 32 * word + j) then
    s.dev.irq.staged.filter (fun x => x.source == 32 * word + j) else [⟨32 * word + j, 0, s.ns, true, false,
    false⟩])) ∧ u.dev.irq.staged.filter (fun x => x.source / 32 != word) = s.dev.irq.staged.filter (fun x =>
    x.source / 32 != word)) ∧
  (∀ (s : State) (word : Nat) (v : W32), s.lanes ∧ word < 16 → ∃ u, exec (.irqMaskWrite word v) s = .next u ∧
    u.word (IRQ_MASK_v word).addr = v ∧ u.dev.irq = s.dev.irq) ∧
  (∀ (s : State) (op : AmoOp) (addr : Nat) (v : W32), s.lanes ∧ (op = .and ∨ op = .or ∨ op = .swap) ∧ addr % 4 = 0
    ∧ 0x40110100 ≤ addr ∧ addr < 0x40110140 → ∃ u, exec (.irqAmo op addr v) s = .next u ∧ u.dev.resp = ⟨(s.word
    addr).toNat, false⟩ ∧ u.word addr = amoValue op (s.word addr) v ∧ u.dev.irq = s.dev.irq) ∧
  (∀ (s : State) (op : AmoOp) (addr : Nat) (v : W32), s.lanes ∧ (op = .and ∨ op = .or ∨ op = .swap) ∧ addr % 4 = 0
    ∧ 0x40110140 ≤ addr ∧ addr < 0x40110180 ∧ s.dev.irq.staged.length + 32 ≤ 4096 → ∃ u, exec (.irqAmo op addr v) s
    = .next u ∧ u.dev.resp = ⟨(s.word addr).toNat, false⟩ ∧ ∀ j ∈ upTo 32, u.dev.irq.staged.any (fun x => x.source
    == 32 * ((addr - 0x40110140) / 4) + j) = (amoValue op (s.word addr) v).getLsbD j) ∧
  (∀ (s : State) (op : AmoOp) (addr : Nat) (v : W32), s.lanes ∧ ((op ≠ .and ∧ op ≠ .or ∧ op ≠ .swap) ∨ addr % 4 ≠ 0
    ∨ addr < 0x40110100 ∨ 0x40110180 ≤ addr) → ∃ u, exec (.irqAmo op addr v) s = .next u ∧ u.dev.resp.fault = true
    ∧ u.dev.regs = s.dev.regs ∧ u.dev.irq = s.dev.irq) ∧
  (∀ (s : State) (tgt grp : Nat) (v : W32), s.lanes ∧ tgt < 8 ∧ grp < 8 → ∃ u, exec (.ridxWrite tgt grp v) s =
    .next u ∧ u.reg (IRQ_RING_RIDX_idx tgt grp) = v.toNat % 2 ^ 12 ∧ u.reg (IRQ_TGT_TOP_group tgt) = ((upTo
    8).filter (fun g => u.w.ringHolds tgt g)).foldl max 0 ∧ u.bitOf (IRQ_TGT_TOP_none tgt) = ((upTo 8).filter (fun
    g => u.w.ringHolds tgt g)).isEmpty ∧ (if s.bitOf IRQ_CTRL_enable = true ∧ (upTo 8).any (fun g => u.w.ringHolds
    tgt g && decide (s.reg (IRQ_TGT_THRESH_thresh tgt) ≤ g)) = true then (s.reg (IRQ_TGT_TOP_asserted tgt) = 1 ∨
    s.reg (IRQ_TGT_MOD_mod_us tgt) = 0 → u.reg (IRQ_TGT_TOP_asserted tgt) = 1) else u.reg (IRQ_TGT_TOP_asserted
    tgt) = 0)) ∧
  (∀ (s : State) (tgt : Nat) (v : W32), s.lanes ∧ tgt < 8 → ∃ u, exec (.threshWrite tgt v) s = .next u ∧ u.reg
    (IRQ_TGT_THRESH_thresh tgt) = v.toNat % 16 ∧ (if s.bitOf IRQ_CTRL_enable = true ∧ (upTo 8).any (fun g =>
    s.w.ringHolds tgt g && decide (v.toNat % 16 ≤ g)) = true then (s.reg (IRQ_TGT_TOP_asserted tgt) = 1 ∨ s.reg
    (IRQ_TGT_MOD_mod_us tgt) = 0 → u.reg (IRQ_TGT_TOP_asserted tgt) = 1) else u.reg (IRQ_TGT_TOP_asserted tgt) =
    0)) ∧
  (∀ (s : State) (hart : Nat), s.lanes ∧ hart < 4 → ∃ u, exec (.hartIdle hart) s = .next u ∧ u.dev.irq.idle = hart
    :: s.dev.irq.idle.erase hart ∧ [2 * hart, 2 * hart + 1].map (fun k => u.reg (IRQ_TGT_TOP_asserted k)) = [2 *
    hart, 2 * hart + 1].map (fun k => if s.bitOf IRQ_CTRL_enable = true ∧ (upTo 8).any (fun g => s.w.ringHolds k g
    && decide (s.reg (IRQ_TGT_THRESH_thresh k) ≤ g)) = true then 1 else 0)) ∧
  (∀ (s : State) (x : IrqEvent) (rest : List IrqEvent), s.w.mainOn = true ∧ s.dev.op ≠ .sleep ∧ s.dev.irq.raised =
    x :: rest ∧ s.dev.irq.staged.length < 4096 → ∃ u, exec .irqEventLatch s = .next u ∧ u.dev.irq.staged =
    s.dev.irq.staged ++ [x] ∧ u.dev.irq.raised = rest ∧ u.bitOf ⟨(IRQ_PEND_v (x.source / 32)).addr, x.source % 32,
    1⟩ = true) ∧
  (∀ (s : State) (x : IrqEvent) (rest : List IrqEvent), s.w.mainOn = true ∧ s.dev.op ≠ .sleep ∧ s.dev.irq.raised =
    x :: rest ∧ 4096 ≤ s.dev.irq.staged.length → ∃ u, exec .irqEventLatch s = .next u ∧ u.dev.irq.staged =
    s.dev.irq.staged ∧ u.dev.irq.lost = s.dev.irq.lost ++ [x.source] ∧ u.reg IRQ_LOST_CNT_v = min (s.reg
    IRQ_LOST_CNT_v + 1) (2 ^ 32 - 1) ∧ u.bitOf IRQ_EVENT_stage_full = true) ∧
  (∀ (s : State) (x : IrqEvent) (rest : List IrqEvent), s.dev.op = .sleep ∧ s.dev.irq.raised = x :: rest → ∃ u,
    exec .irqEventLatch s = .next u ∧ if s.dev.sys.watched.any (fun k => k.2 == x.source) then u.reg
    WCH_WAKE_CAUSE_watched = 1 ∧ u.dev.op ≠ .sleep else u.dev.irq = { s.dev.irq with raised := rest } ∧ u.dev.op =
    .sleep) ∧
  (∀ (s : State), s.dev.irq.raised = [] → ∃ u, exec .irqEventLatch s = .next u ∧ u.dev.irq = s.dev.irq ∧ u.dev.regs
    = s.dev.regs)

/-- FLUSH and RESET of a queue the pattern lacks answer INDEX (1), or BUSY (2) while one is under way, as does one
  during another queue's flush. Else FLUSH between two units drops those held but one begun, counted, with flushed;
  within one it waits, a second merged with it, and is done at FLUSH_BOUNDARY, or as a reset at FLUSH_TIMEOUT, 1 ms
  past; with no flush waiting these do nothing. RESET and PTR_MISMATCH put both pointers at 0, drop and count every
  unit, abort the one read and discard the rest of the one written. A store of WDATA of the queue's producer adds 4
  bytes to its unit, up to max_unit (past it too_long); held where there is no room; dropped after a reset. WEND
  ends it, aborted where too long. Another's queue answers an access fault, an absent one 0. RDATA of a queue the
  lanes consume answers the next 4 bytes of the head unit, ended with its last; empty, the last value, with
  underrun; of any other queue 0. A read of HWM answers and clears it. QUEUE_SPACE carries out a held store that
  fits, once, and nothing else. The commands' codes are QUE_CMD_STATUS's. What a clause says beyond the rules cited
  is the model's own convention: log entries 3, 4, 5, 6 and 7. -/
def Obligations.QueueCommands : Prop :=
  (∀ (s : State) (q : Nat), s.lanes ∧ q < 256 ∧ (s.w.qItem q = none ∨ s.w.queBusy (s.w.qState q) = true) → ∃ u,
    exec (.queueFlush q) s = .next u ∧ u.dev.que = s.dev.que ∧ u.reg QUE_CMD_STATUS_result = (if s.bitOf
    QUE_CMD_STATUS_busy then 2 else 1)) ∧
  (∀ (s : State) (q : Nat), s.lanes ∧ q < 256 ∧ (s.w.qItem q = none ∨ s.w.queBusy (s.w.qState q) = true) → ∃ u,
    exec (.queueReset q) s = .next u ∧ u.dev.que = s.dev.que ∧ u.reg QUE_CMD_STATUS_result = (if s.bitOf
    QUE_CMD_STATUS_busy then 2 else 1)) ∧
  (∀ (s : State) (q : Nat) (i : QItem), s.lanes ∧ q < 256 ∧ s.w.qItem q = some i ∧ s.w.queBusy (s.w.qState q) =
    false ∧ W.atBoundary (s.w.qState q) = true → ∃ u, exec (.queueFlush q) s = .next u ∧ (u.w.qState q).units = (if
    0 < (s.w.qState q).rpos then (s.w.qState q).units.take 1 else []) ∧ u.reg (QUE_Q_DROP_v q) = min (s.reg
    (QUE_Q_DROP_v q) + ((s.w.qState q).units.length - (u.w.qState q).units.length)) (2 ^ 32 - 1) ∧ u.reg
    QUE_CMD_STATUS_done = 1 ∧ u.reg QUE_CMD_STATUS_result = 0 ∧ u.bitOf QUE_EVENT_flushed = true) ∧
  (∀ (s : State) (q : Nat) (i : QItem), s.lanes ∧ q < 256 ∧ s.w.qItem q = some i ∧ s.w.queBusy (s.w.qState q) =
    false ∧ W.atBoundary (s.w.qState q) = false → ∃ u, exec (.queueFlush q) s = .next u ∧ (u.w.qState q).units =
    (s.w.qState q).units ∧ (if (s.w.qState q).flush = none then (u.w.qState q).flush = some s.dev.tb.up ∧ u.reg
    QUE_CMD_STATUS_busy = 1 ∧ u.reg QUE_CMD_STATUS_done = 0 else u.dev.que = s.dev.que ∧ u.dev.regs = s.dev.regs)) ∧
  (∀ (s : State) (q m : Nat) (i : QItem), q < 256 ∧ s.w.qItem q = some i ∧ (s.w.qState q).flush = some m ∧
    W.atBoundary (s.w.qState q) = true → ∃ u, exec (.flushBoundary q) s = .next u ∧ (u.w.qState q).units = (if 0 <
    (s.w.qState q).rpos then (s.w.qState q).units.take 1 else []) ∧ (u.w.qState q).flush = none ∧ u.reg
    QUE_CMD_STATUS_busy = 0 ∧ u.reg QUE_CMD_STATUS_done = 1 ∧ u.reg QUE_CMD_STATUS_result = 0 ∧ u.bitOf
    QUE_EVENT_flushed = true) ∧
  (∀ (s : State) (q t m : Nat) (i : QItem), q < 256 ∧ s.w.qItem q = some i ∧ (s.w.qState q).flush = some m → ∃ u,
    exec (.flushTimeout q t) s = .next u ∧ if m + 1000000 ≤ s.upAt t then (u.w.qState q).units = [] ∧ (u.w.qState
    q).flush = none ∧ u.reg (QUE_Q_STAT_ptr_reset q) = 1 ∧ u.bitOf QUE_EVENT_ptr_reset = true ∧ u.bitOf
    QUE_EVENT_flushed = true ∧ u.reg QUE_CMD_STATUS_result = 0 else u.dev.que = s.dev.que ∧ u.dev.regs =
    s.dev.regs) ∧
  (∀ (s : State) (q t : Nat), q < 256 ∧ (s.w.qState q).flush = none → ∀ c ∈ [Instr.flushBoundary q, .flushTimeout q
    t], ∃ u, exec c s = .next u ∧ u.dev.que = s.dev.que ∧ u.dev.regs = s.dev.regs) ∧
  (∀ (s : State) (q : Nat) (i : QItem), s.lanes ∧ q < 256 ∧ s.w.qItem q = some i ∧ s.w.queBusy (s.w.qState q) =
    false → ∃ u, exec (.queueReset q) s = .next u ∧ (u.w.qState q).units = [] ∧ (u.w.qState q).part = none ∧
    (u.w.qState q).discard = (s.w.qState q).part.isSome ∧ (u.w.qState q).headAborted = decide (0 < (s.w.qState
    q).rpos) ∧ (u.w.qState q).wp = 0 ∧ (u.w.qState q).rp = 0 ∧ u.reg (QUE_Q_STAT_ptr_reset q) = 1 ∧ u.bitOf
    QUE_EVENT_ptr_reset = true ∧ u.reg QUE_CMD_STATUS_done = 1 ∧ u.reg QUE_CMD_STATUS_result = 0) ∧
  (∀ (s : State) (q : Nat) (i : QItem), q < 256 ∧ s.w.qItem q = some i ∧ s.w.mainOn = true → ∃ u, exec
    (.ptrMismatch q) s = .next u ∧ (u.w.qState q).units = [] ∧ (u.w.qState q).part = none ∧ (u.w.qState q).discard
    = (s.w.qState q).part.isSome ∧ (u.w.qState q).headAborted = decide (0 < (s.w.qState q).rpos) ∧ (u.w.qState
    q).wp = 0 ∧ (u.w.qState q).rp = 0 ∧ u.reg (QUE_Q_STAT_ptr_reset q) = 1 ∧ u.bitOf QUE_EVENT_ptr_reset = true ∧
    u.reg QUE_RESET_CNT_v = min (s.reg QUE_RESET_CNT_v + 1) (2 ^ 32 - 1) ∧ u.reg (QUE_Q_DROP_v q) = min (s.reg
    (QUE_Q_DROP_v q) + (s.w.qState q).units.length) (2 ^ 32 - 1)) ∧
  (∀ (s : State) (q : Nat), q < 256 ∧ (s.w.qItem q = none ∨ s.w.mainOn = false) → ∃ u, exec (.ptrMismatch q) s =
    .next u ∧ u.dev.que = s.dev.que ∧ u.dev.regs = s.dev.regs) ∧
  (∀ (s : State) (q : Nat) (v : W32) (i : QItem), s.lanes ∧ q < 256 ∧ s.w.qItem q = some i ∧ i.producer = 0xF0 → ∃
    u, exec (.queueWdata q v) s = .next u ∧ (u.w.qState q).units = (s.w.qState q).units ∧ (if (s.w.qState
    q).discard then (u.w.qState q).part = (s.w.qState q).part ∧ u.dev.resp = ⟨0, false⟩ else if W.canGrow
    (s.w.qState q) i 4 then (u.w.qState q).part = some (((s.w.qState q).part.getD [] ++ leBytes 4 v.toNat).take
    i.maxUnit) ∧ u.dev.resp = ⟨0, false⟩ ∧ (i.maxUnit < ((s.w.qState q).part.getD []).length + 4 → u.reg
    (QUE_Q_STAT_too_long q) = 1) else (u.w.qState q).part = (s.w.qState q).part ∧ (u.w.qState q).held = some
    ⟨false, v, 4⟩ ∧ u.dev.resp = s.dev.resp)) ∧
  (∀ (s : State) (q n : Nat) (v : W32) (i : QItem) (p : List Byte), s.lanes ∧ q < 256 ∧ s.w.qItem q = some i ∧
    i.producer = 0xF0 ∧ (s.w.qState q).discard = false ∧ (s.w.qState q).flush = none ∧ n = (if s.reg
    (QUE_Q_WEND_CNT_bytes q) = 0 ∨ 4 < s.reg (QUE_Q_WEND_CNT_bytes q) then 4 else s.reg (QUE_Q_WEND_CNT_bytes q)) ∧
    p = (s.w.qState q).part.getD [] ++ leBytes n v.toNat → ∃ u, exec (.queueWend q v) s = .next u ∧ if W.canGrow
    (s.w.qState q) i n then (u.w.qState q).units = (s.w.qState q).units ++ [⟨.bytes (p.take i.maxUnit), (p.take
    i.maxUnit).length, (s.w.qState q).overrun || decide (i.maxUnit < p.length)⟩] ∧ (u.w.qState q).part = none ∧
    u.dev.resp = ⟨0, false⟩ else (u.w.qState q).held = some ⟨true, v, n⟩ ∧ (u.w.qState q).units = (s.w.qState
    q).units ∧ u.dev.resp = s.dev.resp) ∧
  (∀ (s : State) (q : Nat) (v : W32), s.lanes ∧ q < 256 ∧ (s.w.qItem q).all (fun i => i.producer != 0xF0) = true →
    ∀ c ∈ [Instr.queueWdata q v, .queueWend q v], ∃ u, exec c s = .next u ∧ u.dev.que = s.dev.que ∧ u.dev.resp =
    ⟨0, decide (s.w.qItem q ≠ none)⟩) ∧
  (∀ (s : State) (q : Nat) (i : QItem) (x : QUnit) (rest : List QUnit) (b : List Byte), s.lanes ∧ q < 256 ∧
    s.w.qItem q = some i ∧ i.consumer = 0xF0 ∧ (s.w.qState q).units = x :: rest ∧ x.body = .bytes b → ∃ u, exec
    (.queueRdata q) s = .next u ∧ u.dev.resp = ⟨leNat (cut b (s.w.qState q).rpos 4), false⟩ ∧ (u.w.qState q).units
    = (if x.len ≤ (s.w.qState q).rpos + 4 then rest else x :: rest) ∧ (u.w.qState q).rpos = (if x.len ≤ (s.w.qState
    q).rpos + 4 then 0 else (s.w.qState q).rpos + 4)) ∧
  (∀ (s : State) (q : Nat) (i : QItem), s.lanes ∧ q < 256 ∧ s.w.qItem q = some i ∧ i.consumer = 0xF0 ∧ (s.w.qState
    q).units = [] → ∃ u, exec (.queueRdata q) s = .next u ∧ u.dev.resp = ⟨(s.w.qState q).last.toNat, false⟩ ∧ u.reg
    (QUE_Q_STAT_underrun q) = 1 ∧ u.bitOf QUE_EVENT_underrun = true) ∧
  (∀ (s : State) (q : Nat), s.lanes ∧ q < 256 ∧ (s.w.qItem q).all (fun i => i.consumer != 0xF0) = true → ∃ u, exec
    (.queueRdata q) s = .next u ∧ u.dev.resp = ⟨0, false⟩ ∧ u.dev.que = s.dev.que ∧ u.dev.regs = s.dev.regs) ∧
  (∀ (s : State) (q : Nat), s.lanes ∧ q < 256 → ∃ u, exec (.queueHwmRead q) s = .next u ∧ u.dev.resp = ⟨s.reg
    (QUE_Q_HWM_v q), false⟩ ∧ u.reg (QUE_Q_HWM_v q) = 0) ∧
  (∀ (s : State) (q : Nat) (i : QItem) (x : HeldStore), q < 256 ∧ s.w.qItem q = some i ∧ (s.w.qState q).held = some
    x ∧ W.canGrow (s.w.qState q) i x.count = true ∧ (s.w.qState q).discard = false ∧ (s.w.qState q).flush = none →
    ∃ u, exec (.queueSpace q) s = .next u ∧ (u.w.qState q).held = none ∧ u.dev.resp = ⟨0, false⟩ ∧ (if x.ends then
    (u.w.qState q).part = none ∧ (u.w.qState q).units.length = (s.w.qState q).units.length + 1 else (u.w.qState
    q).part = some (((s.w.qState q).part.getD [] ++ leBytes x.count x.word.toNat).take i.maxUnit))) ∧
  (∀ (s : State) (q : Nat), q < 256 ∧ (s.w.qState q).held = none → ∃ u, exec (.queueSpace q) s = .next u ∧
    u.dev.que = s.dev.que ∧ u.dev.resp = s.dev.resp)

/-- RTC_SECOND of a powered clock whose oscillator runs: second 60 ends; disciplined from a locked servo an
  inserted leap second is second 60 and a deleted one is skipped; the last second of 9999 wraps with year_wrap;
  else the count goes up by one. The sub-second is 0, leap_now 1 in second 60. An armed alarm that matches the
  second counted to, later than its floor, with osc_stopped 0, fires: its flag set, arm cleared, the instant kept,
  a sleeping module woken where it has wake; no other does. A clock without power or oscillator does not count.
  OSC_STOPPED holds the count at its value 4 ms ago and sets osc_stopped; OSCILLATOR_RESTART counts on from it;
  OSC_STOPPED_CLEAR clears the flag only where a SET has completed since. A time register read with no shadow held,
  or one 1 s old (shadow_timeout), freezes the three under the next snap; a later read answers its frozen word, and
  the last of the three releases them. SHADOW_TIMEOUT releases a shadow 1 s old, with its flag, and no other. secs
  counts seconds from 1970-01-01; second 60 is in60. What a clause says beyond the rules cited is the model's own
  convention: log entries 3, 4, 86 and 97. -/
def Obligations.CalendarCounting : Prop :=
  (∀ (s : State) (t : Nat), s.dev.sys.watch = true ∧ s.dev.rtc.stopped = false → ∃ u, exec (.rtcSecond t) s = .next
    u ∧ u.dev.rtc.sub = 0 ∧ u.reg RTC_STATUS_leap_now = (if u.dev.rtc.in60 then 1 else 0) ∧ (if s.dev.rtc.in60 then
    u.dev.rtc.secs = s.dev.rtc.secs + 1 ∧ u.dev.rtc.in60 = false else if s.dev.rtc.secs % 86400 = 86399 ∧ (s.w.at_
    t).leapDue false = true ∧ s.reg TBS_STATUS_servo_state = 2 ∧ s.bitOf RTC_CTRL_disc_enable = true then
    u.dev.rtc.secs = s.dev.rtc.secs ∧ u.dev.rtc.in60 = true else if s.dev.rtc.secs % 86400 = 86398 ∧ (s.w.at_
    t).leapDue true = true ∧ s.reg TBS_STATUS_servo_state = 2 ∧ s.bitOf RTC_CTRL_disc_enable = true then
    u.dev.rtc.secs = s.dev.rtc.secs + 2 ∧ u.dev.rtc.in60 = false else if s.dev.rtc.secs = rtcLast then
    u.dev.rtc.secs = rtcEpoch ∧ u.dev.rtc.in60 = false ∧ u.bitOf RTC_EVENT_year_wrap = true else u.dev.rtc.secs =
    s.dev.rtc.secs + 1 ∧ u.dev.rtc.in60 = false)) ∧
  (∀ (s : State) (t a : Nat), a < 2 ∧ s.dev.sys.watch = true ∧ s.dev.rtc.stopped = false ∧ s.bitOf
    (RTC_ALM_CTRL_arm a) = true ∧ s.reg (RTC_ALM_TIME_minute a) < 60 → ∃ u, exec (.rtcSecond t) s = .next u ∧
    u.dev.rtc.secs = s.dev.rtc.secs + 1 → if s.bitOf RTC_EVENT_osc_stopped = false ∧ (tblGet s.dev.rtc.floors
    a).getD 0 ≤ s.dev.rtc.secs ∧ s.w.almMatch a (s.dev.rtc.secs + 1) 0 7 = true then u.bitOf (W.almFlag a) = true ∧
    u.bitOf (RTC_ALM_CTRL_arm a) = false ∧ tblGet u.dev.rtc.lastFire a = some (s.dev.rtc.secs + 1) ∧ (s.dev.op =
    .sleep → s.bitOf (RTC_ALM_CTRL_wake a) = true → (tblGet s.dev.rtc.lastFire a).getD 0 ≤ s.dev.rtc.secs → u.reg
    (if a = 0 then WCH_WAKE_CAUSE_alarm0 else WCH_WAKE_CAUSE_alarm1) = 1) else u.bitOf (RTC_ALM_CTRL_arm a) = true
    ∧ u.bitOf (W.almFlag a) = s.bitOf (W.almFlag a) ∧ tblGet u.dev.rtc.lastFire a = tblGet s.dev.rtc.lastFire a) ∧
  (∀ (s : State) (t : Nat), s.dev.sys.watch = false ∨ s.dev.rtc.stopped = true → ∃ u, exec (.rtcSecond t) s = .next
    u ∧ u.dev.rtc.secs = s.dev.rtc.secs ∧ u.dev.rtc.sub = s.dev.rtc.sub ∧ u.dev.rtc.in60 = s.dev.rtc.in60) ∧
  (∀ (s : State) (t : Nat), s.dev.sys.watch = true ∧ s.dev.rtc.stopped = false → ∃ u, exec (.oscStopped t) s =
    .next u ∧ u.dev.rtc.stopped = true ∧ u.dev.rtc.setSince = false ∧ u.dev.rtc.secs = s.dev.rtc.secs ∧
    u.dev.rtc.sub = (s.w.at_ t).rtcSubAt (max s.dev.rtc.subUp (s.upAt t - 4000000)) ∧ u.bitOf RTC_EVENT_osc_stopped
    = true) ∧
  (∀ (s : State) (t : Nat), s.dev.sys.watch = false ∨ s.dev.rtc.stopped = true → ∃ u, exec (.oscStopped t) s =
    .next u ∧ u.dev.rtc = s.dev.rtc) ∧
  (∀ (s : State) (t : Nat), ∃ u, exec (.oscillatorRestart t) s = .next u ∧ u.dev.rtc = (if s.dev.rtc.stopped then
    { s.dev.rtc with stopped := false, subUp := s.upAt t } else s.dev.rtc)) ∧
  (∀ (s : State), s.dev.sys.watch = true → ∃ u, exec .oscStoppedClear s = .next u ∧ u.dev.rtc = s.dev.rtc ∧ u.bitOf
    RTC_EVENT_osc_stopped = (s.bitOf RTC_EVENT_osc_stopped && !s.dev.rtc.setSince)) ∧
  (∀ (s : State) (k : Nat), s.lanes ∧ k < 3 ∧ s.dev.rtc.shadow.all (fun x => decide (x.since + 1000000000 ≤
    s.dev.tb.up)) = true → ∃ u, exec (.rtcTimeRead k) s = .next u ∧ u.dev.resp = ⟨(s.w.rtcWords.getD k 0 |||
    BitVec.ofNat 32 ((s.dev.rtc.snap + 1) % 16 * 2 ^ 28)).toNat, false⟩ ∧ u.dev.rtc.snap = (s.dev.rtc.snap + 1) %
    16 ∧ u.dev.rtc.shadow = some ⟨s.w.rtcWords.map (fun x => x ||| BitVec.ofNat 32 ((s.dev.rtc.snap + 1) % 16 * 2 ^
    28)), s.dev.tb.up, [k]⟩ ∧ (s.dev.rtc.shadow ≠ none → u.bitOf RTC_EVENT_shadow_timeout = true)) ∧
  (∀ (s : State) (k : Nat) (x : RtcShadow), s.lanes ∧ k < 3 ∧ s.dev.rtc.shadow = some x ∧ s.dev.tb.up < x.since +
    1000000000 → ∃ u, exec (.rtcTimeRead k) s = .next u ∧ u.dev.resp = ⟨(x.words.getD k 0).toNat, false⟩ ∧
    u.dev.rtc.snap = s.dev.rtc.snap ∧ u.dev.rtc.shadow = (if x.seen.contains k then (if x.seen.length = 3 then none
    else some x) else if x.seen.length = 2 then none else some { x with seen := k :: x.seen })) ∧
  (∀ (s : State) (t : Nat) (x : RtcShadow), s.dev.rtc.shadow = some x → ∃ u, exec (.shadowTimeout t) s = .next u ∧
    if x.since + 1000000000 ≤ s.upAt t then u.dev.rtc.shadow = none ∧ u.bitOf RTC_EVENT_shadow_timeout = true else
    u.dev.rtc = s.dev.rtc) ∧
  (∀ (s : State) (t : Nat), s.dev.rtc.shadow = none → ∃ u, exec (.shadowTimeout t) s = .next u ∧ u.dev.rtc =
    s.dev.rtc)

/-- RTC_SET of a powered clock, SET next into CLK_AON: staging that passes the checks is loaded; any other changes
  nothing and sets write_err. Staging writes ahead of it are taken first. It is a step: an armed alarm fires for
  the latest matching instant it crosses above its floor. At a whole TAI second, LOCKED and enabled,
  DISCIPLINE_COMPARE writes the error: to 1 tick disciplined, to 1 ms slewed, above stepped to UTC. Not LOCKED or
  disabled: disciplined 0, no slew; at no second not yet compared: nothing. AUTO_CAL after 1,024 s of discipline
  adds the net slew over 32 to cal where enabled; not before. ALARM_WRITE in range sets the date or time and drops
  the last fire instant; out of range it sets write_err alone. ALARM_ARM sets mask and arm, with the floor of R357.
  AON_WRITE_ARRIVAL carries out the oldest write in its way: one of staging sets its word, with none nothing.
  Unpowered, the clock takes no command. Error and slew are in ticks of 1/32,768 s. What a clause says beyond the
  rules cited is the model's own convention: log entries 3, 4 and 87. -/
def Obligations.CalendarSetting : Prop :=
  (∀ (s : State) (t secs sub : Nat), s.dev.sys.watch = true ∧ s.w.stagedTime = some (secs, sub) ∧
    (match s.dev.rtc.aon with | [] => true | x :: _ => x.1 == RTC_CMD_cmd.addr && bits x.2.toNat 3 0 == 1) = true →
    ∃ u, exec (.rtcSet t) s = .next u ∧ u.dev.rtc.secs = secs ∧ u.dev.rtc.sub = sub ∧ u.dev.rtc.in60 = false ∧
    u.dev.rtc.setSince = true ∧ u.reg RTC_STATUS_set_busy = 0 ∧ u.dev.rtc.aon = s.dev.rtc.aon.tail) ∧
  (∀ (s : State) (t : Nat), s.dev.sys.watch = true ∧ s.w.stagedTime = none ∧
    (match s.dev.rtc.aon with | [] => true | x :: _ => x.1 == RTC_CMD_cmd.addr && bits x.2.toNat 3 0 == 1) = true →
    ∃ u, exec (.rtcSet t) s = .next u ∧ u.dev.rtc.secs = s.dev.rtc.secs ∧ u.dev.rtc.sub = s.dev.rtc.sub ∧
    u.dev.rtc.setSince = s.dev.rtc.setSince ∧ u.reg RTC_STATUS_set_busy = 0 ∧ u.bitOf RTC_EVENT_write_err = true) ∧
  (∀ (s : State) (t secs sub : Nat) (x y z : W32) (rest : List (Nat × W32)), s.dev.sys.watch = true ∧ s.dev.rtc.aon
    = (RTC_SET_TIME0_subsec.addr, x) :: (RTC_SET_TIME1_minute.addr, y) :: (RTC_SET_DATE_day.addr, z) ::
    (RTC_CMD_cmd.addr, 1) :: rest ∧ s.dev.rtc.stage.length = 3 ∧ (s.w.setRtc
    { s.dev.rtc with stage := [x, y, z] }).stagedTime = some (secs, sub) → ∃ u, exec (.rtcSet t) s = .next u ∧
    u.dev.rtc.secs = secs ∧ u.dev.rtc.sub = sub ∧ u.dev.rtc.setSince = true ∧ u.dev.rtc.aon = rest) ∧
  (∀ (s : State) (t secs sub a x : Nat), s.dev.sys.watch = true ∧ s.w.stagedTime = some (secs, sub) ∧ s.dev.rtc.aon
    = [] ∧ a < 2 ∧ s.bitOf (RTC_ALM_CTRL_arm a) = true ∧ s.bitOf RTC_EVENT_osc_stopped = false ∧ s.w.almLatest a
    (max s.dev.rtc.secs ((tblGet s.dev.rtc.floors a).getD 0)) secs ((secs - max s.dev.rtc.secs ((tblGet
    s.dev.rtc.floors a).getD 0)) / 86400 + 2) = some x → ∃ u, exec (.rtcSet t) s = .next u ∧ u.bitOf (W.almFlag a)
    = true ∧ u.bitOf (RTC_ALM_CTRL_arm a) = false ∧ tblGet u.dev.rtc.lastFire a = some x ∧ (x < secs → u.bitOf
    (W.skipFlag a) = true)) ∧
  (∀ (s : State) (t : Nat) (x y : Int), s.w.mainOn = true ∧ s.dev.sys.watch = true ∧ s.reg TBS_STATUS_servo_state =
    2 ∧ s.bitOf RTC_CTRL_disc_enable = true ∧ s.nsAt t % 1000000000 = 0 ∧ s.dev.rtc.cmp ≠ s.nsAt t / 1000000000 ∧ y
    = ((s.nsAt t : Int) - sgn 16 (s.reg TBS_UTC_OFFSET_tai_utc) * 1000000000) * 32768 / 1000000000 ∧ x =
    ((s.dev.rtc.secs * 32768 + (s.w.at_ t).rtcSub : Nat) : Int) - y → ∃ u, exec (.disciplineCompare t) s = .next u
    ∧ u.reg RTC_DISC_ERR_v = unsgn 32 (clip (-0x7FFFFFFF) 0x7FFFFFFF x) ∧ u.dev.rtc.run = s.dev.rtc.run + 1 ∧
    u.dev.rtc.cmp = s.nsAt t / 1000000000 ∧ (if -1 ≤ x ∧ x ≤ 1 then u.reg RTC_STATUS_disciplined = 1 ∧ u.reg
    RTC_STATUS_slewing = 0 ∧ u.dev.rtc.slew = 0 ∧ u.dev.rtc.secs = s.dev.rtc.secs else if x.natAbs ≤ 32 then u.reg
    RTC_STATUS_slewing = 1 ∧ u.dev.rtc.slew = (if 0 < x then -1 else 1) ∧ u.dev.rtc.secs = s.dev.rtc.secs else
    u.dev.rtc.secs = (y / 32768).toNat ∧ u.dev.rtc.sub = (y % 32768).toNat ∧ u.bitOf RTC_EVENT_stepped = true ∧
    u.reg RTC_STATUS_slewing = 0)) ∧
  (∀ (s : State) (t : Nat), s.w.mainOn = true ∧ s.dev.sys.watch = true ∧ (s.reg TBS_STATUS_servo_state ≠ 2 ∨
    s.bitOf RTC_CTRL_disc_enable = false) → ∃ u, exec (.disciplineCompare t) s = .next u ∧ u.dev.rtc.secs =
    s.dev.rtc.secs ∧ u.reg RTC_STATUS_disciplined = 0 ∧ u.dev.rtc.slew = 0 ∧ u.reg RTC_DISC_ERR_v = s.reg
    RTC_DISC_ERR_v) ∧
  (∀ (s : State) (t : Nat), s.w.mainOn = false ∨ s.dev.sys.watch = false ∨ s.nsAt t % 1000000000 ≠ 0 ∨
    s.dev.rtc.cmp = s.nsAt t / 1000000000 → ∃ u, exec (.disciplineCompare t) s = .next u ∧ u.dev.rtc.secs =
    s.dev.rtc.secs ∧ u.reg RTC_DISC_ERR_v = s.reg RTC_DISC_ERR_v ∧ u.bitOf RTC_EVENT_stepped = s.bitOf
    RTC_EVENT_stepped) ∧
  (∀ (s : State) (t : Nat), s.dev.sys.watch = true → ∃ u, exec (.autoCal t) s = .next u ∧ if s.dev.rtc.run < 1024
    then u.reg RTC_CAL_cal = s.reg RTC_CAL_cal ∧ u.dev.rtc.run = s.dev.rtc.run ∧ u.dev.rtc.net = s.dev.rtc.net else
    u.dev.rtc.run = 0 ∧ u.dev.rtc.net = 0 ∧ u.reg RTC_CAL_cal = (if s.bitOf RTC_CTRL_auto_cal then unsgn 10 (clip
    (-511) 511 (s.w.rtcCal + roundDiv s.dev.rtc.net 32)) else s.reg RTC_CAL_cal)) ∧
  (∀ (s : State) (a : Nat) (v : W32), a < 2 ∧ s.dev.sys.watch = true → ∃ u, exec (.alarmWrite a true v) s = .next u
    ∧ if 1 ≤ bits v.toNat 4 0 ∧ 1 ≤ bits v.toNat 11 8 ∧ bits v.toNat 11 8 ≤ 12 ∧ 2000 ≤ bits v.toNat 25 12 ∧ bits
    v.toNat 25 12 ≤ 9999 then u.reg (RTC_ALM_DATE_day a) = bits v.toNat 4 0 ∧ u.reg (RTC_ALM_DATE_month a) = bits
    v.toNat 11 8 ∧ u.reg (RTC_ALM_DATE_year a) = bits v.toNat 25 12 ∧ tblGet u.dev.rtc.lastFire a = none else
    u.word (RTC_ALM_DATE_day a).addr = s.word (RTC_ALM_DATE_day a).addr ∧ u.dev.rtc = s.dev.rtc ∧ u.bitOf
    RTC_EVENT_write_err = true) ∧
  (∀ (s : State) (a : Nat) (v : W32), a < 2 ∧ s.dev.sys.watch = true → ∃ u, exec (.alarmWrite a false v) s = .next
    u ∧ if bits v.toNat 5 0 ≤ 60 ∧ bits v.toNat 13 8 < 60 ∧ bits v.toNat 20 16 < 24 ∧ 1 ≤ bits v.toNat 26 24 then
    u.reg (RTC_ALM_TIME_second a) = bits v.toNat 5 0 ∧ u.reg (RTC_ALM_TIME_minute a) = bits v.toNat 13 8 ∧ u.reg
    (RTC_ALM_TIME_hour a) = bits v.toNat 20 16 ∧ u.reg (RTC_ALM_TIME_weekday a) = bits v.toNat 26 24 ∧ tblGet
    u.dev.rtc.lastFire a = none else u.word (RTC_ALM_TIME_second a).addr = s.word (RTC_ALM_TIME_second a).addr ∧
    u.dev.rtc = s.dev.rtc ∧ u.bitOf RTC_EVENT_write_err = true) ∧
  (∀ (s : State) (a : Nat) (v : W32), a < 2 ∧ s.dev.sys.watch = true → ∃ u, exec (.alarmArm a v) s = .next u ∧
    u.bitOf (RTC_ALM_CTRL_arm a) = v.getLsbD 0 ∧ u.reg (RTC_ALM_CTRL_mask a) = bits v.toNat 8 2 ∧ u.bitOf
    (RTC_ALM_CTRL_wake a) = v.getLsbD 16 ∧ tblGet u.dev.rtc.floors a = (if v.getLsbD 0 then some (max
    s.dev.rtc.secs ((tblGet s.dev.rtc.lastFire a).getD 0)) else tblGet s.dev.rtc.floors a)) ∧
  (∀ (s : State) (t a : Nat) (v : W32) (rest : List (Nat × W32)), s.dev.rtc.aon = (a, v) :: rest ∧ blockAt a ≠ 3 →
    ∃ u, exec (.aonWriteArrival t) s = .next u ∧ u.dev.rtc.aon = rest ∧ u.dev.regs = s.dev.regs.busWrite a v) ∧
  (∀ (s : State) (t : Nat) (v : W32) (rest : List (Nat × W32)), s.dev.rtc.aon = (RTC_SET_TIME1_minute.addr, v) ::
    rest ∧ s.dev.sys.watch = true ∧ s.dev.rtc.stage.length = 3 → ∃ u, exec (.aonWriteArrival t) s = .next u ∧
    u.dev.rtc.aon = rest ∧ u.dev.rtc.stage.getD 1 0 = v ∧ u.dev.rtc.secs = s.dev.rtc.secs) ∧
  (∀ (s : State) (t : Nat), s.dev.rtc.aon = [] → ∃ u, exec (.aonWriteArrival t) s = .next u ∧ u.dev.rtc = s.dev.rtc
    ∧ u.dev.regs = s.dev.regs) ∧
  (∀ (s : State) (a t : Nat) (b : Bool) (v : W32), a < 2 ∧ s.dev.sys.watch = false → ∀ c ∈ [Instr.rtcSet t,
    .autoCal t, .alarmWrite a b v, .alarmArm a v], ∃ u, exec c s = .next u ∧ u.dev.rtc = s.dev.rtc ∧ u.dev.regs =
    s.dev.regs)

/-- LOAD of a blob that opens, fits its policy, has not expired and has room in the used-key register fills the
  working slot; any LOAD answers the first of SLOT, SOURCE, the blob's own fault, EXPIRED and USED_FULL that
  applies, else NONE, and one refused changes no slot. UNLOAD empties a working slot; of an anchor slot it answers
  SLOT. IMPORT from machine mode, its checks passed and the destination apart, wraps the key for the target state,
  writes the blob, zeroes the key's bytes at the source, and loads it where the slot is a working one and the state
  the current; for another target it answers STATE, from elsewhere SOURCE. EXPORT writes the blob of an exportable
  loaded key under the KEK named; else TAMPER, SLOT or POLICY. REWRAP_NEXT writes the opened chain-bound blob under
  the next start's chain, shown in KEY_NEXT; with no next chain NO_NEXT. Under a working key whose uses permit it
  and with a source and destination in RAM: OP_HMAC writes the tag, OP_GCM_ENC the cipher text and tag, OP_GCM_DEC
  the plain text where the tag holds, else TAG and nothing, OP_VERIFY answers NONE or TAG; else TAMPER, SLOT or
  POLICY. Outside machine mode IMPORT, EXPORT, REWRAP_NEXT, LC_CHANGE, ANCHOR_WRITE and CLEAR_TAMPER answer
  PRIVILEGE; in DECOMMISSIONED every key command answers STATE. A working key is one of a slot in state 1 or 3.
  What a clause says beyond the rules cited is the model's own convention: log entries 3, 4, 32 to 35 and 143. -/
def Obligations.KeyCommands : Prop :=
  (∀ (s : State) (slot : Nat) (h k : List Byte), s.lanes ∧ s.dev.key.lc ≠ 4 ∧ slot < 56 ∧ 48 ≤ s.reg KEY_SRC_LEN_v
    ∧ s.reg KEY_SRC_LEN_v ≤ 4096 ∧ inRam s.w.keySrc (s.reg KEY_SRC_LEN_v) = true ∧ s.w.keySrc % 8 = 0 ∧ s.reg
    KEY_SRC_LEN_v = 48 + kWrapped (s.w.rdBytes s.w.keySrc (s.reg KEY_SRC_LEN_v)) ∧ (s.w.openBlob (s.w.rdBytes
    s.w.keySrc (s.reg KEY_SRC_LEN_v))).toOption = some (h, k) ∧ (kNotAfter h = 0 ∨ s.w.sec ≤ kNotAfter h) ∧ (kFlag
    h 2 = false ∨ s.dev.key.used.contains (kId h) = true ∨ s.dev.key.used.length < 4096) → ∃ u, exec (.keyLoad
    slot) s = .next u ∧ u.w.slotAt slot = ⟨1, 0, h, k⟩ ∧ u.reg (KEY_SLOT_INFO_state slot) = 1 ∧ u.reg
    (KEY_SLOT_INFO_key_type slot) = kType h % 8 ∧ u.reg KEY_CMD_STATUS_busy = 0 ∧ u.reg KEY_CMD_STATUS_done = 1 ∧
    u.reg KEY_CMD_STATUS_result = 0) ∧
  (∀ (s : State) (slot : Nat), s.lanes ∧ s.dev.key.lc ≠ 4 ∧ slot < 64 → ∃ u, exec (.keyLoad slot) s = .next u ∧
    u.reg KEY_CMD_STATUS_done = 1 ∧ u.mem = s.mem ∧ (u.reg KEY_CMD_STATUS_result ≠ 0 → u.dev.key = s.dev.key) ∧
    u.reg KEY_CMD_STATUS_result = (if 56 ≤ slot then 2 else if s.reg KEY_SRC_LEN_v < 48 ∨ 4096 < s.reg
    KEY_SRC_LEN_v ∨ inRam s.w.keySrc (s.reg KEY_SRC_LEN_v) = false ∨ s.w.keySrc % 8 ≠ 0 ∨ s.reg KEY_SRC_LEN_v ≠ 48
    + kWrapped (s.w.rdBytes s.w.keySrc (s.reg KEY_SRC_LEN_v)) then 3 else
    (match s.w.openBlob (s.w.rdBytes s.w.keySrc (s.reg KEY_SRC_LEN_v)) with | .error x => x % 256 | .ok (h, _) => if kNotAfter h ≠ 0 ∧ kNotAfter h < s.w.sec then 0x10 else if kFlag h 2 ∧ !s.dev.key.used.contains (kId h) ∧ 4096 ≤ s.dev.key.used.length then 0x0A else 0))) ∧
  (∀ (s : State) (slot : Nat), s.lanes ∧ s.dev.key.lc ≠ 4 ∧ slot < 64 → ∃ u, exec (.unload slot) s = .next u ∧
    u.reg KEY_CMD_STATUS_done = 1 ∧ (if slot < 56 then u.w.slotAt slot = KeySlot.empty ∧ u.reg (KEY_SLOT_INFO_state
    slot) = 0 ∧ u.reg (KEY_SLOT_USES_v slot) = 0 ∧ u.reg (KEY_SLOT_ID_LO_v slot) = 0 ∧ u.reg KEY_CMD_STATUS_result
    = 0 else u.dev.key = s.dev.key ∧ u.reg KEY_CMD_STATUS_result = 2)) ∧
  (∀ (s : State) (slot target n : Nat) (b kek : List Byte), s.lanes ∧ s.dev.key.lc ≠ 4 ∧ slot < 64 ∧ target < 8 ∧
    (target = s.dev.key.lc ∨ (target = 2 ∧ (s.dev.key.lc = 1 ∨ s.dev.key.lc = 3))) ∧ n = s.reg KEY_SRC_LEN_v ∧ 48 ≤
    n ∧ 0x10000000 ≤ s.w.keySrc ∧ s.w.keySrc + n ≤ 0x12800000 ∧ b = s.w.rdBytes s.w.keySrc (min n 256) ∧ n = 48 +
    kLen b ∧ headerOk (b.take 48) = true ∧ policyOk (b.take 48) target = true ∧ s.dev.key.root.isSome = true ∧
    s.w.tampered = false ∧ s.w.kekFor (b.take 48) target (W.chainOf s.dev.key.digests) = some kek ∧ inRam
    s.w.keyDst (W.blobOf kek (b.take 48) (b.drop 48)).length = true ∧ (s.w.keySrc + n ≤ s.w.keyDst ∨ s.w.keyDst +
    (W.blobOf kek (b.take 48) (b.drop 48)).length ≤ s.w.keySrc) ∧ kNotAfter b = 0 ∧ kFlag b 2 = false → ∃ u, exec
    (.importKey true slot target) s = .next u ∧ (upTo (W.blobOf kek (b.take 48) (b.drop 48)).length).map (fun k =>
    u.mem.rd (s.w.keyDst + k)) = W.blobOf kek (b.take 48) (b.drop 48) ∧ (upTo (kLen b)).map (fun k => u.mem.rd
    (s.w.keySrc + 48 + k)) = List.replicate (kLen b) 0 ∧ u.reg KEY_DST_LEN_v = (W.blobOf kek (b.take 48) (b.drop
    48)).length ∧ u.reg KEY_CMD_STATUS_result = 0 ∧ (if slot < 56 ∧ target = s.dev.key.lc then u.w.slotAt slot =
    ⟨1, 0, b.take 48, b.drop 48⟩ else u.dev.key = s.dev.key)) ∧
  (∀ (s : State) (slot target : Nat), s.lanes ∧ s.dev.key.lc ≠ 4 ∧ slot < 64 ∧ target < 8 ∧ ((target ≠ s.dev.key.lc
    ∧ (target ≠ 2 ∨ (s.dev.key.lc ≠ 1 ∧ s.dev.key.lc ≠ 3))) ∨ s.w.keySrc < 0x10000000 ∨ 0x12800000 < s.w.keySrc +
    s.reg KEY_SRC_LEN_v ∨ s.reg KEY_SRC_LEN_v < 48) → ∃ u, exec (.importKey true slot target) s = .next u ∧
    u.dev.key = s.dev.key ∧ u.mem = s.mem ∧ u.reg KEY_CMD_STATUS_done = 1 ∧ u.reg KEY_CMD_STATUS_result = (if
    target ≠ s.dev.key.lc ∧ (target ≠ 2 ∨ (s.dev.key.lc ≠ 1 ∧ s.dev.key.lc ≠ 3)) then 1 else 3)) ∧
  (∀ (s : State) (slot aux : Nat) (h kek : List Byte), s.lanes ∧ s.dev.key.lc ≠ 4 ∧ slot < 56 ∧ aux < 256 ∧
    s.w.tampered = false ∧ (s.w.slotAt slot).state = 1 ∧ kFlag (s.w.slotAt slot).header 1 = true ∧ h = (s.w.slotAt
    slot).header.take 6 ++ leBytes 1 aux ++ (s.w.slotAt slot).header.drop 7 ∧ s.w.kekFor h s.dev.key.lc (W.chainOf
    s.dev.key.digests) = some kek ∧ (aux ≠ 0xFF ∨ s.dev.key.root.isSome = true) ∧ inRam s.w.keyDst (W.blobOf kek h
    (s.w.slotAt slot).key).length = true → ∃ u, exec (.exportKey true slot aux) s = .next u ∧ (upTo (W.blobOf kek h
    (s.w.slotAt slot).key).length).map (fun k => u.mem.rd (s.w.keyDst + k)) = W.blobOf kek h (s.w.slotAt slot).key
    ∧ u.reg KEY_DST_LEN_v = (W.blobOf kek h (s.w.slotAt slot).key).length ∧ u.dev.key = s.dev.key ∧ u.reg
    KEY_CMD_STATUS_result = 0) ∧
  (∀ (s : State) (slot aux : Nat), s.lanes ∧ s.dev.key.lc ≠ 4 ∧ slot < 64 ∧ aux < 256 ∧ (s.w.tampered = true ∨ 56 ≤
    slot ∨ (s.w.slotAt slot).state ≠ 1 ∨ kFlag (s.w.slotAt slot).header 1 = false) → ∃ u, exec (.exportKey true
    slot aux) s = .next u ∧ u.dev.key = s.dev.key ∧ u.mem = s.mem ∧ u.reg KEY_CMD_STATUS_done = 1 ∧ u.reg
    KEY_CMD_STATUS_result = (if s.w.tampered then 7 else if 56 ≤ slot ∨ (s.w.slotAt slot).state ≠ 1 then 2 else 6)) ∧
  (∀ (s : State) (aux : Nat) (h k kek : List Byte) (ds : List (List Byte)), s.lanes ∧ s.dev.key.lc ≠ 4 ∧ aux < 256
    ∧ 48 ≤ s.reg KEY_SRC_LEN_v ∧ s.reg KEY_SRC_LEN_v ≤ 4096 ∧ inRam s.w.keySrc (s.reg KEY_SRC_LEN_v) = true ∧
    s.w.keySrc % 8 = 0 ∧ s.reg KEY_SRC_LEN_v = 48 + kWrapped (s.w.rdBytes s.w.keySrc (s.reg KEY_SRC_LEN_v)) ∧
    (s.w.openBlob (s.w.rdBytes s.w.keySrc (s.reg KEY_SRC_LEN_v))).toOption = some (h, k) ∧ kFlag h 0 = true ∧
    s.w.nextDigests aux = some ds ∧ kKek h = 0xFF ∧ s.w.kekFor h s.dev.key.lc (W.chainOf ds) = some kek ∧ inRam
    s.w.keyDst (W.blobOf kek h k).length = true → ∃ u, exec (.rewrapNext true aux) s = .next u ∧ (upTo (W.blobOf
    kek h k).length).map (fun i => u.mem.rd (s.w.keyDst + i)) = W.blobOf kek h k ∧ (upTo 12).all (fun j => u.reg
    (KEY_NEXT_v j) == le (W.chainOf ds) (4 * j) 4) = true ∧ u.reg KEY_DST_LEN_v = (W.blobOf kek h k).length ∧
    u.dev.key = s.dev.key ∧ u.reg KEY_CMD_STATUS_result = 0) ∧
  (∀ (s : State) (aux : Nat) (h k : List Byte), s.lanes ∧ s.dev.key.lc ≠ 4 ∧ aux < 256 ∧ 48 ≤ s.reg KEY_SRC_LEN_v ∧
    s.reg KEY_SRC_LEN_v ≤ 4096 ∧ inRam s.w.keySrc (s.reg KEY_SRC_LEN_v) = true ∧ s.w.keySrc % 8 = 0 ∧ s.reg
    KEY_SRC_LEN_v = 48 + kWrapped (s.w.rdBytes s.w.keySrc (s.reg KEY_SRC_LEN_v)) ∧ (s.w.openBlob (s.w.rdBytes
    s.w.keySrc (s.reg KEY_SRC_LEN_v))).toOption = some (h, k) ∧ kFlag h 0 = true ∧ s.w.nextDigests aux = none → ∃
    u, exec (.rewrapNext true aux) s = .next u ∧ u.dev.key = s.dev.key ∧ u.mem = s.mem ∧ u.reg KEY_CMD_STATUS_done
    = 1 ∧ u.reg KEY_CMD_STATUS_result = 0x0B) ∧
  (∀ (s : State) (slot : Nat), s.lanes ∧ s.dev.key.lc ≠ 4 ∧ slot < 64 ∧ s.w.tampered = false ∧ ((s.w.slotAt
    slot).state = 1 ∨ (s.w.slotAt slot).state = 3) ∧ tst (s.w.slotAt slot).uses 6 = true → ∃ u, exec (.opHmac slot)
    s = .next u ∧ u.dev.key = s.dev.key ∧ u.reg KEY_CMD_STATUS_done = 1 ∧ (if 1 ≤ s.reg KEY_SRC_LEN_v ∧ s.reg
    KEY_SRC_LEN_v ≤ 65536 ∧ inRam s.w.keySrc (s.reg KEY_SRC_LEN_v) = true ∧ inRam s.w.keyDst 32 = true then (upTo
    32).map (fun k => u.mem.rd (s.w.keyDst + k)) = hmac256 (s.w.slotAt slot).key (s.w.rdBytes s.w.keySrc (s.reg
    KEY_SRC_LEN_v)) ∧ u.reg KEY_DST_LEN_v = 32 ∧ u.reg KEY_CMD_STATUS_result = 0 else u.mem = s.mem ∧ u.reg
    KEY_CMD_STATUS_result = 3)) ∧
  (∀ (s : State) (slot : Nat) (iv aad d : List Byte), s.lanes ∧ s.dev.key.lc ≠ 4 ∧ slot < 64 ∧ s.w.tampered = false
    ∧ ((s.w.slotAt slot).state = 1 ∨ (s.w.slotAt slot).state = 3) ∧ tst (s.w.slotAt slot).uses 7 = true ∧
    s.w.gcmParts = some (iv, aad, d) ∧ inRam s.w.keyDst (d.length + 16) = true → ∃ u, exec (.opGcmEnc slot) s =
    .next u ∧ (upTo (d.length + 16)).map (fun k => u.mem.rd (s.w.keyDst + k)) = gcmCrypt (aesKeys (s.w.slotAt
    slot).key) iv d ++ gcmTag (aesKeys (s.w.slotAt slot).key) iv aad (gcmCrypt (aesKeys (s.w.slotAt slot).key) iv
    d) ∧ u.reg KEY_DST_LEN_v = (d.length + 16) % 2 ^ 32 ∧ u.dev.key = s.dev.key ∧ u.reg KEY_CMD_STATUS_result = 0) ∧
  (∀ (s : State) (slot : Nat) (iv aad d c : List Byte), s.lanes ∧ s.dev.key.lc ≠ 4 ∧ slot < 64 ∧ s.w.tampered =
    false ∧ ((s.w.slotAt slot).state = 1 ∨ (s.w.slotAt slot).state = 3) ∧ tst (s.w.slotAt slot).uses 7 = true ∧
    s.w.gcmParts = some (iv, aad, d) ∧ 16 ≤ d.length ∧ c = d.take (d.length - 16) ∧ inRam s.w.keyDst c.length =
    true → ∃ u, exec (.opGcmDec slot) s = .next u ∧ u.dev.key = s.dev.key ∧ (if gcmTag (aesKeys (s.w.slotAt
    slot).key) iv aad c = d.drop (d.length - 16) then (upTo c.length).map (fun k => u.mem.rd (s.w.keyDst + k)) =
    gcmCrypt (aesKeys (s.w.slotAt slot).key) iv c ∧ u.reg KEY_DST_LEN_v = c.length % 2 ^ 32 ∧ u.reg
    KEY_CMD_STATUS_result = 0 else u.mem = s.mem ∧ u.reg KEY_CMD_STATUS_result = 0x11)) ∧
  (∀ (s : State) (slot : Nat), s.lanes ∧ s.dev.key.lc ≠ 4 ∧ slot < 64 ∧ s.w.tampered = false ∧ ((s.w.slotAt
    slot).state = 1 ∨ (s.w.slotAt slot).state = 3) ∧ tst (s.w.slotAt slot).uses 8 = true → ∃ u, exec (.opVerify
    slot) s = .next u ∧ u.reg KEY_CMD_STATUS_result = (if s.reg KEY_SRC_LEN_v ≠ 144 ∨ inRam s.w.keySrc 144 = false
    then 3 else if ecdsaOk (s.w.slotAt slot).key ((s.w.rdBytes s.w.keySrc 144).take 48) ((s.w.rdBytes s.w.keySrc
    144).drop 48) then 0 else 0x11) ∧ u.reg KEY_CMD_STATUS_done = 1 ∧ u.dev.key = s.dev.key ∧ u.mem = s.mem) ∧
  (∀ (s : State) (slot : Nat), s.lanes ∧ s.dev.key.lc ≠ 4 ∧ slot < 64 ∧ (s.w.tampered = true ∨ ((s.w.slotAt
    slot).state ≠ 1 ∧ (s.w.slotAt slot).state ≠ 3) ∨ (s.w.slotAt slot).uses = 0) → ∀ c ∈ [(6, Instr.opHmac slot),
    (7, .opGcmEnc slot), (7, .opGcmDec slot), (8, .opVerify slot)], ∃ u, exec c.2 s = .next u ∧ u.dev.key =
    s.dev.key ∧ u.mem = s.mem ∧ u.reg KEY_CMD_STATUS_result = (if s.w.tampered then 7 else if (s.w.slotAt
    slot).state ≠ 1 ∧ (s.w.slotAt slot).state ≠ 3 then 2 else if tst (s.w.slotAt slot).uses c.1 = false then 6 else
    u.reg KEY_CMD_STATUS_result)) ∧
  (∀ (s : State) (slot target aux : Nat), s.lanes ∧ slot < 64 ∧ target < 8 ∧ aux < 256 → ∀ c ∈ [Instr.importKey
    false slot target, .exportKey false slot aux, .rewrapNext false aux, .lcChange false target, .anchorWrite false
    target, .clearTamper false], ∃ u, exec c s = .next u ∧ u.dev.key = s.dev.key ∧ u.mem = s.mem ∧ u.reg
    KEY_CMD_STATUS_done = 1 ∧ u.reg KEY_CMD_STATUS_result = 0x0E) ∧
  (∀ (s : State) (slot target aux : Nat), s.lanes ∧ s.dev.key.lc = 4 ∧ slot < 64 ∧ target < 8 ∧ aux < 256 → ∀ c ∈
    [Instr.keyLoad slot, .unload slot, .importKey true slot target, .exportKey true slot aux, .rewrapNext true aux,
    .challenge, .authorise, .lcChange true target, .clearTamper true, .anchorWrite true target, .opHmac slot,
    .opGcmEnc slot, .opGcmDec slot, .opVerify slot], ∃ u, exec c s = .next u ∧ u.dev.key = s.dev.key ∧ u.mem =
    s.mem ∧ u.reg KEY_CMD_STATUS_done = 1 ∧ u.reg KEY_CMD_STATUS_result = 1)

/-- CHALLENGE draws a nonce of 32 bytes, shown in KEY_NONCE, and the grant lapses. AUTHORISE of a token of this
  module and an unused nonce at most 600 s old, signed under an authority anchor, grants its op; any other is
  refused with AUTH and auth_fail; one outside RAM with SOURCE. LC_CHANGE on its conditions empties the working
  slots, cancels the grant, writes the state with lc_change, and in DECOMMISSIONED keeps no root, anchor or used
  key; else it answers TAMPER, NO_GRANT or STATE. ANCHOR_WRITE copies 112 bytes of RAM into its entry in
  PROVISIONED, or under its grant, used by it, in OPERATIONAL and MAINTENANCE; else SOURCE, NO_GRANT or STATE.
  GRANT_EXPIRE ends a grant of 300 s with its event, and no other. TAMPER_SAMPLE counts each loop's run of abnormal
  or normal readings and shows it; nothing without VBAK. An enabled loop abnormal for the second time, or an
  enabled source that TAMPER_DETECT finds, no higher event on its edge, sets the latch once and zeroises root and
  working slots; where another is latched it adds its bit; in SLEEP it wakes the module, nothing retained; a source
  disabled or latched does nothing. CLEAR_TAMPER under its grant clears the latch once each enabled loop has read
  normal twice and no enabled source reads abnormal; else NO_GRANT or NOT_CLEAR. What a clause says beyond the
  rules cited is the model's own convention: log entries 3, 4, 34, 35, 94 and 143. -/
def Obligations.GrantsAndTamper : Prop :=
  (∀ (s : State), s.lanes ∧ s.dev.key.lc ≠ 4 → ∃ u, exec .challenge s = .next u ∧ u.dev.key.grant = none ∧
    u.dev.key.nonce.map (fun x => (x.1.length, x.2)) = some (32, s.dev.tb.up, false) ∧ (upTo 8).all (fun k => u.reg
    (KEY_NONCE_v k) == le ((u.dev.key.nonce.map (fun x => x.1)).getD []) (4 * k) 4) = true ∧ u.reg KEY_STATUS_grant
    = 0 ∧ u.reg KEY_CMD_STATUS_result = 0) ∧
  (∀ (s : State) (b : List Byte), s.lanes ∧ s.dev.key.lc ≠ 4 ∧ b = s.w.rdBytes s.w.keySrc 160 → ∃ u, exec
    .authorise s = .next u ∧ u.reg KEY_CMD_STATUS_done = 1 ∧ u.mem = s.mem ∧ (if inRam s.w.keySrc 160 = false then
    u.dev.key = s.dev.key ∧ u.reg KEY_CMD_STATUS_result = 3 else if le b 0 4 = 0x41544B5A ∧ le b 4 1 = 1 ∧ 1 ≤ le b
    5 1 ∧ le b 5 1 ≤ 5 ∧ cut b 8 16 = s.w.uidBytes ∧ allZero (cut b 56 8) = true ∧ s.dev.key.nonce.any (fun n =>
    n.1 == cut b 24 32 && !n.2.2 && decide (s.dev.tb.up ≤ n.2.1 + 600000000000)) = true ∧ (upTo 8).any (fun i =>
    (s.w.slotAt (56 + i)).state == 3 && (s.w.slotAt (56 + i)).kind == 3 && ecdsaOk (s.w.slotAt (56 + i)).key
    (sha384 (b.take 64)) (b.drop 64)) = true then u.dev.key.grant = some (le b 5 1, le b 6 2, s.dev.tb.up) ∧
    u.dev.key.nonce.map (fun n => n.2.2) = some true ∧ u.reg KEY_STATUS_grant = le b 5 1 ∧ u.reg
    KEY_CMD_STATUS_result = 0 else u.dev.key = s.dev.key ∧ u.bitOf KEY_EVENT_auth_fail = true ∧ u.reg
    KEY_CMD_STATUS_result = 8)) ∧
  (∀ (s : State) (target : Nat), s.lanes ∧ target < 8 ∧ (s.w.tampered = false ∨ target = 4) ∧ ((s.dev.key.lc = 0 ∧
    target = 1) ∨ (s.dev.key.lc = 1 ∧ target = 2 ∧ s.dev.key.anchors.any (fun a => le a.2 0 1 == 3) = true ∧
    s.dev.key.anchors.any (fun a => le a.2 0 1 == 1) = true) ∨ (s.dev.key.lc = 2 ∧ target = 3 ∧ s.w.granted 2 none
    = true) ∨ (s.dev.key.lc = 3 ∧ target = 2) ∨ (s.dev.key.lc < 2 ∧ target = 4) ∨ ((s.dev.key.lc = 2 ∨ s.dev.key.lc
    = 3) ∧ target = 4 ∧ s.w.granted 3 none = true)) → ∃ u, exec (.lcChange true target) s = .next u ∧ u.dev.key.lc
    = target ∧ u.dev.key.grant = none ∧ u.dev.lnv.inject = none ∧ (upTo 56).all (fun n => (u.w.slotAt n).state ==
    0) = true ∧ u.reg KEY_STATUS_lc_state = target ∧ u.bitOf KEY_EVENT_lc_change = true ∧ u.reg
    KEY_CMD_STATUS_result = 0 ∧ (if target = 4 then u.dev.key.root = none ∧ u.dev.key.anchors = [] ∧ u.dev.key.used
    = [] ∧ (upTo 64).all (fun n => (u.w.slotAt n).state == 0) = true else u.dev.key.anchors = s.dev.key.anchors ∧
    (target ≠ 1 → u.dev.key.root = s.dev.key.root))) ∧
  (∀ (s : State) (target : Nat), s.lanes ∧ target < 8 ∧ s.dev.key.lc ≠ 4 ∧ ¬((s.w.tampered = false ∨ target = 4) ∧
    ((s.dev.key.lc = 0 ∧ target = 1) ∨ (s.dev.key.lc = 1 ∧ target = 2 ∧ s.dev.key.anchors.any (fun a => le a.2 0 1
    == 3) = true ∧ s.dev.key.anchors.any (fun a => le a.2 0 1 == 1) = true) ∨ (s.dev.key.lc = 2 ∧ target = 3 ∧
    s.w.granted 2 none = true) ∨ (s.dev.key.lc = 3 ∧ target = 2) ∨ (s.dev.key.lc < 2 ∧ target = 4) ∨ ((s.dev.key.lc
    = 2 ∨ s.dev.key.lc = 3) ∧ target = 4 ∧ s.w.granted 3 none = true))) → ∃ u, exec (.lcChange true target) s =
    .next u ∧ u.dev.key = s.dev.key ∧ u.reg KEY_CMD_STATUS_done = 1 ∧ u.reg KEY_CMD_STATUS_result = (if
    s.w.tampered = true ∧ target ≠ 4 then 7 else if (s.dev.key.lc = 2 ∧ target = 3) ∨ ((s.dev.key.lc = 2 ∨
    s.dev.key.lc = 3) ∧ target = 4) then 9 else 1)) ∧
  (∀ (s : State) (entry : Nat), s.lanes ∧ s.dev.key.lc ≠ 4 ∧ entry < 8 → ∃ u, exec (.anchorWrite true entry) s =
    .next u ∧ u.reg KEY_CMD_STATUS_done = 1 ∧ (if s.dev.key.lc = 1 ∨ ((s.dev.key.lc = 2 ∨ s.dev.key.lc = 3) ∧
    s.w.granted 4 (some entry) = true) then (s.dev.key.lc ≠ 1 → u.dev.key.grant = none) ∧ (if inRam s.w.keySrc 112
    then tblGet u.dev.key.anchors entry = some (s.w.rdBytes s.w.keySrc 112) ∧ u.reg KEY_CMD_STATUS_result = 0 else
    u.dev.key.anchors = s.dev.key.anchors ∧ u.reg KEY_CMD_STATUS_result = 3) else u.dev.key = s.dev.key ∧ u.reg
    KEY_CMD_STATUS_result = (if s.dev.key.lc = 2 ∨ s.dev.key.lc = 3 then 9 else 1))) ∧
  (∀ (s : State) (t : Nat), ∃ u, exec (.grantExpire t) s = .next u ∧ if s.w.mainOn = true ∧ s.dev.key.grant.any
    (fun g => decide (g.2.2 + 300000000000 ≤ s.upAt t)) = true then u.dev.key.grant = none ∧ u.reg KEY_STATUS_grant
    = 0 ∧ u.bitOf KEY_EVENT_grant_expired = true else u.dev.key = s.dev.key) ∧
  (∀ (s : State) (a b : Bool) (t : Nat), s.dev.sys.watch = true ∧ s.dev.sys.vbak = true ∧ s.dev.key.abnormal.length
    = 2 ∧ s.dev.key.normal.length = 2 ∧ (s.w.loopsFire a b).isEmpty = true → ∃ u, exec (.tamperSample a b t) s =
    .next u ∧ u.dev.key.abnormal = [if a then s.dev.key.abnormal.getD 0 0 + 1 else 0, if b then
    s.dev.key.abnormal.getD 1 0 + 1 else 0] ∧ u.dev.key.normal = [if a then 0 else s.dev.key.normal.getD 0 0 + 1,
    if b then 0 else s.dev.key.normal.getD 1 0 + 1] ∧ u.bitOf ⟨KEY_TAMPER_STAT_now.addr, KEY_TAMPER_STAT_now.lo, 1⟩
    = a ∧ u.bitOf ⟨KEY_TAMPER_STAT_now.addr, KEY_TAMPER_STAT_now.lo + 1, 1⟩ = b ∧ u.reg KEY_TAMPER_STAT_latched =
    s.reg KEY_TAMPER_STAT_latched) ∧
  (∀ (s : State) (a b : Bool) (t : Nat), s.dev.sys.watch = false ∨ s.dev.sys.vbak = false → ∃ u, exec
    (.tamperSample a b t) s = .next u ∧ u.dev.key = s.dev.key ∧ u.dev.regs = s.dev.regs) ∧
  (∀ (s : State) (t : Nat), s.acts 3 t ∧ s.dev.op ≠ .sleep ∧ s.dev.op ≠ .restoring ∧ s.dev.sys.watch = true ∧
    s.dev.sys.vbak = true ∧ s.dev.key.abnormal.length = 2 ∧ s.dev.key.normal.length = 2 ∧ 1 ≤
    s.dev.key.abnormal.getD 0 0 ∧ tst (s.reg KEY_TAMPER_CFG_enables) 0 = true ∧ s.reg KEY_TAMPER_STAT_latched = 0 →
    ∃ u, exec (.tamperSample true false t) s = .next u ∧ tst (u.reg KEY_TAMPER_STAT_latched) 0 = true ∧
    u.dev.key.root = none ∧ (upTo 56).all (fun n => (u.w.slotAt n).state == (if (s.w.slotAt n).state = 0 then 0
    else 2)) = true ∧ u.reg KEY_STATUS_tamper_latched = 1 ∧ u.reg KEY_STATUS_root_ok = 0) ∧
  (∀ (s : State) (source t : Nat), source < 5 ∧ 2 ≤ source ∧ s.acts 3 t ∧ s.dev.op ≠ .sleep ∧ s.dev.op ≠ .restoring
    ∧ s.w.tamperTakes source = true ∧ s.reg KEY_TAMPER_STAT_latched = 0 → ∃ u, exec (.tamperDetect source t) s =
    .next u ∧ tst (u.reg KEY_TAMPER_STAT_latched) source = true ∧ u.dev.key.root = none ∧ (upTo 56).all (fun n =>
    (u.w.slotAt n).state == (if (s.w.slotAt n).state = 0 then 0 else 2)) = true ∧ u.reg KEY_STATUS_tamper_latched =
    1 ∧ u.reg KEY_STATUS_root_ok = 0) ∧
  (∀ (s : State) (source t : Nat), source < 5 ∧ 2 ≤ source ∧ s.acts 3 t ∧ s.dev.op ≠ .waking ∧ s.dev.op ≠
    .restoring ∧ s.w.tamperTakes source = true ∧ s.reg KEY_TAMPER_STAT_latched ≠ 0 → ∃ u, exec (.tamperDetect
    source t) s = .next u ∧ u.reg KEY_TAMPER_STAT_latched = s.reg KEY_TAMPER_STAT_latched ||| 2 ^ source ∧
    u.dev.key = s.dev.key) ∧
  (∀ (s : State) (source t : Nat), source < 5 ∧ 2 ≤ source ∧ s.acts 3 t ∧ s.dev.op = .sleep ∧ s.w.tamperTakes
    source = true ∧ s.reg KEY_TAMPER_STAT_latched = 0 → ∃ u, exec (.tamperDetect source t) s = .next u ∧ tst (u.reg
    KEY_TAMPER_STAT_latched) source = true ∧ u.dev.key.retained = [] ∧ u.reg WCH_WAKE_CAUSE_tamper = 1) ∧
  (∀ (s : State) (source t : Nat), source < 5 ∧ 2 ≤ source ∧ s.w.tamperTakes source = false → ∃ u, exec
    (.tamperDetect source t) s = .next u ∧ u.reg KEY_TAMPER_STAT_latched = s.reg KEY_TAMPER_STAT_latched ∧
    u.dev.key = s.dev.key) ∧
  (∀ (s : State), s.lanes ∧ s.dev.key.lc ≠ 4 → ∃ u, exec (.clearTamper true) s = .next u ∧ u.reg
    KEY_CMD_STATUS_done = 1 ∧ (if s.w.granted 1 none = false then u.dev.key = s.dev.key ∧ u.reg
    KEY_TAMPER_STAT_latched = s.reg KEY_TAMPER_STAT_latched ∧ u.reg KEY_CMD_STATUS_result = 9 else if ((upTo 2).all
    (fun i => !tst (s.reg KEY_TAMPER_CFG_enables) i || decide (2 ≤ s.dev.key.normal.getD i 0)) && (s.reg
    KEY_TAMPER_STAT_now &&& s.reg KEY_TAMPER_CFG_enables) == 0) = true then u.reg KEY_TAMPER_STAT_latched = 0 ∧
    u.dev.key.grant = none ∧ u.reg KEY_STATUS_tamper_latched = 0 ∧ u.reg KEY_CMD_STATUS_result = 0 else u.dev.key =
    s.dev.key ∧ u.reg KEY_TAMPER_STAT_latched = s.reg KEY_TAMPER_STAT_latched ∧ u.reg KEY_CMD_STATUS_result =
    0x0F))

/-- MAIN_SUPPLY_VALID in COLD, with RESET_N high, no power failure and no hold, enters WAKING with its cause and
  the next start count; carried to any stage, the start leaves COLD; else no start begins. DRAM_INIT_DONE sets
  dram_init_done while the main domain runs. MAIN_SUPPLY_LOST leads to COLD, but from SLEEP with VBAK stays in
  SLEEP; without VBAK the Watchman stops; with no supply it does nothing. PFAIL_N_FALL stores its instant in
  WCH_PF, cuts a save and, while SERVING or DEGRADED, sets reduced and pfail; OVERVOLTAGE_LOCKOUT does the same.
  PFAIL_N_RISE after a failure begins a supply-return start in reduced mode, WAKING or RESTORING, in COLD the start
  that waits for it; else it clears the failure and sets main_ok; with no failure it does nothing. VBAK_RISE shows
  vbak_ok and starts a Watchman at rest, osc_stopped set. VBAK_LOST clears vbak_ok; with no main supply the
  Watchman stops and SLEEP ends in COLD. HOLDUP_CHARGER_STOP sets holdup_fail while the main domain runs.
  SFP_OVERCURRENT clears present, link_up and speed of ports 0 to 3; other ports have no cage. What a clause says
  beyond the rules cited is the model's own convention: log entries 3, 4, 88, 89, 93 and 96. -/
def Obligations.SupplyCommands : Prop :=
  (∀ (s : State) (t : Nat), s.dev.op = .cold ∧ s.dev.sys.resetLow = false ∧ s.dev.sys.pfail = false ∧
    s.dev.sys.hold = none → ∃ u, exec (.mainSupplyValid .waking t) s = .next u ∧ u.dev.op = .waking ∧
    u.dev.sys.booting = true ∧ u.dev.sys.main = true ∧ u.dev.sys.cause = (if s.dev.sys.watch then (if
    s.dev.sys.nextCause = 7 then 7 else 2) else 1) ∧ u.dev.sys.starts = (if s.dev.sys.starts = 0xFFFF then 1 else
    s.dev.sys.starts + 1)) ∧
  (∀ (s : State) (stage : StartStage) (t : Nat), s.dev.op = .cold ∧ s.dev.sys.resetLow = false ∧ s.dev.sys.pfail =
    false ∧ s.dev.sys.hold = none → ∃ u, exec (.mainSupplyValid stage t) s = .next u ∧ u.dev.op ≠ .cold ∧
    u.dev.sys.cause = (if s.dev.sys.watch then (if s.dev.sys.nextCause = 7 then 7 else 2) else 1)) ∧
  (∀ (s : State) (stage : StartStage) (t : Nat), s.dev.op ≠ .cold ∨ s.dev.sys.resetLow = true ∨ s.dev.sys.pfail =
    true ∨ s.dev.sys.hold.isSome = true → ∃ u, exec (.mainSupplyValid stage t) s = .next u ∧ u.dev.op = s.dev.op ∧
    u.dev.sys.main = true ∧ u.dev.sys.watch = true ∧ u.dev.sys.starts = s.dev.sys.starts) ∧
  (∀ (s : State) (t : Nat), True → ∃ u, exec (.dramInitDone t) s = .next u ∧ if s.w.mainOn then u.dev.sys.dramDone
    = true ∧ (s.dev.sys.booting = false → u.reg MEM_STATUS_dram_init_done = 1) else u.dev.op = s.dev.op ∧ u.dev.sys
    = s.dev.sys) ∧
  (∀ (s : State) (t : Nat), s.dev.sys.main = true ∧ s.acts 1 t → ∃ u, exec (.mainSupplyLost t) s = .next u ∧
    u.dev.op = (if s.dev.op = .sleep ∧ s.dev.sys.vbak = true then .sleep else .cold) ∧ u.dev.sys.main = false ∧
    u.dev.sys.pfail = false ∧ (s.dev.sys.vbak = false → u.dev.sys.watch = false)) ∧
  (∀ (s : State) (t : Nat), s.dev.sys.main = false → ∃ u, exec (.mainSupplyLost t) s = .next u ∧ u.dev.op =
    s.dev.op ∧ u.dev.sys = s.dev.sys) ∧
  (∀ (s : State) (t : Nat), True → ∃ u, exec (.pfailNFall t) s = .next u ∧ u.dev.op = s.dev.op ∧ u.dev.sys.pfail =
    true ∧ u.reg WCH_PF_NS_v = t % 1000000000 ∧ u.reg WCH_PF_SEC_LO_v = t / 1000000000 % 2 ^ 32 ∧ u.reg
    WCH_PF_SEC_HI_v = t / 1000000000 / 2 ^ 32 % 2 ^ 16 ∧ (s.w.mainOn = true → u.dev.sys.saving = none) ∧
    (s.w.serves = true → u.reg SYS_STATUS_reduced = 1 ∧ u.bitOf SYS_EVENT_pfail = true ∧ u.dev.sys.entering =
    false)) ∧
  (∀ (s : State) (t : Nat), True → ∃ u, exec (.overvoltageLockout t) s = .next u ∧ u.dev.op = s.dev.op ∧
    u.dev.sys.pfail = true ∧ u.reg WCH_PF_NS_v = t % 1000000000 ∧ u.reg WCH_PF_SEC_LO_v = t / 1000000000 % 2 ^ 32 ∧
    u.reg WCH_PF_SEC_HI_v = t / 1000000000 / 2 ^ 32 % 2 ^ 16 ∧ (s.w.mainOn = true → u.dev.sys.saving = none) ∧
    (s.w.serves = true → u.reg SYS_STATUS_reduced = 1 ∧ u.bitOf SYS_EVENT_pfail = true ∧ u.dev.sys.entering =
    false)) ∧
  (∀ (s : State) (t : Nat), s.dev.sys.pfail = true ∧ s.dev.op ≠ .cold ∧ (s.bitOf SYS_STATUS_reduced = true ∨
    s.dev.op = .waking ∨ s.dev.op = .restoring) → ∃ u, exec (.pfailNRise t) s = .next u ∧ u.dev.sys.pfail = false ∧
    u.dev.sys.cause = 2 ∧ u.dev.op ≠ .cold ∧ u.dev.sys.starts = (if s.dev.sys.starts = 0xFFFF then 1 else
    s.dev.sys.starts + 1)) ∧
  (∀ (s : State) (t : Nat), s.dev.sys.pfail = true ∧ s.dev.op = .cold → ∃ u, exec (.pfailNRise t) s = .next u ∧
    u.dev.sys.pfail = false ∧ u.dev.sys.main = true ∧ (if s.dev.sys.resetLow = false ∧ s.dev.sys.hold = none then
    u.dev.op ≠ .cold ∧ u.dev.sys.cause = (if s.dev.sys.watch then (if s.dev.sys.nextCause = 7 then 7 else 2) else
    1) else u.dev.op = .cold)) ∧
  (∀ (s : State) (t : Nat), s.dev.sys.pfail = true ∧ s.dev.op ≠ .cold ∧ s.bitOf SYS_STATUS_reduced = false ∧
    s.dev.op ≠ .waking ∧ s.dev.op ≠ .restoring → ∃ u, exec (.pfailNRise t) s = .next u ∧ u.dev.sys.pfail = false ∧
    u.dev.op = s.dev.op ∧ u.bitOf WCH_STATUS_main_ok = true) ∧
  (∀ (s : State) (t : Nat), s.dev.sys.pfail = false → ∃ u, exec (.pfailNRise t) s = .next u ∧ u.dev.op = s.dev.op ∧
    u.dev.sys = s.dev.sys) ∧
  (∀ (s : State) (t : Nat), True → ∃ u, exec (.vbakRise t) s = .next u ∧ u.dev.op = s.dev.op ∧ u.dev.sys.vbak =
    true ∧ u.dev.sys.watch = true ∧ u.bitOf WCH_STATUS_vbak_ok = true ∧ (s.dev.sys.watch = false → u.bitOf
    RTC_EVENT_osc_stopped = true)) ∧
  (∀ (s : State) (t : Nat), True → ∃ u, exec (.vbakLost t) s = .next u ∧ u.dev.sys.vbak = false ∧ u.bitOf
    WCH_STATUS_vbak_ok = false ∧ (if s.dev.sys.main then u.dev.op = s.dev.op ∧ u.dev.sys.watch = s.dev.sys.watch
    else u.dev.sys.watch = false ∧ u.dev.op = (if s.dev.op = .sleep then .cold else s.dev.op))) ∧
  (∀ (s : State) (t : Nat), True → ∃ u, exec (.holdupChargerStop t) s = .next u ∧ u.dev.op = s.dev.op ∧ (if
    s.w.mainOn then u.dev.sys.chargerOff = true ∧ u.bitOf HLT_EVENT_holdup_fail = true else u.dev.sys = s.dev.sys)) ∧
  (∀ (s : State) (p : Nat), p < 6 → ∃ u, exec (.sfpOvercurrent p) s = .next u ∧ if p < 4 ∧ s.w.mainOn = true then
    u.reg (NET_PORT_STAT_present p) = 0 ∧ u.reg (NET_PORT_STAT_link_up p) = 0 ∧ u.reg (NET_PORT_STAT_speed p) = 0
    else u.dev.regs = s.dev.regs)

/-- RESET_N low for 10 µs or more leads to COLD, with a hold and next cause 7 where the main domain ran; below 1 µs
  it does nothing; between, either is possible. A rise of RESET_N waits out the hold of cause 7; in COLD with the
  supply valid it enters WAKING with its cause; carried to any stage, the start leaves COLD; else no start begins.
  The end of a hold of cause 3 or 6 enters WAKING with that cause; to any stage, it keeps it; of cause 7 it starts
  the module as the rise does, or ends with no start; with no such hold, or in a power failure, it does nothing.
  What a clause says beyond the rules cited is the model's own convention: log entries 3, 4, 88 and 90. -/
def Obligations.ResetPinCommands : Prop :=
  (∀ (s : State) (width t : Nat), 10000 ≤ width ∧ s.acts 2 t → ∃ u, exec (.resetNLow width t) s = .next u ∧
    u.dev.op = .cold ∧ u.dev.sys.resetLow = true ∧ (if s.w.mainOn then u.dev.sys.hold = some 7 ∧
    u.dev.sys.nextCause = 7 else if s.dev.op = .sleep then u.dev.sys.nextCause = 7 else u.dev.sys.hold =
    s.dev.sys.hold)) ∧
  (∀ (s : State) (width t : Nat), width < 1000 → ∃ u, exec (.resetNLow width t) s = .next u ∧ u.dev.op = s.dev.op ∧
    u.dev.sys = s.dev.sys) ∧
  (∀ (s : State) (width t : Nat), 1000 ≤ width ∧ width < 10000 ∧ s.acts 2 t → ∃ u, exec (.resetNLow width t) s =
    .next u ∧ (u.dev.op = s.dev.op ∧ u.dev.sys = s.dev.sys) ∨ (u.dev.op = .cold ∧ u.dev.sys.resetLow = true)) ∧
  (∀ (s : State) (stage : StartStage) (t : Nat), s.dev.sys.hold = some 7 → ∃ u, exec (.resetNHigh stage t) s =
    .next u ∧ u.dev.sys.resetLow = false ∧ u.dev.sys.riseWaits = true ∧ u.dev.op = s.dev.op) ∧
  (∀ (s : State) (t : Nat), s.dev.op = .cold ∧ s.dev.sys.main = true ∧ s.dev.sys.pfail = false ∧ s.dev.sys.hold =
    none → ∃ u, exec (.resetNHigh .waking t) s = .next u ∧ u.dev.op = .waking ∧ u.dev.sys.resetLow = false ∧
    u.dev.sys.booting = true ∧ u.dev.sys.cause = (if s.dev.sys.watch then (if s.dev.sys.nextCause = 7 then 7 else
    2) else 1)) ∧
  (∀ (s : State) (stage : StartStage) (t : Nat), s.dev.op = .cold ∧ s.dev.sys.main = true ∧ s.dev.sys.pfail = false
    ∧ s.dev.sys.hold = none → ∃ u, exec (.resetNHigh stage t) s = .next u ∧ u.dev.op ≠ .cold ∧ u.dev.sys.cause =
    (if s.dev.sys.watch then (if s.dev.sys.nextCause = 7 then 7 else 2) else 1)) ∧
  (∀ (s : State) (stage : StartStage) (t : Nat), s.dev.sys.hold ≠ some 7 ∧ (s.dev.op ≠ .cold ∨ s.dev.sys.main =
    false ∨ s.dev.sys.pfail = true ∨ s.dev.sys.hold.isSome = true) → ∃ u, exec (.resetNHigh stage t) s = .next u ∧
    u.dev.sys.resetLow = false ∧ u.dev.op = s.dev.op ∧ u.dev.sys.starts = s.dev.sys.starts) ∧
  (∀ (s : State) (t cause : Nat), s.dev.sys.hold = some cause ∧ (cause = 3 ∨ cause = 6) ∧ s.dev.sys.pfail = false →
    ∃ u, exec (.resetHoldEnd .waking t) s = .next u ∧ u.dev.op = .waking ∧ u.dev.sys.cause = cause ∧ u.dev.sys.hold
    = none) ∧
  (∀ (s : State) (stage : StartStage) (t cause : Nat), s.dev.sys.hold = some cause ∧ (cause = 3 ∨ cause = 6) ∧
    s.dev.sys.pfail = false → ∃ u, exec (.resetHoldEnd stage t) s = .next u ∧ u.dev.op ≠ .cold ∧ u.dev.sys.cause =
    cause) ∧
  (∀ (s : State) (t : Nat), s.dev.sys.hold = some 7 ∧ s.dev.op = .cold ∧ s.dev.sys.main = true ∧ s.dev.sys.pfail =
    false ∧ s.dev.sys.resetLow = false → ∃ u, exec (.resetHoldEnd .waking t) s = .next u ∧ u.dev.op = .waking ∧
    u.dev.sys.cause = (if s.dev.sys.watch then (if s.dev.sys.nextCause = 7 then 7 else 2) else 1) ∧ u.dev.sys.hold
    = none) ∧
  (∀ (s : State) (stage : StartStage) (t : Nat), s.dev.sys.hold = some 7 ∧ (s.dev.op ≠ .cold ∨ s.dev.sys.main =
    false ∨ s.dev.sys.pfail = true ∨ s.dev.sys.resetLow = true) → ∃ u, exec (.resetHoldEnd stage t) s = .next u ∧
    u.dev.op = s.dev.op ∧ u.dev.sys.hold = none ∧ u.dev.sys.riseWaits = false ∧ u.dev.sys.starts =
    s.dev.sys.starts) ∧
  (∀ (s : State) (stage : StartStage) (t : Nat), (s.dev.sys.hold ≠ some 3 ∧ s.dev.sys.hold ≠ some 6 ∧
    s.dev.sys.hold ≠ some 7) ∨ (s.dev.sys.hold ≠ some 7 ∧ s.dev.sys.pfail = true) → ∃ u, exec (.resetHoldEnd stage
    t) s = .next u ∧ u.dev.op = s.dev.op ∧ u.dev.sys = s.dev.sys)

/-- A watchdog whose time is up resets the module into WAKING with a hold of cause 3, counting an early one; one
  that has time left, or does not count, does nothing. A kick of 0x4B49 restarts it with timeout_ms, at least 100
  ms; another word does nothing. BOOT_LOOP_CLEAR zeroes the early resets 60 s after firmware entry, and not before.
  SYSTEM_RESET, confirmed, resets the module into WAKING with a hold of cause 6; PATTERN_RELOAD, confirmed, in
  SERVING with no save running, enters RESTORING on the factory pattern with cause 5; it waits for a save, and in
  another state answers 1; unconfirmed, neither does anything. PATTERN_RELOAD_DONE ends RESTORING in SERVING, or
  DEGRADED with a lane down, with reload_done; with no reload running it does nothing. An enabled CONSOLE_BREAK
  during SLEEP entry waits and is shown in WCH_WAKE_CAUSE, in SLEEP wakes with cause 8; elsewhere, or disabled, it
  does not. What a clause says beyond the rules cited is the model's own convention: log entries 3, 4, 88, 90, 92
  and 96. -/
def Obligations.ResetCommands : Prop :=
  (∀ (s : State) (t : Nat), s.acts 5 t ∧ s.dev.sys.kickUp + s.dev.sys.kickMs * 1000000 ≤ s.upAt t ∧ (s.w.serves =
    true ∨ s.dev.op = .holding ∨ (s.dev.sys.booting = true ∧ s.w.mainOn = true ∧ s.dev.sys.hold = none)) → ∃ u,
    exec (.watchdogExpire t) s = .next u ∧ u.dev.op = .waking ∧ u.dev.sys.hold = some 3 ∧ u.dev.sys.booting = true
    ∧ u.dev.sys.loops = (if s.dev.sys.booting = true ∨ s.upAt t < s.dev.sys.entryUp + 60000000000 then
    s.dev.sys.loops + 1 else s.dev.sys.loops)) ∧
  (∀ (s : State) (t : Nat), s.upAt t < s.dev.sys.kickUp + s.dev.sys.kickMs * 1000000 ∨ (s.w.lanesRun = false ∧
    s.dev.sys.entering = false ∧ (s.dev.sys.booting = false ∨ s.w.mainOn = false ∨ s.dev.sys.hold.isSome = true)) →
    ∃ u, exec (.watchdogExpire t) s = .next u ∧ u.dev.op = s.dev.op ∧ u.dev.sys = s.dev.sys) ∧
  (∀ (s : State) (v : W32) (t : Nat), s.lanes → ∃ u, exec (.watchdogKick v t) s = .next u ∧ u.dev.op = s.dev.op ∧
    (if v.toNat = 0x4B49 then u.dev.sys.kickUp = s.upAt t ∧ u.dev.sys.kickMs = max 100 (s.reg
    SYS_WDOG_CFG_timeout_ms) else u.dev.sys = s.dev.sys)) ∧
  (∀ (s : State) (t : Nat), True → ∃ u, exec (.bootLoopClear t) s = .next u ∧ u.dev.sys.loops = (if s.w.mainOn =
    true ∧ s.dev.sys.booting = false ∧ s.dev.sys.entryUp + 60000000000 ≤ s.upAt t then 0 else s.dev.sys.loops)) ∧
  (∀ (s : State) (confirm t : Nat), s.lanes ∧ confirm = 0xC0DE ∧ s.acts 5 t → ∃ u, exec (.systemReset confirm t) s
    = .next u ∧ u.dev.op = .waking ∧ u.dev.sys.hold = some 6 ∧ u.dev.sys.booting = true) ∧
  (∀ (s : State) (confirm t : Nat), s.lanes ∧ confirm = 0xC0DE ∧ s.acts 7 t ∧ s.dev.op = .serving ∧
    s.dev.sys.saving = none → ∃ u, exec (.patternReload confirm t) s = .next u ∧ u.dev.op = .restoring ∧
    u.dev.sys.cause = 5 ∧ u.reg SYS_START_cause = 5 ∧ u.dev.pat.active = Pattern.factoryPattern) ∧
  (∀ (s : State) (confirm t : Nat), s.lanes ∧ confirm = 0xC0DE ∧ s.acts 7 t ∧ (s.dev.op ≠ .serving ∨
    s.dev.sys.saving.isSome = true) → ∃ u, exec (.patternReload confirm t) s = .next u ∧ u.dev.op = s.dev.op ∧ (if
    s.dev.op = .serving then u.dev.sys.hold = some 5 else u.reg SYS_CMD_STATUS_done = 1 ∧ u.reg
    SYS_CMD_STATUS_result = 1)) ∧
  (∀ (s : State) (confirm t : Nat), confirm ≠ 0xC0DE → ∀ c ∈ [Instr.systemReset confirm t, .patternReload confirm
    t], ∃ u, exec c s = .next u ∧ u.dev = s.dev ∧ u.mem = s.mem) ∧
  (∀ (s : State) (t : Nat), True → ∃ u, exec (.patternReloadDone t) s = .next u ∧ if s.dev.op = .restoring ∧
    s.dev.sys.booting = false ∧ s.dev.sys.pfail = false then u.dev.op = (if s.reg LNV_STATUS_lane_a = 0 ∧ s.reg
    LNV_STATUS_lane_b = 0 ∧ s.reg LNV_STATUS_lane_c = 0 then .serving else .degraded) ∧ u.bitOf
    SYS_EVENT_reload_done = true else u.dev.op = s.dev.op ∧ u.dev.sys = s.dev.sys) ∧
  (∀ (s : State) (t : Nat), s.bitOf WCH_WAKE_CFG_console_en = true ∧ s.dev.op ≠ .sleep ∧ s.dev.sys.entering = true
    → ∃ u, exec (.consoleBreak t) s = .next u ∧ u.dev.sys.wakeWaits = true ∧ u.bitOf WCH_WAKE_CAUSE_console = true) ∧
  (∀ (s : State) (t : Nat), s.bitOf WCH_WAKE_CFG_console_en = true ∧ s.dev.op = .sleep → ∃ u, exec (.consoleBreak
    t) s = .next u ∧ u.dev.op ≠ .sleep ∧ u.dev.sys.cause = 8) ∧
  (∀ (s : State) (t : Nat), s.bitOf WCH_WAKE_CFG_console_en = false ∨ (s.dev.op ≠ .sleep ∧ s.dev.sys.entering =
    false) → ∃ u, exec (.consoleBreak t) s = .next u ∧ u.dev.op = s.dev.op ∧ u.dev.sys = s.dev.sys)

/-- SAVE_SETTINGS is held in a trial and queued behind a save; else the save begins, of the copy that is not the
  newest and with the next save_seq, that copy invalid meanwhile; AUTO_SAVE, auto_s after a change, does the same;
  before, or with auto_s 0, nothing. SETTINGS_SAVE_DONE makes the copy valid, shows its save_seq and sets
  settings_saved; a waiting reload then begins; a queued save follows at once, or is held in a trial; with no save
  it does nothing. STAGE_FW of a source in RAM whose image passes step 3 of R387 begins its write to the slot that
  is not active, BUSY set; else it answers 6 while one is staged, 2 for the source, 3 for its length, or the
  check's result, and stages nothing. STAGE_FW_DONE stores the image in the slot's sectors, marks it staged with no
  trial run, sets fw_staged and answers 0; a failed one answers 7; with none staged nothing. FW_COMMIT of a trial
  run makes its slot active and raises the minimum serial where fw_min_raise asks; while staging it answers 6, with
  no trial 1. What a clause says beyond the rules cited is the model's own convention: log entries 3, 4, 91, 92 and
  148. -/
def Obligations.SettingsAndFirmware : Prop :=
  (∀ (s : State) (t : Nat), s.lanes → ∃ u, exec (.saveSettings t) s = .next u ∧ if s.reg PAT_STATUS_state = 4 ∨
    s.reg PAT_STATUS_state = 5 then u.dev.sys.saveHeld = true ∧ u.dev.sys.saving = s.dev.sys.saving else if
    s.dev.sys.saving.isSome then u.dev.sys.saveNext = true ∧ u.dev.sys.saving = s.dev.sys.saving else
    u.dev.sys.saving.map (fun x => (x.copy, x.content.seq)) = some
    (match s.w.newestCopy with | some (k, c) => (1 - k, c.seq + 1) | none => (0, 1)) ∧ (u.dev.sys.saving.any (fun x
    => (if x.copy = 0 then u.dev.sys.copyA else u.dev.sys.copyB).any (fun c => !c.valid))) = true ∧ u.reg
    SYS_CMD_STATUS_busy = 1 ∧ u.reg SYS_STATUS_settings_dirty = 0 ∧ u.dev.sys.dirtyUp = none) ∧
  (∀ (s : State) (t : Nat), True → ∃ u, exec (.autoSave t) s = .next u ∧ if s.dev.sys.dirtyUp.any (fun d =>
    s.w.lanesRun && s.reg SYS_SET_CFG_auto_s != 0 && decide (d + s.reg SYS_SET_CFG_auto_s * 1000000000 ≤ s.upAt t))
    = true then (if s.reg PAT_STATUS_state = 4 ∨ s.reg PAT_STATUS_state = 5 then u.dev.sys.saveHeld = true ∧
    u.dev.sys.saving = s.dev.sys.saving else if s.dev.sys.saving.isSome then u.dev.sys.saveNext = true ∧
    u.dev.sys.saving = s.dev.sys.saving else u.dev.sys.saving.map (fun x => (x.copy, x.content.seq)) = some
    (match s.w.newestCopy with | some (k, c) => (1 - k, c.seq + 1) | none => (0, 1)) ∧ u.reg
    SYS_STATUS_settings_dirty = 0 ∧ u.dev.sys.dirtyUp = none) else u.dev.op = s.dev.op ∧ u.dev.sys = s.dev.sys) ∧
  (∀ (s : State) (t : Nat) (x : SetSave), s.w.mainOn = true ∧ s.dev.sys.saving = some x ∧ s.dev.sys.commitNext =
    false ∧ s.dev.sys.saveNext = false → ∃ u, exec (.settingsSaveDone t) s = .next u ∧ u.dev.sys.saving = none ∧
    u.reg SYS_SET_SEQ_v = x.content.seq % 2 ^ 32 ∧ u.bitOf SYS_EVENT_settings_saved = true ∧ (if x.copy = 0 then
    u.dev.sys.copyA = some x.content else u.dev.sys.copyB = some x.content) ∧ u.dev.op = (if s.dev.sys.hold = some
    5 then .restoring else s.dev.op)) ∧
  (∀ (s : State) (t : Nat) (x : SetSave), s.w.mainOn = true ∧ s.dev.sys.saving = some x ∧ (s.dev.sys.commitNext =
    true ∨ s.dev.sys.saveNext = true) → ∃ u, exec (.settingsSaveDone t) s = .next u ∧ u.reg SYS_SET_SEQ_v =
    x.content.seq % 2 ^ 32 ∧ u.bitOf SYS_EVENT_settings_saved = true ∧ (if s.dev.sys.commitNext = true ∨ (s.reg
    PAT_STATUS_state ≠ 4 ∧ s.reg PAT_STATUS_state ≠ 5) then u.dev.sys.saving.isSome = true ∧ u.dev.op = s.dev.op
    else u.dev.sys.saving = none ∧ (s.dev.sys.hold ≠ some 5 → u.dev.sys.saveHeld = true))) ∧
  (∀ (s : State) (t : Nat), s.w.mainOn = false ∨ (s.dev.sys.saving = none ∧ s.dev.sys.hold ≠ some 5) → ∃ u, exec
    (.settingsSaveDone t) s = .next u ∧ u.dev.op = s.dev.op ∧ u.dev.sys = s.dev.sys) ∧
  (∀ (s : State), s.lanes ∧ s.dev.sys.staging = none ∧ inRam (s.reg SYS_FW_SRC_LO_v + 2 ^ 32 * s.reg
    SYS_FW_SRC_HI_v) (max 1 (s.reg SYS_FW_LEN_v)) = true ∧ s.reg SYS_FW_LEN_v ≤ 0x10000E0 ∧ s.w.imgCheck
    (s.w.rdBytes (s.reg SYS_FW_SRC_LO_v + 2 ^ 32 * s.reg SYS_FW_SRC_HI_v) (s.reg SYS_FW_LEN_v)) = 0 → ∃ u, exec
    .stageFw s = .next u ∧ u.dev.sys.staging = some
    ((match s.dev.sys.boot, s.dev.sys.slot with | some x, _ => 1 - x.active | none, some x => 1 - x | none, none => 0),
    s.w.rdBytes (s.reg SYS_FW_SRC_LO_v + 2 ^ 32 * s.reg SYS_FW_SRC_HI_v) (s.reg SYS_FW_LEN_v)) ∧ u.reg
    SYS_CMD_STATUS_busy = 1) ∧
  (∀ (s : State), s.lanes ∧ (s.dev.sys.staging.isSome = true ∨ inRam (s.reg SYS_FW_SRC_LO_v + 2 ^ 32 * s.reg
    SYS_FW_SRC_HI_v) (max 1 (s.reg SYS_FW_LEN_v)) = false ∨ 0x10000E0 < s.reg SYS_FW_LEN_v ∨ s.w.imgCheck
    (s.w.rdBytes (s.reg SYS_FW_SRC_LO_v + 2 ^ 32 * s.reg SYS_FW_SRC_HI_v) (s.reg SYS_FW_LEN_v)) ≠ 0) → ∃ u, exec
    .stageFw s = .next u ∧ u.dev.sys = s.dev.sys ∧ u.dev.fls = s.dev.fls ∧ (s.dev.sys.staging = none → u.reg
    SYS_CMD_STATUS_done = 1) ∧ u.reg SYS_CMD_STATUS_result = (if s.dev.sys.staging.isSome then 6 else if inRam
    (s.reg SYS_FW_SRC_LO_v + 2 ^ 32 * s.reg SYS_FW_SRC_HI_v) (max 1 (s.reg SYS_FW_LEN_v)) = false then 2 else if
    0x10000E0 < s.reg SYS_FW_LEN_v then 3 else s.w.imgCheck (s.w.rdBytes (s.reg SYS_FW_SRC_LO_v + 2 ^ 32 * s.reg
    SYS_FW_SRC_HI_v) (s.reg SYS_FW_LEN_v)))) ∧
  (∀ (s : State) (t target : Nat) (b : List Byte), s.dev.sys.staging = some (target, b) → ∃ u, exec (.stageFwDone
    true t) s = .next u ∧ u.dev.sys.staging = none ∧ (upTo (ceilDiv b.length 4096)).all (fun i => tblGet
    u.dev.fls.sectors (8192 * target + i) == some (padTo 4096 (cut b (4096 * i) 4096))) = true ∧ u.dev.sys.boot.map
    (fun x => (x.staged, x.trial)) = some (some target, 0) ∧ u.dev.key.staged = some (sha384 b) ∧ u.bitOf
    SYS_EVENT_fw_staged = true ∧ u.reg SYS_CMD_STATUS_done = 1 ∧ u.reg SYS_CMD_STATUS_result = 0) ∧
  (∀ (s : State) (t : Nat), s.dev.sys.staging.isSome = true → ∃ u, exec (.stageFwDone false t) s = .next u ∧
    u.dev.sys.staging = none ∧ u.dev.sys.boot = s.dev.sys.boot ∧ u.dev.fls = s.dev.fls ∧ u.reg SYS_CMD_STATUS_done
    = 1 ∧ u.reg SYS_CMD_STATUS_result = 7) ∧
  (∀ (s : State) (ok : Bool) (t : Nat), s.dev.sys.staging = none → ∃ u, exec (.stageFwDone ok t) s = .next u ∧
    u.dev.sys = s.dev.sys ∧ u.dev.fls = s.dev.fls) ∧
  (∀ (s : State), s.lanes → ∃ u, exec .fwCommit s = .next u ∧ if s.dev.sys.staging.isSome then u.dev.sys =
    s.dev.sys ∧ u.reg SYS_CMD_STATUS_result = 6 else if s.dev.sys.trial = true ∧ s.dev.sys.slot.isSome = true then
    u.dev.sys.trial = false ∧ u.dev.sys.boot = s.dev.sys.slot.map (fun n => ⟨n, none, 0⟩) ∧ s.dev.sys.slot.map (fun
    n => if s.bitOf SYS_CTRL_fw_min_raise then max s.dev.sys.fwMin (imgSerial (s.dev.fls.image n)) else
    s.dev.sys.fwMin) = some u.dev.sys.fwMin ∧ u.dev.key.staged = none ∧ u.reg SYS_STATUS_fw_trial = 0 ∧ u.reg
    SYS_CMD_STATUS_result = 0 ∧ u.reg SYS_CMD_STATUS_done = 1 else u.dev.sys = s.dev.sys ∧ u.reg
    SYS_CMD_STATUS_result = 1 ∧ u.reg SYS_CMD_STATUS_done = 1)

/-- SLEEP, confirmed, in SERVING, idle, with nothing armed and not held by the pair, begins the entry, clears
  WCH_WAKE_CAUSE and saves unsaved settings; else it is rejected with 1 and sleep_rejected; unconfirmed, it does
  nothing. SLEEP_ENTRY_DONE ends the entry in SLEEP, or, with a wake waiting, in a start of cause 8; with no entry,
  or behind a save, nothing ends. WAKE_TIMER_EXPIRE in SLEEP, enabled and with the timer run out, wakes with cause
  8; else it does nothing. WAKE_RX_MATCH of WCH_WAKE_ADDR, or of 0xFFFF with rx_bcast, 10 s after the last, wakes
  from SLEEP, and during entry waits and is shown; any other does nothing. GIO_WAKE_EDGE of an enabled pin, an
  input or in SLEEP, with the polarity chosen, wakes from SLEEP, and during entry waits and is shown; any other
  does nothing. What a clause says beyond the rules cited is the model's own convention: log entries 3, 4, 90, 94
  and 95. -/
def Obligations.SleepCommands : Prop :=
  (∀ (s : State) (confirm t : Nat), s.lanes ∧ confirm = 0xC0DE ∧ s.acts 8 t ∧ s.dev.op = .serving ∧ s.reg
    PAT_STATUS_state = 0 ∧ s.reg CRY_STATUS_armed = 0 ∧ s.reg FLT_STATUS_armed = 0 ∧ s.w.pairHeld = false → ∃ u,
    exec (.sleep confirm t) s = .next u ∧ u.dev.sys.entering = true ∧ u.dev.sys.wakeWaits = false ∧ u.word
    WCH_WAKE_CAUSE_alarm0.addr = 0 ∧ (s.dev.sys.dirtyUp.isSome = true → u.dev.sys.saving.isSome = true)) ∧
  (∀ (s : State) (confirm t : Nat), s.lanes ∧ confirm = 0xC0DE ∧ s.acts 8 t ∧ (s.dev.op ≠ .serving ∨ s.reg
    PAT_STATUS_state ≠ 0 ∨ s.reg CRY_STATUS_armed ≠ 0 ∨ s.reg FLT_STATUS_armed ≠ 0 ∨ s.w.pairHeld = true) → ∃ u,
    exec (.sleep confirm t) s = .next u ∧ u.dev.op = s.dev.op ∧ u.dev.sys.entering = false ∧ u.bitOf
    SYS_EVENT_sleep_rejected = true ∧ u.reg SYS_CMD_STATUS_done = 1 ∧ u.reg SYS_CMD_STATUS_result = 1) ∧
  (∀ (s : State) (confirm t : Nat), confirm ≠ 0xC0DE → ∃ u, exec (.sleep confirm t) s = .next u ∧ u.dev = s.dev ∧
    u.mem = s.mem) ∧
  (∀ (s : State) (t : Nat), s.dev.sys.entering = true ∧ s.dev.sys.saving = none → ∃ u, exec (.sleepEntryDone t) s =
    .next u ∧ if s.dev.sys.wakeWaits then u.dev.op ≠ .sleep ∧ u.dev.sys.cause = 8 else u.dev.op = .sleep ∧
    u.dev.sys.entering = false) ∧
  (∀ (s : State) (t : Nat), s.dev.sys.entering = false ∨ s.dev.sys.saving.isSome = true → ∃ u, exec
    (.sleepEntryDone t) s = .next u ∧ u.dev.op = s.dev.op ∧ u.dev.sys = s.dev.sys) ∧
  (∀ (s : State) (t : Nat), True → ∃ u, exec (.wakeTimerExpire t) s = .next u ∧ if s.dev.op = .sleep ∧ s.bitOf
    WCH_WAKE_CFG_timer_en = true ∧ 0 < s.reg WCH_WAKE_TIMER_v ∧ s.reg WCH_WAKE_TIMER_v ≤ (s.upAt t -
    s.dev.sys.sleepUp) / 1000000000 then u.dev.op ≠ .sleep ∧ u.dev.sys.cause = 8 else u.dev.op = s.dev.op ∧
    u.dev.sys = s.dev.sys) ∧
  (∀ (s : State) (addr t : Nat), s.dev.sys.watch = true ∧ s.bitOf WCH_WAKE_CFG_rx_enable = true ∧ addr ≠ 0 ∧ (addr
    = s.reg WCH_WAKE_ADDR_addr ∨ (addr = 0xFFFF ∧ s.bitOf WCH_WAKE_CFG_rx_bcast = true)) ∧ s.dev.sys.rxUp.all (fun
    x => decide (x + 10000000000 ≤ s.upAt t)) = true → ∃ u, exec (.wakeRxMatch addr t) s = .next u ∧ if s.dev.op =
    .sleep then u.dev.op ≠ .sleep ∧ u.dev.sys.cause = 8 else u.dev.op = s.dev.op ∧ u.dev.sys.rxUp = some (s.upAt t)
    ∧ (s.dev.sys.entering = true → u.dev.sys.wakeWaits = true ∧ u.bitOf WCH_WAKE_CAUSE_receiver = true)) ∧
  (∀ (s : State) (addr t : Nat), s.dev.sys.watch = false ∨ s.bitOf WCH_WAKE_CFG_rx_enable = false ∨ addr = 0 ∨
    (addr ≠ s.reg WCH_WAKE_ADDR_addr ∧ (addr ≠ 0xFFFF ∨ s.bitOf WCH_WAKE_CFG_rx_bcast = false)) ∨
    s.dev.sys.rxUp.any (fun x => decide (s.upAt t < x + 10000000000)) = true → ∃ u, exec (.wakeRxMatch addr t) s =
    .next u ∧ u.dev.op = s.dev.op ∧ u.dev.sys = s.dev.sys) ∧
  (∀ (s : State) (pin : Nat) (rising : Bool) (t : Nat), pin < 4 ∧ (s.dev.op = .sleep ∨ s.w.pinFunc pin = 1) ∧ tst
    (s.reg WCH_WAKE_CFG_gio) pin = true ∧ tst (s.reg WCH_WAKE_CFG_gio_pol) pin = rising → ∃ u, exec (.gioWakeEdge
    pin rising t) s = .next u ∧ if s.dev.op = .sleep then u.dev.op ≠ .sleep ∧ u.dev.sys.cause = 8 else u.dev.op =
    s.dev.op ∧ (s.dev.sys.entering = true → u.dev.sys.wakeWaits = true ∧ tst (u.reg WCH_WAKE_CAUSE_gio) pin =
    true)) ∧
  (∀ (s : State) (pin : Nat) (rising : Bool) (t : Nat), pin < 4 ∧ ((s.dev.op ≠ .sleep ∧ s.w.pinFunc pin ≠ 1) ∨ tst
    (s.reg WCH_WAKE_CFG_gio) pin = false ∨ tst (s.reg WCH_WAKE_CFG_gio_pol) pin ≠ rising) → ∃ u, exec (.gioWakeEdge
    pin rising t) s = .next u ∧ u.dev.op = s.dev.op ∧ u.dev.sys = s.dev.sys)

/-- After START, SCRIVENER_RECORD takes the FIFO's oldest record: a protected one is written under the next seq in
  its slot; another with no token due takes a token and is written, or with interval_ms 0 is written; with no token
  it is suppressed and counted; with a token due the gain comes first, then the record is written; where records
  were suppressed, SUPPRESSED stands before it. A record of a disabled code with nothing suppressed is discarded.
  With no record, or before START, nothing is taken. LOST_RECORD_EMIT 1 ms after the last loss writes LOST with the
  count, and else nothing. TOKEN_GAIN adds a token that is due, and SUPPRESSED gives the count; else nothing. A
  software code puts its record, with the staged parameters, into the FIFO, or is lost and counted where 240 wait;
  another sets sw_bad. RD_SEL shows the eight words of the log's slot, 0 where it holds none. CLEAR of log 0 under
  its grant empties it, writes CLEARED and consumes the grant; of log 1 its mirror; without it NO_GRANT, of another
  log code 2, and nothing is cleared. RL_CFG_WRITE sets the bucket, full, a SUPPRESSED record first; of a protected
  code it does nothing. Which tokens are due is judged when the record is taken. What a clause says beyond the
  rules cited is the model's own convention: log entries 3, 4, 8, 9, 10, 89 and 151. -/
def Obligations.ScrivenerCommands : Prop :=
  (∀ (s : State) (t : Nat) (r : RawRec) (rest : List RawRec), s.w.mainOn = true ∧ s.dev.sys.booting = false ∧
    s.dev.scr.fifo = r :: rest ∧ r.code < 0x100 → ∃ u, exec (.scrivenerRecord t) s = .next u ∧ u.dev.scr.fifo =
    rest ∧ u.dev.scr.nextSeq = (s.dev.scr.nextSeq + 1) % 2 ^ 32 ∧ u.dev.scr.lostFlag = false ∧ tblGet
    u.dev.scr.log0 ((s.dev.scr.nextSeq + 16383) % 16384) = some ⟨r.code, bitNat r.software + 2 * bitNat
    s.dev.scr.lostFlag + 8 + 16 * bitNat r.unsync, r.block, s.dev.scr.nextSeq, r.stamp, r.p0, r.p1, r.p2, r.p3⟩ ∧
    u.reg REC_LAST_SEQ_v = s.dev.scr.nextSeq % 2 ^ 32) ∧
  (∀ (s : State) (t : Nat) (r : RawRec) (rest : List RawRec), s.w.mainOn = true ∧ s.dev.sys.booting = false ∧
    s.dev.scr.fifo = r :: rest ∧ 0x100 ≤ r.code ∧ (s.w.bucket r.code).disable = false ∧ ((s.w.bucket
    r.code).intervalMs = 0 ∨ (1 ≤ (s.w.bucket r.code).tokens ∧ ((s.w.bucket r.code).cap ≤ (s.w.bucket
    r.code).tokens ∨ s.upAt t < (s.w.bucket r.code).since + (s.w.bucket r.code).intervalMs * 1000000))) → ∃ u, exec
    (.scrivenerRecord t) s = .next u ∧ u.dev.scr.fifo = rest ∧ (u.w.bucket r.code).tokens = (s.w.bucket
    r.code).tokens - (if (s.w.bucket r.code).intervalMs = 0 then 0 else 1) ∧ u.dev.scr.nextSeq = (s.dev.scr.nextSeq
    + 1) % 2 ^ 32 ∧ tblGet u.dev.scr.log0 ((s.dev.scr.nextSeq + 16383) % 16384) = some ⟨r.code, bitNat r.software +
    2 * bitNat s.dev.scr.lostFlag + 16 * bitNat r.unsync, r.block, s.dev.scr.nextSeq, r.stamp, r.p0, r.p1, r.p2,
    r.p3⟩) ∧
  (∀ (s : State) (t : Nat) (r : RawRec) (rest : List RawRec), s.w.mainOn = true ∧ s.dev.sys.booting = false ∧
    s.dev.scr.fifo = r :: rest ∧ 0x100 ≤ r.code ∧ (s.w.bucket r.code).disable = false ∧ (s.w.bucket
    r.code).intervalMs ≠ 0 ∧ (s.w.bucket r.code).tokens = 0 ∧ ((s.w.bucket r.code).cap ≤ (s.w.bucket r.code).tokens
    ∨ s.upAt t < (s.w.bucket r.code).since + (s.w.bucket r.code).intervalMs * 1000000) → ∃ u, exec
    (.scrivenerRecord t) s = .next u ∧ u.dev.scr.fifo = rest ∧ u.dev.scr.nextSeq = s.dev.scr.nextSeq ∧
    u.dev.scr.log0 = s.dev.scr.log0 ∧ (u.w.bucket r.code).sup = min 0xFFFFFFFF ((s.w.bucket r.code).sup + 1) ∧
    u.reg REC_SUP_CNT_v = min (s.reg REC_SUP_CNT_v + 1) (2 ^ 32 - 1) ∧ u.bitOf REC_EVENT_suppressed = true) ∧
  (∀ (s : State) (t : Nat) (r : RawRec) (rest : List RawRec), s.w.mainOn = true ∧ s.dev.sys.booting = false ∧
    s.dev.scr.fifo = r :: rest ∧ 0x100 ≤ r.code ∧ (s.w.bucket r.code).disable = false ∧ (s.w.bucket
    r.code).intervalMs ≠ 0 ∧ (s.w.bucket r.code).tokens < (s.w.bucket r.code).cap ∧ (s.w.bucket r.code).since +
    (s.w.bucket r.code).intervalMs * 1000000 ≤ s.upAt t ∧ (s.w.bucket r.code).sup = 0 → ∃ u, exec (.scrivenerRecord
    t) s = .next u ∧ u.dev.scr.fifo = rest ∧ u.dev.scr.nextSeq = (s.dev.scr.nextSeq + 1) % 2 ^ 32 ∧ (tblGet
    u.dev.scr.log0 ((s.dev.scr.nextSeq + 16383) % 16384)).map (fun x => [x.code, x.block, x.p0, x.p1, x.p2, x.p3,
    x.stamp]) = some [r.code, r.block, r.p0, r.p1, r.p2, r.p3, r.stamp]) ∧
  (∀ (s : State) (t : Nat) (r : RawRec) (rest : List RawRec), s.w.mainOn = true ∧ s.dev.sys.booting = false ∧
    s.dev.scr.fifo = r :: rest ∧ 0x100 ≤ r.code ∧ (s.w.bucket r.code).disable = false ∧ (s.w.bucket
    r.code).intervalMs ≠ 0 ∧ (s.w.bucket r.code).tokens < (s.w.bucket r.code).cap ∧ (s.w.bucket r.code).since +
    (s.w.bucket r.code).intervalMs * 1000000 ≤ s.upAt t ∧ (s.w.bucket r.code).sup ≠ 0 → ∃ u, exec (.scrivenerRecord
    t) s = .next u ∧ u.dev.scr.fifo = rest ∧ (u.w.bucket r.code).sup = 0 ∧ (tblGet u.dev.scr.log0
    ((s.dev.scr.nextSeq + 16383) % 16384)).map (fun x => [x.code, x.block, x.p0, x.p1, x.p2]) = some [0x002, 0xFF,
    r.code, (s.w.bucket r.code).sup, (s.w.bucket r.code).firstSup] ∧ (tblGet u.dev.scr.log0 ((s.dev.scr.nextSeq +
    16384) % 16384)).map (fun x => [x.code, x.block, x.p0, x.p1, x.p2, x.p3, x.stamp]) = some [r.code, r.block,
    r.p0, r.p1, r.p2, r.p3, r.stamp]) ∧
  (∀ (s : State) (t : Nat) (r : RawRec) (rest : List RawRec), s.w.mainOn = true ∧ s.dev.sys.booting = false ∧
    s.dev.scr.fifo = r :: rest ∧ 0x100 ≤ r.code ∧ (s.w.bucket r.code).disable = true ∧ (s.w.bucket r.code).sup = 0
    → ∃ u, exec (.scrivenerRecord t) s = .next u ∧ u.dev.scr.fifo = rest ∧ u.dev.scr.nextSeq = s.dev.scr.nextSeq ∧
    u.dev.scr.log0 = s.dev.scr.log0 ∧ u.reg REC_SUP_CNT_v = s.reg REC_SUP_CNT_v) ∧
  (∀ (s : State) (t : Nat), s.w.mainOn = false ∨ s.dev.sys.booting = true ∨ s.dev.scr.fifo = [] → ∃ u, exec
    (.scrivenerRecord t) s = .next u ∧ u.dev.scr = s.dev.scr) ∧
  (∀ (s : State) (t : Nat), True → ∃ u, exec (.lostRecordEmit t) s = .next u ∧ if s.dev.scr.lostCount ≠ 0 ∧
    s.dev.scr.lastLoss + 1000000 ≤ s.upAt t then u.dev.scr.lostCount = 0 ∧ u.dev.scr.nextSeq = (s.dev.scr.nextSeq +
    1) % 2 ^ 32 ∧ (tblGet u.dev.scr.log0 ((s.dev.scr.nextSeq + 16383) % 16384)).map (fun x => (x.code, x.block,
    x.p0, x.stamp)) = some (0x004, 0xFF, s.dev.scr.lostCount, s.nsAt t) else u.dev.scr = s.dev.scr) ∧
  (∀ (s : State) (code t : Nat), 0x100 ≤ code ∧ code < 4096 → ∃ u, exec (.tokenGain code t) s = .next u ∧ if
    (s.w.bucket code).intervalMs ≠ 0 ∧ (s.w.bucket code).tokens < (s.w.bucket code).cap ∧ (s.w.bucket code).since +
    (s.w.bucket code).intervalMs * 1000000 ≤ s.upAt t then (u.w.bucket code).tokens = (s.w.bucket code).tokens + 1
    ∧ (u.w.bucket code).since = (s.w.bucket code).since + (s.w.bucket code).intervalMs * 1000000 ∧ (u.w.bucket
    code).sup = 0 ∧ (if (s.w.bucket code).sup = 0 then u.dev.scr.log0 = s.dev.scr.log0 ∧ u.dev.scr.nextSeq =
    s.dev.scr.nextSeq else (tblGet u.dev.scr.log0 ((s.dev.scr.nextSeq + 16383) % 16384)).map (fun x => (x.code,
    x.block, x.p0, x.p1, x.p2)) = some (0x002, 0xFF, code, (s.w.bucket code).sup, (s.w.bucket code).firstSup)) else
    u.dev.scr = s.dev.scr) ∧
  (∀ (s : State) (hart : Nat) (v : W32), s.lanes ∧ hart < 4 ∧ 0xE00 ≤ v.toNat % 0x1000 → ∃ u, exec (.swRecord hart
    v) s = .next u ∧ if s.dev.scr.fifo.length < 240 then u.dev.scr.fifo = W.fifoPut ⟨v.toNat % 0x1000, true,
    s.w.tqCode == 0xF, 0xF0, s.ns, s.reg (REC_SW_P_v hart 0), s.reg (REC_SW_P_v hart 1), s.reg (REC_SW_P_v hart 2),
    s.reg (REC_SW_P_v hart 3)⟩ s.dev.scr.fifo else u.dev.scr.fifo = s.dev.scr.fifo ∧ u.dev.scr.lostFlag = true ∧
    u.dev.scr.lostCount = s.dev.scr.lostCount + 1 ∧ u.reg REC_LOST_CNT_v = min (s.reg REC_LOST_CNT_v + 1) (2 ^ 32 -
    1) ∧ u.bitOf REC_EVENT_lost = true) ∧
  (∀ (s : State) (hart : Nat) (v : W32), s.lanes ∧ hart < 4 ∧ v.toNat % 0x1000 < 0xE00 → ∃ u, exec (.swRecord hart
    v) s = .next u ∧ u.bitOf REC_EVENT_sw_bad = true ∧ u.dev.scr = s.dev.scr) ∧
  (∀ (s : State) (v : W32), s.lanes → ∃ u, exec (.rdSel v) s = .next u ∧ u.reg REC_RD_SEL_slot = v.toNat % 2 ^
    REC_RD_SEL_slot.width ∧ u.reg REC_RD_SEL_log = v.toNat / 2 ^ 16 % 2 ^ REC_RD_SEL_log.width ∧ (upTo 8).all (fun
    k => u.reg (REC_RD_DATA_v k) == le
    (((match u.reg REC_RD_SEL_log with | 0 => tblGet s.dev.scr.log0 (u.reg REC_RD_SEL_slot) | 1 => tblGet s.dev.scr.log1 (u.reg REC_RD_SEL_slot) | 2 => s.dev.scr.tail[u.reg REC_RD_SEL_slot]? | _ => none).map
    recBytes).getD (List.replicate 32 0)) (4 * k) 4) = true) ∧
  (∀ (s : State) (log x : Nat), s.lanes ∧ log = 0 ∧ s.dev.key.grant = some (5, log, x) ∧ s.dev.tb.up < x +
    300000000000 → ∃ u, exec (.recClear log) s = .next u ∧ u.dev.scr.log0.map (fun x => (x.2.code, x.2.p0,
    x.2.seq)) = [(0x003, 0, s.dev.scr.nextSeq)] ∧ u.dev.key.grant = none ∧ u.bitOf REC_EVENT_cleared = true ∧ u.reg
    REC_CMD_STATUS_done = 1 ∧ u.reg REC_CMD_STATUS_result = 0) ∧
  (∀ (s : State) (log x : Nat), s.lanes ∧ log = 1 ∧ s.dev.key.grant = some (5, log, x) ∧ s.dev.tb.up < x +
    300000000000 → ∃ u, exec (.recClear log) s = .next u ∧ u.dev.scr.log1 = [] ∧ u.dev.key.grant = none ∧ u.bitOf
    REC_EVENT_cleared = true ∧ u.reg REC_STATUS_mirror_held = 0 ∧ u.reg REC_CMD_STATUS_done = 1 ∧ u.reg
    REC_CMD_STATUS_result = 0) ∧
  (∀ (s : State) (log : Nat), s.lanes ∧ log < 4 ∧ (2 ≤ log ∨ s.w.granted 5 (some log) = false) → ∃ u, exec
    (.recClear log) s = .next u ∧ u.dev.scr = s.dev.scr ∧ u.dev.key = s.dev.key ∧ u.reg REC_CMD_STATUS_done = 1 ∧
    u.reg REC_CMD_STATUS_result = (if 2 ≤ log then 2 else 1)) ∧
  (∀ (s : State) (v : W32), s.lanes → ∃ u, exec (.rlCfgWrite v) s = .next u ∧ if 0x100 ≤ s.reg REC_RL_SEL_code then
    u.w.bucket (s.reg REC_RL_SEL_code) = ⟨v.toNat % 256, bits v.toNat 23 8, tst v.toNat 31, max 1 (v.toNat % 256),
    0, 0, s.dev.tb.up⟩ ∧ ((s.w.bucket (s.reg REC_RL_SEL_code)).sup ≠ 0 → (tblGet u.dev.scr.log0 ((s.dev.scr.nextSeq
    + 16383) % 16384)).map (fun x => (x.code, x.p0, x.p1)) = some (0x002, s.reg REC_RL_SEL_code, (s.w.bucket (s.reg
    REC_RL_SEL_code)).sup)) else u.dev = s.dev)

/-- SNAPSHOT copies all counters and records the instant. CLEAR_SEL zeroes one selected counter. FREEZE stops the
  counters from its instant, and released adds the time to PRF_FROZEN_NS; SW_INC counts each event named once,
  unless frozen. The sample buffer is emptied, and a sample of it shown, 0 where there is none. PRF_CNT_READ
  answers the LO word and latches HI, of the event and selected counters and of their snapshots; an event counter
  whose events the commands show holds what they counted. Elsewhere it answers 0. DAILY_SAMPLE in SERVING on a new
  day stores one value of each of indicators 0 and 4 to 39; on the same day, elsewhere or disabled it does nothing.
  RESET_IND in MAINTENANCE starts the indicator of HLT_SEL afresh with its rating, elsewhere answers STATE; an
  index from 40 on has no indicator. What a clause says beyond the rules cited is the model's own convention: log
  entries 3, 4, 11, 36, 74, 106 and 115. -/
def Obligations.TallymanAndCobbler : Prop :=
  (∀ (s : State), s.lanes → ∃ u, exec .prfSnapshot s = .next u ∧ u.dev.prf.snap = s.dev.prf.cnt ∧ u.dev.prf.selSnap
    = s.dev.prf.sel ∧ u.dev.prf.cnt = s.dev.prf.cnt ∧ u.dev.prf.sel = s.dev.prf.sel ∧ u.reg PRF_SNAP_NS_v = s.ns %
    1000000000 ∧ u.reg PRF_SNAP_SEC_LO_v = s.ns / 1000000000 % 2 ^ 32) ∧
  (∀ (s : State) (k : Nat), s.lanes ∧ k < 32 → ∃ u, exec (.clearSel k) s = .next u ∧ (tblGet u.dev.prf.sel k).getD
    0 = 0 ∧ u.dev.prf.cnt = s.dev.prf.cnt ∧ u.dev.regs = s.dev.regs) ∧
  (∀ (s : State) (t : Nat), s.lanes → ∃ u, exec (.freeze true t) s = .next u ∧ u.reg PRF_CTRL_freeze = 1 ∧
    u.dev.prf.frozenAt = (match s.dev.prf.frozenAt with | none => some (s.upAt t) | some x => some x)) ∧
  (∀ (s : State) (t : Nat), s.lanes → ∃ u, exec (.freeze false t) s = .next u ∧ u.reg PRF_CTRL_freeze = 0 ∧
    u.dev.prf.frozenAt = none ∧ u.reg PRF_FROZEN_NS_v =
    (match s.dev.prf.frozenAt with | none => s.reg PRF_FROZEN_NS_v | some x => min (s.reg PRF_FROZEN_NS_v + (s.upAt t - x)) (2 ^ 32 - 1))) ∧
  (∀ (s : State) (v : W32), s.lanes → ∃ u, exec (.swInc v) s = .next u ∧ if s.bitOf PRF_CTRL_freeze then u.dev.prf
    = s.dev.prf else (upTo 16).all (fun n => (tblGet u.dev.prf.cnt (0xF0 + n)).getD 0 % 2 ^ 64 == ((tblGet
    s.dev.prf.cnt (0xF0 + n)).getD 0 + (if v.getLsbD n then 1 else 0)) % 2 ^ 64) = true) ∧
  (∀ (s : State), s.lanes → ∃ u, exec .smpStatClear s = .next u ∧ u.dev.prf.samples = [] ∧ u.reg PRF_SMP_STAT_held
    = 0) ∧
  (∀ (s : State) (v : W32), s.lanes → ∃ u, exec (.smpSelLatch v) s = .next u ∧ u.dev.prf = s.dev.prf ∧ (upTo 8).all
    (fun k => u.reg (PRF_SMP_DATA_v k) == le ((s.dev.prf.samples[v.toNat % 1024]?.map sampleBytes).getD
    (List.replicate 32 0)) (4 * k) 4) = true) ∧
  (∀ (s : State) (addr : Nat) (x : Nat × Fld), s.lanes ∧ s.w.counterAt addr = some x → ∃ u, exec (.prfCntRead addr)
    s = .next u ∧ u.dev.resp = ⟨x.1 % 2 ^ 32, false⟩ ∧ u.reg x.2 = x.1 / 2 ^ 32 % 2 ^ 32 ∧ u.dev.prf = s.dev.prf) ∧
  (∀ (s : State) (addr : Nat), s.lanes ∧ 0x40151000 ≤ addr ∧ addr < 0x40151800 ∧ addr % 8 = 0 ∧
    unseenEvents.contains ((addr - 0x40151000) / 8) = false → ∃ u, exec (.prfCntRead addr) s = .next u ∧ u.dev.resp
    = ⟨(tblGet s.dev.prf.cnt ((addr - 0x40151000) / 8)).getD 0 % 2 ^ 64 % 2 ^ 32, false⟩) ∧
  (∀ (s : State) (addr : Nat), s.lanes ∧ s.w.counterAt addr = none → ∃ u, exec (.prfCntRead addr) s = .next u ∧
    u.dev.resp = ⟨0, false⟩ ∧ u.dev.prf = s.dev.prf) ∧
  (∀ (s : State) (t : Nat), True → ∃ u, exec (.dailySample t) s = .next u ∧ if s.dev.op = .serving ∧ s.bitOf
    HLT_CTRL_enable = true ∧ s.dev.hlt.lastDay.all (fun d => decide (d < s.dev.rtc.secs / 86400)) = true then
    u.dev.hlt.lastDay = some (s.dev.rtc.secs / 86400) ∧ u.dev.hlt.lockedNs = 0 ∧ u.dev.hlt.refUsed = false ∧
    u.dev.hlt.fCnt = 0 ∧ (upTo 40).all (fun i => decide (i = 1 ∨ i = 2 ∨ i = 3) || (u.w.indicator i).hist ==
    ((s.dev.rtc.secs / 86400, (s.w.indicator i).u i) :: (s.w.indicator i).hist).take 90) = true else
    u.dev.hlt.lastDay = s.dev.hlt.lastDay ∧ u.dev.hlt.ind = s.dev.hlt.ind) ∧
  (∀ (s : State), s.lanes → ∃ u, exec .resetInd s = .next u ∧ if s.dev.key.lc ≠ 3 then u.dev.hlt = s.dev.hlt ∧
    u.reg HLT_CMD_STATUS_done = 1 ∧ u.reg HLT_CMD_STATUS_result = 1 else if s.reg HLT_SEL_index < 40 then
    u.w.indicator (s.reg HLT_SEL_index) =
    { Indicator.fresh (s.reg HLT_SEL_index) with rated := (s.w.indicator (s.reg HLT_SEL_index)).rated } ∧ u.reg
    HLT_CMD_STATUS_done = 1 ∧ u.reg HLT_CMD_STATUS_result = 0 else u.dev = s.dev)

/-- HELLO_SEND, serving and not OFF, hb_ms after the last takes a Crier seq for each copy of a HELLO; else nothing.
  An accepted HELLO is kept and shows its path as heard. SEEKING, one from ACTIVE or ALONE leads to SYNCING under
  the higher term, from SEEKING to ALONE for the winner, under the next term, and SYNCING for the loser; a member
  that may take over does so, into ALONE, unless the partner is ACTIVE or SWAPPING or a drill awaits it; else
  SYNCING or STANDBY it takes an active partner's higher term and asks for a copy where one is needed; two active
  members split, and the loser is demoted to SYNCING; ALONE, one from STANDBY makes it ACTIVE. Any other changes no
  state, nor does a message not accepted. A partner silent on its paths for the quiet time is lost: a member that
  may take over does so, an ACTIVE one is ALONE; sooner, nothing. The pair link lost alone makes a STANDBY mirror
  stale and drops what waits, the network path alone sets net_lost; the only path as PARTNER_LOST; a path not heard
  or not silent long enough, nothing. SEEK_TIMEOUT in SEEKING, no partner heard for seek_s, leads to ALONE under
  the next term; else nothing. A STOP makes a member that may take over, or SWAPPING, do so, and an ACTIVE one
  ALONE. TAKE takes over, answers STATE where it may not and BUSY behind a command. enable 1 takes OFF to SEEKING;
  0 takes SEEKING and ALONE to OFF, and is held elsewhere. A member that may take over is STANDBY, or SYNCING after
  a full copy; where enable is 0, ALONE reads OFF. What a clause says beyond the rules cited is the model's own
  convention: log entries 3, 4, 101 and 102. -/
def Obligations.PartnerPairing : Prop :=
  (∀ (s : State) (t : Nat), True → ∃ u, exec (.helloSend t) s = .next u ∧ u.reg PTN_STATUS_state = s.reg
    PTN_STATUS_state ∧ (if s.w.serves = true ∧ s.w.ptnState ≠ 0 ∧ s.dev.ptn.helloUp + s.w.hbMs * 1000000 ≤ s.upAt t
    then u.dev.ptn.helloUp = s.upAt t ∧ u.dev.cry.seq = (if s.w.ptnKey.isNone = true ∨
    s.dev.pat.active.tiles.isEmpty = true then s.dev.cry.seq else (s.dev.cry.seq + (if s.w.isPair s.w.me then 2
    else 1)) % 2 ^ 32) else u.dev.ptn = s.dev.ptn ∧ u.dev.cry = s.dev.cry)) ∧
  (∀ (s : State) (m : BrdMsg) (b : List Byte), ((s.w.at_ m.t).ptnAccept m 0x10).2 = some b ∧ b.length = 32 → ∃ u,
    exec (.helloRx m) s = .next u ∧ u.dev.ptn.hello = some (helloRead b) ∧ (if m.link then u.dev.ptn.linkUp =
    s.upAt m.t ∧ u.reg PTN_STATUS_link_up = 1 else u.dev.ptn.netUp = s.upAt m.t ∧ u.reg PTN_STATUS_net_heard = 1) ∧
    ((helloRead b).serial ≠ s.w.patSerial → u.bitOf PTN_EVENT_pattern_mismatch = true)) ∧
  (∀ (s : State) (m : BrdMsg) (b : List Byte), ((s.w.at_ m.t).ptnAccept m 0x10).2 = some b ∧ b.length = 32 ∧
    s.w.ptnState = 1 ∧ ((helloRead b).state = 4 ∨ (helloRead b).state = 5) → ∃ u, exec (.helloRx m) s = .next u ∧
    u.reg PTN_STATUS_state = 2 ∧ u.dev.ptn.term = max s.dev.ptn.term (helloRead b).term ∧ u.dev.ptn.asked = true ∧
    u.dev.ptn.applied = none) ∧
  (∀ (s : State) (m : BrdMsg) (b : List Byte), ((s.w.at_ m.t).ptnAccept m 0x10).2 = some b ∧ b.length = 32 ∧
    s.w.ptnState = 1 ∧ (helloRead b).state = 1 → ∃ u, exec (.helloRx m) s = .next u ∧ if s.w.wins (helloRead
    b).term then u.reg PTN_STATUS_state = (if s.bitOf PTN_CTRL_enable then 5 else 0) ∧ u.dev.ptn.term =
    (s.dev.ptn.term + 1) % 2 ^ 32 else u.reg PTN_STATUS_state = 2 ∧ u.dev.ptn.term = s.dev.ptn.term) ∧
  (∀ (s : State) (m : BrdMsg) (b : List Byte), ((s.w.at_ m.t).ptnAccept m 0x10).2 = some b ∧ b.length = 32 ∧
    s.w.mayTake = true ∧ (helloRead b).state ≠ 4 ∧ (helloRead b).state ≠ 6 ∧ (s.dev.ptn.drill = none ∨ (helloRead
    b).state ≠ 3) → ∃ u, exec (.helloRx m) s = .next u ∧ u.reg PTN_STATUS_state = (if s.bitOf PTN_CTRL_enable then
    5 else 0) ∧ u.dev.ptn.term = (s.dev.ptn.term + 1) % 2 ^ 32 ∧ u.dev.ptn.take = some (s.nsAt m.t) ∧ u.bitOf
    PTN_EVENT_takeover = true) ∧
  (∀ (s : State) (m : BrdMsg) (b : List Byte), ((s.w.at_ m.t).ptnAccept m 0x10).2 = some b ∧ b.length = 32 ∧
    (s.w.ptnState = 2 ∨ s.w.ptnState = 3) ∧ (s.w.mayTake = false ∨ (helloRead b).state = 4 ∨ (helloRead b).state =
    6 ∨ (s.dev.ptn.drill.isSome = true ∧ (helloRead b).state = 3)) → ∃ u, exec (.helloRx m) s = .next u ∧
    u.dev.ptn.term = (if ((helloRead b).state = 4 ∨ (helloRead b).state = 5 ∨ (helloRead b).state = 6) then max
    s.dev.ptn.term (helloRead b).term else s.dev.ptn.term) ∧ u.reg PTN_STATUS_state = (if ((helloRead b).state = 4
    ∨ (helloRead b).state = 5 ∨ (helloRead b).state = 6) ∧ (m.link = true ∨ s.bitOf PTN_STATUS_link_up = true) ∧
    ((s.w.ptnState = 2 ∧ s.dev.ptn.asked = false) ∨ (s.w.ptnState = 3 ∧ s.bitOf PTN_STATUS_mirror_stale = true ∧
    (helloRead b).serial = s.w.patSerial)) then 2 else s.reg PTN_STATUS_state) ∧ ((helloRead b).state = 4 →
    u.dev.ptn.drill = none)) ∧
  (∀ (s : State) (m : BrdMsg) (b : List Byte), ((s.w.at_ m.t).ptnAccept m 0x10).2 = some b ∧ b.length = 32 ∧ 4 ≤
    s.w.ptnState ∧ s.w.ptnState ≤ 6 ∧ ((helloRead b).state = 4 ∨ (helloRead b).state = 5 ∨ (helloRead b).state = 6)
    → ∃ u, exec (.helloRx m) s = .next u ∧ u.dev.ptn.splitSeen = true ∧ (s.dev.ptn.splitSeen = false → u.bitOf
    PTN_EVENT_split = true) ∧ (if s.w.wins (helloRead b).term then u.reg PTN_STATUS_state = s.reg PTN_STATUS_state
    else u.reg PTN_STATUS_state = 2 ∧ u.bitOf PTN_EVENT_demoted = true ∧ u.dev.ptn.asked = true ∧ u.dev.ptn.full =
    false ∧ u.dev.ptn.queue = [])) ∧
  (∀ (s : State) (m : BrdMsg) (b : List Byte), ((s.w.at_ m.t).ptnAccept m 0x10).2 = some b ∧ b.length = 32 ∧ 4 ≤
    s.w.ptnState ∧ s.w.ptnState ≤ 6 ∧ ¬((helloRead b).state = 4 ∨ (helloRead b).state = 5 ∨ (helloRead b).state =
    6) → ∃ u, exec (.helloRx m) s = .next u ∧ u.dev.ptn.term = s.dev.ptn.term ∧ (if s.w.ptnState = 5 ∧ (helloRead
    b).state = 3 then u.reg PTN_STATUS_state = 4 ∧ u.reg PTN_STATUS_mirror_stale = 0 else u.reg PTN_STATUS_state =
    s.reg PTN_STATUS_state)) ∧
  (∀ (s : State) (m : BrdMsg) (b : List Byte), ((s.w.at_ m.t).ptnAccept m 0x10).2 = some b ∧ b.length = 32 ∧
    s.w.ptnState = 1 ∧ (helloRead b).state ≠ 1 ∧ (helloRead b).state ≠ 4 ∧ (helloRead b).state ≠ 5 → ∃ u, exec
    (.helloRx m) s = .next u ∧ u.reg PTN_STATUS_state = s.reg PTN_STATUS_state ∧ u.dev.ptn.term = s.dev.ptn.term) ∧
  (∀ (s : State) (m : BrdMsg), ((s.w.at_ m.t).ptnAccept m 0x10).2.all (fun b => b.length != 32) = true ∧ ((s.w.at_
    m.t).ptnAccept m 0x15).2.all (fun b => b.length != 4) = true → ∀ c ∈ [Instr.helloRx m, .stopRx m], ∃ u, exec c
    s = .next u ∧ u.reg PTN_STATUS_state = s.reg PTN_STATUS_state ∧ u.dev.ptn.hello = s.dev.ptn.hello ∧
    u.dev.ptn.term = s.dev.ptn.term) ∧
  (∀ (s : State) (t : Nat), s.w.serves = true ∧ (s.bitOf PTN_STATUS_link_up = true ∨ s.bitOf PTN_STATUS_net_heard =
    true) ∧ (s.bitOf PTN_STATUS_link_up = true → s.dev.ptn.linkUp + s.w.quietNs ≤ s.upAt t) ∧ (s.bitOf
    PTN_STATUS_net_heard = true → s.dev.ptn.netUp + s.w.quietNs ≤ s.upAt t) → ∃ u, exec (.partnerLost t) s = .next
    u ∧ u.dev.ptn.hello = none ∧ u.reg PTN_STATUS_link_up = 0 ∧ u.reg PTN_STATUS_net_heard = 0 ∧ (if s.w.mayTake
    then u.reg PTN_STATUS_state = (if s.bitOf PTN_CTRL_enable then 5 else 0) ∧ u.dev.ptn.term = (s.dev.ptn.term +
    1) % 2 ^ 32 ∧ u.dev.ptn.take = some (s.nsAt t) ∧ u.bitOf PTN_EVENT_takeover = true else u.reg PTN_STATUS_state
    = (if s.w.ptnState = 4 then (if s.bitOf PTN_CTRL_enable then 5 else 0) else s.reg PTN_STATUS_state) ∧
    u.dev.ptn.term = s.dev.ptn.term)) ∧
  (∀ (s : State) (t : Nat), ¬(s.w.serves = true ∧ (s.bitOf PTN_STATUS_link_up = true ∨ s.bitOf PTN_STATUS_net_heard
    = true) ∧ (s.bitOf PTN_STATUS_link_up = true → s.dev.ptn.linkUp + s.w.quietNs ≤ s.upAt t) ∧ (s.bitOf
    PTN_STATUS_net_heard = true → s.dev.ptn.netUp + s.w.quietNs ≤ s.upAt t)) → ∃ u, exec (.partnerLost t) s = .next
    u ∧ u.dev.ptn = s.dev.ptn ∧ u.reg PTN_STATUS_state = s.reg PTN_STATUS_state) ∧
  (∀ (s : State) (t : Nat), s.w.serves = true ∧ s.bitOf PTN_STATUS_link_up = true ∧ s.dev.ptn.linkUp + s.w.quietNs
    ≤ s.upAt t ∧ s.bitOf PTN_STATUS_net_heard = true → ∃ u, exec (.pairPathLost true t) s = .next u ∧ u.reg
    PTN_STATUS_link_up = 0 ∧ u.bitOf PTN_STATUS_net_heard = true ∧ u.bitOf PTN_EVENT_link_down = true ∧
    u.dev.ptn.queue = [] ∧ (s.w.ptnState = 3 → u.reg PTN_STATUS_mirror_stale = 1) ∧ u.reg PTN_STATUS_state = s.reg
    PTN_STATUS_state) ∧
  (∀ (s : State) (t : Nat), s.w.serves = true ∧ s.bitOf PTN_STATUS_net_heard = true ∧ s.dev.ptn.netUp + s.w.quietNs
    ≤ s.upAt t ∧ s.bitOf PTN_STATUS_link_up = true → ∃ u, exec (.pairPathLost false t) s = .next u ∧ u.reg
    PTN_STATUS_net_heard = 0 ∧ u.bitOf PTN_STATUS_link_up = true ∧ u.bitOf PTN_EVENT_net_lost = true ∧ u.dev.ptn =
    s.dev.ptn) ∧
  (∀ (s : State) (link : Bool) (t : Nat), s.w.serves = true ∧ (if link then s.bitOf PTN_STATUS_link_up else s.bitOf
    PTN_STATUS_net_heard) = true ∧ (if link then s.bitOf PTN_STATUS_net_heard else s.bitOf PTN_STATUS_link_up) =
    false ∧ (if link then s.dev.ptn.linkUp else s.dev.ptn.netUp) + s.w.quietNs ≤ s.upAt t → ∃ u, exec
    (.pairPathLost link t) s = .next u ∧ u.dev.ptn.hello = none ∧ u.reg PTN_STATUS_link_up = 0 ∧ u.reg
    PTN_STATUS_net_heard = 0 ∧ (if s.w.mayTake then u.reg PTN_STATUS_state = (if s.bitOf PTN_CTRL_enable then 5
    else 0) ∧ u.dev.ptn.term = (s.dev.ptn.term + 1) % 2 ^ 32 ∧ u.dev.ptn.take = some (s.nsAt t) ∧ u.bitOf
    PTN_EVENT_takeover = true else u.reg PTN_STATUS_state = (if s.w.ptnState = 4 then (if s.bitOf PTN_CTRL_enable
    then 5 else 0) else s.reg PTN_STATUS_state) ∧ u.dev.ptn.term = s.dev.ptn.term)) ∧
  (∀ (s : State) (link : Bool) (t : Nat), ¬(s.w.serves = true ∧ (if link then s.bitOf PTN_STATUS_link_up else
    s.bitOf PTN_STATUS_net_heard) = true ∧ (if link then s.dev.ptn.linkUp else s.dev.ptn.netUp) + s.w.quietNs ≤
    s.upAt t) → ∃ u, exec (.pairPathLost link t) s = .next u ∧ u.dev.ptn = s.dev.ptn ∧ u.reg PTN_STATUS_state =
    s.reg PTN_STATUS_state) ∧
  (∀ (s : State) (t : Nat), True → ∃ u, exec (.seekTimeout t) s = .next u ∧ if s.w.serves = true ∧ s.w.ptnState = 1
    ∧ s.bitOf PTN_STATUS_link_up = false ∧ s.bitOf PTN_STATUS_net_heard = false ∧ s.dev.ptn.since + max 1 (s.reg
    PTN_CFG_seek_s) * 1000000000 ≤ s.upAt t then u.reg PTN_STATUS_state = (if s.bitOf PTN_CTRL_enable then 5 else
    0) ∧ u.dev.ptn.term = (s.dev.ptn.term + 1) % 2 ^ 32 else u.dev.ptn = s.dev.ptn ∧ u.reg PTN_STATUS_state = s.reg
    PTN_STATUS_state) ∧
  (∀ (s : State) (m : BrdMsg) (b : List Byte), ((s.w.at_ m.t).ptnAccept m 0x15).2 = some b ∧ b.length = 4 → ∃ u,
    exec (.stopRx m) s = .next u ∧ if s.w.mayTake = true ∨ s.w.ptnState = 6 then u.reg PTN_STATUS_state = (if
    s.bitOf PTN_CTRL_enable then 5 else 0) ∧ u.dev.ptn.term = (s.dev.ptn.term + 1) % 2 ^ 32 ∧ u.dev.ptn.take = some
    (s.nsAt m.t) ∧ u.bitOf PTN_EVENT_takeover = true else u.reg PTN_STATUS_state = (if s.w.ptnState = 4 then (if
    s.bitOf PTN_CTRL_enable then 5 else 0) else s.reg PTN_STATUS_state) ∧ u.dev.ptn.term = s.dev.ptn.term) ∧
  (∀ (s : State), s.lanes → ∃ u, exec .take s = .next u ∧ u.reg PTN_CMD_STATUS_done = 1 ∧ (if s.dev.ptn.cmd ≠ 0
    then u.dev.ptn = s.dev.ptn ∧ u.reg PTN_CMD_STATUS_result = 2 else if s.w.serves = true ∧ s.w.mayTake = true
    then u.reg PTN_STATUS_state = (if s.bitOf PTN_CTRL_enable then 5 else 0) ∧ u.dev.ptn.term = (s.dev.ptn.term +
    1) % 2 ^ 32 ∧ u.dev.ptn.take = some s.ns ∧ u.reg PTN_CMD_STATUS_result = 0 else u.dev.ptn = s.dev.ptn ∧ u.reg
    PTN_CMD_STATUS_result = 1)) ∧
  (∀ (s : State) (v : W32), s.lanes → ∃ u, exec (.ptnEnableWrite v) s = .next u ∧ u.bitOf PTN_CTRL_enable =
    v.getLsbD 0 ∧ u.reg PTN_STATUS_state = (if s.w.serves = false then s.reg PTN_STATUS_state else if v.getLsbD 0 =
    true ∧ s.w.ptnState = 0 then 1 else if v.getLsbD 0 = false ∧ (s.w.ptnState = 1 ∨ s.w.ptnState = 5) then 0 else
    s.reg PTN_STATUS_state))

/-- MIRROR_SEND of an active member with its pair link up sends grid state first and alone, under the next
  mirror_seq; else the items in order that fit 1,020 bytes, the first of two that fit only apart; with nothing to
  send, nothing. The accumulators go every 1 s. A standby with its link up applies the next message, its items
  sound, and shows its number; a record enters log 1; after an unsound one or a gap it asks for a copy; a repeated
  one, or one elsewhere, it ignores. An active member shows the ACK received. SYNC_REQ puts a full copy in place of
  what waits; once it is sent SYNC_DONE follows. SYNC_DONE makes a SYNCING member that has applied all STANDBY, and
  another ask again. A message not accepted does nothing of this. BLOB_SYNC queues the key-blob region; else it
  answers BUSY, STATE, PATTERN, LINK or ADDRESS; it ends once every chunk is sent. RESYNC makes a standby ask for a
  copy; else it answers BUSY, STATE, PATTERN or LINK. What a clause says beyond the rules cited is the model's own
  convention: log entries 3, 4, 103, 105 and 106. -/
def Obligations.PartnerMirror : Prop :=
  (∀ (s : State) (t : Nat) (g : MirItem), (s.w.at_ t).mirrors = true ∧ s.dev.ptn.queue.find? (fun x => x.kind == 6)
    = some g → ∃ u, exec (.mirrorSend t) s = .next u ∧ u.dev.ptn.queue = s.dev.ptn.queue.erase g ∧ u.dev.ptn.sent =
    (s.dev.ptn.sent + 1) % 2 ^ 32 ∧ u.reg PTN_MSEQ_v = (s.dev.ptn.sent + 1) % 2 ^ 32 ∧ u.dev.cry.seq = (if
    s.w.ptnKey.isNone = true ∨ s.dev.pat.active.tiles.isEmpty = true then s.dev.cry.seq else (s.dev.cry.seq + (if
    s.w.isPair s.w.me then 2 else 1)) % 2 ^ 32)) ∧
  (∀ (s : State) (t : Nat), (s.w.at_ t).mirrors = true ∧ s.dev.ptn.queue.any (fun x => x.kind == 6) = false ∧
    (fillMessage 1020 s.dev.ptn.queue []).1.isEmpty = false → ∃ u, exec (.mirrorSend t) s = .next u ∧
    u.dev.ptn.queue = (fillMessage 1020 s.dev.ptn.queue []).2 ∧ u.dev.ptn.sent = (s.dev.ptn.sent + 1) % 2 ^ 32 ∧
    u.reg PTN_MSEQ_v = (s.dev.ptn.sent + 1) % 2 ^ 32 ∧ u.dev.cry.seq = (if s.w.ptnKey.isNone = true ∨
    s.dev.pat.active.tiles.isEmpty = true then s.dev.cry.seq else (s.dev.cry.seq + (if s.w.isPair s.w.me then 2
    else 1)) % 2 ^ 32)) ∧
  (∀ (s : State) (t : Nat) (a b : MirItem), (s.w.at_ t).mirrors = true ∧ s.dev.ptn.queue = [a, b] ∧ a.kind ≠ 6 ∧
    b.kind ≠ 6 ∧ a.data.length ≤ 1000 ∧ 1020 < (itemBytes a).length + (itemBytes b).length → ∃ u, exec (.mirrorSend
    t) s = .next u ∧ u.dev.ptn.queue = [b] ∧ u.dev.ptn.sent = (s.dev.ptn.sent + 1) % 2 ^ 32 ∧ u.reg PTN_MSEQ_v =
    (s.dev.ptn.sent + 1) % 2 ^ 32) ∧
  (∀ (s : State) (t : Nat), (s.w.at_ t).mirrors = false ∨ s.dev.ptn.queue = [] → ∃ u, exec (.mirrorSend t) s =
    .next u ∧ u.dev.ptn = s.dev.ptn ∧ u.dev.cry = s.dev.cry) ∧
  (∀ (s : State) (t : Nat), True → ∃ u, exec (.maccMirror t) s = .next u ∧ if (s.w.at_ t).mirrors = true ∧
    s.dev.ptn.accUp + 1000000000 ≤ s.upAt t then u.dev.ptn.accUp = s.upAt t ∧ u.dev.ptn.sent = (s.dev.ptn.sent + 1)
    % 2 ^ 32 ∧ u.reg PTN_MSEQ_v = (s.dev.ptn.sent + 1) % 2 ^ 32 ∧ u.dev.ptn.queue = s.dev.ptn.queue else u.dev.ptn
    = s.dev.ptn) ∧
  (∀ (s : State) (m : BrdMsg) (b : List Byte) (is_ : List MirItem), ((s.w.at_ m.t).ptnAccept m 0x11).2 = some b ∧ 4
    ≤ b.length ∧ s.w.isStandby = true ∧ s.bitOf PTN_STATUS_link_up = true ∧ (s.dev.ptn.applied.any (fun a => be b 0
    4 == (a + 1) % 2 ^ 32) = true ∨ (s.dev.ptn.applied = none ∧ s.dev.ptn.asked = true)) ∧ itemsOf 128 (b.drop 4) =
    some is_ ∧ is_.all (fun i => s.w.itemOk i) = true → ∃ u, exec (.mirrorRx m) s = .next u ∧ u.dev.ptn.applied =
    some (be b 0 4) ∧ u.reg PTN_MSEQ_v = be b 0 4 ∧ u.reg PTN_ACK_v = be b 0 4 ∧ u.reg PTN_STATUS_state = s.reg
    PTN_STATUS_state) ∧
  (∀ (s : State) (m : BrdMsg) (b : List Byte) (n : Nat) (x : MirItem), ((s.w.at_ m.t).ptnAccept m 0x11).2 = some b
    ∧ 4 ≤ b.length ∧ n = be b 0 4 ∧ s.w.isStandby = true ∧ s.bitOf PTN_STATUS_link_up = true ∧
    (s.dev.ptn.applied.any (fun a => be b 0 4 == (a + 1) % 2 ^ 32) = true ∨ (s.dev.ptn.applied = none ∧
    s.dev.ptn.asked = true)) ∧ itemsOf 128 (b.drop 4) = some [x] ∧ x.kind = 9 ∧ x.data.length = 32 ∧ le x.data 4 4
    = x.index ∧ s.bitOf REC_CTRL_accept_mirror = true → ∃ u, exec (.mirrorRx m) s = .next u ∧ u.dev.ptn.applied =
    some n ∧ (tblGet u.dev.scr.log1 ((x.index + 16383) % 16384)).map recBytes = some x.data ∧ u.reg
    REC_MIRROR_SEQ_v = x.index) ∧
  (∀ (s : State) (m : BrdMsg) (b : List Byte), ((s.w.at_ m.t).ptnAccept m 0x11).2 = some b ∧ 4 ≤ b.length ∧
    s.w.isStandby = true ∧ s.bitOf PTN_STATUS_link_up = true ∧ (s.dev.ptn.applied.any (fun a => be b 0 4 == (a + 1)
    % 2 ^ 32) = true ∨ (s.dev.ptn.applied = none ∧ s.dev.ptn.asked = true)) ∧ (itemsOf 128 (b.drop 4)).all (fun l
    => l.any (fun i => !s.w.itemOk i)) = true → ∃ u, exec (.mirrorRx m) s = .next u ∧ u.dev.ptn.applied = none ∧
    u.dev.ptn.asked = true ∧ u.reg PTN_STATUS_state = 2 ∧ u.reg PTN_STATUS_synced = 0) ∧
  (∀ (s : State) (m : BrdMsg) (b : List Byte), ((s.w.at_ m.t).ptnAccept m 0x11).2 = some b ∧ 4 ≤ b.length ∧
    s.w.isStandby = true ∧ s.bitOf PTN_STATUS_link_up = true ∧ s.dev.ptn.applied.any (fun a => be b 0 4 != (a + 1)
    % 2 ^ 32 && decide (2 ^ 31 ≤ (a + 2 ^ 32 - be b 0 4) % 2 ^ 32)) = true → ∃ u, exec (.mirrorRx m) s = .next u ∧
    u.dev.ptn.applied = none ∧ u.dev.ptn.asked = true ∧ u.reg PTN_STATUS_state = 2 ∧ u.reg PTN_STATUS_synced = 0) ∧
  (∀ (s : State) (m : BrdMsg) (b : List Byte), ((s.w.at_ m.t).ptnAccept m 0x11).2 = some b ∧ 4 ≤ b.length ∧
    (s.w.isStandby = false ∨ s.bitOf PTN_STATUS_link_up = false ∨ (s.dev.ptn.applied = none ∧ s.dev.ptn.asked =
    false) ∨ s.dev.ptn.applied.any (fun a => be b 0 4 != (a + 1) % 2 ^ 32 && decide ((a + 2 ^ 32 - be b 0 4) % 2 ^
    32 < 2 ^ 31)) = true) → ∃ u, exec (.mirrorRx m) s = .next u ∧ u.dev.ptn.applied = s.dev.ptn.applied ∧ u.reg
    PTN_STATUS_state = s.reg PTN_STATUS_state) ∧
  (∀ (s : State) (m : BrdMsg) (b : List Byte), ((s.w.at_ m.t).ptnAccept m 0x12).2 = some b ∧ b.length = 4 → ∃ u,
    exec (.mirrorAckRx m) s = .next u ∧ if 4 ≤ s.w.ptnState then u.dev.ptn.acked = be b 0 4 ∧ u.reg PTN_ACK_v = be
    b 0 4 else u.dev.ptn.acked = s.dev.ptn.acked) ∧
  (∀ (s : State) (m : BrdMsg), ((s.w.at_ m.t).ptnAccept m 0x13).2 = some [] → ∃ u, exec (.syncReqRx m) s = .next u
    ∧ if (s.w.at_ m.t).mirrors then u.dev.ptn.copying = true ∧ u.dev.ptn.copySeq = s.dev.ptn.sent ∧ u.dev.ptn.queue
    = (s.w.at_ m.t).fullCopy else u.dev.ptn.queue = s.dev.ptn.queue) ∧
  (∀ (s : State) (t : Nat), True → ∃ u, exec (.fullCopyDone t) s = .next u ∧ if (s.w.at_ t).mirrors = true ∧
    s.dev.ptn.copying = true ∧ s.dev.ptn.queue.any (fun x => x.copy) = false then u.dev.ptn.copying = false ∧
    u.bitOf PTN_EVENT_sync_done = true ∧ u.dev.cry.seq = (if s.w.ptnKey.isNone = true ∨
    s.dev.pat.active.tiles.isEmpty = true then s.dev.cry.seq else (s.dev.cry.seq + (if s.w.isPair s.w.me then 2
    else 1)) % 2 ^ 32) else u.dev.ptn = s.dev.ptn) ∧
  (∀ (s : State) (m : BrdMsg) (b : List Byte), ((s.w.at_ m.t).ptnAccept m 0x14).2 = some b ∧ b.length = 4 → ∃ u,
    exec (.syncDoneRx m) s = .next u ∧ if s.w.ptnState ≠ 2 then u.reg PTN_STATUS_state = s.reg PTN_STATUS_state
    else if s.dev.ptn.applied.any (fun a => decide ((a + 2 ^ 32 - be b 0 4) % 2 ^ 32 < 2 ^ 31)) = true then u.reg
    PTN_STATUS_state = 3 ∧ u.reg PTN_STATUS_synced = 1 ∧ u.reg PTN_STATUS_mirror_stale = 0 ∧ u.dev.ptn.full = true
    ∧ u.bitOf PTN_EVENT_sync_done = true ∧ (s.dev.ptn.cmd = 3 → u.reg PTN_CMD_STATUS_result = 0) else u.reg
    PTN_STATUS_state = 2 ∧ u.dev.ptn.asked = true ∧ u.reg PTN_STATUS_synced = 0) ∧
  (∀ (s : State) (m : BrdMsg), ((s.w.at_ m.t).ptnAccept m 0x11).2.all (fun b => decide (b.length < 4)) = true ∧
    ((s.w.at_ m.t).ptnAccept m 0x12).2.all (fun b => b.length != 4) = true ∧ ((s.w.at_ m.t).ptnAccept m 0x13).2.all
    (fun b => b.length != 0) = true ∧ ((s.w.at_ m.t).ptnAccept m 0x14).2.all (fun b => b.length != 4) = true → ∀ c
    ∈ [Instr.mirrorRx m, .mirrorAckRx m, .syncReqRx m, .syncDoneRx m], ∃ u, exec c s = .next u ∧ u.reg
    PTN_STATUS_state = s.reg PTN_STATUS_state ∧ u.dev.ptn.applied = s.dev.ptn.applied ∧ u.dev.ptn.queue =
    s.dev.ptn.queue ∧ u.dev.ptn.acked = s.dev.ptn.acked) ∧
  (∀ (s : State), s.lanes ∧ s.dev.ptn.cmd = 0 ∧ s.w.ptnState = 4 ∧ s.dev.ptn.hello.all (fun p => p.serial ==
    s.w.patSerial) = true ∧ s.bitOf PTN_STATUS_link_up = true ∧ s.w.blobOk = true → ∃ u, exec .blobSync s = .next u
    ∧ u.dev.ptn.queue = s.dev.ptn.queue ++ s.w.blobItems false ∧ u.dev.ptn.cmd = 2 ∧ u.reg PTN_CMD_STATUS_busy = 1) ∧
  (∀ (s : State), s.lanes ∧ (s.dev.ptn.cmd ≠ 0 ∨ s.w.ptnState ≠ 4 ∨ ¬(s.dev.ptn.hello.all (fun p => p.serial ==
    s.w.patSerial) = true) ∨ s.bitOf PTN_STATUS_link_up = false ∨ s.w.blobOk = false) → ∃ u, exec .blobSync s =
    .next u ∧ u.dev.ptn = s.dev.ptn ∧ u.reg PTN_CMD_STATUS_done = 1 ∧ u.reg PTN_CMD_STATUS_result = (if
    s.dev.ptn.cmd ≠ 0 then 2 else if s.w.ptnState ≠ 4 then 1 else if ¬(s.dev.ptn.hello.all (fun p => p.serial ==
    s.w.patSerial) = true) then 3 else if s.bitOf PTN_STATUS_link_up = false then 4 else 5)) ∧
  (∀ (s : State) (t : Nat), True → ∃ u, exec (.blobSyncDone t) s = .next u ∧ if s.dev.ptn.cmd = 2 ∧
    s.dev.ptn.queue.any (fun x => x.kind == 8) = false then u.dev.ptn.cmd = 0 ∧ u.reg PTN_CMD_STATUS_busy = 0 ∧
    u.reg PTN_CMD_STATUS_done = 1 ∧ u.reg PTN_CMD_STATUS_result = 0 else u.dev.ptn = s.dev.ptn) ∧
  (∀ (s : State), s.lanes ∧ s.dev.ptn.cmd = 0 ∧ s.w.isStandby = true ∧ s.dev.ptn.hello.all (fun p => p.serial ==
    s.w.patSerial) = true ∧ s.bitOf PTN_STATUS_link_up = true → ∃ u, exec .ptnResync s = .next u ∧
    u.dev.ptn.applied = none ∧ u.dev.ptn.asked = true ∧ u.reg PTN_STATUS_state = 2 ∧ u.reg PTN_STATUS_synced = 0 ∧
    u.dev.ptn.cmd = 3 ∧ u.reg PTN_CMD_STATUS_busy = 1) ∧
  (∀ (s : State), s.lanes ∧ (s.dev.ptn.cmd ≠ 0 ∨ s.w.isStandby = false ∨ ¬(s.dev.ptn.hello.all (fun p => p.serial
    == s.w.patSerial) = true) ∨ s.bitOf PTN_STATUS_link_up = false) → ∃ u, exec .ptnResync s = .next u ∧ u.dev.ptn
    = s.dev.ptn ∧ u.reg PTN_CMD_STATUS_done = 1 ∧ u.reg PTN_CMD_STATUS_result = (if s.dev.ptn.cmd ≠ 0 then 2 else
    if s.w.isStandby = false then 1 else if ¬(s.dev.ptn.hello.all (fun p => p.serial == s.w.patSerial) = true) then
    3 else 4))

/-- A STANDBY member keeps the instant T of a SWAP, seconds before ns, where its ns are valid; a message not
  accepted does not count. At T the STANDBY takes over as ACTIVE; before, or elsewhere, nothing happens. 5 us after
  T the former active member is STANDBY with its mirror full; before, or elsewhere, nothing happens. A drill still
  pending 100 ms after T fails: the standby takes over again, its term two higher, and a SWAP command ends with 4;
  before, or with none, nothing happens. A drill that falls due in ACTIVE, its checks passed, begins the swap; else
  an active member skips it with drill_skipped, another passes over it; not due, nothing happens. SWAP, the checks
  passed, begins it with T as R433 step 1 chooses; else it answers BUSY, STATE, PATTERN or LINK, and BUSY where the
  mirror is not level. What a clause says beyond the rules cited is the model's own convention: log entries 3, 4,
  104, 105 and 133. -/
def Obligations.PartnerDrills : Prop :=
  (∀ (s : State) (m : BrdMsg) (b : List Byte), ((s.w.at_ m.t).ptnAccept m 0x16).2 = some b ∧ b.length = 10 → ∃ u,
    exec (.swapRx m) s = .next u ∧ u.reg PTN_STATUS_state = s.reg PTN_STATUS_state ∧ u.dev.ptn.swapAt = (if
    s.w.ptnState = 3 ∧ be b 6 4 ≤ 999999999 then some (be b 0 6 * 1000000000 + be b 6 4) else s.dev.ptn.swapAt)) ∧
  (∀ (s : State) (m : BrdMsg), ((s.w.at_ m.t).ptnAccept m 0x16).2.all (fun b => b.length != 10) = true → ∃ u, exec
    (.swapRx m) s = .next u ∧ u.reg PTN_STATUS_state = s.reg PTN_STATUS_state ∧ u.dev.ptn.swapAt =
    s.dev.ptn.swapAt) ∧
  (∀ (s : State) (t x : Nat), s.w.serves = true ∧ s.w.ptnState = 3 ∧ s.dev.ptn.swapAt = some x ∧ x ≤ s.nsAt t → ∃
    u, exec (.swapInstant t) s = .next u ∧ u.reg PTN_STATUS_state = 4 ∧ u.dev.ptn.term = (s.dev.ptn.term + 1) % 2 ^
    32 ∧ u.dev.ptn.swapAt = none ∧ u.dev.ptn.take = some (s.nsAt t) ∧ u.bitOf PTN_EVENT_takeover = true) ∧
  (∀ (s : State) (t : Nat), s.w.serves = false ∨ s.w.ptnState ≠ 3 ∨ s.dev.ptn.swapAt.all (fun x => decide (s.nsAt t
    < x)) = true → ∃ u, exec (.swapInstant t) s = .next u ∧ u.dev.ptn = s.dev.ptn ∧ u.reg PTN_STATUS_state = s.reg
    PTN_STATUS_state) ∧
  (∀ (s : State) (t x : Nat), s.w.serves = true ∧ s.w.ptnState = 6 ∧ s.dev.ptn.swapAt = some x ∧ x + 5000 ≤ s.nsAt
    t → ∃ u, exec (.swapHandover t) s = .next u ∧ u.reg PTN_STATUS_state = 3 ∧ u.dev.ptn.swapAt = none ∧
    u.dev.ptn.drill = some x ∧ u.dev.ptn.full = true ∧ u.dev.ptn.queue = []) ∧
  (∀ (s : State) (t : Nat), s.w.serves = false ∨ s.w.ptnState ≠ 6 ∨ s.dev.ptn.swapAt.all (fun x => decide (s.nsAt t
    < x + 5000)) = true → ∃ u, exec (.swapHandover t) s = .next u ∧ u.dev.ptn = s.dev.ptn ∧ u.reg PTN_STATUS_state
    = s.reg PTN_STATUS_state) ∧
  (∀ (s : State) (t x : Nat), s.w.serves = true ∧ s.w.isStandby = true ∧ s.dev.ptn.drill = some x ∧ x + 100000000 ≤
    s.nsAt t → ∃ u, exec (.drillCheck t) s = .next u ∧ u.reg PTN_STATUS_state = (if s.bitOf PTN_CTRL_enable then 5
    else 0) ∧ u.dev.ptn.drill = none ∧ u.dev.ptn.term = (s.dev.ptn.term + 2) % 2 ^ 32 ∧ u.bitOf
    PTN_EVENT_drill_fail = true ∧ (s.dev.ptn.cmd = 1 → u.reg PTN_CMD_STATUS_result = 4)) ∧
  (∀ (s : State) (t : Nat), s.w.serves = false ∨ s.w.isStandby = false ∨ s.dev.ptn.drill.all (fun x => decide
    (s.nsAt t < x + 100000000)) = true → ∃ u, exec (.drillCheck t) s = .next u ∧ u.dev.ptn = s.dev.ptn ∧ u.reg
    PTN_STATUS_state = s.reg PTN_STATUS_state) ∧
  (∀ (s : State) (t : Nat) (p : PtnHello), s.w.serves = true ∧ s.w.ptnState ≠ 0 ∧ 0 < s.reg PTN_DRILL_interval_d ∧
    s.dev.ptn.drillDay.all (fun d => decide (d + s.reg PTN_DRILL_interval_d ≤ s.dev.rtc.secs / 86400)) = true ∧
    s.dev.rtc.secs % 86400 / 60 = min 1439 (s.reg PTN_DRILL_at_min) ∧ s.w.ptnState = 4 ∧ s.dev.ptn.hello = some p ∧
    p.state = 3 ∧ p.serial = s.w.patSerial ∧ tst p.flags 1 = false ∧ s.bitOf PTN_STATUS_mirror_stale = false ∧
    s.bitOf PTN_STATUS_link_up = true ∧ s.dev.ptn.acked = s.dev.ptn.sent → ∃ u, exec (.drillDue t) s = .next u ∧
    u.reg PTN_STATUS_state = 6 ∧ u.dev.ptn.drillDay = some (s.dev.rtc.secs / 86400) ∧ u.dev.ptn.swapAt.isSome =
    true ∧ u.dev.cry.seq = (if s.w.ptnKey.isNone = true ∨ s.dev.pat.active.tiles.isEmpty = true then s.dev.cry.seq
    else (s.dev.cry.seq + (if s.w.isPair s.w.me then 2 else 1)) % 2 ^ 32)) ∧
  (∀ (s : State) (t : Nat), s.w.serves = true ∧ s.w.ptnState ≠ 0 ∧ 0 < s.reg PTN_DRILL_interval_d ∧
    s.dev.ptn.drillDay.all (fun d => decide (d + s.reg PTN_DRILL_interval_d ≤ s.dev.rtc.secs / 86400)) = true ∧
    s.dev.rtc.secs % 86400 / 60 = min 1439 (s.reg PTN_DRILL_at_min) ∧ (s.w.ptnState ≠ 4 ∨ s.dev.ptn.hello.all (fun
    p => p.state != 3 || p.serial != s.w.patSerial || tst p.flags 1 || s.bitOf PTN_STATUS_mirror_stale || !s.bitOf
    PTN_STATUS_link_up || s.dev.ptn.acked != s.dev.ptn.sent) = true) → ∃ u, exec (.drillDue t) s = .next u ∧ u.reg
    PTN_STATUS_state = s.reg PTN_STATUS_state ∧ u.dev.ptn.drillDay = some (s.dev.rtc.secs / 86400) ∧
    u.dev.ptn.swapAt = s.dev.ptn.swapAt ∧ (4 ≤ s.w.ptnState → u.bitOf PTN_EVENT_drill_skipped = true)) ∧
  (∀ (s : State) (t : Nat), ¬(s.w.serves = true ∧ s.w.ptnState ≠ 0 ∧ 0 < s.reg PTN_DRILL_interval_d ∧
    s.dev.ptn.drillDay.all (fun d => decide (d + s.reg PTN_DRILL_interval_d ≤ s.dev.rtc.secs / 86400)) = true ∧
    s.dev.rtc.secs % 86400 / 60 = min 1439 (s.reg PTN_DRILL_at_min)) → ∃ u, exec (.drillDue t) s = .next u ∧
    u.dev.ptn = s.dev.ptn ∧ u.reg PTN_STATUS_state = s.reg PTN_STATUS_state) ∧
  (∀ (s : State) (p : PtnHello), s.lanes ∧ s.dev.ptn.cmd = 0 ∧ s.w.ptnState = 4 ∧ s.dev.ptn.hello = some p ∧
    p.state = 3 ∧ p.serial = s.w.patSerial ∧ tst p.flags 1 = false ∧ s.bitOf PTN_STATUS_mirror_stale = false ∧
    s.bitOf PTN_STATUS_link_up = true ∧ s.dev.ptn.acked = s.dev.ptn.sent → ∃ u, exec .ptnSwap s = .next u ∧ u.reg
    PTN_STATUS_state = 6 ∧ u.dev.ptn.swapAt = some s.w.swapT ∧ u.dev.ptn.cmd = 1 ∧ u.reg PTN_CMD_STATUS_busy = 1) ∧
  (∀ (s : State), s.lanes ∧ (s.dev.ptn.cmd ≠ 0 ∨ (s.w.ptnState ≠ 4 ∨ s.dev.ptn.hello.all (fun p => p.state != 3 ||
    p.serial != s.w.patSerial || tst p.flags 1 || s.bitOf PTN_STATUS_mirror_stale || !s.bitOf PTN_STATUS_link_up ||
    s.dev.ptn.acked != s.dev.ptn.sent) = true)) → ∃ u, exec .ptnSwap s = .next u ∧ u.dev.ptn = s.dev.ptn ∧ u.reg
    PTN_STATUS_state = s.reg PTN_STATUS_state ∧ u.reg PTN_CMD_STATUS_done = 1 ∧ u.reg PTN_CMD_STATUS_result = (if
    s.dev.ptn.cmd ≠ 0 then 2 else
    (match s.dev.ptn.hello with | none => 1 | some p => if s.w.ptnState ≠ 4 ∨ p.state ≠ 3 then 1 else if p.serial ≠ s.w.patSerial then 3 else if s.bitOf PTN_STATUS_mirror_stale = true ∨ tst p.flags 1 = true ∨ s.bitOf PTN_STATUS_link_up = false then 4 else 2)))

/-- Each of these commands raises no event and stores nothing: it leaves the queue, memory, every other part of the
  devices and every other bit of every register as it was. -/
def Obligations.FramesOfRegisterCommands : Prop :=
  (∀ (s : State) (port : Nat), ∀ u, exec (.sfpOvercurrent port) s = .next u → s.Keeps u [] [NET_PORT_STAT_link_up
    port, NET_PORT_STAT_present port, NET_PORT_STAT_speed port] [] ∧ u.mem = s.mem) ∧
  (∀ (s : State), ∀ u, exec .stageFw s = .next u → s.Keeps u [.sys, .fls] [SYS_CMD_STATUS_busy,
    SYS_CMD_STATUS_done, SYS_CMD_STATUS_result, SYS_FW_MIN_SERIAL_v] [SYS_FW_SERIAL_v] ∧ u.mem = s.mem) ∧
  (∀ (s : State), ∀ u, exec .fwCommit s = .next u → s.Keeps u [.key, .sys] [SYS_STATUS_fw_trial,
    SYS_CMD_STATUS_busy, SYS_CMD_STATUS_done, SYS_CMD_STATUS_result, SYS_FW_MIN_SERIAL_v] [SYS_FW_SERIAL_v] ∧ u.mem
    = s.mem) ∧
  (∀ (s : State), ∀ u, exec .verify s = .next u → s.Keeps u [.pat] [PAT_STATUS_state, PAT_STATUS_error] [] ∧ u.mem
    = s.mem) ∧
  (∀ (s : State), ∀ u, exec .cancel s = .next u → s.Keeps u [.pat] [PAT_STATUS_state, PAT_STATUS_error] [] ∧ u.mem
    = s.mem) ∧
  (∀ (s : State) (n : Nat), ∀ u, exec (.capNsRead n) s = .next u → s.Keeps u [.resp] [CAP_NS_v n, CAP_SEC_LO_v n,
    CAP_SEC_HI_v n] [] ∧ u.mem = s.mem) ∧
  (∀ (s : State), ∀ u, exec .tbsNowRead s = .next u → s.Keeps u [.resp] [TBS_NOW_NS_v, TBS_NOW_SEC_LO_v,
    TBS_NOW_SEC_HI_v] [] ∧ u.mem = s.mem) ∧
  (∀ (s : State) (index : Nat), ∀ u, exec (.mapSet index) s = .next u → s.Keeps u [.ing, .sys, .ptn] [ING_CMD_op,
    ING_CMD_index, ING_CMD_STATUS_busy, ING_CMD_STATUS_done, ING_CMD_STATUS_result, SYS_STATUS_settings_dirty] [] ∧
    u.mem = s.mem) ∧
  (∀ (s : State), ∀ u, exec .mapClear s = .next u → s.Keeps u [.ing, .sys, .ptn] [ING_CMD_op, ING_CMD_STATUS_busy,
    ING_CMD_STATUS_done, ING_CMD_STATUS_result, SYS_STATUS_settings_dirty] [] ∧ u.mem = s.mem) ∧
  (∀ (s : State), ∀ u, exec .tcpAttach s = .next u → s.Keeps u [.ing] [ING_CMD_op, ING_CMD_STATUS_busy,
    ING_CMD_STATUS_done, ING_CMD_STATUS_result] [] ∧ u.mem = s.mem) ∧
  (∀ (s : State), ∀ u, exec .tcpDetach s = .next u → s.Keeps u [.ing] [ING_CMD_op, ING_CMD_STATUS_busy,
    ING_CMD_STATUS_done, ING_CMD_STATUS_result] [] ∧ u.mem = s.mem) ∧
  (∀ (s : State) (v : W32), ∀ u, exec (.mapQuery v) s = .next u → s.Keeps u [] [ING_MAP_QUERY_idcode,
    ING_MAP_RESULT_index, ING_MAP_RESULT_valid] [] ∧ u.mem = s.mem) ∧
  (∀ (s : State) (n : Nat), ∀ u, exec (.cfgAck n) s = .next u → s.Keeps u [] [ALN_OUT_CTRL_cfg_stale n] [] ∧ u.mem
    = s.mem) ∧
  (∀ (s : State) (v : W32), ∀ u, exec (.paramWrite v) s = .next u → s.Keeps u [.gan, .sys]
    [GAN_PARAM_STATUS_result, SYS_STATUS_settings_dirty] [] ∧ u.mem = s.mem) ∧
  (∀ (s : State) (sel : GanSel) (v : W32), ∀ u, exec (.ganSelLatch sel v) s = .next u → s.Keeps u []
    [GAN_RULE_SEL_rule, GAN_RULE_STATE_state, GAN_RULE_STATE_enabled, GAN_RULE_STATE_values, GAN_RULE_STATE_stale,
    GAN_RULE_STATE_count, GAN_RULE_HITS_v, GAN_TUN_SEL_signal, GAN_TUN_INFO_modes, GAN_TUN_INFO_modes_valid,
    GAN_TUN_INFO_bands_valid, GAN_TUN_INFO_report_seq, GAN_TUN_RPT_NS_v, GAN_TUN_RPT_SEC_LO_v,
    GAN_TUN_RPT_SEC_HI_v, GAN_SVY_NODE_SEL_index, GAN_SVY_NODE_label, GAN_SVY_NODE_separated, GAN_SVY_NODE_stale,
    GAN_SVY_EDGE_SEL_index, GAN_SVY_EDGE_open, GAN_SVY_EDGE_by_status, GAN_SVY_EDGE_by_freq,
    GAN_SVY_EDGE_status_unknown, GAN_SVY_EDGE_freq_unknown, GAN_SVY_EDGE_cnt_over, GAN_SVY_EDGE_cnt_under,
    GAN_MON_SEL_kind, GAN_MON_SEL_number, GAN_MON_OUT_outputs, GAN_MON_OUT_age_ms, GAN_MON_VAL_v, GAN_MON_RATE_v]
    [GAN_TUN_MODE_FREQ_v, GAN_TUN_MODE_ZETA_v, GAN_TUN_MODE_AMP_v, GAN_TUN_MODE_PHASE_v, GAN_TUN_ENERGY_v] ∧ u.mem
    = s.mem) ∧
  (∀ (s : State) (c : Nat) (v : W32), ∀ u, exec (.gcbCtrlWrite c v) s = .next u → s.Keeps u [.cry, .sys]
    [CRY_GCB_CTRL_enable c, CRY_GCB_CTRL_test c, SYS_STATUS_settings_dirty] [] ∧ u.mem = s.mem) ∧
  (∀ (s : State) (v : W32), ∀ u, exec (.sysCfgWrite v) s = .next u → s.Keeps u [.cry, .sys] [CRY_SYS_CFG_module_no,
    CRY_SYS_CFG_sys_size, CRY_SYS_CFG_fanout, SYS_STATUS_settings_dirty] [] ∧ u.mem = s.mem) ∧
  (∀ (s : State), ∀ u, exec .smpSnap s = .next u → s.Keeps u [] [] [SMP_SNAP_RMS_v] ∧ u.mem = s.mem) ∧
  (∀ (s : State) (c : Nat), ∀ u, exec (.peakRead c) s = .next u → s.Keeps u [.resp] [SMP_CH_PEAK_v c] [] ∧ u.mem =
    s.mem) ∧
  (∀ (s : State) (c : Nat) (v : W32), ∀ u, exec (.chCfgWrite c v) s = .next u → s.Keeps u [.sys] [SMP_CH_CFG_enable
    c, SMP_CH_CFG_preset c, SMP_CH_CFG_fnom_50 c, SMP_CH_CFG_src c, SMP_CH_CFG_word c, SYS_STATUS_settings_dirty]
    [] ∧ u.mem = s.mem) ∧
  (∀ (s : State) (reg : Nat) (v : W32), ∀ u, exec (.smpTestWrite reg v) s = .next u → s.Keeps u [.smp]
    [SMP_TEST_enable, SMP_TEST_k, SMP_TEST_gen, SMP_TEST_freq] [SMP_TEST_SEL_v, SMP_CH_STATE_state, SMP_CH_STATE_k]
    ∧ u.mem = s.mem) ∧
  (∀ (s : State), ∀ u, exec .wakeAddr s = .next u → s.Keeps u [.rad] [RAD_CMD_STATUS_done, RAD_CMD_STATUS_result]
    [] ∧ u.mem = s.mem) ∧
  (∀ (s : State), ∀ u, exec .schedChanged s = .next u → s.Keeps u [.rad] [RAD_CMD_STATUS_done,
    RAD_CMD_STATUS_result] [] ∧ u.mem = s.mem) ∧
  (∀ (s : State) (slot : Nat), ∀ u, exec (.store slot) s = .next u → s.Keeps u [.flt] [FLT_CMD_STATUS_busy,
    FLT_CMD_STATUS_done, FLT_CMD_STATUS_result] [] ∧ u.mem = s.mem) ∧
  (∀ (s : State) (slot : Nat), ∀ u, exec (.erase slot) s = .next u → s.Keeps u [.flt] [FLT_CMD_STATUS_done,
    FLT_CMD_STATUS_result, FLT_SLOT_INFO_image_id slot, FLT_SLOT_INFO_fw_version slot, FLT_SLOT_LEN_v slot] [] ∧
    u.mem = s.mem) ∧
  (∀ (s : State), ∀ u, exec .stop s = .next u → s.Keeps u [.flt] [FLT_STATUS_phase, FLT_STATUS_armed,
    FLT_STATUS_slot, FLT_STATUS_round, FLT_STATUS_image_id, FLT_CMD_STATUS_done, FLT_CMD_STATUS_result]
    [FLT_COUNT_count] ∧ u.mem = s.mem) ∧
  (∀ (s : State) (slot : Nat), ∀ u, exec (.activate slot) s = .next u → s.Keeps u [.flt] [FLT_STATUS_phase,
    FLT_STATUS_armed, FLT_STATUS_slot, FLT_STATUS_round, FLT_STATUS_image_id, FLT_CMD_STATUS_done,
    FLT_CMD_STATUS_result] [FLT_COUNT_count] ∧ u.mem = s.mem) ∧
  (∀ (s : State), ∀ u, exec .cancelAct s = .next u → s.Keeps u [.flt] [FLT_STATUS_phase, FLT_STATUS_armed,
    FLT_STATUS_slot, FLT_STATUS_round, FLT_STATUS_image_id, FLT_CMD_STATUS_done, FLT_CMD_STATUS_result]
    [FLT_COUNT_count] ∧ u.mem = s.mem) ∧
  (∀ (s : State) (n : Nat), ∀ u, exec (.ledClear n) s = .next u → s.Keeps u [.led] [LED_CMD_STATUS_done,
    LED_CMD_STATUS_result, LED_STR_STAT_state n, LED_STR_STAT_cause n, LED_STR_STAT_retries n, LED_STR_STAT_dac n,
    LED_STR_LEVEL_level n, LED_STR_LEVEL_v n] [] ∧ u.mem = s.mem) ∧
  (∀ (s : State) (c : Nat), ∀ u, exec (.cal c) s = .next u → s.Keeps u [.led] [LED_CMD_STATUS_busy,
    LED_CMD_STATUS_done, LED_CMD_STATUS_result] [LED_STR_STAT_state, LED_STR_STAT_cause, LED_STR_STAT_retries,
    LED_STR_STAT_dac, LED_STR_LEVEL_level, LED_STR_LEVEL_v, LED_MTX_STAT_level] ∧ u.mem = s.mem) ∧
  (∀ (s : State) (p : Nat), ∀ u, exec (.ledLoad p) s = .next u → s.Keeps u [.led] [LED_CMD_STATUS_done,
    LED_CMD_STATUS_result, LED_MTX_STAT_preloaded p, LED_MTX_STAT_shifting p] [] ∧ u.mem = s.mem) ∧
  (∀ (s : State) (v : Option W32), ∀ u, exec (.curveDataAccess v) s = .next u → s.Keeps u [.led, .sys, .resp]
    [LED_CURVE_SEL_point, SYS_STATUS_settings_dirty] [] ∧ u.mem = s.mem) ∧
  (∀ (s : State) (v : W32), ∀ u, exec (.ledCtrlWrite v) s = .next u → s.Keeps u [.led, .sys] [LED_CTRL_enable,
    SYS_STATUS_settings_dirty, LED_CTRL_enable.whole] [LED_STR_STAT_state, LED_STR_STAT_cause,
    LED_STR_STAT_retries, LED_STR_STAT_dac, LED_STR_LEVEL_level, LED_STR_LEVEL_v, LED_MTX_STAT_level] ∧ u.mem =
    s.mem) ∧
  (∀ (s : State) (a : Nat), ∀ u, exec (.accLoRead a) s = .next u → s.Keeps u [.resp] [MTR_ACC_HI_v a] [] ∧ u.mem =
    s.mem) ∧
  (∀ (s : State) (a : Nat), ∀ u, exec (.legRead a) s = .next u → s.Keeps u [.resp] [MTR_LEG_WRAP_v a] [] ∧ u.mem =
    s.mem) ∧
  (∀ (s : State) (v : W32), ∀ u, exec (.gapSelWrite v) s = .next u → s.Keeps u [] [MTR_GAP_SEL_entry]
    [MTR_GAP_DATA_v] ∧ u.mem = s.mem) ∧
  (∀ (s : State) (v : Option W32), ∀ u, exec (.tcDataAccess v) s = .next u → s.Keeps u [.mtr, .sys, .resp]
    [MTR_TC_SEL_point, MTR_TC_SEL_channel, SYS_STATUS_settings_dirty] [] ∧ u.mem = s.mem) ∧
  (∀ (s : State) (lane : Nat), ∀ u, exec (.inject lane) s = .next u → s.Keeps u [.lnv] [LNV_CMD_STATUS_done,
    LNV_CMD_STATUS_result] [] ∧ u.mem = s.mem) ∧
  (∀ (s : State) (partition : Nat), ∀ u, exec (.flRead partition) s = .next u → s.Keeps u [.fls]
    [MEM_FL_STATUS_busy, MEM_FL_STATUS_done, MEM_FL_STATUS_result] [] ∧ u.mem = s.mem) ∧
  (∀ (s : State) (partition : Nat), ∀ u, exec (.flWrite partition) s = .next u → s.Keeps u [.fls]
    [MEM_FL_STATUS_busy, MEM_FL_STATUS_done, MEM_FL_STATUS_result] [] ∧ u.mem = s.mem) ∧
  (∀ (s : State) (partition : Nat), ∀ u, exec (.flTrim partition) s = .next u → s.Keeps u [.fls]
    [MEM_FL_STATUS_busy, MEM_FL_STATUS_done, MEM_FL_STATUS_result] [] ∧ u.mem = s.mem) ∧
  (∀ (s : State) (partition : Nat), ∀ u, exec (.flSync partition) s = .next u → s.Keeps u [.fls]
    [MEM_FL_STATUS_busy, MEM_FL_STATUS_done, MEM_FL_STATUS_result] [] ∧ u.mem = s.mem) ∧
  (∀ (s : State) (word : Nat) (v : W32), ∀ u, exec (.irqMaskWrite word v) s = .next u → s.Keeps u [.sys]
    [IRQ_MASK_v word, SYS_STATUS_settings_dirty] [] ∧ u.mem = s.mem) ∧
  (∀ (s : State) (q : Nat), ∀ u, exec (.queueHwmRead q) s = .next u → s.Keeps u [.resp] [QUE_Q_HWM_v q] [] ∧ u.mem
    = s.mem) ∧
  (∀ (s : State), ∀ u, exec .oscStoppedClear s = .next u → s.Keeps u [] [RTC_EVENT_osc_stopped] [] ∧ u.mem = s.mem) ∧
  (∀ (s : State) (a : Nat) (v : W32), ∀ u, exec (.alarmArm a v) s = .next u → s.Keeps u [.rtc] [RTC_ALM_CTRL_arm a,
    (RTC_ALM_CTRL_arm a).whole] [] ∧ u.mem = s.mem) ∧
  (∀ (s : State) (v : W32), ∀ u, exec (.rdSel v) s = .next u → s.Keeps u [] [REC_RD_SEL_slot, REC_RD_SEL_log]
    [REC_RD_DATA_v] ∧ u.mem = s.mem) ∧
  (∀ (s : State), ∀ u, exec .prfSnapshot s = .next u → s.Keeps u [.prf] [PRF_SNAP_NS_v, PRF_SNAP_SEC_LO_v,
    PRF_SNAP_SEC_HI_v] [] ∧ u.mem = s.mem) ∧
  (∀ (s : State) (k : Nat), ∀ u, exec (.clearSel k) s = .next u → s.Keeps u [.prf] [] [] ∧ u.mem = s.mem) ∧
  (∀ (s : State), ∀ u, exec .smpStatClear s = .next u → s.Keeps u [.prf] [PRF_SMP_STAT_held] [] ∧ u.mem = s.mem) ∧
  (∀ (s : State) (v : W32), ∀ u, exec (.smpSelLatch v) s = .next u → s.Keeps u [] [PRF_SMP_SEL_index]
    [PRF_SMP_DATA_v] ∧ u.mem = s.mem) ∧
  (∀ (s : State) (addr : Nat), ∀ u, exec (.prfCntRead addr) s = .next u → s.Keeps u [.resp] [] [PRF_SEL_HI_v,
    PRF_SELSNAP_HI_v, PRF_CNT_HI_v, PRF_SNAP_HI_v] ∧ u.mem = s.mem) ∧
  (∀ (s : State), ∀ u, exec .blobSync s = .next u → s.Keeps u [.ptn] [PTN_CMD_STATUS_busy, PTN_CMD_STATUS_done,
    PTN_CMD_STATUS_result] [] ∧ u.mem = s.mem) ∧
  (∀ (s : State) (port : Nat) (up present los fault : Bool), ∀ u, exec (.portLinkChange port up present los fault)
    s = .next u → s.Keeps u [] [NET_PORT_STAT_link_up port, NET_PORT_STAT_present port, NET_PORT_STAT_rx_los port,
    NET_PORT_STAT_tx_fault port, NET_PORT_STAT_speed port] [] ∧ u.mem = s.mem)

/-- Each of these commands leaves memory, the queue, and every part and register bit it is not said to write as it
  was. An array index that comes from the state is not bounded. -/
def Obligations.FramesOfEventCommands : Prop :=
  (∀ (s : State) (conn seq : Nat) (data : List Byte), ∀ u, exec (.tcpLaneSegmentTx conn seq data) s = .next u →
    s.Keeps u [.irq, .prf, .net, .ing] [PRF_EVENT_sel_limit] [] ∧ u.mem = s.mem) ∧
  (∀ (s : State) (word : Nat) (v : W32), ∀ u, exec (.ruleEnable word v) s = .next u → s.Keeps u [.irq, .que, .prf,
    .gan, .sys] [GAN_EVENT_hit_wait, GAN_RULE_EN_v word, SYS_STATUS_settings_dirty, PRF_EVENT_sel_limit]
    [GAN_RULE_ACTIVE_v, QUE_Q_FREE_v, QUE_Q_HWM_v, QUE_Q_STAT_full, QUE_Q_STAT_flushing, QUE_Q_STAT_units,
    QUE_Q_RHEAD_len, QUE_Q_RHEAD_aborted, QUE_Q_RHEAD_valid] ∧ u.mem = s.mem) ∧
  (∀ (s : State) (word : Nat) (v : W32), ∀ u, exec (.ruleAck word v) s = .next u → s.Keeps u [.irq, .que, .prf,
    .gan] [GAN_EVENT_hit_wait, PRF_EVENT_sel_limit] [GAN_RULE_ACTIVE_v, QUE_Q_FREE_v, QUE_Q_HWM_v, QUE_Q_STAT_full,
    QUE_Q_STAT_flushing, QUE_Q_STAT_units, QUE_Q_RHEAD_len, QUE_Q_RHEAD_aborted, QUE_Q_RHEAD_valid] ∧ u.mem =
    s.mem) ∧
  (∀ (s : State) (v : W32), ∀ u, exec (.ganCtrlWrite v) s = .next u → s.Keeps u [.irq, .que, .prf, .gan, .sys]
    [GAN_CTRL_enable, GAN_CTRL_rules_enable, GAN_CTRL_stale_ms, GAN_EVENT_hit_wait, SYS_STATUS_settings_dirty,
    PRF_EVENT_sel_limit] [GAN_RULE_ACTIVE_v, QUE_Q_FREE_v, QUE_Q_HWM_v, QUE_Q_STAT_full, QUE_Q_STAT_flushing,
    QUE_Q_STAT_units, QUE_Q_RHEAD_len, QUE_Q_RHEAD_aborted, QUE_Q_RHEAD_valid] ∧ u.mem = s.mem) ∧
  (∀ (s : State) (n : Nat) (v : W32), ∀ u, exec (.phsSetWrite n v) s = .next u → s.Keeps u [.irq, .smp, .sys]
    [SMP_STATUS_channels, SMP_STATUS_rate_code, SMP_STATUS_cfg_err, SMP_EVENT_cfg_err, SMP_PHS_SET_ch_a n,
    SMP_PHS_SET_ch_b n, SMP_PHS_SET_ch_c n, SMP_PHS_SET_m_class n, SMP_PHS_SET_out n, SMP_PHS_SET_current n,
    SYS_STATUS_settings_dirty] [] ∧ u.mem = s.mem) ∧
  (∀ (s : State) (v : W32), ∀ u, exec (.smpCtrlWrite v) s = .next u → s.Keeps u [.irq, .smp, .sys]
    [SMP_CTRL_enable, SMP_CTRL_source, SMP_CTRL_accept_test, SMP_CTRL_phs_enable, SMP_STATUS_channels,
    SMP_STATUS_rate_code, SMP_STATUS_cfg_err, SMP_EVENT_cfg_err, SYS_STATUS_settings_dirty] [SMP_PHS_SET_ch_a,
    SMP_CH_STATE_state, SMP_CH_STATE_k] ∧ u.mem = s.mem) ∧
  (∀ (s : State) (l : Nat) (v : W32), ∀ u, exec (.linkCfgWrite l v) s = .next u → s.Keeps u [.irq, .sys]
    [SMP_STATUS_channels, SMP_STATUS_rate_code, SMP_STATUS_cfg_err, SMP_EVENT_cfg_err, SMP_LINK_CFG_enable l,
    SMP_LINK_CFG_sclk l, SMP_LINK_CFG_read_delay l, SYS_STATUS_settings_dirty] [SMP_PHS_SET_ch_a] ∧ u.mem = s.mem) ∧
  (∀ (s : State), ∀ u, exec .loadAll s = .next u → s.Keeps u [.irq, .lmp, .sys, .ptn] [LMP_STATUS_loaded,
    LMP_EVENT_field_err, LMP_CMD_STATUS_done, LMP_CMD_STATUS_result, SYS_STATUS_settings_dirty] [] ∧ u.mem = s.mem) ∧
  (∀ (s : State) (index : Nat), ∀ u, exec (.loadOne index) s = .next u → s.Keeps u [.irq, .lmp, .sys, .ptn]
    [LMP_EVENT_field_err, LMP_CMD_STATUS_done, LMP_CMD_STATUS_result, SYS_STATUS_settings_dirty] [] ∧ u.mem =
    s.mem) ∧
  (∀ (s : State) (n : Nat), ∀ u, exec (.grRelease n) s = .next u → s.Keeps u [.irq, .que, .prf, .hlt, .lmp, .ptn]
    [LMP_STATUS_stage, LMP_STATUS_gr_seq, LMP_EVENT_con_limit, LMP_CMD_STATUS_done, LMP_CMD_STATUS_result,
    LMP_CON_STATE_drives, PRF_EVENT_sel_limit, HLT_EVENT_near, HLT_EVENT_reached] [LMP_GR1_state, QUE_Q_FREE_v,
    QUE_Q_HWM_v, QUE_Q_STAT_full, QUE_Q_STAT_flushing, QUE_Q_STAT_units, QUE_Q_RHEAD_len, QUE_Q_RHEAD_aborted,
    QUE_Q_RHEAD_valid] ∧ u.mem = s.mem) ∧
  (∀ (s : State), ∀ u, exec .stageClear s = .next u → s.Keeps u [.irq, .que, .prf, .hlt, .lmp, .ptn]
    [LMP_STATUS_stage, LMP_STATUS_gr_seq, LMP_EVENT_con_limit, LMP_CMD_STATUS_done, LMP_CMD_STATUS_result,
    LMP_CON_STATE_drives, PRF_EVENT_sel_limit, HLT_EVENT_near, HLT_EVENT_reached] [LMP_GR1_state, QUE_Q_FREE_v,
    QUE_Q_HWM_v, QUE_Q_STAT_full, QUE_Q_STAT_flushing, QUE_Q_STAT_units, QUE_Q_RHEAD_len, QUE_Q_RHEAD_aborted,
    QUE_Q_RHEAD_valid] ∧ u.mem = s.mem) ∧
  (∀ (s : State) (v : W32), ∀ u, exec (.lmpInject v) s = .next u → s.Keeps u [.irq, .prf, .lmp] [LMP_EVENT_edge,
    LMP_EVENTS_CNT_v, LMP_EVENT_DROP_CNT_v, LMP_TRACK_REPL_CNT_v, LMP_TRACKS_v, LMP_TRK_INFO0_lantern,
    LMP_TRK_INFO0_class, LMP_TRK_INFO0_speed, LMP_TRK_INFO1_toward, LMP_TRK_INFO1_valid, PRF_EVENT_sel_limit] [] ∧
    u.mem = s.mem) ∧
  (∀ (s : State) (v : W32), ∀ u, exec (.lmpCtrlWrite v) s = .next u → s.Keeps u [.irq, .que, .prf, .hlt, .lmp,
    .sys, .ptn] [LMP_CTRL_enable, LMP_CTRL_lift_enable, LMP_CTRL_grid_enable, LMP_STATUS_stage, LMP_STATUS_gr_seq,
    LMP_EVENT_con_limit, LMP_CON_STATE_drives, SYS_STATUS_settings_dirty, PRF_EVENT_sel_limit, HLT_EVENT_near,
    HLT_EVENT_reached] [LMP_GR1_state, QUE_Q_FREE_v, QUE_Q_HWM_v, QUE_Q_STAT_full, QUE_Q_STAT_flushing,
    QUE_Q_STAT_units, QUE_Q_RHEAD_len, QUE_Q_RHEAD_aborted, QUE_Q_RHEAD_valid] ∧ u.mem = s.mem) ∧
  (∀ (s : State), ∀ u, exec .saveNow s = .next u → s.Keeps u [.irq, .prf, .mtr] [MTR_EVENT_save_done,
    MTR_CMD_STATUS_done, MTR_CMD_STATUS_result, MTR_SAVE_SEQ_v, PRF_EVENT_sel_limit] [] ∧ u.mem = s.mem) ∧
  (∀ (s : State) (a : Nat), ∀ u, exec (.accClear a) s = .next u → s.Keeps u [.irq, .scr, .prf, .mtr]
    [MTR_EVENT_save_done, MTR_EVENT_gap, MTR_CMD_STATUS_done, MTR_CMD_STATUS_result, MTR_SAVE_SEQ_v,
    MTR_GAP_COUNT_v, REC_EVENT_lost, REC_LOST_CNT_v, PRF_EVENT_sel_limit] [] ∧ u.mem = s.mem) ∧
  (∀ (s : State) (word : Nat) (v : W32), ∀ u, exec (.irqPendWrite word v) s = .next u → s.Keeps u [.irq, .prf]
    [IRQ_STATUS_staged, IRQ_EVENT_stage_full, IRQ_LOST_CNT_v, IRQ_PEND_v word, PRF_EVENT_sel_limit] [] ∧ u.mem =
    s.mem) ∧
  (∀ (s : State) (op : AmoOp) (addr : Nat) (v : W32), ∀ u, exec (.irqAmo op addr v) s = .next u → s.Keeps u [.irq,
    .prf, .sys, .resp] [IRQ_STATUS_staged, IRQ_EVENT_stage_full, IRQ_LOST_CNT_v, SYS_STATUS_settings_dirty,
    PRF_EVENT_sel_limit] [IRQ_MASK_v, IRQ_PEND_v] ∧ u.mem = s.mem) ∧
  (∀ (s : State) (tgt grp : Nat) (v : W32), ∀ u, exec (.ridxWrite tgt grp v) s = .next u → s.Keeps u [.irq, .prf]
    [IRQ_TGT_TOP_group tgt, IRQ_TGT_TOP_none tgt, IRQ_TGT_TOP_asserted tgt, IRQ_RING_RIDX_idx tgt grp,
    PRF_EVENT_sel_limit] [] ∧ u.mem = s.mem) ∧
  (∀ (s : State) (tgt : Nat) (v : W32), ∀ u, exec (.threshWrite tgt v) s = .next u → s.Keeps u [.irq, .prf, .sys]
    [IRQ_TGT_THRESH_thresh tgt, IRQ_TGT_TOP_group tgt, IRQ_TGT_TOP_none tgt, IRQ_TGT_TOP_asserted tgt,
    SYS_STATUS_settings_dirty, PRF_EVENT_sel_limit] [] ∧ u.mem = s.mem) ∧
  (∀ (s : State) (k : Nat), ∀ u, exec (.rtcTimeRead k) s = .next u → s.Keeps u [.irq, .rtc, .resp]
    [RTC_EVENT_shadow_timeout] [] ∧ u.mem = s.mem) ∧
  (∀ (s : State) (a : Nat) (date : Bool) (v : W32), ∀ u, exec (.alarmWrite a date v) s = .next u → s.Keeps u [.irq,
    .rtc] [RTC_EVENT_write_err, RTC_ALM_TIME_second a, RTC_ALM_DATE_day a] [] ∧ u.mem = s.mem) ∧
  (∀ (s : State) (slot : Nat), ∀ u, exec (.keyLoad slot) s = .next u → s.Keeps u [.irq, .prf, .key]
    [KEY_CMD_STATUS_busy, KEY_CMD_STATUS_done, KEY_CMD_STATUS_result, KEY_SLOT_INFO_state slot,
    KEY_SLOT_INFO_key_type slot, KEY_SLOT_INFO_flags slot, KEY_SLOT_INFO_used slot, KEY_SLOT_USES_v slot,
    KEY_SLOT_ID_LO_v slot, KEY_SLOT_ID_HI_v slot, PRF_EVENT_sel_limit] [] ∧ u.mem = s.mem) ∧
  (∀ (s : State) (slot : Nat), ∀ u, exec (.unload slot) s = .next u → s.Keeps u [.irq, .prf, .key]
    [KEY_CMD_STATUS_busy, KEY_CMD_STATUS_done, KEY_CMD_STATUS_result, KEY_SLOT_INFO_state slot,
    KEY_SLOT_INFO_key_type slot, KEY_SLOT_INFO_flags slot, KEY_SLOT_INFO_used slot, KEY_SLOT_USES_v slot,
    KEY_SLOT_ID_LO_v slot, KEY_SLOT_ID_HI_v slot, PRF_EVENT_sel_limit] [] ∧ u.mem = s.mem) ∧
  (∀ (s : State), ∀ u, exec .challenge s = .next u → s.Keeps u [.irq, .prf, .key, .free] [KEY_STATUS_lc_state,
    KEY_STATUS_root_ok, KEY_STATUS_tamper_latched, KEY_STATUS_grant, KEY_STATUS_used, KEY_CMD_STATUS_busy,
    KEY_CMD_STATUS_done, KEY_CMD_STATUS_result, PRF_EVENT_sel_limit] [KEY_NONCE_v] ∧ u.mem = s.mem) ∧
  (∀ (s : State), ∀ u, exec .authorise s = .next u → s.Keeps u [.irq, .scr, .prf, .key] [KEY_STATUS_lc_state,
    KEY_STATUS_root_ok, KEY_STATUS_tamper_latched, KEY_STATUS_grant, KEY_STATUS_used, KEY_EVENT_auth_fail,
    KEY_CMD_STATUS_busy, KEY_CMD_STATUS_done, KEY_CMD_STATUS_result, REC_EVENT_lost, REC_LOST_CNT_v,
    PRF_EVENT_sel_limit] [] ∧ u.mem = s.mem) ∧
  (∀ (s : State) (machine : Bool) (target : Nat), ∀ u, exec (.lcChange machine target) s = .next u → s.Keeps u
    [.irq, .scr, .prf, .key, .lnv] [KEY_STATUS_lc_state, KEY_STATUS_root_ok, KEY_STATUS_tamper_latched,
    KEY_STATUS_grant, KEY_STATUS_used, KEY_EVENT_lc_change, KEY_CMD_STATUS_busy, KEY_CMD_STATUS_done,
    KEY_CMD_STATUS_result, REC_EVENT_lost, REC_LOST_CNT_v, PRF_EVENT_sel_limit] [KEY_SLOT_INFO_state,
    KEY_SLOT_INFO_key_type, KEY_SLOT_INFO_flags, KEY_SLOT_INFO_used, KEY_SLOT_USES_v, KEY_SLOT_ID_LO_v,
    KEY_SLOT_ID_HI_v] ∧ u.mem = s.mem) ∧
  (∀ (s : State) (machine : Bool), ∀ u, exec (.clearTamper machine) s = .next u → s.Keeps u [.irq, .scr, .prf,
    .key] [KEY_STATUS_lc_state, KEY_STATUS_root_ok, KEY_STATUS_tamper_latched, KEY_STATUS_grant, KEY_STATUS_used,
    KEY_CMD_STATUS_busy, KEY_CMD_STATUS_done, KEY_CMD_STATUS_result, KEY_TAMPER_STAT_latched, REC_EVENT_lost,
    REC_LOST_CNT_v, PRF_EVENT_sel_limit] [] ∧ u.mem = s.mem) ∧
  (∀ (s : State) (machine : Bool) (entry : Nat), ∀ u, exec (.anchorWrite machine entry) s = .next u → s.Keeps u
    [.irq, .prf, .key] [KEY_STATUS_lc_state, KEY_STATUS_root_ok, KEY_STATUS_tamper_latched, KEY_STATUS_grant,
    KEY_STATUS_used, KEY_CMD_STATUS_busy, KEY_CMD_STATUS_done, KEY_CMD_STATUS_result, PRF_EVENT_sel_limit] [] ∧
    u.mem = s.mem) ∧
  (∀ (s : State) (slot : Nat), ∀ u, exec (.opVerify slot) s = .next u → s.Keeps u [.irq, .prf]
    [KEY_CMD_STATUS_busy, KEY_CMD_STATUS_done, KEY_CMD_STATUS_result, PRF_EVENT_sel_limit] [] ∧ u.mem = s.mem) ∧
  (∀ (s : State) (hart : Nat) (v : W32), ∀ u, exec (.swRecord hart v) s = .next u → s.Keeps u [.irq, .scr]
    [REC_EVENT_lost, REC_EVENT_sw_bad, REC_LOST_CNT_v] [] ∧ u.mem = s.mem) ∧
  (∀ (s : State) (log : Nat), ∀ u, exec (.recClear log) s = .next u → s.Keeps u [.irq, .scr, .prf, .key, .ptn]
    [KEY_STATUS_lc_state, KEY_STATUS_root_ok, KEY_STATUS_tamper_latched, KEY_STATUS_grant, KEY_STATUS_used,
    REC_STATUS_held, REC_STATUS_mirror_held, REC_EVENT_cleared, REC_EVENT_seq_wrap, REC_LAST_SEQ_v,
    REC_CMD_STATUS_done, REC_CMD_STATUS_result, PRF_EVENT_sel_limit] [] ∧ u.mem = s.mem) ∧
  (∀ (s : State) (v : W32), ∀ u, exec (.rlCfgWrite v) s = .next u → s.Keeps u [.irq, .scr, .prf, .sys, .ptn]
    [SYS_STATUS_settings_dirty, REC_STATUS_held, REC_EVENT_seq_wrap, REC_LAST_SEQ_v, PRF_EVENT_sel_limit] [] ∧
    u.mem = s.mem) ∧
  (∀ (s : State) (v : W32), ∀ u, exec (.swInc v) s = .next u → s.Keeps u [.irq, .prf] [PRF_EVENT_sel_limit] [] ∧
    u.mem = s.mem) ∧
  (∀ (s : State), ∀ u, exec .resetInd s = .next u → s.Keeps u [.irq, .scr, .hlt] [REC_EVENT_lost, REC_LOST_CNT_v,
    HLT_IND_U_u, HLT_IND_U_days, HLT_IND_EOL_day, HLT_IND_EOL_month, HLT_IND_EOL_year, HLT_IND_EOL_state,
    HLT_IND_RATED_v, HLT_CMD_STATUS_done, HLT_CMD_STATUS_result] [] ∧ u.mem = s.mem) ∧
  (∀ (s : State) (hart : Nat), ∀ u, exec (.hartIdle hart) s = .next u → s.Keeps u [.irq, .prf] [IRQ_TGT_TOP_group
    (2 * hart), IRQ_TGT_TOP_group (2 * hart + 1), IRQ_TGT_TOP_none (2 * hart), IRQ_TGT_TOP_none (2 * hart + 1),
    IRQ_TGT_TOP_asserted (2 * hart), IRQ_TGT_TOP_asserted (2 * hart + 1), PRF_EVENT_sel_limit] [] ∧ u.mem = s.mem)

/-- Each of these timed commands leaves memory, the queue, and every part and register bit it is not said to write
  as it was. An array index that comes from the state is not bounded. -/
def Obligations.FramesOfTimedCommands : Prop :=
  (∀ (s : State) (port : Nat) (f : EthFrame) (t : Nat), ∀ u, exec (.switchFrameRx port f t) s = .next u → s.Keeps u
    [.tb, .irq, .que, .prf, .net] [PRF_EVENT_sel_limit] [NET_DROP_CNT_v, QUE_Q_FREE_v, QUE_Q_HWM_v,
    QUE_Q_STAT_full, QUE_Q_STAT_flushing, QUE_Q_STAT_units, QUE_Q_RHEAD_len, QUE_Q_RHEAD_aborted,
    QUE_Q_RHEAD_valid] ∧ u.mem = s.mem) ∧
  (∀ (s : State) (t : Nat), ∀ u, exec (.pfailNFall t) s = .next u → s.Keeps u [.tb, .irq, .scr, .prf, .rad, .led,
    .mtr, .sys] [LMP_CON_STATE_drives, MTR_EVENT_save_done, MTR_EVENT_gap, MTR_EVENT_pulse_backlog, MTR_SAVE_SEQ_v,
    MTR_GAP_COUNT_v, WCH_PF_NS_v, WCH_PF_SEC_LO_v, WCH_PF_SEC_HI_v, SYS_STATUS_reduced, SYS_EVENT_pfail,
    REC_STATUS_tail_valid, REC_EVENT_lost, REC_LOST_CNT_v, PRF_EVENT_sel_limit, HLT_EVENT_holdup_fail]
    [MTR_FDR_P_v, MTR_FDR_STAT_clipped, MTR_FDR_STAT_pow2, MTR_FDR_STAT_gap, MTR_POUT_OWED_v] ∧ u.mem = s.mem) ∧
  (∀ (s : State) (v : W32) (t : Nat), ∀ u, exec (.watchdogKick v t) s = .next u → s.Keeps u [.tb, .irq, .prf, .sys]
    [PRF_EVENT_sel_limit] [] ∧ u.mem = s.mem) ∧
  (∀ (s : State) (t : Nat), ∀ u, exec (.bootLoopClear t) s = .next u → s.Keeps u [.tb, .irq, .prf, .sys]
    [PRF_EVENT_sel_limit] [] ∧ u.mem = s.mem) ∧
  (∀ (s : State) (t : Nat), ∀ u, exec (.overvoltageLockout t) s = .next u → s.Keeps u [.tb, .irq, .scr, .prf, .rad,
    .led, .mtr, .sys] [LMP_CON_STATE_drives, MTR_EVENT_save_done, MTR_EVENT_gap, MTR_EVENT_pulse_backlog,
    MTR_SAVE_SEQ_v, MTR_GAP_COUNT_v, WCH_PF_NS_v, WCH_PF_SEC_LO_v, WCH_PF_SEC_HI_v, SYS_STATUS_reduced,
    SYS_EVENT_pfail, REC_STATUS_tail_valid, REC_EVENT_lost, REC_LOST_CNT_v, PRF_EVENT_sel_limit,
    HLT_EVENT_holdup_fail] [MTR_FDR_P_v, MTR_FDR_STAT_clipped, MTR_FDR_STAT_pow2, MTR_FDR_STAT_gap,
    MTR_POUT_OWED_v] ∧ u.mem = s.mem) ∧
  (∀ (s : State) (t : Nat), ∀ u, exec (.holdupChargerStop t) s = .next u → s.Keeps u [.tb, .irq, .scr, .prf, .sys]
    [REC_EVENT_lost, REC_LOST_CNT_v, PRF_EVENT_sel_limit, HLT_EVENT_holdup_fail] [] ∧ u.mem = s.mem) ∧
  (∀ (s : State) (t : Nat), ∀ u, exec (.saveSettings t) s = .next u → s.Keeps u [.tb, .irq, .prf, .sys]
    [PAT_ACTIVE_SERIAL_v, PAT_MIN_SERIAL_v, MTR_EPOCH_v, MTR_SAVE_SEQ_v, MTR_GAP_COUNT_v,
    SYS_STATUS_settings_dirty, SYS_CMD_STATUS_busy, SYS_FW_MIN_SERIAL_v, REC_RL_CFG_burst, PRF_EVENT_sel_limit,
    HLT_IND_U_u, HLT_IND_RATED_v, HLT_HOLDUP_C_v, HLT_HOLDUP_R_esr, PTN_STATUS_state] [RAD_TX_CTR_v,
    LED_STR_ONTIME_v] ∧ u.mem = s.mem) ∧
  (∀ (s : State) (ok : Bool) (t : Nat), ∀ u, exec (.stageFwDone ok t) s = .next u → s.Keeps u [.tb, .irq, .prf,
    .key, .sys, .fls] [SYS_EVENT_fw_staged, SYS_CMD_STATUS_busy, SYS_CMD_STATUS_done, SYS_CMD_STATUS_result,
    SYS_FW_MIN_SERIAL_v, PRF_EVENT_sel_limit] [SYS_FW_SERIAL_v] ∧ u.mem = s.mem) ∧
  (∀ (s : State) (t : Nat), ∀ u, exec (.autoSave t) s = .next u → s.Keeps u [.tb, .irq, .prf, .sys]
    [PAT_ACTIVE_SERIAL_v, PAT_MIN_SERIAL_v, MTR_EPOCH_v, MTR_SAVE_SEQ_v, MTR_GAP_COUNT_v,
    SYS_STATUS_settings_dirty, SYS_CMD_STATUS_busy, SYS_FW_MIN_SERIAL_v, REC_RL_CFG_burst, PRF_EVENT_sel_limit,
    HLT_IND_U_u, HLT_IND_RATED_v, HLT_HOLDUP_C_v, HLT_HOLDUP_R_esr, PTN_STATUS_state] [RAD_TX_CTR_v,
    LED_STR_ONTIME_v] ∧ u.mem = s.mem) ∧
  (∀ (s : State) (t : Nat), ∀ u, exec (.verifyDone t) s = .next u → s.Keeps u [.tb, .irq, .prf, .pat]
    [PAT_STATUS_state, PAT_STATUS_error, PAT_ERR_INFO_offset, PAT_ERR_INFO_section, PRF_EVENT_sel_limit] [] ∧ u.mem
    = s.mem) ∧
  (∀ (s : State) (t : Nat), ∀ u, exec (.arm t) s = .next u → s.Keeps u [.tb, .irq, .prf, .pat] [PAT_STATUS_state,
    PAT_STATUS_error, PRF_EVENT_sel_limit] [] ∧ u.mem = s.mem) ∧
  (∀ (s : State) (t : Nat), ∀ u, exec (.commit t) s = .next u → s.Keeps u [.tb, .irq, .prf, .pat, .sys]
    [PAT_STATUS_error, PAT_ACTIVE_SERIAL_v, PAT_MIN_SERIAL_v, MTR_EPOCH_v, MTR_SAVE_SEQ_v, MTR_GAP_COUNT_v,
    SYS_STATUS_settings_dirty, SYS_CMD_STATUS_busy, SYS_FW_MIN_SERIAL_v, REC_RL_CFG_burst, PRF_EVENT_sel_limit,
    HLT_IND_U_u, HLT_IND_RATED_v, HLT_HOLDUP_C_v, HLT_HOLDUP_R_esr, PTN_STATUS_state] [RAD_TX_CTR_v,
    LED_STR_ONTIME_v] ∧ u.mem = s.mem) ∧
  (∀ (s : State) (port : Nat) (k : PtpTx) (t : Nat), ∀ u, exec (.ptpMessageTx port k t) s = .next u → s.Keeps u
    [.tb, .irq, .prf, .net] [PRF_EVENT_sel_limit] [] ∧ u.mem = s.mem) ∧
  (∀ (s : State) (t : Nat), ∀ u, exec (.announceTimeout t) s = .next u → s.Keeps u [.tb, .irq, .scr, .prf, .rtc,
    .free] [TBS_STATUS_servo_state, TBS_STATUS_phase_src, TBS_STATUS_ref_in_use, TBS_ERR_EST_v,
    TBS_QUALITY_tq_code, TBS_QUALITY_stat_tq, TBS_QUALITY_unsync, TBS_EVENT_locked, TBS_EVENT_unlocked,
    TBS_EVENT_holdover, TBS_EVENT_src_lost, RTC_STATUS_disciplined, RTC_STATUS_slewing, REC_EVENT_lost,
    REC_LOST_CNT_v, PRF_EVENT_sel_limit] [] ∧ u.mem = s.mem) ∧
  (∀ (s : State) (t : Nat), ∀ u, exec (.ppsLost t) s = .next u → s.Keeps u [.tb, .irq, .scr, .prf, .rtc, .free]
    [TBS_STATUS_servo_state, TBS_STATUS_phase_src, TBS_STATUS_ref_in_use, TBS_ERR_EST_v, TBS_QUALITY_tq_code,
    TBS_QUALITY_stat_tq, TBS_QUALITY_unsync, TBS_EVENT_locked, TBS_EVENT_unlocked, TBS_EVENT_holdover,
    TBS_EVENT_src_lost, RTC_STATUS_disciplined, RTC_STATUS_slewing, REC_EVENT_lost, REC_LOST_CNT_v,
    PRF_EVENT_sel_limit] [] ∧ u.mem = s.mem) ∧
  (∀ (s : State) (t : Nat), ∀ u, exec (.ref10mValid t) s = .next u → s.Keeps u [.tb, .irq, .scr, .prf, .rtc, .free]
    [TBS_STATUS_servo_state, TBS_STATUS_phase_src, TBS_STATUS_ref_in_use, TBS_ERR_EST_v, TBS_QUALITY_tq_code,
    TBS_QUALITY_stat_tq, TBS_QUALITY_unsync, TBS_EVENT_locked, TBS_EVENT_unlocked, TBS_EVENT_holdover,
    RTC_STATUS_disciplined, RTC_STATUS_slewing, REC_EVENT_lost, REC_LOST_CNT_v, PRF_EVENT_sel_limit] [] ∧ u.mem =
    s.mem) ∧
  (∀ (s : State) (t : Nat), ∀ u, exec (.ref10mLost t) s = .next u → s.Keeps u [.tb, .irq, .scr, .prf, .rtc, .free]
    [TBS_STATUS_servo_state, TBS_STATUS_phase_src, TBS_STATUS_ref_in_use, TBS_ERR_EST_v, TBS_QUALITY_tq_code,
    TBS_QUALITY_stat_tq, TBS_QUALITY_unsync, TBS_EVENT_locked, TBS_EVENT_unlocked, TBS_EVENT_holdover,
    TBS_EVENT_src_lost, RTC_STATUS_disciplined, RTC_STATUS_slewing, REC_EVENT_lost, REC_LOST_CNT_v,
    PRF_EVENT_sel_limit] [] ∧ u.mem = s.mem) ∧
  (∀ (s : State), ∀ u, exec .hold s = .next u → s.Keeps u [.tb, .irq, .scr, .rtc] [TBS_STATUS_servo_state,
    TBS_ERR_EST_v, TBS_QUALITY_tq_code, TBS_QUALITY_stat_tq, TBS_QUALITY_unsync, TBS_EVENT_locked,
    TBS_EVENT_unlocked, TBS_EVENT_holdover, RTC_STATUS_disciplined, RTC_STATUS_slewing, REC_EVENT_lost,
    REC_LOST_CNT_v] [] ∧ u.mem = s.mem) ∧
  (∀ (s : State), ∀ u, exec .release s = .next u → s.Keeps u [.tb, .irq, .scr, .rtc, .free]
    [TBS_STATUS_servo_state, TBS_STATUS_phase_src, TBS_STATUS_ref_in_use, TBS_ERR_EST_v, TBS_QUALITY_tq_code,
    TBS_QUALITY_stat_tq, TBS_QUALITY_unsync, TBS_EVENT_locked, TBS_EVENT_unlocked, TBS_EVENT_holdover,
    RTC_STATUS_disciplined, RTC_STATUS_slewing, REC_EVENT_lost, REC_LOST_CNT_v] [] ∧ u.mem = s.mem) ∧
  (∀ (s : State) (t : Nat), ∀ u, exec (.slewDone t) s = .next u → s.Keeps u [.tb, .irq, .prf] [TBS_STATUS_slewing,
    PRF_EVENT_sel_limit] [] ∧ u.mem = s.mem) ∧
  (∀ (s : State) (v : W32), ∀ u, exec (.tbsCtrlWrite v) s = .next u → s.Keeps u [.tb, .irq, .scr, .rtc, .sys,
    .free] [TBS_CTRL_servo_enable, TBS_STATUS_servo_state, TBS_STATUS_phase_src, TBS_STATUS_ref_in_use,
    TBS_STATUS_slewing, TBS_ERR_EST_v, TBS_QUALITY_tq_code, TBS_QUALITY_stat_tq, TBS_QUALITY_unsync,
    TBS_EVENT_locked, TBS_EVENT_unlocked, TBS_EVENT_holdover, TBS_EVENT_src_lost, RTC_STATUS_disciplined,
    RTC_STATUS_slewing, SYS_STATUS_settings_dirty, REC_EVENT_lost, REC_LOST_CNT_v, TBS_CTRL_servo_enable.whole] []
    ∧ u.mem = s.mem) ∧
  (∀ (s : State) (t : Nat), ∀ u, exec (.leapSecond t) s = .next u → s.Keeps u [.tb, .irq, .scr, .prf]
    [TBS_UTC_OFFSET_tai_utc, TBS_UTC_OFFSET_leap_pending, TBS_UTC_OFFSET_leap_occurred, TBS_EVENT_leap_done,
    REC_EVENT_lost, REC_LOST_CNT_v, PRF_EVENT_sel_limit] [] ∧ u.mem = s.mem) ∧
  (∀ (s : State) (t : Nat), ∀ u, exec (.leapOccurredExpire t) s = .next u → s.Keeps u [.tb, .irq, .prf]
    [TBS_UTC_OFFSET_leap_occurred, PRF_EVENT_sel_limit] [] ∧ u.mem = s.mem) ∧
  (∀ (s : State) (n : Nat) (v : W32), ∀ u, exec (.triggerArm n v) s = .next u → s.Keeps u [.tb, .sys] [TRG_CTRL_arm
    n, TRG_CTRL_late n, TRG_COUNT_v n, SYS_STATUS_settings_dirty, (TRG_CTRL_arm n).whole] [] ∧ u.mem = s.mem) ∧
  (∀ (s : State) (t : Nat), ∀ u, exec (.epochTick t) s = .next u → s.Keeps u [.tb, .irq, .prf, .aln]
    [PRF_EVENT_sel_limit] [] ∧ u.mem = s.mem) ∧
  (∀ (s : State) (t : Nat), ∀ u, exec (.ppsOutRise t) s = .next u → s.Keeps u [.tb, .irq, .prf]
    [PRF_EVENT_sel_limit] [] ∧ u.mem = s.mem) ∧
  (∀ (s : State) (t : Nat), ∀ u, exec (.ppsOutFall t) s = .next u → s.Keeps u [.tb, .irq, .prf]
    [PRF_EVENT_sel_limit] [] ∧ u.mem = s.mem) ∧
  (∀ (s : State) (input : Nat) (rising : Bool) (t frac : Nat), ∀ u, exec (.captureEdge input rising t frac) s =
    .next u → s.Keeps u [.tb, .irq, .prf] [PRF_EVENT_sel_limit] [CAP_CTRL_count, CAP_CTRL_overflow] ∧ u.mem =
    s.mem) ∧
  (∀ (s : State) (n : Nat), ∀ u, exec (.capPop n) s = .next u → s.Keeps u [.tb] [CAP_CTRL_count n] [] ∧ u.mem =
    s.mem) ∧
  (∀ (s : State) (conn t : Nat), ∀ u, exec (.tcpAckTimer conn t) s = .next u → s.Keeps u [.tb, .irq, .prf, .net,
    .ing] [PRF_EVENT_sel_limit] [] ∧ u.mem = s.mem) ∧
  (∀ (s : State) (g inst t : Nat), ∀ u, exec (.latencySample g inst t) s = .next u → s.Keeps u [.tb, .irq, .prf,
    .aln] [ALN_EVENT_window_clip, ALN_GRP_STATUS_members g, ALN_GRP_STATUS_running g, ALN_GRP_STATUS_adaptive g,
    ALN_GRP_STATUS_window_cur_ms g, ALN_GRP_P999_k_ms g, ALN_GRP_P999_samples g, PRF_EVENT_sel_limit] [] ∧ u.mem =
    s.mem) ∧
  (∀ (s : State) (t : Nat), ∀ u, exec (.notice t) s = .next u → s.Keeps u [.tb, .irq, .que, .prf, .aln, .gan,
    .free] [GAN_EVENT_stale_term, GAN_EVENT_tun_restart, GAN_EVENT_svy_change, GAN_EVENT_hit_wait, GAN_SETS_CNT_v,
    GAN_SVY_STATUS_components, GAN_SVY_STATUS_open_edges, GAN_SVY_DIGEST_LO_v, GAN_SVY_DIGEST_HI_v, GAN_SVY_SEQ_v,
    GAN_SVY_CALC_NS_v, PRF_EVENT_sel_limit] [GAN_RULE_ACTIVE_v, QUE_Q_FREE_v, QUE_Q_HWM_v, QUE_Q_STAT_full,
    QUE_Q_STAT_flushing, QUE_Q_STAT_units, QUE_Q_RHEAD_len, QUE_Q_RHEAD_aborted, QUE_Q_RHEAD_valid] ∧ u.mem =
    s.mem) ∧
  (∀ (s : State) (signal t : Nat), ∀ u, exec (.tunerReport signal t) s = .next u → s.Keeps u [.tb, .irq, .prf,
    .gan] [PRF_EVENT_sel_limit] [] ∧ u.mem = s.mem) ∧
  (∀ (s : State) (t : Nat), ∀ u, exec (.crierRecord t) s = .next u → s.Keeps u [.tb, .irq, .que, .prf, .net, .gan,
    .cry] [GAN_EVENT_hit_wait, CRY_EVENT_dst_unres, CRY_REC_CNT_v, CRY_FRAME_CNT_v, CRY_UNRES_CNT_v, CRY_ALM_SEQ_v,
    CRY_LAT_MAX_v, PRF_EVENT_sel_limit] [QUE_Q_FREE_v, QUE_Q_HWM_v, QUE_Q_STAT_full, QUE_Q_STAT_flushing,
    QUE_Q_STAT_units, QUE_Q_RHEAD_len, QUE_Q_RHEAD_aborted, QUE_Q_RHEAD_valid] ∧ u.mem = s.mem) ∧
  (∀ (s : State) (t : Nat), ∀ u, exec (.alarmHeartbeat t) s = .next u → s.Keeps u [.tb, .irq, .que, .prf, .net,
    .cry] [CRY_FRAME_CNT_v, PRF_EVENT_sel_limit] [QUE_Q_FREE_v, QUE_Q_HWM_v, QUE_Q_STAT_full, QUE_Q_STAT_flushing,
    QUE_Q_STAT_units, QUE_Q_RHEAD_len, QUE_Q_RHEAD_aborted, QUE_Q_RHEAD_valid] ∧ u.mem = s.mem) ∧
  (∀ (s : State) (c t : Nat), ∀ u, exec (.gooseRetransmit c t) s = .next u → s.Keeps u [.tb, .irq, .que, .prf,
    .net, .cry] [CRY_FRAME_CNT_v, PRF_EVENT_sel_limit] [QUE_Q_FREE_v, QUE_Q_HWM_v, QUE_Q_STAT_full,
    QUE_Q_STAT_flushing, QUE_Q_STAT_units, QUE_Q_RHEAD_len, QUE_Q_RHEAD_aborted, QUE_Q_RHEAD_valid] ∧ u.mem =
    s.mem) ∧
  (∀ (s : State) (m : BrdMsg), ∀ u, exec (.alarmFanRx m) s = .next u → s.Keeps u [.tb, .irq, .que, .prf, .net,
    .cry] [CRY_EVENT_auth_fail, CRY_EVENT_replay, CRY_BRD_DROP_CNT_v, PRF_EVENT_sel_limit] [QUE_Q_FREE_v,
    QUE_Q_HWM_v, QUE_Q_STAT_full, QUE_Q_STAT_flushing, QUE_Q_STAT_units, QUE_Q_RHEAD_len, QUE_Q_RHEAD_aborted,
    QUE_Q_RHEAD_valid] ∧ u.mem = s.mem) ∧
  (∀ (s : State) (m : BrdMsg), ∀ u, exec (.abortRx m) s = .next u → s.Keeps u [.tb, .irq, .que, .prf, .net, .cry]
    [CRY_STATUS_armed, CRY_STATUS_live, CRY_EVENT_auth_fail, CRY_EVENT_replay, CRY_EVENT_gop_late,
    CRY_EVENT_gop_abort, CRY_BRD_DROP_CNT_v, PRF_EVENT_sel_limit] [TRG_CTRL_arm, QUE_Q_FREE_v, QUE_Q_HWM_v,
    QUE_Q_STAT_full, QUE_Q_STAT_flushing, QUE_Q_STAT_units, QUE_Q_RHEAD_len, QUE_Q_RHEAD_aborted,
    QUE_Q_RHEAD_valid] ∧ u.mem = s.mem) ∧
  (∀ (s : State) (m : BrdMsg), ∀ u, exec (.confirmRx m) s = .next u → s.Keeps u [.tb, .irq, .que, .scr, .prf, .net,
    .cry] [CRY_STATUS_armed, CRY_STATUS_live, CRY_EVENT_auth_fail, CRY_EVENT_replay, CRY_EVENT_gop_done,
    CRY_BRD_DROP_CNT_v, REC_EVENT_lost, REC_LOST_CNT_v, PRF_EVENT_sel_limit] [CRY_GOP_RES_lo, CRY_GOP_RES_hi,
    QUE_Q_FREE_v, QUE_Q_HWM_v, QUE_Q_STAT_full, QUE_Q_STAT_flushing, QUE_Q_STAT_units, QUE_Q_RHEAD_len,
    QUE_Q_RHEAD_aborted, QUE_Q_RHEAD_valid] ∧ u.mem = s.mem) ∧
  (∀ (s : State) (m : BrdMsg), ∀ u, exec (.livenessRx m) s = .next u → s.Keeps u [.tb, .irq, .que, .prf, .net,
    .cry] [CRY_STATUS_armed, CRY_STATUS_live, CRY_EVENT_auth_fail, CRY_EVENT_replay, CRY_BRD_DROP_CNT_v,
    PRF_EVENT_sel_limit] [QUE_Q_FREE_v, QUE_Q_HWM_v, QUE_Q_STAT_full, QUE_Q_STAT_flushing, QUE_Q_STAT_units,
    QUE_Q_RHEAD_len, QUE_Q_RHEAD_aborted, QUE_Q_RHEAD_valid] ∧ u.mem = s.mem) ∧
  (∀ (s : State) (t : Nat), ∀ u, exec (.livenessSend t) s = .next u → s.Keeps u [.tb, .irq, .que, .prf, .net, .cry]
    [CRY_STATUS_armed, CRY_STATUS_live, PRF_EVENT_sel_limit] [QUE_Q_FREE_v, QUE_Q_HWM_v, QUE_Q_STAT_full,
    QUE_Q_STAT_flushing, QUE_Q_STAT_units, QUE_Q_RHEAD_len, QUE_Q_RHEAD_aborted, QUE_Q_RHEAD_valid] ∧ u.mem =
    s.mem) ∧
  (∀ (s : State) (op : Nat), ∀ u, exec (.gopAbort op) s = .next u → s.Keeps u [.tb, .irq, .que, .prf, .net, .cry]
    [CRY_STATUS_armed, CRY_STATUS_live, CRY_EVENT_gop_late, CRY_EVENT_gop_abort, CRY_GOP_STATUS_done,
    CRY_GOP_STATUS_result, PRF_EVENT_sel_limit] [TRG_CTRL_arm, QUE_Q_FREE_v, QUE_Q_HWM_v, QUE_Q_STAT_full,
    QUE_Q_STAT_flushing, QUE_Q_STAT_units, QUE_Q_RHEAD_len, QUE_Q_RHEAD_aborted, QUE_Q_RHEAD_valid] ∧ u.mem =
    s.mem) ∧
  (∀ (s : State) (origin op t : Nat), ∀ u, exec (.confirmDeadline origin op t) s = .next u → s.Keeps u [.tb, .irq,
    .que, .scr, .prf, .net, .cry] [CRY_STATUS_armed, CRY_STATUS_live, CRY_EVENT_gop_done, REC_EVENT_lost,
    REC_LOST_CNT_v, PRF_EVENT_sel_limit] [CRY_GOP_RES_lo, CRY_GOP_RES_hi, QUE_Q_FREE_v, QUE_Q_HWM_v,
    QUE_Q_STAT_full, QUE_Q_STAT_flushing, QUE_Q_STAT_units, QUE_Q_RHEAD_len, QUE_Q_RHEAD_aborted,
    QUE_Q_RHEAD_valid] ∧ u.mem = s.mem) ∧
  (∀ (s : State) (f : AdcFrame), ∀ u, exec (.adcFrame f) s = .next u → s.Keeps u [.tb, .irq, .que, .prf, .smp]
    [SMP_EVENT_link_err, SMP_EVENT_hold, SMP_EVENT_settled, SMP_EVENT_out_drop, SMP_DROP_CNT_v, SMP_DET_RMS_v,
    SMP_DET_ENV_v, PRF_EVENT_sel_limit] [SMP_LINK_CRC_v, SMP_LINK_LATE_v, SMP_CH_STATE_state,
    SMP_CH_STATE_clipped_seen, SMP_CH_STATE_k, SMP_CH_PEAK_v, QUE_Q_FREE_v, QUE_Q_HWM_v, QUE_Q_STAT_full,
    QUE_Q_STAT_flushing, QUE_Q_STAT_units, QUE_Q_RHEAD_len, QUE_Q_RHEAD_aborted, QUE_Q_RHEAD_valid] ∧ u.mem =
    s.mem) ∧
  (∀ (s : State) (f : SvFrame), ∀ u, exec (.svFrame f) s = .next u → s.Keeps u [.tb, .irq, .que, .prf, .smp]
    [SMP_EVENT_sv_late, PRF_EVENT_sel_limit] [SMP_SV_LOST_v, SMP_SV_LATE_v, QUE_Q_FREE_v, QUE_Q_HWM_v,
    QUE_Q_STAT_full, QUE_Q_STAT_flushing, QUE_Q_STAT_units, QUE_Q_RHEAD_len, QUE_Q_RHEAD_aborted,
    QUE_Q_RHEAD_valid] ∧ u.mem = s.mem) ∧
  (∀ (s : State) (n t : Nat), ∀ u, exec (.svProcess n t) s = .next u → s.Keeps u [.tb, .irq, .que, .prf, .smp]
    [SMP_EVENT_hold, SMP_EVENT_settled, SMP_EVENT_out_drop, SMP_DROP_CNT_v, SMP_DET_RMS_v, SMP_DET_ENV_v,
    PRF_EVENT_sel_limit] [SMP_SV_LOST_v, SMP_CH_STATE_state, SMP_CH_STATE_clipped_seen, SMP_CH_STATE_k,
    SMP_CH_PEAK_v, QUE_Q_FREE_v, QUE_Q_HWM_v, QUE_Q_STAT_full, QUE_Q_STAT_flushing, QUE_Q_STAT_units,
    QUE_Q_RHEAD_len, QUE_Q_RHEAD_aborted, QUE_Q_RHEAD_valid] ∧ u.mem = s.mem) ∧
  (∀ (s : State) (inst t : Nat), ∀ u, exec (.phasorReport inst t) s = .next u → s.Keeps u [.tb, .irq, .que, .prf,
    .smp] [SMP_EVENT_out_drop, SMP_DROP_CNT_v, SMP_PHS_VALID_v, PRF_EVENT_sel_limit] [SMP_PHS_SET_ch_a,
    QUE_Q_FREE_v, QUE_Q_HWM_v, QUE_Q_STAT_full, QUE_Q_STAT_flushing, QUE_Q_STAT_units, QUE_Q_RHEAD_len,
    QUE_Q_RHEAD_aborted, QUE_Q_RHEAD_valid] ∧ u.mem = s.mem) ∧
  (∀ (s : State) (t : Nat), ∀ u, exec (.fieldCycleDone t) s = .next u → s.Keeps u [.tb, .irq, .prf, .lmp]
    [LMP_CYCLE_CNT_v, PRF_EVENT_sel_limit] [] ∧ u.mem = s.mem) ∧
  (∀ (s : State) (t : Nat), ∀ u, exec (.gridResponseCmd t) s = .next u → s.Keeps u [.tb, .irq, .que, .prf, .hlt,
    .cry, .lmp, .ptn] [LMP_STATUS_stage, LMP_STATUS_gr_seq, LMP_EVENT_gr_unconfigured, LMP_EVENT_fanned_refused,
    LMP_EVENT_con_limit, LMP_CON_STATE_drives, PRF_EVENT_sel_limit, HLT_EVENT_near, HLT_EVENT_reached]
    [LMP_GR1_state, QUE_Q_FREE_v, QUE_Q_HWM_v, QUE_Q_STAT_full, QUE_Q_STAT_flushing, QUE_Q_STAT_units,
    QUE_Q_RHEAD_len, QUE_Q_RHEAD_aborted, QUE_Q_RHEAD_valid] ∧ u.mem = s.mem) ∧
  (∀ (s : State) (k t : Nat), ∀ u, exec (.contactorDeferred k t) s = .next u → s.Keeps u [.tb, .irq, .prf, .hlt,
    .lmp] [LMP_EVENT_con_limit, LMP_CON_STATE_drives, PRF_EVENT_sel_limit, HLT_EVENT_near, HLT_EVENT_reached] [] ∧
    u.mem = s.mem) ∧
  (∀ (s : State) (t : Nat), ∀ u, exec (.levelOrder t) s = .next u → s.Keeps u [.tb, .irq, .que, .prf, .hlt, .cry,
    .lmp, .sys, .ptn] [LMP_STATUS_stage, LMP_STATUS_gr_seq, LMP_EVENT_con_limit, LMP_EVENT_order_err,
    LMP_CON_STATE_drives, LMP_STAGE_FORCE_stage, LMP_STAGE_FORCE_force, SYS_STATUS_settings_dirty,
    PRF_EVENT_sel_limit, HLT_EVENT_near, HLT_EVENT_reached] [LMP_GRP_CFG_ovr_level, LMP_GRP_CFG_ovr_on,
    QUE_Q_FREE_v, QUE_Q_HWM_v, QUE_Q_STAT_full, QUE_Q_STAT_flushing, QUE_Q_STAT_units, QUE_Q_RHEAD_len,
    QUE_Q_RHEAD_aborted, QUE_Q_RHEAD_valid] ∧ u.mem = s.mem) ∧
  (∀ (s : State) (t : Nat), ∀ u, exec (.orderLocalApply t) s = .next u → s.Keeps u [.tb, .irq, .que, .prf, .hlt,
    .lmp, .sys, .ptn] [LMP_STATUS_stage, LMP_STATUS_gr_seq, LMP_EVENT_con_limit, LMP_CON_STATE_drives,
    LMP_STAGE_FORCE_stage, LMP_STAGE_FORCE_force, SYS_STATUS_settings_dirty, PRF_EVENT_sel_limit, HLT_EVENT_near,
    HLT_EVENT_reached] [LMP_GRP_CFG_ovr_level, LMP_GRP_CFG_ovr_on, QUE_Q_FREE_v, QUE_Q_HWM_v, QUE_Q_STAT_full,
    QUE_Q_STAT_flushing, QUE_Q_STAT_units, QUE_Q_RHEAD_len, QUE_Q_RHEAD_aborted, QUE_Q_RHEAD_valid] ∧ u.mem =
    s.mem) ∧
  (∀ (s : State) (t : Nat), ∀ u, exec (.astroCompute t) s = .next u → s.Keeps u [.tb, .irq, .prf, .lmp, .rad]
    [LMP_EVENT_astro_none, LMP_ASTRO_TIMES0_first, LMP_ASTRO_TIMES0_second, LMP_ASTRO_TIMES1_first,
    LMP_ASTRO_TIMES1_second, PRF_EVENT_sel_limit] [] ∧ u.mem = s.mem) ∧
  (∀ (s : State) (t : Nat), ∀ u, exec (.sensorEvent t) s = .next u → s.Keeps u [.tb, .irq, .que, .prf, .lmp]
    [LMP_EVENT_edge, LMP_EVENTS_CNT_v, LMP_EVENT_DROP_CNT_v, LMP_TRACK_REPL_CNT_v, LMP_TRACKS_v,
    LMP_TRK_INFO0_lantern, LMP_TRK_INFO0_class, LMP_TRK_INFO0_speed, LMP_TRK_INFO1_toward, LMP_TRK_INFO1_valid,
    PRF_EVENT_sel_limit] [QUE_Q_FREE_v, QUE_Q_HWM_v, QUE_Q_STAT_full, QUE_Q_STAT_flushing, QUE_Q_STAT_units,
    QUE_Q_RHEAD_len, QUE_Q_RHEAD_aborted, QUE_Q_RHEAD_valid] ∧ u.mem = s.mem) ∧
  (∀ (s : State) (n t : Nat), ∀ u, exec (.grHoldExpire n t) s = .next u → s.Keeps u [.tb, .irq, .que, .prf, .hlt,
    .lmp, .ptn] [LMP_STATUS_stage, LMP_STATUS_gr_seq, LMP_EVENT_con_limit, LMP_CON_STATE_drives,
    PRF_EVENT_sel_limit, HLT_EVENT_near, HLT_EVENT_reached] [LMP_GR1_state, QUE_Q_FREE_v, QUE_Q_HWM_v,
    QUE_Q_STAT_full, QUE_Q_STAT_flushing, QUE_Q_STAT_units, QUE_Q_RHEAD_len, QUE_Q_RHEAD_aborted,
    QUE_Q_RHEAD_valid] ∧ u.mem = s.mem) ∧
  (∀ (s : State) (n t : Nat), ∀ u, exec (.trackExpire n t) s = .next u → s.Keeps u [.tb, .irq, .prf, .lmp]
    [LMP_TRACKS_v, LMP_TRK_INFO0_lantern, LMP_TRK_INFO0_class, LMP_TRK_INFO0_speed, LMP_TRK_INFO1_toward,
    LMP_TRK_INFO1_valid, PRF_EVENT_sel_limit] [] ∧ u.mem = s.mem) ∧
  (∀ (s : State) (t : Nat), ∀ u, exec (.gridStateTake t) s = .next u → s.Keeps u [.tb, .irq, .que, .prf, .lmp,
    .rad] [PRF_EVENT_sel_limit] [QUE_Q_FREE_v, QUE_Q_HWM_v, QUE_Q_STAT_full, QUE_Q_STAT_flushing, QUE_Q_STAT_units,
    QUE_Q_RHEAD_len, QUE_Q_RHEAD_aborted, QUE_Q_RHEAD_valid] ∧ u.mem = s.mem) ∧
  (∀ (s : State) (t : Nat), ∀ u, exec (.orderRecord t) s = .next u → s.Keeps u [.tb, .irq, .que, .prf, .lmp, .rad]
    [RAD_EVENT_order_late, PRF_EVENT_sel_limit] [QUE_Q_FREE_v, QUE_Q_HWM_v, QUE_Q_STAT_full, QUE_Q_STAT_flushing,
    QUE_Q_STAT_units, QUE_Q_RHEAD_len, QUE_Q_RHEAD_aborted, QUE_Q_RHEAD_valid] ∧ u.mem = s.mem) ∧
  (∀ (s : State) (t : Nat), ∀ u, exec (.wakePatternDone t) s = .next u → s.Keeps u [.tb, .irq, .prf, .rad]
    [RAD_WAKE_SENT_v, PRF_EVENT_sel_limit] [] ∧ u.mem = s.mem) ∧
  (∀ (s : State) (t : Nat), ∀ u, exec (.schedTimer t) s = .next u → s.Keeps u [.tb, .irq, .prf, .rad]
    [PRF_EVENT_sel_limit] [] ∧ u.mem = s.mem) ∧
  (∀ (s : State) (flashOk : Bool) (t : Nat), ∀ u, exec (.storeDone flashOk t) s = .next u → s.Keeps u [.tb, .irq,
    .prf, .flt] [FLT_EVENT_stored, FLT_CMD_STATUS_busy, FLT_CMD_STATUS_done, FLT_CMD_STATUS_result,
    PRF_EVENT_sel_limit] [FLT_SLOT_INFO_image_id, FLT_SLOT_INFO_fw_version, FLT_SLOT_LEN_v] ∧ u.mem = s.mem) ∧
  (∀ (s : State) (t : Nat), ∀ u, exec (.chandlerRecord t) s = .next u → s.Keeps u [.tb, .irq, .que, .prf, .lmp,
    .led] [PRF_EVENT_sel_limit] [LED_STR_STAT_state, LED_STR_STAT_cause, LED_STR_STAT_retries, LED_STR_STAT_dac,
    LED_STR_LEVEL_level, LED_STR_LEVEL_v, LED_MTX_STAT_level, QUE_Q_FREE_v, QUE_Q_HWM_v, QUE_Q_STAT_full,
    QUE_Q_STAT_flushing, QUE_Q_STAT_units, QUE_Q_RHEAD_len, QUE_Q_RHEAD_aborted, QUE_Q_RHEAD_valid] ∧ u.mem =
    s.mem) ∧
  (∀ (s : State) (t : Nat), ∀ u, exec (.recTimeout t) s = .next u → s.Keeps u [.tb, .irq, .prf, .led]
    [LED_EVENT_rec_timeout, PRF_EVENT_sel_limit] [LED_STR_STAT_state, LED_STR_STAT_cause, LED_STR_STAT_retries,
    LED_STR_STAT_dac, LED_STR_LEVEL_level, LED_STR_LEVEL_v, LED_MTX_STAT_level] ∧ u.mem = s.mem) ∧
  (∀ (s : State) (c : Nat) (edges : List Nat) (t : Nat), ∀ u, exec (.trimUpdate c edges t) s = .next u → s.Keeps u
    [.tb, .irq, .prf, .led] [LED_EVENT_trim_limit, PRF_EVENT_sel_limit] [LED_STR_STAT_state, LED_STR_STAT_cause,
    LED_STR_STAT_retries, LED_STR_STAT_dac, LED_STR_LEVEL_level, LED_STR_LEVEL_v, (LED_CSET_TRIM_factor c),
    LED_MTX_STAT_level] ∧ u.mem = s.mem) ∧
  (∀ (s : State) (c t : Nat), ∀ u, exec (.csetTempStale c t) s = .next u → s.Keeps u [.tb, .irq, .prf, .led]
    [LED_EVENT_temp_stale, PRF_EVENT_sel_limit] [LED_STR_STAT_state, LED_STR_STAT_cause, LED_STR_STAT_retries,
    LED_STR_STAT_dac, LED_STR_LEVEL_level, LED_STR_LEVEL_v, (LED_CSET_TRIM_factor c), LED_MTX_STAT_level] ∧ u.mem =
    s.mem) ∧
  (∀ (s : State) (n cause t : Nat), ∀ u, exec (.stringFault n cause t) s = .next u → s.Keeps u [.tb, .irq, .scr,
    .prf, .led] [LED_EVENT_fault, LED_EVENT_cal_done, LED_CMD_STATUS_busy, LED_CMD_STATUS_done,
    LED_CMD_STATUS_result, REC_EVENT_lost, REC_LOST_CNT_v, PRF_EVENT_sel_limit] [LED_STR_STAT_state,
    LED_STR_STAT_cause, LED_STR_STAT_retries, LED_STR_STAT_dac, LED_STR_LEVEL_level, LED_STR_LEVEL_v,
    LED_MTX_STAT_level] ∧ u.mem = s.mem) ∧
  (∀ (s : State) (n t : Nat), ∀ u, exec (.retryExpire n t) s = .next u → s.Keeps u [.tb, .irq, .prf, .led]
    [LED_EVENT_latched, LED_STR_STAT_state n, LED_STR_STAT_cause n, LED_STR_STAT_retries n, LED_STR_STAT_dac n,
    LED_STR_LEVEL_level n, LED_STR_LEVEL_v n, PRF_EVENT_sel_limit] [] ∧ u.mem = s.mem) ∧
  (∀ (s : State) (n t : Nat), ∀ u, exec (.retryCountReset n t) s = .next u → s.Keeps u [.tb, .irq, .prf, .led]
    [LED_STR_STAT_state n, LED_STR_STAT_cause n, LED_STR_STAT_retries n, LED_STR_STAT_dac n, LED_STR_LEVEL_level n,
    LED_STR_LEVEL_v n, PRF_EVENT_sel_limit] [] ∧ u.mem = s.mem) ∧
  (∀ (s : State) (n t : Nat), ∀ u, exec (.softStartDone n t) s = .next u → s.Keeps u [.tb, .irq, .prf, .led]
    [LED_STR_STAT_state n, LED_STR_STAT_cause n, LED_STR_STAT_retries n, LED_STR_STAT_dac n, LED_STR_LEVEL_level n,
    LED_STR_LEVEL_v n, PRF_EVENT_sel_limit] [] ∧ u.mem = s.mem) ∧
  (∀ (s : State) (dark ref : List Nat) (t : Nat), ∀ u, exec (.calDone dark ref t) s = .next u → s.Keeps u [.tb,
    .irq, .prf, .led] [LED_EVENT_cal_done, LED_CMD_STATUS_busy, LED_CMD_STATUS_done, LED_CMD_STATUS_result,
    PRF_EVENT_sel_limit] [LED_STR_STAT_state, LED_STR_STAT_cause, LED_STR_STAT_retries, LED_STR_STAT_dac,
    LED_STR_LEVEL_level, LED_STR_LEVEL_v, (LED_CSET_TRIM_factor 0), (LED_CSET_REF_f_ref 0), (LED_CSET_REF_f_dark
    0), LED_MTX_STAT_level] ∧ u.mem = s.mem) ∧
  (∀ (s : State) (p t : Nat), ∀ u, exec (.shiftDone p t) s = .next u → s.Keeps u [.tb, .irq, .prf, .led]
    [LED_MTX_STAT_preloaded p, LED_MTX_STAT_shifting p, LED_MTX_STAT_front p, LED_MTX_SWAPS_v p,
    PRF_EVENT_sel_limit] [] ∧ u.mem = s.mem) ∧
  (∀ (s : State) (p t : Nat), ∀ u, exec (.frameSyncEdge p t) s = .next u → s.Keeps u [.tb, .irq, .prf, .led]
    [LED_EVENT_late_swap, LED_EVENT_swap_empty, LED_MTX_STAT_preloaded p, LED_MTX_STAT_front p, LED_MTX_SWAPS_v p,
    PRF_EVENT_sel_limit] [] ∧ u.mem = s.mem) ∧
  (∀ (s : State) (t : Nat), ∀ u, exec (.assayerRecord t) s = .next u → s.Keeps u [.tb, .irq, .que, .scr, .prf,
    .smp, .mtr] [MTR_STATUS_running, MTR_EVENT_gap, MTR_EVENT_pulse_backlog, MTR_GAP_COUNT_v, REC_EVENT_lost,
    REC_LOST_CNT_v, PRF_EVENT_sel_limit] [MTR_FDR_P_v, MTR_FDR_STAT_cfg_err, MTR_FDR_STAT_clipped,
    MTR_FDR_STAT_pow2, MTR_FDR_STAT_gap, MTR_POUT_OWED_v, QUE_Q_FREE_v, QUE_Q_HWM_v, QUE_Q_STAT_full,
    QUE_Q_STAT_flushing, QUE_Q_STAT_units, QUE_Q_RHEAD_len, QUE_Q_RHEAD_aborted, QUE_Q_RHEAD_valid] ∧ u.mem =
    s.mem) ∧
  (∀ (s : State) (n t : Nat), ∀ u, exec (.pulseInEdge n t) s = .next u → s.Keeps u [.tb, .irq, .scr, .prf, .mtr]
    [MTR_EVENT_gap, MTR_EVENT_rate_err, MTR_EVENT_pulse_backlog, MTR_GAP_COUNT_v, MTR_PIN_REJ_v n, REC_EVENT_lost,
    REC_LOST_CNT_v, PRF_EVENT_sel_limit] [MTR_POUT_OWED_v] ∧ u.mem = s.mem) ∧
  (∀ (s : State) (n t : Nat), ∀ u, exec (.pulseRateSecond n t) s = .next u → s.Keeps u [.tb, .irq, .scr, .prf,
    .mtr] [MTR_EVENT_gap, MTR_GAP_COUNT_v, REC_EVENT_lost, REC_LOST_CNT_v, PRF_EVENT_sel_limit] [] ∧ u.mem = s.mem) ∧
  (∀ (s : State) (o t : Nat), ∀ u, exec (.poutPulseStart o t) s = .next u → s.Keeps u [.tb, .irq, .prf, .mtr]
    [MTR_POUT_OWED_v o, PRF_EVENT_sel_limit] [] ∧ u.mem = s.mem) ∧
  (∀ (s : State) (o t : Nat), ∀ u, exec (.poutPulseEnd o t) s = .next u → s.Keeps u [.tb, .irq, .prf, .mtr]
    [MTR_POUT_OWED_v o, PRF_EVENT_sel_limit] [] ∧ u.mem = s.mem) ∧
  (∀ (s : State) (t : Nat), ∀ u, exec (.periodicSave t) s = .next u → s.Keeps u [.tb, .irq, .prf, .mtr]
    [MTR_EVENT_save_done, MTR_SAVE_SEQ_v, PRF_EVENT_sel_limit] [] ∧ u.mem = s.mem) ∧
  (∀ (s : State) (src t : Nat), ∀ u, exec (.mtrTempStale src t) s = .next u → s.Keeps u [.tb, .irq, .prf]
    [MTR_EVENT_temp_stale, PRF_EVENT_sel_limit] [] ∧ u.mem = s.mem) ∧
  (∀ (s : State) (hart t : Nat), ∀ u, exec (.voteWindowExpire hart t) s = .next u → s.Keeps u [.op, .tb, .irq,
    .que, .scr, .prf, .pat, .net, .cry, .rad, .led, .mtr, .sys, .lnv, .ptn] [PAT_STATUS_state,
    PAT_EVENT_load_discarded, LMP_CON_STATE_drives, MTR_EVENT_save_done, MTR_EVENT_gap, MTR_EVENT_pulse_backlog,
    MTR_SAVE_SEQ_v, MTR_GAP_COUNT_v, LNV_STATUS_mode, LNV_STATUS_lane_a, LNV_STATUS_lane_b, LNV_STATUS_lane_c,
    LNV_EVENT_disagree, LNV_EVENT_timeout, LNV_EVENT_fenced, LNV_LAST_lane, LNV_LAST_kind, LNV_LAST_hart,
    LNV_LAST_ADDR_LO_v, LNV_LAST_ADDR_HI_v, SYS_STATUS_state, SYS_CMD_op, SYS_START_cause, SYS_START_prev,
    REC_STATUS_tail_valid, REC_EVENT_lost, REC_LOST_CNT_v, PRF_EVENT_sel_limit, PTN_STATUS_state,
    PTN_STATUS_link_up, PTN_STATUS_net_heard] [MTR_FDR_P_v, MTR_FDR_STAT_clipped, MTR_FDR_STAT_pow2,
    MTR_FDR_STAT_gap, MTR_POUT_OWED_v, LNV_DIS_CNT_v, QUE_Q_FREE_v, QUE_Q_HWM_v, QUE_Q_STAT_full,
    QUE_Q_STAT_flushing, QUE_Q_STAT_units, QUE_Q_RHEAD_len, QUE_Q_RHEAD_aborted, QUE_Q_RHEAD_valid] ∧ u.mem =
    s.mem) ∧
  (∀ (s : State) (lane hart : Nat) (cause : LocalCause) (t : Nat), ∀ u, exec (.localFault lane hart cause t) s =
    .next u → s.Keeps u [.op, .tb, .irq, .que, .scr, .prf, .pat, .net, .cry, .rad, .led, .mtr, .sys, .lnv, .ptn]
    [PAT_STATUS_state, PAT_EVENT_load_discarded, LMP_CON_STATE_drives, MTR_EVENT_save_done, MTR_EVENT_gap,
    MTR_EVENT_pulse_backlog, MTR_SAVE_SEQ_v, MTR_GAP_COUNT_v, LNV_STATUS_mode, LNV_STATUS_lane_a,
    LNV_STATUS_lane_b, LNV_STATUS_lane_c, LNV_EVENT_disagree, LNV_EVENT_timeout, LNV_EVENT_fenced, LNV_EVENT_l2_ue,
    LNV_EVENT_l1_ue, LNV_EVENT_lockup, LNV_LAST_lane, LNV_LAST_kind, LNV_LAST_hart, LNV_LAST_ADDR_LO_v,
    LNV_LAST_ADDR_HI_v, SYS_STATUS_state, SYS_CMD_op, SYS_START_cause, SYS_START_prev, REC_STATUS_tail_valid,
    REC_EVENT_lost, REC_LOST_CNT_v, PRF_EVENT_sel_limit, PTN_STATUS_state, PTN_STATUS_link_up,
    PTN_STATUS_net_heard] [MTR_FDR_P_v, MTR_FDR_STAT_clipped, MTR_FDR_STAT_pow2, MTR_FDR_STAT_gap, MTR_POUT_OWED_v,
    LNV_DIS_CNT_v, MEM_UE_CNT_v, QUE_Q_FREE_v, QUE_Q_HWM_v, QUE_Q_STAT_full, QUE_Q_STAT_flushing, QUE_Q_STAT_units,
    QUE_Q_RHEAD_len, QUE_Q_RHEAD_aborted, QUE_Q_RHEAD_valid] ∧ u.mem = s.mem) ∧
  (∀ (s : State) (pass : Bool) (t : Nat), ∀ u, exec (.selftestDone pass t) s = .next u → s.Keeps u [.tb, .irq,
    .scr, .prf] [LNV_STATUS_lane_a, LNV_STATUS_lane_b, LNV_STATUS_lane_c, LNV_EVENT_resync_fail,
    LNV_CMD_STATUS_busy, LNV_CMD_STATUS_done, LNV_CMD_STATUS_result, REC_EVENT_lost, REC_LOST_CNT_v,
    PRF_EVENT_sel_limit] [] ∧ u.mem = s.mem) ∧
  (∀ (s : State) (lines t : Nat), ∀ u, exec (.copyPassDone lines t) s = .next u → s.Keeps u [.tb, .irq, .prf, .lnv]
    [LNV_STATUS_lane_a, LNV_STATUS_lane_b, LNV_STATUS_lane_c, PRF_EVENT_sel_limit] [] ∧ u.mem = s.mem) ∧
  (∀ (s : State) (t : Nat), ∀ u, exec (.resyncRestart t) s = .next u → s.Keeps u [.op, .tb, .irq, .que, .scr, .prf,
    .net, .cry, .ptn] [LNV_STATUS_mode, LNV_STATUS_lane_a, LNV_STATUS_lane_b, LNV_STATUS_lane_c,
    LNV_STATUS_resyncs, LNV_EVENT_resync_done, LNV_RESYNC_NS_v, LNV_PAUSE_NS_v, LNV_CMD_STATUS_busy,
    LNV_CMD_STATUS_done, LNV_CMD_STATUS_result, SYS_STATUS_state, REC_EVENT_lost, REC_LOST_CNT_v,
    PRF_EVENT_sel_limit, PTN_STATUS_state, PTN_STATUS_link_up, PTN_STATUS_net_heard] [QUE_Q_FREE_v, QUE_Q_HWM_v,
    QUE_Q_STAT_full, QUE_Q_STAT_flushing, QUE_Q_STAT_units, QUE_Q_RHEAD_len, QUE_Q_RHEAD_aborted,
    QUE_Q_RHEAD_valid] ∧ u.mem = s.mem) ∧
  (∀ (s : State) (hart skew : Nat) (t : Nat), ∀ u, exec (.deliveryPoint hart skew t) s = .next u → s.Keeps u [.tb,
    .irq, .prf, .free] [LNV_SKEW_v, PRF_EVENT_sel_limit] [] ∧ u.mem = s.mem) ∧
  (∀ (s : State) (lane t : Nat), ∀ u, exec (.lnvResync lane t) s = .next u → s.Keeps u [.tb, .irq, .prf, .lnv]
    [LNV_STATUS_lane_a, LNV_STATUS_lane_b, LNV_STATUS_lane_c, LNV_CMD_STATUS_busy, LNV_CMD_STATUS_done,
    LNV_CMD_STATUS_result, PRF_EVENT_sel_limit] [] ∧ u.mem = s.mem) ∧
  (∀ (s : State) (region t : Nat), ∀ u, exec (.scrubPass region t) s = .next u → s.Keeps u [.tb, .irq, .prf, .fls]
    [MEM_EVENT_scrub_pass, PRF_EVENT_sel_limit] [] ∧ u.mem = s.mem) ∧
  (∀ (s : State) (addr cls block : Nat) (bad : Bool) (t : Nat), ∀ u, exec (.memoryError addr cls block bad t) s =
    .next u → s.Keeps u [.tb, .irq, .que, .scr, .prf, .hlt, .mtr, .sys, .fls, .resp, .free] [MEM_EVENT_ce,
    MEM_EVENT_ue, MEM_EVENT_hot, MEM_ERR_ADDR_LO_v, MEM_ERR_ADDR_HI_v, MEM_ERR_INFO_region,
    MEM_ERR_INFO_uncorrectable, MEM_ERR_INFO_hot, MEM_ERR_INFO_cls, MEM_ERR_INFO_block, REC_EVENT_lost,
    REC_LOST_CNT_v, PRF_EVENT_sel_limit, HLT_EVENT_history_lost] [MEM_CE_CNT_v, MEM_UE_CNT_v, QUE_Q_FREE_v,
    QUE_Q_HWM_v, QUE_Q_STAT_full, QUE_Q_STAT_flushing, QUE_Q_STAT_units, QUE_Q_RHEAD_len, QUE_Q_RHEAD_aborted,
    QUE_Q_RHEAD_valid] ∧ u.mem = s.mem) ∧
  (∀ (s : State) (tgt t : Nat), ∀ u, exec (.moderationExpire tgt t) s = .next u → s.Keeps u [.tb, .irq, .prf]
    [IRQ_TGT_TOP_group tgt, IRQ_TGT_TOP_none tgt, IRQ_TGT_TOP_asserted tgt, PRF_EVENT_sel_limit] [] ∧ u.mem =
    s.mem) ∧
  (∀ (s : State) (t : Nat), ∀ u, exec (.shadowTimeout t) s = .next u → s.Keeps u [.tb, .irq, .prf, .rtc]
    [RTC_EVENT_shadow_timeout, PRF_EVENT_sel_limit] [] ∧ u.mem = s.mem) ∧
  (∀ (s : State) (t : Nat), ∀ u, exec (.oscStopped t) s = .next u → s.Keeps u [.tb, .irq, .prf, .rtc]
    [RTC_EVENT_osc_stopped, PRF_EVENT_sel_limit] [] ∧ u.mem = s.mem) ∧
  (∀ (s : State) (t : Nat), ∀ u, exec (.grantExpire t) s = .next u → s.Keeps u [.tb, .irq, .scr, .prf, .key]
    [KEY_STATUS_lc_state, KEY_STATUS_root_ok, KEY_STATUS_tamper_latched, KEY_STATUS_grant, KEY_STATUS_used,
    KEY_EVENT_grant_expired, REC_EVENT_lost, REC_LOST_CNT_v, PRF_EVENT_sel_limit] [] ∧ u.mem = s.mem) ∧
  (∀ (s : State) (t : Nat), ∀ u, exec (.scrivenerRecord t) s = .next u → s.Keeps u [.tb, .irq, .scr, .prf, .ptn]
    [REC_STATUS_held, REC_EVENT_suppressed, REC_EVENT_seq_wrap, REC_LAST_SEQ_v, REC_SUP_CNT_v, PRF_EVENT_sel_limit]
    [] ∧ u.mem = s.mem) ∧
  (∀ (s : State) (t : Nat), ∀ u, exec (.lostRecordEmit t) s = .next u → s.Keeps u [.tb, .irq, .scr, .prf, .ptn]
    [REC_STATUS_held, REC_EVENT_seq_wrap, REC_LAST_SEQ_v, PRF_EVENT_sel_limit] [] ∧ u.mem = s.mem) ∧
  (∀ (s : State) (code t : Nat), ∀ u, exec (.tokenGain code t) s = .next u → s.Keeps u [.tb, .irq, .scr, .prf,
    .ptn] [REC_STATUS_held, REC_EVENT_seq_wrap, REC_LAST_SEQ_v, PRF_EVENT_sel_limit] [] ∧ u.mem = s.mem) ∧
  (∀ (s : State) (isOn : Bool) (t : Nat), ∀ u, exec (.freeze isOn t) s = .next u → s.Keeps u [.tb, .irq, .prf]
    [PRF_CTRL_freeze, PRF_EVENT_sel_limit, PRF_FROZEN_NS_v] [] ∧ u.mem = s.mem) ∧
  (∀ (s : State) (t : Nat), ∀ u, exec (.dailySample t) s = .next u → s.Keeps u [.tb, .irq, .prf, .hlt]
    [PRF_EVENT_sel_limit, HLT_EVENT_near, HLT_EVENT_reached, HLT_IND_U_u, HLT_IND_U_days, HLT_IND_EOL_day,
    HLT_IND_EOL_month, HLT_IND_EOL_year, HLT_IND_EOL_state, HLT_IND_RATED_v] [] ∧ u.mem = s.mem) ∧
  (∀ (s : State) (t : Nat), ∀ u, exec (.helloSend t) s = .next u → s.Keeps u [.tb, .irq, .que, .prf, .net, .cry,
    .ptn] [PRF_EVENT_sel_limit] [QUE_Q_FREE_v, QUE_Q_HWM_v, QUE_Q_STAT_full, QUE_Q_STAT_flushing, QUE_Q_STAT_units,
    QUE_Q_RHEAD_len, QUE_Q_RHEAD_aborted, QUE_Q_RHEAD_valid] ∧ u.mem = s.mem) ∧
  (∀ (s : State) (t : Nat), ∀ u, exec (.mirrorSend t) s = .next u → s.Keeps u [.tb, .irq, .que, .prf, .net, .cry,
    .ptn] [PRF_EVENT_sel_limit, PTN_MSEQ_v] [QUE_Q_FREE_v, QUE_Q_HWM_v, QUE_Q_STAT_full, QUE_Q_STAT_flushing,
    QUE_Q_STAT_units, QUE_Q_RHEAD_len, QUE_Q_RHEAD_aborted, QUE_Q_RHEAD_valid] ∧ u.mem = s.mem) ∧
  (∀ (s : State) (t : Nat), ∀ u, exec (.maccMirror t) s = .next u → s.Keeps u [.tb, .irq, .que, .prf, .net, .cry,
    .ptn] [PRF_EVENT_sel_limit, PTN_MSEQ_v] [QUE_Q_FREE_v, QUE_Q_HWM_v, QUE_Q_STAT_full, QUE_Q_STAT_flushing,
    QUE_Q_STAT_units, QUE_Q_RHEAD_len, QUE_Q_RHEAD_aborted, QUE_Q_RHEAD_valid] ∧ u.mem = s.mem) ∧
  (∀ (s : State) (m : BrdMsg), ∀ u, exec (.mirrorAckRx m) s = .next u → s.Keeps u [.tb, .irq, .que, .prf, .ptn]
    [CRY_EVENT_auth_fail, CRY_EVENT_replay, CRY_BRD_DROP_CNT_v, PRF_EVENT_sel_limit, PTN_ACK_v] [QUE_Q_FREE_v,
    QUE_Q_HWM_v, QUE_Q_STAT_full, QUE_Q_STAT_flushing, QUE_Q_STAT_units, QUE_Q_RHEAD_len, QUE_Q_RHEAD_aborted,
    QUE_Q_RHEAD_valid] ∧ u.mem = s.mem) ∧
  (∀ (s : State) (m : BrdMsg), ∀ u, exec (.syncReqRx m) s = .next u → s.Keeps u [.tb, .irq, .que, .prf, .ptn]
    [CRY_EVENT_auth_fail, CRY_EVENT_replay, CRY_BRD_DROP_CNT_v, PRF_EVENT_sel_limit] [QUE_Q_FREE_v, QUE_Q_HWM_v,
    QUE_Q_STAT_full, QUE_Q_STAT_flushing, QUE_Q_STAT_units, QUE_Q_RHEAD_len, QUE_Q_RHEAD_aborted,
    QUE_Q_RHEAD_valid] ∧ u.mem = s.mem) ∧
  (∀ (s : State) (t : Nat), ∀ u, exec (.fullCopyDone t) s = .next u → s.Keeps u [.tb, .irq, .que, .prf, .net, .cry,
    .ptn] [PRF_EVENT_sel_limit, PTN_EVENT_sync_done] [QUE_Q_FREE_v, QUE_Q_HWM_v, QUE_Q_STAT_full,
    QUE_Q_STAT_flushing, QUE_Q_STAT_units, QUE_Q_RHEAD_len, QUE_Q_RHEAD_aborted, QUE_Q_RHEAD_valid] ∧ u.mem =
    s.mem) ∧
  (∀ (s : State) (m : BrdMsg), ∀ u, exec (.swapRx m) s = .next u → s.Keeps u [.tb, .irq, .que, .prf, .ptn]
    [CRY_EVENT_auth_fail, CRY_EVENT_replay, CRY_BRD_DROP_CNT_v, PRF_EVENT_sel_limit] [QUE_Q_FREE_v, QUE_Q_HWM_v,
    QUE_Q_STAT_full, QUE_Q_STAT_flushing, QUE_Q_STAT_units, QUE_Q_RHEAD_len, QUE_Q_RHEAD_aborted,
    QUE_Q_RHEAD_valid] ∧ u.mem = s.mem) ∧
  (∀ (s : State) (t : Nat), ∀ u, exec (.oscillatorRestart t) s = .next u → s.Keeps u [.tb, .irq, .prf, .rtc]
    [PRF_EVENT_sel_limit] [] ∧ u.mem = s.mem) ∧
  (∀ (s : State) (t : Nat), ∀ u, exec (.blobSyncDone t) s = .next u → s.Keeps u [.tb, .irq, .prf, .ptn]
    [PRF_EVENT_sel_limit, PTN_CMD_STATUS_busy, PTN_CMD_STATUS_done, PTN_CMD_STATUS_result] [] ∧ u.mem = s.mem) ∧
  (∀ (s : State) (t : Nat), ∀ u, exec (.glideUpdate t) s = .next u → s.Keeps u [.tb, .irq, .prf, .led]
    [PRF_EVENT_sel_limit] [LED_STR_STAT_state, LED_STR_STAT_cause, LED_STR_STAT_retries, LED_STR_STAT_dac,
    LED_STR_LEVEL_level, LED_STR_LEVEL_v, LED_MTX_STAT_level] ∧ u.mem = s.mem) ∧
  (∀ (s : State) (n t : Nat), ∀ u, exec (.stringRunSecond n t) s = .next u → s.Keeps u [.tb, .irq, .prf, .hlt]
    [LED_STR_ONTIME_v n, PRF_EVENT_sel_limit, HLT_EVENT_near, HLT_EVENT_reached] [] ∧ u.mem = s.mem)

/-- Each of these commands leaves every byte outside the bytes it stores as it was, and the queue and every part
  and register bit it is not said to write. An array index that comes from the state is not bounded. -/
def Obligations.FramesOfStoringCommands : Prop :=
  (∀ (s : State) (t : Nat), ∀ u, exec (.commitDone t) s = .next u → s.Keeps u [.tb, .irq, .scr, .prf, .pat]
    [PAT_STATUS_state, PAT_EVENT_committed, REC_EVENT_lost, REC_LOST_CNT_v, PRF_EVENT_sel_limit] [] ∧ s.MemOutside
    u (fun x => ∃ n, n < 2 ∧ within (W.slotAddr n) s.dev.pat.active.raw.length x)) ∧
  (∀ (s : State) (index : Nat), ∀ u, exec (.ingInvalidate index) s = .next u → s.Keeps u [.ing, .sys, .ptn]
    [ING_STATUS_cache_used, ING_CMD_op, ING_CMD_index, ING_CMD_STATUS_busy, ING_CMD_STATUS_done,
    ING_CMD_STATUS_result, SYS_STATUS_settings_dirty] [] ∧ s.MemOutside u (fun x => ∃ l, tblGet s.dev.ing.cache
    index = some l ∧ within (s.w.entAddrOf index + 192) (l.bytes.length - 192) x)) ∧
  (∀ (s : State) (index : Nat), ∀ u, exec (.ingFlush index) s = .next u → s.Keeps u [.ing] [ING_STATUS_cache_used,
    ING_CMD_op, ING_CMD_index, ING_CMD_STATUS_busy, ING_CMD_STATUS_done, ING_CMD_STATUS_result] [] ∧ s.MemOutside u
    (fun x => ∃ l, tblGet s.dev.ing.cache index = some l ∧ within (s.w.entAddrOf index + 192) (l.bytes.length -
    192) x)) ∧
  (∀ (s : State) (index : Nat), ∀ u, exec (.ingClear index) s = .next u → s.Keeps u [.irq, .prf, .ing]
    [ING_STATUS_cache_used, ING_CMD_op, ING_CMD_index, ING_CMD_STATUS_busy, ING_CMD_STATUS_done,
    ING_CMD_STATUS_result, PRF_EVENT_sel_limit] [] ∧ s.MemOutside u (fun x => s.streamHalves x)) ∧
  (∀ (s : State) (index t : Nat), ∀ u, exec (.ingWriteback index t) s = .next u → s.Keeps u [.tb, .irq, .prf, .ing]
    [ING_STATUS_cache_used, PRF_EVENT_sel_limit] [] ∧ s.MemOutside u (fun x => ∃ l, tblGet s.dev.ing.cache index =
    some l ∧ within (s.w.entAddrOf index + 192) (l.bytes.length - 192) x)) ∧
  (∀ (s : State) (r seq t : Nat), ∀ u, exec (.immAckRx r seq t) s = .next u → s.Keeps u [.tb, .irq, .prf, .rad]
    [RAD_STATUS_cache_used, RAD_EVENT_silent, RAD_EVENT_resumed, RAD_SILENT_CNT_count, PRF_EVENT_sel_limit] [] ∧
    s.MemOutside u (fun x => s.lanternHalves x)) ∧
  (∀ (s : State) (g : Nat), ∀ u, exec (.radInvalidate g) s = .next u → s.Keeps u [.rad, .sys, .ptn]
    [RAD_STATUS_cache_used, RAD_CMD_STATUS_done, RAD_CMD_STATUS_result, SYS_STATUS_settings_dirty] [] ∧
    s.MemOutside u (fun x => s.lanternHalves x)) ∧
  (∀ (s : State) (g : Nat), ∀ u, exec (.radEnable g) s = .next u → s.Keeps u [.irq, .rad, .sys, .ptn]
    [RAD_STATUS_cache_used, RAD_EVENT_silent, RAD_EVENT_resumed, RAD_EVENT_entry_fault, RAD_CMD_STATUS_done,
    RAD_CMD_STATUS_result, RAD_SILENT_CNT_count, SYS_STATUS_settings_dirty] [] ∧ s.MemOutside u (fun x =>
    s.lanternHalves x)) ∧
  (∀ (s : State) (g : Nat), ∀ u, exec (.radDisable g) s = .next u → s.Keeps u [.irq, .rad, .sys, .ptn]
    [RAD_STATUS_cache_used, RAD_EVENT_silent, RAD_EVENT_resumed, RAD_CMD_STATUS_done, RAD_CMD_STATUS_result,
    RAD_SILENT_CNT_count, SYS_STATUS_settings_dirty] [] ∧ s.MemOutside u (fun x => s.lanternHalves x)) ∧
  (∀ (s : State) (g : Nat), ∀ u, exec (.radFlush g) s = .next u → s.Keeps u [.rad] [RAD_STATUS_cache_used,
    RAD_CMD_STATUS_done, RAD_CMD_STATUS_result] [] ∧ s.MemOutside u (fun x => ∃ l, tblGet s.dev.rad.cache g = some
    l ∧ within (s.w.lanAddr g + 72) (l.bytes.length - 72) x)) ∧
  (∀ (s : State) (g : Nat), ∀ u, exec (.radClear g) s = .next u → s.Keeps u [.rad] [RAD_STATUS_cache_used,
    RAD_CMD_STATUS_done, RAD_CMD_STATUS_result] [] ∧ s.MemOutside u (fun x => s.lanternHalves x)) ∧
  (∀ (s : State) (g : Nat), ∀ u, exec (.resetCtr g) s = .next u → s.Keeps u [.rad] [RAD_STATUS_cache_used,
    RAD_CMD_STATUS_done, RAD_CMD_STATUS_result] [] ∧ s.MemOutside u (fun x => s.lanternHalves x)) ∧
  (∀ (s : State) (g : Nat), ∀ u, exec (.wake g) s = .next u → s.Keeps u [.rad] [RAD_STATUS_cache_used,
    RAD_CMD_STATUS_done, RAD_CMD_STATUS_result] [] ∧ s.MemOutside u (fun x => s.lanternHalves x)) ∧
  (∀ (s : State) (g t : Nat), ∀ u, exec (.nodeTimeout g t) s = .next u → s.Keeps u [.tb, .irq, .prf, .rad]
    [RAD_STATUS_cache_used, RAD_EVENT_silent, RAD_EVENT_resumed, RAD_SILENT_CNT_count, PRF_EVENT_sel_limit] [] ∧
    s.MemOutside u (fun x => s.lanternHalves x)) ∧
  (∀ (s : State) (g t : Nat), ∀ u, exec (.radWriteback g t) s = .next u → s.Keeps u [.tb, .irq, .prf, .rad]
    [RAD_STATUS_cache_used, PRF_EVENT_sel_limit] [] ∧ s.MemOutside u (fun x => ∃ l, tblGet s.dev.rad.cache g = some
    l ∧ within (s.w.lanAddr g + 72) (l.bytes.length - 72) x)) ∧
  (∀ (s : State) (slot : Nat), ∀ u, exec (.start slot) s = .next u → s.Keeps u [.irq, .flt] [FLT_STATUS_phase,
    FLT_STATUS_armed, FLT_STATUS_slot, FLT_STATUS_round, FLT_STATUS_image_id, FLT_EVENT_phase_done,
    FLT_CMD_STATUS_done, FLT_CMD_STATUS_result] [FLT_COUNT_count] ∧ s.MemOutside u (fun x => ∃ g, g < s.w.lanSum ∧
    within (s.w.progAddr g) 16 x)) ∧
  (∀ (s : State) (t : Nat), ∀ u, exec (.pedlarReport t) s = .next u → s.Keeps u [.tb, .irq, .que, .prf, .rad, .flt]
    [FLT_STATUS_phase, FLT_STATUS_armed, FLT_STATUS_slot, FLT_STATUS_round, FLT_STATUS_image_id, FLT_EVENT_invalid,
    FLT_EVENT_rolled_back, PRF_EVENT_sel_limit] [FLT_COUNT_count, QUE_Q_FREE_v, QUE_Q_HWM_v, QUE_Q_STAT_full,
    QUE_Q_STAT_flushing, QUE_Q_STAT_units, QUE_Q_RHEAD_len, QUE_Q_RHEAD_aborted, QUE_Q_RHEAD_valid] ∧ s.MemOutside
    u (fun x => ∃ g, g < 65536 ∧ within (s.w.progAddr g) 16 x)) ∧
  (∀ (s : State) (t : Nat), ∀ u, exec (.pollEnd t) s = .next u → s.Keeps u [.tb, .irq, .prf, .flt]
    [FLT_STATUS_phase, FLT_STATUS_armed, FLT_STATUS_slot, FLT_STATUS_round, FLT_STATUS_image_id,
    FLT_EVENT_phase_done, FLT_EVENT_campaign_done, PRF_EVENT_sel_limit] [FLT_COUNT_count] ∧ s.MemOutside u (fun x
    => ∃ g, x = s.w.progAddr g + 1)) ∧
  (∀ (s : State) (ok : Bool) (life : Nat) (t : Nat), ∀ u, exec (.flCmdDone ok life t) s = .next u → s.Keeps u [.tb,
    .irq, .prf, .hlt, .fls, .free] [MEM_STATUS_flash_life, MEM_EVENT_fl_err, MEM_FL_STATUS_busy,
    MEM_FL_STATUS_done, MEM_FL_STATUS_result, PRF_EVENT_sel_limit, HLT_EVENT_near, HLT_EVENT_reached] [] ∧
    s.MemOutside u (fun x => ∃ c k, s.dev.fls.run = some c ∧ c.op = 1 ∧ k < c.count ∧ within (c.buf + 4096 * k)
    (s.w.sectorBytes (c.partition * 2 ^ 24 + c.sector + k)).length x)) ∧
  (∀ (s : State) (tgt grp t : Nat), ∀ u, exec (.irqRecordWrite tgt grp t) s = .next u → s.Keeps u [.tb, .irq, .prf]
    [IRQ_STATUS_staged, IRQ_EVENT_ring_full, IRQ_EVENT_bad_ring, IRQ_TGT_TOP_group tgt, IRQ_TGT_TOP_none tgt,
    IRQ_TGT_TOP_asserted tgt, IRQ_RING_WIDX_idx tgt grp, PRF_EVENT_sel_limit] [IRQ_MASK_v, IRQ_PEND_v] ∧
    s.MemOutside u (fun x => within (s.reg (IRQ_RING_BASE_v tgt grp) + 16 * s.reg (IRQ_RING_WIDX_idx tgt grp)) 16
    x)) ∧
  (∀ (s : State) (machine : Bool) (slot target : Nat), ∀ u, exec (.importKey machine slot target) s = .next u →
    s.Keeps u [.irq, .prf, .key] [KEY_CMD_STATUS_busy, KEY_CMD_STATUS_done, KEY_CMD_STATUS_result, KEY_DST_LEN_v,
    KEY_SLOT_INFO_state slot, KEY_SLOT_INFO_key_type slot, KEY_SLOT_INFO_flags slot, KEY_SLOT_INFO_used slot,
    KEY_SLOT_USES_v slot, KEY_SLOT_ID_LO_v slot, KEY_SLOT_ID_HI_v slot, PRF_EVENT_sel_limit] [] ∧ s.MemOutside u
    (fun x => within s.w.keyDst (u.reg KEY_DST_LEN_v) x ∨ within (s.w.keySrc + 48) (s.reg KEY_SRC_LEN_v - 48) x)) ∧
  (∀ (s : State) (machine : Bool) (slot aux : Nat), ∀ u, exec (.exportKey machine slot aux) s = .next u → s.Keeps u
    [.irq, .prf] [KEY_CMD_STATUS_busy, KEY_CMD_STATUS_done, KEY_CMD_STATUS_result, KEY_DST_LEN_v,
    PRF_EVENT_sel_limit] [] ∧ s.MemOutside u (fun x => within s.w.keyDst (u.reg KEY_DST_LEN_v) x)) ∧
  (∀ (s : State) (machine : Bool) (aux : Nat), ∀ u, exec (.rewrapNext machine aux) s = .next u → s.Keeps u [.irq,
    .prf] [KEY_CMD_STATUS_busy, KEY_CMD_STATUS_done, KEY_CMD_STATUS_result, KEY_DST_LEN_v, PRF_EVENT_sel_limit]
    [KEY_NEXT_v] ∧ s.MemOutside u (fun x => within s.w.keyDst (u.reg KEY_DST_LEN_v) x)) ∧
  (∀ (s : State) (slot : Nat), ∀ u, exec (.opHmac slot) s = .next u → s.Keeps u [.irq, .prf] [KEY_CMD_STATUS_busy,
    KEY_CMD_STATUS_done, KEY_CMD_STATUS_result, KEY_DST_LEN_v, PRF_EVENT_sel_limit] [] ∧ s.MemOutside u (fun x =>
    within s.w.keyDst (u.reg KEY_DST_LEN_v) x)) ∧
  (∀ (s : State) (slot : Nat), ∀ u, exec (.opGcmEnc slot) s = .next u → s.Keeps u [.irq, .prf]
    [KEY_CMD_STATUS_busy, KEY_CMD_STATUS_done, KEY_CMD_STATUS_result, KEY_DST_LEN_v, PRF_EVENT_sel_limit] [] ∧
    s.MemOutside u (fun x => within s.w.keyDst (u.reg KEY_DST_LEN_v) x)) ∧
  (∀ (s : State) (slot : Nat), ∀ u, exec (.opGcmDec slot) s = .next u → s.Keeps u [.irq, .prf]
    [KEY_CMD_STATUS_busy, KEY_CMD_STATUS_done, KEY_CMD_STATUS_result, KEY_DST_LEN_v, PRF_EVENT_sel_limit] [] ∧
    s.MemOutside u (fun x => within s.w.keyDst (u.reg KEY_DST_LEN_v) x))

/-- Each of these commands leaves every byte outside the tables and rings of its engines as it was, and the queue
  and every part and register bit it is not said to write. An array index that comes from the state is not bounded.
  -/
def Obligations.FramesOfTableCommands : Prop :=
  (∀ (s : State) (port : Nat) (m : PtpFrame) (t : Nat), ∀ u, exec (.ptpMessageRx port m t) s = .next u → s.Keeps u
    [.tb, .irq, .que, .scr, .prf, .hlt, .net, .aln, .smp, .rtc, .free] [TBS_STATUS_servo_state,
    TBS_STATUS_phase_src, TBS_STATUS_ref_in_use, TBS_STATUS_startup_step_done, TBS_STATUS_slewing, TBS_OFFSET_v,
    TBS_ERR_EST_v, TBS_QUALITY_tq_code, TBS_QUALITY_stat_tq, TBS_QUALITY_unsync, TBS_UTC_OFFSET_tai_utc,
    TBS_UTC_OFFSET_leap_pending, TBS_UTC_OFFSET_leap_occurred, TBS_EVENT_locked, TBS_EVENT_unlocked,
    TBS_EVENT_holdover, TBS_EVENT_stepped, TBS_EVENT_src_lost, TBS_EVENT_leap_done, ALN_EVENT_over_members,
    ALN_EVENT_gap, ALN_EVENT_out_oversize, SMP_EVENT_gap, RTC_STATUS_disciplined, RTC_STATUS_slewing,
    REC_EVENT_lost, REC_LOST_CNT_v, PRF_EVENT_sel_limit] [TRG_CTRL_late, TRG_CTRL_skipped, ALN_GRP_WIDX_slot,
    ALN_GRP_SEQ_v, ALN_GRP_INCOMPLETE_v, ALN_OUT_FRAMES_v, ALN_OUT_OVERSIZE_v, SMP_CH_STATE_state, SMP_CH_STATE_k,
    QUE_Q_FREE_v, QUE_Q_HWM_v, QUE_Q_STAT_full, QUE_Q_STAT_flushing, QUE_Q_STAT_units, QUE_Q_RHEAD_len,
    QUE_Q_RHEAD_aborted, QUE_Q_RHEAD_valid] ∧ s.MemOutside u (fun x => s.alignRings x)) ∧
  (∀ (s : State) (gnss : Bool) (sec : Nat) (t : Nat), ∀ u, exec (.ppsEdge gnss sec t) s = .next u → s.Keeps u [.tb,
    .irq, .que, .scr, .prf, .hlt, .net, .aln, .smp, .rtc, .free] [TBS_STATUS_servo_state, TBS_STATUS_phase_src,
    TBS_STATUS_ref_in_use, TBS_STATUS_startup_step_done, TBS_STATUS_slewing, TBS_OFFSET_v, TBS_ERR_EST_v,
    TBS_QUALITY_tq_code, TBS_QUALITY_stat_tq, TBS_QUALITY_unsync, TBS_UTC_OFFSET_tai_utc,
    TBS_UTC_OFFSET_leap_pending, TBS_UTC_OFFSET_leap_occurred, TBS_EVENT_locked, TBS_EVENT_unlocked,
    TBS_EVENT_holdover, TBS_EVENT_stepped, TBS_EVENT_leap_done, ALN_EVENT_over_members, ALN_EVENT_gap,
    ALN_EVENT_out_oversize, SMP_EVENT_gap, RTC_STATUS_disciplined, RTC_STATUS_slewing, REC_EVENT_lost,
    REC_LOST_CNT_v, PRF_EVENT_sel_limit] [TRG_CTRL_late, TRG_CTRL_skipped, CAP_CTRL_count, CAP_CTRL_overflow,
    ALN_GRP_WIDX_slot, ALN_GRP_SEQ_v, ALN_GRP_INCOMPLETE_v, ALN_OUT_FRAMES_v, ALN_OUT_OVERSIZE_v,
    SMP_CH_STATE_state, SMP_CH_STATE_k, QUE_Q_FREE_v, QUE_Q_HWM_v, QUE_Q_STAT_full, QUE_Q_STAT_flushing,
    QUE_Q_STAT_units, QUE_Q_RHEAD_len, QUE_Q_RHEAD_aborted, QUE_Q_RHEAD_valid] ∧ s.MemOutside u (fun x =>
    s.alignRings x)) ∧
  (∀ (s : State), ∀ u, exec .step s = .next u → s.Keeps u [.tb, .irq, .que, .scr, .prf, .net, .aln, .smp]
    [TBS_ERR_EST_v, TBS_QUALITY_tq_code, TBS_QUALITY_stat_tq, TBS_QUALITY_unsync, TBS_UTC_OFFSET_tai_utc,
    TBS_UTC_OFFSET_leap_pending, TBS_UTC_OFFSET_leap_occurred, TBS_EVENT_stepped, TBS_EVENT_leap_done,
    ALN_EVENT_over_members, ALN_EVENT_gap, ALN_EVENT_out_oversize, SMP_EVENT_gap, REC_EVENT_lost, REC_LOST_CNT_v,
    PRF_EVENT_sel_limit] [TRG_CTRL_late, TRG_CTRL_skipped, ALN_GRP_WIDX_slot, ALN_GRP_SEQ_v, ALN_GRP_INCOMPLETE_v,
    ALN_OUT_FRAMES_v, ALN_OUT_OVERSIZE_v, SMP_CH_STATE_state, SMP_CH_STATE_k, QUE_Q_FREE_v, QUE_Q_HWM_v,
    QUE_Q_STAT_full, QUE_Q_STAT_flushing, QUE_Q_STAT_units, QUE_Q_RHEAD_len, QUE_Q_RHEAD_aborted,
    QUE_Q_RHEAD_valid] ∧ s.MemOutside u (fun x => s.alignRings x)) ∧
  (∀ (s : State) (f : C37Frame), ∀ u, exec (.ingressFrame f) s = .next u → s.Keeps u [.tb, .irq, .que, .scr, .prf,
    .net, .ing] [ING_STATUS_cache_used, ING_EVENT_resumed, ING_EVENT_cfg_change, ING_EVENT_unknown,
    ING_SILENT_CNT_count, ING_UNKNOWN_LAST_idcode, ING_RANGE_CNT_v, REC_EVENT_lost, REC_LOST_CNT_v,
    PRF_EVENT_sel_limit] [NET_DROP_CNT_v, ING_DROP_CNT_v, QUE_Q_FREE_v, QUE_Q_HWM_v, QUE_Q_STAT_full,
    QUE_Q_STAT_flushing, QUE_Q_STAT_units, QUE_Q_RHEAD_len, QUE_Q_RHEAD_aborted, QUE_Q_RHEAD_valid] ∧ s.MemOutside
    u (fun x => s.streamHalves x)) ∧
  (∀ (s : State) (g : TcpSeg), ∀ u, exec (.tcpSegmentRx g) s = .next u → s.Keeps u [.tb, .irq, .que, .scr, .prf,
    .net, .ing] [ING_STATUS_cache_used, ING_EVENT_resumed, ING_EVENT_cfg_change, ING_EVENT_unknown,
    ING_EVENT_tcp_detached, ING_SILENT_CNT_count, ING_UNKNOWN_LAST_idcode, ING_TCP_OOO_CNT_v, ING_RANGE_CNT_v,
    REC_EVENT_lost, REC_LOST_CNT_v, PRF_EVENT_sel_limit] [NET_DROP_CNT_v, ING_DROP_CNT_v, QUE_Q_FREE_v,
    QUE_Q_HWM_v, QUE_Q_STAT_full, QUE_Q_STAT_flushing, QUE_Q_STAT_units, QUE_Q_RHEAD_len, QUE_Q_RHEAD_aborted,
    QUE_Q_RHEAD_valid] ∧ s.MemOutside u (fun x => s.streamHalves x)) ∧
  (∀ (s : State) (index : Nat), ∀ u, exec (.ingEnable index) s = .next u → s.Keeps u [.irq, .que, .scr, .prf, .net,
    .ing, .aln, .sys, .ptn] [ING_STATUS_cache_used, ING_CMD_op, ING_CMD_index, ING_CMD_STATUS_busy,
    ING_CMD_STATUS_done, ING_CMD_STATUS_result, ING_EVENT_entry_fault, ING_SILENT_CNT_count,
    ALN_EVENT_over_members, ALN_EVENT_out_oversize, ALN_EVENT_cfg_stale, SYS_STATUS_settings_dirty, REC_EVENT_lost,
    REC_LOST_CNT_v, PRF_EVENT_sel_limit] [ALN_GRP_STATUS_members, ALN_GRP_STATUS_running, ALN_GRP_STATUS_adaptive,
    ALN_GRP_STATUS_window_cur_ms, ALN_GRP_WIDX_slot, ALN_GRP_SEQ_v, ALN_GRP_INCOMPLETE_v, ALN_OUT_CTRL_cfg_stale,
    ALN_OUT_FRAMES_v, ALN_OUT_OVERSIZE_v, QUE_Q_FREE_v, QUE_Q_HWM_v, QUE_Q_STAT_full, QUE_Q_STAT_flushing,
    QUE_Q_STAT_units, QUE_Q_RHEAD_len, QUE_Q_RHEAD_aborted, QUE_Q_RHEAD_valid] ∧ s.MemOutside u (fun x =>
    s.streamHalves x ∨ s.alignRings x)) ∧
  (∀ (s : State) (index : Nat), ∀ u, exec (.ingDisable index) s = .next u → s.Keeps u [.irq, .que, .prf, .net,
    .ing, .aln, .sys, .ptn] [ING_STATUS_cache_used, ING_CMD_op, ING_CMD_index, ING_CMD_STATUS_busy,
    ING_CMD_STATUS_done, ING_CMD_STATUS_result, ING_SILENT_CNT_count, ALN_EVENT_over_members,
    ALN_EVENT_out_oversize, ALN_EVENT_cfg_stale, SYS_STATUS_settings_dirty, PRF_EVENT_sel_limit]
    [ALN_GRP_STATUS_members, ALN_GRP_STATUS_running, ALN_GRP_STATUS_adaptive, ALN_GRP_STATUS_window_cur_ms,
    ALN_GRP_WIDX_slot, ALN_GRP_SEQ_v, ALN_GRP_INCOMPLETE_v, ALN_OUT_CTRL_cfg_stale, ALN_OUT_FRAMES_v,
    ALN_OUT_OVERSIZE_v, QUE_Q_FREE_v, QUE_Q_HWM_v, QUE_Q_STAT_full, QUE_Q_STAT_flushing, QUE_Q_STAT_units,
    QUE_Q_RHEAD_len, QUE_Q_RHEAD_aborted, QUE_Q_RHEAD_valid] ∧ s.MemOutside u (fun x => s.streamHalves x ∨
    s.alignRings x)) ∧
  (∀ (s : State) (v : W32), ∀ u, exec (.ingCtrlWrite v) s = .next u → s.Keeps u [.irq, .que, .scr, .prf, .net,
    .ing, .sys] [ING_CTRL_enable, ING_CTRL_range_enable, ING_CTRL_tcp_enable, ING_STATUS_cache_used,
    ING_EVENT_resumed, ING_EVENT_cfg_change, ING_EVENT_unknown, ING_SILENT_CNT_count, ING_UNKNOWN_LAST_idcode,
    ING_RANGE_CNT_v, SYS_STATUS_settings_dirty, REC_EVENT_lost, REC_LOST_CNT_v, PRF_EVENT_sel_limit]
    [ING_DROP_CNT_v, QUE_Q_FREE_v, QUE_Q_HWM_v, QUE_Q_STAT_full, QUE_Q_STAT_flushing, QUE_Q_STAT_units,
    QUE_Q_RHEAD_len, QUE_Q_RHEAD_aborted, QUE_Q_RHEAD_valid] ∧ s.MemOutside u (fun x => s.streamHalves x)) ∧
  (∀ (s : State) (t : Nat), ∀ u, exec (.silenceScan t) s = .next u → s.Keeps u [.tb, .irq, .que, .prf, .net, .ing,
    .aln] [ING_STATUS_cache_used, ING_EVENT_silent, ING_SILENT_CNT_count, ALN_EVENT_over_members,
    ALN_EVENT_out_oversize, ALN_EVENT_cfg_stale, PRF_EVENT_sel_limit] [ALN_GRP_STATUS_members,
    ALN_GRP_STATUS_running, ALN_GRP_STATUS_adaptive, ALN_GRP_STATUS_window_cur_ms, ALN_GRP_WIDX_slot,
    ALN_GRP_SEQ_v, ALN_GRP_INCOMPLETE_v, ALN_OUT_CTRL_cfg_stale, ALN_OUT_FRAMES_v, ALN_OUT_OVERSIZE_v,
    QUE_Q_FREE_v, QUE_Q_HWM_v, QUE_Q_STAT_full, QUE_Q_STAT_flushing, QUE_Q_STAT_units, QUE_Q_RHEAD_len,
    QUE_Q_RHEAD_aborted, QUE_Q_RHEAD_valid] ∧ s.MemOutside u (fun x => s.streamHalves x ∨ s.alignRings x)) ∧
  (∀ (s : State) (loc : Bool) (t : Nat), ∀ u, exec (.recordPlace loc t) s = .next u → s.Keeps u [.tb, .irq, .que,
    .scr, .prf, .net, .ing, .aln, .smp] [ING_STATUS_cache_used, ING_EVENT_resumed, ING_EVENT_cfg_change,
    ING_EVENT_unknown, ING_SILENT_CNT_count, ING_UNKNOWN_LAST_idcode, ING_RANGE_CNT_v, ALN_EVENT_over_members,
    ALN_EVENT_late_full, ALN_EVENT_early, ALN_EVENT_out_oversize, REC_EVENT_lost, REC_LOST_CNT_v,
    PRF_EVENT_sel_limit] [ING_DROP_CNT_v, ALN_GRP_WIDX_slot, ALN_GRP_SEQ_v, ALN_GRP_INCOMPLETE_v, ALN_GRP_LATE_v,
    ALN_GRP_DUP_v, ALN_GRP_STRAY_v, ALN_GRP_EARLY_v, ALN_GRP_LATE_DROP_v, ALN_GRP_LATE_WIDX_index,
    ALN_OUT_FRAMES_v, ALN_OUT_OVERSIZE_v, QUE_Q_FREE_v, QUE_Q_HWM_v, QUE_Q_STAT_full, QUE_Q_STAT_flushing,
    QUE_Q_STAT_units, QUE_Q_RHEAD_len, QUE_Q_RHEAD_aborted, QUE_Q_RHEAD_valid] ∧ s.MemOutside u (fun x =>
    s.streamHalves x ∨ s.alignRings x)) ∧
  (∀ (s : State) (g inst : Nat), ∀ u, exec (.setOpen g inst) s = .next u → s.Keeps u [.tb, .irq, .que, .prf, .net,
    .aln] [ALN_EVENT_over_members, ALN_EVENT_out_oversize, PRF_EVENT_sel_limit] [ALN_GRP_WIDX_slot, ALN_GRP_SEQ_v,
    ALN_GRP_INCOMPLETE_v, ALN_OUT_FRAMES_v, ALN_OUT_OVERSIZE_v, QUE_Q_FREE_v, QUE_Q_HWM_v, QUE_Q_STAT_full,
    QUE_Q_STAT_flushing, QUE_Q_STAT_units, QUE_Q_RHEAD_len, QUE_Q_RHEAD_aborted, QUE_Q_RHEAD_valid] ∧ s.MemOutside
    u (fun x => s.alignRings x)) ∧
  (∀ (s : State) (g inst t : Nat), ∀ u, exec (.setExpire g inst t) s = .next u → s.Keeps u [.tb, .irq, .que, .prf,
    .net, .aln] [ALN_EVENT_out_oversize, PRF_EVENT_sel_limit] [ALN_GRP_WIDX_slot, ALN_GRP_SEQ_v,
    ALN_GRP_INCOMPLETE_v, ALN_OUT_FRAMES_v, ALN_OUT_OVERSIZE_v, QUE_Q_FREE_v, QUE_Q_HWM_v, QUE_Q_STAT_full,
    QUE_Q_STAT_flushing, QUE_Q_STAT_units, QUE_Q_RHEAD_len, QUE_Q_RHEAD_aborted, QUE_Q_RHEAD_valid] ∧ s.MemOutside
    u (fun x => s.alignRings x)) ∧
  (∀ (s : State) (v : W32), ∀ u, exec (.alnCtrlWrite v) s = .next u → s.Keeps u [.irq, .que, .prf, .net, .aln,
    .sys] [ALN_CTRL_enable, ALN_EVENT_out_oversize, SYS_STATUS_settings_dirty, PRF_EVENT_sel_limit]
    [ALN_GRP_STATUS_members, ALN_GRP_STATUS_running, ALN_GRP_STATUS_adaptive, ALN_GRP_STATUS_window_cur_ms,
    ALN_GRP_WIDX_slot, ALN_GRP_SEQ_v, ALN_GRP_INCOMPLETE_v, ALN_OUT_FRAMES_v, ALN_OUT_OVERSIZE_v, QUE_Q_FREE_v,
    QUE_Q_HWM_v, QUE_Q_STAT_full, QUE_Q_STAT_flushing, QUE_Q_STAT_units, QUE_Q_RHEAD_len, QUE_Q_RHEAD_aborted,
    QUE_Q_RHEAD_valid] ∧ s.MemOutside u (fun x => s.alignRings x)) ∧
  (∀ (s : State) (g : Nat) (v : W32), ∀ u, exec (.alnGrpCtrlWrite g v) s = .next u → s.Keeps u [.irq, .que, .prf,
    .net, .aln, .sys] [ALN_EVENT_out_oversize, SYS_STATUS_settings_dirty, PRF_EVENT_sel_limit] [ALN_GRP_CTRL_run,
    ALN_GRP_CTRL_irq_close, ALN_GRP_CTRL_late_fwd, ALN_GRP_STATUS_members, ALN_GRP_STATUS_running,
    ALN_GRP_STATUS_adaptive, ALN_GRP_STATUS_window_cur_ms, ALN_GRP_WIDX_slot, ALN_GRP_SEQ_v, ALN_GRP_INCOMPLETE_v,
    ALN_OUT_FRAMES_v, ALN_OUT_OVERSIZE_v, QUE_Q_FREE_v, QUE_Q_HWM_v, QUE_Q_STAT_full, QUE_Q_STAT_flushing,
    QUE_Q_STAT_units, QUE_Q_RHEAD_len, QUE_Q_RHEAD_aborted, QUE_Q_RHEAD_valid] ∧ s.MemOutside u (fun x =>
    s.alignRings x)) ∧
  (∀ (s : State) (m : BrdMsg), ∀ u, exec (.gopAnnounceRx m) s = .next u → s.Keeps u [.tb, .irq, .que, .scr, .prf,
    .net, .cry] [CRY_STATUS_armed, CRY_STATUS_live, CRY_EVENT_auth_fail, CRY_EVENT_replay, CRY_EVENT_gop_late,
    CRY_EVENT_gop_done, CRY_EVENT_rx_full, CRY_BRD_DROP_CNT_v, CRY_RX_WIDX_v, REC_EVENT_lost, REC_LOST_CNT_v,
    PRF_EVENT_sel_limit] [TRG_CTRL_arm, TRG_CTRL_target, TRG_CTRL_late, TRG_NS_v, TRG_SEC_LO_v, TRG_SEC_HI_v,
    TRG_PERIOD_v, CRY_GOP_RES_lo, CRY_GOP_RES_hi, QUE_Q_FREE_v, QUE_Q_HWM_v, QUE_Q_STAT_full, QUE_Q_STAT_flushing,
    QUE_Q_STAT_units, QUE_Q_RHEAD_len, QUE_Q_RHEAD_aborted, QUE_Q_RHEAD_valid] ∧ s.MemOutside u (fun x =>
    s.crierRing x)) ∧
  (∀ (s : State) (m : BrdMsg), ∀ u, exec (.barrierEnterRx m) s = .next u → s.Keeps u [.tb, .irq, .que, .scr, .prf,
    .net, .cry] [CRY_STATUS_armed, CRY_STATUS_live, CRY_EVENT_auth_fail, CRY_EVENT_replay, CRY_EVENT_gop_late,
    CRY_EVENT_gop_done, CRY_EVENT_rx_full, CRY_BRD_DROP_CNT_v, CRY_GOP_OPID_v, CRY_RX_WIDX_v, REC_EVENT_lost,
    REC_LOST_CNT_v, PRF_EVENT_sel_limit] [TRG_CTRL_arm, TRG_CTRL_target, TRG_CTRL_late, TRG_NS_v, TRG_SEC_LO_v,
    TRG_SEC_HI_v, TRG_PERIOD_v, CRY_GOP_RES_lo, CRY_GOP_RES_hi, QUE_Q_FREE_v, QUE_Q_HWM_v, QUE_Q_STAT_full,
    QUE_Q_STAT_flushing, QUE_Q_STAT_units, QUE_Q_RHEAD_len, QUE_Q_RHEAD_aborted, QUE_Q_RHEAD_valid] ∧ s.MemOutside
    u (fun x => s.crierRing x)) ∧
  (∀ (s : State) (m : BrdMsg), ∀ u, exec (.barrierReleaseRx m) s = .next u → s.Keeps u [.tb, .irq, .que, .scr,
    .prf, .net, .cry] [CRY_STATUS_armed, CRY_STATUS_live, CRY_EVENT_auth_fail, CRY_EVENT_replay,
    CRY_EVENT_gop_late, CRY_EVENT_gop_done, CRY_EVENT_rx_full, CRY_BRD_DROP_CNT_v, CRY_RX_WIDX_v, REC_EVENT_lost,
    REC_LOST_CNT_v, PRF_EVENT_sel_limit] [TRG_CTRL_arm, TRG_CTRL_target, TRG_CTRL_late, TRG_NS_v, TRG_SEC_LO_v,
    TRG_SEC_HI_v, TRG_PERIOD_v, CRY_GOP_RES_lo, CRY_GOP_RES_hi, QUE_Q_FREE_v, QUE_Q_HWM_v, QUE_Q_STAT_full,
    QUE_Q_STAT_flushing, QUE_Q_STAT_units, QUE_Q_RHEAD_len, QUE_Q_RHEAD_aborted, QUE_Q_RHEAD_valid] ∧ s.MemOutside
    u (fun x => s.crierRing x)) ∧
  (∀ (s : State) (module t : Nat), ∀ u, exec (.moduleDown module t) s = .next u → s.Keeps u [.tb, .irq, .que, .scr,
    .prf, .net, .cry] [CRY_STATUS_armed, CRY_STATUS_live, CRY_EVENT_gop_late, CRY_EVENT_gop_done,
    CRY_EVENT_module_down, CRY_EVENT_rx_full, CRY_GOP_OPID_v, CRY_RX_WIDX_v, REC_EVENT_lost, REC_LOST_CNT_v,
    PRF_EVENT_sel_limit] [TRG_CTRL_arm, TRG_CTRL_target, TRG_CTRL_late, TRG_NS_v, TRG_SEC_LO_v, TRG_SEC_HI_v,
    TRG_PERIOD_v, CRY_GOP_RES_lo, CRY_GOP_RES_hi, QUE_Q_FREE_v, QUE_Q_HWM_v, QUE_Q_STAT_full, QUE_Q_STAT_flushing,
    QUE_Q_STAT_units, QUE_Q_RHEAD_len, QUE_Q_RHEAD_aborted, QUE_Q_RHEAD_valid] ∧ s.MemOutside u (fun x =>
    s.crierRing x)) ∧
  (∀ (s : State) (late level : Bool), ∀ u, exec (.gopBroadcast late level) s = .next u → s.Keeps u [.tb, .irq,
    .que, .scr, .prf, .net, .cry] [CRY_STATUS_armed, CRY_STATUS_live, CRY_EVENT_gop_late, CRY_EVENT_gop_done,
    CRY_EVENT_rx_full, CRY_GOP_STATUS_done, CRY_GOP_STATUS_result, CRY_GOP_OPID_v, CRY_RX_WIDX_v, REC_EVENT_lost,
    REC_LOST_CNT_v, PRF_EVENT_sel_limit] [TRG_CTRL_arm, TRG_CTRL_target, TRG_CTRL_late, TRG_NS_v, TRG_SEC_LO_v,
    TRG_SEC_HI_v, TRG_PERIOD_v, CRY_GOP_RES_lo, CRY_GOP_RES_hi, QUE_Q_FREE_v, QUE_Q_HWM_v, QUE_Q_STAT_full,
    QUE_Q_STAT_flushing, QUE_Q_STAT_units, QUE_Q_RHEAD_len, QUE_Q_RHEAD_aborted, QUE_Q_RHEAD_valid] ∧ s.MemOutside
    u (fun x => s.crierRing x)) ∧
  (∀ (s : State) (late : Bool), ∀ u, exec (.gopSnapshot late) s = .next u → s.Keeps u [.tb, .irq, .que, .scr, .prf,
    .net, .cry] [CRY_STATUS_armed, CRY_STATUS_live, CRY_EVENT_gop_late, CRY_EVENT_gop_done, CRY_EVENT_rx_full,
    CRY_GOP_STATUS_done, CRY_GOP_STATUS_result, CRY_GOP_OPID_v, CRY_RX_WIDX_v, REC_EVENT_lost, REC_LOST_CNT_v,
    PRF_EVENT_sel_limit] [TRG_CTRL_arm, TRG_CTRL_target, TRG_CTRL_late, TRG_NS_v, TRG_SEC_LO_v, TRG_SEC_HI_v,
    TRG_PERIOD_v, CRY_GOP_RES_lo, CRY_GOP_RES_hi, QUE_Q_FREE_v, QUE_Q_HWM_v, QUE_Q_STAT_full, QUE_Q_STAT_flushing,
    QUE_Q_STAT_units, QUE_Q_RHEAD_len, QUE_Q_RHEAD_aborted, QUE_Q_RHEAD_valid] ∧ s.MemOutside u (fun x =>
    s.crierRing x)) ∧
  (∀ (s : State) (kind : Nat), ∀ u, exec (.gopReset kind) s = .next u → s.Keeps u [.tb, .irq, .que, .scr, .prf,
    .net, .cry] [CRY_STATUS_armed, CRY_STATUS_live, CRY_EVENT_gop_late, CRY_EVENT_gop_done, CRY_EVENT_rx_full,
    CRY_GOP_STATUS_done, CRY_GOP_STATUS_result, CRY_GOP_OPID_v, CRY_RX_WIDX_v, REC_EVENT_lost, REC_LOST_CNT_v,
    PRF_EVENT_sel_limit] [TRG_CTRL_arm, TRG_CTRL_target, TRG_CTRL_late, TRG_NS_v, TRG_SEC_LO_v, TRG_SEC_HI_v,
    TRG_PERIOD_v, CRY_GOP_RES_lo, CRY_GOP_RES_hi, QUE_Q_FREE_v, QUE_Q_HWM_v, QUE_Q_STAT_full, QUE_Q_STAT_flushing,
    QUE_Q_STAT_units, QUE_Q_RHEAD_len, QUE_Q_RHEAD_aborted, QUE_Q_RHEAD_valid] ∧ s.MemOutside u (fun x =>
    s.crierRing x)) ∧
  (∀ (s : State) (late : Bool) (number : Nat), ∀ u, exec (.gopEnter late number) s = .next u → s.Keeps u [.tb,
    .irq, .que, .scr, .prf, .net, .cry] [CRY_STATUS_armed, CRY_STATUS_live, CRY_EVENT_gop_late, CRY_EVENT_gop_done,
    CRY_EVENT_rx_full, CRY_GOP_STATUS_done, CRY_GOP_STATUS_result, CRY_GOP_OPID_v, CRY_RX_WIDX_v, REC_EVENT_lost,
    REC_LOST_CNT_v, PRF_EVENT_sel_limit] [TRG_CTRL_arm, TRG_CTRL_target, TRG_CTRL_late, TRG_NS_v, TRG_SEC_LO_v,
    TRG_SEC_HI_v, TRG_PERIOD_v, CRY_GOP_RES_lo, CRY_GOP_RES_hi, QUE_Q_FREE_v, QUE_Q_HWM_v, QUE_Q_STAT_full,
    QUE_Q_STAT_flushing, QUE_Q_STAT_units, QUE_Q_RHEAD_len, QUE_Q_RHEAD_aborted, QUE_Q_RHEAD_valid] ∧ s.MemOutside
    u (fun x => s.crierRing x)) ∧
  (∀ (s : State) (number t : Nat), ∀ u, exec (.barrierTimeout number t) s = .next u → s.Keeps u [.tb, .irq, .que,
    .scr, .prf, .net, .cry] [CRY_STATUS_armed, CRY_STATUS_live, CRY_EVENT_gop_late, CRY_EVENT_gop_done,
    CRY_EVENT_barrier_timeout, CRY_EVENT_rx_full, CRY_GOP_OPID_v, CRY_RX_WIDX_v, REC_EVENT_lost, REC_LOST_CNT_v,
    PRF_EVENT_sel_limit] [TRG_CTRL_arm, TRG_CTRL_target, TRG_CTRL_late, TRG_NS_v, TRG_SEC_LO_v, TRG_SEC_HI_v,
    TRG_PERIOD_v, CRY_GOP_RES_lo, CRY_GOP_RES_hi, QUE_Q_FREE_v, QUE_Q_HWM_v, QUE_Q_STAT_full, QUE_Q_STAT_flushing,
    QUE_Q_STAT_units, QUE_Q_RHEAD_len, QUE_Q_RHEAD_aborted, QUE_Q_RHEAD_valid] ∧ s.MemOutside u (fun x =>
    s.crierRing x)) ∧
  (∀ (s : State) (r n : Nat), ∀ u, exec (.beaconBoundary r n) s = .next u → s.Keeps u [.tb, .irq, .prf, .hlt, .key,
    .rad, .flt] [RAD_STATUS_cache_used, RAD_EVENT_silent, RAD_EVENT_resumed, RAD_EVENT_order_split,
    RAD_EVENT_ctr_warn, RAD_EVENT_ctr_stop, RAD_EVENT_duty_limit, RAD_SILENT_CNT_count, FLT_STATUS_phase,
    FLT_STATUS_armed, FLT_STATUS_slot, FLT_STATUS_round, FLT_STATUS_image_id, FLT_EVENT_act_sent,
    KEY_STATUS_lc_state, KEY_STATUS_root_ok, KEY_STATUS_tamper_latched, KEY_STATUS_grant, KEY_STATUS_used,
    KEY_EVENT_used_warn, PRF_EVENT_sel_limit, HLT_EVENT_near, HLT_EVENT_reached] [RAD_TX_FRAMES_v, FLT_COUNT_count,
    KEY_SLOT_INFO_state, KEY_SLOT_INFO_key_type, KEY_SLOT_INFO_flags, KEY_SLOT_INFO_used, KEY_SLOT_USES_v,
    KEY_SLOT_ID_LO_v, KEY_SLOT_ID_HI_v] ∧ s.MemOutside u (fun x => s.lanternHalves x)) ∧
  (∀ (s : State) (r k : Nat) (marks : List (Nat × Int)), ∀ u, exec (.slotStart r k marks) s = .next u → s.Keeps u
    [.tb, .irq, .que, .prf, .hlt, .key, .rad, .flt] [RAD_STATUS_cache_used, RAD_EVENT_silent, RAD_EVENT_resumed,
    RAD_EVENT_ctr_warn, RAD_EVENT_ctr_stop, RAD_EVENT_duty_limit, RAD_EVENT_noack, RAD_SILENT_CNT_count,
    FLT_STATUS_phase, FLT_STATUS_armed, FLT_STATUS_slot, FLT_STATUS_round, FLT_STATUS_image_id,
    FLT_EVENT_phase_done, KEY_STATUS_lc_state, KEY_STATUS_root_ok, KEY_STATUS_tamper_latched, KEY_STATUS_grant,
    KEY_STATUS_used, KEY_EVENT_used_warn, PRF_EVENT_sel_limit, HLT_EVENT_near, HLT_EVENT_reached] [RAD_TX_FRAMES_v,
    RAD_NOACK_v, FLT_COUNT_count, QUE_Q_FREE_v, QUE_Q_HWM_v, QUE_Q_STAT_full, QUE_Q_STAT_flushing,
    QUE_Q_STAT_units, QUE_Q_RHEAD_len, QUE_Q_RHEAD_aborted, QUE_Q_RHEAD_valid, KEY_SLOT_INFO_state,
    KEY_SLOT_INFO_key_type, KEY_SLOT_INFO_flags, KEY_SLOT_INFO_used, KEY_SLOT_USES_v, KEY_SLOT_ID_LO_v,
    KEY_SLOT_ID_HI_v] ∧ s.MemOutside u (fun x => s.lanternHalves x)) ∧
  (∀ (s : State) (f : RadioFrame) (t : Nat), ∀ u, exec (.radioFrameRx f t) s = .next u → s.Keeps u [.tb, .irq,
    .que, .prf, .hlt, .rad] [RAD_STATUS_cache_used, RAD_EVENT_silent, RAD_EVENT_resumed, RAD_EVENT_auth_fail,
    RAD_EVENT_replay, RAD_EVENT_unknown_join, RAD_EVENT_duty_limit, RAD_EVENT_sensor_drop, RAD_UNKNOWN_LO_v,
    RAD_UNKNOWN_HI_v, RAD_SILENT_CNT_count, RAD_SENSOR_DROP_v, PRF_EVENT_sel_limit, HLT_EVENT_near,
    HLT_EVENT_reached] [RAD_RX_OK_v, RAD_AUTH_FAIL_v, RAD_REPLAY_v, RAD_RETRY_ACK_v, QUE_Q_FREE_v, QUE_Q_HWM_v,
    QUE_Q_STAT_full, QUE_Q_STAT_flushing, QUE_Q_STAT_units, QUE_Q_RHEAD_len, QUE_Q_RHEAD_aborted,
    QUE_Q_RHEAD_valid] ∧ s.MemOutside u (fun x => s.lanternHalves x)) ∧
  (∀ (s : State) (q : Nat), ∀ u, exec (.queueFlush q) s = .next u → s.Keeps u [.irq, .que, .scr, .prf, .net, .ing,
    .aln] [ING_STATUS_cache_used, ING_EVENT_resumed, ING_EVENT_cfg_change, ING_EVENT_unknown, ING_SILENT_CNT_count,
    ING_UNKNOWN_LAST_idcode, ING_RANGE_CNT_v, QUE_EVENT_flushed, QUE_CMD_STATUS_busy, QUE_CMD_STATUS_done,
    QUE_CMD_STATUS_result, QUE_Q_FREE_v q, QUE_Q_HWM_v q, QUE_Q_STAT_full q, QUE_Q_STAT_flushing q,
    QUE_Q_STAT_units q, QUE_Q_DROP_v q, QUE_Q_RHEAD_len q, QUE_Q_RHEAD_aborted q, QUE_Q_RHEAD_valid q,
    REC_EVENT_lost, REC_LOST_CNT_v, PRF_EVENT_sel_limit] [ING_DROP_CNT_v] ∧ s.MemOutside u (fun x => s.streamHalves
    x)) ∧
  (∀ (s : State) (q : Nat), ∀ u, exec (.flushBoundary q) s = .next u → s.Keeps u [.irq, .que, .scr, .prf, .net,
    .ing, .aln] [ING_STATUS_cache_used, ING_EVENT_resumed, ING_EVENT_cfg_change, ING_EVENT_unknown,
    ING_SILENT_CNT_count, ING_UNKNOWN_LAST_idcode, ING_RANGE_CNT_v, QUE_EVENT_flushed, QUE_CMD_STATUS_busy,
    QUE_CMD_STATUS_done, QUE_CMD_STATUS_result, QUE_Q_FREE_v q, QUE_Q_HWM_v q, QUE_Q_STAT_full q,
    QUE_Q_STAT_flushing q, QUE_Q_STAT_units q, QUE_Q_DROP_v q, QUE_Q_RHEAD_len q, QUE_Q_RHEAD_aborted q,
    QUE_Q_RHEAD_valid q, REC_EVENT_lost, REC_LOST_CNT_v, PRF_EVENT_sel_limit] [ING_DROP_CNT_v] ∧ s.MemOutside u
    (fun x => s.streamHalves x)) ∧
  (∀ (s : State) (q t : Nat), ∀ u, exec (.flushTimeout q t) s = .next u → s.Keeps u [.tb, .irq, .que, .scr, .prf,
    .net, .ing, .aln] [ING_STATUS_cache_used, ING_EVENT_resumed, ING_EVENT_cfg_change, ING_EVENT_unknown,
    ING_SILENT_CNT_count, ING_UNKNOWN_LAST_idcode, ING_RANGE_CNT_v, QUE_EVENT_ptr_reset, QUE_EVENT_flushed,
    QUE_CMD_STATUS_busy, QUE_CMD_STATUS_done, QUE_CMD_STATUS_result, QUE_RESET_CNT_v, QUE_Q_FREE_v q, QUE_Q_HWM_v
    q, QUE_Q_STAT_full q, QUE_Q_STAT_ptr_reset q, QUE_Q_STAT_flushing q, QUE_Q_STAT_units q, QUE_Q_DROP_v q,
    QUE_Q_RHEAD_len q, QUE_Q_RHEAD_aborted q, QUE_Q_RHEAD_valid q, REC_EVENT_lost, REC_LOST_CNT_v,
    PRF_EVENT_sel_limit] [ING_DROP_CNT_v] ∧ s.MemOutside u (fun x => s.streamHalves x)) ∧
  (∀ (s : State) (q : Nat), ∀ u, exec (.queueReset q) s = .next u → s.Keeps u [.irq, .que, .scr, .prf, .net, .ing,
    .aln] [ING_STATUS_cache_used, ING_EVENT_resumed, ING_EVENT_cfg_change, ING_EVENT_unknown, ING_SILENT_CNT_count,
    ING_UNKNOWN_LAST_idcode, ING_RANGE_CNT_v, QUE_EVENT_ptr_reset, QUE_EVENT_flushed, QUE_CMD_STATUS_busy,
    QUE_CMD_STATUS_done, QUE_CMD_STATUS_result, QUE_RESET_CNT_v, QUE_Q_FREE_v q, QUE_Q_HWM_v q, QUE_Q_STAT_full q,
    QUE_Q_STAT_ptr_reset q, QUE_Q_STAT_flushing q, QUE_Q_STAT_units q, QUE_Q_DROP_v q, QUE_Q_RHEAD_len q,
    QUE_Q_RHEAD_aborted q, QUE_Q_RHEAD_valid q, REC_EVENT_lost, REC_LOST_CNT_v, PRF_EVENT_sel_limit]
    [ING_DROP_CNT_v] ∧ s.MemOutside u (fun x => s.streamHalves x)) ∧
  (∀ (s : State) (q : Nat), ∀ u, exec (.ptrMismatch q) s = .next u → s.Keeps u [.irq, .que, .scr, .prf, .net, .ing,
    .aln] [ING_STATUS_cache_used, ING_EVENT_resumed, ING_EVENT_cfg_change, ING_EVENT_unknown, ING_SILENT_CNT_count,
    ING_UNKNOWN_LAST_idcode, ING_RANGE_CNT_v, QUE_EVENT_ptr_reset, QUE_EVENT_flushed, QUE_CMD_STATUS_busy,
    QUE_CMD_STATUS_done, QUE_CMD_STATUS_result, QUE_RESET_CNT_v, QUE_Q_FREE_v q, QUE_Q_HWM_v q, QUE_Q_STAT_full q,
    QUE_Q_STAT_ptr_reset q, QUE_Q_STAT_flushing q, QUE_Q_STAT_units q, QUE_Q_DROP_v q, QUE_Q_RHEAD_len q,
    QUE_Q_RHEAD_aborted q, QUE_Q_RHEAD_valid q, REC_EVENT_lost, REC_LOST_CNT_v, PRF_EVENT_sel_limit]
    [ING_DROP_CNT_v] ∧ s.MemOutside u (fun x => s.streamHalves x)) ∧
  (∀ (s : State) (q : Nat) (v : W32), ∀ u, exec (.queueWdata q v) s = .next u → s.Keeps u [.irq, .que, .scr, .prf,
    .net, .ing, .aln, .resp] [ING_STATUS_cache_used, ING_EVENT_resumed, ING_EVENT_cfg_change, ING_EVENT_unknown,
    ING_SILENT_CNT_count, ING_UNKNOWN_LAST_idcode, ING_RANGE_CNT_v, QUE_EVENT_flushed, QUE_EVENT_too_long,
    QUE_CMD_STATUS_busy, QUE_CMD_STATUS_done, QUE_CMD_STATUS_result, QUE_Q_FREE_v q, QUE_Q_HWM_v q, QUE_Q_STAT_full
    q, QUE_Q_STAT_flushing q, QUE_Q_STAT_too_long q, QUE_Q_STAT_units q, QUE_Q_DROP_v q, QUE_Q_RHEAD_len q,
    QUE_Q_RHEAD_aborted q, QUE_Q_RHEAD_valid q, REC_EVENT_lost, REC_LOST_CNT_v, PRF_EVENT_sel_limit]
    [ING_DROP_CNT_v] ∧ s.MemOutside u (fun x => s.streamHalves x)) ∧
  (∀ (s : State) (q : Nat) (v : W32), ∀ u, exec (.queueWend q v) s = .next u → s.Keeps u [.irq, .que, .scr, .prf,
    .net, .ing, .aln, .resp] [ING_STATUS_cache_used, ING_EVENT_resumed, ING_EVENT_cfg_change, ING_EVENT_unknown,
    ING_SILENT_CNT_count, ING_UNKNOWN_LAST_idcode, ING_RANGE_CNT_v, QUE_EVENT_flushed, QUE_EVENT_too_long,
    QUE_CMD_STATUS_busy, QUE_CMD_STATUS_done, QUE_CMD_STATUS_result, QUE_Q_FREE_v q, QUE_Q_HWM_v q, QUE_Q_STAT_full
    q, QUE_Q_STAT_flushing q, QUE_Q_STAT_too_long q, QUE_Q_STAT_units q, QUE_Q_DROP_v q, QUE_Q_RHEAD_len q,
    QUE_Q_RHEAD_aborted q, QUE_Q_RHEAD_valid q, REC_EVENT_lost, REC_LOST_CNT_v, PRF_EVENT_sel_limit]
    [ING_DROP_CNT_v] ∧ s.MemOutside u (fun x => s.streamHalves x)) ∧
  (∀ (s : State) (q : Nat), ∀ u, exec (.queueRdata q) s = .next u → s.Keeps u [.irq, .que, .scr, .prf, .net, .ing,
    .aln, .resp] [ING_STATUS_cache_used, ING_EVENT_resumed, ING_EVENT_cfg_change, ING_EVENT_unknown,
    ING_SILENT_CNT_count, ING_UNKNOWN_LAST_idcode, ING_RANGE_CNT_v, QUE_EVENT_underrun, QUE_Q_FREE_v q, QUE_Q_HWM_v
    q, QUE_Q_STAT_underrun q, QUE_Q_STAT_full q, QUE_Q_STAT_flushing q, QUE_Q_STAT_units q, QUE_Q_RHEAD_len q,
    QUE_Q_RHEAD_aborted q, QUE_Q_RHEAD_valid q, REC_EVENT_lost, REC_LOST_CNT_v, PRF_EVENT_sel_limit]
    [ING_DROP_CNT_v] ∧ s.MemOutside u (fun x => s.streamHalves x)) ∧
  (∀ (s : State) (q : Nat), ∀ u, exec (.queueSpace q) s = .next u → s.Keeps u [.irq, .que, .scr, .prf, .net, .ing,
    .aln, .resp] [ING_STATUS_cache_used, ING_EVENT_resumed, ING_EVENT_cfg_change, ING_EVENT_unknown,
    ING_SILENT_CNT_count, ING_UNKNOWN_LAST_idcode, ING_RANGE_CNT_v, QUE_EVENT_flushed, QUE_EVENT_too_long,
    QUE_CMD_STATUS_busy, QUE_CMD_STATUS_done, QUE_CMD_STATUS_result, QUE_Q_FREE_v q, QUE_Q_HWM_v q, QUE_Q_STAT_full
    q, QUE_Q_STAT_flushing q, QUE_Q_STAT_too_long q, QUE_Q_STAT_units q, QUE_Q_DROP_v q, QUE_Q_RHEAD_len q,
    QUE_Q_RHEAD_aborted q, QUE_Q_RHEAD_valid q, REC_EVENT_lost, REC_LOST_CNT_v, PRF_EVENT_sel_limit]
    [ING_DROP_CNT_v] ∧ s.MemOutside u (fun x => s.streamHalves x)) ∧
  (∀ (s : State) (m : BrdMsg), ∀ u, exec (.helloRx m) s = .next u → s.Keeps u [.tb, .irq, .que, .scr, .prf, .net,
    .aln, .gan, .cry, .lmp, .rad, .ptn] [ALN_EVENT_out_oversize, GAN_EVENT_hit_wait, CRY_STATUS_armed,
    CRY_STATUS_live, CRY_EVENT_auth_fail, CRY_EVENT_replay, CRY_BRD_DROP_CNT_v, LMP_STATUS_gr_seq,
    RAD_STATUS_cache_used, REC_EVENT_lost, REC_LOST_CNT_v, PRF_EVENT_sel_limit, PTN_STATUS_state,
    PTN_STATUS_link_up, PTN_STATUS_net_heard, PTN_STATUS_mirror_stale, PTN_STATUS_synced, PTN_STATUS_term,
    PTN_EVENT_takeover, PTN_EVENT_split, PTN_EVENT_demoted, PTN_EVENT_pattern_mismatch, PTN_EVENT_drill_done,
    PTN_CMD_STATUS_busy, PTN_CMD_STATUS_done, PTN_CMD_STATUS_result, PTN_TAKE_NS_v, PTN_TAKE_SEC_LO_v,
    PTN_TAKE_SEC_HI_v] [ALN_GRP_STATUS_members, ALN_GRP_STATUS_running, ALN_GRP_STATUS_adaptive,
    ALN_GRP_STATUS_window_cur_ms, ALN_GRP_WIDX_slot, ALN_GRP_SEQ_v, ALN_GRP_INCOMPLETE_v, ALN_OUT_FRAMES_v,
    ALN_OUT_OVERSIZE_v, QUE_Q_FREE_v, QUE_Q_HWM_v, QUE_Q_STAT_full, QUE_Q_STAT_flushing, QUE_Q_STAT_units,
    QUE_Q_RHEAD_len, QUE_Q_RHEAD_aborted, QUE_Q_RHEAD_valid] ∧ s.MemOutside u (fun x => s.lanternHalves x ∨
    s.alignRings x)) ∧
  (∀ (s : State) (t : Nat), ∀ u, exec (.partnerLost t) s = .next u → s.Keeps u [.tb, .irq, .que, .scr, .prf, .net,
    .aln, .gan, .cry, .lmp, .rad, .ptn] [ALN_EVENT_out_oversize, GAN_EVENT_hit_wait, CRY_STATUS_armed,
    CRY_STATUS_live, LMP_STATUS_gr_seq, RAD_STATUS_cache_used, REC_EVENT_lost, REC_LOST_CNT_v, PRF_EVENT_sel_limit,
    PTN_STATUS_state, PTN_STATUS_link_up, PTN_STATUS_net_heard, PTN_STATUS_mirror_stale, PTN_STATUS_term,
    PTN_EVENT_takeover, PTN_EVENT_link_down, PTN_EVENT_net_lost, PTN_CMD_STATUS_busy, PTN_CMD_STATUS_done,
    PTN_CMD_STATUS_result, PTN_TAKE_NS_v, PTN_TAKE_SEC_LO_v, PTN_TAKE_SEC_HI_v] [ALN_GRP_STATUS_members,
    ALN_GRP_STATUS_running, ALN_GRP_STATUS_adaptive, ALN_GRP_STATUS_window_cur_ms, ALN_GRP_WIDX_slot,
    ALN_GRP_SEQ_v, ALN_GRP_INCOMPLETE_v, ALN_OUT_FRAMES_v, ALN_OUT_OVERSIZE_v, QUE_Q_FREE_v, QUE_Q_HWM_v,
    QUE_Q_STAT_full, QUE_Q_STAT_flushing, QUE_Q_STAT_units, QUE_Q_RHEAD_len, QUE_Q_RHEAD_aborted,
    QUE_Q_RHEAD_valid] ∧ s.MemOutside u (fun x => s.lanternHalves x ∨ s.alignRings x)) ∧
  (∀ (s : State) (t : Nat), ∀ u, exec (.seekTimeout t) s = .next u → s.Keeps u [.tb, .irq, .que, .prf, .net, .aln,
    .ptn] [ALN_EVENT_out_oversize, PRF_EVENT_sel_limit, PTN_STATUS_state, PTN_STATUS_term, PTN_TAKE_NS_v,
    PTN_TAKE_SEC_LO_v, PTN_TAKE_SEC_HI_v] [ALN_GRP_STATUS_members, ALN_GRP_STATUS_running, ALN_GRP_STATUS_adaptive,
    ALN_GRP_STATUS_window_cur_ms, ALN_GRP_WIDX_slot, ALN_GRP_SEQ_v, ALN_GRP_INCOMPLETE_v, ALN_OUT_FRAMES_v,
    ALN_OUT_OVERSIZE_v, QUE_Q_FREE_v, QUE_Q_HWM_v, QUE_Q_STAT_full, QUE_Q_STAT_flushing, QUE_Q_STAT_units,
    QUE_Q_RHEAD_len, QUE_Q_RHEAD_aborted, QUE_Q_RHEAD_valid] ∧ s.MemOutside u (fun x => s.alignRings x)) ∧
  (∀ (s : State) (m : BrdMsg), ∀ u, exec (.syncDoneRx m) s = .next u → s.Keeps u [.tb, .irq, .que, .prf, .net,
    .aln, .cry, .ptn] [ALN_EVENT_out_oversize, CRY_EVENT_auth_fail, CRY_EVENT_replay, CRY_BRD_DROP_CNT_v,
    PRF_EVENT_sel_limit, PTN_STATUS_state, PTN_STATUS_mirror_stale, PTN_STATUS_synced, PTN_EVENT_sync_done,
    PTN_CMD_STATUS_busy, PTN_CMD_STATUS_done, PTN_CMD_STATUS_result] [ALN_GRP_STATUS_members,
    ALN_GRP_STATUS_running, ALN_GRP_STATUS_adaptive, ALN_GRP_STATUS_window_cur_ms, ALN_GRP_WIDX_slot,
    ALN_GRP_SEQ_v, ALN_GRP_INCOMPLETE_v, ALN_OUT_FRAMES_v, ALN_OUT_OVERSIZE_v, QUE_Q_FREE_v, QUE_Q_HWM_v,
    QUE_Q_STAT_full, QUE_Q_STAT_flushing, QUE_Q_STAT_units, QUE_Q_RHEAD_len, QUE_Q_RHEAD_aborted,
    QUE_Q_RHEAD_valid] ∧ s.MemOutside u (fun x => s.alignRings x)) ∧
  (∀ (s : State) (m : BrdMsg), ∀ u, exec (.stopRx m) s = .next u → s.Keeps u [.tb, .irq, .que, .scr, .prf, .net,
    .aln, .gan, .cry, .lmp, .rad, .ptn] [ALN_EVENT_out_oversize, GAN_EVENT_hit_wait, CRY_STATUS_armed,
    CRY_STATUS_live, CRY_EVENT_auth_fail, CRY_EVENT_replay, CRY_BRD_DROP_CNT_v, LMP_STATUS_gr_seq,
    RAD_STATUS_cache_used, REC_EVENT_lost, REC_LOST_CNT_v, PRF_EVENT_sel_limit, PTN_STATUS_state, PTN_STATUS_term,
    PTN_EVENT_takeover, PTN_CMD_STATUS_busy, PTN_CMD_STATUS_done, PTN_CMD_STATUS_result, PTN_TAKE_NS_v,
    PTN_TAKE_SEC_LO_v, PTN_TAKE_SEC_HI_v] [ALN_GRP_STATUS_members, ALN_GRP_STATUS_running, ALN_GRP_STATUS_adaptive,
    ALN_GRP_STATUS_window_cur_ms, ALN_GRP_WIDX_slot, ALN_GRP_SEQ_v, ALN_GRP_INCOMPLETE_v, ALN_OUT_FRAMES_v,
    ALN_OUT_OVERSIZE_v, QUE_Q_FREE_v, QUE_Q_HWM_v, QUE_Q_STAT_full, QUE_Q_STAT_flushing, QUE_Q_STAT_units,
    QUE_Q_RHEAD_len, QUE_Q_RHEAD_aborted, QUE_Q_RHEAD_valid] ∧ s.MemOutside u (fun x => s.lanternHalves x ∨
    s.alignRings x)) ∧
  (∀ (s : State) (t : Nat), ∀ u, exec (.swapInstant t) s = .next u → s.Keeps u [.tb, .irq, .que, .scr, .prf, .net,
    .aln, .gan, .cry, .lmp, .rad, .ptn] [ALN_EVENT_out_oversize, GAN_EVENT_hit_wait, CRY_STATUS_armed,
    CRY_STATUS_live, LMP_STATUS_gr_seq, RAD_STATUS_cache_used, REC_EVENT_lost, REC_LOST_CNT_v, PRF_EVENT_sel_limit,
    PTN_STATUS_state, PTN_STATUS_term, PTN_EVENT_takeover, PTN_TAKE_NS_v, PTN_TAKE_SEC_LO_v, PTN_TAKE_SEC_HI_v]
    [ALN_GRP_STATUS_members, ALN_GRP_STATUS_running, ALN_GRP_STATUS_adaptive, ALN_GRP_STATUS_window_cur_ms,
    ALN_GRP_WIDX_slot, ALN_GRP_SEQ_v, ALN_GRP_INCOMPLETE_v, ALN_OUT_FRAMES_v, ALN_OUT_OVERSIZE_v, QUE_Q_FREE_v,
    QUE_Q_HWM_v, QUE_Q_STAT_full, QUE_Q_STAT_flushing, QUE_Q_STAT_units, QUE_Q_RHEAD_len, QUE_Q_RHEAD_aborted,
    QUE_Q_RHEAD_valid] ∧ s.MemOutside u (fun x => s.lanternHalves x ∨ s.alignRings x)) ∧
  (∀ (s : State) (t : Nat), ∀ u, exec (.swapHandover t) s = .next u → s.Keeps u [.tb, .irq, .que, .prf, .net, .aln,
    .ptn] [ALN_EVENT_out_oversize, PRF_EVENT_sel_limit, PTN_STATUS_state] [ALN_GRP_STATUS_members,
    ALN_GRP_STATUS_running, ALN_GRP_STATUS_adaptive, ALN_GRP_STATUS_window_cur_ms, ALN_GRP_WIDX_slot,
    ALN_GRP_SEQ_v, ALN_GRP_INCOMPLETE_v, ALN_OUT_FRAMES_v, ALN_OUT_OVERSIZE_v, QUE_Q_FREE_v, QUE_Q_HWM_v,
    QUE_Q_STAT_full, QUE_Q_STAT_flushing, QUE_Q_STAT_units, QUE_Q_RHEAD_len, QUE_Q_RHEAD_aborted,
    QUE_Q_RHEAD_valid] ∧ s.MemOutside u (fun x => s.alignRings x)) ∧
  (∀ (s : State) (t : Nat), ∀ u, exec (.drillCheck t) s = .next u → s.Keeps u [.tb, .irq, .que, .scr, .prf, .net,
    .aln, .gan, .cry, .lmp, .rad, .ptn] [ALN_EVENT_out_oversize, GAN_EVENT_hit_wait, CRY_STATUS_armed,
    CRY_STATUS_live, LMP_STATUS_gr_seq, RAD_STATUS_cache_used, REC_EVENT_lost, REC_LOST_CNT_v, PRF_EVENT_sel_limit,
    PTN_STATUS_state, PTN_STATUS_term, PTN_EVENT_takeover, PTN_EVENT_drill_fail, PTN_CMD_STATUS_busy,
    PTN_CMD_STATUS_done, PTN_CMD_STATUS_result, PTN_TAKE_NS_v, PTN_TAKE_SEC_LO_v, PTN_TAKE_SEC_HI_v]
    [ALN_GRP_STATUS_members, ALN_GRP_STATUS_running, ALN_GRP_STATUS_adaptive, ALN_GRP_STATUS_window_cur_ms,
    ALN_GRP_WIDX_slot, ALN_GRP_SEQ_v, ALN_GRP_INCOMPLETE_v, ALN_OUT_FRAMES_v, ALN_OUT_OVERSIZE_v, QUE_Q_FREE_v,
    QUE_Q_HWM_v, QUE_Q_STAT_full, QUE_Q_STAT_flushing, QUE_Q_STAT_units, QUE_Q_RHEAD_len, QUE_Q_RHEAD_aborted,
    QUE_Q_RHEAD_valid] ∧ s.MemOutside u (fun x => s.lanternHalves x ∨ s.alignRings x)) ∧
  (∀ (s : State) (t : Nat), ∀ u, exec (.drillDue t) s = .next u → s.Keeps u [.tb, .irq, .que, .prf, .net, .aln,
    .cry, .ptn] [ALN_EVENT_out_oversize, PRF_EVENT_sel_limit, PTN_STATUS_state, PTN_EVENT_drill_skipped,
    PTN_CMD_STATUS_busy, PTN_CMD_STATUS_done, PTN_CMD_STATUS_result] [ALN_GRP_STATUS_members,
    ALN_GRP_STATUS_running, ALN_GRP_STATUS_adaptive, ALN_GRP_STATUS_window_cur_ms, ALN_GRP_WIDX_slot,
    ALN_GRP_SEQ_v, ALN_GRP_INCOMPLETE_v, ALN_OUT_FRAMES_v, ALN_OUT_OVERSIZE_v, QUE_Q_FREE_v, QUE_Q_HWM_v,
    QUE_Q_STAT_full, QUE_Q_STAT_flushing, QUE_Q_STAT_units, QUE_Q_RHEAD_len, QUE_Q_RHEAD_aborted,
    QUE_Q_RHEAD_valid] ∧ s.MemOutside u (fun x => s.alignRings x)) ∧
  (∀ (s : State), ∀ u, exec .ptnSwap s = .next u → s.Keeps u [.irq, .que, .prf, .net, .aln, .cry, .ptn]
    [ALN_EVENT_out_oversize, PRF_EVENT_sel_limit, PTN_STATUS_state, PTN_EVENT_drill_skipped, PTN_CMD_STATUS_busy,
    PTN_CMD_STATUS_done, PTN_CMD_STATUS_result] [ALN_GRP_STATUS_members, ALN_GRP_STATUS_running,
    ALN_GRP_STATUS_adaptive, ALN_GRP_STATUS_window_cur_ms, ALN_GRP_WIDX_slot, ALN_GRP_SEQ_v, ALN_GRP_INCOMPLETE_v,
    ALN_OUT_FRAMES_v, ALN_OUT_OVERSIZE_v, QUE_Q_FREE_v, QUE_Q_HWM_v, QUE_Q_STAT_full, QUE_Q_STAT_flushing,
    QUE_Q_STAT_units, QUE_Q_RHEAD_len, QUE_Q_RHEAD_aborted, QUE_Q_RHEAD_valid] ∧ s.MemOutside u (fun x =>
    s.alignRings x)) ∧
  (∀ (s : State), ∀ u, exec .ptnResync s = .next u → s.Keeps u [.irq, .que, .prf, .net, .aln, .cry, .ptn]
    [ALN_EVENT_out_oversize, PRF_EVENT_sel_limit, PTN_STATUS_state, PTN_STATUS_synced, PTN_CMD_STATUS_busy,
    PTN_CMD_STATUS_done, PTN_CMD_STATUS_result] [ALN_GRP_STATUS_members, ALN_GRP_STATUS_running,
    ALN_GRP_STATUS_adaptive, ALN_GRP_STATUS_window_cur_ms, ALN_GRP_WIDX_slot, ALN_GRP_SEQ_v, ALN_GRP_INCOMPLETE_v,
    ALN_OUT_FRAMES_v, ALN_OUT_OVERSIZE_v, QUE_Q_FREE_v, QUE_Q_HWM_v, QUE_Q_STAT_full, QUE_Q_STAT_flushing,
    QUE_Q_STAT_units, QUE_Q_RHEAD_len, QUE_Q_RHEAD_aborted, QUE_Q_RHEAD_valid] ∧ s.MemOutside u (fun x =>
    s.alignRings x)) ∧
  (∀ (s : State), ∀ u, exec .take s = .next u → s.Keeps u [.irq, .que, .scr, .prf, .net, .aln, .gan, .cry, .lmp,
    .rad, .ptn] [ALN_EVENT_out_oversize, GAN_EVENT_hit_wait, CRY_STATUS_armed, CRY_STATUS_live, LMP_STATUS_gr_seq,
    RAD_STATUS_cache_used, REC_EVENT_lost, REC_LOST_CNT_v, PRF_EVENT_sel_limit, PTN_STATUS_state, PTN_STATUS_term,
    PTN_EVENT_takeover, PTN_CMD_STATUS_busy, PTN_CMD_STATUS_done, PTN_CMD_STATUS_result, PTN_TAKE_NS_v,
    PTN_TAKE_SEC_LO_v, PTN_TAKE_SEC_HI_v] [ALN_GRP_STATUS_members, ALN_GRP_STATUS_running, ALN_GRP_STATUS_adaptive,
    ALN_GRP_STATUS_window_cur_ms, ALN_GRP_WIDX_slot, ALN_GRP_SEQ_v, ALN_GRP_INCOMPLETE_v, ALN_OUT_FRAMES_v,
    ALN_OUT_OVERSIZE_v, QUE_Q_FREE_v, QUE_Q_HWM_v, QUE_Q_STAT_full, QUE_Q_STAT_flushing, QUE_Q_STAT_units,
    QUE_Q_RHEAD_len, QUE_Q_RHEAD_aborted, QUE_Q_RHEAD_valid] ∧ s.MemOutside u (fun x => s.lanternHalves x ∨
    s.alignRings x)) ∧
  (∀ (s : State) (v : W32), ∀ u, exec (.ptnEnableWrite v) s = .next u → s.Keeps u [.irq, .que, .prf, .net, .aln,
    .sys, .ptn] [ALN_EVENT_out_oversize, SYS_STATUS_settings_dirty, PRF_EVENT_sel_limit, PTN_CTRL_enable,
    PTN_STATUS_state, PTN_CTRL_enable.whole] [ALN_GRP_STATUS_members, ALN_GRP_STATUS_running,
    ALN_GRP_STATUS_adaptive, ALN_GRP_STATUS_window_cur_ms, ALN_GRP_WIDX_slot, ALN_GRP_SEQ_v, ALN_GRP_INCOMPLETE_v,
    ALN_OUT_FRAMES_v, ALN_OUT_OVERSIZE_v, QUE_Q_FREE_v, QUE_Q_HWM_v, QUE_Q_STAT_full, QUE_Q_STAT_flushing,
    QUE_Q_STAT_units, QUE_Q_RHEAD_len, QUE_Q_RHEAD_aborted, QUE_Q_RHEAD_valid] ∧ s.MemOutside u (fun x =>
    s.alignRings x)) ∧
  (∀ (s : State) (link : Bool) (t : Nat), ∀ u, exec (.pairPathLost link t) s = .next u → s.Keeps u [.tb, .irq,
    .que, .scr, .prf, .net, .aln, .gan, .cry, .lmp, .rad, .ptn] [ALN_EVENT_out_oversize, GAN_EVENT_hit_wait,
    CRY_STATUS_armed, CRY_STATUS_live, LMP_STATUS_gr_seq, RAD_STATUS_cache_used, REC_EVENT_lost, REC_LOST_CNT_v,
    PRF_EVENT_sel_limit, PTN_STATUS_state, PTN_STATUS_link_up, PTN_STATUS_net_heard, PTN_STATUS_mirror_stale,
    PTN_STATUS_term, PTN_EVENT_takeover, PTN_EVENT_link_down, PTN_EVENT_net_lost, PTN_CMD_STATUS_busy,
    PTN_CMD_STATUS_done, PTN_CMD_STATUS_result, PTN_TAKE_NS_v, PTN_TAKE_SEC_LO_v, PTN_TAKE_SEC_HI_v]
    [ALN_GRP_STATUS_members, ALN_GRP_STATUS_running, ALN_GRP_STATUS_adaptive, ALN_GRP_STATUS_window_cur_ms,
    ALN_GRP_WIDX_slot, ALN_GRP_SEQ_v, ALN_GRP_INCOMPLETE_v, ALN_OUT_FRAMES_v, ALN_OUT_OVERSIZE_v, QUE_Q_FREE_v,
    QUE_Q_HWM_v, QUE_Q_STAT_full, QUE_Q_STAT_flushing, QUE_Q_STAT_units, QUE_Q_RHEAD_len, QUE_Q_RHEAD_aborted,
    QUE_Q_RHEAD_valid] ∧ s.MemOutside u (fun x => s.lanternHalves x ∨ s.alignRings x))

/-- Each of these commands leaves the queue and every part of the devices it is not said to change as it was. An
  array index that comes from the state is not bounded. -/
def Obligations.FramesOfPatternCommands : Prop :=
  (∀ (s : State) (addr : Nat), ∀ u, exec (.rcCounterRead addr) s = .next u → s.Keeps u [.tb, .irq, .que, .scr,
    .prf, .net, .ing, .aln, .rad, .led, .mtr, .rtc, .sys, .resp] [] [fun k => ⟨k, 0, 32⟩]) ∧
  (∀ (s : State) (t : Nat), ∀ u, exec (.vbakRise t) s = .next u → s.Keeps u [.tb, .irq, .prf, .key, .rtc, .sys] []
    [fun k => ⟨k, 0, 32⟩] ∧ u.mem = s.mem) ∧
  (∀ (s : State) (t : Nat), ∀ u, exec (.patternReloadDone t) s = .next u → s.Keeps u [.op, .tb, .irq, .que, .scr,
    .prf, .pat, .net, .ing, .aln, .gan, .cry, .smp, .lmp, .rad, .flt, .led, .mtr, .rtc, .ptn, .free] [] [fun k =>
    ⟨k, 0, 32⟩]) ∧
  (∀ (s : State) (t : Nat), ∀ u, exec (.revert t) s = .next u → s.Keeps u [.tb, .irq, .que, .scr, .prf, .pat, .net,
    .ing, .aln, .gan, .smp, .lmp, .rad, .flt, .led, .rtc, .sys, .free] [] [fun k => ⟨k, 0, 32⟩]) ∧
  (∀ (s : State) (t : Nat), ∀ u, exec (.patternBarrier t) s = .next u → s.Keeps u [.tb, .irq, .que, .scr, .prf,
    .pat, .net, .ing, .aln, .gan, .smp, .lmp, .rad, .flt, .led, .rtc, .free] [] [fun k => ⟨k, 0, 32⟩]) ∧
  (∀ (s : State) (t : Nat), ∀ u, exec (.trialTimeout t) s = .next u → s.Keeps u [.tb, .irq, .que, .scr, .prf, .pat,
    .net, .ing, .aln, .gan, .smp, .lmp, .rad, .flt, .led, .rtc, .sys, .free] [] [fun k => ⟨k, 0, 32⟩]) ∧
  (∀ (s : State) (v : W32) (t : Nat), ∀ u, exec (.patTrialTimeoutWrite v t) s = .next u → s.Keeps u [.tb, .irq,
    .que, .scr, .prf, .pat, .net, .ing, .aln, .gan, .smp, .lmp, .rad, .flt, .led, .rtc, .sys, .free] [] [fun k =>
    ⟨k, 0, 32⟩]) ∧
  (∀ (s : State) (t : Nat), ∀ u, exec (.deferredBarrier t) s = .next u → s.Keeps u [.tb, .irq, .que, .scr, .prf,
    .pat, .net, .ing, .aln, .gan, .smp, .lmp, .rad, .flt, .led, .rtc, .free] [] [fun k => ⟨k, 0, 32⟩]) ∧
  (∀ (s : State) (m : BrdMsg), ∀ u, exec (.mirrorRx m) s = .next u → s.Keeps u [.tb, .irq, .que, .scr, .prf, .hlt,
    .net, .ing, .aln, .cry, .lmp, .rad, .sys, .ptn] [] [fun k => ⟨k, 0, 32⟩])

end
end

