-- ==== Sys2Proof/Laws/State.lean ====
section
/-! SUPPORT. What each update of the working state leaves in each field, so that no proof unfolds a record update. -/

namespace Sys2Proof.Machine.W

/-! ## set -/

@[simp] theorem set_op (w : W) (f : Fld) (n : Nat) : (w.set f n).op = w.op := rfl
@[simp] theorem set_regs (w : W) (f : Fld) (n : Nat) : (w.set f n).regs = w.regs.put f n := rfl
@[simp] theorem set_tb (w : W) (f : Fld) (n : Nat) : (w.set f n).tb = w.tb := rfl
@[simp] theorem set_irq (w : W) (f : Fld) (n : Nat) : (w.set f n).irq = w.irq := rfl
@[simp] theorem set_que (w : W) (f : Fld) (n : Nat) : (w.set f n).que = w.que := rfl
@[simp] theorem set_scr (w : W) (f : Fld) (n : Nat) : (w.set f n).scr = w.scr := rfl
@[simp] theorem set_prf (w : W) (f : Fld) (n : Nat) : (w.set f n).prf = w.prf := rfl
@[simp] theorem set_hlt (w : W) (f : Fld) (n : Nat) : (w.set f n).hlt = w.hlt := rfl
@[simp] theorem set_pat (w : W) (f : Fld) (n : Nat) : (w.set f n).pat = w.pat := rfl
@[simp] theorem set_net (w : W) (f : Fld) (n : Nat) : (w.set f n).net = w.net := rfl
@[simp] theorem set_ing (w : W) (f : Fld) (n : Nat) : (w.set f n).ing = w.ing := rfl
@[simp] theorem set_aln (w : W) (f : Fld) (n : Nat) : (w.set f n).aln = w.aln := rfl
@[simp] theorem set_gan (w : W) (f : Fld) (n : Nat) : (w.set f n).gan = w.gan := rfl
@[simp] theorem set_key (w : W) (f : Fld) (n : Nat) : (w.set f n).key = w.key := rfl
@[simp] theorem set_cry (w : W) (f : Fld) (n : Nat) : (w.set f n).cry = w.cry := rfl
@[simp] theorem set_smp (w : W) (f : Fld) (n : Nat) : (w.set f n).smp = w.smp := rfl
@[simp] theorem set_lmp (w : W) (f : Fld) (n : Nat) : (w.set f n).lmp = w.lmp := rfl
@[simp] theorem set_rad (w : W) (f : Fld) (n : Nat) : (w.set f n).rad = w.rad := rfl
@[simp] theorem set_flt (w : W) (f : Fld) (n : Nat) : (w.set f n).flt = w.flt := rfl
@[simp] theorem set_led (w : W) (f : Fld) (n : Nat) : (w.set f n).led = w.led := rfl
@[simp] theorem set_mtr (w : W) (f : Fld) (n : Nat) : (w.set f n).mtr = w.mtr := rfl
@[simp] theorem set_rtc (w : W) (f : Fld) (n : Nat) : (w.set f n).rtc = w.rtc := rfl
@[simp] theorem set_sys (w : W) (f : Fld) (n : Nat) : (w.set f n).sys = w.sys := rfl
@[simp] theorem set_lnv (w : W) (f : Fld) (n : Nat) : (w.set f n).lnv = w.lnv := rfl
@[simp] theorem set_fls (w : W) (f : Fld) (n : Nat) : (w.set f n).fls = w.fls := rfl
@[simp] theorem set_ptn (w : W) (f : Fld) (n : Nat) : (w.set f n).ptn = w.ptn := rfl
@[simp] theorem set_resp (w : W) (f : Fld) (n : Nat) : (w.set f n).resp = w.resp := rfl
@[simp] theorem set_free (w : W) (f : Fld) (n : Nat) : (w.set f n).free = w.free := rfl
@[simp] theorem set_mem (w : W) (f : Fld) (n : Nat) : (w.set f n).mem = w.mem := rfl
@[simp] theorem set_out (w : W) (f : Fld) (n : Nat) : (w.set f n).out = w.out := rfl
@[simp] theorem set_zeroed (w : W) (f : Fld) (n : Nat) : (w.set f n).zeroed = w.zeroed := rfl

/-! ## setB -/

@[simp] theorem setB_op (w : W) (f : Fld) (b : Bool) : (w.setB f b).op = w.op := rfl
@[simp] theorem setB_regs (w : W) (f : Fld) (b : Bool) : (w.setB f b).regs = w.regs.put f (if b then 1 else 0) := rfl
@[simp] theorem setB_tb (w : W) (f : Fld) (b : Bool) : (w.setB f b).tb = w.tb := rfl
@[simp] theorem setB_irq (w : W) (f : Fld) (b : Bool) : (w.setB f b).irq = w.irq := rfl
@[simp] theorem setB_que (w : W) (f : Fld) (b : Bool) : (w.setB f b).que = w.que := rfl
@[simp] theorem setB_scr (w : W) (f : Fld) (b : Bool) : (w.setB f b).scr = w.scr := rfl
@[simp] theorem setB_prf (w : W) (f : Fld) (b : Bool) : (w.setB f b).prf = w.prf := rfl
@[simp] theorem setB_hlt (w : W) (f : Fld) (b : Bool) : (w.setB f b).hlt = w.hlt := rfl
@[simp] theorem setB_pat (w : W) (f : Fld) (b : Bool) : (w.setB f b).pat = w.pat := rfl
@[simp] theorem setB_net (w : W) (f : Fld) (b : Bool) : (w.setB f b).net = w.net := rfl
@[simp] theorem setB_ing (w : W) (f : Fld) (b : Bool) : (w.setB f b).ing = w.ing := rfl
@[simp] theorem setB_aln (w : W) (f : Fld) (b : Bool) : (w.setB f b).aln = w.aln := rfl
@[simp] theorem setB_gan (w : W) (f : Fld) (b : Bool) : (w.setB f b).gan = w.gan := rfl
@[simp] theorem setB_key (w : W) (f : Fld) (b : Bool) : (w.setB f b).key = w.key := rfl
@[simp] theorem setB_cry (w : W) (f : Fld) (b : Bool) : (w.setB f b).cry = w.cry := rfl
@[simp] theorem setB_smp (w : W) (f : Fld) (b : Bool) : (w.setB f b).smp = w.smp := rfl
@[simp] theorem setB_lmp (w : W) (f : Fld) (b : Bool) : (w.setB f b).lmp = w.lmp := rfl
@[simp] theorem setB_rad (w : W) (f : Fld) (b : Bool) : (w.setB f b).rad = w.rad := rfl
@[simp] theorem setB_flt (w : W) (f : Fld) (b : Bool) : (w.setB f b).flt = w.flt := rfl
@[simp] theorem setB_led (w : W) (f : Fld) (b : Bool) : (w.setB f b).led = w.led := rfl
@[simp] theorem setB_mtr (w : W) (f : Fld) (b : Bool) : (w.setB f b).mtr = w.mtr := rfl
@[simp] theorem setB_rtc (w : W) (f : Fld) (b : Bool) : (w.setB f b).rtc = w.rtc := rfl
@[simp] theorem setB_sys (w : W) (f : Fld) (b : Bool) : (w.setB f b).sys = w.sys := rfl
@[simp] theorem setB_lnv (w : W) (f : Fld) (b : Bool) : (w.setB f b).lnv = w.lnv := rfl
@[simp] theorem setB_fls (w : W) (f : Fld) (b : Bool) : (w.setB f b).fls = w.fls := rfl
@[simp] theorem setB_ptn (w : W) (f : Fld) (b : Bool) : (w.setB f b).ptn = w.ptn := rfl
@[simp] theorem setB_resp (w : W) (f : Fld) (b : Bool) : (w.setB f b).resp = w.resp := rfl
@[simp] theorem setB_free (w : W) (f : Fld) (b : Bool) : (w.setB f b).free = w.free := rfl
@[simp] theorem setB_mem (w : W) (f : Fld) (b : Bool) : (w.setB f b).mem = w.mem := rfl
@[simp] theorem setB_out (w : W) (f : Fld) (b : Bool) : (w.setB f b).out = w.out := rfl
@[simp] theorem setB_zeroed (w : W) (f : Fld) (b : Bool) : (w.setB f b).zeroed = w.zeroed := rfl

/-! ## bump -/

@[simp] theorem bump_op (w : W) (f : Fld) (n : Nat) : (w.bump f n).op = w.op := rfl
@[simp] theorem bump_regs (w : W) (f : Fld) (n : Nat) : (w.bump f n).regs = w.regs.bump f n := rfl
@[simp] theorem bump_tb (w : W) (f : Fld) (n : Nat) : (w.bump f n).tb = w.tb := rfl
@[simp] theorem bump_irq (w : W) (f : Fld) (n : Nat) : (w.bump f n).irq = w.irq := rfl
@[simp] theorem bump_que (w : W) (f : Fld) (n : Nat) : (w.bump f n).que = w.que := rfl
@[simp] theorem bump_scr (w : W) (f : Fld) (n : Nat) : (w.bump f n).scr = w.scr := rfl
@[simp] theorem bump_prf (w : W) (f : Fld) (n : Nat) : (w.bump f n).prf = w.prf := rfl
@[simp] theorem bump_hlt (w : W) (f : Fld) (n : Nat) : (w.bump f n).hlt = w.hlt := rfl
@[simp] theorem bump_pat (w : W) (f : Fld) (n : Nat) : (w.bump f n).pat = w.pat := rfl
@[simp] theorem bump_net (w : W) (f : Fld) (n : Nat) : (w.bump f n).net = w.net := rfl
@[simp] theorem bump_ing (w : W) (f : Fld) (n : Nat) : (w.bump f n).ing = w.ing := rfl
@[simp] theorem bump_aln (w : W) (f : Fld) (n : Nat) : (w.bump f n).aln = w.aln := rfl
@[simp] theorem bump_gan (w : W) (f : Fld) (n : Nat) : (w.bump f n).gan = w.gan := rfl
@[simp] theorem bump_key (w : W) (f : Fld) (n : Nat) : (w.bump f n).key = w.key := rfl
@[simp] theorem bump_cry (w : W) (f : Fld) (n : Nat) : (w.bump f n).cry = w.cry := rfl
@[simp] theorem bump_smp (w : W) (f : Fld) (n : Nat) : (w.bump f n).smp = w.smp := rfl
@[simp] theorem bump_lmp (w : W) (f : Fld) (n : Nat) : (w.bump f n).lmp = w.lmp := rfl
@[simp] theorem bump_rad (w : W) (f : Fld) (n : Nat) : (w.bump f n).rad = w.rad := rfl
@[simp] theorem bump_flt (w : W) (f : Fld) (n : Nat) : (w.bump f n).flt = w.flt := rfl
@[simp] theorem bump_led (w : W) (f : Fld) (n : Nat) : (w.bump f n).led = w.led := rfl
@[simp] theorem bump_mtr (w : W) (f : Fld) (n : Nat) : (w.bump f n).mtr = w.mtr := rfl
@[simp] theorem bump_rtc (w : W) (f : Fld) (n : Nat) : (w.bump f n).rtc = w.rtc := rfl
@[simp] theorem bump_sys (w : W) (f : Fld) (n : Nat) : (w.bump f n).sys = w.sys := rfl
@[simp] theorem bump_lnv (w : W) (f : Fld) (n : Nat) : (w.bump f n).lnv = w.lnv := rfl
@[simp] theorem bump_fls (w : W) (f : Fld) (n : Nat) : (w.bump f n).fls = w.fls := rfl
@[simp] theorem bump_ptn (w : W) (f : Fld) (n : Nat) : (w.bump f n).ptn = w.ptn := rfl
@[simp] theorem bump_resp (w : W) (f : Fld) (n : Nat) : (w.bump f n).resp = w.resp := rfl
@[simp] theorem bump_free (w : W) (f : Fld) (n : Nat) : (w.bump f n).free = w.free := rfl
@[simp] theorem bump_mem (w : W) (f : Fld) (n : Nat) : (w.bump f n).mem = w.mem := rfl
@[simp] theorem bump_out (w : W) (f : Fld) (n : Nat) : (w.bump f n).out = w.out := rfl
@[simp] theorem bump_zeroed (w : W) (f : Fld) (n : Nat) : (w.bump f n).zeroed = w.zeroed := rfl

/-! ## answer -/

@[simp] theorem answer_op (w : W) (v : Nat) : (w.answer v).op = w.op := rfl
@[simp] theorem answer_regs (w : W) (v : Nat) : (w.answer v).regs = w.regs := rfl
@[simp] theorem answer_tb (w : W) (v : Nat) : (w.answer v).tb = w.tb := rfl
@[simp] theorem answer_irq (w : W) (v : Nat) : (w.answer v).irq = w.irq := rfl
@[simp] theorem answer_que (w : W) (v : Nat) : (w.answer v).que = w.que := rfl
@[simp] theorem answer_scr (w : W) (v : Nat) : (w.answer v).scr = w.scr := rfl
@[simp] theorem answer_prf (w : W) (v : Nat) : (w.answer v).prf = w.prf := rfl
@[simp] theorem answer_hlt (w : W) (v : Nat) : (w.answer v).hlt = w.hlt := rfl
@[simp] theorem answer_pat (w : W) (v : Nat) : (w.answer v).pat = w.pat := rfl
@[simp] theorem answer_net (w : W) (v : Nat) : (w.answer v).net = w.net := rfl
@[simp] theorem answer_ing (w : W) (v : Nat) : (w.answer v).ing = w.ing := rfl
@[simp] theorem answer_aln (w : W) (v : Nat) : (w.answer v).aln = w.aln := rfl
@[simp] theorem answer_gan (w : W) (v : Nat) : (w.answer v).gan = w.gan := rfl
@[simp] theorem answer_key (w : W) (v : Nat) : (w.answer v).key = w.key := rfl
@[simp] theorem answer_cry (w : W) (v : Nat) : (w.answer v).cry = w.cry := rfl
@[simp] theorem answer_smp (w : W) (v : Nat) : (w.answer v).smp = w.smp := rfl
@[simp] theorem answer_lmp (w : W) (v : Nat) : (w.answer v).lmp = w.lmp := rfl
@[simp] theorem answer_rad (w : W) (v : Nat) : (w.answer v).rad = w.rad := rfl
@[simp] theorem answer_flt (w : W) (v : Nat) : (w.answer v).flt = w.flt := rfl
@[simp] theorem answer_led (w : W) (v : Nat) : (w.answer v).led = w.led := rfl
@[simp] theorem answer_mtr (w : W) (v : Nat) : (w.answer v).mtr = w.mtr := rfl
@[simp] theorem answer_rtc (w : W) (v : Nat) : (w.answer v).rtc = w.rtc := rfl
@[simp] theorem answer_sys (w : W) (v : Nat) : (w.answer v).sys = w.sys := rfl
@[simp] theorem answer_lnv (w : W) (v : Nat) : (w.answer v).lnv = w.lnv := rfl
@[simp] theorem answer_fls (w : W) (v : Nat) : (w.answer v).fls = w.fls := rfl
@[simp] theorem answer_ptn (w : W) (v : Nat) : (w.answer v).ptn = w.ptn := rfl
@[simp] theorem answer_resp (w : W) (v : Nat) : (w.answer v).resp = ⟨v, false⟩ := rfl
@[simp] theorem answer_free (w : W) (v : Nat) : (w.answer v).free = w.free := rfl
@[simp] theorem answer_mem (w : W) (v : Nat) : (w.answer v).mem = w.mem := rfl
@[simp] theorem answer_out (w : W) (v : Nat) : (w.answer v).out = w.out := rfl
@[simp] theorem answer_zeroed (w : W) (v : Nat) : (w.answer v).zeroed = w.zeroed := rfl

/-! ## accessFault -/

@[simp] theorem accessFault_op (w : W) : (w.accessFault).op = w.op := rfl
@[simp] theorem accessFault_regs (w : W) : (w.accessFault).regs = w.regs := rfl
@[simp] theorem accessFault_tb (w : W) : (w.accessFault).tb = w.tb := rfl
@[simp] theorem accessFault_irq (w : W) : (w.accessFault).irq = w.irq := rfl
@[simp] theorem accessFault_que (w : W) : (w.accessFault).que = w.que := rfl
@[simp] theorem accessFault_scr (w : W) : (w.accessFault).scr = w.scr := rfl
@[simp] theorem accessFault_prf (w : W) : (w.accessFault).prf = w.prf := rfl
@[simp] theorem accessFault_hlt (w : W) : (w.accessFault).hlt = w.hlt := rfl
@[simp] theorem accessFault_pat (w : W) : (w.accessFault).pat = w.pat := rfl
@[simp] theorem accessFault_net (w : W) : (w.accessFault).net = w.net := rfl
@[simp] theorem accessFault_ing (w : W) : (w.accessFault).ing = w.ing := rfl
@[simp] theorem accessFault_aln (w : W) : (w.accessFault).aln = w.aln := rfl
@[simp] theorem accessFault_gan (w : W) : (w.accessFault).gan = w.gan := rfl
@[simp] theorem accessFault_key (w : W) : (w.accessFault).key = w.key := rfl
@[simp] theorem accessFault_cry (w : W) : (w.accessFault).cry = w.cry := rfl
@[simp] theorem accessFault_smp (w : W) : (w.accessFault).smp = w.smp := rfl
@[simp] theorem accessFault_lmp (w : W) : (w.accessFault).lmp = w.lmp := rfl
@[simp] theorem accessFault_rad (w : W) : (w.accessFault).rad = w.rad := rfl
@[simp] theorem accessFault_flt (w : W) : (w.accessFault).flt = w.flt := rfl
@[simp] theorem accessFault_led (w : W) : (w.accessFault).led = w.led := rfl
@[simp] theorem accessFault_mtr (w : W) : (w.accessFault).mtr = w.mtr := rfl
@[simp] theorem accessFault_rtc (w : W) : (w.accessFault).rtc = w.rtc := rfl
@[simp] theorem accessFault_sys (w : W) : (w.accessFault).sys = w.sys := rfl
@[simp] theorem accessFault_lnv (w : W) : (w.accessFault).lnv = w.lnv := rfl
@[simp] theorem accessFault_fls (w : W) : (w.accessFault).fls = w.fls := rfl
@[simp] theorem accessFault_ptn (w : W) : (w.accessFault).ptn = w.ptn := rfl
@[simp] theorem accessFault_resp (w : W) : (w.accessFault).resp = ⟨0, true⟩ := rfl
@[simp] theorem accessFault_free (w : W) : (w.accessFault).free = w.free := rfl
@[simp] theorem accessFault_mem (w : W) : (w.accessFault).mem = w.mem := rfl
@[simp] theorem accessFault_out (w : W) : (w.accessFault).out = w.out := rfl
@[simp] theorem accessFault_zeroed (w : W) : (w.accessFault).zeroed = w.zeroed := rfl

/-! ## draw -/

@[simp] theorem draw_op (w : W) : (w.draw).op = w.op := rfl
@[simp] theorem draw_regs (w : W) : (w.draw).regs = w.regs := rfl
@[simp] theorem draw_tb (w : W) : (w.draw).tb = w.tb := rfl
@[simp] theorem draw_irq (w : W) : (w.draw).irq = w.irq := rfl
@[simp] theorem draw_que (w : W) : (w.draw).que = w.que := rfl
@[simp] theorem draw_scr (w : W) : (w.draw).scr = w.scr := rfl
@[simp] theorem draw_prf (w : W) : (w.draw).prf = w.prf := rfl
@[simp] theorem draw_hlt (w : W) : (w.draw).hlt = w.hlt := rfl
@[simp] theorem draw_pat (w : W) : (w.draw).pat = w.pat := rfl
@[simp] theorem draw_net (w : W) : (w.draw).net = w.net := rfl
@[simp] theorem draw_ing (w : W) : (w.draw).ing = w.ing := rfl
@[simp] theorem draw_aln (w : W) : (w.draw).aln = w.aln := rfl
@[simp] theorem draw_gan (w : W) : (w.draw).gan = w.gan := rfl
@[simp] theorem draw_key (w : W) : (w.draw).key = w.key := rfl
@[simp] theorem draw_cry (w : W) : (w.draw).cry = w.cry := rfl
@[simp] theorem draw_smp (w : W) : (w.draw).smp = w.smp := rfl
@[simp] theorem draw_lmp (w : W) : (w.draw).lmp = w.lmp := rfl
@[simp] theorem draw_rad (w : W) : (w.draw).rad = w.rad := rfl
@[simp] theorem draw_flt (w : W) : (w.draw).flt = w.flt := rfl
@[simp] theorem draw_led (w : W) : (w.draw).led = w.led := rfl
@[simp] theorem draw_mtr (w : W) : (w.draw).mtr = w.mtr := rfl
@[simp] theorem draw_rtc (w : W) : (w.draw).rtc = w.rtc := rfl
@[simp] theorem draw_sys (w : W) : (w.draw).sys = w.sys := rfl
@[simp] theorem draw_lnv (w : W) : (w.draw).lnv = w.lnv := rfl
@[simp] theorem draw_fls (w : W) : (w.draw).fls = w.fls := rfl
@[simp] theorem draw_ptn (w : W) : (w.draw).ptn = w.ptn := rfl
@[simp] theorem draw_resp (w : W) : (w.draw).resp = w.resp := rfl
@[simp] theorem draw_free (w : W) : (w.draw).free = w.free + 1 := rfl
@[simp] theorem draw_mem (w : W) : (w.draw).mem = w.mem := rfl
@[simp] theorem draw_out (w : W) : (w.draw).out = w.out := rfl
@[simp] theorem draw_zeroed (w : W) : (w.draw).zeroed = w.zeroed := rfl

/-! ## wr8 -/

@[simp] theorem wr8_op (w : W) (a : Nat) (b : Byte) : (w.wr8 a b).op = w.op := rfl
@[simp] theorem wr8_regs (w : W) (a : Nat) (b : Byte) : (w.wr8 a b).regs = w.regs := rfl
@[simp] theorem wr8_tb (w : W) (a : Nat) (b : Byte) : (w.wr8 a b).tb = w.tb := rfl
@[simp] theorem wr8_irq (w : W) (a : Nat) (b : Byte) : (w.wr8 a b).irq = w.irq := rfl
@[simp] theorem wr8_que (w : W) (a : Nat) (b : Byte) : (w.wr8 a b).que = w.que := rfl
@[simp] theorem wr8_scr (w : W) (a : Nat) (b : Byte) : (w.wr8 a b).scr = w.scr := rfl
@[simp] theorem wr8_prf (w : W) (a : Nat) (b : Byte) : (w.wr8 a b).prf = w.prf := rfl
@[simp] theorem wr8_hlt (w : W) (a : Nat) (b : Byte) : (w.wr8 a b).hlt = w.hlt := rfl
@[simp] theorem wr8_pat (w : W) (a : Nat) (b : Byte) : (w.wr8 a b).pat = w.pat := rfl
@[simp] theorem wr8_net (w : W) (a : Nat) (b : Byte) : (w.wr8 a b).net = w.net := rfl
@[simp] theorem wr8_ing (w : W) (a : Nat) (b : Byte) : (w.wr8 a b).ing = w.ing := rfl
@[simp] theorem wr8_aln (w : W) (a : Nat) (b : Byte) : (w.wr8 a b).aln = w.aln := rfl
@[simp] theorem wr8_gan (w : W) (a : Nat) (b : Byte) : (w.wr8 a b).gan = w.gan := rfl
@[simp] theorem wr8_key (w : W) (a : Nat) (b : Byte) : (w.wr8 a b).key = w.key := rfl
@[simp] theorem wr8_cry (w : W) (a : Nat) (b : Byte) : (w.wr8 a b).cry = w.cry := rfl
@[simp] theorem wr8_smp (w : W) (a : Nat) (b : Byte) : (w.wr8 a b).smp = w.smp := rfl
@[simp] theorem wr8_lmp (w : W) (a : Nat) (b : Byte) : (w.wr8 a b).lmp = w.lmp := rfl
@[simp] theorem wr8_rad (w : W) (a : Nat) (b : Byte) : (w.wr8 a b).rad = w.rad := rfl
@[simp] theorem wr8_flt (w : W) (a : Nat) (b : Byte) : (w.wr8 a b).flt = w.flt := rfl
@[simp] theorem wr8_led (w : W) (a : Nat) (b : Byte) : (w.wr8 a b).led = w.led := rfl
@[simp] theorem wr8_mtr (w : W) (a : Nat) (b : Byte) : (w.wr8 a b).mtr = w.mtr := rfl
@[simp] theorem wr8_rtc (w : W) (a : Nat) (b : Byte) : (w.wr8 a b).rtc = w.rtc := rfl
@[simp] theorem wr8_sys (w : W) (a : Nat) (b : Byte) : (w.wr8 a b).sys = w.sys := rfl
@[simp] theorem wr8_lnv (w : W) (a : Nat) (b : Byte) : (w.wr8 a b).lnv = w.lnv := rfl
@[simp] theorem wr8_fls (w : W) (a : Nat) (b : Byte) : (w.wr8 a b).fls = w.fls := rfl
@[simp] theorem wr8_ptn (w : W) (a : Nat) (b : Byte) : (w.wr8 a b).ptn = w.ptn := rfl
@[simp] theorem wr8_resp (w : W) (a : Nat) (b : Byte) : (w.wr8 a b).resp = w.resp := rfl
@[simp] theorem wr8_free (w : W) (a : Nat) (b : Byte) : (w.wr8 a b).free = w.free := rfl
@[simp] theorem wr8_mem (w : W) (a : Nat) (b : Byte) : (w.wr8 a b).mem = w.mem := rfl
@[simp] theorem wr8_out (w : W) (a : Nat) (b : Byte) : (w.wr8 a b).out = (a, b) :: w.out := rfl
@[simp] theorem wr8_zeroed (w : W) (a : Nat) (b : Byte) : (w.wr8 a b).zeroed = w.zeroed := rfl

/-! ## raise -/

@[simp] theorem raise_op (w : W) (source param : Nat) : (w.raise source param).op = w.op := rfl
@[simp] theorem raise_regs (w : W) (source param : Nat) : (w.raise source param).regs = w.regs := rfl
@[simp] theorem raise_tb (w : W) (source param : Nat) : (w.raise source param).tb = w.tb := rfl
@[simp] theorem raise_irq (w : W) (source param : Nat) : (w.raise source param).irq = { w.irq with raised := w.irq.raised ++ [⟨source, param, w.ns, false, false, false⟩] } := rfl
@[simp] theorem raise_que (w : W) (source param : Nat) : (w.raise source param).que = w.que := rfl
@[simp] theorem raise_scr (w : W) (source param : Nat) : (w.raise source param).scr = w.scr := rfl
@[simp] theorem raise_prf (w : W) (source param : Nat) : (w.raise source param).prf = w.prf := rfl
@[simp] theorem raise_hlt (w : W) (source param : Nat) : (w.raise source param).hlt = w.hlt := rfl
@[simp] theorem raise_pat (w : W) (source param : Nat) : (w.raise source param).pat = w.pat := rfl
@[simp] theorem raise_net (w : W) (source param : Nat) : (w.raise source param).net = w.net := rfl
@[simp] theorem raise_ing (w : W) (source param : Nat) : (w.raise source param).ing = w.ing := rfl
@[simp] theorem raise_aln (w : W) (source param : Nat) : (w.raise source param).aln = w.aln := rfl
@[simp] theorem raise_gan (w : W) (source param : Nat) : (w.raise source param).gan = w.gan := rfl
@[simp] theorem raise_key (w : W) (source param : Nat) : (w.raise source param).key = w.key := rfl
@[simp] theorem raise_cry (w : W) (source param : Nat) : (w.raise source param).cry = w.cry := rfl
@[simp] theorem raise_smp (w : W) (source param : Nat) : (w.raise source param).smp = w.smp := rfl
@[simp] theorem raise_lmp (w : W) (source param : Nat) : (w.raise source param).lmp = w.lmp := rfl
@[simp] theorem raise_rad (w : W) (source param : Nat) : (w.raise source param).rad = w.rad := rfl
@[simp] theorem raise_flt (w : W) (source param : Nat) : (w.raise source param).flt = w.flt := rfl
@[simp] theorem raise_led (w : W) (source param : Nat) : (w.raise source param).led = w.led := rfl
@[simp] theorem raise_mtr (w : W) (source param : Nat) : (w.raise source param).mtr = w.mtr := rfl
@[simp] theorem raise_rtc (w : W) (source param : Nat) : (w.raise source param).rtc = w.rtc := rfl
@[simp] theorem raise_sys (w : W) (source param : Nat) : (w.raise source param).sys = w.sys := rfl
@[simp] theorem raise_lnv (w : W) (source param : Nat) : (w.raise source param).lnv = w.lnv := rfl
@[simp] theorem raise_fls (w : W) (source param : Nat) : (w.raise source param).fls = w.fls := rfl
@[simp] theorem raise_ptn (w : W) (source param : Nat) : (w.raise source param).ptn = w.ptn := rfl
@[simp] theorem raise_resp (w : W) (source param : Nat) : (w.raise source param).resp = w.resp := rfl
@[simp] theorem raise_free (w : W) (source param : Nat) : (w.raise source param).free = w.free := rfl
@[simp] theorem raise_mem (w : W) (source param : Nat) : (w.raise source param).mem = w.mem := rfl
@[simp] theorem raise_out (w : W) (source param : Nat) : (w.raise source param).out = w.out := rfl
@[simp] theorem raise_zeroed (w : W) (source param : Nat) : (w.raise source param).zeroed = w.zeroed := rfl

/-! ## setCry -/

@[simp] theorem setCry_op (w : W) (x : CryState) : (w.setCry x).op = w.op := rfl
@[simp] theorem setCry_regs (w : W) (x : CryState) : (w.setCry x).regs = w.regs := rfl
@[simp] theorem setCry_tb (w : W) (x : CryState) : (w.setCry x).tb = w.tb := rfl
@[simp] theorem setCry_irq (w : W) (x : CryState) : (w.setCry x).irq = w.irq := rfl
@[simp] theorem setCry_que (w : W) (x : CryState) : (w.setCry x).que = w.que := rfl
@[simp] theorem setCry_scr (w : W) (x : CryState) : (w.setCry x).scr = w.scr := rfl
@[simp] theorem setCry_prf (w : W) (x : CryState) : (w.setCry x).prf = w.prf := rfl
@[simp] theorem setCry_hlt (w : W) (x : CryState) : (w.setCry x).hlt = w.hlt := rfl
@[simp] theorem setCry_pat (w : W) (x : CryState) : (w.setCry x).pat = w.pat := rfl
@[simp] theorem setCry_net (w : W) (x : CryState) : (w.setCry x).net = w.net := rfl
@[simp] theorem setCry_ing (w : W) (x : CryState) : (w.setCry x).ing = w.ing := rfl
@[simp] theorem setCry_aln (w : W) (x : CryState) : (w.setCry x).aln = w.aln := rfl
@[simp] theorem setCry_gan (w : W) (x : CryState) : (w.setCry x).gan = w.gan := rfl
@[simp] theorem setCry_key (w : W) (x : CryState) : (w.setCry x).key = w.key := rfl
@[simp] theorem setCry_cry (w : W) (x : CryState) : (w.setCry x).cry = x := rfl
@[simp] theorem setCry_smp (w : W) (x : CryState) : (w.setCry x).smp = w.smp := rfl
@[simp] theorem setCry_lmp (w : W) (x : CryState) : (w.setCry x).lmp = w.lmp := rfl
@[simp] theorem setCry_rad (w : W) (x : CryState) : (w.setCry x).rad = w.rad := rfl
@[simp] theorem setCry_flt (w : W) (x : CryState) : (w.setCry x).flt = w.flt := rfl
@[simp] theorem setCry_led (w : W) (x : CryState) : (w.setCry x).led = w.led := rfl
@[simp] theorem setCry_mtr (w : W) (x : CryState) : (w.setCry x).mtr = w.mtr := rfl
@[simp] theorem setCry_rtc (w : W) (x : CryState) : (w.setCry x).rtc = w.rtc := rfl
@[simp] theorem setCry_sys (w : W) (x : CryState) : (w.setCry x).sys = w.sys := rfl
@[simp] theorem setCry_lnv (w : W) (x : CryState) : (w.setCry x).lnv = w.lnv := rfl
@[simp] theorem setCry_fls (w : W) (x : CryState) : (w.setCry x).fls = w.fls := rfl
@[simp] theorem setCry_ptn (w : W) (x : CryState) : (w.setCry x).ptn = w.ptn := rfl
@[simp] theorem setCry_resp (w : W) (x : CryState) : (w.setCry x).resp = w.resp := rfl
@[simp] theorem setCry_free (w : W) (x : CryState) : (w.setCry x).free = w.free := rfl
@[simp] theorem setCry_mem (w : W) (x : CryState) : (w.setCry x).mem = w.mem := rfl
@[simp] theorem setCry_out (w : W) (x : CryState) : (w.setCry x).out = w.out := rfl
@[simp] theorem setCry_zeroed (w : W) (x : CryState) : (w.setCry x).zeroed = w.zeroed := rfl

/-! ## setFlt -/

@[simp] theorem setFlt_op (w : W) (x : FltState) : (w.setFlt x).op = w.op := rfl
@[simp] theorem setFlt_regs (w : W) (x : FltState) : (w.setFlt x).regs = w.regs := rfl
@[simp] theorem setFlt_tb (w : W) (x : FltState) : (w.setFlt x).tb = w.tb := rfl
@[simp] theorem setFlt_irq (w : W) (x : FltState) : (w.setFlt x).irq = w.irq := rfl
@[simp] theorem setFlt_que (w : W) (x : FltState) : (w.setFlt x).que = w.que := rfl
@[simp] theorem setFlt_scr (w : W) (x : FltState) : (w.setFlt x).scr = w.scr := rfl
@[simp] theorem setFlt_prf (w : W) (x : FltState) : (w.setFlt x).prf = w.prf := rfl
@[simp] theorem setFlt_hlt (w : W) (x : FltState) : (w.setFlt x).hlt = w.hlt := rfl
@[simp] theorem setFlt_pat (w : W) (x : FltState) : (w.setFlt x).pat = w.pat := rfl
@[simp] theorem setFlt_net (w : W) (x : FltState) : (w.setFlt x).net = w.net := rfl
@[simp] theorem setFlt_ing (w : W) (x : FltState) : (w.setFlt x).ing = w.ing := rfl
@[simp] theorem setFlt_aln (w : W) (x : FltState) : (w.setFlt x).aln = w.aln := rfl
@[simp] theorem setFlt_gan (w : W) (x : FltState) : (w.setFlt x).gan = w.gan := rfl
@[simp] theorem setFlt_key (w : W) (x : FltState) : (w.setFlt x).key = w.key := rfl
@[simp] theorem setFlt_cry (w : W) (x : FltState) : (w.setFlt x).cry = w.cry := rfl
@[simp] theorem setFlt_smp (w : W) (x : FltState) : (w.setFlt x).smp = w.smp := rfl
@[simp] theorem setFlt_lmp (w : W) (x : FltState) : (w.setFlt x).lmp = w.lmp := rfl
@[simp] theorem setFlt_rad (w : W) (x : FltState) : (w.setFlt x).rad = w.rad := rfl
@[simp] theorem setFlt_flt (w : W) (x : FltState) : (w.setFlt x).flt = x := rfl
@[simp] theorem setFlt_led (w : W) (x : FltState) : (w.setFlt x).led = w.led := rfl
@[simp] theorem setFlt_mtr (w : W) (x : FltState) : (w.setFlt x).mtr = w.mtr := rfl
@[simp] theorem setFlt_rtc (w : W) (x : FltState) : (w.setFlt x).rtc = w.rtc := rfl
@[simp] theorem setFlt_sys (w : W) (x : FltState) : (w.setFlt x).sys = w.sys := rfl
@[simp] theorem setFlt_lnv (w : W) (x : FltState) : (w.setFlt x).lnv = w.lnv := rfl
@[simp] theorem setFlt_fls (w : W) (x : FltState) : (w.setFlt x).fls = w.fls := rfl
@[simp] theorem setFlt_ptn (w : W) (x : FltState) : (w.setFlt x).ptn = w.ptn := rfl
@[simp] theorem setFlt_resp (w : W) (x : FltState) : (w.setFlt x).resp = w.resp := rfl
@[simp] theorem setFlt_free (w : W) (x : FltState) : (w.setFlt x).free = w.free := rfl
@[simp] theorem setFlt_mem (w : W) (x : FltState) : (w.setFlt x).mem = w.mem := rfl
@[simp] theorem setFlt_out (w : W) (x : FltState) : (w.setFlt x).out = w.out := rfl
@[simp] theorem setFlt_zeroed (w : W) (x : FltState) : (w.setFlt x).zeroed = w.zeroed := rfl

/-! ## setRad -/

@[simp] theorem setRad_op (w : W) (x : RadState) : (w.setRad x).op = w.op := rfl
@[simp] theorem setRad_regs (w : W) (x : RadState) : (w.setRad x).regs = w.regs := rfl
@[simp] theorem setRad_tb (w : W) (x : RadState) : (w.setRad x).tb = w.tb := rfl
@[simp] theorem setRad_irq (w : W) (x : RadState) : (w.setRad x).irq = w.irq := rfl
@[simp] theorem setRad_que (w : W) (x : RadState) : (w.setRad x).que = w.que := rfl
@[simp] theorem setRad_scr (w : W) (x : RadState) : (w.setRad x).scr = w.scr := rfl
@[simp] theorem setRad_prf (w : W) (x : RadState) : (w.setRad x).prf = w.prf := rfl
@[simp] theorem setRad_hlt (w : W) (x : RadState) : (w.setRad x).hlt = w.hlt := rfl
@[simp] theorem setRad_pat (w : W) (x : RadState) : (w.setRad x).pat = w.pat := rfl
@[simp] theorem setRad_net (w : W) (x : RadState) : (w.setRad x).net = w.net := rfl
@[simp] theorem setRad_ing (w : W) (x : RadState) : (w.setRad x).ing = w.ing := rfl
@[simp] theorem setRad_aln (w : W) (x : RadState) : (w.setRad x).aln = w.aln := rfl
@[simp] theorem setRad_gan (w : W) (x : RadState) : (w.setRad x).gan = w.gan := rfl
@[simp] theorem setRad_key (w : W) (x : RadState) : (w.setRad x).key = w.key := rfl
@[simp] theorem setRad_cry (w : W) (x : RadState) : (w.setRad x).cry = w.cry := rfl
@[simp] theorem setRad_smp (w : W) (x : RadState) : (w.setRad x).smp = w.smp := rfl
@[simp] theorem setRad_lmp (w : W) (x : RadState) : (w.setRad x).lmp = w.lmp := rfl
@[simp] theorem setRad_rad (w : W) (x : RadState) : (w.setRad x).rad = x := rfl
@[simp] theorem setRad_flt (w : W) (x : RadState) : (w.setRad x).flt = w.flt := rfl
@[simp] theorem setRad_led (w : W) (x : RadState) : (w.setRad x).led = w.led := rfl
@[simp] theorem setRad_mtr (w : W) (x : RadState) : (w.setRad x).mtr = w.mtr := rfl
@[simp] theorem setRad_rtc (w : W) (x : RadState) : (w.setRad x).rtc = w.rtc := rfl
@[simp] theorem setRad_sys (w : W) (x : RadState) : (w.setRad x).sys = w.sys := rfl
@[simp] theorem setRad_lnv (w : W) (x : RadState) : (w.setRad x).lnv = w.lnv := rfl
@[simp] theorem setRad_fls (w : W) (x : RadState) : (w.setRad x).fls = w.fls := rfl
@[simp] theorem setRad_ptn (w : W) (x : RadState) : (w.setRad x).ptn = w.ptn := rfl
@[simp] theorem setRad_resp (w : W) (x : RadState) : (w.setRad x).resp = w.resp := rfl
@[simp] theorem setRad_free (w : W) (x : RadState) : (w.setRad x).free = w.free := rfl
@[simp] theorem setRad_mem (w : W) (x : RadState) : (w.setRad x).mem = w.mem := rfl
@[simp] theorem setRad_out (w : W) (x : RadState) : (w.setRad x).out = w.out := rfl
@[simp] theorem setRad_zeroed (w : W) (x : RadState) : (w.setRad x).zeroed = w.zeroed := rfl

/-! ## setLed -/

@[simp] theorem setLed_op (w : W) (x : LedState) : (w.setLed x).op = w.op := rfl
@[simp] theorem setLed_regs (w : W) (x : LedState) : (w.setLed x).regs = w.regs := rfl
@[simp] theorem setLed_tb (w : W) (x : LedState) : (w.setLed x).tb = w.tb := rfl
@[simp] theorem setLed_irq (w : W) (x : LedState) : (w.setLed x).irq = w.irq := rfl
@[simp] theorem setLed_que (w : W) (x : LedState) : (w.setLed x).que = w.que := rfl
@[simp] theorem setLed_scr (w : W) (x : LedState) : (w.setLed x).scr = w.scr := rfl
@[simp] theorem setLed_prf (w : W) (x : LedState) : (w.setLed x).prf = w.prf := rfl
@[simp] theorem setLed_hlt (w : W) (x : LedState) : (w.setLed x).hlt = w.hlt := rfl
@[simp] theorem setLed_pat (w : W) (x : LedState) : (w.setLed x).pat = w.pat := rfl
@[simp] theorem setLed_net (w : W) (x : LedState) : (w.setLed x).net = w.net := rfl
@[simp] theorem setLed_ing (w : W) (x : LedState) : (w.setLed x).ing = w.ing := rfl
@[simp] theorem setLed_aln (w : W) (x : LedState) : (w.setLed x).aln = w.aln := rfl
@[simp] theorem setLed_gan (w : W) (x : LedState) : (w.setLed x).gan = w.gan := rfl
@[simp] theorem setLed_key (w : W) (x : LedState) : (w.setLed x).key = w.key := rfl
@[simp] theorem setLed_cry (w : W) (x : LedState) : (w.setLed x).cry = w.cry := rfl
@[simp] theorem setLed_smp (w : W) (x : LedState) : (w.setLed x).smp = w.smp := rfl
@[simp] theorem setLed_lmp (w : W) (x : LedState) : (w.setLed x).lmp = w.lmp := rfl
@[simp] theorem setLed_rad (w : W) (x : LedState) : (w.setLed x).rad = w.rad := rfl
@[simp] theorem setLed_flt (w : W) (x : LedState) : (w.setLed x).flt = w.flt := rfl
@[simp] theorem setLed_led (w : W) (x : LedState) : (w.setLed x).led = x := rfl
@[simp] theorem setLed_mtr (w : W) (x : LedState) : (w.setLed x).mtr = w.mtr := rfl
@[simp] theorem setLed_rtc (w : W) (x : LedState) : (w.setLed x).rtc = w.rtc := rfl
@[simp] theorem setLed_sys (w : W) (x : LedState) : (w.setLed x).sys = w.sys := rfl
@[simp] theorem setLed_lnv (w : W) (x : LedState) : (w.setLed x).lnv = w.lnv := rfl
@[simp] theorem setLed_fls (w : W) (x : LedState) : (w.setLed x).fls = w.fls := rfl
@[simp] theorem setLed_ptn (w : W) (x : LedState) : (w.setLed x).ptn = w.ptn := rfl
@[simp] theorem setLed_resp (w : W) (x : LedState) : (w.setLed x).resp = w.resp := rfl
@[simp] theorem setLed_free (w : W) (x : LedState) : (w.setLed x).free = w.free := rfl
@[simp] theorem setLed_mem (w : W) (x : LedState) : (w.setLed x).mem = w.mem := rfl
@[simp] theorem setLed_out (w : W) (x : LedState) : (w.setLed x).out = w.out := rfl
@[simp] theorem setLed_zeroed (w : W) (x : LedState) : (w.setLed x).zeroed = w.zeroed := rfl

/-! ## setLmp -/

@[simp] theorem setLmp_op (w : W) (x : LmpState) : (w.setLmp x).op = w.op := rfl
@[simp] theorem setLmp_regs (w : W) (x : LmpState) : (w.setLmp x).regs = w.regs := rfl
@[simp] theorem setLmp_tb (w : W) (x : LmpState) : (w.setLmp x).tb = w.tb := rfl
@[simp] theorem setLmp_irq (w : W) (x : LmpState) : (w.setLmp x).irq = w.irq := rfl
@[simp] theorem setLmp_que (w : W) (x : LmpState) : (w.setLmp x).que = w.que := rfl
@[simp] theorem setLmp_scr (w : W) (x : LmpState) : (w.setLmp x).scr = w.scr := rfl
@[simp] theorem setLmp_prf (w : W) (x : LmpState) : (w.setLmp x).prf = w.prf := rfl
@[simp] theorem setLmp_hlt (w : W) (x : LmpState) : (w.setLmp x).hlt = w.hlt := rfl
@[simp] theorem setLmp_pat (w : W) (x : LmpState) : (w.setLmp x).pat = w.pat := rfl
@[simp] theorem setLmp_net (w : W) (x : LmpState) : (w.setLmp x).net = w.net := rfl
@[simp] theorem setLmp_ing (w : W) (x : LmpState) : (w.setLmp x).ing = w.ing := rfl
@[simp] theorem setLmp_aln (w : W) (x : LmpState) : (w.setLmp x).aln = w.aln := rfl
@[simp] theorem setLmp_gan (w : W) (x : LmpState) : (w.setLmp x).gan = w.gan := rfl
@[simp] theorem setLmp_key (w : W) (x : LmpState) : (w.setLmp x).key = w.key := rfl
@[simp] theorem setLmp_cry (w : W) (x : LmpState) : (w.setLmp x).cry = w.cry := rfl
@[simp] theorem setLmp_smp (w : W) (x : LmpState) : (w.setLmp x).smp = w.smp := rfl
@[simp] theorem setLmp_lmp (w : W) (x : LmpState) : (w.setLmp x).lmp = x := rfl
@[simp] theorem setLmp_rad (w : W) (x : LmpState) : (w.setLmp x).rad = w.rad := rfl
@[simp] theorem setLmp_flt (w : W) (x : LmpState) : (w.setLmp x).flt = w.flt := rfl
@[simp] theorem setLmp_led (w : W) (x : LmpState) : (w.setLmp x).led = w.led := rfl
@[simp] theorem setLmp_mtr (w : W) (x : LmpState) : (w.setLmp x).mtr = w.mtr := rfl
@[simp] theorem setLmp_rtc (w : W) (x : LmpState) : (w.setLmp x).rtc = w.rtc := rfl
@[simp] theorem setLmp_sys (w : W) (x : LmpState) : (w.setLmp x).sys = w.sys := rfl
@[simp] theorem setLmp_lnv (w : W) (x : LmpState) : (w.setLmp x).lnv = w.lnv := rfl
@[simp] theorem setLmp_fls (w : W) (x : LmpState) : (w.setLmp x).fls = w.fls := rfl
@[simp] theorem setLmp_ptn (w : W) (x : LmpState) : (w.setLmp x).ptn = w.ptn := rfl
@[simp] theorem setLmp_resp (w : W) (x : LmpState) : (w.setLmp x).resp = w.resp := rfl
@[simp] theorem setLmp_free (w : W) (x : LmpState) : (w.setLmp x).free = w.free := rfl
@[simp] theorem setLmp_mem (w : W) (x : LmpState) : (w.setLmp x).mem = w.mem := rfl
@[simp] theorem setLmp_out (w : W) (x : LmpState) : (w.setLmp x).out = w.out := rfl
@[simp] theorem setLmp_zeroed (w : W) (x : LmpState) : (w.setLmp x).zeroed = w.zeroed := rfl

/-! ## setLnv -/

@[simp] theorem setLnv_op (w : W) (x : LnvState) : (w.setLnv x).op = w.op := rfl
@[simp] theorem setLnv_regs (w : W) (x : LnvState) : (w.setLnv x).regs = w.regs := rfl
@[simp] theorem setLnv_tb (w : W) (x : LnvState) : (w.setLnv x).tb = w.tb := rfl
@[simp] theorem setLnv_irq (w : W) (x : LnvState) : (w.setLnv x).irq = w.irq := rfl
@[simp] theorem setLnv_que (w : W) (x : LnvState) : (w.setLnv x).que = w.que := rfl
@[simp] theorem setLnv_scr (w : W) (x : LnvState) : (w.setLnv x).scr = w.scr := rfl
@[simp] theorem setLnv_prf (w : W) (x : LnvState) : (w.setLnv x).prf = w.prf := rfl
@[simp] theorem setLnv_hlt (w : W) (x : LnvState) : (w.setLnv x).hlt = w.hlt := rfl
@[simp] theorem setLnv_pat (w : W) (x : LnvState) : (w.setLnv x).pat = w.pat := rfl
@[simp] theorem setLnv_net (w : W) (x : LnvState) : (w.setLnv x).net = w.net := rfl
@[simp] theorem setLnv_ing (w : W) (x : LnvState) : (w.setLnv x).ing = w.ing := rfl
@[simp] theorem setLnv_aln (w : W) (x : LnvState) : (w.setLnv x).aln = w.aln := rfl
@[simp] theorem setLnv_gan (w : W) (x : LnvState) : (w.setLnv x).gan = w.gan := rfl
@[simp] theorem setLnv_key (w : W) (x : LnvState) : (w.setLnv x).key = w.key := rfl
@[simp] theorem setLnv_cry (w : W) (x : LnvState) : (w.setLnv x).cry = w.cry := rfl
@[simp] theorem setLnv_smp (w : W) (x : LnvState) : (w.setLnv x).smp = w.smp := rfl
@[simp] theorem setLnv_lmp (w : W) (x : LnvState) : (w.setLnv x).lmp = w.lmp := rfl
@[simp] theorem setLnv_rad (w : W) (x : LnvState) : (w.setLnv x).rad = w.rad := rfl
@[simp] theorem setLnv_flt (w : W) (x : LnvState) : (w.setLnv x).flt = w.flt := rfl
@[simp] theorem setLnv_led (w : W) (x : LnvState) : (w.setLnv x).led = w.led := rfl
@[simp] theorem setLnv_mtr (w : W) (x : LnvState) : (w.setLnv x).mtr = w.mtr := rfl
@[simp] theorem setLnv_rtc (w : W) (x : LnvState) : (w.setLnv x).rtc = w.rtc := rfl
@[simp] theorem setLnv_sys (w : W) (x : LnvState) : (w.setLnv x).sys = w.sys := rfl
@[simp] theorem setLnv_lnv (w : W) (x : LnvState) : (w.setLnv x).lnv = x := rfl
@[simp] theorem setLnv_fls (w : W) (x : LnvState) : (w.setLnv x).fls = w.fls := rfl
@[simp] theorem setLnv_ptn (w : W) (x : LnvState) : (w.setLnv x).ptn = w.ptn := rfl
@[simp] theorem setLnv_resp (w : W) (x : LnvState) : (w.setLnv x).resp = w.resp := rfl
@[simp] theorem setLnv_free (w : W) (x : LnvState) : (w.setLnv x).free = w.free := rfl
@[simp] theorem setLnv_mem (w : W) (x : LnvState) : (w.setLnv x).mem = w.mem := rfl
@[simp] theorem setLnv_out (w : W) (x : LnvState) : (w.setLnv x).out = w.out := rfl
@[simp] theorem setLnv_zeroed (w : W) (x : LnvState) : (w.setLnv x).zeroed = w.zeroed := rfl

/-! ## setMtr -/

@[simp] theorem setMtr_op (w : W) (x : MtrState) : (w.setMtr x).op = w.op := rfl
@[simp] theorem setMtr_regs (w : W) (x : MtrState) : (w.setMtr x).regs = w.regs := rfl
@[simp] theorem setMtr_tb (w : W) (x : MtrState) : (w.setMtr x).tb = w.tb := rfl
@[simp] theorem setMtr_irq (w : W) (x : MtrState) : (w.setMtr x).irq = w.irq := rfl
@[simp] theorem setMtr_que (w : W) (x : MtrState) : (w.setMtr x).que = w.que := rfl
@[simp] theorem setMtr_scr (w : W) (x : MtrState) : (w.setMtr x).scr = w.scr := rfl
@[simp] theorem setMtr_prf (w : W) (x : MtrState) : (w.setMtr x).prf = w.prf := rfl
@[simp] theorem setMtr_hlt (w : W) (x : MtrState) : (w.setMtr x).hlt = w.hlt := rfl
@[simp] theorem setMtr_pat (w : W) (x : MtrState) : (w.setMtr x).pat = w.pat := rfl
@[simp] theorem setMtr_net (w : W) (x : MtrState) : (w.setMtr x).net = w.net := rfl
@[simp] theorem setMtr_ing (w : W) (x : MtrState) : (w.setMtr x).ing = w.ing := rfl
@[simp] theorem setMtr_aln (w : W) (x : MtrState) : (w.setMtr x).aln = w.aln := rfl
@[simp] theorem setMtr_gan (w : W) (x : MtrState) : (w.setMtr x).gan = w.gan := rfl
@[simp] theorem setMtr_key (w : W) (x : MtrState) : (w.setMtr x).key = w.key := rfl
@[simp] theorem setMtr_cry (w : W) (x : MtrState) : (w.setMtr x).cry = w.cry := rfl
@[simp] theorem setMtr_smp (w : W) (x : MtrState) : (w.setMtr x).smp = w.smp := rfl
@[simp] theorem setMtr_lmp (w : W) (x : MtrState) : (w.setMtr x).lmp = w.lmp := rfl
@[simp] theorem setMtr_rad (w : W) (x : MtrState) : (w.setMtr x).rad = w.rad := rfl
@[simp] theorem setMtr_flt (w : W) (x : MtrState) : (w.setMtr x).flt = w.flt := rfl
@[simp] theorem setMtr_led (w : W) (x : MtrState) : (w.setMtr x).led = w.led := rfl
@[simp] theorem setMtr_mtr (w : W) (x : MtrState) : (w.setMtr x).mtr = x := rfl
@[simp] theorem setMtr_rtc (w : W) (x : MtrState) : (w.setMtr x).rtc = w.rtc := rfl
@[simp] theorem setMtr_sys (w : W) (x : MtrState) : (w.setMtr x).sys = w.sys := rfl
@[simp] theorem setMtr_lnv (w : W) (x : MtrState) : (w.setMtr x).lnv = w.lnv := rfl
@[simp] theorem setMtr_fls (w : W) (x : MtrState) : (w.setMtr x).fls = w.fls := rfl
@[simp] theorem setMtr_ptn (w : W) (x : MtrState) : (w.setMtr x).ptn = w.ptn := rfl
@[simp] theorem setMtr_resp (w : W) (x : MtrState) : (w.setMtr x).resp = w.resp := rfl
@[simp] theorem setMtr_free (w : W) (x : MtrState) : (w.setMtr x).free = w.free := rfl
@[simp] theorem setMtr_mem (w : W) (x : MtrState) : (w.setMtr x).mem = w.mem := rfl
@[simp] theorem setMtr_out (w : W) (x : MtrState) : (w.setMtr x).out = w.out := rfl
@[simp] theorem setMtr_zeroed (w : W) (x : MtrState) : (w.setMtr x).zeroed = w.zeroed := rfl

/-! ## setPat -/

@[simp] theorem setPat_op (w : W) (x : PatState) : (w.setPat x).op = w.op := rfl
@[simp] theorem setPat_regs (w : W) (x : PatState) : (w.setPat x).regs = w.regs := rfl
@[simp] theorem setPat_tb (w : W) (x : PatState) : (w.setPat x).tb = w.tb := rfl
@[simp] theorem setPat_irq (w : W) (x : PatState) : (w.setPat x).irq = w.irq := rfl
@[simp] theorem setPat_que (w : W) (x : PatState) : (w.setPat x).que = w.que := rfl
@[simp] theorem setPat_scr (w : W) (x : PatState) : (w.setPat x).scr = w.scr := rfl
@[simp] theorem setPat_prf (w : W) (x : PatState) : (w.setPat x).prf = w.prf := rfl
@[simp] theorem setPat_hlt (w : W) (x : PatState) : (w.setPat x).hlt = w.hlt := rfl
@[simp] theorem setPat_pat (w : W) (x : PatState) : (w.setPat x).pat = x := rfl
@[simp] theorem setPat_net (w : W) (x : PatState) : (w.setPat x).net = w.net := rfl
@[simp] theorem setPat_ing (w : W) (x : PatState) : (w.setPat x).ing = w.ing := rfl
@[simp] theorem setPat_aln (w : W) (x : PatState) : (w.setPat x).aln = w.aln := rfl
@[simp] theorem setPat_gan (w : W) (x : PatState) : (w.setPat x).gan = w.gan := rfl
@[simp] theorem setPat_key (w : W) (x : PatState) : (w.setPat x).key = w.key := rfl
@[simp] theorem setPat_cry (w : W) (x : PatState) : (w.setPat x).cry = w.cry := rfl
@[simp] theorem setPat_smp (w : W) (x : PatState) : (w.setPat x).smp = w.smp := rfl
@[simp] theorem setPat_lmp (w : W) (x : PatState) : (w.setPat x).lmp = w.lmp := rfl
@[simp] theorem setPat_rad (w : W) (x : PatState) : (w.setPat x).rad = w.rad := rfl
@[simp] theorem setPat_flt (w : W) (x : PatState) : (w.setPat x).flt = w.flt := rfl
@[simp] theorem setPat_led (w : W) (x : PatState) : (w.setPat x).led = w.led := rfl
@[simp] theorem setPat_mtr (w : W) (x : PatState) : (w.setPat x).mtr = w.mtr := rfl
@[simp] theorem setPat_rtc (w : W) (x : PatState) : (w.setPat x).rtc = w.rtc := rfl
@[simp] theorem setPat_sys (w : W) (x : PatState) : (w.setPat x).sys = w.sys := rfl
@[simp] theorem setPat_lnv (w : W) (x : PatState) : (w.setPat x).lnv = w.lnv := rfl
@[simp] theorem setPat_fls (w : W) (x : PatState) : (w.setPat x).fls = w.fls := rfl
@[simp] theorem setPat_ptn (w : W) (x : PatState) : (w.setPat x).ptn = w.ptn := rfl
@[simp] theorem setPat_resp (w : W) (x : PatState) : (w.setPat x).resp = w.resp := rfl
@[simp] theorem setPat_free (w : W) (x : PatState) : (w.setPat x).free = w.free := rfl
@[simp] theorem setPat_mem (w : W) (x : PatState) : (w.setPat x).mem = w.mem := rfl
@[simp] theorem setPat_out (w : W) (x : PatState) : (w.setPat x).out = w.out := rfl
@[simp] theorem setPat_zeroed (w : W) (x : PatState) : (w.setPat x).zeroed = w.zeroed := rfl

/-! ## setPtn -/

@[simp] theorem setPtn_op (w : W) (x : PtnState) : (w.setPtn x).op = w.op := rfl
@[simp] theorem setPtn_regs (w : W) (x : PtnState) : (w.setPtn x).regs = w.regs := rfl
@[simp] theorem setPtn_tb (w : W) (x : PtnState) : (w.setPtn x).tb = w.tb := rfl
@[simp] theorem setPtn_irq (w : W) (x : PtnState) : (w.setPtn x).irq = w.irq := rfl
@[simp] theorem setPtn_que (w : W) (x : PtnState) : (w.setPtn x).que = w.que := rfl
@[simp] theorem setPtn_scr (w : W) (x : PtnState) : (w.setPtn x).scr = w.scr := rfl
@[simp] theorem setPtn_prf (w : W) (x : PtnState) : (w.setPtn x).prf = w.prf := rfl
@[simp] theorem setPtn_hlt (w : W) (x : PtnState) : (w.setPtn x).hlt = w.hlt := rfl
@[simp] theorem setPtn_pat (w : W) (x : PtnState) : (w.setPtn x).pat = w.pat := rfl
@[simp] theorem setPtn_net (w : W) (x : PtnState) : (w.setPtn x).net = w.net := rfl
@[simp] theorem setPtn_ing (w : W) (x : PtnState) : (w.setPtn x).ing = w.ing := rfl
@[simp] theorem setPtn_aln (w : W) (x : PtnState) : (w.setPtn x).aln = w.aln := rfl
@[simp] theorem setPtn_gan (w : W) (x : PtnState) : (w.setPtn x).gan = w.gan := rfl
@[simp] theorem setPtn_key (w : W) (x : PtnState) : (w.setPtn x).key = w.key := rfl
@[simp] theorem setPtn_cry (w : W) (x : PtnState) : (w.setPtn x).cry = w.cry := rfl
@[simp] theorem setPtn_smp (w : W) (x : PtnState) : (w.setPtn x).smp = w.smp := rfl
@[simp] theorem setPtn_lmp (w : W) (x : PtnState) : (w.setPtn x).lmp = w.lmp := rfl
@[simp] theorem setPtn_rad (w : W) (x : PtnState) : (w.setPtn x).rad = w.rad := rfl
@[simp] theorem setPtn_flt (w : W) (x : PtnState) : (w.setPtn x).flt = w.flt := rfl
@[simp] theorem setPtn_led (w : W) (x : PtnState) : (w.setPtn x).led = w.led := rfl
@[simp] theorem setPtn_mtr (w : W) (x : PtnState) : (w.setPtn x).mtr = w.mtr := rfl
@[simp] theorem setPtn_rtc (w : W) (x : PtnState) : (w.setPtn x).rtc = w.rtc := rfl
@[simp] theorem setPtn_sys (w : W) (x : PtnState) : (w.setPtn x).sys = w.sys := rfl
@[simp] theorem setPtn_lnv (w : W) (x : PtnState) : (w.setPtn x).lnv = w.lnv := rfl
@[simp] theorem setPtn_fls (w : W) (x : PtnState) : (w.setPtn x).fls = w.fls := rfl
@[simp] theorem setPtn_ptn (w : W) (x : PtnState) : (w.setPtn x).ptn = x := rfl
@[simp] theorem setPtn_resp (w : W) (x : PtnState) : (w.setPtn x).resp = w.resp := rfl
@[simp] theorem setPtn_free (w : W) (x : PtnState) : (w.setPtn x).free = w.free := rfl
@[simp] theorem setPtn_mem (w : W) (x : PtnState) : (w.setPtn x).mem = w.mem := rfl
@[simp] theorem setPtn_out (w : W) (x : PtnState) : (w.setPtn x).out = w.out := rfl
@[simp] theorem setPtn_zeroed (w : W) (x : PtnState) : (w.setPtn x).zeroed = w.zeroed := rfl

/-! ## setRtc -/

@[simp] theorem setRtc_op (w : W) (x : RtcState) : (w.setRtc x).op = w.op := rfl
@[simp] theorem setRtc_regs (w : W) (x : RtcState) : (w.setRtc x).regs = w.regs := rfl
@[simp] theorem setRtc_tb (w : W) (x : RtcState) : (w.setRtc x).tb = w.tb := rfl
@[simp] theorem setRtc_irq (w : W) (x : RtcState) : (w.setRtc x).irq = w.irq := rfl
@[simp] theorem setRtc_que (w : W) (x : RtcState) : (w.setRtc x).que = w.que := rfl
@[simp] theorem setRtc_scr (w : W) (x : RtcState) : (w.setRtc x).scr = w.scr := rfl
@[simp] theorem setRtc_prf (w : W) (x : RtcState) : (w.setRtc x).prf = w.prf := rfl
@[simp] theorem setRtc_hlt (w : W) (x : RtcState) : (w.setRtc x).hlt = w.hlt := rfl
@[simp] theorem setRtc_pat (w : W) (x : RtcState) : (w.setRtc x).pat = w.pat := rfl
@[simp] theorem setRtc_net (w : W) (x : RtcState) : (w.setRtc x).net = w.net := rfl
@[simp] theorem setRtc_ing (w : W) (x : RtcState) : (w.setRtc x).ing = w.ing := rfl
@[simp] theorem setRtc_aln (w : W) (x : RtcState) : (w.setRtc x).aln = w.aln := rfl
@[simp] theorem setRtc_gan (w : W) (x : RtcState) : (w.setRtc x).gan = w.gan := rfl
@[simp] theorem setRtc_key (w : W) (x : RtcState) : (w.setRtc x).key = w.key := rfl
@[simp] theorem setRtc_cry (w : W) (x : RtcState) : (w.setRtc x).cry = w.cry := rfl
@[simp] theorem setRtc_smp (w : W) (x : RtcState) : (w.setRtc x).smp = w.smp := rfl
@[simp] theorem setRtc_lmp (w : W) (x : RtcState) : (w.setRtc x).lmp = w.lmp := rfl
@[simp] theorem setRtc_rad (w : W) (x : RtcState) : (w.setRtc x).rad = w.rad := rfl
@[simp] theorem setRtc_flt (w : W) (x : RtcState) : (w.setRtc x).flt = w.flt := rfl
@[simp] theorem setRtc_led (w : W) (x : RtcState) : (w.setRtc x).led = w.led := rfl
@[simp] theorem setRtc_mtr (w : W) (x : RtcState) : (w.setRtc x).mtr = w.mtr := rfl
@[simp] theorem setRtc_rtc (w : W) (x : RtcState) : (w.setRtc x).rtc = x := rfl
@[simp] theorem setRtc_sys (w : W) (x : RtcState) : (w.setRtc x).sys = w.sys := rfl
@[simp] theorem setRtc_lnv (w : W) (x : RtcState) : (w.setRtc x).lnv = w.lnv := rfl
@[simp] theorem setRtc_fls (w : W) (x : RtcState) : (w.setRtc x).fls = w.fls := rfl
@[simp] theorem setRtc_ptn (w : W) (x : RtcState) : (w.setRtc x).ptn = w.ptn := rfl
@[simp] theorem setRtc_resp (w : W) (x : RtcState) : (w.setRtc x).resp = w.resp := rfl
@[simp] theorem setRtc_free (w : W) (x : RtcState) : (w.setRtc x).free = w.free := rfl
@[simp] theorem setRtc_mem (w : W) (x : RtcState) : (w.setRtc x).mem = w.mem := rfl
@[simp] theorem setRtc_out (w : W) (x : RtcState) : (w.setRtc x).out = w.out := rfl
@[simp] theorem setRtc_zeroed (w : W) (x : RtcState) : (w.setRtc x).zeroed = w.zeroed := rfl

/-! ## setSmp -/

@[simp] theorem setSmp_op (w : W) (x : SmpState) : (w.setSmp x).op = w.op := rfl
@[simp] theorem setSmp_regs (w : W) (x : SmpState) : (w.setSmp x).regs = w.regs := rfl
@[simp] theorem setSmp_tb (w : W) (x : SmpState) : (w.setSmp x).tb = w.tb := rfl
@[simp] theorem setSmp_irq (w : W) (x : SmpState) : (w.setSmp x).irq = w.irq := rfl
@[simp] theorem setSmp_que (w : W) (x : SmpState) : (w.setSmp x).que = w.que := rfl
@[simp] theorem setSmp_scr (w : W) (x : SmpState) : (w.setSmp x).scr = w.scr := rfl
@[simp] theorem setSmp_prf (w : W) (x : SmpState) : (w.setSmp x).prf = w.prf := rfl
@[simp] theorem setSmp_hlt (w : W) (x : SmpState) : (w.setSmp x).hlt = w.hlt := rfl
@[simp] theorem setSmp_pat (w : W) (x : SmpState) : (w.setSmp x).pat = w.pat := rfl
@[simp] theorem setSmp_net (w : W) (x : SmpState) : (w.setSmp x).net = w.net := rfl
@[simp] theorem setSmp_ing (w : W) (x : SmpState) : (w.setSmp x).ing = w.ing := rfl
@[simp] theorem setSmp_aln (w : W) (x : SmpState) : (w.setSmp x).aln = w.aln := rfl
@[simp] theorem setSmp_gan (w : W) (x : SmpState) : (w.setSmp x).gan = w.gan := rfl
@[simp] theorem setSmp_key (w : W) (x : SmpState) : (w.setSmp x).key = w.key := rfl
@[simp] theorem setSmp_cry (w : W) (x : SmpState) : (w.setSmp x).cry = w.cry := rfl
@[simp] theorem setSmp_smp (w : W) (x : SmpState) : (w.setSmp x).smp = x := rfl
@[simp] theorem setSmp_lmp (w : W) (x : SmpState) : (w.setSmp x).lmp = w.lmp := rfl
@[simp] theorem setSmp_rad (w : W) (x : SmpState) : (w.setSmp x).rad = w.rad := rfl
@[simp] theorem setSmp_flt (w : W) (x : SmpState) : (w.setSmp x).flt = w.flt := rfl
@[simp] theorem setSmp_led (w : W) (x : SmpState) : (w.setSmp x).led = w.led := rfl
@[simp] theorem setSmp_mtr (w : W) (x : SmpState) : (w.setSmp x).mtr = w.mtr := rfl
@[simp] theorem setSmp_rtc (w : W) (x : SmpState) : (w.setSmp x).rtc = w.rtc := rfl
@[simp] theorem setSmp_sys (w : W) (x : SmpState) : (w.setSmp x).sys = w.sys := rfl
@[simp] theorem setSmp_lnv (w : W) (x : SmpState) : (w.setSmp x).lnv = w.lnv := rfl
@[simp] theorem setSmp_fls (w : W) (x : SmpState) : (w.setSmp x).fls = w.fls := rfl
@[simp] theorem setSmp_ptn (w : W) (x : SmpState) : (w.setSmp x).ptn = w.ptn := rfl
@[simp] theorem setSmp_resp (w : W) (x : SmpState) : (w.setSmp x).resp = w.resp := rfl
@[simp] theorem setSmp_free (w : W) (x : SmpState) : (w.setSmp x).free = w.free := rfl
@[simp] theorem setSmp_mem (w : W) (x : SmpState) : (w.setSmp x).mem = w.mem := rfl
@[simp] theorem setSmp_out (w : W) (x : SmpState) : (w.setSmp x).out = w.out := rfl
@[simp] theorem setSmp_zeroed (w : W) (x : SmpState) : (w.setSmp x).zeroed = w.zeroed := rfl

/-! ## setSys -/

@[simp] theorem setSys_op (w : W) (x : SysState) : (w.setSys x).op = w.op := rfl
@[simp] theorem setSys_regs (w : W) (x : SysState) : (w.setSys x).regs = w.regs := rfl
@[simp] theorem setSys_tb (w : W) (x : SysState) : (w.setSys x).tb = w.tb := rfl
@[simp] theorem setSys_irq (w : W) (x : SysState) : (w.setSys x).irq = w.irq := rfl
@[simp] theorem setSys_que (w : W) (x : SysState) : (w.setSys x).que = w.que := rfl
@[simp] theorem setSys_scr (w : W) (x : SysState) : (w.setSys x).scr = w.scr := rfl
@[simp] theorem setSys_prf (w : W) (x : SysState) : (w.setSys x).prf = w.prf := rfl
@[simp] theorem setSys_hlt (w : W) (x : SysState) : (w.setSys x).hlt = w.hlt := rfl
@[simp] theorem setSys_pat (w : W) (x : SysState) : (w.setSys x).pat = w.pat := rfl
@[simp] theorem setSys_net (w : W) (x : SysState) : (w.setSys x).net = w.net := rfl
@[simp] theorem setSys_ing (w : W) (x : SysState) : (w.setSys x).ing = w.ing := rfl
@[simp] theorem setSys_aln (w : W) (x : SysState) : (w.setSys x).aln = w.aln := rfl
@[simp] theorem setSys_gan (w : W) (x : SysState) : (w.setSys x).gan = w.gan := rfl
@[simp] theorem setSys_key (w : W) (x : SysState) : (w.setSys x).key = w.key := rfl
@[simp] theorem setSys_cry (w : W) (x : SysState) : (w.setSys x).cry = w.cry := rfl
@[simp] theorem setSys_smp (w : W) (x : SysState) : (w.setSys x).smp = w.smp := rfl
@[simp] theorem setSys_lmp (w : W) (x : SysState) : (w.setSys x).lmp = w.lmp := rfl
@[simp] theorem setSys_rad (w : W) (x : SysState) : (w.setSys x).rad = w.rad := rfl
@[simp] theorem setSys_flt (w : W) (x : SysState) : (w.setSys x).flt = w.flt := rfl
@[simp] theorem setSys_led (w : W) (x : SysState) : (w.setSys x).led = w.led := rfl
@[simp] theorem setSys_mtr (w : W) (x : SysState) : (w.setSys x).mtr = w.mtr := rfl
@[simp] theorem setSys_rtc (w : W) (x : SysState) : (w.setSys x).rtc = w.rtc := rfl
@[simp] theorem setSys_sys (w : W) (x : SysState) : (w.setSys x).sys = x := rfl
@[simp] theorem setSys_lnv (w : W) (x : SysState) : (w.setSys x).lnv = w.lnv := rfl
@[simp] theorem setSys_fls (w : W) (x : SysState) : (w.setSys x).fls = w.fls := rfl
@[simp] theorem setSys_ptn (w : W) (x : SysState) : (w.setSys x).ptn = w.ptn := rfl
@[simp] theorem setSys_resp (w : W) (x : SysState) : (w.setSys x).resp = w.resp := rfl
@[simp] theorem setSys_free (w : W) (x : SysState) : (w.setSys x).free = w.free := rfl
@[simp] theorem setSys_mem (w : W) (x : SysState) : (w.setSys x).mem = w.mem := rfl
@[simp] theorem setSys_out (w : W) (x : SysState) : (w.setSys x).out = w.out := rfl
@[simp] theorem setSys_zeroed (w : W) (x : SysState) : (w.setSys x).zeroed = w.zeroed := rfl

/-! ## setTb -/

@[simp] theorem setTb_op (w : W) (x : TbState) : (w.setTb x).op = w.op := rfl
@[simp] theorem setTb_regs (w : W) (x : TbState) : (w.setTb x).regs = w.regs := rfl
@[simp] theorem setTb_tb (w : W) (x : TbState) : (w.setTb x).tb = x := rfl
@[simp] theorem setTb_irq (w : W) (x : TbState) : (w.setTb x).irq = w.irq := rfl
@[simp] theorem setTb_que (w : W) (x : TbState) : (w.setTb x).que = w.que := rfl
@[simp] theorem setTb_scr (w : W) (x : TbState) : (w.setTb x).scr = w.scr := rfl
@[simp] theorem setTb_prf (w : W) (x : TbState) : (w.setTb x).prf = w.prf := rfl
@[simp] theorem setTb_hlt (w : W) (x : TbState) : (w.setTb x).hlt = w.hlt := rfl
@[simp] theorem setTb_pat (w : W) (x : TbState) : (w.setTb x).pat = w.pat := rfl
@[simp] theorem setTb_net (w : W) (x : TbState) : (w.setTb x).net = w.net := rfl
@[simp] theorem setTb_ing (w : W) (x : TbState) : (w.setTb x).ing = w.ing := rfl
@[simp] theorem setTb_aln (w : W) (x : TbState) : (w.setTb x).aln = w.aln := rfl
@[simp] theorem setTb_gan (w : W) (x : TbState) : (w.setTb x).gan = w.gan := rfl
@[simp] theorem setTb_key (w : W) (x : TbState) : (w.setTb x).key = w.key := rfl
@[simp] theorem setTb_cry (w : W) (x : TbState) : (w.setTb x).cry = w.cry := rfl
@[simp] theorem setTb_smp (w : W) (x : TbState) : (w.setTb x).smp = w.smp := rfl
@[simp] theorem setTb_lmp (w : W) (x : TbState) : (w.setTb x).lmp = w.lmp := rfl
@[simp] theorem setTb_rad (w : W) (x : TbState) : (w.setTb x).rad = w.rad := rfl
@[simp] theorem setTb_flt (w : W) (x : TbState) : (w.setTb x).flt = w.flt := rfl
@[simp] theorem setTb_led (w : W) (x : TbState) : (w.setTb x).led = w.led := rfl
@[simp] theorem setTb_mtr (w : W) (x : TbState) : (w.setTb x).mtr = w.mtr := rfl
@[simp] theorem setTb_rtc (w : W) (x : TbState) : (w.setTb x).rtc = w.rtc := rfl
@[simp] theorem setTb_sys (w : W) (x : TbState) : (w.setTb x).sys = w.sys := rfl
@[simp] theorem setTb_lnv (w : W) (x : TbState) : (w.setTb x).lnv = w.lnv := rfl
@[simp] theorem setTb_fls (w : W) (x : TbState) : (w.setTb x).fls = w.fls := rfl
@[simp] theorem setTb_ptn (w : W) (x : TbState) : (w.setTb x).ptn = w.ptn := rfl
@[simp] theorem setTb_resp (w : W) (x : TbState) : (w.setTb x).resp = w.resp := rfl
@[simp] theorem setTb_free (w : W) (x : TbState) : (w.setTb x).free = w.free := rfl
@[simp] theorem setTb_mem (w : W) (x : TbState) : (w.setTb x).mem = w.mem := rfl
@[simp] theorem setTb_out (w : W) (x : TbState) : (w.setTb x).out = w.out := rfl
@[simp] theorem setTb_zeroed (w : W) (x : TbState) : (w.setTb x).zeroed = w.zeroed := rfl

/-! ## ofState -/

@[simp] theorem ofState_op (s : State) : (W.ofState s).op = s.dev.op := rfl
@[simp] theorem ofState_regs (s : State) : (W.ofState s).regs = s.dev.regs := rfl
@[simp] theorem ofState_tb (s : State) : (W.ofState s).tb = s.dev.tb := rfl
@[simp] theorem ofState_irq (s : State) : (W.ofState s).irq = s.dev.irq := rfl
@[simp] theorem ofState_que (s : State) : (W.ofState s).que = s.dev.que := rfl
@[simp] theorem ofState_scr (s : State) : (W.ofState s).scr = s.dev.scr := rfl
@[simp] theorem ofState_prf (s : State) : (W.ofState s).prf = s.dev.prf := rfl
@[simp] theorem ofState_hlt (s : State) : (W.ofState s).hlt = s.dev.hlt := rfl
@[simp] theorem ofState_pat (s : State) : (W.ofState s).pat = s.dev.pat := rfl
@[simp] theorem ofState_net (s : State) : (W.ofState s).net = s.dev.net := rfl
@[simp] theorem ofState_ing (s : State) : (W.ofState s).ing = s.dev.ing := rfl
@[simp] theorem ofState_aln (s : State) : (W.ofState s).aln = s.dev.aln := rfl
@[simp] theorem ofState_gan (s : State) : (W.ofState s).gan = s.dev.gan := rfl
@[simp] theorem ofState_key (s : State) : (W.ofState s).key = s.dev.key := rfl
@[simp] theorem ofState_cry (s : State) : (W.ofState s).cry = s.dev.cry := rfl
@[simp] theorem ofState_smp (s : State) : (W.ofState s).smp = s.dev.smp := rfl
@[simp] theorem ofState_lmp (s : State) : (W.ofState s).lmp = s.dev.lmp := rfl
@[simp] theorem ofState_rad (s : State) : (W.ofState s).rad = s.dev.rad := rfl
@[simp] theorem ofState_flt (s : State) : (W.ofState s).flt = s.dev.flt := rfl
@[simp] theorem ofState_led (s : State) : (W.ofState s).led = s.dev.led := rfl
@[simp] theorem ofState_mtr (s : State) : (W.ofState s).mtr = s.dev.mtr := rfl
@[simp] theorem ofState_rtc (s : State) : (W.ofState s).rtc = s.dev.rtc := rfl
@[simp] theorem ofState_sys (s : State) : (W.ofState s).sys = s.dev.sys := rfl
@[simp] theorem ofState_lnv (s : State) : (W.ofState s).lnv = s.dev.lnv := rfl
@[simp] theorem ofState_fls (s : State) : (W.ofState s).fls = s.dev.fls := rfl
@[simp] theorem ofState_ptn (s : State) : (W.ofState s).ptn = s.dev.ptn := rfl
@[simp] theorem ofState_resp (s : State) : (W.ofState s).resp = s.dev.resp := rfl
@[simp] theorem ofState_free (s : State) : (W.ofState s).free = s.dev.free := rfl
@[simp] theorem ofState_mem (s : State) : (W.ofState s).mem = s.mem := rfl
@[simp] theorem ofState_out (s : State) : (W.ofState s).out = [] := rfl
@[simp] theorem ofState_zeroed (s : State) : (W.ofState s).zeroed = false := rfl

/-- Bytes stored change no device. -/
theorem wrBytes_toDev (w : W) (a : Nat) (b : List Byte) : (w.wrBytes a b).toDev = w.toDev := by
  induction b generalizing w a with
  | nil => rfl
  | cons x t ih => exact (ih (w.wr8 a x) (a + 1)).trans rfl

theorem wrBytes_mem (w : W) (a : Nat) (b : List Byte) : (w.wrBytes a b).mem = w.mem := by
  induction b generalizing w a with
  | nil => rfl
  | cons x t ih => exact (ih (w.wr8 a x) (a + 1)).trans rfl

theorem wrBytes_zeroed (w : W) (a : Nat) (b : List Byte) : (w.wrBytes a b).zeroed = w.zeroed := by
  induction b generalizing w a with
  | nil => rfl
  | cons x t ih => exact (ih (w.wr8 a x) (a + 1)).trans rfl

/-- Bytes stored from `a` on lie at `a` and the addresses that follow. -/
theorem mem_wrBytes_out {w : W} {a : Nat} {b : List Byte} {e : Nat × Byte} (h : e ∈ (w.wrBytes a b).out) :
    e ∈ w.out ∨ (a ≤ e.1 ∧ e.1 < a + b.length) := by
  induction b generalizing w a with
  | nil => exact .inl h
  | cons x t ih =>
    rcases ih (w := w.wr8 a x) (a := a + 1) h with h | ⟨h1, h2⟩
    · rw [wr8_out] at h
      rcases List.mem_cons.1 h with rfl | h
      · exact .inr ⟨Nat.le_refl _, by simp⟩
      · exact .inl h
    · refine .inr ⟨by omega, ?_⟩
      simp only [List.length_cons]
      omega

end Sys2Proof.Machine.W
end

