-- ==== Sys2Proof/Laws/Table.lean ====
section
/-! SUPPORT. Laws of sorted tables, of memory and of the register file. -/

namespace Sys2Proof.Machine

/-! ## Tables -/

@[simp] theorem tblGet_nil {α : Type} (k : Nat) : tblGet ([] : List (Nat × α)) k = none := rfl

@[simp] theorem tblGet_tblPut_same {α : Type} (k : Nat) (v : α) (t : List (Nat × α)) : tblGet (tblPut k v t) k = some v := by
  induction t with
  | nil => simp [tblPut, tblGet]
  | cons e t ih =>
    obtain ⟨j, u⟩ := e
    simp only [tblPut]
    split
    · simp only [tblGet, if_neg (by omega : ¬ j = k), ih]
    · split <;> simp [tblGet]

theorem tblGet_tblPut_other {α : Type} {k j : Nat} (v : α) (t : List (Nat × α)) (h : k ≠ j) :
    tblGet (tblPut k v t) j = tblGet t j := by
  induction t with
  | nil => simp [tblPut, tblGet, h]
  | cons e t ih =>
    obtain ⟨i, u⟩ := e
    simp only [tblPut]
    split
    · simp only [tblGet, ih]
    · split
      · rename_i hi
        simp only [tblGet, if_neg h, if_neg (hi ▸ h : ¬ i = j)]
      · simp only [tblGet, if_neg h]

theorem tblGet_tblDel_other {α : Type} {k j : Nat} (t : List (Nat × α)) (h : k ≠ j) :
    tblGet (tblDel k t) j = tblGet t j := by
  induction t with
  | nil => rfl
  | cons e t ih =>
    obtain ⟨i, u⟩ := e
    simp only [tblDel]
    split
    · rename_i hi
      simp only [tblGet, ih, if_neg (hi ▸ h : ¬ i = j)]
    · simp only [tblGet, ih]

@[simp] theorem tblGet_tblDel_same {α : Type} (k : Nat) (t : List (Nat × α)) : tblGet (tblDel k t) k = none := by
  induction t with
  | nil => rfl
  | cons e t ih =>
    obtain ⟨i, u⟩ := e
    simp only [tblDel]
    split
    · exact ih
    · rename_i hi
      simp only [tblGet, if_neg hi, ih]

/-- Keys strictly rising, as a property of every pair. -/
theorem tblRising_iff {α : Type} (t : List (Nat × α)) : tblRising t = true ↔ t.Pairwise (fun a b => a.1 < b.1) := by
  induction t with
  | nil => simp [tblRising]
  | cons e t ih =>
    obtain ⟨j, u⟩ := e
    cases t with
    | nil => simp [tblRising]
    | cons e2 t =>
      obtain ⟨k, v⟩ := e2
      simp only [tblRising, Bool.and_eq_true, decide_eq_true_eq, ih]
      constructor
      · intro ⟨h, p⟩
        refine List.pairwise_cons.2 ⟨?_, p⟩
        intro x hx
        rcases List.mem_cons.1 hx with rfl | hx
        · exact h
        · exact Nat.lt_trans h ((List.pairwise_cons.1 p).1 x hx)
      · intro p
        exact ⟨(List.pairwise_cons.1 p).1 _ (List.mem_cons_self ..), (List.pairwise_cons.1 p).2⟩

theorem mem_tblPut {α : Type} {k : Nat} {v : α} {t : List (Nat × α)} {x : Nat × α} (h : x ∈ tblPut k v t) :
    x = (k, v) ∨ x ∈ t := by
  induction t with
  | nil => simpa [tblPut] using h
  | cons e t ih =>
    obtain ⟨j, u⟩ := e
    simp only [tblPut] at h
    split at h
    · rcases List.mem_cons.1 h with h | h
      · exact .inr (h ▸ List.mem_cons_self ..)
      · exact (ih h).imp id (List.mem_cons_of_mem _)
    · split at h
      · exact (List.mem_cons.1 h).imp id (List.mem_cons_of_mem _)
      · exact List.mem_cons.1 h

theorem tblDel_sublist {α : Type} (k : Nat) (t : List (Nat × α)) : (tblDel k t).Sublist t := by
  induction t with
  | nil => exact .slnil
  | cons e t ih =>
    obtain ⟨j, u⟩ := e
    simp only [tblDel]
    split
    · exact ih.cons _
    · exact ih.cons₂ _

theorem tblRising_tblPut {α : Type} {k : Nat} {v : α} {t : List (Nat × α)} (h : tblRising t = true) :
    tblRising (tblPut k v t) = true := by
  rw [tblRising_iff] at h ⊢
  induction t with
  | nil => simp [tblPut]
  | cons e t ih =>
    obtain ⟨j, u⟩ := e
    obtain ⟨hl, ht⟩ := List.pairwise_cons.1 h
    simp only [tblPut]
    split
    · refine List.pairwise_cons.2 ⟨fun x hx => ?_, ih ht⟩
      rcases mem_tblPut hx with rfl | hx
      · assumption
      · exact hl x hx
    · split
      · rename_i hj
        exact List.pairwise_cons.2 ⟨fun x hx => hj ▸ hl x hx, ht⟩
      · refine List.pairwise_cons.2 ⟨fun x hx => ?_, h⟩
        rcases List.mem_cons.1 hx with rfl | hx
        · show k < j; omega
        · exact Nat.lt_of_le_of_lt (by omega : k ≤ j) (hl x hx)

theorem tblRising_sublist {α : Type} {s t : List (Nat × α)} (h : s.Sublist t) (r : tblRising t = true) :
    tblRising s = true := by
  rw [tblRising_iff] at r ⊢
  exact r.sublist h

/-! ## Memory -/

theorem Mem.wf_iff (m : Mem) : Mem.wf m = true ↔ tblRising m = true ∧ ∀ e ∈ m, e.2 ≠ 0 := by
  simp [Mem.wf]

theorem Mem.wf_nil : Mem.wf [] = true := rfl

/-- A byte stored keeps the canonical form. -/
theorem Mem.wf_wr {m : Mem} (a : Nat) (b : Byte) (h : Mem.wf m = true) : Mem.wf (m.wr a b) = true := by
  rw [wf_iff] at h ⊢
  unfold Mem.wr
  split
  · exact ⟨tblRising_sublist (tblDel_sublist a m) h.1, fun e he => h.2 e ((tblDel_sublist a m).subset he)⟩
  · refine ⟨tblRising_tblPut h.1, fun e he => ?_⟩
    rcases mem_tblPut he with rfl | he
    · assumption
    · exact h.2 e he

/-- Stores applied in order keep the canonical form. -/
theorem Mem.wf_wrAll {m : Mem} (ws : List (Nat × Byte)) (h : Mem.wf m = true) : Mem.wf (m.wrAll ws) = true := by
  induction ws with
  | nil => exact h
  | cons e t ih => exact Mem.wf_wr e.1 e.2 ih

/-- DRAM and SRAM zeroed keep the canonical form. -/
theorem Mem.wf_clearRam {m : Mem} (h : Mem.wf m = true) : Mem.wf m.clearRam = true := by
  rw [wf_iff] at h ⊢
  exact ⟨tblRising_sublist List.filter_sublist h.1, fun e he => h.2 e (List.mem_filter.1 he).1⟩

/-- A read after a write to the same address. -/
@[simp] theorem Mem.rd_wr_same (m : Mem) (a : Nat) (b : Byte) : (m.wr a b).rd a = b := by
  unfold Mem.wr Mem.rd
  split <;> simp_all

/-- A write leaves every other address alone. -/
theorem Mem.rd_wr_other {m : Mem} {a x : Nat} (b : Byte) (h : a ≠ x) : (m.wr a b).rd x = m.rd x := by
  unfold Mem.wr Mem.rd
  split
  · rw [tblGet_tblDel_other m h]
  · rw [tblGet_tblPut_other b m h]

/-- Stores leave every address none of them names alone. -/
theorem Mem.rd_wrAll_other {m : Mem} {x : Nat} (ws : List (Nat × Byte)) (h : ∀ e ∈ ws, e.1 ≠ x) :
    (m.wrAll ws).rd x = m.rd x := by
  induction ws with
  | nil => rfl
  | cons e t ih =>
    exact (Mem.rd_wr_other e.2 (h e (List.mem_cons_self ..))).trans (ih (fun y hy => h y (List.mem_cons_of_mem _ hy)))

@[simp] theorem Mem.wrAll_nil (m : Mem) : m.wrAll [] = m := rfl

/-! ## Registers -/

@[simp] theorem Regs.rd_nil (a : Nat) : Regs.rd [] a = resetOf a := rfl

@[simp] theorem Regs.rd_wr_same (rs : Regs) (a : Nat) (v : W32) : (rs.wr a v).rd a = v := by
  simp [Regs.wr, Regs.rd]

theorem Regs.rd_wr_other {rs : Regs} {a x : Nat} (v : W32) (h : a ≠ x) : (rs.wr a v).rd x = rs.rd x := by
  simp only [Regs.wr, Regs.rd, tblGet_tblPut_other v rs h]

/-- A field set leaves every bit outside it alone. -/
theorem fldPut_getLsbD_other {w : W32} {lo width n b : Nat} (h : ¬ (lo ≤ b ∧ b < lo + width)) :
    (fldPut w lo width n).getLsbD b = w.getLsbD b := by
  unfold fldPut
  by_cases hb : b < 32
  · by_cases hl : b < lo
    · simp [BitVec.getLsbD_or, BitVec.getLsbD_and, BitVec.getLsbD_not, BitVec.getLsbD_shiftLeft, hb, hl]
    · have hw : ¬ b - lo < width := by omega
      simp [BitVec.getLsbD_or, BitVec.getLsbD_and, BitVec.getLsbD_not, BitVec.getLsbD_shiftLeft, BitVec.getLsbD_setWidth,
        BitVec.getLsbD_allOnes, hb, hl, hw, BitVec.getLsbD_of_ge _ _ (by omega : width ≤ b - lo)]
  · simp [BitVec.getLsbD_of_ge _ _ (by omega : 32 ≤ b)]

/-- A field set changes the bits of that field only. -/
theorem Regs.put_bit_other {rs : Regs} {f : Fld} {n a b : Nat} (h : ¬ (a = f.addr ∧ f.lo ≤ b ∧ b < f.lo + f.width)) :
    ((rs.put f n).rd a).getLsbD b = (rs.rd a).getLsbD b := by
  unfold Regs.put
  by_cases ha : f.addr = a
  · subst ha
    rw [Regs.rd_wr_same, fldPut_getLsbD_other (fun c => h ⟨rfl, c⟩)]
  · rw [Regs.rd_wr_other _ ha]

/-- A field set reads as the low bits it was given. -/
theorem fldOf_fldPut {w : W32} {lo width n : Nat} (h : lo + width ≤ 32) : fldOf (fldPut w lo width n) lo width = n % 2 ^ width := by
  unfold fldOf fldPut
  rw [← BitVec.toNat_ofNat]
  congr 1
  apply BitVec.eq_of_getLsbD_eq
  intro i hi
  have h1 : lo + i < 32 := by omega
  have h2 : ¬ lo + i < lo := by omega
  have h3 : lo + i - lo = i := by omega
  have h4 : i < 32 := by omega
  simp [BitVec.getLsbD_extractLsb', BitVec.getLsbD_or, BitVec.getLsbD_and, BitVec.getLsbD_not, BitVec.getLsbD_shiftLeft,
    BitVec.getLsbD_setWidth, BitVec.getLsbD_allOnes, hi, h1, h2, h3, h4]

theorem Regs.fld_put_same {rs : Regs} {f : Fld} {n : Nat} (h : f.lo + f.width ≤ 32) : (rs.put f n).fld f = n % 2 ^ f.width := by
  unfold Regs.put Regs.fld
  rw [Regs.rd_wr_same, fldOf_fldPut h]

/-- A field keeps its value when a field that shares no bit with it is set. -/
theorem Regs.fld_put_other {rs : Regs} {f g : Fld} {n : Nat}
    (h : f.addr ≠ g.addr ∨ f.lo + f.width ≤ g.lo ∨ g.lo + g.width ≤ f.lo) : (rs.put f n).fld g = rs.fld g := by
  unfold Regs.fld fldOf
  congr 1
  apply BitVec.eq_of_getLsbD_eq
  intro i hi
  simp only [BitVec.getLsbD_extractLsb', hi, decide_true, Bool.true_and]
  exact Regs.put_bit_other (by omega)

end Sys2Proof.Machine
end

