-- ==== Sys2Proof/Laws/Run.lean ====
section
/-! SUPPORT. What the forms of a meaning answer: the queue as it was, memory in canonical form, and a refusal exactly
where a command is ill formed. -/

namespace Sys2Proof.Machine

/-! ## run -/

/-- A well-formed command answers a next state. -/
theorem run_true (name : String) (f : W → W) (s : State) :
    run true name f s = .next { s with
      dev := (f (W.ofState s)).toDev
      mem := (if (f (W.ofState s)).zeroed then s.mem.clearRam else s.mem).wrAll (f (W.ofState s)).out } := rfl

theorem run_false (name : String) (f : W → W) (s : State) : run false name f s = .refused (.illFormed name) := rfl

/-- Everything `run` can do. -/
theorem run_cases {ok : Bool} {name : String} {f : W → W} {s t : State} (h : run ok name f s = .next t) :
    ok = true ∧ t.pending = s.pending ∧ t.dev = (f (W.ofState s)).toDev ∧
      t.mem = (if (f (W.ofState s)).zeroed then s.mem.clearRam else s.mem).wrAll (f (W.ofState s)).out := by
  cases ok with
  | false => simp [run] at h
  | true =>
    rw [run_true] at h
    cases h
    exact ⟨rfl, rfl, rfl, rfl⟩

theorem run_pending {ok : Bool} {name : String} {f : W → W} {s t : State} (h : run ok name f s = .next t) :
    t.pending = s.pending := (run_cases h).2.1

theorem run_canonical {ok : Bool} {name : String} {f : W → W} {s t : State} (hs : s.canonical = true)
    (h : run ok name f s = .next t) : t.canonical = true := by
  obtain ⟨-, -, -, hm⟩ := run_cases h
  unfold State.canonical
  rw [hm]
  apply Mem.wf_wrAll
  split
  · exact Mem.wf_clearRam hs
  · exact hs

/-- A command that stores nothing and zeroes nothing leaves memory as it was. -/
theorem run_mem {ok : Bool} {name : String} {f : W → W} {s t : State} (h : run ok name f s = .next t)
    (ho : (f (W.ofState s)).out = []) (hz : (f (W.ofState s)).zeroed = false) : t.mem = s.mem := by
  rw [(run_cases h).2.2.2, ho, hz]
  rfl

/-- Where a command stores, every byte it does not name reads as before. -/
theorem run_memOutside {ok : Bool} {name : String} {f : W → W} {s t : State} {p : Nat → Prop} (h : run ok name f s = .next t)
    (ho : ∀ e ∈ (f (W.ofState s)).out, p e.1) (hz : (f (W.ofState s)).zeroed = false) : s.MemOutside t p := by
  intro x hx
  rw [(run_cases h).2.2.2, hz]
  exact Mem.rd_wrAll_other _ (fun e he hex => hx (hex ▸ ho e he))

/-! ## runL -/

/-- A write or read by the lanes is a run. -/
theorem runL_eq (ok : Bool) (name : String) (f : W → W) (s : State) :
    runL ok name f s = run ok name (fun w => if w.lanesRun then f w else w) s := rfl

/-- While no lane runs, a well-formed write or read by the lanes leaves the state as it was. -/
theorem runL_stopped {name : String} {f : W → W} {s : State} (h : ¬ s.lanes) : runL true name f s = .next s := by
  rw [runL_eq, run_true]
  have hl : (W.ofState s).lanesRun = false := by
    cases hb : (W.ofState s).lanesRun with
    | false => rfl
    | true => exact absurd hb h
  simp only [hl]
  rfl

/-- While a lane runs, it has its effect. -/
theorem runL_running {ok : Bool} {name : String} {f : W → W} {s : State} (h : s.lanes) :
    runL ok name f s = run ok name f s := by
  have hl : (W.ofState s).lanesRun = true := h
  rw [runL_eq]
  cases ok with
  | false => rfl
  | true => rw [run_true, run_true]; simp only [hl, if_true]

theorem lanesOn_iff (s : State) : lanesOn s = true ↔ s.lanes := Iff.rfl

/-! ## andThen -/

/-- Two meanings in turn answer a next state exactly where both do. -/
theorem andThen_next {o : Host.Outcome State Fault Refusal} {f : State → Host.Outcome State Fault Refusal} {t : State} :
    andThen o f = .next t ↔ ∃ u, o = .next u ∧ f u = .next t := by
  cases o <;> simp [andThen]

@[simp] theorem andThen_of_next (u : State) (f : State → Host.Outcome State Fault Refusal) : andThen (.next u) f = f u := rfl

end Sys2Proof.Machine
end

