-- ==== Sys2Proof/Laws/Frame.lean ====
section
/-! SUPPORT. What each shared operation leaves alone: one lemma per operation, in a form that chains. -/

namespace Sys2Proof.Machine

/-- From `w` to `v` only the parts `ps`, the fields `fs` and the fields of the arrays `gs` may have changed, and nothing
is stored. -/
structure W.Keeps (w v : W) (ps : List Part) (fs : List Fld) (gs : List (Nat → Fld)) : Prop where
  parts : ∀ p : Part, p ∉ ps → p.same w.toDev v.toDev
  bits : ∀ a b : Nat, (∀ f ∈ fs, ¬ f.covers a b) → (∀ g ∈ gs, ∀ k : Nat, ¬ (g k).covers a b) →
    (v.regs.rd a).getLsbD b = (w.regs.rd a).getLsbD b
  out : v.out = w.out
  zeroed : v.zeroed = w.zeroed
  mem : v.mem = w.mem

theorem Part.same_refl (p : Part) (d : Dev) : p.same d d := by cases p <;> rfl

theorem Part.same_trans {p : Part} {d e f : Dev} (h : p.same d e) (k : p.same e f) : p.same d f := by
  cases p <;> exact Eq.trans k h

namespace W.Keeps

variable {w v u : W} {ps : List Part} {fs : List Fld} {gs : List (Nat → Fld)}

theorem refl (w : W) : w.Keeps w ps fs gs :=
  ⟨fun p _ => p.same_refl _, fun _ _ _ _ => rfl, rfl, rfl, rfl⟩

theorem trans (h : w.Keeps v ps fs gs) (k : v.Keeps u ps fs gs) : w.Keeps u ps fs gs :=
  ⟨fun p hp => Part.same_trans (h.parts p hp) (k.parts p hp), fun a b hf hg => (k.bits a b hf hg).trans (h.bits a b hf hg),
    k.out.trans h.out, k.zeroed.trans h.zeroed, k.mem.trans h.mem⟩

theorem mono {ps' : List Part} {fs' : List Fld} {gs' : List (Nat → Fld)} (h : w.Keeps v ps fs gs)
    (hp : ∀ p ∈ ps, p ∈ ps') (hf : ∀ f ∈ fs, f ∈ fs') (hg : ∀ g ∈ gs, g ∈ gs') : w.Keeps v ps' fs' gs' :=
  ⟨fun p n => h.parts p (fun m => n (hp p m)), fun a b n m => h.bits a b (fun f i => n f (hf f i)) (fun g i => m g (hg g i)),
    h.out, h.zeroed, h.mem⟩

/-- Either branch of a condition. -/
theorem ite {c : Prop} [Decidable c] (h : w.Keeps v ps fs gs) (k : w.Keeps u ps fs gs) :
    w.Keeps (if c then v else u) ps fs gs := by
  split
  · exact h
  · exact k

/-- A fold of steps each of which keeps them. -/
theorem foldl {α : Type} {f : W → α → W} (h : ∀ (x : W) (e : α), x.Keeps (f x e) ps fs gs) (l : List α) (w : W) :
    w.Keeps (l.foldl f w) ps fs gs := by
  induction l generalizing w with
  | nil => exact refl w
  | cons e t ih => exact (h w e).trans (ih (f w e))

/-! ## The shared operations -/

/-- A field set, where the field is one that may change. -/
theorem set {f : Fld} (n : Nat) (h : f ∈ fs ∨ ∃ g ∈ gs, ∃ k, g k = f) : w.Keeps (w.set f n) ps fs gs where
  parts p _ := by cases p <;> rfl
  bits a b hf hg := Regs.put_bit_other (fun c => by
    rcases h with h | ⟨g, hm, k, rfl⟩
    · exact hf f h c
    · exact hg g hm k c)
  out := rfl
  zeroed := rfl
  mem := rfl

theorem setB {f : Fld} (b : Bool) (h : f ∈ fs ∨ ∃ g ∈ gs, ∃ k, g k = f) : w.Keeps (w.setB f b) ps fs gs :=
  set _ h

theorem bump {f : Fld} (n : Nat) (h : f ∈ fs ∨ ∃ g ∈ gs, ∃ k, g k = f) : w.Keeps (w.bump f n) ps fs gs :=
  set (min (w.regs.fld f + n) (2 ^ f.width - 1)) h

theorem answer (n : Nat) (h : .resp ∈ ps) : w.Keeps (w.answer n) ps fs gs where
  parts p hp := by cases p <;> first | rfl | exact absurd h hp
  bits _ _ _ _ := rfl
  out := rfl
  zeroed := rfl
  mem := rfl

theorem accessFault (h : .resp ∈ ps) : w.Keeps w.accessFault ps fs gs where
  parts p hp := by cases p <;> first | rfl | exact absurd h hp
  bits _ _ _ _ := rfl
  out := rfl
  zeroed := rfl
  mem := rfl

theorem draw (h : .free ∈ ps) : w.Keeps w.draw ps fs gs where
  parts p hp := by cases p <;> first | rfl | exact absurd h hp
  bits _ _ _ _ := rfl
  out := rfl
  zeroed := rfl
  mem := rfl

theorem raise (source param : Nat) (h : .irq ∈ ps) : w.Keeps (w.raise source param) ps fs gs where
  parts p hp := by cases p <;> first | rfl | exact absurd h hp
  bits _ _ _ _ := rfl
  out := rfl
  zeroed := rfl
  mem := rfl

/-- An event sets its bit and raises its source. -/
theorem ev {f : Fld} (param : Nat) (hi : .irq ∈ ps) (h : f ∈ fs ∨ ∃ g ∈ gs, ∃ k, g k = f) :
    w.Keeps (w.ev f param) ps fs gs := by
  unfold W.ev
  exact ite (refl w) ((set 1 h).trans (raise _ _ hi))

/-- A setting that changes. -/
theorem dirty (hs : .sys ∈ ps) (hf : SYS_STATUS_settings_dirty ∈ fs) : w.Keeps w.dirty ps fs gs := by
  unfold W.dirty
  split
  · exact refl w
  · refine trans (v := { w with sys := { w.sys with dirtyUp := some w.tb.up } }) ?_ (set 1 (.inl hf))
    exact ⟨fun p hp => by cases p <;> first | rfl | exact absurd hs hp, fun _ _ _ _ => rfl, rfl, rfl, rfl⟩

theorem tallySel (k n : Nat) (hi : .irq ∈ ps) (hp : .prf ∈ ps) (hf : PRF_EVENT_sel_limit ∈ fs) :
    w.Keeps (w.tallySel k n) ps fs gs := by
  unfold W.tallySel
  refine ite ?_ ?_
  · refine trans ?_ (ev k hi (.inl hf))
    exact ⟨fun p hn => by cases p <;> first | rfl | exact absurd hp hn, fun _ _ _ _ => rfl, rfl, rfl, rfl⟩
  · exact ⟨fun p hn => by cases p <;> first | rfl | exact absurd hp hn, fun _ _ _ _ => rfl, rfl, rfl, rfl⟩

/-- A count changes the counters, and the event of a limit. -/
theorem tallyN (e n : Nat) (hi : .irq ∈ ps) (hp : .prf ∈ ps) (hf : PRF_EVENT_sel_limit ∈ fs) :
    w.Keeps (w.tallyN e n) ps fs gs := by
  unfold W.tallyN
  refine ite (refl w) (trans (v := { w with prf := { w.prf with
      cnt := tblPut e (((tblGet w.prf.cnt e).getD 0 + n) % 2 ^ 64) w.prf.cnt } }) ?_ ?_)
  · exact ⟨fun p hn => by cases p <;> first | rfl | exact absurd hp hn, fun _ _ _ _ => rfl, rfl, rfl, rfl⟩
  · exact foldl (fun x k => tallySel k n hi hp hf) _ _

theorem tally (e : Nat) (hi : .irq ∈ ps) (hp : .prf ∈ ps) (hf : PRF_EVENT_sel_limit ∈ fs) :
    w.Keeps (w.tally e) ps fs gs := tallyN e 1 hi hp hf

/-- A record changes the Scrivener's FIFO, or what shows its loss. -/
theorem recordX (software : Bool) (code block p0 p1 p2 p3 : Nat) (hs : .scr ∈ ps) (hi : .irq ∈ ps)
    (hl : REC_LOST_CNT_v ∈ fs) (he : REC_EVENT_lost ∈ fs) : w.Keeps (w.recordX software code block p0 p1 p2 p3) ps fs gs := by
  unfold W.recordX
  refine ite ?_ ?_
  · exact ⟨fun p hn => by cases p <;> first | rfl | exact absurd hs hn, fun _ _ _ _ => rfl, rfl, rfl, rfl⟩
  · refine trans (bump 1 (.inl hl)) (trans ?_ (ev 0 hi (.inl he)))
    exact ⟨fun p hn => by cases p <;> first | rfl | exact absurd hs hn, fun _ _ _ _ => rfl, rfl, rfl, rfl⟩

theorem record (code block p0 p1 p2 p3 : Nat) (hs : .scr ∈ ps) (hi : .irq ∈ ps)
    (hl : REC_LOST_CNT_v ∈ fs) (he : REC_EVENT_lost ∈ fs) : w.Keeps (w.record code block p0 p1 p2 p3) ps fs gs :=
  recordX false code block p0 p1 p2 p3 hs hi hl he

/-- An event with its block record. -/
theorem evRec {f : Fld} (param p2 p3 : Nat) (hs : .scr ∈ ps) (hi : .irq ∈ ps) (hl : REC_LOST_CNT_v ∈ fs)
    (he : REC_EVENT_lost ∈ fs) (h : f ∈ fs ∨ ∃ g ∈ gs, ∃ k, g k = f) : w.Keeps (w.evRec f param p2 p3) ps fs gs :=
  trans (ev param hi h) (record _ _ _ _ _ _ hs hi hl he)

/-- The cycle counters. -/
theorem cycles (dt : Nat) (ht : .tb ∈ ps) (hi : .irq ∈ ps) (hp : .prf ∈ ps) (hf : PRF_EVENT_sel_limit ∈ fs) :
    w.Keeps (w.cycles dt) ps fs gs := by
  obtain ⟨f, hf, e⟩ : ∃ f : W → Nat → Nat → W, (∀ (x : W) (i rate : Nat), x.Keeps (f x i rate) ps fs gs) ∧
      w.cycles dt = f (f (f (f w 0 5000) 1 2500) 2 8000) 3 2048 := by
    refine ⟨fun w i rate =>
      let acc := w.tb.cyc.getD i 0 + dt * rate
      let w := { w with tb := { w.tb with cyc := w.tb.cyc.set i (acc % 10000) } }
      w.tallyN (0xE0 + i) (acc / 10000), fun x i rate => trans ?_ (tallyN _ _ hi hp hf), rfl⟩
    exact ⟨fun p hn => by cases p <;> first | rfl | exact absurd ht hn, fun _ _ _ _ => rfl, rfl, rfl, rfl⟩
  rw [e]
  exact trans (trans (trans (hf w 0 5000) (hf _ 1 2500)) (hf _ 2 8000)) (hf _ 3 2048)

/-- The counter carried forward. -/
theorem at_ (t : Nat) (ht : .tb ∈ ps) (hi : .irq ∈ ps) (hp : .prf ∈ ps) (hf : PRF_EVENT_sel_limit ∈ fs) :
    w.Keeps (w.at_ t) ps fs gs := by
  unfold W.at_
  refine ite (trans (v := { w with tb := { w.tb with
      now := t * 2 ^ 32, up := w.tb.up + (t - w.ns),
      slew := W.slewLeft w.tb.slew (W.slewPerEdge w.tb.slew w.tb.freq w.slewLimit) ((t - w.ns) / 4) } }) ?_ ?_) (refl w)
  · exact ⟨fun p hn => by cases p <;> first | rfl | exact absurd ht hn, fun _ _ _ _ => rfl, rfl, rfl, rfl⟩
  · exact ite (cycles _ ht hi hp hf) (refl _)

/-- A change put among the items that wait for the standby. -/
theorem mirrorItem (kind index : Nat) (data : List Byte) (h : .ptn ∈ ps) :
    w.Keeps (w.mirrorItem kind index data) ps fs gs := by
  unfold W.mirrorItem
  refine ite ?_ (refl w)
  exact ⟨fun p hn => by cases p <;> first | rfl | exact absurd h hn, fun _ _ _ _ => rfl, rfl, rfl, rfl⟩

/-- A queue's state stored: its registers follow. -/
theorem qStore (i : QItem) (s : QState) (h : .que ∈ ps) (hr : ∀ f : Fld,
    (f = QUE_Q_FREE_v i.queue ∨ f = QUE_Q_HWM_v i.queue ∨ f = QUE_Q_STAT_full i.queue ∨ f = QUE_Q_STAT_flushing i.queue
      ∨ f = QUE_Q_STAT_units i.queue ∨ f = QUE_Q_RHEAD_len i.queue ∨ f = QUE_Q_RHEAD_aborted i.queue
      ∨ f = QUE_Q_RHEAD_valid i.queue) → f ∈ fs ∨ ∃ g ∈ gs, ∃ k, g k = f) : w.Keeps (w.qStore i s) ps fs gs := by
  have free := hr (QUE_Q_FREE_v i.queue) (.inl rfl)
  have hwm := hr (QUE_Q_HWM_v i.queue) (.inr (.inl rfl))
  have full := hr (QUE_Q_STAT_full i.queue) (.inr (.inr (.inl rfl)))
  have flushing := hr (QUE_Q_STAT_flushing i.queue) (.inr (.inr (.inr (.inl rfl))))
  have units := hr (QUE_Q_STAT_units i.queue) (.inr (.inr (.inr (.inr (.inl rfl)))))
  have len := hr (QUE_Q_RHEAD_len i.queue) (.inr (.inr (.inr (.inr (.inr (.inl rfl))))))
  have aborted := hr (QUE_Q_RHEAD_aborted i.queue) (.inr (.inr (.inr (.inr (.inr (.inr (.inl rfl)))))))
  have valid := hr (QUE_Q_RHEAD_valid i.queue) (.inr (.inr (.inr (.inr (.inr (.inr (.inr rfl)))))))
  have base : w.Keeps (w.setQue i.queue s) ps fs gs :=
    ⟨fun p hn => by cases p <;> first | rfl | exact absurd h hn, fun _ _ _ _ => rfl, rfl, rfl, rfl⟩
  unfold W.qStore
  dsimp only
  generalize w.setQue i.queue s = x at base ⊢
  have five : ∀ (a b e : Nat) (c d : Bool),
      w.Keeps (((((x.set (QUE_Q_FREE_v i.queue) a).set (QUE_Q_HWM_v i.queue) b).setB (QUE_Q_STAT_full i.queue) c).setB
        (QUE_Q_STAT_flushing i.queue) d).set (QUE_Q_STAT_units i.queue) e) ps fs gs := fun a b e c d =>
    trans (trans (trans (trans (trans base (set a free)) (set b hwm)) (setB c full)) (setB d flushing)) (set e units)
  split
  · split
    · exact trans (trans (trans (five ..) (set _ len)) (setB _ aborted)) (set _ valid)
    · exact trans (trans (trans (five ..) (set _ len)) (set _ aborted)) (set _ valid)
  · exact five ..

end W.Keeps

/-! ## From the working state to the state -/

/-- What a run leaves alone. -/
theorem run_keeps {ok : Bool} {name : String} {f : W → W} {s t : State} {ps : List Part} {fs : List Fld}
    {gs : List (Nat → Fld)} (h : run ok name f s = .next t) (k : (W.ofState s).Keeps (f (W.ofState s)) ps fs gs) :
    s.Keeps t ps fs gs ∧ t.mem = s.mem := by
  obtain ⟨-, hq, hd, -⟩ := run_cases h
  refine ⟨⟨hq, fun p hp => ?_, fun a b hf hg => ?_⟩, run_mem h k.out k.zeroed⟩
  · rw [hd]
    exact k.parts p hp
  · unfold State.word
    rw [hd]
    exact k.bits a b hf hg

theorem runL_keeps {ok : Bool} {name : String} {f : W → W} {s t : State} {ps : List Part} {fs : List Fld}
    {gs : List (Nat → Fld)} (h : runL ok name f s = .next t) (k : (W.ofState s).Keeps (f (W.ofState s)) ps fs gs) :
    s.Keeps t ps fs gs ∧ t.mem = s.mem :=
  run_keeps (f := fun w => if w.lanesRun then f w else w) h (.ite k (.refl _))

end Sys2Proof.Machine
end

