-- ==== Sys2Proof/Machine/Figures.lean ====
section
/-! DEFINITION. The response figures of the Sieve's filters (R186, R187), as propositions about their taps. The taps are
constants without a value: no statement of this package takes these propositions as a premise, and a claim that needs a
figure names it. -/

namespace Sys2Proof.Machine

/-- `a` is the amplitude, at `v` cycles per input sample, of the linear-phase filter whose taps `firWord` takes: the sum of
the taps times the cosine of their distance from the middle one. -/
def IsAmplitude (tap : Nat → W32) (order : Nat) (v a : ℝ) : Prop :=
  a = ((List.range (order + 1)).map (fun j =>
    ((f32Num (tap (min j (order - j))) : ℝ) / (f32Den (tap (min j (order - j))) : ℝ))
      * Real.cos (2 * Real.pi * v * ((j : ℝ) - (order : ℝ) / 2)))).sum

/-- An amplitude within a ripple of ± `db`. -/
def WithinRipple (db a : ℝ) : Prop := (10 : ℝ) ^ (-db / 20) ≤ |a| ∧ |a| ≤ (10 : ℝ) ^ (db / 20)

/-- An amplitude attenuated by at least `db`. -/
def Attenuated (db a : ℝ) : Prop := |a| ≤ (10 : ℝ) ^ (-db / 20)

/-- The figures of a preset at an input rate (R186): ripple up to `pass` of the output rate, attenuation from half of it. -/
def PresetFigure (rate preset : Nat) (pass ripple stop : ℝ) : Prop :=
  ∀ v a, IsAmplitude (Config.sieveTap preset (presetD rate preset)) (presetTaps rate preset - 1) v a →
    (0 ≤ v → v * presetD rate preset ≤ pass → WithinRipple ripple a) ∧
    (0.5 ≤ v * presetD rate preset → v ≤ 0.5 → Attenuated stop a)

/-- The response figures of the presets at every input rate (R186). -/
def PresetFigures : Prop :=
  ∀ rate ∈ [4000, 4800, 8000, 14400, 16000, 32000, 64000],
    PresetFigure rate 0 0.25 0.005 100 ∧ PresetFigure rate 1 0.25 0.02 80 ∧
    PresetFigure rate 2 0.25 0.1 60 ∧ PresetFigure rate 3 0.2 0.5 40

/-- The figures of a cascade of `k` halfband stages (R187): `amps` are the amplitudes of the stages at a frequency of `v`
cycles per input sample, stage i running at its own input rate. A frequency that folds into the passband is attenuated. -/
def CascadeFigures (k : Nat) : Prop :=
  ∀ (v : ℝ) (amps : List ℝ), amps.length = k →
    (∀ i a, amps[i]? = some a → IsAmplitude (fun j => if j = 1 ∨ j = 3 then 0 else Config.halfTap j) 10 (v * 2 ^ i) a) →
    (0 ≤ v → v * 2 ^ k ≤ 0.2 → WithinRipple 0.1 amps.prod) ∧
    (v ≤ 0.5 → (∃ m : Nat, 0 < m ∧ |v * 2 ^ k - m| ≤ 0.2) → Attenuated 50 amps.prod)

/-- What R186 and R187 promise of the Sieve's filters. -/
def SieveFigures : Prop := PresetFigures ∧ ∀ k, 1 ≤ k → k ≤ 9 → CascadeFigures k

end Sys2Proof.Machine
end

