-- ==== Sys2Proof/Tests/Slice0.lean ====
section
/-! SUPPORT. Tests: ill-formed commands refused, a state and operands that meet the hypotheses of every statement, and
small tests of one step whose expected results are the manual's own examples or hand calculation from its tables. -/

namespace Sys2Proof.Tests
open Sys2Proof Sys2Proof.Machine

set_option Elab.async false
set_option linter.unusedVariables false

/-! ## Small states -/

/-- A state in an operating state with some register fields set. -/
def st (op : OpState) (rs : List (Fld × Nat)) : State :=
  { State.reset with dev := { Dev.init with op := op, regs := rs.foldl (fun r e => r.put e.1 e.2) [] } }

/-- A state with its devices changed. -/
def dv (s : State) (f : Dev → Dev) : State := { s with dev := f s.dev }

/-- Bytes with little-endian fields (offset, width, value) put into `n` zero bytes. -/
def tB (n : Nat) (fs : List (Nat × Nat × Nat)) : List Byte :=
  fs.foldl (fun b e => patch b e.1 (leBytes e.2.1 e.2.2)) (List.replicate n 0)

/-- Memory that holds bytes from an address on. -/
def tM (a : Nat) (b : List Byte) : Mem :=
  ((upTo b.length).map (fun i => (a + i, b.getD i 0))).filter (fun e => e.2 != 0)

/-- A pattern with every engine and the common queues. -/
def tPat : Pattern :=
  { Pattern.factoryPattern with
    factory := false
    serial := 5
    tiles := (upTo 6).map (fun i => ⟨i, i + 1, 0, []⟩)
    queues := [⟨0, 0xF1, 0xF0, false, 18112, 9018, 0⟩, ⟨1, 5, 6, false, 4096, 512, 0⟩, ⟨2, 6, 7, false, 4096, 64, 0⟩,
      ⟨3, 7, 8, false, 4096, 64, 0⟩, ⟨4, 8, 0xA, false, 4096, 512, 0⟩, ⟨5, 9, 6, false, 4096, 512, 0⟩,
      ⟨6, 9, 0xE, false, 4096, 512, 0⟩, ⟨7, 0xA, 0xB, false, 4096, 512, 0⟩, ⟨8, 0xA, 0xD, false, 4096, 512, 0⟩,
      ⟨9, 0xB, 0xA, false, 4096, 512, 0⟩, ⟨10, 0xB, 0xC, false, 4096, 512, 0⟩, ⟨11, 0xC, 0xB, false, 4096, 512, 0⟩,
      ⟨12, 0xB, 0xF0, false, 4096, 512, 0⟩, ⟨13, 0xF1, 8, false, 18112, 9018, 0⟩, ⟨14, 0xF1, 9, false, 18112, 9018, 0⟩,
      ⟨15, 0xF1, 0x17, false, 18112, 9018, 0⟩, ⟨16, 8, 0xF1, false, 4096, 1152, 0⟩, ⟨17, 0x17, 0xF1, false, 4096, 1152, 0⟩,
      ⟨20, 0xF0, 0xF1, false, 4096, 512, 0⟩]
    streamEntries := 8
    lanterns := [16, 0, 0, 0]
    smpRate := 4000
    smpChannels := 16
    streamBase := 0x800100000
    lanternBase := 0x800200000
    alignBase := 0x800300000
    alignSize := 0x100000
    pins := []
    groups := some [tB 64 [(2, 2, 10), (4, 2, 100), (6, 2, 10), (8, 2, 100), (10, 2, 5), (12, 2, 4), (14, 2, 64),
      (16, 2, 4), (18, 2, 4), (32, 8, 4096)]] }

/-- A serving module with that pattern. -/
def sv (rs : List (Fld × Nat)) : State := dv (st .serving rs) (fun d => { d with pat := { d.pat with active := tPat } })

/-- A stream-table entry: IDCODE 7, rate 10, time base 1,000,000, one block without channels, group 0. -/
def tEntry : List Byte := tB 256 [(4, 2, 10), (6, 2, 22), (8, 4, 1000000), (16, 2, 14), (18, 2, 0xFFFF), (20, 2, 500)]

/-- A data frame of that entry's stream at SOC 1. -/
def tFrame : C37Frame :=
  let b : List Byte := [0xAA, 1, 0, 22, 0, 7, 0, 0, 0, 1, 0, 0, 0, 0, 0, 0, 0, 0, 0, 0]
  ⟨b ++ beBytes 2 (crc16 0xFFFF b), false, List.replicate 16 0, 0, none, 1000000000⟩

/-- A checked record of entry 2, an open set of its instant, and the group that holds it. -/
def tChk : Checked := ⟨2, false, 0, 1000000000, 1000000000, 0, 0, false, [], ⟨0, true⟩, ⟨0, true⟩, [], []⟩
def tSet : AlnSet :=
  { instant := 1000000000, window := 100, slots := [⟨2, 1, 0, 0, 0, none, none⟩, ⟨3, 1, 0, 0, 0, none, none⟩], isOpen := true,
    expired := false, stepped := false, gap := false, overrun := false, reason := 0, seq := 0, pos := 0, sampled := false }
def tGrp : AlnGroup := ⟨[tSet], 0, 0, none, true, 0, false, false, false, false, false, 100, [], [2, 3]⟩
/-- Module 1 of a system of 4 modules in a binary tree, its Crier with a key, Brodsan on, the time good. -/
def tKey : List Byte := List.replicate 32 0x11
def tCry (rs : List (Fld × Nat)) (c : CryState) : State :=
  dv (sv ([(CRY_SYS_CFG_module_no, 1), (CRY_SYS_CFG_sys_size, 4), (CRY_SYS_CFG_fanout, 2), (CRY_BRD_CFG_key_slot, 5),
    (CRY_CTRL_enable, 1), (CRY_CTRL_brodsan_enable, 1), (TBS_STATUS_servo_state, 1)] ++ rs)) (fun d =>
    { d with tb := { d.tb with offs := [0], inacc := some 0 }, cry := c, key := { d.key with slots := [(5, ⟨1, 0, tB 48 [(8, 4, 2)], tKey⟩)] } })
/-- A header of a message of operation 9 of module 0, sent by `sender`, and the message. -/
def tHdr (kind sender n : Nat) : BrdHdr :=
  { kind := kind, flags := 0, hops := 0, len := n, sys := 0, origin := 0, sender := sender, epoch := 1, seq := 1, op := 9,
    t := 1000000000, fan := 2, depth := 2, size := 4, arg := 3 }
def tBrd (kind sender : Nat) (p : List Byte) : BrdMsg :=
  let b := brdBytes (tHdr kind sender p.length) ++ p
  ⟨b ++ (hmac256 tKey b).take 16, 0, false, 1000⟩
/-- An operation of module 0. -/
def tGop (kind state : Nat) (kids : List Nat) : Gop :=
  { origin := 0, opId := 9, kind := kind, flags := 0, t := 1000000000, fan := 2, depth := 2, size := 4, arg := 0, aborted := false, header := [],
    payload := [], parent := 0, unit := none, state := state, confirmed := false, kids := kids, counts := [0, 0, 0, 0, 0] }
/-- The good frame of a link: every status word of its own channel. -/
def tAdc (link : Nat) : AdcFrame :=
  let ws : List W32 := (upTo 16).map (fun k => BitVec.ofNat 32 (16 * k))
  ⟨link, ws, crc16 0xFFFF ((ws.map (fun x => beBytes 4 x.toNat)).flatten), 1000⟩
def tSieve (rs : List (Fld × Nat)) : State := sv ([(SMP_CTRL_enable, 1)] ++ rs)
/-- A queue that holds one unit of bytes. -/
def tQ (q : Nat) (b : List Byte) : Nat × QState := (q, { QState.empty with units := [⟨.bytes b, b.length, false⟩] })
def tU (b : List Byte) : QUnit := ⟨.bytes b, b.length, false⟩
/-- A field entry with no neighbour. -/
def tField : List Byte := [1, 0, 1, 0] ++ (upTo 8).flatMap (fun _ => [0xFF, 0xFF, 0]) ++ List.replicate 4 0
/-- Radio 0 on, with slot 1 uplink and slot 2 roll call, a key in slot 7, and entry 2 enabled: a PRESENT lantern. -/
def tRadItem : List Byte := tB 32 [(0, 1, 0), (4, 2, 9), (12, 1, 36)]
def tLan : List Byte := tB 128 [(0, 8, 77), (8, 1, 1), (72, 1, 3)]
def tRad (rs : List (Fld × Nat)) (f : RadState → RadState) : State :=
  dv (sv ([(RAD_CTRL_enable, 1), (RAD_RCTRL_enable 0, 1), (RAD_RKEY_slot_a 0, 7), (RAD_WAKE_CFG_enable, 1)] ++ rs)) (fun d =>
    { d with
      pat := { d.pat with active := { tPat with radios := some [tRadItem] } }
      key := { d.key with slots := [(7, ⟨1, 0, tB 48 [(8, 4, 1)], List.replicate 16 0x22⟩)] }
      rad := f { d.rad with cache := [(2, ⟨tLan, none, 0⟩)], enabled := [2] } })
/-- A secured frame of entry 2 with counter 5. -/
def tRx : RadioFrame :=
  let c : List Byte := [0x99]
  let ks := aesKeys (List.replicate 16 0x22)
  let n := macNonce 77 5
  let hd := macHeader false false false 1 9 0 3 5 1
  let ct := ccmCrypt ks n c
  let m := ccmTag ks 4 n hd ct
  ⟨0, false, 3, 1, false, 1, 5, c, m, crc32 (hd ++ c ++ m), 200, 100⟩
/-- An image of 3 bytes with its manifest, signature and the public key that signs it. -/
def tManifest : List Byte := beBytes 64 0x5a49010002000000000700000000000386229dc6d2ffbeac7380744154aa700291c064352a0dbdc77b9ed3f2c8e1dac4dc325867d39ddff1d2629b7a393d47f6
def tSig : List Byte :=
  beBytes 48 0xe1df22c2b2f606d65d1c6fb1d38fa5ac4be0a70bacbeeda8dafcb219219c6776fc67ea1115910768fe389abc6671c8b ++
  beBytes 48 0xe1df22c2b2f606d65d1c6fb1d38fa5ac4be0a70bacbeeda8dafcb219219c6776fc67ea1115910768fe389abc6671c8b
def tPub : List Byte :=
  [4] ++ beBytes 48 0x178a470d916913e44504043355a9c0725145835b0a43a630a34b7eb988bb73e793d4395926f003dd066c558919933b3f ++
  beBytes 48 0x75c683b3514386ef762f7a1fc959598e0c6fac44b45b8a6010e911c0fe5435c5dfe81734522cba6e4b818207497c1c10
def tFlash : FlashSlot := ⟨[1, 2, 3], tManifest, tSig, false⟩
def tFlt (rs : List (Fld × Nat)) (f : FltState → FltState) : State :=
  dv (tRad ([(FLT_CTRL_enable, 1), (FLT_CTRL_key_slot, 56), (FLT_SRC_LO_v, 0x500000), (FLT_SRC_HI_v, 8), (FLT_SRC_LEN_v, 163)] ++ rs) id) (fun d =>
    { d with flt := f d.flt, key := { d.key with slots := d.key.slots ++ [(56, ⟨3, 2, [], tPub⟩)] } })
def tCamp (phase : Nat) : Campaign := ⟨1, 9, ⟨8, 6, 0, 2, 8, 16⟩, phase, 0, [(0, ⟨some 1, []⟩)], [(2, (9, true))], []⟩
/-- A Chandler with strings 0 (set 1, colour 0) and 1 (no set) and matrix port 2 of 4 by 2 bytes. -/
def tLed (rs : List (Fld × Nat)) (f : LedState → LedState) : State :=
  dv (sv ([(LED_CTRL_enable, 1)] ++ rs)) (fun d =>
    { d with
      pat := { d.pat with active := { tPat with
        leds := some [tB 16 [(0, 1, 0), (8, 1, 1)], tB 16 [(0, 1, 1), (8, 1, 0xFF)], tB 16 [(0, 1, 18), (2, 1, 1), (4, 4, 4), (8, 1, 2), (9, 1, 1)]]
        pins := [⟨0x9A, 6, 0⟩, ⟨0x20, 4, 0⟩] } }
      led := f d.led })
/-- Registers' words set outright. -/
def tW (s : State) (rs : List (Nat × W32)) : State := dv s (fun d => { d with regs := rs.foldl (fun r e => r.wr e.1 e.2) d.regs })
/-- A firmware image of one byte, and the public key that signs it. -/
def tFwPub : List Byte := beBytes 97 0x4077a41d4606ffa1464793c7e5fdc7d98cb9d3910202dcd06bea4f240d3566da6b408bbae5026580d02d7e5c70500c831c995f7ca0b0c42837d0bbe9602a9fc998520b41c85115aa5f7684c0edc111eacc24abd6be4b5d298b65f28600a2f1df1
def tFwImg : List Byte := beBytes 225
  0x5a4657490100800001000000070000000000001000000000000000100000000000000000000000000000000000000000724b9957582f0a755fa67e1febc163df570ee375b3c866fe2aa156994bd692f9c3425bd40dd1059a7921b8a27dae21e200000000000000000000000000000000000000000000000000000000000000005aaa87ca22be8b05378eb1c71ef320ad746e1d3b628ba79b9859f741e082542a385502f25dbf55296c3a545e3872760ab7cd2afc9227cd25a036fb85f1bc0db823cb33828c2b382e39c9b8dcd9b53fa5053ca71dea15ddfbd19ea9aa6375c06fbe
/-- An authorisation token of op 2 and argument 1 for the UID 1, 2, 3, 4 and a nonce of bytes 33H, and the authority's key. -/
def tTok : List Byte := beBytes 160
  0x5a4b5441010201000100000002000000030000000400000033333333333333333333333333333333333333333333333333333333333333330000000000000000ae12fd44be8ad671116fd9a5c18e5b072c98531d34ad5d57051bc0ac5c07407130df4c87999e3e2841cb172f9f81397dae12fd44be8ad671116fd9a5c18e5b072c98531d34ad5d57051bc0ac5c07407130df4c87999e3e2841cb172f9f81397d
def tTokKey : List Byte := beBytes 97 0x45af5b7a6cbeb7c54f6090a27b7f44ab9b15271b1350529a0b3ed5c5431490d1aa9c544e760950077602b0d06ffb776a25e4b8392b04c90914f3fff041737d1c41c9a048c14e3b750fdbf028155e273f3c1e94b2be03ebc3263de4ca4db9bc240
/-- An OPERATIONAL Locksmith with a root: working slot 3 loaded with a key of a type and uses, no KEK but the device's. -/
def tKeyHdr (kt uses flags : Nat) : List Byte :=
  tB 48 [(0, 4, 0x59454B5A), (4, 1, 1), (5, 1, kt), (6, 1, 0xFF), (7, 1, flags), (8, 4, uses), (12, 1, 2), (14, 2, typeLen kt), (16, 8, 77),
    (32, 2, 8 + 8 * ceilDiv (48 + typeLen kt) 8)]
def tRoot : List Byte := List.replicate 32 0x44
def tLck (rs : List (Fld × Nat)) (f : KeyState → KeyState) : State :=
  dv (sv ([(KEY_DST_LO_v, 0x10001000)] ++ rs)) (fun d => { d with key := f { d.key with lc := 2, root := some tRoot, grant := none } })
def tSlot (kt uses flags : Nat) : Nat × KeySlot := (3, ⟨1, 0, tKeyHdr kt uses flags, List.replicate (typeLen kt) 0x55⟩)
/-- Bytes in memory as the source of a Locksmith command. -/
def tSrc (b : List Byte) (rs : List (Fld × Nat)) (f : KeyState → KeyState) : State :=
  { tLck ([(KEY_SRC_LO_v, 0x10000100), (KEY_SRC_LEN_v, b.length)] ++ rs) f with mem := tM 0x10000100 b }
/-- A member of a pair in a pairing state, with its partner heard on the pair link, and a partner's message. -/
def tPtn (state : Nat) (rs : List (Fld × Nat)) (f : PtnState → PtnState) : State :=
  dv (tCry ([(PTN_STATUS_state, state), (PTN_CTRL_enable, 1), (PTN_CFG_key_slot, 6), (PTN_STATUS_link_up, 1)] ++ rs) { CryState.init with table := [(1, tB 24 [(22, 1, 1)])] }) (fun d =>
    { d with ptn := f { d.ptn with hello := some ⟨3, 0, 1, 5, 0, 0⟩ },
             key := { d.key with slots := d.key.slots ++ [(6, ⟨1, 0, tB 48 [(8, 4, 4)], tKey⟩)] } })
def tPm (kind : Nat) (p : List Byte) : BrdMsg :=
  let b := brdBytes (tHdr kind 1 p.length) ++ p
  ⟨b ++ (hmac256 tKey b).take 16, 0, true, 1000⟩
/-- A save under way. -/
def tSave : SetSave := ⟨0, ⟨3, 0, 0, true, [], [], [], [], [], [], [], []⟩, false, false⟩

/-! ## The hypotheses of each statement can be met -/

/-- An idle module, and one whose next clock period would pass the end of the seconds field. -/
theorem test_meets_IdleModuleTicks :
  (∃ s : State, s.pending = [] ∧ s.w.tick.tb.now / (2 ^ 32 * 1000000000) < 2 ^ 48) ∧
  (∃ s : State, s.pending = [] ∧ 2 ^ 48 ≤ s.w.tick.tb.now / (2 ^ 32 * 1000000000)) :=
  ⟨⟨State.reset, by decide +kernel⟩,
   ⟨dv State.reset (fun d => { d with tb := { d.tb with now := 2 ^ 48 * (2 ^ 32 * 1000000000) - 1 } }), by decide +kernel⟩⟩

theorem test_meets_EveryStepKeepsMemoryCanonical : ∃ s t : State, s.canonical = true ∧ step s = .next t :=
  ⟨{ State.reset with pending := [.clearSel 3], mem := [(5, 1), (9, 255)] }, _, by decide, rfl⟩

theorem test_meets_CommandsComplete : (∃ c : Instr, c.wf = true) ∧ (∃ c : Instr, c.wf = false) :=
  ⟨⟨.clearSel 31, rfl⟩, ⟨.clearSel 32, rfl⟩⟩

theorem test_meets_QueuedRunsAreSafe : ∃ (n : Nat) (s : State), (∀ c ∈ s.pending, c.wf = true) ∧ n ≤ s.pending.length ∧ 0 < n :=
  ⟨2, { State.reset with pending := [.verify, .cancel] }, by decide⟩

theorem test_meets_StoppedLanesHaveNoEffect : ∃ (c : Instr) (s : State), ofLanes c = true ∧ c.wf = true ∧ ¬ s.lanes :=
  ⟨.verify, State.reset, by decide +kernel⟩

/-- Sources 20 (priority 45H) and 30 (priority 4AH) staged for ring 2 of target 1: G is 3, the ring enabled, of 16 records
in SRAM. -/
def tIrq : W :=
  (dv (st .serving [(IRQ_CTRL_enable, 1), (IRQ_CTRL_group_bits, 3), (IRQ_SRC_CFG_target 20, 1), (IRQ_SRC_CFG_target 30, 1),
    (IRQ_SRC_CFG_priority 20, 0x45), (IRQ_SRC_CFG_priority 30, 0x4A), (IRQ_RING_CFG_enable 1 2, 1), (IRQ_RING_CFG_k 1 2, 4),
    (IRQ_RING_BASE_v 1 2, 0x10002000), (IRQ_MASK_v 0, 0)]) (fun d =>
    { d with irq := { d.irq with staged := [⟨20, 7, 1000, false, false, false⟩, ⟨30, 8, 1001, false, false, false⟩] } })).w

theorem test_meets_InterruptOrder :
  (∃ (w : W) (t g : Nat) (e : IrqEvent), w.nextFor t g = some e ∧ w.bit IRQ_CTRL_enable = true ∧
    w.bit (IRQ_RING_CFG_enable t g) = true ∧ w.ringOk t g = true ∧
    (w.get (IRQ_RING_WIDX_idx t g) + 1) % w.ringLen t g ≠ w.get (IRQ_RING_RIDX_idx t g)) ∧
  (∃ (w : W) (t g : Nat), w.nextFor t g = none) :=
  ⟨⟨tIrq, 1, 2, ⟨30, 8, 1001, false, false, false⟩, by decide +kernel⟩, ⟨tIrq, 1, 3, by decide +kernel⟩⟩

theorem test_meets_RecordLayout :
  (∃ (e : IrqEvent) (priority : Nat), e.source < 512 ∧ priority < 256 ∧ e.param < 2 ^ 32 ∧ e.stamp < 2 ^ 64) ∧
  (∃ (w : W) (t g : Nat) (e : IrqEvent), w.nextFor t g = some e ∧ w.bit IRQ_CTRL_enable = true ∧
    w.bit (IRQ_RING_CFG_enable t g) = true ∧ w.ringOk t g = true ∧
    (w.get (IRQ_RING_WIDX_idx t g) + 1) % w.ringLen t g ≠ w.get (IRQ_RING_RIDX_idx t g)) :=
  ⟨⟨⟨511, 2 ^ 32 - 1, 2 ^ 64 - 1, true, true, true⟩, 255, by decide⟩,
   ⟨tIrq, 1, 2, ⟨30, 8, 1001, false, false, false⟩, by decide +kernel⟩⟩

theorem test_meets_TreeOfOperations :
  (∃ n f origin m : Nat, 0 < n ∧ n ≤ 1024 ∧ 2 ≤ f ∧ f ≤ 16 ∧ origin < n ∧ m < n ∧ treePos n origin m = 0) ∧
  (∃ n f origin m : Nat, 0 < n ∧ n ≤ 1024 ∧ 2 ≤ f ∧ f ≤ 16 ∧ origin < n ∧ m < n ∧ treePos n origin m ≠ 0) :=
  ⟨⟨1, 2, 0, 0, by decide⟩, ⟨1024, 16, 1023, 1022, by decide⟩⟩

/-! ## Ill-formed commands are refused -/

theorem test_refuses_1 :
  exec (.switchFrameRx (6) (⟨0x112233445566, 0x665544332211, none, 0x88BA, []⟩) (5)) State.reset = .refused (.illFormed "SWITCH_FRAME_RX") ∧
  exec (.sfpOvercurrent (6)) State.reset = .refused (.illFormed "SFP_OVERCURRENT") ∧
  exec (.gioWakeEdge (4) (false) (5)) State.reset = .refused (.illFormed "GIO_WAKE_EDGE") ∧
  exec (.ptpMessageRx (6) (let dom : Nat := 0; let m : PtpMaster := ⟨2,6,0,0,1,9,0,none⟩; ⟨dom, .announce m⟩) (5)) State.reset = .refused (.illFormed "PTP_MESSAGE_RX") ∧
  exec (.ptpMessageTx (6) .delayReq (5)) State.reset = .refused (.illFormed "PTP_MESSAGE_TX") ∧
  exec (.ppsEdge (false) (0x1000000000000) (5)) State.reset = .refused (.illFormed "PPS_EDGE") ∧
  exec (.triggerArm (16) (1)) State.reset = .refused (.illFormed "TRIGGER_ARM") ∧
  exec (.triggerFire (16) (5)) State.reset = .refused (.illFormed "TRIGGER_FIRE") ∧
  exec (.captureEdge (128) (true) (5) (9)) State.reset = .refused (.illFormed "CAPTURE_EDGE") ∧
  exec (.captureEdge (0) (true) (5) (65536)) State.reset = .refused (.illFormed "CAPTURE_EDGE") ∧
  exec (.capNsRead (16)) State.reset = .refused (.illFormed "CAP_NS_READ") ∧
  exec (.capPop (16)) State.reset = .refused (.illFormed "CAP_POP") ∧
  exec (.tcpAckTimer (256) (5000000)) State.reset = .refused (.illFormed "TCP_ACK_TIMER") ∧
  exec (.tcpLaneSegmentTx (256) (5) ([])) State.reset = .refused (.illFormed "TCP_LANE_SEGMENT_TX") ∧
  exec (.ingInvalidate (8192)) State.reset = .refused (.illFormed "ING_INVALIDATE") ∧
  exec (.ingEnable (8192)) State.reset = .refused (.illFormed "ING_ENABLE") ∧
  exec (.ingDisable (8192)) State.reset = .refused (.illFormed "ING_DISABLE") ∧
  exec (.ingFlush (8192)) State.reset = .refused (.illFormed "ING_FLUSH") ∧
  exec (.ingClear (8192)) State.reset = .refused (.illFormed "ING_CLEAR") ∧
  exec (.mapSet (8192)) State.reset = .refused (.illFormed "MAP_SET") ∧
  exec (.ingWriteback (8192) (5)) State.reset = .refused (.illFormed "ING_WRITEBACK") ∧
  exec (.setOpen (64) (1000000000)) State.reset = .refused (.illFormed "SET_OPEN") ∧
  exec (.setExpire (64) (1000000000) (1100000000)) State.reset = .refused (.illFormed "SET_EXPIRE") ∧
  exec (.latencySample (64) (1000000000) (1100000000)) State.reset = .refused (.illFormed "LATENCY_SAMPLE") ∧
  exec (.alnGrpCtrlWrite (64) (1)) State.reset = .refused (.illFormed "ALN_GRP_CTRL_WRITE") ∧
  exec (.cfgAck (16)) State.reset = .refused (.illFormed "CFG_ACK") ∧
  exec (.tunerReport (512) (1000)) State.reset = .refused (.illFormed "TUNER_REPORT") ∧
  exec (.ruleEnable (32) (1)) State.reset = .refused (.illFormed "RULE_ENABLE") ∧
  exec (.ruleAck (32) (2)) State.reset = .refused (.illFormed "RULE_ACK") ∧
  exec (.gooseRetransmit (16) (20000000)) State.reset = .refused (.illFormed "GOOSE_RETRANSMIT") ∧
  exec (.gcbCtrlWrite (16) (3)) State.reset = .refused (.illFormed "GCB_CTRL_WRITE") ∧
  exec (.moduleDown (1024) (1000000000)) State.reset = .refused (.illFormed "MODULE_DOWN") ∧
  exec (.gopReset (65536)) State.reset = .refused (.illFormed "GOP_RESET") ∧
  exec (.gopEnter (true) (65536)) State.reset = .refused (.illFormed "GOP_ENTER") :=
  ⟨rfl, rfl, rfl, rfl, rfl, rfl, rfl, rfl, rfl, rfl, rfl, rfl, rfl, rfl, rfl, rfl, rfl, rfl, rfl, rfl, rfl, rfl, rfl, rfl, rfl, rfl, rfl, rfl, rfl, rfl, rfl, rfl, rfl, rfl⟩

theorem test_refuses_2 :
  exec (.gopAbort (65536)) State.reset = .refused (.illFormed "GOP_ABORT") ∧
  exec (.adcFrame { ({ tAdc 2 with crc := (tAdc 2).crc + 1 }) with link := 8 }) State.reset = .refused (.illFormed "ADC_FRAME") ∧
  exec (.adcFrame { ({ tAdc 2 with crc := (tAdc 2).crc + 1 }) with words := [] }) State.reset = .refused (.illFormed "ADC_FRAME") ∧
  exec (.peakRead (128)) State.reset = .refused (.illFormed "PEAK_READ") ∧
  exec (.chCfgWrite (128) (0x1101)) State.reset = .refused (.illFormed "CH_CFG_WRITE") ∧
  exec (.smpTestWrite (5) (0x1101)) State.reset = .refused (.illFormed "SMP_TEST_WRITE") ∧
  exec (.phsSetWrite (32) (0x1101)) State.reset = .refused (.illFormed "PHS_SET_WRITE") ∧
  exec (.linkCfgWrite (8) (0x1101)) State.reset = .refused (.illFormed "LINK_CFG_WRITE") ∧
  exec (.contactorDeferred (16) (1000)) State.reset = .refused (.illFormed "CONTACTOR_DEFERRED") ∧
  exec (.loadOne (16384)) State.reset = .refused (.illFormed "LOAD_ONE") ∧
  exec (.grRelease (16384)) State.reset = .refused (.illFormed "GR_RELEASE") ∧
  exec (.grHoldExpire 0 (1000000000)) State.reset = .refused (.illFormed "GR_HOLD_EXPIRE") ∧
  exec (.grHoldExpire (256) (1000000000)) State.reset = .refused (.illFormed "GR_HOLD_EXPIRE") ∧
  exec (.trackExpire (1024) (10000000000000)) State.reset = .refused (.illFormed "TRACK_EXPIRE") ∧
  exec (.beaconBoundary (4) (5)) State.reset = .refused (.illFormed "BEACON_BOUNDARY") ∧
  exec (.slotStart (4) (4) ([])) State.reset = .refused (.illFormed "SLOT_START") ∧
  exec (.slotStart (0) 0 ([])) State.reset = .refused (.illFormed "SLOT_START") ∧
  exec (.slotStart (0) (64) ([])) State.reset = .refused (.illFormed "SLOT_START") ∧
  exec (.slotStart (0) (4) [(474, 0)]) State.reset = .refused (.illFormed "SLOT_START") ∧
  exec (.radioFrameRx { (tRx) with radio := 4 } (1000)) State.reset = .refused (.illFormed "RADIO_FRAME_RX") ∧
  exec (.radioFrameRx { (tRx) with seq := 256 } (1000)) State.reset = .refused (.illFormed "RADIO_FRAME_RX") ∧
  exec (.radioFrameRx { (tRx) with ctr := 2 ^ 32 } (1000)) State.reset = .refused (.illFormed "RADIO_FRAME_RX") ∧
  exec (.radioFrameRx { (tRx) with rssi := 256 } (1000)) State.reset = .refused (.illFormed "RADIO_FRAME_RX") ∧
  exec (.radioFrameRx { (tRx) with lqi := 256 } (1000)) State.reset = .refused (.illFormed "RADIO_FRAME_RX") ∧
  exec (.immAckRx (4) (7) (100)) State.reset = .refused (.illFormed "IMM_ACK_RX") ∧
  exec (.radInvalidate (16384)) State.reset = .refused (.illFormed "RAD_INVALIDATE") ∧
  exec (.radEnable (16384)) State.reset = .refused (.illFormed "RAD_ENABLE") ∧
  exec (.radDisable (16384)) State.reset = .refused (.illFormed "RAD_DISABLE") ∧
  exec (.radFlush (16384)) State.reset = .refused (.illFormed "RAD_FLUSH") ∧
  exec (.radClear (16384)) State.reset = .refused (.illFormed "RAD_CLEAR") ∧
  exec (.resetCtr (16384)) State.reset = .refused (.illFormed "RESET_CTR") ∧
  exec (.wake (16384)) State.reset = .refused (.illFormed "WAKE") ∧
  exec (.nodeTimeout (16384) (1000000000)) State.reset = .refused (.illFormed "NODE_TIMEOUT") ∧
  exec (.radWriteback (16384) (100)) State.reset = .refused (.illFormed "RAD_WRITEBACK") :=
  ⟨rfl, rfl, rfl, rfl, rfl, rfl, rfl, rfl, rfl, rfl, rfl, rfl, rfl, rfl, rfl, rfl, rfl, rfl, rfl, rfl, rfl, rfl, rfl, rfl, rfl, rfl, rfl, rfl, rfl, rfl, rfl, rfl, rfl, rfl⟩

theorem test_refuses_3 :
  exec (.store (8)) State.reset = .refused (.illFormed "STORE") ∧
  exec (.erase (8)) State.reset = .refused (.illFormed "ERASE") ∧
  exec (.start (8)) State.reset = .refused (.illFormed "START") ∧
  exec (.activate (8)) State.reset = .refused (.illFormed "ACTIVATE") ∧
  exec (.trimUpdate (4) ([500]) (1000)) State.reset = .refused (.illFormed "TRIM_UPDATE") ∧
  exec (.csetTempStale (4) (10000000000)) State.reset = .refused (.illFormed "CSET_TEMP_STALE") ∧
  exec (.stringFault (16) (1) (1000)) State.reset = .refused (.illFormed "STRING_FAULT") ∧
  exec (.stringFault (1) (1 - 1) (1000)) State.reset = .refused (.illFormed "STRING_FAULT") ∧
  exec (.stringFault (1) (4 + 1) (1000)) State.reset = .refused (.illFormed "STRING_FAULT") ∧
  exec (.retryExpire (16) (300000000000)) State.reset = .refused (.illFormed "RETRY_EXPIRE") ∧
  exec (.retryCountReset (16) (60000000000)) State.reset = .refused (.illFormed "RETRY_COUNT_RESET") ∧
  exec (.softStartDone (16) (60000000000)) State.reset = .refused (.illFormed "SOFT_START_DONE") ∧
  exec (.ledClear (32)) State.reset = .refused (.illFormed "LED_CLEAR") ∧
  exec (.cal (32)) State.reset = .refused (.illFormed "CAL") ∧
  exec (.ledLoad (32)) State.reset = .refused (.illFormed "LED_LOAD") ∧
  exec (.shiftDone (4) (1000000)) State.reset = .refused (.illFormed "SHIFT_DONE") ∧
  exec (.frameSyncEdge (4) (1000)) State.reset = .refused (.illFormed "FRAME_SYNC_EDGE") ∧
  exec (.pulseInEdge (32) (1000)) State.reset = .refused (.illFormed "PULSE_IN_EDGE") ∧
  exec (.pulseRateSecond (32) (1000000000)) State.reset = .refused (.illFormed "PULSE_RATE_SECOND") ∧
  exec (.poutPulseStart (8) (1000000000)) State.reset = .refused (.illFormed "POUT_PULSE_START") ∧
  exec (.poutPulseEnd (8) (1000000000)) State.reset = .refused (.illFormed "POUT_PULSE_END") ∧
  exec (.accClear (64)) State.reset = .refused (.illFormed "ACC_CLEAR") ∧
  exec (.accLoRead (64)) State.reset = .refused (.illFormed "ACC_LO_READ") ∧
  exec (.legRead (64)) State.reset = .refused (.illFormed "LEG_READ") ∧
  exec (.mtrTempStale (4) (10000000000)) State.reset = .refused (.illFormed "MTR_TEMP_STALE") ∧
  exec (.voterRequest (4) (let r : Req := ⟨.load, 0x800000000, 4, 15, 0, .other, false⟩; (some r)) none none (0) (0) (true) (1000)) State.reset = .refused (.illFormed "VOTER_REQUEST") ∧
  exec (.voteWindowExpire (4) (1000000)) State.reset = .refused (.illFormed "VOTE_WINDOW_EXPIRE") ∧
  exec (.localFault (3) (2) (.l2) (1000)) State.reset = .refused (.illFormed "LOCAL_FAULT") ∧
  exec (.localFault (1) (4) (.l2) (1000)) State.reset = .refused (.illFormed "LOCAL_FAULT") ∧
  exec (.deliveryPoint (4) (100) (1000)) State.reset = .refused (.illFormed "DELIVERY_POINT") ∧
  exec (.deliveryPoint (2) (2048 + 1) (1000)) State.reset = .refused (.illFormed "DELIVERY_POINT") ∧
  exec (.lnvResync (4) (1000)) State.reset = .refused (.illFormed "LNV_RESYNC") ∧
  exec (.inject (4)) State.reset = .refused (.illFormed "INJECT") ∧
  exec (.scrubPass (3) (3600000000000)) State.reset = .refused (.illFormed "SCRUB_PASS") :=
  ⟨rfl, rfl, rfl, rfl, rfl, rfl, rfl, rfl, rfl, rfl, rfl, rfl, rfl, rfl, rfl, rfl, rfl, rfl, rfl, rfl, rfl, rfl, rfl, rfl, rfl, rfl, rfl, rfl, rfl, rfl, rfl, rfl, rfl, rfl⟩

theorem test_refuses_4 :
  exec (.memoryError (0x800000040) (4) (5) false (1000)) State.reset = .refused (.illFormed "MEMORY_ERROR") ∧
  exec (.flRead (4)) State.reset = .refused (.illFormed "FL_READ") ∧
  exec (.flWrite (4)) State.reset = .refused (.illFormed "FL_WRITE") ∧
  exec (.flTrim (4)) State.reset = .refused (.illFormed "FL_TRIM") ∧
  exec (.flSync (4)) State.reset = .refused (.illFormed "FL_SYNC") ∧
  exec (.flCmdDone true (256) (1000)) State.reset = .refused (.illFormed "FL_CMD_DONE") ∧
  exec (.irqRecordWrite (8) (0) (2000)) State.reset = .refused (.illFormed "IRQ_RECORD_WRITE") ∧
  exec (.irqRecordWrite (0) (8) (2000)) State.reset = .refused (.illFormed "IRQ_RECORD_WRITE") ∧
  exec (.moderationExpire (8) (2000)) State.reset = .refused (.illFormed "MODERATION_EXPIRE") ∧
  exec (.irqPendWrite (16) (4)) State.reset = .refused (.illFormed "IRQ_PEND_WRITE") ∧
  exec (.irqMaskWrite (16) (4)) State.reset = .refused (.illFormed "IRQ_MASK_WRITE") ∧
  exec (.ridxWrite (8) (3) (4)) State.reset = .refused (.illFormed "RIDX_WRITE") ∧
  exec (.ridxWrite (1) (8) (4)) State.reset = .refused (.illFormed "RIDX_WRITE") ∧
  exec (.threshWrite (8) (2)) State.reset = .refused (.illFormed "THRESH_WRITE") ∧
  exec (.queueFlush (256)) State.reset = .refused (.illFormed "QUEUE_FLUSH") ∧
  exec (.flushBoundary (256)) State.reset = .refused (.illFormed "FLUSH_BOUNDARY") ∧
  exec (.flushTimeout (256) (2000000)) State.reset = .refused (.illFormed "FLUSH_TIMEOUT") ∧
  exec (.queueReset (256)) State.reset = .refused (.illFormed "QUEUE_RESET") ∧
  exec (.ptrMismatch (256)) State.reset = .refused (.illFormed "PTR_MISMATCH") ∧
  exec (.queueWdata (256) (0x01020304)) State.reset = .refused (.illFormed "QUEUE_WDATA") ∧
  exec (.queueWend (256) (0x01020304)) State.reset = .refused (.illFormed "QUEUE_WEND") ∧
  exec (.queueRdata (256)) State.reset = .refused (.illFormed "QUEUE_RDATA") ∧
  exec (.queueHwmRead (256)) State.reset = .refused (.illFormed "QUEUE_HWM_READ") ∧
  exec (.queueSpace (256)) State.reset = .refused (.illFormed "QUEUE_SPACE") ∧
  exec (.rtcTimeRead (3)) State.reset = .refused (.illFormed "RTC_TIME_READ") ∧
  exec (.alarmWrite (2) true (0x7D0101)) State.reset = .refused (.illFormed "ALARM_WRITE") ∧
  exec (.alarmArm (2) (0x7F01)) State.reset = .refused (.illFormed "ALARM_ARM") ∧
  exec (.keyLoad (64)) State.reset = .refused (.illFormed "KEY_LOAD") ∧
  exec (.unload (64)) State.reset = .refused (.illFormed "UNLOAD") ∧
  exec (.importKey true (64) (2)) State.reset = .refused (.illFormed "IMPORT") ∧
  exec (.importKey true (5) (8)) State.reset = .refused (.illFormed "IMPORT") ∧
  exec (.exportKey true (64) (0xFF)) State.reset = .refused (.illFormed "EXPORT") ∧
  exec (.exportKey true (3) (256)) State.reset = .refused (.illFormed "EXPORT") ∧
  exec (.rewrapNext true (256)) State.reset = .refused (.illFormed "REWRAP_NEXT") :=
  ⟨rfl, rfl, rfl, rfl, rfl, rfl, rfl, rfl, rfl, rfl, rfl, rfl, rfl, rfl, rfl, rfl, rfl, rfl, rfl, rfl, rfl, rfl, rfl, rfl, rfl, rfl, rfl, rfl, rfl, rfl, rfl, rfl, rfl, rfl⟩

theorem test_refuses_5 :
  exec (.lcChange true (8)) State.reset = .refused (.illFormed "LC_CHANGE") ∧
  exec (.anchorWrite true (8)) State.reset = .refused (.illFormed "ANCHOR_WRITE") ∧
  exec (.opHmac (64)) State.reset = .refused (.illFormed "OP_HMAC") ∧
  exec (.opGcmEnc (64)) State.reset = .refused (.illFormed "OP_GCM_ENC") ∧
  exec (.opGcmDec (64)) State.reset = .refused (.illFormed "OP_GCM_DEC") ∧
  exec (.opVerify (64)) State.reset = .refused (.illFormed "OP_VERIFY") ∧
  exec (.tamperDetect (2 - 1) (5)) State.reset = .refused (.illFormed "TAMPER_DETECT") ∧
  exec (.tamperDetect (4 + 1) (5)) State.reset = .refused (.illFormed "TAMPER_DETECT") ∧
  exec (.tokenGain (0x100 - 1) (10000000)) State.reset = .refused (.illFormed "TOKEN_GAIN") ∧
  exec (.tokenGain (0x1000) (10000000)) State.reset = .refused (.illFormed "TOKEN_GAIN") ∧
  exec (.swRecord (4) (0xE05)) State.reset = .refused (.illFormed "SW_RECORD") ∧
  exec (.recClear (4)) State.reset = .refused (.illFormed "REC_CLEAR") ∧
  exec (.clearSel (32)) State.reset = .refused (.illFormed "CLEAR_SEL") ∧
  exec (.portLinkChange (6) (true) (true) (false) (true)) State.reset = .refused (.illFormed "PORT_LINK_CHANGE") ∧
  exec (.hartIdle (4)) State.reset = .refused (.illFormed "HART_IDLE") ∧
  exec (.stringRunSecond (16) (1000)) State.reset = .refused (.illFormed "STRING_RUN_SECOND") :=
  ⟨rfl, rfl, rfl, rfl, rfl, rfl, rfl, rfl, rfl, rfl, rfl, rfl, rfl, rfl, rfl, rfl⟩

theorem test_meets_RegisterBusAndSwitch :
  (∃ (s : State) (m : Bool) (a : Nat) (v : W32) (t : Nat) (d : RegDef), s.lanes ∧ badReg a = false ∧ wrRoute m a v
    t = none ∧ blockAt a ∈ [1, 5, 7, 8, 0xC, 0xF, 0x10, 0x11, 0x17] ∧ a ≠ CRY_GOP_CFG_trg_count.addr ∧ a ≠
    PTN_CFG_miss.addr ∧ (s.w.at_ t).regGone a = false ∧ (s.w.at_ t).writeHeld a v = false ∧ regDefAt a = some d) ∧
  (∃ (s : State) (m : Bool) (a : Nat) (v : W32) (t : Nat), s.lanes ∧ (a = CRY_GOP_CFG_trg_count.addr ∨ a =
    PTN_CFG_miss.addr)) ∧
  (∃ (s : State) (m : Bool) (a : Nat) (v : W32) (t : Nat), s.lanes ∧ badReg a = false ∧ (blockAt a = 3 ∨ blockAt a
    = 4) ∧ (regDefAt a).isSome = true ∧ a ≠ RTC_CMD_cmd.addr) ∧
  (∃ (s : State) (m : Bool) (a : Nat) (v : W32) (t : Nat), s.lanes ∧ badReg a = false ∧ wrRoute m a v t = none ∧
    blockAt a ≠ 3 ∧ blockAt a ≠ 4 ∧ ((s.w.at_ t).regGone a = true ∨ regDefAt a = none)) ∧
  (∃ (s : State) (m : Bool) (a : Nat) (v : W32) (t : Nat), s.lanes ∧ badReg a = true) ∧
  (∃ (s : State) (a : Nat) (d : RegDef), s.lanes ∧ badReg a = false ∧ rdRoute a = none ∧ blockAt a ∈ [1, 3, 4, 6,
    9, 0xA, 0xC, 0xF, 0x10, 0x11, 0x12, 0x13, 0x18] ∧ s.w.regGone a = false ∧ regDefAt a = some d) ∧
  (∃ (s : State) (a : Nat) (d : RegDef), s.lanes ∧ badReg a = false ∧ rdRoute a = none ∧ a ≠ GAN_PARAM_DATA_v.addr
    ∧ s.w.regGone a = false ∧ regDefAt a = some d) ∧
  (∃ (s : State) (a : Nat), s.lanes ∧ (badReg a = true ∨ (rdRoute a = none ∧ s.w.regGone a = true))) ∧
  (∃ (s : State) (p : Nat) (f : EthFrame) (t : Nat), p < 6 ∧ s.w.mainOn = true ∧ s.w.gated 0x18 = false ∧ s.bitOf
    (NET_PORT_CTRL_enable p) = true ∧ W.frameLen f ≤ 9018 ∧ f.tag.map (fun g => g.vid) ≠ some 0xFFF) ∧
  (∃ (s : State) (p : Nat) (f : EthFrame) (t : Nat), p < 6 ∧ s.w.mainOn = true ∧ s.w.gated 0x18 = false ∧ (9018 <
    W.frameLen f ∨ s.bitOf (NET_PORT_CTRL_enable p) = false)) ∧
  (∃ (s : State) (p : Nat) (up present los fault : Bool), p < 4 ∧ s.w.mainOn = true) ∧
  (∃ (s : State) (p : Nat) (up present los fault : Bool), 4 ≤ p ∧ p < 6 ∧ s.w.mainOn = true) :=
  ⟨⟨(st .serving []), true, CRY_BRD_CFG_udp_port.addr, 0xFFFFFFFF, 0, (regDefAt CRY_BRD_CFG_udp_port.addr).get (by decide +kernel),
     by decide +kernel⟩,
   ⟨(st .serving []), true, CRY_GOP_CFG_trg_count.addr, 0xFFFFFFFF, 0, by decide +kernel⟩,
   ⟨(st .serving []), true, RTC_CTRL_disc_enable.addr, 5, 0, by decide +kernel⟩,
   ⟨(st .serving []), true, 0x40180100, 5, 0, by decide +kernel⟩,
   ⟨(st .serving []), true, 0x40180001, 5, 0, by decide +kernel⟩,
   ⟨(st .serving [(NET_DROP_CNT_v 0, 7)]), (NET_DROP_CNT_v 0).addr, (regDefAt (NET_DROP_CNT_v 0).addr).get (by decide +kernel),
     by decide +kernel⟩,
   ⟨(st .serving []), TBS_STATUS_servo_state.addr, (regDefAt TBS_STATUS_servo_state.addr).get (by decide +kernel), by decide +kernel⟩,
   ⟨(st .serving []), LED_CTRL_enable.addr, by decide +kernel⟩,
   ⟨(st .serving [(NET_PORT_CTRL_enable 0, 1)]), 0, ⟨0x112233445566, 0x665544332211, none, 0x88BA, []⟩, 5,
     by decide +kernel⟩,
   ⟨(st .serving []), 0, ⟨0x112233445566, 0x665544332211, none, 0x88BA, []⟩, 5, by decide +kernel⟩,
   ⟨(st .serving []), 0, true, true, false, true, by decide +kernel⟩,
   ⟨(st .serving [(NET_PORT_CTRL_tx_enable 4, 1)]), 4, true, true, false, true, by decide +kernel⟩⟩

theorem test_meets_LoaderStaging :
  (∃ (s : State), s.lanes ∧ s.reg PAT_STATUS_state = 0) ∧
  (∃ (s : State), s.lanes ∧ s.reg PAT_STATUS_state ≠ 0) ∧
  (∃ (s : State) (t : Nat) (p : Pattern), s.reg PAT_STATUS_state = 1 ∧ s.dev.pat.verdict = some (.ok p)) ∧
  (∃ (s : State) (t code sec off : Nat), s.reg PAT_STATUS_state = 1 ∧ s.dev.pat.verdict = some (.bad code sec off)
    ∧ code < 256) ∧
  (∃ (s : State) (t : Nat), s.lanes ∧ s.reg PAT_STATUS_state = 2 ∧ s.dev.op ≠ .holding ∧ s.reg PAT_BARRIER_NS_v ≤
    999999999) ∧
  (∃ (s : State) (t : Nat), s.lanes ∧ (s.reg PAT_STATUS_state ≠ 2 ∨ s.dev.op = .holding ∨ 999999999 < s.reg
    PAT_BARRIER_NS_v)) ∧
  (∃ (s : State), s.lanes ∧ (s.reg PAT_STATUS_state = 2 ∨ s.reg PAT_STATUS_state = 3)) ∧
  (∃ (s : State), s.lanes ∧ s.reg PAT_STATUS_state ≠ 2 ∧ s.reg PAT_STATUS_state ≠ 3) ∧
  (∃ (s : State) (t : Nat) (p : Pattern), s.reg PAT_STATUS_state = 3 ∧ s.dev.pat.barrier ≤ s.nsAt t ∧ s.dev.op =
    .serving ∧ s.dev.pat.inactive = some p) ∧
  (∃ (s : State) (t : Nat), s.reg PAT_STATUS_state = 3 ∧ s.dev.pat.barrier ≤ s.nsAt t ∧ s.dev.op = .degraded) ∧
  (∃ (s : State) (t : Nat) (p : Pattern), s.reg PAT_STATUS_state = 3 ∧ s.dev.pat.barrier ≤ s.nsAt t ∧ s.dev.op =
    .serving ∧ s.dev.pat.inactive = some p) ∧
  (∃ (s : State) (t : Nat), s.reg PAT_STATUS_state = 4 ∧ (∀ o ∈ s.dev.cry.ops, ¬(o.state = 1 ∧ o.unit = none ∧ o.t
    ≤ s.nsAt t))) :=
  ⟨⟨(st .serving []), by decide +kernel⟩,
   ⟨(st .serving [(PAT_STATUS_state, 2)]), by decide +kernel⟩,
   ⟨(dv (st .serving [(PAT_STATUS_state, 1)]) (fun d =>
     { d with pat := { d.pat with verdict := some (.ok Pattern.factoryPattern) } })), 5, Pattern.factoryPattern,
     by decide +kernel⟩,
   ⟨(dv (st .serving [(PAT_STATUS_state, 1)]) (fun d =>
     { d with pat := { d.pat with verdict := some (.bad 7 1 16) } })), 5, 7, 1, 16, by decide +kernel⟩,
   ⟨(st .serving [(PAT_STATUS_state, 2), (PAT_BARRIER_SEC_LO_v, 9)]), 5, by decide +kernel⟩,
   ⟨(st .serving [(PAT_STATUS_state, 2), (PAT_BARRIER_NS_v, 1000000000)]), 5, by decide +kernel⟩,
   ⟨(st .serving [(PAT_STATUS_state, 3)]), by decide +kernel⟩,
   ⟨(st .serving [(PAT_STATUS_state, 5)]), by decide +kernel⟩,
   ⟨(dv (st .serving [(PAT_STATUS_state, 3)]) (fun d =>
     { d with pat := { d.pat with inactive := some Pattern.factoryPattern } })), 5, Pattern.factoryPattern,
     by decide +kernel⟩,
   ⟨(dv (st .degraded [(PAT_STATUS_state, 3)]) (fun d =>
     { d with pat := { d.pat with inactive := some Pattern.factoryPattern } })), 5, by decide +kernel⟩,
   ⟨(dv (st .serving [(PAT_STATUS_state, 3)]) (fun d =>
     { d with pat := { d.pat with inactive := some Pattern.factoryPattern } })), 5, Pattern.factoryPattern,
     by decide +kernel⟩,
   ⟨(st .serving [(PAT_STATUS_state, 4)]), 5, by decide +kernel⟩⟩

theorem test_meets_LoaderTrials :
  (∃ (s : State) (t : Nat), s.lanes ∧ s.reg PAT_STATUS_state = 5 ∧ s.dev.pat.committing = false) ∧
  (∃ (s : State) (t : Nat), s.lanes ∧ (s.reg PAT_STATUS_state ≠ 5 ∨ s.dev.pat.committing = true)) ∧
  (∃ (s : State) (t : Nat), s.w.mainOn = true ∧ s.reg PAT_STATUS_state = 5 ∧ s.dev.pat.committing = true ∧
    s.dev.sys.commitNext = false ∧ s.dev.sys.saving = none) ∧
  (∃ (s : State) (t : Nat) (p : Pattern), s.lanes ∧ s.reg PAT_STATUS_state = 5 ∧ s.dev.pat.committing = false ∧
    s.dev.pat.inactive = some p) ∧
  (∃ (s : State) (t : Nat), s.lanes ∧ (s.reg PAT_STATUS_state ≠ 5 ∨ s.dev.pat.committing = true)) ∧
  (∃ (s : State) (t : Nat) (p : Pattern), s.reg PAT_STATUS_state = 5 ∧ s.dev.pat.committing = false ∧ s.reg
    PAT_TRIAL_TIMEOUT_seconds ≠ 0 ∧ s.dev.pat.trialFrom + s.reg PAT_TRIAL_TIMEOUT_seconds * 1000000000 ≤ s.upAt t ∧
    s.dev.pat.inactive = some p) ∧
  (∃ (s : State) (t : Nat), s.reg PAT_TRIAL_TIMEOUT_seconds = 0 ∨ s.upAt t < s.dev.pat.trialFrom + s.reg
    PAT_TRIAL_TIMEOUT_seconds * 1000000000) ∧
  (∃ (s : State) (v : W32) (t : Nat), s.lanes ∧ (s.reg PAT_STATUS_state ≠ 5 ∨ s.dev.pat.committing = true ∨ v.toNat
    % 2 ^ 16 = 0 ∨ s.upAt t < s.dev.pat.trialFrom + v.toNat % 2 ^ 16 * 1000000000)) ∧
  (∃ (s : State) (v : W32) (t : Nat) (p : Pattern), s.lanes ∧ s.reg PAT_STATUS_state = 5 ∧ s.dev.pat.committing =
    false ∧ v.toNat % 2 ^ 16 ≠ 0 ∧ s.dev.pat.trialFrom + v.toNat % 2 ^ 16 * 1000000000 ≤ s.upAt t ∧
    s.dev.pat.inactive = some p) :=
  ⟨⟨(st .serving [(PAT_STATUS_state, 5)]), 5, by decide +kernel⟩,
   ⟨(st .serving [(PAT_STATUS_state, 2)]), 5, by decide +kernel⟩,
   ⟨(dv (st .serving [(PAT_STATUS_state, 5)]) (fun d =>
     { d with pat := { d.pat with committing := true, active := { d.pat.active with raw := [1, 2, 3] } } })), 5,
     by decide +kernel⟩,
   ⟨(dv (st .serving [(PAT_STATUS_state, 5)]) (fun d =>
     { d with pat := { d.pat with inactive := some Pattern.factoryPattern } })), 5, Pattern.factoryPattern,
     by decide +kernel⟩,
   ⟨(st .serving [(PAT_STATUS_state, 2)]), 5, by decide +kernel⟩,
   ⟨(dv (st .serving [(PAT_STATUS_state, 5), (PAT_TRIAL_TIMEOUT_seconds, 1)]) (fun d =>
     { d with pat := { d.pat with inactive := some Pattern.factoryPattern } })), 1000000000,
     Pattern.factoryPattern, by decide +kernel⟩,
   ⟨(st .serving [(PAT_STATUS_state, 5)]), 5, by decide +kernel⟩,
   ⟨(st .serving []), 77, 5, by decide +kernel⟩,
   ⟨(dv (st .serving [(PAT_STATUS_state, 5)]) (fun d =>
     { d with pat := { d.pat with inactive := some Pattern.factoryPattern } })), 1, 1000000000,
     Pattern.factoryPattern, by decide +kernel⟩⟩

theorem test_meets_TimebaseSources :
  (∃ (s : State) (p dom : Nat) (m x : PtpMaster) (t : Nat), p < 6 ∧ s.w.mainOn = true ∧ s.w.gated 0x18 = false ∧
    dom = s.reg TBS_CTRL_domain ∧ s.reg TBS_CTRL_ptp_role = 1 ∧ s.dev.tb.ptpValid = true ∧ s.dev.tb.master = some x
    ∧ x.identity = m.identity) ∧
  (∃ (s : State) (p dom : Nat) (m : PtpMaster) (t : Nat), p < 6 ∧ s.w.mainOn = true ∧ s.w.gated 0x18 = false ∧ dom
    = s.reg TBS_CTRL_domain ∧ s.reg TBS_CTRL_ptp_role = 1 ∧ s.dev.tb.ptpValid = false) ∧
  (∃ (s : State) (p dom seq : Nat) (origin corr : Int) (t : Nat), p < 6 ∧ s.w.mainOn = true ∧ s.w.gated 0x18 =
    false ∧ dom = s.reg TBS_CTRL_domain ∧ s.reg TBS_CTRL_ptp_role ≠ 0 ∧ s.bitOf (NET_PORT_CTRL_ptp_ts p) = true ∧
    s.dev.tb.ptpValid = true ∧ p = s.dev.tb.masterPort ∧ s.w.phaseSrc = 1 ∧ s.bitOf TBS_CTRL_servo_enable = true ∧
    (s.reg TBS_STATUS_servo_state = 1 ∨ s.reg TBS_STATUS_servo_state = 2) ∧ s.dev.tb.sampled = true) ∧
  (∃ (s : State) (p t : Nat), p < 6 ∧ s.w.mainOn = true ∧ s.reg TBS_CTRL_ptp_role ≠ 0 ∧ s.bitOf
    (NET_PORT_CTRL_ptp_ts p) = true ∧ (s.w.ptpPeer = true ∨ (s.dev.tb.ptpValid = true ∧ p = s.dev.tb.masterPort))) ∧
  (∃ (s : State) (p t : Nat) (m : PtpMaster), p < 6 ∧ s.w.mainOn = true ∧ s.w.gated 0x18 = false ∧
    s.w.ptpMasterPort p = true ∧ (s.w.at_ t).announced = some m ∧ s.bitOf (NET_PORT_CTRL_tx_enable p) = true ∧
    s.w.portLit p = true ∧ s.bitOf TBS_PTP_TAG_tagged = false) ∧
  (∃ (s : State) (t : Nat), s.dev.tb.ptpValid = true ∧ s.dev.tb.lastAnn + 3000000000 * 2 ^ (if s.reg
    TBS_PTP_DS_log_announce ≤ 2 then s.reg TBS_PTP_DS_log_announce else 0) ≤ s.upAt t) ∧
  (∃ (s : State) (gnss : Bool) (sec t : Nat), sec < 0x1000000000000 ∧ s.w.mainOn = true ∧ s.bitOf
    TBS_CTRL_pps_select = gnss) ∧
  (∃ (s : State) (t x : Nat), s.w.mainOn = true ∧ s.dev.tb.ppsLast = some x ∧ x + 1100000000 ≤ s.upAt t) ∧
  (∃ (s : State) (t : Nat), s.w.mainOn = true) ∧
  (∃ (s : State) (t : Nat), s.w.mainOn = true ∧ s.dev.tb.refValid = true) :=
  ⟨⟨(dv (st .serving [(NET_PORT_CTRL_enable 0, 1), (TBS_CTRL_ptp_role, 1), (TBS_CTRL_domain, 0)]) (fun d =>
     { d with tb := { d.tb with ptpValid := true, master := some ⟨1,6,0,0,1,9,0,none⟩ } })), 0, 0,
     ⟨2,6,0,0,1,9,0,none⟩, ⟨1,6,0,0,1,9,0,none⟩, 5, by decide +kernel⟩,
   ⟨(dv (st .serving [(NET_PORT_CTRL_enable 0, 1), (TBS_CTRL_ptp_role, 1), (TBS_CTRL_domain, 0)]) (fun d =>
     { d with tb := { d.tb with foreign := some (⟨2,6,0,0,1,9,0,none⟩, 1) } })), 0, 0, ⟨2,6,0,0,1,9,0,none⟩, 5,
     by decide +kernel⟩,
   ⟨(dv (st .serving [(NET_PORT_CTRL_ptp_ts 0, 1), (TBS_CTRL_ptp_role, 1), (TBS_CTRL_domain, 0),
     (TBS_CTRL_servo_enable, 1), (TBS_STATUS_servo_state, 1)]) (fun d =>
     { d with tb := { d.tb with ptpValid := true, sampled := true, list := 1, master := some ⟨1,6,0,0,1,9,0,none⟩ } })),
     0, 0, 7, 100000, 0, 100050, by decide +kernel⟩,
   ⟨(st .serving [(TBS_CTRL_ptp_role, 1), (TBS_CTRL_domain, 0), (TBS_CTRL_profile, 1), (NET_PORT_CTRL_ptp_ts 0,
     1)]), 0, 5, by decide +kernel⟩,
   ⟨(dv (sv [(TBS_CTRL_ptp_role, 3), (NET_PORT_CTRL_tx_enable 1, 1), (TBS_STATUS_servo_state, 2),
     (TBS_PTP_TAG_tagged, 0)]) (fun d =>
     { d with tb := { d.tb with list := 1, ptpValid := true, master := some ⟨1,6,0,0,1,9,0,none⟩ } })), 1, 5,
     ⟨1,6,0,0,1,9,1,none⟩, by decide +kernel⟩,
   ⟨(dv (st .serving []) (fun d => { d with tb := { d.tb with ptpValid := true } })), 24000000000,
     by decide +kernel⟩,
   ⟨(st .serving []), false, 0, 5, by decide +kernel⟩,
   ⟨(dv (st .serving []) (fun d => { d with tb := { d.tb with ppsLast := some 0, ppsValid := true } })),
     1100000000, 0, by decide +kernel⟩,
   ⟨(dv (st .serving []) (fun d => { d with tb := { d.tb with list := 3 } })), 5, by decide +kernel⟩,
   ⟨(dv (st .serving []) (fun d => { d with tb := { d.tb with refValid := true } })), 5, by decide +kernel⟩⟩

theorem test_meets_TimebaseClock :
  (∃ (s : State), s.lanes ∧ (sgn 32 (s.reg TBS_STEP_NS_v)).natAbs ≤ 999999999) ∧
  (∃ (s : State), s.lanes ∧ 999999999 < (sgn 32 (s.reg TBS_STEP_NS_v)).natAbs) ∧
  (∃ (s : State), s.lanes) ∧
  (∃ (s : State), s.lanes) ∧
  (∃ (s : State) (t : Nat), (s.w.at_ t).tb.slew = 0) ∧
  (∃ (s : State) (t : Nat), (s.w.at_ t).tb.slew ≠ 0) ∧
  (∃ (s : State) (v : W32) (d : RegDef), s.lanes ∧ regDefAt TBS_CTRL_servo_enable.addr = some d) ∧
  (∃ (s : State) (t : Nat), s.w.mainOn = true ∧ s.bitOf TBS_UTC_OFFSET_leap_pending = true ∧ s.reg TBS_LEAP_AT_LO_v
    + 2 ^ 32 * s.reg TBS_LEAP_AT_HI_v ≤ s.nsAt t / 1000000000) ∧
  (∃ (s : State) (t x : Nat), s.dev.tb.leapAt = some x ∧ x + 86400000000000 ≤ s.nsAt t) ∧
  (∃ (s : State), s.lanes) :=
  ⟨⟨(st .serving [(TBS_STEP_NS_v, 5)]), by decide +kernel⟩,
   ⟨(st .serving [(TBS_STEP_NS_v, 1000000000)]), by decide +kernel⟩,
   ⟨(st .serving [(TBS_STATUS_servo_state, 2)]), by decide +kernel⟩,
   ⟨(dv (st .serving [(TBS_STATUS_servo_state, 3), (TBS_CTRL_servo_enable, 1)]) (fun d =>
     { d with tb := { d.tb with list := 2, ppsValid := true, holdCmd := true } })), by decide +kernel⟩,
   ⟨(st .serving [(TBS_STATUS_slewing, 1)]), 5, by decide +kernel⟩,
   ⟨(dv (st .serving [(TBS_STATUS_slewing, 1)]) (fun d => { d with tb := { d.tb with slew := 900000000000000 } })),
     5, by decide +kernel⟩,
   ⟨(dv (st .serving []) (fun d => { d with tb := { d.tb with slew := 9 } })), 0x1200, (regDefAt
     TBS_CTRL_servo_enable.addr).get (by decide +kernel), by decide +kernel⟩,
   ⟨(st .serving [(TBS_UTC_OFFSET_leap_pending, 1), (TBS_LEAP_AT_LO_v, 3)]), 3000000000, by decide +kernel⟩,
   ⟨(dv (st .serving [(TBS_UTC_OFFSET_leap_occurred, 1)]) (fun d =>
     { d with tb := { d.tb with leapAt := some 0 } })), 86400000000000, 0, by decide +kernel⟩,
   ⟨(st .serving []), by decide +kernel⟩⟩

theorem test_meets_TimebaseTriggers :
  (∃ (s : State) (n : Nat) (v : W32) (x : Nat), s.lanes ∧ n < 16 ∧ v.getLsbD 0 = true ∧ fldOf v (TRG_CTRL_target
    n).lo (TRG_CTRL_target n).width < 6 ∧ s.w.trgInstant n = some x) ∧
  (∃ (s : State) (n : Nat) (v : W32), s.lanes ∧ n < 16 ∧ (v.getLsbD 0 = false ∨ 6 ≤ fldOf v (TRG_CTRL_target n).lo
    (TRG_CTRL_target n).width ∨ s.w.trgInstant n = none)) ∧
  (∃ (s : State) (n t : Nat) (a : TrgArm), n < 16 ∧ s.w.mainOn = true ∧ tblGet s.dev.tb.trg n = some a ∧ a.next ≤
    s.nsAt t ∧ (s.reg (TRG_CTRL_target n) ≠ 4 ∨ (∀ o ∈ s.dev.cry.ops, ¬(o.state = 1 ∧ o.unit = some n)))) ∧
  (∃ (s : State) (t : Nat), s.w.mainOn = true ∧ s.dev.tb.tickSec < s.nsAt t / 1000000000) ∧
  (∃ (s : State) (t : Nat), s.w.mainOn = true ∧ s.dev.tb.ppsSec < s.nsAt t / 1000000000 ∧ (s.bitOf
    TBS_CTRL_pps_out_gate = false ∨ (s.w.at_ t).timeOk = true)) ∧
  (∃ (s : State) (t : Nat), s.nsAt t / 1000000000 ≤ s.dev.tb.ppsSec) ∧
  (∃ (s : State) (t : Nat), s.dev.tb.ppsOut = true ∧ s.dev.tb.ppsRoseAt + max 1 (min 999 (s.reg
    TBS_PPS_CFG_out_width_ms)) * 1000000 ≤ s.upAt t) ∧
  (∃ (s : State) (input : Nat) (rising : Bool) (t frac n : Nat), input < 128 ∧ frac < 65536 ∧ s.w.mainOn = true ∧ n
    < 16 ∧ s.w.captureSees input = true ∧ s.bitOf (CAP_CTRL_enable n) = true ∧ s.reg (CAP_CTRL_input n) = input ∧
    (if rising != (match W.capturePin input with | some (p, _) => s.w.pinInverts p | none => false) then s.reg
    (CAP_CTRL_edge n) % 2 = 1 else s.reg (CAP_CTRL_edge n) / 2 = 1)) ∧
  (∃ (s : State) (n x : Nat), s.lanes ∧ n < 16 ∧ x = (((tblGet s.dev.tb.cap n).getD []).head?).getD 0) ∧
  (∃ (s : State) (n : Nat), s.lanes ∧ n < 16) :=
  ⟨⟨(st .serving [(TRG_SEC_LO_v 2, 5)]), 2, 1, 5000000000, by decide +kernel⟩,
   ⟨(st .serving [(TRG_NS_v 2, 1000000000)]), 2, 1, by decide +kernel⟩,
   ⟨(dv (st .serving [(TRG_CTRL_target 0, 5)]) (fun d =>
     { d with tb := { d.tb with trg := [(0, ⟨3, 0, 3, false, 0⟩)] } })), 0, 5, ⟨3, 0, 3, false, 0⟩,
     by decide +kernel⟩,
   ⟨(st .serving []), 7000000000, by decide +kernel⟩,
   ⟨(st .serving []), 7000000000, by decide +kernel⟩,
   ⟨(st .serving []), 7, by decide +kernel⟩,
   ⟨(dv (st .serving []) (fun d => { d with tb := { d.tb with ppsOut := true } })), 999000000, by decide +kernel⟩,
   ⟨(st .serving [(CAP_CTRL_enable 3, 1), (CAP_CTRL_input 3, 0), (CAP_CTRL_edge 3, 1)]), 0, true, 5, 9, 3,
     by decide +kernel⟩,
   ⟨(dv (st .serving []) (fun d => { d with tb := { d.tb with cap := [(3, [65536 * 9000000007])] } })), 3, 65536 *
     9000000007, by decide +kernel⟩,
   ⟨(dv (st .serving []) (fun d => { d with tb := { d.tb with cap := [(3, [1, 2])] } })), 3, by decide +kernel⟩⟩

theorem test_meets_IngressStreams :
  (∃ (s : State) (f : C37Frame) (i k inst : Nat) (h h' : Head) (e : List Byte) (sec : Nat), s.w.serves = true ∧
    s.bitOf ING_CTRL_enable = true ∧ s.w.isQuiet = false ∧ s.dev.net.host.any (fun x => !x.forLanes) = false ∧
    W.preCheck f.data = none ∧ tblGet s.dev.ing.map (be f.data 4 2) = some i ∧ tblGet s.dev.ing.heads i = some h ∧
    ((((s.w.at_ f.arrival).cross 0xF1 5 (W.c37Len f)).getD (s.w.at_ f.arrival)).fetchEnt i).ent i = e ∧ W.sourceOk
    e f = true ∧ 2 ≤ h.state ∧ h.state ≤ 4 ∧ be f.data 2 2 = entFrameSize e ∧ be f.data 10 4 % 2 ^ 24 < entTimeBase
    e ∧ (s.w.taiOf (be f.data 6 4) (be f.data 10 4)).toNat = sec ∧ ((s.w.at_ f.arrival).tqCode = 0xF ∨ ((sec *
    entTimeBase e * 1000000000 + be f.data 10 4 % 2 ^ 24 * 1000000000 : Nat) - (f.arrival * entTimeBase e : Nat) :
    Int).natAbs ≤ 2000000000 * entTimeBase e) ∧ W.gridOf e sec (be f.data 10 4 % 2 ^ 24) = some (k, inst) ∧
    W.histCheck h k = (0, h') ∧ ((((s.w.at_ f.arrival).cross 0xF1 5 (W.c37Len f)).getD (s.w.at_
    f.arrival)).fetchEnt i).fits ((h.chain.map (fun x => ((((s.w.at_ f.arrival).cross 0xF1 5 (W.c37Len f)).getD
    (s.w.at_ f.arrival)).fetchEnt i).checkedOf (tst (entFlags e) 2) x (((((s.w.at_ f.arrival).cross 0xF1 5
    (W.c37Len f)).getD (s.w.at_ f.arrival)).fetchEnt i).ent x) f.data inst f.arrival (be f.data 10 4 / 2 ^ 24 % 16)
    ((s.w.at_ f.arrival).tqCode == 0xF))).filter (fun c => c.group != 0xFF)) = true) ∧
  (∃ (s : State) (f : C37Frame) (k : Nat), s.w.serves = true ∧ s.bitOf ING_CTRL_enable = true ∧ s.w.isQuiet = false
    ∧ s.dev.net.host.any (fun x => !x.forLanes) = false ∧ (W.preCheck f.data = some k ∨ (W.preCheck f.data = none ∧
    tblGet s.dev.ing.map (be f.data 4 2) = none ∧ k = 5))) ∧
  (∃ (s : State) (g : TcpSeg) (k : Nat) (x : TcpConn), s.w.mainOn = true ∧ s.dev.ing.conns.find? (fun c => c.2.v6
    == g.v6 && c.2.remote == g.remote && c.2.local_ == g.local_ && c.2.remotePort == g.remotePort && c.2.localPort
    == g.localPort) = some (k, x) ∧ g.rst = false ∧ g.fin = false ∧ g.seq = x.rcvNext ∧ (W.cutFrames (g.data.length
    + 1) (x.buf ++ g.data) []).2.2 = false) ∧
  (∃ (s : State) (g : TcpSeg) (k : Nat) (x : TcpConn), s.w.mainOn = true ∧ s.dev.ing.conns.find? (fun c => c.2.v6
    == g.v6 && c.2.remote == g.remote && c.2.local_ == g.local_ && c.2.remotePort == g.remotePort && c.2.localPort
    == g.localPort) = some (k, x) ∧ (g.rst = true ∨ g.seq ≠ x.rcvNext)) ∧
  (∃ (s : State) (g : TcpSeg) (q : QItem), s.w.mainOn = true ∧ s.dev.ing.conns.find? (fun c => c.2.v6 == g.v6 &&
    c.2.remote == g.remote && c.2.local_ == g.local_ && c.2.remotePort == g.remotePort && c.2.localPort ==
    g.localPort) = none ∧ s.dev.pat.active.path 0xF1 0xF0 = some q ∧ s.w.hasRoom 0xF1 0xF0 g.frame.length = true ∧
    s.dev.net.host.any HostFrame.forLanes = false) ∧
  (∃ (s : State) (conn t m : Nat) (x : TcpConn), conn < 256 ∧ tblGet s.dev.ing.conns conn = some x ∧ x.unacked =
    some m ∧ m + 5000000 ≤ s.upAt t) ∧
  (∃ (s : State) (conn q : Nat) (data : List Byte) (x : TcpConn), s.lanes ∧ conn < 256 ∧ tblGet s.dev.ing.conns
    conn = some x) ∧
  (∃ (s : State) (t i : Nat) (h : Head), s.w.serves = true ∧ (h.state = 2 ∨ h.state = 3) ∧ h.since + 1000000 *
    entSilence ((s.w.at_ t).ent i) ≤ s.upAt t ∧ s.dev.ing.heads = [(i, h)]) ∧
  (∃ (s : State) (t : Nat), (∀ e ∈ s.dev.ing.heads, (e.2.state ≠ 2 ∧ e.2.state ≠ 3) ∨ s.upAt t < e.2.since +
    1000000 * entSilence ((s.w.at_ t).ent e.1))) :=
  ⟨⟨({ dv (sv [(ING_CTRL_enable, 1), (TBS_UTC_OFFSET_tai_utc, 0)]) (fun d => { d with ing := { d.ing with map := [(7, 2)], heads := [(2, ⟨[2], 2, none, 0, false, 0⟩)] } }) with mem := tM 0x800100200 tEntry }),
     tFrame, 2, 10, 1000000000, ⟨[2], 2, none, 0, false, 0⟩, ⟨[2], 2, some 10, 1, false, 0⟩, tEntry, 1,
     by decide +kernel⟩,
   ⟨(sv [(ING_CTRL_enable, 1)]), tFrame, 5, by decide +kernel⟩,
   ⟨(dv (sv []) (fun d =>
     { d with ing := { d.ing with conns := [(3, ⟨false, [], [], 1, 2, 10, [], none, 0⟩)] } })), ⟨false, [], [], 1,
     2, 10, false, false, [0xAA, 1], [], 5⟩, 3, ⟨false, [], [], 1, 2, 10, [], none, 0⟩, by decide +kernel⟩,
   ⟨(dv (sv []) (fun d =>
     { d with ing := { d.ing with conns := [(3, ⟨false, [], [], 1, 2, 10, [], none, 0⟩)] } })), ⟨false, [], [], 1,
     2, 11, false, false, [0xAA, 1], [], 5⟩, 3, ⟨false, [], [], 1, 2, 10, [], none, 0⟩, by decide +kernel⟩,
   ⟨(sv []), ⟨false, [], [], 1, 2, 11, false, false, [], [1, 2, 3], 5⟩, ⟨0, 0xF1, 0xF0, false, 18112, 9018, 0⟩,
     by decide +kernel⟩,
   ⟨(dv (sv []) (fun d =>
     { d with ing := { d.ing with conns := [(3, ⟨false, [], [], 1, 2, 10, [], some 0, 0⟩)] } })), 3, 5000000, 0,
     ⟨false, [], [], 1, 2, 10, [], some 0, 0⟩, by decide +kernel⟩,
   ⟨(dv (sv []) (fun d =>
     { d with ing := { d.ing with conns := [(3, ⟨false, [], [], 1, 2, 10, [], some 0, 1⟩)] } })), 3, 5, [], ⟨false,
     [], [], 1, 2, 10, [], some 0, 1⟩, by decide +kernel⟩,
   ⟨(dv (sv []) (fun d => { d with ing := { d.ing with heads := [(2, ⟨[2], 3, none, 0, false, 0⟩)] } })),
     70000000000, 2, ⟨[2], 3, none, 0, false, 0⟩, by decide +kernel⟩,
   ⟨(dv (sv []) (fun d => { d with ing := { d.ing with heads := [(2, ⟨[2], 4, none, 0, false, 0⟩)] } })),
     70000000000, by decide +kernel⟩⟩

theorem test_meets_IngressTable :
  (∃ (s : State) (i : Nat), s.lanes ∧ i < 8192 ∧ s.bitOf ING_CMD_STATUS_busy = false ∧ i <
    s.dev.pat.active.streamEntries) ∧
  (∃ (s : State) (i : Nat) (chain : List Nat), s.lanes ∧ i < 8192 ∧ s.bitOf ING_CMD_STATUS_busy = false ∧ i <
    s.dev.pat.active.streamEntries ∧ s.w.walk i 64 i [] = (0, chain) ∧ W.chainError (patGroups s.dev.pat.active)
    (chain.map (fun e => (chain.foldl (fun w e => w.dropLine e) s.w).rdBytes (s.w.entAddrOf e) 256)) = 0) ∧
  (∃ (s : State) (i k : Nat) (chain : List Nat), s.lanes ∧ i < 8192 ∧ s.bitOf ING_CMD_STATUS_busy = false ∧ i <
    s.dev.pat.active.streamEntries ∧ k ≠ 0 ∧ (s.w.walk i 64 i [] = (k, chain) ∨ (s.w.walk i 64 i [] = (0, chain) ∧
    W.chainError (patGroups s.dev.pat.active) (chain.map (fun e => (chain.foldl (fun w e => w.dropLine e)
    s.w).rdBytes (s.w.entAddrOf e) 256)) = k))) ∧
  (∃ (s : State) (i : Nat) (h : Head), s.lanes ∧ i < 8192 ∧ s.bitOf ING_CMD_STATUS_busy = false ∧ i <
    s.dev.pat.active.streamEntries ∧ tblGet s.dev.ing.heads i = some h ∧ 2 ≤ h.state ∧ h.state ≤ 5) ∧
  (∃ (s : State) (i : Nat), s.lanes ∧ i < 8192 ∧ s.bitOf ING_CMD_STATUS_busy = false ∧ i <
    s.dev.pat.active.streamEntries ∧ (s.w.headState i < 2 ∨ 5 < s.w.headState i)) ∧
  (∃ (s : State) (i m : Nat) (l : CacheLine), s.lanes ∧ i < 8192 ∧ s.bitOf ING_CMD_STATUS_busy = false ∧ i <
    s.dev.pat.active.streamEntries ∧ tblGet s.dev.ing.cache i = some l ∧ l.dirty = some m) ∧
  (∃ (s : State) (i : Nat), s.lanes ∧ i < 8192 ∧ s.bitOf ING_CMD_STATUS_busy = false ∧ i <
    s.dev.pat.active.streamEntries) ∧
  (∃ (s : State) (i : Nat), s.lanes ∧ i < 8192 ∧ s.bitOf ING_CMD_STATUS_busy = false ∧ i <
    s.dev.pat.active.streamEntries) ∧
  (∃ (s : State), s.lanes ∧ s.bitOf ING_CMD_STATUS_busy = false) ∧
  (∃ (s : State) (a k : Nat) (x : TcpConn) (b : List Byte), s.lanes ∧ s.bitOf ING_CMD_STATUS_busy = false ∧ s.reg
    ING_CMD_ARG_LO_v + 2 ^ 32 * s.reg ING_CMD_ARG_HI_v = a ∧ inRam a 48 = true ∧ a % 8 = 0 ∧ s.w.rdBytes a 48 = b ∧
    W.tcpDesc b = (k, x) ∧ tblGet s.dev.ing.conns k = none ∧ s.dev.ing.conns.any (fun e => W.sameConn e.2 x) =
    false ∧ x.localPort = s.dev.pat.active.c37Tcp ∧ s.dev.pat.active.c37Tcp ≠ 0 ∧ s.bitOf ING_CTRL_tcp_enable =
    true ∧ le b 41 1 ≤ 1 ∧ allZero (cut b 42 6) = true) ∧
  (∃ (s : State) (a k : Nat) (x : TcpConn) (b : List Byte), s.lanes ∧ s.bitOf ING_CMD_STATUS_busy = false ∧ s.reg
    ING_CMD_ARG_LO_v + 2 ^ 32 * s.reg ING_CMD_ARG_HI_v = a ∧ s.w.rdBytes a 48 = b ∧ W.tcpDesc b = (k, x) ∧ ((tblGet
    s.dev.ing.conns k).isSome = true ∨ s.dev.ing.conns.any (fun e => W.sameConn e.2 x) = true ∨ x.localPort ≠
    s.dev.pat.active.c37Tcp ∨ s.dev.pat.active.c37Tcp = 0 ∨ s.bitOf ING_CTRL_tcp_enable = false)) ∧
  (∃ (s : State), s.lanes ∧ s.bitOf ING_CMD_STATUS_busy = false) ∧
  (∃ (s : State) (i : Nat), s.lanes ∧ i < 8192 ∧ (s.bitOf ING_CMD_STATUS_busy = true ∨
    s.dev.pat.active.streamEntries ≤ i)) ∧
  (∃ (s : State) (v : W32), s.lanes) ∧
  (∃ (s : State) (v : W32), s.lanes) ∧
  (∃ (s : State) (i t m : Nat) (l : CacheLine), i < 8192 ∧ tblGet s.dev.ing.cache i = some l ∧ l.dirty = some m) :=
  ⟨⟨(dv (sv []) (fun d => { d with ing := { d.ing with cache := [(3, ⟨[], some 0, 0⟩)] } })), 3, by decide +kernel⟩,
   ⟨({ sv [] with mem := tM 0x800100200 tEntry }), 2, [2], by decide +kernel⟩,
   ⟨({ sv [] with mem := tM 0x800100200 (patch tEntry 4 [0, 0]) }), 2, 2, [2], by decide +kernel⟩,
   ⟨(dv (sv []) (fun d => { d with ing := { d.ing with heads := [(2, ⟨[2], 2, none, 0, false, 0⟩)] } })), 2, ⟨[2],
     2, none, 0, false, 0⟩, by decide +kernel⟩,
   ⟨(sv []), 2, by decide +kernel⟩,
   ⟨(dv (sv []) (fun d => { d with ing := { d.ing with cache := [(3, ⟨List.replicate 194 7, some 0, 0⟩)] } })), 3,
     0, ⟨List.replicate 194 7, some 0, 0⟩, by decide +kernel⟩,
   ⟨(dv (sv []) (fun d => { d with ing := { d.ing with cache := [(3, ⟨tEntry, some 0, 0⟩)] } })), 3,
     by decide +kernel⟩,
   ⟨(sv [(ING_CMD_ARG_LO_v, 7)]), 3, by decide +kernel⟩,
   ⟨(dv (sv [(ING_CMD_ARG_LO_v, 7)]) (fun d => { d with ing := { d.ing with map := [(7, 3)] } })),
     by decide +kernel⟩,
   ⟨({ dv (sv [(ING_CMD_ARG_LO_v, 0x10000000), (ING_CTRL_tcp_enable, 1)]) (fun d => { d with pat := { d.pat with active := { tPat with c37Tcp := 7 } } }) with mem := [(0x10000022, 7)] }),
     0x10000000, 0, ⟨false, List.replicate 16 0, List.replicate 16 0, 0, 7, 0, [], none, 0⟩, tB 48 [(34, 2, 7)],
     by decide +kernel⟩,
   ⟨(sv [(ING_CMD_ARG_LO_v, 0x10000000)]), 0x10000000, 0, ⟨false, List.replicate 16 0, List.replicate 16 0, 0, 0,
     0, [], none, 0⟩, tB 48 [], by decide +kernel⟩,
   ⟨(dv (sv [(ING_CMD_ARG_LO_v, 3)]) (fun d =>
     { d with ing := { d.ing with conns := [(3, ⟨false, [], [], 1, 2, 10, [], none, 0⟩)] } })), by decide +kernel⟩,
   ⟨(sv []), 100, by decide +kernel⟩,
   ⟨(dv (sv []) (fun d => { d with ing := { d.ing with map := [(7, 3)] } })), 7, by decide +kernel⟩,
   ⟨(dv (sv []) (fun d =>
     { d with ing := { d.ing with conns := [(3, ⟨false, [], [], 1, 2, 10, [], none, 0⟩)] } })), 1,
     by decide +kernel⟩,
   ⟨(dv (sv []) (fun d => { d with ing := { d.ing with cache := [(3, ⟨List.replicate 194 7, some 0, 0⟩)] } })), 3,
     5, 0, ⟨List.replicate 194 7, some 0, 0⟩, by decide +kernel⟩⟩

theorem test_meets_AlignmentCommands :
  (∃ (s : State) (loc : Bool) (t : Nat) (q : QUnit) (c : Checked) (i : List Byte) (y : AlnSet) (e g : Nat),
    s.w.loom = true ∧ s.w.headOf (if loc then 9 else 5) 6 = some q ∧ q.body = .checked c ∧ q.aborted = false ∧ (if
    c.isLocal then s.reg ALN_LOCAL_CFG_group else c.group) = g ∧ (if c.isLocal then W.localEntry else c.entry) = e
    ∧ s.w.alnItem g = some i ∧ (s.w.alnGroup i).running = true ∧ (s.w.alnGroup i).known ≠ [] ∧ (s.w.alnGroup
    i).sets = [y] ∧ y.instant = c.instant ∧ y.isOpen = true ∧ isInstant (gRate i) c.instant = true ∧ y.slots.any
    (fun z => z.entry == e) = true ∧ y.slots.all (fun z => z.entry != e || z.status == 1) = true ∧ c.instant ≤
    s.nsAt t + 50000000 ∧ c.need ≤ gWidth i) ∧
  (∃ (s : State) (loc : Bool) (t : Nat) (q : QUnit) (c : Checked) (i : List Byte) (e g : Nat), s.w.loom = true ∧
    s.w.headOf (if loc then 9 else 5) 6 = some q ∧ q.body = .checked c ∧ q.aborted = false ∧ (if c.isLocal then
    s.reg ALN_LOCAL_CFG_group else c.group) = g ∧ (if c.isLocal then W.localEntry else c.entry) = e ∧ s.w.alnItem g
    = some i ∧ (s.w.alnGroup i).running = true ∧ (s.w.alnGroup i).known ≠ [] ∧ (isInstant (gRate i) c.instant =
    false ∨ ((s.w.alnGroup i).sets.any (fun y => y.instant == c.instant) = true ∧ (s.w.alnGroup i).sets.all (fun y
    => y.instant != c.instant || !(y.slots.map (fun z => z.entry)).contains e) = true))) ∧
  (∃ (s : State) (loc : Bool) (t : Nat) (q : QUnit) (c : Checked) (i : List Byte) (y : AlnSet) (e g : Nat),
    s.w.loom = true ∧ s.w.headOf (if loc then 9 else 5) 6 = some q ∧ q.body = .checked c ∧ q.aborted = false ∧ (if
    c.isLocal then s.reg ALN_LOCAL_CFG_group else c.group) = g ∧ (if c.isLocal then W.localEntry else c.entry) = e
    ∧ s.w.alnItem g = some i ∧ (s.w.alnGroup i).running = true ∧ (s.w.alnGroup i).known ≠ [] ∧ (s.w.alnGroup
    i).sets = [y] ∧ y.instant = c.instant ∧ isInstant (gRate i) c.instant = true ∧ (y.slots.map (fun z =>
    z.entry)).contains e = true ∧ (s.nsAt t + 50000000 < c.instant ∨ y.slots.all (fun z => z.entry != e || z.status
    == 0) = true)) ∧
  (∃ (s : State) (g inst : Nat) (i : List Byte), g < 64 ∧ s.w.loom = true ∧ s.w.alnItem g = some i ∧ (s.w.alnGroup
    i).running = true ∧ (s.w.alnGroup i).known ≠ [] ∧ (s.w.at_ inst).membersOf (gNum i) ≠ [] ∧ isInstant (gRate i)
    inst = true ∧ inst ≤ s.nsAt inst ∧ (s.w.alnGroup i).runFrom ≤ inst ∧ ((s.w.alnGroup i).lastClosed.all (fun l =>
    decide (l < inst))) = true ∧ (s.w.alnGroup i).sets.any (fun y => y.instant == inst) = false) ∧
  (∃ (s : State) (g inst : Nat) (i : List Byte), g < 64 ∧ s.w.alnItem g = some i ∧ (isInstant (gRate i) inst =
    false ∨ ((s.w.alnGroup i).lastClosed.any (fun l => decide (inst ≤ l))) = true ∨ (s.w.alnGroup i).sets.any (fun
    y => y.instant == inst) = true)) ∧
  (∃ (s : State) (g inst t : Nat) (i : List Byte) (y : AlnSet), g < 64 ∧ s.w.loom = true ∧ s.w.alnItem g = some i ∧
    (s.w.alnGroup i).sets.find? (fun y => y.instant == inst && y.isOpen) = some y ∧ y.instant + 1000000 * y.window
    ≤ s.nsAt t ∧ 0 < countStatus y.slots 1) ∧
  (∃ (s : State) (g inst t : Nat) (i : List Byte) (y : AlnSet), g < 64 ∧ s.w.alnItem g = some i ∧ (s.w.alnGroup
    i).sets.find? (fun y => y.instant == inst && y.isOpen) = some y ∧ s.nsAt t < y.instant + 1000000 * y.window) ∧
  (∃ (s : State) (g inst t : Nat) (i : List Byte) (y : AlnSet), g < 64 ∧ s.w.loom = true ∧ s.w.alnItem g = some i ∧
    gAdaptive i = true ∧ (s.w.alnGroup i).sets.find? (fun y => y.instant == inst && !y.sampled) = some y ∧
    y.instant + 1000000 * gMax i ≤ s.nsAt t) ∧
  (∃ (s : State) (v : W32), s.lanes ∧ s.w.alnOn = true) ∧
  (∃ (s : State) (g : Nat) (v : W32) (i : List Byte), s.lanes ∧ g < 64 ∧ s.w.alnOn = true ∧ s.w.alnItem g = some i) ∧
  (∃ (s : State) (n : Nat), s.lanes ∧ n < 16 ∧ s.w.alnOn = true) :=
  ⟨⟨(dv (sv []) (fun d =>
     { d with que := [(1, { QState.empty with units := [⟨.checked tChk, 56, false⟩] })], aln := { d.aln with groups := [(0, tGrp)] } })),
     false, 1000000005, ⟨.checked tChk, 56, false⟩, tChk, (tPat.groups.getD []).headD [], tSet, 2, 0,
     by decide +kernel⟩,
   ⟨(dv (sv []) (fun d =>
     { d with que := [(1, { QState.empty with units := [⟨.checked { tChk with entry := 7 }, 56, false⟩] })], aln := { d.aln with groups := [(0, tGrp)] } })),
     false, 1000000005, ⟨.checked { tChk with entry := 7 }, 56, false⟩, { tChk with entry := 7 }, (tPat.groups.getD
     []).headD [], 7, 0, by decide +kernel⟩,
   ⟨(dv (sv []) (fun d =>
     { d with que := [(1, { QState.empty with units := [⟨.checked tChk, 56, false⟩] })], aln := { d.aln with groups := [(0, tGrp)] } })),
     false, 5, ⟨.checked tChk, 56, false⟩, tChk, (tPat.groups.getD []).headD [], tSet, 2, 0, by decide +kernel⟩,
   ⟨(dv (sv []) (fun d =>
     { d with ing := { d.ing with heads := [(2, ⟨[2], 3, none, 0, false, 0⟩)], cache := [(2, ⟨tEntry, none, 0⟩)] }, aln := { d.aln with groups := [(0, { tGrp with sets := [] })] } })),
     0, 1000000000, (tPat.groups.getD []).headD [], by decide +kernel⟩,
   ⟨(dv (sv []) (fun d => { d with aln := { d.aln with groups := [(0, tGrp)] } })), 0, 1000000000,
     (tPat.groups.getD []).headD [], by decide +kernel⟩,
   ⟨(dv (sv []) (fun d => { d with aln := { d.aln with groups := [(0, tGrp)] } })), 0, 1000000000, 1100000000,
     (tPat.groups.getD []).headD [], tSet, by decide +kernel⟩,
   ⟨(dv (sv []) (fun d => { d with aln := { d.aln with groups := [(0, tGrp)] } })), 0, 1000000000, 1099999999,
     (tPat.groups.getD []).headD [], tSet, by decide +kernel⟩,
   ⟨(dv (sv []) (fun d =>
     { d with pat := { d.pat with active := { tPat with groups := some [tB 64 [(1, 1, 1), (2, 2, 10), (8, 2, 100)]] } }, aln := { d.aln with groups := [(0, tGrp)] } })),
     0, 1000000000, 1100000000, tB 64 [(1, 1, 1), (2, 2, 10), (8, 2, 100)], tSet, by decide +kernel⟩,
   ⟨(dv (sv []) (fun d => { d with aln := { d.aln with groups := [(0, tGrp)] } })), 0, by decide +kernel⟩,
   ⟨(dv (sv [(ALN_CTRL_enable, 1)]) (fun d => { d with aln := { d.aln with groups := [(0, tGrp)] } })), 0, 1,
     (tPat.groups.getD []).headD [], by decide +kernel⟩,
   ⟨(sv [(ALN_OUT_CTRL_cfg_stale 3, 1)]), 3, by decide +kernel⟩⟩

theorem test_meets_AnalyticsCommands :
  (∃ (s : State) (t : Nat) (q : QUnit) (b : List Byte), s.w.loom = true ∧ s.dev.gan.waiting = [] ∧ s.w.headOf 6 7 =
    some q ∧ q.body = .bytes b ∧ q.aborted = false ∧ s.bitOf GAN_CTRL_enable = true ∧ le b 0 1 = 2) ∧
  (∃ (s : State) (t : Nat) (q : QUnit) (b : List Byte), s.w.loom = true ∧ s.dev.gan.waiting = [] ∧ s.w.headOf 6 7 =
    some q ∧ q.body = .bytes b ∧ q.aborted = false ∧ s.bitOf GAN_CTRL_enable = true ∧ le b 0 1 ≠ 2) ∧
  (∃ (s : State) (t n : Nat) (q : QUnit) (b i z : List Byte) (x : W32), s.w.loom = true ∧ s.dev.gan.waiting = [] ∧
    s.w.headOf 6 7 = some q ∧ q.body = .bytes b ∧ q.aborted = false ∧ s.bitOf GAN_CTRL_enable = true ∧ le b 0 1 ≠ 2
    ∧ s.w.ganHas 2 = true ∧ s.w.ganItems 6 = [(n, i)] ∧ slotOf (s.w.readSet (le b 8 8)) (le i 4 2) = some z ∧
    usable z (le i 6 1) (le i 7 1) = some x) ∧
  (∃ (s : State) (signal t sec : Nat) (i : List Byte), signal < 512 ∧ s.w.loom = true ∧ s.w.ganHas 3 = true ∧
    s.w.ganItem 3 signal = some i ∧ (s.w.tun signal).due = some sec) ∧
  (∃ (s : State) (v : W32) (i : List Byte), s.lanes ∧ s.w.ganItem (s.reg GAN_PARAM_SEL_kind) (s.reg
    GAN_PARAM_SEL_number) = some i ∧ s.reg GAN_PARAM_SEL_word ≠ 3 ∧ (W.paramWord i (s.reg GAN_PARAM_SEL_kind)
    (s.reg GAN_PARAM_SEL_word) v.toNat).2 = 0) ∧
  (∃ (s : State) (v : W32), s.lanes ∧ (∀ i ∈ (s.w.ganItem (s.reg GAN_PARAM_SEL_kind) (s.reg
    GAN_PARAM_SEL_number)).toList, s.reg GAN_PARAM_SEL_word = 3 ∨ (W.paramWord i (s.reg GAN_PARAM_SEL_kind) (s.reg
    GAN_PARAM_SEL_word) v.toNat).2 ≠ 0)) ∧
  (∃ (s : State) (word : Nat) (v : W32), s.lanes ∧ word < 32 ∧ s.w.ganHas 2 = true) ∧
  (∃ (s : State) (word : Nat) (v : W32), s.lanes ∧ word < 32 ∧ s.w.ganHas 2 = true) ∧
  (∃ (s : State) (v : W32), s.lanes ∧ s.w.ganHas 2 = true) ∧
  (∃ (s : State) (v : W32), s.lanes ∧ s.w.ganHas 3 = true) ∧
  (∃ (s : State) (v : W32), s.lanes ∧ s.w.ganHas 4 = true) ∧
  (∃ (s : State) (v : W32) (x : GanEdge), s.lanes ∧ s.w.ganHas 4 = true ∧ tblGet s.dev.gan.svy.edges (v.toNat %
    32768) = some x) ∧
  (∃ (s : State) (v : W32), s.lanes ∧ s.w.ganHas 2 = true) ∧
  (∃ (s : State) (v : W32), s.lanes) :=
  ⟨⟨(dv (sv [(GAN_CTRL_enable, 1)]) (fun d =>
     { d with que := [(2, { QState.empty with units := [⟨.bytes (tB 16 [(0, 1, 2), (1, 1, 3), (8, 8, 0x800300000)]), 16, false⟩] })] })),
     1000, ⟨.bytes (tB 16 [(0, 1, 2), (1, 1, 3), (8, 8, 0x800300000)]), 16, false⟩, tB 16 [(0, 1, 2), (1, 1, 3),
     (8, 8, 0x800300000)], by decide +kernel⟩,
   ⟨(dv (sv [(GAN_CTRL_enable, 1)]) (fun d =>
     { d with que := [(2, { QState.empty with units := [⟨.bytes (tB 16 [(0, 1, 1), (8, 8, 0x800300000)]), 16, false⟩] })] })),
     1000, ⟨.bytes (tB 16 [(0, 1, 1), (8, 8, 0x800300000)]), 16, false⟩, tB 16 [(0, 1, 1), (8, 8, 0x800300000)],
     by decide +kernel⟩,
   ⟨({ dv (sv [(GAN_CTRL_enable, 1)]) (fun d => { d with pat := { d.pat with active := { tPat with wiring := some [tB 16 [(0, 1, 6), (2, 2, 4), (4, 2, 5), (6, 1, 1), (8, 4, 0x42000000), (12, 4, 0x42400000)]] } }, que := [(2, { QState.empty with units := [⟨.bytes (tB 16 [(0, 1, 1), (8, 8, 0x800300000)]), 16, false⟩] })] }) with mem := tM 0x800300000 (tB 64 [(0, 1, 1), (8, 2, 1), (40, 2, 32)] ++ tB 32 [(0, 2, 5), (9, 1, 1), (20, 4, 0x42480000)]) }),
     1000, 4, ⟨.bytes (tB 16 [(0, 1, 1), (8, 8, 0x800300000)]), 16, false⟩, tB 16 [(0, 1, 1), (8, 8, 0x800300000)],
     tB 16 [(0, 1, 6), (2, 2, 4), (4, 2, 5), (6, 1, 1), (8, 4, 0x42000000), (12, 4, 0x42400000)], tB 32 [(0, 2, 5),
     (9, 1, 1), (20, 4, 0x42480000)], 0x42480000, by decide +kernel⟩,
   ⟨(dv (sv []) (fun d =>
     { d with pat := { d.pat with active := { tPat with wiring := some [tB 16 [(0, 1, 3), (2, 2, 4)]] } }, gan := { d.gan with tuns := [(4, { GanTun.empty with due := some 7 })] } })),
     4, 1000, 7, tB 16 [(0, 1, 3), (2, 2, 4)], by decide +kernel⟩,
   ⟨(dv (sv [(GAN_PARAM_SEL_kind, 1), (GAN_PARAM_SEL_word, 1), (GAN_PARAM_SEL_number, 4)]) (fun d =>
     { d with pat := { d.pat with active := { tPat with wiring := some [tB 16 [(0, 1, 1), (2, 2, 4)]] } } })),
     0x00050006, tB 16 [(0, 1, 1), (2, 2, 4)], by decide +kernel⟩,
   ⟨(sv []), 5, by decide +kernel⟩,
   ⟨(dv (sv [(GAN_RULE_EN_v 0, 2)]) (fun d =>
     { d with pat := { d.pat with active := { tPat with rules := some [tB 64 [(0, 2, 1)]] } }, gan := { d.gan with rules := [(1, { GanRule.empty with state := 2 })] } })),
     0, 1, by decide +kernel⟩,
   ⟨(dv (sv [(GAN_RULE_EN_v 0, 2)]) (fun d =>
     { d with pat := { d.pat with active := { tPat with rules := some [tB 64 [(0, 2, 1)]] } }, gan := { d.gan with rules := [(1, { GanRule.empty with state := 4 })] } })),
     0, 2, by decide +kernel⟩,
   ⟨(dv (sv []) (fun d =>
     { d with pat := { d.pat with active := { tPat with rules := some [tB 64 [(0, 2, 1)]] } }, gan := { d.gan with rules := [(1, { GanRule.empty with state := 4, hits := 3 })] } })),
     1, by decide +kernel⟩,
   ⟨(sv []), 1, by decide +kernel⟩,
   ⟨(sv []), 1, by decide +kernel⟩,
   ⟨(dv (sv []) (fun d =>
     { d with gan := { d.gan with svy := { d.gan.svy with edges := [(1, { GanEdge.empty with freqOpen := true })] } } })),
     1, { GanEdge.empty with freqOpen := true }, by decide +kernel⟩,
   ⟨(sv []), 0x20001, by decide +kernel⟩,
   ⟨(sv []), 0x640001, by decide +kernel⟩⟩

theorem test_meets_CrierRecords :
  (∃ (s : State) (t : Nat) (q : QUnit) (r : List Byte), s.w.cryOn = true ∧ s.dev.cry.lamp = [] ∧ s.w.headOf 7 8 =
    some q ∧ q.body = .bytes r ∧ q.aborted = false) ∧
  (∃ (s : State) (t o : Nat) (q : QUnit) (r : List Byte), s.w.cryOn = true ∧ s.dev.cry.lamp = [] ∧ s.w.headOf 7 8 =
    some q ∧ q.body = .fanned o r ∧ q.aborted = false) ∧
  (∃ (s : State) (t origin : Nat) (r : List Byte) (rest : List (Nat × List Byte)), s.w.cryOn = true ∧
    s.dev.cry.lamp = [] ∧ s.w.headOf 7 8 = none ∧ s.dev.cry.fanned = (origin, r) :: rest) ∧
  (∃ (s : State) (t : Nat) (q : QUnit), s.w.cryOn = true ∧ s.dev.cry.lamp = [] ∧ s.w.headOf 7 8 = some q ∧
    q.aborted = true) ∧
  (∃ (s : State) (t : Nat), (s.w.at_ t).cryFlush.cry.lamp ≠ []) ∧
  (∃ (s : State) (k t : Nat), k < 16) ∧
  (∃ (s : State) (k : Nat) (v : W32), s.lanes ∧ k < 16) ∧
  (∃ (s : State) (m : BrdMsg) (h : BrdHdr) (r : List Byte), ((s.w.at_ m.t).brdAccept m (· == 8)).2 = some (h, r) ∧
    s.w.isStandby = false ∧ s.dev.cry.fans.contains (h.origin, h.op) = false ∧ s.dev.cry.fanned = []) ∧
  (∃ (s : State) (m : BrdMsg) (h : BrdHdr) (r : List Byte), ((s.w.at_ m.t).brdAccept m (· == 8)).2 = some (h, r) ∧
    (s.w.isStandby = true ∨ s.dev.cry.fans.contains (h.origin, h.op) = true)) :=
  ⟨⟨(dv (tCry [] CryState.init) (fun d =>
     { d with que := [(3, { QState.empty with units := [⟨.bytes (tB 64 [(0, 1, 1)]), 64, false⟩] })] })), 1000,
     ⟨.bytes (tB 64 [(0, 1, 1)]), 64, false⟩, tB 64 [(0, 1, 1)], by decide +kernel⟩,
   ⟨(dv (tCry [] CryState.init) (fun d =>
     { d with que := [(3, { QState.empty with units := [⟨.fanned 2 (tB 64 [(0, 1, 1)]), 64, false⟩] })] })), 1000,
     2, ⟨.fanned 2 (tB 64 [(0, 1, 1)]), 64, false⟩, tB 64 [(0, 1, 1)], by decide +kernel⟩,
   ⟨(tCry [] { CryState.init with fanned := [(2, tB 64 [(0, 1, 1)])] }), 1000, 2, tB 64 [(0, 1, 1)], [],
     by decide +kernel⟩,
   ⟨(dv (tCry [] CryState.init) (fun d =>
     { d with que := [(3, { QState.empty with units := [⟨.bytes (tB 64 [(0, 1, 1)]), 64, true⟩] })] })), 1000,
     ⟨.bytes (tB 64 [(0, 1, 1)]), 64, true⟩, by decide +kernel⟩,
   ⟨(tCry [] { CryState.init with lamp := [List.replicate 5000 0] }), 1000, by decide +kernel⟩,
   ⟨(tCry [(CRY_CTRL_goose_enable, 1), (CRY_GCB_CTRL_enable 3, 1)]
     { CryState.init with gcbs := [(3, ⟨[], 1, 1, 10, tB 64 [(0, 1, 1)], 0, 0⟩)] }), 3, 20000000,
     by decide +kernel⟩,
   ⟨(sv []), 3, 3, by decide +kernel⟩,
   ⟨(tCry [] CryState.init), tBrd 8 0 [1, 2], tHdr 8 0 2, [1, 2], by decide +kernel⟩,
   ⟨(tCry [] { CryState.init with fans := [(0, 9)] }), tBrd 8 0 [1, 2], tHdr 8 0 2, [1, 2], by decide +kernel⟩⟩

theorem test_meets_CrierReception :
  (∃ (s : State) (m : BrdMsg), ((s.w.at_ m.t).brdAccept m (fun _ => true)).2 = none) ∧
  (∃ (s : State) (m : BrdMsg), ((s.w.at_ m.t).brdAccept m (fun _ => true)).2 = none) ∧
  (∃ (s : State) (m : BrdMsg) (h : BrdHdr) (p : List Byte), ((s.w.at_ m.t).brdAccept m isAnnounce).2 = some (h, p)
    ∧ be (m.data.take 48) 30 4 ≤ 999999999) ∧
  (∃ (s : State) (m : BrdMsg) (h : BrdHdr) (p : List Byte) (n : Nat), ((s.w.at_ m.t).brdAccept m isAnnounce).2 =
    some (h, p) ∧ be (m.data.take 48) 30 4 ≤ 999999999 ∧ s.dev.cry.seen.contains (h.origin, h.op) = false ∧
    s.w.freeUnit = some n ∧ s.nsAt m.t + 5000 ≤ h.t) ∧
  (∃ (s : State) (m : BrdMsg) (h : BrdHdr) (p : List Byte), ((s.w.at_ m.t).brdAccept m isAnnounce).2 = some (h, p)
    ∧ be (m.data.take 48) 30 4 ≤ 999999999 ∧ s.dev.cry.seen.contains (h.origin, h.op) = false ∧ s.w.isStandby =
    false ∧ (s.w.freeUnit = none ∨ h.t < s.nsAt m.t + 5000)) ∧
  (∃ (s : State) (m : BrdMsg) (h : BrdHdr) (p : List Byte), ((s.w.at_ m.t).brdAccept m isAnnounce).2 = some (h, p)
    ∧ (999999999 < be (m.data.take 48) 30 4 ∨ s.dev.cry.seen.contains (h.origin, h.op) = true)) ∧
  (∃ (s : State) (m : BrdMsg) (h : BrdHdr) (p : List Byte), ((s.w.at_ m.t).brdAccept m (· == 7)).2 = some (h, p) ∧
    be (m.data.take 48) 30 4 ≤ 999999999) ∧
  (∃ (s : State) (m : BrdMsg) (h : BrdHdr) (p : List Byte) (n : Nat), ((s.w.at_ m.t).brdAccept m (· == 7)).2 = some
    (h, p) ∧ be (m.data.take 48) 30 4 ≤ 999999999 ∧ s.dev.cry.seen.contains (h.origin, h.op) = false ∧ s.w.freeUnit
    = some n ∧ s.nsAt m.t + 5000 ≤ h.t) ∧
  (∃ (s : State) (m : BrdMsg) (h : BrdHdr) (p : List Byte) (o : Gop), ((s.w.at_ m.t).brdAccept m (· == 4)).2 = some
    (h, p) ∧ s.dev.cry.ops.find? (fun o => W.sameOp o h.origin h.op && o.state == 1 && decide (s.nsAt m.t < o.t)) =
    some o) ∧
  (∃ (s : State) (m : BrdMsg) (h : BrdHdr) (p : List Byte), ((s.w.at_ m.t).brdAccept m (· == 4)).2 = some (h, p) ∧
    s.dev.cry.ops.find? (fun o => W.sameOp o h.origin h.op && o.state == 1 && decide (s.nsAt m.t < o.t)) = none) ∧
  (∃ (s : State) (m : BrdMsg) (h : BrdHdr) (b : List Byte) (o : Gop), ((s.w.at_ m.t).brdAccept m (· == 5)).2 = some
    (h, b) ∧ s.w.isStandby = false ∧ s.dev.cry.ops.find? (fun o => W.sameOp o h.origin h.op && o.kids.contains
    h.sender && !o.confirmed) = some o ∧ o.kids.filter (· != h.sender) ≠ []) ∧
  (∃ (s : State) (m : BrdMsg) (h : BrdHdr) (b : List Byte) (o : Gop), ((s.w.at_ m.t).brdAccept m (· == 5)).2 = some
    (h, b) ∧ s.w.isStandby = false ∧ s.dev.cry.ops.find? (fun o => W.sameOp o h.origin h.op && o.kids.contains
    h.sender && !o.confirmed) = some o ∧ o.kids.filter (· != h.sender) = [] ∧ o.state = 3) ∧
  (∃ (s : State) (m : BrdMsg) (h : BrdHdr) (b : List Byte), ((s.w.at_ m.t).brdAccept m (· == 5)).2 = some (h, b) ∧
    (s.w.isStandby = true ∨ s.dev.cry.ops.find? (fun o => W.sameOp o h.origin h.op && o.kids.contains h.sender &&
    !o.confirmed) = none)) ∧
  (∃ (s : State) (m : BrdMsg) (h : BrdHdr) (p : List Byte), ((s.w.at_ m.t).brdAccept m (· == 6)).2 = some (h, p) ∧
    (s.w.barrier h.arg).entered = false) ∧
  (∃ (s : State) (m : BrdMsg) (h : BrdHdr) (p : List Byte), ((s.w.at_ m.t).brdAccept m (· == 6)).2 = some (h, p) ∧
    s.w.isStandby = false ∧ (s.w.barrier h.arg).entered = true ∧ (s.w.barrier h.arg).passed = false ∧ (s.w.me ≠
    s.reg CRY_BAR_TIMEOUT_barrier_root) ∧ ((reachKids s.w.sysN s.w.sysF (s.reg CRY_BAR_TIMEOUT_barrier_root)
    (s.dev.cry.down.filter (· != h.sender)) 12 false (treeKids s.w.sysN s.w.sysF (s.reg
    CRY_BAR_TIMEOUT_barrier_root) s.w.me)).1.map (fun k => k.1)).all (fun k => k == h.sender || (s.w.barrier
    h.arg).kids.contains k) = true) ∧
  (∃ (s : State) (m : BrdMsg) (h : BrdHdr) (b : List Byte), ((s.w.at_ m.t).brdAccept m (· == 9)).2 = some (h, b)) :=
  ⟨⟨(tCry [] CryState.init), ⟨[], 0, false, 1000⟩, by decide +kernel⟩,
   ⟨(tCry [] CryState.init), ⟨[], 0, false, 1000⟩, by decide +kernel⟩,
   ⟨(tCry [] CryState.init), tBrd 1 0 [1, 2], tHdr 1 0 2, [1, 2], by decide +kernel⟩,
   ⟨(tCry [] CryState.init), tBrd 3 0 [], tHdr 3 0 0, [], 12, by decide +kernel⟩,
   ⟨(dv (tCry [] CryState.init) (fun d => { d with tb := { d.tb with now := 3000000000 * 2 ^ 32 } })), tBrd 1 0 [],
     tHdr 1 0 0, [], by decide +kernel⟩,
   ⟨(tCry [] { CryState.init with seen := [(0, 9)] }), tBrd 1 0 [], tHdr 1 0 0, [], by decide +kernel⟩,
   ⟨(tCry [] CryState.init), tBrd 7 0 [], tHdr 7 0 0, [], by decide +kernel⟩,
   ⟨(tCry [] CryState.init), tBrd 7 0 [], tHdr 7 0 0, [], 12, by decide +kernel⟩,
   ⟨(tCry [] { CryState.init with ops := [tGop 1 1 []] }), tBrd 4 0 [], tHdr 4 0 0, [], tGop 1 1 [],
     by decide +kernel⟩,
   ⟨(tCry [] { CryState.init with seen := [(0, 9)] }), tBrd 4 0 [], tHdr 4 0 0, [], by decide +kernel⟩,
   ⟨(tCry [] { CryState.init with ops := [tGop 1 3 [2, 3]] }), tBrd 5 3 [0, 1, 0, 0, 0, 0, 0, 0, 0, 0], tHdr 5 3
     10, [0, 1, 0, 0, 0, 0, 0, 0, 0, 0], tGop 1 3 [2, 3], by decide +kernel⟩,
   ⟨(tCry [(CRY_SYS_CFG_module_no, 0)] { CryState.init with ops := [tGop 1 3 [1]] }), tBrd 5 1 [0, 1, 0, 0, 0, 0,
     0, 0, 0, 0], tHdr 5 1 10, [0, 1, 0, 0, 0, 0, 0, 0, 0, 0], tGop 1 3 [1], by decide +kernel⟩,
   ⟨(tCry [] CryState.init), tBrd 5 1 [0, 1, 0, 0, 0, 0, 0, 0, 0, 0], tHdr 5 1 10, [0, 1, 0, 0, 0, 0, 0, 0, 0, 0],
     by decide +kernel⟩,
   ⟨(tCry [] CryState.init), tBrd 6 3 [], tHdr 6 3 0, [], by decide +kernel⟩,
   ⟨(tCry [] { CryState.init with bars := [(3, ⟨true, false, [], false, 0⟩)] }), tBrd 6 3 [], tHdr 6 3 0, [],
     by decide +kernel⟩,
   ⟨(tCry [] CryState.init), tBrd 9 0 [5], tHdr 9 0 1, [5], by decide +kernel⟩⟩

theorem test_meets_CrierOperations :
  (∃ (s : State) (m t : Nat), m < 1024) ∧
  (∃ (s : State) (late level : Bool), s.lanes ∧ s.w.serves = true) ∧
  (∃ (s : State) (late level : Bool) (n T : Nat), s.lanes ∧ s.w.serves = true ∧ s.w.gopRefuse s.w.gopT 1 (s.reg
    CRY_GOP_LEN_len) = 0 ∧ s.w.gopT = some T ∧ s.w.freeUnit = some n ∧ s.ns + 5000 ≤ T) ∧
  (∃ (s : State) (late : Bool), s.lanes ∧ s.w.serves = true) ∧
  (∃ (s : State) (kind : Nat), s.lanes ∧ kind < 65536 ∧ s.w.serves = true) ∧
  (∃ (s : State) (late : Bool) (n : Nat), s.lanes ∧ n < 65536 ∧ s.w.serves = true ∧ s.w.gopRefuse (some (s.ns + 2 ^
    64)) 1 0 ≠ 0) ∧
  (∃ (s : State) (late : Bool) (n : Nat), s.lanes ∧ n < 65536 ∧ s.w.serves = true ∧ s.w.gopRefuse (some (s.ns + 2 ^
    64)) 1 0 = 0 ∧ ((reachKids s.w.sysN s.w.sysF (s.reg CRY_BAR_TIMEOUT_barrier_root) s.dev.cry.down 12 false
    (treeKids s.w.sysN s.w.sysF (s.reg CRY_BAR_TIMEOUT_barrier_root) s.w.me)).1.map (fun k => k.1)).any (fun k =>
    !(s.w.barrier n).kids.contains k) = true) ∧
  (∃ (s : State) (late : Bool) (n : Nat), s.lanes ∧ n < 65536 ∧ s.w.serves = true ∧ s.w.gopRefuse (some (s.ns + 2 ^
    64)) 1 0 = 0 ∧ (s.w.barrier n).passed = false ∧ s.w.me = s.reg CRY_BAR_TIMEOUT_barrier_root ∧ ((reachKids
    s.w.sysN s.w.sysF s.w.me s.dev.cry.down 12 false (treeKids s.w.sysN s.w.sysF s.w.me s.w.me)).1.map (fun k =>
    k.1)).all (fun k => (s.w.barrier n).kids.contains k) = true) ∧
  (∃ (s : State) (op : Nat), s.lanes ∧ op < 65536 ∧ s.w.serves = true ∧ (s.w.brdKey.isSome = false ∨ s.bitOf
    CRY_CTRL_brodsan_enable = false)) ∧
  (∃ (s : State) (op : Nat) (o : Gop), s.lanes ∧ op < 65536 ∧ s.w.serves = true ∧ s.w.brdKey.isSome = true ∧
    s.bitOf CRY_CTRL_brodsan_enable = true ∧ s.dev.cry.ops.find? (fun o => o.origin == s.w.me && o.opId % 65536 ==
    op && o.state == 1 && decide (s.ns < o.t)) = some o) ∧
  (∃ (s : State) (op : Nat), s.lanes ∧ op < 65536 ∧ s.w.serves = true ∧ s.w.brdKey.isSome = true ∧ s.bitOf
    CRY_CTRL_brodsan_enable = true ∧ s.dev.cry.ops.find? (fun o => o.origin == s.w.me && o.opId % 65536 == op &&
    o.state == 1 && decide (s.ns < o.t)) = none) ∧
  (∃ (s : State) (origin op t : Nat) (o : Gop), s.dev.cry.ops.find? (fun o => W.sameOp o origin op && !o.confirmed
    && (o.state == 3 || o.kind == 3)) = some o) ∧
  (∃ (s : State) (origin op t : Nat), s.dev.cry.ops.find? (fun o => W.sameOp o origin op && !o.confirmed &&
    (o.state == 3 || o.kind == 3)) = none) ∧
  (∃ (s : State) (n t : Nat) (b : Barrier), tblGet s.dev.cry.bars n = some b) ∧
  (∃ (s : State) (v : W32), s.lanes) :=
  ⟨⟨(tCry [] CryState.init), 0, 1000000000, by decide +kernel⟩,
   ⟨(tCry [(CRY_GOP_LEAD_lead_us, 100000)] CryState.init), true, false, by decide +kernel⟩,
   ⟨(tCry [(CRY_GOP_LEAD_lead_us, 100000)] CryState.init), true, false, 12, 100000000, by decide +kernel⟩,
   ⟨(tCry [(CRY_GOP_LEAD_lead_us, 100000)] CryState.init), true, by decide +kernel⟩,
   ⟨(tCry [(CRY_GOP_LEAD_lead_us, 100000)] CryState.init), 4, by decide +kernel⟩,
   ⟨(tCry [(CRY_CTRL_brodsan_enable, 0)] CryState.init), true, 5, by decide +kernel⟩,
   ⟨(tCry [] CryState.init), true, 5, by decide +kernel⟩,
   ⟨(tCry [(CRY_BAR_TIMEOUT_barrier_root, 1)]
     { CryState.init with bars := [(5, ⟨false, false, [2, 3, 0], false, 0⟩)] }), true, 5, by decide +kernel⟩,
   ⟨(tCry [(CRY_CTRL_brodsan_enable, 0)] CryState.init), 9, by decide +kernel⟩,
   ⟨(tCry [(CRY_SYS_CFG_module_no, 0)] { CryState.init with ops := [tGop 1 1 []] }), 9, tGop 1 1 [],
     by decide +kernel⟩,
   ⟨(tCry [] CryState.init), 9, by decide +kernel⟩,
   ⟨(tCry [] { CryState.init with ops := [tGop 1 3 [3]] }), 0, 9, 2000000000, tGop 1 3 [3], by decide +kernel⟩,
   ⟨(tCry [] CryState.init), 0, 9, 2000000000, by decide +kernel⟩,
   ⟨(tCry [(CRY_BAR_TIMEOUT_barrier_root, 1)]
     { CryState.init with bars := [(5, ⟨false, false, [2, 3, 0], false, 0⟩)] }), 5, 100000000000, ⟨false, false,
     [2, 3, 0], false, 0⟩, by decide +kernel⟩,
   ⟨(sv []), 0x10040001, by decide +kernel⟩⟩

theorem test_meets_SieveConversion :
  (∃ (s : State) (f : AdcFrame) (cv : Conv), f.link < 8 ∧ f.words.length = 16 ∧ s.w.loom = true ∧ s.w.smpServed =
    true ∧ s.w.frameOf f.link f.ends = some cv) ∧
  (∃ (s : State) (f : AdcFrame) (cv : Conv), f.link < 8 ∧ f.words.length = 16 ∧ s.w.loom = true ∧ s.w.smpServed =
    true ∧ s.dev.smp.convs = [cv] ∧ cv.wait.contains f.link = true ∧ cv.wait.any (fun l => l != f.link &&
    s.w.linkOn l) = true) ∧
  (∃ (s : State) (f : AdcFrame) (cv : Conv), f.link < 8 ∧ f.words.length = 16 ∧ s.w.loom = true ∧ s.w.smpServed =
    true ∧ s.dev.smp.convs = [cv] ∧ cv.wait.contains f.link = true ∧ cv.wait.any (fun l => l != f.link &&
    s.w.linkOn l) = false) ∧
  (∃ (s : State) (f : AdcFrame), f.link < 8 ∧ f.words.length = 16 ∧ (s.w.loom = false ∨ s.w.smpServed = false ∨
    s.w.frameOf f.link f.ends = none)) ∧
  (∃ (s : State) (f : SvFrame) (k n : Nat) (a : SvAsdu), s.w.loom = true ∧ s.w.smpServed = true ∧ s.w.smpSv = true
    ∧ s.w.hasRoom 0xF1 9 (W.svBytes f) = true ∧ (upTo 16).filter (fun k => s.bitOf (SMP_SV_CFG_enable k) && s.reg
    (SMP_SV_CFG_appid k) == f.appid) = [k] ∧ f.asdus = [a] ∧ a.values.length = 8 ∧ a.confRev = s.reg
    (SMP_SV_CONFREV_v k) ∧ a.smpCnt < s.w.smpRate ∧ n = W.svCount s.w.smpRate a.smpCnt f.arrival ∧
    s.dev.smp.svDone.all (fun d => decide (d < W.svInstant s.w.smpRate n)) = true ∧ 65536 * f.arrival ≤ W.svInstant
    s.w.smpRate n + 65536 * s.w.svWait k) ∧
  (∃ (s : State) (f : SvFrame) (k n : Nat) (a : SvAsdu), s.w.loom = true ∧ s.w.smpServed = true ∧ s.w.smpSv = true
    ∧ s.w.hasRoom 0xF1 9 (W.svBytes f) = true ∧ (upTo 16).filter (fun k => s.bitOf (SMP_SV_CFG_enable k) && s.reg
    (SMP_SV_CFG_appid k) == f.appid) = [k] ∧ f.asdus = [a] ∧ a.values.length = 8 ∧ a.confRev = s.reg
    (SMP_SV_CONFREV_v k) ∧ a.smpCnt < s.w.smpRate ∧ n = W.svCount s.w.smpRate a.smpCnt f.arrival ∧
    (s.dev.smp.svDone.any (fun d => decide (W.svInstant s.w.smpRate n ≤ d)) = true ∨ W.svInstant s.w.smpRate n +
    65536 * s.w.svWait k < 65536 * f.arrival)) ∧
  (∃ (s : State) (f : SvFrame) (k : Nat), s.w.loom = true ∧ s.w.smpServed = true ∧ s.w.smpSv = true ∧ s.w.hasRoom
    0xF1 9 (W.svBytes f) = true ∧ (upTo 16).filter (fun k => s.bitOf (SMP_SV_CFG_enable k) && s.reg
    (SMP_SV_CFG_appid k) == f.appid) = [k] ∧ (f.asdus = [] ∨ 8 < f.asdus.length ∨ f.asdus.any (fun a =>
    a.values.length != 8 || a.confRev != s.reg (SMP_SV_CONFREV_v k)) = true)) ∧
  (∃ (s : State) (f : SvFrame), s.w.loom = false ∨ s.w.smpServed = false ∨ s.w.smpSv = false ∨ s.w.hasRoom 0xF1 9
    (W.svBytes f) = false) ∧
  (∃ (s : State), s.lanes) ∧
  (∃ (s : State) (k : Nat), s.lanes ∧ k < 128) :=
  ⟨⟨(dv (tSieve []) (fun d => { d with smp := { d.smp with convs := [⟨0, true, [2, 3], []⟩] } })),
     { tAdc 2 with crc := (tAdc 2).crc + 1 }, ⟨0, true, [2, 3], []⟩, by decide +kernel⟩,
   ⟨(dv (tSieve [(SMP_LINK_CFG_enable 3, 1)]) (fun d =>
     { d with smp := { d.smp with convs := [⟨0, true, [2, 3], []⟩] } })), tAdc 2, ⟨0, true, [2, 3], []⟩,
     by decide +kernel⟩,
   ⟨(dv (tSieve []) (fun d => { d with smp := { d.smp with convs := [⟨0, true, [2], []⟩] } })), tAdc 2, ⟨0, true,
     [2], []⟩, by decide +kernel⟩,
   ⟨(tSieve []), tAdc 2, by decide +kernel⟩,
   ⟨(dv (tSieve [(SMP_CTRL_source, 1), (SMP_SV_CFG_enable 3, 1), (SMP_SV_CFG_appid 3, 0x4000), (SMP_SV_CONFREV_v 3,
     1), (SMP_SV_CFG_wait_us 3, 3000)]) (fun d =>
     { d with pat := { d.pat with active := { tPat with smpRate := 4800 } } })), ⟨0x4000, false, [⟨1, 5, 2,
     List.replicate 8 ⟨0, 0, false⟩⟩], 1002000000⟩, 3, 4805, ⟨1, 5, 2, List.replicate 8 ⟨0, 0, false⟩⟩,
     by decide +kernel⟩,
   ⟨(dv (tSieve [(SMP_CTRL_source, 1), (SMP_SV_CFG_enable 3, 1), (SMP_SV_CFG_appid 3, 0x4000), (SMP_SV_CONFREV_v 3,
     1), (SMP_SV_CFG_wait_us 3, 100)]) (fun d =>
     { d with pat := { d.pat with active := { tPat with smpRate := 4800 } } })), ⟨0x4000, false, [⟨1, 5, 2,
     List.replicate 8 ⟨0, 0, false⟩⟩], 1002000000⟩, 3, 4805, ⟨1, 5, 2, List.replicate 8 ⟨0, 0, false⟩⟩,
     by decide +kernel⟩,
   ⟨(dv (tSieve [(SMP_CTRL_source, 1), (SMP_SV_CFG_enable 3, 1), (SMP_SV_CFG_appid 3, 0x4000), (SMP_SV_CONFREV_v 3,
     1)]) (fun d => { d with pat := { d.pat with active := { tPat with smpRate := 4800 } } })), ⟨0x4000, false,
     [⟨2, 5, 2, []⟩], 1002000000⟩, 3, by decide +kernel⟩,
   ⟨(tSieve []), ⟨0x4000, false, [⟨2, 5, 2, []⟩], 1002000000⟩, by decide +kernel⟩,
   ⟨(tSieve []), by decide +kernel⟩,
   ⟨(tSieve [(SMP_CH_PEAK_v 3, 5)]), 3, by decide +kernel⟩⟩

theorem test_meets_SieveSettings :
  (∃ (s : State) (k : Nat) (v : W32), s.lanes ∧ k < 128) ∧
  (∃ (s : State) (r : Nat) (v : W32), s.lanes ∧ r < 5 ∧ s.w.smpOn = true ∧ 0 < r) ∧
  (∃ (s : State) (r : Nat) (v : W32), s.lanes ∧ s.w.smpOn = true ∧ r = 0) ∧
  (∃ (s : State) (r : Nat) (v : W32), s.lanes ∧ r < 5 ∧ s.w.smpOn = true) ∧
  (∃ (s : State) (n inst : Nat) (v : W32), s.lanes ∧ n < 32 ∧ s.w.smpOn = true) ∧
  (∃ (s : State) (v : W32), s.lanes ∧ s.w.smpOn = true) ∧
  (∃ (s : State) (l : Nat) (v : W32), s.lanes ∧ l < 8 ∧ s.w.smpOn = true) ∧
  (∃ (s : State) (r : Nat) (v : W32), s.lanes ∧ r < 5 ∧ s.w.smpOn = false) ∧
  (∃ (s : State) (n l : Nat) (v : W32), s.lanes ∧ n < 32 ∧ l < 8 ∧ s.w.smpOn = false) :=
  ⟨⟨(tSieve []), 3, 0x1101, by decide +kernel⟩,
   ⟨(tSieve []), 3, 0x1101, by decide +kernel⟩,
   ⟨(tSieve []), 0, 0x1101, by decide +kernel⟩,
   ⟨(tSieve []), 0, 0x1101, by decide +kernel⟩,
   ⟨(tSieve [(SMP_PHS_CTRL_rate, 1)]), 3, 5, 0x1101, by decide +kernel⟩,
   ⟨(tSieve []), 0, by decide +kernel⟩,
   ⟨(tSieve []), 3, 0x1101, by decide +kernel⟩,
   ⟨(dv (sv []) (fun d => { d with pat := { d.pat with active := Pattern.factoryPattern } })), 0, 0x1101,
     by decide +kernel⟩,
   ⟨(dv (sv []) (fun d => { d with pat := { d.pat with active := Pattern.factoryPattern } })), 0, 0, 0x1101,
     by decide +kernel⟩⟩

theorem test_meets_LampOrders :
  (∃ (s : State) (t n : Nat) (q : QUnit) (b : List Byte), s.w.lmpOn = true ∧ (s.w.at_ t).lmpFlush.headOf 8 0xA =
    some q ∧ q.body = .bytes b ∧ le b 0 1 = 1 ∧ s.bitOf LMP_CTRL_grid_enable = true ∧ le b 1 1 = n ∧ n ≠ 0 ∧
    s.bitOf (LMP_GR0_enable (n - 1)) = true ∧ (tst (le b 7 1) 0 = false ∨ s.bitOf (LMP_GR0_accept_fanned (n - 1)) =
    true)) ∧
  (∃ (s : State) (t n : Nat) (q : QUnit) (b : List Byte), s.w.lmpOn = true ∧ (s.w.at_ t).lmpFlush.headOf 8 0xA =
    some q ∧ q.body = .bytes b ∧ le b 0 1 = 2 ∧ s.bitOf LMP_CTRL_grid_enable = true ∧ le b 1 1 = n ∧ n ≠ 0 ∧
    s.bitOf (LMP_GR0_enable (n - 1)) = true ∧ (tst (le b 7 1) 0 = false ∨ s.bitOf (LMP_GR0_accept_fanned (n - 1)) =
    true)) ∧
  (∃ (s : State) (t n : Nat) (q : QUnit) (b : List Byte), s.w.lmpOn = true ∧ (s.w.at_ t).lmpFlush.headOf 8 0xA =
    some q ∧ q.body = .bytes b ∧ (le b 0 1 = 1 ∨ le b 0 1 = 2) ∧ le b 1 1 = n ∧ (s.bitOf LMP_CTRL_grid_enable =
    false ∨ n = 0 ∨ s.bitOf (LMP_GR0_enable (n - 1)) = false ∨ (tst (le b 7 1) 0 = true ∧ s.bitOf
    (LMP_GR0_accept_fanned (n - 1)) = false))) ∧
  (∃ (s : State) (t : Nat), s.w.lmpOn = false ∨ (s.w.at_ t).lmpFlush.headOf 8 0xA = none) ∧
  (∃ (s : State) (k t : Nat), k < 16) ∧
  (∃ (s : State) (t T : Nat) (q : QUnit) (b p : List Byte), s.w.lmpOn = true ∧ (s.w.at_ t).lmpFlush.headOf 8 0xA =
    some q ∧ q.body = .bytes b ∧ le b 0 1 = 3 ∧ cut b 16 (le b 2 2) = p ∧ le b 8 8 = T ∧ W.orderOk p = true) ∧
  (∃ (s : State) (t : Nat) (q : QUnit) (b : List Byte), s.w.lmpOn = true ∧ (s.w.at_ t).lmpFlush.headOf 8 0xA = some
    q ∧ q.body = .bytes b ∧ le b 0 1 = 3 ∧ W.orderOk (cut b 16 (le b 2 2)) = false) ∧
  (∃ (s : State) (t : Nat), s.w.lmpOn = false ∨ (s.w.at_ t).lmpFlush.headOf 8 0xA = none) ∧
  (∃ (s : State) (t : Nat), s.w.lmpOn = true) ∧
  (∃ (s : State) (t : Nat), s.w.lmpOn = false) ∧
  (∃ (s : State) (t : Nat) (q : QUnit) (b : List Byte), s.w.lmpOn = true ∧ s.w.headOf 0xB 0xA = some q ∧ q.body =
    .bytes b ∧ q.aborted = false) ∧
  (∃ (s : State) (t : Nat) (q : QUnit) (b : List Byte), s.w.lmpOn = true ∧ s.w.headOf 0xB 0xA = some q ∧ q.body =
    .bytes b ∧ q.aborted = false ∧ s.bitOf LMP_CTRL_lift_enable = true ∧ (s.w.fieldAt (le b 2 2) = none ∨ 3 < le b
    1 1 ∨ s.w.lanSum ≤ le b 2 2 ∨ 999999999 < le b 8 4)) ∧
  (∃ (s : State) (t : Nat) (q : QUnit) (b : List Byte) (x : FieldEnt), s.w.lmpOn = true ∧ s.w.headOf 0xB 0xA = some
    q ∧ q.body = .bytes b ∧ q.aborted = false ∧ s.bitOf LMP_CTRL_lift_enable = true ∧ s.w.fieldAt (le b 2 2) = some
    x ∧ le b 1 1 ≤ 3 ∧ le b 2 2 < s.w.lanSum ∧ le b 8 4 ≤ 999999999 ∧ (le b 6 2 = 0 ∨ (x.slotOf (le b 4 2)).isNone
    = true)) ∧
  (∃ (s : State) (t : Nat) (q : QUnit) (b : List Byte) (x : FieldEnt), s.w.lmpOn = true ∧ s.w.headOf 0xB 0xA = some
    q ∧ q.body = .bytes b ∧ q.aborted = false ∧ s.bitOf LMP_CTRL_lift_enable = true ∧ s.w.fieldAt (le b 2 2) = some
    x ∧ le b 1 1 ≤ 3 ∧ le b 2 2 < s.w.lanSum ∧ le b 8 4 ≤ 999999999 ∧ le b 6 2 ≠ 0 ∧ (x.slotOf (le b 4 2)).isSome =
    true) ∧
  (∃ (s : State) (t : Nat), s.w.lmpOn = false ∨ s.w.headOf 0xB 0xA = none) ∧
  (∃ (s : State) (v : W32), s.lanes ∧ s.w.lmpOn = true) :=
  ⟨⟨(dv (sv [(LMP_CTRL_grid_enable, 1), (LMP_GR0_enable 2, 1)]) (fun d =>
     { d with que := [tQ 4 (tB 16 [(0, 1, 1), (1, 1, 3)])] })), 0, 3, tU (tB 16 [(0, 1, 1), (1, 1, 3)]), tB 16 [(0,
     1, 1), (1, 1, 3)], by decide +kernel⟩,
   ⟨(dv (sv [(LMP_CTRL_grid_enable, 1), (LMP_GR0_enable 2, 1), (LMP_GR1_state 2, 1)]) (fun d =>
     { d with que := [tQ 4 (tB 16 [(0, 1, 2), (1, 1, 3)])] })), 0, 3, tU (tB 16 [(0, 1, 2), (1, 1, 3)]), tB 16 [(0,
     1, 2), (1, 1, 3)], by decide +kernel⟩,
   ⟨(dv (sv [(LMP_CTRL_grid_enable, 1)]) (fun d => { d with que := [tQ 4 (tB 16 [(0, 1, 2), (1, 1, 3)])] })), 0, 3,
     tU (tB 16 [(0, 1, 2), (1, 1, 3)]), tB 16 [(0, 1, 2), (1, 1, 3)], by decide +kernel⟩,
   ⟨(sv []), 0, by decide +kernel⟩,
   ⟨(dv (sv [(LMP_CTRL_enable, 1), (LMP_CON_CFG_mode 3, 2)]) (fun d =>
     { d with lmp := { d.lmp with conWait := [3] } })), 3, 1000, by decide +kernel⟩,
   ⟨(dv (sv []) (fun d =>
     { d with que := [tQ 4 (tB 32 [(0, 1, 3), (2, 2, 16), (8, 8, 5000), (16, 1, 0x4C), (17, 1, 1), (18, 2, 1), (24, 1, 1)])] })),
     0, 5000, tU (tB 32 [(0, 1, 3), (2, 2, 16), (8, 8, 5000), (16, 1, 0x4C), (17, 1, 1), (18, 2, 1), (24, 1, 1)]),
     tB 32 [(0, 1, 3), (2, 2, 16), (8, 8, 5000), (16, 1, 0x4C), (17, 1, 1), (18, 2, 1), (24, 1, 1)], tB 16 [(0, 1,
     0x4C), (1, 1, 1), (2, 2, 1), (8, 1, 1)], by decide +kernel⟩,
   ⟨(dv (sv []) (fun d => { d with que := [tQ 4 (tB 32 [(0, 1, 3), (2, 2, 16)])] })), 0, tU (tB 32 [(0, 1, 3), (2,
     2, 16)]), tB 32 [(0, 1, 3), (2, 2, 16)], by decide +kernel⟩,
   ⟨(sv []), 0, by decide +kernel⟩,
   ⟨(dv (sv []) (fun d =>
     { d with lmp := { d.lmp with orders := [(5, tB 16 [(0, 1, 0x4C), (1, 1, 1), (2, 2, 1), (8, 1, 1)]), (5000, [])] } })),
     10, by decide +kernel⟩,
   ⟨(State.reset), 10, by decide +kernel⟩,
   ⟨(dv (sv []) (fun d => { d with que := [tQ 9 (tB 16 [])] })), 0, tU (tB 16 []), tB 16 [], by decide +kernel⟩,
   ⟨(dv (sv [(LMP_CTRL_lift_enable, 1)]) (fun d => { d with que := [tQ 9 (tB 16 [])] })), 0, tU (tB 16 []), tB 16
     [], by decide +kernel⟩,
   ⟨(dv (sv [(LMP_CTRL_lift_enable, 1), (LMP_STATUS_loaded, 1)]) (fun d =>
     { d with que := [tQ 9 (tB 18 [(1, 1, 2), (2, 2, 1), (8, 4, 77)])], lmp := { d.lmp with field := [(1, fieldOf tField)] } })),
     0, tU (tB 18 [(1, 1, 2), (2, 2, 1), (8, 4, 77)]), tB 18 [(1, 1, 2), (2, 2, 1), (8, 4, 77)], fieldOf tField,
     by decide +kernel⟩,
   ⟨(dv (sv [(LMP_CTRL_lift_enable, 1), (LMP_STATUS_loaded, 1)]) (fun d =>
     { d with que := [tQ 9 (tB 18 [(1, 1, 2), (2, 2, 1), (4, 2, 2), (6, 2, 100), (8, 4, 77)])], lmp := { d.lmp with field := [(1, { fieldOf tField with nbr := [(2, 40)] })] } })),
     0, tU (tB 18 [(1, 1, 2), (2, 2, 1), (4, 2, 2), (6, 2, 100), (8, 4, 77)]), tB 18 [(1, 1, 2), (2, 2, 1), (4, 2,
     2), (6, 2, 100), (8, 4, 77)], { fieldOf tField with nbr := [(2, 40)] }, by decide +kernel⟩,
   ⟨(sv []), 0, by decide +kernel⟩,
   ⟨(dv (sv []) (fun d => { d with lmp := { d.lmp with inject := [0x120] } })), 5, by decide +kernel⟩⟩

theorem test_meets_LampTables :
  (∃ (s : State), s.lanes ∧ s.w.lmpOn = true ∧ s.w.fieldBaseOk = true) ∧
  (∃ (s : State), s.lanes ∧ s.w.lmpOn = true ∧ s.w.fieldBaseOk = false) ∧
  (∃ (s : State) (i : Nat), s.lanes ∧ i < 16384 ∧ s.w.lmpOn = true ∧ i < s.w.lanSum ∧ s.w.fieldBaseOk = true) ∧
  (∃ (s : State) (i : Nat), s.lanes ∧ i < 16384 ∧ s.w.lmpOn = true ∧ (s.w.lanSum ≤ i ∨ s.w.fieldBaseOk = false)) ∧
  (∃ (s : State) (n : Nat), s.lanes ∧ n < 16384 ∧ s.w.lmpOn = true) ∧
  (∃ (s : State), s.lanes ∧ s.w.lmpOn = true) ∧
  (∃ (s : State) (n t : Nat), 0 < n ∧ n < 256) ∧
  (∃ (s : State) (n t : Nat) (k : Track), n < 1024 ∧ tblGet s.dev.lmp.tracks n = some k) ∧
  (∃ (s : State) (n t : Nat), n < 1024 ∧ tblGet s.dev.lmp.tracks n = none) ∧
  (∃ (s : State) (v : W32), s.lanes ∧ s.dev.pat.active.hasEngine 5 = true) ∧
  (∃ (s : State) (i n : Nat) (v : W32), s.lanes ∧ i < 16384 ∧ n < 16384 ∧ s.dev.pat.active.hasEngine 5 = false) :=
  ⟨⟨({ dv (sv [(LMP_FIELD_BASE_LO_v, 0x00400000), (LMP_FIELD_BASE_HI_v, 8)]) (fun d => { d with pat := { d.pat with active := { tPat with lanterns := [2, 0, 0, 0] } } }) with mem := tM 0x800400000 (tField ++ tField) }),
     by decide +kernel⟩,
   ⟨(sv [(LMP_FIELD_BASE_LO_v, 1)]), by decide +kernel⟩,
   ⟨({ dv (sv [(LMP_FIELD_BASE_LO_v, 0x00400000), (LMP_FIELD_BASE_HI_v, 8)]) (fun d => { d with pat := { d.pat with active := { tPat with lanterns := [2, 0, 0, 0] } } }) with mem := tM 0x800400000 (tField ++ tField) }),
     1, by decide +kernel⟩,
   ⟨(sv []), 1000, by decide +kernel⟩,
   ⟨(sv [(LMP_GR1_state 2, 1)]), 3, by decide +kernel⟩,
   ⟨(sv [(LMP_GR1_state 2, 1)]), by decide +kernel⟩,
   ⟨(sv [(LMP_GR1_state 2, 2)]), 3, 1000000000, by decide +kernel⟩,
   ⟨(dv (sv []) (fun d => { d with lmp := { d.lmp with tracks := [(3, ⟨0, 0, 0, 0, 0, 0, []⟩)] } })), 3,
     10000000000000, ⟨0, 0, 0, 0, 0, 0, []⟩, by decide +kernel⟩,
   ⟨(sv []), 3, 10000, by decide +kernel⟩,
   ⟨(sv [(LMP_GR1_state 2, 2)]), 1, by decide +kernel⟩,
   ⟨(dv (sv []) (fun d => { d with pat := { d.pat with active := Pattern.factoryPattern } })), 0, 0, 5,
     by decide +kernel⟩⟩

theorem test_meets_RadioAir :
  (∃ (s : State) (r n : Nat), r < 4 ∧ s.w.radOn r = true ∧ (s.w.radio r).fired.all (fun f => decide (f < n)) =
    true) ∧
  (∃ (s : State) (r n : Nat), r < 4 ∧ s.w.radSends r = true ∧ (s.w.radio r).fired.all (fun f => decide (f < n)) =
    true ∧ s.dev.rad.holdUp ≤ s.upAt (s.w.boundary r n) ∧ s.w.canSend r = true) ∧
  (∃ (s : State) (r n : Nat), r < 4 ∧ s.w.radOn r = false) ∧
  (∃ (s : State) (r n : Nat), r < 4 ∧ s.w.radOn r = true ∧ (s.w.radio r).fired.any (fun f => decide (n ≤ f)) =
    true) ∧
  (∃ (s : State) (r k : Nat) (marks : List (Nat × Int)), r < 4 ∧ 0 < k ∧ k < 64 ∧ marks.all (fun m => m.1 < 474) =
    true ∧ k % 4 = 0 ∧ s.w.slotCode r k ≠ 2 ∧ s.w.radSends r = true ∧ (s.w.radio r).running = true ∧ (s.w.radio
    r).urgent ≠ 0 ∧ s.dev.rad.grid ≠ []) ∧
  (∃ (s : State) (r k : Nat) (marks : List (Nat × Int)), r < 4 ∧ 0 < k ∧ k < 64 ∧ marks.all (fun m => m.1 < 474) =
    true ∧ s.w.radSends r = true ∧ (s.w.radio r).running = true ∧ s.w.slotCode r k ≠ 2 ∧ (if k % 4 = 0 then
    (s.w.radio r).urgent = 0 ∨ s.dev.rad.grid = [] else s.w.slotCode r k = 0)) ∧
  (∃ (s : State) (r k m g j : Nat) (p : Int) (marks : List (Nat × Int)), r < 4 ∧ 0 < k ∧ k < 64 ∧ marks = [(m, p)]
    ∧ m < 474 ∧ k % 4 ≠ 0 ∧ s.w.radOn r = true ∧ (s.w.radio r).serving = true ∧ s.w.slotCode r k = 2 ∧ j = ((upTo
    k).filter (fun i => s.w.slotCode r i == 2)).length ∧ g = s.w.lanFirst r + (474 * j + m) ∧ 474 * j + m <
    s.w.lanCount r ∧ sgn 8 (s.reg (RAD_RCTRL_roll_thr r)) < p ∧ s.w.isEnabled g = true ∧ lanKind (s.w.lan g) = 1) ∧
  (∃ (s : State) (r k : Nat) (marks : List (Nat × Int)), r < 4 ∧ 0 < k ∧ k < 64 ∧ marks.all (fun m => m.1 < 474) =
    true ∧ ((k % 4 ≠ 0 ∧ s.w.slotCode r k = 1) ∨ (s.w.slotCode r k ≠ 2 ∧ (s.w.radSends r = false ∨ (s.w.radio
    r).running = false)))) ∧
  (∃ (s : State) (f : RadioFrame) (t snd : Nat) (key hd : List Byte), f.radio < 4 ∧ f.seq < 256 ∧ f.ctr < 2 ^ 32 ∧
    f.rssi < 256 ∧ f.lqi < 256 ∧ s.w.radOn f.radio = true ∧ (s.w.radio f.radio).serving = true ∧ hd = macHeader
    f.ack false f.ext f.seq (s.w.radPan f.radio) 0 f.src f.ctr f.key ∧ f.fcs = crc32 (hd ++ f.cipher ++ f.mic) ∧
    (s.w.at_ t).talking f.radio (airUs (s.w.radMode f.radio) (W.psduOf f)) = false ∧ (f.ext = true ∨
    (s.w.senderEntry f).isSome = true) ∧ (f.key = 1 ∨ f.key = 2) ∧ snd = ((s.w.senderEntry f).map (fun g => lanExt
    (s.w.lan g))).getD f.src ∧ s.w.radKey f.radio (f.key - 1) = some key ∧ ccmTag (aesKeys key) 4 (macNonce snd
    f.ctr) hd (ccmCrypt (aesKeys key) (macNonce snd f.ctr) f.cipher) = f.mic ∧ (if f.key = 1 then (s.w.ctrRec
    snd).c1 else (s.w.ctrRec snd).c2).all (fun l => decide (l < f.ctr)) = true) ∧
  (∃ (s : State) (f : RadioFrame) (t snd l : Nat) (key hd : List Byte), f.radio < 4 ∧ f.seq < 256 ∧ f.ctr < 2 ^ 32
    ∧ f.rssi < 256 ∧ f.lqi < 256 ∧ s.w.radOn f.radio = true ∧ (s.w.radio f.radio).serving = true ∧ hd = macHeader
    f.ack false f.ext f.seq (s.w.radPan f.radio) 0 f.src f.ctr f.key ∧ f.fcs = crc32 (hd ++ f.cipher ++ f.mic) ∧
    (s.w.at_ t).talking f.radio (airUs (s.w.radMode f.radio) (W.psduOf f)) = false ∧ (f.ext = true ∨
    (s.w.senderEntry f).isSome = true) ∧ (f.key = 1 ∨ f.key = 2) ∧ snd = ((s.w.senderEntry f).map (fun g => lanExt
    (s.w.lan g))).getD f.src ∧ s.w.radKey f.radio (f.key - 1) = some key ∧ ccmTag (aesKeys key) 4 (macNonce snd
    f.ctr) hd (ccmCrypt (aesKeys key) (macNonce snd f.ctr) f.cipher) = f.mic ∧ (if f.key = 1 then (s.w.ctrRec
    snd).c1 else (s.w.ctrRec snd).c2) = some l ∧ f.ctr ≤ l) ∧
  (∃ (s : State) (f : RadioFrame) (t : Nat) (hd : List Byte), f.radio < 4 ∧ f.seq < 256 ∧ f.ctr < 2 ^ 32 ∧ f.rssi <
    256 ∧ f.lqi < 256 ∧ s.w.radOn f.radio = true ∧ (s.w.radio f.radio).serving = true ∧ hd = macHeader f.ack false
    f.ext f.seq (s.w.radPan f.radio) 0 f.src f.ctr f.key ∧ f.fcs = crc32 (hd ++ f.cipher ++ f.mic) ∧ (s.w.at_
    t).talking f.radio (airUs (s.w.radMode f.radio) (W.psduOf f)) = false ∧ ((f.ext = false ∧ s.w.senderEntry f =
    none) ∨ (f.key ≠ 1 ∧ f.key ≠ 2) ∨ s.w.radKey f.radio (f.key - 1) = none ∨ (s.w.radKey f.radio (f.key - 1)).any
    (fun key => ccmTag (aesKeys key) 4 (macNonce (((s.w.senderEntry f).map (fun g => lanExt (s.w.lan g))).getD
    f.src) f.ctr) hd (ccmCrypt (aesKeys key) (macNonce (((s.w.senderEntry f).map (fun g => lanExt (s.w.lan
    g))).getD f.src) f.ctr) f.cipher) != f.mic) = true)) ∧
  (∃ (s : State) (f : RadioFrame) (t : Nat), f.radio < 4 ∧ f.seq < 256 ∧ f.ctr < 2 ^ 32 ∧ f.rssi < 256 ∧ f.lqi <
    256 ∧ (s.w.radOn f.radio = false ∨ (s.w.radio f.radio).serving = false ∨ f.fcs ≠ crc32 (macHeader f.ack false
    f.ext f.seq (s.w.radPan f.radio) 0 f.src f.ctr f.key ++ f.cipher ++ f.mic) ∨ (s.w.at_ t).talking f.radio (airUs
    (s.w.radMode f.radio) (W.psduOf f)) = true)) ∧
  (∃ (s : State) (r seq t : Nat) (x : Unicast) (rest : List Unicast) (f : AirFrame), r < 4 ∧ (s.w.radio r).uni = x
    :: rest ∧ x.sent = some f) ∧
  (∃ (s : State) (r seq t : Nat), r < 4 ∧ (s.w.radio r).uni.head?.all (fun x => x.sent.isNone) = true) ∧
  (∃ (s : State) (t : Nat) (q : QUnit) (b : List Byte), s.w.loom = true ∧ (s.w.at_ t).lmpFlush.headOf 0xA 0xB =
    some q ∧ q.body = .bytes b ∧ le b 0 1 = 0x31) ∧
  (∃ (s : State) (t : Nat) (q : QUnit) (b : List Byte), s.w.loom = true ∧ (s.w.at_ t).lmpFlush.headOf 0xA 0xB =
    some q ∧ q.body = .bytes b ∧ le b 0 1 = 0x32) ∧
  (∃ (s : State) (t : Nat), s.w.loom = false ∨ (s.w.at_ t).lmpFlush.headOf 0xA 0xB = none) ∧
  (∃ (s : State) (t : Nat), s.w.loom = false ∨ (s.w.at_ t).lmpFlush.headOf 0xA 0xB = none) :=
  ⟨⟨(tRad [] id), 0, 5, by decide +kernel⟩,
   ⟨(tRad [] id), 0, 5, by decide +kernel⟩,
   ⟨(tRad [] id), 1, 5, by decide +kernel⟩,
   ⟨(tRad [] (fun x => { x with radios := [(0, { Radio.init with fired := some 5 })] })), 0, 5, by decide +kernel⟩,
   ⟨(tRad [] (fun x =>
     { x with grid := tB 40 [], radios := [(0, { Radio.init with running := true, urgent := 2, sf := 1 })] })), 0,
     4, [], by decide +kernel⟩,
   ⟨(tRad [] (fun x => { x with radios := [(0, { Radio.init with running := true, sf := 1 })] })), 0, 4, [],
     by decide +kernel⟩,
   ⟨(tRad [] (fun x => { x with radios := [(0, { Radio.init with sf := 9, serving := true })] })), 0, 2, 2, 2, 0,
     127, [(2, 127)], by decide +kernel⟩,
   ⟨(tRad [] (fun x => { x with radios := [(0, { Radio.init with sf := 9, running := true })] })), 0, 1, [],
     by decide +kernel⟩,
   ⟨(tRad [] (fun x => { x with radios := [(0, { Radio.init with serving := true })] })), tRx, 1000, 77,
     List.replicate 16 0x22, macHeader false false false 1 9 0 3 5 1, by decide +kernel⟩,
   ⟨(tRad [] (fun x =>
     { x with ctrs := [(77, ⟨some 9, none, [], false⟩)], radios := [(0, { Radio.init with serving := true })] })),
     tRx, 1000, 77, 9, List.replicate 16 0x22, macHeader false false false 1 9 0 3 5 1, by decide +kernel⟩,
   ⟨(tRad [(RAD_RKEY_slot_a 0, 8)] (fun x => { x with radios := [(0, { Radio.init with serving := true })] })),
     tRx, 1000, macHeader false false false 1 9 0 3 5 1, by decide +kernel⟩,
   ⟨(tRad [] id), tRx, 1000, by decide +kernel⟩,
   ⟨(tRad [] (fun x =>
     { x with radios := [(0, { Radio.init with serving := true, uni := [⟨2, false, some ⟨0, 0, 0, false, 7, true, 1, 0, [], [], [], 0⟩, 0⟩] })] })),
     0, 7, 100, ⟨2, false, some ⟨0, 0, 0, false, 7, true, 1, 0, [], [], [], 0⟩, 0⟩, [], ⟨0, 0, 0, false, 7, true,
     1, 0, [], [], [], 0⟩, by decide +kernel⟩,
   ⟨(tRad [] id), 0, 7, 100, by decide +kernel⟩,
   ⟨(dv (tRad [] id) (fun d => { d with que := [tQ 7 (tB 48 [(0, 1, 0x31)])] })), 0, tU (tB 48 [(0, 1, 0x31)]), tB
     48 [(0, 1, 0x31)], by decide +kernel⟩,
   ⟨(dv (tRad [] id) (fun d => { d with que := [tQ 7 (tB 24 [(0, 1, 0x32), (1, 1, 1)])] })), 0, tU (tB 24 [(0, 1,
     0x32), (1, 1, 1)]), tB 24 [(0, 1, 0x32), (1, 1, 1)], by decide +kernel⟩,
   ⟨(tRad [] id), 0, by decide +kernel⟩,
   ⟨(tRad [] id), 0, by decide +kernel⟩⟩

theorem test_meets_RadioTable :
  (∃ (s : State) (g : Nat), s.lanes ∧ g < 16384 ∧ s.dev.pat.active.radios.isSome = true ∧ s.w.gated 0xB = false ∧ g
    < s.w.lanSum) ∧
  (∃ (s : State) (g : Nat), s.lanes ∧ g < 16384 ∧ s.dev.pat.active.radios.isSome = true ∧ s.w.gated 0xB = false ∧ g
    < s.w.lanSum) ∧
  (∃ (s : State) (g : Nat), s.lanes ∧ g < 16384 ∧ s.dev.pat.active.radios.isSome = true ∧ s.w.gated 0xB = false ∧ g
    < s.w.lanSum) ∧
  (∃ (s : State) (g m : Nat) (l : CacheLine), s.lanes ∧ g < 16384 ∧ s.dev.pat.active.radios.isSome = true ∧
    s.w.gated 0xB = false ∧ g < s.w.lanSum ∧ tblGet s.dev.rad.cache g = some l ∧ l.dirty = some m) ∧
  (∃ (s : State) (g : Nat), s.lanes ∧ g < 16384 ∧ s.dev.pat.active.radios.isSome = true ∧ s.w.gated 0xB = false ∧ g
    < s.w.lanSum ∧ (tblGet s.dev.rad.cache g).all (fun l => l.dirty.isNone) = true) ∧
  (∃ (s : State) (g : Nat), s.lanes ∧ g < 16384 ∧ s.dev.pat.active.radios.isSome = true ∧ s.w.gated 0xB = false ∧ g
    < s.w.lanSum) ∧
  (∃ (s : State) (g : Nat), s.lanes ∧ g < 16384 ∧ s.dev.pat.active.radios.isSome = true ∧ s.w.gated 0xB = false ∧ g
    < s.w.lanSum) ∧
  (∃ (s : State) (g : Nat), s.lanes ∧ g < 16384 ∧ s.dev.pat.active.radios.isSome = true ∧ s.w.gated 0xB = false ∧
    s.w.lanSum ≤ g) ∧
  (∃ (s : State) (g : Nat), s.lanes ∧ g < 16384 ∧ s.dev.pat.active.radios.isSome = true ∧ s.w.gated 0xB = false ∧
    s.w.lanSum ≤ g) ∧
  (∃ (s : State) (g : Nat), s.lanes ∧ g < 16384 ∧ (s.dev.pat.active.radios = none ∨ s.w.gated 0xB = true)) :=
  ⟨⟨(tRad [] id), 2, by decide +kernel⟩,
   ⟨({ tRad [] id with mem := tM 0x800200180 (patch tLan 0 [78]) }), 3, by decide +kernel⟩,
   ⟨(tRad [] id), 2, by decide +kernel⟩,
   ⟨(tRad [] (fun x => { x with cache := [(2, ⟨tLan, some 3, 0⟩)] })), 2, 3, ⟨tLan, some 3, 0⟩, by decide +kernel⟩,
   ⟨(tRad [] id), 2, by decide +kernel⟩,
   ⟨(tRad [] id), 2, by decide +kernel⟩,
   ⟨(tRad [] (fun x => { x with ctrs := [(77, ⟨some 3, none, [], false⟩)] })), 2, by decide +kernel⟩,
   ⟨(tRad [] id), 9000, by decide +kernel⟩,
   ⟨(tRad [] id), 9000, by decide +kernel⟩,
   ⟨(sv []), 2, by decide +kernel⟩⟩

theorem test_meets_RadioTimes :
  (∃ (s : State) (g : Nat), s.lanes ∧ g < 16384 ∧ s.dev.pat.active.radios.isSome = true ∧ s.w.gated 0xB = false ∧ g
    < s.w.lanSum) ∧
  (∃ (s : State), s.lanes ∧ s.dev.pat.active.radios.isSome = true ∧ s.w.gated 0xB = false) ∧
  (∃ (s : State), s.lanes ∧ s.dev.pat.active.radios.isSome = true ∧ s.w.gated 0xB = false) ∧
  (∃ (s : State) (t a n : Nat) (rest : List (Nat × Nat)), s.dev.rad.wake = (a, n) :: rest) ∧
  (∃ (s : State) (t : Nat), s.dev.rad.wake = []) ∧
  (∃ (s : State) (g t : Nat), g < 16384) ∧
  (∃ (s : State) (g t m : Nat) (l : CacheLine), g < 16384 ∧ s.w.mainOn = true ∧ tblGet s.dev.rad.cache g = some l ∧
    l.dirty = some m) ∧
  (∃ (s : State) (g t : Nat), g < 16384 ∧ (s.w.mainOn = false ∨ (tblGet s.dev.rad.cache g).all (fun l =>
    l.dirty.isNone) = true)) ∧
  (∃ (s : State) (t r : Nat), s.w.radList.contains r = true) :=
  ⟨⟨(tRad [(RAD_WAKE_CFG_freq_khz, 868000)] (fun x => { x with cache := [(2, ⟨tB 128 [(12, 2, 5)], none, 0⟩)] })),
     2, by decide +kernel⟩,
   ⟨(tRad [(RAD_WAKE_CFG_freq_khz, 868000), (RAD_CMD_ARG_v, 5)] id), by decide +kernel⟩,
   ⟨(tRad [] id), by decide +kernel⟩,
   ⟨(tRad [] (fun x => { x with wake := [(5, 2)] })), 100, 5, 2, [], by decide +kernel⟩,
   ⟨(tRad [] id), 100, by decide +kernel⟩,
   ⟨(tRad [] (fun x => { x with cache := [(2, ⟨tB 128 [(8, 1, 2), (14, 2, 1), (72, 1, 3)], none, 0⟩)] })), 2,
     1000000000, by decide +kernel⟩,
   ⟨(tRad [] (fun x => { x with cache := [(2, ⟨tLan, some 3, 0⟩)] })), 2, 100, 3, ⟨tLan, some 3, 0⟩,
     by decide +kernel⟩,
   ⟨(tRad [] id), 2, 100, by decide +kernel⟩,
   ⟨(tRad [] (fun x => { x with cfgSeq := 3 })), 100, 0, by decide +kernel⟩⟩

theorem test_meets_PedlarCommands :
  (∃ (s : State) (slot : Nat), s.lanes ∧ slot < 8 ∧ s.w.fltHere = true ∧ s.dev.flt.storing = none) ∧
  (∃ (s : State) (t slot : Nat) (x : FlashSlot) (ok : Bool), s.dev.flt.storing = some (slot, x)) ∧
  (∃ (s : State) (t : Nat) (ok : Bool), s.dev.flt.storing = none) ∧
  (∃ (s : State) (slot : Nat), s.lanes ∧ slot < 8 ∧ s.w.fltHere = true ∧ s.dev.flt.storing = none) ∧
  (∃ (s : State) (slot : Nat), s.lanes ∧ slot < 8 ∧ s.w.fltHere = true ∧ s.dev.flt.storing = none) ∧
  (∃ (s : State), s.lanes ∧ s.w.fltHere = true ∧ s.dev.flt.storing = none) ∧
  (∃ (s : State) (slot T : Nat), s.lanes ∧ slot < 8 ∧ s.w.fltHere = true ∧ s.dev.flt.storing = none ∧ T = (s.reg
    FLT_ACT_SEC_LO_v + 2 ^ 32 * s.reg FLT_ACT_SEC_HI_v) * 1000000000 + s.reg FLT_ACT_NS_v) ∧
  (∃ (s : State), s.lanes ∧ s.w.fltHere = true ∧ s.dev.flt.storing = none) ∧
  (∃ (s : State) (slot : Nat), s.lanes ∧ slot < 8 ∧ (s.dev.flt.storing.isSome = true ∨ s.w.fltHere = false)) ∧
  (∃ (s : State) (t : Nat) (q : QUnit) (b : List Byte) (c : Campaign), s.w.loom = true ∧ s.w.fltHere = true ∧
    s.w.isStandby = false ∧ (s.w.at_ t).radFlush.headOf 0xB 0xC = some q ∧ q.body = .bytes b ∧ s.dev.flt.camp =
    some c ∧ be (b.drop 24) 2 2 = c.id ∧ be (b.drop 24) 1 1 ≤ 8) ∧
  (∃ (s : State) (t : Nat) (q : QUnit) (b : List Byte), (s.w.at_ t).radFlush.headOf 0xB 0xC = some q ∧ q.body =
    .bytes b ∧ (s.w.loom = false ∨ s.w.fltHere = false ∨ s.w.isStandby = true ∨ s.dev.flt.camp.all (fun c => be
    (b.drop 24) 2 2 != c.id || decide (8 < be (b.drop 24) 1 1)) = true)) ∧
  (∃ (s : State) (t : Nat), (s.w.at_ t).radFlush.headOf 0xB 0xC = none) ∧
  (∃ (s : State) (t : Nat) (c : Campaign), s.dev.flt.camp = some c) ∧
  (∃ (s : State) (t : Nat), s.dev.flt.camp = none) :=
  ⟨⟨({ tFlt [] id with mem := tM 0x800500000 (tManifest ++ tSig ++ [1, 2, 3]) }), 3, by decide +kernel⟩,
   ⟨(tFlt [] (fun x => { x with storing := some (3, tFlash) })), 5, 3, tFlash, true, by decide +kernel⟩,
   ⟨(tFlt [] id), 5, true, by decide +kernel⟩,
   ⟨(tFlt [] (fun x => { x with slots := [(3, tFlash)] })), 3, by decide +kernel⟩,
   ⟨(tFlt [(FLT_CAMP_CFG_radios, 1)] (fun x => { x with slots := [(3, tFlash)] })), 3, by decide +kernel⟩,
   ⟨(tFlt [] (fun x => { x with camp := some (tCamp 1) })), by decide +kernel⟩,
   ⟨(tFlt [(FLT_ACT_SEC_LO_v, 9)] (fun x => { x with slots := [(3, { tFlash with campaigned := true })] })), 3,
     9000000000, by decide +kernel⟩,
   ⟨(tFlt [] (fun x => { x with act := some ⟨1, 9, 7, 1000, [(0, 1)], true⟩ })), by decide +kernel⟩,
   ⟨(tFlt [] (fun x => { x with storing := some (3, tFlash) })), 3, by decide +kernel⟩,
   ⟨(dv (tFlt [] (fun x => { x with camp := some (tCamp 2) })) (fun d =>
     { d with que := [tQ 10 (tB 32 [(2, 2, 2), (25, 1, 1), (27, 1, 9)])] })), 5, tU (tB 32 [(2, 2, 2), (25, 1, 1),
     (27, 1, 9)]), tB 32 [(2, 2, 2), (25, 1, 1), (27, 1, 9)], tCamp 2, by decide +kernel⟩,
   ⟨(dv (tFlt [] id) (fun d => { d with que := [tQ 10 (tB 32 [(2, 2, 2), (25, 1, 1), (27, 1, 9)])] })), 5, tU (tB
     32 [(2, 2, 2), (25, 1, 1), (27, 1, 9)]), tB 32 [(2, 2, 2), (25, 1, 1), (27, 1, 9)], by decide +kernel⟩,
   ⟨(tFlt [] id), 5, by decide +kernel⟩,
   ⟨(dv (tFlt [] (fun x => { x with camp := some (tCamp 2) })) (fun d =>
     { d with rad := { d.rad with radios := [(0, { Radio.init with sf := 20 })] } })), 5, tCamp 2,
     by decide +kernel⟩,
   ⟨(tFlt [] id), 5, by decide +kernel⟩⟩

theorem test_meets_ChandlerStrings :
  (∃ (s : State) (t : Nat) (q : QUnit) (b : List Byte), s.w.ledOn = true ∧ (s.w.at_ t).lmpFlush.headOf 0xA 0xD =
    some q ∧ q.body = .bytes b) ∧
  (∃ (s : State) (t : Nat), s.w.ledOn = false ∨ (s.w.at_ t).lmpFlush.headOf 0xA 0xD = none) ∧
  (∃ (s : State) (n cause t : Nat), n < 16 ∧ 1 ≤ cause ∧ cause ≤ 4 ∧ s.w.ledOn = true ∧ (s.w.ledItem n).isSome =
    true ∧ ((s.w.ledStr n).state = 2 ∨ (s.w.ledStr n).state = 3) ∧ s.dev.led.cal.all (fun x => s.w.csetOf n != some
    x.1) = true) ∧
  (∃ (s : State) (n cause t : Nat), n < 16 ∧ 1 ≤ cause ∧ cause ≤ 4 ∧ s.w.ledOn = true ∧ (s.w.ledItem n).isSome =
    true ∧ ((s.w.ledStr n).state = 2 ∨ (s.w.ledStr n).state = 3) ∧ s.dev.led.cal.any (fun x => s.w.csetOf n == some
    x.1) = true) ∧
  (∃ (s : State) (n cause t : Nat), n < 16 ∧ 1 ≤ cause ∧ cause ≤ 4 ∧ (s.w.ledOn = false ∨ s.w.ledItem n = none ∨
    ((s.w.ledStr n).state ≠ 2 ∧ (s.w.ledStr n).state ≠ 3))) ∧
  (∃ (s : State) (n t : Nat), n < 16) ∧
  (∃ (s : State) (n t : Nat), n < 16) ∧
  (∃ (s : State) (n t : Nat), n < 16) ∧
  (∃ (s : State) (n : Nat), s.lanes ∧ n < 32 ∧ s.w.ledHere = true) ∧
  (∃ (s : State) (n t : Nat), n < 16) :=
  ⟨⟨(dv (tLed [] id) (fun d =>
     { d with que := [tQ 8 (tB 64 [(0, 1, 0x35), (16, 2, 0x8100), (18, 2, 0x8200), (52, 2, 0x8300)])] })), 1000, tU
     (tB 64 [(0, 1, 0x35), (16, 2, 0x8100), (18, 2, 0x8200), (52, 2, 0x8300)]), tB 64 [(0, 1, 0x35), (16, 2,
     0x8100), (18, 2, 0x8200), (52, 2, 0x8300)], by decide +kernel⟩,
   ⟨(tLed [] id), 1000, by decide +kernel⟩,
   ⟨(tLed [] (fun x => { x with strs := [(1, ⟨3, 0, 0, 0⟩)] })), 1, 1, 1000, by decide +kernel⟩,
   ⟨(tLed [] (fun x => { x with strs := [(0, ⟨3, 0, 0, 0⟩)], cal := some (1, 0) })), 0, 1, 1000, by decide +kernel⟩,
   ⟨(tLed [] id), 1, 1, 1000, by decide +kernel⟩,
   ⟨(tLed [] (fun x => { x with strs := [(1, ⟨4, 1, 0, 0⟩)] })), 1, 300000000000, by decide +kernel⟩,
   ⟨(tLed [] (fun x => { x with strs := [(1, ⟨3, 0, 2, 0⟩)] })), 1, 60000000000, by decide +kernel⟩,
   ⟨(tLed [] (fun x => { x with strs := [(1, ⟨2, 0, 2, 0⟩)] })), 1, 60000000000, by decide +kernel⟩,
   ⟨(tLed [] (fun x => { x with strs := [(1, ⟨5, 1, 99, 0⟩)] })), 1, by decide +kernel⟩,
   ⟨(tLed [] (fun x => { x with strs := [(1, ⟨3, 0, 0, 0⟩)] })), 1, 1000, by decide +kernel⟩⟩

theorem test_meets_ChandlerColourAndMatrix :
  (∃ (s : State) (k p t : Nat) (edges : List Nat), k < 4 ∧ p < 4) ∧
  (∃ (s : State) (k p t : Nat), k < 4 ∧ p < 4) ∧
  (∃ (s : State) (k : Nat), s.lanes ∧ k < 32 ∧ s.w.ledHere = true) ∧
  (∃ (s : State) (dark ref : List Nat) (t k m : Nat), s.dev.led.cal = some (k, m)) ∧
  (∃ (s : State) (dark ref : List Nat) (t : Nat), s.dev.led.cal = none) ∧
  (∃ (s : State) (x : W32), s.lanes ∧ s.w.ledHere = true) ∧
  (∃ (s : State), s.lanes ∧ s.w.ledHere = true) ∧
  (∃ (s : State) (v : W32), s.lanes ∧ s.w.ledHere = true) ∧
  (∃ (s : State) (p : Nat) (b : List Byte) (src : Nat), s.lanes ∧ p < 4 ∧ s.w.ledHere = true ∧ s.w.ledItem (16 + p)
    = some b ∧ src = s.reg (LED_MTX_SRC_LO_v p) + 2 ^ 32 * s.reg (LED_MTX_SRC_HI_v p)) ∧
  (∃ (s : State) (p : Nat), s.lanes ∧ p < 32 ∧ s.w.ledHere = true ∧ s.dev.led.cal = none ∧ (4 ≤ p ∨ s.w.ledItem (16
    + p) = none)) ∧
  (∃ (s : State) (p t : Nat) (b : List Byte), p < 4 ∧ s.w.ledItem (16 + p) = some b) ∧
  (∃ (s : State) (p t : Nat), p < 4 ∧ s.w.ledItem (16 + p) = none) ∧
  (∃ (s : State) (p t : Nat) (b : List Byte), p < 4 ∧ s.w.pinFunc (0x98 + p) = 6 ∧ s.w.ledOn = true ∧ s.w.ledItem
    (16 + p) = some b ∧ (le b 9 1 = 1 ∨ le b 9 1 = 2)) ∧
  (∃ (s : State) (p t : Nat), p < 4 ∧ (s.w.pinFunc (0x98 + p) ≠ 6 ∨ s.w.ledOn = false ∨ (s.w.ledItem (16 + p)).all
    (fun b => le b 9 1 != 1 && le b 9 1 != 2) = true)) :=
  ⟨⟨(tLed [(LED_CSET_CFG_mode 1, 1), (LED_CSET_CFG_sns0 1, 0x20), (LED_CSET_REF_f_ref 1 0, 60000)] (fun x =>
     { x with outs := [(0, ⟨64000, 64000, 1000, 0, 0⟩)] })), 1, 0, 1000, [500], by decide +kernel⟩,
   ⟨(tLed [(LED_CSET_CFG_mode 1, 2)] id), 1, 0, 10000000000, by decide +kernel⟩,
   ⟨(tLed [(LED_CSET_CFG_sns0 1, 0x20)] id), 1, by decide +kernel⟩,
   ⟨(tLed [] (fun x => { x with cal := some (1, 0) })), [100], [600000], 1000000000, 1, 0, by decide +kernel⟩,
   ⟨(tLed [] id), [100], [600000], 1000000000, by decide +kernel⟩,
   ⟨(tLed [(LED_CURVE_SEL_point, 1023)] id), 5, by decide +kernel⟩,
   ⟨(tLed [(LED_CURVE_SEL_point, 1023)] id), by decide +kernel⟩,
   ⟨(tLed [] (fun x => { x with strs := [(1, ⟨3, 0, 0, 0⟩)] })), 0, by decide +kernel⟩,
   ⟨(tLed [(LED_MTX_SRC_LO_v 2, 0x500000), (LED_MTX_SRC_HI_v 2, 8)] id), 2, tB 16 [(0, 1, 18), (2, 1, 1), (4, 4,
     4), (8, 1, 2), (9, 1, 1)], 0x800500000, by decide +kernel⟩,
   ⟨(tLed [] id), 1, by decide +kernel⟩,
   ⟨(tLed [(LED_MTX_STAT_shifting 2, 1)] (fun x => { x with mtx := [(2, ⟨[1, 2], [2], true, 0, [], []⟩)] })), 2,
     1000000, tB 16 [(0, 1, 18), (2, 1, 1), (4, 4, 4), (8, 1, 2), (9, 1, 1)], by decide +kernel⟩,
   ⟨(tLed [] id), 1, 1000, by decide +kernel⟩,
   ⟨(tLed [(LED_MTX_STAT_preloaded 2, 1)] (fun x => { x with mtx := [(2, ⟨[1], [2], false, 0, [], []⟩)] })), 2,
     1000, tB 16 [(0, 1, 18), (2, 1, 1), (4, 4, 4), (8, 1, 2), (9, 1, 1)], by decide +kernel⟩,
   ⟨(tLed [] id), 1, 1000, by decide +kernel⟩⟩

theorem test_meets_AssayerPulses :
  (∃ (s : State) (t : Nat) (q : QUnit) (b : List Byte), s.w.serves = true ∧ s.w.mtrHere = true ∧ (s.w.at_
    t).smpFlush.headOf 9 0xE = some q ∧ q.body = .bytes b) ∧
  (∃ (s : State) (t : Nat), s.w.serves = false ∨ s.w.mtrHere = false ∨ (s.w.at_ t).smpFlush.headOf 9 0xE = none) ∧
  (∃ (s : State) (i t n : Nat), i < 32 ∧ s.w.mtrOn = true ∧ s.bitOf (MTR_PIN_CFG_enable i) = true ∧ s.w.pinFunc
    (0x40 + i) = 6 ∧ (s.w.at_ t).pulseApart i = true ∧ n = ((tblGet s.dev.mtr.pins i).map (fun x => if x.sec =
    s.nsAt t / 1000000000 then x.count else 0)).getD 0 ∧ (s.reg (MTR_PIN_CFG_max_rate i) = 0 ∨ n < s.reg
    (MTR_PIN_CFG_max_rate i))) ∧
  (∃ (s : State) (i t : Nat) (x : PulseIn), i < 32 ∧ s.w.mtrOn = true ∧ s.bitOf (MTR_PIN_CFG_enable i) = true ∧
    s.w.pinFunc (0x40 + i) = 6 ∧ (s.w.at_ t).pulseApart i = true ∧ s.reg (MTR_PIN_CFG_max_rate i) ≠ 0 ∧ tblGet
    s.dev.mtr.pins i = some x ∧ x.sec = s.nsAt t / 1000000000 ∧ s.reg (MTR_PIN_CFG_max_rate i) ≤ x.count) ∧
  (∃ (s : State) (i t : Nat), i < 32 ∧ (s.w.mtrOn = false ∨ s.bitOf (MTR_PIN_CFG_enable i) = false ∨ s.w.pinFunc
    (0x40 + i) ≠ 6 ∨ (s.w.at_ t).pulseApart i = false)) ∧
  (∃ (s : State) (i t : Nat) (x : PulseIn), i < 32 ∧ tblGet s.dev.mtr.pins i = some x) ∧
  (∃ (s : State) (i t : Nat), i < 32 ∧ tblGet s.dev.mtr.pins i = none) ∧
  (∃ (s : State) (o t : Nat), o < 8) ∧
  (∃ (s : State) (o t wd m : Nat), o < 8 ∧ (s.w.pout o).high = some (wd, m)) ∧
  (∃ (s : State) (o t : Nat), o < 8 ∧ (s.w.pout o).high = none) :=
  ⟨⟨(dv (tSieve []) (fun d => { d with que := [tQ 6 (tB 48 [(2, 2, 1), (32, 1, 5), (36, 4, 0x3F800000)])] })), 5,
     tU (tB 48 [(2, 2, 1), (32, 1, 5), (36, 4, 0x3F800000)]), tB 48 [(2, 2, 1), (32, 1, 5), (36, 4, 0x3F800000)],
     by decide +kernel⟩,
   ⟨(tSieve []), 5, by decide +kernel⟩,
   ⟨(sv [(MTR_CTRL_enable, 1), (MTR_PIN_CFG_enable 3, 1), (MTR_PIN_WEIGHT_v 3, 10)]), 3, 1000, 0,
     by decide +kernel⟩,
   ⟨(dv (sv [(MTR_CTRL_enable, 1), (MTR_PIN_CFG_enable 3, 1), (MTR_PIN_CFG_max_rate 3, 2)]) (fun d =>
     { d with mtr := { d.mtr with pins := [(3, ⟨0, 2, 0⟩)] } })), 3, 1000, ⟨0, 2, 0⟩, by decide +kernel⟩,
   ⟨(sv []), 3, 1000, by decide +kernel⟩,
   ⟨(dv (sv [(MTR_CTRL_enable, 1)]) (fun d => { d with mtr := { d.mtr with pins := [(3, ⟨0, 2, 4⟩)] } })), 3,
     1000000000, ⟨0, 2, 4⟩, by decide +kernel⟩,
   ⟨(sv []), 3, 1000, by decide +kernel⟩,
   ⟨(dv (sv [(MTR_CTRL_enable, 1), (MTR_POUT_CFG_enable 3, 1)]) (fun d =>
     { d with mtr := { d.mtr with pouts := [(3, { PulseOut.empty with owed := 2 })] } })), 3, 1000000000,
     by decide +kernel⟩,
   ⟨(dv (sv []) (fun d =>
     { d with mtr := { d.mtr with pouts := [(3, { PulseOut.empty with high := some (5, 0) })] } })), 3, 1000000000,
     5, 0, by decide +kernel⟩,
   ⟨(sv []), 3, 1000000000, by decide +kernel⟩⟩

theorem test_meets_AssayerRegisters :
  (∃ (s : State), s.lanes ∧ s.w.mtrHere = true) ∧
  (∃ (s : State) (a : Nat), s.lanes ∧ a < 64 ∧ s.w.mtrHere = true) ∧
  (∃ (s : State) (a : Nat), s.lanes ∧ a < 64 ∧ s.w.mtrHere = true) ∧
  (∃ (s : State) (a : Nat), s.lanes ∧ a < 64 ∧ s.w.mtrHere = true) ∧
  (∃ (s : State) (v : W32), s.lanes ∧ s.w.mtrHere = true) ∧
  (∃ (s : State) (x : W32), s.lanes ∧ s.w.mtrHere = true) ∧
  (∃ (s : State), s.lanes ∧ s.w.mtrHere = true) ∧
  (∃ (s : State) (src t : Nat), src < 4) ∧
  (∃ (s : State) (a : Nat) (v : W32), s.lanes ∧ a < 64 ∧ s.w.mtrHere = false) :=
  ⟨⟨(sv []), by decide +kernel⟩,
   ⟨(dv (sv []) (fun d => { d with key := { d.key with lc := 3 }, mtr := { d.mtr with accs := [(5, 7)] } })), 5,
     by decide +kernel⟩,
   ⟨(dv (sv []) (fun d => { d with mtr := { d.mtr with accs := [(5, 2 ^ 66)] } })), 5, by decide +kernel⟩,
   ⟨(dv (sv []) (fun d => { d with mtr := { d.mtr with accs := [(5, 2 ^ 66)] } })), 5, by decide +kernel⟩,
   ⟨(dv (sv []) (fun d => { d with mtr := { d.mtr with gapLog := [tB 32 [(0, 4, 9)]] } })), 0, by decide +kernel⟩,
   ⟨(sv [(MTR_TC_SEL_point, 31)]), 5, by decide +kernel⟩,
   ⟨(sv [(MTR_TC_SEL_point, 31)]), by decide +kernel⟩,
   ⟨(sv [(MTR_CTRL_enable, 1)]), 2, 10000000000, by decide +kernel⟩,
   ⟨(dv (sv []) (fun d => { d with pat := { d.pat with active := Pattern.factoryPattern } })), 3, 5,
     by decide +kernel⟩⟩

theorem test_meets_LaneVoting :
  (∃ (s : State) (hart pc insn t : Nat) (machine : Bool) (r : Req), hart < 4 ∧ 2 ≤ s.w.running.length ∧ 0 ∈
    s.w.running ∧ s.dev.lnv.held.all (fun x => x.hart != hart) = true ∧ s.dev.lnv.inject ≠ some 0) ∧
  (∃ (s : State) (hart pc insn t : Nat) (machine : Bool) (r : Req), hart < 4 ∧ s.w.running = [0, 1, 2] ∧
    s.dev.lnv.held.all (fun x => x.hart != hart) = true ∧ (r.kind = .load ∨ r.kind = .fetch) ∧ (r.addr < 0x40000000
    ∨ 0x40190000 ≤ r.addr) ∧ W.memFault r.addr r.size false = false ∧ s.dev.fls.bad.any (fun k => W.touches r.addr
    r.size k) = false) ∧
  (∃ (s : State) (hart pc insn t since d : Nat) (machine f : Bool) (r : Req), hart < 4 ∧ s.w.running = [0, 1, 2] ∧
    s.dev.lnv.held = [⟨hart, [(0, r), (1, r)], true, some (d, f), since⟩] ∧ s.dev.lnv.inject ≠ some 2) ∧
  (∃ (s : State) (hart pc insn t : Nat) (machine : Bool) (r : Req), hart < 4 ∧ s.w.running = [0, 1, 2] ∧
    s.dev.lnv.held.all (fun x => x.hart != hart) = true ∧ (r.kind = .load ∨ r.kind = .fetch) ∧ (r.addr < 0x40000000
    ∨ 0x40190000 ≤ r.addr) ∧ W.memFault r.addr r.size false = false ∧ s.dev.fls.bad.any (fun k => W.touches r.addr
    r.size k) = false) ∧
  (∃ (s : State) (hart pc insn t : Nat) (machine : Bool) (r : Req), hart < 4 ∧ s.w.running = [0, 1, 2] ∧
    s.dev.lnv.held.all (fun x => x.hart != hart) = true ∧ s.dev.lnv.inject = none ∧ r.kind = .store ∧ (r.addr <
    0x40000000 ∨ 0x40190000 ≤ r.addr) ∧ W.memFault r.addr r.size true = false) ∧
  (∃ (s : State) (hart pc insn t : Nat) (machine : Bool) (r : Req), hart < 4 ∧ s.w.running = [0, 1] ∧
    s.dev.lnv.held.all (fun x => x.hart != hart) = true ∧ s.dev.lnv.inject = none ∧ r.kind ≠ .atomic ∧ (r.addr <
    0x40000000 ∨ 0x40190000 ≤ r.addr) ∧ W.memFault r.addr r.size (r.kind == .store) = true) ∧
  (∃ (s : State) (hart pc insn t : Nat) (machine : Bool) (r q : Req), hart < 4 ∧ s.w.running = [0, 1, 2] ∧
    s.dev.lnv.held = [] ∧ r.kind = .load ∧ q.kind = .load ∧ q ≠ r ∧ (r.addr < 0x40000000 ∨ 0x40190000 ≤ r.addr) ∧
    W.memFault r.addr r.size false = false ∧ s.dev.fls.bad.any (fun k => W.touches r.addr r.size k) = false ∧
    noEvents s.pending = true ∧ s.w.actedOn t (fun p => p == 1 || p == 2 || p == 5) = false) ∧
  (∃ (s : State) (hart pc insn t : Nat) (machine : Bool) (p q r : Req), hart < 4 ∧ s.w.running = [0, 1, 2] ∧
    s.dev.lnv.held.all (fun x => x.hart != hart) = true ∧ p.kind = .load ∧ q.kind = .load ∧ r.kind = .load ∧ p ≠ q
    ∧ q ≠ r ∧ p ≠ r ∧ noEvents s.pending = true ∧ s.w.actedOn t (fun p => p == 1 || p == 2 || p == 5) = false) ∧
  (∃ (s : State) (hart pc insn t : Nat) (machine : Bool) (p q : Req), hart < 4 ∧ s.w.running = [0, 1] ∧
    s.dev.lnv.held.all (fun x => x.hart != hart) = true ∧ p.kind = .load ∧ q.kind = .load ∧ p ≠ q ∧ noEvents
    s.pending = true ∧ s.w.actedOn t (fun p => p == 1 || p == 2) = false) ∧
  (∃ (s : State) (hart t l m : Nat) (x : HeldReq) (r : Req) (rest : List (Nat × Req)), hart < 4 ∧ s.w.running = [0,
    1, 2] ∧ s.dev.lnv.held.find? (fun h => h.hart == hart && (s.w.at_ t).windowDue h) = some x ∧ x.issued = true ∧
    x.arrived = (m, r) :: rest ∧ s.w.running.find? (fun l => !x.arrived.any (fun y => y.1 == l)) = some l ∧
    (s.dev.lnv.held.erase x).all (fun y => y.issued || decide (y.arrived.length < 2)) = true ∧ noEvents s.pending =
    true ∧ s.w.actedOn t (fun p => p == 1 || p == 2 || p == 5) = false) ∧
  (∃ (s : State) (hart t : Nat) (x : HeldReq), hart < 4 ∧ s.dev.lnv.held.find? (fun h => h.hart == hart && (s.w.at_
    t).windowDue h) = some x ∧ (x.issued = false ∨ s.w.running.length ≠ 3) ∧ noEvents s.pending = true ∧
    s.w.actedOn t (fun p => p == 1 || p == 2 || p == 5) = false) ∧
  (∃ (s : State) (hart t : Nat), hart < 4 ∧ s.dev.lnv.held.any (fun h => h.hart == hart && (s.w.at_ t).windowDue h)
    = false) ∧
  (∃ (s : State) (l hart t : Nat) (cause : LocalCause), l < 3 ∧ hart < 4 ∧ s.w.running = [0, 1, 2] ∧
    s.dev.lnv.held.all (fun y => y.issued || decide (y.arrived.length < 2)) = true ∧ noEvents s.pending = true ∧
    s.w.actedOn t (fun p => p == 1 || p == 2 || p == 5) = false) ∧
  (∃ (s : State) (l hart t : Nat) (cause : LocalCause), l < 3 ∧ hart < 4 ∧ l ∈ s.w.running ∧ s.w.running.length ≠ 3
    ∧ noEvents s.pending = true ∧ s.w.actedOn t (fun p => p == 1 || p == 2) = false) ∧
  (∃ (s : State) (l hart t : Nat) (cause : LocalCause), l < 3 ∧ hart < 4 ∧ (l ∉ s.w.running ∨ s.w.actedOn t (fun p
    => p == 1 || p == 2) = true)) :=
  ⟨⟨(sv []), 2, 0, 0, 1000, true, ⟨.load, 0x800000000, 4, 15, 0, .other, false⟩, by decide +kernel⟩,
   ⟨({ sv [] with mem := tM 0x800000000 [1, 2, 3, 4] }), 2, 0, 0, 1000, true, ⟨.load, 0x800000000, 4, 15, 0,
     .other, false⟩, by decide +kernel⟩,
   ⟨(dv (sv []) (fun d =>
     { d with lnv := { d.lnv with held := [⟨2, [(0, ⟨.load, 0x800000000, 4, 15, 0, .other, false⟩), (1, ⟨.load, 0x800000000, 4, 15, 0, .other, false⟩)], true, some (7, true), 0⟩] } })),
     2, 0, 0, 1000, 0, 7, true, true, ⟨.load, 0x800000000, 4, 15, 0, .other, false⟩, by decide +kernel⟩,
   ⟨({ sv [] with mem := tM 0x800000000 [1, 2, 3, 4] }), 2, 0, 0, 1000, true, ⟨.load, 0x800000000, 4, 15, 0,
     .other, false⟩, by decide +kernel⟩,
   ⟨({ sv [] with mem := tM 0x800000000 [1, 2, 3, 4] }), 2, 0, 0, 1000, true, ⟨.store, 0x800000000, 4, 5,
     0x01020304, .other, false⟩, by decide +kernel⟩,
   ⟨(sv [(LNV_STATUS_lane_c, 1)]), 2, 0, 0, 1000, true, ⟨.store, 0x20000000, 4, 15, 0x01020304, .other, false⟩,
     by decide +kernel⟩,
   ⟨({ sv [] with mem := tM 0x800000000 [1, 2, 3, 4] }), 2, 0, 0, 1000, true, ⟨.load, 0x800000000, 4, 15, 0,
     .other, false⟩, ⟨.load, 0x800000008, 4, 15, 0, .other, false⟩, by decide +kernel⟩,
   ⟨(sv []), 2, 0, 0, 1000, true, ⟨.load, 0x800000000, 4, 15, 0, .other, false⟩, ⟨.load, 0x800000008, 4, 15, 0,
     .other, false⟩, ⟨.load, 0x800000010, 4, 15, 0, .other, false⟩, by decide +kernel⟩,
   ⟨(sv [(LNV_STATUS_lane_c, 1)]), 2, 0, 0, 1000, true, ⟨.load, 0x800000000, 4, 15, 0, .other, false⟩, ⟨.load,
     0x800000008, 4, 15, 0, .other, false⟩, by decide +kernel⟩,
   ⟨(dv (sv []) (fun d =>
     { d with lnv := { d.lnv with held := [⟨2, [(0, ⟨.load, 0x800000000, 4, 15, 0, .other, false⟩), (1, ⟨.load, 0x800000000, 4, 15, 0, .other, false⟩)], true, some (0, false), 0⟩] } })),
     2, 1000000, 2, 0, ⟨2, [(0, ⟨.load, 0x800000000, 4, 15, 0, .other, false⟩), (1, ⟨.load, 0x800000000, 4, 15, 0,
     .other, false⟩)], true, some (0, false), 0⟩, ⟨.load, 0x800000000, 4, 15, 0, .other, false⟩, [(1, ⟨.load,
     0x800000000, 4, 15, 0, .other, false⟩)], by decide +kernel⟩,
   ⟨(dv (sv []) (fun d =>
     { d with lnv := { d.lnv with held := [⟨2, [(0, ⟨.load, 0x800000000, 4, 15, 0, .other, false⟩)], false, none, 0⟩] } })),
     2, 1000000, ⟨2, [(0, ⟨.load, 0x800000000, 4, 15, 0, .other, false⟩)], false, none, 0⟩, by decide +kernel⟩,
   ⟨(sv []), 2, 1000, by decide +kernel⟩,
   ⟨(sv []), 1, 2, 1000, .l2, by decide +kernel⟩,
   ⟨(sv [(LNV_STATUS_lane_c, 1)]), 1, 2, 1000, .l1, by decide +kernel⟩,
   ⟨(sv [(LNV_STATUS_lane_b, 1)]), 1, 2, 1000, .l1, by decide +kernel⟩⟩

theorem test_meets_LaneResync :
  (∃ (s : State) (pass : Bool) (t l : Nat), s.w.resyncLane = some l ∧ s.w.lane l = 2) ∧
  (∃ (s : State) (lines t l : Nat), s.w.resyncLane = some l ∧ s.w.lane l = 3) ∧
  (∃ (s : State) (t l : Nat), s.w.resyncLane = some l ∧ s.w.lane l = 4) ∧
  (∃ (s : State) (pass : Bool) (n t : Nat), s.w.resyncLane = none) ∧
  (∃ (s : State) (hart skew t : Nat), hart < 4 ∧ skew ≤ 2048) ∧
  (∃ (s : State) (l t : Nat), s.lanes ∧ s.bitOf LNV_CMD_STATUS_busy = false ∧ l < 4) ∧
  (∃ (s : State) (l t : Nat), s.lanes ∧ s.bitOf LNV_CMD_STATUS_busy = true ∧ l < 4) ∧
  (∃ (s : State) (l : Nat), s.lanes ∧ l < 4) ∧
  (∃ (s : State) (hart pc insn t : Nat) (machine : Bool) (r : Req), hart < 4 ∧ s.w.running = [0, 1, 2] ∧
    s.dev.lnv.held = [] ∧ s.dev.lnv.inject = some 2 ∧ r.kind = .store ∧ (r.addr < 0x40000000 ∨ 0x40190000 ≤ r.addr)
    ∧ W.memFault r.addr r.size true = false ∧ noEvents s.pending = true ∧ s.w.actedOn t (fun p => p == 1 || p == 2
    || p == 5) = false) :=
  ⟨⟨(sv [(LNV_STATUS_lane_b, 2), (LNV_CMD_STATUS_busy, 1)]), false, 1000, 1, by decide +kernel⟩,
   ⟨(sv [(LNV_STATUS_lane_b, 3)]), 500, 1000, 1, by decide +kernel⟩,
   ⟨(dv (sv [(LNV_STATUS_lane_b, 4)]) (fun d => { d with op := .degraded })), 1000, 1, by decide +kernel⟩,
   ⟨(sv []), true, 5, 1000, by decide +kernel⟩,
   ⟨(sv []), 2, 100, 1000, by decide +kernel⟩,
   ⟨(sv [(LNV_STATUS_lane_b, 1)]), 1, 1000, by decide +kernel⟩,
   ⟨(sv [(LNV_CMD_STATUS_busy, 1)]), 1, 1000, by decide +kernel⟩,
   ⟨(dv (sv []) (fun d => { d with key := { d.key with lc := 3 } })), 1, by decide +kernel⟩,
   ⟨(dv (sv []) (fun d => { d with lnv := { d.lnv with inject := some 2 } })), 2, 0, 0, 1000, true, ⟨.store,
     0x800000000, 4, 5, 0x01020304, .other, false⟩, by decide +kernel⟩⟩

theorem test_meets_FlashAndMemory :
  (∃ (s : State) (p : Nat), s.lanes ∧ p < 4) ∧
  (∃ (s : State) (p : Nat), s.lanes ∧ p < 4) ∧
  (∃ (s : State) (p : Nat), s.lanes ∧ p < 4) ∧
  (∃ (s : State) (p : Nat), s.lanes ∧ p < 4) ∧
  (∃ (s : State) (life t : Nat) (x : FlashCmd), life < 256 ∧ s.w.mainOn = true ∧ s.dev.fls.run = some x) ∧
  (∃ (s : State) (life t : Nat) (x : FlashCmd), life < 256 ∧ s.w.mainOn = true ∧ s.dev.fls.run = some x) ∧
  (∃ (s : State) (ok : Bool) (life t : Nat), life < 256 ∧ (s.w.mainOn = false ∨ s.dev.fls.run = none)) ∧
  (∃ (s : State) (region t : Nat), region < 3) ∧
  (∃ (s : State) (addr cls block t : Nat), cls < 4 ∧ s.w.mainOn = true) ∧
  (∃ (s : State) (addr cls block t : Nat), cls < 4 ∧ s.w.mainOn = true) :=
  ⟨⟨(sv [(MEM_FL_COUNT_sectors, 1), (MEM_FL_BUF_HI_v, 8)]), 2, by decide +kernel⟩,
   ⟨(sv [(MEM_FL_COUNT_sectors, 1), (MEM_FL_BUF_HI_v, 8)]), 2, by decide +kernel⟩,
   ⟨(sv [(MEM_FL_COUNT_sectors, 1), (MEM_FL_BUF_HI_v, 8)]), 2, by decide +kernel⟩,
   ⟨(sv []), 0, by decide +kernel⟩,
   ⟨(dv (sv []) (fun d => { d with fls := { d.fls with run := some ⟨2, 2, 3, 1, 0x800000000⟩ } })), 5, 1000, ⟨2, 2,
     3, 1, 0x800000000⟩, by decide +kernel⟩,
   ⟨(dv (sv []) (fun d => { d with fls := { d.fls with run := some ⟨1, 2, 3, 1, 0x800000000⟩ } })), 5, 1000, ⟨1, 2,
     3, 1, 0x800000000⟩, by decide +kernel⟩,
   ⟨(sv []), true, 5, 1000, by decide +kernel⟩,
   ⟨(sv [(MEM_CTRL_sram_scrub, 1)]), 1, 3600000000000, by decide +kernel⟩,
   ⟨(dv (sv []) (fun d => { d with fls := { d.fls with hot := [(0x800000040 / 64, [2, 1])] } })), 0x800000040, 2,
     5, 1000, by decide +kernel⟩,
   ⟨(sv []), 0x800000040, 1, 5, 1000, by decide +kernel⟩⟩

theorem test_meets_InterruptCommands :
  (∃ (s : State) (tgt grp t : Nat) (x : IrqEvent), tgt < 8 ∧ grp < 8 ∧ s.w.mainOn = true ∧ s.bitOf IRQ_CTRL_enable
    = true ∧ s.bitOf (IRQ_RING_CFG_enable tgt grp) = true ∧ s.w.nextFor tgt grp = some x ∧ s.reg (IRQ_RING_WIDX_idx
    tgt grp) < s.w.ringLen tgt grp) ∧
  (∃ (s : State) (tgt grp t : Nat), tgt < 8 ∧ grp < 8 ∧ (s.w.mainOn = false ∨ s.bitOf IRQ_CTRL_enable = false ∨
    s.bitOf (IRQ_RING_CFG_enable tgt grp) = false ∨ s.w.nextFor tgt grp = none)) ∧
  (∃ (s : State) (tgt t : Nat), tgt < 8) ∧
  (∃ (s : State) (word : Nat) (v : W32), s.lanes ∧ word < 16 ∧ s.dev.irq.staged.length + 32 ≤ 4096) ∧
  (∃ (s : State) (word : Nat) (v : W32), s.lanes ∧ word < 16) ∧
  (∃ (s : State) (op : AmoOp) (addr : Nat) (v : W32), s.lanes ∧ (op = .and ∨ op = .or ∨ op = .swap) ∧ addr % 4 = 0
    ∧ 0x40110100 ≤ addr ∧ addr < 0x40110140) ∧
  (∃ (s : State) (op : AmoOp) (addr : Nat) (v : W32), s.lanes ∧ (op = .and ∨ op = .or ∨ op = .swap) ∧ addr % 4 = 0
    ∧ 0x40110140 ≤ addr ∧ addr < 0x40110180 ∧ s.dev.irq.staged.length + 32 ≤ 4096) ∧
  (∃ (s : State) (op : AmoOp) (addr : Nat) (v : W32), s.lanes ∧ ((op ≠ .and ∧ op ≠ .or ∧ op ≠ .swap) ∨ addr % 4 ≠ 0
    ∨ addr < 0x40110100 ∨ 0x40110180 ≤ addr)) ∧
  (∃ (s : State) (tgt grp : Nat) (v : W32), s.lanes ∧ tgt < 8 ∧ grp < 8) ∧
  (∃ (s : State) (tgt : Nat) (v : W32), s.lanes ∧ tgt < 8) ∧
  (∃ (s : State) (hart : Nat), s.lanes ∧ hart < 4) ∧
  (∃ (s : State) (x : IrqEvent) (rest : List IrqEvent), s.w.mainOn = true ∧ s.dev.op ≠ .sleep ∧ s.dev.irq.raised =
    x :: rest ∧ s.dev.irq.staged.length < 4096) ∧
  (∃ (s : State) (x : IrqEvent) (rest : List IrqEvent), s.w.mainOn = true ∧ s.dev.op ≠ .sleep ∧ s.dev.irq.raised =
    x :: rest ∧ 4096 ≤ s.dev.irq.staged.length) ∧
  (∃ (s : State) (x : IrqEvent) (rest : List IrqEvent), s.dev.op = .sleep ∧ s.dev.irq.raised = x :: rest) ∧
  (∃ (s : State), s.dev.irq.raised = []) :=
  ⟨⟨(dv (sv [(IRQ_CTRL_enable, 1), (IRQ_RING_CFG_enable 0 0, 1), (IRQ_RING_CFG_k 0 0, 4), (IRQ_RING_BASE_v 0 0,
     0x10000100), (IRQ_MASK_v 1, 0)]) (fun d =>
     { d with irq := { d.irq with staged := [⟨33, 5, 1000, false, false, false⟩] } })), 0, 0, 2000, ⟨33, 5, 1000,
     false, false, false⟩, by decide +kernel⟩,
   ⟨(sv []), 1, 0, 2000, by decide +kernel⟩,
   ⟨(dv (sv [(IRQ_CTRL_enable, 1), (IRQ_RING_WIDX_idx 1 3, 4), (IRQ_RING_CFG_k 1 3, 4), (IRQ_TGT_MOD_mod_us 1, 1),
     (IRQ_TGT_MOD_mod_count 1, 9)]) (fun d => { d with irq := { d.irq with first := [(1, 0)] } })), 1, 2000,
     by decide +kernel⟩,
   ⟨(dv (sv []) (fun d => { d with irq := { d.irq with staged := [⟨33, 5, 1000, false, false, false⟩] } })), 1, 4,
     by decide +kernel⟩,
   ⟨(sv []), 1, 4, by decide +kernel⟩,
   ⟨(sv [(IRQ_MASK_v 2, 9)]), .or, 0x40110108, 6, by decide +kernel⟩,
   ⟨(sv []), .or, 0x40110144, 6, by decide +kernel⟩,
   ⟨(sv []), .add, 0x40110144, 6, by decide +kernel⟩,
   ⟨(sv [(IRQ_RING_WIDX_idx 1 3, 4)]), 1, 3, 4, by decide +kernel⟩,
   ⟨(sv [(IRQ_CTRL_enable, 1), (IRQ_RING_WIDX_idx 1 3, 4)]), 1, 2, by decide +kernel⟩,
   ⟨(sv [(IRQ_CTRL_enable, 1), (IRQ_RING_WIDX_idx 5 3, 4), (IRQ_TGT_MOD_mod_us 5, 9)]), 2, by decide +kernel⟩,
   ⟨(dv (sv []) (fun d => { d with irq := { d.irq with raised := [⟨33, 5, 1000, false, false, false⟩] } })), ⟨33,
     5, 1000, false, false, false⟩, [], by decide +kernel⟩,
   ⟨(dv (sv []) (fun d =>
     { d with irq := { d.irq with staged := List.replicate 4096 ⟨33, 5, 1000, false, false, false⟩, raised := [⟨33, 5, 1000, false, false, false⟩] } })),
     ⟨33, 5, 1000, false, false, false⟩, [], by decide +kernel⟩,
   ⟨(dv (st .sleep []) (fun d =>
     { d with irq := { d.irq with raised := [⟨33, 5, 1000, false, false, false⟩] }, sys := { d.sys with watched := [(0, 33)] } })),
     ⟨33, 5, 1000, false, false, false⟩, [], by decide +kernel⟩,
   ⟨(sv []), by decide +kernel⟩⟩

theorem test_meets_QueueCommands :
  (∃ (s : State) (q : Nat), s.lanes ∧ q < 256 ∧ (s.w.qItem q = none ∨ s.w.queBusy (s.w.qState q) = true)) ∧
  (∃ (s : State) (q : Nat), s.lanes ∧ q < 256 ∧ (s.w.qItem q = none ∨ s.w.queBusy (s.w.qState q) = true)) ∧
  (∃ (s : State) (q : Nat) (i : QItem), s.lanes ∧ q < 256 ∧ s.w.qItem q = some i ∧ s.w.queBusy (s.w.qState q) =
    false ∧ W.atBoundary (s.w.qState q) = true) ∧
  (∃ (s : State) (q : Nat) (i : QItem), s.lanes ∧ q < 256 ∧ s.w.qItem q = some i ∧ s.w.queBusy (s.w.qState q) =
    false ∧ W.atBoundary (s.w.qState q) = false) ∧
  (∃ (s : State) (q m : Nat) (i : QItem), q < 256 ∧ s.w.qItem q = some i ∧ (s.w.qState q).flush = some m ∧
    W.atBoundary (s.w.qState q) = true) ∧
  (∃ (s : State) (q t m : Nat) (i : QItem), q < 256 ∧ s.w.qItem q = some i ∧ (s.w.qState q).flush = some m) ∧
  (∃ (s : State) (q t : Nat), q < 256 ∧ (s.w.qState q).flush = none) ∧
  (∃ (s : State) (q : Nat) (i : QItem), s.lanes ∧ q < 256 ∧ s.w.qItem q = some i ∧ s.w.queBusy (s.w.qState q) =
    false) ∧
  (∃ (s : State) (q : Nat) (i : QItem), q < 256 ∧ s.w.qItem q = some i ∧ s.w.mainOn = true) ∧
  (∃ (s : State) (q : Nat), q < 256 ∧ (s.w.qItem q = none ∨ s.w.mainOn = false)) ∧
  (∃ (s : State) (q : Nat) (v : W32) (i : QItem), s.lanes ∧ q < 256 ∧ s.w.qItem q = some i ∧ i.producer = 0xF0) ∧
  (∃ (s : State) (q n : Nat) (v : W32) (i : QItem) (p : List Byte), s.lanes ∧ q < 256 ∧ s.w.qItem q = some i ∧
    i.producer = 0xF0 ∧ (s.w.qState q).discard = false ∧ (s.w.qState q).flush = none ∧ n = (if s.reg
    (QUE_Q_WEND_CNT_bytes q) = 0 ∨ 4 < s.reg (QUE_Q_WEND_CNT_bytes q) then 4 else s.reg (QUE_Q_WEND_CNT_bytes q)) ∧
    p = (s.w.qState q).part.getD [] ++ leBytes n v.toNat) ∧
  (∃ (s : State) (q : Nat) (v : W32), s.lanes ∧ q < 256 ∧ (s.w.qItem q).all (fun i => i.producer != 0xF0) = true) ∧
  (∃ (s : State) (q : Nat) (i : QItem) (x : QUnit) (rest : List QUnit) (b : List Byte), s.lanes ∧ q < 256 ∧
    s.w.qItem q = some i ∧ i.consumer = 0xF0 ∧ (s.w.qState q).units = x :: rest ∧ x.body = .bytes b) ∧
  (∃ (s : State) (q : Nat) (i : QItem), s.lanes ∧ q < 256 ∧ s.w.qItem q = some i ∧ i.consumer = 0xF0 ∧ (s.w.qState
    q).units = []) ∧
  (∃ (s : State) (q : Nat), s.lanes ∧ q < 256 ∧ (s.w.qItem q).all (fun i => i.consumer != 0xF0) = true) ∧
  (∃ (s : State) (q : Nat), s.lanes ∧ q < 256) ∧
  (∃ (s : State) (q : Nat) (i : QItem) (x : HeldStore), q < 256 ∧ s.w.qItem q = some i ∧ (s.w.qState q).held = some
    x ∧ W.canGrow (s.w.qState q) i x.count = true ∧ (s.w.qState q).discard = false ∧ (s.w.qState q).flush = none) ∧
  (∃ (s : State) (q : Nat), q < 256 ∧ (s.w.qState q).held = none) :=
  ⟨⟨(sv []), 200, by decide +kernel⟩,
   ⟨(sv []), 200, by decide +kernel⟩,
   ⟨(dv (sv []) (fun d => { d with que := [tQ 4 [1, 2, 3]] })), 4, ⟨4, 8, 0xA, false, 4096, 512, 0⟩,
     by decide +kernel⟩,
   ⟨(dv (sv []) (fun d => { d with que := [(20, { QState.empty with part := some [1] })] })), 20, ⟨20, 0xF0, 0xF1,
     false, 4096, 512, 0⟩, by decide +kernel⟩,
   ⟨(dv (sv []) (fun d => { d with que := [(20, { QState.empty with flush := some 5 })] })), 20, 5, ⟨20, 0xF0,
     0xF1, false, 4096, 512, 0⟩, by decide +kernel⟩,
   ⟨(dv (sv []) (fun d => { d with que := [(20, { QState.empty with flush := some 5, part := some [1] })] })), 20,
     2000000, 5, ⟨20, 0xF0, 0xF1, false, 4096, 512, 0⟩, by decide +kernel⟩,
   ⟨(sv []), 4, 1000, by decide +kernel⟩,
   ⟨(dv (sv []) (fun d => { d with que := [tQ 4 [1, 2, 3]] })), 4, ⟨4, 8, 0xA, false, 4096, 512, 0⟩,
     by decide +kernel⟩,
   ⟨(dv (sv []) (fun d => { d with que := [tQ 4 [1, 2, 3]] })), 4, ⟨4, 8, 0xA, false, 4096, 512, 0⟩,
     by decide +kernel⟩,
   ⟨(sv []), 200, by decide +kernel⟩,
   ⟨(dv (sv []) (fun d => { d with que := [(20, { QState.empty with part := some [1] })] })), 20, 0x01020304, ⟨20,
     0xF0, 0xF1, false, 4096, 512, 0⟩, by decide +kernel⟩,
   ⟨(dv (sv [(QUE_Q_WEND_CNT_bytes 20, 3)]) (fun d =>
     { d with que := [(20, { QState.empty with part := some [1] })] })), 20, 3, 0x01020304, ⟨20, 0xF0, 0xF1, false,
     4096, 512, 0⟩, [1, 4, 3, 2], by decide +kernel⟩,
   ⟨(sv []), 12, 7, by decide +kernel⟩,
   ⟨(dv (sv []) (fun d => { d with que := [tQ 12 [1, 2, 3, 4, 5]] })), 12, ⟨12, 0xB, 0xF0, false, 4096, 512, 0⟩, tU
     [1, 2, 3, 4, 5], [], [1, 2, 3, 4, 5], by decide +kernel⟩,
   ⟨(sv []), 12, ⟨12, 0xB, 0xF0, false, 4096, 512, 0⟩, by decide +kernel⟩,
   ⟨(sv []), 4, by decide +kernel⟩,
   ⟨(sv [(QUE_Q_HWM_v 12, 30)]), 12, by decide +kernel⟩,
   ⟨(dv (sv []) (fun d =>
     { d with que := [(20, { QState.empty with part := some [1], held := some ⟨false, 7, 4⟩ })] })), 20, ⟨20, 0xF0,
     0xF1, false, 4096, 512, 0⟩, ⟨false, 7, 4⟩, by decide +kernel⟩,
   ⟨(sv []), 20, by decide +kernel⟩⟩

theorem test_meets_CalendarCounting :
  (∃ (s : State) (t : Nat), s.dev.sys.watch = true ∧ s.dev.rtc.stopped = false) ∧
  (∃ (s : State) (t a : Nat), a < 2 ∧ s.dev.sys.watch = true ∧ s.dev.rtc.stopped = false ∧ s.bitOf
    (RTC_ALM_CTRL_arm a) = true ∧ s.reg (RTC_ALM_TIME_minute a) < 60) ∧
  (∃ (s : State) (t : Nat), s.dev.sys.watch = false ∨ s.dev.rtc.stopped = true) ∧
  (∃ (s : State) (t : Nat), s.dev.sys.watch = true ∧ s.dev.rtc.stopped = false) ∧
  (∃ (s : State) (t : Nat), s.dev.sys.watch = false ∨ s.dev.rtc.stopped = true) ∧
  (∃ (s : State), s.dev.sys.watch = true) ∧
  (∃ (s : State) (k : Nat), s.lanes ∧ k < 3 ∧ s.dev.rtc.shadow.all (fun x => decide (x.since + 1000000000 ≤
    s.dev.tb.up)) = true) ∧
  (∃ (s : State) (k : Nat) (x : RtcShadow), s.lanes ∧ k < 3 ∧ s.dev.rtc.shadow = some x ∧ s.dev.tb.up < x.since +
    1000000000) ∧
  (∃ (s : State) (t : Nat) (x : RtcShadow), s.dev.rtc.shadow = some x) ∧
  (∃ (s : State) (t : Nat), s.dev.rtc.shadow = none) :=
  ⟨⟨(dv (sv [(TBS_STATUS_servo_state, 2), (RTC_CTRL_disc_enable, 1), (RTC_STATUS_disciplined, 1),
     (TBS_UTC_OFFSET_leap_pending, 1), (TBS_LEAP_AT_LO_v, 100)]) (fun d =>
     { d with sys := { d.sys with watch := true }, rtc := { d.rtc with secs := 946771199 } })), 100000000005,
     by decide +kernel⟩,
   ⟨(dv (st .sleep [(RTC_ALM_CTRL_arm 1, 1), (RTC_ALM_CTRL_wake 1, 1), (RTC_ALM_CTRL_mask 1, 0x7F),
     (RTC_EVENT_osc_stopped, 0)]) (fun d =>
     { d with sys := { d.sys with watch := true }, rtc := { d.rtc with secs := 946724800, floors := [(1, 946724800)] } })),
     5, 1, by decide +kernel⟩,
   ⟨(dv (sv []) (fun d => { d with sys := { d.sys with watch := true }, rtc := { d.rtc with stopped := true } })),
     5, by decide +kernel⟩,
   ⟨(dv (sv []) (fun d => { d with sys := { d.sys with watch := true } })), 5000000, by decide +kernel⟩,
   ⟨(dv (sv []) (fun d => { d with sys := { d.sys with watch := true }, rtc := { d.rtc with stopped := true } })),
     5, by decide +kernel⟩,
   ⟨(dv (sv [(RTC_EVENT_osc_stopped, 1)]) (fun d =>
     { d with sys := { d.sys with watch := true }, rtc := { d.rtc with setSince := true } })), by decide +kernel⟩,
   ⟨(sv []), 1, by decide +kernel⟩,
   ⟨(dv (sv []) (fun d => { d with rtc := { d.rtc with shadow := some ⟨[1, 2, 3], 0, [0, 1]⟩ } })), 2, ⟨[1, 2, 3],
     0, [0, 1]⟩, by decide +kernel⟩,
   ⟨(dv (sv []) (fun d => { d with rtc := { d.rtc with shadow := some ⟨[1, 2, 3], 0, [0, 1]⟩ } })), 1000000000,
     ⟨[1, 2, 3], 0, [0, 1]⟩, by decide +kernel⟩,
   ⟨(sv []), 5, by decide +kernel⟩⟩

theorem test_meets_CalendarSetting :
  (∃ (s : State) (t secs sub : Nat), s.dev.sys.watch = true ∧ s.w.stagedTime = some (secs, sub) ∧
    (match s.dev.rtc.aon with | [] => true | x :: _ => x.1 == RTC_CMD_cmd.addr && bits x.2.toNat 3 0 == 1) = true) ∧
  (∃ (s : State) (t : Nat), s.dev.sys.watch = true ∧ s.w.stagedTime = none ∧
    (match s.dev.rtc.aon with | [] => true | x :: _ => x.1 == RTC_CMD_cmd.addr && bits x.2.toNat 3 0 == 1) = true) ∧
  (∃ (s : State) (t secs sub : Nat) (x y z : W32) (rest : List (Nat × W32)), s.dev.sys.watch = true ∧ s.dev.rtc.aon
    = (RTC_SET_TIME0_subsec.addr, x) :: (RTC_SET_TIME1_minute.addr, y) :: (RTC_SET_DATE_day.addr, z) ::
    (RTC_CMD_cmd.addr, 1) :: rest ∧ s.dev.rtc.stage.length = 3 ∧ (s.w.setRtc
    { s.dev.rtc with stage := [x, y, z] }).stagedTime = some (secs, sub)) ∧
  (∃ (s : State) (t secs sub a x : Nat), s.dev.sys.watch = true ∧ s.w.stagedTime = some (secs, sub) ∧ s.dev.rtc.aon
    = [] ∧ a < 2 ∧ s.bitOf (RTC_ALM_CTRL_arm a) = true ∧ s.bitOf RTC_EVENT_osc_stopped = false ∧ s.w.almLatest a
    (max s.dev.rtc.secs ((tblGet s.dev.rtc.floors a).getD 0)) secs ((secs - max s.dev.rtc.secs ((tblGet
    s.dev.rtc.floors a).getD 0)) / 86400 + 2) = some x) ∧
  (∃ (s : State) (t : Nat) (x y : Int), s.w.mainOn = true ∧ s.dev.sys.watch = true ∧ s.reg TBS_STATUS_servo_state =
    2 ∧ s.bitOf RTC_CTRL_disc_enable = true ∧ s.nsAt t % 1000000000 = 0 ∧ s.dev.rtc.cmp ≠ s.nsAt t / 1000000000 ∧ y
    = ((s.nsAt t : Int) - sgn 16 (s.reg TBS_UTC_OFFSET_tai_utc) * 1000000000) * 32768 / 1000000000 ∧ x =
    ((s.dev.rtc.secs * 32768 + (s.w.at_ t).rtcSub : Nat) : Int) - y) ∧
  (∃ (s : State) (t : Nat), s.w.mainOn = true ∧ s.dev.sys.watch = true ∧ (s.reg TBS_STATUS_servo_state ≠ 2 ∨
    s.bitOf RTC_CTRL_disc_enable = false)) ∧
  (∃ (s : State) (t : Nat), s.w.mainOn = false ∨ s.dev.sys.watch = false ∨ s.nsAt t % 1000000000 ≠ 0 ∨
    s.dev.rtc.cmp = s.nsAt t / 1000000000) ∧
  (∃ (s : State) (t : Nat), s.dev.sys.watch = true) ∧
  (∃ (s : State) (a : Nat) (v : W32), a < 2 ∧ s.dev.sys.watch = true) ∧
  (∃ (s : State) (a : Nat) (v : W32), a < 2 ∧ s.dev.sys.watch = true) ∧
  (∃ (s : State) (a : Nat) (v : W32), a < 2 ∧ s.dev.sys.watch = true) ∧
  (∃ (s : State) (t a : Nat) (v : W32) (rest : List (Nat × W32)), s.dev.rtc.aon = (a, v) :: rest ∧ blockAt a ≠ 3) ∧
  (∃ (s : State) (t : Nat) (v : W32) (rest : List (Nat × W32)), s.dev.rtc.aon = (RTC_SET_TIME1_minute.addr, v) ::
    rest ∧ s.dev.sys.watch = true ∧ s.dev.rtc.stage.length = 3) ∧
  (∃ (s : State) (t : Nat), s.dev.rtc.aon = []) ∧
  (∃ (s : State) (a t : Nat) (b : Bool) (v : W32), a < 2 ∧ s.dev.sys.watch = false) :=
  ⟨⟨(dv (sv [(RTC_STATUS_set_busy, 1)]) (fun d =>
     { d with sys := { d.sys with watch := true }, rtc := { d.rtc with stage := [0x10005, 0x203, 0x7D0101] } })),
     5, 946692184 - 3, 5, by decide +kernel⟩,
   ⟨(dv (sv [(RTC_STATUS_set_busy, 1)]) (fun d =>
     { d with sys := { d.sys with watch := true }, rtc := { d.rtc with stage := [60 * 0x10000, 0x203, 0x7D0101] } })),
     5, by decide +kernel⟩,
   ⟨(dv (sv []) (fun d =>
     { d with sys := { d.sys with watch := true }, rtc := { d.rtc with aon := [(RTC_SET_TIME0_subsec.addr, 0x10005), (RTC_SET_TIME1_minute.addr, 0x203), (RTC_SET_DATE_day.addr, 0x7D0101), (RTC_CMD_cmd.addr, 1)] } })),
     5, 946692184 - 3, 5, 0x10005, 0x203, 0x7D0101, [], by decide +kernel⟩,
   ⟨(dv (sv [(RTC_ALM_CTRL_arm 1, 1), (RTC_ALM_CTRL_mask 1, 0x7E), (RTC_EVENT_osc_stopped, 0)]) (fun d =>
     { d with sys := { d.sys with watch := true }, rtc := { d.rtc with stage := [0x10005, 0x203, 0x7D0101] } })),
     5, 946692184 - 3, 5, 1, 946692180, by decide +kernel⟩,
   ⟨(dv (sv [(TBS_STATUS_servo_state, 2), (RTC_CTRL_disc_enable, 1), (TBS_UTC_OFFSET_tai_utc, 0)]) (fun d =>
     { d with sys := { d.sys with watch := true }, rtc := { d.rtc with stopped := true, secs := 100, sub := 20 } })),
     100000000000, 20, 3276800, by decide +kernel⟩,
   ⟨(dv (sv []) (fun d => { d with sys := { d.sys with watch := true } })), 5, by decide +kernel⟩,
   ⟨(dv (sv [(TBS_STATUS_servo_state, 2), (RTC_CTRL_disc_enable, 1)]) (fun d =>
     { d with sys := { d.sys with watch := true } })), 5, by decide +kernel⟩,
   ⟨(dv (sv [(RTC_CTRL_auto_cal, 1)]) (fun d =>
     { d with sys := { d.sys with watch := true }, rtc := { d.rtc with run := 1024, net := -500 } })), 5,
     by decide +kernel⟩,
   ⟨(dv (sv []) (fun d => { d with sys := { d.sys with watch := true } })), 1, 0x7D0101, by decide +kernel⟩,
   ⟨(dv (sv []) (fun d => { d with sys := { d.sys with watch := true } })), 1, 0x01000000, by decide +kernel⟩,
   ⟨(dv (sv []) (fun d => { d with sys := { d.sys with watch := true } })), 1, 0x7F01, by decide +kernel⟩,
   ⟨(dv (sv []) (fun d => { d with rtc := { d.rtc with aon := [(0x40020020, 3)] } })), 5, 0x40020020, 3, [],
     by decide +kernel⟩,
   ⟨(dv (sv []) (fun d =>
     { d with sys := { d.sys with watch := true }, rtc := { d.rtc with aon := [(RTC_SET_TIME1_minute.addr, 3)] } })),
     5, 3, [], by decide +kernel⟩,
   ⟨(sv []), 5, by decide +kernel⟩,
   ⟨(dv (sv []) (fun d => { d with sys := { d.sys with watch := false } })), 1, 5, true, 7, by decide +kernel⟩⟩

theorem test_meets_KeyCommands :
  (∃ (s : State) (slot : Nat) (h k : List Byte), s.lanes ∧ s.dev.key.lc ≠ 4 ∧ slot < 56 ∧ 48 ≤ s.reg KEY_SRC_LEN_v
    ∧ s.reg KEY_SRC_LEN_v ≤ 4096 ∧ inRam s.w.keySrc (s.reg KEY_SRC_LEN_v) = true ∧ s.w.keySrc % 8 = 0 ∧ s.reg
    KEY_SRC_LEN_v = 48 + kWrapped (s.w.rdBytes s.w.keySrc (s.reg KEY_SRC_LEN_v)) ∧ (s.w.openBlob (s.w.rdBytes
    s.w.keySrc (s.reg KEY_SRC_LEN_v))).toOption = some (h, k) ∧ (kNotAfter h = 0 ∨ s.w.sec ≤ kNotAfter h) ∧ (kFlag
    h 2 = false ∨ s.dev.key.used.contains (kId h) = true ∨ s.dev.key.used.length < 4096)) ∧
  (∃ (s : State) (slot : Nat), s.lanes ∧ s.dev.key.lc ≠ 4 ∧ slot < 64) ∧
  (∃ (s : State) (slot : Nat), s.lanes ∧ s.dev.key.lc ≠ 4 ∧ slot < 64) ∧
  (∃ (s : State) (slot target n : Nat) (b kek : List Byte), s.lanes ∧ s.dev.key.lc ≠ 4 ∧ slot < 64 ∧ target < 8 ∧
    (target = s.dev.key.lc ∨ (target = 2 ∧ (s.dev.key.lc = 1 ∨ s.dev.key.lc = 3))) ∧ n = s.reg KEY_SRC_LEN_v ∧ 48 ≤
    n ∧ 0x10000000 ≤ s.w.keySrc ∧ s.w.keySrc + n ≤ 0x12800000 ∧ b = s.w.rdBytes s.w.keySrc (min n 256) ∧ n = 48 +
    kLen b ∧ headerOk (b.take 48) = true ∧ policyOk (b.take 48) target = true ∧ s.dev.key.root.isSome = true ∧
    s.w.tampered = false ∧ s.w.kekFor (b.take 48) target (W.chainOf s.dev.key.digests) = some kek ∧ inRam
    s.w.keyDst (W.blobOf kek (b.take 48) (b.drop 48)).length = true ∧ (s.w.keySrc + n ≤ s.w.keyDst ∨ s.w.keyDst +
    (W.blobOf kek (b.take 48) (b.drop 48)).length ≤ s.w.keySrc) ∧ kNotAfter b = 0 ∧ kFlag b 2 = false) ∧
  (∃ (s : State) (slot target : Nat), s.lanes ∧ s.dev.key.lc ≠ 4 ∧ slot < 64 ∧ target < 8 ∧ ((target ≠ s.dev.key.lc
    ∧ (target ≠ 2 ∨ (s.dev.key.lc ≠ 1 ∧ s.dev.key.lc ≠ 3))) ∨ s.w.keySrc < 0x10000000 ∨ 0x12800000 < s.w.keySrc +
    s.reg KEY_SRC_LEN_v ∨ s.reg KEY_SRC_LEN_v < 48)) ∧
  (∃ (s : State) (slot aux : Nat) (h kek : List Byte), s.lanes ∧ s.dev.key.lc ≠ 4 ∧ slot < 56 ∧ aux < 256 ∧
    s.w.tampered = false ∧ (s.w.slotAt slot).state = 1 ∧ kFlag (s.w.slotAt slot).header 1 = true ∧ h = (s.w.slotAt
    slot).header.take 6 ++ leBytes 1 aux ++ (s.w.slotAt slot).header.drop 7 ∧ s.w.kekFor h s.dev.key.lc (W.chainOf
    s.dev.key.digests) = some kek ∧ (aux ≠ 0xFF ∨ s.dev.key.root.isSome = true) ∧ inRam s.w.keyDst (W.blobOf kek h
    (s.w.slotAt slot).key).length = true) ∧
  (∃ (s : State) (slot aux : Nat), s.lanes ∧ s.dev.key.lc ≠ 4 ∧ slot < 64 ∧ aux < 256 ∧ (s.w.tampered = true ∨ 56 ≤
    slot ∨ (s.w.slotAt slot).state ≠ 1 ∨ kFlag (s.w.slotAt slot).header 1 = false)) ∧
  (∃ (s : State) (aux : Nat) (h k kek : List Byte) (ds : List (List Byte)), s.lanes ∧ s.dev.key.lc ≠ 4 ∧ aux < 256
    ∧ 48 ≤ s.reg KEY_SRC_LEN_v ∧ s.reg KEY_SRC_LEN_v ≤ 4096 ∧ inRam s.w.keySrc (s.reg KEY_SRC_LEN_v) = true ∧
    s.w.keySrc % 8 = 0 ∧ s.reg KEY_SRC_LEN_v = 48 + kWrapped (s.w.rdBytes s.w.keySrc (s.reg KEY_SRC_LEN_v)) ∧
    (s.w.openBlob (s.w.rdBytes s.w.keySrc (s.reg KEY_SRC_LEN_v))).toOption = some (h, k) ∧ kFlag h 0 = true ∧
    s.w.nextDigests aux = some ds ∧ kKek h = 0xFF ∧ s.w.kekFor h s.dev.key.lc (W.chainOf ds) = some kek ∧ inRam
    s.w.keyDst (W.blobOf kek h k).length = true) ∧
  (∃ (s : State) (aux : Nat) (h k : List Byte), s.lanes ∧ s.dev.key.lc ≠ 4 ∧ aux < 256 ∧ 48 ≤ s.reg KEY_SRC_LEN_v ∧
    s.reg KEY_SRC_LEN_v ≤ 4096 ∧ inRam s.w.keySrc (s.reg KEY_SRC_LEN_v) = true ∧ s.w.keySrc % 8 = 0 ∧ s.reg
    KEY_SRC_LEN_v = 48 + kWrapped (s.w.rdBytes s.w.keySrc (s.reg KEY_SRC_LEN_v)) ∧ (s.w.openBlob (s.w.rdBytes
    s.w.keySrc (s.reg KEY_SRC_LEN_v))).toOption = some (h, k) ∧ kFlag h 0 = true ∧ s.w.nextDigests aux = none) ∧
  (∃ (s : State) (slot : Nat), s.lanes ∧ s.dev.key.lc ≠ 4 ∧ slot < 64 ∧ s.w.tampered = false ∧ ((s.w.slotAt
    slot).state = 1 ∨ (s.w.slotAt slot).state = 3) ∧ tst (s.w.slotAt slot).uses 6 = true) ∧
  (∃ (s : State) (slot : Nat) (iv aad d : List Byte), s.lanes ∧ s.dev.key.lc ≠ 4 ∧ slot < 64 ∧ s.w.tampered = false
    ∧ ((s.w.slotAt slot).state = 1 ∨ (s.w.slotAt slot).state = 3) ∧ tst (s.w.slotAt slot).uses 7 = true ∧
    s.w.gcmParts = some (iv, aad, d) ∧ inRam s.w.keyDst (d.length + 16) = true) ∧
  (∃ (s : State) (slot : Nat) (iv aad d c : List Byte), s.lanes ∧ s.dev.key.lc ≠ 4 ∧ slot < 64 ∧ s.w.tampered =
    false ∧ ((s.w.slotAt slot).state = 1 ∨ (s.w.slotAt slot).state = 3) ∧ tst (s.w.slotAt slot).uses 7 = true ∧
    s.w.gcmParts = some (iv, aad, d) ∧ 16 ≤ d.length ∧ c = d.take (d.length - 16) ∧ inRam s.w.keyDst c.length =
    true) ∧
  (∃ (s : State) (slot : Nat), s.lanes ∧ s.dev.key.lc ≠ 4 ∧ slot < 64 ∧ s.w.tampered = false ∧ ((s.w.slotAt
    slot).state = 1 ∨ (s.w.slotAt slot).state = 3) ∧ tst (s.w.slotAt slot).uses 8 = true) ∧
  (∃ (s : State) (slot : Nat), s.lanes ∧ s.dev.key.lc ≠ 4 ∧ slot < 64 ∧ (s.w.tampered = true ∨ ((s.w.slotAt
    slot).state ≠ 1 ∧ (s.w.slotAt slot).state ≠ 3) ∨ (s.w.slotAt slot).uses = 0)) ∧
  (∃ (s : State) (slot target aux : Nat), s.lanes ∧ slot < 64 ∧ target < 8 ∧ aux < 256) ∧
  (∃ (s : State) (slot target aux : Nat), s.lanes ∧ s.dev.key.lc = 4 ∧ slot < 64 ∧ target < 8 ∧ aux < 256) :=
  ⟨⟨(tSrc (W.blobOf (W.kekOf tRoot (List.replicate 48 0) 2) (tKeyHdr 1 1 0) (List.replicate 16 0x55)) [] id), 3,
     tKeyHdr 1 1 0, List.replicate 16 0x55, by decide +kernel⟩,
   ⟨(tLck [] id), 60, by decide +kernel⟩,
   ⟨(tLck [] (fun k => { k with slots := [tSlot 1 1 0] })), 3, by decide +kernel⟩,
   ⟨(tSrc (tKeyHdr 1 1 0 ++ List.replicate 16 0x66) [] id), 5, 2, 64, tKeyHdr 1 1 0 ++ List.replicate 16 0x66,
     W.kekOf tRoot (List.replicate 48 0) 2, by decide +kernel⟩,
   ⟨(tLck [] id), 3, 1, by decide +kernel⟩,
   ⟨(tLck [] (fun k => { k with slots := [tSlot 1 1 2] })), 3, 0xFF, tKeyHdr 1 1 2, W.kekOf tRoot (List.replicate
     48 0) 2, by decide +kernel⟩,
   ⟨(tLck [] (fun k => { k with slots := [tSlot 1 1 0] })), 3, 0xFF, by decide +kernel⟩,
   ⟨(tSrc (W.blobOf (W.kekOf tRoot (W.chainOf [[1], [2], [3]]) 2) (tKeyHdr 1 1 1) (List.replicate 16 0x55)) [] (fun
     k => { k with digests := [[1], [2], [3]], staged := some [9] })), 1, tKeyHdr 1 1 1, List.replicate 16 0x55,
     W.kekOf tRoot (W.chainOf [[1], [9], [3]]) 2, [[1], [9], [3]], by decide +kernel⟩,
   ⟨(tSrc (W.blobOf (W.kekOf tRoot (W.chainOf [[1], [2], [3]]) 2) (tKeyHdr 1 1 1) (List.replicate 16 0x55)) [] (fun
     k => { k with digests := [[1], [2], [3]] })), 1, tKeyHdr 1 1 1, List.replicate 16 0x55, by decide +kernel⟩,
   ⟨(tSrc [1, 2, 3] [] (fun k => { k with slots := [tSlot 3 0x40 0] })), 3, by decide +kernel⟩,
   ⟨(tSrc (List.replicate 12 7 ++ [1, 0, 0, 0, 9, 0x41]) [] (fun k => { k with slots := [tSlot 2 0x80 0] })), 3,
     List.replicate 12 7, [9], [0x41], by decide +kernel⟩,
   ⟨(tSrc (List.replicate 12 7 ++ [1, 0, 0, 0, 9, 0x41] ++ gcmTag (aesKeys (List.replicate 32 0x55))
     (List.replicate 12 7) [9] [0x41]) [] (fun k => { k with slots := [tSlot 2 0x80 0] })), 3, List.replicate 12 7,
     [9], [0x41] ++ gcmTag (aesKeys (List.replicate 32 0x55)) (List.replicate 12 7) [9] [0x41], [0x41],
     by decide +kernel⟩,
   ⟨(tSrc (List.replicate 144 1) [] (fun k => { k with slots := [(57, ⟨3, 4, [], tTokKey⟩)] })), 57,
     by decide +kernel⟩,
   ⟨(tLck [] id), 3, by decide +kernel⟩,
   ⟨(tLck [] id), 3, 2, 1, by decide +kernel⟩,
   ⟨(tLck [] (fun k => { k with lc := 4 })), 3, 2, 1, by decide +kernel⟩⟩

theorem test_meets_GrantsAndTamper :
  (∃ (s : State), s.lanes ∧ s.dev.key.lc ≠ 4) ∧
  (∃ (s : State) (b : List Byte), s.lanes ∧ s.dev.key.lc ≠ 4 ∧ b = s.w.rdBytes s.w.keySrc 160) ∧
  (∃ (s : State) (target : Nat), s.lanes ∧ target < 8 ∧ (s.w.tampered = false ∨ target = 4) ∧ ((s.dev.key.lc = 0 ∧
    target = 1) ∨ (s.dev.key.lc = 1 ∧ target = 2 ∧ s.dev.key.anchors.any (fun a => le a.2 0 1 == 3) = true ∧
    s.dev.key.anchors.any (fun a => le a.2 0 1 == 1) = true) ∨ (s.dev.key.lc = 2 ∧ target = 3 ∧ s.w.granted 2 none
    = true) ∨ (s.dev.key.lc = 3 ∧ target = 2) ∨ (s.dev.key.lc < 2 ∧ target = 4) ∨ ((s.dev.key.lc = 2 ∨ s.dev.key.lc
    = 3) ∧ target = 4 ∧ s.w.granted 3 none = true))) ∧
  (∃ (s : State) (target : Nat), s.lanes ∧ target < 8 ∧ s.dev.key.lc ≠ 4 ∧ ¬((s.w.tampered = false ∨ target = 4) ∧
    ((s.dev.key.lc = 0 ∧ target = 1) ∨ (s.dev.key.lc = 1 ∧ target = 2 ∧ s.dev.key.anchors.any (fun a => le a.2 0 1
    == 3) = true ∧ s.dev.key.anchors.any (fun a => le a.2 0 1 == 1) = true) ∨ (s.dev.key.lc = 2 ∧ target = 3 ∧
    s.w.granted 2 none = true) ∨ (s.dev.key.lc = 3 ∧ target = 2) ∨ (s.dev.key.lc < 2 ∧ target = 4) ∨ ((s.dev.key.lc
    = 2 ∨ s.dev.key.lc = 3) ∧ target = 4 ∧ s.w.granted 3 none = true)))) ∧
  (∃ (s : State) (entry : Nat), s.lanes ∧ s.dev.key.lc ≠ 4 ∧ entry < 8) ∧
  (∃ (s : State) (a b : Bool) (t : Nat), s.dev.sys.watch = true ∧ s.dev.sys.vbak = true ∧ s.dev.key.abnormal.length
    = 2 ∧ s.dev.key.normal.length = 2 ∧ (s.w.loopsFire a b).isEmpty = true) ∧
  (∃ (s : State) (a b : Bool) (t : Nat), s.dev.sys.watch = false ∨ s.dev.sys.vbak = false) ∧
  (∃ (s : State) (t : Nat), s.acts 3 t ∧ s.dev.op ≠ .sleep ∧ s.dev.op ≠ .restoring ∧ s.dev.sys.watch = true ∧
    s.dev.sys.vbak = true ∧ s.dev.key.abnormal.length = 2 ∧ s.dev.key.normal.length = 2 ∧ 1 ≤
    s.dev.key.abnormal.getD 0 0 ∧ tst (s.reg KEY_TAMPER_CFG_enables) 0 = true ∧ s.reg KEY_TAMPER_STAT_latched = 0) ∧
  (∃ (s : State) (source t : Nat), source < 5 ∧ 2 ≤ source ∧ s.acts 3 t ∧ s.dev.op ≠ .sleep ∧ s.dev.op ≠ .restoring
    ∧ s.w.tamperTakes source = true ∧ s.reg KEY_TAMPER_STAT_latched = 0) ∧
  (∃ (s : State) (source t : Nat), source < 5 ∧ 2 ≤ source ∧ s.acts 3 t ∧ s.dev.op ≠ .waking ∧ s.dev.op ≠
    .restoring ∧ s.w.tamperTakes source = true ∧ s.reg KEY_TAMPER_STAT_latched ≠ 0) ∧
  (∃ (s : State) (source t : Nat), source < 5 ∧ 2 ≤ source ∧ s.acts 3 t ∧ s.dev.op = .sleep ∧ s.w.tamperTakes
    source = true ∧ s.reg KEY_TAMPER_STAT_latched = 0) ∧
  (∃ (s : State) (source t : Nat), source < 5 ∧ 2 ≤ source ∧ s.w.tamperTakes source = false) ∧
  (∃ (s : State), s.lanes ∧ s.dev.key.lc ≠ 4) :=
  ⟨⟨(tLck [] (fun k => { k with grant := some (2, 0, 0) })), by decide +kernel⟩,
   ⟨(tW (tSrc tTok [] (fun k =>
     { k with slots := [(57, ⟨3, 3, [], tTokKey⟩)], nonce := some (List.replicate 32 0x33, 0, false) }))
     [(0x40130040, 1), (0x40130044, 2), (0x40130048, 3), (0x4013004C, 4)]), tTok, by decide +kernel⟩,
   ⟨(tLck [] (fun k => { k with slots := [tSlot 1 1 0], grant := some (2, 0, 0) })), 3, by decide +kernel⟩,
   ⟨(tLck [] id), 3, by decide +kernel⟩,
   ⟨(tSrc (List.replicate 112 3) [] (fun k => { k with grant := some (4, 2, 0) })), 2, by decide +kernel⟩,
   ⟨(dv (tLck [(KEY_TAMPER_CFG_enables, 0)] id) (fun d =>
     { d with sys := { d.sys with watch := true, vbak := true } })), true, false, 5, by decide +kernel⟩,
   ⟨(dv (tLck [] id) (fun d => { d with sys := { d.sys with watch := false } })), true, false, 5,
     by decide +kernel⟩,
   ⟨(dv (tLck [(KEY_TAMPER_CFG_enables, 1)] (fun k => { k with slots := [tSlot 1 1 0], abnormal := [1, 0] })) (fun
     d => { d with sys := { d.sys with watch := true, vbak := true } })), 5, by decide +kernel⟩,
   ⟨(dv (tLck [(KEY_TAMPER_CFG_enables, 4)] (fun k => { k with slots := [tSlot 1 1 0] })) (fun d =>
     { d with sys := { d.sys with watch := true, main := true } })), 2, 5, by decide +kernel⟩,
   ⟨(dv (tLck [(KEY_TAMPER_CFG_enables, 4), (KEY_TAMPER_STAT_latched, 1)] (fun k =>
     { k with slots := [tSlot 1 1 0] })) (fun d => { d with sys := { d.sys with watch := true, main := true } })),
     2, 5, by decide +kernel⟩,
   ⟨(dv (dv (st .sleep [(KEY_TAMPER_CFG_enables, 8)]) (fun d =>
     { d with key := { d.key with retained := [tSlot 1 1 8] } })) (fun d =>
     { d with sys := { d.sys with watch := true, main := true } })), 3, 5, by decide +kernel⟩,
   ⟨(dv (tLck [(KEY_TAMPER_CFG_enables, 4), (KEY_TAMPER_STAT_latched, 4)] (fun k =>
     { k with slots := [tSlot 1 1 0] })) (fun d => { d with sys := { d.sys with watch := true, main := true } })),
     2, 5, by decide +kernel⟩,
   ⟨(tLck [(KEY_TAMPER_STAT_latched, 4)] (fun k => { k with grant := some (1, 0, 0), normal := [2, 2] })),
     by decide +kernel⟩⟩

theorem test_meets_SupplyCommands :
  (∃ (s : State) (t : Nat), s.dev.op = .cold ∧ s.dev.sys.resetLow = false ∧ s.dev.sys.pfail = false ∧
    s.dev.sys.hold = none) ∧
  (∃ (s : State) (stage : StartStage) (t : Nat), s.dev.op = .cold ∧ s.dev.sys.resetLow = false ∧ s.dev.sys.pfail =
    false ∧ s.dev.sys.hold = none) ∧
  (∃ (s : State) (stage : StartStage) (t : Nat), s.dev.op ≠ .cold ∨ s.dev.sys.resetLow = true ∨ s.dev.sys.pfail =
    true ∨ s.dev.sys.hold.isSome = true) ∧
  (∃ (s : State) (t : Nat), True) ∧
  (∃ (s : State) (t : Nat), s.dev.sys.main = true ∧ s.acts 1 t) ∧
  (∃ (s : State) (t : Nat), s.dev.sys.main = false) ∧
  (∃ (s : State) (t : Nat), True) ∧
  (∃ (s : State) (t : Nat), True) ∧
  (∃ (s : State) (t : Nat), s.dev.sys.pfail = true ∧ s.dev.op ≠ .cold ∧ (s.bitOf SYS_STATUS_reduced = true ∨
    s.dev.op = .waking ∨ s.dev.op = .restoring)) ∧
  (∃ (s : State) (t : Nat), s.dev.sys.pfail = true ∧ s.dev.op = .cold) ∧
  (∃ (s : State) (t : Nat), s.dev.sys.pfail = true ∧ s.dev.op ≠ .cold ∧ s.bitOf SYS_STATUS_reduced = false ∧
    s.dev.op ≠ .waking ∧ s.dev.op ≠ .restoring) ∧
  (∃ (s : State) (t : Nat), s.dev.sys.pfail = false) ∧
  (∃ (s : State) (t : Nat), True) ∧
  (∃ (s : State) (t : Nat), True) ∧
  (∃ (s : State) (t : Nat), True) ∧
  (∃ (s : State) (p : Nat), p < 6) :=
  ⟨⟨(State.reset), 5, by decide +kernel⟩,
   ⟨(State.reset), .entry, 5, by decide +kernel⟩,
   ⟨(st .serving []), .entry, 5, by decide +kernel⟩,
   ⟨(st .serving []), 5, by decide +kernel⟩,
   ⟨(dv (st .sleep []) (fun d => { d with sys := { d.sys with vbak := true, main := true } })), 5,
     by decide +kernel⟩,
   ⟨(st .cold []), 5, by decide +kernel⟩,
   ⟨(dv (st .serving []) (fun d => { d with sys := { d.sys with saving := some tSave } })), 5, by decide +kernel⟩,
   ⟨(dv (st .serving []) (fun d => { d with sys := { d.sys with saving := some tSave } })), 5, by decide +kernel⟩,
   ⟨(dv (st .serving [(SYS_STATUS_reduced, 1)]) (fun d => { d with sys := { d.sys with pfail := true } })), 5,
     by decide +kernel⟩,
   ⟨(dv (st .cold []) (fun d => { d with sys := { d.sys with pfail := true } })), 5, by decide +kernel⟩,
   ⟨(dv (st .serving []) (fun d => { d with sys := { d.sys with pfail := true } })), 5, by decide +kernel⟩,
   ⟨(st .serving []), 5, by decide +kernel⟩,
   ⟨(State.reset), 5, by decide +kernel⟩,
   ⟨(dv (st .sleep []) (fun d => { d with sys := { d.sys with vbak := true, watch := true } })), 5,
     by decide +kernel⟩,
   ⟨(st .serving []), 5, by decide +kernel⟩,
   ⟨(st .serving [(NET_PORT_STAT_present 1, 1)]), 1, by decide +kernel⟩⟩

theorem test_meets_ResetPinCommands :
  (∃ (s : State) (width t : Nat), 10000 ≤ width ∧ s.acts 2 t) ∧
  (∃ (s : State) (width t : Nat), width < 1000) ∧
  (∃ (s : State) (width t : Nat), 1000 ≤ width ∧ width < 10000 ∧ s.acts 2 t) ∧
  (∃ (s : State) (stage : StartStage) (t : Nat), s.dev.sys.hold = some 7) ∧
  (∃ (s : State) (t : Nat), s.dev.op = .cold ∧ s.dev.sys.main = true ∧ s.dev.sys.pfail = false ∧ s.dev.sys.hold =
    none) ∧
  (∃ (s : State) (stage : StartStage) (t : Nat), s.dev.op = .cold ∧ s.dev.sys.main = true ∧ s.dev.sys.pfail = false
    ∧ s.dev.sys.hold = none) ∧
  (∃ (s : State) (stage : StartStage) (t : Nat), s.dev.sys.hold ≠ some 7 ∧ (s.dev.op ≠ .cold ∨ s.dev.sys.main =
    false ∨ s.dev.sys.pfail = true ∨ s.dev.sys.hold.isSome = true)) ∧
  (∃ (s : State) (t cause : Nat), s.dev.sys.hold = some cause ∧ (cause = 3 ∨ cause = 6) ∧ s.dev.sys.pfail = false) ∧
  (∃ (s : State) (stage : StartStage) (t cause : Nat), s.dev.sys.hold = some cause ∧ (cause = 3 ∨ cause = 6) ∧
    s.dev.sys.pfail = false) ∧
  (∃ (s : State) (t : Nat), s.dev.sys.hold = some 7 ∧ s.dev.op = .cold ∧ s.dev.sys.main = true ∧ s.dev.sys.pfail =
    false ∧ s.dev.sys.resetLow = false) ∧
  (∃ (s : State) (stage : StartStage) (t : Nat), s.dev.sys.hold = some 7 ∧ (s.dev.op ≠ .cold ∨ s.dev.sys.main =
    false ∨ s.dev.sys.pfail = true ∨ s.dev.sys.resetLow = true)) ∧
  (∃ (s : State) (stage : StartStage) (t : Nat), (s.dev.sys.hold ≠ some 3 ∧ s.dev.sys.hold ≠ some 6 ∧
    s.dev.sys.hold ≠ some 7) ∨ (s.dev.sys.hold ≠ some 7 ∧ s.dev.sys.pfail = true)) :=
  ⟨⟨(st .serving []), 10000, 5, by decide +kernel⟩,
   ⟨(st .serving []), 999, 5, by decide +kernel⟩,
   ⟨(st .serving []), 1000, 5, by decide +kernel⟩,
   ⟨(dv (st .cold []) (fun d => { d with sys := { d.sys with hold := some 7 } })), .entry, 5, by decide +kernel⟩,
   ⟨(dv (st .cold []) (fun d => { d with sys := { d.sys with main := true } })), 5, by decide +kernel⟩,
   ⟨(dv (st .cold []) (fun d => { d with sys := { d.sys with main := true } })), .entry, 5, by decide +kernel⟩,
   ⟨(st .cold []), .entry, 5, by decide +kernel⟩,
   ⟨(dv (st .waking []) (fun d => { d with sys := { d.sys with hold := some 6 } })), 5, 6, by decide +kernel⟩,
   ⟨(dv (st .waking []) (fun d => { d with sys := { d.sys with hold := some 6 } })), .entry, 5, 6,
     by decide +kernel⟩,
   ⟨(dv (st .cold []) (fun d =>
     { d with sys := { d.sys with hold := some 7, main := true, watch := true, nextCause := 7 } })), 5,
     by decide +kernel⟩,
   ⟨(dv (st .cold []) (fun d => { d with sys := { d.sys with hold := some 7, resetLow := true } })), .entry, 5,
     by decide +kernel⟩,
   ⟨(st .serving []), .entry, 5, by decide +kernel⟩⟩

theorem test_meets_ResetCommands :
  (∃ (s : State) (t : Nat), s.acts 5 t ∧ s.dev.sys.kickUp + s.dev.sys.kickMs * 1000000 ≤ s.upAt t ∧ (s.w.serves =
    true ∨ s.dev.op = .holding ∨ (s.dev.sys.booting = true ∧ s.w.mainOn = true ∧ s.dev.sys.hold = none))) ∧
  (∃ (s : State) (t : Nat), s.upAt t < s.dev.sys.kickUp + s.dev.sys.kickMs * 1000000 ∨ (s.w.lanesRun = false ∧
    s.dev.sys.entering = false ∧ (s.dev.sys.booting = false ∨ s.w.mainOn = false ∨ s.dev.sys.hold.isSome = true))) ∧
  (∃ (s : State) (v : W32) (t : Nat), s.lanes) ∧
  (∃ (s : State) (t : Nat), True) ∧
  (∃ (s : State) (confirm t : Nat), s.lanes ∧ confirm = 0xC0DE ∧ s.acts 5 t) ∧
  (∃ (s : State) (confirm t : Nat), s.lanes ∧ confirm = 0xC0DE ∧ s.acts 7 t ∧ s.dev.op = .serving ∧
    s.dev.sys.saving = none) ∧
  (∃ (s : State) (confirm t : Nat), s.lanes ∧ confirm = 0xC0DE ∧ s.acts 7 t ∧ (s.dev.op ≠ .serving ∨
    s.dev.sys.saving.isSome = true)) ∧
  (∃ (s : State) (confirm t : Nat), confirm ≠ 0xC0DE) ∧
  (∃ (s : State) (t : Nat), True) ∧
  (∃ (s : State) (t : Nat), s.bitOf WCH_WAKE_CFG_console_en = true ∧ s.dev.op ≠ .sleep ∧ s.dev.sys.entering = true) ∧
  (∃ (s : State) (t : Nat), s.bitOf WCH_WAKE_CFG_console_en = true ∧ s.dev.op = .sleep) ∧
  (∃ (s : State) (t : Nat), s.bitOf WCH_WAKE_CFG_console_en = false ∨ (s.dev.op ≠ .sleep ∧ s.dev.sys.entering =
    false)) :=
  ⟨⟨(dv (st .serving []) (fun d => { d with sys := { d.sys with kickMs := 0 } })), 5, by decide +kernel⟩,
   ⟨(dv (st .serving []) (fun d => { d with sys := { d.sys with kickMs := 100 } })), 5, by decide +kernel⟩,
   ⟨(st .serving []), 0x4B49, 5, by decide +kernel⟩,
   ⟨(st .serving []), 60000000000, by decide +kernel⟩,
   ⟨(st .serving []), 0xC0DE, 5, by decide +kernel⟩,
   ⟨(st .serving []), 0xC0DE, 5, by decide +kernel⟩,
   ⟨(st .holding []), 0xC0DE, 5, by decide +kernel⟩,
   ⟨(st .serving []), 1, 5, by decide +kernel⟩,
   ⟨(st .restoring []), 5, by decide +kernel⟩,
   ⟨(dv (st .serving [(WCH_WAKE_CFG_console_en, 1)]) (fun d => { d with sys := { d.sys with entering := true } })),
     5, by decide +kernel⟩,
   ⟨(st .sleep [(WCH_WAKE_CFG_console_en, 1)]), 5, by decide +kernel⟩,
   ⟨(st .sleep []), 5, by decide +kernel⟩⟩

theorem test_meets_SettingsAndFirmware :
  (∃ (s : State) (t : Nat), s.lanes) ∧
  (∃ (s : State) (t : Nat), True) ∧
  (∃ (s : State) (t : Nat) (x : SetSave), s.w.mainOn = true ∧ s.dev.sys.saving = some x ∧ s.dev.sys.commitNext =
    false ∧ s.dev.sys.saveNext = false) ∧
  (∃ (s : State) (t : Nat) (x : SetSave), s.w.mainOn = true ∧ s.dev.sys.saving = some x ∧ (s.dev.sys.commitNext =
    true ∨ s.dev.sys.saveNext = true)) ∧
  (∃ (s : State) (t : Nat), s.w.mainOn = false ∨ (s.dev.sys.saving = none ∧ s.dev.sys.hold ≠ some 5)) ∧
  (∃ (s : State), s.lanes ∧ s.dev.sys.staging = none ∧ inRam (s.reg SYS_FW_SRC_LO_v + 2 ^ 32 * s.reg
    SYS_FW_SRC_HI_v) (max 1 (s.reg SYS_FW_LEN_v)) = true ∧ s.reg SYS_FW_LEN_v ≤ 0x10000E0 ∧ s.w.imgCheck
    (s.w.rdBytes (s.reg SYS_FW_SRC_LO_v + 2 ^ 32 * s.reg SYS_FW_SRC_HI_v) (s.reg SYS_FW_LEN_v)) = 0) ∧
  (∃ (s : State), s.lanes ∧ (s.dev.sys.staging.isSome = true ∨ inRam (s.reg SYS_FW_SRC_LO_v + 2 ^ 32 * s.reg
    SYS_FW_SRC_HI_v) (max 1 (s.reg SYS_FW_LEN_v)) = false ∨ 0x10000E0 < s.reg SYS_FW_LEN_v ∨ s.w.imgCheck
    (s.w.rdBytes (s.reg SYS_FW_SRC_LO_v + 2 ^ 32 * s.reg SYS_FW_SRC_HI_v) (s.reg SYS_FW_LEN_v)) ≠ 0)) ∧
  (∃ (s : State) (t target : Nat) (b : List Byte), s.dev.sys.staging = some (target, b)) ∧
  (∃ (s : State) (t : Nat), s.dev.sys.staging.isSome = true) ∧
  (∃ (s : State) (ok : Bool) (t : Nat), s.dev.sys.staging = none) ∧
  (∃ (s : State), s.lanes) :=
  ⟨⟨(st .serving []), 5, by decide +kernel⟩,
   ⟨(dv (st .serving [(SYS_SET_CFG_auto_s, 1)]) (fun d => { d with sys := { d.sys with dirtyUp := some 0 } })),
     1000000000, by decide +kernel⟩,
   ⟨(dv (st .serving []) (fun d => { d with sys := { d.sys with saving := some tSave, hold := some 5 } })), 5,
     tSave, by decide +kernel⟩,
   ⟨(dv (st .serving []) (fun d => { d with sys := { d.sys with saving := some tSave, saveNext := true } })), 5,
     tSave, by decide +kernel⟩,
   ⟨(st .serving []), 5, by decide +kernel⟩,
   ⟨({ tW (dv (st .serving [(SYS_FW_SRC_LO_v, 0x10000100), (SYS_FW_LEN_v, 225)]) (fun d => { d with key := { d.key with slots := [(56, ⟨3, 1, [], tFwPub⟩)] } })) [(0x4000FFFC, 0x5A380001)] with mem := tM 0x10000100 tFwImg }),
     by decide +kernel⟩,
   ⟨(st .serving [(SYS_FW_LEN_v, 0x10000E1)]), by decide +kernel⟩,
   ⟨(dv (st .serving []) (fun d => { d with sys := { d.sys with staging := some (1, [0x5A]) } })), 5, 1, [0x5A],
     by decide +kernel⟩,
   ⟨(dv (st .serving []) (fun d => { d with sys := { d.sys with staging := some (1, [0x5A]) } })), 5,
     by decide +kernel⟩,
   ⟨(st .serving []), true, 5, by decide +kernel⟩,
   ⟨(dv (st .serving []) (fun d => { d with sys := { d.sys with trial := true, slot := some 1 } })),
     by decide +kernel⟩⟩

theorem test_meets_SleepCommands :
  (∃ (s : State) (confirm t : Nat), s.lanes ∧ confirm = 0xC0DE ∧ s.acts 8 t ∧ s.dev.op = .serving ∧ s.reg
    PAT_STATUS_state = 0 ∧ s.reg CRY_STATUS_armed = 0 ∧ s.reg FLT_STATUS_armed = 0 ∧ s.w.pairHeld = false) ∧
  (∃ (s : State) (confirm t : Nat), s.lanes ∧ confirm = 0xC0DE ∧ s.acts 8 t ∧ (s.dev.op ≠ .serving ∨ s.reg
    PAT_STATUS_state ≠ 0 ∨ s.reg CRY_STATUS_armed ≠ 0 ∨ s.reg FLT_STATUS_armed ≠ 0 ∨ s.w.pairHeld = true)) ∧
  (∃ (s : State) (confirm t : Nat), confirm ≠ 0xC0DE) ∧
  (∃ (s : State) (t : Nat), s.dev.sys.entering = true ∧ s.dev.sys.saving = none) ∧
  (∃ (s : State) (t : Nat), s.dev.sys.entering = false ∨ s.dev.sys.saving.isSome = true) ∧
  (∃ (s : State) (t : Nat), True) ∧
  (∃ (s : State) (addr t : Nat), s.dev.sys.watch = true ∧ s.bitOf WCH_WAKE_CFG_rx_enable = true ∧ addr ≠ 0 ∧ (addr
    = s.reg WCH_WAKE_ADDR_addr ∨ (addr = 0xFFFF ∧ s.bitOf WCH_WAKE_CFG_rx_bcast = true)) ∧ s.dev.sys.rxUp.all (fun
    x => decide (x + 10000000000 ≤ s.upAt t)) = true) ∧
  (∃ (s : State) (addr t : Nat), s.dev.sys.watch = false ∨ s.bitOf WCH_WAKE_CFG_rx_enable = false ∨ addr = 0 ∨
    (addr ≠ s.reg WCH_WAKE_ADDR_addr ∧ (addr ≠ 0xFFFF ∨ s.bitOf WCH_WAKE_CFG_rx_bcast = false)) ∨
    s.dev.sys.rxUp.any (fun x => decide (s.upAt t < x + 10000000000)) = true) ∧
  (∃ (s : State) (pin : Nat) (rising : Bool) (t : Nat), pin < 4 ∧ (s.dev.op = .sleep ∨ s.w.pinFunc pin = 1) ∧ tst
    (s.reg WCH_WAKE_CFG_gio) pin = true ∧ tst (s.reg WCH_WAKE_CFG_gio_pol) pin = rising) ∧
  (∃ (s : State) (pin : Nat) (rising : Bool) (t : Nat), pin < 4 ∧ ((s.dev.op ≠ .sleep ∧ s.w.pinFunc pin ≠ 1) ∨ tst
    (s.reg WCH_WAKE_CFG_gio) pin = false ∨ tst (s.reg WCH_WAKE_CFG_gio_pol) pin ≠ rising)) :=
  ⟨⟨(st .serving []), 0xC0DE, 5, by decide +kernel⟩,
   ⟨(st .degraded []), 0xC0DE, 5, by decide +kernel⟩,
   ⟨(st .serving []), 1, 5, by decide +kernel⟩,
   ⟨(dv (st .serving []) (fun d => { d with sys := { d.sys with entering := true } })), 5, by decide +kernel⟩,
   ⟨(st .serving []), 5, by decide +kernel⟩,
   ⟨(st .sleep [(WCH_WAKE_CFG_timer_en, 1), (WCH_WAKE_TIMER_v, 1)]), 1000000000, by decide +kernel⟩,
   ⟨(dv (st .serving [(WCH_WAKE_CFG_rx_enable, 1), (WCH_WAKE_ADDR_addr, 7)]) (fun d =>
     { d with sys := { d.sys with entering := true, watch := true } })), 7, 5, by decide +kernel⟩,
   ⟨(st .sleep []), 7, 5, by decide +kernel⟩,
   ⟨(dv (st .serving [(WCH_WAKE_CFG_gio, 15)]) (fun d =>
     { d with sys := { d.sys with entering := true }, pat := { d.pat with active := { d.pat.active with pins := [⟨2, 1, 0⟩] } } })),
     2, false, 5, by decide +kernel⟩,
   ⟨(st .sleep []), 2, false, 5, by decide +kernel⟩⟩

theorem test_meets_ScrivenerCommands :
  (∃ (s : State) (t : Nat) (r : RawRec) (rest : List RawRec), s.w.mainOn = true ∧ s.dev.sys.booting = false ∧
    s.dev.scr.fifo = r :: rest ∧ r.code < 0x100) ∧
  (∃ (s : State) (t : Nat) (r : RawRec) (rest : List RawRec), s.w.mainOn = true ∧ s.dev.sys.booting = false ∧
    s.dev.scr.fifo = r :: rest ∧ 0x100 ≤ r.code ∧ (s.w.bucket r.code).disable = false ∧ ((s.w.bucket
    r.code).intervalMs = 0 ∨ (1 ≤ (s.w.bucket r.code).tokens ∧ ((s.w.bucket r.code).cap ≤ (s.w.bucket
    r.code).tokens ∨ s.upAt t < (s.w.bucket r.code).since + (s.w.bucket r.code).intervalMs * 1000000)))) ∧
  (∃ (s : State) (t : Nat) (r : RawRec) (rest : List RawRec), s.w.mainOn = true ∧ s.dev.sys.booting = false ∧
    s.dev.scr.fifo = r :: rest ∧ 0x100 ≤ r.code ∧ (s.w.bucket r.code).disable = false ∧ (s.w.bucket
    r.code).intervalMs ≠ 0 ∧ (s.w.bucket r.code).tokens = 0 ∧ ((s.w.bucket r.code).cap ≤ (s.w.bucket r.code).tokens
    ∨ s.upAt t < (s.w.bucket r.code).since + (s.w.bucket r.code).intervalMs * 1000000)) ∧
  (∃ (s : State) (t : Nat) (r : RawRec) (rest : List RawRec), s.w.mainOn = true ∧ s.dev.sys.booting = false ∧
    s.dev.scr.fifo = r :: rest ∧ 0x100 ≤ r.code ∧ (s.w.bucket r.code).disable = false ∧ (s.w.bucket
    r.code).intervalMs ≠ 0 ∧ (s.w.bucket r.code).tokens < (s.w.bucket r.code).cap ∧ (s.w.bucket r.code).since +
    (s.w.bucket r.code).intervalMs * 1000000 ≤ s.upAt t ∧ (s.w.bucket r.code).sup = 0) ∧
  (∃ (s : State) (t : Nat) (r : RawRec) (rest : List RawRec), s.w.mainOn = true ∧ s.dev.sys.booting = false ∧
    s.dev.scr.fifo = r :: rest ∧ 0x100 ≤ r.code ∧ (s.w.bucket r.code).disable = false ∧ (s.w.bucket
    r.code).intervalMs ≠ 0 ∧ (s.w.bucket r.code).tokens < (s.w.bucket r.code).cap ∧ (s.w.bucket r.code).since +
    (s.w.bucket r.code).intervalMs * 1000000 ≤ s.upAt t ∧ (s.w.bucket r.code).sup ≠ 0) ∧
  (∃ (s : State) (t : Nat) (r : RawRec) (rest : List RawRec), s.w.mainOn = true ∧ s.dev.sys.booting = false ∧
    s.dev.scr.fifo = r :: rest ∧ 0x100 ≤ r.code ∧ (s.w.bucket r.code).disable = true ∧ (s.w.bucket r.code).sup = 0) ∧
  (∃ (s : State) (t : Nat), s.w.mainOn = false ∨ s.dev.sys.booting = true ∨ s.dev.scr.fifo = []) ∧
  (∃ (s : State) (t : Nat), True) ∧
  (∃ (s : State) (code t : Nat), 0x100 ≤ code ∧ code < 4096) ∧
  (∃ (s : State) (hart : Nat) (v : W32), s.lanes ∧ hart < 4 ∧ 0xE00 ≤ v.toNat % 0x1000) ∧
  (∃ (s : State) (hart : Nat) (v : W32), s.lanes ∧ hart < 4 ∧ v.toNat % 0x1000 < 0xE00) ∧
  (∃ (s : State) (v : W32), s.lanes) ∧
  (∃ (s : State) (log x : Nat), s.lanes ∧ log = 0 ∧ s.dev.key.grant = some (5, log, x) ∧ s.dev.tb.up < x +
    300000000000) ∧
  (∃ (s : State) (log x : Nat), s.lanes ∧ log = 1 ∧ s.dev.key.grant = some (5, log, x) ∧ s.dev.tb.up < x +
    300000000000) ∧
  (∃ (s : State) (log : Nat), s.lanes ∧ log < 4 ∧ (2 ≤ log ∨ s.w.granted 5 (some log) = false)) ∧
  (∃ (s : State) (v : W32), s.lanes) :=
  ⟨⟨(dv (sv []) (fun d =>
     { d with sys := { d.sys with booting := false }, scr := { d.scr with fifo := [⟨0x20, false, true, 1, 2, 3, 4, 5, 6⟩] } })),
     5, ⟨0x20, false, true, 1, 2, 3, 4, 5, 6⟩, [], by decide +kernel⟩,
   ⟨(dv (sv []) (fun d =>
     { d with sys := { d.sys with booting := false }, scr := { d.scr with fifo := [⟨0x200, false, true, 1, 2, 3, 4, 5, 6⟩] } })),
     5, ⟨0x200, false, true, 1, 2, 3, 4, 5, 6⟩, [], by decide +kernel⟩,
   ⟨(dv (sv []) (fun d =>
     { d with sys := { d.sys with booting := false }, scr := { d.scr with buckets := [(0x200, ⟨4, 10, false, 0, 0, 0, 0⟩)], fifo := [⟨0x200, false, true, 1, 2, 3, 4, 5, 6⟩] } })),
     5, ⟨0x200, false, true, 1, 2, 3, 4, 5, 6⟩, [], by decide +kernel⟩,
   ⟨(dv (sv []) (fun d =>
     { d with sys := { d.sys with booting := false }, scr := { d.scr with buckets := [(0x200, ⟨4, 10, false, 0, 0, 9, 0⟩)], fifo := [⟨0x200, false, true, 1, 2, 3, 4, 5, 6⟩] } })),
     10000000, ⟨0x200, false, true, 1, 2, 3, 4, 5, 6⟩, [], by decide +kernel⟩,
   ⟨(dv (sv []) (fun d =>
     { d with sys := { d.sys with booting := false }, scr := { d.scr with buckets := [(0x200, ⟨4, 10, false, 0, 7, 9, 0⟩)], fifo := [⟨0x200, false, true, 1, 2, 3, 4, 5, 6⟩] } })),
     10000000, ⟨0x200, false, true, 1, 2, 3, 4, 5, 6⟩, [], by decide +kernel⟩,
   ⟨(dv (sv []) (fun d =>
     { d with sys := { d.sys with booting := false }, scr := { d.scr with buckets := [(0x200, ⟨4, 10, true, 0, 0, 0, 0⟩)], fifo := [⟨0x200, false, true, 1, 2, 3, 4, 5, 6⟩] } })),
     5, ⟨0x200, false, true, 1, 2, 3, 4, 5, 6⟩, [], by decide +kernel⟩,
   ⟨(State.reset), 5, by decide +kernel⟩,
   ⟨(dv (sv []) (fun d => { d with scr := { d.scr with lostCount := 3 } })), 1000000, by decide +kernel⟩,
   ⟨(dv (sv []) (fun d => { d with scr := { d.scr with buckets := [(0x200, ⟨4, 10, false, 0, 7, 9, 0⟩)] } })),
     0x200, 10000000, by decide +kernel⟩,
   ⟨(sv [(REC_SW_P_v 1 2, 7)]), 1, 0xE05, by decide +kernel⟩,
   ⟨(sv []), 1, 0xD05, by decide +kernel⟩,
   ⟨(dv (sv []) (fun d => { d with scr := { d.scr with log0 := [(3, ⟨0x20, 8, 1, 4, 5, 6, 7, 8, 9⟩)] } })), 3,
     by decide +kernel⟩,
   ⟨(dv (sv []) (fun d =>
     { d with key := { d.key with grant := some (5, 0, 0) }, scr := { d.scr with log0 := [(3, ⟨0x20, 8, 1, 4, 5, 6, 7, 8, 9⟩)] } })),
     0, 0, by decide +kernel⟩,
   ⟨(dv (sv []) (fun d =>
     { d with key := { d.key with grant := some (5, 1, 0) }, scr := { d.scr with log1 := [(3, ⟨0x20, 8, 1, 4, 5, 6, 7, 8, 9⟩)] } })),
     1, 0, by decide +kernel⟩,
   ⟨(sv []), 1, by decide +kernel⟩,
   ⟨(sv [(REC_RL_SEL_code, 0x200)]), 0x80000A04, by decide +kernel⟩⟩

theorem test_meets_TallymanAndCobbler :
  (∃ (s : State), s.lanes) ∧
  (∃ (s : State) (k : Nat), s.lanes ∧ k < 32) ∧
  (∃ (s : State) (t : Nat), s.lanes) ∧
  (∃ (s : State) (t : Nat), s.lanes) ∧
  (∃ (s : State) (v : W32), s.lanes) ∧
  (∃ (s : State), s.lanes) ∧
  (∃ (s : State) (v : W32), s.lanes) ∧
  (∃ (s : State) (addr : Nat) (x : Nat × Fld), s.lanes ∧ s.w.counterAt addr = some x) ∧
  (∃ (s : State) (addr : Nat), s.lanes ∧ 0x40151000 ≤ addr ∧ addr < 0x40151800 ∧ addr % 8 = 0 ∧
    unseenEvents.contains ((addr - 0x40151000) / 8) = false) ∧
  (∃ (s : State) (addr : Nat), s.lanes ∧ s.w.counterAt addr = none) ∧
  (∃ (s : State) (t : Nat), True) ∧
  (∃ (s : State), s.lanes) :=
  ⟨⟨(dv (sv []) (fun d => { d with prf := { d.prf with cnt := [(3, 4)] } })), by decide +kernel⟩,
   ⟨(dv (sv []) (fun d => { d with prf := { d.prf with sel := [(3, 4)] } })), 3, by decide +kernel⟩,
   ⟨(sv []), 5, by decide +kernel⟩,
   ⟨(dv (sv [(PRF_CTRL_freeze, 1)]) (fun d => { d with prf := { d.prf with frozenAt := some 0 } })), 5,
     by decide +kernel⟩,
   ⟨(sv []), 0x8001, by decide +kernel⟩,
   ⟨(dv (sv [(PRF_SMP_STAT_held, 1)]) (fun d =>
     { d with prf := { d.prf with samples := [⟨1, 2, 3, 4, 5, 6, 7, 8, 9⟩] } })), by decide +kernel⟩,
   ⟨(dv (sv [(PRF_SMP_STAT_held, 1)]) (fun d =>
     { d with prf := { d.prf with samples := [⟨1, 2, 3, 4, 5, 6, 7, 8, 9⟩] } })), 0, by decide +kernel⟩,
   ⟨(dv (sv []) (fun d => { d with prf := { d.prf with cnt := [(3, 4 * 2 ^ 32 + 1)] } })), 0x40151018, (4 * 2 ^ 32
     + 1, PRF_CNT_HI_v 3), by decide +kernel⟩,
   ⟨(dv (sv []) (fun d => { d with prf := { d.prf with cnt := [(3, 4 * 2 ^ 32 + 1)] } })), 0x40151018,
     by decide +kernel⟩,
   ⟨(sv []), 0x40152000, by decide +kernel⟩,
   ⟨(sv [(HLT_CTRL_enable, 1)]), 5, by decide +kernel⟩,
   ⟨(dv (sv [(HLT_SEL_index, 5)]) (fun d =>
     { d with key := { d.key with lc := 3 }, hlt := { d.hlt with ind := [(5, { Indicator.fresh 5 with raw := 400 })] } })),
     by decide +kernel⟩⟩

theorem test_meets_PartnerPairing :
  (∃ (s : State) (t : Nat), True) ∧
  (∃ (s : State) (m : BrdMsg) (b : List Byte), ((s.w.at_ m.t).ptnAccept m 0x10).2 = some b ∧ b.length = 32) ∧
  (∃ (s : State) (m : BrdMsg) (b : List Byte), ((s.w.at_ m.t).ptnAccept m 0x10).2 = some b ∧ b.length = 32 ∧
    s.w.ptnState = 1 ∧ ((helloRead b).state = 4 ∨ (helloRead b).state = 5)) ∧
  (∃ (s : State) (m : BrdMsg) (b : List Byte), ((s.w.at_ m.t).ptnAccept m 0x10).2 = some b ∧ b.length = 32 ∧
    s.w.ptnState = 1 ∧ (helloRead b).state = 1) ∧
  (∃ (s : State) (m : BrdMsg) (b : List Byte), ((s.w.at_ m.t).ptnAccept m 0x10).2 = some b ∧ b.length = 32 ∧
    s.w.mayTake = true ∧ (helloRead b).state ≠ 4 ∧ (helloRead b).state ≠ 6 ∧ (s.dev.ptn.drill = none ∨ (helloRead
    b).state ≠ 3)) ∧
  (∃ (s : State) (m : BrdMsg) (b : List Byte), ((s.w.at_ m.t).ptnAccept m 0x10).2 = some b ∧ b.length = 32 ∧
    (s.w.ptnState = 2 ∨ s.w.ptnState = 3) ∧ (s.w.mayTake = false ∨ (helloRead b).state = 4 ∨ (helloRead b).state =
    6 ∨ (s.dev.ptn.drill.isSome = true ∧ (helloRead b).state = 3))) ∧
  (∃ (s : State) (m : BrdMsg) (b : List Byte), ((s.w.at_ m.t).ptnAccept m 0x10).2 = some b ∧ b.length = 32 ∧ 4 ≤
    s.w.ptnState ∧ s.w.ptnState ≤ 6 ∧ ((helloRead b).state = 4 ∨ (helloRead b).state = 5 ∨ (helloRead b).state =
    6)) ∧
  (∃ (s : State) (m : BrdMsg) (b : List Byte), ((s.w.at_ m.t).ptnAccept m 0x10).2 = some b ∧ b.length = 32 ∧ 4 ≤
    s.w.ptnState ∧ s.w.ptnState ≤ 6 ∧ ¬((helloRead b).state = 4 ∨ (helloRead b).state = 5 ∨ (helloRead b).state =
    6)) ∧
  (∃ (s : State) (m : BrdMsg) (b : List Byte), ((s.w.at_ m.t).ptnAccept m 0x10).2 = some b ∧ b.length = 32 ∧
    s.w.ptnState = 1 ∧ (helloRead b).state ≠ 1 ∧ (helloRead b).state ≠ 4 ∧ (helloRead b).state ≠ 5) ∧
  (∃ (s : State) (m : BrdMsg), ((s.w.at_ m.t).ptnAccept m 0x10).2.all (fun b => b.length != 32) = true ∧ ((s.w.at_
    m.t).ptnAccept m 0x15).2.all (fun b => b.length != 4) = true) ∧
  (∃ (s : State) (t : Nat), s.w.serves = true ∧ (s.bitOf PTN_STATUS_link_up = true ∨ s.bitOf PTN_STATUS_net_heard =
    true) ∧ (s.bitOf PTN_STATUS_link_up = true → s.dev.ptn.linkUp + s.w.quietNs ≤ s.upAt t) ∧ (s.bitOf
    PTN_STATUS_net_heard = true → s.dev.ptn.netUp + s.w.quietNs ≤ s.upAt t)) ∧
  (∃ (s : State) (t : Nat), ¬(s.w.serves = true ∧ (s.bitOf PTN_STATUS_link_up = true ∨ s.bitOf PTN_STATUS_net_heard
    = true) ∧ (s.bitOf PTN_STATUS_link_up = true → s.dev.ptn.linkUp + s.w.quietNs ≤ s.upAt t) ∧ (s.bitOf
    PTN_STATUS_net_heard = true → s.dev.ptn.netUp + s.w.quietNs ≤ s.upAt t))) ∧
  (∃ (s : State) (t : Nat), s.w.serves = true ∧ s.bitOf PTN_STATUS_link_up = true ∧ s.dev.ptn.linkUp + s.w.quietNs
    ≤ s.upAt t ∧ s.bitOf PTN_STATUS_net_heard = true) ∧
  (∃ (s : State) (t : Nat), s.w.serves = true ∧ s.bitOf PTN_STATUS_net_heard = true ∧ s.dev.ptn.netUp + s.w.quietNs
    ≤ s.upAt t ∧ s.bitOf PTN_STATUS_link_up = true) ∧
  (∃ (s : State) (link : Bool) (t : Nat), s.w.serves = true ∧ (if link then s.bitOf PTN_STATUS_link_up else s.bitOf
    PTN_STATUS_net_heard) = true ∧ (if link then s.bitOf PTN_STATUS_net_heard else s.bitOf PTN_STATUS_link_up) =
    false ∧ (if link then s.dev.ptn.linkUp else s.dev.ptn.netUp) + s.w.quietNs ≤ s.upAt t) ∧
  (∃ (s : State) (link : Bool) (t : Nat), ¬(s.w.serves = true ∧ (if link then s.bitOf PTN_STATUS_link_up else
    s.bitOf PTN_STATUS_net_heard) = true ∧ (if link then s.dev.ptn.linkUp else s.dev.ptn.netUp) + s.w.quietNs ≤
    s.upAt t)) ∧
  (∃ (s : State) (t : Nat), True) ∧
  (∃ (s : State) (m : BrdMsg) (b : List Byte), ((s.w.at_ m.t).ptnAccept m 0x15).2 = some b ∧ b.length = 4) ∧
  (∃ (s : State), s.lanes) ∧
  (∃ (s : State) (v : W32), s.lanes) :=
  ⟨⟨(tPtn 1 [] id), 1000000000, by decide +kernel⟩,
   ⟨(tPtn 2 [] id), tPm 0x10 (helloBytes ⟨4, 0, 3, 9, 0, 0⟩), helloBytes ⟨4, 0, 3, 9, 0, 0⟩, by decide +kernel⟩,
   ⟨(tPtn 1 [] id), tPm 0x10 (helloBytes ⟨4, 0, 3, 5, 0, 0⟩), helloBytes ⟨4, 0, 3, 5, 0, 0⟩, by decide +kernel⟩,
   ⟨(tPtn 1 [] id), tPm 0x10 (helloBytes ⟨1, 0, 0, 5, 0, 0⟩), helloBytes ⟨1, 0, 0, 5, 0, 0⟩, by decide +kernel⟩,
   ⟨(tPtn 3 [] id), tPm 0x10 (helloBytes ⟨1, 0, 0, 5, 0, 0⟩), helloBytes ⟨1, 0, 0, 5, 0, 0⟩, by decide +kernel⟩,
   ⟨(tPtn 3 [(PTN_STATUS_mirror_stale, 1)] id), tPm 0x10 (helloBytes ⟨4, 0, 3, 5, 0, 0⟩), helloBytes ⟨4, 0, 3, 5,
     0, 0⟩, by decide +kernel⟩,
   ⟨(tPtn 4 [] id), tPm 0x10 (helloBytes ⟨4, 0, 9, 5, 0, 0⟩), helloBytes ⟨4, 0, 9, 5, 0, 0⟩, by decide +kernel⟩,
   ⟨(tPtn 5 [] id), tPm 0x10 (helloBytes ⟨3, 0, 0, 5, 0, 0⟩), helloBytes ⟨3, 0, 0, 5, 0, 0⟩, by decide +kernel⟩,
   ⟨(tPtn 1 [] id), tPm 0x10 (helloBytes ⟨2, 0, 3, 5, 0, 0⟩), helloBytes ⟨2, 0, 3, 5, 0, 0⟩, by decide +kernel⟩,
   ⟨(tPtn 1 [] id), tPm 0x11 [], by decide +kernel⟩,
   ⟨(tPtn 3 [] id), 1000000000, by decide +kernel⟩,
   ⟨(tPtn 3 [] id), 0, by decide +kernel⟩,
   ⟨(tPtn 3 [(PTN_STATUS_net_heard, 1)] id), 1000000000, by decide +kernel⟩,
   ⟨(tPtn 3 [(PTN_STATUS_net_heard, 1)] id), 1000000000, by decide +kernel⟩,
   ⟨(tPtn 4 [] id), true, 1000000000, by decide +kernel⟩,
   ⟨(tPtn 4 [] id), false, 1000000000, by decide +kernel⟩,
   ⟨(tPtn 1 [(PTN_STATUS_link_up, 0)] id), 1000000000000, by decide +kernel⟩,
   ⟨(tPtn 3 [] id), tPm 0x15 [0, 0, 0, 9], [0, 0, 0, 9], by decide +kernel⟩,
   ⟨(tPtn 3 [] id), by decide +kernel⟩,
   ⟨(tPtn 0 [(PTN_CTRL_enable, 0)] id), 1, by decide +kernel⟩⟩

theorem test_meets_PartnerMirror :
  (∃ (s : State) (t : Nat) (g : MirItem), (s.w.at_ t).mirrors = true ∧ s.dev.ptn.queue.find? (fun x => x.kind == 6)
    = some g) ∧
  (∃ (s : State) (t : Nat), (s.w.at_ t).mirrors = true ∧ s.dev.ptn.queue.any (fun x => x.kind == 6) = false ∧
    (fillMessage 1020 s.dev.ptn.queue []).1.isEmpty = false) ∧
  (∃ (s : State) (t : Nat) (a b : MirItem), (s.w.at_ t).mirrors = true ∧ s.dev.ptn.queue = [a, b] ∧ a.kind ≠ 6 ∧
    b.kind ≠ 6 ∧ a.data.length ≤ 1000 ∧ 1020 < (itemBytes a).length + (itemBytes b).length) ∧
  (∃ (s : State) (t : Nat), (s.w.at_ t).mirrors = false ∨ s.dev.ptn.queue = []) ∧
  (∃ (s : State) (t : Nat), True) ∧
  (∃ (s : State) (m : BrdMsg) (b : List Byte) (is_ : List MirItem), ((s.w.at_ m.t).ptnAccept m 0x11).2 = some b ∧ 4
    ≤ b.length ∧ s.w.isStandby = true ∧ s.bitOf PTN_STATUS_link_up = true ∧ (s.dev.ptn.applied.any (fun a => be b 0
    4 == (a + 1) % 2 ^ 32) = true ∨ (s.dev.ptn.applied = none ∧ s.dev.ptn.asked = true)) ∧ itemsOf 128 (b.drop 4) =
    some is_ ∧ is_.all (fun i => s.w.itemOk i) = true) ∧
  (∃ (s : State) (m : BrdMsg) (b : List Byte) (n : Nat) (x : MirItem), ((s.w.at_ m.t).ptnAccept m 0x11).2 = some b
    ∧ 4 ≤ b.length ∧ n = be b 0 4 ∧ s.w.isStandby = true ∧ s.bitOf PTN_STATUS_link_up = true ∧
    (s.dev.ptn.applied.any (fun a => be b 0 4 == (a + 1) % 2 ^ 32) = true ∨ (s.dev.ptn.applied = none ∧
    s.dev.ptn.asked = true)) ∧ itemsOf 128 (b.drop 4) = some [x] ∧ x.kind = 9 ∧ x.data.length = 32 ∧ le x.data 4 4
    = x.index ∧ s.bitOf REC_CTRL_accept_mirror = true) ∧
  (∃ (s : State) (m : BrdMsg) (b : List Byte), ((s.w.at_ m.t).ptnAccept m 0x11).2 = some b ∧ 4 ≤ b.length ∧
    s.w.isStandby = true ∧ s.bitOf PTN_STATUS_link_up = true ∧ (s.dev.ptn.applied.any (fun a => be b 0 4 == (a + 1)
    % 2 ^ 32) = true ∨ (s.dev.ptn.applied = none ∧ s.dev.ptn.asked = true)) ∧ (itemsOf 128 (b.drop 4)).all (fun l
    => l.any (fun i => !s.w.itemOk i)) = true) ∧
  (∃ (s : State) (m : BrdMsg) (b : List Byte), ((s.w.at_ m.t).ptnAccept m 0x11).2 = some b ∧ 4 ≤ b.length ∧
    s.w.isStandby = true ∧ s.bitOf PTN_STATUS_link_up = true ∧ s.dev.ptn.applied.any (fun a => be b 0 4 != (a + 1)
    % 2 ^ 32 && decide (2 ^ 31 ≤ (a + 2 ^ 32 - be b 0 4) % 2 ^ 32)) = true) ∧
  (∃ (s : State) (m : BrdMsg) (b : List Byte), ((s.w.at_ m.t).ptnAccept m 0x11).2 = some b ∧ 4 ≤ b.length ∧
    (s.w.isStandby = false ∨ s.bitOf PTN_STATUS_link_up = false ∨ (s.dev.ptn.applied = none ∧ s.dev.ptn.asked =
    false) ∨ s.dev.ptn.applied.any (fun a => be b 0 4 != (a + 1) % 2 ^ 32 && decide ((a + 2 ^ 32 - be b 0 4) % 2 ^
    32 < 2 ^ 31)) = true)) ∧
  (∃ (s : State) (m : BrdMsg) (b : List Byte), ((s.w.at_ m.t).ptnAccept m 0x12).2 = some b ∧ b.length = 4) ∧
  (∃ (s : State) (m : BrdMsg), ((s.w.at_ m.t).ptnAccept m 0x13).2 = some []) ∧
  (∃ (s : State) (t : Nat), True) ∧
  (∃ (s : State) (m : BrdMsg) (b : List Byte), ((s.w.at_ m.t).ptnAccept m 0x14).2 = some b ∧ b.length = 4) ∧
  (∃ (s : State) (m : BrdMsg), ((s.w.at_ m.t).ptnAccept m 0x11).2.all (fun b => decide (b.length < 4)) = true ∧
    ((s.w.at_ m.t).ptnAccept m 0x12).2.all (fun b => b.length != 4) = true ∧ ((s.w.at_ m.t).ptnAccept m 0x13).2.all
    (fun b => b.length != 0) = true ∧ ((s.w.at_ m.t).ptnAccept m 0x14).2.all (fun b => b.length != 4) = true) ∧
  (∃ (s : State), s.lanes ∧ s.dev.ptn.cmd = 0 ∧ s.w.ptnState = 4 ∧ s.dev.ptn.hello.all (fun p => p.serial ==
    s.w.patSerial) = true ∧ s.bitOf PTN_STATUS_link_up = true ∧ s.w.blobOk = true) ∧
  (∃ (s : State), s.lanes ∧ (s.dev.ptn.cmd ≠ 0 ∨ s.w.ptnState ≠ 4 ∨ ¬(s.dev.ptn.hello.all (fun p => p.serial ==
    s.w.patSerial) = true) ∨ s.bitOf PTN_STATUS_link_up = false ∨ s.w.blobOk = false)) ∧
  (∃ (s : State) (t : Nat), True) ∧
  (∃ (s : State), s.lanes ∧ s.dev.ptn.cmd = 0 ∧ s.w.isStandby = true ∧ s.dev.ptn.hello.all (fun p => p.serial ==
    s.w.patSerial) = true ∧ s.bitOf PTN_STATUS_link_up = true) ∧
  (∃ (s : State), s.lanes ∧ (s.dev.ptn.cmd ≠ 0 ∨ s.w.isStandby = false ∨ ¬(s.dev.ptn.hello.all (fun p => p.serial
    == s.w.patSerial) = true) ∨ s.bitOf PTN_STATUS_link_up = false)) :=
  ⟨⟨(tPtn 4 [] (fun p => { p with queue := [⟨2, 7, [1, 0], false⟩, ⟨6, 0, List.replicate 72 0, false⟩] })), 5, ⟨6,
     0, List.replicate 72 0, false⟩, by decide +kernel⟩,
   ⟨(tPtn 4 [] (fun p => { p with queue := [⟨2, 7, [1, 0], false⟩] })), 5, by decide +kernel⟩,
   ⟨(tPtn 4 [] (fun p =>
     { p with queue := [⟨8, 0, List.replicate 1000 0, false⟩, ⟨8, 1000, List.replicate 1000 0, false⟩] })), 5, ⟨8,
     0, List.replicate 1000 0, false⟩, ⟨8, 1000, List.replicate 1000 0, false⟩, by decide +kernel⟩,
   ⟨(tPtn 4 [] id), 5, by decide +kernel⟩,
   ⟨(tPtn 4 [] id), 1000000000, by decide +kernel⟩,
   ⟨(tPtn 3 [] (fun p => { p with applied := some 6 })), tPm 0x11 (beBytes 4 7 ++ itemBytes ⟨2, 5, [3, 0], false⟩),
     beBytes 4 7 ++ itemBytes ⟨2, 5, [3, 0], false⟩, [⟨2, 5, [3, 0], false⟩], by decide +kernel⟩,
   ⟨(tPtn 3 [(REC_CTRL_accept_mirror, 1)] (fun p => { p with applied := some 6 })), tPm 0x11 (beBytes 4 7 ++
     itemBytes ⟨9, 5, tB 32 [(0, 2, 0x20), (4, 4, 5)], false⟩), beBytes 4 7 ++ itemBytes ⟨9, 5, tB 32 [(0, 2,
     0x20), (4, 4, 5)], false⟩, 7, ⟨9, 5, tB 32 [(0, 2, 0x20), (4, 4, 5)], false⟩, by decide +kernel⟩,
   ⟨(tPtn 3 [] (fun p => { p with applied := some 6 })), tPm 0x11 (beBytes 4 7 ++ [1]), beBytes 4 7 ++ [1],
     by decide +kernel⟩,
   ⟨(tPtn 3 [] (fun p => { p with applied := some 6 })), tPm 0x11 (beBytes 4 9), beBytes 4 9, by decide +kernel⟩,
   ⟨(tPtn 3 [] (fun p => { p with applied := some 6 })), tPm 0x11 (beBytes 4 6), beBytes 4 6, by decide +kernel⟩,
   ⟨(tPtn 4 [] id), tPm 0x12 [0, 0, 0, 9], [0, 0, 0, 9], by decide +kernel⟩,
   ⟨(tPtn 4 [] id), tPm 0x13 [], by decide +kernel⟩,
   ⟨(tPtn 4 [] (fun p => { p with copying := true })), 5, by decide +kernel⟩,
   ⟨(tPtn 2 [] (fun p => { p with applied := some 9 })), tPm 0x14 [0, 0, 0, 9], [0, 0, 0, 9], by decide +kernel⟩,
   ⟨(tPtn 4 [] id), tPm 0x10 [], by decide +kernel⟩,
   ⟨(tPtn 4 [(PTN_BLOB_BASE_HI_v, 8), (PTN_BLOB_SIZE_bytes, 100)] id), by decide +kernel⟩,
   ⟨(tPtn 4 [] id), by decide +kernel⟩,
   ⟨(tPtn 4 [] (fun p => { p with cmd := 2 })), 5, by decide +kernel⟩,
   ⟨(tPtn 3 [] id), by decide +kernel⟩,
   ⟨(tPtn 4 [] id), by decide +kernel⟩⟩

theorem test_meets_PartnerDrills :
  (∃ (s : State) (m : BrdMsg) (b : List Byte), ((s.w.at_ m.t).ptnAccept m 0x16).2 = some b ∧ b.length = 10) ∧
  (∃ (s : State) (m : BrdMsg), ((s.w.at_ m.t).ptnAccept m 0x16).2.all (fun b => b.length != 10) = true) ∧
  (∃ (s : State) (t x : Nat), s.w.serves = true ∧ s.w.ptnState = 3 ∧ s.dev.ptn.swapAt = some x ∧ x ≤ s.nsAt t) ∧
  (∃ (s : State) (t : Nat), s.w.serves = false ∨ s.w.ptnState ≠ 3 ∨ s.dev.ptn.swapAt.all (fun x => decide (s.nsAt t
    < x)) = true) ∧
  (∃ (s : State) (t x : Nat), s.w.serves = true ∧ s.w.ptnState = 6 ∧ s.dev.ptn.swapAt = some x ∧ x + 5000 ≤ s.nsAt
    t) ∧
  (∃ (s : State) (t : Nat), s.w.serves = false ∨ s.w.ptnState ≠ 6 ∨ s.dev.ptn.swapAt.all (fun x => decide (s.nsAt t
    < x + 5000)) = true) ∧
  (∃ (s : State) (t x : Nat), s.w.serves = true ∧ s.w.isStandby = true ∧ s.dev.ptn.drill = some x ∧ x + 100000000 ≤
    s.nsAt t) ∧
  (∃ (s : State) (t : Nat), s.w.serves = false ∨ s.w.isStandby = false ∨ s.dev.ptn.drill.all (fun x => decide
    (s.nsAt t < x + 100000000)) = true) ∧
  (∃ (s : State) (t : Nat) (p : PtnHello), s.w.serves = true ∧ s.w.ptnState ≠ 0 ∧ 0 < s.reg PTN_DRILL_interval_d ∧
    s.dev.ptn.drillDay.all (fun d => decide (d + s.reg PTN_DRILL_interval_d ≤ s.dev.rtc.secs / 86400)) = true ∧
    s.dev.rtc.secs % 86400 / 60 = min 1439 (s.reg PTN_DRILL_at_min) ∧ s.w.ptnState = 4 ∧ s.dev.ptn.hello = some p ∧
    p.state = 3 ∧ p.serial = s.w.patSerial ∧ tst p.flags 1 = false ∧ s.bitOf PTN_STATUS_mirror_stale = false ∧
    s.bitOf PTN_STATUS_link_up = true ∧ s.dev.ptn.acked = s.dev.ptn.sent) ∧
  (∃ (s : State) (t : Nat), s.w.serves = true ∧ s.w.ptnState ≠ 0 ∧ 0 < s.reg PTN_DRILL_interval_d ∧
    s.dev.ptn.drillDay.all (fun d => decide (d + s.reg PTN_DRILL_interval_d ≤ s.dev.rtc.secs / 86400)) = true ∧
    s.dev.rtc.secs % 86400 / 60 = min 1439 (s.reg PTN_DRILL_at_min) ∧ (s.w.ptnState ≠ 4 ∨ s.dev.ptn.hello.all (fun
    p => p.state != 3 || p.serial != s.w.patSerial || tst p.flags 1 || s.bitOf PTN_STATUS_mirror_stale || !s.bitOf
    PTN_STATUS_link_up || s.dev.ptn.acked != s.dev.ptn.sent) = true)) ∧
  (∃ (s : State) (t : Nat), ¬(s.w.serves = true ∧ s.w.ptnState ≠ 0 ∧ 0 < s.reg PTN_DRILL_interval_d ∧
    s.dev.ptn.drillDay.all (fun d => decide (d + s.reg PTN_DRILL_interval_d ≤ s.dev.rtc.secs / 86400)) = true ∧
    s.dev.rtc.secs % 86400 / 60 = min 1439 (s.reg PTN_DRILL_at_min))) ∧
  (∃ (s : State) (p : PtnHello), s.lanes ∧ s.dev.ptn.cmd = 0 ∧ s.w.ptnState = 4 ∧ s.dev.ptn.hello = some p ∧
    p.state = 3 ∧ p.serial = s.w.patSerial ∧ tst p.flags 1 = false ∧ s.bitOf PTN_STATUS_mirror_stale = false ∧
    s.bitOf PTN_STATUS_link_up = true ∧ s.dev.ptn.acked = s.dev.ptn.sent) ∧
  (∃ (s : State), s.lanes ∧ (s.dev.ptn.cmd ≠ 0 ∨ (s.w.ptnState ≠ 4 ∨ s.dev.ptn.hello.all (fun p => p.state != 3 ||
    p.serial != s.w.patSerial || tst p.flags 1 || s.bitOf PTN_STATUS_mirror_stale || !s.bitOf PTN_STATUS_link_up ||
    s.dev.ptn.acked != s.dev.ptn.sent) = true))) :=
  ⟨⟨(tPtn 3 [] id), tPm 0x16 [0, 0, 0, 0, 0, 9, 0, 0, 0, 3], [0, 0, 0, 0, 0, 9, 0, 0, 0, 3], by decide +kernel⟩,
   ⟨(tPtn 3 [] id), tPm 0x10 [], by decide +kernel⟩,
   ⟨(tPtn 3 [] (fun p => { p with swapAt := some 4000 })), 5000, 4000, by decide +kernel⟩,
   ⟨(tPtn 3 [] (fun p => { p with swapAt := some 4000 })), 3999, by decide +kernel⟩,
   ⟨(tPtn 6 [] (fun p => { p with swapAt := some 4000 })), 9000, 4000, by decide +kernel⟩,
   ⟨(tPtn 6 [] (fun p => { p with swapAt := some 4000 })), 8999, by decide +kernel⟩,
   ⟨(tPtn 3 [] (fun p => { p with drill := some 4000 })), 100004000, 4000, by decide +kernel⟩,
   ⟨(tPtn 3 [] (fun p => { p with drill := some 4000 })), 100003999, by decide +kernel⟩,
   ⟨(tPtn 4 [(PTN_DRILL_interval_d, 1), (PTN_DRILL_at_min, 0)] id), 5, ⟨3, 0, 1, 5, 0, 0⟩, by decide +kernel⟩,
   ⟨(tPtn 5 [(PTN_DRILL_interval_d, 1), (PTN_DRILL_at_min, 0)] id), 5, by decide +kernel⟩,
   ⟨(tPtn 4 [] id), 5, by decide +kernel⟩,
   ⟨(tPtn 4 [] id), ⟨3, 0, 1, 5, 0, 0⟩, by decide +kernel⟩,
   ⟨(tPtn 4 [] (fun p => { p with cmd := 2 })), by decide +kernel⟩⟩

theorem test_meets_FramesOfRegisterCommands :
  (∃ (s : State) (port : Nat) (u : State), exec (.sfpOvercurrent port) s = .next u) ∧
  (∃ (s : State) (u : State), exec .stageFw s = .next u) ∧
  (∃ (s : State) (u : State), exec .fwCommit s = .next u) ∧
  (∃ (s : State) (u : State), exec .verify s = .next u) ∧
  (∃ (s : State) (u : State), exec .cancel s = .next u) ∧
  (∃ (s : State) (n : Nat) (u : State), exec (.capNsRead n) s = .next u) ∧
  (∃ (s : State) (u : State), exec .tbsNowRead s = .next u) ∧
  (∃ (s : State) (index : Nat) (u : State), exec (.mapSet index) s = .next u) ∧
  (∃ (s : State) (u : State), exec .mapClear s = .next u) ∧
  (∃ (s : State) (u : State), exec .tcpAttach s = .next u) ∧
  (∃ (s : State) (u : State), exec .tcpDetach s = .next u) ∧
  (∃ (s : State) (v : W32) (u : State), exec (.mapQuery v) s = .next u) ∧
  (∃ (s : State) (n : Nat) (u : State), exec (.cfgAck n) s = .next u) ∧
  (∃ (s : State) (v : W32) (u : State), exec (.paramWrite v) s = .next u) ∧
  (∃ (s : State) (sel : GanSel) (v : W32) (u : State), exec (.ganSelLatch sel v) s = .next u) ∧
  (∃ (s : State) (c : Nat) (v : W32) (u : State), exec (.gcbCtrlWrite c v) s = .next u) ∧
  (∃ (s : State) (v : W32) (u : State), exec (.sysCfgWrite v) s = .next u) ∧
  (∃ (s : State) (u : State), exec .smpSnap s = .next u) ∧
  (∃ (s : State) (c : Nat) (u : State), exec (.peakRead c) s = .next u) ∧
  (∃ (s : State) (c : Nat) (v : W32) (u : State), exec (.chCfgWrite c v) s = .next u) ∧
  (∃ (s : State) (reg : Nat) (v : W32) (u : State), exec (.smpTestWrite reg v) s = .next u) ∧
  (∃ (s : State) (u : State), exec .wakeAddr s = .next u) ∧
  (∃ (s : State) (u : State), exec .schedChanged s = .next u) ∧
  (∃ (s : State) (slot : Nat) (u : State), exec (.store slot) s = .next u) ∧
  (∃ (s : State) (slot : Nat) (u : State), exec (.erase slot) s = .next u) ∧
  (∃ (s : State) (u : State), exec .stop s = .next u) ∧
  (∃ (s : State) (slot : Nat) (u : State), exec (.activate slot) s = .next u) ∧
  (∃ (s : State) (u : State), exec .cancelAct s = .next u) ∧
  (∃ (s : State) (n : Nat) (u : State), exec (.ledClear n) s = .next u) ∧
  (∃ (s : State) (c : Nat) (u : State), exec (.cal c) s = .next u) ∧
  (∃ (s : State) (p : Nat) (u : State), exec (.ledLoad p) s = .next u) ∧
  (∃ (s : State) (v : Option W32) (u : State), exec (.curveDataAccess v) s = .next u) ∧
  (∃ (s : State) (v : W32) (u : State), exec (.ledCtrlWrite v) s = .next u) ∧
  (∃ (s : State) (a : Nat) (u : State), exec (.accLoRead a) s = .next u) ∧
  (∃ (s : State) (a : Nat) (u : State), exec (.legRead a) s = .next u) ∧
  (∃ (s : State) (v : W32) (u : State), exec (.gapSelWrite v) s = .next u) ∧
  (∃ (s : State) (v : Option W32) (u : State), exec (.tcDataAccess v) s = .next u) ∧
  (∃ (s : State) (lane : Nat) (u : State), exec (.inject lane) s = .next u) ∧
  (∃ (s : State) (partition : Nat) (u : State), exec (.flRead partition) s = .next u) ∧
  (∃ (s : State) (partition : Nat) (u : State), exec (.flWrite partition) s = .next u) ∧
  (∃ (s : State) (partition : Nat) (u : State), exec (.flTrim partition) s = .next u) ∧
  (∃ (s : State) (partition : Nat) (u : State), exec (.flSync partition) s = .next u) ∧
  (∃ (s : State) (word : Nat) (v : W32) (u : State), exec (.irqMaskWrite word v) s = .next u) ∧
  (∃ (s : State) (q : Nat) (u : State), exec (.queueHwmRead q) s = .next u) ∧
  (∃ (s : State) (u : State), exec .oscStoppedClear s = .next u) ∧
  (∃ (s : State) (a : Nat) (v : W32) (u : State), exec (.alarmArm a v) s = .next u) ∧
  (∃ (s : State) (v : W32) (u : State), exec (.rdSel v) s = .next u) ∧
  (∃ (s : State) (u : State), exec .prfSnapshot s = .next u) ∧
  (∃ (s : State) (k : Nat) (u : State), exec (.clearSel k) s = .next u) ∧
  (∃ (s : State) (u : State), exec .smpStatClear s = .next u) ∧
  (∃ (s : State) (v : W32) (u : State), exec (.smpSelLatch v) s = .next u) ∧
  (∃ (s : State) (addr : Nat) (u : State), exec (.prfCntRead addr) s = .next u) ∧
  (∃ (s : State) (u : State), exec .blobSync s = .next u) ∧
  (∃ (s : State) (port : Nat) (up present los fault : Bool) (u : State), exec (.portLinkChange port up present los
    fault) s = .next u) :=
  ⟨⟨State.reset, (1), _, rfl⟩,
   ⟨State.reset, _, rfl⟩,
   ⟨State.reset, _, rfl⟩,
   ⟨State.reset, _, rfl⟩,
   ⟨State.reset, _, rfl⟩,
   ⟨State.reset, (3), _, rfl⟩,
   ⟨State.reset, _, rfl⟩,
   ⟨State.reset, (3), _, rfl⟩,
   ⟨State.reset, _, rfl⟩,
   ⟨State.reset, _, rfl⟩,
   ⟨State.reset, _, rfl⟩,
   ⟨State.reset, (7), _, rfl⟩,
   ⟨State.reset, (3), _, rfl⟩,
   ⟨State.reset, (0x00050006), _, rfl⟩,
   ⟨State.reset, .rule, (1), _, rfl⟩,
   ⟨State.reset, (3), (3), _, rfl⟩,
   ⟨State.reset, (0x10040001), _, rfl⟩,
   ⟨State.reset, _, rfl⟩,
   ⟨State.reset, (3), _, rfl⟩,
   ⟨State.reset, (3), (0x1101), _, rfl⟩,
   ⟨State.reset, (3), (0x1101), _, rfl⟩,
   ⟨State.reset, _, rfl⟩,
   ⟨State.reset, _, rfl⟩,
   ⟨State.reset, (3), _, rfl⟩,
   ⟨State.reset, (3), _, rfl⟩,
   ⟨State.reset, _, rfl⟩,
   ⟨State.reset, (3), _, rfl⟩,
   ⟨State.reset, _, rfl⟩,
   ⟨State.reset, (1), _, rfl⟩,
   ⟨State.reset, (1), _, rfl⟩,
   ⟨State.reset, (2), _, rfl⟩,
   ⟨State.reset, (let x : W32 := 5; (some x)), _, rfl⟩,
   ⟨State.reset, (0), _, rfl⟩,
   ⟨State.reset, (5), _, rfl⟩,
   ⟨State.reset, (5), _, rfl⟩,
   ⟨State.reset, (0), _, rfl⟩,
   ⟨State.reset, (let x : W32 := 5; (some x)), _, rfl⟩,
   ⟨State.reset, (1), _, rfl⟩,
   ⟨State.reset, (2), _, rfl⟩,
   ⟨State.reset, (2), _, rfl⟩,
   ⟨State.reset, (2), _, rfl⟩,
   ⟨State.reset, (0), _, rfl⟩,
   ⟨State.reset, (1), (4), _, rfl⟩,
   ⟨State.reset, (12), _, rfl⟩,
   ⟨State.reset, _, rfl⟩,
   ⟨State.reset, (1), (0x7F01), _, rfl⟩,
   ⟨State.reset, (3), _, rfl⟩,
   ⟨State.reset, _, rfl⟩,
   ⟨State.reset, (3), _, rfl⟩,
   ⟨State.reset, _, rfl⟩,
   ⟨State.reset, (0), _, rfl⟩,
   ⟨State.reset, (0x40151018), _, rfl⟩,
   ⟨State.reset, _, rfl⟩,
   ⟨State.reset, (0), (true), (true), (false), (true), _, rfl⟩⟩

theorem test_meets_FramesOfEventCommands :
  (∃ (s : State) (conn seq : Nat) (data : List Byte) (u : State), exec (.tcpLaneSegmentTx conn seq data) s = .next
    u) ∧
  (∃ (s : State) (word : Nat) (v : W32) (u : State), exec (.ruleEnable word v) s = .next u) ∧
  (∃ (s : State) (word : Nat) (v : W32) (u : State), exec (.ruleAck word v) s = .next u) ∧
  (∃ (s : State) (v : W32) (u : State), exec (.ganCtrlWrite v) s = .next u) ∧
  (∃ (s : State) (n : Nat) (v : W32) (u : State), exec (.phsSetWrite n v) s = .next u) ∧
  (∃ (s : State) (v : W32) (u : State), exec (.smpCtrlWrite v) s = .next u) ∧
  (∃ (s : State) (l : Nat) (v : W32) (u : State), exec (.linkCfgWrite l v) s = .next u) ∧
  (∃ (s : State) (u : State), exec .loadAll s = .next u) ∧
  (∃ (s : State) (index : Nat) (u : State), exec (.loadOne index) s = .next u) ∧
  (∃ (s : State) (n : Nat) (u : State), exec (.grRelease n) s = .next u) ∧
  (∃ (s : State) (u : State), exec .stageClear s = .next u) ∧
  (∃ (s : State) (v : W32) (u : State), exec (.lmpInject v) s = .next u) ∧
  (∃ (s : State) (v : W32) (u : State), exec (.lmpCtrlWrite v) s = .next u) ∧
  (∃ (s : State) (u : State), exec .saveNow s = .next u) ∧
  (∃ (s : State) (a : Nat) (u : State), exec (.accClear a) s = .next u) ∧
  (∃ (s : State) (word : Nat) (v : W32) (u : State), exec (.irqPendWrite word v) s = .next u) ∧
  (∃ (s : State) (op : AmoOp) (addr : Nat) (v : W32) (u : State), exec (.irqAmo op addr v) s = .next u) ∧
  (∃ (s : State) (tgt grp : Nat) (v : W32) (u : State), exec (.ridxWrite tgt grp v) s = .next u) ∧
  (∃ (s : State) (tgt : Nat) (v : W32) (u : State), exec (.threshWrite tgt v) s = .next u) ∧
  (∃ (s : State) (k : Nat) (u : State), exec (.rtcTimeRead k) s = .next u) ∧
  (∃ (s : State) (a : Nat) (date : Bool) (v : W32) (u : State), exec (.alarmWrite a date v) s = .next u) ∧
  (∃ (s : State) (slot : Nat) (u : State), exec (.keyLoad slot) s = .next u) ∧
  (∃ (s : State) (slot : Nat) (u : State), exec (.unload slot) s = .next u) ∧
  (∃ (s : State) (u : State), exec .challenge s = .next u) ∧
  (∃ (s : State) (u : State), exec .authorise s = .next u) ∧
  (∃ (s : State) (machine : Bool) (target : Nat) (u : State), exec (.lcChange machine target) s = .next u) ∧
  (∃ (s : State) (machine : Bool) (u : State), exec (.clearTamper machine) s = .next u) ∧
  (∃ (s : State) (machine : Bool) (entry : Nat) (u : State), exec (.anchorWrite machine entry) s = .next u) ∧
  (∃ (s : State) (slot : Nat) (u : State), exec (.opVerify slot) s = .next u) ∧
  (∃ (s : State) (hart : Nat) (v : W32) (u : State), exec (.swRecord hart v) s = .next u) ∧
  (∃ (s : State) (log : Nat) (u : State), exec (.recClear log) s = .next u) ∧
  (∃ (s : State) (v : W32) (u : State), exec (.rlCfgWrite v) s = .next u) ∧
  (∃ (s : State) (v : W32) (u : State), exec (.swInc v) s = .next u) ∧
  (∃ (s : State) (u : State), exec .resetInd s = .next u) ∧
  (∃ (s : State) (hart : Nat) (u : State), exec (.hartIdle hart) s = .next u) :=
  ⟨⟨State.reset, (3), (5), ([]), _, rfl⟩,
   ⟨State.reset, (0), (1), _, rfl⟩,
   ⟨State.reset, (0), (2), _, rfl⟩,
   ⟨State.reset, (0x640001), _, rfl⟩,
   ⟨State.reset, (3), (0x1101), _, rfl⟩,
   ⟨State.reset, (0), _, rfl⟩,
   ⟨State.reset, (3), (0x1101), _, rfl⟩,
   ⟨State.reset, _, rfl⟩,
   ⟨State.reset, (1), _, rfl⟩,
   ⟨State.reset, (3), _, rfl⟩,
   ⟨State.reset, _, rfl⟩,
   ⟨State.reset, (5), _, rfl⟩,
   ⟨State.reset, (1), _, rfl⟩,
   ⟨State.reset, _, rfl⟩,
   ⟨State.reset, (5), _, rfl⟩,
   ⟨State.reset, (1), (4), _, rfl⟩,
   ⟨State.reset, (.or), (0x40110108), (6), _, rfl⟩,
   ⟨State.reset, (1), (3), (4), _, rfl⟩,
   ⟨State.reset, (1), (2), _, rfl⟩,
   ⟨State.reset, (1), _, rfl⟩,
   ⟨State.reset, (1), true, (0x7D0101), _, rfl⟩,
   ⟨State.reset, (3), _, rfl⟩,
   ⟨State.reset, (3), _, rfl⟩,
   ⟨State.reset, _, rfl⟩,
   ⟨State.reset, _, rfl⟩,
   ⟨State.reset, true, (3), _, rfl⟩,
   ⟨State.reset, true, _, rfl⟩,
   ⟨State.reset, true, (2), _, rfl⟩,
   ⟨State.reset, (57), _, rfl⟩,
   ⟨State.reset, (1), (0xE05), _, rfl⟩,
   ⟨State.reset, (0), _, rfl⟩,
   ⟨State.reset, (0x80000A04), _, rfl⟩,
   ⟨State.reset, (0x8001), _, rfl⟩,
   ⟨State.reset, _, rfl⟩,
   ⟨State.reset, (2), _, rfl⟩⟩

theorem test_meets_FramesOfTimedCommands :
  (∃ (s : State) (port : Nat) (f : EthFrame) (t : Nat) (u : State), exec (.switchFrameRx port f t) s = .next u) ∧
  (∃ (s : State) (t : Nat) (u : State), exec (.pfailNFall t) s = .next u) ∧
  (∃ (s : State) (v : W32) (t : Nat) (u : State), exec (.watchdogKick v t) s = .next u) ∧
  (∃ (s : State) (t : Nat) (u : State), exec (.bootLoopClear t) s = .next u) ∧
  (∃ (s : State) (t : Nat) (u : State), exec (.overvoltageLockout t) s = .next u) ∧
  (∃ (s : State) (t : Nat) (u : State), exec (.holdupChargerStop t) s = .next u) ∧
  (∃ (s : State) (t : Nat) (u : State), exec (.saveSettings t) s = .next u) ∧
  (∃ (s : State) (ok : Bool) (t : Nat) (u : State), exec (.stageFwDone ok t) s = .next u) ∧
  (∃ (s : State) (t : Nat) (u : State), exec (.autoSave t) s = .next u) ∧
  (∃ (s : State) (t : Nat) (u : State), exec (.verifyDone t) s = .next u) ∧
  (∃ (s : State) (t : Nat) (u : State), exec (.arm t) s = .next u) ∧
  (∃ (s : State) (t : Nat) (u : State), exec (.commit t) s = .next u) ∧
  (∃ (s : State) (port : Nat) (k : PtpTx) (t : Nat) (u : State), exec (.ptpMessageTx port k t) s = .next u) ∧
  (∃ (s : State) (t : Nat) (u : State), exec (.announceTimeout t) s = .next u) ∧
  (∃ (s : State) (t : Nat) (u : State), exec (.ppsLost t) s = .next u) ∧
  (∃ (s : State) (t : Nat) (u : State), exec (.ref10mValid t) s = .next u) ∧
  (∃ (s : State) (t : Nat) (u : State), exec (.ref10mLost t) s = .next u) ∧
  (∃ (s : State) (u : State), exec .hold s = .next u) ∧
  (∃ (s : State) (u : State), exec .release s = .next u) ∧
  (∃ (s : State) (t : Nat) (u : State), exec (.slewDone t) s = .next u) ∧
  (∃ (s : State) (v : W32) (u : State), exec (.tbsCtrlWrite v) s = .next u) ∧
  (∃ (s : State) (t : Nat) (u : State), exec (.leapSecond t) s = .next u) ∧
  (∃ (s : State) (t : Nat) (u : State), exec (.leapOccurredExpire t) s = .next u) ∧
  (∃ (s : State) (n : Nat) (v : W32) (u : State), exec (.triggerArm n v) s = .next u) ∧
  (∃ (s : State) (t : Nat) (u : State), exec (.epochTick t) s = .next u) ∧
  (∃ (s : State) (t : Nat) (u : State), exec (.ppsOutRise t) s = .next u) ∧
  (∃ (s : State) (t : Nat) (u : State), exec (.ppsOutFall t) s = .next u) ∧
  (∃ (s : State) (input : Nat) (rising : Bool) (t frac : Nat) (u : State), exec (.captureEdge input rising t frac)
    s = .next u) ∧
  (∃ (s : State) (n : Nat) (u : State), exec (.capPop n) s = .next u) ∧
  (∃ (s : State) (conn t : Nat) (u : State), exec (.tcpAckTimer conn t) s = .next u) ∧
  (∃ (s : State) (g inst t : Nat) (u : State), exec (.latencySample g inst t) s = .next u) ∧
  (∃ (s : State) (t : Nat) (u : State), exec (.notice t) s = .next u) ∧
  (∃ (s : State) (signal t : Nat) (u : State), exec (.tunerReport signal t) s = .next u) ∧
  (∃ (s : State) (t : Nat) (u : State), exec (.crierRecord t) s = .next u) ∧
  (∃ (s : State) (t : Nat) (u : State), exec (.alarmHeartbeat t) s = .next u) ∧
  (∃ (s : State) (c t : Nat) (u : State), exec (.gooseRetransmit c t) s = .next u) ∧
  (∃ (s : State) (m : BrdMsg) (u : State), exec (.alarmFanRx m) s = .next u) ∧
  (∃ (s : State) (m : BrdMsg) (u : State), exec (.abortRx m) s = .next u) ∧
  (∃ (s : State) (m : BrdMsg) (u : State), exec (.confirmRx m) s = .next u) ∧
  (∃ (s : State) (m : BrdMsg) (u : State), exec (.livenessRx m) s = .next u) ∧
  (∃ (s : State) (t : Nat) (u : State), exec (.livenessSend t) s = .next u) ∧
  (∃ (s : State) (op : Nat) (u : State), exec (.gopAbort op) s = .next u) ∧
  (∃ (s : State) (origin op t : Nat) (u : State), exec (.confirmDeadline origin op t) s = .next u) ∧
  (∃ (s : State) (f : AdcFrame) (u : State), exec (.adcFrame f) s = .next u) ∧
  (∃ (s : State) (f : SvFrame) (u : State), exec (.svFrame f) s = .next u) ∧
  (∃ (s : State) (n t : Nat) (u : State), exec (.svProcess n t) s = .next u) ∧
  (∃ (s : State) (inst t : Nat) (u : State), exec (.phasorReport inst t) s = .next u) ∧
  (∃ (s : State) (t : Nat) (u : State), exec (.fieldCycleDone t) s = .next u) ∧
  (∃ (s : State) (t : Nat) (u : State), exec (.gridResponseCmd t) s = .next u) ∧
  (∃ (s : State) (k t : Nat) (u : State), exec (.contactorDeferred k t) s = .next u) ∧
  (∃ (s : State) (t : Nat) (u : State), exec (.levelOrder t) s = .next u) ∧
  (∃ (s : State) (t : Nat) (u : State), exec (.orderLocalApply t) s = .next u) ∧
  (∃ (s : State) (t : Nat) (u : State), exec (.astroCompute t) s = .next u) ∧
  (∃ (s : State) (t : Nat) (u : State), exec (.sensorEvent t) s = .next u) ∧
  (∃ (s : State) (n t : Nat) (u : State), exec (.grHoldExpire n t) s = .next u) ∧
  (∃ (s : State) (n t : Nat) (u : State), exec (.trackExpire n t) s = .next u) ∧
  (∃ (s : State) (t : Nat) (u : State), exec (.gridStateTake t) s = .next u) ∧
  (∃ (s : State) (t : Nat) (u : State), exec (.orderRecord t) s = .next u) ∧
  (∃ (s : State) (t : Nat) (u : State), exec (.wakePatternDone t) s = .next u) ∧
  (∃ (s : State) (t : Nat) (u : State), exec (.schedTimer t) s = .next u) ∧
  (∃ (s : State) (flashOk : Bool) (t : Nat) (u : State), exec (.storeDone flashOk t) s = .next u) ∧
  (∃ (s : State) (t : Nat) (u : State), exec (.chandlerRecord t) s = .next u) ∧
  (∃ (s : State) (t : Nat) (u : State), exec (.recTimeout t) s = .next u) ∧
  (∃ (s : State) (c : Nat) (edges : List Nat) (t : Nat) (u : State), exec (.trimUpdate c edges t) s = .next u) ∧
  (∃ (s : State) (c t : Nat) (u : State), exec (.csetTempStale c t) s = .next u) ∧
  (∃ (s : State) (n cause t : Nat) (u : State), exec (.stringFault n cause t) s = .next u) ∧
  (∃ (s : State) (n t : Nat) (u : State), exec (.retryExpire n t) s = .next u) ∧
  (∃ (s : State) (n t : Nat) (u : State), exec (.retryCountReset n t) s = .next u) ∧
  (∃ (s : State) (n t : Nat) (u : State), exec (.softStartDone n t) s = .next u) ∧
  (∃ (s : State) (dark ref : List Nat) (t : Nat) (u : State), exec (.calDone dark ref t) s = .next u) ∧
  (∃ (s : State) (p t : Nat) (u : State), exec (.shiftDone p t) s = .next u) ∧
  (∃ (s : State) (p t : Nat) (u : State), exec (.frameSyncEdge p t) s = .next u) ∧
  (∃ (s : State) (t : Nat) (u : State), exec (.assayerRecord t) s = .next u) ∧
  (∃ (s : State) (n t : Nat) (u : State), exec (.pulseInEdge n t) s = .next u) ∧
  (∃ (s : State) (n t : Nat) (u : State), exec (.pulseRateSecond n t) s = .next u) ∧
  (∃ (s : State) (o t : Nat) (u : State), exec (.poutPulseStart o t) s = .next u) ∧
  (∃ (s : State) (o t : Nat) (u : State), exec (.poutPulseEnd o t) s = .next u) ∧
  (∃ (s : State) (t : Nat) (u : State), exec (.periodicSave t) s = .next u) ∧
  (∃ (s : State) (src t : Nat) (u : State), exec (.mtrTempStale src t) s = .next u) ∧
  (∃ (s : State) (hart t : Nat) (u : State), exec (.voteWindowExpire hart t) s = .next u) ∧
  (∃ (s : State) (lane hart : Nat) (cause : LocalCause) (t : Nat) (u : State), exec (.localFault lane hart cause t)
    s = .next u) ∧
  (∃ (s : State) (pass : Bool) (t : Nat) (u : State), exec (.selftestDone pass t) s = .next u) ∧
  (∃ (s : State) (lines t : Nat) (u : State), exec (.copyPassDone lines t) s = .next u) ∧
  (∃ (s : State) (t : Nat) (u : State), exec (.resyncRestart t) s = .next u) ∧
  (∃ (s : State) (hart skew : Nat) (t : Nat) (u : State), exec (.deliveryPoint hart skew t) s = .next u) ∧
  (∃ (s : State) (lane t : Nat) (u : State), exec (.lnvResync lane t) s = .next u) ∧
  (∃ (s : State) (region t : Nat) (u : State), exec (.scrubPass region t) s = .next u) ∧
  (∃ (s : State) (addr cls block : Nat) (bad : Bool) (t : Nat) (u : State), exec (.memoryError addr cls block bad
    t) s = .next u) ∧
  (∃ (s : State) (tgt t : Nat) (u : State), exec (.moderationExpire tgt t) s = .next u) ∧
  (∃ (s : State) (t : Nat) (u : State), exec (.shadowTimeout t) s = .next u) ∧
  (∃ (s : State) (t : Nat) (u : State), exec (.oscStopped t) s = .next u) ∧
  (∃ (s : State) (t : Nat) (u : State), exec (.grantExpire t) s = .next u) ∧
  (∃ (s : State) (t : Nat) (u : State), exec (.scrivenerRecord t) s = .next u) ∧
  (∃ (s : State) (t : Nat) (u : State), exec (.lostRecordEmit t) s = .next u) ∧
  (∃ (s : State) (code t : Nat) (u : State), exec (.tokenGain code t) s = .next u) ∧
  (∃ (s : State) (isOn : Bool) (t : Nat) (u : State), exec (.freeze isOn t) s = .next u) ∧
  (∃ (s : State) (t : Nat) (u : State), exec (.dailySample t) s = .next u) ∧
  (∃ (s : State) (t : Nat) (u : State), exec (.helloSend t) s = .next u) ∧
  (∃ (s : State) (t : Nat) (u : State), exec (.mirrorSend t) s = .next u) ∧
  (∃ (s : State) (t : Nat) (u : State), exec (.maccMirror t) s = .next u) ∧
  (∃ (s : State) (m : BrdMsg) (u : State), exec (.mirrorAckRx m) s = .next u) ∧
  (∃ (s : State) (m : BrdMsg) (u : State), exec (.syncReqRx m) s = .next u) ∧
  (∃ (s : State) (t : Nat) (u : State), exec (.fullCopyDone t) s = .next u) ∧
  (∃ (s : State) (m : BrdMsg) (u : State), exec (.swapRx m) s = .next u) ∧
  (∃ (s : State) (t : Nat) (u : State), exec (.oscillatorRestart t) s = .next u) ∧
  (∃ (s : State) (t : Nat) (u : State), exec (.blobSyncDone t) s = .next u) ∧
  (∃ (s : State) (t : Nat) (u : State), exec (.glideUpdate t) s = .next u) ∧
  (∃ (s : State) (n t : Nat) (u : State), exec (.stringRunSecond n t) s = .next u) :=
  ⟨⟨State.reset, (0), (⟨0x112233445566, 0x665544332211, none, 0x88BA, []⟩), (5), _, rfl⟩,
   ⟨State.reset, (5), _, rfl⟩,
   ⟨State.reset, (0x4B49), (5), _, rfl⟩,
   ⟨State.reset, (60000000000), _, rfl⟩,
   ⟨State.reset, (5), _, rfl⟩,
   ⟨State.reset, (5), _, rfl⟩,
   ⟨State.reset, (5), _, rfl⟩,
   ⟨State.reset, true, (5), _, rfl⟩,
   ⟨State.reset, (1000000000), _, rfl⟩,
   ⟨State.reset, (5), _, rfl⟩,
   ⟨State.reset, (5), _, rfl⟩,
   ⟨State.reset, (5), _, rfl⟩,
   ⟨State.reset, (0), .delayReq, (5), _, rfl⟩,
   ⟨State.reset, (24000000000), _, rfl⟩,
   ⟨State.reset, (1100000000), _, rfl⟩,
   ⟨State.reset, (5), _, rfl⟩,
   ⟨State.reset, (5), _, rfl⟩,
   ⟨State.reset, _, rfl⟩,
   ⟨State.reset, _, rfl⟩,
   ⟨State.reset, (5), _, rfl⟩,
   ⟨State.reset, (0x1200), _, rfl⟩,
   ⟨State.reset, (3000000000), _, rfl⟩,
   ⟨State.reset, (86400000000000), _, rfl⟩,
   ⟨State.reset, (2), (1), _, rfl⟩,
   ⟨State.reset, (7000000000), _, rfl⟩,
   ⟨State.reset, (7000000000), _, rfl⟩,
   ⟨State.reset, (999000000), _, rfl⟩,
   ⟨State.reset, (0), (true), (5), (9), _, rfl⟩,
   ⟨State.reset, (3), _, rfl⟩,
   ⟨State.reset, (3), (5000000), _, rfl⟩,
   ⟨State.reset, (0), (1000000000), (1100000000), _, rfl⟩,
   ⟨State.reset, (1000), _, rfl⟩,
   ⟨State.reset, (4), (1000), _, rfl⟩,
   ⟨State.reset, (1000), _, rfl⟩,
   ⟨State.reset, (1000000000), _, rfl⟩,
   ⟨State.reset, (3), (20000000), _, rfl⟩,
   ⟨State.reset, (tBrd 8 0 [1, 2]), _, rfl⟩,
   ⟨State.reset, (tBrd 4 0 []), _, rfl⟩,
   ⟨State.reset, (tBrd 5 3 [0, 1, 0, 0, 0, 0, 0, 0, 0, 0]), _, rfl⟩,
   ⟨State.reset, (tBrd 9 0 [5]), _, rfl⟩,
   ⟨State.reset, (1000000000), _, rfl⟩,
   ⟨State.reset, (9), _, rfl⟩,
   ⟨State.reset, (0), (9), (2000000000), _, rfl⟩,
   ⟨State.reset, ({ tAdc 2 with crc := (tAdc 2).crc + 1 }), _, rfl⟩,
   ⟨State.reset, (⟨0x4000, false, [⟨1, 5, 2, List.replicate 8 ⟨0, 0, false⟩⟩], 1002000000⟩), _, rfl⟩,
   ⟨State.reset, (4805), (1010000000), _, rfl⟩,
   ⟨State.reset, (1000000000), (2000000000), _, rfl⟩,
   ⟨State.reset, (0), _, rfl⟩,
   ⟨State.reset, (0), _, rfl⟩,
   ⟨State.reset, (3), (1000), _, rfl⟩,
   ⟨State.reset, (0), _, rfl⟩,
   ⟨State.reset, (10), _, rfl⟩,
   ⟨State.reset, (1000), _, rfl⟩,
   ⟨State.reset, (0), _, rfl⟩,
   ⟨State.reset, (3), (1000000000), _, rfl⟩,
   ⟨State.reset, (3), (10000000000000), _, rfl⟩,
   ⟨State.reset, (0), _, rfl⟩,
   ⟨State.reset, (0), _, rfl⟩,
   ⟨State.reset, (100), _, rfl⟩,
   ⟨State.reset, (100), _, rfl⟩,
   ⟨State.reset, (true), (5), _, rfl⟩,
   ⟨State.reset, (1000), _, rfl⟩,
   ⟨State.reset, (5000000000), _, rfl⟩,
   ⟨State.reset, (1), ([500]), (1000), _, rfl⟩,
   ⟨State.reset, (1), (10000000000), _, rfl⟩,
   ⟨State.reset, (1), (1), (1000), _, rfl⟩,
   ⟨State.reset, (1), (300000000000), _, rfl⟩,
   ⟨State.reset, (1), (60000000000), _, rfl⟩,
   ⟨State.reset, (1), (60000000000), _, rfl⟩,
   ⟨State.reset, ([100]), ([600000]), (1000000000), _, rfl⟩,
   ⟨State.reset, (2), (1000000), _, rfl⟩,
   ⟨State.reset, (2), (1000), _, rfl⟩,
   ⟨State.reset, (5), _, rfl⟩,
   ⟨State.reset, (3), (1000), _, rfl⟩,
   ⟨State.reset, (3), (1000000000), _, rfl⟩,
   ⟨State.reset, (3), (1000000000), _, rfl⟩,
   ⟨State.reset, (3), (1000000000), _, rfl⟩,
   ⟨State.reset, (4000000000000), _, rfl⟩,
   ⟨State.reset, (2), (10000000000), _, rfl⟩,
   ⟨State.reset, (2), (1000000), _, rfl⟩,
   ⟨State.reset, (1), (2), (.l2), (1000), _, rfl⟩,
   ⟨State.reset, (false), (1000), _, rfl⟩,
   ⟨State.reset, (500), (1000), _, rfl⟩,
   ⟨State.reset, (1000), _, rfl⟩,
   ⟨State.reset, (2), (100), (1000), _, rfl⟩,
   ⟨State.reset, (1), (1000), _, rfl⟩,
   ⟨State.reset, (1), (3600000000000), _, rfl⟩,
   ⟨State.reset, (0x800000040), (2), (5), false, (1000), _, rfl⟩,
   ⟨State.reset, (1), (2000), _, rfl⟩,
   ⟨State.reset, (1000000000), _, rfl⟩,
   ⟨State.reset, (5000000), _, rfl⟩,
   ⟨State.reset, (300000000000), _, rfl⟩,
   ⟨State.reset, (5), _, rfl⟩,
   ⟨State.reset, (1000000), _, rfl⟩,
   ⟨State.reset, (0x200), (10000000), _, rfl⟩,
   ⟨State.reset, true, (5), _, rfl⟩,
   ⟨State.reset, (5), _, rfl⟩,
   ⟨State.reset, (1000000000), _, rfl⟩,
   ⟨State.reset, (5), _, rfl⟩,
   ⟨State.reset, (1000000000), _, rfl⟩,
   ⟨State.reset, (tPm 0x12 [0, 0, 0, 9]), _, rfl⟩,
   ⟨State.reset, (tPm 0x13 []), _, rfl⟩,
   ⟨State.reset, (5), _, rfl⟩,
   ⟨State.reset, (tPm 0x16 [0, 0, 0, 0, 0, 9, 0, 0, 0, 3]), _, rfl⟩,
   ⟨State.reset, (5000000), _, rfl⟩,
   ⟨State.reset, (5), _, rfl⟩,
   ⟨State.reset, (1000), _, rfl⟩,
   ⟨State.reset, (1), (1000), _, rfl⟩⟩

theorem test_meets_FramesOfStoringCommands :
  (∃ (s : State) (t : Nat) (u : State), exec (.commitDone t) s = .next u) ∧
  (∃ (s : State) (index : Nat) (u : State), exec (.ingInvalidate index) s = .next u) ∧
  (∃ (s : State) (index : Nat) (u : State), exec (.ingFlush index) s = .next u) ∧
  (∃ (s : State) (index : Nat) (u : State), exec (.ingClear index) s = .next u) ∧
  (∃ (s : State) (index t : Nat) (u : State), exec (.ingWriteback index t) s = .next u) ∧
  (∃ (s : State) (r seq t : Nat) (u : State), exec (.immAckRx r seq t) s = .next u) ∧
  (∃ (s : State) (g : Nat) (u : State), exec (.radInvalidate g) s = .next u) ∧
  (∃ (s : State) (g : Nat) (u : State), exec (.radEnable g) s = .next u) ∧
  (∃ (s : State) (g : Nat) (u : State), exec (.radDisable g) s = .next u) ∧
  (∃ (s : State) (g : Nat) (u : State), exec (.radFlush g) s = .next u) ∧
  (∃ (s : State) (g : Nat) (u : State), exec (.radClear g) s = .next u) ∧
  (∃ (s : State) (g : Nat) (u : State), exec (.resetCtr g) s = .next u) ∧
  (∃ (s : State) (g : Nat) (u : State), exec (.wake g) s = .next u) ∧
  (∃ (s : State) (g t : Nat) (u : State), exec (.nodeTimeout g t) s = .next u) ∧
  (∃ (s : State) (g t : Nat) (u : State), exec (.radWriteback g t) s = .next u) ∧
  (∃ (s : State) (slot : Nat) (u : State), exec (.start slot) s = .next u) ∧
  (∃ (s : State) (t : Nat) (u : State), exec (.pedlarReport t) s = .next u) ∧
  (∃ (s : State) (t : Nat) (u : State), exec (.pollEnd t) s = .next u) ∧
  (∃ (s : State) (ok : Bool) (life : Nat) (t : Nat) (u : State), exec (.flCmdDone ok life t) s = .next u) ∧
  (∃ (s : State) (tgt grp t : Nat) (u : State), exec (.irqRecordWrite tgt grp t) s = .next u) ∧
  (∃ (s : State) (machine : Bool) (slot target : Nat) (u : State), exec (.importKey machine slot target) s = .next
    u) ∧
  (∃ (s : State) (machine : Bool) (slot aux : Nat) (u : State), exec (.exportKey machine slot aux) s = .next u) ∧
  (∃ (s : State) (machine : Bool) (aux : Nat) (u : State), exec (.rewrapNext machine aux) s = .next u) ∧
  (∃ (s : State) (slot : Nat) (u : State), exec (.opHmac slot) s = .next u) ∧
  (∃ (s : State) (slot : Nat) (u : State), exec (.opGcmEnc slot) s = .next u) ∧
  (∃ (s : State) (slot : Nat) (u : State), exec (.opGcmDec slot) s = .next u) :=
  ⟨⟨State.reset, (5), _, rfl⟩,
   ⟨State.reset, (3), _, rfl⟩,
   ⟨State.reset, (3), _, rfl⟩,
   ⟨State.reset, (3), _, rfl⟩,
   ⟨State.reset, (3), (5), _, rfl⟩,
   ⟨State.reset, (0), (7), (100), _, rfl⟩,
   ⟨State.reset, (2), _, rfl⟩,
   ⟨State.reset, (3), _, rfl⟩,
   ⟨State.reset, (2), _, rfl⟩,
   ⟨State.reset, (2), _, rfl⟩,
   ⟨State.reset, (2), _, rfl⟩,
   ⟨State.reset, (2), _, rfl⟩,
   ⟨State.reset, (2), _, rfl⟩,
   ⟨State.reset, (2), (1000000000), _, rfl⟩,
   ⟨State.reset, (2), (100), _, rfl⟩,
   ⟨State.reset, (3), _, rfl⟩,
   ⟨State.reset, (5), _, rfl⟩,
   ⟨State.reset, (5), _, rfl⟩,
   ⟨State.reset, true, (5), (1000), _, rfl⟩,
   ⟨State.reset, (0), (0), (2000), _, rfl⟩,
   ⟨State.reset, true, (5), (2), _, rfl⟩,
   ⟨State.reset, true, (3), (0xFF), _, rfl⟩,
   ⟨State.reset, true, (1), _, rfl⟩,
   ⟨State.reset, (3), _, rfl⟩,
   ⟨State.reset, (3), _, rfl⟩,
   ⟨State.reset, (3), _, rfl⟩⟩

theorem test_meets_FramesOfTableCommands :
  (∃ (s : State) (port : Nat) (m : PtpFrame) (t : Nat) (u : State), exec (.ptpMessageRx port m t) s = .next u) ∧
  (∃ (s : State) (gnss : Bool) (sec : Nat) (t : Nat) (u : State), exec (.ppsEdge gnss sec t) s = .next u) ∧
  (∃ (s : State) (u : State), exec .step s = .next u) ∧
  (∃ (s : State) (f : C37Frame) (u : State), exec (.ingressFrame f) s = .next u) ∧
  (∃ (s : State) (g : TcpSeg) (u : State), exec (.tcpSegmentRx g) s = .next u) ∧
  (∃ (s : State) (index : Nat) (u : State), exec (.ingEnable index) s = .next u) ∧
  (∃ (s : State) (index : Nat) (u : State), exec (.ingDisable index) s = .next u) ∧
  (∃ (s : State) (v : W32) (u : State), exec (.ingCtrlWrite v) s = .next u) ∧
  (∃ (s : State) (t : Nat) (u : State), exec (.silenceScan t) s = .next u) ∧
  (∃ (s : State) (loc : Bool) (t : Nat) (u : State), exec (.recordPlace loc t) s = .next u) ∧
  (∃ (s : State) (g inst : Nat) (u : State), exec (.setOpen g inst) s = .next u) ∧
  (∃ (s : State) (g inst t : Nat) (u : State), exec (.setExpire g inst t) s = .next u) ∧
  (∃ (s : State) (v : W32) (u : State), exec (.alnCtrlWrite v) s = .next u) ∧
  (∃ (s : State) (g : Nat) (v : W32) (u : State), exec (.alnGrpCtrlWrite g v) s = .next u) ∧
  (∃ (s : State) (m : BrdMsg) (u : State), exec (.gopAnnounceRx m) s = .next u) ∧
  (∃ (s : State) (m : BrdMsg) (u : State), exec (.barrierEnterRx m) s = .next u) ∧
  (∃ (s : State) (m : BrdMsg) (u : State), exec (.barrierReleaseRx m) s = .next u) ∧
  (∃ (s : State) (module t : Nat) (u : State), exec (.moduleDown module t) s = .next u) ∧
  (∃ (s : State) (late level : Bool) (u : State), exec (.gopBroadcast late level) s = .next u) ∧
  (∃ (s : State) (late : Bool) (u : State), exec (.gopSnapshot late) s = .next u) ∧
  (∃ (s : State) (kind : Nat) (u : State), exec (.gopReset kind) s = .next u) ∧
  (∃ (s : State) (late : Bool) (number : Nat) (u : State), exec (.gopEnter late number) s = .next u) ∧
  (∃ (s : State) (number t : Nat) (u : State), exec (.barrierTimeout number t) s = .next u) ∧
  (∃ (s : State) (r n : Nat) (u : State), exec (.beaconBoundary r n) s = .next u) ∧
  (∃ (s : State) (r k : Nat) (marks : List (Nat × Int)) (u : State), exec (.slotStart r k marks) s = .next u) ∧
  (∃ (s : State) (f : RadioFrame) (t : Nat) (u : State), exec (.radioFrameRx f t) s = .next u) ∧
  (∃ (s : State) (q : Nat) (u : State), exec (.queueFlush q) s = .next u) ∧
  (∃ (s : State) (q : Nat) (u : State), exec (.flushBoundary q) s = .next u) ∧
  (∃ (s : State) (q t : Nat) (u : State), exec (.flushTimeout q t) s = .next u) ∧
  (∃ (s : State) (q : Nat) (u : State), exec (.queueReset q) s = .next u) ∧
  (∃ (s : State) (q : Nat) (u : State), exec (.ptrMismatch q) s = .next u) ∧
  (∃ (s : State) (q : Nat) (v : W32) (u : State), exec (.queueWdata q v) s = .next u) ∧
  (∃ (s : State) (q : Nat) (v : W32) (u : State), exec (.queueWend q v) s = .next u) ∧
  (∃ (s : State) (q : Nat) (u : State), exec (.queueRdata q) s = .next u) ∧
  (∃ (s : State) (q : Nat) (u : State), exec (.queueSpace q) s = .next u) ∧
  (∃ (s : State) (m : BrdMsg) (u : State), exec (.helloRx m) s = .next u) ∧
  (∃ (s : State) (t : Nat) (u : State), exec (.partnerLost t) s = .next u) ∧
  (∃ (s : State) (t : Nat) (u : State), exec (.seekTimeout t) s = .next u) ∧
  (∃ (s : State) (m : BrdMsg) (u : State), exec (.syncDoneRx m) s = .next u) ∧
  (∃ (s : State) (m : BrdMsg) (u : State), exec (.stopRx m) s = .next u) ∧
  (∃ (s : State) (t : Nat) (u : State), exec (.swapInstant t) s = .next u) ∧
  (∃ (s : State) (t : Nat) (u : State), exec (.swapHandover t) s = .next u) ∧
  (∃ (s : State) (t : Nat) (u : State), exec (.drillCheck t) s = .next u) ∧
  (∃ (s : State) (t : Nat) (u : State), exec (.drillDue t) s = .next u) ∧
  (∃ (s : State) (u : State), exec .ptnSwap s = .next u) ∧
  (∃ (s : State) (u : State), exec .ptnResync s = .next u) ∧
  (∃ (s : State) (u : State), exec .take s = .next u) ∧
  (∃ (s : State) (v : W32) (u : State), exec (.ptnEnableWrite v) s = .next u) ∧
  (∃ (s : State) (link : Bool) (t : Nat) (u : State), exec (.pairPathLost link t) s = .next u) :=
  ⟨⟨State.reset, (0), (let dom : Nat := 0; let m : PtpMaster := ⟨2,6,0,0,1,9,0,none⟩; ⟨dom, .announce m⟩), (5), _,
     rfl⟩,
   ⟨State.reset, (false), (0), (5), _, rfl⟩,
   ⟨State.reset, _, rfl⟩,
   ⟨State.reset, (tFrame), _, rfl⟩,
   ⟨State.reset, (⟨false, [], [], 1, 2, 10, false, false, [0xAA, 1], [], 5⟩), _, rfl⟩,
   ⟨State.reset, (2), _, rfl⟩,
   ⟨State.reset, (2), _, rfl⟩,
   ⟨State.reset, (1), _, rfl⟩,
   ⟨State.reset, (70000000000), _, rfl⟩,
   ⟨State.reset, (false), (1000000005), _, rfl⟩,
   ⟨State.reset, (0), (1000000000), _, rfl⟩,
   ⟨State.reset, (0), (1000000000), (1100000000), _, rfl⟩,
   ⟨State.reset, (0), _, rfl⟩,
   ⟨State.reset, (0), (1), _, rfl⟩,
   ⟨State.reset, (⟨[], 0, false, 1000⟩), _, rfl⟩,
   ⟨State.reset, (tBrd 6 3 []), _, rfl⟩,
   ⟨State.reset, (tBrd 7 0 []), _, rfl⟩,
   ⟨State.reset, (0), (1000000000), _, rfl⟩,
   ⟨State.reset, (true), (false), _, rfl⟩,
   ⟨State.reset, (true), _, rfl⟩,
   ⟨State.reset, (4), _, rfl⟩,
   ⟨State.reset, (true), (5), _, rfl⟩,
   ⟨State.reset, (5), (100000000000), _, rfl⟩,
   ⟨State.reset, (0), (5), _, rfl⟩,
   ⟨State.reset, (0), (4), ([]), _, rfl⟩,
   ⟨State.reset, (tRx), (1000), _, rfl⟩,
   ⟨State.reset, (200), _, rfl⟩,
   ⟨State.reset, (20), _, rfl⟩,
   ⟨State.reset, (20), (2000000), _, rfl⟩,
   ⟨State.reset, (200), _, rfl⟩,
   ⟨State.reset, (4), _, rfl⟩,
   ⟨State.reset, (20), (0x01020304), _, rfl⟩,
   ⟨State.reset, (20), (0x01020304), _, rfl⟩,
   ⟨State.reset, (12), _, rfl⟩,
   ⟨State.reset, (20), _, rfl⟩,
   ⟨State.reset, (tPm 0x10 (helloBytes ⟨4, 0, 3, 9, 0, 0⟩)), _, rfl⟩,
   ⟨State.reset, (1000000000), _, rfl⟩,
   ⟨State.reset, (1000000000000), _, rfl⟩,
   ⟨State.reset, (tPm 0x14 [0, 0, 0, 9]), _, rfl⟩,
   ⟨State.reset, (tPm 0x15 [0, 0, 0, 9]), _, rfl⟩,
   ⟨State.reset, (5000), _, rfl⟩,
   ⟨State.reset, (9000), _, rfl⟩,
   ⟨State.reset, (100004000), _, rfl⟩,
   ⟨State.reset, (5), _, rfl⟩,
   ⟨State.reset, _, rfl⟩,
   ⟨State.reset, _, rfl⟩,
   ⟨State.reset, _, rfl⟩,
   ⟨State.reset, (1), _, rfl⟩,
   ⟨State.reset, true, (1000000000), _, rfl⟩⟩

theorem test_meets_FramesOfPatternCommands :
  (∃ (s : State) (addr : Nat) (u : State), exec (.rcCounterRead addr) s = .next u) ∧
  (∃ (s : State) (t : Nat) (u : State), exec (.vbakRise t) s = .next u) ∧
  (∃ (s : State) (t : Nat) (u : State), exec (.patternReloadDone t) s = .next u) ∧
  (∃ (s : State) (t : Nat) (u : State), exec (.revert t) s = .next u) ∧
  (∃ (s : State) (t : Nat) (u : State), exec (.patternBarrier t) s = .next u) ∧
  (∃ (s : State) (t : Nat) (u : State), exec (.trialTimeout t) s = .next u) ∧
  (∃ (s : State) (v : W32) (t : Nat) (u : State), exec (.patTrialTimeoutWrite v t) s = .next u) ∧
  (∃ (s : State) (t : Nat) (u : State), exec (.deferredBarrier t) s = .next u) ∧
  (∃ (s : State) (m : BrdMsg) (u : State), exec (.mirrorRx m) s = .next u) :=
  ⟨⟨State.reset, ((NET_DROP_CNT_v 0).addr), _, rfl⟩,
   ⟨State.reset, (5), _, rfl⟩,
   ⟨State.reset, (5), _, rfl⟩,
   ⟨State.reset, (5), _, rfl⟩,
   ⟨State.reset, (5), _, rfl⟩,
   ⟨State.reset, (1000000000), _, rfl⟩,
   ⟨State.reset, (77), (5), _, rfl⟩,
   ⟨State.reset, (5), _, rfl⟩,
   ⟨State.reset, (tPm 0x11 (beBytes 4 7 ++ itemBytes ⟨2, 5, [3, 0], false⟩)), _, rfl⟩⟩

/-! ## The manual's own examples -/

/-- The compact stamp of 4.9 s (the example under R12). -/
theorem test_compact_wraps : W.compact 3900000000 = 0xE8754700 ∧ W.compact 4900000000 = 0x24101100 := by decide

/-- Compact stamps extended from a marker at 1,800,000,001 s (the example under R78). -/
theorem test_compact_extended :
    extendStamp 1800000001000000000 0x08873A00 = 1800000001960000000 ∧
    extendStamp 1800000001000000000 0xC0681780 = 1800000000750000000 := by decide

/-- The reset contents of the curve tables (R277). -/
theorem test_curve_tables :
    curveReset 0 0 = 0 ∧ curveReset 0 1 = 66 ∧ curveReset 0 512 = 2072 ∧ curveReset 0 1023 = 65535 ∧
    curveReset 1 512 = 14294 ∧ curveReset 2 512 = 32800 ∧ curveReset 3 512 = 9436 := by decide +kernel

/-- amoand.w of FFFBFFFFH to IRQ_PEND[15] discards source 1F2H only (the example under R337). -/
theorem test_amoand_clears_one_source :
    (match exec (.irqAmo .and 0x4011017C 0xFFFBFFFF)
        (dv (st .serving [(IRQ_PEND_v 15, 0x40004)]) (fun d => { d with irq := { d.irq with
          staged := [⟨0x1F2, 0, 1, true, false, false⟩, ⟨0x1E2, 77204, 2, false, false, false⟩] } })) with
      | .next u => u.dev.irq.staged.map (·.source)
      | _ => []) = [0x1E2] := by decide +kernel

/-- The more urgent of two sources goes first: sub-priority 0AH before 05H (R332), its record little-endian (R330). -/
theorem test_ring_record :
    (tIrq.serveRing 1 2).rdBytes 0x10002000 16 = [30, 0, 0x4A, 0, 8, 0, 0, 0, 0xE9, 3, 0, 0, 0, 0, 0, 0] := by decide +kernel

/-- A block's bytes: 8-byte tag, the bytes padded to a multiple of 8 (R342). -/
theorem test_unit_size : W.unitSize 4096 = 4104 ∧ W.unitSize 1 = 16 ∧ W.unitSize 0 = 8 := by decide

/-- SHA-256 of "abc" (FIPS 180-4) and AES-128 of the example of FIPS 197, appendix C. -/
theorem test_standards :
    beNat (sha256 [0x61, 0x62, 0x63]) = 0xBA7816BF8F01CFEA414140DE5DAE2223B00361A396177A9CB410FF61F20015AD ∧
    beNat (aesEnc (aesKeys (beBytes 16 0x000102030405060708090A0B0C0D0E0F)) (beBytes 16 0x00112233445566778899AABBCCDDEEFF)) =
      0x69C4E0D86A7B0430D8CDB78070B4C55A := by decide +kernel

/-- Decoding: no row of the command table gives bits. -/
theorem test_no_word_spells_a_command : decodeTableWord 0 0 = none ∧ decodeTableWord 32 5 = none := by decide

/-- Commands run first in, first out. -/
theorem test_first_in_first_out :
    (match step { State.reset with pending := [.clearSel 3, .verify] } with | .next u => u.pending | _ => []) = [.verify] := by
  decide +kernel

end Sys2Proof.Tests
end

/-! # Steps: completion, canonical memory, stopped lanes

What every meaning is made of: runs, in turn. From this form follow the queue as it was, memory in canonical form, and a
refusal exactly where a command is ill formed. -/

namespace Sys2Proof.Machine

section Forms

/-- A state event is one run. -/
theorem runEv_eq_run (ok : Bool) (name : String) (prio t : Nat) (isEv : W → Bool) (holds : Option HeldEvent) (act : W → W)
    (s : State) : ∃ (n : String) (f : W → W), runEv ok name prio t isEv holds act s = run ok n f s := ⟨_, _, rfl⟩

/-- A meaning made of runs, the first of which is refused where `ok` is false. -/
inductive MadeOfRuns : Bool → State → Host.Outcome State Fault Refusal → Prop
  | run (ok : Bool) (name : String) (f : W → W) (s : State) : MadeOfRuns ok s (run ok name f s)
  | next (s : State) : MadeOfRuns true s (.next s)
  | andThen {ok : Bool} {s : State} {o : Host.Outcome State Fault Refusal} {f : State → Host.Outcome State Fault Refusal}
      (ho : MadeOfRuns ok s o) (hf : ∀ u, MadeOfRuns true u (f u)) : MadeOfRuns ok s (andThen o f)

namespace MadeOfRuns

variable {ok : Bool} {s t : State} {o : Host.Outcome State Fault Refusal}

/-- A write or read by the lanes is one run. -/
theorem runL (ok : Bool) (name : String) (f : W → W) (s : State) : MadeOfRuns ok s (runL ok name f s) :=
  run ok name (fun w => if w.lanesRun then f w else w) s

/-- A state event is one run. -/
theorem runEv (ok : Bool) (name : String) (prio t : Nat) (isEv : W → Bool) (holds : Option HeldEvent) (act : W → W)
    (s : State) :
    MadeOfRuns ok s (runEv ok name prio t isEv holds act s) := by
  obtain ⟨n, f, h⟩ := runEv_eq_run ok name prio t isEv holds act s
  exact h ▸ .run ..

/-- Either branch of a condition. -/
theorem ite {c : Prop} [Decidable c] {p : Host.Outcome State Fault Refusal} (ho : MadeOfRuns ok s o)
    (hp : MadeOfRuns ok s p) :
    MadeOfRuns ok s (if c then o else p) := by
  split
  · exact ho
  · exact hp

/-- Where the first run is not refused, the meaning answers a next state with the queue as it was. -/
theorem completes (h : MadeOfRuns ok s o) (hok : ok = true) : ∃ t, o = .next t ∧ t.pending = s.pending := by
  induction h with
  | run ok name f s =>
    subst hok
    exact ⟨_, run_true name f s, rfl⟩
  | next s => exact ⟨s, rfl, rfl⟩
  | andThen _ _ iho ihf =>
    obtain ⟨u, rfl, hu⟩ := iho hok
    obtain ⟨t, ht, hq⟩ := ihf u rfl
    exact ⟨t, ht, hq.trans hu⟩

/-- Where the first run is refused, so is the whole. -/
theorem refused (h : MadeOfRuns ok s o) (hok : ok = false) : ∃ name, o = .refused (.illFormed name) := by
  induction h with
  | run ok name f s =>
    subst hok
    exact ⟨name, rfl⟩
  | next s => cases hok
  | andThen _ _ iho _ =>
    obtain ⟨name, rfl⟩ := iho hok
    exact ⟨name, rfl⟩

/-- Memory keeps its canonical form. -/
theorem canonical (h : MadeOfRuns ok s o) (hs : s.canonical = true) (ht : o = .next t) : t.canonical = true := by
  induction h generalizing t with
  | run ok name f s => exact run_canonical hs ht
  | next s =>
    cases ht
    exact hs
  | andThen _ _ iho ihf =>
    obtain ⟨u, hu, hut⟩ := andThen_next.1 ht
    exact ihf u (iho hs hu) hut

end MadeOfRuns

/-- A meaning of the lanes: made of runs that are not refused, and without effect while no lane runs. -/
structure LaneMeaning (m : State → Host.Outcome State Fault Refusal) : Prop where
  runs : ∀ s, MadeOfRuns true s (m s)
  stopped : ∀ s, ¬ s.lanes → m s = .next s

namespace LaneMeaning

theorem runL (name : String) (f : W → W) : LaneMeaning (runL true name f) :=
  ⟨fun s => .runL true name f s, fun _ h => runL_stopped h⟩

/-- A write or read by the lanes of the element `n` of an array of `k`. -/
theorem runL_lt {n k : Nat} (h : n < k) (name : String) (f : W → W) : LaneMeaning (Machine.runL (decide (n < k)) name f) := by
  rw [decide_eq_true h]
  exact runL name f

/-- A write or read by the lanes of an element of an array, with an operand of its own range. -/
theorem runL_lt_and {n k m j : Nat} (h : n < k) (h' : m < j) (name : String) (f : W → W) :
    LaneMeaning (Machine.runL (decide (n < k) && decide (m < j)) name f) := by
  rw [decide_eq_true h, decide_eq_true h']
  exact runL name f

/-- Two meanings of the lanes in turn. -/
theorem andThen {m n : State → Host.Outcome State Fault Refusal} (hm : LaneMeaning m) (hn : LaneMeaning n) :
    LaneMeaning (fun s => andThen (m s) n) where
  runs s := .andThen (hm.runs s) hn.runs
  stopped s h := by simp only [hm.stopped s h, andThen_of_next, hn.stopped s h]

end LaneMeaning

theorem lanesOn_eq_false {s : State} (h : ¬ s.lanes) : lanesOn s = false := by
  simpa using mt (lanesOn_iff s).1 h

end Forms

/-! ## Commands that do not go through the register bus -/

section Direct

/-- A voted request, or a read or write on the register bus. -/
def onBus : Instr → Bool
  | .registerWrite .. | .rcCounterRead .. | .voterRequest .. => true
  | _ => false

/-- A command of SYS_CMD that is a state event once its confirmation holds. -/
def isConfirmed : Instr → Bool
  | .sleep .. | .systemReset .. | .patternReload .. => true
  | _ => false

/-- A command of the lanes is one run that has its effect while a lane runs. -/
theorem exec_eq_runL {c : Instr} (hl : ofLanes c = true) (hb : onBus c = false) (hc : isConfirmed c = false)
    (s : State) :
    ∃ (name : String) (f : W → W), exec c s = runL c.wf name f s := by
  cases c <;> cases hl <;> cases hb <;> cases hc
  all_goals
    unfold exec
    exact ⟨_, _, rfl⟩

/-- A command of the lanes that is a state event is one while a lane runs and the confirmation holds. -/
theorem exec_confirmed {c : Instr} (hc : isConfirmed c = true) (s : State) :
    ∃ (b : Bool) (o : Host.Outcome State Fault Refusal) (name : String),
      MadeOfRuns true s o ∧ exec c s = if lanesOn s && b then o else runL true name id s := by
  cases c <;> cases hc
  all_goals exact ⟨_, _, _, .runEv .., rfl⟩

/-- Any other command off the bus is one run. -/
theorem exec_eq_run {c : Instr} (hl : ofLanes c = false) (hb : onBus c = false) (s : State) :
    ∃ (name : String) (f : W → W), exec c s = run c.wf name f s := by
  cases c <;> cases hl <;> cases hb
  all_goals unfold exec
  case mainSupplyLost | watchdogExpire | tamperDetect => exact runEv_eq_run ..
  all_goals exact ⟨_, _, rfl⟩

/-- A confirmed command is well formed. -/
theorem wf_of_isConfirmed {c : Instr} (hc : isConfirmed c = true) : c.wf = true := by
  cases c <;> cases hc <;> rfl

/-- A command off the bus is made of runs. -/
theorem exec_madeOfRuns_of_not_onBus {c : Instr} (hb : onBus c = false) (s : State) : MadeOfRuns c.wf s (exec c s) := by
  by_cases hc : isConfirmed c = true
  · obtain ⟨b, o, name, ho, he⟩ := exec_confirmed hc s
    rw [he, wf_of_isConfirmed hc]
    exact .ite ho (.runL ..)
  · by_cases hl : ofLanes c = true
    · obtain ⟨name, f, he⟩ := exec_eq_runL hl hb (by simpa using hc) s
      exact he ▸ .runL ..
    · obtain ⟨name, f, he⟩ := exec_eq_run (by simpa using hl) hb s
      exact he ▸ .run ..

/-- A well-formed command of the lanes off the bus. -/
theorem exec_laneMeaning_of_not_onBus {c : Instr} (hl : ofLanes c = true) (hb : onBus c = false) (hw : c.wf = true) :
    LaneMeaning (exec c) where
  runs s := hw ▸ exec_madeOfRuns_of_not_onBus hb s
  stopped s hs := by
    by_cases hc : isConfirmed c = true
    · obtain ⟨b, o, name, -, he⟩ := exec_confirmed hc s
      rw [he, lanesOn_eq_false hs, Bool.false_and, if_neg Bool.false_ne_true, runL_stopped hs]
    · obtain ⟨name, f, he⟩ := exec_eq_runL hl hb (by simpa using hc) s
      rw [he, hw, runL_stopped hs]

end Direct

/-! ## The register bus -/

section Bus

/-- The element an address names lies in its array. -/
theorem idxOf_lt {base stride n a k : Nat} (h : idxOf base stride n a = some k) : k < n := by
  unfold idxOf at h
  split at h
  · cases h
    omega
  · cases h

theorem div_two_pow_16_lt (v : W32) : v.toNat / 2 ^ 16 < 65536 := by
  have := v.isLt
  omega

theorem div_two_pow_24_lt (v : W32) : v.toNat / 2 ^ 24 < 256 := by
  have := v.isLt
  omega

variable {machine : Bool} {a : Nat} {v : W32} {t : Nat} {f : State → Host.Outcome State Fault Refusal}

theorem wrSys_laneMeaning (h : wrSys a v t = some f) : LaneMeaning f := by
  simp only [wrSys] at h
  split at h
  · split at h <;> cases h
    case h_2 => exact exec_laneMeaning_of_not_onBus (c := .systemReset _ _) rfl rfl rfl
    case h_3 => exact exec_laneMeaning_of_not_onBus (c := .patternReload _ _) rfl rfl rfl
    case h_4 => exact exec_laneMeaning_of_not_onBus (c := .sleep _ _) rfl rfl rfl
    all_goals exact .runL ..
  · split at h <;> cases h
    exact .runL ..

theorem wrPat_laneMeaning (h : wrPat a v t = some f) : LaneMeaning f := by
  simp only [wrPat] at h
  split at h
  · split at h <;> cases h
    all_goals exact .runL ..
  · split at h <;> cases h
    exact .runL ..

theorem wrTbs_laneMeaning (h : wrTbs a v = some f) : LaneMeaning f := by
  simp only [wrTbs] at h
  split at h
  · cases h
    exact .runL ..
  · split at h
    · split at h <;> cases h
      all_goals exact .runL ..
    · split at h <;> cases h
      all_goals exact .runL_lt (idxOf_lt ‹_›) ..

theorem wrIng_laneMeaning (h : wrIng a v = some f) : LaneMeaning f := by
  simp only [wrIng] at h
  split at h
  · cases h
    exact .runL ..
  · split at h
    · cases h
      exact .runL ..
    · split at h
      · split at h <;> cases h
        case h_7 | h_8 | h_9 => exact .runL ..
        all_goals exact .runL_lt (Nat.mod_lt _ (Nat.two_pow_pos 13)) ..
      · cases h

theorem wrAln_laneMeaning (h : wrAln a v = some f) : LaneMeaning f := by
  simp only [wrAln] at h
  split at h
  · cases h
    exact .runL ..
  · split at h
    · cases h
      exact .runL_lt (idxOf_lt ‹_›) ..
    · split at h <;> cases h
      exact .andThen (.runL ..) (.runL_lt (idxOf_lt ‹_›) ..)
    · cases h

theorem wrGan_laneMeaning (h : wrGan a v = some f) : LaneMeaning f := by
  simp only [wrGan] at h
  split at h
  · cases h
    exact .runL ..
  · split at h
    · cases h
      exact .runL ..
    · iterate 5
        split at h
        · cases h
          exact .andThen (.runL ..) (.runL ..)
      split at h <;> cases h
      all_goals exact .runL_lt (idxOf_lt ‹_›) ..

theorem wrCry_laneMeaning (h : wrCry a v = some f) : LaneMeaning f := by
  simp only [wrCry] at h
  split at h
  · cases h
    exact .runL ..
  · split at h
    · split at h <;> cases h
      case h_1 | h_2 => exact .runL ..
      all_goals exact .runL_lt (div_two_pow_16_lt v) ..
    · split at h <;> cases h
      exact .runL_lt (idxOf_lt ‹_›) ..

theorem wrSmp_laneMeaning (h : wrSmp a v = some f) : LaneMeaning f := by
  simp only [wrSmp] at h
  split at h
  · cases h
    exact .runL ..
  · split at h
    · cases h
      exact .runL_lt (Nat.zero_lt_succ 4) ..
    · split at h
      · cases h
        exact .runL ..
      · split at h <;> cases h
        case h_1 => exact .runL_lt (Nat.succ_lt_succ (idxOf_lt ‹_›)) ..
        all_goals exact .runL_lt (idxOf_lt ‹_›) ..

theorem wrLmp_laneMeaning (h : wrLmp a v = some f) : LaneMeaning f := by
  simp only [wrLmp] at h
  split at h
  · cases h
    exact .runL ..
  · split at h
    · split at h <;> cases h
      case h_1 | h_4 => exact .runL ..
      all_goals exact .runL_lt (Nat.mod_lt _ (Nat.two_pow_pos 14)) ..
    · split at h
      · split at h <;> cases h
        all_goals exact .runL ..
      · cases h

theorem wrRad_laneMeaning (h : wrRad a v = some f) : LaneMeaning f := by
  simp only [wrRad] at h
  split at h
  · split at h <;> cases h
    case h_8 | h_9 => exact .runL ..
    all_goals exact .runL_lt (Nat.mod_lt _ (Nat.two_pow_pos 14)) ..
  · cases h

theorem wrFlt_laneMeaning (h : wrFlt a v = some f) : LaneMeaning f := by
  simp only [wrFlt] at h
  split at h
  · split at h <;> cases h
    case h_4 | h_6 => exact .runL ..
    all_goals exact .runL_lt (Nat.mod_lt _ (Nat.zero_lt_succ 7)) ..
  · cases h

theorem wrLed_laneMeaning (h : wrLed a v = some f) : LaneMeaning f := by
  simp only [wrLed] at h
  split at h
  · cases h
    exact .runL ..
  · split at h
    · cases h
      exact .runL ..
    · split at h
      · split at h <;> cases h
        all_goals exact .runL_lt (Nat.mod_lt _ (Nat.zero_lt_succ 31)) ..
      · cases h

theorem wrMtr_laneMeaning (h : wrMtr a v = some f) : LaneMeaning f := by
  simp only [wrMtr] at h
  split at h
  · cases h
    exact .runL ..
  · split at h
    · cases h
      exact .runL ..
    · split at h
      · split at h <;> cases h
        · exact .runL ..
        · exact .runL_lt (Nat.mod_lt _ (Nat.zero_lt_succ 63)) ..
      · cases h

theorem wrLnv_laneMeaning (h : wrLnv a v t = some f) : LaneMeaning f := by
  simp only [wrLnv] at h
  split at h
  · split at h <;> cases h
    all_goals exact .runL_lt (Nat.mod_lt _ (Nat.zero_lt_succ 3)) ..
  · cases h

theorem wrMem_laneMeaning (h : wrMem a v = some f) : LaneMeaning f := by
  simp only [wrMem] at h
  split at h
  · split at h <;> cases h
    all_goals exact .runL_lt (Nat.mod_lt _ (Nat.zero_lt_succ 3)) ..
  · cases h

theorem wrIrq_laneMeaning (h : wrIrq a v = some f) : LaneMeaning f := by
  simp only [wrIrq] at h
  split at h <;> cases h
  case h_4 k hk _ _ _ =>
    exact .runL_lt_and (Nat.div_lt_of_lt_mul (idxOf_lt hk)) (Nat.mod_lt _ (Nat.zero_lt_succ 7)) ..
  all_goals exact .runL_lt (idxOf_lt ‹_›) ..

theorem wrQue_laneMeaning (h : wrQue a v = some f) : LaneMeaning f := by
  simp only [wrQue] at h
  split at h
  · split at h <;> cases h
    all_goals exact .runL_lt (Nat.mod_lt _ (Nat.zero_lt_succ 255)) ..
  · split at h <;> cases h
    all_goals exact .runL_lt (idxOf_lt ‹_›) ..

theorem wrRec_laneMeaning (h : wrRec a v = some f) : LaneMeaning f := by
  simp only [wrRec] at h
  split at h
  · cases h
    exact .runL ..
  · split at h
    · cases h
      exact .runL ..
    · split at h
      · split at h <;> cases h
        exact .runL_lt (Nat.mod_lt _ (Nat.zero_lt_succ 3)) ..
      · split at h <;> cases h
        exact .runL_lt (idxOf_lt ‹_›) ..

theorem wrPrf_laneMeaning (h : wrPrf a v t = some f) : LaneMeaning f := by
  simp only [wrPrf] at h
  split at h
  · cases h
    exact .runL ..
  · split at h
    · split at h <;> cases h
      · exact .runL ..
      · exact .runL_lt (Nat.mod_lt _ (Nat.zero_lt_succ 31)) ..
    · iterate 3
        split at h
        · cases h
          exact .runL ..
      cases h

theorem wrHlt_laneMeaning (h : wrHlt a v = some f) : LaneMeaning f := by
  simp only [wrHlt] at h
  split at h <;> cases h
  exact .runL ..

theorem wrPtn_laneMeaning (h : wrPtn a v = some f) : LaneMeaning f := by
  simp only [wrPtn] at h
  split at h
  · cases h
    exact .runL ..
  · split at h
    · split at h <;> cases h
      all_goals exact .runL ..
    · cases h

theorem wrKey_laneMeaning (h : wrKey machine a v = some f) : LaneMeaning f := by
  simp only [wrKey] at h
  split at h
  · split at h <;> cases h
    case h_1 | h_2 | h_11 | h_12 | h_13 | h_14 => exact .runL_lt (Nat.mod_lt _ (Nat.zero_lt_succ 63)) ..
    case h_6 | h_7 | h_9 => exact .runL ..
    case h_3 => exact .runL_lt_and (Nat.mod_lt _ (Nat.zero_lt_succ 63)) (Nat.mod_lt _ (Nat.zero_lt_succ 7)) ..
    case h_4 => exact .runL_lt_and (Nat.mod_lt _ (Nat.zero_lt_succ 63)) (div_two_pow_24_lt v) ..
    case h_5 => exact .runL_lt (div_two_pow_24_lt v) ..
    case h_8 | h_10 => exact .runL_lt (Nat.mod_lt _ (Nat.zero_lt_succ 7)) ..
  · cases h

/-- The command a register write is, if it is one, is a meaning of the lanes. -/
theorem wrRoute_laneMeaning (h : wrRoute machine a v t = some f) : LaneMeaning f := by
  unfold wrRoute at h
  split at h
  · exact wrSys_laneMeaning h
  · exact wrPat_laneMeaning h
  · exact wrTbs_laneMeaning h
  · exact wrIng_laneMeaning h
  · exact wrAln_laneMeaning h
  · exact wrGan_laneMeaning h
  · exact wrCry_laneMeaning h
  · exact wrSmp_laneMeaning h
  · exact wrLmp_laneMeaning h
  · exact wrRad_laneMeaning h
  · exact wrFlt_laneMeaning h
  · exact wrLed_laneMeaning h
  · exact wrMtr_laneMeaning h
  · exact wrLnv_laneMeaning h
  · exact wrMem_laneMeaning h
  · exact wrIrq_laneMeaning h
  · exact wrQue_laneMeaning h
  · exact wrKey_laneMeaning h
  · exact wrRec_laneMeaning h
  · exact wrPrf_laneMeaning h
  · exact wrHlt_laneMeaning h
  · exact wrPtn_laneMeaning h
  · cases h

/-- A voted write of a device register is a meaning of the lanes. -/
theorem busWrite_laneMeaning (machine : Bool) (a : Nat) (v : W32) (t : Nat) : LaneMeaning (busWrite machine a v t) := by
  cases hb : badReg a with
  | true =>
    have he : busWrite machine a v t = runL true "REGISTER_WRITE" (fun w => w.accessFault) := by
      funext s
      simp only [busWrite, hb, if_true]
    exact he ▸ .runL ..
  | false =>
    cases hr : wrRoute machine a v t with
    | some f =>
      have he : busWrite machine a v t = f := by
        funext s
        simp only [busWrite, hb, hr, Bool.false_eq_true, if_false]
      exact he ▸ wrRoute_laneMeaning hr
    | none =>
      have he : busWrite machine a v t = wrPlain a v := by
        funext s
        simp only [busWrite, hb, hr, Bool.false_eq_true, if_false]
      exact he ▸ .runL ..

/-- The row a register read is, if it is one, is a meaning of the lanes. -/
theorem rdRoute_laneMeaning (h : rdRoute a = some f) : LaneMeaning f := by
  unfold rdRoute at h
  split at h
  · split at h
    · cases h
      exact .runL ..
    · split at h <;> cases h
      exact .runL_lt (idxOf_lt ‹_›) ..
  · split at h <;> cases h
    exact .runL_lt (idxOf_lt ‹_›) ..
  · split at h <;> cases h
    exact .runL_lt (idxOf_lt ‹_›) ..
  · split at h <;> cases h
    exact .runL ..
  · split at h
    · cases h
      exact .runL ..
    · split at h <;> cases h
      all_goals exact .runL_lt (idxOf_lt ‹_›) ..
  · split at h <;> cases h
    all_goals exact .runL_lt (idxOf_lt ‹_›) ..
  · split at h <;> cases h
    exact .runL ..
  · cases h

/-- A voted read of a device register is a meaning of the lanes. -/
theorem busRead_laneMeaning (a : Nat) : LaneMeaning (busRead a) := by
  cases hb : badReg a with
  | true =>
    have he : busRead a = runL true "RC_COUNTER_READ" (fun w => w.accessFault) := by
      funext s
      simp only [busRead, hb, if_true]
    exact he ▸ .runL ..
  | false =>
    cases hr : rdRoute a with
    | some f =>
      have he : busRead a = f := by
        funext s
        simp only [busRead, hb, hr, Bool.false_eq_true, if_false]
      exact he ▸ rdRoute_laneMeaning hr
    | none =>
      have he : busRead a = rdPlain a := by
        funext s
        simp only [busRead, hb, hr, Bool.false_eq_true, if_false]
      exact he ▸ .runL ..

/-! ## Voted requests -/

/-- An issued request is made of runs. -/
theorem access_madeOfRuns (r : Req) (hart pc insn : Nat) (machine : Bool) (t : Nat) (s : State) :
    MadeOfRuns true s (access r hart pc insn machine t s) := by
  unfold access
  refine .andThen (.run ..) fun u => .andThen ?_ fun _ => .run ..
  split
  · cases r.kind with
    | load =>
      dsimp only
      split
      · exact (busRead_laneMeaning _).runs u
      · exact .runL ..
    | store =>
      dsimp only
      split
      · exact (busWrite_laneMeaning ..).runs u
      · exact .runL ..
    | atomic =>
      dsimp only
      split
      all_goals exact .runL ..
    | fetch => exact .runL ..
  · exact .run ..

/-- A lane's request is made of runs. -/
theorem laneRequest_madeOfRuns (pending : List Instr) (hart pc insn : Nat) (machine : Bool) (t l : Nat) (r : Req)
    (s : State) :
    MadeOfRuns true s (laneRequest pending hart pc insn machine t l r s) := by
  unfold laneRequest
  refine .ite (.run ..) (.andThen (.run ..) fun u => .andThen ?_ fun _ => .run ..)
  split
  · exact .andThen (access_madeOfRuns ..) fun _ => .run ..
  · exact .next u

/-- The requests of the lanes, one after another, are made of runs. -/
theorem laneRequests_madeOfRuns (pending : List Instr) (hart pc insn : Nat) (machine : Bool) (t : Nat) (l : List (Nat × Req))
    (s : State) : MadeOfRuns true s (laneRequests pending hart pc insn machine t l s) := by
  induction l generalizing s with
  | nil => exact .next s
  | cons x rest ih => exact .andThen (laneRequest_madeOfRuns ..) ih

/-! ## Every command -/

/-- Every command is made of runs, the first refused where the command is ill formed. -/
theorem exec_madeOfRuns (c : Instr) (s : State) : MadeOfRuns c.wf s (exec c s) := by
  cases hb : onBus c with
  | false => exact exec_madeOfRuns_of_not_onBus hb s
  | true =>
    cases c
    case registerWrite =>
      unfold exec
      exact .andThen (.runL ..) (busWrite_laneMeaning ..).runs
    case rcCounterRead => exact (busRead_laneMeaning _).runs s
    case voterRequest =>
      unfold exec
      exact .andThen (.run ..) fun u => laneRequests_madeOfRuns ..
    all_goals cases hb

/-- Every well-formed command of the lanes has no effect while no lane runs. -/
theorem exec_laneMeaning {c : Instr} (hl : ofLanes c = true) (hw : c.wf = true) : LaneMeaning (exec c) := by
  cases hb : onBus c with
  | false => exact exec_laneMeaning_of_not_onBus hl hb hw
  | true =>
    cases c
    case registerWrite machine a v t => exact .andThen (.runL "REGISTER_WRITE" (fun w => (w.at_ t).answer 0)) (busWrite_laneMeaning machine a v t)
    case rcCounterRead => exact busRead_laneMeaning _
    case voterRequest => cases hl
    all_goals cases hb

end Bus

/-! ## The idle module -/

section Idle

/-- Counting cycles moves neither the counter nor the up-time. -/
theorem cycles_now_up (w : W) (dt : Nat) : (w.cycles dt).tb.now = w.tb.now ∧ (w.cycles dt).tb.up = w.tb.up := by
  have tally_tb : ∀ (x : W) (e n : Nat), (x.tallyN e n).tb = x.tb := fun x e n =>
    (W.Keeps.tallyN (ps := [.irq, .prf]) (fs := [PRF_EVENT_sel_limit]) (gs := []) e n (by decide) (by decide)
      List.mem_cons_self).parts .tb (by decide)
  simp only [W.cycles, tally_tb, and_self]

/-- A clock period counts 4 ns of up-time, leaves the operating state and stores nothing. -/
theorem tick_frame (w : W) : w.tick.tb.up = w.tb.up + 4 ∧ w.tick.op = w.op ∧ w.tick.out = w.out ∧ w.tick.zeroed = w.zeroed := by
  unfold W.tick
  dsimp only
  split
  · have k : ∀ (x : W), x.Keeps (x.cycles 4) [.tb, .irq, .prf] [PRF_EVENT_sel_limit] [] := fun x =>
      .cycles 4 (by decide) (by decide) (by decide) List.mem_cons_self
    exact ⟨(cycles_now_up _ 4).2, (k _).parts .op (by decide), (k _).out, (k _).zeroed⟩
  · exact ⟨rfl, rfl, rfl, rfl⟩

/-- The idle module is one run, or stops where the seconds field would pass its end. -/
theorem idle_eq (s : State) : idle s =
    if s.w.tick.tb.now / (2 ^ 32 * 1000000000) < 2 ^ 48 then run true "" W.tick s else .fault .timeBeyondCounter := rfl

/-- Where the idle module goes on, a clock period is one run. -/
theorem run_of_idle_next {s t : State} (h : idle s = .next t) : run true "" W.tick s = .next t := by
  rw [idle_eq] at h
  split at h
  · exact h
  · cases h

end Idle

end Sys2Proof.Machine

/-! ## The obligations on steps -/

section
open Sys2Proof.Machine

/-- Settles O4: a step is made of runs, and a run stores byte by byte into a list that stays sorted and without zeros. -/
theorem everyStepKeepsMemoryCanonical : Obligations.EveryStepKeepsMemoryCanonical := by
  intro s t hs h
  unfold step at h
  split at h
  · exact run_canonical hs (run_of_idle_next h)
  · exact (exec_madeOfRuns _ _).canonical (by exact hs) h

/-- Settles O5: a command is made of runs of which only the first can be refused, exactly where it is ill formed. -/
theorem commandsComplete : Obligations.CommandsComplete :=
  fun c s => ⟨(exec_madeOfRuns c s).completes, (exec_madeOfRuns c s).refused⟩

/-- Settles O6, by induction on the number of steps: each takes the front command and leaves the others as they were. -/
theorem queuedRunsAreSafe : Obligations.QueuedRunsAreSafe := by
  intro n
  induction n with
  | zero => exact fun _ _ _ => trivial
  | succ n ih =>
    rintro ⟨_ | ⟨c, rest⟩, dev, mem⟩ hwf hn
    · exact absurd hn (Nat.not_succ_le_zero n)
    · obtain ⟨t, ht, hq⟩ := (commandsComplete c ⟨rest, dev, mem⟩).1 (hwf c List.mem_cons_self)
      refine ⟨t, ht, ih t ?_ ?_⟩
      · rw [hq]
        exact fun d hd => hwf d (List.mem_cons_of_mem c hd)
      · rw [hq]
        exact Nat.le_of_succ_le_succ hn

/-- Settles O7: a well-formed command of the lanes is without effect while no lane runs, on the bus and off it. -/
theorem stoppedLanesHaveNoEffect : Obligations.StoppedLanesHaveNoEffect :=
  fun _ s hl hw hs => (exec_laneMeaning hl hw).stopped s hs

/-- Settles O1: a step takes the front command off the queue. -/
theorem stepRunsFrontCommand : Obligations.StepRunsFrontCommand := fun _ _ _ => rfl

/-- Settles O2: a clock period of the idle module is one run that stores nothing. -/
theorem idleModuleTicks : Obligations.IdleModuleTicks := by
  intro s hq
  have hstep : step s = idle s := by simp only [step, hq]
  obtain ⟨hup, hop, hout, hzero⟩ := tick_frame s.w
  refine ⟨fun hlt => ?_, fun hge => ?_⟩
  · have hrun : step s = run true "" W.tick s := by rw [hstep, idle_eq, if_pos hlt]
    refine ⟨_, hrun, hq, run_mem (run_true "" ..) hout hzero, hop, hup⟩
  · rw [hstep, idle_eq, if_neg (Nat.not_lt.2 hge)]

/-- Settles O3: at reset no register has been written. -/
theorem resetState : Obligations.ResetState :=
  ⟨rfl, rfl, rfl, rfl, Regs.rd_nil, fun _ => rfl, rfl, rfl⟩

end


namespace Sys2Proof.Machine

/-! # Footprints

A footprint is the set of things that may differ between two working states: parts of the devices, register fields, bytes
stored, and whether DRAM and SRAM were zeroed. "The same off a footprint" is an equivalence, so that one lemma per operation
rewrites it away at the end of a chain of operations. -/

section Footprint

/-- One thing that can differ between two working states. -/
inductive Spot where
  | part (p : Part)
  | fld (f : Fld)
  | byte (a : Nat)
  | zero

open Spot

/-- Two working states are the same but for what lies in a footprint. -/
structure SameOff (P : Spot → Prop) (w v : W) : Prop where
  parts : ∀ p : Part, ¬ P (part p) → p.same w.toDev v.toDev
  bits : ∀ a b : Nat, (∀ f, P (fld f) → ¬ f.covers a b) → (v.regs.rd a).getLsbD b = (w.regs.rd a).getLsbD b
  out : ¬ P (zero) → ∀ e : Nat × Byte, ¬ P (byte e.1) → (e ∈ v.out ↔ e ∈ w.out)
  zeroed : ¬ P (zero) → v.zeroed = w.zeroed
  mem : v.mem = w.mem

theorem Part.same_symm {p : Part} {d e : Dev} (h : p.same d e) : p.same e d := by
  cases p <;> exact Eq.symm h

namespace SameOff

variable {P Q : Spot → Prop} {w v u : W}

@[simp ↓] theorem refl (w : W) : SameOff P w w :=
  ⟨fun p _ => p.same_refl _, fun _ _ _ => rfl, fun _ _ _ => Iff.rfl, fun _ => rfl, rfl⟩

theorem symm (h : SameOff P w v) : SameOff P v w :=
  ⟨fun p hp => Part.same_symm (h.parts p hp), fun a b hb => (h.bits a b hb).symm, fun z e he => (h.out z e he).symm,
    fun z => (h.zeroed z).symm, h.mem.symm⟩

theorem trans (h : SameOff P w v) (k : SameOff P v u) : SameOff P w u :=
  ⟨fun p hp => Part.same_trans (h.parts p hp) (k.parts p hp), fun a b hb => (k.bits a b hb).trans (h.bits a b hb),
    fun z e he => (k.out z e he).trans (h.out z e he), fun z => (k.zeroed z).trans (h.zeroed z), k.mem.trans h.mem⟩

theorem mono (h : SameOff P w v) (hPQ : ∀ x, P x → Q x) : SameOff Q w v :=
  ⟨fun p hp => h.parts p (mt (hPQ _) hp), fun a b hb => h.bits a b fun f hf => hb f (hPQ _ hf),
    fun z e he => h.out (mt (hPQ _) z) e (mt (hPQ _) he), fun z => h.zeroed (mt (hPQ _) z), h.mem⟩

/-- An operation that stays in the footprint can be dropped at the end of a chain. -/
theorem drop_iff (h : SameOff P v u) : SameOff P w u ↔ SameOff P w v :=
  ⟨fun k => k.trans h.symm, fun k => k.trans h⟩

@[simp ↓] theorem ite_iff {c : Prop} [Decidable c] :
    SameOff P w (if c then v else u) ↔ (c → SameOff P w v) ∧ (¬c → SameOff P w u) := by
  split <;> simp [*]

/-- A fold whose every step stays in the footprint. -/
theorem foldl {α : Type} {f : W → α → W} (h : ∀ (x : W) (e : α), SameOff P x (f x e)) (l : List α) (w : W) :
    SameOff P w (l.foldl f w) := by
  induction l generalizing w with
  | nil => exact refl w
  | cons e t ih => exact (h w e).trans (ih (f w e))

@[simp ↓] theorem foldl_iff {α : Type} {f : W → α → W} (h : ∀ (x : W) (e : α), SameOff P x (f x e)) (l : List α) :
    SameOff P w (l.foldl f v) ↔ SameOff P w v := drop_iff (foldl h l v)

/-- What an operation that may not be possible answers, or what stands in for it. -/
theorem getD_sameOff {o : Option W} {x : W} (h : ∀ u, o = some u → SameOff P v u) (hx : SameOff P v x) :
    SameOff P v (o.getD x) := by
  cases o with
  | none => exact hx
  | some u => exact h u rfl

/-- What the lists of the frame library leave alone. -/
theorem of_keeps {ps : List Part} {fs : List Fld} {gs : List (Nat → Fld)} (h : w.Keeps v ps fs gs)
    (hp : ∀ p ∈ ps, P (part p)) (hf : ∀ f ∈ fs, P (fld f)) (hg : ∀ g ∈ gs, ∀ k, P (fld (g k))) : SameOff P w v where
  parts p n := h.parts p fun m => n (hp p m)
  bits a b n := h.bits a b (fun f m => n f (hf f m)) (fun g m k => n (g k) (hg g m k))
  out _ e _ := by rw [h.out]
  zeroed _ := h.zeroed
  mem := h.mem

/-- One part of the devices replaced. -/
theorem of_part {p : Part} (h : P (part p)) (hp : ∀ q, q ≠ p → q.same w.toDev v.toDev) (hr : v.regs = w.regs)
    (ho : v.out = w.out) (hz : v.zeroed = w.zeroed) (hm : v.mem = w.mem) : SameOff P w v where
  parts q hq := hp q fun e => hq (e ▸ h)
  bits a b _ := by rw [hr]
  out _ e _ := by rw [ho]
  zeroed _ := hz
  mem := hm

@[simp ↓] theorem with_op_iff (h : P (part .op)) (s : OpState) : SameOff P w { v with op := s } ↔ SameOff P w v :=
  drop_iff (of_part h (fun q hq => by cases q <;> first | rfl | exact absurd rfl hq) rfl rfl rfl rfl)

@[simp ↓] theorem with_tb_iff (h : P (part .tb)) (s : TbState) : SameOff P w { v with tb := s } ↔ SameOff P w v :=
  drop_iff (of_part h (fun q hq => by cases q <;> first | rfl | exact absurd rfl hq) rfl rfl rfl rfl)

@[simp ↓] theorem with_irq_iff (h : P (part .irq)) (s : IrqState) : SameOff P w { v with irq := s } ↔ SameOff P w v :=
  drop_iff (of_part h (fun q hq => by cases q <;> first | rfl | exact absurd rfl hq) rfl rfl rfl rfl)

@[simp ↓] theorem with_que_iff (h : P (part .que)) (s : List (Nat × QState)) :
    SameOff P w { v with que := s } ↔ SameOff P w v :=
  drop_iff (of_part h (fun q hq => by cases q <;> first | rfl | exact absurd rfl hq) rfl rfl rfl rfl)

@[simp ↓] theorem with_scr_iff (h : P (part .scr)) (s : RecState) : SameOff P w { v with scr := s } ↔ SameOff P w v :=
  drop_iff (of_part h (fun q hq => by cases q <;> first | rfl | exact absurd rfl hq) rfl rfl rfl rfl)

@[simp ↓] theorem with_prf_iff (h : P (part .prf)) (s : PrfState) : SameOff P w { v with prf := s } ↔ SameOff P w v :=
  drop_iff (of_part h (fun q hq => by cases q <;> first | rfl | exact absurd rfl hq) rfl rfl rfl rfl)

@[simp ↓] theorem with_hlt_iff (h : P (part .hlt)) (s : HltState) : SameOff P w { v with hlt := s } ↔ SameOff P w v :=
  drop_iff (of_part h (fun q hq => by cases q <;> first | rfl | exact absurd rfl hq) rfl rfl rfl rfl)

@[simp ↓] theorem with_pat_iff (h : P (part .pat)) (s : PatState) : SameOff P w { v with pat := s } ↔ SameOff P w v :=
  drop_iff (of_part h (fun q hq => by cases q <;> first | rfl | exact absurd rfl hq) rfl rfl rfl rfl)

@[simp ↓] theorem with_net_iff (h : P (part .net)) (s : NetState) : SameOff P w { v with net := s } ↔ SameOff P w v :=
  drop_iff (of_part h (fun q hq => by cases q <;> first | rfl | exact absurd rfl hq) rfl rfl rfl rfl)

@[simp ↓] theorem with_ing_iff (h : P (part .ing)) (s : IngState) : SameOff P w { v with ing := s } ↔ SameOff P w v :=
  drop_iff (of_part h (fun q hq => by cases q <;> first | rfl | exact absurd rfl hq) rfl rfl rfl rfl)

@[simp ↓] theorem with_aln_iff (h : P (part .aln)) (s : AlnState) : SameOff P w { v with aln := s } ↔ SameOff P w v :=
  drop_iff (of_part h (fun q hq => by cases q <;> first | rfl | exact absurd rfl hq) rfl rfl rfl rfl)

@[simp ↓] theorem with_gan_iff (h : P (part .gan)) (s : GanState) : SameOff P w { v with gan := s } ↔ SameOff P w v :=
  drop_iff (of_part h (fun q hq => by cases q <;> first | rfl | exact absurd rfl hq) rfl rfl rfl rfl)

@[simp ↓] theorem with_key_iff (h : P (part .key)) (s : KeyState) : SameOff P w { v with key := s } ↔ SameOff P w v :=
  drop_iff (of_part h (fun q hq => by cases q <;> first | rfl | exact absurd rfl hq) rfl rfl rfl rfl)

@[simp ↓] theorem with_cry_iff (h : P (part .cry)) (s : CryState) : SameOff P w { v with cry := s } ↔ SameOff P w v :=
  drop_iff (of_part h (fun q hq => by cases q <;> first | rfl | exact absurd rfl hq) rfl rfl rfl rfl)

@[simp ↓] theorem with_smp_iff (h : P (part .smp)) (s : SmpState) : SameOff P w { v with smp := s } ↔ SameOff P w v :=
  drop_iff (of_part h (fun q hq => by cases q <;> first | rfl | exact absurd rfl hq) rfl rfl rfl rfl)

@[simp ↓] theorem with_lmp_iff (h : P (part .lmp)) (s : LmpState) : SameOff P w { v with lmp := s } ↔ SameOff P w v :=
  drop_iff (of_part h (fun q hq => by cases q <;> first | rfl | exact absurd rfl hq) rfl rfl rfl rfl)

@[simp ↓] theorem with_rad_iff (h : P (part .rad)) (s : RadState) : SameOff P w { v with rad := s } ↔ SameOff P w v :=
  drop_iff (of_part h (fun q hq => by cases q <;> first | rfl | exact absurd rfl hq) rfl rfl rfl rfl)

@[simp ↓] theorem with_flt_iff (h : P (part .flt)) (s : FltState) : SameOff P w { v with flt := s } ↔ SameOff P w v :=
  drop_iff (of_part h (fun q hq => by cases q <;> first | rfl | exact absurd rfl hq) rfl rfl rfl rfl)

@[simp ↓] theorem with_led_iff (h : P (part .led)) (s : LedState) : SameOff P w { v with led := s } ↔ SameOff P w v :=
  drop_iff (of_part h (fun q hq => by cases q <;> first | rfl | exact absurd rfl hq) rfl rfl rfl rfl)

@[simp ↓] theorem with_mtr_iff (h : P (part .mtr)) (s : MtrState) : SameOff P w { v with mtr := s } ↔ SameOff P w v :=
  drop_iff (of_part h (fun q hq => by cases q <;> first | rfl | exact absurd rfl hq) rfl rfl rfl rfl)

@[simp ↓] theorem with_rtc_iff (h : P (part .rtc)) (s : RtcState) : SameOff P w { v with rtc := s } ↔ SameOff P w v :=
  drop_iff (of_part h (fun q hq => by cases q <;> first | rfl | exact absurd rfl hq) rfl rfl rfl rfl)

@[simp ↓] theorem with_sys_iff (h : P (part .sys)) (s : SysState) : SameOff P w { v with sys := s } ↔ SameOff P w v :=
  drop_iff (of_part h (fun q hq => by cases q <;> first | rfl | exact absurd rfl hq) rfl rfl rfl rfl)

@[simp ↓] theorem with_lnv_iff (h : P (part .lnv)) (s : LnvState) : SameOff P w { v with lnv := s } ↔ SameOff P w v :=
  drop_iff (of_part h (fun q hq => by cases q <;> first | rfl | exact absurd rfl hq) rfl rfl rfl rfl)

@[simp ↓] theorem with_fls_iff (h : P (part .fls)) (s : FlsState) : SameOff P w { v with fls := s } ↔ SameOff P w v :=
  drop_iff (of_part h (fun q hq => by cases q <;> first | rfl | exact absurd rfl hq) rfl rfl rfl rfl)

@[simp ↓] theorem with_ptn_iff (h : P (part .ptn)) (s : PtnState) : SameOff P w { v with ptn := s } ↔ SameOff P w v :=
  drop_iff (of_part h (fun q hq => by cases q <;> first | rfl | exact absurd rfl hq) rfl rfl rfl rfl)

@[simp ↓] theorem with_resp_iff (h : P (part .resp)) (s : Resp) : SameOff P w { v with resp := s } ↔ SameOff P w v :=
  drop_iff (of_part h (fun q hq => by cases q <;> first | rfl | exact absurd rfl hq) rfl rfl rfl rfl)

@[simp ↓] theorem with_free_iff (h : P (part .free)) (s : Nat) : SameOff P w { v with free := s } ↔ SameOff P w v :=
  drop_iff (of_part h (fun q hq => by cases q <;> first | rfl | exact absurd rfl hq) rfl rfl rfl rfl)

@[simp ↓] theorem with_fls_key_iff (hf : P (part .fls)) (hk : P (part .key)) (f : FlsState) (k : KeyState) :
    SameOff P w { v with fls := f, key := k } ↔ SameOff P w v :=
  (with_key_iff (v := { v with fls := f }) hk k).trans (with_fls_iff hf f)

/-! ## Registers, events, counters and records -/

@[simp ↓] theorem set_iff {f : Fld} (h : P (fld f)) (n : Nat) : SameOff P w (v.set f n) ↔ SameOff P w v :=
  drop_iff (of_keeps (ps := []) (fs := [f]) (gs := []) (.set n (.inl List.mem_cons_self)) (by simp) (by simpa) (by simp))

@[simp ↓] theorem setB_iff {f : Fld} (h : P (fld f)) (b : Bool) :
    SameOff P w (v.setB f b) ↔ SameOff P w v := set_iff h _

@[simp ↓] theorem bump_iff {f : Fld} (h : P (fld f)) (n : Nat) : SameOff P w (v.bump f n) ↔ SameOff P w v := set_iff h _

/-- The register file replaced, where every word that differs may change as a whole. -/
theorem with_regs_iff {r : Regs} (h : ∀ a, P (fld ⟨a, 0, 32⟩) ∨ r.rd a = v.regs.rd a) :
    SameOff P w { v with regs := r } ↔ SameOff P w v :=
  drop_iff
    { parts := fun q _ => by cases q <;> rfl
      bits := fun a b hb => by
        rcases h a with ha | ha
        · have hi : 32 ≤ b := by
            by_contra hlt
            exact hb _ ha ⟨rfl, Nat.zero_le b, (by omega : b < 0 + 32)⟩
          rw [BitVec.getLsbD_of_ge _ _ hi, BitVec.getLsbD_of_ge _ _ hi]
        · rw [ha]
      out := fun _ _ _ => Iff.rfl
      zeroed := fun _ => rfl
      mem := rfl }

/-- A whole register word stored. -/
@[simp ↓] theorem with_regs_wr_iff {a : Nat} (h : P (fld ⟨a, 0, 32⟩)) (x : W32) :
    SameOff P w { v with regs := v.regs.wr a x } ↔ SameOff P w v := by
  refine with_regs_iff fun b => ?_
  by_cases hab : a = b
  · exact .inl (hab ▸ h)
  · exact .inr (Regs.rd_wr_other x hab)

/-- A bus write reaches its own register only. -/
@[simp ↓] theorem with_busWrite_iff {a : Nat} (h : P (fld ⟨a, 0, 32⟩)) (x : W32) :
    SameOff P w { v with regs := v.regs.busWrite a x } ↔ SameOff P w v := by
  unfold Regs.busWrite
  split
  · exact Iff.rfl
  · exact with_regs_wr_iff h _

@[simp ↓] theorem answer_iff (h : P (part .resp)) (n : Nat) :
    SameOff P w (v.answer n) ↔ SameOff P w v := with_resp_iff h _

@[simp ↓] theorem accessFault_iff (h : P (part .resp)) : SameOff P w v.accessFault ↔ SameOff P w v := with_resp_iff h _

@[simp ↓] theorem draw_iff (h : P (part .free)) : SameOff P w v.draw ↔ SameOff P w v := with_free_iff h _

@[simp ↓] theorem raise_iff (h : P (part .irq)) (s n : Nat) :
    SameOff P w (v.raise s n) ↔ SameOff P w v := with_irq_iff h _

@[simp ↓] theorem ev_iff {f : Fld} (h : P (part .irq)) (hf : P (fld f)) (n : Nat) :
    SameOff P w (v.ev f n) ↔ SameOff P w v := by
  refine drop_iff ?_
  unfold W.ev
  simp [h, hf]

@[simp ↓] theorem evEach_iff {f : Fld} (h : P (part .irq)) (hf : P (fld f)) (n : Nat) :
    SameOff P w (v.evEach f n) ↔ SameOff P w v := by
  unfold W.evEach
  simp [h, hf]

/-- What counting an event may change. -/
@[simp] abbrev MayTally (P : Spot → Prop) : Prop := P (part .irq) ∧ P (part .prf) ∧ P (fld PRF_EVENT_sel_limit)

@[simp ↓] theorem tallyN_iff (h : MayTally P) (e n : Nat) : SameOff P w (v.tallyN e n) ↔ SameOff P w v :=
  drop_iff (of_keeps (ps := [.irq, .prf]) (fs := [PRF_EVENT_sel_limit]) (gs := [])
    (.tallyN e n (by decide) (by decide) List.mem_cons_self) (by simp [h]) (by simp [h]) (by simp))

@[simp ↓] theorem tally_iff (h : MayTally P) (e : Nat) : SameOff P w (v.tally e) ↔ SameOff P w v := tallyN_iff h e 1

/-- What the counter carried forward may change. -/
@[simp] abbrev MayAt (P : Spot → Prop) : Prop := P (part .tb) ∧ MayTally P

@[simp ↓] theorem advance_iff (h : MayAt P) (t : Nat) : SameOff P w (v.at_ t) ↔ SameOff P w v :=
  drop_iff (of_keeps (ps := [.tb, .irq, .prf]) (fs := [PRF_EVENT_sel_limit]) (gs := [])
    (.at_ t (by decide) (by decide) (by decide) List.mem_cons_self) (by simp [h]) (by simp [h]) (by simp))

/-- What a record handed to the Scrivener may change. -/
@[simp] abbrev MayRecord (P : Spot → Prop) : Prop :=
  P (part .scr) ∧ P (part .irq) ∧ P (fld REC_LOST_CNT_v) ∧ P (fld REC_EVENT_lost)

@[simp ↓] theorem recordX_iff (h : MayRecord P) (software : Bool) (code block p0 p1 p2 p3 : Nat) :
    SameOff P w (v.recordX software code block p0 p1 p2 p3) ↔ SameOff P w v :=
  drop_iff (of_keeps (ps := [.scr, .irq]) (fs := [REC_LOST_CNT_v, REC_EVENT_lost]) (gs := [])
    (.recordX software code block p0 p1 p2 p3 (by decide) (by decide) (by simp) (by simp)) (by simp [h]) (by simp [h]) (by simp))

@[simp ↓] theorem record_iff (h : MayRecord P) (code block p0 p1 p2 p3 : Nat) :
    SameOff P w (v.record code block p0 p1 p2 p3) ↔ SameOff P w v := recordX_iff h false code block p0 p1 p2 p3

@[simp ↓] theorem evRec_iff {f : Fld} (h : MayRecord P) (hf : P (fld f)) (n p2 p3 : Nat) :
    SameOff P w (v.evRec f n p2 p3) ↔ SameOff P w v := by
  unfold W.evRec
  simp [h, hf]

/-- What a change of a setting may change. -/
@[simp] abbrev MayDirty (P : Spot → Prop) : Prop := P (part .sys) ∧ P (fld SYS_STATUS_settings_dirty)

@[simp ↓] theorem dirty_iff (h : MayDirty P) : SameOff P w v.dirty ↔ SameOff P w v :=
  drop_iff (of_keeps (ps := [.sys]) (fs := [SYS_STATUS_settings_dirty]) (gs := [])
    (.dirty (by decide) List.mem_cons_self) (by simp [h]) (by simp [h]) (by simp))

@[simp ↓] theorem mirrorItem_iff (h : P (part .ptn)) (kind index : Nat) (data : List Byte) :
    SameOff P w (v.mirrorItem kind index data) ↔ SameOff P w v := by
  refine drop_iff ?_
  unfold W.mirrorItem
  simp [h]

/-! ## Queues -/

/-- What a queue stored may change: the queues, and the registers of any queue. -/
@[simp] abbrev MayQueue (P : Spot → Prop) : Prop :=
  P (part .que) ∧ (∀ q, P (fld (QUE_Q_FREE_v q))) ∧ (∀ q, P (fld (QUE_Q_HWM_v q))) ∧ (∀ q, P (fld (QUE_Q_STAT_full q))) ∧
    (∀ q, P (fld (QUE_Q_STAT_flushing q))) ∧ (∀ q, P (fld (QUE_Q_STAT_units q))) ∧ (∀ q, P (fld (QUE_Q_RHEAD_len q))) ∧
    (∀ q, P (fld (QUE_Q_RHEAD_aborted q))) ∧ ∀ q, P (fld (QUE_Q_RHEAD_valid q))

@[simp ↓] theorem setQue_iff (h : P (part .que)) (q : Nat) (s : QState) : SameOff P w (v.setQue q s) ↔ SameOff P w v :=
  with_que_iff h _

@[simp ↓] theorem qStore_iff (h : MayQueue P) (i : QItem) (s : QState) :
    SameOff P w (v.qStore i s) ↔ SameOff P w v := by
  refine drop_iff ?_
  unfold W.qStore
  dsimp only
  split
  · split
    all_goals simp [h]
  · simp [h]

/-! ## Memory -/

@[simp ↓] theorem wr8_iff {a : Nat} (h : P (byte a)) (b : Byte) : SameOff P w (v.wr8 a b) ↔ SameOff P w v :=
  drop_iff
    { parts := fun q _ => by cases q <;> rfl
      bits := fun _ _ _ => rfl
      out := fun _ e he => by
        rw [W.wr8_out, List.mem_cons, or_iff_right]
        rintro rfl
        exact he h
      zeroed := fun _ => rfl
      mem := rfl }

@[simp ↓] theorem wrBytes_iff {a : Nat} {b : List Byte} (h : ∀ i < b.length, P (byte (a + i))) :
    SameOff P w (v.wrBytes a b) ↔ SameOff P w v := by
  induction b generalizing a v with
  | nil => exact Iff.rfl
  | cons x t ih =>
    have h0 : P (byte a) := h 0 (Nat.zero_lt_succ _)
    have ht : ∀ i < t.length, P (byte (a + 1 + i)) := fun i hi => by
      rw [Nat.add_assoc, Nat.add_comm 1 i]
      exact h (i + 1) (Nat.succ_lt_succ hi)
    exact (ih ht).trans (wr8_iff h0 x)

/-- Every register and every byte may change: a footprint that says something of the parts of the devices only. -/
@[simp] abbrev MayWide (P : Spot → Prop) : Prop := (∀ f, P (fld f)) ∧ (∀ a, P (byte a)) ∧ P (zero)

/-- The register file replaced, where every register may change. -/
@[simp ↓] theorem with_regs_wide_iff (h : ∀ f, P (fld f)) (r : Regs) :
    SameOff P w { v with regs := r } ↔ SameOff P w v :=
  with_regs_iff fun _ => .inl (h _)

end SameOff
end Footprint
end Sys2Proof.Machine

namespace Sys2Proof.Machine

/-! # What the operations of the model may change

One lemma per operation, in the order of the model: the operation can be dropped from the end of a chain where the footprint
allows what it may change. Where an operation may store in memory or belongs to the change of a pattern, the lemma asks for the
whole register file (`MayWide`) and names the parts of the devices only. -/

section
open Spot
namespace SameOff
variable {P Q : Spot → Prop} {w v u : W}

/-! ## Shared operations -/

@[simp ↓] theorem tallySel_iff (h : MayTally P) (k n : Nat) : SameOff P w (v.tallySel k n) ↔ SameOff P w v := by
  refine drop_iff ?_
  unfold W.tallySel
  simp [h]

@[simp ↓] theorem cycles_iff (h : MayAt P) (dt : Nat) : SameOff P w (v.cycles dt) ↔ SameOff P w v := by
  refine drop_iff ?_
  unfold W.cycles
  simp [h]

@[simp ↓] theorem push_iff (h : MayQueue P ∧ MayTally P) (producer consumer : Nat) (y : QUnit) :
    SameOff P w (v.push producer consumer y) ↔ SameOff P w v := by
  refine drop_iff ?_
  unfold W.push
  split <;> simp [h]

/-- A unit that crosses a queue at once. -/
theorem cross_sameOff (h : MayQueue P ∧ MayTally P) {producer consumer len : Nat}
    (e : v.cross producer consumer len = some u) :
    SameOff P v u := by
  unfold W.cross at e
  split at e
  · split at e
    · cases e
      simp [h]
    · cases e
  · cases e

@[simp ↓] theorem popQ_iff (h : MayQueue P) (producer consumer : Nat) :
    SameOff P w (v.popQ producer consumer) ↔ SameOff P w v := by
  refine drop_iff ?_
  unfold W.popQ
  dsimp only
  repeat' split
  all_goals simp [h]

/-! ## Network -/

@[simp ↓] theorem emit_iff (h : MayTally P ∧ P (part .net)) (p : Nat) (g : VTag) (dst src : Nat) (body : TxBody) :
    SameOff P w (v.emit p g dst src body) ↔ SameOff P w v := by
  refine drop_iff ?_
  unfold W.emit
  simp [h]

@[simp ↓] theorem learn_iff (h : P (part .net)) (inPort vlan src : Nat) :
    SameOff P w (v.learn inPort vlan src) ↔ SameOff P w v := by
  refine drop_iff ?_
  unfold W.learn
  simp [h]

@[simp ↓] theorem hostSend_iff (h : MayTally P ∧ P (part .net)) (g : VTag) (dst : Nat) (body : TxBody) :
    SameOff P w (v.hostSend g dst body) ↔ SameOff P w v := by
  refine drop_iff ?_
  unfold W.hostSend
  simp [h]

@[simp ↓] theorem sendOut_iff (h : MayTally P ∧ P (part .net)) (port : Option Nat) (g : VTag) (dst : Nat)
    (body : TxBody) :
    SameOff P w (v.sendOut port g dst body) ↔ SameOff P w v := by
  refine drop_iff ?_
  unfold W.sendOut
  split <;> simp [h]

/-- What `W.sendFrom` may change. -/
@[simp] abbrev MaySendFrom (P : Spot → Prop) : Prop := MayQueue P ∧ MayTally P ∧ P (part .net)

theorem sendFrom_sameOff (h : MaySendFrom P) {producer : Nat} {port : Option Nat} {g : VTag} {dst : Nat} {body : TxBody}
    (e : v.sendFrom producer port g dst body = some u) : SameOff P v u := by
  unfold W.sendFrom at e
  split at e
  · split at e
    · cases e
      simp [h]
    · cases e
  · obtain ⟨x, hx, rfl⟩ := Option.map_eq_some_iff.mp e
    simpa [h] using cross_sameOff (by simp [h]) hx

@[simp ↓] theorem blockSend_iff (h : MaySendFrom P) (producer : Nat) (port : Option Nat) (g : VTag) (dst : Nat)
    (body : TxBody) : SameOff P w (v.blockSend producer port g dst body) ↔ SameOff P w v := by
  refine drop_iff ?_
  unfold W.blockSend
  dsimp only
  split
  · exact refl v
  · split
    · simp [h]
    · exact getD_sameOff (fun u e => sendFrom_sameOff h e) (by simp [h])

/-- What `W.waitFlush` may change. -/
@[simp] abbrev MayWaitFlush (P : Spot → Prop) : Prop := MayWide P ∧ P (part .irq) ∧ P (part .net) ∧ P (part .prf) ∧
  P (part .que)

@[simp ↓] theorem waitFlush_iff (h : MayWaitFlush P) (stuck : List Nat)
    (l : List (Nat × Option Nat × VTag × Nat × TxBody)) :
    SameOff P w (W.waitFlush stuck l v) ↔ SameOff P w v := by
  refine drop_iff ?_
  induction l generalizing stuck v with
  | nil => exact refl v
  | cons x t ih =>
    unfold W.waitFlush
    split
    next u e =>
      split at e
      · cases e
      · exact (sendFrom_sameOff (by simp [h]) e).trans (((with_net_iff (by simp [h]) _).mpr (refl u)).trans (ih stuck))
    · exact ih _

@[simp ↓] theorem netDrain_iff (h : MayWaitFlush P) (producer n : Nat) :
    SameOff P w (W.netDrain producer n v) ↔ SameOff P w v := by
  refine drop_iff ?_
  induction n generalizing v with
  | zero => exact refl v
  | succ n ih =>
    unfold W.netDrain
    split
    · exact .trans (by simp [h]) ih
    · exact refl v

/-- What `W.hostTrim` may change. -/
@[simp] abbrev MayHostTrim (P : Spot → Prop) : Prop := MayTally P ∧ P (part .net) ∧ ∀ q, P (fld (NET_DROP_CNT_v q))

@[simp ↓] theorem hostTrim_iff (h : MayHostTrim P) (n : Nat) : SameOff P w (W.hostTrim n v) ↔ SameOff P w v := by
  refine drop_iff ?_
  induction n generalizing v with
  | zero => exact refl v
  | succ n ih =>
    unfold W.hostTrim
    split
    · exact refl v
    · exact .trans (by simp [h]) ih

@[simp ↓] theorem hostHold_iff (h : MayHostTrim P) (f : HostFrame) : SameOff P w (v.hostHold f) ↔ SameOff P w v := by
  refine drop_iff ?_
  unfold W.hostHold
  simp [h]

@[simp ↓] theorem toLanes_iff (h : MaySendFrom P ∧ ∀ q, P (fld (NET_DROP_CNT_v q))) (cls : Nat) (b : List Byte) :
    SameOff P w (v.toLanes cls b) ↔ SameOff P w v := by
  refine drop_iff ?_
  unfold W.toLanes
  split <;> simp [h]

@[simp ↓] theorem hostLanes_iff (h : MayWaitFlush P) (l : List HostFrame) :
    SameOff P w (W.hostLanes l v) ↔ SameOff P w v := by
  refine drop_iff ?_
  induction l generalizing v with
  | nil => exact refl v
  | cons x t ih =>
    unfold W.hostLanes
    split
    · exact ih
    · split
      · exact .trans (by simp [h]) ih
      · exact refl v

@[simp ↓] theorem hostDrain_iff (h : MayWaitFlush P) : SameOff P w v.hostDrain ↔ SameOff P w v := hostLanes_iff h _

@[simp ↓] theorem hostTake_iff (h : MaySendFrom P ∧ ∀ q, P (fld (NET_DROP_CNT_v q))) (f : EthFrame) :
    SameOff P w (v.hostTake f) ↔ SameOff P w v := by
  refine drop_iff ?_
  unfold W.hostTake
  split <;> simp [h]

@[simp ↓] theorem switchRx_iff (h : MaySendFrom P ∧ ∀ q, P (fld (NET_DROP_CNT_v q))) (p : Nat) (f : EthFrame) :
    SameOff P w (v.switchRx p f) ↔ SameOff P w v := by
  refine drop_iff ?_
  unfold W.switchRx
  dsimp only
  simp [h]

/-! ## Streams taken in -/

@[simp ↓] theorem setCache_iff (h : MayWide P ∧ P (part .ing)) (c : List (Nat × CacheLine)) :
    SameOff P w (v.setCache c) ↔ SameOff P w v := by
  refine drop_iff ?_
  unfold W.setCache
  simp [h]

@[simp ↓] theorem writeBack_iff (h : MayWide P ∧ P (part .ing)) (i : Nat) :
    SameOff P w (v.writeBack i) ↔ SameOff P w v := by
  refine drop_iff ?_
  unfold W.writeBack
  dsimp only
  repeat' split
  all_goals simp [h]

@[simp ↓] theorem dropLine_iff (h : MayWide P ∧ P (part .ing)) (i : Nat) :
    SameOff P w (v.dropLine i) ↔ SameOff P w v := by
  refine drop_iff ?_
  unfold W.dropLine
  simp [h]

/-- What `W.fetchEnt` may change. -/
@[simp] abbrev MayFetchEnt (P : Spot → Prop) : Prop := MayWide P ∧ P (part .ing) ∧ P (part .irq) ∧ P (part .prf)

@[simp ↓] theorem fetchEnt_iff (h : MayFetchEnt P) (i : Nat) : SameOff P w (v.fetchEnt i) ↔ SameOff P w v := by
  refine drop_iff ?_
  unfold W.fetchEnt
  dsimp only
  repeat' split
  all_goals simp [h]

@[simp ↓] theorem setEnt_iff (h : MayFetchEnt P) (i : Nat) (f : List Byte → List Byte) :
    SameOff P w (v.setEnt i f) ↔ SameOff P w v := by
  refine drop_iff ?_
  unfold W.setEnt
  dsimp only
  split <;> simp [h]

@[simp ↓] theorem setHead_iff (h : P (part .ing)) (i : Nat) (z : Head) :
    SameOff P w (v.setHead i z) ↔ SameOff P w v := by
  refine drop_iff ?_
  unfold W.setHead
  simp [h]

@[simp ↓] theorem showSilent_iff (h : MayWide P) : SameOff P w v.showSilent ↔ SameOff P w v := by
  refine drop_iff ?_
  unfold W.showSilent
  simp [h]

@[simp ↓] theorem claim_iff (h : P (part .ing)) (i : Nat) (chain : List Nat) :
    SameOff P w (v.claim i chain) ↔ SameOff P w v := by
  refine drop_iff ?_
  unfold W.claim
  simp [h]

@[simp ↓] theorem setChain_iff (h : MayFetchEnt P) (i : Nat) (z : Head) (st : Nat) :
    SameOff P w (v.setChain i z st) ↔ SameOff P w v := by
  refine drop_iff ?_
  unfold W.setChain
  simp [h]

/-- What `W.ingDone` may change. -/
@[simp] abbrev MayIngDone (P : Spot → Prop) : Prop := P (fld ING_CMD_STATUS_busy) ∧ P (fld ING_CMD_STATUS_done) ∧
  P (fld ING_CMD_STATUS_result)

@[simp ↓] theorem ingDone_iff (h : MayIngDone P) (code : Nat) : SameOff P w (v.ingDone code) ↔ SameOff P w v := by
  refine drop_iff ?_
  unfold W.ingDone
  simp [h]

@[simp ↓] theorem tailEnt_iff (h : MayFetchEnt P) (e : Nat) : SameOff P w (v.tailEnt e) ↔ SameOff P w v := by
  refine drop_iff ?_
  unfold W.tailEnt
  simp [h]

@[simp ↓] theorem ingEnable_iff (h : MayFetchEnt P ∧ P (part .scr)) (i : Nat) :
    SameOff P w (v.ingEnable i) ↔ SameOff P w v := by
  refine drop_iff ?_
  unfold W.ingEnable
  simp [h]

@[simp ↓] theorem showMap_iff (h : P (fld ING_MAP_RESULT_index) ∧ P (fld ING_MAP_RESULT_valid)) :
    SameOff P w v.showMap ↔ SameOff P w v := by
  refine drop_iff ?_
  unfold W.showMap
  split <;> simp [h]

@[simp ↓] theorem mapTold_iff (h : MayDirty P ∧ P (part .ptn)) (id : Nat) :
    SameOff P w (v.mapTold id) ↔ SameOff P w v := by
  refine drop_iff ?_
  unfold W.mapTold
  simp [h]

@[simp ↓] theorem dropFrame_iff (h : MayFetchEnt P) (code : Nat) (head : Option Nat) :
    SameOff P w (v.dropFrame code head) ↔ SameOff P w v := by
  refine drop_iff ?_
  unfold W.dropFrame
  split <;> simp [h]

/-- What `W.sendChecked` may change. -/
@[simp] abbrev MaySendChecked (P : Spot → Prop) : Prop := MayWide P ∧ P (part .irq) ∧ P (part .prf) ∧ P (part .que)

@[simp ↓] theorem sendChecked_iff (h : MaySendChecked P) (cs : List Checked) :
    SameOff P w (v.sendChecked cs) ↔ SameOff P w v := by
  refine drop_iff ?_
  unfold W.sendChecked
  simp [h]

@[simp ↓] theorem acceptFrame_iff (h : MayFetchEnt P ∧ P (part .que)) (i : Nat) (z h' : Head) (test : Bool)
    (cs : List Checked) (arrival instant : Nat) :
    SameOff P w (v.acceptFrame i z h' test cs arrival instant) ↔ SameOff P w v := by
  refine drop_iff ?_
  unfold W.acceptFrame
  simp [h]

/-- What `W.ingressTry` may change. -/
@[simp] abbrev MayIngressTry (P : Spot → Prop) : Prop := MayFetchEnt P ∧ P (part .que) ∧ P (part .scr)

theorem ingressTry_sameOff (h : MayIngressTry P) {f : C37Frame} (e : v.ingressTry f = some u) : SameOff P v u := by
  unfold W.ingressTry at e
  dsimp only at e
  repeat' split at e
  all_goals cases e
  all_goals simp [h]

theorem ingressOne_sameOff (h : MayIngressTry P) {f : C37Frame} (e : v.ingressOne f = some u) : SameOff P v u :=
  (getD_sameOff (fun _ k => cross_sameOff (by simp [h]) k) (refl v)).trans (ingressTry_sameOff h e)

@[simp ↓] theorem ingHeld_iff (h : MayIngressTry P ∧ P (part .net)) (l : List HostFrame) :
    SameOff P w (W.ingHeld l v) ↔ SameOff P w v := by
  refine drop_iff ?_
  induction l generalizing v with
  | nil => exact refl v
  | cons x t ih =>
    unfold W.ingHeld
    split
    · exact ih
    · split
      next e => exact (ingressOne_sameOff (by simp [h]) e).trans (.trans (by simp [h]) ih)
      · exact refl v

@[simp ↓] theorem hostRelease_iff (h : MayIngressTry P ∧ P (part .net)) : SameOff P w v.hostRelease ↔ SameOff P w v :=
  (ingHeld_iff h _).trans (hostDrain_iff (by simp [h]))

@[simp ↓] theorem setConn_iff (h : P (part .ing)) (c : Nat) (x : TcpConn) :
    SameOff P w (v.setConn c x) ↔ SameOff P w v := by
  refine drop_iff ?_
  unfold W.setConn
  simp [h]

/-- What `W.tcpSend` may change. -/
@[simp] abbrev MayTcpSend (P : Spot → Prop) : Prop := MayTally P ∧ P (part .ing) ∧ P (part .net)

@[simp ↓] theorem tcpSend_iff (h : MayTcpSend P) (c : Nat) (x : TcpConn) (seq : Nat) (data : List Byte) :
    SameOff P w (v.tcpSend c x seq data) ↔ SameOff P w v := by
  refine drop_iff ?_
  unfold W.tcpSend
  simp [h]

@[simp ↓] theorem tcpAck_iff (h : MayTcpSend P) (c : Nat) (x : TcpConn) :
    SameOff P w (v.tcpAck c x) ↔ SameOff P w v := by
  refine drop_iff ?_
  unfold W.tcpAck
  simp [h]

/-! ## Alignment -/

@[simp ↓] theorem setGroup_iff (h : P (part .aln)) (g : Nat) (x : AlnGroup) :
    SameOff P w (v.setGroup g x) ↔ SameOff P w v := by
  refine drop_iff ?_
  unfold W.setGroup
  simp [h]

/-- What `W.showGroup` may change. -/
@[simp] abbrev MayShowGroup (P : Spot → Prop) (i : List Byte) : Prop := P (fld (ALN_GRP_STATUS_adaptive (gNum i))) ∧
  P (fld (ALN_GRP_STATUS_members (gNum i))) ∧ P (fld (ALN_GRP_STATUS_running (gNum i))) ∧
  P (fld (ALN_GRP_STATUS_window_cur_ms (gNum i)))

@[simp ↓] theorem showGroup_iff {i : List Byte} (h : MayShowGroup P i) :
    SameOff P w (v.showGroup i) ↔ SameOff P w v := by
  refine drop_iff ?_
  unfold W.showGroup
  simp [h]

/-- What `W.sendNotices` may change. -/
@[simp] abbrev MaySendNotices (P : Spot → Prop) : Prop := MayQueue P ∧ MayTally P ∧ P (part .aln)

@[simp ↓] theorem sendNotices_iff (h : MaySendNotices P) (n : Nat) :
    SameOff P w (W.sendNotices n v) ↔ SameOff P w v := by
  refine drop_iff ?_
  induction n generalizing v with
  | zero => exact refl v
  | succ n ih =>
    unfold W.sendNotices
    split
    · exact refl v
    · split
      · exact .trans (by simp [h]) ih
      · exact refl v

@[simp ↓] theorem notify_iff (h : MaySendChecked P ∧ P (part .aln)) (b : List Byte) :
    SameOff P w (v.notify b) ↔ SameOff P w v := by
  refine drop_iff ?_
  unfold W.notify
  split
  · exact refl v
  · simp [h]

@[simp ↓] theorem takeSlot_fst_iff (h : MayWide P ∧ P (part .aln)) (i : List Byte) :
    SameOff P w (v.takeSlot i).1 ↔ SameOff P w v := by
  refine drop_iff ?_
  unfold W.takeSlot
  simp [h]

@[simp ↓] theorem putHeader_iff (h : MayWide P) (addr : Nat) (z : List Byte) :
    SameOff P w (v.putHeader addr z) ↔ SameOff P w v := by
  refine drop_iff ?_
  unfold W.putHeader
  simp [h]

@[simp ↓] theorem marker_iff (h : MaySendChecked P ∧ P (part .aln)) (i : List Byte) :
    SameOff P w (v.marker i) ↔ SameOff P w v := by
  refine drop_iff ?_
  unfold W.marker
  dsimp only
  split
  · exact .trans (v := (v.takeSlot i).1) (by simp [h]) (by simp [h])
  · exact refl v

@[simp ↓] theorem owe_iff (h : P (part .aln)) (f : AlnGroup → AlnGroup) : SameOff P w (v.owe f) ↔ SameOff P w v := by
  refine drop_iff ?_
  unfold W.owe
  simp [h]

@[simp ↓] theorem outSend_iff (h : MayWaitFlush P) (n : Nat) (s : AlnSet) :
    SameOff P w (v.outSend n s) ↔ SameOff P w v := by
  refine drop_iff ?_
  unfold W.outSend
  dsimp only
  simp [h]

@[simp ↓] theorem outputs_iff (h : MayWaitFlush P) (g : Nat) (s : AlnSet) :
    SameOff P w (v.outputs g s) ↔ SameOff P w v := by
  refine drop_iff ?_
  unfold W.outputs
  split <;> simp [h]

@[simp ↓] theorem closeSet_iff (h : MayWaitFlush P ∧ P (part .aln)) (i : List Byte) (s : AlnSet) (reason : Nat) :
    SameOff P w (v.closeSet i s reason) ↔ SameOff P w v := by
  refine drop_iff ?_
  unfold W.closeSet
  dsimp only
  simp [h]

@[simp ↓] theorem closeReady_iff (h : MayWaitFlush P ∧ P (part .aln)) (i : List Byte) (n : Nat) :
    SameOff P w (W.closeReady i n v) ↔ SameOff P w v := by
  refine drop_iff ?_
  induction n generalizing v with
  | zero => exact refl v
  | succ n ih =>
    unfold W.closeReady
    dsimp only
    split
    · exact refl v
    · repeat' split
      · exact refl v
      · exact .trans (by simp [h]) ih
      · exact .trans (by simp [h]) ih
      · exact refl v

@[simp ↓] theorem closeDue_iff (h : MayWaitFlush P ∧ P (part .aln)) (i : List Byte) :
    SameOff P w (v.closeDue i) ↔ SameOff P w v :=
  closeReady_iff h i _

@[simp ↓] theorem closeAll_iff (h : MayWaitFlush P ∧ P (part .aln)) (i : List Byte) (reason : Nat) :
    SameOff P w (v.closeAll i reason) ↔ SameOff P w v := by
  refine drop_iff ?_
  unfold W.closeAll
  simp [h]

@[simp ↓] theorem putMembers_iff (h : MayWide P) (i : List Byte) (s : AlnSet) :
    SameOff P w (v.putMembers i s) ↔ SameOff P w v := by
  refine drop_iff ?_
  unfold W.putMembers
  simp [h]

@[simp ↓] theorem alnRefresh_iff (h : MayWaitFlush P ∧ P (part .aln)) : SameOff P w v.alnRefresh ↔ SameOff P w v := by
  refine drop_iff ?_
  unfold W.alnRefresh
  refine foldl (fun x i => ?_) _ _
  simp [h]

@[simp ↓] theorem alnRun_iff (h : MayWaitFlush P ∧ P (part .aln)) (i : List Byte) :
    SameOff P w (v.alnRun i) ↔ SameOff P w v := by
  refine drop_iff ?_
  unfold W.alnRun
  dsimp only
  simp [h]

@[simp ↓] theorem alnRunAll_iff (h : MayWaitFlush P ∧ P (part .aln)) : SameOff P w v.alnRunAll ↔ SameOff P w v := by
  refine drop_iff ?_
  unfold W.alnRunAll
  simp [h]

/-- What `W.takeSample` may change. -/
@[simp] abbrev MayTakeSample (P : Spot → Prop) (i : List Byte) : Prop := P (part .aln) ∧ P (part .irq) ∧
  P (fld ALN_EVENT_window_clip) ∧ P (fld (ALN_GRP_P999_k_ms (gNum i))) ∧ P (fld (ALN_GRP_P999_samples (gNum i))) ∧
  P (fld (ALN_GRP_STATUS_adaptive (gNum i))) ∧ P (fld (ALN_GRP_STATUS_members (gNum i))) ∧
  P (fld (ALN_GRP_STATUS_running (gNum i))) ∧ P (fld (ALN_GRP_STATUS_window_cur_ms (gNum i)))

@[simp ↓] theorem takeSample_iff {i : List Byte} (h : MayTakeSample P i) (s : AlnSet) :
    SameOff P w (v.takeSample i s) ↔ SameOff P w v := by
  refine drop_iff ?_
  unfold W.takeSample
  simp [h]

/-- What `W.queFreed` may change. -/
@[simp] abbrev MayQueFreed (P : Spot → Prop) : Prop := MayIngressTry P ∧ P (part .aln) ∧ P (part .net)

@[simp ↓] theorem queFreed_iff (h : MayQueFreed P) : SameOff P w v.queFreed ↔ SameOff P w v := by
  refine drop_iff ?_
  unfold W.queFreed
  simp [h]

/-! ## Sampling -/

@[simp ↓] theorem setSmp_iff (h : P (part .smp)) (x : SmpState) : SameOff P w (v.setSmp x) ↔ SameOff P w v := by
  refine drop_iff ?_
  unfold W.setSmp
  simp [h]

/-- What `W.setChan` may change. -/
@[simp] abbrev MaySetChan (P : Spot → Prop) : Prop := P (part .smp) ∧ (∀ q, P (fld (SMP_CH_STATE_k q))) ∧
  ∀ q, P (fld (SMP_CH_STATE_state q))

@[simp ↓] theorem setChan_iff (h : MaySetChan P) (c : Nat) (x : Chan) :
    SameOff P w (v.setChan c x) ↔ SameOff P w v := by
  refine drop_iff ?_
  unfold W.setChan
  simp [h]

@[simp ↓] theorem chanJudge_iff (h : MaySetChan P) (c : Nat) : SameOff P w (v.chanJudge c) ↔ SameOff P w v := by
  refine drop_iff ?_
  unfold W.chanJudge
  simp [h]

@[simp ↓] theorem showSmp_iff (h : MayWide P ∧ P (part .irq)) : SameOff P w v.showSmp ↔ SameOff P w v := by
  refine drop_iff ?_
  unfold W.showSmp
  simp [h]

/-- What `W.smpRefresh` may change. -/
@[simp] abbrev MaySmpRefresh (P : Spot → Prop) : Prop := MayWide P ∧ P (part .irq) ∧ P (part .smp)

@[simp ↓] theorem smpRefresh_iff (h : MaySmpRefresh P) : SameOff P w v.smpRefresh ↔ SameOff P w v := by
  refine drop_iff ?_
  unfold W.smpRefresh
  simp [h]

@[simp ↓] theorem applyCfg_iff (h : MaySetChan P) : SameOff P w v.applyCfg ↔ SameOff P w v := by
  refine drop_iff ?_
  unfold W.applyCfg
  dsimp only
  simp [h]

theorem sendHeld_sameOff (h : MayQueue P ∧ MayTally P) {consumer n : Nat} {us r : List QUnit}
    (e : W.sendHeld consumer n v us = (u, r)) : SameOff P v u := by
  induction n generalizing v us with
  | zero =>
    cases e
    exact refl _
  | succ n ih =>
    unfold W.sendHeld at e
    split at e
    · cases e
      exact refl _
    · split at e
      · exact .trans (by simp [h]) (ih e)
      · cases e
        exact refl _

/-- What `W.smpFlush` may change. -/
@[simp] abbrev MaySmpFlush (P : Spot → Prop) : Prop := MayQueue P ∧ MayTally P ∧ P (part .smp)

@[simp ↓] theorem smpFlush_iff (h : MaySmpFlush P) : SameOff P w v.smpFlush ↔ SameOff P w v := by
  refine drop_iff ?_
  unfold W.smpFlush
  split
  next ea =>
    split
    next ep => exact (sendHeld_sameOff (by simp [h]) ea).trans ((sendHeld_sameOff (by simp [h]) ep).trans (by simp [h]))

/-- What `W.smpPut` may change. -/
@[simp] abbrev MaySmpPut (P : Spot → Prop) : Prop := MaySmpFlush P ∧ P (fld SMP_DROP_CNT_v) ∧ P (fld SMP_EVENT_out_drop)

@[simp ↓] theorem smpPut_iff (h : MaySmpPut P) (aln : Bool) (y : QUnit) :
    SameOff P w (v.smpPut aln y) ↔ SameOff P w v := by
  refine drop_iff ?_
  unfold W.smpPut
  split <;> simp [h]

@[simp ↓] theorem showDet_iff (h : P (fld SMP_DET_ENV_v) ∧ P (fld SMP_DET_RMS_v)) :
    SameOff P w v.showDet ↔ SameOff P w v := by
  refine drop_iff ?_
  unfold W.showDet
  simp [h]

@[simp ↓] theorem gridRecord_iff (h : MaySmpPut P) (g rate inst : Nat) :
    SameOff P w (v.gridRecord g rate inst) ↔ SameOff P w v := by
  refine drop_iff ?_
  unfold W.gridRecord
  simp [h]

/-- What `W.sweep` may change. -/
@[simp] abbrev MaySweep (P : Spot → Prop) : Prop := MaySmpPut P ∧ (∀ q, P (fld (SMP_CH_PEAK_v q))) ∧
  (∀ q, P (fld (SMP_CH_STATE_clipped_seen q))) ∧ (∀ q, P (fld (SMP_CH_STATE_k q))) ∧
  (∀ q, P (fld (SMP_CH_STATE_state q))) ∧ P (fld SMP_DET_ENV_v) ∧ P (fld SMP_DET_RMS_v) ∧ P (fld SMP_EVENT_hold) ∧
  P (fld SMP_EVENT_settled)

@[simp ↓] theorem sweep_iff (h : MaySweep P) (inst n : Nat) (samples : List (Nat × Option (Option Sample1))) :
    SameOff P w (v.sweep inst n samples) ↔ SameOff P w v := by
  refine drop_iff ?_
  unfold W.sweep
  refine (showDet_iff (by simp [h])).mpr (.trans (v := List.foldl _ (v.tally 0x70) samples) ?_ (foldl (fun x g => ?_) _ _))
  refine (foldl_iff (fun x e => ?_) samples).mpr (by simp [h])
  · dsimp only
    split
    · exact refl x
    next smp _ =>
      cases smp
      all_goals simp [h]
  · simp [h]

@[simp ↓] theorem adcSweep_iff (h : MaySweep P) (cv : Conv) : SameOff P w (v.adcSweep cv) ↔ SameOff P w v := by
  refine drop_iff ?_
  unfold W.adcSweep
  simp [h]

@[simp ↓] theorem sweepDone_iff (h : MaySweep P) (n : Nat) : SameOff P w (W.sweepDone n v) ↔ SameOff P w v := by
  refine drop_iff ?_
  induction n generalizing v with
  | zero => exact refl v
  | succ n ih =>
    unfold W.sweepDone
    split
    · split
      · exact .trans (by simp [h]) ih
      · exact refl v
    · exact refl v

/-- What `W.adcFrame` may change. -/
@[simp] abbrev MayAdcFrame (P : Spot → Prop) : Prop := MaySweep P ∧ P (fld SMP_EVENT_link_err) ∧
  (∀ q, P (fld (SMP_LINK_CRC_v q))) ∧ ∀ q, P (fld (SMP_LINK_LATE_v q))

@[simp ↓] theorem adcFrame_iff (h : MayAdcFrame P) (f : AdcFrame) : SameOff P w (v.adcFrame f) ↔ SameOff P w v := by
  refine drop_iff ?_
  unfold W.adcFrame
  split
  · exact refl v
  · simp [h]

/-- What `W.svAsdu` may change. -/
@[simp] abbrev MaySvAsdu (P : Spot → Prop) : Prop := P (part .irq) ∧ P (part .smp) ∧ P (fld SMP_EVENT_sv_late) ∧
  ∀ q, P (fld (SMP_SV_LATE_v q))

@[simp ↓] theorem svAsdu_iff (h : MaySvAsdu P) (k : Nat) (sim : Bool) (arrival : Nat) (a : SvAsdu) :
    SameOff P w (v.svAsdu k sim arrival a) ↔ SameOff P w v := by
  refine drop_iff ?_
  unfold W.svAsdu
  simp [h]

@[simp ↓] theorem svFrame_iff (h : MaySvAsdu P ∧ ∀ q, P (fld (SMP_SV_LOST_v q))) (f : SvFrame) :
    SameOff P w (v.svFrame f) ↔ SameOff P w v := by
  refine drop_iff ?_
  unfold W.svFrame
  dsimp only
  split
  · simp [h]
  · refine foldl (fun x k => ?_) _ _
    simp [h]

@[simp ↓] theorem svProcess_iff (h : MaySweep P ∧ ∀ q, P (fld (SMP_SV_LOST_v q))) (n : Nat) :
    SameOff P w (v.svProcess n) ↔ SameOff P w v := by
  refine drop_iff ?_
  unfold W.svProcess
  simp [h]

@[simp ↓] theorem phasorReport_iff (h : MaySmpPut P ∧ P (fld SMP_PHS_VALID_v)) (inst : Nat) :
    SameOff P w (v.phasorReport inst) ↔ SameOff P w v := by
  refine drop_iff ?_
  unfold W.phasorReport
  simp [h]

@[simp ↓] theorem smpSnap_iff (h : ∀ q, P (fld (SMP_SNAP_RMS_v q))) : SameOff P w v.smpSnap ↔ SameOff P w v := by
  refine drop_iff ?_
  unfold W.smpSnap
  simp [h]

/-! ## Analytics -/

@[simp ↓] theorem setMon_iff (h : P (part .gan)) (kind num : Nat) (m : GanMon) :
    SameOff P w (v.setMon kind num m) ↔ SameOff P w v := by
  refine drop_iff ?_
  unfold W.setMon
  simp [h]

@[simp ↓] theorem setTun_iff (h : P (part .gan)) (n : Nat) (x : GanTun) :
    SameOff P w (v.setTun n x) ↔ SameOff P w v := by
  refine drop_iff ?_
  unfold W.setTun
  simp [h]

@[simp ↓] theorem setRule_iff (h : P (part .gan)) (n : Nat) (x : GanRule) :
    SameOff P w (v.setRule n x) ↔ SameOff P w v := by
  refine drop_iff ?_
  unfold W.setRule
  simp [h]

@[simp ↓] theorem setSvy_iff (h : P (part .gan)) (x : GanSvy) : SameOff P w (v.setSvy x) ↔ SameOff P w v := by
  refine drop_iff ?_
  unfold W.setSvy
  simp [h]

@[simp ↓] theorem freqMon_iff (h : P (part .gan)) (n : Nat) (i : List Byte) (s : GanSet) (b : List Byte) :
    SameOff P w (v.freqMon n i s b) ↔ SameOff P w v := by
  refine drop_iff ?_
  unfold W.freqMon
  simp [h]

@[simp ↓] theorem pairMon_iff (h : P (part .gan)) (n : Nat) (i : List Byte) (s : GanSet) (b : List Byte) :
    SameOff P w (v.pairMon n i s b) ↔ SameOff P w v := by
  refine drop_iff ?_
  unfold W.pairMon
  dsimp only
  split <;> simp [h]

@[simp ↓] theorem levelMon_iff (h : P (part .gan)) (n : Nat) (i : List Byte) (s : GanSet) (b : List Byte) :
    SameOff P w (v.levelMon n i s b) ↔ SameOff P w v := by
  refine drop_iff ?_
  unfold W.levelMon
  split <;> simp [h]

theorem monKind_iff {f : W → Nat → List Byte → GanSet → List Byte → W} (h : ∀ x n i s b, SameOff P x (f x n i s b))
    (kind : Nat) (s : GanSet) : SameOff P w (v.monKind kind s f) ↔ SameOff P w v := by
  refine foldl_iff (fun x i => ?_) _
  split
  · exact h ..
  · exact refl x

@[simp ↓] theorem monitors_iff (h : P (part .gan)) (s : GanSet) : SameOff P w (v.monitors s) ↔ SameOff P w v := by
  refine drop_iff ?_
  unfold W.monitors
  simp [monKind_iff, h]

/-- What `W.tunRestart` may change. -/
@[simp] abbrev MayTunRestart (P : Spot → Prop) : Prop := P (part .gan) ∧ P (part .irq) ∧ P (fld GAN_EVENT_tun_restart)

@[simp ↓] theorem tunRestart_iff (h : MayTunRestart P) (n : Nat) : SameOff P w (v.tunRestart n) ↔ SameOff P w v := by
  refine drop_iff ?_
  unfold W.tunRestart
  simp [h]

@[simp ↓] theorem tunSample_iff (h : MayTunRestart P) (n : Nat) (i : List Byte) (s : GanSet) (x : Option W32) :
    SameOff P w (v.tunSample n i s x) ↔ SameOff P w v := by
  refine drop_iff ?_
  unfold W.tunSample
  dsimp only
  split <;> simp [h]

@[simp ↓] theorem tuner_iff (h : MayTunRestart P) (s : GanSet) : SameOff P w (v.tuner s) ↔ SameOff P w v := by
  refine drop_iff ?_
  unfold W.tuner
  split
  · exact refl v
  · refine foldl (fun x i => ?_) _ _
    dsimp only
    repeat' split
    all_goals simp [h]

@[simp ↓] theorem tunReport_iff (h : MayTally P ∧ P (part .gan)) (n : Nat) (i : List Byte) (sec : Nat) :
    SameOff P w (v.tunReport n i sec) ↔ SameOff P w v := by
  refine drop_iff ?_
  unfold W.tunReport
  simp [h]

@[simp ↓] theorem svyUpdate_iff (h : P (part .gan)) (s : GanSet) : SameOff P w (v.svyUpdate s) ↔ SameOff P w v := by
  refine drop_iff ?_
  unfold W.svyUpdate
  simp [h]

/-- What `W.showSvy` may change. -/
@[simp] abbrev MayShowSvy (P : Spot → Prop) : Prop := P (fld GAN_SVY_DIGEST_HI_v) ∧ P (fld GAN_SVY_DIGEST_LO_v) ∧
  P (fld GAN_SVY_STATUS_components) ∧ P (fld GAN_SVY_STATUS_open_edges)

@[simp ↓] theorem showSvy_iff (h : MayShowSvy P) : SameOff P w v.showSvy ↔ SameOff P w v := by
  refine drop_iff ?_
  unfold W.showSvy
  simp [h]

/-- What `W.svyTick` may change. -/
@[simp] abbrev MaySvyTick (P : Spot → Prop) : Prop := MayShowSvy P ∧ MayTally P ∧ P (part .free) ∧ P (part .gan) ∧
  P (fld GAN_EVENT_svy_change) ∧ P (fld GAN_SVY_CALC_NS_v) ∧ P (fld GAN_SVY_SEQ_v)

@[simp ↓] theorem svyTick_iff (h : MaySvyTick P) (s : GanSet) : SameOff P w (v.svyTick s) ↔ SameOff P w v := by
  refine drop_iff ?_
  unfold W.svyTick
  simp [h]

/-- What `W.sendHits` may change. -/
@[simp] abbrev MaySendHits (P : Spot → Prop) : Prop := MayQueue P ∧ MayTally P ∧ P (part .gan) ∧
  P (fld GAN_EVENT_hit_wait)

@[simp ↓] theorem sendHits_iff (h : MaySendHits P) (n : Nat) : SameOff P w (W.sendHits n v) ↔ SameOff P w v := by
  refine drop_iff ?_
  induction n generalizing v with
  | zero => exact refl v
  | succ n ih =>
    unfold W.sendHits
    split
    · exact refl v
    · split
      · exact .trans (by simp [h]) ih
      · simp [h]

@[simp ↓] theorem ganFlush_iff (h : MaySendHits P) : SameOff P w v.ganFlush ↔ SameOff P w v := sendHits_iff h _

@[simp ↓] theorem sendHit_iff (h : MaySendHits P) (kind : Nat) (b : List Byte) :
    SameOff P w (v.sendHit kind b) ↔ SameOff P w v := by
  refine drop_iff ?_
  unfold W.sendHit
  split <;> simp [h]

@[simp ↓] theorem showRule_iff (h : ∀ q, P (fld (GAN_RULE_ACTIVE_v q))) (n : Nat) :
    SameOff P w (v.showRule n) ↔ SameOff P w v := by
  refine drop_iff ?_
  unfold W.showRule
  simp [h]

/-- What `W.ruleEval` may change. -/
@[simp] abbrev MayRuleEval (P : Spot → Prop) : Prop := MaySendHits P ∧ P (fld GAN_EVENT_stale_term) ∧
  ∀ q, P (fld (GAN_RULE_ACTIVE_v q))

@[simp ↓] theorem ruleEval_iff (h : MayRuleEval P) (i : List Byte) (s : GanSet) :
    SameOff P w (v.ruleEval i s) ↔ SameOff P w v := by
  refine drop_iff ?_
  unfold W.ruleEval
  simp [h]

@[simp ↓] theorem rulePass_iff (h : MayRuleEval P) (s : GanSet) (island : Bool) :
    SameOff P w (v.rulePass s island) ↔ SameOff P w v := by
  refine drop_iff ?_
  unfold W.rulePass
  simp [h]

/-- What `W.ganNotice` may change. -/
@[simp] abbrev MayGanNotice (P : Spot → Prop) : Prop := MayRuleEval P ∧ MaySvyTick P ∧ P (fld GAN_EVENT_tun_restart) ∧
  P (fld GAN_SETS_CNT_v)

@[simp ↓] theorem ganNotice_iff (h : MayGanNotice P) (b : List Byte) : SameOff P w (v.ganNotice b) ↔ SameOff P w v := by
  refine drop_iff ?_
  unfold W.ganNotice
  split
  · simp [h]
  · simp [h]

@[simp ↓] theorem paramWrite_iff (h : P (part .gan) ∧ P (fld GAN_PARAM_STATUS_result)) (x : W32) :
    SameOff P w (v.paramWrite x) ↔ SameOff P w v := by
  refine drop_iff ?_
  unfold W.paramWrite
  dsimp only
  split <;> simp [h]

/-- What `W.latchRule` may change. -/
@[simp] abbrev MayLatchRule (P : Spot → Prop) : Prop := P (fld GAN_RULE_HITS_v) ∧ P (fld GAN_RULE_SEL_rule) ∧
  P (fld GAN_RULE_STATE_count) ∧ P (fld GAN_RULE_STATE_enabled) ∧ P (fld GAN_RULE_STATE_stale) ∧
  P (fld GAN_RULE_STATE_state) ∧ P (fld GAN_RULE_STATE_values)

@[simp ↓] theorem latchRule_iff (h : MayLatchRule P) (n : Nat) : SameOff P w (v.latchRule n) ↔ SameOff P w v := by
  refine drop_iff ?_
  unfold W.latchRule
  simp [h]

/-- What `W.latchTun` may change. -/
@[simp] abbrev MayLatchTun (P : Spot → Prop) : Prop := (∀ q, P (fld (GAN_TUN_ENERGY_v q))) ∧
  P (fld GAN_TUN_INFO_bands_valid) ∧ P (fld GAN_TUN_INFO_modes) ∧ P (fld GAN_TUN_INFO_modes_valid) ∧
  P (fld GAN_TUN_INFO_report_seq) ∧ (∀ q, P (fld (GAN_TUN_MODE_AMP_v q))) ∧ (∀ q, P (fld (GAN_TUN_MODE_FREQ_v q))) ∧
  (∀ q, P (fld (GAN_TUN_MODE_PHASE_v q))) ∧ (∀ q, P (fld (GAN_TUN_MODE_ZETA_v q))) ∧ P (fld GAN_TUN_RPT_NS_v) ∧
  P (fld GAN_TUN_RPT_SEC_HI_v) ∧ P (fld GAN_TUN_RPT_SEC_LO_v) ∧ P (fld GAN_TUN_SEL_signal)

@[simp ↓] theorem latchTun_iff (h : MayLatchTun P) (n : Nat) : SameOff P w (v.latchTun n) ↔ SameOff P w v := by
  refine drop_iff ?_
  unfold W.latchTun
  simp [h]

/-- What `W.latchNode` may change. -/
@[simp] abbrev MayLatchNode (P : Spot → Prop) : Prop := P (fld GAN_SVY_NODE_SEL_index) ∧ P (fld GAN_SVY_NODE_label) ∧
  P (fld GAN_SVY_NODE_separated) ∧ P (fld GAN_SVY_NODE_stale)

@[simp ↓] theorem latchNode_iff (h : MayLatchNode P) (n : Nat) : SameOff P w (v.latchNode n) ↔ SameOff P w v := by
  refine drop_iff ?_
  unfold W.latchNode
  simp [h]

/-- What `W.latchEdge` may change. -/
@[simp] abbrev MayLatchEdge (P : Spot → Prop) : Prop := P (fld GAN_SVY_EDGE_SEL_index) ∧ P (fld GAN_SVY_EDGE_by_freq) ∧
  P (fld GAN_SVY_EDGE_by_status) ∧ P (fld GAN_SVY_EDGE_cnt_over) ∧ P (fld GAN_SVY_EDGE_cnt_under) ∧
  P (fld GAN_SVY_EDGE_freq_unknown) ∧ P (fld GAN_SVY_EDGE_open) ∧ P (fld GAN_SVY_EDGE_status_unknown)

@[simp ↓] theorem latchEdge_iff (h : MayLatchEdge P) (n : Nat) : SameOff P w (v.latchEdge n) ↔ SameOff P w v := by
  refine drop_iff ?_
  unfold W.latchEdge
  simp [h]

/-- What `W.latchMon` may change. -/
@[simp] abbrev MayLatchMon (P : Spot → Prop) : Prop := P (fld GAN_MON_OUT_age_ms) ∧ P (fld GAN_MON_OUT_outputs) ∧
  P (fld GAN_MON_RATE_v) ∧ P (fld GAN_MON_SEL_kind) ∧ P (fld GAN_MON_SEL_number) ∧ P (fld GAN_MON_VAL_v)

@[simp ↓] theorem latchMon_iff (h : MayLatchMon P) (kind num : Nat) :
    SameOff P w (v.latchMon kind num) ↔ SameOff P w v := by
  refine drop_iff ?_
  unfold W.latchMon
  simp [h]

/-! ## Keys -/

/-- What `W.showKey` may change. -/
@[simp] abbrev MayShowKey (P : Spot → Prop) : Prop := P (fld KEY_STATUS_grant) ∧ P (fld KEY_STATUS_lc_state) ∧
  P (fld KEY_STATUS_root_ok) ∧ P (fld KEY_STATUS_tamper_latched) ∧ P (fld KEY_STATUS_used)

@[simp ↓] theorem showKey_iff (h : MayShowKey P) : SameOff P w v.showKey ↔ SameOff P w v := by
  refine drop_iff ?_
  unfold W.showKey
  simp [h]

@[simp ↓] theorem setWords_iff (h : MayWide P) (f : Nat → Fld) (b : List Byte) :
    SameOff P w (v.setWords f b) ↔ SameOff P w v := by
  refine drop_iff ?_
  unfold W.setWords
  simp [h]

@[simp ↓] theorem setGrant_iff (h : MayShowKey P ∧ P (part .key)) (g : Option (Nat × Nat × Nat)) :
    SameOff P w (v.setGrant g) ↔ SameOff P w v := by
  refine drop_iff ?_
  unfold W.setGrant
  simp [h]

/-! ## Time base -/

@[simp ↓] theorem setRtc_iff (h : P (part .rtc)) (x : RtcState) : SameOff P w (v.setRtc x) ↔ SameOff P w v := by
  refine drop_iff ?_
  unfold W.setRtc
  simp [h]

@[simp ↓] theorem rtcMark_iff (h : P (part .rtc)) : SameOff P w v.rtcMark ↔ SameOff P w v := by
  refine drop_iff ?_
  unfold W.rtcMark
  simp [h]

/-- What `W.rtcFree` may change. -/
@[simp] abbrev MayRtcFree (P : Spot → Prop) : Prop := P (part .rtc) ∧ P (fld RTC_STATUS_disciplined) ∧
  P (fld RTC_STATUS_slewing)

@[simp ↓] theorem rtcFree_iff (h : MayRtcFree P) : SameOff P w v.rtcFree ↔ SameOff P w v := by
  refine drop_iff ?_
  unfold W.rtcFree
  simp [h]

/-- What `W.showQuality` may change. -/
@[simp] abbrev MayShowQuality (P : Spot → Prop) : Prop := P (part .tb) ∧ P (fld TBS_ERR_EST_v) ∧
  P (fld TBS_QUALITY_stat_tq) ∧ P (fld TBS_QUALITY_tq_code) ∧ P (fld TBS_QUALITY_unsync)

@[simp ↓] theorem showQuality_iff (h : MayShowQuality P) : SameOff P w v.showQuality ↔ SameOff P w v := by
  refine drop_iff ?_
  unfold W.showQuality
  simp [h]

/-- What `W.setServo` may change. -/
@[simp] abbrev MaySetServo (P : Spot → Prop) : Prop := MayRecord P ∧ MayRtcFree P ∧ P (part .tb) ∧
  P (fld TBS_EVENT_holdover) ∧ P (fld TBS_EVENT_locked) ∧ P (fld TBS_EVENT_unlocked) ∧ P (fld TBS_STATUS_servo_state)

@[simp ↓] theorem setServo_iff (h : MaySetServo P) (st : Nat) : SameOff P w (v.setServo st) ↔ SameOff P w v := by
  refine drop_iff ?_
  unfold W.setServo
  simp [h]

@[simp ↓] theorem setFreq_iff (h : P (part .tb)) (f : ℤ) : SameOff P w (v.setFreq f) ↔ SameOff P w v := by
  refine drop_iff ?_
  unfold W.setFreq
  simp [h]

/-- What `W.showSources` may change. -/
@[simp] abbrev MayShowSources (P : Spot → Prop) : Prop := MayRecord P ∧ P (part .free) ∧ P (part .tb) ∧
  P (fld TBS_STATUS_phase_src) ∧ P (fld TBS_STATUS_ref_in_use)

@[simp ↓] theorem showSources_iff (h : MayShowSources P) : SameOff P w v.showSources ↔ SameOff P w v := by
  refine drop_iff ?_
  unfold W.showSources
  simp [h]

@[simp ↓] theorem judge_iff (h : MaySetServo P ∧ MayShowSources P) : SameOff P w v.judge ↔ SameOff P w v := by
  refine drop_iff ?_
  unfold W.judge
  simp [h]

@[simp ↓] theorem toHoldover_iff (h : MaySetServo P) : SameOff P w v.toHoldover ↔ SameOff P w v := by
  refine drop_iff ?_
  unfold W.toHoldover
  simp [h]

/-- What `W.srcLost` may change. -/
@[simp] abbrev MaySrcLost (P : Spot → Prop) : Prop := MaySetServo P ∧ MayShowSources P ∧ P (fld TBS_EVENT_src_lost)

@[simp ↓] theorem srcLost_iff (h : MaySrcLost P) (wasPhase : Bool) :
    SameOff P w (v.srcLost wasPhase) ↔ SameOff P w v := by
  refine drop_iff ?_
  unfold W.srcLost
  simp [h]

@[simp ↓] theorem ptpDrop_iff (h : MaySrcLost P ∧ MayShowQuality P) : SameOff P w v.ptpDrop ↔ SameOff P w v := by
  refine drop_iff ?_
  unfold W.ptpDrop
  simp [h]

/-- What `W.applyLeap` may change. -/
@[simp] abbrev MayApplyLeap (P : Spot → Prop) : Prop := MayRecord P ∧ P (part .tb) ∧ P (fld TBS_EVENT_leap_done) ∧
  P (fld TBS_UTC_OFFSET_leap_occurred) ∧ P (fld TBS_UTC_OFFSET_leap_pending) ∧ P (fld TBS_UTC_OFFSET_tai_utc)

@[simp ↓] theorem applyLeap_iff (h : MayApplyLeap P) : SameOff P w v.applyLeap ↔ SameOff P w v := by
  refine drop_iff ?_
  unfold W.applyLeap
  simp [h]

@[simp ↓] theorem armAt_iff {n : Nat} (h : P (part .tb) ∧ P (fld (TRG_CTRL_late n))) (first period : Nat) :
    SameOff P w (v.armAt n first period) ↔ SameOff P w v := by
  refine drop_iff ?_
  unfold W.armAt
  simp [h]

/-- What `W.armUnit` may change. -/
@[simp] abbrev MayArmUnit (P : Spot → Prop) (n : Nat) : Prop := P (part .tb) ∧ P (fld (TRG_COUNT_v n)) ∧
  P (fld (TRG_CTRL_arm n)) ∧ P (fld (TRG_CTRL_late n))

@[simp ↓] theorem armUnit_iff {n : Nat} (h : MayArmUnit P n) : SameOff P w (v.armUnit n) ↔ SameOff P w v := by
  refine drop_iff ?_
  unfold W.armUnit
  split <;> simp [h]

/-- What `W.capture` may change. -/
@[simp] abbrev MayCapture (P : Spot → Prop) : Prop := MayAt P ∧ (∀ q, P (fld (CAP_CTRL_count q))) ∧
  ∀ q, P (fld (CAP_CTRL_overflow q))

@[simp ↓] theorem capture_iff (h : MayCapture P) (input : Nat) (edgeUp : Bool) (x : Nat) :
    SameOff P w (v.capture input edgeUp x) ↔ SameOff P w v := by
  refine drop_iff ?_
  unfold W.capture
  simp [h]

/-! ## Alarms and group messages -/

@[simp ↓] theorem setCry_iff (h : P (part .cry)) (c : CryState) : SameOff P w (v.setCry c) ↔ SameOff P w v := by
  refine drop_iff ?_
  unfold W.setCry
  simp [h]

@[simp ↓] theorem readTable_iff (h : P (part .cry)) : SameOff P w v.readTable ↔ SameOff P w v := by
  refine drop_iff ?_
  unfold W.readTable
  simp [h]

@[simp ↓] theorem showCry_iff (h : P (fld CRY_STATUS_armed) ∧ P (fld CRY_STATUS_live)) :
    SameOff P w v.showCry ↔ SameOff P w v := by
  refine drop_iff ?_
  unfold W.showCry
  simp [h]

/-- What `W.sendLamp` may change. -/
@[simp] abbrev MaySendLamp (P : Spot → Prop) : Prop := MayQueue P ∧ MayTally P ∧ P (part .cry)

@[simp ↓] theorem sendLamp_iff (h : MaySendLamp P) (n : Nat) :
    SameOff P w (W.sendLamp n v) ↔ SameOff P w v := by
  refine drop_iff ?_
  induction n generalizing v with
  | zero => exact refl v
  | succ n ih =>
    unfold W.sendLamp
    split
    · exact refl v
    · split
      · exact .trans (by simp [h]) ih
      · exact refl v

@[simp ↓] theorem cryFlush_iff (h : MaySendLamp P) : SameOff P w v.cryFlush ↔ SameOff P w v :=
  sendLamp_iff h _

@[simp ↓] theorem toLamp_iff (h : MaySendLamp P) (b : List Byte) : SameOff P w (v.toLamp b) ↔ SameOff P w v := by
  refine drop_iff ?_
  unfold W.toLamp
  split <;> simp [h]

@[simp ↓] theorem alarmTo_iff (h : MaySendFrom P ∧ P (fld CRY_FRAME_CNT_v)) (k origin alm : Nat) (fanned : Bool)
    (r : Option (List Byte)) :
    SameOff P w (v.alarmTo k origin alm fanned r) ↔ SameOff P w v := by
  refine drop_iff ?_
  unfold W.alarmTo
  dsimp only
  simp [h]

/-- What `W.alarmFrames` may change. -/
@[simp] abbrev MayAlarmFrames (P : Spot → Prop) : Prop := MaySendFrom P ∧ P (fld CRY_EVENT_dst_unres) ∧
  P (fld CRY_FRAME_CNT_v) ∧ P (fld CRY_LAT_MAX_v) ∧ P (fld CRY_UNRES_CNT_v)

theorem foldl_fst {α β : Type} {f : W × β → α → W × β} (h : ∀ x e, SameOff P x.1 (f x e).1) (l : List α) (x : W × β) :
    SameOff P x.1 (l.foldl f x).1 := by
  induction l generalizing x with
  | nil => exact refl x.1
  | cons e t ih => exact (h x e).trans (ih (f x e))

@[simp ↓] theorem alarmFrames_iff (h : MayAlarmFrames P) (g origin alm : Nat) (fanned : Bool) (r : List Byte) :
    SameOff P w (v.alarmFrames g origin alm fanned r) ↔ SameOff P w v := by
  refine drop_iff ?_
  unfold W.alarmFrames
  refine foldl_fst (fun s k => ?_) _ (v, false)
  dsimp only
  split
  · simp [h]
  · dsimp only
    simp [h]

@[simp ↓] theorem setGcb_iff (h : P (part .cry)) (c : Nat) (g : Gcb) : SameOff P w (v.setGcb c g) ↔ SameOff P w v := by
  refine drop_iff ?_
  unfold W.setGcb
  simp [h]

@[simp ↓] theorem readGcb_iff (h : P (part .cry)) (c : Nat) : SameOff P w (v.readGcb c) ↔ SameOff P w v := by
  refine drop_iff ?_
  unfold W.readGcb
  simp [h]

/-- What `W.gooseSend` may change. -/
@[simp] abbrev MayGooseSend (P : Spot → Prop) : Prop := MaySendFrom P ∧ P (part .cry) ∧ P (fld CRY_FRAME_CNT_v)

@[simp ↓] theorem gooseSend_iff (h : MayGooseSend P) (c : Nat) (g : Gcb) :
    SameOff P w (v.gooseSend c g) ↔ SameOff P w v := by
  refine drop_iff ?_
  unfold W.gooseSend
  dsimp only
  simp [h]

@[simp ↓] theorem goosePublish_iff (h : MayGooseSend P) (c : Nat) (r : List Byte) :
    SameOff P w (v.goosePublish c r) ↔ SameOff P w v := by
  refine drop_iff ?_
  unfold W.goosePublish
  simp [h]

@[simp ↓] theorem gooseAgain_iff (h : MayGooseSend P) (c : Nat) : SameOff P w (v.gooseAgain c) ↔ SameOff P w v := by
  refine drop_iff ?_
  unfold W.gooseAgain
  simp [h]

@[simp ↓] theorem brdSend_iff (h : MaySendFrom P ∧ P (part .cry)) (dst : Nat) (z : BrdHdr) (payload : List Byte) :
    SameOff P w (v.brdSend dst z payload) ↔ SameOff P w v := by
  refine drop_iff ?_
  unfold W.brdSend
  dsimp only
  split <;> simp [h]

@[simp ↓] theorem brdDown_fst_iff (h : MaySendFrom P ∧ P (part .cry)) (n f origin : Nat) (z : BrdHdr)
    (payload : List Byte) :
    SameOff P w (v.brdDown n f origin z payload).1 ↔ SameOff P w v :=
  foldl_iff (fun x k => by simp [h]) _

/-- What `W.brdAccept` may change. -/
@[simp] abbrev MayBrdAccept (P : Spot → Prop) : Prop := MaySendLamp P ∧ P (fld CRY_BRD_DROP_CNT_v) ∧
  P (fld CRY_EVENT_auth_fail) ∧ P (fld CRY_EVENT_replay)

theorem brdAccept_sameOff (h : MayBrdAccept P) {m : BrdMsg} {ok : Nat → Bool} {r : Option (BrdHdr × List Byte)}
    (e : v.brdAccept m ok = (u, r)) : SameOff P v u := by
  unfold W.brdAccept at e
  rcases hx : v.cross 0xF1 0x08 (50 + m.data.length) with _ | x
  · simp only [hx, ite_self] at e
    cases e
    exact refl _
  · have hc : SameOff P v x := cross_sameOff (by simp [h]) hx
    simp only [hx] at e
    repeat' split at e
    all_goals
      cases e
      simp [h, hc]

/-- What `W.cryTake` may change. -/
@[simp] abbrev MayCryTake (P : Spot → Prop) : Prop := MayAlarmFrames P ∧ P (part .cry) ∧ P (fld CRY_ALM_SEQ_v) ∧
  P (fld CRY_REC_CNT_v)

@[simp ↓] theorem cryTake_iff (h : MayCryTake P) (r : List Byte) (origin : Nat) (fanned : Bool) :
    SameOff P w (v.cryTake r origin fanned) ↔ SameOff P w v := by
  refine drop_iff ?_
  unfold W.cryTake
  simp [h]

@[simp ↓] theorem sendFanned_iff (h : MaySendLamp P) (n : Nat) :
    SameOff P w (W.sendFanned n v) ↔ SameOff P w v := by
  refine drop_iff ?_
  induction n generalizing v with
  | zero => exact refl v
  | succ n ih =>
    unfold W.sendFanned
    split
    · exact refl v
    · split
      · exact .trans (by simp [h]) ih
      · exact refl v

@[simp ↓] theorem fanFlush_iff (h : MaySendLamp P) : SameOff P w v.fanFlush ↔ SameOff P w v :=
  sendFanned_iff h _

@[simp ↓] theorem fanRx_iff (h : MaySendFrom P ∧ P (part .cry)) (z : BrdHdr) (r : List Byte) :
    SameOff P w (v.fanRx z r) ↔ SameOff P w v := by
  refine drop_iff ?_
  unfold W.fanRx
  simp [h]

@[simp ↓] theorem disarmUnit_iff (h : P (part .tb) ∧ ∀ q, P (fld (TRG_CTRL_arm q))) (n : Nat) :
    SameOff P w (v.disarmUnit n) ↔ SameOff P w v := by
  refine drop_iff ?_
  unfold W.disarmUnit
  simp [h]

/-- What `W.putOp` may change. -/
@[simp] abbrev MayPutOp (P : Spot → Prop) : Prop := P (part .cry) ∧ P (fld CRY_STATUS_armed) ∧ P (fld CRY_STATUS_live)

@[simp ↓] theorem putOp_iff (h : MayPutOp P) (o : Gop) : SameOff P w (v.putOp o) ↔ SameOff P w v := by
  refine drop_iff ?_
  unfold W.putOp
  simp [h]

@[simp ↓] theorem dropOp_iff (h : MayPutOp P) (o : Gop) : SameOff P w (v.dropOp o) ↔ SameOff P w v := by
  refine drop_iff ?_
  unfold W.dropOp
  simp [h]

@[simp ↓] theorem cryNote_iff (h : MayRecord P) : SameOff P w v.cryNote ↔ SameOff P w v := by
  refine drop_iff ?_
  unfold W.cryNote
  simp [h]

/-- What `W.gopResult` may change. -/
@[simp] abbrev MayGopResult (P : Spot → Prop) : Prop := P (part .irq) ∧ P (fld CRY_EVENT_gop_done) ∧
  (∀ q, P (fld (CRY_GOP_RES_hi q))) ∧ ∀ q, P (fld (CRY_GOP_RES_lo q))

@[simp ↓] theorem gopResult_iff (h : MayGopResult P) (o : Gop) : SameOff P w (v.gopResult o) ↔ SameOff P w v := by
  refine drop_iff ?_
  unfold W.gopResult
  simp [h]

/-- What `W.gopConfirm` may change. -/
@[simp] abbrev MayGopConfirm (P : Spot → Prop) : Prop := MaySendFrom P ∧ MayRecord P ∧ MayGopResult P ∧ MayPutOp P

@[simp ↓] theorem gopConfirm_iff (h : MayGopConfirm P) (o : Gop) : SameOff P w (v.gopConfirm o) ↔ SameOff P w v := by
  refine drop_iff ?_
  unfold W.gopConfirm
  dsimp only
  simp [h]

@[simp ↓] theorem gopCheck_iff (h : MayGopConfirm P) (o : Gop) : SameOff P w (v.gopCheck o) ↔ SameOff P w v := by
  refine drop_iff ?_
  unfold W.gopCheck
  simp [h]

@[simp ↓] theorem gopStatus_iff (h : P (fld CRY_GOP_STATUS_done) ∧ P (fld CRY_GOP_STATUS_result)) (result : Nat) :
    SameOff P w (v.gopStatus result) ↔ SameOff P w v := by
  refine drop_iff ?_
  unfold W.gopStatus
  simp [h]

/-- What `W.gopAbort` may change. -/
@[simp] abbrev MayGopAbort (P : Spot → Prop) : Prop := MayPutOp P ∧ P (part .irq) ∧ P (part .tb) ∧
  P (fld CRY_EVENT_gop_abort) ∧ ∀ q, P (fld (TRG_CTRL_arm q))

@[simp ↓] theorem gopAbort_iff (h : MayGopAbort P) (o : Gop) : SameOff P w (v.gopAbort o) ↔ SameOff P w v := by
  refine drop_iff ?_
  unfold W.gopAbort
  split <;> simp [h]

@[simp ↓] theorem liveSend_iff (h : MaySendFrom P ∧ MayPutOp P) : SameOff P w v.liveSend ↔ SameOff P w v := by
  refine drop_iff ?_
  unfold W.liveSend
  dsimp only
  repeat' split
  all_goals simp [h]

@[simp ↓] theorem liveRx_iff (h : MaySendFrom P ∧ MayPutOp P) (z : BrdHdr) (b : List Byte) :
    SameOff P w (v.liveRx z b) ↔ SameOff P w v := by
  refine drop_iff ?_
  unfold W.liveRx
  simp [h]

/-! ## Recorder -/

/-- What `W.writeRec` may change. -/
@[simp] abbrev MayWriteRec (P : Spot → Prop) : Prop := MayTally P ∧ P (part .ptn) ∧ P (part .scr) ∧
  P (fld REC_EVENT_seq_wrap) ∧ P (fld REC_LAST_SEQ_v) ∧ P (fld REC_STATUS_held)

@[simp ↓] theorem writeRec_iff (h : MayWriteRec P) (r : RawRec) (carried : Bool) :
    SameOff P w (v.writeRec r carried) ↔ SameOff P w v := by
  refine drop_iff ?_
  unfold W.writeRec
  simp [h]

@[simp ↓] theorem writeOwn_iff (h : MayWriteRec P) (code p0 p1 p2 p3 : Nat) :
    SameOff P w (v.writeOwn code p0 p1 p2 p3) ↔ SameOff P w v := by
  refine drop_iff ?_
  unfold W.writeOwn
  simp [h]

@[simp ↓] theorem setBucket_iff (h : P (part .scr)) (code : Nat) (b : Bucket) :
    SameOff P w (v.setBucket code b) ↔ SameOff P w v := by
  refine drop_iff ?_
  unfold W.setBucket
  simp [h]

@[simp ↓] theorem flushSup_iff (h : MayWriteRec P) (code : Nat) : SameOff P w (v.flushSup code) ↔ SameOff P w v := by
  refine drop_iff ?_
  unfold W.flushSup
  simp [h]

@[simp ↓] theorem gainToken_iff (h : MayWriteRec P) (code : Nat) : SameOff P w (v.gainToken code) ↔ SameOff P w v := by
  refine drop_iff ?_
  unfold W.gainToken
  simp [h]

@[simp ↓] theorem gainDue_iff (h : MayWriteRec P) (code : Nat) : SameOff P w (v.gainDue code) ↔ SameOff P w v := by
  refine drop_iff ?_
  unfold W.gainDue
  simp [h]

/-- What `W.takeRec` may change. -/
@[simp] abbrev MayTakeRec (P : Spot → Prop) : Prop := MayWriteRec P ∧ P (fld REC_EVENT_suppressed) ∧
  P (fld REC_SUP_CNT_v)

@[simp ↓] theorem takeRec_iff (h : MayTakeRec P) : SameOff P w v.takeRec ↔ SameOff P w v := by
  refine drop_iff ?_
  unfold W.takeRec
  split <;> simp [h]

@[simp ↓] theorem show64_iff (h : MayWide P) (lo hi : Fld) (x : Nat) :
    SameOff P w (v.show64 lo hi x) ↔ SameOff P w v := by
  refine drop_iff ?_
  unfold W.show64
  simp [h]

/-- What `W.prfSnap` may change. -/
@[simp] abbrev MayPrfSnap (P : Spot → Prop) : Prop := P (part .prf) ∧ P (fld PRF_SNAP_NS_v) ∧
  P (fld PRF_SNAP_SEC_HI_v) ∧ P (fld PRF_SNAP_SEC_LO_v)

@[simp ↓] theorem prfSnap_iff (h : MayPrfSnap P) : SameOff P w v.prfSnap ↔ SameOff P w v := by
  refine drop_iff ?_
  unfold W.prfSnap
  simp [h]

@[simp ↓] theorem setInd_iff (h : P (part .hlt)) (i : Nat) (x : Indicator) :
    SameOff P w (v.setInd i x) ↔ SameOff P w v := by
  refine drop_iff ?_
  unfold W.setInd
  simp [h]

/-- What `W.wearCheck` may change. -/
@[simp] abbrev MayWearCheck (P : Spot → Prop) : Prop := P (part .hlt) ∧ P (part .irq) ∧ P (fld HLT_EVENT_near) ∧
  P (fld HLT_EVENT_reached)

@[simp ↓] theorem wearCheck_iff (h : MayWearCheck P) (i day : Nat) :
    SameOff P w (v.wearCheck i day) ↔ SameOff P w v := by
  refine drop_iff ?_
  unfold W.wearCheck
  simp [h]

/-- What `W.loseHistory` may change. -/
@[simp] abbrev MayLoseHistory (P : Spot → Prop) : Prop := P (part .hlt) ∧ P (part .irq) ∧ P (fld HLT_EVENT_history_lost)

@[simp ↓] theorem loseHistory_iff (h : MayLoseHistory P) (i : Nat) : SameOff P w (v.loseHistory i) ↔ SameOff P w v := by
  refine drop_iff ?_
  unfold W.loseHistory
  simp [h]

@[simp ↓] theorem wear_iff (h : MayWearCheck P) (i : Nat) (n : ℤ) : SameOff P w (v.wear i n) ↔ SameOff P w v := by
  refine drop_iff ?_
  unfold W.wear
  simp [h]

@[simp ↓] theorem wearTo_iff (h : MayWearCheck P) (i : Nat) (x : ℤ) : SameOff P w (v.wearTo i x) ↔ SameOff P w v := by
  refine drop_iff ?_
  unfold W.wearTo
  simp [h]

@[simp ↓] theorem showRaw_iff (h : MayWide P) : SameOff P w v.showRaw ↔ SameOff P w v := by
  refine drop_iff ?_
  unfold W.showRaw
  simp [h]

/-- What `W.showInd` may change. -/
@[simp] abbrev MayShowInd (P : Spot → Prop) : Prop := P (fld HLT_IND_EOL_day) ∧ P (fld HLT_IND_EOL_month) ∧
  P (fld HLT_IND_EOL_state) ∧ P (fld HLT_IND_EOL_year) ∧ P (fld HLT_IND_RATED_v) ∧ P (fld HLT_IND_U_days) ∧
  P (fld HLT_IND_U_u)

@[simp ↓] theorem showInd_iff (h : MayShowInd P) : SameOff P w v.showInd ↔ SameOff P w v := by
  refine drop_iff ?_
  unfold W.showInd
  dsimp only
  repeat' split
  all_goals simp [h]

/-! ## Lantern table -/

theorem sendUnits_sameOff (h : MayQueue P ∧ MayTally P) {producer consumer n : Nat} {bs r : List (List Byte)}
    (e : W.sendUnits producer consumer n v bs = (u, r)) : SameOff P v u := by
  induction n generalizing v bs with
  | zero =>
    cases e
    exact refl _
  | succ n ih =>
    unfold W.sendUnits at e
    split at e
    · cases e
      exact refl _
    · split at e
      · exact .trans (by simp [h]) (ih e)
      · cases e
        exact refl _

@[simp ↓] theorem setRad_iff (h : P (part .rad)) (x : RadState) : SameOff P w (v.setRad x) ↔ SameOff P w v := by
  refine drop_iff ?_
  unfold W.setRad
  simp [h]

@[simp ↓] theorem setLanCache_iff (h : MayWide P ∧ P (part .rad)) (c : List (Nat × CacheLine)) :
    SameOff P w (v.setLanCache c) ↔ SameOff P w v := by
  refine drop_iff ?_
  unfold W.setLanCache
  simp [h]

@[simp ↓] theorem lanBack_iff (h : MayWide P ∧ P (part .rad)) (g : Nat) :
    SameOff P w (v.lanBack g) ↔ SameOff P w v := by
  refine drop_iff ?_
  unfold W.lanBack
  repeat' split
  all_goals simp [h]

@[simp ↓] theorem lanDrop_iff (h : MayWide P ∧ P (part .rad)) (g : Nat) :
    SameOff P w (v.lanDrop g) ↔ SameOff P w v := by
  refine drop_iff ?_
  unfold W.lanDrop
  simp [h]

@[simp ↓] theorem lanFetch_iff (h : MayWide P ∧ P (part .rad)) (g : Nat) :
    SameOff P w (v.lanFetch g) ↔ SameOff P w v := by
  refine drop_iff ?_
  unfold W.lanFetch
  dsimp only
  repeat' split
  all_goals simp [h]

@[simp ↓] theorem setLan_iff (h : MayWide P ∧ P (part .rad)) (g : Nat) (f : List Byte → List Byte) :
    SameOff P w (v.setLan g f) ↔ SameOff P w v := by
  refine drop_iff ?_
  unfold W.setLan
  dsimp only
  split <;> simp [h]

/-! ## Field cycle -/

@[simp ↓] theorem setLmp_iff (h : P (part .lmp)) (x : LmpState) : SameOff P w (v.setLmp x) ↔ SameOff P w v := by
  refine drop_iff ?_
  unfold W.setLmp
  simp [h]

/-- What `W.showTracks` may change. -/
@[simp] abbrev MayShowTracks (P : Spot → Prop) : Prop := P (fld LMP_TRACKS_v) ∧ P (fld LMP_TRK_INFO0_class) ∧
  P (fld LMP_TRK_INFO0_lantern) ∧ P (fld LMP_TRK_INFO0_speed) ∧ P (fld LMP_TRK_INFO1_toward) ∧
  P (fld LMP_TRK_INFO1_valid)

@[simp ↓] theorem showTracks_iff (h : MayShowTracks P) : SameOff P w v.showTracks ↔ SameOff P w v := by
  refine drop_iff ?_
  unfold W.showTracks
  dsimp only
  split <;> simp [h]

/-- What `W.putTrack` may change. -/
@[simp] abbrev MayPutTrack (P : Spot → Prop) : Prop := MayShowTracks P ∧ P (part .irq) ∧ P (part .lmp) ∧
  P (fld LMP_EVENT_edge)

@[simp ↓] theorem putTrack_iff (h : MayPutTrack P) (n : Nat) (k : Track) :
    SameOff P w (v.putTrack n k) ↔ SameOff P w v := by
  refine drop_iff ?_
  unfold W.putTrack
  simp [h]

@[simp ↓] theorem moving_iff (h : MayPutTrack P ∧ P (fld LMP_TRACK_REPL_CNT_v)) (cls o n speed td : Nat) :
    SameOff P w (v.moving cls o n speed td) ↔ SameOff P w v := by
  refine drop_iff ?_
  unfold W.moving
  dsimp only
  repeat' split
  all_goals simp [h]

/-- What `W.sensorEvent` may change. -/
@[simp] abbrev MaySensorEvent (P : Spot → Prop) : Prop := MayPutTrack P ∧ P (part .prf) ∧ P (fld LMP_EVENTS_CNT_v) ∧
  P (fld LMP_EVENT_DROP_CNT_v) ∧ P (fld LMP_TRACK_REPL_CNT_v) ∧ P (fld PRF_EVENT_sel_limit)

@[simp ↓] theorem sensorEvent_iff (h : MaySensorEvent P) (b : List Byte) :
    SameOff P w (v.sensorEvent b) ↔ SameOff P w v := by
  refine drop_iff ?_
  unfold W.sensorEvent
  dsimp only
  repeat' split
  all_goals simp [h]

/-- What `W.lmpFlush` may change. -/
@[simp] abbrev MayLmpFlush (P : Spot → Prop) : Prop := MayQueue P ∧ MayTally P ∧ P (part .lmp)

@[simp ↓] theorem lmpFlush_iff (h : MayLmpFlush P) : SameOff P w v.lmpFlush ↔ SameOff P w v := by
  refine drop_iff ?_
  unfold W.lmpFlush
  split
  next ea =>
    split
    next ep => exact (sendUnits_sameOff (by simp [h]) ea).trans ((sendUnits_sameOff (by simp [h]) ep).trans (by simp [h]))

@[simp ↓] theorem toRadio_iff (h : MayLmpFlush P) (b : List Byte) : SameOff P w (v.toRadio b) ↔ SameOff P w v := by
  refine drop_iff ?_
  unfold W.toRadio
  split <;> simp [h]

@[simp ↓] theorem toChandler_iff (h : MayLmpFlush P) (b : List Byte) :
    SameOff P w (v.toChandler b) ↔ SameOff P w v := by
  refine drop_iff ?_
  unfold W.toChandler
  split <;> simp [h]

@[simp ↓] theorem setGr_iff (h : ∀ q, P (fld (LMP_GR1_state q))) (n st : Nat) :
    SameOff P w (v.setGr n st) ↔ SameOff P w v := by
  refine drop_iff ?_
  unfold W.setGr
  simp [h]

/-- What `W.stageUpdate` may change. -/
@[simp] abbrev MayStageUpdate (P : Spot → Prop) : Prop := MayLmpFlush P ∧ P (fld LMP_STATUS_gr_seq) ∧
  P (fld LMP_STATUS_stage)

@[simp ↓] theorem stageUpdate_iff (h : MayStageUpdate P) (left : List (Nat × Nat)) :
    SameOff P w (v.stageUpdate left) ↔ SameOff P w v := by
  refine drop_iff ?_
  unfold W.stageUpdate
  simp [h]

/-- What `W.conSet` may change. -/
@[simp] abbrev MayConSet (P : Spot → Prop) : Prop := MayWearCheck P ∧ P (part .lmp) ∧ P (part .prf) ∧
  P (fld LMP_CON_STATE_drives) ∧ P (fld LMP_EVENT_con_limit) ∧ P (fld PRF_EVENT_sel_limit)

@[simp ↓] theorem conSet_iff (h : MayConSet P) (k : Nat) (isOn : Bool) :
    SameOff P w (v.conSet k isOn) ↔ SameOff P w v := by
  refine drop_iff ?_
  unfold W.conSet
  simp [h]

@[simp ↓] theorem conUpdate_iff (h : MayConSet P) : SameOff P w v.conUpdate ↔ SameOff P w v := by
  refine drop_iff ?_
  unfold W.conUpdate
  simp [h]

@[simp ↓] theorem localStep_iff (h : P (part .lmp)) (k t : Nat) : SameOff P w (v.localStep k t) ↔ SameOff P w v := by
  refine drop_iff ?_
  unfold W.localStep
  split <;> simp [h]

@[simp ↓] theorem ledRecord_iff (h : MayLmpFlush P) (urgent : Bool) (t : Nat) :
    SameOff P w (v.ledRecord urgent t) ↔ SameOff P w v := by
  refine drop_iff ?_
  unfold W.ledRecord
  simp [h]

/-- What `W.follow` may change. -/
@[simp] abbrev MayFollow (P : Spot → Prop) : Prop := MayStageUpdate P ∧ MayConSet P ∧ P (part .ptn)

@[simp ↓] theorem follow_iff (h : MayFollow P) (left : List (Nat × Nat)) :
    SameOff P w (v.follow left) ↔ SameOff P w v := by
  refine drop_iff ?_
  unfold W.follow
  simp [h]

@[simp ↓] theorem decision_iff (h : MayFollow P) : SameOff P w v.decision ↔ SameOff P w v := by
  refine drop_iff ?_
  unfold W.decision
  simp [h]

/-- What `W.astroCheck` may change. -/
@[simp] abbrev MayAstroCheck (P : Spot → Prop) : Prop := P (part .irq) ∧ P (part .lmp) ∧ P (part .rad) ∧
  P (fld LMP_ASTRO_TIMES0_first) ∧ P (fld LMP_ASTRO_TIMES0_second) ∧ P (fld LMP_ASTRO_TIMES1_first) ∧
  P (fld LMP_ASTRO_TIMES1_second) ∧ P (fld LMP_EVENT_astro_none)

@[simp ↓] theorem astroCheck_iff (h : MayAstroCheck P) (t : Nat) : SameOff P w (v.astroCheck t) ↔ SameOff P w v := by
  refine drop_iff ?_
  unfold W.astroCheck
  simp [h]

@[simp ↓] theorem lmpTold_iff (h : P (part .ptn)) (addr : Nat) : SameOff P w (v.lmpTold addr) ↔ SameOff P w v := by
  refine drop_iff ?_
  unfold W.lmpTold
  simp [h]

/-- What `W.orderEntry` may change. -/
@[simp] abbrev MayOrderEntry (P : Spot → Prop) : Prop := MayDirty P ∧ P (part .lmp) ∧ P (part .ptn) ∧
  (∀ q, P (fld (LMP_GRP_CFG_ovr_level q))) ∧ (∀ q, P (fld (LMP_GRP_CFG_ovr_on q))) ∧ P (fld LMP_STAGE_FORCE_force) ∧
  P (fld LMP_STAGE_FORCE_stage)

@[simp ↓] theorem orderEntry_iff (h : MayOrderEntry P) (e : Nat × Nat × Nat × Nat × Nat) :
    SameOff P w (v.orderEntry e) ↔ SameOff P w v := by
  refine drop_iff ?_
  unfold W.orderEntry
  simp [h]

@[simp ↓] theorem orderApply_iff (h : MayOrderEntry P) (b : List Byte) :
    SameOff P w (v.orderApply b) ↔ SameOff P w v := by
  refine drop_iff ?_
  unfold W.orderApply
  simp [h]

@[simp ↓] theorem sendOrders_iff (h : MayLmpFlush P) (t n : Nat) (l : List (Nat × Nat × Nat)) :
    SameOff P w (W.sendOrders t n v l) ↔ SameOff P w v := by
  refine drop_iff ?_
  induction n generalizing v l with
  | zero => exact refl v
  | succ n ih =>
    unfold W.sendOrders
    split
    · exact refl v
    · exact .trans (by simp [h]) (ih _)

@[simp ↓] theorem ordersDue_iff (h : MayFollow P ∧ MayOrderEntry P) : SameOff P w v.ordersDue ↔ SameOff P w v := by
  refine drop_iff ?_
  unfold W.ordersDue
  simp [h]

/-- What `W.levelOrder` may change. -/
@[simp] abbrev MayLevelOrder (P : Spot → Prop) : Prop := MayFollow P ∧ MayOrderEntry P ∧ P (fld LMP_EVENT_order_err)

@[simp ↓] theorem levelOrder_iff (h : MayLevelOrder P) (u : List Byte) :
    SameOff P w (v.levelOrder u) ↔ SameOff P w v := by
  refine drop_iff ?_
  unfold W.levelOrder
  simp [h]

@[simp ↓] theorem putField_iff (h : P (part .lmp)) (i : Nat) (e : FieldEnt) :
    SameOff P w (v.putField i e) ↔ SameOff P w v := by
  refine drop_iff ?_
  unfold W.putField
  simp [h]

/-! ## Lighting strings -/

@[simp ↓] theorem setLed_iff (h : P (part .led)) (x : LedState) : SameOff P w (v.setLed x) ↔ SameOff P w v := by
  refine drop_iff ?_
  unfold W.setLed
  simp [h]

@[simp ↓] theorem trimMode_iff {c : Nat} (h : ∀ q, P (fld (LED_CSET_TRIM_factor c q))) :
    SameOff P w (v.trimMode c) ↔ SameOff P w v := by
  refine drop_iff ?_
  unfold W.trimMode
  simp [h]

/-- What `W.trimStep` may change. -/
@[simp] abbrev MayTrimStep (P : Spot → Prop) (c : Nat) (pos : Nat) : Prop := P (part .irq) ∧
  P (fld (LED_CSET_TRIM_factor c pos)) ∧ P (fld LED_EVENT_trim_limit)

@[simp ↓] theorem trimStep_iff {c : Nat} {pos : Nat} (h : MayTrimStep P c pos) (edges : Nat) :
    SameOff P w (v.trimStep c pos edges) ↔ SameOff P w v := by
  refine drop_iff ?_
  unfold W.trimStep
  split <;> simp [h]

@[simp ↓] theorem setDrive_iff (h : P (part .led)) (k : Nat) (d : LedDrive) :
    SameOff P w (v.setDrive k d) ↔ SameOff P w v := by
  refine drop_iff ?_
  unfold W.setDrive
  simp [h]

/-- What `W.showStr` may change. -/
@[simp] abbrev MayShowStr (P : Spot → Prop) (n : Nat) : Prop := P (part .led) ∧ P (fld (LED_STR_LEVEL_level n)) ∧
  P (fld (LED_STR_LEVEL_v n)) ∧ P (fld (LED_STR_STAT_cause n)) ∧ P (fld (LED_STR_STAT_dac n)) ∧
  P (fld (LED_STR_STAT_retries n)) ∧ P (fld (LED_STR_STAT_state n))

@[simp ↓] theorem showStr_iff {n : Nat} (h : MayShowStr P n) : SameOff P w (v.showStr n) ↔ SameOff P w v := by
  refine drop_iff ?_
  unfold W.showStr
  simp [h]

/-- What `W.setStr` may change. -/
@[simp] abbrev MaySetStr (P : Spot → Prop) (n : Nat) : Prop := P (part .led) ∧ P (fld (LED_STR_LEVEL_level n)) ∧
  P (fld (LED_STR_LEVEL_v n)) ∧ P (fld (LED_STR_STAT_cause n)) ∧ P (fld (LED_STR_STAT_dac n)) ∧
  P (fld (LED_STR_STAT_retries n)) ∧ P (fld (LED_STR_STAT_state n))

@[simp ↓] theorem setStr_iff {n : Nat} (h : MaySetStr P n) (s : LedStr) :
    SameOff P w (v.setStr n s) ↔ SameOff P w v := by
  refine drop_iff ?_
  unfold W.setStr
  simp [h]

/-- What `W.strStep` may change. -/
@[simp] abbrev MayStrStep (P : Spot → Prop) (n : Nat) : Prop := P (part .led) ∧ P (fld (LED_STR_LEVEL_level n)) ∧
  P (fld (LED_STR_LEVEL_v n)) ∧ P (fld (LED_STR_STAT_cause n)) ∧ P (fld (LED_STR_STAT_dac n)) ∧
  P (fld (LED_STR_STAT_retries n)) ∧ P (fld (LED_STR_STAT_state n))

@[simp ↓] theorem strStep_iff {n : Nat} (h : MayStrStep P n) : SameOff P w (v.strStep n) ↔ SameOff P w v := by
  refine drop_iff ?_
  unfold W.strStep
  simp [h]

/-- What `W.ledRefresh` may change. -/
@[simp] abbrev MayLedRefresh (P : Spot → Prop) : Prop := P (part .led) ∧ (∀ q, P (fld (LED_MTX_STAT_level q))) ∧
  (∀ q, P (fld (LED_STR_LEVEL_level q))) ∧ (∀ q, P (fld (LED_STR_LEVEL_v q))) ∧ (∀ q, P (fld (LED_STR_STAT_cause q))) ∧
  (∀ q, P (fld (LED_STR_STAT_dac q))) ∧ (∀ q, P (fld (LED_STR_STAT_retries q))) ∧ ∀ q, P (fld (LED_STR_STAT_state q))

@[simp ↓] theorem ledRefresh_iff (h : MayLedRefresh P) : SameOff P w v.ledRefresh ↔ SameOff P w v := by
  refine drop_iff ?_
  unfold W.ledRefresh
  simp [h]

@[simp ↓] theorem ledLevels_iff (h : MayLedRefresh P) (level : Nat → Nat) (atOnce : LedOut → Nat → Bool) :
    SameOff P w (v.ledLevels level atOnce) ↔ SameOff P w v := by
  refine drop_iff ?_
  unfold W.ledLevels
  simp [h]

/-- What `W.calEnd` may change. -/
@[simp] abbrev MayCalEnd (P : Spot → Prop) : Prop := P (part .irq) ∧ P (part .led) ∧ P (fld LED_CMD_STATUS_busy) ∧
  P (fld LED_CMD_STATUS_done) ∧ P (fld LED_CMD_STATUS_result) ∧ P (fld LED_EVENT_cal_done)

@[simp ↓] theorem calEnd_iff (h : MayCalEnd P) (result : Nat) : SameOff P w (v.calEnd result) ↔ SameOff P w v := by
  refine drop_iff ?_
  unfold W.calEnd
  simp [h]

@[simp ↓] theorem ledDone_iff (h : P (fld LED_CMD_STATUS_done) ∧ P (fld LED_CMD_STATUS_result)) (result : Nat) :
    SameOff P w (v.ledDone result) ↔ SameOff P w v := by
  refine drop_iff ?_
  unfold W.ledDone
  simp [h]

@[simp ↓] theorem setMtx_iff (h : P (part .led)) (p : Nat) (m : MtxPort) :
    SameOff P w (v.setMtx p m) ↔ SameOff P w v := by
  refine drop_iff ?_
  unfold W.setMtx
  simp [h]

/-- What `W.mtxLatch` may change. -/
@[simp] abbrev MayMtxLatch (P : Spot → Prop) (p : Nat) : Prop := MayTally P ∧ P (part .led) ∧
  P (fld (LED_MTX_STAT_front p)) ∧ P (fld (LED_MTX_STAT_preloaded p)) ∧ P (fld (LED_MTX_SWAPS_v p))

@[simp ↓] theorem mtxLatch_iff {p : Nat} (h : MayMtxLatch P p) : SameOff P w (v.mtxLatch p) ↔ SameOff P w v := by
  refine drop_iff ?_
  unfold W.mtxLatch
  simp [h]

/-- What `W.swapEvent` may change. -/
@[simp] abbrev MaySwapEvent (P : Spot → Prop) (p : Nat) : Prop := MayTally P ∧ P (part .led) ∧
  P (fld LED_EVENT_late_swap) ∧ P (fld LED_EVENT_swap_empty) ∧ P (fld (LED_MTX_STAT_front p)) ∧
  P (fld (LED_MTX_STAT_preloaded p)) ∧ P (fld (LED_MTX_SWAPS_v p))

@[simp ↓] theorem swapEvent_iff {p : Nat} (h : MaySwapEvent P p) (source : Nat) :
    SameOff P w (v.swapEvent p source) ↔ SameOff P w v := by
  refine drop_iff ?_
  unfold W.swapEvent
  split <;> simp [h]

@[simp ↓] theorem ledServe_iff (h : MayWide P ∧ P (part .led)) : SameOff P w v.ledServe ↔ SameOff P w v := by
  refine drop_iff ?_
  unfold W.ledServe
  simp [h]

@[simp ↓] theorem ledChanged_iff (h : MayWide P ∧ P (part .led)) (k : Nat) :
    SameOff P w (v.ledChanged k) ↔ SameOff P w v := by
  refine drop_iff ?_
  unfold W.ledChanged
  simp [h]

/-! ## Metering -/

@[simp ↓] theorem setMtr_iff (h : P (part .mtr)) (x : MtrState) : SameOff P w (v.setMtr x) ↔ SameOff P w v := by
  refine drop_iff ?_
  unfold W.setMtr
  simp [h]

@[simp ↓] theorem setFeeder_iff (h : P (part .mtr) ∧ ∀ q, P (fld (MTR_FDR_STAT_gap q))) (f : Nat) (x : Feeder) :
    SameOff P w (v.setFeeder f x) ↔ SameOff P w v := by
  refine drop_iff ?_
  unfold W.setFeeder
  simp [h]

/-- What `W.gapEntry` may change. -/
@[simp] abbrev MayGapEntry (P : Spot → Prop) : Prop := MayRecord P ∧ P (part .mtr) ∧ P (fld MTR_EVENT_gap) ∧
  P (fld MTR_GAP_COUNT_v)

@[simp ↓] theorem gapEntry_iff (h : MayGapEntry P) (kind target : Nat) (estimated : Bool) (start stop count : Nat) :
    SameOff P w (v.gapEntry kind target estimated start stop count) ↔ SameOff P w v := by
  refine drop_iff ?_
  unfold W.gapEntry
  simp [h]

@[simp ↓] theorem setPout_iff {o : Nat} (h : P (part .mtr) ∧ P (fld (MTR_POUT_OWED_v o))) (x : PulseOut) :
    SameOff P w (v.setPout o x) ↔ SameOff P w v := by
  refine drop_iff ?_
  unfold W.setPout
  simp [h]

@[simp ↓] theorem backlog_iff (h : P (part .irq) ∧ P (fld MTR_EVENT_pulse_backlog)) :
    SameOff P w v.backlog ↔ SameOff P w v := by
  refine drop_iff ?_
  unfold W.backlog
  simp [h]

/-- What `W.poutGrow` may change. -/
@[simp] abbrev MayPoutGrow (P : Spot → Prop) : Prop := P (part .irq) ∧ P (part .mtr) ∧ P (fld MTR_EVENT_pulse_backlog) ∧
  ∀ q, P (fld (MTR_POUT_OWED_v q))

@[simp ↓] theorem poutGrow_iff (h : MayPoutGrow P) (a grown : Nat) :
    SameOff P w (v.poutGrow a grown) ↔ SameOff P w v := by
  refine drop_iff ?_
  unfold W.poutGrow
  simp [h]

@[simp ↓] theorem accGrow_iff (h : MayPoutGrow P) (a n : Nat) : SameOff P w (v.accGrow a n) ↔ SameOff P w v := by
  refine drop_iff ?_
  unfold W.accGrow
  simp [h]

@[simp ↓] theorem netting_iff (h : MayPoutGrow P ∧ ∀ q, P (fld (MTR_FDR_STAT_gap q))) (f : Nat) :
    SameOff P w (v.netting f) ↔ SameOff P w v := by
  refine drop_iff ?_
  unfold W.netting
  simp [h]

/-- What `W.evaluate` may change. -/
@[simp] abbrev MayEvaluate (P : Spot → Prop) : Prop := MayGapEntry P ∧ P (fld MTR_EVENT_pulse_backlog) ∧
  (∀ q, P (fld (MTR_FDR_P_v q))) ∧ (∀ q, P (fld (MTR_FDR_STAT_clipped q))) ∧ (∀ q, P (fld (MTR_FDR_STAT_gap q))) ∧
  (∀ q, P (fld (MTR_FDR_STAT_pow2 q))) ∧ ∀ q, P (fld (MTR_POUT_OWED_v q))

@[simp ↓] theorem evaluate_iff (h : MayEvaluate P) (f : Nat) (next : Option MtrSample) :
    SameOff P w (v.evaluate f next) ↔ SameOff P w v := by
  refine drop_iff ?_
  unfold W.evaluate
  dsimp only
  repeat' split
  all_goals simp [h]

@[simp ↓] theorem openGap_iff (h : MayEvaluate P) (f t : Nat) : SameOff P w (v.openGap f t) ↔ SameOff P w v := by
  refine drop_iff ?_
  unfold W.openGap
  simp [h]

@[simp ↓] theorem poutLow_iff (h : P (part .mtr) ∧ ∀ q, P (fld (MTR_POUT_OWED_v q))) :
    SameOff P w v.poutLow ↔ SameOff P w v := by
  refine drop_iff ?_
  unfold W.poutLow
  simp [h]

/-- What `W.mtrRefresh` may change. -/
@[simp] abbrev MayMtrRefresh (P : Spot → Prop) : Prop := MayEvaluate P ∧ (∀ q, P (fld (MTR_FDR_STAT_cfg_err q))) ∧
  P (fld MTR_STATUS_running)

@[simp ↓] theorem mtrRefresh_iff (h : MayMtrRefresh P) : SameOff P w v.mtrRefresh ↔ SameOff P w v := by
  refine drop_iff ?_
  unfold W.mtrRefresh
  simp [h]

/-- What `W.assayerRecord` may change. -/
@[simp] abbrev MayAssayerRecord (P : Spot → Prop) : Prop := MayMtrRefresh P ∧ P (part .prf) ∧
  P (fld PRF_EVENT_sel_limit)

@[simp ↓] theorem assayerRecord_iff (h : MayAssayerRecord P) (b : List Byte) :
    SameOff P w (v.assayerRecord b) ↔ SameOff P w v := by
  refine drop_iff ?_
  unfold W.assayerRecord
  refine .trans ?_ (foldl (fun x f => ?_) _ _)
  · simp [h]
  · dsimp only
    repeat' split
    all_goals simp [h]

/-- What `W.save` may change. -/
@[simp] abbrev MaySave (P : Spot → Prop) : Prop := MayTally P ∧ P (part .mtr) ∧ P (fld MTR_EVENT_save_done) ∧
  P (fld MTR_SAVE_SEQ_v)

@[simp ↓] theorem save_iff (h : MaySave P) (gasp : Bool) (stamp : Nat) :
    SameOff P w (v.save gasp stamp) ↔ SameOff P w v := by
  refine drop_iff ?_
  unfold W.save
  simp [h]

@[simp ↓] theorem lastGasp_iff (h : MayEvaluate P ∧ MaySave P) (t : Nat) :
    SameOff P w (v.lastGasp t) ↔ SameOff P w v := by
  refine drop_iff ?_
  unfold W.lastGasp
  simp [h]

@[simp ↓] theorem showMtr_iff (h : MayWide P) : SameOff P w v.showMtr ↔ SameOff P w v := by
  refine drop_iff ?_
  unfold W.showMtr
  simp [h]

/-! ## Assayer -/

@[simp ↓] theorem pulseSecond_iff (h : MayGapEntry P) (i : Nat) : SameOff P w (v.pulseSecond i) ↔ SameOff P w v := by
  refine drop_iff ?_
  unfold W.pulseSecond
  split <;> simp [h]

/-! ## Records -/

@[simp ↓] theorem latch8_iff {f : Nat → Fld} (h : ∀ q, P (fld (f q))) (b : List Byte) :
    SameOff P w (v.latch8 f b) ↔ SameOff P w v := by
  refine drop_iff ?_
  unfold W.latch8
  simp [h]

/-! ## Calendar clock -/

/-- What `W.rtcRelease` may change. -/
@[simp] abbrev MayRtcRelease (P : Spot → Prop) : Prop := P (part .irq) ∧ P (part .rtc) ∧
  P (fld RTC_EVENT_shadow_timeout)

@[simp ↓] theorem rtcRelease_iff (h : MayRtcRelease P) : SameOff P w v.rtcRelease ↔ SameOff P w v := by
  refine drop_iff ?_
  unfold W.rtcRelease
  split <;> simp [h]

/-- What `W.rtcRead` may change. -/
@[simp] abbrev MayRtcRead (P : Spot → Prop) : Prop := MayWide P ∧ P (part .irq) ∧ P (part .rtc)

@[simp ↓] theorem rtcRead_fst_iff (h : MayRtcRead P) (k : Nat) : SameOff P w (v.rtcRead k).1 ↔ SameOff P w v := by
  refine drop_iff ?_
  unfold W.rtcRead
  dsimp only
  repeat' split
  all_goals simp [h]

@[simp ↓] theorem almCtrl_iff {a : Nat} (h : P (part .rtc) ∧ P (fld (Fld.whole (RTC_ALM_CTRL_arm a)))) (x : W32) :
    SameOff P w (v.almCtrl a x) ↔ SameOff P w v := by
  refine drop_iff ?_
  unfold W.almCtrl
  obtain ⟨hr, hw⟩ := h
  have hb := (with_busWrite_iff hw x).mpr (refl v)
  split
  · exact hb.trans (by simp [hr])
  · exact hb

@[simp ↓] theorem oscClear_iff (h : P (fld RTC_EVENT_osc_stopped)) : SameOff P w v.oscClear ↔ SameOff P w v := by
  refine drop_iff ?_
  unfold W.oscClear
  simp [h]

/-! ## Wear -/

@[simp ↓] theorem sampleInd_iff (h : MayWearCheck P) (day i : Nat) :
    SameOff P w (v.sampleInd day i) ↔ SameOff P w v := by
  refine drop_iff ?_
  unfold W.sampleInd
  dsimp only
  repeat' split
  all_goals simp [h]

@[simp ↓] theorem daily_iff (h : MayShowInd P ∧ MayWearCheck P) (day : Nat) :
    SameOff P w (v.daily day) ↔ SameOff P w v := by
  refine drop_iff ?_
  unfold W.daily
  simp [h]

/-! ## Radio -/

@[simp ↓] theorem setRadio_iff (h : P (part .rad)) (r : Nat) (x : Radio) :
    SameOff P w (v.setRadio r x) ↔ SameOff P w v := by
  refine drop_iff ?_
  unfold W.setRadio
  simp [h]

@[simp ↓] theorem silentEv_iff (h : MayWide P ∧ P (part .irq)) (f : Fld) (g : Nat) :
    SameOff P w (v.silentEv f g) ↔ SameOff P w v := by
  refine drop_iff ?_
  unfold W.silentEv
  simp [h]

/-- What `W.setEntry` may change. -/
@[simp] abbrev MaySetEntry (P : Spot → Prop) : Prop := MayWide P ∧ P (part .irq) ∧ P (part .rad)

@[simp ↓] theorem setEntry_iff (h : MaySetEntry P) (g st : Nat) : SameOff P w (v.setEntry g st) ↔ SameOff P w v := by
  refine drop_iff ?_
  unfold W.setEntry
  simp [h]

@[simp ↓] theorem copiesDue_iff (h : P (part .rad)) (r : Nat) : SameOff P w (v.copiesDue r) ↔ SameOff P w v := by
  refine drop_iff ?_
  unfold W.copiesDue
  simp [h]

@[simp ↓] theorem radGate_iff (h : P (part .rad)) : SameOff P w v.radGate ↔ SameOff P w v := by
  refine drop_iff ?_
  unfold W.radGate
  simp [h]

@[simp ↓] theorem showRad_iff (h : MayWide P ∧ P (part .rad)) : SameOff P w v.showRad ↔ SameOff P w v := by
  refine drop_iff ?_
  unfold W.showRad
  simp [h]

@[simp ↓] theorem radDone_iff (h : P (fld RAD_CMD_STATUS_done) ∧ P (fld RAD_CMD_STATUS_result)) (result : Nat) :
    SameOff P w (v.radDone result) ↔ SameOff P w v := by
  refine drop_iff ?_
  unfold W.radDone
  simp [h]

@[simp ↓] theorem radCmd_iff {f : W → W} (h : ∀ x, SameOff P x (f x)) : SameOff P w (v.radCmd f) ↔ SameOff P w v := by
  refine drop_iff ?_
  unfold W.radCmd
  split
  · exact h v
  · exact refl v

/-- What `W.wakeQueue` may change. -/
@[simp] abbrev MayWakeQueue (P : Spot → Prop) : Prop := P (part .rad) ∧ P (fld RAD_CMD_STATUS_done) ∧
  P (fld RAD_CMD_STATUS_result)

@[simp ↓] theorem wakeQueue_iff (h : MayWakeQueue P) (addr : Nat) : SameOff P w (v.wakeQueue addr) ↔ SameOff P w v := by
  refine drop_iff ?_
  unfold W.wakeQueue
  simp [h]

@[simp ↓] theorem enableEntry_iff (h : MaySetEntry P) (g st : Nat) :
    SameOff P w (v.enableEntry g st) ↔ SameOff P w v := by
  refine drop_iff ?_
  unfold W.enableEntry
  simp [h]

@[simp ↓] theorem emptyTable_iff (h : MayWide P ∧ P (part .rad)) : SameOff P w v.emptyTable ↔ SameOff P w v := by
  refine drop_iff ?_
  unfold W.emptyTable
  simp [h]

/-! ## Fleet images -/

@[simp ↓] theorem setFlt_iff (h : P (part .flt)) (x : FltState) : SameOff P w (v.setFlt x) ↔ SameOff P w v := by
  refine drop_iff ?_
  unfold W.setFlt
  simp [h]

/-- What `W.showFlash` may change. -/
@[simp] abbrev MayShowFlash (P : Spot → Prop) (s : Nat) : Prop := P (fld (FLT_SLOT_INFO_fw_version s)) ∧
  P (fld (FLT_SLOT_INFO_image_id s)) ∧ P (fld (FLT_SLOT_LEN_v s))

@[simp ↓] theorem showFlash_iff {s : Nat} (h : MayShowFlash P s) : SameOff P w (v.showFlash s) ↔ SameOff P w v := by
  refine drop_iff ?_
  unfold W.showFlash
  split <;> simp [h]

@[simp ↓] theorem fltDone_iff (h : P (fld FLT_CMD_STATUS_done) ∧ P (fld FLT_CMD_STATUS_result)) (result : Nat) :
    SameOff P w (v.fltDone result) ↔ SameOff P w v := by
  refine drop_iff ?_
  unfold W.fltDone
  simp [h]

@[simp ↓] theorem fltCmd_iff {f : W → W} (h : P (fld FLT_CMD_STATUS_done) ∧ P (fld FLT_CMD_STATUS_result))
    (hf : ∀ x, SameOff P x (f x)) :
    SameOff P w (v.fltCmd f) ↔ SameOff P w v := by
  refine drop_iff ?_
  unfold W.fltCmd
  split
  · exact refl v
  · split
    · simp [h]
    · exact hf v

/-- What `W.showFlt` may change. -/
@[simp] abbrev MayShowFlt (P : Spot → Prop) : Prop := (∀ q, P (fld (FLT_COUNT_count q))) ∧ P (fld FLT_STATUS_armed) ∧
  P (fld FLT_STATUS_image_id) ∧ P (fld FLT_STATUS_phase) ∧ P (fld FLT_STATUS_round) ∧ P (fld FLT_STATUS_slot)

@[simp ↓] theorem showFlt_iff (h : MayShowFlt P) : SameOff P w v.showFlt ↔ SameOff P w v := by
  refine drop_iff ?_
  unfold W.showFlt
  dsimp only
  split <;> simp [h]

@[simp ↓] theorem setCamp_iff (h : MayShowFlt P ∧ P (part .flt)) (c : Campaign) :
    SameOff P w (v.setCamp c) ↔ SameOff P w v := by
  refine drop_iff ?_
  unfold W.setCamp
  simp [h]

/-- What `W.phaseCheck` may change. -/
@[simp] abbrev MayPhaseCheck (P : Spot → Prop) : Prop := MayWide P ∧ P (part .flt) ∧ P (part .irq)

@[simp ↓] theorem phaseCheck_iff (h : MayPhaseCheck P) : SameOff P w v.phaseCheck ↔ SameOff P w v := by
  refine drop_iff ?_
  unfold W.phaseCheck
  split <;> simp [h]

@[simp ↓] theorem oweDone_iff (h : P (part .flt)) (rs : List Nat) (slot : Nat) :
    SameOff P w (v.oweDone rs slot) ↔ SameOff P w v := by
  refine drop_iff ?_
  unfold W.oweDone
  simp [h]

@[simp ↓] theorem clearProgress_iff (h : MayWide P) (targets : List Nat) :
    SameOff P w (v.clearProgress targets) ↔ SameOff P w v := by
  refine drop_iff ?_
  unfold W.clearProgress
  simp [h]

@[simp ↓] theorem fltLose_iff (h : MayPhaseCheck P ∧ P (part .scr)) (r : Nat) :
    SameOff P w (v.fltLose r) ↔ SameOff P w v := by
  refine drop_iff ?_
  unfold W.fltLose
  dsimp only
  split <;> simp [h]

@[simp ↓] theorem fltRestore_iff (h : MayPhaseCheck P ∧ P (part .scr)) : SameOff P w v.fltRestore ↔ SameOff P w v := by
  refine drop_iff ?_
  unfold W.fltRestore
  dsimp only
  repeat' split
  all_goals simp [h]

/-! ## Ingress -/

@[simp ↓] theorem ingCmd_iff {f : W → W} (h : P (fld ING_CMD_STATUS_result)) (hf : ∀ x, SameOff P x (f x)) :
    SameOff P w (v.ingCmd f) ↔ SameOff P w v := by
  refine drop_iff ?_
  unfold W.ingCmd
  split
  · simp [h]
  · exact hf v

@[simp ↓] theorem ingOp_iff (h : P (fld ING_CMD_index) ∧ P (fld ING_CMD_op)) (op index : Nat) :
    SameOff P w (v.ingOp op index) ↔ SameOff P w v := by
  refine drop_iff ?_
  unfold W.ingOp
  simp [h]

/-- What `W.mapSet` may change. -/
@[simp] abbrev MayMapSet (P : Spot → Prop) : Prop := MayIngDone P ∧ MayDirty P ∧ P (part .ing) ∧ P (part .ptn)

@[simp ↓] theorem mapSet_iff (h : MayMapSet P) (i : Nat) : SameOff P w (v.mapSet i) ↔ SameOff P w v := by
  refine drop_iff ?_
  unfold W.mapSet
  split <;> simp [h]

@[simp ↓] theorem tcpAttach_iff (h : MayIngDone P ∧ P (part .ing)) : SameOff P w v.tcpAttach ↔ SameOff P w v := by
  refine drop_iff ?_
  unfold W.tcpAttach
  simp [h]

@[simp ↓] theorem tcpDetach_iff (h : MayIngDone P ∧ P (part .ing)) : SameOff P w v.tcpDetach ↔ SameOff P w v := by
  refine drop_iff ?_
  unfold W.tcpDetach
  simp [h]

/-! ## Interrupts -/

@[simp ↓] theorem assertTgt_iff {t : Nat} (h : MayTally P ∧ P (fld (IRQ_TGT_TOP_asserted t))) :
    SameOff P w (v.assertTgt t) ↔ SameOff P w v := by
  refine drop_iff ?_
  unfold W.assertTgt
  simp [h]

/-- What `W.evalTgt` may change. -/
@[simp] abbrev MayEvalTgt (P : Spot → Prop) (t : Nat) : Prop := MayTally P ∧ P (fld (IRQ_TGT_TOP_asserted t)) ∧
  P (fld (IRQ_TGT_TOP_group t)) ∧ P (fld (IRQ_TGT_TOP_none t))

@[simp ↓] theorem evalTgt_iff {t : Nat} (h : MayEvalTgt P t) (fast : Bool) :
    SameOff P w (v.evalTgt t fast) ↔ SameOff P w v := by
  refine drop_iff ?_
  unfold W.evalTgt
  dsimp only
  repeat' split
  all_goals simp [h]

@[simp ↓] theorem writeMask_iff {word : Nat} (h : P (fld (IRQ_MASK_v word))) (x : W32) :
    SameOff P w (v.writeMask word x) ↔ SameOff P w v :=
  with_regs_wr_iff h x

/-! ## Queues -/

@[simp ↓] theorem laneRead_iff (h : MayQueFreed P ∧ P (part .resp)) (q : Nat) :
    SameOff P w (v.laneRead q) ↔ SameOff P w v := by
  refine drop_iff ?_
  unfold W.laneRead
  dsimp only
  repeat' split
  all_goals simp [h]

/-! ## The active pattern -/

@[simp ↓] theorem setPat_iff (h : P (part .pat)) (x : PatState) : SameOff P w (v.setPat x) ↔ SameOff P w v := by
  refine drop_iff ?_
  unfold W.setPat
  simp [h]

@[simp ↓] theorem showPattern_iff (h : MaySetEntry P) : SameOff P w v.showPattern ↔ SameOff P w v := by
  refine drop_iff ?_
  unfold W.showPattern
  simp [h]

@[simp ↓] theorem showQueue_iff (h : MayWide P) (q : Nat) (i : Option QItem) :
    SameOff P w (v.showQueue q i) ↔ SameOff P w v := by
  refine drop_iff ?_
  unfold W.showQueue
  simp [h]

@[simp ↓] theorem swapQueues_iff (h : MaySendChecked P) (old : Pattern) :
    SameOff P w (v.swapQueues old) ↔ SameOff P w v := by
  refine drop_iff ?_
  unfold W.swapQueues
  simp [h]

@[simp ↓] theorem closeChanged_iff (h : MayWaitFlush P ∧ P (part .aln)) (new : Pattern) :
    SameOff P w (v.closeChanged new) ↔ SameOff P w v := by
  refine drop_iff ?_
  unfold W.closeChanged
  dsimp only
  simp [h]

@[simp ↓] theorem openChanged_iff (h : MayWaitFlush P ∧ P (part .aln)) (old : Pattern) :
    SameOff P w (v.openChanged old) ↔ SameOff P w v := by
  refine drop_iff ?_
  unfold W.openChanged
  simp [h]

/-- What `W.swapGan` may change. -/
@[simp] abbrev MaySwapGan (P : Spot → Prop) : Prop := MayWide P ∧ P (part .gan) ∧ P (part .irq)

@[simp ↓] theorem swapGan_iff (h : MaySwapGan P) (old : Pattern) : SameOff P w (v.swapGan old) ↔ SameOff P w v := by
  refine drop_iff ?_
  unfold W.swapGan
  simp [h]

@[simp ↓] theorem swapSmp_iff (h : MaySmpRefresh P) (old : Pattern) : SameOff P w (v.swapSmp old) ↔ SameOff P w v := by
  refine drop_iff ?_
  unfold W.swapSmp
  simp [h]

/-- What `W.swapTables` may change. -/
@[simp] abbrev MaySwapTables (P : Spot → Prop) : Prop := MayWide P ∧ P (part .ing) ∧ P (part .rad)

@[simp ↓] theorem swapTables_iff (h : MaySwapTables P) (old : Pattern) :
    SameOff P w (v.swapTables old) ↔ SameOff P w v := by
  refine drop_iff ?_
  unfold W.swapTables
  simp [h]

@[simp ↓] theorem flushCaches_iff (h : MaySwapTables P) : SameOff P w v.flushCaches ↔ SameOff P w v := by
  refine drop_iff ?_
  unfold W.flushCaches
  simp [h]

/-- What `W.swapField` may change. -/
@[simp] abbrev MaySwapField (P : Spot → Prop) : Prop := MaySetEntry P ∧ P (part .flt) ∧ P (part .led) ∧ P (part .lmp) ∧
  P (part .scr)

@[simp ↓] theorem swapField_iff (h : MaySwapField P) (old : Pattern) :
    SameOff P w (v.swapField old) ↔ SameOff P w v := by
  refine drop_iff ?_
  unfold W.swapField
  simp [h]

/-- What `W.swapSources` may change. -/
@[simp] abbrev MaySwapSources (P : Spot → Prop) : Prop := MayRtcRead P ∧ P (part .free) ∧ P (part .scr) ∧ P (part .tb)

@[simp ↓] theorem swapSources_iff (h : MaySwapSources P) : SameOff P w v.swapSources ↔ SameOff P w v := by
  refine drop_iff ?_
  unfold W.swapSources
  simp [h]

@[simp ↓] theorem afterSwap_iff (h : MayQueFreed P) : SameOff P w v.afterSwap ↔ SameOff P w v := by
  refine drop_iff ?_
  unfold W.afterSwap
  refine (queFreed_iff (by simp [h])).mpr ?_
  split
  · exact refl v
  · refine foldl (fun x p => ?_) _ _
    split
    all_goals simp [h]

/-- What `W.applyPattern` may change. -/
@[simp] abbrev MayApplyPattern (P : Spot → Prop) : Prop := MayQueFreed P ∧ MaySwapField P ∧ MaySwapSources P ∧
  P (part .gan) ∧ P (part .pat) ∧ P (part .smp)

@[simp ↓] theorem applyPattern_iff (h : MayApplyPattern P) (new : Pattern) :
    SameOff P w (v.applyPattern new) ↔ SameOff P w v := by
  refine drop_iff ?_
  unfold W.applyPattern
  dsimp only
  simp [h]

@[simp ↓] theorem setPatState_iff (h : P (fld PAT_STATUS_state)) (st : Nat) :
    SameOff P w (v.setPatState st) ↔ SameOff P w v := by
  refine drop_iff ?_
  unfold W.setPatState
  simp [h]

@[simp ↓] theorem patErr_iff (h : P (fld PAT_STATUS_error)) (code : Nat) :
    SameOff P w (v.patErr code) ↔ SameOff P w v := by
  refine drop_iff ?_
  unfold W.patErr
  simp [h]

@[simp ↓] theorem patEv_iff {f : Fld} (h : MayRecord P ∧ P (fld f)) : SameOff P w (v.patEv f) ↔ SameOff P w v := by
  refine drop_iff ?_
  unfold W.patEv
  simp [h]

@[simp ↓] theorem patSwitch_iff (h : MayApplyPattern P) : SameOff P w v.patSwitch ↔ SameOff P w v := by
  refine drop_iff ?_
  unfold W.patSwitch
  split <;> simp [h]

@[simp ↓] theorem patBarrier_iff (h : MayApplyPattern P) : SameOff P w v.patBarrier ↔ SameOff P w v := by
  refine drop_iff ?_
  unfold W.patBarrier
  simp [h]

/-- What `W.loadDiscard` may change. -/
@[simp] abbrev MayLoadDiscard (P : Spot → Prop) : Prop := MayRecord P ∧ P (part .pat) ∧
  P (fld PAT_EVENT_load_discarded) ∧ P (fld PAT_STATUS_state)

@[simp ↓] theorem loadDiscard_iff (h : MayLoadDiscard P) : SameOff P w v.loadDiscard ↔ SameOff P w v := by
  refine drop_iff ?_
  unfold W.loadDiscard
  simp [h]

@[simp ↓] theorem patRevert_iff (h : MayApplyPattern P) : SameOff P w v.patRevert ↔ SameOff P w v := by
  refine drop_iff ?_
  unfold W.patRevert
  split <;> simp [h]

/-! ## Partner link -/

@[simp ↓] theorem setPtn_iff (h : P (part .ptn)) (x : PtnState) : SameOff P w (v.setPtn x) ↔ SameOff P w v := by
  refine drop_iff ?_
  unfold W.setPtn
  simp [h]

@[simp ↓] theorem ptnCopy_iff (h : MaySendFrom P ∧ P (part .cry)) (key : List Byte) (link : Bool) (kind : Nat)
    (payload : List Byte) :
    SameOff P w (v.ptnCopy key link kind payload) ↔ SameOff P w v := by
  refine drop_iff ?_
  unfold W.ptnCopy
  dsimp only
  simp [h]

@[simp ↓] theorem ptnSend_iff (h : MaySendFrom P ∧ P (part .cry)) (kind : Nat) (payload : List Byte) :
    SameOff P w (v.ptnSend kind payload) ↔ SameOff P w v := by
  refine drop_iff ?_
  unfold W.ptnSend
  dsimp only
  split <;> simp [h]

/-- What `W.ptnSet` may change. -/
@[simp] abbrev MayPtnSet (P : Spot → Prop) : Prop := MayWaitFlush P ∧ P (part .aln) ∧ P (part .ptn)

@[simp ↓] theorem ptnSet_iff (h : MayPtnSet P) (st : Nat) : SameOff P w (v.ptnSet st) ↔ SameOff P w v := by
  refine drop_iff ?_
  unfold W.ptnSet
  dsimp only
  simp [h]

/-- What `W.ptnLeave` may change. -/
@[simp] abbrev MayPtnLeave (P : Spot → Prop) : Prop := MaySendFrom P ∧ P (part .cry) ∧ P (part .ptn) ∧
  P (fld PTN_STATUS_link_up) ∧ P (fld PTN_STATUS_net_heard) ∧ P (fld PTN_STATUS_state)

@[simp ↓] theorem ptnLeave_iff (h : MayPtnLeave P) (state : Nat) : SameOff P w (v.ptnLeave state) ↔ SameOff P w v := by
  refine drop_iff ?_
  unfold W.ptnLeave
  dsimp only
  simp [h]

@[simp ↓] theorem ptnBegin_iff (h : MayPtnSet P) : SameOff P w v.ptnBegin ↔ SameOff P w v := by
  refine drop_iff ?_
  unfold W.ptnBegin
  dsimp only
  simp [h]

/-! ## Operating state and settings -/

@[simp ↓] theorem setSys_iff (h : P (part .sys)) (x : SysState) : SameOff P w (v.setSys x) ↔ SameOff P w v := by
  refine drop_iff ?_
  unfold W.setSys
  simp [h]

/-- What `W.setOp` may change. -/
@[simp] abbrev MaySetOp (P : Spot → Prop) : Prop := MayPtnLeave P ∧ MayRecord P ∧ P (part .op) ∧
  P (fld SYS_STATUS_state)

@[simp ↓] theorem setOp_iff (h : MaySetOp P) (st : OpState) : SameOff P w (v.setOp st) ↔ SameOff P w v := by
  refine drop_iff ?_
  unfold W.setOp
  simp [h]

/-- What `W.outputsOff` may change. -/
@[simp] abbrev MayOutputsOff (P : Spot → Prop) : Prop := P (part .led) ∧ P (part .mtr) ∧ P (part .rad) ∧ P (part .tb) ∧
  P (fld LMP_CON_STATE_drives)

@[simp ↓] theorem outputsOff_iff (h : MayOutputsOff P) : SameOff P w v.outputsOff ↔ SameOff P w v := by
  refine drop_iff ?_
  unfold W.outputsOff
  simp [h]

@[simp ↓] theorem tailSave_iff (h : P (part .scr) ∧ P (fld REC_STATUS_tail_valid)) :
    SameOff P w v.tailSave ↔ SameOff P w v := by
  refine drop_iff ?_
  unfold W.tailSave
  simp [h]

@[simp ↓] theorem putCopy_iff (h : P (part .sys)) (k : Nat) (c : SetCopy) :
    SameOff P w (v.putCopy k c) ↔ SameOff P w v := by
  refine drop_iff ?_
  unfold W.putCopy
  simp [h]

@[simp ↓] theorem saveStart_iff (h : MayDirty P ∧ P (fld SYS_CMD_STATUS_busy)) (commit : Bool) :
    SameOff P w (v.saveStart commit) ↔ SameOff P w v := by
  refine drop_iff ?_
  unfold W.saveStart
  simp [h]

@[simp ↓] theorem saveAsk_iff (h : MayDirty P ∧ P (fld SYS_CMD_STATUS_busy)) :
    SameOff P w v.saveAsk ↔ SameOff P w v := by
  refine drop_iff ?_
  unfold W.saveAsk
  simp [h]

@[simp ↓] theorem saveCommit_iff (h : MayDirty P ∧ P (fld SYS_CMD_STATUS_busy)) :
    SameOff P w v.saveCommit ↔ SameOff P w v := by
  refine drop_iff ?_
  unfold W.saveCommit
  simp [h]

@[simp ↓] theorem saveReleased_iff (h : MayWide P ∧ P (part .sys)) : SameOff P w v.saveReleased ↔ SameOff P w v := by
  refine drop_iff ?_
  unfold W.saveReleased
  simp [h]

@[simp ↓] theorem saveCutOff_iff (h : P (part .sys)) : SameOff P w v.saveCutOff ↔ SameOff P w v := by
  refine drop_iff ?_
  unfold W.saveCutOff
  split <;> simp [h]

@[simp ↓] theorem install_iff (h : MayApplyPattern P) (p : Pattern) : SameOff P w (v.install p) ↔ SameOff P w v := by
  refine drop_iff ?_
  unfold W.install
  dsimp only
  simp [h]

@[simp ↓] theorem restoreRegs_iff (h : MayWide P) (rs : Regs) (p : Nat → Bool) :
    SameOff P w (v.restoreRegs rs p) ↔ SameOff P w v := by
  refine drop_iff ?_
  unfold W.restoreRegs
  simp [h]

/-- What `W.restoreTables` may change. -/
@[simp] abbrev MayRestoreTables (P : Spot → Prop) : Prop := MayFetchEnt P ∧ P (part .rad) ∧ P (part .scr)

@[simp ↓] theorem restoreTables_iff (h : MayRestoreTables P) (c : SetCopy) :
    SameOff P w (v.restoreTables c) ↔ SameOff P w v := by
  refine drop_iff ?_
  unfold W.restoreTables
  refine .trans ?_ (foldl (fun x g => by simp [h]) _ _)
  refine (with_regs_wide_iff (by simp [h]) _).mpr (.trans ?_ (foldl (fun x g => by simp [h]) _ _))
  simp [h]

/-- What `W.refreshAll` may change. -/
@[simp] abbrev MayRefreshAll (P : Spot → Prop) : Prop := MaySwapSources P ∧ MayWaitFlush P ∧ P (part .aln) ∧
  P (part .led) ∧ P (part .lmp) ∧ P (part .mtr) ∧ P (part .rad) ∧ P (part .smp)

@[simp ↓] theorem refreshAll_iff (h : MayRefreshAll P) : SameOff P w v.refreshAll ↔ SameOff P w v := by
  refine drop_iff ?_
  unfold W.refreshAll
  simp [h]

/-- What `W.restoreFrom` may change. -/
@[simp] abbrev MayRestoreFrom (P : Spot → Prop) : Prop := MayRefreshAll P ∧ P (part .cry) ∧ P (part .gan) ∧
  P (part .ing)

@[simp ↓] theorem restoreFrom_iff (h : MayRestoreFrom P) (c : SetCopy) (p : Nat → Bool) :
    SameOff P w (v.restoreFrom c p) ↔ SameOff P w v := by
  refine drop_iff ?_
  unfold W.restoreFrom
  simp [h]

/-! ## Start, reset and reload -/

@[simp ↓] theorem showFw_iff (h : P (fld SYS_FW_MIN_SERIAL_v) ∧ ∀ q, P (fld (SYS_FW_SERIAL_v q))) :
    SameOff P w v.showFw ↔ SameOff P w v := by
  refine drop_iff ?_
  unfold W.showFw
  simp [h]

/-- What `W.showWch` may change. -/
@[simp] abbrev MayShowWch (P : Spot → Prop) : Prop := P (fld WCH_STATUS_main_ok) ∧ P (fld WCH_STATUS_on_vbak) ∧
  P (fld WCH_STATUS_retention) ∧ P (fld WCH_STATUS_vbak_ok)

@[simp ↓] theorem showWch_iff (h : MayShowWch P) : SameOff P w v.showWch ↔ SameOff P w v := by
  refine drop_iff ?_
  unfold W.showWch
  simp [h]

@[simp ↓] theorem watchStart_iff (h : (∀ f, P (fld f)) ∧ P (part .rtc) ∧ P (part .irq) ∧ P (part .key) ∧ P (part .sys)) :
    SameOff P w v.watchStart ↔ SameOff P w v := by
  refine drop_iff ?_
  unfold W.watchStart
  split
  · exact refl v
  · obtain ⟨hf, hr, hi, hk, hs⟩ := h
    refine (set_iff (hf _) _).mpr ((with_sys_iff hs _).mpr ?_)
    refine ⟨fun q hq => ?_, ((with_regs_wide_iff hf _).mpr (refl v)).bits, fun _ _ _ => Iff.rfl, fun _ => rfl, rfl⟩
    cases q
    case rtc => exact absurd hr hq
    case irq => exact absurd hi hq
    case key => exact absurd hk hq
    all_goals rfl

/-- What `W.reloadEnd` may change. -/
@[simp] abbrev MayReloadEnd (P : Spot → Prop) : Prop := MayApplyPattern P ∧ P (part .cry) ∧ P (part .mtr) ∧
  P (part .op) ∧ P (part .ptn)

@[simp ↓] theorem reloadEnd_iff (h : MayReloadEnd P) : SameOff P w v.reloadEnd ↔ SameOff P w v := by
  refine drop_iff ?_
  unfold W.reloadEnd
  dsimp only
  repeat' split
  all_goals simp [h]

/-- What `W.powerFail` may change. -/
@[simp] abbrev MayPowerFail (P : Spot → Prop) : Prop := MayEvaluate P ∧ MaySave P ∧ MayOutputsOff P ∧ P (part .sys) ∧
  P (fld HLT_EVENT_holdup_fail) ∧ P (fld REC_STATUS_tail_valid) ∧ P (fld SYS_EVENT_pfail) ∧ P (fld SYS_STATUS_reduced) ∧
  P (fld WCH_PF_NS_v) ∧ P (fld WCH_PF_SEC_HI_v) ∧ P (fld WCH_PF_SEC_LO_v)

@[simp ↓] theorem powerFail_iff (h : MayPowerFail P) (t : Nat) : SameOff P w (v.powerFail t) ↔ SameOff P w v := by
  refine drop_iff ?_
  unfold W.powerFail
  simp [h]

/-! ## Triggers and PTP -/

@[simp ↓] theorem setTb_iff (h : P (part .tb)) (x : TbState) : SameOff P w (v.setTb x) ↔ SameOff P w v := by
  refine drop_iff ?_
  unfold W.setTb
  simp [h]

@[simp ↓] theorem ptpSend_iff (h : MayTally P ∧ P (part .net)) (p dst dom : Nat) (m : PtpMsg) :
    SameOff P w (v.ptpSend p dst dom m) ↔ SameOff P w v := by
  refine drop_iff ?_
  unfold W.ptpSend
  simp [h]

@[simp ↓] theorem ptpTx_iff (h : MayAt P ∧ P (part .net)) (p : Nat) (k : PtpTx) (t : Nat) :
    SameOff P w (v.ptpTx p k t) ↔ SameOff P w v := by
  refine drop_iff ?_
  unfold W.ptpTx
  dsimp only
  repeat' split
  all_goals simp [h]

/-- What `W.trgWrite` may change. -/
@[simp] abbrev MayTrgWrite (P : Spot → Prop) (n : Nat) : Prop := MayDirty P ∧ P (part .tb) ∧
  P (fld (Fld.whole (TRG_CTRL_arm n))) ∧ P (fld (TRG_COUNT_v n)) ∧ P (fld (TRG_CTRL_arm n)) ∧ P (fld (TRG_CTRL_late n))

@[simp ↓] theorem trgWrite_iff {n : Nat} (h : MayTrgWrite P n) (x : W32) :
    SameOff P w (v.trgWrite n x) ↔ SameOff P w v := by
  refine drop_iff ?_
  unfold W.trgWrite
  have hw : P (fld (TRG_CTRL_arm n).whole) := by simp only [h]
  refine .trans ((with_busWrite_iff hw x).mpr (refl v)) ?_
  simp [h]

/-! ## Partner messages -/

/-- What `W.ptnDone` may change. -/
@[simp] abbrev MayPtnDone (P : Spot → Prop) : Prop := P (part .ptn) ∧ P (fld PTN_CMD_STATUS_busy) ∧
  P (fld PTN_CMD_STATUS_done) ∧ P (fld PTN_CMD_STATUS_result)

@[simp ↓] theorem ptnDone_iff (h : MayPtnDone P) (result : Nat) : SameOff P w (v.ptnDone result) ↔ SameOff P w v := by
  refine drop_iff ?_
  unfold W.ptnDone
  simp [h]

@[simp ↓] theorem ptnCommand_iff {f : W → W} (h : MayPtnDone P) (hf : ∀ x, SameOff P x (f x)) (op : Nat) :
    SameOff P w (v.ptnCommand op f) ↔ SameOff P w v := by
  refine drop_iff ?_
  unfold W.ptnCommand
  split
  · simp [h]
  · exact .trans (by simp [h]) (hf _)

/-- What `W.ptnAccept` may change. -/
@[simp] abbrev MayPtnAccept (P : Spot → Prop) : Prop := MayQueue P ∧ MayTally P ∧ P (part .ptn) ∧
  P (fld CRY_BRD_DROP_CNT_v) ∧ P (fld CRY_EVENT_auth_fail) ∧ P (fld CRY_EVENT_replay)

theorem ptnAccept_sameOff (h : MayPtnAccept P) {m : BrdMsg} {kind : Nat} {r : Option (List Byte)}
    (e : v.ptnAccept m kind = (u, r)) : SameOff P v u := by
  unfold W.ptnAccept at e
  rcases hx : v.cross 0xF1 0x17 (50 + m.data.length) with _ | x
  · simp only [hx] at e
    repeat' split at e
    all_goals
      cases e
      simp [h]
  · have hc : SameOff P v x := cross_sameOff (by simp [h]) hx
    simp only [hx] at e
    repeat' split at e
    all_goals
      cases e
      simp [h, hc]

@[simp ↓] theorem askCopy_iff (h : MayPtnSet P ∧ P (part .cry)) : SameOff P w v.askCopy ↔ SameOff P w v := by
  refine drop_iff ?_
  unfold W.askCopy
  simp [h]

/-- What `W.mirrorSend` may change. -/
@[simp] abbrev MayMirrorSend (P : Spot → Prop) : Prop := MaySendFrom P ∧ P (part .cry) ∧ P (part .ptn) ∧
  P (fld PTN_MSEQ_v)

@[simp ↓] theorem mirrorSend_iff (h : MayMirrorSend P) (is_ : List MirItem) :
    SameOff P w (v.mirrorSend is_) ↔ SameOff P w v := by
  refine drop_iff ?_
  unfold W.mirrorSend
  simp [h]

@[simp ↓] theorem mirrorNext_iff (h : MayMirrorSend P) : SameOff P w v.mirrorNext ↔ SameOff P w v := by
  refine drop_iff ?_
  unfold W.mirrorNext
  split <;> simp [h]

@[simp ↓] theorem applyStream_iff (h : MayQueFreed P) (i : Nat) (b : List Byte) :
    SameOff P w (v.applyStream i b) ↔ SameOff P w v := by
  refine drop_iff ?_
  unfold W.applyStream
  dsimp only
  repeat' split
  all_goals simp [h]

@[simp ↓] theorem applyLantern_iff (h : MaySetEntry P) (g : Nat) (b : List Byte) :
    SameOff P w (v.applyLantern g b) ↔ SameOff P w v := by
  refine drop_iff ?_
  unfold W.applyLantern
  simp [h]

/-- What `W.applyGrid` may change. -/
@[simp] abbrev MayApplyGrid (P : Spot → Prop) : Prop := MaySendChecked P ∧ P (part .hlt) ∧ P (part .lmp)

@[simp ↓] theorem applyGrid_iff (h : MayApplyGrid P) (b : List Byte) : SameOff P w (v.applyGrid b) ↔ SameOff P w v := by
  refine drop_iff ?_
  unfold W.applyGrid
  simp [h]

/-- What `W.applyRecord` may change. -/
@[simp] abbrev MayApplyRecord (P : Spot → Prop) : Prop := MayWide P ∧ P (part .irq) ∧ P (part .scr)

@[simp ↓] theorem applyRecord_iff (h : MayApplyRecord P) (b : List Byte) :
    SameOff P w (v.applyRecord b) ↔ SameOff P w v := by
  refine drop_iff ?_
  unfold W.applyRecord
  simp [h]

/-- What `W.applyItem` may change. -/
@[simp] abbrev MayApplyItem (P : Spot → Prop) : Prop := MayQueFreed P ∧ P (part .hlt) ∧ P (part .lmp) ∧ P (part .ptn) ∧
  P (part .rad) ∧ P (part .sys)

@[simp ↓] theorem applyItem_iff (h : MayApplyItem P) (i : MirItem) : SameOff P w (v.applyItem i) ↔ SameOff P w v := by
  refine drop_iff ?_
  unfold W.applyItem
  simp [h]

@[simp ↓] theorem mirrorRx_iff (h : MayApplyItem P ∧ P (part .cry)) (b : List Byte) :
    SameOff P w (v.mirrorRx b) ↔ SameOff P w v := by
  refine drop_iff ?_
  unfold W.mirrorRx
  dsimp only
  repeat' split
  all_goals simp [h]

/-! ## Partner commands -/

@[simp ↓] theorem onPtn_iff {f : W → List Byte → W} (h : MayPtnAccept P ∧ P (part .tb))
    (hf : ∀ x b, SameOff P x (f x b)) (m : BrdMsg) (kind : Nat) (ok : Nat → Bool) : SameOff P w (v.onPtn m kind ok f) ↔ SameOff P w v := by
  refine drop_iff ?_
  unfold W.onPtn
  split
  next e =>
    refine .trans (.trans (by simp [h]) (ptnAccept_sameOff (by simp [h]) e)) ?_
    split
    · exact hf ..
    · exact refl _
  next e => exact .trans (by simp [h]) (ptnAccept_sameOff (by simp [h]) e)

/-! ## Pattern trial -/

@[simp ↓] theorem trialJudge_iff (h : MayApplyPattern P ∧ P (part .sys)) :
    SameOff P w v.trialJudge ↔ SameOff P w v := by
  refine drop_iff ?_
  unfold W.trialJudge
  simp [h]

/-! ## Lane votes -/

@[simp ↓] theorem setLnv_iff (h : P (part .lnv)) (x : LnvState) : SameOff P w (v.setLnv x) ↔ SameOff P w v := by
  refine drop_iff ?_
  unfold W.setLnv
  simp [h]

/-- What `W.setLane` may change. -/
@[simp] abbrev MaySetLane (P : Spot → Prop) : Prop := P (fld LNV_STATUS_lane_a) ∧ P (fld LNV_STATUS_lane_b) ∧
  P (fld LNV_STATUS_lane_c)

@[simp ↓] theorem setLane_iff (h : MaySetLane P) (l n : Nat) : SameOff P w (v.setLane l n) ↔ SameOff P w v := by
  refine set_iff ?_ n
  unfold W.laneFld
  split
  · simp [h]
  · split
    · simp [h]
    · simp [h]

/-- What `W.lnvDone` may change. -/
@[simp] abbrev MayLnvDone (P : Spot → Prop) : Prop := P (fld LNV_CMD_STATUS_busy) ∧ P (fld LNV_CMD_STATUS_done) ∧
  P (fld LNV_CMD_STATUS_result)

@[simp ↓] theorem lnvDone_iff (h : MayLnvDone P) (result : Nat) : SameOff P w (v.lnvDone result) ↔ SameOff P w v := by
  refine drop_iff ?_
  unfold W.lnvDone
  simp [h]

@[simp ↓] theorem keepHeld_iff (h : P (part .lnv)) (l : List HeldReq) : SameOff P w (v.keepHeld l) ↔ SameOff P w v := by
  refine drop_iff ?_
  unfold W.keepHeld
  simp [h]

/-- What `W.safeStop` may change. -/
@[simp] abbrev MaySafeStop (P : Spot → Prop) : Prop := MaySetOp P ∧ MayEvaluate P ∧ MayLoadDiscard P ∧ MayOutputsOff P ∧
  MaySetLane P ∧ P (part .lnv) ∧ P (fld MTR_EVENT_save_done) ∧ P (fld MTR_SAVE_SEQ_v) ∧ P (fld REC_STATUS_tail_valid)

@[simp ↓] theorem safeStop_iff (h : MaySafeStop P) : SameOff P w v.safeStop ↔ SameOff P w v := by
  refine drop_iff ?_
  unfold W.safeStop
  simp [h]

/-- What `W.outvote` may change. -/
@[simp] abbrev MayOutvote (P : Spot → Prop) : Prop := MaySafeStop P ∧ P (part .sys) ∧ (∀ q, P (fld (LNV_DIS_CNT_v q))) ∧
  P (fld LNV_EVENT_disagree) ∧ P (fld LNV_EVENT_fenced) ∧ P (fld LNV_EVENT_timeout) ∧ P (fld LNV_LAST_ADDR_HI_v) ∧
  P (fld LNV_LAST_ADDR_LO_v) ∧ P (fld LNV_LAST_hart) ∧ P (fld LNV_LAST_kind) ∧ P (fld LNV_LAST_lane) ∧
  P (fld LNV_STATUS_mode) ∧ P (fld SYS_START_cause) ∧ P (fld SYS_START_prev)

@[simp ↓] theorem outvote_iff (h : MayOutvote P) (l kind hart : Nat) (addr : Option Nat) :
    SameOff P w (v.outvote l kind hart addr) ↔ SameOff P w v := by
  refine drop_iff ?_
  unfold W.outvote
  split <;> simp [h]

/-- What `W.errInfo` may change. -/
@[simp] abbrev MayErrInfo (P : Spot → Prop) : Prop := P (fld MEM_ERR_ADDR_HI_v) ∧ P (fld MEM_ERR_ADDR_LO_v) ∧
  P (fld MEM_ERR_INFO_block) ∧ P (fld MEM_ERR_INFO_cls) ∧ P (fld MEM_ERR_INFO_hot) ∧ P (fld MEM_ERR_INFO_region) ∧
  P (fld MEM_ERR_INFO_uncorrectable)

@[simp ↓] theorem errInfo_iff (h : MayErrInfo P) (a cls block : Nat) (bad hot : Bool) :
    SameOff P w (v.errInfo a cls block bad hot) ↔ SameOff P w v := by
  refine drop_iff ?_
  unfold W.errInfo
  simp [h]

/-- What `W.memCorrected` may change. -/
@[simp] abbrev MayMemCorrected (P : Spot → Prop) : Prop := MayErrInfo P ∧ MayTally P ∧ P (part .fls) ∧
  (∀ q, P (fld (MEM_CE_CNT_v q))) ∧ P (fld MEM_EVENT_ce) ∧ P (fld MEM_EVENT_hot)

@[simp ↓] theorem memCorrected_iff (h : MayMemCorrected P) (a cls block : Nat) :
    SameOff P w (v.memCorrected a cls block) ↔ SameOff P w v := by
  refine drop_iff ?_
  unfold W.memCorrected
  simp [h]

@[simp ↓] theorem loseUnit_iff (h : MayQueue P ∧ P (part .free)) (block : Nat) :
    SameOff P w (v.loseUnit block) ↔ SameOff P w v := by
  refine drop_iff ?_
  unfold W.loseUnit
  split <;> simp [h]

/-- What `W.loseCopy` may change. -/
@[simp] abbrev MayLoseCopy (P : Spot → Prop) : Prop := MayLoseHistory P ∧ P (part .mtr) ∧ P (part .sys)

@[simp ↓] theorem loseCopy_iff (h : MayLoseCopy P) (a : Nat) : SameOff P w (v.loseCopy a) ↔ SameOff P w v := by
  refine drop_iff ?_
  unfold W.loseCopy
  simp [h]

/-- What `W.memUncorrected` may change. -/
@[simp] abbrev MayMemUncorrected (P : Spot → Prop) : Prop := MayQueue P ∧ MayErrInfo P ∧ MayLoseCopy P ∧ MayRecord P ∧
  P (part .fls) ∧ P (part .free) ∧ P (part .resp) ∧ P (fld MEM_EVENT_ue) ∧ ∀ q, P (fld (MEM_UE_CNT_v q))

@[simp ↓] theorem memUncorrected_iff (h : MayMemUncorrected P) (a cls block : Nat) :
    SameOff P w (v.memUncorrected a cls block) ↔ SameOff P w v := by
  refine drop_iff ?_
  unfold W.memUncorrected
  simp [h]

/-! ## Memory errors and flash -/

/-- What `W.flDone` may change. -/
@[simp] abbrev MayFlDone (P : Spot → Prop) : Prop := P (fld MEM_FL_STATUS_busy) ∧ P (fld MEM_FL_STATUS_done) ∧
  P (fld MEM_FL_STATUS_result)

@[simp ↓] theorem flDone_iff (h : MayFlDone P) (result : Nat) : SameOff P w (v.flDone result) ↔ SameOff P w v := by
  refine drop_iff ?_
  unfold W.flDone
  simp [h]

@[simp ↓] theorem flCommand_iff (h : MayFlDone P ∧ P (part .fls)) (op p : Nat) :
    SameOff P w (v.flCommand op p) ↔ SameOff P w v := by
  refine drop_iff ?_
  unfold W.flCommand
  simp [h]

/-! ## Events of the lanes -/

@[simp ↓] theorem laneEvent_iff {f : W → W} (h : MayRecord P ∧ P (part .sys)) (hf : ∀ x, SameOff P x (f x))
    (wait : List Instr) (t : Nat) :
    SameOff P w (v.laneEvent wait t f) ↔ SameOff P w v := by
  refine drop_iff ?_
  unfold W.laneEvent
  dsimp only
  split
  · simp [h]
  · exact .trans (by simp [h]) (hf _)

@[simp ↓] theorem disagree_iff (h : MayOutvote P) (wait : List Instr) (t : Nat) (out : Option (Nat × Nat × Nat))
    (hart : Nat) :
    SameOff P w (v.disagree wait t out hart) ↔ SameOff P w v := by
  refine drop_iff ?_
  unfold W.disagree
  refine (laneEvent_iff (by simp [h]) (fun x => ?_) wait t).mpr (refl v)
  split
  all_goals simp [h]

/-! ## System commands -/

/-- What `W.sysDone` may change. -/
@[simp] abbrev MaySysDone (P : Spot → Prop) : Prop := P (fld SYS_CMD_STATUS_busy) ∧ P (fld SYS_CMD_STATUS_done) ∧
  P (fld SYS_CMD_STATUS_result)

@[simp ↓] theorem sysDone_iff (h : MaySysDone P) (result : Nat) : SameOff P w (v.sysDone result) ↔ SameOff P w v := by
  refine drop_iff ?_
  unfold W.sysDone
  simp [h]

/-! ## Reads of registers -/

@[simp ↓] theorem showRl_iff (h : MayWide P) : SameOff P w v.showRl ↔ SameOff P w v := by
  refine drop_iff ?_
  unfold W.showRl
  simp [h]

/-- What `W.beforeRead` may change. -/
@[simp] abbrev MayBeforeRead (P : Spot → Prop) : Prop := MayWide P ∧ P (part .led) ∧ P (part .prf) ∧ P (part .rad) ∧
  P (part .tb)

@[simp ↓] theorem beforeRead_iff (h : MayBeforeRead P) (a : Nat) : SameOff P w (v.beforeRead a) ↔ SameOff P w v := by
  refine drop_iff ?_
  unfold W.beforeRead
  split
  · split
    · simp [h]
    · simp
  · simp [h]
  · simp [h]
  · simp [h]
  · simp [h]
  · simp [h]
  · simp [h]
  · simp [h]
  · simp [h]
  · split
    · simp [h]
    · simp
  · simp [h]
  · dsimp only
    split
    · simp [h]
    · simp [h]
  · simp

end SameOff
end
end Sys2Proof.Machine

namespace Sys2Proof.Machine

/-! # The frames of the commands -/

section Frames

open SameOff Spot

/-- A field of one of the arrays. -/
def InArrays (gs : List (Nat → Fld)) (f : Fld) : Prop := ∃ g ∈ gs, ∃ k, g k = f

/-- The footprint that the lists of a frame allow: these parts and fields, and nothing stored. -/
def Listed (ps : List Part) (fs : List Fld) (gs : List (Nat → Fld)) : Spot → Prop
  | part p => p ∈ ps
  | fld f => f ∈ fs ∨ InArrays gs f
  | byte _ => False
  | zero => False

section
variable {ps : List Part} {fs : List Fld} {gs : List (Nat → Fld)}

@[simp ↓ high] theorem inArrays_head (g : Nat → Fld) (k : Nat) : InArrays (g :: gs) (g k) := ⟨g, List.mem_cons_self, k, rfl⟩

open Classical in
/-- The tail is searched first, so that `simp` compares fields only where no array is found by its name. -/
@[simp ↓] theorem inArrays_cons (g : Nat → Fld) (f : Fld) :
    InArrays (g :: gs) f ↔ if InArrays gs f then True else ∃ k, g k = f := by
  unfold InArrays
  split
  next h => exact iff_of_true (h.imp fun _ hg => ⟨List.mem_cons_of_mem _ hg.1, hg.2⟩) trivial
  next h => simp [h]

@[simp ↓] theorem listed_part {p : Part} : Listed ps fs gs (part p) ↔ p ∈ ps := Iff.rfl

@[simp ↓] theorem listed_fld {f : Fld} : Listed ps fs gs (fld f) ↔ if f ∈ fs then True else InArrays gs f := by
  simp [Listed, or_iff_not_imp_left]

/-- A next state, where a command answers one, differs from `s` in what is listed only, and memory is as it was. -/
def Within (s : State) (o : Host.Outcome State Fault Refusal) (ps : List Part) (fs : List Fld) (gs : List (Nat → Fld)) : Prop :=
  ∀ u, o = .next u → s.Keeps u ps fs gs ∧ u.mem = s.mem

variable {s : State} {ok : Bool} {name : String} {f : W → W}

/-- A command whose work stays in the lists. -/
theorem Within.run (hf : ∀ w, SameOff (Listed ps fs gs) w (f w)) : Within s (run ok name f s) ps fs gs := by
  intro u hu
  have h := hf (W.ofState s)
  obtain ⟨-, hq, hd, hm⟩ := run_cases hu
  have ho : (f (W.ofState s)).out = [] := List.eq_nil_iff_forall_not_mem.mpr fun e he => by
    simpa [W.ofState] using (h.out id e id).mp he
  refine ⟨⟨hq, fun p hp => hd ▸ h.parts p hp, fun a b hf hg => ?_⟩, run_mem hu ho (h.zeroed id)⟩
  have hb := h.bits a b (by
    rintro g (hg' | ⟨g', hg', k, rfl⟩)
    · exact hf g hg'
    · exact hg g' hg' k)
  simpa [State.word, hd] using hb

/-- A write or read by the lanes. -/
theorem Within.runL (hf : ∀ w, SameOff (Listed ps fs gs) w (f w)) : Within s (runL ok name f s) ps fs gs := by
  rw [runL_eq]
  refine Within.run fun w => ?_
  split
  · exact hf w
  · exact SameOff.refl w

/-- The same through what the work may change, so that the lists are gone through once. -/
theorem Within.run_of (M : (Spot → Prop) → Prop) (hM : M (Listed ps fs gs)) (hf : ∀ P, M P → ∀ w, SameOff P w (f w)) :
    Within s (Machine.run ok name f s) ps fs gs := Within.run (hf _ hM)

end
/-- The register that shows the high half of a counter read. -/
theorem counterAt_high {w : W} {a n : Nat} {hi : Fld} (h : w.counterAt a = some (n, hi)) :
    InArrays [PRF_SEL_HI_v, PRF_SELSNAP_HI_v, PRF_CNT_HI_v, PRF_SNAP_HI_v] hi := by
  unfold W.counterAt at h
  dsimp only at h
  repeat' split at h
  all_goals cases h
  all_goals simp

/-- The fields of the trim and calibration registers of any set lie in the array of set 0, 16 registers apart. -/
theorem cset_fields (c p : Nat) : LED_CSET_TRIM_factor 0 (16 * c + p) = LED_CSET_TRIM_factor c p ∧
    LED_CSET_REF_f_ref 0 (16 * c + p) = LED_CSET_REF_f_ref c p ∧
    LED_CSET_REF_f_dark 0 (16 * c + p) = LED_CSET_REF_f_dark c p := by
  simp only [Fld.mk.injEq, and_true]
  omega

/-! ## Commands that only write registers -/

theorem sfpOvercurrent_within (s : State) (port : Nat) : Within s (exec (.sfpOvercurrent port) s) []
    [NET_PORT_STAT_link_up port, NET_PORT_STAT_present port, NET_PORT_STAT_speed port] [] := by
  unfold exec execSfpOvercurrent
  refine .run fun w => ?_
  simp

theorem stageFw_within (s : State) : Within s (exec .stageFw s) [.sys, .fls] [SYS_CMD_STATUS_busy,
    SYS_CMD_STATUS_done, SYS_CMD_STATUS_result, SYS_FW_MIN_SERIAL_v] [SYS_FW_SERIAL_v] := by
  unfold exec execStageFw
  refine .runL fun w => ?_
  simp

theorem fwCommit_within (s : State) : Within s (exec .fwCommit s) [.key, .sys] [SYS_STATUS_fw_trial,
    SYS_CMD_STATUS_busy, SYS_CMD_STATUS_done, SYS_CMD_STATUS_result, SYS_FW_MIN_SERIAL_v] [SYS_FW_SERIAL_v] := by
  unfold exec execFwCommit
  refine .runL fun w => ?_
  dsimp only
  repeat' split
  all_goals simp

theorem verify_within (s : State) : Within s (exec .verify s) [.pat] [PAT_STATUS_state, PAT_STATUS_error] [] := by
  unfold exec execVerify
  refine .runL fun w => ?_
  simp

theorem cancel_within (s : State) : Within s (exec .cancel s) [.pat] [PAT_STATUS_state, PAT_STATUS_error] [] := by
  unfold exec execCancel
  refine .runL fun w => ?_
  simp

theorem capNsRead_within (s : State) (n : Nat) : Within s (exec (.capNsRead n) s) [.resp] [CAP_NS_v n,
    CAP_SEC_LO_v n, CAP_SEC_HI_v n] [] := by
  unfold exec execCapNsRead
  refine .runL fun w => ?_
  simp

theorem tbsNowRead_within (s : State) : Within s (exec .tbsNowRead s) [.resp] [TBS_NOW_NS_v, TBS_NOW_SEC_LO_v,
    TBS_NOW_SEC_HI_v] [] := by
  unfold exec execTbsNowRead
  refine .runL fun w => ?_
  simp

theorem mapSet_within (s : State) (index : Nat) : Within s (exec (.mapSet index) s) [.ing, .sys, .ptn]
    [ING_CMD_op, ING_CMD_index, ING_CMD_STATUS_busy, ING_CMD_STATUS_done, ING_CMD_STATUS_result,
    SYS_STATUS_settings_dirty] [] := by
  unfold exec execMapSet
  refine .runL fun w => ?_
  simp

theorem mapClear_within (s : State) : Within s (exec .mapClear s) [.ing, .sys, .ptn] [ING_CMD_op,
    ING_CMD_STATUS_busy, ING_CMD_STATUS_done, ING_CMD_STATUS_result, SYS_STATUS_settings_dirty] [] := by
  unfold exec execMapClear
  refine .runL fun w => ?_
  simp

theorem tcpAttach_within (s : State) : Within s (exec .tcpAttach s) [.ing] [ING_CMD_op, ING_CMD_STATUS_busy,
    ING_CMD_STATUS_done, ING_CMD_STATUS_result] [] := by
  unfold exec execTcpAttach
  refine .runL fun w => ?_
  simp

theorem tcpDetach_within (s : State) : Within s (exec .tcpDetach s) [.ing] [ING_CMD_op, ING_CMD_STATUS_busy,
    ING_CMD_STATUS_done, ING_CMD_STATUS_result] [] := by
  unfold exec execTcpDetach
  refine .runL fun w => ?_
  simp

theorem mapQuery_within (s : State) (v : W32) : Within s (exec (.mapQuery v) s) [] [ING_MAP_QUERY_idcode,
    ING_MAP_RESULT_index, ING_MAP_RESULT_valid] [] := by
  unfold exec execMapQuery
  refine .runL fun w => ?_
  simp

theorem cfgAck_within (s : State) (n : Nat) : Within s (exec (.cfgAck n) s) [] [ALN_OUT_CTRL_cfg_stale n] [] := by
  unfold exec execCfgAck
  refine .runL fun w => ?_
  simp

theorem paramWrite_within (s : State) (v : W32) : Within s (exec (.paramWrite v) s) [.gan, .sys]
    [GAN_PARAM_STATUS_result, SYS_STATUS_settings_dirty] [] := by
  unfold exec execParamWrite
  refine .runL fun w => ?_
  simp

theorem ganSelLatch_within (s : State) (sel : GanSel) (v : W32) : Within s (exec (.ganSelLatch sel v) s) []
    [GAN_RULE_SEL_rule, GAN_RULE_STATE_state, GAN_RULE_STATE_enabled, GAN_RULE_STATE_values, GAN_RULE_STATE_stale,
    GAN_RULE_STATE_count, GAN_RULE_HITS_v, GAN_TUN_SEL_signal, GAN_TUN_INFO_modes, GAN_TUN_INFO_modes_valid,
    GAN_TUN_INFO_bands_valid, GAN_TUN_INFO_report_seq, GAN_TUN_RPT_NS_v, GAN_TUN_RPT_SEC_LO_v, GAN_TUN_RPT_SEC_HI_v,
    GAN_SVY_NODE_SEL_index, GAN_SVY_NODE_label, GAN_SVY_NODE_separated, GAN_SVY_NODE_stale, GAN_SVY_EDGE_SEL_index,
    GAN_SVY_EDGE_open, GAN_SVY_EDGE_by_status, GAN_SVY_EDGE_by_freq, GAN_SVY_EDGE_status_unknown,
    GAN_SVY_EDGE_freq_unknown, GAN_SVY_EDGE_cnt_over, GAN_SVY_EDGE_cnt_under, GAN_MON_SEL_kind, GAN_MON_SEL_number,
    GAN_MON_OUT_outputs, GAN_MON_OUT_age_ms, GAN_MON_VAL_v, GAN_MON_RATE_v] [GAN_TUN_MODE_FREQ_v, GAN_TUN_MODE_ZETA_v,
    GAN_TUN_MODE_AMP_v, GAN_TUN_MODE_PHASE_v, GAN_TUN_ENERGY_v] := by
  unfold exec execGanSelLatch
  refine .runL fun w => ?_
  split <;> simp

theorem gcbCtrlWrite_within (s : State) (c : Nat) (v : W32) : Within s (exec (.gcbCtrlWrite c v) s) [.cry, .sys]
    [CRY_GCB_CTRL_enable c, CRY_GCB_CTRL_test c, SYS_STATUS_settings_dirty] [] := by
  unfold exec execGcbCtrlWrite
  refine .runL fun w => ?_
  simp

theorem sysCfgWrite_within (s : State) (v : W32) : Within s (exec (.sysCfgWrite v) s) [.cry, .sys]
    [CRY_SYS_CFG_module_no, CRY_SYS_CFG_sys_size, CRY_SYS_CFG_fanout, SYS_STATUS_settings_dirty] [] := by
  unfold exec execSysCfgWrite
  refine .runL fun w => ?_
  simp

theorem smpSnap_within (s : State) : Within s (exec .smpSnap s) [] [] [SMP_SNAP_RMS_v] := by
  unfold exec execSmpSnap
  refine .runL fun w => ?_
  simp

theorem peakRead_within (s : State) (c : Nat) : Within s (exec (.peakRead c) s) [.resp] [SMP_CH_PEAK_v c] [] := by
  unfold exec execPeakRead
  refine .runL fun w => ?_
  simp

theorem chCfgWrite_within (s : State) (c : Nat) (v : W32) : Within s (exec (.chCfgWrite c v) s) [.sys]
    [SMP_CH_CFG_enable c, SMP_CH_CFG_preset c, SMP_CH_CFG_fnom_50 c, SMP_CH_CFG_src c, SMP_CH_CFG_word c,
    SYS_STATUS_settings_dirty] [] := by
  unfold exec execChCfgWrite
  refine .runL fun w => ?_
  simp

theorem smpTestWrite_within (s : State) (reg : Nat) (v : W32) : Within s (exec (.smpTestWrite reg v) s) [.smp]
    [SMP_TEST_enable, SMP_TEST_k, SMP_TEST_gen, SMP_TEST_freq] [SMP_TEST_SEL_v, SMP_CH_STATE_state, SMP_CH_STATE_k] :=
    by
  unfold exec execSmpTestWrite
  refine .runL fun w => ?_
  simp

theorem wakeAddr_within (s : State) : Within s (exec .wakeAddr s) [.rad] [RAD_CMD_STATUS_done,
    RAD_CMD_STATUS_result] [] := by
  unfold exec execWakeAddr
  refine .runL fun w => ?_
  simp

theorem schedChanged_within (s : State) : Within s (exec .schedChanged s) [.rad] [RAD_CMD_STATUS_done,
    RAD_CMD_STATUS_result] [] := by
  unfold exec execSchedChanged
  refine .runL fun w => ?_
  simp

theorem store_within (s : State) (slot : Nat) : Within s (exec (.store slot) s) [.flt] [FLT_CMD_STATUS_busy,
    FLT_CMD_STATUS_done, FLT_CMD_STATUS_result] [] := by
  unfold exec execStore
  refine .runL fun w => (fltCmd_iff (by simp) fun x => ?_).mpr (SameOff.refl w)
  split
  all_goals simp

theorem erase_within (s : State) (slot : Nat) : Within s (exec (.erase slot) s) [.flt] [FLT_CMD_STATUS_done,
    FLT_CMD_STATUS_result, FLT_SLOT_INFO_image_id slot, FLT_SLOT_INFO_fw_version slot, FLT_SLOT_LEN_v slot] [] := by
  unfold exec execErase
  refine .runL fun w => ?_
  simp

theorem stop_within (s : State) : Within s (exec .stop s) [.flt] [FLT_STATUS_phase, FLT_STATUS_armed,
    FLT_STATUS_slot, FLT_STATUS_round, FLT_STATUS_image_id, FLT_CMD_STATUS_done, FLT_CMD_STATUS_result]
    [FLT_COUNT_count] := by
  unfold exec execStop
  refine .runL fun w => (fltCmd_iff (by simp) fun x => ?_).mpr (SameOff.refl w)
  split
  all_goals simp

theorem activate_within (s : State) (slot : Nat) : Within s (exec (.activate slot) s) [.flt] [FLT_STATUS_phase,
    FLT_STATUS_armed, FLT_STATUS_slot, FLT_STATUS_round, FLT_STATUS_image_id, FLT_CMD_STATUS_done,
    FLT_CMD_STATUS_result] [FLT_COUNT_count] := by
  unfold exec execActivate
  refine .runL fun w => (fltCmd_iff (by simp) fun x => ?_).mpr (SameOff.refl w)
  dsimp only
  repeat' split
  all_goals simp

theorem cancelAct_within (s : State) : Within s (exec .cancelAct s) [.flt] [FLT_STATUS_phase, FLT_STATUS_armed,
    FLT_STATUS_slot, FLT_STATUS_round, FLT_STATUS_image_id, FLT_CMD_STATUS_done, FLT_CMD_STATUS_result]
    [FLT_COUNT_count] := by
  unfold exec execCancelAct
  refine .runL fun w => (fltCmd_iff (by simp) fun x => ?_).mpr (SameOff.refl w)
  split
  all_goals simp

theorem ledClear_within (s : State) (n : Nat) : Within s (exec (.ledClear n) s) [.led] [LED_CMD_STATUS_done,
    LED_CMD_STATUS_result, LED_STR_STAT_state n, LED_STR_STAT_cause n, LED_STR_STAT_retries n, LED_STR_STAT_dac n,
    LED_STR_LEVEL_level n, LED_STR_LEVEL_v n] [] := by
  unfold exec execLedClear
  refine .runL fun w => ?_
  simp

theorem cal_within (s : State) (c : Nat) : Within s (exec (.cal c) s) [.led] [LED_CMD_STATUS_busy,
    LED_CMD_STATUS_done, LED_CMD_STATUS_result] [LED_STR_STAT_state, LED_STR_STAT_cause, LED_STR_STAT_retries,
    LED_STR_STAT_dac, LED_STR_LEVEL_level, LED_STR_LEVEL_v, LED_MTX_STAT_level] := by
  unfold exec execCal
  refine .runL fun w => ?_
  simp

theorem ledLoad_within (s : State) (p : Nat) : Within s (exec (.ledLoad p) s) [.led] [LED_CMD_STATUS_done,
    LED_CMD_STATUS_result, LED_MTX_STAT_preloaded p, LED_MTX_STAT_shifting p] [] := by
  unfold exec execLedLoad
  refine .runL fun w => ?_
  dsimp only
  repeat' split
  all_goals simp

theorem curveDataAccess_within (s : State) (v : Option W32) : Within s (exec (.curveDataAccess v) s) [.led, .sys,
    .resp] [LED_CURVE_SEL_point, SYS_STATUS_settings_dirty] [] := by
  unfold exec execCurveDataAccess
  refine .runL fun w => ?_
  dsimp only
  repeat' split
  all_goals simp

theorem ledCtrlWrite_within (s : State) (v : W32) : Within s (exec (.ledCtrlWrite v) s) [.led, .sys]
    [LED_CTRL_enable, SYS_STATUS_settings_dirty, LED_CTRL_enable.whole] [LED_STR_STAT_state, LED_STR_STAT_cause,
    LED_STR_STAT_retries, LED_STR_STAT_dac, LED_STR_LEVEL_level, LED_STR_LEVEL_v, LED_MTX_STAT_level] := by
  unfold exec execLedCtrlWrite
  refine .runL fun w => ?_
  split
  · exact SameOff.refl w
  · refine .trans ((with_busWrite_iff (a := LED_CTRL_enable.addr) ?_ v).mpr (SameOff.refl w)) ?_
    · exact .inl (by simp [Fld.whole])
    · simp

theorem accLoRead_within (s : State) (a : Nat) : Within s (exec (.accLoRead a) s) [.resp] [MTR_ACC_HI_v a] [] :=
    by
  unfold exec execAccLoRead
  refine .runL fun w => ?_
  simp

theorem legRead_within (s : State) (a : Nat) : Within s (exec (.legRead a) s) [.resp] [MTR_LEG_WRAP_v a] [] := by
  unfold exec execLegRead
  refine .runL fun w => ?_
  simp

theorem gapSelWrite_within (s : State) (v : W32) : Within s (exec (.gapSelWrite v) s) [] [MTR_GAP_SEL_entry]
    [MTR_GAP_DATA_v] := by
  unfold exec execGapSelWrite
  refine .runL fun w => ?_
  simp

theorem tcDataAccess_within (s : State) (v : Option W32) : Within s (exec (.tcDataAccess v) s) [.mtr, .sys, .resp]
    [MTR_TC_SEL_point, MTR_TC_SEL_channel, SYS_STATUS_settings_dirty] [] := by
  unfold exec execTcDataAccess
  refine .runL fun w => ?_
  dsimp only
  repeat' split
  all_goals simp

theorem inject_within (s : State) (lane : Nat) : Within s (exec (.inject lane) s) [.lnv] [LNV_CMD_STATUS_done,
    LNV_CMD_STATUS_result] [] := by
  unfold exec execInject
  refine .runL fun w => ?_
  simp

theorem flRead_within (s : State) (partition : Nat) : Within s (exec (.flRead partition) s) [.fls]
    [MEM_FL_STATUS_busy, MEM_FL_STATUS_done, MEM_FL_STATUS_result] [] := by
  unfold exec execFlRead
  refine .runL fun w => ?_
  simp

theorem flWrite_within (s : State) (partition : Nat) : Within s (exec (.flWrite partition) s) [.fls]
    [MEM_FL_STATUS_busy, MEM_FL_STATUS_done, MEM_FL_STATUS_result] [] := by
  unfold exec execFlWrite
  refine .runL fun w => ?_
  simp

theorem flTrim_within (s : State) (partition : Nat) : Within s (exec (.flTrim partition) s) [.fls]
    [MEM_FL_STATUS_busy, MEM_FL_STATUS_done, MEM_FL_STATUS_result] [] := by
  unfold exec execFlTrim
  refine .runL fun w => ?_
  simp

theorem flSync_within (s : State) (partition : Nat) : Within s (exec (.flSync partition) s) [.fls]
    [MEM_FL_STATUS_busy, MEM_FL_STATUS_done, MEM_FL_STATUS_result] [] := by
  unfold exec execFlSync
  refine .runL fun w => ?_
  simp

theorem irqMaskWrite_within (s : State) (word : Nat) (v : W32) : Within s (exec (.irqMaskWrite word v) s) [.sys]
    [IRQ_MASK_v word, SYS_STATUS_settings_dirty] [] := by
  unfold exec execIrqMaskWrite
  refine .runL fun w => ?_
  simp

theorem queueHwmRead_within (s : State) (q : Nat) : Within s (exec (.queueHwmRead q) s) [.resp] [QUE_Q_HWM_v q] []
    := by
  unfold exec execQueueHwmRead
  refine .runL fun w => ?_
  simp

theorem oscStoppedClear_within (s : State) : Within s (exec .oscStoppedClear s) [] [RTC_EVENT_osc_stopped] [] :=
    by
  unfold exec execOscStoppedClear
  refine .run fun w => ?_
  simp

theorem alarmArm_within (s : State) (a : Nat) (v : W32) : Within s (exec (.alarmArm a v) s) [.rtc]
    [RTC_ALM_CTRL_arm a, (RTC_ALM_CTRL_arm a).whole] [] := by
  unfold exec execAlarmArm
  refine .run fun w => ?_
  simp

theorem rdSel_within (s : State) (v : W32) : Within s (exec (.rdSel v) s) [] [REC_RD_SEL_slot, REC_RD_SEL_log]
    [REC_RD_DATA_v] := by
  unfold exec execRdSel
  refine .runL fun w => ?_
  simp

theorem prfSnapshot_within (s : State) : Within s (exec .prfSnapshot s) [.prf] [PRF_SNAP_NS_v, PRF_SNAP_SEC_LO_v,
    PRF_SNAP_SEC_HI_v] [] := by
  unfold exec execPrfSnapshot
  refine .runL fun w => ?_
  simp

theorem clearSel_within (s : State) (k : Nat) : Within s (exec (.clearSel k) s) [.prf] [] [] := by
  unfold exec execClearSel
  refine .runL fun w => ?_
  simp

theorem smpStatClear_within (s : State) : Within s (exec .smpStatClear s) [.prf] [PRF_SMP_STAT_held] [] := by
  unfold exec execSmpStatClear
  refine .runL fun w => ?_
  simp

theorem smpSelLatch_within (s : State) (v : W32) : Within s (exec (.smpSelLatch v) s) [] [PRF_SMP_SEL_index]
    [PRF_SMP_DATA_v] := by
  unfold exec execSmpSelLatch
  refine .runL fun w => ?_
  simp

theorem prfCntRead_within (s : State) (addr : Nat) : Within s (exec (.prfCntRead addr) s) [.resp] []
    [PRF_SEL_HI_v, PRF_SELSNAP_HI_v, PRF_CNT_HI_v, PRF_SNAP_HI_v] := by
  unfold exec execPrfCntRead
  refine .runL fun w => ?_
  split
  next hc => exact (answer_iff (by simp) _).mpr ((set_iff (.inr (counterAt_high hc)) _).mpr (SameOff.refl w))
  · simp

theorem blobSync_within (s : State) : Within s (exec .blobSync s) [.ptn] [PTN_CMD_STATUS_busy,
    PTN_CMD_STATUS_done, PTN_CMD_STATUS_result] [] := by
  unfold exec execBlobSync
  refine .runL fun w => ?_
  simp

theorem portLinkChange_within (s : State) (port : Nat) (up present los fault : Bool) : Within s (exec
    (.portLinkChange port up present los fault) s) [] [NET_PORT_STAT_link_up port, NET_PORT_STAT_present port,
    NET_PORT_STAT_rx_los port, NET_PORT_STAT_tx_fault port, NET_PORT_STAT_speed port] [] := by
  unfold exec execPortLinkChange
  refine .run fun w => ?_
  simp

/-- Settles O55: each command through what its work may change. -/
theorem framesOfRegisterCommands : Obligations.FramesOfRegisterCommands :=
   ⟨sfpOvercurrent_within, stageFw_within, fwCommit_within, verify_within, cancel_within, capNsRead_within,
   tbsNowRead_within, mapSet_within, mapClear_within, tcpAttach_within, tcpDetach_within, mapQuery_within,
   cfgAck_within, paramWrite_within, ganSelLatch_within, gcbCtrlWrite_within, sysCfgWrite_within, smpSnap_within,
   peakRead_within, chCfgWrite_within, smpTestWrite_within, wakeAddr_within, schedChanged_within, store_within,
   erase_within, stop_within, activate_within, cancelAct_within, ledClear_within, cal_within, ledLoad_within,
   curveDataAccess_within, ledCtrlWrite_within, accLoRead_within, legRead_within, gapSelWrite_within,
   tcDataAccess_within, inject_within, flRead_within, flWrite_within, flTrim_within, flSync_within,
   irqMaskWrite_within, queueHwmRead_within, oscStoppedClear_within, alarmArm_within, rdSel_within,
   prfSnapshot_within, clearSel_within, smpStatClear_within, smpSelLatch_within, prfCntRead_within, blobSync_within,
   portLinkChange_within⟩

end Frames
end Sys2Proof.Machine

namespace Sys2Proof.Machine

/-! # The parts a command reaches -/

section Parts

open SameOff Spot

/-- The footprint of these parts and the whole register file, and of memory where `stores` says so. -/
def OfParts (stores : Prop) (ps : List Part) : Spot → Prop
  | part p => p ∈ ps
  | fld _ => True
  | byte _ => stores
  | zero => stores

@[simp] theorem ofParts_part {stores : Prop} {ps : List Part} {p : Part} : OfParts stores ps (part p) ↔ p ∈ ps := Iff.rfl

@[simp] theorem ofParts_fld {stores : Prop} {ps : List Part} {f : Fld} : OfParts stores ps (fld f) ↔ True := Iff.rfl

@[simp] theorem ofParts_byte {stores : Prop} {ps : List Part} {a : Nat} : OfParts stores ps (byte a) ↔ stores := Iff.rfl

@[simp] theorem ofParts_zero {stores : Prop} {ps : List Part} : OfParts stores ps (zero) ↔ stores := Iff.rfl

/-- A next state, where a command answers one, differs from `s` in these parts and in the register file only. -/
def Reaches (s : State) (o : Host.Outcome State Fault Refusal) (ps : List Part) : Prop :=
  ∀ u, o = .next u → s.Keeps u ps [] [fun k => ⟨k, 0, 32⟩]

/-- The whole register words leave no bit to compare. -/
theorem keeps_words {s u : State} {ps : List Part} (hq : u.pending = s.pending)
    (hp : ∀ p, p ∉ ps → p.same s.dev u.dev) :
    s.Keeps u ps [] [fun k => ⟨k, 0, 32⟩] where
  queue := hq
  parts := hp
  bits a b _ hg := by
    have hb : 32 ≤ b := by
      by_contra hlt
      exact hg _ List.mem_cons_self a ⟨rfl, Nat.zero_le b, (by omega : b < 0 + 32)⟩
    rw [BitVec.getLsbD_of_ge _ _ hb, BitVec.getLsbD_of_ge _ _ hb]

section
variable {s : State} {ok : Bool} {name : String} {f : W → W} {ps qs : List Part} {o : Host.Outcome State Fault Refusal}

theorem Reaches.run (hf : ∀ w, SameOff (OfParts True ps) w (f w)) : Reaches s (run ok name f s) ps := by
  intro u hu
  obtain ⟨-, hq, hd, -⟩ := run_cases hu
  exact keeps_words hq fun p hp => hd ▸ (hf _).parts p hp

theorem Reaches.runL (hf : ∀ w, SameOff (OfParts True ps) w (f w)) : Reaches s (runL ok name f s) ps := by
  rw [runL_eq]
  refine Reaches.run fun w => ?_
  split
  · exact hf w
  · exact SameOff.refl w

/-- A command whose frame is known reaches the parts of that frame. -/
theorem Within.reaches {fs : List Fld} {gs : List (Nat → Fld)} (h : Within s o ps fs gs) (hs : ps ⊆ qs) : Reaches s o qs := by
  intro u hu
  obtain ⟨hk, -⟩ := h u hu
  exact keeps_words hk.queue fun p hp => hk.parts p fun m => hp (hs m)

end

/-! ## The reads -/

/-- The parts that a read of a register may reach. -/
def readParts : List Part := [.tb, .irq, .que, .scr, .prf, .net, .ing, .aln, .rad, .led, .mtr, .rtc, .sys, .resp]

theorem rdPlain_reaches (s : State) (a : Nat) : Reaches s (rdPlain a s) readParts := by
  unfold rdPlain
  refine .runL fun w => ?_
  split
  · simp [readParts]
  · split
    · simp [readParts]
    · simp [readParts]

theorem rtcTimeRead_reaches (s : State) (k : Nat) : Reaches s (execRtcTimeRead k s) readParts := by
  unfold execRtcTimeRead
  refine .runL fun w => ?_
  simp [readParts]

theorem queueRdata_reaches (s : State) (q : Nat) : Reaches s (execQueueRdata q s) readParts := by
  unfold execQueueRdata
  refine .runL fun w => ?_
  simp [readParts]

/-- A read that is a command of its own. -/
theorem rdRoute_reaches {a : Nat} {f : State → Host.Outcome State Fault Refusal} (h : rdRoute a = some f) (s : State) :
    Reaches s (f s) readParts := by
  unfold rdRoute at h
  repeat' split at h
  all_goals cases h
  · exact (tbsNowRead_within s).reaches (by simp [readParts])
  · exact (capNsRead_within s _).reaches (by simp [readParts])
  · exact rtcTimeRead_reaches s _
  · exact (peakRead_within s _).reaches (by simp [readParts])
  · exact (curveDataAccess_within s none).reaches (by simp [readParts])
  · exact (tcDataAccess_within s none).reaches (by simp [readParts])
  · exact (accLoRead_within s _).reaches (by simp [readParts])
  · exact (legRead_within s _).reaches (by simp [readParts])
  · exact queueRdata_reaches s _
  · exact (queueHwmRead_within s _).reaches (by simp [readParts])
  · exact (prfCntRead_within s a).reaches (by simp [readParts])

theorem busRead_reaches (s : State) (a : Nat) : Reaches s (busRead a s) readParts := by
  unfold busRead
  split
  · refine .runL fun w => ?_
    simp [readParts]
  · split
    next f h => exact rdRoute_reaches h s
    · exact rdPlain_reaches s a

/-! ## The commands on the pattern and the register file -/

theorem rcCounterRead_reaches (s : State) (addr : Nat) : Reaches s (exec (.rcCounterRead addr) s) [.tb, .irq,
    .que, .scr, .prf, .net, .ing, .aln, .rad, .led, .mtr, .rtc, .sys, .resp] := by
  unfold exec execRcCounterRead
  exact busRead_reaches s addr

theorem vbakRise_reaches (s : State) (t : Nat) : ∀ u, exec (.vbakRise t) s = .next u → s.Keeps u [.tb, .irq, .prf,
    .key, .rtc, .sys] [] [fun k => ⟨k, 0, 32⟩] ∧ u.mem = s.mem := by
  unfold exec execVbakRise
  intro u hu
  have h : SameOff (OfParts False [.tb, .irq, .prf, .key, .rtc, .sys]) (W.ofState s)
      (((((W.ofState s).at_ t).setSys { ((W.ofState s).at_ t).sys with vbak := true }).watchStart).showWch) := by simp
  obtain ⟨-, hq, hd, -⟩ := run_cases hu
  have ho := List.eq_nil_iff_forall_not_mem.mpr fun e he => List.not_mem_nil ((h.out id e id).mp he)
  exact ⟨keeps_words hq fun p hp => hd ▸ h.parts p hp, run_mem hu ho (h.zeroed id)⟩

theorem patternReloadDone_reaches (s : State) (t : Nat) : Reaches s (exec (.patternReloadDone t) s) [.op, .tb,
    .irq, .que, .scr, .prf, .pat, .net, .ing, .aln, .gan, .cry, .smp, .lmp, .rad, .flt, .led, .mtr, .rtc, .ptn, .free]
    := by
  unfold exec execPatternReloadDone
  refine .run fun w => ?_
  simp

theorem revert_reaches (s : State) (t : Nat) : Reaches s (exec (.revert t) s) [.tb, .irq, .que, .scr, .prf, .pat,
    .net, .ing, .aln, .gan, .smp, .lmp, .rad, .flt, .led, .rtc, .sys, .free] := by
  unfold exec execRevert
  refine .runL fun w => ?_
  simp

theorem patternBarrier_reaches (s : State) (t : Nat) : Reaches s (exec (.patternBarrier t) s) [.tb, .irq, .que,
    .scr, .prf, .pat, .net, .ing, .aln, .gan, .smp, .lmp, .rad, .flt, .led, .rtc, .free] := by
  unfold exec execPatternBarrier
  refine .run fun w => ?_
  simp

theorem trialTimeout_reaches (s : State) (t : Nat) : Reaches s (exec (.trialTimeout t) s) [.tb, .irq, .que, .scr,
    .prf, .pat, .net, .ing, .aln, .gan, .smp, .lmp, .rad, .flt, .led, .rtc, .sys, .free] := by
  unfold exec execTrialTimeout
  refine .run fun w => ?_
  simp

theorem patTrialTimeoutWrite_reaches (s : State) (v : W32) (t : Nat) : Reaches s (exec (.patTrialTimeoutWrite v t)
    s) [.tb, .irq, .que, .scr, .prf, .pat, .net, .ing, .aln, .gan, .smp, .lmp, .rad, .flt, .led, .rtc, .sys, .free] :=
    by
  unfold exec execPatTrialTimeoutWrite
  refine .runL fun w => ?_
  simp

theorem deferredBarrier_reaches (s : State) (t : Nat) : Reaches s (exec (.deferredBarrier t) s) [.tb, .irq, .que,
    .scr, .prf, .pat, .net, .ing, .aln, .gan, .smp, .lmp, .rad, .flt, .led, .rtc, .free] := by
  unfold exec execDeferredBarrier
  refine .run fun w => ?_
  simp

theorem mirrorRx_reaches (s : State) (m : BrdMsg) : Reaches s (exec (.mirrorRx m) s) [.tb, .irq, .que, .scr, .prf,
    .hlt, .net, .ing, .aln, .cry, .lmp, .rad, .sys, .ptn] := by
  unfold exec execMirrorRx
  refine .run fun w => ?_
  simp

/-- Settles O60: each command by the parts its work reaches; a read of a register by the command it is routed to. -/
theorem framesOfPatternCommands : Obligations.FramesOfPatternCommands :=
   ⟨rcCounterRead_reaches, vbakRise_reaches, patternReloadDone_reaches, revert_reaches, patternBarrier_reaches,
   trialTimeout_reaches, patTrialTimeoutWrite_reaches, deferredBarrier_reaches, mirrorRx_reaches⟩

end Parts
end Sys2Proof.Machine

namespace Sys2Proof.Machine

/-! # The frames of the events of time -/

section Timed

open SameOff Spot

theorem switchFrameRx_within (s : State) (port : Nat) (f : EthFrame) (t : Nat) : Within s (exec (.switchFrameRx
    port f t) s) [.tb, .irq, .que, .prf, .net] [PRF_EVENT_sel_limit] [NET_DROP_CNT_v, QUE_Q_FREE_v, QUE_Q_HWM_v,
    QUE_Q_STAT_full, QUE_Q_STAT_flushing, QUE_Q_STAT_units, QUE_Q_RHEAD_len, QUE_Q_RHEAD_aborted, QUE_Q_RHEAD_valid]
    := by
  unfold exec execSwitchFrameRx
  refine .run fun w => ?_
  simp

theorem pfailNFall_within (s : State) (t : Nat) : Within s (exec (.pfailNFall t) s) [.tb, .irq, .scr, .prf, .rad,
    .led, .mtr, .sys] [LMP_CON_STATE_drives, MTR_EVENT_save_done, MTR_EVENT_gap, MTR_EVENT_pulse_backlog,
    MTR_SAVE_SEQ_v, MTR_GAP_COUNT_v, WCH_PF_NS_v, WCH_PF_SEC_LO_v, WCH_PF_SEC_HI_v, SYS_STATUS_reduced,
    SYS_EVENT_pfail, REC_STATUS_tail_valid, REC_EVENT_lost, REC_LOST_CNT_v, PRF_EVENT_sel_limit,
    HLT_EVENT_holdup_fail] [MTR_FDR_P_v, MTR_FDR_STAT_clipped, MTR_FDR_STAT_pow2, MTR_FDR_STAT_gap, MTR_POUT_OWED_v]
    := by
  unfold exec execPfailNFall
  refine .run fun w => ?_
  simp

theorem watchdogKick_within (s : State) (v : W32) (t : Nat) : Within s (exec (.watchdogKick v t) s) [.tb, .irq,
    .prf, .sys] [PRF_EVENT_sel_limit] [] := by
  unfold exec execWatchdogKick
  refine .runL fun w => ?_
  simp

theorem bootLoopClear_within (s : State) (t : Nat) : Within s (exec (.bootLoopClear t) s) [.tb, .irq, .prf, .sys]
    [PRF_EVENT_sel_limit] [] := by
  unfold exec execBootLoopClear
  refine .run fun w => ?_
  simp

theorem overvoltageLockout_within (s : State) (t : Nat) : Within s (exec (.overvoltageLockout t) s) [.tb, .irq,
    .scr, .prf, .rad, .led, .mtr, .sys] [LMP_CON_STATE_drives, MTR_EVENT_save_done, MTR_EVENT_gap,
    MTR_EVENT_pulse_backlog, MTR_SAVE_SEQ_v, MTR_GAP_COUNT_v, WCH_PF_NS_v, WCH_PF_SEC_LO_v, WCH_PF_SEC_HI_v,
    SYS_STATUS_reduced, SYS_EVENT_pfail, REC_STATUS_tail_valid, REC_EVENT_lost, REC_LOST_CNT_v, PRF_EVENT_sel_limit,
    HLT_EVENT_holdup_fail] [MTR_FDR_P_v, MTR_FDR_STAT_clipped, MTR_FDR_STAT_pow2, MTR_FDR_STAT_gap, MTR_POUT_OWED_v]
    := by
  unfold exec execOvervoltageLockout
  refine .run fun w => ?_
  simp

theorem holdupChargerStop_within (s : State) (t : Nat) : Within s (exec (.holdupChargerStop t) s) [.tb, .irq,
    .scr, .prf, .sys] [REC_EVENT_lost, REC_LOST_CNT_v, PRF_EVENT_sel_limit, HLT_EVENT_holdup_fail] [] := by
  unfold exec execHoldupChargerStop
  refine .run fun w => ?_
  simp

theorem saveSettings_within (s : State) (t : Nat) : Within s (exec (.saveSettings t) s) [.tb, .irq, .prf, .sys]
    [PAT_ACTIVE_SERIAL_v, PAT_MIN_SERIAL_v, MTR_EPOCH_v, MTR_SAVE_SEQ_v, MTR_GAP_COUNT_v, SYS_STATUS_settings_dirty,
    SYS_CMD_STATUS_busy, SYS_FW_MIN_SERIAL_v, REC_RL_CFG_burst, PRF_EVENT_sel_limit, HLT_IND_U_u, HLT_IND_RATED_v,
    HLT_HOLDUP_C_v, HLT_HOLDUP_R_esr, PTN_STATUS_state] [RAD_TX_CTR_v, LED_STR_ONTIME_v] := by
  unfold exec execSaveSettings
  refine .runL fun w => ?_
  simp

theorem stageFwDone_within (s : State) (ok : Bool) (t : Nat) : Within s (exec (.stageFwDone ok t) s) [.tb, .irq,
    .prf, .key, .sys, .fls] [SYS_EVENT_fw_staged, SYS_CMD_STATUS_busy, SYS_CMD_STATUS_done, SYS_CMD_STATUS_result,
    SYS_FW_MIN_SERIAL_v, PRF_EVENT_sel_limit] [SYS_FW_SERIAL_v] := by
  unfold exec execStageFwDone
  refine .run fun w => ?_
  dsimp only
  split
  · simp
  · split
    · simp
    · simp

theorem autoSave_within (s : State) (t : Nat) : Within s (exec (.autoSave t) s) [.tb, .irq, .prf, .sys]
    [PAT_ACTIVE_SERIAL_v, PAT_MIN_SERIAL_v, MTR_EPOCH_v, MTR_SAVE_SEQ_v, MTR_GAP_COUNT_v, SYS_STATUS_settings_dirty,
    SYS_CMD_STATUS_busy, SYS_FW_MIN_SERIAL_v, REC_RL_CFG_burst, PRF_EVENT_sel_limit, HLT_IND_U_u, HLT_IND_RATED_v,
    HLT_HOLDUP_C_v, HLT_HOLDUP_R_esr, PTN_STATUS_state] [RAD_TX_CTR_v, LED_STR_ONTIME_v] := by
  unfold exec execAutoSave
  refine .run fun w => ?_
  dsimp only
  repeat' split
  all_goals simp

theorem verifyDone_within (s : State) (t : Nat) : Within s (exec (.verifyDone t) s) [.tb, .irq, .prf, .pat]
    [PAT_STATUS_state, PAT_STATUS_error, PAT_ERR_INFO_offset, PAT_ERR_INFO_section, PRF_EVENT_sel_limit] [] := by
  unfold exec execVerifyDone
  refine .run fun w => ?_
  dsimp only
  repeat' split
  all_goals simp

theorem arm_within (s : State) (t : Nat) : Within s (exec (.arm t) s) [.tb, .irq, .prf, .pat] [PAT_STATUS_state,
    PAT_STATUS_error, PRF_EVENT_sel_limit] [] := by
  unfold exec execArm
  refine .runL fun w => ?_
  simp

theorem commit_within (s : State) (t : Nat) : Within s (exec (.commit t) s) [.tb, .irq, .prf, .pat, .sys]
    [PAT_STATUS_error, PAT_ACTIVE_SERIAL_v, PAT_MIN_SERIAL_v, MTR_EPOCH_v, MTR_SAVE_SEQ_v, MTR_GAP_COUNT_v,
    SYS_STATUS_settings_dirty, SYS_CMD_STATUS_busy, SYS_FW_MIN_SERIAL_v, REC_RL_CFG_burst, PRF_EVENT_sel_limit,
    HLT_IND_U_u, HLT_IND_RATED_v, HLT_HOLDUP_C_v, HLT_HOLDUP_R_esr, PTN_STATUS_state] [RAD_TX_CTR_v, LED_STR_ONTIME_v]
    := by
  unfold exec execCommit
  refine .runL fun w => ?_
  simp

theorem ptpMessageTx_within (s : State) (port : Nat) (k : PtpTx) (t : Nat) : Within s (exec (.ptpMessageTx port k
    t) s) [.tb, .irq, .prf, .net] [PRF_EVENT_sel_limit] [] := by
  unfold exec execPtpMessageTx
  refine .run fun w => ?_
  simp

theorem announceTimeout_within (s : State) (t : Nat) : Within s (exec (.announceTimeout t) s) [.tb, .irq, .scr,
    .prf, .rtc, .free] [TBS_STATUS_servo_state, TBS_STATUS_phase_src, TBS_STATUS_ref_in_use, TBS_ERR_EST_v,
    TBS_QUALITY_tq_code, TBS_QUALITY_stat_tq, TBS_QUALITY_unsync, TBS_EVENT_locked, TBS_EVENT_unlocked,
    TBS_EVENT_holdover, TBS_EVENT_src_lost, RTC_STATUS_disciplined, RTC_STATUS_slewing, REC_EVENT_lost,
    REC_LOST_CNT_v, PRF_EVENT_sel_limit] [] := by
  unfold exec execAnnounceTimeout
  refine .run fun w => ?_
  simp

theorem ppsLost_within (s : State) (t : Nat) : Within s (exec (.ppsLost t) s) [.tb, .irq, .scr, .prf, .rtc, .free]
    [TBS_STATUS_servo_state, TBS_STATUS_phase_src, TBS_STATUS_ref_in_use, TBS_ERR_EST_v, TBS_QUALITY_tq_code,
    TBS_QUALITY_stat_tq, TBS_QUALITY_unsync, TBS_EVENT_locked, TBS_EVENT_unlocked, TBS_EVENT_holdover,
    TBS_EVENT_src_lost, RTC_STATUS_disciplined, RTC_STATUS_slewing, REC_EVENT_lost, REC_LOST_CNT_v,
    PRF_EVENT_sel_limit] [] := by
  unfold exec execPpsLost
  refine .run fun w => ?_
  dsimp only
  repeat' split
  all_goals simp

theorem ref10mValid_within (s : State) (t : Nat) : Within s (exec (.ref10mValid t) s) [.tb, .irq, .scr, .prf,
    .rtc, .free] [TBS_STATUS_servo_state, TBS_STATUS_phase_src, TBS_STATUS_ref_in_use, TBS_ERR_EST_v,
    TBS_QUALITY_tq_code, TBS_QUALITY_stat_tq, TBS_QUALITY_unsync, TBS_EVENT_locked, TBS_EVENT_unlocked,
    TBS_EVENT_holdover, RTC_STATUS_disciplined, RTC_STATUS_slewing, REC_EVENT_lost, REC_LOST_CNT_v,
    PRF_EVENT_sel_limit] [] := by
  unfold exec execRef10mValid
  refine .run fun w => ?_
  simp

theorem ref10mLost_within (s : State) (t : Nat) : Within s (exec (.ref10mLost t) s) [.tb, .irq, .scr, .prf, .rtc,
    .free] [TBS_STATUS_servo_state, TBS_STATUS_phase_src, TBS_STATUS_ref_in_use, TBS_ERR_EST_v, TBS_QUALITY_tq_code,
    TBS_QUALITY_stat_tq, TBS_QUALITY_unsync, TBS_EVENT_locked, TBS_EVENT_unlocked, TBS_EVENT_holdover,
    TBS_EVENT_src_lost, RTC_STATUS_disciplined, RTC_STATUS_slewing, REC_EVENT_lost, REC_LOST_CNT_v,
    PRF_EVENT_sel_limit] [] := by
  unfold exec execRef10mLost
  refine .run fun w => ?_
  simp

theorem hold_within (s : State) : Within s (exec .hold s) [.tb, .irq, .scr, .rtc] [TBS_STATUS_servo_state,
    TBS_ERR_EST_v, TBS_QUALITY_tq_code, TBS_QUALITY_stat_tq, TBS_QUALITY_unsync, TBS_EVENT_locked, TBS_EVENT_unlocked,
    TBS_EVENT_holdover, RTC_STATUS_disciplined, RTC_STATUS_slewing, REC_EVENT_lost, REC_LOST_CNT_v] [] := by
  unfold exec execHold
  refine .runL fun w => ?_
  simp

theorem release_within (s : State) : Within s (exec .release s) [.tb, .irq, .scr, .rtc, .free]
    [TBS_STATUS_servo_state, TBS_STATUS_phase_src, TBS_STATUS_ref_in_use, TBS_ERR_EST_v, TBS_QUALITY_tq_code,
    TBS_QUALITY_stat_tq, TBS_QUALITY_unsync, TBS_EVENT_locked, TBS_EVENT_unlocked, TBS_EVENT_holdover,
    RTC_STATUS_disciplined, RTC_STATUS_slewing, REC_EVENT_lost, REC_LOST_CNT_v] [] := by
  unfold exec execRelease
  refine .runL fun w => ?_
  simp

theorem slewDone_within (s : State) (t : Nat) : Within s (exec (.slewDone t) s) [.tb, .irq, .prf]
    [TBS_STATUS_slewing, PRF_EVENT_sel_limit] [] := by
  unfold exec execSlewDone
  refine .run fun w => ?_
  simp

theorem tbsCtrlWrite_within (s : State) (v : W32) : Within s (exec (.tbsCtrlWrite v) s) [.tb, .irq, .scr, .rtc,
    .sys, .free] [TBS_CTRL_servo_enable, TBS_STATUS_servo_state, TBS_STATUS_phase_src, TBS_STATUS_ref_in_use,
    TBS_STATUS_slewing, TBS_ERR_EST_v, TBS_QUALITY_tq_code, TBS_QUALITY_stat_tq, TBS_QUALITY_unsync, TBS_EVENT_locked,
    TBS_EVENT_unlocked, TBS_EVENT_holdover, TBS_EVENT_src_lost, RTC_STATUS_disciplined, RTC_STATUS_slewing,
    SYS_STATUS_settings_dirty, REC_EVENT_lost, REC_LOST_CNT_v, TBS_CTRL_servo_enable.whole] [] := by
  unfold exec execTbsCtrlWrite
  refine .runL fun w => ?_
  refine .trans ((with_busWrite_iff (a := TBS_CTRL_servo_enable.addr) ?_ v).mpr (SameOff.refl w)) ?_
  · exact .inl (by simp [Fld.whole])
  · simp

theorem leapSecond_within (s : State) (t : Nat) : Within s (exec (.leapSecond t) s) [.tb, .irq, .scr, .prf]
    [TBS_UTC_OFFSET_tai_utc, TBS_UTC_OFFSET_leap_pending, TBS_UTC_OFFSET_leap_occurred, TBS_EVENT_leap_done,
    REC_EVENT_lost, REC_LOST_CNT_v, PRF_EVENT_sel_limit] [] := by
  unfold exec execLeapSecond
  refine .run fun w => ?_
  simp

theorem leapOccurredExpire_within (s : State) (t : Nat) : Within s (exec (.leapOccurredExpire t) s) [.tb, .irq,
    .prf] [TBS_UTC_OFFSET_leap_occurred, PRF_EVENT_sel_limit] [] := by
  unfold exec execLeapOccurredExpire
  refine .run fun w => ?_
  dsimp only
  repeat' split
  all_goals simp

theorem triggerArm_within (s : State) (n : Nat) (v : W32) : Within s (exec (.triggerArm n v) s) [.tb, .sys]
    [TRG_CTRL_arm n, TRG_CTRL_late n, TRG_COUNT_v n, SYS_STATUS_settings_dirty, (TRG_CTRL_arm n).whole] [] := by
  unfold exec execTriggerArm
  refine .runL fun w => ?_
  simp

theorem epochTick_within (s : State) (t : Nat) : Within s (exec (.epochTick t) s) [.tb, .irq, .prf, .aln]
    [PRF_EVENT_sel_limit] [] := by
  unfold exec execEpochTick
  refine .run fun w => ?_
  simp

theorem ppsOutRise_within (s : State) (t : Nat) : Within s (exec (.ppsOutRise t) s) [.tb, .irq, .prf]
    [PRF_EVENT_sel_limit] [] := by
  unfold exec execPpsOutRise
  refine .run fun w => ?_
  simp

theorem ppsOutFall_within (s : State) (t : Nat) : Within s (exec (.ppsOutFall t) s) [.tb, .irq, .prf]
    [PRF_EVENT_sel_limit] [] := by
  unfold exec execPpsOutFall
  refine .run fun w => ?_
  simp

theorem captureEdge_within (s : State) (input : Nat) (rising : Bool) (t frac : Nat) : Within s (exec (.captureEdge
    input rising t frac) s) [.tb, .irq, .prf] [PRF_EVENT_sel_limit] [CAP_CTRL_count, CAP_CTRL_overflow] := by
  unfold exec execCaptureEdge
  refine .run fun w => ?_
  simp

theorem capPop_within (s : State) (n : Nat) : Within s (exec (.capPop n) s) [.tb] [CAP_CTRL_count n] [] := by
  unfold exec execCapPop
  refine .runL fun w => ?_
  simp

theorem tcpAckTimer_within (s : State) (conn t : Nat) : Within s (exec (.tcpAckTimer conn t) s) [.tb, .irq, .prf,
    .net, .ing] [PRF_EVENT_sel_limit] [] := by
  unfold exec execTcpAckTimer
  refine .run fun w => ?_
  dsimp only
  repeat' split
  all_goals simp

theorem latencySample_within (s : State) (g inst t : Nat) : Within s (exec (.latencySample g inst t) s) [.tb,
    .irq, .prf, .aln] [ALN_EVENT_window_clip, ALN_GRP_STATUS_members g, ALN_GRP_STATUS_running g,
    ALN_GRP_STATUS_adaptive g, ALN_GRP_STATUS_window_cur_ms g, ALN_GRP_P999_k_ms g, ALN_GRP_P999_samples g,
    PRF_EVENT_sel_limit] [] := by
  unfold exec execLatencySample
  refine .run fun w => ?_
  dsimp only
  split
  next i hi =>
    have hg : gNum i = g := by simpa using List.find?_some hi
    split
    · split
      · simp [hg]
      · simp
    · simp
  · simp

theorem notice_within (s : State) (t : Nat) : Within s (exec (.notice t) s) [.tb, .irq, .que, .prf, .aln, .gan,
    .free] [GAN_EVENT_stale_term, GAN_EVENT_tun_restart, GAN_EVENT_svy_change, GAN_EVENT_hit_wait, GAN_SETS_CNT_v,
    GAN_SVY_STATUS_components, GAN_SVY_STATUS_open_edges, GAN_SVY_DIGEST_LO_v, GAN_SVY_DIGEST_HI_v, GAN_SVY_SEQ_v,
    GAN_SVY_CALC_NS_v, PRF_EVENT_sel_limit] [GAN_RULE_ACTIVE_v, QUE_Q_FREE_v, QUE_Q_HWM_v, QUE_Q_STAT_full,
    QUE_Q_STAT_flushing, QUE_Q_STAT_units, QUE_Q_RHEAD_len, QUE_Q_RHEAD_aborted, QUE_Q_RHEAD_valid] := by
  unfold exec execNotice
  refine .run_of (fun P => MayAt P ∧ MayGanNotice P ∧ MayQueue P ∧ P (part .aln)) (by simp) fun P h w => ?_
  dsimp only
  repeat' split
  all_goals simp [h]

theorem tunerReport_within (s : State) (signal t : Nat) : Within s (exec (.tunerReport signal t) s) [.tb, .irq,
    .prf, .gan] [PRF_EVENT_sel_limit] [] := by
  unfold exec execTunerReport
  refine .run fun w => ?_
  dsimp only
  repeat' split
  all_goals simp

theorem crierRecord_within (s : State) (t : Nat) : Within s (exec (.crierRecord t) s) [.tb, .irq, .que, .prf,
    .net, .gan, .cry] [GAN_EVENT_hit_wait, CRY_EVENT_dst_unres, CRY_REC_CNT_v, CRY_FRAME_CNT_v, CRY_UNRES_CNT_v,
    CRY_ALM_SEQ_v, CRY_LAT_MAX_v, PRF_EVENT_sel_limit] [QUE_Q_FREE_v, QUE_Q_HWM_v, QUE_Q_STAT_full,
    QUE_Q_STAT_flushing, QUE_Q_STAT_units, QUE_Q_RHEAD_len, QUE_Q_RHEAD_aborted, QUE_Q_RHEAD_valid] := by
  unfold exec execCrierRecord
  refine .run_of (fun P => MayAt P ∧ MayCryTake P ∧ MaySendHits P) (by simp) fun P h w => ?_
  dsimp only
  repeat' split
  all_goals simp [h]

theorem alarmHeartbeat_within (s : State) (t : Nat) : Within s (exec (.alarmHeartbeat t) s) [.tb, .irq, .que,
    .prf, .net, .cry] [CRY_FRAME_CNT_v, PRF_EVENT_sel_limit] [QUE_Q_FREE_v, QUE_Q_HWM_v, QUE_Q_STAT_full,
    QUE_Q_STAT_flushing, QUE_Q_STAT_units, QUE_Q_RHEAD_len, QUE_Q_RHEAD_aborted, QUE_Q_RHEAD_valid] := by
  unfold exec execAlarmHeartbeat
  refine .run fun w => ?_
  simp

theorem gooseRetransmit_within (s : State) (c t : Nat) : Within s (exec (.gooseRetransmit c t) s) [.tb, .irq,
    .que, .prf, .net, .cry] [CRY_FRAME_CNT_v, PRF_EVENT_sel_limit] [QUE_Q_FREE_v, QUE_Q_HWM_v, QUE_Q_STAT_full,
    QUE_Q_STAT_flushing, QUE_Q_STAT_units, QUE_Q_RHEAD_len, QUE_Q_RHEAD_aborted, QUE_Q_RHEAD_valid] := by
  unfold exec execGooseRetransmit
  refine .run fun w => ?_
  simp

theorem alarmFanRx_within (s : State) (m : BrdMsg) : Within s (exec (.alarmFanRx m) s) [.tb, .irq, .que, .prf,
    .net, .cry] [CRY_EVENT_auth_fail, CRY_EVENT_replay, CRY_BRD_DROP_CNT_v, PRF_EVENT_sel_limit] [QUE_Q_FREE_v,
    QUE_Q_HWM_v, QUE_Q_STAT_full, QUE_Q_STAT_flushing, QUE_Q_STAT_units, QUE_Q_RHEAD_len, QUE_Q_RHEAD_aborted,
    QUE_Q_RHEAD_valid] := by
  unfold exec execAlarmFanRx
  refine .run fun w => ?_
  split
  next e => exact .trans (by simp) ((brdAccept_sameOff (by simp) e).trans (by simp))
  next e => exact .trans (by simp) (brdAccept_sameOff (by simp) e)

theorem abortRx_within (s : State) (m : BrdMsg) : Within s (exec (.abortRx m) s) [.tb, .irq, .que, .prf, .net,
    .cry] [CRY_STATUS_armed, CRY_STATUS_live, CRY_EVENT_auth_fail, CRY_EVENT_replay, CRY_EVENT_gop_late,
    CRY_EVENT_gop_abort, CRY_BRD_DROP_CNT_v, PRF_EVENT_sel_limit] [TRG_CTRL_arm, QUE_Q_FREE_v, QUE_Q_HWM_v,
    QUE_Q_STAT_full, QUE_Q_STAT_flushing, QUE_Q_STAT_units, QUE_Q_RHEAD_len, QUE_Q_RHEAD_aborted, QUE_Q_RHEAD_valid]
    := by
  unfold exec execAbortRx
  refine .run fun w => ?_
  split
  next e =>
    refine .trans (by simp) ((brdAccept_sameOff (by simp) e).trans ?_)
    split
    · simp
    · simp
  next e => exact .trans (by simp) (brdAccept_sameOff (by simp) e)

theorem confirmRx_within (s : State) (m : BrdMsg) : Within s (exec (.confirmRx m) s) [.tb, .irq, .que, .scr, .prf,
    .net, .cry] [CRY_STATUS_armed, CRY_STATUS_live, CRY_EVENT_auth_fail, CRY_EVENT_replay, CRY_EVENT_gop_done,
    CRY_BRD_DROP_CNT_v, REC_EVENT_lost, REC_LOST_CNT_v, PRF_EVENT_sel_limit] [CRY_GOP_RES_lo, CRY_GOP_RES_hi,
    QUE_Q_FREE_v, QUE_Q_HWM_v, QUE_Q_STAT_full, QUE_Q_STAT_flushing, QUE_Q_STAT_units, QUE_Q_RHEAD_len,
    QUE_Q_RHEAD_aborted, QUE_Q_RHEAD_valid] := by
  unfold exec execConfirmRx
  refine .run fun w => ?_
  split
  next e =>
    refine .trans (by simp) ((brdAccept_sameOff (by simp) e).trans ?_)
    split
    · simp
    · simp
  next e => exact .trans (by simp) (brdAccept_sameOff (by simp) e)

theorem livenessRx_within (s : State) (m : BrdMsg) : Within s (exec (.livenessRx m) s) [.tb, .irq, .que, .prf,
    .net, .cry] [CRY_STATUS_armed, CRY_STATUS_live, CRY_EVENT_auth_fail, CRY_EVENT_replay, CRY_BRD_DROP_CNT_v,
    PRF_EVENT_sel_limit] [QUE_Q_FREE_v, QUE_Q_HWM_v, QUE_Q_STAT_full, QUE_Q_STAT_flushing, QUE_Q_STAT_units,
    QUE_Q_RHEAD_len, QUE_Q_RHEAD_aborted, QUE_Q_RHEAD_valid] := by
  unfold exec execLivenessRx
  refine .run fun w => ?_
  split
  next e => exact .trans (by simp) ((brdAccept_sameOff (by simp) e).trans (by simp))
  next e => exact .trans (by simp) (brdAccept_sameOff (by simp) e)

theorem livenessSend_within (s : State) (t : Nat) : Within s (exec (.livenessSend t) s) [.tb, .irq, .que, .prf,
    .net, .cry] [CRY_STATUS_armed, CRY_STATUS_live, PRF_EVENT_sel_limit] [QUE_Q_FREE_v, QUE_Q_HWM_v, QUE_Q_STAT_full,
    QUE_Q_STAT_flushing, QUE_Q_STAT_units, QUE_Q_RHEAD_len, QUE_Q_RHEAD_aborted, QUE_Q_RHEAD_valid] := by
  unfold exec execLivenessSend
  refine .run fun w => ?_
  simp

theorem gopAbort_within (s : State) (op : Nat) : Within s (exec (.gopAbort op) s) [.tb, .irq, .que, .prf, .net,
    .cry] [CRY_STATUS_armed, CRY_STATUS_live, CRY_EVENT_gop_late, CRY_EVENT_gop_abort, CRY_GOP_STATUS_done,
    CRY_GOP_STATUS_result, PRF_EVENT_sel_limit] [TRG_CTRL_arm, QUE_Q_FREE_v, QUE_Q_HWM_v, QUE_Q_STAT_full,
    QUE_Q_STAT_flushing, QUE_Q_STAT_units, QUE_Q_RHEAD_len, QUE_Q_RHEAD_aborted, QUE_Q_RHEAD_valid] := by
  unfold exec execGopAbort
  refine .runL fun w => ?_
  dsimp only
  repeat' split
  all_goals simp

theorem confirmDeadline_within (s : State) (origin op t : Nat) : Within s (exec (.confirmDeadline origin op t) s)
    [.tb, .irq, .que, .scr, .prf, .net, .cry] [CRY_STATUS_armed, CRY_STATUS_live, CRY_EVENT_gop_done, REC_EVENT_lost,
    REC_LOST_CNT_v, PRF_EVENT_sel_limit] [CRY_GOP_RES_lo, CRY_GOP_RES_hi, QUE_Q_FREE_v, QUE_Q_HWM_v, QUE_Q_STAT_full,
    QUE_Q_STAT_flushing, QUE_Q_STAT_units, QUE_Q_RHEAD_len, QUE_Q_RHEAD_aborted, QUE_Q_RHEAD_valid] := by
  unfold exec execConfirmDeadline
  refine .run fun w => ?_
  dsimp only
  repeat' split
  all_goals simp

theorem adcFrame_within (s : State) (f : AdcFrame) : Within s (exec (.adcFrame f) s) [.tb, .irq, .que, .prf, .smp]
    [SMP_EVENT_link_err, SMP_EVENT_hold, SMP_EVENT_settled, SMP_EVENT_out_drop, SMP_DROP_CNT_v, SMP_DET_RMS_v,
    SMP_DET_ENV_v, PRF_EVENT_sel_limit] [SMP_LINK_CRC_v, SMP_LINK_LATE_v, SMP_CH_STATE_state,
    SMP_CH_STATE_clipped_seen, SMP_CH_STATE_k, SMP_CH_PEAK_v, QUE_Q_FREE_v, QUE_Q_HWM_v, QUE_Q_STAT_full,
    QUE_Q_STAT_flushing, QUE_Q_STAT_units, QUE_Q_RHEAD_len, QUE_Q_RHEAD_aborted, QUE_Q_RHEAD_valid] := by
  unfold exec execAdcFrame
  refine .run fun w => ?_
  simp

theorem svFrame_within (s : State) (f : SvFrame) : Within s (exec (.svFrame f) s) [.tb, .irq, .que, .prf, .smp]
    [SMP_EVENT_sv_late, PRF_EVENT_sel_limit] [SMP_SV_LOST_v, SMP_SV_LATE_v, QUE_Q_FREE_v, QUE_Q_HWM_v,
    QUE_Q_STAT_full, QUE_Q_STAT_flushing, QUE_Q_STAT_units, QUE_Q_RHEAD_len, QUE_Q_RHEAD_aborted, QUE_Q_RHEAD_valid]
    := by
  unfold exec execSvFrame
  refine .run fun w => ?_
  dsimp only
  split
  · simp
  · split
    · simp
    next e => exact .trans (by simp) ((cross_sameOff (by simp) e).trans (by simp))

theorem svProcess_within (s : State) (n t : Nat) : Within s (exec (.svProcess n t) s) [.tb, .irq, .que, .prf,
    .smp] [SMP_EVENT_hold, SMP_EVENT_settled, SMP_EVENT_out_drop, SMP_DROP_CNT_v, SMP_DET_RMS_v, SMP_DET_ENV_v,
    PRF_EVENT_sel_limit] [SMP_SV_LOST_v, SMP_CH_STATE_state, SMP_CH_STATE_clipped_seen, SMP_CH_STATE_k, SMP_CH_PEAK_v,
    QUE_Q_FREE_v, QUE_Q_HWM_v, QUE_Q_STAT_full, QUE_Q_STAT_flushing, QUE_Q_STAT_units, QUE_Q_RHEAD_len,
    QUE_Q_RHEAD_aborted, QUE_Q_RHEAD_valid] := by
  unfold exec execSvProcess
  refine .run fun w => ?_
  simp

theorem phasorReport_within (s : State) (inst t : Nat) : Within s (exec (.phasorReport inst t) s) [.tb, .irq,
    .que, .prf, .smp] [SMP_EVENT_out_drop, SMP_DROP_CNT_v, SMP_PHS_VALID_v, PRF_EVENT_sel_limit] [SMP_PHS_SET_ch_a,
    QUE_Q_FREE_v, QUE_Q_HWM_v, QUE_Q_STAT_full, QUE_Q_STAT_flushing, QUE_Q_STAT_units, QUE_Q_RHEAD_len,
    QUE_Q_RHEAD_aborted, QUE_Q_RHEAD_valid] := by
  unfold exec execPhasorReport
  refine .run fun w => ?_
  simp

theorem fieldCycleDone_within (s : State) (t : Nat) : Within s (exec (.fieldCycleDone t) s) [.tb, .irq, .prf,
    .lmp] [LMP_CYCLE_CNT_v, PRF_EVENT_sel_limit] [] := by
  unfold exec execFieldCycleDone
  refine .run fun w => ?_
  simp

theorem gridResponseCmd_within (s : State) (t : Nat) : Within s (exec (.gridResponseCmd t) s) [.tb, .irq, .que,
    .prf, .hlt, .cry, .lmp, .ptn] [LMP_STATUS_stage, LMP_STATUS_gr_seq, LMP_EVENT_gr_unconfigured,
    LMP_EVENT_fanned_refused, LMP_EVENT_con_limit, LMP_CON_STATE_drives, PRF_EVENT_sel_limit, HLT_EVENT_near,
    HLT_EVENT_reached] [LMP_GR1_state, QUE_Q_FREE_v, QUE_Q_HWM_v, QUE_Q_STAT_full, QUE_Q_STAT_flushing,
    QUE_Q_STAT_units, QUE_Q_RHEAD_len, QUE_Q_RHEAD_aborted, QUE_Q_RHEAD_valid] := by
  unfold exec execGridResponseCmd
  refine .run_of (fun P => MayAt P ∧ MayFollow P ∧ P (part .cry) ∧ MayQueue P ∧
    (∀ q, P (fld (LMP_GR1_state q))) ∧ P (fld LMP_EVENT_gr_unconfigured) ∧ P (fld LMP_EVENT_fanned_refused)) (by simp) fun P h w => ?_
  dsimp only
  repeat' split
  all_goals simp [h]

theorem contactorDeferred_within (s : State) (k t : Nat) : Within s (exec (.contactorDeferred k t) s) [.tb, .irq,
    .prf, .hlt, .lmp] [LMP_EVENT_con_limit, LMP_CON_STATE_drives, PRF_EVENT_sel_limit, HLT_EVENT_near,
    HLT_EVENT_reached] [] := by
  unfold exec execContactorDeferred
  refine .run fun w => ?_
  simp

theorem levelOrder_within (s : State) (t : Nat) : Within s (exec (.levelOrder t) s) [.tb, .irq, .que, .prf, .hlt,
    .cry, .lmp, .sys, .ptn] [LMP_STATUS_stage, LMP_STATUS_gr_seq, LMP_EVENT_con_limit, LMP_EVENT_order_err,
    LMP_CON_STATE_drives, LMP_STAGE_FORCE_stage, LMP_STAGE_FORCE_force, SYS_STATUS_settings_dirty,
    PRF_EVENT_sel_limit, HLT_EVENT_near, HLT_EVENT_reached] [LMP_GRP_CFG_ovr_level, LMP_GRP_CFG_ovr_on, QUE_Q_FREE_v,
    QUE_Q_HWM_v, QUE_Q_STAT_full, QUE_Q_STAT_flushing, QUE_Q_STAT_units, QUE_Q_RHEAD_len, QUE_Q_RHEAD_aborted,
    QUE_Q_RHEAD_valid] := by
  unfold exec execLevelOrder
  refine .run_of (fun P => MayAt P ∧ MayLevelOrder P ∧ P (part .cry)) (by simp) fun P h w => ?_
  dsimp only
  repeat' split
  all_goals simp [h]

theorem orderLocalApply_within (s : State) (t : Nat) : Within s (exec (.orderLocalApply t) s) [.tb, .irq, .que,
    .prf, .hlt, .lmp, .sys, .ptn] [LMP_STATUS_stage, LMP_STATUS_gr_seq, LMP_EVENT_con_limit, LMP_CON_STATE_drives,
    LMP_STAGE_FORCE_stage, LMP_STAGE_FORCE_force, SYS_STATUS_settings_dirty, PRF_EVENT_sel_limit, HLT_EVENT_near,
    HLT_EVENT_reached] [LMP_GRP_CFG_ovr_level, LMP_GRP_CFG_ovr_on, QUE_Q_FREE_v, QUE_Q_HWM_v, QUE_Q_STAT_full,
    QUE_Q_STAT_flushing, QUE_Q_STAT_units, QUE_Q_RHEAD_len, QUE_Q_RHEAD_aborted, QUE_Q_RHEAD_valid] := by
  unfold exec execOrderLocalApply
  refine .run fun w => ?_
  simp

theorem astroCompute_within (s : State) (t : Nat) : Within s (exec (.astroCompute t) s) [.tb, .irq, .prf, .lmp,
    .rad] [LMP_EVENT_astro_none, LMP_ASTRO_TIMES0_first, LMP_ASTRO_TIMES0_second, LMP_ASTRO_TIMES1_first,
    LMP_ASTRO_TIMES1_second, PRF_EVENT_sel_limit] [] := by
  unfold exec execAstroCompute
  refine .run fun w => ?_
  simp

theorem sensorEvent_within (s : State) (t : Nat) : Within s (exec (.sensorEvent t) s) [.tb, .irq, .que, .prf,
    .lmp] [LMP_EVENT_edge, LMP_EVENTS_CNT_v, LMP_EVENT_DROP_CNT_v, LMP_TRACK_REPL_CNT_v, LMP_TRACKS_v,
    LMP_TRK_INFO0_lantern, LMP_TRK_INFO0_class, LMP_TRK_INFO0_speed, LMP_TRK_INFO1_toward, LMP_TRK_INFO1_valid,
    PRF_EVENT_sel_limit] [QUE_Q_FREE_v, QUE_Q_HWM_v, QUE_Q_STAT_full, QUE_Q_STAT_flushing, QUE_Q_STAT_units,
    QUE_Q_RHEAD_len, QUE_Q_RHEAD_aborted, QUE_Q_RHEAD_valid] := by
  unfold exec execSensorEvent
  refine .run fun w => ?_
  dsimp only
  repeat' split
  all_goals simp

theorem grHoldExpire_within (s : State) (n t : Nat) : Within s (exec (.grHoldExpire n t) s) [.tb, .irq, .que,
    .prf, .hlt, .lmp, .ptn] [LMP_STATUS_stage, LMP_STATUS_gr_seq, LMP_EVENT_con_limit, LMP_CON_STATE_drives,
    PRF_EVENT_sel_limit, HLT_EVENT_near, HLT_EVENT_reached] [LMP_GR1_state, QUE_Q_FREE_v, QUE_Q_HWM_v,
    QUE_Q_STAT_full, QUE_Q_STAT_flushing, QUE_Q_STAT_units, QUE_Q_RHEAD_len, QUE_Q_RHEAD_aborted, QUE_Q_RHEAD_valid]
    := by
  unfold exec execGrHoldExpire
  refine .run fun w => ?_
  simp

theorem trackExpire_within (s : State) (n t : Nat) : Within s (exec (.trackExpire n t) s) [.tb, .irq, .prf, .lmp]
    [LMP_TRACKS_v, LMP_TRK_INFO0_lantern, LMP_TRK_INFO0_class, LMP_TRK_INFO0_speed, LMP_TRK_INFO1_toward,
    LMP_TRK_INFO1_valid, PRF_EVENT_sel_limit] [] := by
  unfold exec execTrackExpire
  refine .run fun w => ?_
  dsimp only
  repeat' split
  all_goals simp

theorem gridStateTake_within (s : State) (t : Nat) : Within s (exec (.gridStateTake t) s) [.tb, .irq, .que, .prf,
    .lmp, .rad] [PRF_EVENT_sel_limit] [QUE_Q_FREE_v, QUE_Q_HWM_v, QUE_Q_STAT_full, QUE_Q_STAT_flushing,
    QUE_Q_STAT_units, QUE_Q_RHEAD_len, QUE_Q_RHEAD_aborted, QUE_Q_RHEAD_valid] := by
  unfold exec execGridStateTake
  refine .run fun w => ?_
  dsimp only
  repeat' split
  all_goals simp

theorem orderRecord_within (s : State) (t : Nat) : Within s (exec (.orderRecord t) s) [.tb, .irq, .que, .prf,
    .lmp, .rad] [RAD_EVENT_order_late, PRF_EVENT_sel_limit] [QUE_Q_FREE_v, QUE_Q_HWM_v, QUE_Q_STAT_full,
    QUE_Q_STAT_flushing, QUE_Q_STAT_units, QUE_Q_RHEAD_len, QUE_Q_RHEAD_aborted, QUE_Q_RHEAD_valid] := by
  unfold exec execOrderRecord
  refine .run fun w => ?_
  dsimp only
  repeat' split
  all_goals simp

theorem wakePatternDone_within (s : State) (t : Nat) : Within s (exec (.wakePatternDone t) s) [.tb, .irq, .prf,
    .rad] [RAD_WAKE_SENT_v, PRF_EVENT_sel_limit] [] := by
  unfold exec execWakePatternDone
  refine .run fun w => ?_
  dsimp only
  repeat' split
  all_goals simp

theorem schedTimer_within (s : State) (t : Nat) : Within s (exec (.schedTimer t) s) [.tb, .irq, .prf, .rad]
    [PRF_EVENT_sel_limit] [] := by
  unfold exec execSchedTimer
  refine .run fun w => ?_
  simp

theorem storeDone_within (s : State) (flashOk : Bool) (t : Nat) : Within s (exec (.storeDone flashOk t) s) [.tb,
    .irq, .prf, .flt] [FLT_EVENT_stored, FLT_CMD_STATUS_busy, FLT_CMD_STATUS_done, FLT_CMD_STATUS_result,
    PRF_EVENT_sel_limit] [FLT_SLOT_INFO_image_id, FLT_SLOT_INFO_fw_version, FLT_SLOT_LEN_v] := by
  unfold exec execStoreDone
  refine .run fun w => ?_
  dsimp only
  repeat' split
  all_goals simp

theorem chandlerRecord_within (s : State) (t : Nat) : Within s (exec (.chandlerRecord t) s) [.tb, .irq, .que,
    .prf, .lmp, .led] [PRF_EVENT_sel_limit] [LED_STR_STAT_state, LED_STR_STAT_cause, LED_STR_STAT_retries,
    LED_STR_STAT_dac, LED_STR_LEVEL_level, LED_STR_LEVEL_v, LED_MTX_STAT_level, QUE_Q_FREE_v, QUE_Q_HWM_v,
    QUE_Q_STAT_full, QUE_Q_STAT_flushing, QUE_Q_STAT_units, QUE_Q_RHEAD_len, QUE_Q_RHEAD_aborted, QUE_Q_RHEAD_valid]
    := by
  unfold exec execChandlerRecord
  refine .run_of (fun P => MayAt P ∧ MayLedRefresh P ∧ P (part .lmp) ∧ MayQueue P) (by simp) fun P h w => ?_
  dsimp only
  split
  · split
    · simp [h]
    · simp [h]
  · simp [h]

theorem recTimeout_within (s : State) (t : Nat) : Within s (exec (.recTimeout t) s) [.tb, .irq, .prf, .led]
    [LED_EVENT_rec_timeout, PRF_EVENT_sel_limit] [LED_STR_STAT_state, LED_STR_STAT_cause, LED_STR_STAT_retries,
    LED_STR_STAT_dac, LED_STR_LEVEL_level, LED_STR_LEVEL_v, LED_MTX_STAT_level] := by
  unfold exec execRecTimeout
  refine .run fun w => ?_
  simp

theorem trimUpdate_within (s : State) (c : Nat) (edges : List Nat) (t : Nat) : Within s (exec (.trimUpdate c edges
    t) s) [.tb, .irq, .prf, .led] [LED_EVENT_trim_limit, PRF_EVENT_sel_limit] [LED_STR_STAT_state, LED_STR_STAT_cause,
    LED_STR_STAT_retries, LED_STR_STAT_dac, LED_STR_LEVEL_level, LED_STR_LEVEL_v, (LED_CSET_TRIM_factor c),
    LED_MTX_STAT_level] := by
  unfold exec execTrimUpdate
  refine .run fun w => ?_
  dsimp only
  split
  · simp
  · simp

theorem csetTempStale_within (s : State) (c t : Nat) : Within s (exec (.csetTempStale c t) s) [.tb, .irq, .prf,
    .led] [LED_EVENT_temp_stale, PRF_EVENT_sel_limit] [LED_STR_STAT_state, LED_STR_STAT_cause, LED_STR_STAT_retries,
    LED_STR_STAT_dac, LED_STR_LEVEL_level, LED_STR_LEVEL_v, (LED_CSET_TRIM_factor c), LED_MTX_STAT_level] := by
  unfold exec execCsetTempStale
  refine .run fun w => ?_
  dsimp only
  repeat' split
  all_goals simp

theorem stringFault_within (s : State) (n cause t : Nat) : Within s (exec (.stringFault n cause t) s) [.tb, .irq,
    .scr, .prf, .led] [LED_EVENT_fault, LED_EVENT_cal_done, LED_CMD_STATUS_busy, LED_CMD_STATUS_done,
    LED_CMD_STATUS_result, REC_EVENT_lost, REC_LOST_CNT_v, PRF_EVENT_sel_limit] [LED_STR_STAT_state,
    LED_STR_STAT_cause, LED_STR_STAT_retries, LED_STR_STAT_dac, LED_STR_LEVEL_level, LED_STR_LEVEL_v,
    LED_MTX_STAT_level] := by
  unfold exec execStringFault
  refine .run fun w => ?_
  dsimp only
  repeat' split
  all_goals simp

theorem retryExpire_within (s : State) (n t : Nat) : Within s (exec (.retryExpire n t) s) [.tb, .irq, .prf, .led]
    [LED_EVENT_latched, LED_STR_STAT_state n, LED_STR_STAT_cause n, LED_STR_STAT_retries n, LED_STR_STAT_dac n,
    LED_STR_LEVEL_level n, LED_STR_LEVEL_v n, PRF_EVENT_sel_limit] [] := by
  unfold exec execRetryExpire
  refine .run fun w => ?_
  simp

theorem retryCountReset_within (s : State) (n t : Nat) : Within s (exec (.retryCountReset n t) s) [.tb, .irq,
    .prf, .led] [LED_STR_STAT_state n, LED_STR_STAT_cause n, LED_STR_STAT_retries n, LED_STR_STAT_dac n,
    LED_STR_LEVEL_level n, LED_STR_LEVEL_v n, PRF_EVENT_sel_limit] [] := by
  unfold exec execRetryCountReset
  refine .run fun w => ?_
  simp

theorem softStartDone_within (s : State) (n t : Nat) : Within s (exec (.softStartDone n t) s) [.tb, .irq, .prf,
    .led] [LED_STR_STAT_state n, LED_STR_STAT_cause n, LED_STR_STAT_retries n, LED_STR_STAT_dac n, LED_STR_LEVEL_level
    n, LED_STR_LEVEL_v n, PRF_EVENT_sel_limit] [] := by
  unfold exec execSoftStartDone
  refine .run fun w => ?_
  simp

theorem calDone_within (s : State) (dark ref : List Nat) (t : Nat) : Within s (exec (.calDone dark ref t) s) [.tb,
    .irq, .prf, .led] [LED_EVENT_cal_done, LED_CMD_STATUS_busy, LED_CMD_STATUS_done, LED_CMD_STATUS_result,
    PRF_EVENT_sel_limit] [LED_STR_STAT_state, LED_STR_STAT_cause, LED_STR_STAT_retries, LED_STR_STAT_dac,
    LED_STR_LEVEL_level, LED_STR_LEVEL_v, (LED_CSET_TRIM_factor 0), (LED_CSET_REF_f_ref 0), (LED_CSET_REF_f_dark 0),
    LED_MTX_STAT_level] := by
  unfold exec execCalDone
  refine .run_of (fun P => MayAt P ∧ MayCalEnd P ∧ MayLedRefresh P ∧ ∀ c p, P (fld (LED_CSET_TRIM_factor c p)) ∧
    P (fld (LED_CSET_REF_f_ref c p)) ∧ P (fld (LED_CSET_REF_f_dark c p))) ?_ fun P h w => ?_
  · refine ⟨by simp, by simp, by simp, fun c p => ?_⟩
    obtain ⟨ht, hr, hd⟩ := cset_fields c p
    rw [← ht, ← hr, ← hd]
    simp
  · dsimp only
    split
    · simp [h]
    · split
      · simp [h]
      · simp [h]

theorem shiftDone_within (s : State) (p t : Nat) : Within s (exec (.shiftDone p t) s) [.tb, .irq, .prf, .led]
    [LED_MTX_STAT_preloaded p, LED_MTX_STAT_shifting p, LED_MTX_STAT_front p, LED_MTX_SWAPS_v p, PRF_EVENT_sel_limit]
    [] := by
  unfold exec execShiftDone
  refine .run fun w => ?_
  dsimp only
  repeat' split
  all_goals simp

theorem frameSyncEdge_within (s : State) (p t : Nat) : Within s (exec (.frameSyncEdge p t) s) [.tb, .irq, .prf,
    .led] [LED_EVENT_late_swap, LED_EVENT_swap_empty, LED_MTX_STAT_preloaded p, LED_MTX_STAT_front p, LED_MTX_SWAPS_v
    p, PRF_EVENT_sel_limit] [] := by
  unfold exec execFrameSyncEdge
  refine .run fun w => ?_
  simp

theorem assayerRecord_within (s : State) (t : Nat) : Within s (exec (.assayerRecord t) s) [.tb, .irq, .que, .scr,
    .prf, .smp, .mtr] [MTR_STATUS_running, MTR_EVENT_gap, MTR_EVENT_pulse_backlog, MTR_GAP_COUNT_v, REC_EVENT_lost,
    REC_LOST_CNT_v, PRF_EVENT_sel_limit] [MTR_FDR_P_v, MTR_FDR_STAT_cfg_err, MTR_FDR_STAT_clipped, MTR_FDR_STAT_pow2,
    MTR_FDR_STAT_gap, MTR_POUT_OWED_v, QUE_Q_FREE_v, QUE_Q_HWM_v, QUE_Q_STAT_full, QUE_Q_STAT_flushing,
    QUE_Q_STAT_units, QUE_Q_RHEAD_len, QUE_Q_RHEAD_aborted, QUE_Q_RHEAD_valid] := by
  unfold exec execAssayerRecord
  refine .run_of (fun P => MayAt P ∧ MayAssayerRecord P ∧ P (part .smp) ∧ MayQueue P) (by simp) fun P h w => ?_
  dsimp only
  repeat' split
  all_goals simp [h]

theorem pulseInEdge_within (s : State) (n t : Nat) : Within s (exec (.pulseInEdge n t) s) [.tb, .irq, .scr, .prf,
    .mtr] [MTR_EVENT_gap, MTR_EVENT_rate_err, MTR_EVENT_pulse_backlog, MTR_GAP_COUNT_v, MTR_PIN_REJ_v n,
    REC_EVENT_lost, REC_LOST_CNT_v, PRF_EVENT_sel_limit] [MTR_POUT_OWED_v] := by
  unfold exec execPulseInEdge
  refine .run fun w => ?_
  simp

theorem pulseRateSecond_within (s : State) (n t : Nat) : Within s (exec (.pulseRateSecond n t) s) [.tb, .irq,
    .scr, .prf, .mtr] [MTR_EVENT_gap, MTR_GAP_COUNT_v, REC_EVENT_lost, REC_LOST_CNT_v, PRF_EVENT_sel_limit] [] := by
  unfold exec execPulseRateSecond
  refine .run fun w => ?_
  simp

theorem poutPulseStart_within (s : State) (o t : Nat) : Within s (exec (.poutPulseStart o t) s) [.tb, .irq, .prf,
    .mtr] [MTR_POUT_OWED_v o, PRF_EVENT_sel_limit] [] := by
  unfold exec execPoutPulseStart
  refine .run fun w => ?_
  simp

theorem poutPulseEnd_within (s : State) (o t : Nat) : Within s (exec (.poutPulseEnd o t) s) [.tb, .irq, .prf,
    .mtr] [MTR_POUT_OWED_v o, PRF_EVENT_sel_limit] [] := by
  unfold exec execPoutPulseEnd
  refine .run fun w => ?_
  dsimp only
  repeat' split
  all_goals simp

theorem periodicSave_within (s : State) (t : Nat) : Within s (exec (.periodicSave t) s) [.tb, .irq, .prf, .mtr]
    [MTR_EVENT_save_done, MTR_SAVE_SEQ_v, PRF_EVENT_sel_limit] [] := by
  unfold exec execPeriodicSave
  refine .run fun w => ?_
  simp

theorem mtrTempStale_within (s : State) (src t : Nat) : Within s (exec (.mtrTempStale src t) s) [.tb, .irq, .prf]
    [MTR_EVENT_temp_stale, PRF_EVENT_sel_limit] [] := by
  unfold exec execMtrTempStale
  refine .run fun w => ?_
  simp

theorem voteWindowExpire_within (s : State) (hart t : Nat) : Within s (exec (.voteWindowExpire hart t) s) [.op,
    .tb, .irq, .que, .scr, .prf, .pat, .net, .cry, .rad, .led, .mtr, .sys, .lnv, .ptn] [PAT_STATUS_state,
    PAT_EVENT_load_discarded, LMP_CON_STATE_drives, MTR_EVENT_save_done, MTR_EVENT_gap, MTR_EVENT_pulse_backlog,
    MTR_SAVE_SEQ_v, MTR_GAP_COUNT_v, LNV_STATUS_mode, LNV_STATUS_lane_a, LNV_STATUS_lane_b, LNV_STATUS_lane_c,
    LNV_EVENT_disagree, LNV_EVENT_timeout, LNV_EVENT_fenced, LNV_LAST_lane, LNV_LAST_kind, LNV_LAST_hart,
    LNV_LAST_ADDR_LO_v, LNV_LAST_ADDR_HI_v, SYS_STATUS_state, SYS_CMD_op, SYS_START_cause, SYS_START_prev,
    REC_STATUS_tail_valid, REC_EVENT_lost, REC_LOST_CNT_v, PRF_EVENT_sel_limit, PTN_STATUS_state, PTN_STATUS_link_up,
    PTN_STATUS_net_heard] [MTR_FDR_P_v, MTR_FDR_STAT_clipped, MTR_FDR_STAT_pow2, MTR_FDR_STAT_gap, MTR_POUT_OWED_v,
    LNV_DIS_CNT_v, QUE_Q_FREE_v, QUE_Q_HWM_v, QUE_Q_STAT_full, QUE_Q_STAT_flushing, QUE_Q_STAT_units, QUE_Q_RHEAD_len,
    QUE_Q_RHEAD_aborted, QUE_Q_RHEAD_valid] := by
  unfold exec execVoteWindowExpire
  refine .run_of (fun P => MayAt P ∧ MayOutvote P) (by simp) fun P h w => ?_
  dsimp only
  repeat' split
  all_goals simp [h]

def localFaultParts : List Part := [.op, .tb, .irq, .que, .scr, .prf, .pat, .net, .cry, .rad, .led, .mtr, .sys,
  .lnv, .ptn]

def localFaultFields : List Fld := [PAT_STATUS_state, PAT_EVENT_load_discarded, LMP_CON_STATE_drives,
  MTR_EVENT_save_done, MTR_EVENT_gap, MTR_EVENT_pulse_backlog, MTR_SAVE_SEQ_v, MTR_GAP_COUNT_v, LNV_STATUS_mode,
  LNV_STATUS_lane_a, LNV_STATUS_lane_b, LNV_STATUS_lane_c, LNV_EVENT_disagree, LNV_EVENT_timeout, LNV_EVENT_fenced,
  LNV_EVENT_l2_ue, LNV_EVENT_l1_ue, LNV_EVENT_lockup, LNV_LAST_lane, LNV_LAST_kind, LNV_LAST_hart, LNV_LAST_ADDR_LO_v,
  LNV_LAST_ADDR_HI_v, SYS_STATUS_state, SYS_CMD_op, SYS_START_cause, SYS_START_prev, REC_STATUS_tail_valid,
  REC_EVENT_lost, REC_LOST_CNT_v, PRF_EVENT_sel_limit, PTN_STATUS_state, PTN_STATUS_link_up, PTN_STATUS_net_heard]

def localFaultArrays : List (Nat → Fld) := [MTR_FDR_P_v, MTR_FDR_STAT_clipped, MTR_FDR_STAT_pow2, MTR_FDR_STAT_gap,
  MTR_POUT_OWED_v, LNV_DIS_CNT_v, MEM_UE_CNT_v, QUE_Q_FREE_v, QUE_Q_HWM_v, QUE_Q_STAT_full, QUE_Q_STAT_flushing,
  QUE_Q_STAT_units, QUE_Q_RHEAD_len, QUE_Q_RHEAD_aborted, QUE_Q_RHEAD_valid]

theorem localFault_listed : MayOutvote (Listed localFaultParts localFaultFields localFaultArrays) := by
  simp [localFaultParts, localFaultFields, localFaultArrays]

theorem localFault_within (s : State) (lane hart : Nat) (cause : LocalCause) (t : Nat) : Within s (exec
    (.localFault lane hart cause t) s) localFaultParts localFaultFields localFaultArrays := by
  unfold exec execLocalFault
  refine .run_of (fun P => MayAt P ∧ MayOutvote P ∧ P (fld LNV_EVENT_l1_ue) ∧ P (fld LNV_EVENT_l2_ue) ∧
    P (fld LNV_EVENT_lockup) ∧ ∀ k, P (fld (MEM_UE_CNT_v k))) ?_ fun P h w => ?_
  · exact ⟨by simp [localFaultParts, localFaultFields], localFault_listed, by simp [localFaultFields, localFaultArrays]⟩
  · dsimp only
    split
    · simp [h]
    · refine (laneEvent_iff (by simp [h]) (fun x => ?_) _ t).mpr (by simp [h])
      cases cause
      all_goals simp [h]

theorem selftestDone_within (s : State) (pass : Bool) (t : Nat) : Within s (exec (.selftestDone pass t) s) [.tb,
    .irq, .scr, .prf] [LNV_STATUS_lane_a, LNV_STATUS_lane_b, LNV_STATUS_lane_c, LNV_EVENT_resync_fail,
    LNV_CMD_STATUS_busy, LNV_CMD_STATUS_done, LNV_CMD_STATUS_result, REC_EVENT_lost, REC_LOST_CNT_v,
    PRF_EVENT_sel_limit] [] := by
  unfold exec execSelftestDone
  refine .run fun w => ?_
  dsimp only
  repeat' split
  all_goals simp

theorem copyPassDone_within (s : State) (lines t : Nat) : Within s (exec (.copyPassDone lines t) s) [.tb, .irq,
    .prf, .lnv] [LNV_STATUS_lane_a, LNV_STATUS_lane_b, LNV_STATUS_lane_c, PRF_EVENT_sel_limit] [] := by
  unfold exec execCopyPassDone
  refine .run fun w => ?_
  dsimp only
  repeat' split
  all_goals simp

theorem resyncRestart_within (s : State) (t : Nat) : Within s (exec (.resyncRestart t) s) [.op, .tb, .irq, .que,
    .scr, .prf, .net, .cry, .ptn] [LNV_STATUS_mode, LNV_STATUS_lane_a, LNV_STATUS_lane_b, LNV_STATUS_lane_c,
    LNV_STATUS_resyncs, LNV_EVENT_resync_done, LNV_RESYNC_NS_v, LNV_PAUSE_NS_v, LNV_CMD_STATUS_busy,
    LNV_CMD_STATUS_done, LNV_CMD_STATUS_result, SYS_STATUS_state, REC_EVENT_lost, REC_LOST_CNT_v, PRF_EVENT_sel_limit,
    PTN_STATUS_state, PTN_STATUS_link_up, PTN_STATUS_net_heard] [QUE_Q_FREE_v, QUE_Q_HWM_v, QUE_Q_STAT_full,
    QUE_Q_STAT_flushing, QUE_Q_STAT_units, QUE_Q_RHEAD_len, QUE_Q_RHEAD_aborted, QUE_Q_RHEAD_valid] := by
  unfold exec execResyncRestart
  refine .run fun w => ?_
  dsimp only
  repeat' split
  all_goals simp

theorem deliveryPoint_within (s : State) (hart skew : Nat) (t : Nat) : Within s (exec (.deliveryPoint hart skew t)
    s) [.tb, .irq, .prf, .free] [LNV_SKEW_v, PRF_EVENT_sel_limit] [] := by
  unfold exec execDeliveryPoint
  refine .run fun w => ?_
  simp

theorem lnvResync_within (s : State) (lane t : Nat) : Within s (exec (.lnvResync lane t) s) [.tb, .irq, .prf,
    .lnv] [LNV_STATUS_lane_a, LNV_STATUS_lane_b, LNV_STATUS_lane_c, LNV_CMD_STATUS_busy, LNV_CMD_STATUS_done,
    LNV_CMD_STATUS_result, PRF_EVENT_sel_limit] [] := by
  unfold exec execLnvResync
  refine .runL fun w => ?_
  simp

theorem scrubPass_within (s : State) (region t : Nat) : Within s (exec (.scrubPass region t) s) [.tb, .irq, .prf,
    .fls] [MEM_EVENT_scrub_pass, PRF_EVENT_sel_limit] [] := by
  unfold exec execScrubPass
  refine .run fun w => ?_
  simp

theorem memoryError_within (s : State) (addr cls block : Nat) (bad : Bool) (t : Nat) : Within s (exec
    (.memoryError addr cls block bad t) s) [.tb, .irq, .que, .scr, .prf, .hlt, .mtr, .sys, .fls, .resp, .free]
    [MEM_EVENT_ce, MEM_EVENT_ue, MEM_EVENT_hot, MEM_ERR_ADDR_LO_v, MEM_ERR_ADDR_HI_v, MEM_ERR_INFO_region,
    MEM_ERR_INFO_uncorrectable, MEM_ERR_INFO_hot, MEM_ERR_INFO_cls, MEM_ERR_INFO_block, REC_EVENT_lost,
    REC_LOST_CNT_v, PRF_EVENT_sel_limit, HLT_EVENT_history_lost] [MEM_CE_CNT_v, MEM_UE_CNT_v, QUE_Q_FREE_v,
    QUE_Q_HWM_v, QUE_Q_STAT_full, QUE_Q_STAT_flushing, QUE_Q_STAT_units, QUE_Q_RHEAD_len, QUE_Q_RHEAD_aborted,
    QUE_Q_RHEAD_valid] := by
  unfold exec execMemoryError
  refine .run fun w => ?_
  simp

theorem moderationExpire_within (s : State) (tgt t : Nat) : Within s (exec (.moderationExpire tgt t) s) [.tb,
    .irq, .prf] [IRQ_TGT_TOP_group tgt, IRQ_TGT_TOP_none tgt, IRQ_TGT_TOP_asserted tgt, PRF_EVENT_sel_limit] [] := by
  unfold exec execModerationExpire
  refine .run fun w => ?_
  simp

theorem shadowTimeout_within (s : State) (t : Nat) : Within s (exec (.shadowTimeout t) s) [.tb, .irq, .prf, .rtc]
    [RTC_EVENT_shadow_timeout, PRF_EVENT_sel_limit] [] := by
  unfold exec execShadowTimeout
  refine .run fun w => ?_
  simp

theorem oscStopped_within (s : State) (t : Nat) : Within s (exec (.oscStopped t) s) [.tb, .irq, .prf, .rtc]
    [RTC_EVENT_osc_stopped, PRF_EVENT_sel_limit] [] := by
  unfold exec execOscStopped
  refine .run fun w => ?_
  simp

theorem grantExpire_within (s : State) (t : Nat) : Within s (exec (.grantExpire t) s) [.tb, .irq, .scr, .prf,
    .key] [KEY_STATUS_lc_state, KEY_STATUS_root_ok, KEY_STATUS_tamper_latched, KEY_STATUS_grant, KEY_STATUS_used,
    KEY_EVENT_grant_expired, REC_EVENT_lost, REC_LOST_CNT_v, PRF_EVENT_sel_limit] [] := by
  unfold exec execGrantExpire
  refine .run fun w => ?_
  dsimp only
  repeat' split
  all_goals simp

theorem scrivenerRecord_within (s : State) (t : Nat) : Within s (exec (.scrivenerRecord t) s) [.tb, .irq, .scr,
    .prf, .ptn] [REC_STATUS_held, REC_EVENT_suppressed, REC_EVENT_seq_wrap, REC_LAST_SEQ_v, REC_SUP_CNT_v,
    PRF_EVENT_sel_limit] [] := by
  unfold exec execScrivenerRecord
  refine .run fun w => ?_
  simp

theorem lostRecordEmit_within (s : State) (t : Nat) : Within s (exec (.lostRecordEmit t) s) [.tb, .irq, .scr,
    .prf, .ptn] [REC_STATUS_held, REC_EVENT_seq_wrap, REC_LAST_SEQ_v, PRF_EVENT_sel_limit] [] := by
  unfold exec execLostRecordEmit
  refine .run fun w => ?_
  simp

theorem tokenGain_within (s : State) (code t : Nat) : Within s (exec (.tokenGain code t) s) [.tb, .irq, .scr,
    .prf, .ptn] [REC_STATUS_held, REC_EVENT_seq_wrap, REC_LAST_SEQ_v, PRF_EVENT_sel_limit] [] := by
  unfold exec execTokenGain
  refine .run fun w => ?_
  simp

theorem freeze_within (s : State) (isOn : Bool) (t : Nat) : Within s (exec (.freeze isOn t) s) [.tb, .irq, .prf]
    [PRF_CTRL_freeze, PRF_EVENT_sel_limit, PRF_FROZEN_NS_v] [] := by
  unfold exec execFreeze
  refine .runL fun w => ?_
  dsimp only
  repeat' split
  all_goals simp

theorem dailySample_within (s : State) (t : Nat) : Within s (exec (.dailySample t) s) [.tb, .irq, .prf, .hlt]
    [PRF_EVENT_sel_limit, HLT_EVENT_near, HLT_EVENT_reached, HLT_IND_U_u, HLT_IND_U_days, HLT_IND_EOL_day,
    HLT_IND_EOL_month, HLT_IND_EOL_year, HLT_IND_EOL_state, HLT_IND_RATED_v] [] := by
  unfold exec execDailySample
  refine .run fun w => ?_
  simp

theorem helloSend_within (s : State) (t : Nat) : Within s (exec (.helloSend t) s) [.tb, .irq, .que, .prf, .net,
    .cry, .ptn] [PRF_EVENT_sel_limit] [QUE_Q_FREE_v, QUE_Q_HWM_v, QUE_Q_STAT_full, QUE_Q_STAT_flushing,
    QUE_Q_STAT_units, QUE_Q_RHEAD_len, QUE_Q_RHEAD_aborted, QUE_Q_RHEAD_valid] := by
  unfold exec execHelloSend
  refine .run fun w => ?_
  simp

theorem mirrorSend_within (s : State) (t : Nat) : Within s (exec (.mirrorSend t) s) [.tb, .irq, .que, .prf, .net,
    .cry, .ptn] [PRF_EVENT_sel_limit, PTN_MSEQ_v] [QUE_Q_FREE_v, QUE_Q_HWM_v, QUE_Q_STAT_full, QUE_Q_STAT_flushing,
    QUE_Q_STAT_units, QUE_Q_RHEAD_len, QUE_Q_RHEAD_aborted, QUE_Q_RHEAD_valid] := by
  unfold exec execMirrorSend
  refine .run fun w => ?_
  simp

theorem maccMirror_within (s : State) (t : Nat) : Within s (exec (.maccMirror t) s) [.tb, .irq, .que, .prf, .net,
    .cry, .ptn] [PRF_EVENT_sel_limit, PTN_MSEQ_v] [QUE_Q_FREE_v, QUE_Q_HWM_v, QUE_Q_STAT_full, QUE_Q_STAT_flushing,
    QUE_Q_STAT_units, QUE_Q_RHEAD_len, QUE_Q_RHEAD_aborted, QUE_Q_RHEAD_valid] := by
  unfold exec execMaccMirror
  refine .run fun w => ?_
  simp

theorem mirrorAckRx_within (s : State) (m : BrdMsg) : Within s (exec (.mirrorAckRx m) s) [.tb, .irq, .que, .prf,
    .ptn] [CRY_EVENT_auth_fail, CRY_EVENT_replay, CRY_BRD_DROP_CNT_v, PRF_EVENT_sel_limit, PTN_ACK_v] [QUE_Q_FREE_v,
    QUE_Q_HWM_v, QUE_Q_STAT_full, QUE_Q_STAT_flushing, QUE_Q_STAT_units, QUE_Q_RHEAD_len, QUE_Q_RHEAD_aborted,
    QUE_Q_RHEAD_valid] := by
  unfold exec execMirrorAckRx
  refine .run fun w => ?_
  simp

theorem syncReqRx_within (s : State) (m : BrdMsg) : Within s (exec (.syncReqRx m) s) [.tb, .irq, .que, .prf, .ptn]
    [CRY_EVENT_auth_fail, CRY_EVENT_replay, CRY_BRD_DROP_CNT_v, PRF_EVENT_sel_limit] [QUE_Q_FREE_v, QUE_Q_HWM_v,
    QUE_Q_STAT_full, QUE_Q_STAT_flushing, QUE_Q_STAT_units, QUE_Q_RHEAD_len, QUE_Q_RHEAD_aborted, QUE_Q_RHEAD_valid]
    := by
  unfold exec execSyncReqRx
  refine .run fun w => ?_
  simp

theorem fullCopyDone_within (s : State) (t : Nat) : Within s (exec (.fullCopyDone t) s) [.tb, .irq, .que, .prf,
    .net, .cry, .ptn] [PRF_EVENT_sel_limit, PTN_EVENT_sync_done] [QUE_Q_FREE_v, QUE_Q_HWM_v, QUE_Q_STAT_full,
    QUE_Q_STAT_flushing, QUE_Q_STAT_units, QUE_Q_RHEAD_len, QUE_Q_RHEAD_aborted, QUE_Q_RHEAD_valid] := by
  unfold exec execFullCopyDone
  refine .run fun w => ?_
  simp

theorem swapRx_within (s : State) (m : BrdMsg) : Within s (exec (.swapRx m) s) [.tb, .irq, .que, .prf, .ptn]
    [CRY_EVENT_auth_fail, CRY_EVENT_replay, CRY_BRD_DROP_CNT_v, PRF_EVENT_sel_limit] [QUE_Q_FREE_v, QUE_Q_HWM_v,
    QUE_Q_STAT_full, QUE_Q_STAT_flushing, QUE_Q_STAT_units, QUE_Q_RHEAD_len, QUE_Q_RHEAD_aborted, QUE_Q_RHEAD_valid]
    := by
  unfold exec execSwapRx
  refine .run fun w => ?_
  simp

theorem oscillatorRestart_within (s : State) (t : Nat) : Within s (exec (.oscillatorRestart t) s) [.tb, .irq,
    .prf, .rtc] [PRF_EVENT_sel_limit] [] := by
  unfold exec execOscillatorRestart
  refine .run fun w => ?_
  simp

theorem blobSyncDone_within (s : State) (t : Nat) : Within s (exec (.blobSyncDone t) s) [.tb, .irq, .prf, .ptn]
    [PRF_EVENT_sel_limit, PTN_CMD_STATUS_busy, PTN_CMD_STATUS_done, PTN_CMD_STATUS_result] [] := by
  unfold exec execBlobSyncDone
  refine .run fun w => ?_
  simp

theorem glideUpdate_within (s : State) (t : Nat) : Within s (exec (.glideUpdate t) s) [.tb, .irq, .prf, .led]
    [PRF_EVENT_sel_limit] [LED_STR_STAT_state, LED_STR_STAT_cause, LED_STR_STAT_retries, LED_STR_STAT_dac,
    LED_STR_LEVEL_level, LED_STR_LEVEL_v, LED_MTX_STAT_level] := by
  unfold exec execGlideUpdate
  refine .run fun w => ?_
  simp

theorem stringRunSecond_within (s : State) (n t : Nat) : Within s (exec (.stringRunSecond n t) s) [.tb, .irq,
    .prf, .hlt] [LED_STR_ONTIME_v n, PRF_EVENT_sel_limit, HLT_EVENT_near, HLT_EVENT_reached] [] := by
  unfold exec execStringRunSecond
  refine .run fun w => ?_
  simp

/-- Settles O57: each command through what its work may change. -/
theorem framesOfTimedCommands : Obligations.FramesOfTimedCommands :=
   ⟨switchFrameRx_within, pfailNFall_within, watchdogKick_within, bootLoopClear_within, overvoltageLockout_within,
   holdupChargerStop_within, saveSettings_within, stageFwDone_within, autoSave_within, verifyDone_within, arm_within,
   commit_within, ptpMessageTx_within, announceTimeout_within, ppsLost_within, ref10mValid_within, ref10mLost_within,
   hold_within, release_within, slewDone_within, tbsCtrlWrite_within, leapSecond_within, leapOccurredExpire_within,
   triggerArm_within, epochTick_within, ppsOutRise_within, ppsOutFall_within, captureEdge_within, capPop_within,
   tcpAckTimer_within, latencySample_within, notice_within, tunerReport_within, crierRecord_within,
   alarmHeartbeat_within, gooseRetransmit_within, alarmFanRx_within, abortRx_within, confirmRx_within,
   livenessRx_within, livenessSend_within, gopAbort_within, confirmDeadline_within, adcFrame_within, svFrame_within,
   svProcess_within, phasorReport_within, fieldCycleDone_within, gridResponseCmd_within, contactorDeferred_within,
   levelOrder_within, orderLocalApply_within, astroCompute_within, sensorEvent_within, grHoldExpire_within,
   trackExpire_within, gridStateTake_within, orderRecord_within, wakePatternDone_within, schedTimer_within,
   storeDone_within, chandlerRecord_within, recTimeout_within, trimUpdate_within, csetTempStale_within,
   stringFault_within, retryExpire_within, retryCountReset_within, softStartDone_within, calDone_within,
   shiftDone_within, frameSyncEdge_within, assayerRecord_within, pulseInEdge_within, pulseRateSecond_within,
   poutPulseStart_within, poutPulseEnd_within, periodicSave_within, mtrTempStale_within, voteWindowExpire_within,
   localFault_within, selftestDone_within, copyPassDone_within, resyncRestart_within, deliveryPoint_within,
   lnvResync_within, scrubPass_within, memoryError_within, moderationExpire_within, shadowTimeout_within,
   oscStopped_within, grantExpire_within, scrivenerRecord_within, lostRecordEmit_within, tokenGain_within,
   freeze_within, dailySample_within, helloSend_within, mirrorSend_within, maccMirror_within, mirrorAckRx_within,
   syncReqRx_within, fullCopyDone_within, swapRx_within, oscillatorRestart_within, blobSyncDone_within,
   glideUpdate_within, stringRunSecond_within⟩

end Timed
end Sys2Proof.Machine

/-! # A write of PTN_CFG with a long heartbeat

PTN_CFG cuts `miss` so that (miss + 1) × hb_ms stays within 495 ms (spec 20). O11 states the range 2 to 15 alone, so
that a written `miss` within the range would stand whatever the heartbeat is. -/

namespace Sys2Proof.Machine

section PartnerMiss

/-- The module right after reset, but SERVING: its lanes run. -/
def servingFromReset : State := { State.reset with dev := { Dev.init with op := .serving } }

/-- A PTN_CFG word: hb_ms 255, which counts as 100 ms, and miss 15. -/
def longHeartbeat : W32 := 0x0000FFF0

/-- The field `miss` after that word is written. -/
def missAfterLongHeartbeat : Option Nat :=
  match exec (.registerWrite true PTN_CFG_miss.addr longHeartbeat 0) servingFromReset with
  | .next u => some (u.reg PTN_CFG_miss)
  | _ => none

theorem servingFromReset_lanes : servingFromReset.lanes := by decide +kernel

/-- At 100 ms a heartbeat, 495 ms hold 3 misses and the one after: 15 is cut to 3. -/
theorem missAfterLongHeartbeat_eq : missAfterLongHeartbeat = some 3 := by decide +kernel

/-- The range alone would keep the 15 that is written. -/
theorem longHeartbeat_miss_in_range : max 2 (min 15 (fldOf longHeartbeat 12 4)) = 15 := by decide

/-- Refutes O11: its second clause gives PTN_CFG.miss as the written value brought into 2 to 15, where the model also cuts
it to 495 / hb_ms - 1 (spec 20). Writing 0x0000FFF0 (hb_ms 255, miss 15) leaves miss 3, not 15. -/
theorem not_registerBusAndSwitch : ¬ Obligations.RegisterBusAndSwitch := by
  unfold Obligations.RegisterBusAndSwitch
  rintro ⟨-, hcfg, -⟩
  obtain ⟨u, hu, -, -, hptn⟩ :=
    hcfg servingFromReset true PTN_CFG_miss.addr longHeartbeat 0 ⟨servingFromReset_lanes, .inr rfl⟩
  obtain ⟨-, -, hclaimed⟩ := hptn rfl
  have hmodel : missAfterLongHeartbeat = some (u.reg PTN_CFG_miss) := by simp only [missAfterLongHeartbeat, hu]
  rw [missAfterLongHeartbeat_eq, hclaimed, longHeartbeat_miss_in_range] at hmodel
  exact absurd hmodel (by decide)

end PartnerMiss

end Sys2Proof.Machine

/-! # Reading the state a command leaves

Rules for what a state shows after a run: a register field after the operations that set it and the ones that leave it
alone, the parts of the devices, and the counter carried forward. -/

namespace Sys2Proof.Machine

section Answers

open SameOff Spot

/-! ## The state a run leaves -/

/-- The state with the devices and the stores of a working state. -/
def State.left (s : State) (w : W) : State :=
  { s with dev := w.toDev, mem := (if w.zeroed then s.mem.clearRam else s.mem).wrAll w.out }

theorem run_left (name : String) (f : W → W) (s : State) : run true name f s = .next (s.left (f s.w)) := rfl

theorem runL_left {s : State} (h : s.lanes) (name : String) (f : W → W) : runL true name f s = .next (s.left (f s.w)) :=
  runL_running h

@[simp] theorem State.left_dev (s : State) (w : W) : (s.left w).dev = w.toDev := rfl
@[simp] theorem State.left_reg (s : State) (w : W) (f : Fld) : (s.left w).reg f = w.get f := rfl
@[simp] theorem State.left_bitOf (s : State) (w : W) (f : Fld) : (s.left w).bitOf f = w.bit f := rfl
@[simp] theorem State.left_word (s : State) (w : W) (a : Nat) : (s.left w).word a = w.regs.rd a := rfl

theorem State.at_up (s : State) (t : Nat) : s.w.tb.up + (t - s.w.ns) = s.upAt t := rfl

@[simp] theorem State.w_toDev (s : State) : s.w.toDev = s.dev := rfl
@[simp] theorem State.w_mem (s : State) : s.w.mem = s.mem := rfl
@[simp] theorem State.w_out (s : State) : s.w.out = [] := rfl
@[simp] theorem State.w_zeroed (s : State) : s.w.zeroed = false := rfl
@[simp] theorem State.w_get (s : State) (f : Fld) : s.w.get f = s.reg f := rfl
@[simp] theorem State.w_bit (s : State) (f : Fld) : s.w.bit f = s.bitOf f := rfl

/-! ## Bytes stored -/

/-- Outside the bytes that a command stores last, memory is as its earlier stores leave it. -/
theorem rd_wrBytes_outside {w : W} {m : Mem} {a x : Nat} {b : List Byte} (h : x < a ∨ a + b.length ≤ x) :
    (m.wrAll (w.wrBytes a b).out).rd x = (m.wrAll w.out).rd x := by
  induction b generalizing w a with
  | nil => rfl
  | cons y t ih =>
    rw [List.length_cons] at h
    exact (ih (w := w.wr8 a y) (by omega)).trans (Mem.rd_wr_other y (by omega))

/-- The bytes that a command stores last read as they were stored. -/
theorem rd_wrBytes {w : W} {m : Mem} {a i : Nat} {b : List Byte} (h : i < b.length) :
    (m.wrAll (w.wrBytes a b).out).rd (a + i) = b[i] := by
  induction b generalizing w a i with
  | nil => exact absurd h (Nat.not_lt_zero i)
  | cons y t ih =>
    cases i with
    | zero => exact (rd_wrBytes_outside (w := w.wr8 a y) (.inl (Nat.lt_succ_self a))).trans (Mem.rd_wr_same _ a y)
    | succ i =>
      rw [show a + (i + 1) = a + 1 + i by omega]
      exact ih (w := w.wr8 a y) (Nat.lt_of_succ_lt_succ h)

theorem map_rd_wrBytes (w : W) (m : Mem) (a : Nat) (b : List Byte) :
    (upTo b.length).map (fun i => (m.wrAll (w.wrBytes a b).out).rd (a + i)) = b := by
  refine List.ext_getElem (by simp) fun i h _ => ?_
  simpa using rd_wrBytes (by simpa using h)

/-! ## Fields -/

/-- Two fields share no bit. -/
@[simp] abbrev Fld.Apart (f g : Fld) : Prop := f.addr ≠ g.addr ∨ f.lo + f.width ≤ g.lo ∨ g.lo + g.width ≤ f.lo

namespace W

variable {w v : W} {f g : Fld}

theorem bit_eq_true : w.bit f = true ↔ w.get f ≠ 0 := bne_iff_ne
theorem bit_eq_false : w.bit f = false ↔ w.get f = 0 := by
  rw [← Bool.not_eq_true, bit_eq_true, Decidable.not_not]

/-- A field set reads as the low bits it was given. -/
theorem get_set_same (h : f.lo + f.width ≤ 32) (n : Nat) : (w.set f n).get f = n % 2 ^ f.width := Regs.fld_put_same h

/-- A field keeps its value when one that shares no bit with it is set. -/
theorem get_set_other (h : f.Apart g) (n : Nat) : (w.set f n).get g = w.get g := Regs.fld_put_other h

theorem bit_set_other (h : f.Apart g) (n : Nat) : (w.set f n).bit g = w.bit g := by
  simp only [bit, Regs.bit, set_regs, Regs.fld_put_other h]

theorem bit_setB_same (h : f.lo + 1 ≤ 32) (hw : f.width = 1) (b : Bool) : (w.setB f b).bit f = b := by
  have hget : (w.setB f b).get f = (if b then 1 else 0) % 2 := by
    unfold W.setB
    rw [get_set_same (hw ▸ h), hw]
    rfl
  cases b with
  | false => exact bit_eq_false.mpr hget
  | true => exact bit_eq_true.mpr (by rw [hget]; decide)

/-- An event leaves its bit set. -/
theorem bit_ev_same (h : f.lo + 1 ≤ 32) (hw : f.width = 1) (n : Nat) : (w.ev f n).bit f = true := by
  unfold W.ev
  split
  next hb => exact hb
  next => exact bit_setB_same h hw true

end W

/-! ## What a footprint spares -/

/-- Everything but these parts of the devices and the bits of these fields. -/
def Sparing (ps : List Part) (fs : List Fld) : Spot → Prop
  | part p => p ∉ ps
  | fld f => ∀ g ∈ fs, f.Apart g
  | byte _ => True
  | zero => True

section
variable {ps : List Part} {fs : List Fld} {w v : W}

@[simp] theorem sparing_part {p : Part} : Sparing ps fs (part p) ↔ p ∉ ps := Iff.rfl
@[simp] theorem sparing_fld {f : Fld} : Sparing ps fs (fld f) ↔ ∀ g ∈ fs, f.Apart g := Iff.rfl
@[simp] theorem sparing_byte {a : Nat} : Sparing ps fs (byte a) ↔ True := Iff.rfl
@[simp] theorem sparing_zero : Sparing ps fs (zero) ↔ True := Iff.rfl

/-- A field that the footprint spares keeps its value. -/
theorem SameOff.get_eq (h : SameOff (Sparing ps fs) w v) {f : Fld} (hf : f ∈ fs) : v.get f = w.get f := by
  show fldOf _ _ _ = fldOf _ _ _
  unfold fldOf
  congr 1
  apply BitVec.eq_of_getLsbD_eq
  intro i hi
  simp only [BitVec.getLsbD_extractLsb', hi, decide_true, Bool.true_and]
  refine h.bits _ _ fun g hg hc => ?_
  have := hg f hf
  unfold Fld.covers at hc
  unfold Fld.Apart at this
  omega

theorem SameOff.bit_eq (h : SameOff (Sparing ps fs) w v) {f : Fld} (hf : f ∈ fs) : v.bit f = w.bit f := by
  have := h.get_eq hf
  unfold W.bit Regs.bit
  unfold W.get at this
  rw [this]

/-- A register spared as a whole keeps its word. -/
theorem SameOff.rd_eq (h : SameOff (Sparing ps fs) w v) {f : Fld} (hf : f.whole ∈ fs) : v.regs.rd f.addr = w.regs.rd f.addr := by
  apply BitVec.eq_of_getLsbD_eq
  intro i hi
  refine h.bits _ _ fun g hg hc => ?_
  have := hg f.whole hf
  unfold Fld.covers at hc
  unfold Fld.Apart Fld.whole at this
  dsimp only at this
  omega

end

/-! ## The counter carried forward -/

namespace W

variable (w : W) (t : Nat)

theorem at_sameOff {fs : List Fld} (hf : ∀ g ∈ fs, PRF_EVENT_sel_limit.Apart g) {ps : List Part}
    (hp : .tb ∉ ps ∧ .irq ∉ ps ∧ .prf ∉ ps) : SameOff (Sparing ps fs) w (w.at_ t) :=
  (advance_iff ⟨hp.1, hp.2.1, hp.2.2, hf⟩ t).mpr (SameOff.refl w)

/-- The parts that the counter carried forward leaves alone. -/
theorem at_part {p : Part} (h : p ≠ .tb ∧ p ≠ .irq ∧ p ≠ .prf) : p.same w.toDev (w.at_ t).toDev :=
  (w.at_sameOff t (fs := []) (ps := [p]) (by simp) (by simp [h, eq_comm])).parts p (by simp)

@[simp] theorem at_op : (w.at_ t).op = w.op := w.at_part t (p := .op) (by decide)
@[simp] theorem at_pat : (w.at_ t).pat = w.pat := w.at_part t (p := .pat) (by decide)
@[simp] theorem at_sys : (w.at_ t).sys = w.sys := w.at_part t (p := .sys) (by decide)
@[simp] theorem at_rtc : (w.at_ t).rtc = w.rtc := w.at_part t (p := .rtc) (by decide)
@[simp] theorem at_ptn : (w.at_ t).ptn = w.ptn := w.at_part t (p := .ptn) (by decide)

theorem at_keeps : w.Keeps (w.at_ t) [.tb, .irq, .prf] [PRF_EVENT_sel_limit] [] :=
  .at_ t (by decide) (by decide) (by decide) List.mem_cons_self

@[simp] theorem at_out : (w.at_ t).out = w.out := (w.at_keeps t).out
@[simp] theorem at_zeroed : (w.at_ t).zeroed = w.zeroed := (w.at_keeps t).zeroed
@[simp] theorem at_mem : (w.at_ t).mem = w.mem := (w.at_keeps t).mem

theorem at_get {f : Fld} (h : PRF_EVENT_sel_limit.Apart f) : (w.at_ t).get f = w.get f :=
  (w.at_sameOff t (fs := [f]) (ps := []) (by simpa using h) (by simp)).get_eq (by simp)

theorem at_bit {f : Fld} (h : PRF_EVENT_sel_limit.Apart f) : (w.at_ t).bit f = w.bit f :=
  (w.at_sameOff t (fs := [f]) (ps := []) (by simpa using h) (by simp)).bit_eq (by simp)

@[simp] theorem at_mainOn : (w.at_ t).mainOn = w.mainOn := by simp [W.mainOn]
@[simp] theorem at_lanesRun : (w.at_ t).lanesRun = w.lanesRun := by simp [W.lanesRun]
@[simp] theorem at_serves : (w.at_ t).serves = w.serves := by simp [W.serves]

@[simp] theorem at_up : (w.at_ t).tb.up = w.tb.up + (t - w.ns) := by
  unfold W.at_
  split
  · dsimp only
    split
    · rw [(cycles_now_up _ _).2]
    · rfl
  · omega

end W

end Answers

end Sys2Proof.Machine

/-! # The loader's trial -/

namespace Sys2Proof.Machine

section Trial

open SameOff Spot

variable {w v : W} {P : Spot → Prop} {p : Pattern}

/-! ## Settings saves -/

/-- At COMMIT a settings save begins or is asked for. -/
theorem saveCommit_saving (w : W) : w.saveCommit.sys.saving.isSome = true := by
  unfold W.saveCommit
  dsimp only
  split
  next h => exact h
  next => rfl

theorem saveReleased_sameOff (h : MayDirty P ∧ P (fld SYS_CMD_STATUS_busy)) (w : W) : SameOff P w w.saveReleased := by
  unfold W.saveReleased
  simp [h]

/-! ## A pattern put in force -/

/-- A pattern put in force becomes the active one, and the loader's state is otherwise as it was. -/
theorem applyPattern_pat (w : W) (p : Pattern) : (w.applyPattern p).pat = { w.pat with active := p } := by
  have hclose : (w.closeChanged p).flushCaches.pat = w.pat :=
    SameOff.parts (P := Sparing [.pat] []) (p := .pat) (by simp) (by simp)
  have hrest : SameOff (Sparing [.pat] []) ((w.closeChanged p).flushCaches.setPat
      { (w.closeChanged p).flushCaches.pat with active := p }) (w.applyPattern p) := by
    unfold W.applyPattern
    simp
  rw [hclose] at hrest
  exact hrest.parts .pat (by simp)

/-- An event of the loader leaves its bit set. -/
theorem bit_patEv_same {f : Fld} (hlo : f.lo + 1 ≤ 32) (hw : f.width = 1) (hr : MayRecord (Sparing [] [f])) :
    (w.patEv f).bit f = true := by
  have hrec : SameOff (Sparing [] [f]) (w.ev f 0) (w.patEv f) := by
    unfold W.patEv
    exact (record_iff hr _ _ _ _ _ _).mpr (refl _)
  rw [hrec.bit_eq List.mem_cons_self, W.bit_ev_same hlo hw]

/-- The loader is IDLE again with a former pattern active, and says so. -/
def Reverted (p : Pattern) (w : W) : Prop :=
  w.get PAT_STATUS_state = 0 ∧ w.pat.active = p ∧ w.pat.inactive = none ∧ w.bit PAT_EVENT_reverted = true

theorem patRevert_reverted (h : w.pat.inactive = some p) : Reverted p w.patRevert := by
  have heq : w.patRevert = (((w.applyPattern p).setPat { (w.applyPattern p).pat with inactive := none }).setPatState 0).patEv
      PAT_EVENT_reverted := by simp only [W.patRevert, h]
  have hev : ∀ x : W, SameOff (Sparing [.pat] [PAT_STATUS_state]) x (x.patEv PAT_EVENT_reverted) := fun x => by simp
  rw [heq]
  refine ⟨?_, ?_, ?_, bit_patEv_same (by decide) rfl (by simp)⟩
  · rw [(hev _).get_eq List.mem_cons_self]
    exact W.get_set_same (by decide) 0
  · rw [show _ = _ from (hev _).parts .pat (by simp)]
    simp [W.setPatState, applyPattern_pat]
  · rw [show _ = _ from (hev _).parts .pat (by simp)]
    simp [W.setPatState]

/-- What leaves the loader alone leaves it reverted. -/
theorem Reverted.mono (h : Reverted p w)
    (k : SameOff (Sparing [.pat] [PAT_STATUS_state, PAT_EVENT_reverted]) w v) : Reverted p v := by
  obtain ⟨hst, hact, hin, hev⟩ := h
  have hpat : v.pat = w.pat := k.parts .pat (by simp)
  exact ⟨(k.get_eq (by simp)).trans hst, hpat ▸ hact, hpat ▸ hin, (k.bit_eq (by simp)).trans hev⟩

/-! ## The commands -/

theorem at_patState (s : State) (t : Nat) : (s.w.at_ t).patState = s.reg PAT_STATUS_state := W.at_get _ t (by decide)

/-- A command of the loader refused with BUSY. -/
theorem patErr_refuses (s : State) (t : Nat) :
    (((s.w.at_ t).patErr 0x18).get PAT_STATUS_state = s.reg PAT_STATUS_state) ∧ ((s.w.at_ t).patErr 0x18).pat = s.dev.pat ∧
      ((s.w.at_ t).patErr 0x18).get PAT_STATUS_error = 0x18 := by
  refine ⟨?_, ?_, W.get_set_same (by decide) _⟩
  · rw [W.patErr, W.get_set_other (by decide), W.at_get _ t (by decide), State.w_get]
  · simp [W.patErr]

theorem commit_accepted (s : State) (t : Nat) (h : s.lanes ∧ s.reg PAT_STATUS_state = 5 ∧ s.dev.pat.committing = false) :
    ∃ u, exec (.commit t) s = .next u ∧ u.dev.pat.committing = true ∧ u.reg PAT_STATUS_error = 0 ∧
      u.dev.sys.saving.isSome = true ∧ u.reg PAT_STATUS_state = 5 := by
  obtain ⟨hl, hst, hc⟩ := h
  unfold exec execCommit
  refine ⟨_, runL_left hl _ _, ?_⟩
  have hif : ¬((s.w.at_ t).patState ≠ 5 ∨ (s.w.at_ t).pat.committing = true) := by simp [at_patState, hst, hc]
  have hsave : ∀ x : W, SameOff (Sparing [.pat] [PAT_STATUS_error, PAT_STATUS_state]) x x.saveCommit := fun x => by simp
  simp only [hif, if_false, State.left_dev, State.left_reg]
  refine ⟨?_, ?_, saveCommit_saving _, ?_⟩
  · rw [show _ = _ from (hsave _).parts .pat (by simp)]
    rfl
  · rw [(hsave _).get_eq (by simp)]
    exact W.get_set_same (by decide) 0
  · rw [(hsave _).get_eq (by simp), W.patErr, W.get_set_other (by decide)]
    exact (at_patState s t).trans hst

theorem commit_refused (s : State) (t : Nat) (h : s.lanes ∧ (s.reg PAT_STATUS_state ≠ 5 ∨ s.dev.pat.committing = true)) :
    ∃ u, exec (.commit t) s = .next u ∧ u.reg PAT_STATUS_state = s.reg PAT_STATUS_state ∧ u.dev.pat = s.dev.pat ∧
      u.reg PAT_STATUS_error = 0x18 := by
  obtain ⟨hl, hno⟩ := h
  unfold exec execCommit
  refine ⟨_, runL_left hl _ _, ?_⟩
  have hif : (s.w.at_ t).patState ≠ 5 ∨ (s.w.at_ t).pat.committing = true := by simpa [at_patState] using hno
  simp only [hif, if_true, State.left_dev, State.left_reg]
  exact patErr_refuses s t

theorem revert_accepted (s : State) (t : Nat) (p : Pattern) (h : s.lanes ∧ s.reg PAT_STATUS_state = 5 ∧
    s.dev.pat.committing = false ∧ s.dev.pat.inactive = some p) :
    ∃ u, exec (.revert t) s = .next u ∧ u.reg PAT_STATUS_state = 0 ∧ u.dev.pat.active = p ∧ u.dev.pat.inactive = none ∧
      u.bitOf PAT_EVENT_reverted = true ∧ u.reg PAT_STATUS_error = 0 := by
  obtain ⟨hl, hst, hc, hin⟩ := h
  unfold exec execRevert
  refine ⟨_, runL_left hl _ _, ?_⟩
  have hif : ¬((s.w.at_ t).patState ≠ 5 ∨ (s.w.at_ t).pat.committing = true) := by simp [at_patState, hst, hc]
  have hrev : Reverted p (s.w.at_ t).patRevert := patRevert_reverted (by simpa using hin)
  have hrel : ∀ x : W, SameOff (Sparing [] [PAT_STATUS_error]) x x.saveReleased := fun x =>
    saveReleased_sameOff (by simp) x
  have hend : Reverted p ((s.w.at_ t).patRevert.patErr 0).saveReleased :=
    hrev.mono (.trans (by simp) (saveReleased_sameOff (by simp) _))
  obtain ⟨h0, hact, hnone, hev⟩ := hend
  simp only [hif, if_false, State.left_dev, State.left_reg, State.left_bitOf]
  refine ⟨h0, hact, hnone, hev, ?_⟩
  rw [(hrel _).get_eq List.mem_cons_self]
  exact W.get_set_same (by decide) 0

theorem revert_refused (s : State) (t : Nat) (h : s.lanes ∧ (s.reg PAT_STATUS_state ≠ 5 ∨ s.dev.pat.committing = true)) :
    ∃ u, exec (.revert t) s = .next u ∧ u.reg PAT_STATUS_state = s.reg PAT_STATUS_state ∧ u.dev.pat = s.dev.pat ∧
      u.reg PAT_STATUS_error = 0x18 := by
  obtain ⟨hl, hno⟩ := h
  unfold exec execRevert
  refine ⟨_, runL_left hl _ _, ?_⟩
  have hif : (s.w.at_ t).patState ≠ 5 ∨ (s.w.at_ t).pat.committing = true := by simpa [at_patState] using hno
  simp only [hif, if_true, State.left_dev, State.left_reg]
  exact patErr_refuses s t

/-- The slot that takes the copy: the one the marker does not name, slot 0 where it names none (R55). -/
def W.copySlot (w : W) : Nat :=
  match w.pat.marker with
  | some m => 1 - m
  | none => 0

/-- The copy made and named by the marker (R55). -/
def W.copied (w : W) : W :=
  let x := w.wrBytes (W.slotAddr w.copySlot) w.pat.active.raw
  let y := x.setPat { x.pat with
    marker := some w.copySlot
    savedMin := x.get PAT_MIN_SERIAL_v
    committing := false
    inactive := none }
  (y.setPatState 0).patEv PAT_EVENT_committed

theorem commitDone_due {s : State} (t : Nat) (h : s.w.mainOn = true ∧ s.reg PAT_STATUS_state = 5 ∧
    s.dev.pat.committing = true ∧ s.dev.sys.commitNext = false ∧ s.dev.sys.saving = none) :
    exec (.commitDone t) s = .next (s.left (s.w.at_ t).copied) := by
  obtain ⟨hon, hst, hc, hnext, hsave⟩ := h
  show execCommitDone t s = _
  refine (run_left _ _ _).trans (congrArg (fun v : W => Host.Outcome.next (s.left v)) (if_neg ?_))
  simp [at_patState, hst, hc, hnext, hsave, hon]

theorem patEv_keeps (w : W) (f : Fld) : w.Keeps (w.patEv f) [.irq, .scr] [f, REC_LOST_CNT_v, REC_EVENT_lost] [] :=
  .trans (.ev 0 (by simp) (by simp)) (.record _ _ _ _ _ _ (by simp) (by simp) (by simp) (by simp))

theorem wrBytes_pat (w : W) (a : Nat) (b : List Byte) : (w.wrBytes a b).pat = w.pat :=
  congrArg Dev.pat (w.wrBytes_toDev a b)

theorem wrBytes_get (w : W) (a : Nat) (b : List Byte) (f : Fld) : (w.wrBytes a b).get f = w.get f :=
  congrArg (fun d : Dev => d.regs.fld f) (w.wrBytes_toDev a b)

theorem copied_pat (w : W) : w.copied.pat = { w.pat with
    marker := some w.copySlot
    savedMin := w.get PAT_MIN_SERIAL_v
    committing := false
    inactive := none } := by
  unfold W.copied
  rw [show _ = _ from (patEv_keeps _ _).parts .pat (by decide)]
  simp [W.setPatState, wrBytes_pat, wrBytes_get]

theorem copied_shows (w : W) : w.copied.get PAT_STATUS_state = 0 ∧ w.copied.bit PAT_EVENT_committed = true := by
  have k : ∀ x : W, SameOff (Sparing [] [PAT_STATUS_state]) x (x.patEv PAT_EVENT_committed) := fun x => by simp
  refine ⟨?_, bit_patEv_same (by decide) rfl (by simp)⟩
  unfold W.copied
  rw [(k _).get_eq List.mem_cons_self]
  exact W.get_set_same (by decide) 0

theorem copied_stores (w : W) : w.copied.out = (w.wrBytes (W.slotAddr w.copySlot) w.pat.active.raw).out ∧
    w.copied.zeroed = w.zeroed := by
  unfold W.copied
  rw [(patEv_keeps _ _).out, (patEv_keeps _ _).zeroed]
  exact ⟨rfl, W.wrBytes_zeroed ..⟩

theorem commitDone_copies (s : State) (t : Nat) (h : s.w.mainOn = true ∧ s.reg PAT_STATUS_state = 5 ∧
    s.dev.pat.committing = true ∧ s.dev.sys.commitNext = false ∧ s.dev.sys.saving = none) :
    ∃ u, exec (.commitDone t) s = .next u ∧ u.reg PAT_STATUS_state = 0 ∧ u.dev.pat.marker = some s.w.copySlot ∧
      u.dev.pat.committing = false ∧ u.dev.pat.inactive = none ∧ u.dev.pat.savedMin = s.reg PAT_MIN_SERIAL_v ∧
      u.bitOf PAT_EVENT_committed = true ∧ (upTo s.dev.pat.active.raw.length).map (fun i =>
        u.mem.rd (W.slotAddr s.w.copySlot + i)) = s.dev.pat.active.raw := by
  have hslot : (s.w.at_ t).copySlot = s.w.copySlot := by simp [W.copySlot]
  have hmin : (s.w.at_ t).get PAT_MIN_SERIAL_v = s.reg PAT_MIN_SERIAL_v := W.at_get _ t (by decide)
  obtain ⟨hst, hev⟩ := copied_shows (s.w.at_ t)
  obtain ⟨hout, hzero⟩ := copied_stores (s.w.at_ t)
  refine ⟨_, commitDone_due t h, hst, ?_, ?_, ?_, ?_, hev, ?_⟩
  · simp [copied_pat, hslot]
  · simp [copied_pat]
  · simp [copied_pat]
  · simp [copied_pat, hmin]
  · simp only [State.left, hout, hzero, hslot, W.at_pat, W.at_zeroed, State.w_zeroed]
    exact map_rd_wrBytes _ _ _ _

/-! ## The trial timeout -/

/-- A trial whose time is up reverts. -/
theorem trialJudge_reverted (hst : w.patState = 5) (hc : w.pat.committing = false) (hlim : w.get PAT_TRIAL_TIMEOUT_seconds ≠ 0)
    (hup : w.pat.trialFrom + w.get PAT_TRIAL_TIMEOUT_seconds * 1000000000 ≤ w.tb.up) (hin : w.pat.inactive = some p) :
    Reverted p w.trialJudge := by
  have heq : w.trialJudge = w.patRevert.saveReleased := by simp [W.trialJudge, hst, hc, hlim, hup]
  exact heq ▸ (patRevert_reverted hin).mono (saveReleased_sameOff (by simp) _)

/-- Any other goes on. -/
theorem trialJudge_eq_self (h : w.patState ≠ 5 ∨ w.pat.committing = true ∨ w.get PAT_TRIAL_TIMEOUT_seconds = 0 ∨
    w.tb.up < w.pat.trialFrom + w.get PAT_TRIAL_TIMEOUT_seconds * 1000000000) : w.trialJudge = w := by
  refine if_neg ?_
  rintro ⟨hst, hc, hlim, hup⟩
  rcases h with h | h | h | h
  · exact h hst
  · simp [h] at hc
  · exact hlim h
  · omega

theorem trialTimeout_due (s : State) (t : Nat) (p : Pattern) (h : s.reg PAT_STATUS_state = 5 ∧ s.dev.pat.committing = false ∧
    s.reg PAT_TRIAL_TIMEOUT_seconds ≠ 0 ∧
    s.dev.pat.trialFrom + s.reg PAT_TRIAL_TIMEOUT_seconds * 1000000000 ≤ s.upAt t ∧ s.dev.pat.inactive = some p) :
    ∃ u, exec (.trialTimeout t) s = .next u ∧ u.reg PAT_STATUS_state = 0 ∧ u.dev.pat.active = p ∧ u.dev.pat.inactive = none ∧
      u.bitOf PAT_EVENT_reverted = true := by
  obtain ⟨hst, hc, hlim, hup, hin⟩ := h
  have hget : (s.w.at_ t).get PAT_TRIAL_TIMEOUT_seconds = s.reg PAT_TRIAL_TIMEOUT_seconds := W.at_get _ t (by decide)
  unfold exec execTrialTimeout
  exact ⟨_, run_left _ _ _, trialJudge_reverted ((at_patState s t).trans hst) (by simpa using hc) (by rwa [hget])
    (by rw [hget, W.at_up, W.at_pat]; exact hup) (by simpa using hin)⟩

theorem trialTimeout_not_due (s : State) (t : Nat) (h : s.reg PAT_TRIAL_TIMEOUT_seconds = 0 ∨
    s.upAt t < s.dev.pat.trialFrom + s.reg PAT_TRIAL_TIMEOUT_seconds * 1000000000) :
    ∃ u, exec (.trialTimeout t) s = .next u ∧ u.dev.pat = s.dev.pat ∧ u.reg PAT_STATUS_state = s.reg PAT_STATUS_state := by
  have hget : (s.w.at_ t).get PAT_TRIAL_TIMEOUT_seconds = s.reg PAT_TRIAL_TIMEOUT_seconds := W.at_get _ t (by decide)
  have hgo : (s.w.at_ t).trialJudge = s.w.at_ t := trialJudge_eq_self (.inr (.inr (by rw [hget, W.at_up, W.at_pat]; exact h)))
  unfold exec execTrialTimeout
  refine ⟨_, run_left _ _ _, ?_⟩
  simp only [hgo, State.left_dev, State.left_reg]
  exact ⟨W.at_pat _ t, at_patState s t⟩

/-- What a write of PAT_TRIAL_TIMEOUT leaves for the trial to be judged by. -/
theorem timeoutStored (s : State) (v : W32) (t : Nat) (x : W)
    (hx : x = ((s.w.at_ t).set PAT_TRIAL_TIMEOUT_seconds v.toNat).dirty) :
    x.get PAT_TRIAL_TIMEOUT_seconds = v.toNat % 2 ^ 16 ∧ x.patState = s.reg PAT_STATUS_state ∧ x.pat = s.dev.pat ∧
      x.tb.up = s.upAt t := by
  have k : SameOff (Sparing [.pat, .tb] [PAT_TRIAL_TIMEOUT_seconds, PAT_STATUS_state])
      ((s.w.at_ t).set PAT_TRIAL_TIMEOUT_seconds v.toNat) x := by simp [hx]
  have htb : x.tb = (s.w.at_ t).tb := k.parts .tb (by simp)
  refine ⟨?_, ?_, ?_, ?_⟩
  · rw [k.get_eq (by simp), W.get_set_same (by decide)]
  · rw [W.patState, k.get_eq (by simp), W.get_set_other (by decide)]
    exact at_patState s t
  · exact (k.parts .pat (by simp)).trans (W.at_pat _ t)
  · rw [htb, W.at_up]
    rfl

theorem patTrialTimeoutWrite_goes_on (s : State) (v : W32) (t : Nat) (h : s.lanes ∧ (s.reg PAT_STATUS_state ≠ 5 ∨
    s.dev.pat.committing = true ∨ v.toNat % 2 ^ 16 = 0 ∨ s.upAt t < s.dev.pat.trialFrom + v.toNat % 2 ^ 16 * 1000000000)) :
    ∃ u, exec (.patTrialTimeoutWrite v t) s = .next u ∧ u.reg PAT_TRIAL_TIMEOUT_seconds = v.toNat % 2 ^ 16 ∧
      u.reg PAT_STATUS_state = s.reg PAT_STATUS_state ∧ u.dev.pat = s.dev.pat := by
  obtain ⟨hl, hno⟩ := h
  obtain ⟨hlim, hst, hpat, hup⟩ := timeoutStored s v t _ rfl
  have hgo := trialJudge_eq_self (by rw [hlim, hst, hpat, hup]; exact hno)
  unfold exec execPatTrialTimeoutWrite
  refine ⟨_, runL_left hl _ _, ?_⟩
  simp only [hgo, State.left_dev, State.left_reg]
  exact ⟨hlim, hst, hpat⟩

theorem patTrialTimeoutWrite_reverts (s : State) (v : W32) (t : Nat) (p : Pattern) (h : s.lanes ∧ s.reg PAT_STATUS_state = 5 ∧
    s.dev.pat.committing = false ∧ v.toNat % 2 ^ 16 ≠ 0 ∧
    s.dev.pat.trialFrom + v.toNat % 2 ^ 16 * 1000000000 ≤ s.upAt t ∧ s.dev.pat.inactive = some p) :
    ∃ u, exec (.patTrialTimeoutWrite v t) s = .next u ∧ u.reg PAT_STATUS_state = 0 ∧ u.dev.pat.active = p ∧
      u.bitOf PAT_EVENT_reverted = true := by
  obtain ⟨hl, h5, hc, hv, hdue, hin⟩ := h
  obtain ⟨hlim, hst, hpat, hup⟩ := timeoutStored s v t _ rfl
  obtain ⟨h0, hact, -, hev⟩ := trialJudge_reverted (p := p) (hst.trans h5) (by rw [hpat, hc]) (by rwa [hlim])
    (by rw [hlim, hpat, hup]; exact hdue) (by rw [hpat, hin])
  unfold exec execPatTrialTimeoutWrite
  exact ⟨_, runL_left hl _ _, h0, hact, hev⟩

/-- Settles O13, command by command: a revert and a copy by what they leave of the loader. -/
theorem loaderTrials : Obligations.LoaderTrials :=
  ⟨commit_accepted, commit_refused, commitDone_copies, revert_accepted, revert_refused, trialTimeout_due,
   trialTimeout_not_due, patTrialTimeoutWrite_goes_on, patTrialTimeoutWrite_reverts⟩

end Trial

end Sys2Proof.Machine

/-! # An AON_WRITE_ARRIVAL with nothing waiting

The command carries the time forward like every other, and cycles counted on the way can end a limited count of the
profile counters (R412): PRF_EVENT.sel_limit is then set, whatever the real-time clock has waiting. -/

namespace Sys2Proof.Machine

section ArrivalWithNothing

/-- With no write in its way the command only carries the time forward. -/
theorem aonWriteArrival_empty {s : State} (t : Nat) (h : s.dev.rtc.aon = []) :
    exec (.aonWriteArrival t) s = .next (s.left (s.w.at_ t)) := by
  show execAonWriteArrival t s = _
  refine (run_left _ _ _).trans (congrArg (fun v : W => Host.Outcome.next (s.left v)) ?_)
  simp [h]

/-- SERVING, with selectable counter 0 counting the cycles of a lane (event 0xE0) up to a limit of 1. -/
def limitedCount : State := { State.reset with dev := { Dev.init with
  op := .serving
  regs := [(PRF_SEL_LIMIT_v 0, 1), (PRF_SEL_CFG_event 0, 0xE0), (PRF_SEL_CFG_run 0, 1),
    (PRF_SEL_CFG_limit 0, 1)].foldl (fun r e => r.put e.1 e.2) [] } }

theorem limitedCount_below : limitedCount.bitOf PRF_EVENT_sel_limit = false := by decide +kernel

/-- One microsecond is more than one cycle. -/
theorem limitedCount_reached : (limitedCount.w.at_ 1000).bit PRF_EVENT_sel_limit = true := by decide +kernel

/-- Refutes O42: its clause that AON_WRITE_ARRIVAL with no write in its way keeps every register. The time it carries
forward by 1,000 ns brings a counter of cycles to its limit of 1, and PRF_EVENT.sel_limit is set. -/
theorem not_calendarSetting : ¬ Obligations.CalendarSetting := by
  unfold Obligations.CalendarSetting
  rintro ⟨-, -, -, -, -, -, -, -, -, -, -, -, -, hnone, -⟩
  obtain ⟨u, hu, -, hregs⟩ := hnone limitedCount 1000 rfl
  rw [aonWriteArrival_empty 1000 rfl] at hu
  obtain rfl := Host.Outcome.next.inj hu
  have hsame : (limitedCount.w.at_ 1000).bit PRF_EVENT_sel_limit = limitedCount.bitOf PRF_EVENT_sel_limit :=
    congrArg (fun r : Regs => r.bit PRF_EVENT_sel_limit) hregs
  rw [limitedCount_reached, limitedCount_below] at hsame
  exact Bool.noConfusion hsame

end ArrivalWithNothing

end Sys2Proof.Machine

/-! # Starts

What a start through WAKING leaves: the main domain runs, and the cause, the count and the supplies are as its beginning set
them (R382, R384, R396). -/

namespace Sys2Proof.Machine

section Start

open SameOff Spot

variable {w v : W}

/-! ## Operations that leave the operating state and the system's own part alone -/

/-- Everything but the operating state and the system's own part. -/
abbrev OffSys : Spot → Prop := Sparing [.op, .sys] []

theorem SameOff.sys_eq (h : SameOff OffSys w v) : v.sys = w.sys := h.parts .sys (by simp)
theorem SameOff.op_eq (h : SameOff OffSys w v) : v.op = w.op := h.parts .op (by simp)

theorem zeroRam_offSys (w : W) : SameOff OffSys w w.zeroRam :=
  ⟨fun p _ => p.same_refl _, fun _ _ _ => rfl, fun h => absurd trivial h, fun h => absurd trivial h, rfl⟩

@[simp ↓] theorem zeroRam_offSys_iff : SameOff OffSys w v.zeroRam ↔ SameOff OffSys w v := drop_iff (zeroRam_offSys v)

theorem flTear_sys (w : W) (c : FlashCmd) : (w.flTear c).sys = w.sys := by
  unfold W.flTear
  split <;> rfl

/-- A reset of the main domain leaves the system's own part alone. -/
@[simp] theorem mainReset_sys (w : W) : w.mainReset.sys = w.sys := by
  show (match w.fls.run with | some c => w.flTear c | none => w).sys = w.sys
  cases w.fls.run with
  | none => rfl
  | some c => exact flTear_sys w c

@[simp ↓] theorem stage_offSys_iff (e : IrqEvent) : SameOff OffSys w (v.stage e) ↔ SameOff OffSys w v := by
  refine drop_iff ?_
  unfold W.stage W.syncPend W.syncStaged
  simp

@[simp ↓] theorem setSlot_offSys_iff (n : Nat) (s : KeySlot) : SameOff OffSys w (v.setSlot n s) ↔ SameOff OffSys w v := by
  refine drop_iff ?_
  unfold W.setSlot W.showSlot
  simp

@[simp ↓] theorem latchWatched_offSys_iff : SameOff OffSys w v.latchWatched ↔ SameOff OffSys w v := by
  refine drop_iff ?_
  unfold W.latchWatched
  refine (with_irq_iff (P := OffSys) (by simp) _).mpr (foldl (fun x e => foldl (fun y k => ?_) _ _) _ _)
  simp

@[simp ↓] theorem causeWatched_offSys_iff : SameOff OffSys w v.causeWatched ↔ SameOff OffSys w v := by
  refine drop_iff ?_
  unfold W.causeWatched
  split <;> simp

@[simp ↓] theorem showPtn_offSys_iff : SameOff OffSys w v.showPtn ↔ SameOff OffSys w v := by
  refine drop_iff ?_
  unfold W.showPtn
  dsimp only
  split <;> simp

@[simp ↓] theorem holdupTest_offSys_iff : SameOff OffSys w v.holdupTest ↔ SameOff OffSys w v := by
  refine drop_iff ?_
  unfold W.holdupTest
  simp

@[simp ↓] theorem mtrRestore_offSys_iff (pf : Option Nat) : SameOff OffSys w (v.mtrRestore pf) ↔ SameOff OffSys w v := by
  refine drop_iff ?_
  unfold W.mtrRestore
  dsimp only
  split
  · split
    · simp
    · split
      · simp
      · simp
  · simp

@[simp ↓] theorem startRecords_offSys_iff : SameOff OffSys w v.startRecords ↔ SameOff OffSys w v := by
  refine drop_iff ?_
  unfold W.startRecords
  simp

@[simp ↓] theorem clockFromRtc_offSys_iff (restored : Bool) :
    SameOff OffSys w (v.clockFromRtc restored) ↔ SameOff OffSys w v := by
  refine drop_iff ?_
  unfold W.clockFromRtc
  simp

@[simp ↓] theorem armRestored_offSys_iff : SameOff OffSys w v.armRestored ↔ SameOff OffSys w v := by
  refine drop_iff ?_
  unfold W.armRestored
  simp

@[simp ↓] theorem showChain_offSys_iff : SameOff OffSys w v.showChain ↔ SameOff OffSys w v := by
  refine drop_iff ?_
  unfold W.showChain
  simp

@[simp ↓] theorem showStart_offSys_iff (prev : Nat) : SameOff OffSys w (v.showStart prev) ↔ SameOff OffSys w v := by
  refine drop_iff ?_
  unfold W.showStart
  dsimp only
  split <;> simp

/-! ## What a start keeps to its end -/

/-- Why and how often the module has started, its supplies, and DRAM. -/
abbrev SysState.kept (x : SysState) : Nat × Nat × Bool × Bool × Bool × Bool :=
  (x.cause, x.starts, x.main, x.pfail, x.watch, x.dramDone)

/-- The operating state and what `K` says of the system's own part are the same. -/
structure SameSys {β : Type} (K : SysState → β) (w v : W) : Prop where
  op : v.op = w.op
  kept : K v.sys = K w.sys

namespace SameSys

variable {β : Type} {K : SysState → β} {u : W}

@[simp ↓] theorem refl (w : W) : SameSys K w w := ⟨rfl, rfl⟩
theorem symm (h : SameSys K w v) : SameSys K v w := ⟨h.op.symm, h.kept.symm⟩
theorem trans (h : SameSys K w v) (k : SameSys K v u) : SameSys K w u := ⟨k.op.trans h.op, k.kept.trans h.kept⟩

theorem drop_iff (h : SameSys K v u) : SameSys K w u ↔ SameSys K w v := ⟨fun k => k.trans h.symm, fun k => k.trans h⟩

theorem offSys_iff (h : SameOff OffSys v u) : SameSys K w u ↔ SameSys K w v :=
  drop_iff ⟨h.op_eq, congrArg K h.sys_eq⟩

@[simp ↓] theorem ite_iff {c : Prop} [Decidable c] :
    SameSys K w (if c then v else u) ↔ (c → SameSys K w v) ∧ (¬c → SameSys K w u) := by
  split <;> simp [*]

@[simp ↓] theorem setSys_iff {x : SysState} (h : K x = K v.sys) : SameSys K w (v.setSys x) ↔ SameSys K w v :=
  drop_iff ⟨rfl, h⟩

@[simp ↓] theorem set_iff (f : Fld) (n : Nat) : SameSys K w (v.set f n) ↔ SameSys K w v := offSys_iff (by simp)
@[simp ↓] theorem setB_iff (f : Fld) (b : Bool) : SameSys K w (v.setB f b) ↔ SameSys K w v := offSys_iff (by simp)
@[simp ↓] theorem ev_iff (f : Fld) (n : Nat) : SameSys K w (v.ev f n) ↔ SameSys K w v := offSys_iff (by simp)
@[simp ↓] theorem evRec_iff (f : Fld) (n : Nat) : SameSys K w (v.evRec f n) ↔ SameSys K w v := offSys_iff (by simp)
@[simp ↓] theorem record_iff (code block p0 p1 p2 p3 : Nat) :
    SameSys K w (v.record code block p0 p1 p2 p3) ↔ SameSys K w v := offSys_iff (by simp)
@[simp ↓] theorem wrBytes_iff (a : Nat) (b : List Byte) : SameSys K w (v.wrBytes a b) ↔ SameSys K w v := offSys_iff (by simp)
@[simp ↓] theorem with_key_iff (x : KeyState) : SameSys K w { v with key := x } ↔ SameSys K w v := offSys_iff (by simp)

@[simp ↓] theorem draw_iff : SameSys K w v.draw ↔ SameSys K w v := offSys_iff (by simp)

end SameSys

/-- The operating state and what a start keeps are the same. -/
abbrev SameStart : W → W → Prop := SameSys SysState.kept


theorem fwSelect_sameStart (w : W) : SameStart w w.fwSelect := by
  unfold W.fwSelect
  extract_lets looped _ w1 w2 _ measure
  have h1 : SameStart w w1 := by simp +zetaDelta
  have h2 : SameStart w1 w2 := by
    dsimp only [w2]
    split <;> simp
  clear_value w2
  refine h1.trans (h2.trans ?_)
  split
  next order trial _ =>
  extract_lets w3
  have h3 : SameStart w2 w3 := by
    dsimp only [w3]
    split <;> simp +zetaDelta
  clear_value w3
  refine h3.trans ?_
  dsimp only
  split <;> simp +zetaDelta

theorem wakeReturn_sameStart (w : W) : SameStart w w.wakeReturn := by
  unfold W.wakeReturn
  extract_lets w1 w2 w3 _ _ w4 w5 w6 _ w7
  have h3 : SameOff OffSys w w3 := by simp [w1, w2, w3]
  have h4 : SameStart w3 w4 := ⟨rfl, rfl⟩
  have h7 : SameStart w4 w7 := by simp +zetaDelta
  have h : SameStart w w7 := .trans ((SameSys.offSys_iff h3).mpr (.refl w)) (h4.trans h7)
  clear_value w7
  simpa using h

/-- A change of operating state leaves the module in that state. -/
theorem setOp_op (w : W) (st : OpState) : (w.setOp st).op = st := by
  unfold W.setOp
  extract_lets old w1 w2
  split
  · rfl
  · exact SameOff.op_eq (w := w2) (by simp)

theorem setOp_sys (w : W) (st : OpState) : (w.setOp st).sys = w.sys :=
  SameOff.parts (P := Sparing [.sys] []) (p := .sys) (by simp) (by simp)

/-! ## Firmware entry -/

/-- Firmware entry leaves the module in the state it is for, DEGRADED instead of SERVING with a lane down. -/
theorem entry_ends (w : W) (st : OpState) (restored : Bool) : (w.entry st restored).sys.kept = w.sys.kept ∧
    ((w.entry st restored).op = st ∨ st = .serving ∧ (w.entry st restored).op = .degraded) := by
  unfold W.entry
  extract_lets _ w1 w2 w3 w4 w5 w6 w7 _ w8 down st1 w9
  have h6 : SameOff OffSys w w6 := by simp [w1, w2, w3, w4, w5, w6]
  have h7 : SameStart w6 w7 := by
    dsimp only [w7]
    split
    · exact wakeReturn_sameStart w6
    · exact .refl w6
  have h8 : SameStart w7 w8 := by simp +zetaDelta
  have h : SameStart w w8 := .trans ((SameSys.offSys_iff h6).mpr (.refl w)) (h7.trans h8)
  clear_value w8
  have hend : SameOff OffSys w9 ((w9.showWch).showFlt).ptnBegin := by simp
  have h9 : w9.sys = w8.sys ∧ w9.op = st1 := ⟨setOp_sys (w8.set LNV_STATUS_mode (bitNat down)) st1, setOp_op _ _⟩
  have hst : st1 = st ∨ st = .serving ∧ st1 = .degraded := by
    dsimp only [st1]
    split
    next h => exact .inr ⟨h.1, rfl⟩
    next => exact .inl rfl
  clear_value w9 st1
  refine ⟨?_, by rwa [hend.op_eq, h9.2]⟩
  rw [hend.sys_eq, h9.1, h.kept]

/-! ## The rest of a start -/

/-- The main domain runs, and what a start keeps is as it was. -/
structure StartedFrom (w v : W) : Prop where
  on : v.mainOn = true
  kept : v.sys.kept = w.sys.kept

theorem SameSys.startedFrom {u : W} (h : SameStart w v) (k : StartedFrom v u) : StartedFrom w u :=
  ⟨k.on, k.kept.trans h.kept⟩

/-- What keeps the operating state keeps the main domain running. -/
theorem StartedFrom.then {u : W} (h : StartedFrom w v) (k : SameStart v u) : StartedFrom w u :=
  ⟨by rw [W.mainOn, k.op]; exact h.on, k.kept.trans h.kept⟩

theorem entry_startedFrom (w : W) (st : OpState) (restored : Bool) (hst : st ≠ .cold ∧ st ≠ .sleep) :
    StartedFrom w (w.entry st restored) := by
  obtain ⟨hkept, hop⟩ := entry_ends w st restored
  refine ⟨?_, hkept⟩
  unfold W.mainOn
  rcases hop with hop | ⟨-, hop⟩
  · simp [hop, hst]
  · rw [hop]
    rfl

theorem install_sameStart (w : W) (p : Pattern) : SameStart w (w.install p) :=
  (SameSys.offSys_iff (by simp)).mpr (.refl w)

theorem tamperTold_sameStart (w : W) : SameStart w w.tamperTold := by
  unfold W.tamperTold
  simp

theorem enterHolding_startedFrom (w : W) : StartedFrom w w.enterHolding := by
  unfold W.enterHolding
  extract_lets blocked st prev ds w1 _ w2 w3 w4
  have h2 : w2.sys = w.sys := mainReset_sys w
  have h3 : SameOff OffSys w2 w3 := by simp [w3]
  have h4 : SameStart w3 w4 := by
    dsimp only [w4]
    split
    · exact tamperTold_sameStart w3
    · exact .refl w3
  have h : w4.sys.kept = w.sys.kept := by rw [h4.kept, h3.sys_eq, h2]
  obtain ⟨hon, hkept⟩ := entry_startedFrom w4 .holding false (by decide)
  exact ⟨hon, hkept.trans h⟩

/-- The end of WAKING leaves the main domain running. -/
theorem wakeEnd_startedFrom (w : W) : StartedFrom w w.wakeEnd := by
  unfold W.wakeEnd
  extract_lets w1 w2
  have h1 : SameStart w w1 := fwSelect_sameStart w
  have h2 : StartedFrom w1 w2 := ⟨by rw [W.mainOn, setOp_op]; rfl, congrArg SysState.kept (setOp_sys _ _)⟩
  clear_value w1 w2
  refine h1.startedFrom ?_
  split
  · exact enterHolding_startedFrom w1
  · split
    · exact (install_sameStart w1 _).startedFrom (entry_startedFrom _ .serving false (by decide))
    · refine h2.then ?_
      split
      · exact (SameSys.offSys_iff (by simp)).mpr (.refl w2)
      · split
        · exact (SameSys.offSys_iff (by simp)).mpr (.refl w2)
        · exact install_sameStart w2 _

/-- The end of RESTORING leaves the main domain running. -/
theorem restoreEnd_startedFrom (w : W) : StartedFrom w w.restoreEnd := by
  unfold W.restoreEnd
  split
  · exact entry_startedFrom w .serving false (by decide)
  · split
    next c _ =>
      have h : SameStart w (w.restoreFrom c fun _ => true) := (SameSys.offSys_iff (by simp)).mpr (.refl w)
      exact h.startedFrom (entry_startedFrom _ .serving true (by decide))
    next => exact entry_startedFrom w .serving false (by decide)

theorem finishStart_startedFrom (w : W) (h : w.mainOn = true) : StartedFrom w w.finishStart := by
  unfold W.finishStart
  split
  · exact ⟨h, rfl⟩
  · extract_lets w1
    have h1 : StartedFrom w w1 := by
      dsimp only [w1]
      split
      · exact wakeEnd_startedFrom w
      · exact ⟨h, rfl⟩
    clear_value w1
    split
    · exact ⟨(restoreEnd_startedFrom w1).on, (restoreEnd_startedFrom w1).kept.trans h1.kept⟩
    · exact h1

/-! ## The beginning of a start -/

/-- What the beginning of a start sets and its own steps keep. -/
structure Begun (w : W) (cause : Nat) (v : W) : Prop where
  op : v.op = .waking
  booting : v.sys.booting = true
  kept : v.sys.kept = (cause, if w.sys.starts = 0xFFFF then 1 else w.sys.starts + 1, w.sys.main, w.sys.pfail, w.sys.watch,
    w.sys.dramDone && !decide (cause = 1 ∨ cause = 2 ∨ cause = 8))

/-- What a start keeps to its end, and that it has not got there. -/
abbrev SysState.underWay (x : SysState) : Bool × Nat × Nat × Bool × Bool × Bool × Bool := (x.booting, x.kept)

theorem startBegin_begun (w : W) (cause : Nat) : Begun w cause (w.startBegin cause) := by
  unfold W.startBegin
  extract_lets zero prev _ w1 w2 wraps _ w3 _ w4 _ w5 w6 w7 _ w8 _ w9 _ w10 n w11 _ w12
  have h2 : w2.sys = w.sys := by
    have h1 : w1.sys = w.sys := by
      dsimp only [w1]
      split <;> rfl
    dsimp only [w2]
    split <;> exact h1
  have h4 : Begun w cause w4 := ⟨rfl, rfl, by rw [← h2]; rfl⟩
  have h5 : SameSys SysState.underWay w4 w5 := by
    dsimp only [w5]
    split
    next rs _ =>
      have hr : SameOff OffSys w4 (w4.restoreRegs rs fun _ => true) := by simp
      exact ⟨hr.op_eq, rfl⟩
    next => exact .refl w4
  clear_value w4 w5
  have h7 : SameSys SysState.underWay w5 w7 := (SameSys.offSys_iff (by simp [w6, w7])).mpr (.refl w5)
  have h8 : SameSys SysState.underWay w7 w8 := by simp +zetaDelta
  have h10 : SameSys SysState.underWay w8 w10 := by simp +zetaDelta
  have h12 : SameSys SysState.underWay w10 w12 := by simp +zetaDelta
  clear_value w12
  have h : SameSys SysState.underWay w4 w12.showKey :=
    h5.trans (h7.trans (h8.trans (h10.trans (h12.trans ((SameSys.offSys_iff (by simp)).mpr (.refl w12))))))
  obtain ⟨hboot, hkept⟩ := Prod.mk.inj h.kept
  exact ⟨h.op.trans h4.op, hboot.trans h4.booting, hkept.trans h4.kept⟩

/-! ## Whole starts -/

/-- A start carried to WAKING is under way. -/
theorem startUp_waking (w : W) (cause : Nat) : Begun w cause (w.startUp cause .waking) := startBegin_begun w cause

/-- A start carried to any stage leaves the main domain running, with its cause and the next count. -/
theorem startUp_starts (w : W) (cause : Nat) (stage : StartStage) : (w.startUp cause stage).mainOn = true ∧
    (w.startUp cause stage).sys.kept = (cause, if w.sys.starts = 0xFFFF then 1 else w.sys.starts + 1, w.sys.main,
      w.sys.pfail, w.sys.watch, w.sys.dramDone && !decide (cause = 1 ∨ cause = 2 ∨ cause = 8)) := by
  obtain ⟨hop, -, hkept⟩ := startBegin_begun w cause
  unfold W.startUp
  generalize w.startBegin cause = b at hop hkept
  have hon : b.mainOn = true := by rw [W.mainOn, hop]; rfl
  cases stage with
  | waking => exact ⟨hon, hkept⟩
  | restoring =>
    obtain ⟨hend, hkeeps⟩ := wakeEnd_startedFrom b
    exact ⟨hend, hkeeps.trans hkept⟩
  | entry =>
    obtain ⟨hend, hkeeps⟩ := finishStart_startedFrom b hon
    exact ⟨hend, hkeeps.trans hkept⟩

end Start
end Sys2Proof.Machine

/-! # State events that act, and SLEEP -/

namespace Sys2Proof.Machine

section Sleep

open SameOff Spot

variable {w v : W} {s : State}

theorem State.at_op (s : State) (t : Nat) : (s.w.at_ t).op = s.dev.op := W.at_op _ t
theorem State.at_sys (s : State) (t : Nat) : (s.w.at_ t).sys = s.dev.sys := W.at_sys _ t

/-! ## A state event that acts (R30) -/

/-- The working state on which an event of a priority acts at an instant. -/
def State.onEdge (s : State) (prio t : Nat) : W :=
  (s.w.at_ t).setSys { (s.w.at_ t).sys with edge := some (W.aonEdge t, prio) }

@[simp] theorem State.onEdge_op (s : State) (prio t : Nat) : (s.onEdge prio t).op = s.dev.op := W.at_op _ t
@[simp] theorem State.onEdge_sys (s : State) (prio t : Nat) :
    (s.onEdge prio t).sys = { s.dev.sys with edge := some (W.aonEdge t, prio) } := by
  simp [State.onEdge]

theorem State.onEdge_get {f : Fld} (prio t : Nat) (h : PRF_EVENT_sel_limit.Apart f) :
    (s.onEdge prio t).get f = s.reg f := W.at_get _ t h

theorem State.onEdge_bit {f : Fld} (prio t : Nat) (h : PRF_EVENT_sel_limit.Apart f) :
    (s.onEdge prio t).bit f = s.bitOf f := W.at_bit _ t h

/-- With nothing held behind it an event is the last to be judged. -/
theorem judgeHeld_eq_self (h : w.sys.heldEvs = []) : w.judgeHeld = w := by
  have hsame : w.setSys { w.sys with heldEvs := [] } = w := by
    rw [← h]
    rfl
  unfold W.judgeHeld
  rw [h, List.foldl_nil, hsame]

/-- An event that nothing of higher priority shares its edge with does its act, and nothing else. -/
theorem takeEvent_acts {prio t : Nat} {holds : Option HeldEvent} {act : W → W} (h : s.acts prio t)
    (hk : (act (s.onEdge prio t)).sys.heldEvs = []) :
    (s.w.at_ t).takeEvent s.pending prio t holds act = act (s.onEdge prio t) := by
  obtain ⟨hacted, hwaits, -⟩ := h
  unfold W.takeEvent
  simp only [hacted, hwaits, Bool.false_eq_true, if_false]
  exact judgeHeld_eq_self hk

theorem runEv_acts {name : String} {prio t : Nat} {isEv : W → Bool} {holds : Option HeldEvent} {act : W → W}
    (hev : isEv (s.w.at_ t) = true) (h : s.acts prio t) (hk : (act (s.onEdge prio t)).sys.heldEvs = []) :
    runEv true name prio t isEv holds act s = .next (s.left (act (s.onEdge prio t))) := by
  refine (run_left _ _ _).trans (congrArg (fun v : W => Host.Outcome.next (s.left v)) ?_)
  dsimp only
  rw [if_pos hev, takeEvent_acts h hk]

theorem runEv_idle {name : String} {prio t : Nat} {isEv : W → Bool} {holds : Option HeldEvent} {act : W → W}
    (hev : isEv (s.w.at_ t) = false) : runEv true name prio t isEv holds act s = .next (s.left (s.w.at_ t)) := by
  refine (run_left _ _ _).trans (congrArg (fun v : W => Host.Outcome.next (s.left v)) ?_)
  dsimp only
  rw [if_neg (by simp [hev])]

/-- What a command that only carries the time forward leaves. -/
theorem idle_left (s : State) (t : Nat) : (s.left (s.w.at_ t)).dev.op = s.dev.op ∧ (s.left (s.w.at_ t)).dev.sys = s.dev.sys :=
  ⟨W.at_op _ t, W.at_sys _ t⟩

/-- What the lanes' command without an effect leaves. -/
theorem runL_id (name : String) : ∃ u, runL true name id s = .next u ∧ u.dev = s.dev ∧ u.mem = s.mem := by
  have hsame : (if s.w.lanesRun then id s.w else s.w) = s.w := ite_self _
  refine ⟨_, (runL_eq true name id s).trans (run_left _ _ _), ?_⟩
  exact hsame.symm ▸ ⟨rfl, rfl⟩

/-! ## SLEEP -/

/-- A save that falls due outside a trial is in progress, or in progress already. -/
theorem saveAsk_saving (h : w.patState = 0) : w.saveAsk.sys.saving.isSome = true := by
  unfold W.saveAsk
  rw [if_neg (by simp [h])]
  split
  next hs => exact hs
  next => rfl

/-- SLEEP accepted (R31): the entry begins, no wake waits, and none is shown. -/
def W.sleepAccepted (w : W) : W :=
  let w : W := { w with regs := w.regs.wr WCH_WAKE_CAUSE_alarm0.addr 0 }
  let w := w.setSys { w.sys with entering := true, wakeWaits := false }
  if w.sys.dirtyUp.isSome then w.saveAsk else w

/-- SLEEP rejected (R31). -/
def W.sleepRejected (w : W) : W :=
  let w := (w.ev SYS_EVENT_sleep_rejected 0).record 0x014 0 (w.get SYS_STATUS_state) 0 0 0
  (w.set SYS_CMD_STATUS_done 1).set SYS_CMD_STATUS_result 1

/-- What the SLEEP command does when it acts: accepted, or rejected (R31). -/
def W.sleepAct (w : W) : W :=
  if w.op = .serving ∧ w.patState = 0 ∧ w.get CRY_STATUS_armed = 0 ∧ w.get FLT_STATUS_armed = 0 ∧ !w.pairHeld then
    w.sleepAccepted
  else w.sleepRejected

/-- What SLEEP is judged by is as the state has it. -/
theorem sleepAct_onEdge (s : State) (t : Nat) : (s.onEdge 8 t).sleepAct =
    if s.dev.op = .serving ∧ s.reg PAT_STATUS_state = 0 ∧ s.reg CRY_STATUS_armed = 0 ∧ s.reg FLT_STATUS_armed = 0 ∧
      s.w.pairHeld = false then (s.onEdge 8 t).sleepAccepted else (s.onEdge 8 t).sleepRejected := by
  have hptn : (s.onEdge 8 t).ptn = s.w.ptn := W.at_ptn _ t
  have hpair : (s.onEdge 8 t).pairHeld = s.w.pairHeld := by
    unfold W.pairHeld
    rw [hptn, State.onEdge_get _ _ (by decide), State.onEdge_bit _ _ (by decide)]
    rfl
  unfold W.sleepAct W.patState
  rw [State.onEdge_op, State.onEdge_get _ _ (by decide), State.onEdge_get _ _ (by decide), State.onEdge_get _ _ (by decide),
    hpair]
  simp

/-- The events held, and how an entry into SLEEP stands. -/
abbrev SysState.entrance (x : SysState) : List HeldEvent × Bool × Bool := (x.heldEvs, x.entering, x.wakeWaits)

theorem saveAsk_sameSys (w : W) : SameSys SysState.entrance w w.saveAsk := by
  unfold W.saveAsk W.saveStart W.putCopy
  simp

theorem sleepAct_sameHeld (w : W) : SameSys SysState.heldEvs w w.sleepAct := by
  unfold W.sleepAct
  split
  · unfold W.sleepAccepted
    extract_lets w1 _ w2
    have h2 : SameSys SysState.heldEvs w w2 := ⟨rfl, rfl⟩
    split
    · exact h2.trans ⟨(saveAsk_sameSys w2).op, (Prod.mk.inj (saveAsk_sameSys w2).kept).1⟩
    · exact h2
  · unfold W.sleepRejected
    simp

theorem lanes_iff : s.lanes ↔ (s.dev.op = .serving ∨ s.dev.op = .degraded ∨ s.dev.op = .holding) ∧
    s.dev.sys.entering = false := by
  unfold State.lanes W.lanesRun
  simp [or_assoc]

theorem exec_sleep {confirm t : Nat} (hl : s.lanes) (hc : confirm = 0xC0DE) (h : s.acts 8 t) :
    exec (.sleep confirm t) s = .next (s.left (s.onEdge 8 t).sleepAct) := by
  show execSleep confirm t s = _
  unfold execSleep
  have hon : (lanesOn s && confirm == 0xC0DE) = true := by
    rw [hc, Bool.and_eq_true]
    exact ⟨hl, rfl⟩
  rw [if_pos hon]
  exact runEv_acts (act := W.sleepAct) rfl h ((sleepAct_sameHeld _).kept.trans (by simpa using h.2.2))

/-- SLEEP accepted begins the entry. -/
theorem sleepAccepted_enters (h : w.patState = 0) : w.sleepAccepted.sys.entering = true ∧
    w.sleepAccepted.sys.wakeWaits = false ∧ w.sleepAccepted.regs.rd WCH_WAKE_CAUSE_alarm0.addr = 0 ∧
      (w.sys.dirtyUp.isSome = true → w.sleepAccepted.sys.saving.isSome = true) := by
  unfold W.sleepAccepted
  extract_lets w1 _ w2
  have hoff : SameOff (Sparing [.pat] [PAT_STATUS_state]) w w2 := by simp [w1, w2]
  have hst : w2.patState = 0 := (hoff.get_eq (by simp)).trans h
  have hrd : w2.regs.rd WCH_WAKE_CAUSE_alarm0.addr = 0 := Regs.rd_wr_same _ _ _
  have hsys : w2.sys = { w.sys with entering := true, wakeWaits := false } := rfl
  clear_value w2
  split
  next hd =>
    have hr : SameOff (Sparing [] [WCH_WAKE_CAUSE_alarm0.whole]) w2 w2.saveAsk := by simp [Fld.whole]
    obtain ⟨-, hkept⟩ := Prod.mk.inj (saveAsk_sameSys w2).kept
    obtain ⟨he, hw⟩ := Prod.mk.inj hkept
    exact ⟨by rw [he, hsys], by rw [hw, hsys], (hr.rd_eq (by simp)).trans hrd, fun _ => saveAsk_saving hst⟩
  next hd =>
    refine ⟨by rw [hsys], by rw [hsys], hrd, fun hs => absurd ?_ hd⟩
    rw [hsys]
    exact hs

/-- SLEEP rejected leaves the module as it is, and says so. -/
theorem sleepRejected_answers (w : W) : w.sleepRejected.op = w.op ∧ w.sleepRejected.sys = w.sys ∧
    w.sleepRejected.bit SYS_EVENT_sleep_rejected = true ∧ w.sleepRejected.get SYS_CMD_STATUS_done = 1 ∧
      w.sleepRejected.get SYS_CMD_STATUS_result = 1 := by
  unfold W.sleepRejected
  extract_lets w1
  have h1 : SameOff OffSys w w1 := by simp [w1]
  have hev : w1.bit SYS_EVENT_sleep_rejected = true := by
    have k : SameOff (Sparing [] [SYS_EVENT_sleep_rejected]) (w.ev SYS_EVENT_sleep_rejected 0) w1 := by simp [w1]
    rw [k.bit_eq (by simp), W.bit_ev_same (by decide) rfl]
  clear_value w1
  refine ⟨h1.op_eq, h1.sys_eq, ?_, ?_, W.get_set_same (by decide) 1⟩
  · rw [W.bit_set_other (by decide), W.bit_set_other (by decide), hev]
  · rw [W.get_set_other (by decide)]
    exact W.get_set_same (by decide) 1

theorem sleep_accepted (s : State) (confirm t : Nat) (h : s.lanes ∧ confirm = 0xC0DE ∧ s.acts 8 t ∧ s.dev.op = .serving ∧
    s.reg PAT_STATUS_state = 0 ∧ s.reg CRY_STATUS_armed = 0 ∧ s.reg FLT_STATUS_armed = 0 ∧ s.w.pairHeld = false) :
    ∃ u, exec (.sleep confirm t) s = .next u ∧ u.dev.sys.entering = true ∧ u.dev.sys.wakeWaits = false ∧
      u.word WCH_WAKE_CAUSE_alarm0.addr = 0 ∧ (s.dev.sys.dirtyUp.isSome = true → u.dev.sys.saving.isSome = true) := by
  obtain ⟨hl, hc, hacts, hallowed⟩ := h
  refine ⟨_, exec_sleep hl hc hacts, ?_⟩
  rw [sleepAct_onEdge, if_pos hallowed]
  have hst : (s.onEdge 8 t).patState = 0 := (State.onEdge_get 8 t (by decide)).trans hallowed.2.1
  simpa using sleepAccepted_enters hst

theorem sleep_rejected (s : State) (confirm t : Nat) (h : s.lanes ∧ confirm = 0xC0DE ∧ s.acts 8 t ∧ (s.dev.op ≠ .serving ∨
    s.reg PAT_STATUS_state ≠ 0 ∨ s.reg CRY_STATUS_armed ≠ 0 ∨ s.reg FLT_STATUS_armed ≠ 0 ∨ s.w.pairHeld = true)) :
    ∃ u, exec (.sleep confirm t) s = .next u ∧ u.dev.op = s.dev.op ∧ u.dev.sys.entering = false ∧
      u.bitOf SYS_EVENT_sleep_rejected = true ∧ u.reg SYS_CMD_STATUS_done = 1 ∧ u.reg SYS_CMD_STATUS_result = 1 := by
  obtain ⟨hl, hc, hacts, hno⟩ := h
  refine ⟨_, exec_sleep hl hc hacts, ?_⟩
  have hnot : ¬(s.dev.op = .serving ∧ s.reg PAT_STATUS_state = 0 ∧ s.reg CRY_STATUS_armed = 0 ∧
      s.reg FLT_STATUS_armed = 0 ∧ s.w.pairHeld = false) := by
    rintro ⟨hop, hpat, hcry, hflt, hpair⟩
    simp [hop, hpat, hcry, hflt, hpair] at hno
  have hent : s.dev.sys.entering = false := (lanes_iff.mp hl).2
  obtain ⟨hop, hsys, hev, hdone, hres⟩ := sleepRejected_answers (s.onEdge 8 t)
  rw [sleepAct_onEdge, if_neg hnot]
  exact ⟨hop.trans (s.onEdge_op 8 t), by simpa [hsys] using hent, hev, hdone, hres⟩

theorem sleep_unconfirmed (s : State) (confirm t : Nat) (h : confirm ≠ 0xC0DE) :
    ∃ u, exec (.sleep confirm t) s = .next u ∧ u.dev = s.dev ∧ u.mem = s.mem := by
  have hoff : (lanesOn s && confirm == 0xC0DE) = false := by simp [h]
  show ∃ u, execSleep confirm t s = .next u ∧ _
  unfold execSleep
  rw [if_neg (by simp [hoff])]
  exact runL_id "SLEEP"

/-! ## Waking and sleeping -/

theorem mainOn_iff : w.mainOn = true ↔ w.op ≠ .cold ∧ w.op ≠ .sleep := by simp [W.mainOn]

/-- A start of the module leaves SLEEP, and its cause is recorded. -/
theorem startUp_wakes (w : W) (cause : Nat) (stage : StartStage) : (w.startUp cause stage).op ≠ .sleep ∧
    (w.startUp cause stage).sys.cause = cause := by
  obtain ⟨hon, hkept⟩ := startUp_starts w cause stage
  exact ⟨(mainOn_iff.mp hon).2, (Prod.mk.inj hkept).1⟩

/-- The main domain goes off into SLEEP, and no entry is under way. -/
theorem toSleep_sleeps (w : W) : w.toSleep.op = .sleep ∧ w.toSleep.sys.entering = false := by
  unfold W.toSleep
  extract_lets w1 sel _ w2 _ w3 evs lost _ w4 keep _ w5 held w6 _ w7 w8
  have hoff : SameOff OffSys w7 w7.outputsOff := by simp
  have h8 : w8.sys.entering = false := by
    rw [show w8.sys = w7.sys from (mainReset_sys _).trans hoff.sys_eq]
    rfl
  have hshow : SameOff OffSys { w8 with op := .sleep } ({ w8 with op := .sleep } : W).showWch := by simp
  exact ⟨hshow.op_eq, hshow.sys_eq ▸ h8⟩

/-- A wake source that fires in SLEEP wakes the module with cause 8 (R400). -/
theorem wake_asleep {f : Fld} (h : w.op = .sleep) : (w.wake f).op ≠ .sleep ∧ (w.wake f).sys.cause = 8 := by
  unfold W.wake
  extract_lets due w1 w2 w3 w4
  rw [if_pos h]
  exact startUp_wakes _ 8 .entry

/-- During the entry it waits, and is shown. -/
theorem wake_entering {f : Fld} (h : w.op ≠ .sleep) (he : w.sys.entering = true) :
    w.wake f = (w.set f 1).setSys { w.sys with wakeWaits := true } := by
  unfold W.wake
  extract_lets due w1 w2 w3 w4
  rw [if_neg h, if_pos he]

/-- Outside both it is shown at most. -/
theorem wake_awake {f : Fld} (h : w.op ≠ .sleep) (he : w.sys.entering = false) : (w.wake f).op = w.op ∧ (w.wake f).sys = w.sys := by
  unfold W.wake
  extract_lets due w1 w2 w3 w4
  rw [if_neg h, if_neg (by simp [he])]
  split
  · split <;> exact ⟨rfl, rfl⟩
  · exact ⟨rfl, rfl⟩

theorem testBit_fldOf {x : W32} {lo width i : Nat} (h : i < width) : (fldOf x lo width).testBit i = x.getLsbD (lo + i) := by
  unfold fldOf
  rw [BitVec.testBit_toNat, BitVec.getLsbD_extractLsb']
  simp [h]

/-- A bit of a field, by its number. -/
theorem tst_fldOf {x : W32} {lo width i : Nat} (h : i < width) : tst (fldOf x lo width) i = (fldOf x (lo + i) 1 != 0) := by
  have htst : tst (fldOf x lo width) i = (fldOf x lo width).testBit i := (Nat.testBit_eq_decide_div_mod_eq ..).symm
  have hone : fldOf x (lo + i) 1 = 0 ∨ fldOf x (lo + i) 1 = 1 :=
    Nat.le_one_iff_eq_zero_or_eq_one.mp (Nat.le_of_lt_succ (x.extractLsb' (lo + i) 1).isLt)
  rw [htst, testBit_fldOf h, ← Nat.add_zero (lo + i), ← testBit_fldOf Nat.one_pos, Nat.add_zero]
  rcases hone with h0 | h1
  · rw [h0]
    rfl
  · rw [h1]
    rfl

/-! ## The end of the entry -/

theorem sleepEntryDone_ends (s : State) (t : Nat) (h : s.dev.sys.entering = true ∧ s.dev.sys.saving = none) :
    ∃ u, exec (.sleepEntryDone t) s = .next u ∧ if s.dev.sys.wakeWaits then u.dev.op ≠ .sleep ∧ u.dev.sys.cause = 8 else
      u.dev.op = .sleep ∧ u.dev.sys.entering = false := by
  obtain ⟨he, hs⟩ := h
  unfold exec execSleepEntryDone
  refine ⟨_, run_left _ _ _, ?_⟩
  have hgo : ¬(!(s.w.at_ t).sys.entering || (s.w.at_ t).sys.saving.isSome) = true := by simp [he, hs]
  dsimp only [State.left_dev]
  rw [if_neg hgo, State.at_sys]
  by_cases hw : s.dev.sys.wakeWaits = true
  · rw [if_pos hw, if_pos hw]
    exact startUp_wakes _ 8 .entry
  · rw [if_neg hw, if_neg hw]
    exact toSleep_sleeps _

theorem sleepEntryDone_idle (s : State) (t : Nat) (h : s.dev.sys.entering = false ∨ s.dev.sys.saving.isSome = true) :
    ∃ u, exec (.sleepEntryDone t) s = .next u ∧ u.dev.op = s.dev.op ∧ u.dev.sys = s.dev.sys := by
  unfold exec execSleepEntryDone
  refine ⟨_, run_left _ _ _, ?_⟩
  have hno : (!(s.w.at_ t).sys.entering || (s.w.at_ t).sys.saving.isSome) = true := by simpa using h
  dsimp only [State.left_dev]
  rw [if_pos hno]
  exact idle_left s t

/-! ## The wake sources -/

theorem wakeTimerLeft_at (s : State) (t : Nat) :
    (s.w.at_ t).wakeTimerLeft = s.reg WCH_WAKE_TIMER_v - (s.upAt t - s.dev.sys.sleepUp) / 1000000000 := by
  unfold W.wakeTimerLeft
  rw [W.at_get _ t (by decide), W.at_up, W.at_sys]
  rfl

theorem wakeTimerExpire_judged (s : State) (t : Nat) : ∃ u, exec (.wakeTimerExpire t) s = .next u ∧ if s.dev.op = .sleep ∧
    s.bitOf WCH_WAKE_CFG_timer_en = true ∧ 0 < s.reg WCH_WAKE_TIMER_v ∧ s.reg WCH_WAKE_TIMER_v ≤ (s.upAt t -
      s.dev.sys.sleepUp) / 1000000000 then u.dev.op ≠ .sleep ∧ u.dev.sys.cause = 8 else u.dev.op = s.dev.op ∧
      u.dev.sys = s.dev.sys := by
  unfold exec execWakeTimerExpire
  refine ⟨_, run_left _ _ _, ?_⟩
  dsimp only [State.left_dev]
  have hdue : ((s.w.at_ t).op = .sleep ∧ (s.w.at_ t).bit WCH_WAKE_CFG_timer_en = true ∧ 0 < (s.w.at_ t).get WCH_WAKE_TIMER_v ∧
      (s.w.at_ t).wakeTimerLeft = 0) ↔ s.dev.op = .sleep ∧ s.bitOf WCH_WAKE_CFG_timer_en = true ∧
      0 < s.reg WCH_WAKE_TIMER_v ∧ s.reg WCH_WAKE_TIMER_v ≤ (s.upAt t - s.dev.sys.sleepUp) / 1000000000 := by
    rw [W.at_op, W.at_bit _ t (by decide), W.at_get _ t (by decide), wakeTimerLeft_at, Nat.sub_eq_zero_iff_le]
    rfl
  split
  next h =>
    rw [if_pos (hdue.mpr h)]
    exact wake_asleep ((W.at_op _ t).trans h.1)
  next h =>
    rw [if_neg (mt hdue.mp h)]
    exact idle_left s t

/-- A match of the receiver that counts (R248): a page for this module, 10 s after the last. -/
abbrev State.rxCounts (s : State) (addr t : Nat) : Prop :=
  s.dev.sys.watch = true ∧ s.bitOf WCH_WAKE_CFG_rx_enable = true ∧ addr ≠ 0 ∧
    (addr = s.reg WCH_WAKE_ADDR_addr ∨ (addr = 0xFFFF ∧ s.bitOf WCH_WAKE_CFG_rx_bcast = true)) ∧
    s.dev.sys.rxUp.all (fun x => decide (x + 10000000000 ≤ s.upAt t)) = true

/-- The same, as the command judges it. -/
theorem rxJudged_iff {watch en bcast : Bool} {addr own all gap up : Nat} {rx : Option Nat} :
    (watch && en && (addr != 0 && (addr == own || (addr == all && bcast))) &&
      (match rx with | some u => decide (u + gap ≤ up) | none => true)) = true ↔
    watch = true ∧ en = true ∧ addr ≠ 0 ∧ (addr = own ∨ (addr = all ∧ bcast = true)) ∧
      rx.all (fun x => decide (x + gap ≤ up)) = true := by
  cases rx <;> simp [and_assoc]

/-- The state on which a match that counts wakes. -/
def State.rxHeard (s : State) (t : Nat) : W := (s.w.at_ t).setSys { (s.w.at_ t).sys with rxUp := some (s.upAt t) }

theorem exec_wakeRxMatch (s : State) (addr t : Nat) : exec (.wakeRxMatch addr t) s =
    .next (s.left (if s.rxCounts addr t then (s.rxHeard t).wake WCH_WAKE_CAUSE_receiver else s.w.at_ t)) := by
  show execWakeRxMatch addr t s = _
  refine (run_left _ _ _).trans (congrArg (fun v : W => Host.Outcome.next (s.left v)) ?_)
  have hup : (s.w.at_ t).tb.up = s.upAt t := by rw [W.at_up, State.at_up]
  dsimp only
  refine if_congr ?_ ?_ rfl
  · rw [W.at_get _ t (by decide), W.at_bit _ t (by decide), W.at_bit _ t (by decide), hup, State.at_sys]
    exact rxJudged_iff
  · rw [State.rxHeard, ← hup]

theorem wakeRxMatch_hit (s : State) (addr t : Nat) (h : s.rxCounts addr t) :
    ∃ u, exec (.wakeRxMatch addr t) s = .next u ∧ if s.dev.op = .sleep then u.dev.op ≠ .sleep ∧ u.dev.sys.cause = 8 else
      u.dev.op = s.dev.op ∧ u.dev.sys.rxUp = some (s.upAt t) ∧ (s.dev.sys.entering = true → u.dev.sys.wakeWaits = true ∧
        u.bitOf WCH_WAKE_CAUSE_receiver = true) := by
  refine ⟨_, exec_wakeRxMatch s addr t, ?_⟩
  rw [if_pos h]
  have hop : (s.rxHeard t).op = s.dev.op := State.at_op s t
  have hent : (s.rxHeard t).sys.entering = s.dev.sys.entering := by
    show (s.w.at_ t).sys.entering = _
    rw [State.at_sys]
  have hrx : (s.rxHeard t).sys.rxUp = some (s.upAt t) := rfl
  by_cases hsleep : s.dev.op = .sleep
  · rw [if_pos hsleep]
    exact wake_asleep (hop.trans hsleep)
  · rw [if_neg hsleep]
    have hno : (s.rxHeard t).op ≠ .sleep := hop ▸ hsleep
    cases he : s.dev.sys.entering with
    | false =>
      obtain ⟨hop', hsys'⟩ := wake_awake (f := WCH_WAKE_CAUSE_receiver) hno (hent.trans he)
      exact ⟨hop'.trans hop, (congrArg SysState.rxUp hsys').trans hrx, fun h => absurd h (by decide)⟩
    | true =>
      rw [wake_entering hno (hent.trans he)]
      exact ⟨hop, hrx, fun _ => ⟨rfl, W.bit_setB_same (by decide) rfl true⟩⟩

/-- A match within the time of the last one is not free of it. -/
theorem rxFree_not {gap up : Nat} {rx : Option Nat} (h : rx.any (fun x => decide (up < x + gap)) = true) :
    ¬rx.all (fun x => decide (x + gap ≤ up)) = true := by
  cases rx with
  | none => exact absurd h (by simp)
  | some x => simpa using h

theorem wakeRxMatch_miss (s : State) (addr t : Nat) (h : s.dev.sys.watch = false ∨ s.bitOf WCH_WAKE_CFG_rx_enable = false ∨
    addr = 0 ∨ (addr ≠ s.reg WCH_WAKE_ADDR_addr ∧ (addr ≠ 0xFFFF ∨ s.bitOf WCH_WAKE_CFG_rx_bcast = false)) ∨
    s.dev.sys.rxUp.any (fun x => decide (s.upAt t < x + 10000000000)) = true) :
    ∃ u, exec (.wakeRxMatch addr t) s = .next u ∧ u.dev.op = s.dev.op ∧ u.dev.sys = s.dev.sys := by
  have hno : ¬s.rxCounts addr t := by
    rintro ⟨hwatch, hen, hzero, haddr, hfree⟩
    rcases h with h | h | h | ⟨hown, hall⟩ | h
    · exact absurd hwatch (by rw [h]; decide)
    · exact absurd hen (by rw [h]; decide)
    · exact hzero h
    · rcases haddr with haddr | ⟨haddr, hb⟩
      · exact hown haddr
      · rcases hall with hall | hall
        · exact hall haddr
        · exact absurd hb (by rw [hall]; decide)
    · exact rxFree_not h hfree
  refine ⟨_, exec_wakeRxMatch s addr t, ?_⟩
  rw [if_neg hno]
  exact idle_left s t

/-- The bit of WCH_WAKE_CAUSE that a wake pin sets. -/
abbrev gioCause (pin : Nat) : Fld := ⟨WCH_WAKE_CAUSE_gio.addr, WCH_WAKE_CAUSE_gio.lo + pin, 1⟩

/-- An edge that counts (R452): an enabled pin, an input or in SLEEP, with the polarity chosen. -/
abbrev State.gioCounts (s : State) (pin : Nat) (rising : Bool) : Prop :=
  (s.dev.op = .sleep ∨ s.w.pinFunc pin = 1) ∧ tst (s.reg WCH_WAKE_CFG_gio) pin = true ∧
    tst (s.reg WCH_WAKE_CFG_gio_pol) pin = rising

theorem exec_gioWakeEdge (s : State) (pin : Nat) (rising : Bool) (t : Nat) (hp : pin < 4) : exec (.gioWakeEdge pin rising t) s =
    .next (s.left (if s.gioCounts pin rising then (s.w.at_ t).wake (gioCause pin) else s.w.at_ t)) := by
  have hwf : wfGioWakeEdge pin = true := decide_eq_true hp
  show execGioWakeEdge pin rising t s = _
  unfold execGioWakeEdge
  rw [hwf]
  refine (run_left _ _ _).trans (congrArg (fun v : W => Host.Outcome.next (s.left v)) ?_)
  have hpin : (s.w.at_ t).pinFunc pin = s.w.pinFunc pin := by rw [W.pinFunc, W.at_pat]; rfl
  dsimp only
  refine if_congr ?_ rfl rfl
  rw [W.at_get _ t (by decide), W.at_get _ t (by decide), hpin, State.at_op]
  simp [and_assoc]

theorem gioWakeEdge_hit (s : State) (pin : Nat) (rising : Bool) (t : Nat) (h : pin < 4 ∧ s.gioCounts pin rising) :
    ∃ u, exec (.gioWakeEdge pin rising t) s = .next u ∧ if s.dev.op = .sleep then u.dev.op ≠ .sleep ∧ u.dev.sys.cause = 8 else
      u.dev.op = s.dev.op ∧ (s.dev.sys.entering = true → u.dev.sys.wakeWaits = true ∧
        tst (u.reg WCH_WAKE_CAUSE_gio) pin = true) := by
  obtain ⟨hp, hcounts⟩ := h
  refine ⟨_, exec_gioWakeEdge s pin rising t hp, ?_⟩
  rw [if_pos hcounts]
  have hop : (s.w.at_ t).op = s.dev.op := State.at_op s t
  have hent : (s.w.at_ t).sys.entering = s.dev.sys.entering := congrArg SysState.entering (State.at_sys s t)
  by_cases hsleep : s.dev.op = .sleep
  · rw [if_pos hsleep]
    exact wake_asleep (hop.trans hsleep)
  · rw [if_neg hsleep]
    have hno : (s.w.at_ t).op ≠ .sleep := hop ▸ hsleep
    cases he : s.dev.sys.entering with
    | false =>
      obtain ⟨hop', -⟩ := wake_awake (f := gioCause pin) hno (hent.trans he)
      exact ⟨hop'.trans hop, fun h => absurd h (by decide)⟩
    | true =>
      rw [wake_entering hno (hent.trans he)]
      refine ⟨hop, fun _ => ⟨rfl, (tst_fldOf hp).trans ?_⟩⟩
      have hlo : (gioCause pin).lo + 1 ≤ 32 := by
        show 4 + pin + 1 ≤ 32
        omega
      exact W.bit_setB_same hlo rfl true

theorem gioWakeEdge_miss (s : State) (pin : Nat) (rising : Bool) (t : Nat) (h : pin < 4 ∧ ((s.dev.op ≠ .sleep ∧
    s.w.pinFunc pin ≠ 1) ∨ tst (s.reg WCH_WAKE_CFG_gio) pin = false ∨ tst (s.reg WCH_WAKE_CFG_gio_pol) pin ≠ rising)) :
    ∃ u, exec (.gioWakeEdge pin rising t) s = .next u ∧ u.dev.op = s.dev.op ∧ u.dev.sys = s.dev.sys := by
  obtain ⟨hp, hmiss⟩ := h
  have hno : ¬s.gioCounts pin rising := by
    rintro ⟨hin, hen, hpol⟩
    rcases hmiss with ⟨hop, hfunc⟩ | h | h
    · exact hin.elim hop hfunc
    · exact absurd hen (by rw [h]; decide)
    · exact h hpol
  refine ⟨_, exec_gioWakeEdge s pin rising t hp, ?_⟩
  rw [if_neg hno]
  exact idle_left s t

/-- Settles O49, command by command: a wake is a start, and a start leaves the main domain running with its cause. -/
theorem sleepCommands : Obligations.SleepCommands :=
  ⟨sleep_accepted, sleep_rejected, sleep_unconfirmed, sleepEntryDone_ends, sleepEntryDone_idle,
   fun s t _ => wakeTimerExpire_judged s t, wakeRxMatch_hit, wakeRxMatch_miss, gioWakeEdge_hit, gioWakeEdge_miss⟩

end Sleep

end Sys2Proof.Machine

/-! # The supply -/

namespace Sys2Proof.Machine

section Supply

open SameOff Spot

variable {w v : W} {s : State}

/-! ## The Watchman -/

/-- The Watchman runs once it has started. -/
theorem watchStart_sys (w : W) : w.watchStart.sys = { w.sys with watch := true } := by
  unfold W.watchStart
  split
  next h => rw [← h]
  next => rfl

theorem watchStart_op (w : W) : w.watchStart.op = w.op := by
  unfold W.watchStart
  split <;> rfl

/-- A Watchman at rest that starts has its oscillator stopped until then. -/
theorem watchStart_oscStopped (h : w.sys.watch = false) : w.watchStart.bit RTC_EVENT_osc_stopped = true := by
  unfold W.watchStart
  rw [if_neg (by simp [h])]
  exact W.bit_setB_same (by decide) rfl true

/-- The supplies, and the events held. -/
abbrev SysState.supplies (x : SysState) : Bool × Bool × List HeldEvent := (x.main, x.vbak, x.heldEvs)

/-- What the Watchman that loses its last supply keeps. -/
abbrev SysState.withoutWatch (x : SysState) : Bool × Bool × Bool × List HeldEvent := (x.pfail, x.supplies)

theorem watchLost_sameSys (w : W) : SameSys SysState.withoutWatch w w.watchLost := by
  unfold W.watchLost
  simp

theorem watchLost_watch (w : W) : w.watchLost.sys.watch = false := by
  unfold W.watchLost
  split
  next h => simpa using h
  next => rfl

theorem showWch_offSys (w : W) : SameOff OffSys w w.showWch := by simp

theorem W.bit_setB_other {f g : Fld} (h : f.Apart g) (b : Bool) : (w.setB f b).bit g = w.bit g := W.bit_set_other h _

/-- WCH_STATUS shows the supplies as the module has them. -/
theorem showWch_supplies (w : W) : w.showWch.bit WCH_STATUS_vbak_ok = w.sys.vbak ∧
    w.showWch.bit WCH_STATUS_main_ok = w.sys.main := by
  unfold W.showWch
  extract_lets w1
  have hv : w1.bit WCH_STATUS_vbak_ok = w.sys.vbak := by
    rw [show w1 = _ from rfl, W.bit_setB_other (by decide), W.bit_setB_same (by decide) rfl]
  have hm : w1.bit WCH_STATUS_main_ok = w.sys.main := W.bit_setB_same (by decide) rfl _
  constructor
  · rw [W.bit_setB_other (by decide), W.bit_setB_other (by decide), hv]
  · rw [W.bit_setB_other (by decide), W.bit_setB_other (by decide), hm]

/-! ## The start that COLD waits for -/

/-- What COLD waits for: the supply valid, RESET_N high, no power failure and no hold. -/
def ColdReady (w : W) : Prop :=
  w.op = .cold ∧ w.sys.main = true ∧ w.sys.resetLow = false ∧ w.sys.pfail = false ∧ w.sys.hold = none

/-- The cause of the start that COLD waits for. -/
def SysState.coldCause (x : SysState) : Nat := if x.watch then (if x.nextCause = 7 then 7 else 2) else 1

theorem coldStart_ready (h : ColdReady w) (stage : StartStage) : w.coldStart stage =
    w.watchStart.startUp w.sys.coldCause stage := by
  obtain ⟨hop, hmain, hlow, hpf, hhold⟩ := h
  unfold W.coldStart
  rw [if_neg (by simp [hop, hmain, hlow, hpf, hhold])]
  unfold SysState.coldCause
  cases w.sys.watch <;> rfl

theorem coldStart_waits (h : ¬ColdReady w) (stage : StartStage) : w.coldStart stage = w.watchStart.showWch := by
  unfold W.coldStart
  rw [if_pos]
  by_contra hno
  simp only [not_or] at hno
  obtain ⟨hop, hmain, hlow, hpf, hhold⟩ := hno
  exact h ⟨by simpa using hop, by simpa using hmain, by simpa using hlow, by simpa using hpf, by simpa using hhold⟩

/-- With the start not begun, the Watchman runs and shows the supplies. -/
theorem coldStart_rests (h : ¬ColdReady w) (stage : StartStage) : (w.coldStart stage).op = w.op ∧
    (w.coldStart stage).sys = { w.sys with watch := true } := by
  rw [coldStart_waits h]
  exact ⟨(showWch_offSys _).op_eq.trans (watchStart_op w), (showWch_offSys _).sys_eq.trans (watchStart_sys w)⟩

/-- A start begun from COLD leaves it, with its cause, the next count, and the supplies as they were. -/
theorem coldStart_starts (h : ColdReady w) (stage : StartStage) : (w.coldStart stage).op ≠ .cold ∧
    (w.coldStart stage).sys.cause = w.sys.coldCause ∧ (w.coldStart stage).sys.main = true ∧
    (w.coldStart stage).sys.pfail = false ∧
    (w.coldStart stage).sys.starts = (if w.sys.starts = 0xFFFF then 1 else w.sys.starts + 1) := by
  rw [coldStart_ready h]
  obtain ⟨-, hmain, -, hpf, -⟩ := h
  obtain ⟨hon, hkept⟩ := startUp_starts w.watchStart w.sys.coldCause stage
  rw [watchStart_sys] at hkept
  simp only [Prod.mk.injEq] at hkept
  obtain ⟨hcause, hstarts, hmain', hpf', -⟩ := hkept
  exact ⟨(mainOn_iff.mp hon).1, hcause, hmain'.trans hmain, hpf'.trans hpf, hstarts⟩

/-! ## MAIN_SUPPLY_VALID -/

/-- The state on which the start is judged. -/
def State.supplied (s : State) (t : Nat) : W := (s.w.at_ t).setSys { (s.w.at_ t).sys with main := true }

theorem State.supplied_op (s : State) (t : Nat) : (s.supplied t).op = s.dev.op := State.at_op s t

theorem State.supplied_sys (s : State) (t : Nat) : (s.supplied t).sys = { s.dev.sys with main := true } := by
  rw [State.supplied, State.at_sys]
  rfl

theorem supplied_ready_iff (s : State) (t : Nat) : ColdReady (s.supplied t) ↔
    s.dev.op = .cold ∧ s.dev.sys.resetLow = false ∧ s.dev.sys.pfail = false ∧ s.dev.sys.hold = none := by
  unfold ColdReady
  rw [State.supplied_op, State.supplied_sys]
  simp

theorem mainSupplyValid_starts (s : State) (stage : StartStage) (t : Nat) (h : s.dev.op = .cold ∧ s.dev.sys.resetLow = false ∧
    s.dev.sys.pfail = false ∧ s.dev.sys.hold = none) : ∃ u, exec (.mainSupplyValid stage t) s = .next u ∧ u.dev.op ≠ .cold ∧
      u.dev.sys.cause = (if s.dev.sys.watch then (if s.dev.sys.nextCause = 7 then 7 else 2) else 1) := by
  unfold exec execMainSupplyValid
  refine ⟨_, run_left _ _ _, ?_⟩
  obtain ⟨hop, hcause, -⟩ := coldStart_starts ((supplied_ready_iff s t).mpr h) stage
  rw [State.supplied_sys] at hcause
  exact ⟨hop, hcause⟩

theorem mainSupplyValid_wakes (s : State) (t : Nat) (h : s.dev.op = .cold ∧ s.dev.sys.resetLow = false ∧
    s.dev.sys.pfail = false ∧ s.dev.sys.hold = none) : ∃ u, exec (.mainSupplyValid .waking t) s = .next u ∧
      u.dev.op = .waking ∧ u.dev.sys.booting = true ∧ u.dev.sys.main = true ∧
      u.dev.sys.cause = (if s.dev.sys.watch then (if s.dev.sys.nextCause = 7 then 7 else 2) else 1) ∧
      u.dev.sys.starts = (if s.dev.sys.starts = 0xFFFF then 1 else s.dev.sys.starts + 1) := by
  have hready := (supplied_ready_iff s t).mpr h
  obtain ⟨-, hcause, hmain, -, hstarts⟩ := coldStart_starts hready .waking
  have hbegun := startUp_waking (s.supplied t).watchStart (s.supplied t).sys.coldCause
  rw [← coldStart_ready hready] at hbegun
  rw [State.supplied_sys] at hcause hstarts
  unfold exec execMainSupplyValid
  exact ⟨_, run_left _ _ _, hbegun.op, hbegun.booting, hmain, hcause, hstarts⟩

theorem mainSupplyValid_rests (s : State) (stage : StartStage) (t : Nat) (h : s.dev.op ≠ .cold ∨ s.dev.sys.resetLow = true ∨
    s.dev.sys.pfail = true ∨ s.dev.sys.hold.isSome = true) : ∃ u, exec (.mainSupplyValid stage t) s = .next u ∧
      u.dev.op = s.dev.op ∧ u.dev.sys.main = true ∧ u.dev.sys.watch = true ∧ u.dev.sys.starts = s.dev.sys.starts := by
  have hno : ¬ColdReady (s.supplied t) := by
    rw [supplied_ready_iff]
    rintro ⟨hop, hlow, hpf, hhold⟩
    simp [hop, hlow, hpf, hhold] at h
  obtain ⟨hop, hsys⟩ := coldStart_rests hno stage
  rw [State.supplied_op] at hop
  rw [State.supplied_sys] at hsys
  have hstarts : ((s.supplied t).coldStart stage).sys.starts = s.dev.sys.starts := by rw [hsys]
  unfold exec execMainSupplyValid
  refine ⟨_, run_left _ _ _, hop, ?_⟩
  exact ⟨congrArg SysState.main hsys, congrArg SysState.watch hsys, hstarts⟩

/-! ## DRAM_INIT_DONE -/

/-- DRAM marked ready, before a start under way goes on. -/
def W.dramReady (w : W) : W := (w.setSys { w.sys with dramDone := true }).set MEM_STATUS_dram_init_done 1

theorem dramReady_finishes (h : w.mainOn = true) : w.dramReady.finishStart.sys.dramDone = true ∧
    (w.sys.booting = false → w.dramReady.finishStart.get MEM_STATUS_dram_init_done = 1) := by
  have hkept := (finishStart_startedFrom w.dramReady h).kept
  simp only [Prod.mk.injEq] at hkept
  obtain ⟨-, -, -, -, -, hdram⟩ := hkept
  refine ⟨hdram, fun hb => ?_⟩
  have hrest : w.dramReady.finishStart = w.dramReady := if_pos (by simp [W.dramReady, hb])
  rw [hrest]
  exact W.get_set_same (by decide) 1

theorem dramInitDone_judged (s : State) (t : Nat) : ∃ u, exec (.dramInitDone t) s = .next u ∧ if s.w.mainOn then
    u.dev.sys.dramDone = true ∧ (s.dev.sys.booting = false → u.reg MEM_STATUS_dram_init_done = 1) else
      u.dev.op = s.dev.op ∧ u.dev.sys = s.dev.sys := by
  unfold exec execDramInitDone
  refine ⟨_, run_left _ _ _, ?_⟩
  dsimp only
  rw [W.at_mainOn]
  split
  next hon =>
    obtain ⟨hdram, hshown⟩ := dramReady_finishes ((W.at_mainOn s.w t).trans hon)
    rw [State.at_sys] at hshown
    exact ⟨hdram, hshown⟩
  next => exact idle_left s t

/-! ## MAIN_SUPPLY_LOST and VBAK_LOST -/

/-- The Watchman, the supplies, and the events held. -/
abbrev SysState.powered (x : SysState) : Bool × Bool × Bool × List HeldEvent := (x.watch, x.supplies)

/-- A settings save cut off, for whatever is said of the rest of the system's own part. -/
theorem saveCutOff_same {β : Type} {K : SysState → β} (h : ∀ (x : SysState) (saving : Option SetSave)
      (cut again commit held cmd : Bool) (due : Option Nat), K { x with
        saving := saving, saveCut := cut, saveNext := again, commitNext := commit, saveHeld := held, saveCmd := cmd,
        dirtyUp := due } = K x) (w : W) :
    SameSys K w w.saveCutOff := by
  unfold W.saveCutOff
  extract_lets _ w1
  have h1 : SameSys K w w1 := by
    dsimp only [w1]
    split
    · exact ⟨rfl, h w.sys none true ..⟩
    · exact .refl w
  clear_value w1
  exact h1.trans ⟨rfl, h w1.sys ..⟩

theorem saveCutOff_sameSys (w : W) : SameSys SysState.powered w w.saveCutOff := saveCutOff_same (by intros; rfl) w

/-- COLD, whatever start it waits for: the supplies and the Watchman are as they were. -/
theorem toCold_ends (w : W) (next : Nat) : (w.toCold next).op = .cold ∧ (w.toCold next).sys.powered = w.sys.powered := by
  unfold W.toCold
  extract_lets w1 w2 w3 _ _ w4 _
  have h2 : w2.sys = w1.sys := mainReset_sys w1
  refine ⟨(showWch_offSys _).op_eq, ?_⟩
  rw [(showWch_offSys _).sys_eq]
  show w2.sys.powered = w.sys.powered
  rw [h2, (saveCutOff_sameSys w).kept]

/-- The main domain loses its supply. -/
def W.mainLost (w : W) : W :=
  let w := w.setSys { w.sys with main := false }
  let w := if w.op = .cold ∨ (w.op = .sleep ∧ w.sys.vbak) then w else w.toCold 0
  let w := w.setSys { w.sys with pfail := false }
  (if w.sys.vbak then w else w.watchLost).showWch

theorem mainLost_ends (w : W) : w.mainLost.op = (if w.op = .sleep ∧ w.sys.vbak = true then .sleep else .cold) ∧
    w.mainLost.sys.main = false ∧ w.mainLost.sys.pfail = false ∧ (w.sys.vbak = false → w.mainLost.sys.watch = false) ∧
    w.mainLost.sys.heldEvs = w.sys.heldEvs := by
  unfold W.mainLost
  extract_lets _ w1 w2 _ w3
  have h2 : w2.op = (if w.op = .sleep ∧ w.sys.vbak = true then .sleep else .cold) ∧ w2.sys.powered = w1.sys.powered := by
    dsimp only [w2]
    split
    next h =>
      refine ⟨?_, rfl⟩
      show w.op = _
      rcases (show w.op = .cold ∨ w.op = .sleep ∧ w.sys.vbak = true from h) with h | h
      · rw [h, if_neg (by simp)]
      · rw [if_pos h, h.1]
    next h =>
      have hno : ¬(w.op = .sleep ∧ w.sys.vbak = true) := fun hs => h (.inr hs)
      exact ⟨(toCold_ends w1 0).1.trans (if_neg hno).symm, (toCold_ends w1 0).2⟩
  obtain ⟨hop, hkept⟩ := h2
  obtain ⟨-, hmain, hvbak, hheld⟩ := by simpa only [Prod.mk.injEq] using hkept
  have h3 : w3.op = w2.op ∧ w3.sys.main = false ∧ w3.sys.pfail = false ∧ w3.sys.vbak = w.sys.vbak ∧
      w3.sys.heldEvs = w.sys.heldEvs := ⟨rfl, hmain, rfl, hvbak, hheld⟩
  clear_value w3 w2
  obtain ⟨hop3, hmain3, hpf3, hvbak3, hheld3⟩ := h3
  rw [(showWch_offSys _).op_eq, (showWch_offSys _).sys_eq, hvbak3]
  cases hv : w.sys.vbak with
  | true => exact ⟨hop3.trans (hv ▸ hop), hmain3, hpf3, fun h => absurd h (by decide), hheld3⟩
  | false =>
    obtain ⟨hopl, hkeptl⟩ := watchLost_sameSys w3
    simp only [Prod.mk.injEq] at hkeptl
    obtain ⟨hpfl, hmainl, -, hheldl⟩ := hkeptl
    exact ⟨hopl.trans (hop3.trans (hv ▸ hop)), hmainl.trans hmain3, hpfl.trans hpf3, fun _ => watchLost_watch w3,
      hheldl.trans hheld3⟩

theorem mainSupplyLost_acts (s : State) (t : Nat) (h : s.dev.sys.main = true ∧ s.acts 1 t) :
    ∃ u, exec (.mainSupplyLost t) s = .next u ∧ u.dev.op = (if s.dev.op = .sleep ∧ s.dev.sys.vbak = true then .sleep
      else .cold) ∧ u.dev.sys.main = false ∧ u.dev.sys.pfail = false ∧ (s.dev.sys.vbak = false → u.dev.sys.watch = false) := by
  obtain ⟨hmain, hacts⟩ := h
  obtain ⟨hop, hmainl, hpf, hwatch, hheld⟩ := mainLost_ends (s.onEdge 1 t)
  rw [State.onEdge_op, State.onEdge_sys] at hop
  rw [State.onEdge_sys] at hwatch hheld
  have hev : (s.w.at_ t).sys.main = true := by rw [State.at_sys]; exact hmain
  unfold exec execMainSupplyLost
  exact ⟨_, runEv_acts (act := W.mainLost) hev hacts (hheld.trans hacts.2.2), hop, hmainl, hpf, hwatch⟩

theorem mainSupplyLost_idle (s : State) (t : Nat) (h : s.dev.sys.main = false) :
    ∃ u, exec (.mainSupplyLost t) s = .next u ∧ u.dev.op = s.dev.op ∧ u.dev.sys = s.dev.sys := by
  have hev : (s.w.at_ t).sys.main = false := by rw [State.at_sys]; exact h
  unfold exec execMainSupplyLost
  exact ⟨_, runEv_idle hev, idle_left s t⟩

/-- VBAK goes: with no main supply the Watchman stops, and SLEEP ends. -/
def W.vbakGone (w : W) : W :=
  let w := w.setSys { w.sys with vbak := false }
  let w := if w.sys.main then w else (if w.op = .sleep then w.toCold 0 else w).watchLost
  w.showWch

theorem vbakGone_ends (w : W) : w.vbakGone.sys.vbak = false ∧ w.vbakGone.bit WCH_STATUS_vbak_ok = false ∧
    (if w.sys.main then w.vbakGone.op = w.op ∧ w.vbakGone.sys.watch = w.sys.watch else
      w.vbakGone.sys.watch = false ∧ w.vbakGone.op = (if w.op = .sleep then .cold else w.op)) := by
  unfold W.vbakGone
  extract_lets _ w1 w2
  have hcold : ∀ x : W, (if x.op = .sleep then x.toCold 0 else x).op = (if x.op = .sleep then .cold else x.op) ∧
      (if x.op = .sleep then x.toCold 0 else x).sys.powered = x.sys.powered := fun x => by
    split
    · exact toCold_ends x 0
    · exact ⟨rfl, rfl⟩
  have h2 : w2.sys.vbak = false ∧ (if w.sys.main then w2.op = w.op ∧ w2.sys.watch = w.sys.watch else
      w2.sys.watch = false ∧ w2.op = (if w.op = .sleep then .cold else w.op)) := by
    cases hm : w.sys.main with
    | true =>
      have heq : w2 = w1 := if_pos hm
      rw [heq]
      exact ⟨rfl, rfl, rfl⟩
    | false =>
      have heq : w2 = (if w1.op = .sleep then w1.toCold 0 else w1).watchLost :=
        if_neg fun h => absurd (hm.symm.trans h) (by decide)
      obtain ⟨hopc, hkeptc⟩ := hcold w1
      obtain ⟨hopl, hkeptl⟩ := watchLost_sameSys (if w1.op = .sleep then w1.toCold 0 else w1)
      simp only [Prod.mk.injEq] at hkeptc hkeptl
      rw [heq]
      exact ⟨hkeptl.2.2.1.trans hkeptc.2.2.1, watchLost_watch _, hopl.trans hopc⟩
  clear_value w2
  obtain ⟨hv, hrest⟩ := h2
  rw [(showWch_offSys w2).op_eq, (showWch_offSys w2).sys_eq]
  exact ⟨hv, (showWch_supplies w2).1.trans hv, hrest⟩

theorem vbakLost_ends (s : State) (t : Nat) : ∃ u, exec (.vbakLost t) s = .next u ∧ u.dev.sys.vbak = false ∧
    u.bitOf WCH_STATUS_vbak_ok = false ∧ (if s.dev.sys.main then u.dev.op = s.dev.op ∧ u.dev.sys.watch = s.dev.sys.watch
      else u.dev.sys.watch = false ∧ u.dev.op = (if s.dev.op = .sleep then .cold else s.dev.op)) := by
  obtain ⟨hv, hshown, hrest⟩ := vbakGone_ends (s.w.at_ t)
  rw [State.at_op, State.at_sys] at hrest
  unfold exec execVbakLost
  exact ⟨_, run_left _ _ _, hv, hshown, hrest⟩

/-- The Watchman runs and shows the supplies; one that was at rest has its oscillator stopped until then. -/
theorem watchStart_shown (w : W) : w.watchStart.showWch.op = w.op ∧ w.watchStart.showWch.sys = { w.sys with watch := true } ∧
    w.watchStart.showWch.bit WCH_STATUS_vbak_ok = w.sys.vbak ∧
    (w.sys.watch = false → w.watchStart.showWch.bit RTC_EVENT_osc_stopped = true) := by
  have hshow := showWch_offSys w.watchStart
  have hosc : SameOff (Sparing [] [RTC_EVENT_osc_stopped]) w.watchStart w.watchStart.showWch := by simp
  refine ⟨hshow.op_eq.trans (watchStart_op w), hshow.sys_eq.trans (watchStart_sys w), ?_, fun h => ?_⟩
  · rw [(showWch_supplies _).1, watchStart_sys]
  · rw [hosc.bit_eq List.mem_cons_self, watchStart_oscStopped h]

theorem vbakRise_ends (s : State) (t : Nat) : ∃ u, exec (.vbakRise t) s = .next u ∧ u.dev.op = s.dev.op ∧
    u.dev.sys.vbak = true ∧ u.dev.sys.watch = true ∧ u.bitOf WCH_STATUS_vbak_ok = true ∧
    (s.dev.sys.watch = false → u.bitOf RTC_EVENT_osc_stopped = true) := by
  unfold exec execVbakRise
  refine ⟨_, run_left _ _ _, ?_⟩
  dsimp only [State.left_dev, State.left_bitOf]
  obtain ⟨hop, hsys, hv, hosc⟩ := watchStart_shown ((s.w.at_ t).setSys { (s.w.at_ t).sys with vbak := true })
  refine ⟨hop.trans (State.at_op s t), by rw [hsys]; rfl, by rw [hsys], hv, fun hw => hosc ?_⟩
  show (s.w.at_ t).sys.watch = false
  rw [State.at_sys, hw]

/-! ## PFAIL_N -/

/-- What a save that is cut off leaves. -/
theorem saveCutOff_saving (w : W) : w.saveCutOff.sys.saving = none ∧ w.saveCutOff.sys.pfail = w.sys.pfail := by
  unfold W.saveCutOff
  extract_lets _ w1
  show w1.sys.saving = none ∧ w1.sys.pfail = w.sys.pfail
  dsimp only [w1]
  split
  next => exact ⟨rfl, rfl⟩
  next h => exact ⟨h, rfl⟩

/-- The registers that hold the instant of the last power failure. -/
abbrev failFields : List Fld := [WCH_PF_NS_v, WCH_PF_SEC_LO_v, WCH_PF_SEC_HI_v]

/-- The last measurements, the outputs and the log's tail are no part of what tells of a power failure. -/
theorem gasp_spares (w : W) (t : Nat) : SameOff (Sparing [.op, .sys] (SYS_STATUS_reduced :: SYS_EVENT_pfail :: failFields)) w
    ((w.lastGasp t).outputsOff).tailSave := by
  have h : MayEvaluate (Sparing [.op, .sys] (SYS_STATUS_reduced :: SYS_EVENT_pfail :: failFields)) := by
    simp
    refine ⟨fun q => ?_, fun q => ?_, fun q => ?_⟩ <;> omega
  exact (tailSave_iff (by simp)).mpr ((outputsOff_iff (by simp)).mpr ((lastGasp_iff ⟨h, by simp⟩ t).mpr (refl w)))

/-- What a power failure does where engines serve (R397). -/
def W.reducedMode (w : W) (t : Nat) : W :=
  let w := w.setSys { w.sys with entering := false, wakeWaits := false }
  let w := ((w.set SYS_STATUS_reduced 1).ev SYS_EVENT_pfail 0).record 0x013 0 0 0 0 0
  ((w.lastGasp t).outputsOff).tailSave

theorem reducedMode_ends (w : W) (t : Nat) : (w.reducedMode t).op = w.op ∧
    (w.reducedMode t).sys = { w.sys with entering := false, wakeWaits := false } ∧
    (w.reducedMode t).get SYS_STATUS_reduced = 1 ∧ (w.reducedMode t).bit SYS_EVENT_pfail = true ∧
    ∀ f ∈ failFields, (w.reducedMode t).get f = w.get f := by
  unfold W.reducedMode
  extract_lets _ w1 w2
  have hg := gasp_spares w2 t
  have h2 : SameOff (Sparing [.op, .sys] failFields) w1 w2 := by simp [w2]
  have hred : SameOff (Sparing [] [SYS_STATUS_reduced]) (w1.set SYS_STATUS_reduced 1) w2 := by simp [w2]
  have hev : SameOff (Sparing [] [SYS_EVENT_pfail]) ((w1.set SYS_STATUS_reduced 1).ev SYS_EVENT_pfail 0) w2 := by simp [w2]
  refine ⟨?_, ?_, ?_, ?_, fun f hf => ?_⟩
  · exact (show _ = _ from hg.parts .op (by simp)).trans (show _ = _ from h2.parts .op (by simp))
  · exact (show _ = _ from hg.parts .sys (by simp)).trans (show _ = _ from h2.parts .sys (by simp))
  · rw [hg.get_eq (by simp), hred.get_eq (by simp)]
    exact W.get_set_same (by decide) 1
  · rw [hg.bit_eq (by simp), hev.bit_eq (by simp), W.bit_ev_same (by decide) rfl]
  · exact (hg.get_eq (List.mem_cons_of_mem _ (List.mem_cons_of_mem _ hf))).trans (h2.get_eq hf)

/-- What a power failure does whatever the state: its instant stored, a save cut, the hold-up test ended (R397, R416). -/
def W.failStored (w : W) (t : Nat) : W :=
  let w := w.setSys { w.sys with pfail := true }
  let w := ((w.set WCH_PF_NS_v (t % 1000000000)).set WCH_PF_SEC_LO_v (t / 1000000000 % 2 ^ 32)).set WCH_PF_SEC_HI_v
    (t / 1000000000 / 2 ^ 32)
  let w := if w.mainOn then w.saveCutOff else w
  if w.holdupRuns then w.ev HLT_EVENT_holdup_fail 0 else w

theorem powerFail_eq (w : W) (t : Nat) : w.powerFail t =
    if (w.failStored t).serves then (w.failStored t).reducedMode t else w.failStored t := by
  unfold W.powerFail W.failStored W.reducedMode
  rfl

theorem failStored_ends (w : W) (t : Nat) : (w.failStored t).op = w.op ∧ (w.failStored t).sys.pfail = true ∧
    (w.mainOn = true → (w.failStored t).sys.saving = none) ∧ (w.failStored t).get WCH_PF_NS_v = t % 1000000000 ∧
    (w.failStored t).get WCH_PF_SEC_LO_v = t / 1000000000 % 2 ^ 32 ∧
    (w.failStored t).get WCH_PF_SEC_HI_v = t / 1000000000 / 2 ^ 32 % 2 ^ 16 := by
  unfold W.failStored
  extract_lets _ w1 w2 w3
  have h2 : w2.get WCH_PF_NS_v = t % 1000000000 ∧ w2.get WCH_PF_SEC_LO_v = t / 1000000000 % 2 ^ 32 ∧
      w2.get WCH_PF_SEC_HI_v = t / 1000000000 / 2 ^ 32 % 2 ^ 16 := by
    dsimp only [w2]
    refine ⟨?_, ?_, W.get_set_same (by decide) _⟩
    · rw [W.get_set_other (by decide), W.get_set_other (by decide), W.get_set_same (by decide)]
      exact Nat.mod_eq_of_lt ((Nat.mod_lt t (by decide)).trans (by decide))
    · rw [W.get_set_other (by decide), W.get_set_same (by decide), Nat.mod_mod]
  obtain ⟨hns, hlo, hhi⟩ := h2
  have h3 : w3.op = w.op ∧ w3.sys.pfail = true ∧ (w.mainOn = true → w3.sys.saving = none) := by
    dsimp only [w3]
    split
    next => exact ⟨(saveCutOff_sameSys w2).op, (saveCutOff_saving w2).2, fun _ => (saveCutOff_saving w2).1⟩
    next h => exact ⟨rfl, rfl, fun hon => absurd hon h⟩
  obtain ⟨hop, hpf, hsave⟩ := h3
  have hregs : SameOff (Sparing [] failFields) w2 (if w3.holdupRuns then w3.ev HLT_EVENT_holdup_fail 0 else w3) := by
    simp [w3]
  have h4 : SameOff OffSys w3 (if w3.holdupRuns then w3.ev HLT_EVENT_holdup_fail 0 else w3) := by simp
  rw [h4.op_eq, h4.sys_eq, hregs.get_eq (by simp), hregs.get_eq (by simp), hregs.get_eq (by simp)]
  exact ⟨hop, hpf, hsave, hns, hlo, hhi⟩

/-- A power failure stores its instant, cuts a save and, where engines serve, sets reduced and pfail. -/
theorem powerFail_ends (w : W) (t : Nat) : (w.powerFail t).op = w.op ∧ (w.powerFail t).sys.pfail = true ∧
    (w.powerFail t).get WCH_PF_NS_v = t % 1000000000 ∧ (w.powerFail t).get WCH_PF_SEC_LO_v = t / 1000000000 % 2 ^ 32 ∧
    (w.powerFail t).get WCH_PF_SEC_HI_v = t / 1000000000 / 2 ^ 32 % 2 ^ 16 ∧
    (w.mainOn = true → (w.powerFail t).sys.saving = none) ∧
    (w.serves = true → (w.powerFail t).get SYS_STATUS_reduced = 1 ∧ (w.powerFail t).bit SYS_EVENT_pfail = true ∧
      (w.powerFail t).sys.entering = false) := by
  obtain ⟨hop, hpf, hsave, hns, hlo, hhi⟩ := failStored_ends w t
  obtain ⟨hopr, hsysr, hred, hev, hkeep⟩ := reducedMode_ends (w.failStored t) t
  have hserves : (w.failStored t).serves = w.serves := by rw [W.serves, W.serves, hop]
  rw [powerFail_eq, hserves]
  cases w.serves with
  | false => exact ⟨hop, hpf, hns, hlo, hhi, hsave, fun h => absurd h (by decide)⟩
  | true =>
    exact ⟨hopr.trans hop, by rw [if_pos rfl, hsysr, ← hpf], (hkeep _ (by simp)).trans hns, (hkeep _ (by simp)).trans hlo,
      (hkeep _ (by simp)).trans hhi, fun hon => by rw [if_pos rfl, hsysr, ← hsave hon], fun _ => ⟨hred, hev, by
        rw [if_pos rfl, hsysr]⟩⟩

/-- A power failure, however it is told. -/
theorem powerFail_judged (s : State) (t : Nat) (u : State) (hu : u = s.left ((s.w.at_ t).powerFail t)) : u.dev.op = s.dev.op ∧
    u.dev.sys.pfail = true ∧ u.reg WCH_PF_NS_v = t % 1000000000 ∧ u.reg WCH_PF_SEC_LO_v = t / 1000000000 % 2 ^ 32 ∧
    u.reg WCH_PF_SEC_HI_v = t / 1000000000 / 2 ^ 32 % 2 ^ 16 ∧ (s.w.mainOn = true → u.dev.sys.saving = none) ∧
    (s.w.serves = true → u.reg SYS_STATUS_reduced = 1 ∧ u.bitOf SYS_EVENT_pfail = true ∧ u.dev.sys.entering = false) := by
  obtain ⟨hop, hrest⟩ := powerFail_ends (s.w.at_ t) t
  rw [State.at_op] at hop
  rw [W.at_mainOn, W.at_serves] at hrest
  subst hu
  exact ⟨hop, hrest⟩

theorem pfailNFall_fails (s : State) (t : Nat) : ∃ u, exec (.pfailNFall t) s = .next u ∧ u.dev.op = s.dev.op ∧
    u.dev.sys.pfail = true ∧ u.reg WCH_PF_NS_v = t % 1000000000 ∧ u.reg WCH_PF_SEC_LO_v = t / 1000000000 % 2 ^ 32 ∧
    u.reg WCH_PF_SEC_HI_v = t / 1000000000 / 2 ^ 32 % 2 ^ 16 ∧ (s.w.mainOn = true → u.dev.sys.saving = none) ∧
    (s.w.serves = true → u.reg SYS_STATUS_reduced = 1 ∧ u.bitOf SYS_EVENT_pfail = true ∧ u.dev.sys.entering = false) := by
  unfold exec execPfailNFall
  exact ⟨_, run_left _ _ _, powerFail_judged s t _ rfl⟩

theorem overvoltageLockout_fails (s : State) (t : Nat) : ∃ u, exec (.overvoltageLockout t) s = .next u ∧
    u.dev.op = s.dev.op ∧ u.dev.sys.pfail = true ∧ u.reg WCH_PF_NS_v = t % 1000000000 ∧
    u.reg WCH_PF_SEC_LO_v = t / 1000000000 % 2 ^ 32 ∧ u.reg WCH_PF_SEC_HI_v = t / 1000000000 / 2 ^ 32 % 2 ^ 16 ∧
    (s.w.mainOn = true → u.dev.sys.saving = none) ∧
    (s.w.serves = true → u.reg SYS_STATUS_reduced = 1 ∧ u.bitOf SYS_EVENT_pfail = true ∧ u.dev.sys.entering = false) := by
  unfold exec execOvervoltageLockout
  exact ⟨_, run_left _ _ _, powerFail_judged s t _ rfl⟩

/-- The state on which the end of a power failure is judged. -/
def State.returned (s : State) (t : Nat) : W := (s.w.at_ t).setSys { (s.w.at_ t).sys with pfail := false, main := true }

theorem State.returned_op (s : State) (t : Nat) : (s.returned t).op = s.dev.op := State.at_op s t

theorem State.returned_sys (s : State) (t : Nat) :
    (s.returned t).sys = { s.dev.sys with pfail := false, main := true } := by
  rw [State.returned, State.at_sys]
  rfl

/-- What the end of a power failure does. -/
def W.supplyReturned (w : W) : W :=
  if w.op = .cold then w.coldStart .entry
  else if w.bit SYS_STATUS_reduced ∨ w.op = .waking ∨ w.op = .restoring then w.startUp 2 .entry
  else w.showWch

theorem exec_pfailNRise {s : State} (t : Nat) (h : s.dev.sys.pfail = true) :
    exec (.pfailNRise t) s = .next (s.left (s.returned t).supplyReturned) := by
  show execPfailNRise t s = _
  refine (run_left _ _ _).trans (congrArg (fun v : W => Host.Outcome.next (s.left v)) (if_neg ?_))
  rw [State.at_sys, h]
  decide

/-- Whether the supply's return begins a start. -/
abbrev State.restarts (s : State) : Prop := s.bitOf SYS_STATUS_reduced = true ∨ s.dev.op = .waking ∨ s.dev.op = .restoring

theorem returned_restarts_iff (s : State) (t : Nat) : ((s.returned t).bit SYS_STATUS_reduced = true ∨
    (s.returned t).op = .waking ∨ (s.returned t).op = .restoring) ↔ s.restarts := by
  have hred : (s.returned t).bit SYS_STATUS_reduced = s.bitOf SYS_STATUS_reduced := W.at_bit _ t (by decide)
  rw [hred, State.returned_op]

theorem pfailNRise_restarts (s : State) (t : Nat) (h : s.dev.sys.pfail = true ∧ s.dev.op ≠ .cold ∧
    (s.bitOf SYS_STATUS_reduced = true ∨ s.dev.op = .waking ∨ s.dev.op = .restoring)) :
    ∃ u, exec (.pfailNRise t) s = .next u ∧ u.dev.sys.pfail = false ∧ u.dev.sys.cause = 2 ∧ u.dev.op ≠ .cold ∧
      u.dev.sys.starts = (if s.dev.sys.starts = 0xFFFF then 1 else s.dev.sys.starts + 1) := by
  obtain ⟨hpf, hop, hred⟩ := h
  refine ⟨_, exec_pfailNRise t hpf, ?_⟩
  have heq : (s.returned t).supplyReturned = (s.returned t).startUp 2 .entry := by
    unfold W.supplyReturned
    rw [if_neg (by rwa [State.returned_op]), if_pos ((returned_restarts_iff s t).mpr hred)]
  obtain ⟨hon, hkept⟩ := startUp_starts (s.returned t) 2 .entry
  rw [State.returned_sys] at hkept
  simp only [Prod.mk.injEq] at hkept
  obtain ⟨hcause, hstarts, -, hpf', -⟩ := hkept
  rw [heq]
  exact ⟨hpf', hcause, (mainOn_iff.mp hon).1, hstarts⟩

theorem pfailNRise_cold (s : State) (t : Nat) (h : s.dev.sys.pfail = true ∧ s.dev.op = .cold) :
    ∃ u, exec (.pfailNRise t) s = .next u ∧ u.dev.sys.pfail = false ∧ u.dev.sys.main = true ∧
      (if s.dev.sys.resetLow = false ∧ s.dev.sys.hold = none then u.dev.op ≠ .cold ∧
        u.dev.sys.cause = (if s.dev.sys.watch then (if s.dev.sys.nextCause = 7 then 7 else 2) else 1) else
        u.dev.op = .cold) := by
  obtain ⟨hpf, hop⟩ := h
  refine ⟨_, exec_pfailNRise t hpf, ?_⟩
  have heq : (s.returned t).supplyReturned = (s.returned t).coldStart .entry := if_pos ((State.returned_op s t).trans hop)
  have hready : ColdReady (s.returned t) ↔ s.dev.sys.resetLow = false ∧ s.dev.sys.hold = none := by
    unfold ColdReady
    rw [State.returned_op, State.returned_sys]
    simp [hop]
  rw [heq]
  split
  next hr =>
    obtain ⟨hop', hcause, hmain, hpf', -⟩ := coldStart_starts (hready.mpr hr) .entry
    rw [State.returned_sys] at hcause
    exact ⟨hpf', hmain, hop', hcause⟩
  next hr =>
    obtain ⟨hop', hsys⟩ := coldStart_rests (mt hready.mp hr) .entry
    rw [State.returned_sys] at hsys
    rw [State.returned_op] at hop'
    exact ⟨congrArg SysState.pfail hsys, congrArg SysState.main hsys, hop'.trans hop⟩

theorem pfailNRise_clears (s : State) (t : Nat) (h : s.dev.sys.pfail = true ∧ s.dev.op ≠ .cold ∧
    s.bitOf SYS_STATUS_reduced = false ∧ s.dev.op ≠ .waking ∧ s.dev.op ≠ .restoring) :
    ∃ u, exec (.pfailNRise t) s = .next u ∧ u.dev.sys.pfail = false ∧ u.dev.op = s.dev.op ∧
      u.bitOf WCH_STATUS_main_ok = true := by
  obtain ⟨hpf, hop, hred, hwake, hrest⟩ := h
  refine ⟨_, exec_pfailNRise t hpf, ?_⟩
  have hno : ¬s.restarts := by
    rintro (h | h | h)
    · exact absurd h (by rw [hred]; decide)
    · exact hwake h
    · exact hrest h
  have heq : (s.returned t).supplyReturned = (s.returned t).showWch := by
    unfold W.supplyReturned
    rw [if_neg (by rwa [State.returned_op]), if_neg (mt (returned_restarts_iff s t).mp hno)]
  have hshow := showWch_offSys (s.returned t)
  have hmain := (showWch_supplies (s.returned t)).2
  rw [State.returned_sys] at hmain
  rw [heq]
  exact ⟨(congrArg SysState.pfail hshow.sys_eq).trans rfl, hshow.op_eq.trans (State.returned_op s t), hmain⟩

theorem pfailNRise_idle (s : State) (t : Nat) (h : s.dev.sys.pfail = false) :
    ∃ u, exec (.pfailNRise t) s = .next u ∧ u.dev.op = s.dev.op ∧ u.dev.sys = s.dev.sys := by
  have hno : (!(s.w.at_ t).sys.pfail) = true := by rw [State.at_sys, h]; rfl
  unfold exec execPfailNRise
  refine ⟨_, run_left _ _ _, ?_⟩
  dsimp only
  rw [if_pos hno]
  exact idle_left s t

/-! ## The hold-up bank and the SFP+ cages -/

/-- An event that is recorded leaves its bit set. -/
theorem bit_evRec_same {f : Fld} (hlo : f.lo + 1 ≤ 32) (hw : f.width = 1) (hr : MayRecord (Sparing [] [f])) :
    (w.evRec f 0).bit f = true := by
  have hrec : SameOff (Sparing [] [f]) (w.ev f 0) (w.evRec f 0) := by
    unfold W.evRec
    exact (record_iff hr _ _ _ _ _ _).mpr (refl _)
  rw [hrec.bit_eq List.mem_cons_self, W.bit_ev_same hlo hw]

theorem holdupChargerStop_ends (s : State) (t : Nat) : ∃ u, exec (.holdupChargerStop t) s = .next u ∧ u.dev.op = s.dev.op ∧
    (if s.w.mainOn then u.dev.sys.chargerOff = true ∧ u.bitOf HLT_EVENT_holdup_fail = true else
      u.dev.sys = s.dev.sys) := by
  unfold exec execHoldupChargerStop
  refine ⟨_, run_left _ _ _, ?_⟩
  dsimp only
  rw [W.at_mainOn]
  by_cases hon : s.w.mainOn = true
  · rw [if_pos hon, if_pos hon]
    have hoff : ∀ x : W, SameOff OffSys x (x.evRec HLT_EVENT_holdup_fail 0) := fun x => by simp
    refine ⟨(hoff _).op_eq.trans (State.at_op s t), (congrArg SysState.chargerOff (hoff _).sys_eq).trans rfl, ?_⟩
    exact bit_evRec_same (by decide) rfl (by simp)
  · rw [if_neg hon, if_neg hon]
    exact idle_left s t

theorem sfpOvercurrent_ends (s : State) (p : Nat) (h : p < 6) : ∃ u, exec (.sfpOvercurrent p) s = .next u ∧
    if p < 4 ∧ s.w.mainOn = true then u.reg (NET_PORT_STAT_present p) = 0 ∧ u.reg (NET_PORT_STAT_link_up p) = 0 ∧
      u.reg (NET_PORT_STAT_speed p) = 0 else u.dev.regs = s.dev.regs := by
  have hwf : wfSfpOvercurrent p = true := decide_eq_true h
  show ∃ u, execSfpOvercurrent p s = .next u ∧ _
  unfold execSfpOvercurrent
  rw [hwf]
  refine ⟨_, run_left _ _ _, ?_⟩
  have hcage : (s.w.mainOn && decide (p < 4)) = true ↔ p < 4 ∧ s.w.mainOn = true := by simp [and_comm]
  by_cases hp : p < 4 ∧ s.w.mainOn = true
  · rw [if_pos hp, if_pos (hcage.mpr hp)]
    refine ⟨?_, ?_, W.get_set_same (by simp) 0⟩
    · exact (W.get_set_other (by simp) _).trans ((W.get_set_other (by simp) _).trans (W.get_set_same (by simp) 0))
    · exact (W.get_set_other (by simp) _).trans (W.get_set_same (by simp) 0)
  · rw [if_neg hp, if_neg (mt hcage.mp hp)]
    rfl

/-- Settles O45, command by command: a start is followed to its stage, a loss of supply to COLD or SLEEP. -/
theorem supplyCommands : Obligations.SupplyCommands :=
  ⟨mainSupplyValid_wakes, mainSupplyValid_starts, mainSupplyValid_rests, fun s t _ => dramInitDone_judged s t,
   mainSupplyLost_acts, mainSupplyLost_idle, fun s t _ => pfailNFall_fails s t, fun s t _ => overvoltageLockout_fails s t,
   pfailNRise_restarts, pfailNRise_cold, pfailNRise_clears, pfailNRise_idle, fun s t _ => vbakRise_ends s t,
   fun s t _ => vbakLost_ends s t, fun s t _ => holdupChargerStop_ends s t, sfpOvercurrent_ends⟩

end Supply

end Sys2Proof.Machine

/-! # LNV_STATUS over a pattern reload

A pattern reload ends in SERVING or DEGRADED as LNV_STATUS shows the lanes (R392), after the settings copy and the pattern have
been put back. Every operation on that way leaves LNV_STATUS alone. The frame lemmas of the operations that store in memory or
swap a pattern ask for the whole register file, so each is stated here once more for the footprint of everything but LNV_STATUS;
what they turn on is where the registers of the arrays lie. -/

namespace Sys2Proof.Machine

section Lanes

open SameOff Spot

/-- The word that shows the lanes, LNV_STATUS. -/
@[simp] abbrev laneWord : Nat := 0x400F0004

/-- The footprint of everything but LNV_STATUS. -/
def OffLane : Spot → Prop
  | fld f => f.addr ≠ laneWord
  | _ => True

@[simp] theorem offLane_part (p : Part) : OffLane (part p) := trivial
@[simp] theorem offLane_byte (a : Nat) : OffLane (byte a) := trivial
@[simp] theorem offLane_zero : OffLane zero := trivial
@[simp] theorem offLane_fld (f : Fld) : OffLane (fld f) ↔ f.addr ≠ laneWord := Iff.rfl

/-! ## Where the registers of an array lie -/

/-- An array misses LNV_STATUS when it lies above it, or when its stride does not lead there. -/
@[simp ↓] theorem offLane_array (a k n lo width : Nat) : OffLane (fld ⟨a + k * n, lo, width⟩) ↔
      laneWord < a ∨ a % k ≠ laneWord % k ∨ a + k * n ≠ laneWord := by
  refine ⟨fun h => .inr (.inr h), fun h he => ?_⟩
  have he : a + k * n = laneWord := he
  rcases h with h | h | h
  · omega
  · rw [← he, Nat.add_mul_mod_self_left] at h
    exact h rfl
  · exact h he

theorem leNat_lt (l : List Byte) : leNat l < 256 ^ l.length := by
  induction l with
  | nil => exact Nat.one_pos
  | cons b t ih =>
    have hb : b.toNat < 256 := b.isLt
    rw [leNat, List.length_cons, Nat.pow_succ]
    omega

theorem le_lt (b : List Byte) (at_ n : Nat) : le b at_ n < 256 ^ n :=
  (leNat_lt _).trans_le (Nat.pow_le_pow_right (by decide) (List.length_take_le ..))

/-- The status of a group of the Aligner, whose number is a byte, lies below LNV_STATUS. -/
theorem offLane_groupStatus (i : List Byte) (lo width : Nat) : OffLane (fld ⟨0x40061004 + 0x40 * gNum i, lo, width⟩) := by
  have hi : gNum i < 256 ^ 1 := le_lt i 0 1
  show 0x40061004 + 0x40 * gNum i ≠ 0x400F0004
  omega

/-! ## The operations that store in memory or swap a pattern, in the order of the model -/

namespace SameLane

variable {w v : W}

/-- A fold over elements whose steps stay in the footprint. -/
theorem foldl_mem {α : Type} {f : W → α → W} {l : List α} (h : ∀ (x : W), ∀ e ∈ l, SameOff OffLane x (f x e)) (w : W) :
    SameOff OffLane w (l.foldl f w) := by
  induction l generalizing w with
  | nil => exact refl w
  | cons e t ih =>
    exact (h w e List.mem_cons_self).trans (ih (fun x a ha => h x a (List.mem_cons_of_mem e ha)) _)

@[simp ↓] theorem waitFlush_iff (stuck : List Nat) (l : List (Nat × Option Nat × VTag × Nat × TxBody)) :
    SameOff OffLane w (W.waitFlush stuck l v) ↔ SameOff OffLane w v := by
  refine drop_iff ?_
  induction l generalizing stuck v with
  | nil => exact refl v
  | cons x t ih =>
    unfold W.waitFlush
    split
    next u e =>
      split at e
      · cases e
      · exact (sendFrom_sameOff (by simp) e).trans (((with_net_iff (by simp) _).mpr (refl u)).trans (ih stuck))
    · exact ih _

@[simp ↓] theorem netDrain_iff (producer n : Nat) :
    SameOff OffLane w (W.netDrain producer n v) ↔ SameOff OffLane w v := by
  refine drop_iff ?_
  induction n generalizing v with
  | zero => exact refl v
  | succ n ih =>
    unfold W.netDrain
    split
    · exact .trans (by simp) ih
    · exact refl v

@[simp ↓] theorem hostLanes_iff (l : List HostFrame) : SameOff OffLane w (W.hostLanes l v) ↔ SameOff OffLane w v := by
  refine drop_iff ?_
  induction l generalizing v with
  | nil => exact refl v
  | cons x t ih =>
    unfold W.hostLanes
    split
    · exact ih
    · split
      · exact .trans (by simp) ih
      · exact refl v

@[simp ↓] theorem hostDrain_iff : SameOff OffLane w v.hostDrain ↔ SameOff OffLane w v := hostLanes_iff _

@[simp ↓] theorem setCache_iff (c : List (Nat × CacheLine)) :
    SameOff OffLane w (v.setCache c) ↔ SameOff OffLane w v := by
  refine drop_iff ?_
  unfold W.setCache
  simp

@[simp ↓] theorem writeBack_iff (i : Nat) : SameOff OffLane w (v.writeBack i) ↔ SameOff OffLane w v := by
  refine drop_iff ?_
  unfold W.writeBack
  dsimp only
  repeat' split
  all_goals simp

@[simp ↓] theorem dropLine_iff (i : Nat) : SameOff OffLane w (v.dropLine i) ↔ SameOff OffLane w v := by
  refine drop_iff ?_
  unfold W.dropLine
  simp

@[simp ↓] theorem fetchEnt_iff (i : Nat) : SameOff OffLane w (v.fetchEnt i) ↔ SameOff OffLane w v := by
  refine drop_iff ?_
  unfold W.fetchEnt
  dsimp only
  repeat' split
  all_goals simp

@[simp ↓] theorem setEnt_iff (i : Nat) (f : List Byte → List Byte) :
    SameOff OffLane w (v.setEnt i f) ↔ SameOff OffLane w v := by
  refine drop_iff ?_
  unfold W.setEnt
  dsimp only
  split <;> simp

@[simp ↓] theorem showSilent_iff : SameOff OffLane w v.showSilent ↔ SameOff OffLane w v := by
  refine drop_iff ?_
  unfold W.showSilent
  simp

@[simp ↓] theorem setChain_iff (i : Nat) (z : Head) (st : Nat) :
    SameOff OffLane w (v.setChain i z st) ↔ SameOff OffLane w v := by
  refine drop_iff ?_
  unfold W.setChain
  simp

@[simp ↓] theorem tailEnt_iff (e : Nat) : SameOff OffLane w (v.tailEnt e) ↔ SameOff OffLane w v := by
  refine drop_iff ?_
  unfold W.tailEnt
  simp

@[simp ↓] theorem ingEnable_iff (i : Nat) : SameOff OffLane w (v.ingEnable i) ↔ SameOff OffLane w v := by
  refine drop_iff ?_
  unfold W.ingEnable
  simp

/-- The drop codes in use have counters below LNV_STATUS. -/
@[simp ↓] theorem dropFrame_iff {code : Nat} (h : code ≤ 12) (head : Option Nat) :
    SameOff OffLane w (v.dropFrame code head) ↔ SameOff OffLane w v := by
  have hcode : OffLane (fld (ING_DROP_CNT_v code)) := by
    show 0x40050040 + 4 * code ≠ 0x400F0004
    omega
  refine drop_iff ?_
  unfold W.dropFrame
  split <;> simp [bump_iff hcode]

@[simp ↓] theorem sendChecked_iff (cs : List Checked) : SameOff OffLane w (v.sendChecked cs) ↔ SameOff OffLane w v := by
  refine drop_iff ?_
  unfold W.sendChecked
  simp

@[simp ↓] theorem acceptFrame_iff (i : Nat) (z h' : Head) (test : Bool) (cs : List Checked) (arrival instant : Nat) :
    SameOff OffLane w (v.acceptFrame i z h' test cs arrival instant) ↔ SameOff OffLane w v := by
  refine drop_iff ?_
  unfold W.acceptFrame
  simp

theorem preCheck_le {d : List Byte} {c : Nat} (h : W.preCheck d = some c) : c ≤ 4 := by
  unfold W.preCheck at h
  dsimp only at h
  repeat' split at h
  all_goals cases h
  all_goals decide

theorem histCheck_le (h : Head) (k : Nat) : (W.histCheck h k).1 ≤ 12 := by
  unfold W.histCheck
  repeat' split
  all_goals simp

theorem ingressTry_sameLane {u : W} {f : C37Frame} (e : v.ingressTry f = some u) : SameOff OffLane v u := by
  unfold W.ingressTry at e
  dsimp only at e
  repeat' split at e
  all_goals cases e
  any_goals simp
  next hc => exact (dropFrame_iff ((preCheck_le hc).trans (by decide)) none).mpr (refl v)
  next hc =>
    have hle := congrArg Prod.fst hc ▸ histCheck_le ..
    exact (dropFrame_iff hle _).mpr (by simp)

theorem ingressOne_sameLane {u : W} {f : C37Frame} (e : v.ingressOne f = some u) : SameOff OffLane v u :=
  (getD_sameOff (fun _ k => cross_sameOff (by simp) k) (refl v)).trans (ingressTry_sameLane e)

@[simp ↓] theorem ingHeld_iff (l : List HostFrame) : SameOff OffLane w (W.ingHeld l v) ↔ SameOff OffLane w v := by
  refine drop_iff ?_
  induction l generalizing v with
  | nil => exact refl v
  | cons x t ih =>
    unfold W.ingHeld
    split
    · exact ih
    · split
      next e => exact (ingressOne_sameLane e).trans (.trans (by simp) ih)
      · exact refl v

@[simp ↓] theorem hostRelease_iff : SameOff OffLane w v.hostRelease ↔ SameOff OffLane w v :=
  (ingHeld_iff _).trans hostDrain_iff

@[simp ↓] theorem notify_iff (b : List Byte) : SameOff OffLane w (v.notify b) ↔ SameOff OffLane w v := by
  refine drop_iff ?_
  unfold W.notify
  split
  · exact refl v
  · simp

@[simp ↓] theorem putHeader_iff (addr : Nat) (z : List Byte) :
    SameOff OffLane w (v.putHeader addr z) ↔ SameOff OffLane w v := by
  refine drop_iff ?_
  unfold W.putHeader
  simp

@[simp ↓] theorem takeSlot_fst_iff (i : List Byte) : SameOff OffLane w (v.takeSlot i).1 ↔ SameOff OffLane w v := by
  refine drop_iff ?_
  unfold W.takeSlot
  simp

@[simp ↓] theorem marker_iff (i : List Byte) : SameOff OffLane w (v.marker i) ↔ SameOff OffLane w v := by
  refine drop_iff ?_
  unfold W.marker
  dsimp only
  split
  · exact .trans (v := (v.takeSlot i).1) (by simp) (by simp)
  · exact refl v

@[simp ↓] theorem outSend_iff (n : Nat) (s : AlnSet) : SameOff OffLane w (v.outSend n s) ↔ SameOff OffLane w v := by
  refine drop_iff ?_
  unfold W.outSend
  dsimp only
  simp

@[simp ↓] theorem outputs_iff (g : Nat) (s : AlnSet) : SameOff OffLane w (v.outputs g s) ↔ SameOff OffLane w v := by
  refine drop_iff ?_
  unfold W.outputs
  split <;> simp

@[simp ↓] theorem closeSet_iff (i : List Byte) (s : AlnSet) (reason : Nat) :
    SameOff OffLane w (v.closeSet i s reason) ↔ SameOff OffLane w v := by
  refine drop_iff ?_
  unfold W.closeSet
  dsimp only
  simp

@[simp ↓] theorem closeReady_iff (i : List Byte) (n : Nat) :
    SameOff OffLane w (W.closeReady i n v) ↔ SameOff OffLane w v := by
  refine drop_iff ?_
  induction n generalizing v with
  | zero => exact refl v
  | succ n ih =>
    unfold W.closeReady
    dsimp only
    split
    · exact refl v
    · repeat' split
      · exact refl v
      · exact .trans (by simp) ih
      · exact .trans (by simp) ih
      · exact refl v

@[simp ↓] theorem closeDue_iff (i : List Byte) : SameOff OffLane w (v.closeDue i) ↔ SameOff OffLane w v :=
  closeReady_iff i _

@[simp ↓] theorem closeAll_iff (i : List Byte) (reason : Nat) :
    SameOff OffLane w (v.closeAll i reason) ↔ SameOff OffLane w v := by
  refine drop_iff ?_
  unfold W.closeAll
  simp

@[simp ↓] theorem putMembers_iff (i : List Byte) (s : AlnSet) :
    SameOff OffLane w (v.putMembers i s) ↔ SameOff OffLane w v := by
  refine drop_iff ?_
  unfold W.putMembers
  simp

@[simp ↓] theorem showGroup_iff (i : List Byte) : SameOff OffLane w (v.showGroup i) ↔ SameOff OffLane w v :=
  SameOff.showGroup_iff
    ⟨offLane_groupStatus i _ _, offLane_groupStatus i _ _, offLane_groupStatus i _ _, offLane_groupStatus i _ _⟩

@[simp ↓] theorem alnRefresh_iff : SameOff OffLane w v.alnRefresh ↔ SameOff OffLane w v := by
  refine drop_iff ?_
  unfold W.alnRefresh
  refine foldl (fun x i => ?_) _ _
  simp

@[simp ↓] theorem alnRun_iff (i : List Byte) : SameOff OffLane w (v.alnRun i) ↔ SameOff OffLane w v := by
  refine drop_iff ?_
  unfold W.alnRun
  dsimp only
  simp

@[simp ↓] theorem alnRunAll_iff : SameOff OffLane w v.alnRunAll ↔ SameOff OffLane w v := by
  refine drop_iff ?_
  unfold W.alnRunAll
  simp

@[simp ↓] theorem queFreed_iff : SameOff OffLane w v.queFreed ↔ SameOff OffLane w v := by
  refine drop_iff ?_
  unfold W.queFreed
  simp

@[simp ↓] theorem showSmp_iff : SameOff OffLane w v.showSmp ↔ SameOff OffLane w v := by
  refine drop_iff ?_
  unfold W.showSmp
  simp

@[simp ↓] theorem smpRefresh_iff : SameOff OffLane w v.smpRefresh ↔ SameOff OffLane w v := by
  refine drop_iff ?_
  unfold W.smpRefresh
  simp

/-- Words stored in the registers of an array, as far as the bytes go. -/
theorem setWords_sameLane {f : Nat → Fld} {b : List Byte} (h : ∀ k < b.length / 4, OffLane (fld (f k))) :
    SameOff OffLane v (v.setWords f b) := by
  unfold W.setWords
  exact foldl_mem (fun x k hk => (set_iff (h k (List.mem_range.mp hk)) _).mpr (refl x)) v

@[simp ↓] theorem setLanCache_iff (c : List (Nat × CacheLine)) :
    SameOff OffLane w (v.setLanCache c) ↔ SameOff OffLane w v := by
  refine drop_iff ?_
  unfold W.setLanCache
  simp

@[simp ↓] theorem lanBack_iff (g : Nat) : SameOff OffLane w (v.lanBack g) ↔ SameOff OffLane w v := by
  refine drop_iff ?_
  unfold W.lanBack
  repeat' split
  all_goals simp

@[simp ↓] theorem lanDrop_iff (g : Nat) : SameOff OffLane w (v.lanDrop g) ↔ SameOff OffLane w v := by
  refine drop_iff ?_
  unfold W.lanDrop
  simp

@[simp ↓] theorem lanFetch_iff (g : Nat) : SameOff OffLane w (v.lanFetch g) ↔ SameOff OffLane w v := by
  refine drop_iff ?_
  unfold W.lanFetch
  dsimp only
  repeat' split
  all_goals simp

@[simp ↓] theorem setLan_iff (g : Nat) (f : List Byte → List Byte) :
    SameOff OffLane w (v.setLan g f) ↔ SameOff OffLane w v := by
  refine drop_iff ?_
  unfold W.setLan
  dsimp only
  split <;> simp

theorem mem_ledStrings {n : Nat} (h : n ∈ v.ledStrings) : n < 16 := List.mem_range.mp (List.mem_filter.mp h).1

/-- The status of a string, of which there are 16, lies below LNV_STATUS. -/
theorem offLane_strStatus {n : Nat} (h : n < 16) (lo width : Nat) : OffLane (fld ⟨0x400D0104 + 0x10 * n, lo, width⟩) := by
  show 0x400D0104 + 0x10 * n ≠ 0x400F0004
  omega

@[simp ↓] theorem strStep_iff {n : Nat} (h : n < 16) : SameOff OffLane w (v.strStep n) ↔ SameOff OffLane w v := by
  have hn : ¬0x400D0104 + 0x10 * n = 0x400F0004 := by omega
  exact SameOff.strStep_iff (by simp [hn])

@[simp ↓] theorem ledRefresh_iff : SameOff OffLane w v.ledRefresh ↔ SameOff OffLane w v := by
  refine drop_iff ?_
  unfold W.ledRefresh
  refine .trans (foldl_mem (fun x n hn => (strStep_iff (mem_ledStrings (v := v) hn)).mpr (refl x)) v) ?_
  simp

/-- A trim factor of one of the four colours misses LNV_STATUS. -/
theorem offLane_trim {c p : Nat} (hp : p < 4) : OffLane (fld (LED_CSET_TRIM_factor c p)) := by
  show 0x400D0214 + 0x40 * c + 0x4 * p ≠ 0x400F0004
  omega

@[simp ↓] theorem trimMode_iff (c : Nat) : SameOff OffLane w (v.trimMode c) ↔ SameOff OffLane w v := by
  refine drop_iff ?_
  unfold W.trimMode
  refine foldl_mem (fun x p hp => ?_) v
  have hf : OffLane (fld (LED_CSET_TRIM_factor c p)) := offLane_trim (List.mem_range.mp hp)
  simp [set_iff hf]

@[simp ↓] theorem ledServe_iff : SameOff OffLane w v.ledServe ↔ SameOff OffLane w v := by
  refine drop_iff ?_
  unfold W.ledServe
  simp

@[simp ↓] theorem ledChanged_iff (k : Nat) : SameOff OffLane w (v.ledChanged k) ↔ SameOff OffLane w v := by
  refine drop_iff ?_
  unfold W.ledChanged
  dsimp only
  split
  next hk => simp [set_iff (offLane_strStatus hk _ _)]
  · simp

@[simp ↓] theorem silentEv_iff {f : Fld} (h : OffLane (fld f)) (g : Nat) :
    SameOff OffLane w (v.silentEv f g) ↔ SameOff OffLane w v := by
  refine drop_iff ?_
  unfold W.silentEv
  simp [ev_iff, h]

@[simp ↓] theorem setEntry_iff (g st : Nat) : SameOff OffLane w (v.setEntry g st) ↔ SameOff OffLane w v := by
  refine drop_iff ?_
  unfold W.setEntry
  simp

@[simp ↓] theorem showRad_iff : SameOff OffLane w v.showRad ↔ SameOff OffLane w v := by
  refine drop_iff ?_
  unfold W.showRad
  simp

@[simp ↓] theorem enableEntry_iff (g st : Nat) : SameOff OffLane w (v.enableEntry g st) ↔ SameOff OffLane w v := by
  refine drop_iff ?_
  unfold W.enableEntry
  simp

@[simp ↓] theorem emptyTable_iff : SameOff OffLane w v.emptyTable ↔ SameOff OffLane w v := by
  refine drop_iff ?_
  unfold W.emptyTable
  simp

@[simp ↓] theorem showFlt_iff : SameOff OffLane w v.showFlt ↔ SameOff OffLane w v := by
  refine drop_iff ?_
  unfold W.showFlt
  dsimp only
  split
  · simp
  · refine .trans ?_ (foldl_mem (fun x k hk => ?_) _)
    · simp
    · have hf : OffLane (fld (FLT_COUNT_count k)) := by
        have hk : k < 10 := List.mem_range.mp hk
        show 0x400C0040 + 0x4 * k ≠ 0x400F0004
        omega
      exact (set_iff hf _).mpr (refl x)

@[simp ↓] theorem setCamp_iff (c : Campaign) : SameOff OffLane w (v.setCamp c) ↔ SameOff OffLane w v := by
  refine drop_iff ?_
  unfold W.setCamp
  simp

@[simp ↓] theorem phaseCheck_iff : SameOff OffLane w v.phaseCheck ↔ SameOff OffLane w v := by
  refine drop_iff ?_
  unfold W.phaseCheck
  split <;> simp

@[simp ↓] theorem clearProgress_iff (targets : List Nat) :
    SameOff OffLane w (v.clearProgress targets) ↔ SameOff OffLane w v := by
  refine drop_iff ?_
  unfold W.clearProgress
  simp

@[simp ↓] theorem fltLose_iff (r : Nat) : SameOff OffLane w (v.fltLose r) ↔ SameOff OffLane w v := by
  refine drop_iff ?_
  unfold W.fltLose
  dsimp only
  split <;> simp

@[simp ↓] theorem fltRestore_iff : SameOff OffLane w v.fltRestore ↔ SameOff OffLane w v := by
  refine drop_iff ?_
  unfold W.fltRestore
  dsimp only
  repeat' split
  all_goals simp

/-- A digest fills at most the twelve words of PAT_MEASURE. -/
theorem sha384_length_le (b : List Byte) : (sha384 b).length ≤ 48 := List.length_take_le ..

@[simp ↓] theorem showMeasure_iff (p : Pattern) :
    SameOff OffLane w (v.setWords PAT_MEASURE_v (if p.factory then (upTo 48).map Config.factoryDigest else sha384 p.raw)) ↔
      SameOff OffLane w v := by
  refine drop_iff (setWords_sameLane fun k hk => ?_)
  have hlen : (if p.factory then (upTo 48).map Config.factoryDigest else sha384 p.raw).length ≤ 48 := by
    split
    · exact le_of_eq (by simp [upTo])
    · exact sha384_length_le _
  show 0x40010040 + 0x4 * k ≠ 0x400F0004
  omega

@[simp ↓] theorem showPattern_iff : SameOff OffLane w v.showPattern ↔ SameOff OffLane w v := by
  refine drop_iff ?_
  unfold W.showPattern
  simp

@[simp ↓] theorem showQueue_iff (q : Nat) (i : Option QItem) :
    SameOff OffLane w (v.showQueue q i) ↔ SameOff OffLane w v := by
  refine drop_iff ?_
  unfold W.showQueue
  simp

@[simp ↓] theorem swapQueues_iff (old : Pattern) : SameOff OffLane w (v.swapQueues old) ↔ SameOff OffLane w v := by
  refine drop_iff ?_
  unfold W.swapQueues
  refine .trans (foldl (fun x i => ?_) _ v) (foldl (fun x i => by simp) _ _)
  have above {a n : Nat} (h : laneWord < a) : a + n ≠ laneWord := Nat.ne_of_gt (Nat.lt_add_right n h)
  refine (with_regs_wr_iff (above (by decide)) _).mpr ((with_regs_wr_iff (above (by decide)) _).mpr ?_)
  simp

@[simp ↓] theorem closeChanged_iff (new : Pattern) : SameOff OffLane w (v.closeChanged new) ↔ SameOff OffLane w v := by
  refine drop_iff ?_
  unfold W.closeChanged
  dsimp only
  simp

@[simp ↓] theorem openChanged_iff (old : Pattern) : SameOff OffLane w (v.openChanged old) ↔ SameOff OffLane w v := by
  refine drop_iff ?_
  unfold W.openChanged
  simp

@[simp ↓] theorem ruleEnable_iff (b : List Byte) (x : Bool) :
    SameOff OffLane w (v.setB ⟨(GAN_RULE_EN_v (le b 0 2 / 32)).addr, le b 0 2 % 32, 1⟩ x) ↔ SameOff OffLane w v := by
  have hb : le b 0 2 < 256 ^ 2 := le_lt b 0 2
  refine setB_iff (f := ⟨(GAN_RULE_EN_v (le b 0 2 / 32)).addr, le b 0 2 % 32, 1⟩) ?_ x
  show 0x40070100 + 0x4 * (le b 0 2 / 32) ≠ 0x400F0004
  omega

@[simp ↓] theorem ruleActive_iff (z : W → Nat → Nat) :
    SameOff OffLane w ((upTo 32).foldl (fun (w : W) k => w.set (GAN_RULE_ACTIVE_v k) (z w k)) v) ↔
      SameOff OffLane w v := by
  refine drop_iff (foldl_mem (fun x k hk => ?_) v)
  have hf : OffLane (fld (GAN_RULE_ACTIVE_v k)) := by
    have hk : k < 32 := List.mem_range.mp hk
    show 0x40070180 + 0x4 * k ≠ 0x400F0004
    omega
  exact (set_iff hf _).mpr (refl x)

@[simp ↓] theorem swapGan_iff (old : Pattern) : SameOff OffLane w (v.swapGan old) ↔ SameOff OffLane w v := by
  refine drop_iff ?_
  unfold W.swapGan
  simp

@[simp ↓] theorem swapSmp_iff (old : Pattern) : SameOff OffLane w (v.swapSmp old) ↔ SameOff OffLane w v := by
  refine drop_iff ?_
  unfold W.swapSmp
  simp

@[simp ↓] theorem swapTables_iff (old : Pattern) : SameOff OffLane w (v.swapTables old) ↔ SameOff OffLane w v := by
  refine drop_iff ?_
  unfold W.swapTables
  simp

@[simp ↓] theorem flushCaches_iff : SameOff OffLane w v.flushCaches ↔ SameOff OffLane w v := by
  refine drop_iff ?_
  unfold W.flushCaches
  simp

@[simp ↓] theorem swapField_iff (old : Pattern) : SameOff OffLane w (v.swapField old) ↔ SameOff OffLane w v := by
  refine drop_iff ?_
  unfold W.swapField
  simp

@[simp ↓] theorem swapSources_iff : SameOff OffLane w v.swapSources ↔ SameOff OffLane w v := by
  refine drop_iff ?_
  unfold W.swapSources
  simp

@[simp ↓] theorem afterSwap_iff : SameOff OffLane w v.afterSwap ↔ SameOff OffLane w v := by
  refine drop_iff ?_
  unfold W.afterSwap
  refine queFreed_iff.mpr ?_
  split
  · exact refl v
  · refine foldl (fun x p => ?_) _ _
    split
    all_goals simp

@[simp ↓] theorem applyPattern_iff (new : Pattern) : SameOff OffLane w (v.applyPattern new) ↔ SameOff OffLane w v := by
  refine drop_iff ?_
  unfold W.applyPattern
  dsimp only
  simp

@[simp ↓] theorem install_iff (p : Pattern) : SameOff OffLane w (v.install p) ↔ SameOff OffLane w v := by
  refine drop_iff ?_
  unfold W.install
  dsimp only
  simp

/-- The registers of a settings save put back, where the block of LNV_STATUS is none of them. -/
@[simp ↓] theorem restoreRegs_iff {p : Nat → Bool} (h : p (blockAt laneWord) = false) (rs : Regs) :
    SameOff OffLane w (v.restoreRegs rs p) ↔ SameOff OffLane w v := by
  unfold W.restoreRegs
  refine foldl_iff (fun x e => ?_) rs
  split
  next he =>
    have hne : e.1 ≠ laneWord := fun heq => by simp [heq, h] at he
    exact (with_regs_wr_iff hne _).mpr (refl x)
  · exact refl x

@[simp ↓] theorem restoreTables_iff (c : SetCopy) : SameOff OffLane w (v.restoreTables c) ↔ SameOff OffLane w v := by
  refine drop_iff ?_
  unfold W.restoreTables
  refine .trans ?_ (foldl (fun x g => by simp) _ _)
  refine (with_regs_iff fun a => ?_).mpr (.trans ?_ (foldl (fun x g => by simp) _ _))
  · rcases eq_or_ne a ING_CMD_STATUS_done.addr with rfl | ha
    · exact .inl (by simp)
    · exact .inr (by simp [Regs.rd, tblGet_tblDel_other _ ha.symm])
  · simp

@[simp ↓] theorem refreshAll_iff : SameOff OffLane w v.refreshAll ↔ SameOff OffLane w v := by
  refine drop_iff ?_
  unfold W.refreshAll
  simp

@[simp ↓] theorem restoreFrom_iff {p : Nat → Bool} (h : p (blockAt laneWord) = false) (c : SetCopy) :
    SameOff OffLane w (v.restoreFrom c p) ↔ SameOff OffLane w v := by
  refine drop_iff ?_
  unfold W.restoreFrom
  simp [h]

end SameLane

/-! ## The end of a pattern reload -/

variable {w v : W}

/-- What off LNV_STATUS is the same shows the same lanes. -/
theorem SameOff.lane_eq (h : SameOff OffLane w v) {f : Fld} (hf : f.addr = laneWord) : v.get f = w.get f := by
  have hrd : v.regs.rd laneWord = w.regs.rd laneWord :=
    BitVec.eq_of_getLsbD_eq fun i _ => h.bits _ _ fun g hg hc => hg hc.1.symm
  show fldOf _ _ _ = fldOf _ _ _
  rw [hf, hrd]

/-- Whether LNV_STATUS shows a lane down. -/
def W.laneDown (w : W) : Bool :=
  w.get LNV_STATUS_lane_a != 0 || w.get LNV_STATUS_lane_b != 0 || w.get LNV_STATUS_lane_c != 0

theorem SameOff.laneDown_eq (h : SameOff OffLane w v) : v.laneDown = w.laneDown := by
  unfold W.laneDown
  rw [h.lane_eq rfl, h.lane_eq rfl, h.lane_eq rfl]

/-- A pattern reload ends in SERVING, or in DEGRADED with a lane down, and says so. -/
theorem reloadEnd_ends (w : W) : w.reloadEnd.op = (if w.laneDown then .degraded else .serving) ∧
    w.reloadEnd.bit SYS_EVENT_reload_done = true := by
  unfold W.reloadEnd
  extract_lets w1 w2 w3 w4 down
  have h1 : SameOff OffLane w w1 := by simp [w1]
  have h2 : SameOff OffLane w1 w2 := by
    dsimp only [w2]
    repeat' split
    all_goals simp [reloadBlock, blockAt]
  have h3 : SameOff OffLane w2 w3 := by
    dsimp only [w3]
    split <;> simp
  have h4 : SameOff OffLane w3 w4 := by simp [w4]
  have hdown : down = w.laneDown := (h1.trans (h2.trans (h3.trans h4))).laneDown_eq
  clear_value w4 down
  refine ⟨?_, W.bit_ev_same (by decide) rfl 0⟩
  have hend : ∀ x : W, SameOff OffSys x (x.ptnBegin.ev SYS_EVENT_reload_done 0) := fun x => by simp
  rw [(hend _).op_eq, setOp_op, hdown]

end Lanes
end Sys2Proof.Machine

/-! # The watchdog, resets, pattern reloads and the console -/

namespace Sys2Proof.Machine

section Resets

open SameOff Spot

variable {w v : W} {s : State}

/-! ## Watchdog and software resets -/

/-- What a reset keeps of the system's own part: the early resets counted, and the events held. -/
abbrev SysState.counted (x : SysState) : Nat × List HeldEvent := (x.loops, x.heldEvs)

/-- A reset leads to the state it is for, held for its cause, with the start under way. -/
theorem resetBegin_ends (w : W) (cause : Nat) (dst : OpState) : (w.resetBegin cause dst).op = dst ∧
    (w.resetBegin cause dst).sys.hold = some cause ∧ (w.resetBegin cause dst).sys.booting = true ∧
    (w.resetBegin cause dst).sys.counted = w.sys.counted := by
  unfold W.resetBegin
  extract_lets w1 w2 w3
  have h1 : SameOff (Sparing [.sys] []) w w1 := by simp [w1]
  have h2 : SameSys SysState.counted w1 w2 := by
    have hout : SameOff OffSys w1 ((w1.outputsOff.lastGasp w1.ns).tailSave) := by simp
    exact .trans ((SameSys.offSys_iff hout).mpr (.refl w1)) (saveCutOff_same (by intros; rfl) _)
  have h3 : w3.sys = w2.sys := mainReset_sys w2
  refine ⟨rfl, rfl, rfl, ?_⟩
  show w3.sys.counted = _
  rw [h3, h2.kept, h1.parts .sys (by simp)]

/-- Where the watchdog and software resets reach. -/
theorem softReset_resets (h : w.op = .serving ∨ w.op = .degraded ∨ w.op = .holding ∨
    (w.sys.booting && w.mainOn && w.sys.hold.isNone) = true) (cause : Nat) :
    w.softReset cause = w.resetBegin cause .waking := if_pos h

theorem watchdogOut_at (s : State) (t : Nat) : (s.w.at_ t).watchdogOut =
    (decide (s.dev.sys.kickUp + s.dev.sys.kickMs * 1000000 ≤ s.upAt t) &&
      (s.w.lanesRun || s.dev.sys.entering || (s.dev.sys.booting && s.w.mainOn && s.dev.sys.hold.isNone))) := by
  unfold W.watchdogOut
  rw [W.at_sys, W.at_up, W.at_lanesRun, W.at_mainOn]
  rfl

/-- The early reset counted, before the watchdog's reset (R395). -/
def W.earlyCounted (w : W) : W :=
  w.setSys { w.sys with
    loops := if w.sys.booting || decide (w.tb.up < w.sys.entryUp + 60000000000) then w.sys.loops + 1 else w.sys.loops }

theorem watchdogAct_resets (h : w.op = .serving ∨ w.op = .degraded ∨ w.op = .holding ∨
    (w.sys.booting && w.mainOn && w.sys.hold.isNone) = true) : w.watchdogAct = w.earlyCounted.resetBegin 3 .waking :=
  softReset_resets (w := w.earlyCounted) h 3

theorem earlyCounted_loops (s : State) (prio t : Nat) : (s.onEdge prio t).earlyCounted.sys.loops =
    if s.dev.sys.booting = true ∨ s.upAt t < s.dev.sys.entryUp + 60000000000 then s.dev.sys.loops + 1
      else s.dev.sys.loops := by
  have hup : (s.onEdge prio t).tb.up = s.upAt t := W.at_up _ t
  have heq (w : W) : w.earlyCounted.sys.loops =
      if w.sys.booting = true ∨ w.tb.up < w.sys.entryUp + 60000000000 then w.sys.loops + 1 else w.sys.loops := by
    unfold W.earlyCounted
    simp [W.setSys]
  rw [heq, hup, State.onEdge_sys]

theorem watchdogExpire_resets (s : State) (t : Nat) (h : s.acts 5 t ∧ s.dev.sys.kickUp + s.dev.sys.kickMs * 1000000 ≤
    s.upAt t ∧ (s.w.serves = true ∨ s.dev.op = .holding ∨ (s.dev.sys.booting = true ∧ s.w.mainOn = true ∧
      s.dev.sys.hold = none))) : ∃ u, exec (.watchdogExpire t) s = .next u ∧ u.dev.op = .waking ∧
    u.dev.sys.hold = some 3 ∧ u.dev.sys.booting = true ∧ u.dev.sys.loops = (if s.dev.sys.booting = true ∨
      s.upAt t < s.dev.sys.entryUp + 60000000000 then s.dev.sys.loops + 1 else s.dev.sys.loops) := by
  obtain ⟨hacts, hdue, hruns⟩ := h
  have hout : (s.w.at_ t).watchdogOut = true := by
    rw [watchdogOut_at, decide_eq_true hdue, Bool.true_and]
    cases he : s.dev.sys.entering with
    | true => simp
    | false =>
      have hlanes : s.w.serves = true ∨ s.dev.op = .holding → s.w.lanesRun = true := by
        intro h
        simp only [W.lanesRun, W.serves] at h ⊢
        simpa [he] using h
      rcases hruns with hop | hop | ⟨hboot, hon, hhold⟩
      · simp [hlanes (.inl hop)]
      · simp [hlanes (.inr hop)]
      · simp [hboot, hon, hhold]
  have hact : (s.onEdge 5 t).watchdogAct = (s.onEdge 5 t).earlyCounted.resetBegin 3 .waking := by
    have hon : (s.onEdge 5 t).mainOn = s.w.mainOn := W.at_mainOn _ t
    refine watchdogAct_resets ?_
    rw [State.onEdge_op, State.onEdge_sys, hon]
    unfold W.serves at hruns
    rcases hruns with hserves | hhold | ⟨hboot, hon, hhold⟩
    · have hserves : s.dev.op = .serving ∨ s.dev.op = .degraded := by simpa using hserves
      tauto
    · exact .inr (.inr (.inl hhold))
    · simp [hboot, hon, hhold]
  obtain ⟨hop, hhold, hboot, hcount⟩ := resetBegin_ends ((s.onEdge 5 t).earlyCounted) 3 .waking
  obtain ⟨hloops, hheld⟩ := Prod.mk.inj hcount
  have hnone : (s.onEdge 5 t).watchdogAct.sys.heldEvs = [] := by
    rw [hact, hheld]
    exact (congrArg SysState.heldEvs (State.onEdge_sys s 5 t)).trans hacts.2.2
  unfold exec execWatchdogExpire
  refine ⟨_, runEv_acts hout hacts hnone, ?_⟩
  rw [hact]
  exact ⟨hop, hhold, hboot, hloops.trans (earlyCounted_loops s 5 t)⟩

theorem watchdogExpire_idle (s : State) (t : Nat) (h : s.upAt t < s.dev.sys.kickUp + s.dev.sys.kickMs * 1000000 ∨
    (s.w.lanesRun = false ∧ s.dev.sys.entering = false ∧ (s.dev.sys.booting = false ∨ s.w.mainOn = false ∨
      s.dev.sys.hold.isSome = true))) :
    ∃ u, exec (.watchdogExpire t) s = .next u ∧ u.dev.op = s.dev.op ∧ u.dev.sys = s.dev.sys := by
  have hno : (s.w.at_ t).watchdogOut = false := by
    rw [watchdogOut_at]
    rcases h with h | ⟨hl, he, hb⟩
    · simp [Nat.not_le.mpr h]
    · rcases hb with hb | hb | hb <;> simp [hl, he, hb]
  unfold exec execWatchdogExpire
  exact ⟨_, runEv_idle hno, idle_left s t⟩

theorem watchdogKick_judged (s : State) (v : W32) (t : Nat) (h : s.lanes) : ∃ u, exec (.watchdogKick v t) s = .next u ∧
    u.dev.op = s.dev.op ∧ (if v.toNat = 0x4B49 then u.dev.sys.kickUp = s.upAt t ∧
      u.dev.sys.kickMs = max 100 (s.reg SYS_WDOG_CFG_timeout_ms) else u.dev.sys = s.dev.sys) := by
  unfold exec execWatchdogKick
  refine ⟨_, runL_left h _ _, ?_⟩
  dsimp only [State.left_dev]
  split
  · exact ⟨W.at_op _ t, W.at_up _ t, congrArg (max 100) (W.at_get _ t (by decide))⟩
  · exact idle_left s t

theorem bootLoopClear_judged (s : State) (t : Nat) : ∃ u, exec (.bootLoopClear t) s = .next u ∧ u.dev.sys.loops =
    (if s.w.mainOn = true ∧ s.dev.sys.booting = false ∧ s.dev.sys.entryUp + 60000000000 ≤ s.upAt t then 0
      else s.dev.sys.loops) := by
  unfold exec execBootLoopClear
  refine ⟨_, run_left _ _ _, ?_⟩
  dsimp only [State.left_dev]
  rw [W.at_mainOn, State.at_sys, W.at_up, State.at_up]
  by_cases hc : s.w.mainOn = true ∧ s.dev.sys.booting = false ∧ s.dev.sys.entryUp + 60000000000 ≤ s.upAt t
  · rw [if_pos hc, if_pos (by simpa [and_assoc] using hc)]
    rfl
  · rw [if_neg hc, if_neg (by simpa [and_assoc] using hc)]
    exact congrArg SysState.loops (State.at_sys s t)

theorem systemReset_resets (s : State) (confirm t : Nat) (h : s.lanes ∧ confirm = 0xC0DE ∧ s.acts 5 t) :
    ∃ u, exec (.systemReset confirm t) s = .next u ∧ u.dev.op = .waking ∧ u.dev.sys.hold = some 6 ∧
      u.dev.sys.booting = true := by
  obtain ⟨hl, hc, hacts⟩ := h
  have hrun : (s.onEdge 5 t).softReset 6 = (s.onEdge 5 t).resetBegin 6 .waking := by
    obtain ⟨hop, -⟩ := lanes_iff.mp hl
    refine softReset_resets ?_ 6
    rw [State.onEdge_op]
    tauto
  obtain ⟨hop, hhold, hboot, hcount⟩ := resetBegin_ends (s.onEdge 5 t) 6 .waking
  have hnone : ((s.onEdge 5 t).softReset 6).sys.heldEvs = [] := by
    rw [hrun, (Prod.mk.inj hcount).2, State.onEdge_sys]
    exact hacts.2.2
  have hon : (lanesOn s && confirm == 0xC0DE) = true := by simp [hc, (lanesOn_iff s).mpr hl]
  show ∃ u, execSystemReset confirm t s = .next u ∧ _
  unfold execSystemReset
  rw [if_pos hon]
  refine ⟨_, runEv_acts rfl hacts hnone, ?_⟩
  rw [hrun]
  exact ⟨hop, hhold, hboot⟩

theorem resets_unconfirmed (s : State) (confirm t : Nat) (h : confirm ≠ 0xC0DE) :
    ∀ c ∈ [Instr.systemReset confirm t, .patternReload confirm t], ∃ u, exec c s = .next u ∧ u.dev = s.dev ∧
      u.mem = s.mem := by
  have hoff : ¬(lanesOn s && confirm == 0xC0DE) = true := by simp [h]
  have hreset : execSystemReset confirm t s = runL true "SYSTEM_RESET" id s := if_neg hoff
  have hreload : execPatternReload confirm t s = runL true "PATTERN_RELOAD" id s := if_neg hoff
  simp only [List.forall_mem_cons, List.not_mem_nil, false_imp_iff, implies_true, and_true]
  constructor
  · show ∃ u, execSystemReset confirm t s = .next u ∧ _
    exact hreset ▸ runL_id _
  · show ∃ u, execPatternReload confirm t s = .next u ∧ _
    exact hreload ▸ runL_id _

/-! ## Pattern reloads -/

/-- What a reset of registers spares keeps its word. -/
theorem Regs.rd_resetWhere (rs : Regs) {p : Nat → Bool} {a : Nat} (h : p a = false) : (rs.resetWhere p).rd a = rs.rd a := by
  have htbl : tblGet (tblDrop p rs) a = tblGet rs a := by
    induction rs with
    | nil => rfl
    | cons e t ih =>
      obtain ⟨j, x⟩ := e
      unfold tblDrop at ih ⊢
      by_cases hj : j = a
      · subst hj
        simp [h, tblGet]
      · cases hp : p j <;> simp [hp, tblGet, hj, ih]
  unfold Regs.rd Regs.resetWhere
  rw [htbl]

/-- Leaving the pair reaches neither the cause of the start nor the parts spared. -/
theorem mayPtnLeave_cause {ps : List Part} (h : .que ∉ ps ∧ .irq ∉ ps ∧ .prf ∉ ps ∧ .net ∉ ps ∧ .cry ∉ ps ∧ .ptn ∉ ps) :
    MayPtnLeave (Sparing ps [SYS_START_cause]) := by
  have hq : MayQueue (Sparing ps [SYS_START_cause]) := by
    simp [h]
    refine ⟨fun q => ?_, fun q => ?_, fun q => ?_, fun q => ?_⟩ <;> omega
  exact ⟨⟨hq, by simp [h], h.2.2.2.1⟩, by simp [h]⟩

/-- A pattern reload begins in RESTORING, its cause recorded, on the factory pattern. -/
theorem reloadBegin_ends (w : W) : w.reloadBegin.op = .restoring ∧ w.reloadBegin.sys.cause = 5 ∧
    w.reloadBegin.sys.heldEvs = w.sys.heldEvs ∧ w.reloadBegin.get SYS_START_cause = 5 ∧
    w.reloadBegin.pat.active = Pattern.factoryPattern := by
  unfold W.reloadBegin
  extract_lets prev _ w1 w2
  have h2 : w2.get SYS_START_cause = 5 := (W.get_set_other (by decide) _).trans (W.get_set_same (by decide) 5)
  have hleave : SameOff (Sparing [.sys] [SYS_START_cause]) w2 (w2.ptnLeave 2) :=
    (ptnLeave_iff (mayPtnLeave_cause (by simp)) 2).mpr (refl _)
  have hkept : (reloadBlock (blockAt SYS_START_cause.addr) && !keepsReg SYS_START_cause.addr) = false := by decide
  have hreset : ∀ x : W, x.reloadReset.get SYS_START_cause = x.get SYS_START_cause := fun x =>
    congrArg (fun r => fldOf r SYS_START_cause.lo SYS_START_cause.width)
      (Regs.rd_resetWhere (p := fun a => reloadBlock (blockAt a) && !keepsReg a) x.regs hkept)
  have hend : ∀ x : W, SameOff (Sparing [.sys, .pat] [SYS_START_cause]) x (x.setOp .restoring) := fun x =>
    (setOp_iff ⟨mayPtnLeave_cause (by simp), by simp⟩ _).mpr (refl x)
  have hsys : ((w2.ptnLeave 2).reloadReset.setOp .restoring).sys = w2.sys :=
    (setOp_sys _ _).trans (hleave.parts .sys (by simp))
  refine ⟨setOp_op _ _, congrArg SysState.cause hsys, (congrArg SysState.heldEvs hsys).trans rfl, ?_, ?_⟩
  · rw [(hend _).get_eq List.mem_cons_self, hreset, hleave.get_eq List.mem_cons_self, h2]
  · exact congrArg PatState.active ((hend _).parts .pat (by simp))

/-- PATTERN_RELOAD, confirmed, acts as an event that nothing of higher priority precedes. -/
theorem exec_patternReload {s : State} {confirm t : Nat} (hl : s.lanes) (hc : confirm = 0xC0DE) (h : s.acts 7 t)
    (hk : (s.onEdge 7 t).patReload.sys.heldEvs = []) :
    exec (.patternReload confirm t) s = .next (s.left (s.onEdge 7 t).patReload) := by
  have hon : (lanesOn s && confirm == 0xC0DE) = true := by simp [hc, (lanesOn_iff s).mpr hl]
  show execPatternReload confirm t s = _
  unfold execPatternReload
  rw [if_pos hon]
  exact runEv_acts rfl h hk

theorem onEdge_heldEvs {prio t : Nat} (h : s.acts prio t) : (s.onEdge prio t).sys.heldEvs = [] :=
  (congrArg SysState.heldEvs (State.onEdge_sys s prio t)).trans h.2.2

theorem patternReload_begins (s : State) (confirm t : Nat) (h : s.lanes ∧ confirm = 0xC0DE ∧ s.acts 7 t ∧
    s.dev.op = .serving ∧ s.dev.sys.saving = none) : ∃ u, exec (.patternReload confirm t) s = .next u ∧
    u.dev.op = .restoring ∧ u.dev.sys.cause = 5 ∧ u.reg SYS_START_cause = 5 ∧
    u.dev.pat.active = Pattern.factoryPattern := by
  obtain ⟨hl, hc, hacts, hserving, hsaving⟩ := h
  have hact : (s.onEdge 7 t).patReload = (s.onEdge 7 t).reloadBegin := by
    unfold W.patReload
    rw [if_neg (by simp [hserving]), if_neg (by simp [hsaving])]
  obtain ⟨hop, hcause, hheld, hreg, hpat⟩ := reloadBegin_ends (s.onEdge 7 t)
  refine ⟨_, exec_patternReload hl hc hacts (by rw [hact, hheld, onEdge_heldEvs hacts]), ?_⟩
  rw [hact]
  exact ⟨hop, hcause, hreg, hpat⟩

theorem patternReload_refused (s : State) (confirm t : Nat) (h : s.lanes ∧ confirm = 0xC0DE ∧ s.acts 7 t ∧
    (s.dev.op ≠ .serving ∨ s.dev.sys.saving.isSome = true)) : ∃ u, exec (.patternReload confirm t) s = .next u ∧
    u.dev.op = s.dev.op ∧ (if s.dev.op = .serving then u.dev.sys.hold = some 5 else
      u.reg SYS_CMD_STATUS_done = 1 ∧ u.reg SYS_CMD_STATUS_result = 1) := by
  obtain ⟨hl, hc, hacts, hno⟩ := h
  by_cases hserving : s.dev.op = .serving
  · have hact : (s.onEdge 7 t).patReload = (s.onEdge 7 t).setSys { (s.onEdge 7 t).sys with hold := some 5 } := by
      have hsaving : s.dev.sys.saving.isSome = true := hno.resolve_left (by simp [hserving])
      unfold W.patReload
      rw [if_neg (by simp [hserving]), if_pos (by simp [hsaving])]
    refine ⟨_, exec_patternReload hl hc hacts (by rw [hact]; exact onEdge_heldEvs hacts), ?_⟩
    rw [hact, if_pos hserving]
    exact ⟨State.onEdge_op s 7 t, rfl⟩
  · have hact : (s.onEdge 7 t).patReload = ((s.onEdge 7 t).set SYS_CMD_STATUS_done 1).set SYS_CMD_STATUS_result 1 :=
      if_pos (by rwa [State.onEdge_op])
    refine ⟨_, exec_patternReload hl hc hacts (by rw [hact]; exact onEdge_heldEvs hacts), ?_⟩
    rw [hact, if_neg hserving]
    exact ⟨State.onEdge_op s 7 t, (W.get_set_other (by decide) _).trans (W.get_set_same (by decide) 1),
      W.get_set_same (by decide) 1⟩

theorem patternReloadDone_judged (s : State) (t : Nat) : ∃ u, exec (.patternReloadDone t) s = .next u ∧
    if s.dev.op = .restoring ∧ s.dev.sys.booting = false ∧ s.dev.sys.pfail = false then u.dev.op = (if
      s.reg LNV_STATUS_lane_a = 0 ∧ s.reg LNV_STATUS_lane_b = 0 ∧ s.reg LNV_STATUS_lane_c = 0 then .serving else
      .degraded) ∧ u.bitOf SYS_EVENT_reload_done = true else u.dev.op = s.dev.op ∧ u.dev.sys = s.dev.sys := by
  unfold exec execPatternReloadDone
  refine ⟨_, run_left _ _ _, ?_⟩
  dsimp only [State.left_dev]
  have hdue : ((s.w.at_ t).op = .restoring ∧ (!(s.w.at_ t).sys.booting) = true ∧ (!(s.w.at_ t).sys.pfail) = true) ↔
      s.dev.op = .restoring ∧ s.dev.sys.booting = false ∧ s.dev.sys.pfail = false := by
    rw [State.at_op, State.at_sys, Bool.not_eq_true', Bool.not_eq_true']
  by_cases hc : s.dev.op = .restoring ∧ s.dev.sys.booting = false ∧ s.dev.sys.pfail = false
  · rw [if_pos hc, if_pos (hdue.mpr hc)]
    obtain ⟨hop, hdone⟩ := reloadEnd_ends (s.w.at_ t)
    refine ⟨hop.trans ?_, hdone⟩
    unfold W.laneDown
    rw [W.at_get _ t (by decide), W.at_get _ t (by decide), W.at_get _ t (by decide)]
    simp only [State.w_get]
    by_cases ha : s.reg LNV_STATUS_lane_a = 0 ∧ s.reg LNV_STATUS_lane_b = 0 ∧ s.reg LNV_STATUS_lane_c = 0
    · rw [if_pos ha]
      simp [ha]
    · rw [if_neg ha]
      exact if_pos (by simp; tauto)
  · rw [if_neg hc, if_neg (mt hdue.mp hc)]
    exact idle_left s t

/-! ## The console's break -/

theorem exec_consoleBreak (s : State) (t : Nat) : exec (.consoleBreak t) s = .next (s.left
    (if s.bitOf WCH_WAKE_CFG_console_en = true then (s.w.at_ t).wake WCH_WAKE_CAUSE_console else s.w.at_ t)) := by
  show execConsoleBreak t s = _
  refine (run_left _ _ _).trans (congrArg (fun v : W => Host.Outcome.next (s.left v)) ?_)
  dsimp only
  rw [W.at_bit _ t (by decide)]
  rfl

theorem consoleBreak_waits (s : State) (t : Nat) (h : s.bitOf WCH_WAKE_CFG_console_en = true ∧ s.dev.op ≠ .sleep ∧
    s.dev.sys.entering = true) : ∃ u, exec (.consoleBreak t) s = .next u ∧ u.dev.sys.wakeWaits = true ∧
    u.bitOf WCH_WAKE_CAUSE_console = true := by
  obtain ⟨hen, hop, he⟩ := h
  refine ⟨_, exec_consoleBreak s t, ?_⟩
  rw [if_pos hen, wake_entering (by rwa [State.at_op]) (by rwa [State.at_sys])]
  exact ⟨rfl, W.bit_setB_same (by decide) rfl true⟩

theorem consoleBreak_wakes (s : State) (t : Nat) (h : s.bitOf WCH_WAKE_CFG_console_en = true ∧ s.dev.op = .sleep) :
    ∃ u, exec (.consoleBreak t) s = .next u ∧ u.dev.op ≠ .sleep ∧ u.dev.sys.cause = 8 := by
  refine ⟨_, exec_consoleBreak s t, ?_⟩
  rw [if_pos h.1]
  exact wake_asleep ((State.at_op s t).trans h.2)

theorem consoleBreak_idle (s : State) (t : Nat) (h : s.bitOf WCH_WAKE_CFG_console_en = false ∨ (s.dev.op ≠ .sleep ∧
    s.dev.sys.entering = false)) : ∃ u, exec (.consoleBreak t) s = .next u ∧ u.dev.op = s.dev.op ∧
    u.dev.sys = s.dev.sys := by
  refine ⟨_, exec_consoleBreak s t, ?_⟩
  split
  next hen =>
    obtain ⟨hop, he⟩ := h.resolve_left (by simp [hen])
    obtain ⟨hop', hsys⟩ := wake_awake (f := WCH_WAKE_CAUSE_console) (w := s.w.at_ t) (by rwa [State.at_op])
      (by rwa [State.at_sys])
    exact ⟨hop'.trans (State.at_op s t), hsys.trans (State.at_sys s t)⟩
  next => exact idle_left s t

/-- Settles O47, command by command: a reload is followed to its end, which leaves LNV_STATUS alone. -/
theorem resetCommands : Obligations.ResetCommands :=
  ⟨watchdogExpire_resets, watchdogExpire_idle, watchdogKick_judged, fun s t _ => bootLoopClear_judged s t,
    systemReset_resets, patternReload_begins, patternReload_refused, resets_unconfirmed,
    fun s t _ => patternReloadDone_judged s t, consoleBreak_waits, consoleBreak_wakes, consoleBreak_idle⟩

end Resets
end Sys2Proof.Machine


/-! # The loader's staging -/

namespace Sys2Proof.Machine

section Staging

open SameOff Spot

/-! ## The counter and the loader's operations -/

theorem W.at_ns (w : W) (t : Nat) : (w.at_ t).ns = max w.ns t := by
  unfold W.at_
  split
  next h =>
    have hns : ∀ x : W, x.tb.now = t * 2 ^ 32 → x.ns = max w.ns t := fun x hx => by
      rw [W.ns, hx, Nat.mul_div_cancel _ (Nat.two_pow_pos 32), Nat.max_eq_right h.le]
    dsimp only
    split
    · exact hns _ (cycles_now_up _ _).1
    · exact hns _ rfl
  next h => exact (Nat.max_eq_left (Nat.le_of_not_lt h)).symm

theorem at_nsAt (s : State) (t : Nat) : (s.w.at_ t).ns = s.nsAt t := W.at_ns s.w t

section
variable (w : W) (n : Nat)

@[simp] theorem setPatState_state : (w.setPatState n).get PAT_STATUS_state = n % 2 ^ 3 := W.get_set_same (by decide) n
@[simp] theorem setPatState_error : (w.setPatState n).get PAT_STATUS_error = w.get PAT_STATUS_error :=
  W.get_set_other (by decide) n
@[simp] theorem setPatState_pat : (w.setPatState n).pat = w.pat := rfl
@[simp] theorem patErr_error : (w.patErr n).get PAT_STATUS_error = n % 2 ^ 8 := W.get_set_same (by decide) n
@[simp] theorem patErr_state : (w.patErr n).get PAT_STATUS_state = w.get PAT_STATUS_state := W.get_set_other (by decide) n
@[simp] theorem patErr_pat : (w.patErr n).pat = w.pat := rfl

end

/-! ## VERIFY and its end -/

theorem verify_begins (s : State) (h : s.lanes ∧ s.reg PAT_STATUS_state = 0) : ∃ u, exec .verify s = .next u ∧
    u.reg PAT_STATUS_state = 1 ∧ u.reg PAT_STATUS_error = 0 ∧ u.dev.pat.verdict = some (s.w.verdict false
      (s.reg PAT_SRC_LO_v + 2 ^ 32 * s.reg PAT_SRC_HI_v) (s.reg PAT_SRC_LEN_v) (s.reg PAT_MIN_SERIAL_v)
      (s.w.source (s.reg PAT_SRC_LO_v + 2 ^ 32 * s.reg PAT_SRC_HI_v) (s.reg PAT_SRC_LEN_v))) ∧
    u.dev.pat.active = s.dev.pat.active := by
  obtain ⟨hl, hst⟩ := h
  unfold exec execVerify
  refine ⟨_, runL_left hl _ _, ?_⟩
  have hif : ¬ s.w.patState ≠ 0 := not_not.mpr hst
  simp only [hif, if_false]
  exact ⟨by simp, by simp, rfl, rfl⟩

/-- A command of the loader on the spot refused with BUSY. -/
theorem patErr_busy (s : State) : (s.w.patErr 0x18).get PAT_STATUS_state = s.reg PAT_STATUS_state ∧
    (s.w.patErr 0x18).pat = s.dev.pat ∧ (s.w.patErr 0x18).get PAT_STATUS_error = 0x18 :=
  ⟨patErr_state _ _, rfl, patErr_error _ _⟩

theorem verify_busy (s : State) (h : s.lanes ∧ s.reg PAT_STATUS_state ≠ 0) : ∃ u, exec .verify s = .next u ∧
    u.reg PAT_STATUS_state = s.reg PAT_STATUS_state ∧ u.reg PAT_STATUS_error = 0x18 ∧ u.dev.pat = s.dev.pat := by
  obtain ⟨hl, hst⟩ := h
  obtain ⟨h1, h2, h3⟩ := patErr_busy s
  have hrun : exec .verify s = .next (s.left (s.w.patErr 0x18)) := by
    show execVerify s = _
    exact (runL_left hl _ _).trans (congrArg (fun v : W => Host.Outcome.next (s.left v)) (if_pos hst))
  exact ⟨_, hrun, h1, h3, h2⟩

theorem verifyDone_verified (s : State) (t : Nat) (p : Pattern) (h : s.reg PAT_STATUS_state = 1 ∧
    s.dev.pat.verdict = some (.ok p)) : ∃ u, exec (.verifyDone t) s = .next u ∧ u.reg PAT_STATUS_state = 2 ∧
    u.dev.pat.inactive = some p ∧ u.dev.pat.active = s.dev.pat.active := by
  obtain ⟨hst, hv⟩ := h
  have hif : (s.w.at_ t).patState = 1 := (at_patState s t).trans hst
  have hpat : (s.w.at_ t).pat = s.dev.pat := W.at_pat s.w t
  unfold exec execVerifyDone
  refine ⟨_, run_left _ _ _, ?_⟩
  simp only [hif, ne_eq, not_true, if_false, hpat, hv]
  exact ⟨setPatState_state _ _, rfl, rfl⟩

theorem verifyDone_failed (s : State) (t code sec off : Nat) (h : s.reg PAT_STATUS_state = 1 ∧
    s.dev.pat.verdict = some (.bad code sec off) ∧ code < 256) : ∃ u, exec (.verifyDone t) s = .next u ∧
    u.reg PAT_STATUS_state = 0 ∧ u.reg PAT_STATUS_error = code ∧ u.reg PAT_ERR_INFO_section = sec % 256 ∧
    u.reg PAT_ERR_INFO_offset = off % 2 ^ 24 ∧ u.dev.pat.active = s.dev.pat.active ∧
    u.dev.pat.inactive = s.dev.pat.inactive := by
  obtain ⟨hst, hv, hc⟩ := h
  have hif : (s.w.at_ t).patState = 1 := (at_patState s t).trans hst
  have hpat : (s.w.at_ t).pat = s.dev.pat := W.at_pat s.w t
  unfold exec execVerifyDone
  refine ⟨_, run_left _ _ _, ?_⟩
  simp only [hif, ne_eq, not_true, if_false, hpat, hv, State.left_reg]
  refine ⟨?_, ?_, ?_, W.get_set_same (by decide) _, rfl, rfl⟩
  · rw [W.get_set_other (by decide), W.get_set_other (by decide), patErr_state]
    exact setPatState_state _ 0
  · rw [W.get_set_other (by decide), W.get_set_other (by decide), patErr_error]
    exact Nat.mod_eq_of_lt hc
  · rw [W.get_set_other (by decide)]
    exact W.get_set_same (by decide) sec

/-! ## ARM and CANCEL -/

/-- The instant that PAT_BARRIER names, or the present one where that is past. -/
def State.barrierAt (s : State) (t : Nat) : Nat :=
  max (s.nsAt t) ((s.reg PAT_BARRIER_SEC_LO_v + 2 ^ 32 * s.reg PAT_BARRIER_SEC_HI_v) * 1000000000 + s.reg PAT_BARRIER_NS_v)

/-- A load ARMED at the instant `x`. -/
def W.armed (w : W) (x : Nat) : W := ((w.setPat { w.pat with barrier := x }).setPatState 3).patErr 0

/-- What ARM leaves. -/
theorem arm_left {s : State} (hl : s.lanes) (t : Nat) : exec (.arm t) s = .next (s.left
    (if s.reg PAT_STATUS_state ≠ 2 ∨ s.dev.op = .holding then (s.w.at_ t).patErr 0x18
     else if 999999999 < s.reg PAT_BARRIER_NS_v then (s.w.at_ t).patErr 0x0C
     else (s.w.at_ t).armed (s.barrierAt t))) := by
  show execArm t s = _
  refine (runL_left hl _ _).trans (congrArg (fun v : W => Host.Outcome.next (s.left v)) ?_)
  dsimp only
  rw [at_patState, W.at_op, W.at_get _ t (by decide), W.at_get _ t (by decide), W.at_get _ t (by decide), at_nsAt]
  rfl

theorem arm_armed (s : State) (t : Nat) (h : s.lanes ∧ s.reg PAT_STATUS_state = 2 ∧ s.dev.op ≠ .holding ∧
    s.reg PAT_BARRIER_NS_v ≤ 999999999) : ∃ u, exec (.arm t) s = .next u ∧ u.reg PAT_STATUS_state = 3 ∧
    u.reg PAT_STATUS_error = 0 ∧ u.dev.pat.barrier = max (s.nsAt t)
      ((s.reg PAT_BARRIER_SEC_LO_v + 2 ^ 32 * s.reg PAT_BARRIER_SEC_HI_v) * 1000000000 + s.reg PAT_BARRIER_NS_v) := by
  obtain ⟨hl, hst, hop, hns⟩ := h
  refine ⟨_, arm_left hl t, ?_⟩
  rw [if_neg (by simp [hst, hop]), if_neg (Nat.not_lt.mpr hns)]
  exact ⟨(patErr_state _ _).trans (setPatState_state _ _), patErr_error _ _, rfl⟩

theorem arm_refused (s : State) (t : Nat) (h : s.lanes ∧ (s.reg PAT_STATUS_state ≠ 2 ∨ s.dev.op = .holding ∨
    999999999 < s.reg PAT_BARRIER_NS_v)) : ∃ u, exec (.arm t) s = .next u ∧
    u.reg PAT_STATUS_state = s.reg PAT_STATUS_state ∧ u.dev.pat = s.dev.pat ∧
    u.reg PAT_STATUS_error = if s.reg PAT_STATUS_state = 2 ∧ s.dev.op ≠ .holding then 0x0C else 0x18 := by
  obtain ⟨hl, hno⟩ := h
  refine ⟨_, arm_left hl t, ?_⟩
  have hleft : ∀ code, ((s.w.at_ t).patErr code).get PAT_STATUS_state = s.reg PAT_STATUS_state ∧
      ((s.w.at_ t).patErr code).pat = s.dev.pat := fun code =>
    ⟨(patErr_state _ _).trans (at_patState s t), W.at_pat s.w t⟩
  by_cases hbusy : s.reg PAT_STATUS_state ≠ 2 ∨ s.dev.op = .holding
  · rw [if_pos hbusy, if_neg (by tauto)]
    exact ⟨(hleft _).1, (hleft _).2, patErr_error _ _⟩
  · rw [if_neg hbusy, if_pos (by tauto), if_pos (by tauto)]
    exact ⟨(hleft _).1, (hleft _).2, patErr_error _ _⟩

theorem cancel_discards (s : State) (h : s.lanes ∧ (s.reg PAT_STATUS_state = 2 ∨ s.reg PAT_STATUS_state = 3)) :
    ∃ u, exec .cancel s = .next u ∧ u.reg PAT_STATUS_state = 0 ∧ u.dev.pat.inactive = none ∧
      u.reg PAT_STATUS_error = 0 := by
  obtain ⟨hl, hst⟩ := h
  unfold exec execCancel
  refine ⟨_, runL_left hl _ _, ?_⟩
  have hif : s.w.patState = 2 ∨ s.w.patState = 3 := hst
  simp only [hif, if_true]
  exact ⟨by simp, rfl, by simp⟩

theorem cancel_busy (s : State) (h : s.lanes ∧ s.reg PAT_STATUS_state ≠ 2 ∧ s.reg PAT_STATUS_state ≠ 3) :
    ∃ u, exec .cancel s = .next u ∧ u.reg PAT_STATUS_state = s.reg PAT_STATUS_state ∧ u.dev.pat = s.dev.pat ∧
      u.reg PAT_STATUS_error = 0x18 := by
  obtain ⟨hl, h2, h3⟩ := h
  unfold exec execCancel
  refine ⟨_, runL_left hl _ _, ?_⟩
  have hif : ¬(s.w.patState = 2 ∨ s.w.patState = 3) := not_or.mpr ⟨h2, h3⟩
  simp only [hif, if_false]
  exact patErr_busy s

/-! ## The barrier -/

/-- The verified pattern becomes the active one, the former one the inactive, and the hold begins. -/
theorem patSwitch_switches {w : W} {p : Pattern} (h : w.pat.inactive = some p) :
    w.patSwitch.get PAT_STATUS_state = 4 ∧ w.patSwitch.pat.active = p ∧ w.patSwitch.pat.inactive = some w.pat.active := by
  have heq : w.patSwitch = ((w.applyPattern p).setPat { (w.applyPattern p).pat with
      inactive := some w.pat.active, trialFrom := (w.applyPattern p).tb.up }).setPatState 4 := by simp only [W.patSwitch, h]
  rw [heq]
  exact ⟨setPatState_state _ _, by simp [applyPattern_pat], rfl⟩

/-- A barrier whose instant is reached in SERVING switches. -/
theorem patBarrier_serving (s : State) (t : Nat) (p : Pattern) (h : s.reg PAT_STATUS_state = 3 ∧
    s.dev.pat.barrier ≤ s.nsAt t ∧ s.dev.op = .serving ∧ s.dev.pat.inactive = some p) :
    (s.w.at_ t).patBarrier.get PAT_STATUS_state = 4 ∧ (s.w.at_ t).patBarrier.pat.active = p ∧
      (s.w.at_ t).patBarrier.pat.inactive = some s.dev.pat.active := by
  obtain ⟨hst, hdue, hop, hin⟩ := h
  have hpat : (s.w.at_ t).pat = s.dev.pat := W.at_pat s.w t
  have heq : (s.w.at_ t).patBarrier = (s.w.at_ t).patSwitch := by
    unfold W.patBarrier
    rw [if_pos ⟨(at_patState s t).trans hst, by rwa [hpat, at_nsAt]⟩, W.at_op, if_pos (by simpa using hop)]
  rw [heq, ← hpat]
  exact patSwitch_switches (by rw [hpat, hin])

theorem patternBarrier_switches (s : State) (t : Nat) (p : Pattern) (h : s.reg PAT_STATUS_state = 3 ∧
    s.dev.pat.barrier ≤ s.nsAt t ∧ s.dev.op = .serving ∧ s.dev.pat.inactive = some p) :
    ∃ u, exec (.patternBarrier t) s = .next u ∧ u.reg PAT_STATUS_state = 4 ∧ u.dev.pat.active = p ∧
      u.dev.pat.inactive = some s.dev.pat.active := by
  unfold exec execPatternBarrier
  exact ⟨_, run_left _ _ _, patBarrier_serving s t p h⟩

theorem deferredBarrier_switches (s : State) (t : Nat) (p : Pattern) (h : s.reg PAT_STATUS_state = 3 ∧
    s.dev.pat.barrier ≤ s.nsAt t ∧ s.dev.op = .serving ∧ s.dev.pat.inactive = some p) :
    ∃ u, exec (.deferredBarrier t) s = .next u ∧ u.reg PAT_STATUS_state = 4 ∧ u.dev.pat.active = p ∧
      u.dev.pat.inactive = some s.dev.pat.active := by
  unfold exec execDeferredBarrier
  exact ⟨_, run_left _ _ _, patBarrier_serving s t p h⟩

theorem patternBarrier_deferred (s : State) (t : Nat) (h : s.reg PAT_STATUS_state = 3 ∧
    s.dev.pat.barrier ≤ s.nsAt t ∧ s.dev.op = .degraded) : ∃ u, exec (.patternBarrier t) s = .next u ∧
    u.reg PAT_STATUS_state = 3 ∧ u.bitOf PAT_EVENT_load_deferred = true ∧ u.dev.pat = s.dev.pat := by
  obtain ⟨hst, hdue, hop⟩ := h
  have hpat : (s.w.at_ t).pat = s.dev.pat := W.at_pat s.w t
  have hstate : (s.w.at_ t).get PAT_STATUS_state = 3 := (at_patState s t).trans hst
  unfold exec execPatternBarrier
  refine ⟨_, run_left _ _ _, ?_⟩
  simp only [State.left_reg, State.left_bitOf, State.left_dev]
  unfold W.patBarrier
  rw [if_pos ⟨hstate, by rwa [hpat, at_nsAt]⟩, W.at_op, if_neg (by simp [hop])]
  split
  next hev => exact ⟨hstate, hev, hpat⟩
  next =>
    have hkeep : SameOff (Sparing [.pat] [PAT_STATUS_state]) (s.w.at_ t) ((s.w.at_ t).patEv PAT_EVENT_load_deferred) := by
      simp
    exact ⟨(hkeep.get_eq (by simp)).trans hstate, bit_patEv_same (by decide) rfl (by simp),
      (hkeep.parts .pat (by simp)).trans hpat⟩

/-! ## The end of the hold -/

theorem gopFirst_nil : W.gopFirst [] = none := rfl

/-- With no operation waiting there is none to execute. -/
theorem gopRelease_none {w : W} (h : ∀ o ∈ w.cry.ops, ¬(o.state = 1 ∧ o.unit = none ∧ o.t ≤ w.ns)) (n : Nat) :
    W.gopRelease n w = w := by
  cases n with
  | zero => rfl
  | succ n =>
    have hnone : w.cry.ops.filter (fun o => o.state == 1 && o.unit == none && decide (o.t ≤ w.ns)) = [] :=
      List.filter_eq_nil_iff.mpr fun o ho => by simpa [and_assoc] using h o ho
    rw [W.gopRelease, hnone, gopFirst_nil]

theorem holdEnd_begins_trial (s : State) (t : Nat) (h : s.reg PAT_STATUS_state = 4 ∧ (∀ o ∈ s.dev.cry.ops,
    ¬(o.state = 1 ∧ o.unit = none ∧ o.t ≤ s.nsAt t))) : ∃ u, exec (.holdEnd t) s = .next u ∧
    u.reg PAT_STATUS_state = 5 ∧ u.dev.pat = s.dev.pat := by
  obtain ⟨hst, hops⟩ := h
  have hcry : (s.w.at_ t).cry = s.dev.cry := W.at_part s.w t (p := .cry) (by decide)
  have hwait : ∀ o ∈ ((s.w.at_ t).setPatState 5).cry.ops,
      ¬(o.state = 1 ∧ o.unit = none ∧ o.t ≤ ((s.w.at_ t).setPatState 5).ns) := by
    show ∀ o ∈ (s.w.at_ t).cry.ops, ¬(o.state = 1 ∧ o.unit = none ∧ o.t ≤ (s.w.at_ t).ns)
    rwa [hcry, at_nsAt]
  unfold exec execHoldEnd
  refine ⟨_, run_left _ _ _, ?_⟩
  simp only [if_pos ((at_patState s t).trans hst), gopRelease_none hwait]
  exact ⟨setPatState_state _ _, W.at_pat s.w t⟩

/-- Settles O12, command by command: a barrier and its deferred form by the one switch they share. -/
theorem loaderStaging : Obligations.LoaderStaging :=
  ⟨verify_begins, verify_busy, verifyDone_verified, verifyDone_failed, arm_armed, arm_refused, cancel_discards,
   cancel_busy, patternBarrier_switches, patternBarrier_deferred, deferredBarrier_switches, holdEnd_begins_trial⟩

end Staging

end Sys2Proof.Machine

/-! # An exported blob longer than KEY_DST_LEN can say

KEY_DST_LEN has 32 bits and DRAM has 2^34 bytes. Nothing bounds the bytes of a key slot in the state, so an EXPORT can
store more of them than KEY_DST_LEN counts. -/

namespace Sys2Proof.Machine

section LongExport

/-! ## How long a wrapped key is -/

theorem length_leBytes (n v : Nat) : (leBytes n v).length = n := by
  induction n generalizing v with
  | zero => rfl
  | succ n ih => rw [leBytes, List.length_cons, ih]

theorem length_beBytes (n v : Nat) : (beBytes n v).length = n := by
  rw [beBytes, List.length_reverse, length_leBytes]

theorem length_aesEnc_le (ks : List Nat) (b : List Byte) : (aesEnc ks b).length ≤ max 16 b.length := by
  cases ks with
  | nil => exact le_max_right _ _
  | cons k t => exact (length_beBytes 16 _).trans_le (le_max_left _ _)

theorem length_mem_pieces_le {n k : Nat} {b r : List Byte} (h : r ∈ pieces n k b) : r.length ≤ n := by
  induction k generalizing b with
  | zero => simp [pieces] at h
  | succ k ih =>
    rw [pieces] at h
    split at h
    · simp at h
    · rcases List.mem_cons.mp h with rfl | h
      · exact List.length_take_le n b
      · exact ih h

theorem length_pieces_le (n k : Nat) (b : List Byte) : (pieces n k b).length ≤ k := by
  induction k generalizing b with
  | zero => simp [pieces]
  | succ k ih =>
    rw [pieces]
    split
    · simp
    · simpa using ih (b.drop n)

/-- The registers of a wrap of `n` blocks: A and each R of at most 8 bytes, at most `n` of R. -/
def WrapFits (n : Nat) (st : List Byte × List (List Byte)) : Prop :=
  st.1.length ≤ 8 ∧ st.2.length ≤ n ∧ ∀ r ∈ st.2, r.length ≤ 8

theorem WrapFits.step {n : Nat} {st : List Byte × List (List Byte)} (h : WrapFits n st) (ks : List Nat) (t : Nat) :
    WrapFits n (wrapStep ks st t) := by
  obtain ⟨a, rs⟩ := st
  obtain ⟨ha, hn, hr⟩ := h
  cases rs with
  | nil => exact ⟨ha, hn, hr⟩
  | cons r rest =>
    have henc : (aesEnc ks (a ++ r)).length ≤ 16 := by
      have hr' : r.length ≤ 8 := hr r List.mem_cons_self
      have := (length_aesEnc_le ks (a ++ r)).trans_eq (by rw [List.length_append])
      change a.length ≤ 8 at ha
      omega
    refine ⟨(length_beBytes 8 _).le, by simpa [wrapStep] using hn, fun x hx => ?_⟩
    rcases List.mem_append.mp hx with hx | hx
    · exact hr x (List.mem_cons_of_mem r hx)
    · rw [List.mem_singleton.mp hx, List.length_drop]
      exact Nat.sub_le_of_le_add henc

theorem WrapFits.foldl {n : Nat} (ks ts : List Nat) {st : List Byte × List (List Byte)} (h : WrapFits n st) :
    WrapFits n (ts.foldl (wrapStep ks) st) := by
  induction ts generalizing st with
  | nil => exact h
  | cons t ts ih => exact ih (h.step ks t)

theorem length_flatten_le {rs : List (List Byte)} {m : Nat} (h : ∀ r ∈ rs, r.length ≤ m) :
    rs.flatten.length ≤ rs.length * m := by
  rw [List.length_flatten]
  simpa using List.sum_le_card_nsmul (rs.map List.length) m (by simpa using h)

/-- A wrap adds 8 bytes to the data, padded to whole blocks. -/
theorem length_kwp_le (key data : List Byte) : (kwp key data).length ≤ 8 * ceilDiv data.length 8 + 8 := by
  have haiv : (beBytes 4 0xA65959A6 ++ beBytes 4 data.length).length = 8 := by simp [length_beBytes]
  simp only [kwp]
  split
  next hone =>
    have := length_aesEnc_le (aesKeys key)
      (beBytes 4 0xA65959A6 ++ beBytes 4 data.length ++ padTo (8 * ceilDiv data.length 8) data)
    rw [List.length_append, haiv] at this
    have hpad : (padTo (8 * ceilDiv data.length 8) data).length = 8 := by
      rw [hone, padTo, List.length_append, List.length_replicate]
      unfold ceilDiv at hone
      omega
    omega
  next =>
    obtain ⟨ha, hn, hr⟩ := WrapFits.foldl (n := ceilDiv data.length 8) (aesKeys key)
      ((upTo (6 * ceilDiv data.length 8)).map (· + 1)) (st := (beBytes 4 0xA65959A6 ++ beBytes 4 data.length,
        pieces 8 (ceilDiv data.length 8) (padTo (8 * ceilDiv data.length 8) data)))
      ⟨haiv.le, length_pieces_le .., fun r => length_mem_pieces_le⟩
    rw [List.length_append]
    have := length_flatten_le hr
    omega

theorem length_blobOf_le (kek h key : List Byte) :
    (W.blobOf kek h key).length ≤ 2 * h.length + key.length + 15 := by
  have := length_kwp_le kek (h ++ key)
  rw [List.length_append, ceilDiv] at this
  rw [W.blobOf, List.length_append]
  omega

theorem getElem_blobOf {kek h key : List Byte} {i : Nat} (hi : i < h.length) :
    ∃ hlt : i < (W.blobOf kek h key).length, (W.blobOf kek h key)[i] = h[i] :=
  ⟨by rw [W.blobOf, List.length_append]; omega, List.getElem_append_left hi⟩

/-! ## A command's end -/

theorem W.get_lt (w : W) (f : Fld) : w.get f < 2 ^ f.width := ((w.regs.rd f.addr).extractLsb' f.lo f.width).isLt

theorem tally_keeps (w : W) (e : Nat) : W.Keeps w (w.tally e) [.irq, .prf] [PRF_EVENT_sel_limit] [] :=
  .tally e (by simp) (by simp) (by simp)

theorem keyDone_out (w : W) (r : Nat) : (w.keyDone r).out = w.out := (tally_keeps _ _).out
theorem keyDone_zeroed (w : W) (r : Nat) : (w.keyDone r).zeroed = w.zeroed := (tally_keeps _ _).zeroed

/-! ## The counterexample -/

/-- A module in SERVING whose KEY_DST is the foot of DRAM and whose slot 0 is loaded with a header of `n` bytes 0xFF:
exportable, under the device KEK. -/
def exporting (n : Nat) : State :=
  { servingFromReset with
    dev := { servingFromReset.dev with
      regs := [(KEY_DST_HI_v.addr, 8)]
      key := { KeyState.init with root := some [], slots := [(0, ⟨1, 0, List.replicate n 0xFF, []⟩)] } } }

/-- The device KEK it exports under. -/
def exportKek : List Byte := W.kekOf [] (W.chainOf KeyState.init.digests) KeyState.init.lc

/-- The blob it exports. -/
def exportBlob (n : Nat) : List Byte := W.blobOf exportKek (List.replicate n 0xFF) []

theorem exporting_lanes (n : Nat) : (exporting n).lanes := servingFromReset_lanes

theorem exporting_keyDst (n : Nat) : (exporting n).w.keyDst = 0x800000000 := by
  show W.keyDst (exporting 0).w = _
  decide +kernel

theorem exporting_tampered (n : Nat) : (exporting n).w.tampered = false := by
  show W.tampered (exporting 0).w = _
  decide +kernel

theorem exporting_slotAt (n : Nat) : (exporting n).w.slotAt 0 = ⟨1, 0, List.replicate n 0xFF, []⟩ := rfl

theorem exporting_rd (n x : Nat) : (exporting n).mem.rd x = 0 := rfl

/-- The header keeps its bytes: byte 6 is 0xFF before EXPORT and after. -/
theorem replicate_byte6 {n : Nat} (h : 7 ≤ n) :
    (List.replicate n (0xFF : Byte)).take 6 ++ leBytes 1 0xFF ++ (List.replicate n 0xFF).drop 7 =
      List.replicate n 0xFF := by
  rw [List.take_replicate, List.drop_replicate, show leBytes 1 0xFF = List.replicate 1 0xFF from rfl,
    List.replicate_append_replicate, List.replicate_append_replicate]
  congr 1
  omega

theorem le_replicate {n k : Nat} (h : k < n) : le (List.replicate n (0xFF : Byte)) k 1 = 0xFF := by
  rw [le, cut, List.drop_replicate, List.take_replicate, show min 1 (n - k) = 1 by omega]
  rfl

theorem kFlag_replicate {n k : Nat} (h : 8 ≤ n) (hk : k < 8) : kFlag (List.replicate n 0xFF) k = true := by
  rw [kFlag, le_replicate (by omega)]
  revert k
  decide

theorem exporting_kekFor {n : Nat} (h : 8 ≤ n) : (exporting n).w.kekFor (List.replicate n 0xFF) (exporting n).w.key.lc
    (W.chainOf (exporting n).w.key.digests) = some exportKek := by
  rw [W.kekFor, kKek, le_replicate (by omega), if_pos rfl, kFlag_replicate h (by decide)]
  have hroot : (exporting n).w.key.root = some [] := rfl
  have hchain : (exporting n).w.key.digests = KeyState.init.digests := rfl
  have hlc : (exporting n).w.key.lc = KeyState.init.lc := rfl
  rw [hroot, hchain, hlc, Option.map_some, if_pos rfl, exportKek]

theorem exportBlob_fits {n : Nat} (h : n ≤ 2 ^ 32) : inRam 0x800000000 (exportBlob n).length = true := by
  have hlen : (exportBlob n).length ≤ 2 * n + 0 + 15 :=
    (length_blobOf_le exportKek _ []).trans_eq (by rw [List.length_replicate, List.length_nil])
  simp only [inRam, inDram, Bool.or_eq_true, Bool.and_eq_true, decide_eq_true_eq]
  omega

theorem keyExport_exporting {n : Nat} (hlo : 8 ≤ n) (hhi : n ≤ 2 ^ 32) :
    (exporting n).w.keyExport 0 0xFF = ((exporting n).w.keyOut (exportBlob n)).keyDone 0 := by
  have hroot : (exporting n).w.key.root.isNone = false := rfl
  simp only [W.keyExport, exporting_tampered, exporting_slotAt, hroot, kFlag_replicate hlo (show 1 < 8 by decide),
    replicate_byte6 (show 7 ≤ n by omega), exporting_kekFor hlo, exporting_keyDst]
  have hfits : (!inRam 0x800000000 (W.blobOf exportKek (List.replicate n 0xFF) []).length) = false :=
    congrArg _ (exportBlob_fits hhi)
  simp only [hfits]
  rfl

theorem exec_exportKey {s : State} (h : s.lanes) {slot aux : Nat} (hwf : wfExportKey slot aux = true)
    (hlc : s.w.key.lc ≠ 4) : exec (.exportKey true slot aux) s = .next (s.left (s.w.keyExport slot aux)) := by
  show execExportKey true slot aux s = _
  rw [execExportKey, hwf, runL_left h, W.keyPriv, if_pos rfl, W.keyCmd, if_neg hlc]

/-- EXPORT stores the whole header again, at the foot of DRAM. -/
theorem exporting_stores_header {n : Nat} (hlo : 8 ≤ n) (hhi : n ≤ 2 ^ 32) :
    ∃ u, exec (.exportKey true 0 0xFF) (exporting n) = .next u ∧ ∀ i < n, u.mem.rd (0x800000000 + i) = 0xFF := by
  refine ⟨_, exec_exportKey (exporting_lanes n) rfl (show KeyState.init.lc ≠ 4 by decide), fun i hi => ?_⟩
  obtain ⟨hlt, hbyte⟩ := getElem_blobOf (kek := exportKek) (h := List.replicate n 0xFF) (key := []) (i := i)
    (by simpa)
  rw [keyExport_exporting hlo hhi, State.left, keyDone_out, keyDone_zeroed, W.keyOut, W.set_out, W.set_zeroed,
    W.wrBytes_zeroed, exporting_keyDst]
  exact (rd_wrBytes hlt).trans (hbyte.trans (List.getElem_replicate _))

/-- Refutes O58: EXPORT stores its whole blob, but the statement lets it store only KEY_DST_LEN bytes from KEY_DST on,
and that register is the blob's length modulo 2^32. With 2^32 bytes in the slot's header (which the state admits, though no
LOAD or IMPORT makes it: a blob has at most 4096 bytes) the header's last byte is stored outside the region. -/
theorem not_framesOfStoringCommands : ¬ Obligations.FramesOfStoringCommands := by
  unfold Obligations.FramesOfStoringCommands
  rintro ⟨-, -, -, -, -, -, -, -, -, -, -, -, -, -, -, -, -, -, -, -, -, hframe, -⟩
  obtain ⟨n, hn⟩ : ∃ n, n = 2 ^ 32 := ⟨_, rfl⟩
  obtain ⟨u, hu, hstored⟩ := exporting_stores_header (n := n) (by omega) hn.le
  obtain ⟨-, hmem⟩ := hframe (exporting n) true 0 0xFF u hu
  have houtside : ¬ within (exporting n).w.keyDst (u.reg KEY_DST_LEN_v) (0x800000000 + (n - 1)) := by
    have hlen : u.reg KEY_DST_LEN_v < 2 ^ 32 := W.get_lt u.w KEY_DST_LEN_v
    rw [exporting_keyDst, within]
    omega
  have hbyte := hmem _ houtside
  rw [hstored (n - 1) (by omega), exporting_rd] at hbyte
  exact absurd hbyte (by decide)

end LongExport

end Sys2Proof.Machine

/-! # Triggers, captures and PPS_OUT -/

namespace Sys2Proof.Machine

section Triggers

open SameOff Spot

/-! ## What the counter carried forward leaves of the timebase -/

/-- A timebase with what the passing of time moves taken out. -/
def TbState.unclocked (x : TbState) : TbState := { x with now := 0, up := 0, slew := 0, cyc := [] }

theorem tallyN_tb (w : W) (e n : Nat) : (w.tallyN e n).tb = w.tb :=
  (W.Keeps.tallyN (ps := [.irq, .prf]) (fs := [PRF_EVENT_sel_limit]) (gs := []) e n (by decide) (by decide)
    List.mem_cons_self).parts .tb (by decide)

theorem at_unclocked (w : W) (t : Nat) : (w.at_ t).tb.unclocked = w.tb.unclocked := by
  have hcycles : ∀ (x : W) (dt : Nat), (x.cycles dt).tb.unclocked = x.tb.unclocked := fun x dt => by
    simp only [W.cycles, tallyN_tb]
    rfl
  unfold W.at_
  split
  · dsimp only
    split
    · exact hcycles _ _
    · rfl
  · rfl

section
variable (w : W) (t : Nat)

theorem at_trg : (w.at_ t).tb.trg = w.tb.trg := (congrArg TbState.trg (at_unclocked w t) :)
theorem at_cap : (w.at_ t).tb.cap = w.tb.cap := (congrArg TbState.cap (at_unclocked w t) :)
theorem at_tickSec : (w.at_ t).tb.tickSec = w.tb.tickSec := (congrArg TbState.tickSec (at_unclocked w t) :)
theorem at_ppsSec : (w.at_ t).tb.ppsSec = w.tb.ppsSec := (congrArg TbState.ppsSec (at_unclocked w t) :)
theorem at_ppsOut : (w.at_ t).tb.ppsOut = w.tb.ppsOut := (congrArg TbState.ppsOut (at_unclocked w t) :)
theorem at_ppsRoseAt : (w.at_ t).tb.ppsRoseAt = w.tb.ppsRoseAt := (congrArg TbState.ppsRoseAt (at_unclocked w t) :)

end

theorem at_sec (s : State) (t : Nat) : (s.w.at_ t).sec = s.nsAt t / 1000000000 := by rw [W.sec, at_nsAt]

/-! ## Arming a unit -/

/-- A field whose bits all take the written value and none of them clears on a 1. -/
theorem fld_busWrite {rs : Regs} {f : Fld} {d : RegDef} {v : W32} (hd : regDefAt f.addr = some d)
    (h : ∀ i < f.width, d.rw.getLsbD (f.lo + i) = true ∧ d.w1c.getLsbD (f.lo + i) = false) :
    (rs.busWrite f.addr v).fld f = fldOf v f.lo f.width := by
  unfold Regs.busWrite Regs.fld
  rw [hd, Regs.rd_wr_same]
  unfold fldOf
  congr 1
  apply BitVec.eq_of_getLsbD_eq
  intro i hi
  obtain ⟨hrw, hw1c⟩ := h i hi
  have h32 : f.lo + i < 32 := BitVec.lt_of_getLsbD hrw
  simp only [BitVec.getLsbD_extractLsb', BitVec.getLsbD_or, BitVec.getLsbD_and, BitVec.getLsbD_not, hi, hrw, hw1c, h32,
    decide_true, Bool.and_true, Bool.true_and, Bool.not_true, Bool.and_false, Bool.false_or, Bool.not_false]

/-- The access codes of a unit's control register. -/
theorem trgCtrl_access {n : Nat} (h : n < 16) :
    (regDefAt (TRG_CTRL_arm n).addr).map (fun d => (d.rw, d.w1c)) = some (0xFF1, 0x70000) := by
  revert n
  decide +kernel

/-- A write of TRG_CTRL[n] before the unit is armed: the register, and the unit disarmed. -/
def trgWritten (w : W) (n : Nat) (v : W32) : W :=
  let w := ({ w with regs := w.regs.busWrite (TRG_CTRL_arm n).addr v } : W).dirty
  w.setTb { w.tb with trg := tblDel n w.tb.trg }

theorem trgWrite_eq (w : W) (n : Nat) (v : W32) :
    w.trgWrite n v = if v.getLsbD 0 then (trgWritten w n v).armUnit n else trgWritten w n v := rfl

section
variable (w : W) {n : Nat} (v : W32)

theorem dirty_tb : w.dirty.tb = w.tb := by
  unfold W.dirty
  split <;> rfl

theorem trgWritten_tb : (trgWritten w n v).tb = { w.tb with trg := tblDel n w.tb.trg } := by
  unfold trgWritten
  dsimp only [W.setTb]
  rw [dirty_tb]

theorem dirty_sameOff {f : Fld} (hf : 0x40020000 ≤ f.addr) : SameOff (Sparing [] [f]) w w.dirty := by
  have hsys : SYS_STATUS_settings_dirty.Apart f := .inl (Nat.ne_of_lt (Nat.lt_of_lt_of_le (by decide) hf))
  exact (dirty_iff ⟨by simp, by simpa using hsys⟩).mpr (refl w)

/-- Of the registers from block 2 on the write changes only the unit's control register. -/
theorem trgWritten_get {f : Fld} (hle : 0x40020000 ≤ f.addr) (hne : (TRG_CTRL_arm n).addr ≠ f.addr) :
    (trgWritten w n v).get f = w.get f := by
  have hwrite : SameOff (Sparing [] [f]) w { w with regs := w.regs.busWrite (TRG_CTRL_arm n).addr v } :=
    (with_busWrite_iff (by simpa using Or.inl hne) v).mpr (refl w)
  exact (hwrite.trans (dirty_sameOff _ hle)).get_eq (f := f) (by simp)

theorem trgWritten_ctrl {f : Fld} (hn : n < 16) (haddr : f.addr = (TRG_CTRL_arm n).addr)
    (hrw : ∀ i < f.width, (0xFF1 : W32).getLsbD (f.lo + i) = true ∧ (0x70000 : W32).getLsbD (f.lo + i) = false) :
    (trgWritten w n v).get f = fldOf v f.lo f.width := by
  obtain ⟨d, hd, hacc⟩ := Option.map_eq_some_iff.mp (trgCtrl_access hn)
  obtain ⟨hdrw, hdw1c⟩ := Prod.mk.inj hacc
  rw [← haddr] at hd
  rw [← hdrw, ← hdw1c] at hrw
  have hle : 0x40020000 ≤ f.addr := by
    rw [haddr]
    dsimp only
    omega
  refine ((dirty_sameOff _ hle).get_eq (f := f) (by simp)).trans ?_
  rw [← haddr]
  exact fld_busWrite hd hrw

end

section
variable (w : W) {n : Nat}

theorem armUnit_valid {x : Nat} (ht : w.get (TRG_CTRL_target n) < 6) (hx : w.trgInstant n = some x) :
    w.armUnit n = (w.set (TRG_COUNT_v n) 0).armAt n x (w.trgPeriod n) := by
  simp only [W.armUnit, if_pos ht, hx]

theorem armUnit_invalid (h : 6 ≤ w.get (TRG_CTRL_target n) ∨ w.trgInstant n = none) :
    w.armUnit n = (w.set (TRG_CTRL_arm n) 0).set (TRG_CTRL_late n) 1 := by
  unfold W.armUnit
  split
  next => rfl
  next x hx =>
    split at hx
    next ht => exact absurd hx (by rw [h.resolve_left (Nat.not_le.mpr ht)]; exact nofun)
    next => cases hx

theorem armAt_trg (first period : Nat) : tblGet (w.armAt n first period).tb.trg n =
    some ⟨first, period, if first ≤ w.ns then w.ns else first, decide (first ≤ w.ns), w.tb.up⟩ := by
  unfold W.armAt
  rw [tblGet_tblPut_same]
  simp only [decide_eq_true_eq]
  rfl

theorem armAt_get {f : Fld} (hf : (TRG_CTRL_late n).Apart f) (first period : Nat) :
    (w.armAt n first period).get f = w.get f := W.get_set_other hf _

theorem armAt_bit {f : Fld} (hf : (TRG_CTRL_late n).Apart f) (first period : Nat) :
    (w.armAt n first period).bit f = w.bit f := congrArg (· != 0) (armAt_get w hf first period)

theorem armAt_late {first : Nat} (h : first ≤ w.ns) (period : Nat) :
    (w.armAt n first period).get (TRG_CTRL_late n) = 1 := by
  show (w.setB (TRG_CTRL_late n) (decide (first ≤ w.ns) || w.bit (TRG_CTRL_late n))).get (TRG_CTRL_late n) = 1
  rw [decide_eq_true h, Bool.true_or]
  exact W.get_set_same (by simp) 1

end

section
variable {s : State} {n : Nat} {v : W32}

theorem trgWritten_target (hn : n < 16) : (trgWritten s.w n v).get (TRG_CTRL_target n) =
    fldOf v (TRG_CTRL_target n).lo (TRG_CTRL_target n).width := trgWritten_ctrl _ _ hn rfl (by simp only; decide)

theorem trgWritten_arm (hn : n < 16) : (trgWritten s.w n v).bit (TRG_CTRL_arm n) = v.getLsbD 0 := by
  have hget : (trgWritten s.w n v).get (TRG_CTRL_arm n) = fldOf v 0 1 :=
    trgWritten_ctrl _ _ hn rfl (by simp only; decide)
  have hbit : tst (fldOf v 0 1) 0 = v.getLsbD 0 :=
    (Nat.testBit_eq_decide_div_mod_eq ..).symm.trans (testBit_fldOf Nat.one_pos)
  rw [← hbit, tst_fldOf Nat.one_pos, W.bit, Regs.bit]
  exact congrArg (· != 0) hget

theorem trgWritten_instant (hn : n < 16) : (trgWritten s.w n v).trgInstant n = s.w.trgInstant n := by
  unfold W.trgInstant
  rw [trgWritten_get, trgWritten_get, trgWritten_get] <;> dsimp only <;> omega

theorem trgWritten_period : (trgWritten s.w n v).trgPeriod n = s.w.trgPeriod n := by
  unfold W.trgPeriod
  rw [trgWritten_get] <;> dsimp only <;> omega

theorem exec_triggerArm (hl : s.lanes) (hn : n < 16) (v : W32) :
    exec (.triggerArm n v) s = .next (s.left (s.w.trgWrite n v)) := by
  show execTriggerArm n v s = _
  rw [execTriggerArm, wfTriggerArm, decide_eq_true hn, runL_left hl]

end

theorem triggerArm_arms (s : State) (n : Nat) (v : W32) (x : Nat) (h : s.lanes ∧ n < 16 ∧ v.getLsbD 0 = true ∧
    fldOf v (TRG_CTRL_target n).lo (TRG_CTRL_target n).width < 6 ∧ s.w.trgInstant n = some x) :
    ∃ u, exec (.triggerArm n v) s = .next u ∧
    tblGet u.dev.tb.trg n = some ⟨x, s.w.trgPeriod n, (if x ≤ s.ns then s.ns else x), decide (x ≤ s.ns),
    s.dev.tb.up⟩ ∧ u.reg (TRG_COUNT_v n) = 0 ∧ (x ≤ s.ns → u.reg (TRG_CTRL_late n) = 1) ∧ u.bitOf (TRG_CTRL_arm n)
    = true := by
  obtain ⟨hl, hn, hv, ht, hx⟩ := h
  have hw : s.w.trgWrite n v = ((trgWritten s.w n v).set (TRG_COUNT_v n) 0).armAt n x (s.w.trgPeriod n) := by
    rw [trgWrite_eq, if_pos hv, armUnit_valid _ (by rwa [trgWritten_target hn]) (by rwa [trgWritten_instant hn]),
      trgWritten_period]
  have htb := trgWritten_tb s.w (n := n) v
  have hns : ((trgWritten s.w n v).set (TRG_COUNT_v n) 0).ns = s.ns := by rw [W.ns, W.set_tb, htb]; rfl
  have hup : ((trgWritten s.w n v).set (TRG_COUNT_v n) 0).tb.up = s.dev.tb.up := by rw [W.set_tb, htb]; rfl
  refine ⟨_, exec_triggerArm hl hn v, ?_⟩
  simp only [State.left_reg, State.left_bitOf, State.left_dev, hw]
  refine ⟨?_, ?_, fun hle => ?_, ?_⟩
  · rw [armAt_trg, hns, hup]
  · rw [armAt_get _ (by simp), W.get_set_same (by simp)]
    rfl
  · exact armAt_late _ (hns ▸ hle) _
  · have harm : ((trgWritten s.w n v).set (TRG_COUNT_v n) 0).bit (TRG_CTRL_arm n) = true := by
      rw [W.bit_set_other (by simp), trgWritten_arm hn, hv]
    rwa [armAt_bit _ (by simp)]

theorem triggerArm_disarms (s : State) (n : Nat) (v : W32) (h : s.lanes ∧ n < 16 ∧ (v.getLsbD 0 = false ∨
    6 ≤ fldOf v (TRG_CTRL_target n).lo (TRG_CTRL_target n).width ∨ s.w.trgInstant n = none)) :
    ∃ u, exec (.triggerArm n v) s = .next u ∧ tblGet u.dev.tb.trg n = none ∧ u.bitOf (TRG_CTRL_arm n) = false ∧
    (v.getLsbD 0 = true → u.reg (TRG_CTRL_late n) = 1) := by
  obtain ⟨hl, hn, h⟩ := h
  have hnone : tblGet (trgWritten s.w n v).tb.trg n = none := by
    rw [trgWritten_tb]
    exact tblGet_tblDel_same ..
  refine ⟨_, exec_triggerArm hl hn v, ?_⟩
  simp only [State.left_reg, State.left_bitOf, State.left_dev, trgWrite_eq]
  by_cases hv : v.getLsbD 0 = true
  · rw [if_pos hv, armUnit_invalid _ (by
      rw [trgWritten_target hn, trgWritten_instant hn]
      exact h.resolve_left (by simp [hv]))]
    refine ⟨hnone, ?_, fun _ => W.get_set_same (by simp) 1⟩
    rw [W.bit_set_other (by simp), W.bit_eq_false, W.get_set_same (by simp)]
    rfl
  · rw [if_neg hv]
    exact ⟨hnone, (trgWritten_arm hn).trans (by simpa using hv), fun hv' => absurd hv' hv⟩

/-! ## Epoch ticks and PPS_OUT -/

theorem owe_tb (w : W) (f : AlnGroup → AlnGroup) : (w.owe f).tb = w.tb :=
  ((owe_iff (P := Sparing [.tb] []) (by simp) f).mpr (refl w)).parts .tb (by simp)

theorem setTb_bit (w : W) (x : TbState) (f : Fld) : (w.setTb x).bit f = w.bit f := rfl

/-- The estimate does not rest on the second PPS_OUT has risen in. -/
theorem timeOk_ppsSec (w : W) (sec : Nat) : (w.setTb { w.tb with ppsSec := sec }).timeOk = w.timeOk := rfl

theorem epochTick_ticks (s : State) (t : Nat) (h : s.w.mainOn = true ∧ s.dev.tb.tickSec < s.nsAt t / 1000000000) :
    ∃ u, exec (.epochTick t) s = .next u ∧ u.dev.tb.tickSec = s.nsAt t / 1000000000 := by
  obtain ⟨hon, hsec⟩ := h
  have hdue : ((s.w.at_ t).mainOn && decide ((s.w.at_ t).tb.tickSec < (s.w.at_ t).sec)) = true := by
    rw [W.at_mainOn, hon, at_tickSec, at_sec, Bool.true_and]
    exact decide_eq_true hsec
  unfold exec execEpochTick
  refine ⟨_, run_left _ _ _, ?_⟩
  dsimp only [State.left_dev]
  rw [if_pos hdue, owe_tb]
  exact at_sec s t

theorem ppsOutRise_rises (s : State) (t : Nat) (h : s.w.mainOn = true ∧ s.dev.tb.ppsSec < s.nsAt t / 1000000000 ∧
    (s.bitOf TBS_CTRL_pps_out_gate = false ∨ (s.w.at_ t).timeOk = true)) : ∃ u, exec (.ppsOutRise t) s = .next u ∧
    u.dev.tb.ppsOut = true ∧ u.dev.tb.ppsRoseAt = s.upAt t ∧ u.dev.tb.ppsSec = s.nsAt t / 1000000000 := by
  obtain ⟨hon, hsec, hgate⟩ := h
  have hdue : ((s.w.at_ t).mainOn && decide ((s.w.at_ t).tb.ppsSec < (s.w.at_ t).sec)) = true := by
    rw [W.at_mainOn, hon, at_ppsSec, at_sec, Bool.true_and]
    exact decide_eq_true hsec
  have hopen : (!(s.w.at_ t).bit TBS_CTRL_pps_out_gate || (s.w.at_ t).timeOk) = true := by
    rw [W.at_bit _ _ (by simp), Bool.or_eq_true, Bool.not_eq_true']
    exact hgate
  unfold exec execPpsOutRise
  refine ⟨_, run_left _ _ _, ?_⟩
  dsimp only [State.left_dev]
  rw [if_pos hdue, setTb_bit, timeOk_ppsSec, if_pos hopen]
  exact ⟨rfl, W.at_up s.w t, at_sec s t⟩

theorem ppsOutRise_once (s : State) (t : Nat) (h : s.nsAt t / 1000000000 ≤ s.dev.tb.ppsSec) :
    ∃ u, exec (.ppsOutRise t) s = .next u ∧ u.dev.tb.ppsOut = s.dev.tb.ppsOut ∧
    u.dev.tb.ppsRoseAt = s.dev.tb.ppsRoseAt := by
  have hidle : ((s.w.at_ t).mainOn && decide ((s.w.at_ t).tb.ppsSec < (s.w.at_ t).sec)) = false := by
    rw [at_ppsSec, at_sec, Bool.and_eq_false_iff]
    exact .inr (decide_eq_false (Nat.not_lt.mpr h))
  unfold exec execPpsOutRise
  refine ⟨_, run_left _ _ _, ?_⟩
  dsimp only [State.left_dev]
  rw [if_neg (by rw [hidle]; exact Bool.false_ne_true)]
  exact ⟨at_ppsOut s.w t, at_ppsRoseAt s.w t⟩

theorem ppsOutFall_falls (s : State) (t : Nat) (h : s.dev.tb.ppsOut = true ∧ s.dev.tb.ppsRoseAt +
    max 1 (min 999 (s.reg TBS_PPS_CFG_out_width_ms)) * 1000000 ≤ s.upAt t) : ∃ u, exec (.ppsOutFall t) s = .next u ∧
    u.dev.tb.ppsOut = false := by
  obtain ⟨hhigh, hwidth⟩ := h
  have hdue : ((s.w.at_ t).tb.ppsOut && decide ((s.w.at_ t).tb.ppsRoseAt +
      max 1 (min 999 ((s.w.at_ t).get TBS_PPS_CFG_out_width_ms)) * 1000000 ≤ (s.w.at_ t).tb.up)) = true := by
    rw [at_ppsOut, at_ppsRoseAt, W.at_get _ _ (by simp), W.at_up]
    exact Bool.and_eq_true_iff.mpr ⟨hhigh, decide_eq_true hwidth⟩
  unfold exec execPpsOutFall
  refine ⟨_, run_left _ _ _, ?_⟩
  dsimp only [State.left_dev]
  rw [if_pos hdue]
  rfl

/-! ## Reading a capture unit -/

theorem capNsRead_answers (s : State) (n x : Nat) (h : s.lanes ∧ n < 16 ∧
    x = (((tblGet s.dev.tb.cap n).getD []).head?).getD 0) : ∃ u, exec (.capNsRead n) s = .next u ∧
    u.dev.resp = ⟨x / 65536 % 1000000000, false⟩ ∧ u.reg (CAP_SEC_LO_v n) = x / 65536 / 1000000000 % 2 ^ 32 ∧
    u.dev.tb.cap = s.dev.tb.cap := by
  obtain ⟨hl, hn, rfl⟩ := h
  show ∃ u, execCapNsRead n s = _ ∧ _
  rw [execCapNsRead, wfCapNsRead, decide_eq_true hn, runL_left hl]
  refine ⟨_, rfl, rfl, ?_, rfl⟩
  exact ((W.get_set_other (by simp) _).trans (W.get_set_other (by simp) _)).trans
    ((W.get_set_same (by simp) _).trans (Nat.mod_mod _ _))

theorem capPop_pops (s : State) (n : Nat) (h : s.lanes ∧ n < 16) : ∃ u, exec (.capPop n) s = .next u ∧
    tblGet u.dev.tb.cap n = some (((tblGet s.dev.tb.cap n).getD []).drop 1) ∧
    u.reg (CAP_CTRL_count n) = (((tblGet s.dev.tb.cap n).getD []).drop 1).length % 2 ^ (CAP_CTRL_count n).width := by
  obtain ⟨hl, hn⟩ := h
  show ∃ u, execCapPop n s = _ ∧ _
  rw [execCapPop, wfCapPop, decide_eq_true hn, runL_left hl]
  exact ⟨_, rfl, tblGet_tblPut_same .., W.get_set_same (by simp) _⟩

/-! ## What a fire's target leaves of the timebase -/

/-- Everything but the timebase's state and the registers below block 3. -/
def OutsideTimebase : Spot → Prop
  | part p => p ≠ .tb
  | fld f => 0x40030000 ≤ f.addr
  | byte _ => True
  | zero => True

@[simp] theorem outside_part {p : Part} : OutsideTimebase (part p) ↔ p ≠ .tb := Iff.rfl
@[simp] theorem outside_fld {f : Fld} : OutsideTimebase (fld f) ↔ 0x40030000 ≤ f.addr := Iff.rfl
@[simp] theorem outside_byte {a : Nat} : OutsideTimebase (byte a) ↔ True := Iff.rfl
@[simp] theorem outside_zero : OutsideTimebase zero ↔ True := Iff.rfl

section
variable {w v : W}

theorem outside_get (h : SameOff OutsideTimebase w v) {f : Fld} (hf : f.addr < 0x40030000) : v.get f = w.get f := by
  have hmono : SameOff (Sparing [.tb] [f]) w v := h.mono fun x hx => by
    cases x with
    | part p => simpa using hx
    | fld g => simpa using Or.inl (Nat.ne_of_gt (hf.trans_le hx))
    | byte a => trivial
    | zero => trivial
  exact hmono.get_eq (by simp)

theorem outside_tb (h : SameOff OutsideTimebase w v) : v.tb = w.tb := h.parts .tb (by simp)

end

section
variable {w v : W}

@[simp ↓] theorem conversion_outside_iff (inst : Nat) :
    SameOff OutsideTimebase w (v.conversion inst) ↔ SameOff OutsideTimebase w v := by
  refine drop_iff ?_
  unfold W.conversion
  simp [Nat.le_add_right_of_le]

@[simp ↓] theorem levelWrite_outside_iff (g f : Nat) :
    SameOff OutsideTimebase w (v.levelWrite g f) ↔ SameOff OutsideTimebase w v := by
  refine drop_iff ?_
  unfold W.levelWrite W.wrLe
  dsimp only
  split <;> simp

/-- A lantern's level is stored in its entry, and nowhere in the timebase. -/
@[simp ↓] theorem lanternCycle_outside_iff (i t : Nat) :
    SameOff OutsideTimebase w (v.lanternCycle i t) ↔ SameOff OutsideTimebase w v := by
  refine drop_iff ?_
  unfold W.lanternCycle
  split <;> simp

@[simp ↓] theorem showLevel_outside_iff : SameOff OutsideTimebase w v.showLevel ↔ SameOff OutsideTimebase w v := by
  refine drop_iff ?_
  unfold W.showLevel
  simp

@[simp ↓] theorem fieldCycle_outside_iff (t : Nat) :
    SameOff OutsideTimebase w (v.fieldCycle t) ↔ SameOff OutsideTimebase w v := by
  refine drop_iff ?_
  unfold W.fieldCycle
  simp [Nat.le_add_right_of_le]

end

section
variable (w : W) {n : Nat}

/-- A fire of the unit executes no operation of the Crier. -/
abbrev trgUnbound (w : W) (n : Nat) : Prop :=
  w.get (TRG_CTRL_target n) ≠ 4 ∨ ∀ o ∈ w.cry.ops, ¬(o.state = 1 ∧ o.unit = some n)

/-- Without an operation bound to the unit the Crier has nothing to execute. -/
theorem gopFire_unbound (h : ∀ o ∈ w.cry.ops, ¬(o.state = 1 ∧ o.unit = some n)) : w.gopFire n = w := by
  have hnone : w.cry.ops.find? (fun o => o.state == 1 && o.unit == some n) = none :=
    List.find?_eq_none.mpr fun o ho => by simpa using h o ho
  rw [W.gopFire, hnone]

theorem trgPulse_keeps (sel : Nat) : (w.trgPulse sel).tb.trg = w.tb.trg ∧ (w.trgPulse sel).regs = w.regs := by
  unfold W.trgPulse
  split <;> exact ⟨rfl, rfl⟩

/-- A target acts on other blocks, and not on the trigger units. -/
theorem targetAct_keeps (h : trgUnbound w n)
    (inst : Nat) : (w.targetAct n inst).tb.trg = w.tb.trg ∧
    ∀ f : Fld, f.addr < 0x40030000 → (w.targetAct n inst).get f = w.get f := by
  have hkeeps : ∀ {v : W}, SameOff OutsideTimebase w v →
      v.tb.trg = w.tb.trg ∧ ∀ f : Fld, f.addr < 0x40030000 → v.get f = w.get f :=
    fun hv => ⟨congrArg TbState.trg (outside_tb hv), fun f hf => outside_get hv hf⟩
  unfold W.targetAct
  dsimp only
  split_ifs with h1 h2 hsel h3 h4 h5
  · exact hkeeps (by simp)
  · exact hkeeps ((swapEvent_iff (by simp [Nat.le_add_right_of_le]) 0).mpr (refl w))
  · exact ⟨rfl, fun f _ => rfl⟩
  · exact hkeeps (by simp)
  · rw [gopFire_unbound w (h.resolve_left (not_not_intro h4))]
    exact ⟨rfl, fun f _ => rfl⟩
  · obtain ⟨htrg, hregs⟩ := trgPulse_keeps w (w.get (TRG_CTRL_sel n))
    exact ⟨htrg, fun f _ => congrArg (Regs.fld · f) hregs⟩
  · exact ⟨rfl, fun f _ => rfl⟩

end

/-! ## A fire -/

/-- A unit's registers lie below block 3. -/
theorem trgUnit_addr {n : Nat} {f : Fld} (hn : n < 16) (hf : f.addr ≤ 0x40020114 + 0x20 * n) :
    f.addr < 0x40030000 := by omega

/-- What has acted on an edge is no part of what a target reads of the units. -/
theorem targetAct_acted_keeps (w : W) {n : Nat}
    (h : trgUnbound w n) (acted : List (Nat × Nat))
    (inst : Nat) : ((w.setTb { w.tb with acted := acted }).targetAct n inst).tb.trg = w.tb.trg ∧
    ∀ f : Fld, f.addr < 0x40030000 → ((w.setTb { w.tb with acted := acted }).targetAct n inst).get f = w.get f :=
  targetAct_keeps (w.setTb { w.tb with acted := acted }) h inst

/-- The unit after a fire: a one-shot disarmed, a periodic one due again. -/
def trgNext (w : W) (n : Nat) (a : TrgArm) : W :=
  if a.period = 0 then w.disarmUnit n
  else
    let next := if a.jump then W.gridAfter a.first a.period a.next else a.next + a.period
    w.setTb { w.tb with trg := tblPut n { a with next := next, jump := false } w.tb.trg }

/-- A fire counted, flagged and told. -/
def trgCounted (w : W) (n : Nat) : W :=
  let w := ((w.bump (TRG_COUNT_v n) 1).set (TRG_CTRL_fired n) 1).tally 0xD8
  w.raise (0x190 + n) (w.get (TRG_COUNT_v n))

theorem trgFire_eq (w : W) (n : Nat) (a : TrgArm) : w.trgFire n a =
    let v := trgNext (trgCounted w n) n a
    if tblGet v.tb.acted (v.targetKey n) = some (ceilDiv a.next 4) ∧ v.get (TRG_CTRL_target n) ≠ 4 then v
    else (v.setTb { v.tb with acted := tblPut (v.targetKey n) (ceilDiv a.next 4) v.tb.acted }).targetAct n a.next := rfl

section
variable (w : W) {n : Nat} (a : TrgArm)

theorem tally_get {f : Fld} (hf : f.addr < 0x40030000) (e : Nat) : (w.tally e).get f = w.get f :=
  outside_get ((tally_iff (by simp) e).mpr (refl w)) hf

theorem trgCounted_fired (hn : n < 16) : (trgCounted w n).get (TRG_CTRL_fired n) = 1 := by
  show (W.tally _ _).get _ = _
  rw [tally_get _ (trgUnit_addr hn (by simp)), W.get_set_same (by simp)]
  rfl

theorem trgCounted_count (hn : n < 16) :
    (trgCounted w n).get (TRG_COUNT_v n) = min (w.get (TRG_COUNT_v n) + 1) (2 ^ 32 - 1) := by
  show (W.tally _ _).get _ = _
  rw [tally_get _ (trgUnit_addr hn (by simp)), W.get_set_other (by simp)]
  refine (W.get_set_same (w := w) (f := TRG_COUNT_v n) (by simp) _).trans (Nat.mod_eq_of_lt ?_)
  exact Nat.lt_of_le_of_lt (Nat.min_le_right _ _) (Nat.sub_lt (by simp) (by simp))

theorem trgCounted_target (hn : n < 16) : (trgCounted w n).get (TRG_CTRL_target n) = w.get (TRG_CTRL_target n) := by
  show (W.tally _ _).get _ = _
  rw [tally_get _ (trgUnit_addr hn (by simp)), W.get_set_other (by simp)]
  exact W.get_set_other (by simp) _

theorem trgCounted_cry : (trgCounted w n).cry = w.cry :=
  ((tally_iff (P := Sparing [.cry] []) (by simp) 0xD8).mpr (refl ((w.bump (TRG_COUNT_v n) 1).set (TRG_CTRL_fired n) 1))).parts
    .cry (by simp)

theorem trgNext_get {f : Fld} (hf : (TRG_CTRL_arm n).Apart f) : (trgNext w n a).get f = w.get f := by
  unfold trgNext
  split
  · exact W.get_set_other hf 0
  · rfl

theorem trgNext_cry : (trgNext w n a).cry = w.cry := by
  unfold trgNext
  split <;> rfl

theorem trgNext_once (h : a.period = 0) :
    tblGet (trgNext w n a).tb.trg n = none ∧ (trgNext w n a).get (TRG_CTRL_arm n) = 0 := by
  rw [trgNext, if_pos h]
  exact ⟨tblGet_tblDel_same .., W.get_set_same (by simp) 0⟩

theorem trgNext_periodic (h : a.period ≠ 0) : tblGet (trgNext w n a).tb.trg n = some
    { a with next := (if a.jump then W.gridAfter a.first a.period a.next else a.next + a.period), jump := false } := by
  rw [trgNext, if_neg h]
  exact tblGet_tblPut_same ..

/-- What the target does changes neither the units nor their registers. -/
theorem trgFire_keeps (hn : n < 16) (h : trgUnbound w n) :
    (w.trgFire n a).tb.trg = (trgNext (trgCounted w n) n a).tb.trg ∧
    ∀ f : Fld, f.addr < 0x40030000 → (w.trgFire n a).get f = (trgNext (trgCounted w n) n a).get f := by
  have hv : trgUnbound (trgNext (trgCounted w n) n a) n := by
    rwa [trgUnbound, trgNext_get _ _ (by simp), trgCounted_target w hn, trgNext_cry, trgCounted_cry]
  rw [trgFire_eq]
  dsimp only
  split
  · exact ⟨rfl, fun f _ => rfl⟩
  · exact targetAct_acted_keeps _ hv _ a.next

end

theorem triggerFire_fires (s : State) (n t : Nat) (a : TrgArm) (h : n < 16 ∧ s.w.mainOn = true ∧
    tblGet s.dev.tb.trg n = some a ∧ a.next ≤ s.nsAt t ∧ (s.reg (TRG_CTRL_target n) ≠ 4 ∨
    (∀ o ∈ s.dev.cry.ops, ¬(o.state = 1 ∧ o.unit = some n)))) : ∃ u,
    exec (.triggerFire n t) s = .next u ∧ u.reg (TRG_CTRL_fired n) = 1 ∧ u.reg (TRG_COUNT_v n) = min (s.reg
    (TRG_COUNT_v n) + 1) (2 ^ 32 - 1) ∧ (a.period = 0 → tblGet u.dev.tb.trg n = none ∧ u.reg (TRG_CTRL_arm n) = 0)
    ∧ (a.period ≠ 0 → tblGet u.dev.tb.trg n = some
    { a with next := (if a.jump then W.gridAfter a.first a.period a.next else a.next + a.period), jump := false }) := by
  obtain ⟨hn, hon, htrg, hdue, hbound⟩ := h
  have harmed : tblGet (s.w.at_ t).tb.trg n = some a := by rwa [at_trg]
  have hfires : ((s.w.at_ t).mainOn && decide (a.next ≤ (s.w.at_ t).ns)) = true := by
    rw [W.at_mainOn, hon, at_nsAt, Bool.true_and]
    exact decide_eq_true hdue
  have hget : ∀ f : Fld, f.addr < 0x40030000 → (s.w.at_ t).get f = s.reg f := fun f hf =>
    W.at_get s.w t (.inl (Nat.ne_of_gt (hf.trans (by decide))))
  have hcry : (s.w.at_ t).cry = s.dev.cry := W.at_part s.w t (p := .cry) (by decide)
  obtain ⟨hunits, hregs⟩ := trgFire_keeps (s.w.at_ t) a hn (by rwa [trgUnbound, hget _ (trgUnit_addr hn (by simp)), hcry])
  show ∃ u, execTriggerFire n t s = _ ∧ _
  rw [execTriggerFire, wfTriggerFire, decide_eq_true hn, run_left]
  refine ⟨_, rfl, ?_⟩
  simp only [State.left_reg, State.left_dev, harmed, if_pos hfires, hunits]
  rw [hregs _ (trgUnit_addr hn (by simp)), hregs _ (trgUnit_addr hn (by simp)), hregs _ (trgUnit_addr hn (by simp))]
  refine ⟨?_, ?_, trgNext_once _ a, trgNext_periodic _ a⟩
  · rw [trgNext_get _ _ (by simp), trgCounted_fired _ hn]
  · rw [trgNext_get _ _ (by simp), trgCounted_count _ hn, hget _ (trgUnit_addr hn (by simp))]

/-! ## Captures -/

/-- Whether an edge turned round by an inverted pin rises. -/
def captureRises (w : W) (input : Nat) (edgeUp : Bool) : Bool :=
  edgeUp != (match W.capturePin input with | some (p, _) => w.pinInverts p | none => false)

/-- A unit watches an edge on an input. -/
def captureWatches (w : W) (input : Nat) (rising : Bool) (n : Nat) : Bool :=
  let e := w.get (CAP_CTRL_edge n)
  w.captureSees input && w.bit (CAP_CTRL_enable n) && w.get (CAP_CTRL_input n) == input &&
    (if rising then e % 2 == 1 else e / 2 == 1)

/-- A stamp taken by a unit. -/
def captureTake (w : W) (n : Nat) (q : List Nat) : W :=
  let w : W := { w with tb := { w.tb with cap := tblPut n q w.tb.cap } }
  ((w.set (CAP_CTRL_count n) q.length).tally 0xD9).raise (0x1A0 + n) q.length

/-- One unit judges an edge. -/
def captureUnit (input : Nat) (rising : Bool) (stamp : Nat) (w : W) (n : Nat) : W :=
  if captureWatches w input rising n then
    let q := (tblGet w.tb.cap n).getD []
    if q.length < 4 then captureTake w n (q ++ [stamp]) else w.set (CAP_CTRL_overflow n) 1
  else w

theorem capture_eq (w : W) (input : Nat) (edgeUp : Bool) (x : Nat) : w.capture input edgeUp x =
    (upTo 16).foldl (captureUnit input (captureRises w input edgeUp) (W.captureStamp input x)) w := rfl

/-- Unit `n` of two working states: the same FIFO, the same control register and the same pins. -/
structure SameUnit (n : Nat) (w v : W) : Prop where
  cap : tblGet v.tb.cap n = tblGet w.tb.cap n
  ctrl : ∀ f : Fld, f.addr = (CAP_CTRL_enable n).addr → v.get f = w.get f
  pat : v.pat = w.pat

namespace SameUnit

variable {w v u : W} {n k : Nat}

theorem refl (w : W) : SameUnit n w w := ⟨rfl, fun _ _ => rfl, rfl⟩

theorem trans (h : SameUnit n w v) (h' : SameUnit n v u) : SameUnit n w u :=
  ⟨h'.cap.trans h.cap, fun f hf => (h'.ctrl f hf).trans (h.ctrl f hf), h'.pat.trans h.pat⟩

/-- What a unit sees of an edge rests on its own control register and the pins. -/
theorem watches (h : SameUnit n w v) (input : Nat) (rising : Bool) :
    captureWatches v input rising n = captureWatches w input rising n := by
  have hsees : v.captureSees input = w.captureSees input := by
    unfold W.captureSees W.pinFunc
    rw [h.pat]
  have hbit : v.bit (CAP_CTRL_enable n) = w.bit (CAP_CTRL_enable n) :=
    congrArg (· != 0) (h.ctrl (CAP_CTRL_enable n) rfl)
  simp only [captureWatches, hsees, hbit, h.ctrl (CAP_CTRL_edge n) rfl, h.ctrl (CAP_CTRL_input n) rfl]

theorem set (hk : k ≠ n) {f : Fld} (hf : f.addr = (CAP_CTRL_enable k).addr) (x : Nat) : SameUnit n w (w.set f x) :=
  ⟨rfl, fun g hg => W.get_set_other (.inl (by rw [hf, hg]; simpa using hk)) x, rfl⟩

theorem tally (hn : n < 16) (e : Nat) : SameUnit n w (w.tally e) :=
  ⟨by rw [W.tally, tallyN_tb], fun f hf => tally_get w (by rw [hf]; dsimp only; omega) e,
    ((tally_iff (P := Sparing [.pat] []) (by simp) e).mpr (SameOff.refl w)).parts .pat (by simp)⟩

/-- Another unit's capture leaves this one. -/
theorem take (hn : n < 16) (hk : k ≠ n) (q : List Nat) : SameUnit n w (captureTake w k q) := by
  have hput : SameUnit n w { w with tb := { w.tb with cap := tblPut k q w.tb.cap } } :=
    ⟨tblGet_tblPut_other q w.tb.cap hk, fun _ _ => rfl, rfl⟩
  have hraise : ∀ x : W, SameUnit n x (x.raise (0x1A0 + k) q.length) := fun x =>
    ⟨by rw [W.raise_tb], fun f _ => congrArg (Regs.fld · f) (W.raise_regs ..), W.raise_pat ..⟩
  exact ((hput.trans (set (f := CAP_CTRL_count k) hk rfl q.length)).trans (tally hn 0xD9)).trans (hraise _)

theorem captureUnit (hn : n < 16) (hk : k ≠ n) (input : Nat) (rising : Bool) (stamp : Nat) :
    SameUnit n w (captureUnit input rising stamp w k) := by
  unfold Machine.captureUnit
  dsimp only
  split_ifs with hw hq
  · exact take hn hk _
  · exact set (f := CAP_CTRL_overflow k) hk rfl 1
  · exact refl w

theorem captureUnits (hn : n < 16) (input : Nat) (rising : Bool) (stamp : Nat) {ks : List Nat} (hks : n ∉ ks) :
    SameUnit n w (ks.foldl (Machine.captureUnit input rising stamp) w) := by
  induction ks generalizing w with
  | nil => exact refl w
  | cons k ks ih =>
    rw [List.mem_cons, not_or] at hks
    obtain ⟨hk, hks⟩ := hks
    exact (captureUnit hn (Ne.symm hk) input rising stamp).trans (ih hks)

end SameUnit

/-- Among the units that judge an edge in turn, unit `n` judges it as if alone. -/
theorem capture_unit (w : W) {n : Nat} (hn : n < 16) (input : Nat) (edgeUp : Bool) (x : Nat) : ∃ v, SameUnit n w v ∧
    SameUnit n (captureUnit input (captureRises w input edgeUp) (W.captureStamp input x) v n)
      (w.capture input edgeUp x) := by
  have hmem : n ∈ upTo 16 := by simpa using hn
  have hnodup : (upTo 16).Nodup := by decide
  obtain ⟨before, after, hsplit⟩ := List.append_of_mem hmem
  rw [hsplit, List.nodup_middle, List.nodup_cons, List.mem_append, not_or] at hnodup
  obtain ⟨⟨hbefore, hafter⟩, -⟩ := hnodup
  rw [capture_eq, hsplit, List.foldl_append, List.foldl_cons]
  exact ⟨_, .captureUnits hn _ _ _ hbefore, .captureUnits hn _ _ _ hafter⟩

section
variable {v : W} {n : Nat} {input stamp : Nat} {rising : Bool}

theorem captureUnit_takes (hn : n < 16) (hw : captureWatches v input rising n = true)
    (hq : ((tblGet v.tb.cap n).getD []).length < 4) :
    tblGet (captureUnit input rising stamp v n).tb.cap n = some ((tblGet v.tb.cap n).getD [] ++ [stamp]) ∧
    (captureUnit input rising stamp v n).get (CAP_CTRL_count n) = ((tblGet v.tb.cap n).getD []).length + 1 := by
  unfold captureUnit
  rw [if_pos hw]
  dsimp only
  rw [if_pos hq]
  unfold captureTake
  constructor
  · rw [W.raise_tb, W.tally, tallyN_tb]
    exact tblGet_tblPut_same ..
  · show (W.tally _ _).get _ = _
    rw [tally_get _ (by dsimp only; omega), W.get_set_same (by simp), List.length_append]
    exact Nat.mod_eq_of_lt (by simp; omega)

theorem captureUnit_full (hw : captureWatches v input rising n = true)
    (hq : 4 ≤ ((tblGet v.tb.cap n).getD []).length) :
    tblGet (captureUnit input rising stamp v n).tb.cap n = tblGet v.tb.cap n ∧
    (captureUnit input rising stamp v n).get (CAP_CTRL_overflow n) = 1 := by
  unfold captureUnit
  rw [if_pos hw]
  dsimp only
  rw [if_neg (Nat.not_lt.mpr hq)]
  exact ⟨rfl, W.get_set_same (by simp) 1⟩

end

/-- Only the whole nanoseconds of an instant count in a stamp. -/
theorem captureStamp_ns (input t : Nat) {frac : Nat} (h : frac < 65536) :
    W.captureStamp input (65536 * t + frac) = 65536 * (if input < 2 then t else 4 * (t / 4)) := by
  have hns : (65536 * t + frac) / 65536 = t := by omega
  have hedge : (65536 * t + frac) / 262144 = t / 4 := by omega
  rw [W.captureStamp, hns, hedge]

theorem captureEdge_captured (s : State) (input : Nat) (rising : Bool) (t frac n : Nat) (h : input < 128 ∧ frac < 65536 ∧
    s.w.mainOn = true ∧ n < 16 ∧ s.w.captureSees input = true ∧ s.bitOf (CAP_CTRL_enable n) = true ∧
    s.reg (CAP_CTRL_input n) = input ∧
    (if captureRises s.w input rising then s.reg (CAP_CTRL_edge n) % 2 = 1 else s.reg (CAP_CTRL_edge n) / 2 = 1)) :
    ∃ u, exec (.captureEdge input rising t frac) s = .next u ∧ (((tblGet s.dev.tb.cap n).getD []).length < 4 →
    tblGet u.dev.tb.cap n = some ((tblGet s.dev.tb.cap n).getD [] ++ [65536 * (if input < 2 then t else 4 * (t / 4))]) ∧
    u.reg (CAP_CTRL_count n) = ((tblGet s.dev.tb.cap n).getD []).length + 1) ∧
    (4 ≤ ((tblGet s.dev.tb.cap n).getD []).length → tblGet u.dev.tb.cap n = tblGet s.dev.tb.cap n ∧
    u.reg (CAP_CTRL_overflow n) = 1) := by
  obtain ⟨hin, hfrac, hon, hn, hsees, hen, hinput, hedge⟩ := h
  have hat : SameUnit n s.w (s.w.at_ t) :=
    ⟨by rw [at_cap], fun f hf => W.at_get s.w t (.inl (by rw [hf]; dsimp only; omega)), W.at_pat s.w t⟩
  have hrises : captureRises (s.w.at_ t) input rising = captureRises s.w input rising := by
    unfold captureRises W.pinInverts
    rw [W.at_pat]
  have hwatch : captureWatches s.w input (captureRises s.w input rising) n = true := by
    simp only [captureWatches, hsees, State.w_bit, hen, State.w_get, hinput, Bool.true_and, BEq.rfl]
    split at hedge <;> simp [*]
  obtain ⟨v, hbefore, hafter⟩ := capture_unit (s.w.at_ t) hn input rising (65536 * t + frac)
  have hv : SameUnit n s.w v := hat.trans hbefore
  have hvwatch := (hv.watches input _).trans hwatch
  rw [hrises, captureStamp_ns input t hfrac] at hafter
  show ∃ u, execCaptureEdge input rising t frac s = _ ∧ _
  rw [execCaptureEdge, wfCaptureEdge, decide_eq_true hin, decide_eq_true hfrac, Bool.and_self, run_left]
  refine ⟨_, rfl, ?_⟩
  simp only [State.left_reg, State.left_dev, W.at_mainOn, if_pos hon, hafter.cap, hafter.ctrl (CAP_CTRL_count n) rfl,
    hafter.ctrl (CAP_CTRL_overflow n) rfl]
  have hcap : tblGet v.tb.cap n = tblGet s.dev.tb.cap n := hv.cap
  rw [← hcap]
  exact ⟨captureUnit_takes hn hvwatch, captureUnit_full hvwatch⟩

/-- Settles O16, clause by clause: the write that arms a unit, its fire, the ticks, PPS_OUT's edges, and the capture
FIFO. -/
theorem timebaseTriggers : Obligations.TimebaseTriggers :=
  ⟨triggerArm_arms, triggerArm_disarms, triggerFire_fires, epochTick_ticks, ppsOutRise_rises, ppsOutRise_once,
   ppsOutFall_falls, captureEdge_captured, capNsRead_answers, capPop_pops⟩

end Triggers

end Sys2Proof.Machine

/-! # A Sync stamped below the port's latency

The receive stamp of a message less the latency of its port can be negative. The sample of the servo takes it with its sign
(R63); O14 cuts it at 0 before it takes the master time and the delay from it. -/

namespace Sys2Proof.Machine

section EarlySync

/-- SERVING, as a slave in domain 0 that follows a master on port 0, the servo ACQUIRING past its first sample; the port
stamps, with a receive latency of 5 ns. -/
def followingMaster : State := { State.reset with dev := { Dev.init with
  op := .serving
  regs := [(NET_PORT_CTRL_ptp_ts 0, 1), (TBS_CTRL_ptp_role, 1), (TBS_CTRL_domain, 0), (TBS_CTRL_servo_enable, 1),
    (TBS_STATUS_servo_state, 1)].foldl (fun r e => r.put e.1 e.2) (Regs.wr [] (TBS_PORT_LAT_rx_lat 0).addr 5)
  tb := { Dev.init.tb with
    list := 1, ptpValid := true, sampled := true, master := some ⟨1, 6, 0, 0, 1, 9, 0, none⟩ } } }

/-- TBS_OFFSET after a one-step Sync with master time 0 that is stamped 0. -/
def offsetAfterEarlySync : Option Nat :=
  match exec (.ptpMessageRx 0 ⟨0, .sync 7 false 0 0⟩ 0) followingMaster with
  | .next u => some (u.reg TBS_OFFSET_v)
  | _ => none

/-- The sample is 5 ns below 0. -/
theorem offsetAfterEarlySync_eq : offsetAfterEarlySync = some 0xFFFFFFFB := by decide +kernel

/-- Cut at 0, the stamp less the latency would give no offset. -/
theorem earlySync_cut : unsgn 32 (((0 : Nat) - followingMaster.reg (TBS_PORT_LAT_rx_lat 0) : Int).toNat - (0 + 0) -
    followingMaster.w.masterDelay) % 2 ^ 32 = 0 := by decide +kernel

/-- Refutes O14: its third clause cuts the receive stamp less the port's latency at 0. A Sync stamped 0 on a port with a
latency of 5 ns, with master time 0 and no delay, leaves TBS_OFFSET at -5 ns (0xFFFFFFFB), not 0. -/
theorem not_timebaseSources : ¬ Obligations.TimebaseSources := by
  unfold Obligations.TimebaseSources
  rintro ⟨-, -, hsync, -⟩
  obtain ⟨u, hu, hclaimed⟩ := hsync followingMaster 0 0 7 0 0 0 (by decide +kernel)
  have hmodel : offsetAfterEarlySync = some (u.reg TBS_OFFSET_v) := by simp only [offsetAfterEarlySync, hu]
  rw [offsetAfterEarlySync_eq, hclaimed, earlySync_cut] at hmodel
  exact absurd hmodel (by decide)

end EarlySync

end Sys2Proof.Machine

/-! # The clock: steps, holds, slews and leap seconds

The servo's operations move its counts, the rate and what it shows, and leave the counter, the correction under way and a HOLD
alone. What follows a step, of sets and samples, lies outside the timebase. -/

namespace Sys2Proof.Machine

section Clock

open SameOff Spot

/-! ## What the servo's operations leave of the timebase -/

/-- A timebase with what the servo's state and what it shows move taken out. -/
def TbState.unservoed (x : TbState) : TbState := { x with freq := 0, good := 0, bad := 0, everLocked := false, quals := [] }

section
variable {x y : TbState} (h : x.unservoed = y.unservoed)
include h

theorem list_eq_of_unservoed : x.list = y.list := (congrArg TbState.list h :)
theorem ptpValid_eq_of_unservoed : x.ptpValid = y.ptpValid := (congrArg TbState.ptpValid h :)
theorem ppsValid_eq_of_unservoed : x.ppsValid = y.ppsValid := (congrArg TbState.ppsValid h :)
theorem refValid_eq_of_unservoed : x.refValid = y.refValid := (congrArg TbState.refValid h :)
theorem holdCmd_eq_of_unservoed : x.holdCmd = y.holdCmd := (congrArg TbState.holdCmd h :)
theorem now_eq_of_unservoed : x.now = y.now := (congrArg TbState.now h :)
theorem slew_eq_of_unservoed : x.slew = y.slew := (congrArg TbState.slew h :)

end

section
variable (w : W)

theorem setTb_get (x : TbState) (f : Fld) : (w.setTb x).get f = w.get f := rfl
theorem setTb_servo (x : TbState) : (w.setTb x).servo = w.servo := rfl

theorem record_tb (code block p0 p1 p2 p3 : Nat) : (w.record code block p0 p1 p2 p3).tb = w.tb :=
  ((record_iff (P := Sparing [.tb] []) (by simp) ..).mpr (refl w)).parts .tb (by simp)

theorem ev_tb (f : Fld) (param : Nat) : (w.ev f param).tb = w.tb := by
  unfold W.ev
  split <;> rfl

theorem evRec_tb (f : Fld) (param : Nat) : (w.evRec f param).tb = w.tb := (record_tb ..).trans (ev_tb ..)

theorem rtcFree_tb : w.rtcFree.tb = w.tb :=
  ((rtcFree_iff (P := Sparing [.tb] []) (by simp)).mpr (refl w)).parts .tb (by simp)

theorem setServo_unservoed (n : Nat) : (w.setServo n).tb.unservoed = w.tb.unservoed := by
  unfold W.setServo
  dsimp only
  split_ifs <;> simp only [evRec_tb, rtcFree_tb] <;> rfl

theorem toHoldover_unservoed : w.toHoldover.tb.unservoed = w.tb.unservoed := by
  unfold W.toHoldover
  split
  · exact setServo_unservoed w 3
  · rfl

theorem showSources_unservoed : w.showSources.tb.unservoed = w.tb.unservoed := by
  unfold W.showSources
  dsimp only
  split_ifs
  · rfl
  · exact (congrArg TbState.unservoed (record_tb ..)).trans rfl
  · rfl
  · exact (congrArg TbState.unservoed (record_tb ..)).trans rfl

theorem judge_unservoed : w.judge.tb.unservoed = w.tb.unservoed := by
  have hshow := showSources_unservoed w
  have hset : ∀ n, (w.showSources.setServo n).tb.unservoed = w.tb.unservoed := fun n =>
    (setServo_unservoed _ n).trans hshow
  unfold W.judge
  dsimp only
  split_ifs
  · exact hshow
  · exact hset 0
  · exact hshow
  · exact hset 1
  · exact hset 1
  · exact hshow

theorem showQuality_unservoed : w.showQuality.tb.unservoed = w.tb.unservoed := by
  unfold W.showQuality
  dsimp only
  split_ifs <;> rfl

end

section
variable {w v : W}

/-- The phase source rests on the clock plan and on what is valid. -/
theorem phaseSrc_congr (h : v.tb.unservoed = w.tb.unservoed) : v.phaseSrc = w.phaseSrc := by
  simp only [W.phaseSrc, W.sources, W.srcValid, list_eq_of_unservoed h, ptpValid_eq_of_unservoed h,
    ppsValid_eq_of_unservoed h, refValid_eq_of_unservoed h]

theorem sources_of_phaseSrc (h : w.phaseSrc ≠ 0) : w.sources.isEmpty = false := by
  by_contra hne
  rw [Bool.not_eq_false, List.isEmpty_iff] at hne
  exact h (by simp [W.phaseSrc, hne])

theorem setServo_servo {n : Nat} (hn : n < 4) : (w.setServo n).servo = n := by
  have hrest : SameOff (Sparing [] [TBS_STATUS_servo_state]) (w.set TBS_STATUS_servo_state n) (w.setServo n) := by
    unfold W.setServo
    simp
  exact (hrest.get_eq List.mem_cons_self).trans ((W.get_set_same (by decide) n).trans (Nat.mod_eq_of_lt hn))

theorem toHoldover_servo : w.toHoldover.servo = if w.servo = 1 ∨ w.servo = 2 then 3 else w.servo := by
  unfold W.toHoldover
  split
  · exact setServo_servo (by decide)
  · rfl

/-- A servo that is on leaves HOLDOVER for ACQUIRING where a phase source is valid and no HOLD is in force. -/
theorem judge_acquires (hservo : w.servo = 3) (hon : w.bit TBS_CTRL_servo_enable = true) (hsrc : w.phaseSrc ≠ 0)
    (hhold : w.tb.holdCmd = false) : w.judge.servo = 1 := by
  have hkeep : SameOff (Sparing [] [TBS_STATUS_servo_state, TBS_CTRL_servo_enable]) w w.showSources := by simp
  have hphase : w.showSources.phaseSrc ≠ 0 := phaseSrc_congr (showSources_unservoed w) ▸ hsrc
  have hstate : w.showSources.servo = 3 := (hkeep.get_eq (by simp)).trans hservo
  have hon' : w.showSources.bit TBS_CTRL_servo_enable = true := (hkeep.bit_eq (by simp)).trans hon
  have hhold' : w.showSources.tb.holdCmd = false := (holdCmd_eq_of_unservoed (showSources_unservoed w)).trans hhold
  have hjudge : w.judge = w.showSources.setServo 1 := by
    simp [W.judge, sources_of_phaseSrc hphase, hphase, hstate, hon', hhold']
  rw [hjudge, setServo_servo (by decide)]

theorem showQuality_servo : w.showQuality.get TBS_STATUS_servo_state = w.servo :=
  SameOff.get_eq (ps := []) (fs := [TBS_STATUS_servo_state]) (by simp) (by simp)

end

/-! ## What follows a step outside the timebase

A set that a step closes is stored, so that the frame lemmas on the way ask for the whole register file; stated here once more
for the registers from block 3 on. -/

section
variable {w v : W}

@[simp ↓] theorem putHeader_outside_iff (addr : Nat) (z : List Byte) :
    SameOff OutsideTimebase w (v.putHeader addr z) ↔ SameOff OutsideTimebase w v := by
  refine drop_iff ?_
  unfold W.putHeader
  simp

@[simp ↓] theorem sendNotices_outside_iff (n : Nat) :
    SameOff OutsideTimebase w (W.sendNotices n v) ↔ SameOff OutsideTimebase w v :=
  sendNotices_iff (by simp [Nat.le_add_right_of_le]) n

@[simp ↓] theorem notify_outside_iff (b : List Byte) :
    SameOff OutsideTimebase w (v.notify b) ↔ SameOff OutsideTimebase w v := by
  refine drop_iff ?_
  unfold W.notify
  split
  · exact refl v
  · simp

@[simp ↓] theorem takeSlot_outside_iff (i : List Byte) :
    SameOff OutsideTimebase w (v.takeSlot i).1 ↔ SameOff OutsideTimebase w v := by
  refine drop_iff ?_
  unfold W.takeSlot
  simp [Nat.le_add_right_of_le]

@[simp ↓] theorem marker_outside_iff (i : List Byte) :
    SameOff OutsideTimebase w (v.marker i) ↔ SameOff OutsideTimebase w v := by
  refine drop_iff ?_
  unfold W.marker
  dsimp only
  split
  · exact .trans (v := (v.takeSlot i).1) (by simp) (by simp)
  · exact refl v

@[simp ↓] theorem outSend_outside_iff (n : Nat) (s : AlnSet) :
    SameOff OutsideTimebase w (v.outSend n s) ↔ SameOff OutsideTimebase w v := by
  refine drop_iff ?_
  unfold W.outSend
  dsimp only
  simp [Nat.le_add_right_of_le]

@[simp ↓] theorem outputs_outside_iff (g : Nat) (s : AlnSet) :
    SameOff OutsideTimebase w (v.outputs g s) ↔ SameOff OutsideTimebase w v := by
  refine drop_iff ?_
  unfold W.outputs
  split <;> simp

@[simp ↓] theorem closeSet_outside_iff (i : List Byte) (s : AlnSet) (reason : Nat) :
    SameOff OutsideTimebase w (v.closeSet i s reason) ↔ SameOff OutsideTimebase w v := by
  refine drop_iff ?_
  unfold W.closeSet
  dsimp only
  simp [Nat.le_add_right_of_le]

@[simp ↓] theorem closeDue_outside_iff (i : List Byte) :
    SameOff OutsideTimebase w (v.closeDue i) ↔ SameOff OutsideTimebase w v := by
  have hready : ∀ (n : Nat) (x : W), SameOff OutsideTimebase x (W.closeReady i n x) := fun n => by
    induction n with
    | zero => exact refl
    | succ n ih =>
      intro x
      unfold W.closeReady
      dsimp only
      repeat' split
      · exact refl x
      · exact refl x
      · exact .trans (by simp) (ih _)
      · exact .trans (by simp) (ih _)
      · exact refl x
  exact drop_iff (hready _ v)

@[simp ↓] theorem openSet_outside_iff (i : List Byte) (t : Nat) :
    SameOff OutsideTimebase w (v.openSet i t) ↔ SameOff OutsideTimebase w v := by
  refine drop_iff ?_
  unfold W.openSet W.putMembers
  dsimp only
  split
  · exact refl v
  · simp

@[simp ↓] theorem groupStep_outside_iff (i : List Byte) (old : Nat) :
    SameOff OutsideTimebase w (v.groupStep i old) ↔ SameOff OutsideTimebase w v := by
  refine drop_iff ?_
  unfold W.groupStep
  dsimp only
  split
  · simp
  · simp

@[simp ↓] theorem alnStep_outside_iff (old : Nat) :
    SameOff OutsideTimebase w (v.alnStep old) ↔ SameOff OutsideTimebase w v := by
  refine drop_iff ?_
  unfold W.alnStep
  simp

@[simp ↓] theorem setChan_outside_iff (c : Nat) (x : Chan) :
    SameOff OutsideTimebase w (v.setChan c x) ↔ SameOff OutsideTimebase w v := by
  refine drop_iff ?_
  unfold W.setChan
  simp [Nat.le_add_right_of_le]

@[simp ↓] theorem smpGap_outside_iff : SameOff OutsideTimebase w v.smpGap ↔ SameOff OutsideTimebase w v := by
  refine drop_iff ?_
  unfold W.smpGap
  simp

@[simp ↓] theorem smpStepped_outside_iff : SameOff OutsideTimebase w v.smpStepped ↔ SameOff OutsideTimebase w v := by
  refine drop_iff ?_
  unfold W.smpStepped
  simp

end

/-! ## STEP -/

section
variable (w : W)

theorem stepTriggers_now (forward : Bool) : (w.stepTriggers forward).tb.now = w.tb.now := by
  unfold W.stepTriggers
  refine List.foldlRecOn (motive := fun x : W => x.tb.now = w.tb.now) _ _ rfl fun x hx e _ => ?_
  split_ifs <;> exact hx

/-- A step marks the units it jumps, and no event. -/
theorem stepTriggers_sameOff (forward : Bool) :
    SameOff (Sparing [] [TBS_EVENT_stepped]) w (w.stepTriggers forward) := by
  unfold W.stepTriggers
  refine foldl (fun x e => ?_) _ _
  simp

theorem applyLeap_now : w.applyLeap.tb.now = w.tb.now := (congrArg TbState.now (evRec_tb _ _ _)).trans rfl

/-- The counter moved, recorded and told, before the units and a leap crossed are looked at. -/
def counterMoved (w : W) (delta : Int) : W :=
  let v : W := w.setTb { w.tb with
    now := ((w.tb.now : Int) + delta * 2 ^ 32).toNat
    lastSync := w.tb.lastSync.map (fun (e : Nat × Int) => ((e.1 + delta).toNat, e.2)) }
  (v.record 0x030 0x02 (w.ns % 1000000000) (w.ns / 1000000000 % 2 ^ 32) v.nsec (v.sec % 2 ^ 32)).ev TBS_EVENT_stepped 0

theorem stepCounter_eq (delta : Int) : w.stepCounter delta =
    let v := (counterMoved w delta).stepTriggers (decide (w.ns < (counterMoved w delta).ns))
    if v.bit TBS_UTC_OFFSET_leap_pending && decide (w.ns / 1000000000 < v.leapSec) && decide (v.leapSec ≤ v.sec)
    then v.applyLeap else v := rfl

theorem counterMoved_now (delta : Int) :
    (counterMoved w delta).tb.now = ((w.tb.now : Int) + delta * 2 ^ 32).toNat :=
  (congrArg TbState.now ((ev_tb ..).trans (record_tb ..))).trans rfl

theorem stepCounter_now (delta : Int) : (w.stepCounter delta).tb.now = ((w.tb.now : Int) + delta * 2 ^ 32).toNat := by
  rw [stepCounter_eq, ← counterMoved_now]
  dsimp only
  split
  · rw [applyLeap_now, stepTriggers_now]
  · rw [stepTriggers_now]

theorem stepCounter_stepped (delta : Int) : (w.stepCounter delta).bit TBS_EVENT_stepped = true := by
  have hev : (counterMoved w delta).bit TBS_EVENT_stepped = true := W.bit_ev_same (by decide) rfl 0
  have hrest : SameOff (Sparing [] [TBS_EVENT_stepped]) (counterMoved w delta) (w.stepCounter delta) := by
    rw [stepCounter_eq]
    dsimp only
    split
    · exact (stepTriggers_sameOff _ _).trans ((applyLeap_iff (by simp)).mpr (refl _))
    · exact stepTriggers_sameOff _ _
  rw [hrest.bit_eq List.mem_cons_self, hev]

/-- Sets and samples after a step: nothing of the timebase. -/
theorem stepAll_eq (delta : Int) : ∃ v, SameOff OutsideTimebase ((w.stepCounter delta).setTb { (w.stepCounter delta).tb with
      tickSec := max (w.stepCounter delta).tb.tickSec (w.stepCounter delta).sec }) v ∧ w.stepAll delta = v.showQuality := by
  refine ⟨_, ?_, rfl⟩
  dsimp only
  split <;> simp

theorem stepAll_now (delta : Int) : (w.stepAll delta).tb.now = ((w.tb.now : Int) + delta * 2 ^ 32).toNat := by
  obtain ⟨v, hrest, hall⟩ := stepAll_eq w delta
  rw [hall, now_eq_of_unservoed (showQuality_unservoed v), outside_tb hrest]
  exact stepCounter_now w delta

theorem stepAll_stepped (delta : Int) : (w.stepAll delta).bit TBS_EVENT_stepped = true := by
  obtain ⟨v, hrest, hall⟩ := stepAll_eq w delta
  have hshow : SameOff (Sparing [] [TBS_EVENT_stepped]) v v.showQuality := by simp
  have hbit : v.get TBS_EVENT_stepped = (w.stepCounter delta).get TBS_EVENT_stepped := outside_get hrest (by decide)
  rw [hall, hshow.bit_eq List.mem_cons_self, W.bit_eq_true, hbit, ← W.bit_eq_true]
  exact stepCounter_stepped w delta

end

theorem exec_step {s : State} (hl : s.lanes) : exec .step s = .next (s.left
    (if 999999999 < (sgn 32 (s.reg TBS_STEP_NS_v)).natAbs then s.w
    else s.w.stepAll (sgn 32 (s.reg TBS_STEP_SEC_v) * 1000000000 + sgn 32 (s.reg TBS_STEP_NS_v)))) := by
  unfold exec execStep
  exact runL_left hl _ _

theorem step_steps (s : State) (h : s.lanes ∧ (sgn 32 (s.reg TBS_STEP_NS_v)).natAbs ≤ 999999999) :
    ∃ u, exec .step s = .next u ∧ u.dev.tb.now = ((s.dev.tb.now : Int) + (sgn 32 (s.reg TBS_STEP_SEC_v) * 1000000000 +
    sgn 32 (s.reg TBS_STEP_NS_v)) * 2 ^ 32).toNat ∧ u.bitOf TBS_EVENT_stepped = true := by
  obtain ⟨hl, hns⟩ := h
  have hexec := exec_step hl
  rw [if_neg (Nat.not_lt.mpr hns)] at hexec
  exact ⟨_, hexec, stepAll_now s.w _, stepAll_stepped s.w _⟩

theorem step_fails (s : State) (h : s.lanes ∧ 999999999 < (sgn 32 (s.reg TBS_STEP_NS_v)).natAbs) :
    ∃ u, exec .step s = .next u ∧ u = s := by
  obtain ⟨hl, hns⟩ := h
  have hexec := exec_step hl
  rw [if_pos hns] at hexec
  exact ⟨_, hexec, rfl⟩

/-! ## HOLD and RELEASE -/

theorem exec_hold {s : State} (hl : s.lanes) :
    exec .hold s = .next (s.left (s.w.setTb { s.w.tb with holdCmd := true }).toHoldover.showQuality) := by
  unfold exec execHold
  exact runL_left hl _ _

theorem exec_release {s : State} (hl : s.lanes) :
    exec .release s = .next (s.left (s.w.setTb { s.w.tb with holdCmd := false }).judge.showQuality) := by
  unfold exec execRelease
  exact runL_left hl _ _

theorem hold_holds (s : State) (hl : s.lanes) : ∃ u, exec .hold s = .next u ∧ u.dev.tb.holdCmd = true ∧
    u.reg TBS_STATUS_servo_state =
      if s.reg TBS_STATUS_servo_state = 1 ∨ s.reg TBS_STATUS_servo_state = 2 then 3 else s.reg TBS_STATUS_servo_state := by
  refine ⟨_, exec_hold hl, ?_, ?_⟩
  · exact holdCmd_eq_of_unservoed ((showQuality_unservoed _).trans (toHoldover_unservoed _))
  · rw [State.left_reg, showQuality_servo, toHoldover_servo, setTb_servo]
    rfl

theorem release_releases (s : State) (hl : s.lanes) : ∃ u, exec .release s = .next u ∧ u.dev.tb.holdCmd = false ∧
    (s.reg TBS_STATUS_servo_state = 3 ∧ s.bitOf TBS_CTRL_servo_enable = true ∧ s.w.phaseSrc ≠ 0 →
      u.reg TBS_STATUS_servo_state = 1) := by
  refine ⟨_, exec_release hl, ?_, ?_⟩
  · exact holdCmd_eq_of_unservoed ((showQuality_unservoed _).trans (judge_unservoed _))
  · rintro ⟨hservo, hon, hsrc⟩
    rw [State.left_reg, showQuality_servo]
    exact judge_acquires hservo hon hsrc rfl

/-! ## The end of a slew -/

theorem slewDone_over (s : State) (t : Nat) (h : (s.w.at_ t).tb.slew = 0) : ∃ u, exec (.slewDone t) s = .next u ∧
    u.reg TBS_STATUS_slewing = 0 := by
  unfold exec execSlewDone
  refine ⟨_, run_left _ _ _, ?_⟩
  simp only [State.left_reg, if_pos h]
  exact W.get_set_same (by decide) 0

theorem slewDone_stands (s : State) (t : Nat) (h : (s.w.at_ t).tb.slew ≠ 0) : ∃ u, exec (.slewDone t) s = .next u ∧
    u.reg TBS_STATUS_slewing = s.reg TBS_STATUS_slewing ∧ u.dev.tb = (s.w.at_ t).tb := by
  unfold exec execSlewDone
  refine ⟨_, run_left _ _ _, ?_⟩
  simp only [State.left_reg, State.left_dev, if_neg h]
  exact ⟨W.at_get _ t (by decide), trivial⟩

/-! ## A write of TBS_CTRL -/

/-- TBS_CTRL written as on the bus. -/
def ctrlWritten (w : W) (v : W32) : W := ({ w with regs := w.regs.busWrite TBS_CTRL_servo_enable.addr v } : W).dirty

/-- Another PPS source starts without validity. -/
def ppsChosen (old w : W) : W :=
  if w.bit TBS_CTRL_pps_select = old.bit TBS_CTRL_pps_select then w
  else
    let w := w.setTb { w.tb with ppsLast := none, ppsRun := 0, ppsValid := false }
    if old.tb.ppsValid then w.srcLost (old.phaseSrc == 2) else w

/-- A servo that is switched off ends its slew and enters HOLDOVER. -/
def servoOff (w : W) : W := ((w.setTb { w.tb with slew := 0 }).set TBS_STATUS_slewing 0).toHoldover

/-- What the write has done before the servo is judged. -/
def ctrlActed (w : W) (v : W32) : W :=
  let x := ppsChosen w (ctrlWritten w v)
  if w.bit TBS_CTRL_servo_enable && !x.bit TBS_CTRL_servo_enable then servoOff x else x

theorem exec_tbsCtrlWrite {s : State} (hl : s.lanes) (v : W32) :
    exec (.tbsCtrlWrite v) s = .next (s.left (ctrlActed s.w v).judge.showQuality) := by
  unfold exec execTbsCtrlWrite
  exact runL_left hl _ _

section
variable (w : W) (v : W32)

/-- The footprint of everything but TBS_CTRL. -/
abbrev OffCtrl : Spot → Prop := Sparing [] [TBS_CTRL_servo_enable.whole]

theorem ctrlWritten_word {d : RegDef} (hd : regDefAt TBS_CTRL_servo_enable.addr = some d) :
    (ctrlWritten w v).regs.rd TBS_CTRL_servo_enable.addr =
      ((w.regs.rd TBS_CTRL_servo_enable.addr &&& ~~~d.rw) ||| (v &&& d.rw)) &&& ~~~(v &&& d.w1c) := by
  have hrest : SameOff OffCtrl { w with regs := w.regs.busWrite TBS_CTRL_servo_enable.addr v } (ctrlWritten w v) :=
    (dirty_iff (by simp [Fld.whole])).mpr (refl _)
  rw [hrest.rd_eq List.mem_cons_self]
  simp only [Regs.busWrite, hd, Regs.rd_wr_same]

theorem ppsChosen_sameOff (x : W) : SameOff OffCtrl x (ppsChosen w x) := by
  unfold ppsChosen
  simp [Fld.whole]

theorem servoOff_sameOff (x : W) : SameOff OffCtrl x (servoOff x) := by
  unfold servoOff
  simp [Fld.whole]

theorem ctrlActed_sameOff : SameOff OffCtrl (ctrlWritten w v) (ctrlActed w v) := by
  unfold ctrlActed
  dsimp only
  split
  · exact (ppsChosen_sameOff w _).trans (servoOff_sameOff _)
  · exact ppsChosen_sameOff w _

theorem judged_sameOff (x : W) : SameOff (Sparing [] [TBS_CTRL_servo_enable.whole, TBS_STATUS_slewing]) x x.judge.showQuality := by
  simp [Fld.whole]

/-- A field of one bit shows its word's bit. -/
theorem bit_eq_getLsbD {f : Fld} (h : f.width = 1) : w.bit f = (w.regs.rd f.addr).getLsbD f.lo := by
  unfold W.bit Regs.bit Regs.fld
  rw [h]
  exact (tst_fldOf Nat.one_pos).symm.trans ((Nat.testBit_eq_decide_div_mod_eq ..).symm.trans (testBit_fldOf Nat.one_pos))

/-- servo_enable takes the bit written. -/
theorem ctrlWritten_enable : (ctrlWritten w v).bit TBS_CTRL_servo_enable = v.getLsbD 0 := by
  obtain ⟨d, hd, hacc⟩ : ∃ d, regDefAt TBS_CTRL_servo_enable.addr = some d ∧
      (d.rw.getLsbD 0, d.w1c.getLsbD 0) = (true, false) := Option.map_eq_some_iff.mp (by decide +kernel)
  obtain ⟨hrw, hw1c⟩ := Prod.mk.inj hacc
  rw [bit_eq_getLsbD _ rfl, ctrlWritten_word w v hd]
  simp only [BitVec.getLsbD_or, BitVec.getLsbD_and, BitVec.getLsbD_not, hrw, hw1c]
  simp

theorem servoOff_unservoed (x : W) : (servoOff x).tb.unservoed = { x.tb with slew := 0 }.unservoed := by
  unfold servoOff
  exact toHoldover_unservoed _

theorem servoOff_slew (x : W) : (servoOff x).judge.showQuality.tb.slew = 0 := by
  have hkeep : (servoOff x).judge.showQuality.tb.unservoed = { x.tb with slew := 0 }.unservoed := by
    rw [showQuality_unservoed, judge_unservoed, servoOff_unservoed]
  exact slew_eq_of_unservoed hkeep

theorem servoOff_slewing (x : W) : (servoOff x).judge.showQuality.get TBS_STATUS_slewing = 0 := by
  have hrest : SameOff (Sparing [] [TBS_STATUS_slewing]) ((x.setTb { x.tb with slew := 0 }).set TBS_STATUS_slewing 0)
      (servoOff x) := by
    unfold servoOff
    simp
  rw [(judged_sameOff _).get_eq (by simp), hrest.get_eq (by simp)]
  exact W.get_set_same (by decide) 0

/-- The write switches the servo off where it was on. -/
theorem ctrlActed_off (hon : w.bit TBS_CTRL_servo_enable = true) (hv : v.getLsbD 0 = false) :
    ctrlActed w v = servoOff (ppsChosen w (ctrlWritten w v)) := by
  have hbit : (ppsChosen w (ctrlWritten w v)).bit TBS_CTRL_servo_enable = false := by
    rw [bit_eq_getLsbD _ rfl, (ppsChosen_sameOff w _).rd_eq List.mem_cons_self, ← bit_eq_getLsbD _ rfl, ctrlWritten_enable, hv]
  simp [ctrlActed, hon, hbit]

end

theorem tbsCtrlWrite_written (s : State) (v : W32) (d : RegDef) (h : s.lanes ∧
    regDefAt TBS_CTRL_servo_enable.addr = some d) : ∃ u, exec (.tbsCtrlWrite v) s = .next u ∧
    u.word TBS_CTRL_servo_enable.addr = ((s.word TBS_CTRL_servo_enable.addr &&& ~~~d.rw) ||| (v &&& d.rw)) &&& ~~~(v &&& d.w1c) ∧
    (s.bitOf TBS_CTRL_servo_enable = true ∧ v.getLsbD 0 = false → u.dev.tb.slew = 0 ∧ u.reg TBS_STATUS_slewing = 0) := by
  obtain ⟨hl, hd⟩ := h
  refine ⟨_, exec_tbsCtrlWrite hl v, ?_, ?_⟩
  · rw [State.left_word, (judged_sameOff _).rd_eq List.mem_cons_self, (ctrlActed_sameOff _ _).rd_eq List.mem_cons_self,
      ctrlWritten_word _ _ hd]
    rfl
  · rintro ⟨hon, hv⟩
    rw [State.left_dev, State.left_reg, ctrlActed_off s.w v hon hv]
    exact ⟨servoOff_slew _, servoOff_slewing _⟩

/-! ## Leap seconds -/

/-- TBS_UTC_OFFSET after a leap second. -/
def leapShown (w : W) : W :=
  ((w.set TBS_UTC_OFFSET_tai_utc (if w.bit TBS_UTC_OFFSET_leap_dir then w.get TBS_UTC_OFFSET_tai_utc + 0xFFFF
    else w.get TBS_UTC_OFFSET_tai_utc + 1)).set TBS_UTC_OFFSET_leap_pending 0).set TBS_UTC_OFFSET_leap_occurred 1

theorem applyLeap_eq (w : W) : w.applyLeap =
    ((leapShown w).setTb { w.tb with leapAt := some w.ns }).evRec TBS_EVENT_leap_done 0 := rfl

section
variable (w : W)

/-- The event and its record leave the offset as it is shown. -/
theorem applyLeap_get (f : Fld) (hf : f.addr = TBS_UTC_OFFSET_tai_utc.addr) : w.applyLeap.get f = (leapShown w).get f := by
  have hrec : ∀ x : W, SameOff (Sparing [] [f]) x (x.evRec TBS_EVENT_leap_done 0) := fun x => by simp [hf]
  rw [applyLeap_eq, (hrec _).get_eq List.mem_cons_self, setTb_get]

theorem leapShown_offset : (leapShown w).get TBS_UTC_OFFSET_tai_utc =
    (w.get TBS_UTC_OFFSET_tai_utc + if w.bit TBS_UTC_OFFSET_leap_dir then 0xFFFF else 1) % 2 ^ 16 := by
  rw [leapShown, W.get_set_other (by decide), W.get_set_other (by decide), W.get_set_same (by decide)]
  split <;> rfl

theorem leapShown_pending : (leapShown w).get TBS_UTC_OFFSET_leap_pending = 0 := by
  rw [leapShown, W.get_set_other (by decide), W.get_set_same (by decide), Nat.zero_mod]

theorem leapShown_occurred : (leapShown w).get TBS_UTC_OFFSET_leap_occurred = 1 := by
  rw [leapShown, W.get_set_same (by decide)]
  rfl

theorem applyLeap_done : w.applyLeap.bit TBS_EVENT_leap_done = true := by
  rw [applyLeap_eq]
  exact bit_evRec_same (by decide) rfl (by simp)

end

theorem leapSecond_applied (s : State) (t : Nat) (h : s.w.mainOn = true ∧ s.bitOf TBS_UTC_OFFSET_leap_pending = true ∧
    s.reg TBS_LEAP_AT_LO_v + 2 ^ 32 * s.reg TBS_LEAP_AT_HI_v ≤ s.nsAt t / 1000000000) : ∃ u,
    exec (.leapSecond t) s = .next u ∧ u.reg TBS_UTC_OFFSET_tai_utc =
    (s.reg TBS_UTC_OFFSET_tai_utc + if s.bitOf TBS_UTC_OFFSET_leap_dir then 0xFFFF else 1) % 2 ^ 16 ∧
    u.reg TBS_UTC_OFFSET_leap_pending = 0 ∧ u.reg TBS_UTC_OFFSET_leap_occurred = 1 ∧ u.bitOf TBS_EVENT_leap_done = true := by
  obtain ⟨hon, hpending, hsec⟩ := h
  have hdue : ((s.w.at_ t).mainOn && (s.w.at_ t).bit TBS_UTC_OFFSET_leap_pending &&
      decide ((s.w.at_ t).leapSec ≤ (s.w.at_ t).sec)) = true := by
    rw [W.leapSec, W.at_get _ _ (by decide), W.at_get _ _ (by decide), W.at_bit _ _ (by decide), W.at_mainOn, at_sec,
      hon, State.w_bit, hpending]
    exact decide_eq_true hsec
  unfold exec execLeapSecond
  refine ⟨_, run_left _ _ _, ?_⟩
  simp only [State.left_reg, State.left_bitOf, if_pos hdue]
  refine ⟨?_, ?_, ?_, applyLeap_done _⟩
  · rw [applyLeap_get _ TBS_UTC_OFFSET_tai_utc rfl, leapShown_offset, W.at_get _ _ (by decide), W.at_bit _ _ (by decide)]
    rfl
  · rw [applyLeap_get _ TBS_UTC_OFFSET_leap_pending rfl, leapShown_pending]
  · rw [applyLeap_get _ TBS_UTC_OFFSET_leap_occurred rfl, leapShown_occurred]

theorem at_leapAt (w : W) (t : Nat) : (w.at_ t).tb.leapAt = w.tb.leapAt := (congrArg TbState.leapAt (at_unclocked w t) :)

theorem leapOccurredExpire_clears (s : State) (t x : Nat) (h : s.dev.tb.leapAt = some x ∧
    x + 86400000000000 ≤ s.nsAt t) : ∃ u, exec (.leapOccurredExpire t) s = .next u ∧ u.dev.tb.leapAt = none ∧
    u.reg TBS_UTC_OFFSET_leap_occurred = 0 := by
  obtain ⟨hleap, hday⟩ := h
  have hat : (s.w.at_ t).tb.leapAt = some x := (at_leapAt ..).trans hleap
  unfold exec execLeapOccurredExpire
  refine ⟨_, run_left _ _ _, ?_⟩
  simp only [State.left_reg, State.left_dev, hat, at_nsAt, if_pos hday]
  exact ⟨rfl, W.get_set_same (by decide) 0⟩

/-! ## Reading the counter -/

theorem tbsNowRead_answers (s : State) (hl : s.lanes) : ∃ u, exec .tbsNowRead s = .next u ∧
    u.dev.resp = ⟨s.ns % 1000000000, false⟩ ∧ u.reg TBS_NOW_SEC_LO_v = s.ns / 1000000000 % 2 ^ 32 ∧
    u.reg TBS_NOW_SEC_HI_v = (s.ns / 1000000000 / 2 ^ 32 % 65536 + s.dev.tb.now % 2 ^ 32 / 65536 * 65536) % 2 ^ 32 := by
  unfold exec execTbsNowRead
  refine ⟨_, runL_left hl _ _, rfl, ?_, ?_⟩
  · exact ((W.get_set_other (by decide) _).trans (W.get_set_other (by decide) _)).trans
      ((W.get_set_same (by decide) _).trans (Nat.mod_mod _ _))
  · exact (W.get_set_other (by decide) _).trans (W.get_set_same (by decide) _)

/-- Settles O15, command by command: the steps, HOLD and RELEASE, the end of a slew, the write of TBS_CTRL, leap seconds and
the read of the counter. -/
theorem timebaseClock : Obligations.TimebaseClock :=
  ⟨step_steps, step_fails, hold_holds, release_releases, slewDone_over, slewDone_stands, tbsCtrlWrite_written,
   leapSecond_applied, leapOccurredExpire_clears, tbsNowRead_answers⟩

end Clock

end Sys2Proof.Machine

/-! # What stream ingress and the alignment engine reach

The frame lemmas of the operations that store in memory ask for the whole register file. Here they are stated for the registers
that each can reach: the entry cache shows its fill and no more, and the alignment engine writes no register below its own
block. -/

namespace Sys2Proof.Machine

section NarrowFrames

open SameOff Spot

variable {P : Spot → Prop} {w v : W}

/-! ## The entry cache (R100) -/

/-- What the entry cache may change. -/
@[simp] abbrev MayCache (P : Spot → Prop) : Prop :=
  P (part .ing) ∧ MayTally P ∧ P (fld ING_STATUS_cache_used) ∧ ∀ a, P (byte a)

@[simp ↓] theorem setCache_shown_iff (h : MayCache P) (c : List (Nat × CacheLine)) :
    SameOff P w (v.setCache c) ↔ SameOff P w v := by
  unfold W.setCache
  simp [h]

@[simp ↓] theorem writeBack_shown_iff (h : MayCache P) (i : Nat) : SameOff P w (v.writeBack i) ↔ SameOff P w v := by
  refine drop_iff ?_
  unfold W.writeBack
  dsimp only
  repeat' split
  all_goals simp [h]

@[simp ↓] theorem dropLine_shown_iff (h : MayCache P) (i : Nat) : SameOff P w (v.dropLine i) ↔ SameOff P w v := by
  unfold W.dropLine
  simp [h]

@[simp ↓] theorem fetchEnt_shown_iff (h : MayCache P) (i : Nat) : SameOff P w (v.fetchEnt i) ↔ SameOff P w v := by
  refine drop_iff ?_
  unfold W.fetchEnt
  dsimp only
  repeat' split
  all_goals simp [h]

@[simp ↓] theorem setEnt_shown_iff (h : MayCache P) (i : Nat) (f : List Byte → List Byte) :
    SameOff P w (v.setEnt i f) ↔ SameOff P w v := by
  refine drop_iff ?_
  unfold W.setEnt
  dsimp only
  split <;> simp [h]

/-! ## The alignment engine (R107 to R127) -/

/-- Everything but stream ingress and the registers below the alignment engine's block. -/
def OutsideIngress : Spot → Prop
  | part p => p ≠ .ing
  | fld f => 0x40060000 ≤ f.addr
  | byte _ => True
  | zero => True

@[simp] theorem offIngress_part {p : Part} : OutsideIngress (part p) ↔ p ≠ .ing := Iff.rfl
@[simp] theorem offIngress_fld {f : Fld} : OutsideIngress (fld f) ↔ 0x40060000 ≤ f.addr := Iff.rfl
@[simp] theorem offIngress_byte {a : Nat} : OutsideIngress (byte a) ↔ True := Iff.rfl
@[simp] theorem offIngress_zero : OutsideIngress zero ↔ True := Iff.rfl

/-- A register below the alignment engine's block keeps its fields. -/
theorem offIngress_sparing (h : SameOff OutsideIngress w v) {fs : List Fld} (hf : ∀ f ∈ fs, f.addr < 0x40060000) :
    SameOff (Sparing [.ing] fs) w v :=
  h.mono fun x hx => by
    cases x with
    | part p => simpa using hx
    | fld g => exact fun f hmem => .inl (Nat.ne_of_gt ((hf f hmem).trans_le hx))
    | byte a => trivial
    | zero => trivial

@[simp ↓] theorem putHeader_offIngress_iff (addr : Nat) (z : List Byte) :
    SameOff OutsideIngress w (v.putHeader addr z) ↔ SameOff OutsideIngress w v := by
  unfold W.putHeader
  simp

@[simp ↓] theorem takeSlot_offIngress_iff (i : List Byte) :
    SameOff OutsideIngress w (v.takeSlot i).1 ↔ SameOff OutsideIngress w v := by
  unfold W.takeSlot
  simp [Nat.le_add_right_of_le]

@[simp ↓] theorem notify_offIngress_iff (b : List Byte) :
    SameOff OutsideIngress w (v.notify b) ↔ SameOff OutsideIngress w v := by
  refine drop_iff ?_
  unfold W.notify
  split
  · exact refl v
  · simp [Nat.le_add_right_of_le]

@[simp ↓] theorem marker_offIngress_iff (i : List Byte) :
    SameOff OutsideIngress w (v.marker i) ↔ SameOff OutsideIngress w v := by
  refine drop_iff ?_
  unfold W.marker
  dsimp only
  split
  · exact .trans (v := (v.takeSlot i).1) (by simp) (by simp)
  · exact refl v

@[simp ↓] theorem outSend_offIngress_iff (n : Nat) (s : AlnSet) :
    SameOff OutsideIngress w (v.outSend n s) ↔ SameOff OutsideIngress w v := by
  refine drop_iff ?_
  unfold W.outSend
  dsimp only
  simp [Nat.le_add_right_of_le]

@[simp ↓] theorem outputs_offIngress_iff (g : Nat) (s : AlnSet) :
    SameOff OutsideIngress w (v.outputs g s) ↔ SameOff OutsideIngress w v := by
  refine drop_iff ?_
  unfold W.outputs
  split <;> simp

@[simp ↓] theorem closeSet_offIngress_iff (i : List Byte) (s : AlnSet) (reason : Nat) :
    SameOff OutsideIngress w (v.closeSet i s reason) ↔ SameOff OutsideIngress w v := by
  refine drop_iff ?_
  unfold W.closeSet
  dsimp only
  simp [Nat.le_add_right_of_le]

@[simp ↓] theorem closeReady_offIngress_iff (i : List Byte) (n : Nat) :
    SameOff OutsideIngress w (W.closeReady i n v) ↔ SameOff OutsideIngress w v := by
  refine drop_iff ?_
  induction n generalizing v with
  | zero => exact refl v
  | succ n ih =>
    unfold W.closeReady
    dsimp only
    repeat' split
    · exact refl v
    · exact refl v
    · exact .trans (by simp) ih
    · exact .trans (by simp) ih
    · exact refl v

@[simp ↓] theorem showGroup_offIngress_iff (i : List Byte) :
    SameOff OutsideIngress w (v.showGroup i) ↔ SameOff OutsideIngress w v :=
  showGroup_iff (by simp [Nat.le_add_right_of_le])

@[simp ↓] theorem putMembers_offIngress_iff (i : List Byte) (s : AlnSet) :
    SameOff OutsideIngress w (v.putMembers i s) ↔ SameOff OutsideIngress w v := by
  unfold W.putMembers
  simp

@[simp ↓] theorem alnRefresh_offIngress_iff : SameOff OutsideIngress w v.alnRefresh ↔ SameOff OutsideIngress w v := by
  refine drop_iff ?_
  have hstale : ∀ (l : List Nat) (x y : W),
      SameOff OutsideIngress x (l.foldl (fun w n => w.set (ALN_OUT_CTRL_cfg_stale n) 1) y) ↔ SameOff OutsideIngress x y :=
    fun l x y => foldl_iff (fun z n => by simp [Nat.le_add_right_of_le]) l
  unfold W.alnRefresh
  refine foldl (fun x i => ?_) _ _
  unfold W.closeDue
  simp [hstale]

end NarrowFrames

end Sys2Proof.Machine

/-! # Data frames, segments and silence (R82, R89 to R99) -/

namespace Sys2Proof.Machine

section Streams

open SameOff Spot

/-! ## What stream ingress keeps beside its cache -/

/-- The state of stream ingress with its entry cache taken out. -/
def IngState.uncached (x : IngState) : IngState := { x with cache := [], uses := 0 }

/-- Two working states agree in what `K` reads of the timebase and of stream ingress beside its cache. -/
structure SameStreams {β : Type} (K : TbState → IngState → β) (w v : W) : Prop where
  kept : K v.tb v.ing.uncached = K w.tb w.ing.uncached

/-- The footprint of everything but the timebase and stream ingress. -/
abbrev OffStreams : Spot → Prop := Sparing [.tb, .ing] []

namespace SameStreams

variable {β : Type} {K : TbState → IngState → β} {w v u : W}

@[simp] theorem refl (w : W) : SameStreams K w w := ⟨rfl⟩
theorem symm (h : SameStreams K w v) : SameStreams K v w := ⟨h.kept.symm⟩
theorem trans (h : SameStreams K w v) (k : SameStreams K v u) : SameStreams K w u := ⟨k.kept.trans h.kept⟩

theorem drop_iff (h : SameStreams K v u) : SameStreams K w u ↔ SameStreams K w v :=
  ⟨fun k => k.trans h.symm, fun k => k.trans h⟩

@[simp] theorem ite_iff {c : Prop} [Decidable c] :
    SameStreams K w (if c then v else u) ↔ (c → SameStreams K w v) ∧ (¬c → SameStreams K w u) := by
  split <;> simp [*]

theorem foldl {α : Type} {f : W → α → W} (h : ∀ (x : W) (e : α), SameStreams K x (f x e)) (l : List α) (w : W) :
    SameStreams K w (l.foldl f w) := by
  induction l generalizing w with
  | nil => exact refl w
  | cons e t ih => exact (h w e).trans (ih (f w e))

@[simp] theorem foldl_iff {α : Type} {f : W → α → W} (h : ∀ (x : W) (e : α), SameStreams K x (f x e)) (l : List α) :
    SameStreams K w (l.foldl f v) ↔ SameStreams K w v := drop_iff (foldl h l v)

theorem of_sameOff (h : SameOff OffStreams w v) : SameStreams K w v :=
  ⟨by rw [show v.tb = w.tb from h.parts .tb (by simp), show v.ing = w.ing from h.parts .ing (by simp)]⟩

theorem sameOff_iff (h : SameOff OffStreams v u) : SameStreams K w u ↔ SameStreams K w v := drop_iff (of_sameOff h)

@[simp] theorem set_iff (f : Fld) (n : Nat) : SameStreams K w (v.set f n) ↔ SameStreams K w v := sameOff_iff (by simp)
@[simp] theorem bump_iff (f : Fld) (n : Nat) : SameStreams K w (v.bump f n) ↔ SameStreams K w v := sameOff_iff (by simp)
@[simp] theorem tally_iff (e : Nat) : SameStreams K w (v.tally e) ↔ SameStreams K w v := sameOff_iff (by simp)
@[simp] theorem evEach_iff (f : Fld) (n : Nat) : SameStreams K w (v.evEach f n) ↔ SameStreams K w v := sameOff_iff (by simp)
@[simp] theorem evRec_iff (f : Fld) (n p2 p3 : Nat) : SameStreams K w (v.evRec f n p2 p3) ↔ SameStreams K w v :=
  sameOff_iff (by simp)
@[simp] theorem showSilent_iff : SameStreams K w v.showSilent ↔ SameStreams K w v := sameOff_iff (by simp)
@[simp] theorem sendChecked_iff (cs : List Checked) : SameStreams K w (v.sendChecked cs) ↔ SameStreams K w v :=
  sameOff_iff (by simp)
@[simp] theorem hostHold_iff (f : HostFrame) : SameStreams K w (v.hostHold f) ↔ SameStreams K w v := sameOff_iff (by simp)
@[simp] theorem toLanes_iff (cls : Nat) (b : List Byte) : SameStreams K w (v.toLanes cls b) ↔ SameStreams K w v :=
  sameOff_iff (by simp)

/-! The cache moves lines and counts its uses, and nothing else. -/

@[simp] theorem setCache_iff (c : List (Nat × CacheLine)) : SameStreams K w (v.setCache c) ↔ SameStreams K w v :=
  drop_iff ⟨rfl⟩

@[simp] theorem wrBytes_iff (a : Nat) (b : List Byte) : SameStreams K w (v.wrBytes a b) ↔ SameStreams K w v :=
  sameOff_iff (by simp)

@[simp] theorem writeBack_iff (i : Nat) : SameStreams K w (v.writeBack i) ↔ SameStreams K w v := by
  refine drop_iff ?_
  unfold W.writeBack
  repeat' split
  all_goals simp

@[simp] theorem dropLine_iff (i : Nat) : SameStreams K w (v.dropLine i) ↔ SameStreams K w v := by
  unfold W.dropLine
  simp

@[simp] theorem fetchEnt_iff (i : Nat) : SameStreams K w (v.fetchEnt i) ↔ SameStreams K w v := by
  refine drop_iff (trans (v := { v with ing := { v.ing with uses := v.ing.uses + 1 } }) ⟨rfl⟩ ?_)
  unfold W.fetchEnt
  dsimp only
  repeat' split
  all_goals simp

@[simp] theorem setEnt_iff (i : Nat) (f : List Byte → List Byte) :
    SameStreams K w (v.setEnt i f) ↔ SameStreams K w v := by
  refine drop_iff ?_
  unfold W.setEnt
  dsimp only
  split <;> simp

@[simp] theorem dropFrame_iff (code : Nat) (head : Option Nat) :
    SameStreams K w (v.dropFrame code head) ↔ SameStreams K w v := by
  refine drop_iff ?_
  unfold W.dropFrame
  split <;> simp

/-- A chain's state stored is a head stored. -/
theorem setHead_setChain (w : W) (i : Nat) (h : Head) (st : Nat) :
    SameStreams K (w.setHead i { h with state := st }) (w.setChain i h st) := by
  unfold W.setChain
  simp

/-- A unit that crosses a queue, where there is room for it. -/
theorem cross_getD (w : W) (producer consumer len : Nat) : SameStreams K w ((w.cross producer consumer len).getD w) :=
  of_sameOff (getD_sameOff (fun _ h => cross_sameOff (by simp) h) (SameOff.refl w))

theorem heads (h : SameStreams Prod.mk w v) : v.ing.heads = w.ing.heads := (congrArg (fun x => x.2.heads) h.kept :)
theorem tb (h : SameStreams Prod.mk w v) : v.tb = w.tb := (congrArg Prod.fst h.kept :)

end SameStreams

/-! ## The connections while frames are taken in -/

/-- The attached connections are the same. -/
abbrev SameConns : W → W → Prop := SameStreams fun _ x => x.conns

namespace SameConns

open SameStreams

variable {w v u : W}

@[simp] theorem setHead_iff (i : Nat) (h : Head) : SameConns w (v.setHead i h) ↔ SameConns w v := drop_iff ⟨rfl⟩

@[simp] theorem setChain_iff (i : Nat) (h : Head) (st : Nat) : SameConns w (v.setChain i h st) ↔ SameConns w v :=
  drop_iff (.trans ((setHead_iff i _).mpr (.refl v)) (setHead_setChain v i h st))

@[simp] theorem acceptFrame_iff (i : Nat) (h h' : Head) (test : Bool) (cs : List Checked) (arrival instant : Nat) :
    SameConns w (v.acceptFrame i h h' test cs arrival instant) ↔ SameConns w v := by
  refine drop_iff ?_
  unfold W.acceptFrame
  simp

theorem ingressTry {f : C37Frame} (e : w.ingressTry f = some u) : SameConns w u := by
  unfold W.ingressTry at e
  dsimp only at e
  repeat' split at e
  all_goals cases e
  all_goals simp

theorem ingressOne {f : C37Frame} (e : w.ingressOne f = some u) : SameConns w u := (cross_getD ..).trans (ingressTry e)

@[simp] theorem ingressFrame_iff (f : C37Frame) : SameConns w (v.ingressFrame f) ↔ SameConns w v := by
  refine drop_iff ?_
  unfold W.ingressFrame
  dsimp only
  split
  · simp
  · cases e : v.ingressOne f with
    | none => simp
    | some u => exact ingressOne e

@[simp] theorem toLanesCut_iff (n : Nat) (b : List Byte) : SameConns w (W.toLanesCut n b v) ↔ SameConns w v := by
  refine drop_iff ?_
  induction n generalizing b v with
  | zero => exact .refl v
  | succ n ih =>
    unfold W.toLanesCut
    split
    · exact .refl v
    · exact .trans (by simp) (ih _)

theorem conns (h : SameConns w v) : v.ing.conns = w.ing.conns := h.kept

end SameConns

/-! ## Segments (R82) -/

/-- The attached connection that a segment belongs to. -/
abbrev W.connOf (w : W) (g : TcpSeg) : Option (Nat × TcpConn) :=
  w.ing.conns.find? (fun c => c.2.v6 == g.v6 && c.2.remote == g.remote && c.2.local_ == g.local_
    && c.2.remotePort == g.remotePort && c.2.localPort == g.localPort)

/-- The frames a segment completes, what is left of it, and whether a frame boundary lacks its SYNC byte. -/
abbrev TcpConn.cut (x : TcpConn) (g : TcpSeg) : List (List Byte) × List Byte × Bool :=
  W.cutFrames (g.data.length + 1) (x.buf ++ g.data) []

/-- What a segment in order makes of its connection. -/
def TcpConn.received (x : TcpConn) (g : TcpSeg) (up : Nat) : TcpConn := { x with
  rcvNext := (x.rcvNext + g.data.length) % 2 ^ 32
  buf := (x.cut g).2.1
  unacked := if g.data.isEmpty then x.unacked else (match x.unacked with | some u => some u | none => some up)
  full := if 1460 ≤ g.data.length then x.full + 1 else x.full }

/-- A connection stored, and acknowledged at once after its second full-sized segment. -/
def W.keepConn (w : W) (c : Nat) (x : TcpConn) : W := if 2 ≤ x.full then (w.setConn c x).tcpAck c x else w.setConn c x

/-- The frames of a segment handed on. -/
def W.handOn (w : W) (g : TcpSeg) (c : Nat) (fs : List (List Byte)) : W :=
  fs.foldl (fun w d =>
    if W.c37Data d then w.ingressFrame ⟨d, g.v6, g.remote, g.remotePort, some c, g.arrival⟩ else W.toLanesCut 8 d w) w

section
variable {w : W} {g : TcpSeg} {k : Nat} {x : TcpConn}

theorem tcpSegment_unattached (h : w.connOf g = none) : w.tcpSegment g = w.toLanes 3 g.frame := by
  unfold W.tcpSegment
  rw [show w.ing.conns.find? _ = _ from h]

theorem tcpSegment_reset (h : w.connOf g = some (k, x)) (hr : g.rst = true) : w.tcpSegment g = w.tcpDetached k := by
  unfold W.tcpSegment
  rw [show w.ing.conns.find? _ = _ from h]
  exact if_pos hr

theorem tcpSegment_outOfOrder (h : w.connOf g = some (k, x)) (hr : g.rst = false) (hs : g.seq ≠ x.rcvNext) :
    w.tcpSegment g = (w.bump ING_TCP_OOO_CNT_v 1).tcpAck k x := by
  unfold W.tcpSegment
  rw [show w.ing.conns.find? _ = _ from h]
  exact (if_neg (by simp [hr])).trans (if_pos hs)

theorem tcpSegment_inOrder (h : w.connOf g = some (k, x)) (hr : g.rst = false) (hf : g.fin = false) (hs : g.seq = x.rcvNext)
    (hsync : (x.cut g).2.2 = false) : w.tcpSegment g =
      ((w.tally 0x35).keepConn k (x.received g (w.tally 0x35).tb.up)).handOn g k (x.cut g).1 := by
  unfold W.tcpSegment
  rw [show w.ing.conns.find? _ = _ from h]
  refine (if_neg (by simp [hr])).trans ((if_neg (by simp [hs])).trans (if_neg ?_))
  rw [hf, Bool.false_or]
  exact Bool.eq_false_iff.mp hsync

theorem handOn_conns (w : W) (g : TcpSeg) (c : Nat) (fs : List (List Byte)) : (w.handOn g c fs).ing.conns = w.ing.conns :=
  SameConns.conns (SameStreams.foldl (fun v d => by simp) fs w)

end

section
variable (w : W) (c seq : Nat) (x : TcpConn) (data : List Byte)

/-- A segment sent on a connection leaves no data of it unacknowledged. -/
theorem tcpSend_conn : tblGet (w.tcpSend c x seq data).ing.conns c = some { x with unacked := none, full := 0 } :=
  tblGet_tblPut_same ..

theorem tcpSend_wire : (w.tcpSend c x seq data).net.wire =
    (w.hostSend ⟨1, 0, false⟩ 0 (.tcp c seq x.rcvNext 65535 data)).net.wire := rfl

/-- Acknowledged or not, a connection kept holds the receive sequence and the bytes that are no whole frame yet. -/
theorem keepConn_conn : (tblGet (w.keepConn c x).ing.conns c).map (fun y => (y.rcvNext, y.buf)) = some (x.rcvNext, x.buf) := by
  unfold W.keepConn
  split
  · rw [W.tcpAck, tcpSend_conn, Option.map_some]
  · rw [W.setConn, tblGet_tblPut_same, Option.map_some]

end

theorem at_ing (w : W) (t : Nat) : (w.at_ t).ing = w.ing := w.at_part t (p := .ing) (by decide)
theorem at_net (w : W) (t : Nat) : (w.at_ t).net = w.net := w.at_part t (p := .net) (by decide)
theorem at_que (w : W) (t : Nat) : (w.at_ t).que = w.que := w.at_part t (p := .que) (by decide)

theorem at_connOf (s : State) (t : Nat) (g : TcpSeg) : (s.w.at_ t).connOf g = s.w.connOf g := by rw [W.connOf, at_ing]

theorem exec_tcpSegmentRx {s : State} (g : TcpSeg) (hon : s.w.mainOn = true) :
    exec (.tcpSegmentRx g) s = .next (s.left ((s.w.at_ g.arrival).tcpSegment g)) := by
  show execTcpSegmentRx g s = _
  refine (run_left _ _ _).trans (congrArg (fun v : W => Host.Outcome.next (s.left v)) (if_pos ?_))
  rw [W.at_mainOn, hon]

theorem tcpSegmentRx_inOrder (s : State) (g : TcpSeg) (k : Nat) (x : TcpConn) (h : s.w.mainOn = true ∧
    s.w.connOf g = some (k, x) ∧ g.rst = false ∧ g.fin = false ∧ g.seq = x.rcvNext ∧ (x.cut g).2.2 = false) :
    ∃ u, exec (.tcpSegmentRx g) s = .next u ∧ (tblGet u.dev.ing.conns k).map (fun y => (y.rcvNext, y.buf)) =
      some ((x.rcvNext + g.data.length) % 2 ^ 32, (x.cut g).2.1) := by
  obtain ⟨hon, hfind, hrst, hfin, hseq, hsync⟩ := h
  refine ⟨_, exec_tcpSegmentRx g hon, ?_⟩
  rw [State.left_dev, tcpSegment_inOrder ((at_connOf ..).trans hfind) hrst hfin hseq hsync, handOn_conns, keepConn_conn]
  rfl

theorem bump_get {w : W} {f : Fld} (h : f.lo + f.width ≤ 32) (n : Nat) :
    (w.bump f n).get f = min (w.get f + n) (2 ^ f.width - 1) :=
  (W.get_set_same h _).trans (Nat.mod_eq_of_lt (Nat.lt_of_le_of_lt (Nat.min_le_right ..) (Nat.sub_lt (by simp) (by simp))))

theorem tcpSegmentRx_refused (s : State) (g : TcpSeg) (k : Nat) (x : TcpConn) (h : s.w.mainOn = true ∧
    s.w.connOf g = some (k, x) ∧ (g.rst = true ∨ g.seq ≠ x.rcvNext)) : ∃ u, exec (.tcpSegmentRx g) s = .next u ∧
    if g.rst then tblGet u.dev.ing.conns k = none ∧ u.bitOf ING_EVENT_tcp_detached = true else
      tblGet u.dev.ing.conns k = some { x with unacked := none, full := 0 } ∧
        u.reg ING_TCP_OOO_CNT_v = min (s.reg ING_TCP_OOO_CNT_v + 1) (2 ^ 32 - 1) := by
  obtain ⟨hon, hfind, hwhy⟩ := h
  have hat := (at_connOf s g.arrival g).trans hfind
  refine ⟨_, exec_tcpSegmentRx g hon, ?_⟩
  cases hrst : g.rst with
  | true =>
    rw [tcpSegment_reset hat hrst]
    refine ⟨?_, W.bit_ev_same (by decide) rfl _⟩
    have hev : ∀ v : W, (v.ev ING_EVENT_tcp_detached k).ing = v.ing := fun v =>
      SameOff.parts (P := Sparing [.ing] []) (p := .ing) (by simp) (by simp)
    rw [State.left_dev, W.tcpDetached, hev, tblGet_tblDel_same]
  | false =>
    have hseq : g.seq ≠ x.rcvNext := hwhy.resolve_left (by simp [hrst])
    rw [tcpSegment_outOfOrder hat hrst hseq]
    refine ⟨tcpSend_conn .., ?_⟩
    have hack : ∀ v : W, SameOff (Sparing [] [ING_TCP_OOO_CNT_v]) v (v.tcpAck k x) := fun v => by simp
    rw [State.left_reg, (hack _).get_eq (by simp), bump_get (by decide), W.at_get _ _ (by decide), State.w_get]

/-! A frame for the lanes (R23). -/

theorem qStore_que (w : W) (i : QItem) (x : QState) : (w.qStore i x).que = tblPut i.queue x w.que := by
  unfold W.qStore
  dsimp only
  split
  · split <;> simp [W.setQue]
  · simp [W.setQue]

/-- A unit written to a queue with room stands behind the others. -/
theorem push_units {w : W} {producer consumer : Nat} {y : QUnit} {q : QItem}
    (hpath : w.pat.active.path producer consumer = some q) (hroom : w.hasRoom producer consumer y.len = true) :
    ((w.push producer consumer y).qState q.queue).units = (w.qState q.queue).units ++ [y] := by
  have hfit : W.qFill (w.qState q.queue) + W.unitSize y.len ≤ q.size := by simpa [W.hasRoom, hpath] using hroom
  have htally : ∀ v : W, (v.tally 0xC8).que = v.que := fun v =>
    SameOff.parts (P := Sparing [.que] []) (p := .que) (by simp) (by simp)
  have hque : (w.push producer consumer y).que = tblPut q.queue { w.qState q.queue with
      units := (w.qState q.queue).units ++ [y]
      wp := ((w.qState q.queue).wp + W.unitSize y.len) % q.size
      wp2 := ((w.qState q.queue).wp2 + W.unitSize y.len) % q.size } w.que := by
    simp only [W.push, hpath, if_pos hfit, htally, qStore_que]
  rw [W.qState, hque, tblGet_tblPut_same, Option.getD_some]

theorem tcpSegmentRx_unattached (s : State) (g : TcpSeg) (q : QItem) (h : s.w.mainOn = true ∧ s.w.connOf g = none ∧
    s.dev.pat.active.path 0xF1 0xF0 = some q ∧ s.w.hasRoom 0xF1 0xF0 g.frame.length = true ∧
    s.dev.net.host.any HostFrame.forLanes = false) : ∃ u, exec (.tcpSegmentRx g) s = .next u ∧
    (u.w.qState q.queue).units = (s.w.qState q.queue).units ++ [⟨.bytes g.frame, g.frame.length, false⟩] := by
  obtain ⟨hon, hfind, hpath, hroom, hhost⟩ := h
  have hque : (s.w.at_ g.arrival).qState q.queue = s.w.qState q.queue := by rw [W.qState, at_que, W.qState]
  have hroom' : (s.w.at_ g.arrival).hasRoom 0xF1 0xF0 g.frame.length = true := by
    rw [W.hasRoom, W.at_pat, State.w_toDev, hpath]
    simpa [W.hasRoom, hpath, hque] using hroom
  have hlanes : (s.w.at_ g.arrival).toLanes 3 g.frame =
      (s.w.at_ g.arrival).push 0xF1 0xF0 ⟨.bytes g.frame, g.frame.length, false⟩ :=
    if_pos (by rw [at_net, State.w_toDev, hhost, hroom']; rfl)
  refine ⟨_, exec_tcpSegmentRx g hon, ?_⟩
  rw [tcpSegment_unattached ((at_connOf ..).trans hfind), hlanes, ← hque]
  exact push_units (by rw [W.at_pat]; exact hpath) hroom'

theorem tcpAckTimer_acks (s : State) (conn t m : Nat) (x : TcpConn) (h : conn < 256 ∧ tblGet s.dev.ing.conns conn = some x ∧
    x.unacked = some m ∧ m + 5000000 ≤ s.upAt t) : ∃ u, exec (.tcpAckTimer conn t) s = .next u ∧
    tblGet u.dev.ing.conns conn = some { x with unacked := none, full := 0 } ∧
    u.dev.net.wire = ((s.w.at_ t).hostSend ⟨1, 0, false⟩ 0 (.tcp conn 0 x.rcvNext 65535 [])).net.wire := by
  obtain ⟨hconn, hx, hun, hdue⟩ := h
  have hexec : exec (.tcpAckTimer conn t) s = .next (s.left ((s.w.at_ t).tcpAck conn x)) := by
    show execTcpAckTimer conn t s = _
    unfold execTcpAckTimer
    rw [show wfTcpAckTimer conn = true from decide_eq_true hconn]
    refine (run_left _ _ _).trans (congrArg (fun v : W => Host.Outcome.next (s.left v)) ?_)
    have hx' : tblGet (s.w.at_ t).ing.conns conn = some x := by rw [at_ing]; exact hx
    simp only [hx', hun, W.at_up, State.at_up, if_pos hdue]
  exact ⟨_, hexec, tcpSend_conn .., tcpSend_wire ..⟩

theorem tcpLaneSegmentTx_sends (s : State) (conn q : Nat) (data : List Byte) (x : TcpConn) (h : s.lanes ∧ conn < 256 ∧
    tblGet s.dev.ing.conns conn = some x) : ∃ u, exec (.tcpLaneSegmentTx conn q data) s = .next u ∧
    tblGet u.dev.ing.conns conn = some { x with unacked := none, full := 0 } ∧
    u.dev.net.wire = (s.w.hostSend ⟨1, 0, false⟩ 0 (.tcp conn q x.rcvNext 65535 data)).net.wire := by
  obtain ⟨hl, hconn, hx⟩ := h
  have hexec : exec (.tcpLaneSegmentTx conn q data) s = .next (s.left (s.w.tcpSend conn x q data)) := by
    show execTcpLaneSegmentTx conn q data s = _
    unfold execTcpLaneSegmentTx
    rw [show wfTcpLaneSegmentTx conn = true from decide_eq_true hconn, runL_left hl]
    simp only [State.w_toDev, hx]
  exact ⟨_, hexec, tcpSend_conn .., tcpSend_wire ..⟩

/-! ## Data frames (R89 to R98) -/

/-- A frame across the queue to stream ingress, as the checks of R89 find the module. -/
abbrev State.crossed (s : State) (f : C37Frame) : W :=
  ((s.w.at_ f.arrival).cross 0xF1 5 (W.c37Len f)).getD (s.w.at_ f.arrival)

/-- A field that neither a stored queue nor a counted event writes: the registers they reach lie from Cooper's block on, at
offset 8 or more of every 0x40 bytes. -/
def QueueApart (f : Fld) : Prop := f.addr < 0x40120000 ∨ f.addr % 0x40 < 8

/-- A queue stored and an event counted stay away from what lies apart. -/
theorem queueApart_spared {ps : List Part} {fs : List Fld} (hp : .irq ∉ ps ∧ .prf ∉ ps ∧ .que ∉ ps)
    (hf : ∀ g ∈ fs, QueueApart g) : MayQueue (Sparing ps fs) ∧ MayTally (Sparing ps fs) := by
  obtain ⟨hirq, hprf, hque⟩ := hp
  have hfld : ∀ a lo width, 0x40120000 ≤ a ∧ 8 ≤ a % 0x40 → Sparing ps fs (fld ⟨a, lo, width⟩) := by
    intro a lo width ha g hg
    have hg := hf g hg
    unfold QueueApart at hg
    refine .inl ?_
    dsimp only
    omega
  refine ⟨⟨hque, ?_, ?_, ?_, ?_, ?_, ?_, ?_, ?_⟩, hirq, hprf, hfld _ _ _ (by decide)⟩
  all_goals
    intro q
    exact hfld _ _ _ (by omega)

/-- A frame that crosses a queue, where there is room for it. -/
theorem cross_sparing (w : W) (producer consumer len : Nat) {ps : List Part} {fs : List Fld}
    (hp : .irq ∉ ps ∧ .prf ∉ ps ∧ .que ∉ ps) (hf : ∀ g ∈ fs, QueueApart g) :
    SameOff (Sparing ps fs) w ((w.cross producer consumer len).getD w) :=
  getD_sameOff (fun _ h => cross_sameOff (queueApart_spared hp hf) h) (refl w)

/-- Neither the time carried forward nor the queue reaches what lies apart. -/
theorem crossed_sameOff (s : State) (f : C37Frame) {ps : List Part} {fs : List Fld}
    (htb : .tb ∉ ps) (hp : .irq ∉ ps ∧ .prf ∉ ps ∧ .que ∉ ps) (hf : ∀ g ∈ fs, QueueApart g) :
    SameOff (Sparing ps fs) s.w (s.crossed f) :=
  ((advance_iff ⟨htb, (queueApart_spared hp hf).2⟩ f.arrival).mpr (refl s.w)).trans (cross_sparing _ _ _ _ hp hf)

/-- The fields that a frame's stamp is read by (R90). -/
abbrev taiFields : List Fld := [TBS_UTC_OFFSET_tai_utc, TBS_UTC_OFFSET_leap_occurred, TBS_UTC_OFFSET_leap_dir,
  TBS_UTC_OFFSET_leap_pending, TBS_LEAP_AT_LO_v, TBS_LEAP_AT_HI_v]

section
variable {w v : W}

theorem taiOf_congr (h : SameOff (Sparing [] taiFields) w v) (soc frac : Nat) : v.taiOf soc frac = w.taiOf soc frac := by
  unfold W.taiOf W.leapSecs
  simp only [h.get_eq (f := TBS_UTC_OFFSET_tai_utc) (by simp), h.bit_eq (f := TBS_UTC_OFFSET_leap_occurred) (by simp),
    h.bit_eq (f := TBS_UTC_OFFSET_leap_dir) (by simp), h.bit_eq (f := TBS_UTC_OFFSET_leap_pending) (by simp),
    h.get_eq (f := TBS_LEAP_AT_LO_v) (by simp), h.get_eq (f := TBS_LEAP_AT_HI_v) (by simp)]

/-- The time quality is the timebase's and the servo state's affair. -/
theorem tqCode_congr (h : SameOff (Sparing [.tb] [TBS_STATUS_servo_state]) w v) : v.tqCode = w.tqCode := by
  have htb : v.tb = w.tb := h.parts .tb (by simp)
  have hservo := h.get_eq (f := TBS_STATUS_servo_state) (by simp)
  unfold W.tqCode W.estimate W.tqBasis W.refInUse W.sources W.ns
  rw [htb, hservo]

theorem isQuiet_congr (h : SameOff (Sparing [] [PTN_STATUS_state, PTN_CTRL_shadow]) w v) : v.isQuiet = w.isQuiet := by
  unfold W.isQuiet W.isStandby
  rw [h.get_eq (f := PTN_STATUS_state) (by simp), h.bit_eq (f := PTN_CTRL_shadow) (by simp)]

end

/-- A head stands ACTIVE with the new history, and silence counts from `up`. -/
def HeadActive (i : Nat) (h' : Head) (up : Nat) (w : W) : Prop :=
  w.tb.up = up ∧ (tblGet w.ing.heads i).map (fun x => (x.state, x.newest, x.hist, x.since)) = some (3, h'.newest, h'.hist, up)

section
variable {w v : W} {i : Nat} {h h' : Head} {up : Nat}

theorem HeadActive.mono (hw : HeadActive i h' up w) (k : SameStreams Prod.mk w v) : HeadActive i h' up v := by
  unfold HeadActive
  rw [k.tb, k.heads]
  exact hw

theorem headActive_setHead (hup : w.tb.up = up) {x : Head}
    (hx : x.state = 3 ∧ x.newest = h'.newest ∧ x.hist = h'.hist ∧ x.since = up) : HeadActive i h' up (w.setHead i x) := by
  obtain ⟨hs, hn, hh, hc⟩ := hx
  refine ⟨hup, ?_⟩
  rw [W.setHead, tblGet_tblPut_same, Option.map_some, hs, hn, hh, hc]

/-- Acceptance makes the head ACTIVE, whatever else it tells (R93, R98). -/
theorem acceptFrame_headActive (w : W) (i : Nat) (h h' : Head) (test : Bool) (cs : List Checked) (arrival instant : Nat) :
    HeadActive i h' w.tb.up (w.acceptFrame i h h' test cs arrival instant) := by
  have hhead : HeadActive i h' w.tb.up (w.setHead i { h' with state := 3, since := w.tb.up }) :=
    headActive_setHead rfl ⟨rfl, rfl, rfl, rfl⟩
  have hset := hhead.mono (SameStreams.setHead_setChain w i { h' with since := w.tb.up } 3)
  unfold W.acceptFrame
  refine HeadActive.mono ?_ ((SameStreams.sendChecked_iff _).mpr (.refl _))
  dsimp only
  split
  · refine HeadActive.mono (headActive_setHead ?_ ?_) ((SameStreams.evEach_iff _ _).mpr (.refl _))
    · exact (hset.mono (by simp)).1
    · exact ⟨rfl, rfl, rfl, (hset.mono (by simp)).1⟩
  · exact hset.mono (by simp)

end

section
variable {w : W} {f : C37Frame}

theorem be_lt (b : List Byte) (at_ n : Nat) : be b at_ n < 256 ^ n := by
  have hlen : (cut b at_ n).reverse.length ≤ n := by simp [cut]
  exact (leNat_lt _).trans_le (Nat.pow_le_pow_right (by decide) hlen)

/-- A drop counts under its code (R89). -/
theorem dropFrame_get {k : Nat} (hk : k ≤ 5) :
    (w.dropFrame k none).get (ING_DROP_CNT_v k) = min (w.get (ING_DROP_CNT_v k) + 1) (2 ^ 32 - 1) := by
  have htally : ∀ v : W, SameOff (Sparing [] [ING_DROP_CNT_v k]) v (v.tally 0x31) := fun v =>
    (tally_iff (queueApart_spared (by simp) (by simp [QueueApart]; omega)).2 _).mpr (refl v)
  exact ((htally _).get_eq (by simp)).trans (bump_get (by simp) 1)

/-- Without a code of the early checks, a frame of no stream is dropped with code 5, and the lanes are told of it. -/
def W.dropUnknown (w : W) (id : Nat) : W :=
  ((w.dropFrame 5 none).set ING_UNKNOWN_LAST_idcode id).evRec ING_EVENT_unknown id

theorem ingressTry_malformed {k : Nat} (hquiet : w.isQuiet = false) (hen : w.bit ING_CTRL_enable = true)
    (hpre : W.preCheck f.data = some k) : w.ingressTry f = some (w.dropFrame k none) := by
  unfold W.ingressTry
  simp [hquiet, hen, hpre]

theorem ingressTry_unknown (hquiet : w.isQuiet = false) (hen : w.bit ING_CTRL_enable = true) (hpre : W.preCheck f.data = none)
    (hmap : tblGet w.ing.map (be f.data 4 2) = none) : w.ingressTry f = some (w.dropUnknown (be f.data 4 2)) := by
  unfold W.ingressTry
  simp [hquiet, hen, hpre, hmap, W.dropUnknown]

/-- The records of a frame, one for each entry of its head's chain (R97). -/
abbrev W.records (w : W) (f : C37Frame) (i inst : Nat) (h : Head) (unchecked : Bool) : List Checked :=
  h.chain.map (fun x => w.checkedOf (tst (entFlags (w.ent i)) 2) x (w.ent x) f.data inst f.arrival (be f.data 10 4 / 2 ^ 24 % 16)
    unchecked)

/-- Every check of R89 passed, and room for the records: the frame is accepted. -/
theorem ingressTry_accepts {i k inst : Nat} {h h' : Head} {e : List Byte} {sec : Nat} {v : W} (hquiet : w.isQuiet = false)
    (hen : w.bit ING_CTRL_enable = true) (hpre : W.preCheck f.data = none) (hmap : tblGet w.ing.map (be f.data 4 2) = some i)
    (hv : v = w.fetchEnt i) (hent : v.ent i = e) (hhead : tblGet v.ing.heads i = some h) (hsrc : W.sourceOk e f = true)
    (hlo : 2 ≤ h.state) (hhi : h.state ≤ 4) (hsize : be f.data 2 2 = entFrameSize e)
    (hfrac : be f.data 10 4 % 2 ^ 24 < entTimeBase e) (hsec : (v.taiOf (be f.data 6 4) (be f.data 10 4)).toNat = sec)
    (hnear : v.tqCode = 0xF ∨ ((sec * entTimeBase e * 1000000000 + be f.data 10 4 % 2 ^ 24 * 1000000000 : Nat) -
      (f.arrival * entTimeBase e : Nat) : Int).natAbs ≤ 2000000000 * entTimeBase e)
    (hgrid : W.gridOf e sec (be f.data 10 4 % 2 ^ 24) = some (k, inst)) (hhist : W.histCheck h k = (0, h'))
    (hfits : v.fits ((v.records f i inst h (v.tqCode == 0xF)).filter (fun c => c.group != 0xFF)) = true) :
    w.ingressTry f = some (v.acceptFrame i h h' (tst (entFlags e) 2) (v.records f i inst h (v.tqCode == 0xF)) f.arrival inst) := by
  subst hv
  unfold W.ingressTry
  rw [if_neg (by simp [hquiet, hen]), hpre]
  dsimp only
  rw [hmap]
  dsimp only
  rw [hhead]
  dsimp only
  rw [hent, hsec, if_neg (by simp [hsrc]), if_neg (by omega), if_neg (by simp [hsize]), if_neg ?_, hgrid]
  · dsimp only
    rw [hhist]
    subst hent
    exact if_pos hfits
  · rintro (hle | hfar)
    · omega
    · simp only [Bool.and_eq_true, Bool.not_eq_true', beq_eq_false_iff_ne, ne_eq, decide_eq_true_eq] at hfar
      exact hnear.elim hfar.1 fun hle => absurd hfar.2 (Nat.not_lt.mpr hle)

end

theorem exec_ingressFrame {s : State} (f : C37Frame) (hserves : s.w.serves = true)
    (hhost : s.dev.net.host.any (fun x => !x.forLanes) = false) : exec (.ingressFrame f) s =
      .next (s.left (((s.crossed f).ingressTry f).getD ((s.w.at_ f.arrival).hostHold ⟨3, W.c37Len f, .c37 f⟩))) := by
  show execIngressFrame f s = _
  refine (run_left _ _ _).trans (congrArg (fun v : W => Host.Outcome.next (s.left v)) ((if_pos ?_).trans (if_neg ?_)))
  · rw [W.at_serves, hserves]
  · rw [at_net, State.w_toDev, hhost]
    exact Bool.false_ne_true

/-- What the checks before the lookup turn on, once the frame has crossed its queue. -/
theorem crossed_checks (s : State) (f : C37Frame) (hquiet : s.w.isQuiet = false) (hen : s.bitOf ING_CTRL_enable = true) :
    (s.crossed f).isQuiet = false ∧ (s.crossed f).bit ING_CTRL_enable = true ∧ (s.crossed f).ing = s.dev.ing ∧
      (s.crossed f).tb = (s.w.at_ f.arrival).tb := by
  refine ⟨?_, ?_, ?_, ?_⟩
  · rw [isQuiet_congr (crossed_sameOff s f (by simp) (by simp) (by simp [QueueApart])), hquiet]
  · rw [(crossed_sameOff s f (fs := [ING_CTRL_enable]) (ps := []) (by simp) (by simp) (by simp [QueueApart])).bit_eq (by simp)]
    exact hen
  · exact (crossed_sameOff s f (fs := []) (ps := [.ing]) (by simp) (by simp) (by simp)).parts .ing (by simp)
  · exact (SameStreams.cross_getD ..).tb

theorem ingressFrame_accepted (s : State) (f : C37Frame) (i k inst : Nat) (h h' : Head) (e : List Byte) (sec : Nat)
    (hyp : s.w.serves = true ∧ s.bitOf ING_CTRL_enable = true ∧ s.w.isQuiet = false ∧ s.dev.net.host.any (fun x => !x.forLanes) = false ∧
    W.preCheck f.data = none ∧ tblGet s.dev.ing.map (be f.data 4 2) = some i ∧ tblGet s.dev.ing.heads i = some h ∧
    ((s.crossed f).fetchEnt i).ent i = e ∧ W.sourceOk e f = true ∧ 2 ≤ h.state ∧ h.state ≤ 4 ∧
    be f.data 2 2 = entFrameSize e ∧ be f.data 10 4 % 2 ^ 24 < entTimeBase e ∧
    (s.w.taiOf (be f.data 6 4) (be f.data 10 4)).toNat = sec ∧ ((s.w.at_ f.arrival).tqCode = 0xF ∨
      ((sec * entTimeBase e * 1000000000 + be f.data 10 4 % 2 ^ 24 * 1000000000 : Nat) - (f.arrival * entTimeBase e : Nat) :
        Int).natAbs ≤ 2000000000 * entTimeBase e) ∧ W.gridOf e sec (be f.data 10 4 % 2 ^ 24) = some (k, inst) ∧
    W.histCheck h k = (0, h') ∧ ((s.crossed f).fetchEnt i).fits ((h.chain.map (fun x => ((s.crossed f).fetchEnt i).checkedOf
      (tst (entFlags e) 2) x (((s.crossed f).fetchEnt i).ent x) f.data inst f.arrival (be f.data 10 4 / 2 ^ 24 % 16)
      ((s.w.at_ f.arrival).tqCode == 0xF))).filter (fun c => c.group != 0xFF)) = true) :
    ∃ u, exec (.ingressFrame f) s = .next u ∧ (tblGet u.dev.ing.heads i).map (fun x => (x.state, x.newest, x.hist, x.since)) =
      some (3, h'.newest, h'.hist, s.upAt f.arrival) := by
  obtain ⟨hserves, hen, hquiet, hhost, hpre, hmap, hhead, hent, hsrc, hlo, hhi, hsize, hfrac, hsec, hnear, hgrid, hhist,
    hfits⟩ := hyp
  obtain ⟨hquiet', hen', hing, htb⟩ := crossed_checks s f hquiet hen
  have hfetch : SameStreams Prod.mk (s.crossed f) ((s.crossed f).fetchEnt i) := by simp
  have htq : ((s.crossed f).fetchEnt i).tqCode = (s.w.at_ f.arrival).tqCode :=
    tqCode_congr ((fetchEnt_shown_iff (by simp) i).mpr (cross_sparing _ _ _ _ (by simp) (by simp [QueueApart])))
  have htai : SameOff (Sparing [] taiFields) s.w ((s.crossed f).fetchEnt i) :=
    (fetchEnt_shown_iff (by simp) i).mpr (crossed_sameOff s f (by simp) (by simp) (by simp [QueueApart]))
  have htry := ingressTry_accepts (w := s.crossed f) (f := f) hquiet' hen' hpre (by rw [hing]; exact hmap) rfl hent
    (by rw [hfetch.heads, hing]; exact hhead) hsrc hlo hhi hsize hfrac (by rw [taiOf_congr htai, hsec]) (by rw [htq]; exact hnear)
    hgrid hhist (by rw [W.records, hent, htq]; exact hfits)
  refine ⟨_, exec_ingressFrame f hserves hhost, ?_⟩
  rw [htry]
  have hup : ((s.crossed f).fetchEnt i).tb.up = s.upAt f.arrival := by
    rw [hfetch.tb, htb, W.at_up, State.at_up]
  exact hup ▸ (acceptFrame_headActive ..).2

theorem ingressFrame_dropped (s : State) (f : C37Frame) (k : Nat) (h : s.w.serves = true ∧ s.bitOf ING_CTRL_enable = true ∧
    s.w.isQuiet = false ∧ s.dev.net.host.any (fun x => !x.forLanes) = false ∧ (W.preCheck f.data = some k ∨
    (W.preCheck f.data = none ∧ tblGet s.dev.ing.map (be f.data 4 2) = none ∧ k = 5))) :
    ∃ u, exec (.ingressFrame f) s = .next u ∧
      u.reg (ING_DROP_CNT_v k) = min (s.reg (ING_DROP_CNT_v k) + 1) (2 ^ 32 - 1) ∧ u.dev.ing.heads = s.dev.ing.heads ∧
      (k = 5 → u.reg ING_UNKNOWN_LAST_idcode = be f.data 4 2) := by
  obtain ⟨hserves, hen, hquiet, hhost, hwhy⟩ := h
  obtain ⟨hquiet', hen', hing, -⟩ := crossed_checks s f hquiet hen
  have hk : k ≤ 5 := hwhy.elim (fun hc => (SameLane.preCheck_le hc).trans (by decide)) fun hc => hc.2.2.le
  have hcount : ((s.crossed f).dropFrame k none).get (ING_DROP_CNT_v k) = min (s.reg (ING_DROP_CNT_v k) + 1) (2 ^ 32 - 1) := by
    rw [dropFrame_get hk, (crossed_sameOff s f (ps := []) (fs := [ING_DROP_CNT_v k]) (by simp) (by simp)
      (by simp [QueueApart]; omega)).get_eq (by simp), State.w_get]
  have hheads : ((s.crossed f).dropFrame k none).ing.heads = s.dev.ing.heads := by
    rw [SameStreams.heads ((SameStreams.dropFrame_iff k none).mpr (.refl _)), hing]
  refine ⟨_, exec_ingressFrame f hserves hhost, ?_⟩
  rcases hwhy with hpre | ⟨hpre, hmap, rfl⟩
  · rw [ingressTry_malformed hquiet' hen' hpre]
    have hle := SameLane.preCheck_le hpre
    exact ⟨hcount, hheads, fun h5 => absurd h5 (by omega)⟩
  · rw [ingressTry_unknown hquiet' hen' hpre (by rw [hing]; exact hmap)]
    have hkept : SameOff (Sparing [.ing] [ING_DROP_CNT_v 5]) ((s.crossed f).dropFrame 5 none)
        ((s.crossed f).dropUnknown (be f.data 4 2)) := by simp [W.dropUnknown]
    refine ⟨(hkept.get_eq (by simp)).trans hcount, ?_, fun _ => ?_⟩
    · exact (congrArg IngState.heads (hkept.parts .ing (by simp))).trans hheads
    · have hev : ∀ v : W, SameOff (Sparing [] [ING_UNKNOWN_LAST_idcode]) v (v.evRec ING_EVENT_unknown (be f.data 4 2)) :=
        fun v => by simp
      exact ((hev _).get_eq (by simp)).trans ((W.get_set_same (by decide) _).trans (Nat.mod_eq_of_lt (be_lt ..)))

/-! ## Silence (R99) -/

/-- A head whose silence time has passed at the scan (R99). -/
abbrev W.silenceDue (w : W) (i : Nat) (h : Head) : Prop :=
  (h.state = 2 ∨ h.state = 3) ∧ h.since + 1000000 * entSilence (w.ent i) ≤ w.tb.up

section
variable {w : W} {i : Nat} {h : Head}

theorem scanHead_due (hd : w.silenceDue i h) : w.scanHead i h =
    (h.chain.foldl (fun w e => w.setEnt e (fun b => patchCnt b 196 1)) (w.setChain i h 4)).evEach ING_EVENT_silent i :=
  if_pos (by simpa using hd)

theorem scanHead_idle (hd : ¬w.silenceDue i h) : w.scanHead i h = w := if_neg (by simpa [W.silenceDue] using hd)

/-- The scan leaves every head that is not due, and with none due the module as it was. -/
theorem scanHeads_idle (l : List (Nat × Head)) (hl : ∀ e ∈ l, ¬w.silenceDue e.1 e.2) :
    l.foldl (fun (w : W) e => w.scanHead e.1 e.2) w = w := by
  induction l with
  | nil => rfl
  | cons e t ih =>
    rw [List.foldl_cons, scanHead_idle (hl e List.mem_cons_self)]
    exact ih fun x hx => hl x (List.mem_cons_of_mem e hx)

/-- A chain's state stored brings ING_SILENT_CNT up to date (R99). -/
theorem setChain_silentCount (w : W) (i : Nat) (h : Head) (st : Nat) : (w.setChain i h st).get ING_SILENT_CNT_count =
    ((w.setChain i h st).ing.heads.filter (fun e => e.2.state == 4)).length % 2 ^ 14 := W.get_set_same (by decide) _

/-- The scan's only head found silent. -/
theorem scanHead_silences (hd : w.silenceDue i h) (hheads : w.ing.heads = [(i, h)]) :
    (w.scanHead i h).ing.heads = [(i, { h with state := 4 })] ∧ (w.scanHead i h).bit ING_EVENT_silent = true ∧
      (w.scanHead i h).get ING_SILENT_CNT_count = 1 := by
  have hset : (w.setHead i { h with state := 4 }).ing.heads = [(i, { h with state := 4 })] := by simp [W.setHead, hheads, tblPut]
  have hchain : (w.setChain i h 4).ing.heads = [(i, { h with state := 4 })] :=
    (SameStreams.setHead_setChain ..).heads.trans hset
  rw [scanHead_due hd]
  refine ⟨?_, W.bit_setB_same (by decide) rfl true, ?_⟩
  · rw [← hchain]
    exact SameStreams.heads (by simp)
  · have hrest : SameOff (Sparing [] [ING_SILENT_CNT_count]) (w.setChain i h 4) ((h.chain.foldl (fun w e => w.setEnt e
        (fun b => patchCnt b 196 1)) (w.setChain i h 4)).evEach ING_EVENT_silent i) := by simp
    rw [hrest.get_eq (by simp), setChain_silentCount, hchain]
    rfl

end

theorem exec_silenceScan (s : State) (t : Nat) : exec (.silenceScan t) s = .next (s.left (if s.w.serves then
    (s.dev.ing.heads.foldl (fun (w : W) e => w.scanHead e.1 e.2) (s.w.at_ t)).alnRefresh else s.w.at_ t)) := by
  show execSilenceScan t s = _
  refine (run_left _ _ _).trans (congrArg (fun v : W => Host.Outcome.next (s.left v)) ?_)
  dsimp only
  rw [W.at_serves, at_ing, State.w_toDev]

theorem alnRefresh_sparing (w : W) {fs : List Fld} (hf : ∀ f ∈ fs, f.addr < 0x40060000) :
    SameOff (Sparing [.ing] fs) w w.alnRefresh := offIngress_sparing (alnRefresh_offIngress_iff.mpr (refl w)) hf

theorem silenceScan_silences (s : State) (t i : Nat) (h : Head) (hyp : s.w.serves = true ∧ (h.state = 2 ∨ h.state = 3) ∧
    h.since + 1000000 * entSilence ((s.w.at_ t).ent i) ≤ s.upAt t ∧ s.dev.ing.heads = [(i, h)]) :
    ∃ u, exec (.silenceScan t) s = .next u ∧ (tblGet u.dev.ing.heads i).map (fun x => x.state) = some 4 ∧
      u.bitOf ING_EVENT_silent = true ∧ u.reg ING_SILENT_CNT_count = 1 := by
  obtain ⟨hserves, hstate, hdue, hheads⟩ := hyp
  have hd : (s.w.at_ t).silenceDue i h := ⟨hstate, by rw [W.at_up]; exact hdue⟩
  obtain ⟨hsilent, hev, hcount⟩ := scanHead_silences hd (by rw [at_ing]; exact hheads)
  have hrest := alnRefresh_sparing ((s.w.at_ t).scanHead i h) (fs := [ING_EVENT_silent, ING_SILENT_CNT_count]) (by simp)
  refine ⟨_, exec_silenceScan s t, ?_⟩
  rw [if_pos hserves, hheads, List.foldl_cons, List.foldl_nil]
  refine ⟨?_, (hrest.bit_eq (by simp)).trans hev, (hrest.get_eq (by simp)).trans hcount⟩
  rw [State.left_dev, show _ = _ from hrest.parts .ing (by simp), hsilent]
  simp [tblGet]

theorem silenceScan_idle (s : State) (t : Nat) (hyp : ∀ e ∈ s.dev.ing.heads, (e.2.state ≠ 2 ∧ e.2.state ≠ 3) ∨
    s.upAt t < e.2.since + 1000000 * entSilence ((s.w.at_ t).ent e.1)) :
    ∃ u, exec (.silenceScan t) s = .next u ∧ u.dev.ing.heads = s.dev.ing.heads := by
  have hidle : ∀ e ∈ s.dev.ing.heads, ¬(s.w.at_ t).silenceDue e.1 e.2 := by
    rintro e he ⟨hstate, hdue⟩
    rw [W.at_up, State.at_up] at hdue
    have := hyp e he
    omega
  have hrest := alnRefresh_sparing (s.w.at_ t) (fs := []) (by simp)
  refine ⟨_, exec_silenceScan s t, ?_⟩
  rw [scanHeads_idle _ hidle, State.left_dev]
  split
  · rw [show _ = _ from hrest.parts .ing (by simp), at_ing, State.w_toDev]
  · rw [at_ing, State.w_toDev]

/-- Settles O17, command by command: a frame by its checks, a segment by its connection, silence by the scan of the heads. -/
theorem ingressStreams : Obligations.IngressStreams :=
  ⟨ingressFrame_accepted, ingressFrame_dropped, tcpSegmentRx_inOrder, tcpSegmentRx_refused, tcpSegmentRx_unattached,
   tcpAckTimer_acks, tcpLaneSegmentTx_sends, silenceScan_silences, silenceScan_idle⟩

end Streams

end Sys2Proof.Machine

/-! # ING_CLEAR where the cache holds an overlong line

An entry that comes into the cache over a full set is read from DRAM after the line that gives way has been written back
(R100). A line of 256 bytes is written into its own entry. Nothing in the statement keeps a cached line to that length: a longer
one is written over the entries behind its own, and the entry read is no longer what DRAM held. -/

namespace Sys2Proof.Machine

section CrowdedCache

open SameOff Spot

/-! ## Reading what was just stored -/

section
variable {w : W} {a i x : Nat} {b : List Byte}

theorem rd8_wr8_other (y : Byte) (h : a ≠ x) : (w.wr8 a y).rd8 x = w.rd8 x := by
  unfold W.rd8 W.wr8
  simp [h]

theorem rd8_wr8_same (y : Byte) (h : inPool a = false) : (w.wr8 a y).rd8 a = y := by
  unfold W.rd8 W.wr8
  simp [h]

theorem rd8_wrBytes_outside (h : x < a) : (w.wrBytes a b).rd8 x = w.rd8 x := by
  induction b generalizing w a with
  | nil => rfl
  | cons y t ih => exact (ih (w := w.wr8 a y) (by omega)).trans (rd8_wr8_other y (by omega))

theorem rd8_wrBytes (hi : i < b.length) (hp : inPool (a + i) = false) : (w.wrBytes a b).rd8 (a + i) = b[i] := by
  induction b generalizing w a i with
  | nil => exact absurd hi (Nat.not_lt_zero i)
  | cons y t ih =>
    cases i with
    | zero => exact (rd8_wrBytes_outside (w := w.wr8 a y) (Nat.lt_succ_self a)).trans (rd8_wr8_same y hp)
    | succ i =>
      rw [show a + (i + 1) = a + 1 + i by omega] at hp ⊢
      exact ih (w := w.wr8 a y) (Nat.lt_of_succ_lt_succ hi) hp

theorem head_rdBytes (w : W) (a n : Nat) : (w.rdBytes a (n + 1)).head? = some (w.rd8 a) := by
  rw [W.rdBytes, upTo, List.range_succ_eq_map, List.map_cons, List.head?_cons, Nat.add_zero]

theorem head_patch (b v : List Byte) {y : Byte} (h : 0 < a) (hb : b.head? = some y) : (patch b a v).head? = some y := by
  obtain ⟨t, rfl⟩ := List.head?_eq_some_iff.mp hb
  obtain ⟨a, rfl⟩ := Nat.exists_eq_succ_of_ne_zero h.ne'
  rfl

end

/-! ## An entry through the cache (R100) -/

section
variable {w : W} {i : Nat}

/-- The line of a set that gives way: the least recently used. -/
def leastUsed (h : Nat × CacheLine) (t : List (Nat × CacheLine)) : Nat :=
  (t.foldl (fun m e => if e.2.used < m.2.used then e else m) h).1

/-- A cached line's change shows the bytes that the entry was fetched with. -/
theorem setEnt_bytes (w : W) (i : Nat) (f : List Byte → List Byte) {b : List Byte} {d : Option Nat} {n : Nat}
    (h : tblGet (w.fetchEnt i).ing.cache i = some ⟨b, d, n⟩) :
    (tblGet (w.setEnt i f).ing.cache i).map (fun l => l.bytes) = some (f b) := by
  unfold W.setEnt
  dsimp only
  rw [h]
  simp [W.setCache]

theorem tally_ing (w : W) (e : Nat) : (w.tally e).ing = w.ing :=
  SameOff.parts (P := Sparing [.ing] []) (p := .ing) (by simp) (by simp)

theorem dropLine_entAddrOf (w : W) (j i : Nat) : (w.dropLine j).entAddrOf i = w.entAddrOf i := by
  have hpat : (w.dropLine j).pat = w.pat := SameOff.parts (P := Sparing [.pat] []) (p := .pat) (by simp) (by simp)
  rw [W.entAddrOf, hpat, W.entAddrOf]

/-- An entry that comes into a full set is read after the line that gives way has been written back. -/
theorem fetchEnt_full {h : Nat × CacheLine} {t : List (Nat × CacheLine)} (hmiss : tblGet w.ing.cache i = none)
    (hways : w.ing.cache.filter (fun e => e.1 % 128 == i % 128) = h :: t) (hfull : 7 ≤ t.length) :
    tblGet (w.fetchEnt i).ing.cache i = some
      ⟨(({ w with ing := { w.ing with uses := w.ing.uses + 1 } } : W).dropLine (leastUsed h t)).rdBytes (w.entAddrOf i) 256, none,
        w.ing.uses + 1⟩ := by
  unfold W.fetchEnt
  dsimp only
  rw [hmiss]
  dsimp only
  rw [hways, if_neg (by simp; omega), tally_ing]
  simp only [W.setCache, W.set_ing, tblGet_tblPut_same]
  rw [dropLine_entAddrOf]
  rfl

/-- What a dirty line leaves in memory as it gives way. -/
theorem dropLine_rd8 {l : CacheLine} {m : Nat} (h : tblGet w.ing.cache i = some l) (hd : l.dirty = some m) (x : Nat) :
    (w.dropLine i).rd8 x = (w.wrBytes (w.entAddrOf i + 192) (l.bytes.drop 192)).rd8 x := by
  simp only [W.dropLine, W.writeBack, h, hd]
  rfl

end

/-! ## The counterexample -/

/-- 32,769 bytes: from its state half on, as much as reaches the first byte of the 128th entry behind. -/
def overlong : List Byte := List.replicate 32769 1

/-- A full set of the cache: entry 0 with an overlong dirty line, and seven lines used since. -/
def crowdedSet : List (Nat × CacheLine) :=
  (0, ⟨overlong, some 0, 0⟩) :: [256, 384, 512, 640, 768, 896, 1024].map (fun i => (i, ⟨[], none, 1⟩))

/-- The module SERVING with 2,048 stream entries at the start of DRAM and that cache. -/
def crowded : State := { State.reset with dev := { Dev.init with
  op := .serving
  pat := { PatState.init with active := { Pattern.factoryPattern with streamEntries := 2048, streamBase := 0x800000000 } }
  ing := ⟨[], crowdedSet, [], [], 0⟩ } }

theorem crowded_lanes : crowded.lanes := by decide +kernel

theorem crowded_idle : crowded.bitOf ING_CMD_STATUS_busy = false := by decide +kernel

/-- The bytes that ING_CLEAR zeroes. -/
abbrev clearEnt (b : List Byte) : List Byte := patch b 196 (List.replicate 60 0)

theorem exec_ingClear {s : State} {i : Nat} (hl : s.lanes) (hi : i < 8192) (hidle : s.bitOf ING_CMD_STATUS_busy = false)
    (hin : i < s.dev.pat.active.streamEntries) :
    exec (.ingClear i) s = .next (s.left (((s.w.ingOp 5 i).setEnt i clearEnt).ingDone 0)) := by
  have hbusy : (s.w.ingOp 5 i).bit ING_CMD_STATUS_busy = false := by
    rw [W.ingOp, W.bit_set_other (by decide), W.bit_set_other (by decide), State.w_bit, hidle]
  show execIngClear i s = _
  unfold execIngClear
  rw [show wfIngClear i = true from decide_eq_true hi, runL_left hl]
  refine congrArg (fun v : W => Host.Outcome.next (s.left v)) ?_
  rw [W.onEntry, W.ingCmd, hbusy]
  exact if_neg (Nat.not_le.mpr hin)

/-- ING_CLEAR zeroes the bytes that the entry was fetched with. -/
theorem ingClear_bytes {s u : State} {i : Nat} {b : List Byte} {d : Option Nat} {n : Nat} (hl : s.lanes) (hi : i < 8192)
    (hidle : s.bitOf ING_CMD_STATUS_busy = false) (hin : i < s.dev.pat.active.streamEntries)
    (hfetch : tblGet ((s.w.ingOp 5 i).fetchEnt i).ing.cache i = some ⟨b, d, n⟩) (hu : exec (.ingClear i) s = .next u) :
    (tblGet u.dev.ing.cache i).map (fun l => l.bytes) = some (clearEnt b) := by
  rw [exec_ingClear hl hi hidle hin] at hu
  obtain rfl := Host.Outcome.next.inj hu
  exact setEnt_bytes _ _ _ hfetch

/-- Entry 128 as it comes into the cache: its first byte is the last of the overlong line. -/
theorem crowded_fetched : ∃ b, tblGet ((crowded.w.ingOp 5 128).fetchEnt 128).ing.cache 128 = some ⟨b, none, 1⟩ ∧
    b.head? = some 1 := by
  refine ⟨_, fetchEnt_full (h := (0, ⟨overlong, some 0, 0⟩)) rfl rfl (by decide), ?_⟩
  rw [head_rdBytes, dropLine_rd8 (l := ⟨overlong, some 0, 0⟩) rfl rfl]
  have hi : 32576 < (overlong.drop 192).length := by
    rw [List.length_drop, overlong, List.length_replicate]
    decide
  exact congrArg some ((rd8_wrBytes (a := 0x8000000C0) hi (by decide)).trans
    (List.eq_of_mem_replicate (List.mem_of_mem_drop (List.getElem_mem _))))

/-- In DRAM nothing has been written. -/
theorem crowded_ent : (crowded.w.ent 128).head? = some 0 := by
  have hread : crowded.w.ent 128 = crowded.w.rdBytes 0x800008000 256 := rfl
  rw [hread, head_rdBytes]
  rfl

/-- Refutes O18: its clause on ING_CLEAR. Entry 0 stands in the cache, dirty and with 32,769 bytes 1; entry 128 comes into the
same, full set. Its first byte, which CLEAR leaves alone, is the last byte of the line written back, 1, where the statement has
the 0 that DRAM held. -/
theorem not_ingressTable : ¬ Obligations.IngressTable := by
  unfold Obligations.IngressTable
  rintro ⟨-, -, -, -, -, -, hclear, -⟩
  obtain ⟨u, hu, hbytes, -, -⟩ := hclear crowded 128 ⟨crowded_lanes, by decide, crowded_idle, by decide⟩
  obtain ⟨b, hfetch, hhead⟩ := crowded_fetched
  rw [ingClear_bytes crowded_lanes (by decide) crowded_idle (by decide) hfetch hu] at hbytes
  have hfirst := congrArg List.head? (Option.some.inj hbytes)
  rw [head_patch _ _ (by decide) hhead, head_patch _ _ (by decide) crowded_ent] at hfirst
  exact absurd hfirst (by decide)

end CrowdedCache

end Sys2Proof.Machine

/-! # What taking in held frames, and closing a set, reach

The general frame lemmas of these operations ask for the whole register file. Here each is stated for the registers it writes, and
for any footprint that allows them. -/

namespace Sys2Proof.Machine

section EngineFrames

open SameOff Spot

variable {P : Spot → Prop} {w v u : W}

/-! ## Frames held at the host port (R23, R105) -/

/-- What the lanes' held frames may change as they move into their queue. -/
@[simp] abbrev MayDrain (P : Spot → Prop) : Prop := MayQueue P ∧ MayTally P ∧ P (part .net)

@[simp ↓] theorem hostDrain_reached_iff (h : MayDrain P) : SameOff P w v.hostDrain ↔ SameOff P w v := by
  have hlanes : ∀ (l : List HostFrame) (x : W), SameOff P x (W.hostLanes l x) := fun l => by
    induction l with
    | nil => exact refl
    | cons f t ih =>
      intro x
      unfold W.hostLanes
      split
      · exact ih x
      · split
        · exact .trans (by simp [h]) (ih _)
        · exact refl x
  exact drop_iff (hlanes _ v)

/-- What stream ingress may change as it judges a frame. -/
@[simp] abbrev MayTakeIn (P : Spot → Prop) : Prop :=
  MayCache P ∧ MayQueue P ∧ MayRecord P ∧ P (fld ING_SILENT_CNT_count) ∧ P (fld ING_RANGE_CNT_v) ∧
    P (fld ING_UNKNOWN_LAST_idcode) ∧ P (fld ING_EVENT_unknown) ∧ P (fld ING_EVENT_resumed) ∧ P (fld ING_EVENT_cfg_change) ∧
    ∀ code : Fin 13, P (fld (ING_DROP_CNT_v code))

@[simp ↓] theorem setChain_reached_iff (h : MayCache P ∧ P (fld ING_SILENT_CNT_count)) (i : Nat) (z : Head) (st : Nat) :
    SameOff P w (v.setChain i z st) ↔ SameOff P w v := by
  unfold W.setChain W.showSilent
  simp [h]

@[simp ↓] theorem dropFrame_reached_iff {code : Nat} (h : MayTakeIn P) (hc : code ≤ 12) (head : Option Nat) :
    SameOff P w (v.dropFrame code head) ↔ SameOff P w v := by
  obtain ⟨hcache, -, -, -, -, -, -, -, -, hcnt⟩ := h
  have hbump : ∀ x : W, SameOff P x (x.bump (ING_DROP_CNT_v code) 1) := fun x =>
    (bump_iff (hcnt ⟨code, Nat.lt_succ_of_le hc⟩) 1).mpr (refl x)
  refine drop_iff ((hbump v).trans ?_)
  unfold W.dropFrame
  split <;> simp [hcache]

@[simp ↓] theorem sendChecked_reached_iff (h : MayQueue P ∧ MayTally P) (cs : List Checked) :
    SameOff P w (v.sendChecked cs) ↔ SameOff P w v := by
  unfold W.sendChecked
  simp [h]

@[simp ↓] theorem acceptFrame_reached_iff (h : MayTakeIn P) (i : Nat) (z h' : Head) (test : Bool) (cs : List Checked)
    (arrival instant : Nat) : SameOff P w (v.acceptFrame i z h' test cs arrival instant) ↔ SameOff P w v := by
  refine drop_iff ?_
  unfold W.acceptFrame
  simp [h]

theorem ingressTry_reached (h : MayTakeIn P) {f : C37Frame} (e : v.ingressTry f = some u) : SameOff P v u := by
  unfold W.ingressTry at e
  dsimp only at e
  repeat' split at e
  all_goals cases e
  any_goals simp [h]
  next hc => exact (dropFrame_reached_iff h ((SameLane.preCheck_le hc).trans (by decide)) none).mpr (refl v)
  next hc =>
    have hle := (congrArg Prod.fst hc).ge.trans (SameLane.histCheck_le ..)
    exact (dropFrame_reached_iff h hle _).mpr (by simp [h])

@[simp ↓] theorem hostRelease_reached_iff (h : MayTakeIn P ∧ P (part .net)) : SameOff P w v.hostRelease ↔ SameOff P w v := by
  have hone : ∀ {f : C37Frame} {x y : W}, x.ingressOne f = some y → SameOff P x y := fun e =>
    (getD_sameOff (fun _ k => cross_sameOff (by simp [h]) k) (refl _)).trans (ingressTry_reached h.1 e)
  have hheld : ∀ (l : List HostFrame) (x : W), SameOff P x (W.ingHeld l x) := fun l => by
    induction l with
    | nil => exact refl
    | cons f t ih =>
      intro x
      unfold W.ingHeld
      split
      · exact ih x
      · split
        next e => exact (hone e).trans (.trans (by simp [h]) (ih _))
        · exact refl x
  exact (drop_iff (hheld _ _)).trans (hostDrain_reached_iff (by simp [h]))

/-! ## A set that closes (R113, R118 to R125) -/

@[simp ↓] theorem putHeader_reached_iff (h : ∀ a, P (byte a)) (addr : Nat) (z : List Byte) :
    SameOff P w (v.putHeader addr z) ↔ SameOff P w v := by
  unfold W.putHeader
  simp [h]

@[simp ↓] theorem notify_reached_iff (h : MaySendNotices P) (b : List Byte) : SameOff P w (v.notify b) ↔ SameOff P w v := by
  refine drop_iff ?_
  unfold W.notify
  split
  · exact refl v
  · simp [h]

@[simp ↓] theorem takeSlot_reached_iff {i : List Byte} (h : P (part .aln) ∧ P (fld (ALN_GRP_WIDX_slot (gNum i)))) :
    SameOff P w (v.takeSlot i).1 ↔ SameOff P w v := by
  unfold W.takeSlot
  simp [h]

/-- What the output streams may change. -/
@[simp] abbrev MayOutputs (P : Spot → Prop) : Prop :=
  MaySendFrom P ∧ P (fld ALN_EVENT_out_oversize) ∧ (∀ n, P (fld (ALN_OUT_FRAMES_v n))) ∧ ∀ n, P (fld (ALN_OUT_OVERSIZE_v n))

@[simp ↓] theorem outputs_reached_iff (h : MayOutputs P) (g : Nat) (s : AlnSet) :
    SameOff P w (v.outputs g s) ↔ SameOff P w v := by
  refine drop_iff ?_
  unfold W.outputs W.outSend
  dsimp only
  split <;> simp [h]

/-- What a set that closes may change. -/
@[simp] abbrev MayCloseSet (P : Spot → Prop) (i : List Byte) : Prop :=
  MayOutputs P ∧ P (part .aln) ∧ (∀ a, P (byte a)) ∧ P (fld (ALN_GRP_WIDX_slot (gNum i))) ∧
    P (fld (ALN_GRP_SEQ_v (gNum i))) ∧ P (fld (ALN_GRP_INCOMPLETE_v (gNum i)))

@[simp ↓] theorem marker_reached_iff {i : List Byte} (h : MayCloseSet P i) : SameOff P w (v.marker i) ↔ SameOff P w v := by
  refine drop_iff ?_
  unfold W.marker
  dsimp only
  split
  · exact .trans (v := (v.takeSlot i).1) (by simp [h]) (by simp [h])
  · exact refl v

@[simp ↓] theorem closeSet_reached_iff {i : List Byte} (h : MayCloseSet P i) (s : AlnSet) (reason : Nat) :
    SameOff P w (v.closeSet i s reason) ↔ SameOff P w v := by
  refine drop_iff ?_
  unfold W.closeSet
  dsimp only
  simp [h]

@[simp ↓] theorem closeAll_reached_iff {i : List Byte} (h : MayCloseSet P i) (reason : Nat) :
    SameOff P w (v.closeAll i reason) ↔ SameOff P w v := by
  unfold W.closeAll
  simp [h]

@[simp ↓] theorem alnRun_reached_iff {i : List Byte} (h : MayCloseSet P i ∧ MayShowGroup P i) :
    SameOff P w (v.alnRun i) ↔ SameOff P w v := by
  refine drop_iff ?_
  unfold W.alnRun
  dsimp only
  simp [h]

end EngineFrames

end Sys2Proof.Machine

/-! # Groups and their sets

What each operation of the alignment engine leaves in the table of groups: a group closes a set by itself, and every other group,
and all that is outside the engine, leaves the table alone. -/

namespace Sys2Proof.Machine

section Groups

open SameOff Spot

/-- The group number of an item is a byte. -/
theorem gNum_lt (i : List Byte) : gNum i < 256 := le_lt i 0 1

/-! ## A group that closes a set -/

namespace AlnGroup

/-- A marker is owed (R120). -/
def marksOwed (x : AlnGroup) : Bool := x.tick || x.step || x.start || x.mode

/-- The group with its next ring slot taken. -/
def slotTaken (x : AlnGroup) (i : List Byte) : AlnGroup :=
  { x with
    written := x.written + 1
    sets := x.sets.filter (fun s => s.isOpen || decide (x.written + 1 ≤ s.pos + max 1 (gDepth i))) }

/-- The group with the marker written that it owes. -/
def marked (x : AlnGroup) (i : List Byte) : AlnGroup :=
  if x.marksOwed then { x.slotTaken i with tick := false, step := false, start := false, mode := false } else x

end AlnGroup

/-- A set closed with a reason. -/
def AlnSet.closed (s : AlnSet) (reason seq : Nat) (gap : Bool) : AlnSet :=
  { s with isOpen := false, reason := reason, seq := seq, gap := gap }

/-- The group with a set closed. -/
def AlnGroup.closed (x : AlnGroup) (s : AlnSet) (reason : Nat) : AlnGroup :=
  { W.putSet x (s.closed reason ((x.seq + 1) % 2 ^ 32) x.gap) with
    seq := (x.seq + 1) % 2 ^ 32
    lastClosed := some (match x.lastClosed with | some l => max l s.instant | none => s.instant)
    gap := false }

/-- What the engine tells of a set that has closed: its header, notice, output frames, counts and interrupt. -/
def W.tellClosed (w : W) (i : List Byte) (s : AlnSet) : W :=
  let addr := w.ringAddr i s.pos
  let w := w.putHeader addr ((setBytes w.pat.active.compact i s w.ns).take 64)
  let w := w.set (ALN_GRP_SEQ_v (gNum i)) s.seq
  let w := if 0 < countStatus s.slots 1 then w.bump (ALN_GRP_INCOMPLETE_v (gNum i)) 1 else w
  let w := (w.notify (noticeBytes 1 (gNum i) s.reason (setFlags w.pat.active.compact i s) s.seq addr)).tally (0x40 + s.reason)
  let w := w.outputs (gNum i) s
  if w.bit (ALN_GRP_CTRL_irq_close (gNum i)) then w.raise (0x1B0 + gNum i) s.seq else w

theorem closeSet_eq (w : W) (i : List Byte) (s : AlnSet) (reason : Nat) : w.closeSet i s reason =
    ((w.marker i).setGroup (gNum i) (((w.marker i).alnGroup i).closed s reason)).tellClosed i
      (s.closed reason ((((w.marker i).alnGroup i).seq + 1) % 2 ^ 32) ((w.marker i).alnGroup i).gap) := rfl

/-! ## The table of groups -/

/-- The groups whose number satisfies `K` stand alike in two working states. -/
structure SameGroups (K : Nat → Prop) (w v : W) : Prop where
  kept : ∀ k, K k → tblGet v.aln.groups k = tblGet w.aln.groups k

namespace SameGroups

variable {K : Nat → Prop} {w v u : W}

@[simp] theorem refl (w : W) : SameGroups K w w := ⟨fun _ _ => rfl⟩
theorem symm (h : SameGroups K w v) : SameGroups K v w := ⟨fun k hk => (h.kept k hk).symm⟩
theorem trans (h : SameGroups K w v) (k : SameGroups K v u) : SameGroups K w u :=
  ⟨fun g hg => (k.kept g hg).trans (h.kept g hg)⟩

theorem drop_iff (h : SameGroups K v u) : SameGroups K w u ↔ SameGroups K w v :=
  ⟨fun k => k.trans h.symm, fun k => k.trans h⟩

theorem foldl {α : Type} {f : W → α → W} (h : ∀ (x : W) (e : α), SameGroups K x (f x e)) (l : List α) (w : W) :
    SameGroups K w (l.foldl f w) := by
  induction l generalizing w with
  | nil => exact refl w
  | cons e t ih => exact (h w e).trans (ih (f w e))

@[simp] theorem ite_iff {c : Prop} [Decidable c] :
    SameGroups K w (if c then v else u) ↔ (c → SameGroups K w v) ∧ (¬c → SameGroups K w u) := by
  split <;> simp [*]

theorem of_sameOff (h : SameOff (Sparing [.aln] []) w v) : SameGroups K w v :=
  ⟨fun k _ => by rw [show v.aln = w.aln from h.parts .aln (by simp)]⟩

theorem sameOff_iff (h : SameOff (Sparing [.aln] []) v u) : SameGroups K w u ↔ SameGroups K w v := drop_iff (of_sameOff h)

theorem alnGroup (h : SameGroups K w v) {i : List Byte} (hi : K (gNum i)) : v.alnGroup i = w.alnGroup i := by
  rw [W.alnGroup, h.kept _ hi, W.alnGroup]

/-! What is outside the engine. -/

@[simp] theorem set_iff (f : Fld) (n : Nat) : SameGroups K w (v.set f n) ↔ SameGroups K w v := sameOff_iff (by simp)
@[simp] theorem bump_iff (f : Fld) (n : Nat) : SameGroups K w (v.bump f n) ↔ SameGroups K w v := sameOff_iff (by simp)
@[simp] theorem ev_iff (f : Fld) (n : Nat) : SameGroups K w (v.ev f n) ↔ SameGroups K w v := sameOff_iff (by simp)
@[simp] theorem raise_iff (n p : Nat) : SameGroups K w (v.raise n p) ↔ SameGroups K w v := sameOff_iff (by simp)
@[simp] theorem tally_iff (e : Nat) : SameGroups K w (v.tally e) ↔ SameGroups K w v := sameOff_iff (by simp)
@[simp] theorem wr8_iff (a : Nat) (b : Byte) : SameGroups K w (v.wr8 a b) ↔ SameGroups K w v := sameOff_iff (by simp)
@[simp] theorem wrBytes_iff (a : Nat) (b : List Byte) : SameGroups K w (v.wrBytes a b) ↔ SameGroups K w v :=
  sameOff_iff (by simp)
@[simp] theorem push_iff (p c : Nat) (y : QUnit) : SameGroups K w (v.push p c y) ↔ SameGroups K w v := sameOff_iff (by simp)

/-! What the engine does beside its groups. -/

@[simp] theorem putHeader_iff (addr : Nat) (z : List Byte) : SameGroups K w (v.putHeader addr z) ↔ SameGroups K w v :=
  sameOff_iff (by simp)
@[simp] theorem putMembers_iff (i : List Byte) (s : AlnSet) : SameGroups K w (v.putMembers i s) ↔ SameGroups K w v :=
  sameOff_iff (by simp)
@[simp] theorem outputs_iff (g : Nat) (s : AlnSet) : SameGroups K w (v.outputs g s) ↔ SameGroups K w v := sameOff_iff (by simp)
@[simp] theorem showGroup_iff (i : List Byte) : SameGroups K w (v.showGroup i) ↔ SameGroups K w v := sameOff_iff (by simp)

/-- The notices that wait are no part of the groups. -/
@[simp] theorem with_notices_iff (l : List (List Byte)) :
    SameGroups K w { v with aln := { v.aln with notices := l } } ↔ SameGroups K w v := drop_iff ⟨fun _ _ => rfl⟩

@[simp] theorem sendNotices_iff (n : Nat) : SameGroups K w (W.sendNotices n v) ↔ SameGroups K w v := by
  refine drop_iff ?_
  induction n generalizing v with
  | zero => exact refl v
  | succ n ih =>
    unfold W.sendNotices
    split
    · exact refl v
    · split
      · exact .trans (by simp) ih
      · exact refl v

@[simp] theorem notify_iff (b : List Byte) : SameGroups K w (v.notify b) ↔ SameGroups K w v := by
  refine drop_iff ?_
  unfold W.notify
  split
  · exact refl v
  · simp

@[simp] theorem tellClosed_iff (i : List Byte) (s : AlnSet) : SameGroups K w (v.tellClosed i s) ↔ SameGroups K w v := by
  refine drop_iff ?_
  unfold W.tellClosed
  simp

/-! What the engine does to one group. -/

theorem setGroup {g : Nat} (h : ¬K g) (w : W) (x : AlnGroup) : SameGroups K w (w.setGroup g x) :=
  ⟨fun _ hk => tblGet_tblPut_other x _ fun e => h (e ▸ hk)⟩

theorem setGroup_iff {g : Nat} (h : ¬K g) (x : AlnGroup) : SameGroups K w (v.setGroup g x) ↔ SameGroups K w v :=
  drop_iff (setGroup h v x)

section
variable {i : List Byte} (h : ¬K (gNum i))
include h

theorem takeSlot_iff : SameGroups K w (v.takeSlot i).1 ↔ SameGroups K w v := by
  unfold W.takeSlot
  simp [setGroup_iff h]

theorem marker_iff : SameGroups K w (v.marker i) ↔ SameGroups K w v := by
  refine drop_iff ?_
  unfold W.marker
  dsimp only
  split
  · exact .trans (v := (v.takeSlot i).1) (by simp [takeSlot_iff h]) (by simp [setGroup_iff h])
  · exact refl v

theorem closeSet (s : AlnSet) (reason : Nat) (w : W) : SameGroups K w (w.closeSet i s reason) := by
  rw [closeSet_eq, tellClosed_iff, setGroup_iff h, marker_iff h]
  exact refl w

theorem closeAll (reason : Nat) (w : W) : SameGroups K w (w.closeAll i reason) :=
  foldl (fun x s => closeSet h s reason x) _ _

theorem alnRun (w : W) : SameGroups K w (w.alnRun i) := by
  have hclose : SameGroups K w (w.closeAll i 3) := closeAll h 3 w
  unfold W.alnRun
  dsimp only
  simp [setGroup_iff h, hclose]

end

end SameGroups

theorem setGroup_alnGroup (w : W) {g : Nat} {i : List Byte} (hg : gNum i = g) (x : AlnGroup) :
    (w.setGroup g x).alnGroup i = x := by
  rw [W.alnGroup, hg, W.setGroup, tblGet_tblPut_same, Option.getD_some]

/-! ## The group itself -/

section
variable (w : W) (i : List Byte)

theorem takeSlot_group : (w.takeSlot i).1.alnGroup i = (w.alnGroup i).slotTaken i := by
  have hrest : SameGroups (fun _ => True) (w.setGroup (gNum i) ((w.alnGroup i).slotTaken i)) (w.takeSlot i).1 :=
    (SameGroups.set_iff _ _).mpr (.refl _)
  rw [hrest.alnGroup trivial, setGroup_alnGroup w rfl]

theorem marker_group : (w.marker i).alnGroup i = (w.alnGroup i).marked i := by
  unfold W.marker AlnGroup.marked AlnGroup.marksOwed
  dsimp only
  split
  · have hslot : ∀ (addr : Nat) (z : List Byte), ((((w.takeSlot i).1.wr8 addr 0).putHeader addr z)).alnGroup i =
        (w.alnGroup i).slotTaken i := fun addr z => by
      rw [SameGroups.alnGroup (K := fun _ => True) (w := (w.takeSlot i).1) (by simp) trivial, takeSlot_group]
    rw [SameGroups.alnGroup (K := fun _ => True) ((SameGroups.tally_iff _).mpr ((SameGroups.notify_iff _).mpr (.refl _)))
      trivial, setGroup_alnGroup _ rfl, hslot]
  · rfl

theorem closeSet_group (s : AlnSet) (reason : Nat) :
    (w.closeSet i s reason).alnGroup i = ((w.alnGroup i).marked i).closed s reason := by
  rw [closeSet_eq, SameGroups.alnGroup (K := fun _ => True) ((SameGroups.tellClosed_iff i _).mpr (.refl _)) trivial,
    setGroup_alnGroup _ rfl, marker_group]

end

end Groups

end Sys2Proof.Machine

/-! # A set that stays while others close -/

namespace Sys2Proof.Machine

section Staying

/-- The group keeps a set of the instant `t`, and what it keeps of that instant satisfies `φ`. A set that has closed can only leave
the ring with a slot taken for a marker, so it stays once no marker is owed. -/
structure AlnGroup.Holds (φ : AlnSet → Prop) (t : Nat) (x : AlnGroup) : Prop where
  all : ∀ s ∈ x.sets, s.instant = t → φ s
  kept : ∃ s ∈ x.sets, s.instant = t ∧ (s.isOpen = true ∨ x.marksOwed = false)

/-- A closed set of the property has it still. -/
def ClosesWith (φ : AlnSet → Prop) : Prop :=
  ∀ (s : AlnSet) (reason seq : Nat) (gap : Bool), s.isOpen = true → φ s → φ (s.closed reason seq gap)

section
variable {x : AlnGroup} {s z : AlnSet} {i : List Byte} {φ : AlnSet → Prop} {t reason : Nat}

theorem AlnGroup.marked_unowed (x : AlnGroup) (i : List Byte) : (x.marked i).marksOwed = false := by
  unfold marked
  split
  · rfl
  next h => exact Bool.eq_false_iff.mpr h

theorem AlnGroup.mem_of_mem_marked (h : s ∈ (x.marked i).sets) : s ∈ x.sets := by
  unfold marked at h
  split at h
  · exact List.mem_of_mem_filter h
  · exact h

theorem AlnGroup.mem_marked (h : s ∈ x.sets) (hs : s.isOpen = true ∨ x.marksOwed = false) : s ∈ (x.marked i).sets := by
  unfold marked
  split
  next hm => exact List.mem_filter.mpr ⟨h, by simp [hs.resolve_right (by simp [hm])]⟩
  next => exact h

theorem mem_putSet : z ∈ (W.putSet x s).sets ↔
    (z = s ∧ ∃ y ∈ x.sets, y.instant = s.instant) ∨ (z ∈ x.sets ∧ z.instant ≠ s.instant) := by
  rw [show (W.putSet x s).sets = x.sets.map _ from rfl, List.mem_map]
  constructor
  · rintro ⟨y, hy, rfl⟩
    split
    next h => exact .inl ⟨rfl, y, hy, h⟩
    next h => exact .inr ⟨hy, h⟩
  · rintro (⟨rfl, y, hy, h⟩ | ⟨hz, h⟩)
    · exact ⟨y, hy, if_pos h⟩
    · exact ⟨z, hz, if_neg h⟩

theorem mem_closed : z ∈ (x.closed s reason).sets ↔
    (z = s.closed reason ((x.seq + 1) % 2 ^ 32) x.gap ∧ ∃ y ∈ x.sets, y.instant = s.instant) ∨
      (z ∈ x.sets ∧ z.instant ≠ s.instant) := mem_putSet

/-- A group that holds a set holds it after closing one, be it this or another. -/
theorem AlnGroup.Holds.closed (hφ : ClosesWith φ) (h : x.Holds φ t) (hs : s ∈ x.sets) (hopen : s.isOpen = true) :
    ((x.marked i).closed s reason).Holds φ t where
  all z hz ht := by
    obtain ⟨rfl, -⟩ | ⟨hz, -⟩ := mem_closed.mp hz
    · exact hφ s _ _ _ hopen (h.all s hs ht)
    · exact h.all z (mem_of_mem_marked hz) ht
  kept := by
    obtain ⟨y, hy, ht, hstays⟩ := h.kept
    have hy' := mem_marked (i := i) hy hstays
    by_cases hsame : y.instant = s.instant
    · exact ⟨_, mem_closed.mpr (.inl ⟨rfl, y, hy', hsame⟩), hsame.symm.trans ht, .inr (marked_unowed x i)⟩
    · exact ⟨y, mem_closed.mpr (.inr ⟨hy', hsame⟩), ht, .inr (marked_unowed x i)⟩

/-- The set that closes is held, closed and with its reason. -/
theorem AlnGroup.closed_holds (hs : s ∈ x.sets) (hopen : s.isOpen = true) :
    ((x.marked i).closed s reason).Holds (fun z => z.isOpen = false ∧ z.reason = reason) s.instant where
  all z hz ht := by
    obtain ⟨rfl, -⟩ | ⟨-, hother⟩ := mem_closed.mp hz
    · exact ⟨rfl, rfl⟩
    · exact absurd ht hother
  kept := ⟨_, mem_closed.mpr (.inl ⟨rfl, s, mem_marked hs (.inl hopen), rfl⟩), rfl, .inr (marked_unowed x i)⟩

theorem AlnGroup.Holds.any (h : x.Holds φ t) {p : AlnSet → Bool} (hp : ∀ z, φ z → p z = true) :
    x.sets.any (fun z => z.instant == t && p z) = true := by
  obtain ⟨s, hs, ht, -⟩ := h.kept
  exact List.any_eq_true.mpr ⟨s, hs, by simp [ht, hp s (h.all s hs ht)]⟩

end

/-- A set that a group holds, it holds while the sets that are due close. -/
theorem closeReady_holds {φ : AlnSet → Prop} (hφ : ClosesWith φ) {i : List Byte} {t : Nat} (n : Nat) {w : W}
    (h : (w.alnGroup i).Holds φ t) : ((W.closeReady i n w).alnGroup i).Holds φ t := by
  induction n generalizing w with
  | zero => exact h
  | succ n ih =>
    have hclose : ∀ {s : AlnSet} {r : Nat}, (w.alnGroup i).sets.find? (·.isOpen) = some s →
        ((W.closeReady i n (w.closeSet i s r)).alnGroup i).Holds φ t := fun {s r} hs => ih <| by
      rw [closeSet_group]
      exact h.closed hφ (List.mem_of_find?_eq_some hs) (List.find?_some hs)
    unfold W.closeReady
    dsimp only
    split
    · exact h
    next s hs =>
      split_ifs
      · exact h
      · exact hclose hs
      · exact hclose hs
      · exact h

theorem closeDue_holds {φ : AlnSet → Prop} (hφ : ClosesWith φ) {i : List Byte} {t : Nat} {w : W}
    (h : (w.alnGroup i).Holds φ t) : ((w.closeDue i).alnGroup i).Holds φ t := closeReady_holds hφ _ h

/-- The first open set of a group, expired and with no earlier instant still to open, closes with reason 2. -/
theorem closeDue_expires {w : W} {i : List Byte} {s : AlnSet} (hfirst : (w.alnGroup i).sets.find? (·.isOpen) = some s)
    (howed : w.owed i (w.alnGroup i) s.instant = false) (hexp : s.expired = true) :
    ((w.closeDue i).alnGroup i).Holds (fun z => z.isOpen = false ∧ z.reason = 2) s.instant := by
  have hmem := List.mem_of_find?_eq_some hfirst
  obtain ⟨n, hn⟩ : ∃ n, (w.alnGroup i).sets.length = n + 1 := Nat.exists_eq_succ_of_ne_zero (List.length_pos_of_mem hmem).ne'
  unfold W.closeDue
  rw [hn]
  unfold W.closeReady
  simp only [hfirst, howed, hexp, if_true, Bool.false_eq_true, if_false]
  refine closeReady_holds (fun z _ _ _ hopen hz => absurd hz.1 (by simp [hopen])) n ?_
  rw [closeSet_group]
  exact AlnGroup.closed_holds hmem (List.find?_some hfirst)

end Staying

end Sys2Proof.Machine

/-! # Commands on the sets of a group (R112 to R117) -/

namespace Sys2Proof.Machine

section Sets

open SameOff Spot

/-! ## What the counter carried forward leaves of the engine -/

section
variable (w : W) (t : Nat)

theorem at_aln : (w.at_ t).aln = w.aln := w.at_part t (p := .aln) (by decide)

theorem at_alnGroup (i : List Byte) : (w.at_ t).alnGroup i = w.alnGroup i := by rw [W.alnGroup, at_aln, W.alnGroup]

theorem at_alnItem (g : Nat) : (w.at_ t).alnItem g = w.alnItem g := by
  rw [W.alnItem, W.alnItems, W.at_pat, W.alnItem, W.alnItems]

theorem at_loom : (w.at_ t).loom = w.loom := by rw [W.loom, W.at_serves, W.at_bit _ _ (by decide), W.loom]

theorem at_alnWindow (i : List Byte) (x : AlnGroup) : (w.at_ t).alnWindow i x = w.alnWindow i x := by
  rw [W.alnWindow, W.at_get _ _ (.inl (by have := gNum_lt i; dsimp only; omega)), W.alnWindow]

end

theorem State.left_alnGroup (s : State) (w : W) (i : List Byte) : (s.left w).w.alnGroup i = w.alnGroup i := rfl

theorem alnItem_num {w : W} {g : Nat} {i : List Byte} (h : w.alnItem g = some i) : gNum i = g := by
  simpa using List.find?_some h

/-! ## Opening (R112) -/

section
variable {w : W} {i : List Byte} {t : Nat}

/-- The next slot taken for a set that opens, and too many members reported. -/
def W.opening (w : W) (i : List Byte) : W :=
  ((if decide (gMembers i < (w.membersOf (gNum i)).length) then w.ev ALN_EVENT_over_members 0 else w).takeSlot i).1

theorem opening_group (w : W) (i : List Byte) : (w.opening i).alnGroup i = (w.alnGroup i).slotTaken i := by
  unfold W.opening
  rw [takeSlot_group, SameGroups.alnGroup (K := fun _ => True) (w := w) (by simp) trivial]

theorem opening_window (w : W) (i : List Byte) :
    (w.opening i).alnWindow i ((w.opening i).alnGroup i) = w.alnWindow i (w.alnGroup i) := by
  have hkeep : SameOff (Sparing [] [ALN_GRP_WIN_window_ms (gNum i)]) w (w.opening i) := by
    have hev : SameOff (Sparing [] [ALN_GRP_WIN_window_ms (gNum i)]) w (w.ev ALN_EVENT_over_members 0) :=
      (ev_iff (by simp) (by simp; omega) 0).mpr (refl w)
    unfold W.opening
    split
    · exact (takeSlot_reached_iff (by simp)).mpr hev
    · exact (takeSlot_reached_iff (by simp)).mpr (refl w)
  rw [W.alnWindow, hkeep.get_eq List.mem_cons_self, opening_group]
  rfl

theorem openSet_eq (h : w.membersOf (gNum i) ≠ []) (t : Nat) : ∃ (s : AlnSet) (a : Nat), s.instant = t ∧ s.isOpen = true ∧
    s.window = (w.opening i).alnWindow i ((w.opening i).alnGroup i) ∧
    w.openSet i t = (((w.opening i).setGroup (gNum i) { (w.opening i).alnGroup i with
      sets := W.insertSet s ((w.opening i).alnGroup i).sets }).wr8 a 0).putMembers i s :=
  ⟨_, _, rfl, rfl, rfl, if_neg (by simpa using h)⟩

theorem mem_insertSet {s z : AlnSet} {l : List AlnSet} : z ∈ W.insertSet s l ↔ z = s ∨ z ∈ l := by
  induction l with
  | nil => simp [W.insertSet]
  | cons y l ih =>
    unfold W.insertSet
    split
    · exact List.mem_cons
    · rw [List.mem_cons, ih, List.mem_cons, or_left_comm]

/-- The set of an instant that had none opens with the window in force. -/
theorem openSet_holds (hms : w.membersOf (gNum i) ≠ []) (hnone : (w.alnGroup i).sets.any (fun y => y.instant == t) = false) :
    ((w.openSet i t).alnGroup i).Holds (fun z => z.window = w.alnWindow i (w.alnGroup i)) t := by
  obtain ⟨s, a, hs, hopen, hwin, heq⟩ := openSet_eq hms t
  have hgroup : (w.openSet i t).alnGroup i =
      { (w.alnGroup i).slotTaken i with sets := W.insertSet s ((w.alnGroup i).slotTaken i).sets } := by
    rw [heq, SameGroups.alnGroup (K := fun _ => True) ((SameGroups.putMembers_iff _ _).mpr ((SameGroups.wr8_iff _ _).mpr
      (.refl _))) trivial, setGroup_alnGroup _ rfl, opening_group]
  rw [hgroup]
  refine ⟨fun z hz ht => ?_, s, mem_insertSet.mpr (.inl rfl), hs, .inl hopen⟩
  obtain rfl | hz := mem_insertSet.mp hz
  · rw [hwin, opening_window]
  · exact absurd ht (by simpa using List.any_eq_false.mp hnone z (List.mem_of_mem_filter hz))

end

theorem setOpen_opens (s : State) (g inst : Nat) (i : List Byte) (h : g < 64 ∧ s.w.loom = true ∧ s.w.alnItem g = some i ∧
    (s.w.alnGroup i).running = true ∧ (s.w.alnGroup i).known ≠ [] ∧ (s.w.at_ inst).membersOf (gNum i) ≠ [] ∧
    isInstant (gRate i) inst = true ∧ inst ≤ s.nsAt inst ∧ (s.w.alnGroup i).runFrom ≤ inst ∧
    ((s.w.alnGroup i).lastClosed.all (fun l => decide (l < inst))) = true ∧
    (s.w.alnGroup i).sets.any (fun y => y.instant == inst) = false) :
    ∃ u, exec (.setOpen g inst) s = .next u ∧
      (u.w.alnGroup i).sets.any (fun x => x.instant == inst && x.window == s.w.alnWindow i (s.w.alnGroup i)) = true := by
  obtain ⟨hg, hloom, hitem, hrun, hknown, hms, hgrid, hns, hfrom, hlast, hnone⟩ := h
  have hexec : exec (.setOpen g inst) s = .next (s.left (((s.w.at_ inst).openSet i inst).closeDue i)) := by
    show execSetOpen g inst s = _
    unfold execSetOpen
    rw [show wfSetOpen g = true from decide_eq_true hg]
    refine (run_left _ _ _).trans (congrArg (fun v : W => Host.Outcome.next (s.left v)) ?_)
    simp only [at_alnItem, hitem, at_alnGroup, at_loom, at_nsAt, hloom, hgrid, hnone]
    refine if_pos ?_
    cases hl : (s.w.alnGroup i).lastClosed with
    | none => simp [W.opens, hrun, hknown, hns, hfrom]
    | some l =>
      have hlt : l < inst := by simpa [hl] using hlast
      simp [W.opens, hrun, hknown, hns, hfrom, hlt]
  refine ⟨_, hexec, ?_⟩
  have hopen := openSet_holds hms (by rw [at_alnGroup]; exact hnone)
  rw [at_alnGroup, at_alnWindow] at hopen
  rw [State.left_alnGroup]
  exact (closeDue_holds (fun _ _ _ _ _ hz => hz) hopen).any fun _ hz => beq_iff_eq.mpr hz

theorem setOpen_idle (s : State) (g inst : Nat) (i : List Byte) (h : g < 64 ∧ s.w.alnItem g = some i ∧
    (isInstant (gRate i) inst = false ∨ ((s.w.alnGroup i).lastClosed.any (fun l => decide (inst ≤ l))) = true ∨
      (s.w.alnGroup i).sets.any (fun y => y.instant == inst) = true)) :
    ∃ u, exec (.setOpen g inst) s = .next u ∧ u.dev.aln = s.dev.aln := by
  obtain ⟨hg, hitem, hwhy⟩ := h
  have hexec : exec (.setOpen g inst) s = .next (s.left (s.w.at_ inst)) := by
    show execSetOpen g inst s = _
    unfold execSetOpen
    rw [show wfSetOpen g = true from decide_eq_true hg]
    refine (run_left _ _ _).trans (congrArg (fun v : W => Host.Outcome.next (s.left v)) ?_)
    simp only [at_alnItem, hitem, at_alnGroup]
    refine if_neg ?_
    rcases hwhy with hgrid | hlast | hset
    · simp [hgrid]
    · cases hl : (s.w.alnGroup i).lastClosed with
      | none => simp [hl] at hlast
      | some l => simp_all
    · rw [hset]
      simp
  exact ⟨_, hexec, by rw [State.left_dev, at_aln, State.w_toDev]⟩

/-! ## Expiry (R113, R114) -/

/-- A set whose window has run out: expired where a member is missing. -/
def AlnSet.ranOut (y : AlnSet) : AlnSet := { y with expired := y.expired || decide (0 < countStatus y.slots 1) }

theorem exec_setExpire {s : State} {g inst t : Nat} {i : List Byte} {y : AlnSet} (hg : g < 64) (hitem : s.w.alnItem g = some i)
    (hy : (s.w.alnGroup i).sets.find? (fun y => y.instant == inst && y.isOpen) = some y) : exec (.setExpire g inst t) s =
      .next (s.left (if s.w.loom && decide (y.instant + 1000000 * y.window ≤ s.nsAt t) then
        ((s.w.at_ t).setGroup g (W.putSet (s.w.alnGroup i) y.ranOut)).closeDue i else s.w.at_ t)) := by
  show execSetExpire g inst t s = _
  unfold execSetExpire
  rw [show wfSetExpire g = true from decide_eq_true hg]
  refine (run_left _ _ _).trans (congrArg (fun v : W => Host.Outcome.next (s.left v)) ?_)
  simp only [at_alnItem, hitem, at_alnGroup, hy, at_loom, at_nsAt]
  rfl

section
variable {x : AlnGroup} {y z : AlnSet}

/-- A set put in the place of the first open one is the first open one. -/
theorem find_isOpen_putSet (h : x.sets.find? (·.isOpen) = some y) (ht : z.instant = y.instant) (hz : z.isOpen = true) :
    (W.putSet x z).sets.find? (·.isOpen) = some z := by
  show (x.sets.map (fun y => if y.instant = z.instant then z else y)).find? (·.isOpen) = some z
  generalize x.sets = sets at h
  induction sets with
  | nil => cases h
  | cons a l ih =>
    by_cases ha : a.instant = z.instant
    · rw [List.map_cons, if_pos ha, List.find?_cons_of_pos hz]
    · have hclosed : ¬a.isOpen = true := fun hopen => by
        rw [List.find?_cons_of_pos hopen] at h
        exact ha (Option.some.inj h ▸ ht.symm)
      rw [List.find?_cons_of_neg hclosed] at h
      rw [List.map_cons, if_neg ha, List.find?_cons_of_neg hclosed, ih h]

/-- What a set in place of one of its instant holds is no matter for the instants that have still to open. -/
theorem owed_putSet (w : W) (i : List Byte) (t : Nat) : w.owed i (W.putSet x z) t = w.owed i x t := by
  have hsame : ∀ u, (W.putSet x z).sets.any (fun s => s.instant == u) = x.sets.any (fun s => s.instant == u) := fun u => by
    refine List.any_map.trans (congrArg (fun f => x.sets.any f) (funext fun a => ?_))
    dsimp only [Function.comp]
    split
    next h => rw [h]
    next => rfl
  unfold W.owed
  simp only [hsame]
  rfl

/-- A group that had a set of an instant holds the one put in its place. -/
theorem putSet_holds {φ : AlnSet → Prop} (hy : y ∈ x.sets) (ht : y.instant = z.instant) (hz : φ z)
    (hstays : z.isOpen = true ∨ x.marksOwed = false) : (W.putSet x z).Holds φ z.instant where
  all a ha hat := by
    obtain ⟨rfl, -⟩ | ⟨-, hother⟩ := mem_putSet.mp ha
    · exact hz
    · exact absurd hat hother
  kept := ⟨z, mem_putSet.mpr (.inl ⟨rfl, y, hy, ht⟩), rfl, hstays⟩

end

theorem setExpire_expires (s : State) (g inst t : Nat) (i : List Byte) (y : AlnSet) (h : g < 64 ∧ s.w.loom = true ∧
    s.w.alnItem g = some i ∧ (s.w.alnGroup i).sets.find? (fun y => y.instant == inst && y.isOpen) = some y ∧
    y.instant + 1000000 * y.window ≤ s.nsAt t ∧ 0 < countStatus y.slots 1) :
    ∃ u, exec (.setExpire g inst t) s = .next u ∧
      (u.w.alnGroup i).sets.any (fun x => x.instant == inst && x.expired) = true ∧
      ((s.w.alnGroup i).sets.find? (fun y => y.isOpen) = some y ∧ (s.w.at_ t).owed i (s.w.alnGroup i) inst = false →
        (u.w.alnGroup i).sets.any (fun x => x.instant == inst && !x.isOpen && x.reason == 2) = true) := by
  obtain ⟨hg, hloom, hitem, hy, hdue, hmiss⟩ := h
  have hexec := exec_setExpire (t := t) hg hitem hy
  rw [if_pos (by simp [hloom, hdue])] at hexec
  obtain ⟨rfl, hopen⟩ : y.instant = inst ∧ y.isOpen = true := by simpa using List.find?_some hy
  have hgroup := setGroup_alnGroup (s.w.at_ t) (alnItem_num hitem) (W.putSet (s.w.alnGroup i) y.ranOut)
  have hexp : y.ranOut.expired = true := by simp [AlnSet.ranOut, hmiss]
  have hholds : (W.putSet (s.w.alnGroup i) y.ranOut).Holds (fun z => z.expired = true) y.instant :=
    putSet_holds (z := y.ranOut) (List.mem_of_find?_eq_some hy) rfl hexp (.inl hopen)
  refine ⟨_, hexec, ?_, fun ⟨hfirst, howed⟩ => ?_⟩
  · rw [State.left_alnGroup]
    exact (closeDue_holds (fun _ _ _ _ _ hz => hz) (hgroup.symm ▸ hholds)).any fun _ hz => hz
  · have hclosed := closeDue_expires (s := y.ranOut) (by rw [hgroup]; exact find_isOpen_putSet hfirst rfl hopen)
      (by rw [hgroup, owed_putSet]; exact howed) hexp
    simp only [State.left_alnGroup, Bool.and_assoc]
    exact hclosed.any fun z hz => by simp [hz]

theorem setExpire_waits (s : State) (g inst t : Nat) (i : List Byte) (y : AlnSet) (h : g < 64 ∧ s.w.alnItem g = some i ∧
    (s.w.alnGroup i).sets.find? (fun y => y.instant == inst && y.isOpen) = some y ∧
    s.nsAt t < y.instant + 1000000 * y.window) : ∃ u, exec (.setExpire g inst t) s = .next u ∧ u.dev.aln = s.dev.aln := by
  obtain ⟨hg, hitem, hy, hearly⟩ := h
  have hexec := exec_setExpire (t := t) hg hitem hy
  rw [if_neg (by simp [hearly])] at hexec
  exact ⟨_, hexec, by rw [State.left_dev, at_aln, State.w_toDev]⟩

/-! ## The latency sample (R117) -/

/-- The group with a set's sample taken. -/
def AlnGroup.sampled (x : AlnGroup) (i : List Byte) (y : AlnSet) : AlnGroup :=
  let l := (W.latencyOf i y :: x.samples).take 4096
  let u := W.binOf l (ceilDiv (999 * l.length) 1000) 2000 0 + 1 + gMargin i
  W.putSet { x with samples := l, window := min (max u (gMin i)) (gMax i) } { y with sampled := true }

theorem takeSample_group (w : W) (i : List Byte) (y : AlnSet) : (w.takeSample i y).alnGroup i = (w.alnGroup i).sampled i y := by
  have hrest : SameGroups (fun _ => True) (w.setGroup (gNum i) ((w.alnGroup i).sampled i y)) (w.takeSample i y) := by
    unfold W.takeSample
    simp [AlnGroup.sampled]
  rw [hrest.alnGroup trivial, setGroup_alnGroup w rfl]

theorem latencySample_samples (s : State) (g inst t : Nat) (i : List Byte) (y : AlnSet) (h : g < 64 ∧ s.w.loom = true ∧
    s.w.alnItem g = some i ∧ gAdaptive i = true ∧
    (s.w.alnGroup i).sets.find? (fun y => y.instant == inst && !y.sampled) = some y ∧
    y.instant + 1000000 * gMax i ≤ s.nsAt t) : ∃ u, exec (.latencySample g inst t) s = .next u ∧
    (u.w.alnGroup i).sets.any (fun x => x.instant == inst && x.sampled) = true ∧
    (u.w.alnGroup i).samples = (W.latencyOf i y :: (s.w.alnGroup i).samples).take 4096 ∧ (u.w.alnGroup i).window ≤ gMax i := by
  obtain ⟨hg, hloom, hitem, hadapt, hy, hdue⟩ := h
  have hexec : exec (.latencySample g inst t) s = .next (s.left ((s.w.at_ t).takeSample i y)) := by
    show execLatencySample g inst t s = _
    unfold execLatencySample
    rw [show wfLatencySample g = true from decide_eq_true hg]
    refine (run_left _ _ _).trans (congrArg (fun v : W => Host.Outcome.next (s.left v)) ?_)
    simp only [at_alnItem, hitem, at_alnGroup, hy, at_loom, at_nsAt]
    exact if_pos (by simp [hloom, hadapt, hdue])
  have hgroup : (s.left ((s.w.at_ t).takeSample i y)).w.alnGroup i = (s.w.alnGroup i).sampled i y := by
    rw [State.left_alnGroup, takeSample_group, at_alnGroup]
  refine ⟨_, hexec, ?_⟩
  rw [hgroup]
  refine ⟨List.any_eq_true.mpr ⟨{ y with sampled := true }, ?_, ?_⟩, rfl, Nat.min_le_right ..⟩
  · exact mem_putSet.mpr (.inl ⟨rfl, y, List.mem_of_find?_eq_some hy, rfl⟩)
  · have hfound := List.find?_some hy
    simp_all

end Sets

end Sys2Proof.Machine

/-! # Placing a record (R115) -/

namespace Sys2Proof.Machine

section Placing

open SameOff Spot

/-! ## The head record taken -/

/-- The head of a path to the engine taken, and what waited for its room moved on. -/
def W.takeHead (w : W) (src : Nat) : W := (w.popQ src 0x06).smpFlush.hostRelease

section
variable {ps : List Part} {fs : List Fld} {g t : Nat} {w v : W}

/-- Frames taken in stay away from the registers of the engine's block. -/
theorem takeIn_spared (hp : ∀ p ∈ [.ing, .irq, .net, .prf, .que, .scr], p ∉ ps)
    (hf : ∀ f ∈ fs, 0x40060000 ≤ f.addr ∧ f.addr < 0x40120000) : MayTakeIn (Sparing ps fs) ∧ Sparing ps fs (part .net) := by
  simp only [List.mem_cons, List.not_mem_nil, or_false, forall_eq_or_imp, forall_eq] at hp
  obtain ⟨hing, hirq, hnet, hprf, hque, hscr⟩ := hp
  obtain ⟨hqueue, htally⟩ := queueApart_spared ⟨hirq, hprf, hque⟩ fun f hm => .inl (hf f hm).2
  have hapart : ∀ a lo width, a < 0x40060000 ∨ 0x40120000 ≤ a → Sparing ps fs (fld ⟨a, lo, width⟩) := fun a lo width ha f hm => by
    have := hf f hm
    exact .inl (by dsimp only; omega)
  exact ⟨⟨⟨hing, htally, hapart _ _ _ (by decide), fun _ => trivial⟩, hqueue,
    ⟨hscr, hirq, hapart _ _ _ (by decide), hapart _ _ _ (by decide)⟩, hapart _ _ _ (by decide), hapart _ _ _ (by decide),
    hapart _ _ _ (by decide), hapart _ _ _ (by decide), hapart _ _ _ (by decide), hapart _ _ _ (by decide),
    fun code => hapart _ _ _ (by have := code.isLt; omega)⟩, hnet⟩

theorem takeHead_sameOff (hp : ∀ p ∈ [.smp, .ing, .irq, .net, .prf, .que, .scr], p ∉ ps)
    (hf : ∀ f ∈ fs, 0x40060000 ≤ f.addr ∧ f.addr < 0x40120000) (w : W) (src : Nat) :
    SameOff (Sparing ps fs) w (w.takeHead src) := by
  have htake := takeIn_spared (fun p hm => hp p (List.mem_cons_of_mem _ hm)) hf
  have hqueue : MayQueue (Sparing ps fs) := htake.1.2.1
  have htally : MayTally (Sparing ps fs) := htake.1.1.2.1
  have hsmp : .smp ∉ ps := hp .smp (by simp)
  unfold W.takeHead
  exact (hostRelease_reached_iff htake).mpr ((smpFlush_iff ⟨hqueue, htally, hsmp⟩).mpr ((popQ_iff hqueue src 6).mpr (refl w)))

end

/-- The working state that a record taken at the instant `t` is placed in. -/
def State.placing (s : State) (loc : Bool) (t : Nat) : W := (s.w.at_ t).takeHead (if loc then 9 else 5)

section
variable (s : State) (loc : Bool) (t : Nat)

theorem placing_sameOff {ps : List Part} {fs : List Fld} (hp : ∀ p ∈ [.tb, .smp, .ing, .irq, .net, .prf, .que, .scr], p ∉ ps)
    (hf : ∀ f ∈ fs, 0x40060000 ≤ f.addr ∧ f.addr < 0x40120000) : SameOff (Sparing ps fs) s.w (s.placing loc t) := by
  have hat : SameOff (Sparing ps fs) s.w (s.w.at_ t) :=
    s.w.at_sameOff t (fun f hm => .inl (Nat.ne_of_gt ((hf f hm).2.trans (by decide))))
      ⟨hp .tb (by simp), hp .irq (by simp), hp .prf (by simp)⟩
  exact hat.trans (takeHead_sameOff (fun p hm => hp p (List.mem_cons_of_mem _ hm)) hf _ _)

theorem placing_aln : (s.placing loc t).aln = s.w.aln :=
  (placing_sameOff s loc t (ps := [.aln]) (fs := []) (by simp) (by simp)).parts .aln (by simp)

theorem placing_pat : (s.placing loc t).pat = s.w.pat :=
  (placing_sameOff s loc t (ps := [.pat]) (fs := []) (by simp) (by simp)).parts .pat (by simp)

theorem placing_ns : (s.placing loc t).ns = s.nsAt t := by
  have hsame : SameOff (Sparing [.tb] []) (s.w.at_ t) (s.placing loc t) := takeHead_sameOff (by simp) (by simp) _ _
  have htb : (s.placing loc t).tb = (s.w.at_ t).tb := hsame.parts .tb (by simp)
  rw [W.ns, htb, ← at_nsAt, W.ns]

theorem placing_alnGroup (i : List Byte) : (s.placing loc t).alnGroup i = s.w.alnGroup i := by
  rw [W.alnGroup, placing_aln, W.alnGroup]

theorem placing_alnItem (g : Nat) : (s.placing loc t).alnItem g = s.w.alnItem g := by
  rw [W.alnItem, W.alnItems, placing_pat, W.alnItem, W.alnItems]

theorem placing_get {f : Fld} (hf : 0x40060000 ≤ f.addr ∧ f.addr < 0x40120000) : (s.placing loc t).get f = s.reg f := 
  (placing_sameOff s loc t (ps := []) (fs := [f]) (by simp) (by simpa using hf)).get_eq (by simp)

end

theorem exec_recordPlace {s : State} {loc : Bool} (t : Nat) {q : QUnit} {c : Checked} (hloom : s.w.loom = true)
    (hhead : s.w.headOf (if loc then 9 else 5) 6 = some q) (hbody : q.body = .checked c) (hwhole : q.aborted = false) :
    exec (.recordPlace loc t) s = .next (s.left ((s.placing loc t).place c)) := by
  have hhead' : (s.w.at_ t).headOf (if loc then 9 else 5) 6 = some q := by
    rw [W.headOf, W.at_pat, ← hhead, W.headOf]
    simp only [W.qState, at_que]
  show execRecordPlace loc t s = _
  refine (run_left _ _ _).trans (congrArg (fun v : W => Host.Outcome.next (s.left v)) ?_)
  simp only [at_loom, hloom, hhead', hbody, hwhole, Bool.not_true, Bool.false_eq_true, if_false]
  rw [State.placing, W.takeHead]

/-! ## The record's group and slot -/

/-- The group a record belongs to, and the entry whose slot it fills (R110). -/
abbrev W.groupOf (w : W) (c : Checked) : Nat := if c.isLocal then w.get ALN_LOCAL_CFG_group else c.group
abbrev slotEntry (c : Checked) : Nat := if c.isLocal then W.localEntry else c.entry

section
variable {w : W} {c : Checked} {i : List Byte} {s : AlnSet}

/-- The record's group opens sets. -/
structure Places (w : W) (c : Checked) (i : List Byte) : Prop where
  item : w.alnItem (w.groupOf c) = some i
  running : (w.alnGroup i).running = true
  known : (w.alnGroup i).known ≠ []

theorem place_offGrid (h : Places w c i) (hgrid : isInstant (gRate i) c.instant = false) :
    w.place c = w.bump (ALN_GRP_STRAY_v (w.groupOf c)) 1 := by
  unfold W.place
  simp [h.item, W.opens, h.running, h.known, hgrid]

variable (h : Places w c i) (hset : (w.alnGroup i).sets.find? (fun y => y.instant == c.instant) = some s)
include h hset

theorem place_noMember (hslot : (s.slots.map (fun z => z.entry)).contains (slotEntry c) = false) :
    w.place c = w.bump (ALN_GRP_STRAY_v (w.groupOf c)) 1 := by
  unfold W.place
  simp only [h.item, hset]
  refine (if_neg (by simp [W.opens, h.running, h.known])).trans (if_pos ?_)
  rw [hslot]
  simp

variable (hgrid : isInstant (gRate i) c.instant = true)
  (hslot : (s.slots.map (fun z => z.entry)).contains (slotEntry c) = true)
include hgrid hslot

theorem place_early (hearly : w.ns + 50000000 < c.instant) :
    w.place c = (w.bump (ALN_GRP_EARLY_v (w.groupOf c)) 1).ev ALN_EVENT_early 0 := by
  unfold W.place
  simp only [h.item, hset]
  exact (if_neg (by simp [W.opens, h.running, h.known])).trans ((if_neg (by rw [hgrid, hslot]; simp)).trans (if_pos hearly))

theorem place_inTime (htime : c.instant ≤ w.ns + 50000000) : w.place c =
    if (s.slots.find? (fun y => y.entry == slotEntry c)).map (·.status) = some 0 then
      w.bump (ALN_GRP_DUP_v (w.groupOf c)) 1
    else if s.isOpen then
      (if (s.slots.find? (fun y => y.entry == slotEntry c)).map (·.status) = some 3 then w else w.fillSlot i c (slotEntry c))
    else (w.lateArrival i c (slotEntry c)).lateForward i c (slotEntry c) (some s.seq) := by
  unfold W.place
  simp only [h.item, hset]
  exact (if_neg (by simp [W.opens, h.running, h.known])).trans ((if_neg (by rw [hgrid, hslot]; simp)).trans
    (if_neg (Nat.not_lt.mpr htime)))

end

section
variable {w : W} {c : Checked} {i : List Byte} {s : AlnSet} {e : Nat}

/-- A slot with a record in it. -/
def AlnSlot.filled (y : AlnSlot) (c : Checked) : AlnSlot := { y with status := 0, value := some c }

/-- Before the sets that are due close, the group has the record in its member's slot. -/
theorem fillSlot_eq (hset : (w.alnGroup i).sets.find? (fun y => y.instant == c.instant) = some s) (hneed : c.need ≤ gWidth i) :
    ∃ v : W, v.alnGroup i = W.onSlot (w.alnGroup i) c.instant e (fun y => y.filled c) ∧ w.fillSlot i c e = v.closeDue i := by
  unfold W.fillSlot
  simp only [hset, if_neg (Nat.not_lt.mpr hneed)]
  refine ⟨_, ?_, rfl⟩
  rw [SameGroups.alnGroup (K := fun _ => True) (w := w.setGroup (gNum i)
    (W.onSlot (w.alnGroup i) c.instant e (fun y => y.filled c))) ?_ trivial, setGroup_alnGroup _ rfl]
  rw [SameGroups.tally_iff]
  split <;> simp [AlnSlot.filled]

/-- The record placed stands in its slot, whether or not its set has closed with it. -/
theorem fillSlot_fills (hsets : (w.alnGroup i).sets = [s]) (ht : s.instant = c.instant) (hopen : s.isOpen = true)
    (hslot : s.slots.any (fun z => z.entry == e) = true) (hneed : c.need ≤ gWidth i) :
    ((w.fillSlot i c e).alnGroup i).Holds
      (fun x => x.slots.any (fun z => z.entry == e && z.status == 0 && z.value == some c) = true) c.instant := by
  obtain ⟨v, hv, hfill⟩ := fillSlot_eq (s := s) (e := e) (w := w) (by rw [hsets]; simp [ht]) hneed
  rw [hfill]
  refine closeDue_holds (fun _ _ _ _ _ hz => hz) ?_
  obtain ⟨z, hz, hze⟩ := List.any_eq_true.mp hslot
  have hfilled : (s.slots.map (fun y => if y.entry = e then y.filled c else y)).any
      (fun z => z.entry == e && z.status == 0 && z.value == some c) = true :=
    List.any_eq_true.mpr ⟨z.filled c, List.mem_map.mpr ⟨z, hz, if_pos (beq_iff_eq.mp hze)⟩, by simp_all [AlnSlot.filled]⟩
  have hmem : ∀ x, x ∈ (v.alnGroup i).sets ↔
      x = { s with slots := s.slots.map (fun y => if y.entry = e then y.filled c else y) } := by
    rw [hv, W.onSlot, hsets]
    simp [ht]
  exact ⟨fun x hx _ => (hmem x).mp hx ▸ hfilled, _, (hmem _).mpr rfl, ht, .inl hopen⟩

end

theorem contains_entry (l : List AlnSlot) (e : Nat) :
    (l.map (fun z => z.entry)).contains e = l.any (fun z => z.entry == e) := by
  rw [List.contains_eq_any_beq, List.any_map]
  exact congrArg l.any (funext fun z => BEq.comm)

/-- Where every slot of an entry has one status, so has the first. -/
theorem find_status {l : List AlnSlot} {e n : Nat} (hslot : l.any (fun z => z.entry == e) = true)
    (hall : l.all (fun z => z.entry != e || z.status == n) = true) :
    (l.find? (fun z => z.entry == e)).map (·.status) = some n := by
  obtain ⟨z, hz⟩ := Option.isSome_iff_exists.mp (List.find?_isSome.mpr (List.any_eq_true.mp hslot))
  have hentry : z.entry = e := by simpa using List.find?_some hz
  have hstatus := List.all_eq_true.mp hall z (List.mem_of_find?_eq_some hz)
  rw [hz, Option.map_some]
  simpa [hentry] using hstatus

/-! ## RECORD_PLACE -/

section
variable {s : State} {loc : Bool} {t : Nat} {c : Checked} {i : List Byte} {e g : Nat}

theorem placing_groupOf (hg : (if c.isLocal then s.reg ALN_LOCAL_CFG_group else c.group) = g) :
    (s.placing loc t).groupOf c = g := by
  rw [W.groupOf, placing_get _ _ _ (by decide), hg]

theorem placing_places (hg : (if c.isLocal then s.reg ALN_LOCAL_CFG_group else c.group) = g) (hitem : s.w.alnItem g = some i)
    (hrun : (s.w.alnGroup i).running = true) (hknown : (s.w.alnGroup i).known ≠ []) : Places (s.placing loc t) c i where
  item := by rw [placing_groupOf hg, placing_alnItem, hitem]
  running := by rw [placing_alnGroup, hrun]
  known := by rw [placing_alnGroup]; exact hknown

/-- A counter of a group raised in the state the record is placed in. -/
theorem placing_counts {f : Fld} (h32 : f.lo + f.width ≤ 32) (hf : 0x40060000 ≤ f.addr ∧ f.addr < 0x40120000) :
    ((s.placing loc t).bump f 1).get f = min (s.reg f + 1) (2 ^ f.width - 1) := by
  rw [bump_get h32, placing_get _ _ _ hf]

end

theorem recordPlace_places (s : State) (loc : Bool) (t : Nat) (q : QUnit) (c : Checked) (i : List Byte) (y : AlnSet)
    (e g : Nat) (h : s.w.loom = true ∧ s.w.headOf (if loc then 9 else 5) 6 = some q ∧ q.body = .checked c ∧
    q.aborted = false ∧ (if c.isLocal then s.reg ALN_LOCAL_CFG_group else c.group) = g ∧
    (if c.isLocal then W.localEntry else c.entry) = e ∧ s.w.alnItem g = some i ∧ (s.w.alnGroup i).running = true ∧
    (s.w.alnGroup i).known ≠ [] ∧ (s.w.alnGroup i).sets = [y] ∧ y.instant = c.instant ∧ y.isOpen = true ∧
    isInstant (gRate i) c.instant = true ∧ y.slots.any (fun z => z.entry == e) = true ∧
    y.slots.all (fun z => z.entry != e || z.status == 1) = true ∧ c.instant ≤ s.nsAt t + 50000000 ∧ c.need ≤ gWidth i) :
    ∃ u, exec (.recordPlace loc t) s = .next u ∧ (u.w.alnGroup i).sets.any (fun x => x.instant == c.instant &&
      x.slots.any (fun z => z.entry == e && z.status == 0 && z.value == some c)) = true := by
  obtain ⟨hloom, hhead, hbody, hwhole, hg, rfl, hitem, hrun, hknown, hsets, hy, hopen, hgrid, hslot, hmiss, htime, hneed⟩ := h
  have hsets' : ((s.placing loc t).alnGroup i).sets = [y] := by rw [placing_alnGroup, hsets]
  have hset : ((s.placing loc t).alnGroup i).sets.find? (fun y => y.instant == c.instant) = some y := by
    rw [hsets']
    simp [hy]
  have hplace : (s.placing loc t).place c = (s.placing loc t).fillSlot i c (slotEntry c) := by
    rw [place_inTime (placing_places hg hitem hrun hknown) hset hgrid ((contains_entry ..).trans hslot)
      (by rw [placing_ns]; exact htime), find_status hslot hmiss, if_neg (by decide), if_pos hopen, if_neg (by decide)]
  refine ⟨_, exec_recordPlace t hloom hhead hbody hwhole, ?_⟩
  rw [hplace, State.left_alnGroup]
  exact (fillSlot_fills hsets' hy hopen hslot hneed).any fun _ hz => hz

theorem recordPlace_strays (s : State) (loc : Bool) (t : Nat) (q : QUnit) (c : Checked) (i : List Byte) (e g : Nat)
    (h : s.w.loom = true ∧ s.w.headOf (if loc then 9 else 5) 6 = some q ∧ q.body = .checked c ∧ q.aborted = false ∧
    (if c.isLocal then s.reg ALN_LOCAL_CFG_group else c.group) = g ∧ (if c.isLocal then W.localEntry else c.entry) = e ∧
    s.w.alnItem g = some i ∧ (s.w.alnGroup i).running = true ∧ (s.w.alnGroup i).known ≠ [] ∧
    (isInstant (gRate i) c.instant = false ∨ ((s.w.alnGroup i).sets.any (fun y => y.instant == c.instant) = true ∧
      (s.w.alnGroup i).sets.all (fun y => y.instant != c.instant || !(y.slots.map (fun z => z.entry)).contains e) = true))) :
    ∃ u, exec (.recordPlace loc t) s = .next u ∧
      u.reg (ALN_GRP_STRAY_v g) = min (s.reg (ALN_GRP_STRAY_v g) + 1) (2 ^ (ALN_GRP_STRAY_v g).width - 1) := by
  obtain ⟨hloom, hhead, hbody, hwhole, hg, rfl, hitem, hrun, hknown, hwhy⟩ := h
  have hplaces := placing_places (loc := loc) (t := t) hg hitem hrun hknown
  have hplace : (s.placing loc t).place c = (s.placing loc t).bump (ALN_GRP_STRAY_v g) 1 := by
    rw [← placing_groupOf (loc := loc) (t := t) hg]
    rcases hwhy with hgrid | ⟨hany, hall⟩
    · exact place_offGrid hplaces hgrid
    · obtain ⟨y, hy⟩ := Option.isSome_iff_exists.mp (List.find?_isSome.mpr (List.any_eq_true.mp hany))
      have hinstant := List.find?_some hy
      have hout := List.all_eq_true.mp hall y (List.mem_of_find?_eq_some hy)
      exact place_noMember hplaces (by rw [placing_alnGroup]; exact hy) (by simp_all)
  refine ⟨_, exec_recordPlace t hloom hhead hbody hwhole, ?_⟩
  have hlt := alnItem_num hitem ▸ gNum_lt i
  rw [hplace, State.left_reg, placing_counts (f := ALN_GRP_STRAY_v g) (Nat.le_refl 32) (by dsimp only; omega)]

theorem recordPlace_refuses (s : State) (loc : Bool) (t : Nat) (q : QUnit) (c : Checked) (i : List Byte) (y : AlnSet)
    (e g : Nat) (h : s.w.loom = true ∧ s.w.headOf (if loc then 9 else 5) 6 = some q ∧ q.body = .checked c ∧
    q.aborted = false ∧ (if c.isLocal then s.reg ALN_LOCAL_CFG_group else c.group) = g ∧
    (if c.isLocal then W.localEntry else c.entry) = e ∧ s.w.alnItem g = some i ∧ (s.w.alnGroup i).running = true ∧
    (s.w.alnGroup i).known ≠ [] ∧ (s.w.alnGroup i).sets = [y] ∧ y.instant = c.instant ∧
    isInstant (gRate i) c.instant = true ∧ (y.slots.map (fun z => z.entry)).contains e = true ∧
    (s.nsAt t + 50000000 < c.instant ∨ y.slots.all (fun z => z.entry != e || z.status == 0) = true)) :
    ∃ u, exec (.recordPlace loc t) s = .next u ∧ if s.nsAt t + 50000000 < c.instant then
      u.reg (ALN_GRP_EARLY_v g) = min (s.reg (ALN_GRP_EARLY_v g) + 1) (2 ^ (ALN_GRP_EARLY_v g).width - 1) ∧
        u.bitOf ALN_EVENT_early = true
      else u.reg (ALN_GRP_DUP_v g) = min (s.reg (ALN_GRP_DUP_v g) + 1) (2 ^ (ALN_GRP_DUP_v g).width - 1) := by
  obtain ⟨hloom, hhead, hbody, hwhole, hg, rfl, hitem, hrun, hknown, hsets, hy, hgrid, hslot, hwhy⟩ := h
  have hlt := alnItem_num hitem ▸ gNum_lt i
  have hplaces := placing_places (loc := loc) (t := t) hg hitem hrun hknown
  have hgroup := placing_groupOf (loc := loc) (t := t) hg
  have hset : ((s.placing loc t).alnGroup i).sets.find? (fun y => y.instant == c.instant) = some y := by
    rw [placing_alnGroup, hsets]
    simp [hy]
  refine ⟨_, exec_recordPlace t hloom hhead hbody hwhole, ?_⟩
  split
  next hearly =>
    rw [place_early hplaces hset hgrid hslot (by rw [placing_ns]; exact hearly), hgroup]
    refine ⟨?_, W.bit_ev_same (by decide) rfl 0⟩
    have hev : ∀ v : W, SameOff (Sparing [] [ALN_GRP_EARLY_v g]) v (v.ev ALN_EVENT_early 0) := fun v =>
      (ev_iff (by simp) (by simp; omega) 0).mpr (refl v)
    rw [State.left_reg, (hev _).get_eq (by simp), placing_counts (f := ALN_GRP_EARLY_v g) (Nat.le_refl 32) (by dsimp only; omega)]
  next htime =>
    have hstatus := find_status ((contains_entry ..).symm.trans hslot) (hwhy.resolve_left htime)
    rw [place_inTime hplaces hset hgrid hslot (by rw [placing_ns]; exact Nat.le_of_not_lt htime), if_pos hstatus, hgroup,
      State.left_reg, placing_counts (f := ALN_GRP_DUP_v g) (Nat.le_refl 32) (by dsimp only; omega)]

end Placing

end Sys2Proof.Machine

/-! # Groups that run or stop (R112, R113, R125) -/

namespace Sys2Proof.Machine

section Running

open SameOff Spot

/-! ## Whether a group runs -/

/-- ALN_CTRL, the group's run bit and the standby let it run. -/
def W.wanted (w : W) (g : Nat) : Bool := w.bit ALN_CTRL_enable && w.bit (ALN_GRP_CTRL_run g) && !w.isQuiet

section
variable {w v : W} {i j : List Byte}

/-- Every register that a closing set writes lies at offset 8 or more of its 0x40 bytes. -/
theorem closeSet_spared {ps : List Part} {fs : List Fld} (hp : ∀ p ∈ [.aln, .irq, .net, .prf, .que], p ∉ ps)
    (hf : ∀ f ∈ fs, f.addr % 0x40 < 8) (i : List Byte) : MayCloseSet (Sparing ps fs) i := by
  obtain ⟨hqueue, htally⟩ := queueApart_spared ⟨hp .irq (by simp), hp .prf (by simp), hp .que (by simp)⟩
    fun f hm => .inr (hf f hm)
  have hapart : ∀ a lo width, 8 ≤ a % 0x40 → Sparing ps fs (fld ⟨a, lo, width⟩) := fun a lo width ha f hm => by
    have := hf f hm
    exact .inl (by dsimp only; omega)
  exact ⟨⟨⟨hqueue, htally, hp .net (by simp)⟩, hapart _ _ _ (by decide), fun n => hapart _ _ _ (by omega),
    fun n => hapart _ _ _ (by omega)⟩, hp .aln (by simp), fun _ => trivial, hapart _ _ _ (by omega), hapart _ _ _ (by omega),
    hapart _ _ _ (by omega)⟩

/-- A register apart from those that a closing set writes and from the status of every group. -/
def RunApart (f : Fld) : Prop := f.addr % 0x40 < 8 ∧ (f.addr % 0x40 ≠ 4 ∨ 0x40065004 ≤ f.addr)

theorem alnRun_sameOff {fs : List Fld} (hf : ∀ f ∈ fs, RunApart f) (w : W) (i : List Byte) :
    SameOff (Sparing [] fs) w (w.alnRun i) := by
  have hi := gNum_lt i
  have hstatus : ∀ lo width, Sparing [] fs (fld ⟨0x40061004 + 0x40 * gNum i, lo, width⟩) := fun lo width f hm => by
    have := (hf f hm).2
    exact .inl (by dsimp only; omega)
  exact (alnRun_reached_iff ⟨closeSet_spared (by simp) (fun f hm => (hf f hm).1) i, hstatus _ _, hstatus _ _, hstatus _ _,
    hstatus _ _⟩).mpr (refl w)

/-- ALN_CTRL and the control register of any group. -/
theorem alnRun_get (w : W) (i : List Byte) {f : Fld} (hf : f.addr % 0x40 = 0) : (w.alnRun i).get f = w.get f :=
  (alnRun_sameOff (fs := [f]) (by simp [RunApart, hf]) w i).get_eq (by simp)

theorem alnRun_bit (w : W) (i : List Byte) {f : Fld} (hf : f.addr % 0x40 = 0) : (w.alnRun i).bit f = w.bit f :=
  (alnRun_sameOff (fs := [f]) (by simp [RunApart, hf]) w i).bit_eq (by simp)

theorem alnRun_wanted (w : W) (i : List Byte) (g : Nat) : (w.alnRun i).wanted g = w.wanted g := by
  rw [W.wanted, alnRun_bit _ _ (by decide), alnRun_bit _ _ (by dsimp only; omega),
    isQuiet_congr (alnRun_sameOff (by simp [RunApart]) w i), W.wanted]

/-- The group runs or stops as its registers want it. -/
theorem alnRun_running (w : W) (i : List Byte) : ((w.alnRun i).alnGroup i).running = w.wanted (gNum i) := by
  unfold W.alnRun
  rw [SameGroups.alnGroup (K := fun _ => True) ((SameGroups.showGroup_iff i).mpr (.refl _)) trivial]
  show (W.alnGroup (if w.wanted (gNum i) && !(w.alnGroup i).running then _
    else if !w.wanted (gNum i) && (w.alnGroup i).running then _ else w) i).running = _
  cases w.wanted (gNum i) with
  | true => cases hrun : (w.alnGroup i).running <;> simp [setGroup_alnGroup, hrun]
  | false => cases hrun : (w.alnGroup i).running <;> simp [setGroup_alnGroup, hrun]

theorem alnGroup_running_congr (w : W) (h : gNum i = gNum j) : (w.alnGroup i).running = (w.alnGroup j).running := by
  rw [W.alnGroup, W.alnGroup, h]
  cases tblGet w.aln.groups (gNum j) <;> rfl

/-- After one group has started or stopped, it and every group that stood as wanted stand as wanted. -/
theorem alnRun_keepsWanted (h : gNum j = gNum i ∨ (w.alnGroup j).running = w.wanted (gNum j)) :
    ((w.alnRun i).alnGroup j).running = (w.alnRun i).wanted (gNum j) := by
  rw [alnRun_wanted]
  by_cases hij : gNum j = gNum i
  · rw [alnGroup_running_congr _ hij, alnRun_running, hij]
  · rw [(SameGroups.alnRun (K := fun k => k ≠ gNum i) (by simp) w).alnGroup hij, h.resolve_left hij]

theorem alnRuns_running (l : List (List Byte)) (h : j ∈ l ∨ (w.alnGroup j).running = w.wanted (gNum j)) :
    ((l.foldl (fun w i => w.alnRun i) w).alnGroup j).running = w.wanted (gNum j) := by
  induction l generalizing w with
  | nil => exact h.resolve_left List.not_mem_nil
  | cons i l ih =>
    rw [List.foldl_cons, ← alnRun_wanted w i]
    refine ih ?_
    by_cases hj : j ∈ l
    · exact .inl hj
    · refine .inr (alnRun_keepsWanted (h.imp (fun hm => ?_) id))
      rw [(List.mem_cons.mp hm).resolve_right hj]

theorem alnRuns_enable (l : List (List Byte)) (w : W) :
    (l.foldl (fun w i => w.alnRun i) w).get ALN_CTRL_enable = w.get ALN_CTRL_enable := by
  induction l generalizing w with
  | nil => rfl
  | cons i l ih => rw [List.foldl_cons, ih, alnRun_get _ _ (by decide)]

end

/-! ## ALN_CTRL and ALN_GRP_CTRL -/

theorem dirty_get (w : W) {f : Fld} (hf : 0x40020000 ≤ f.addr) : w.dirty.get f = w.get f := (dirty_sameOff w hf).get_eq (by simp)
theorem dirty_bit (w : W) {f : Fld} (hf : 0x40020000 ≤ f.addr) : w.dirty.bit f = w.bit f := (dirty_sameOff w hf).bit_eq (by simp)

/-- ALN_CTRL.enable written. -/
def W.enabled (w : W) (v : W32) : W := (w.set ALN_CTRL_enable v.toNat).dirty

/-- The bits of ALN_GRP_CTRL written. -/
def W.grpCtrl (w : W) (g : Nat) (v : W32) : W :=
  (((w.set (ALN_GRP_CTRL_run g) v.toNat).set (ALN_GRP_CTRL_irq_close g) (v.toNat / 2)).set
    (ALN_GRP_CTRL_late_fwd g) (v.toNat / 4)).dirty

section
variable (w : W) (g : Nat) (v : W32)

theorem enabled_get : (w.enabled v).get ALN_CTRL_enable = v.toNat % 2 := by
  rw [W.enabled, dirty_get _ (by decide), W.get_set_same (by decide)]
  rfl

theorem isQuiet_set {f : Fld} (hf : f.addr < 0x40170000) (n : Nat) : (w.set f n).isQuiet = w.isQuiet := by
  rw [W.isQuiet, W.isStandby, W.get_set_other (.inl (by dsimp only; omega)), W.bit_set_other (.inl (by dsimp only; omega)),
    W.isQuiet, W.isStandby]

theorem isQuiet_dirty : w.dirty.isQuiet = w.isQuiet := by
  rw [W.isQuiet, W.isStandby, dirty_get _ (by decide), dirty_bit _ (by decide), W.isQuiet, W.isStandby]

theorem bit_of_get {f : Fld} {n : Nat} (h : w.get f = n % 2) : w.bit f = decide (n % 2 = 1) := by
  rw [Bool.eq_iff_iff, W.bit_eq_true, h, decide_eq_true_eq]
  omega

theorem enabled_wanted : (w.enabled v).wanted g =
    (decide (v.toNat % 2 = 1) && w.bit (ALN_GRP_CTRL_run g) && !w.isQuiet) := by
  have hrun : (w.enabled v).bit (ALN_GRP_CTRL_run g) = w.bit (ALN_GRP_CTRL_run g) := by
    rw [W.enabled, dirty_bit _ (by dsimp only; omega), W.bit_set_other (.inl (by dsimp only; omega))]
  have hquiet : (w.enabled v).isQuiet = w.isQuiet := (isQuiet_dirty _).trans (isQuiet_set w (by decide) _)
  rw [W.wanted, bit_of_get _ (enabled_get w v), hrun, hquiet]

theorem grpCtrl_run : (w.grpCtrl g v).get (ALN_GRP_CTRL_run g) = v.toNat % 2 := by
  rw [W.grpCtrl, dirty_get _ (by dsimp only; omega), W.get_set_other (by simp), W.get_set_other (by simp),
    W.get_set_same (by simp)]
  rfl

theorem grpCtrl_irqClose : (w.grpCtrl g v).get (ALN_GRP_CTRL_irq_close g) = v.toNat / 2 % 2 := by
  rw [W.grpCtrl, dirty_get _ (by dsimp only; omega), W.get_set_other (by simp), W.get_set_same (by simp)]
  rfl

theorem grpCtrl_lateFwd : (w.grpCtrl g v).get (ALN_GRP_CTRL_late_fwd g) = v.toNat / 4 % 2 := by
  rw [W.grpCtrl, dirty_get _ (by dsimp only; omega), W.get_set_same (by simp)]
  rfl

theorem grpCtrl_wanted (hg : g < 64) : (w.grpCtrl g v).wanted g =
    (w.bit ALN_CTRL_enable && decide (v.toNat % 2 = 1) && !w.isQuiet) := by
  have hptn : 0x40061000 + 0x40 * g < 0x40170000 := by omega
  have henable : (w.grpCtrl g v).bit ALN_CTRL_enable = w.bit ALN_CTRL_enable := by
    have hother : ∀ lo width, Fld.Apart ⟨0x40061000 + 0x40 * g, lo, width⟩ ALN_CTRL_enable := fun _ _ =>
      .inl (by dsimp only; omega)
    rw [W.grpCtrl, dirty_bit _ (by decide), W.bit_set_other (hother ..), W.bit_set_other (hother ..),
      W.bit_set_other (hother ..)]
  have hquiet : (w.grpCtrl g v).isQuiet = w.isQuiet := by
    rw [W.grpCtrl, isQuiet_dirty, isQuiet_set _ hptn, isQuiet_set _ hptn, isQuiet_set _ hptn]
  rw [W.wanted, henable, bit_of_get _ (grpCtrl_run w g v), hquiet]

end

theorem alnCtrlWrite_runs (s : State) (v : W32) (h : s.lanes ∧ s.w.alnOn = true) :
    ∃ u, exec (.alnCtrlWrite v) s = .next u ∧ u.reg ALN_CTRL_enable = v.toNat % 2 ∧
      ∀ i ∈ s.w.alnItems, (u.w.alnGroup i).running =
        (decide (v.toNat % 2 = 1) && s.bitOf (ALN_GRP_CTRL_run (gNum i)) && !s.w.isQuiet) := by
  obtain ⟨hl, hon⟩ := h
  have hexec : exec (.alnCtrlWrite v) s = .next (s.left (s.w.alnItems.foldl (fun w i => w.alnRun i) (s.w.enabled v))) := by
    have hpat : (s.w.enabled v).pat = s.w.pat :=
      SameOff.parts (P := Sparing [.pat] []) (p := .pat) (by simp [W.enabled]) (by simp)
    show execAlnCtrlWrite v s = _
    unfold execAlnCtrlWrite
    rw [runL_left hl, if_pos hon, ← W.enabled, W.alnRunAll, W.alnItems, hpat, ← W.alnItems]
  refine ⟨_, hexec, ?_, fun i hi => ?_⟩
  · rw [State.left_reg, alnRuns_enable, enabled_get]
  · rw [State.left_alnGroup, alnRuns_running _ (.inl hi), enabled_wanted, State.w_bit]

theorem alnGrpCtrlWrite_runs (s : State) (g : Nat) (v : W32) (i : List Byte)
    (h : s.lanes ∧ g < 64 ∧ s.w.alnOn = true ∧ s.w.alnItem g = some i) :
    ∃ u, exec (.alnGrpCtrlWrite g v) s = .next u ∧ u.reg (ALN_GRP_CTRL_run g) = v.toNat % 2 ∧
      u.reg (ALN_GRP_CTRL_irq_close g) = v.toNat / 2 % 2 ∧ u.reg (ALN_GRP_CTRL_late_fwd g) = v.toNat / 4 % 2 ∧
      (u.w.alnGroup i).running = (s.bitOf ALN_CTRL_enable && decide (v.toNat % 2 = 1) && !s.w.isQuiet) := by
  obtain ⟨hl, hg, hon, hitem⟩ := h
  have hexec : exec (.alnGrpCtrlWrite g v) s = .next (s.left ((s.w.grpCtrl g v).alnRun i)) := by
    show execAlnGrpCtrlWrite g v s = _
    unfold execAlnGrpCtrlWrite
    rw [show wfAlnGrpCtrlWrite g = true from decide_eq_true hg, runL_left hl]
    simp only [hitem, if_pos hon]
    rw [W.grpCtrl]
  refine ⟨_, hexec, ?_⟩
  have hkeep : ∀ {f : Fld}, f.addr = 0x40061000 + 0x40 * g → (s.left ((s.w.grpCtrl g v).alnRun i)).reg f =
      (s.w.grpCtrl g v).get f := fun hf => alnRun_get _ i (by omega)
  refine ⟨?_, ?_, ?_, ?_⟩
  · rw [hkeep rfl, grpCtrl_run]
  · rw [hkeep rfl, grpCtrl_irqClose]
  · rw [hkeep rfl, grpCtrl_lateFwd]
  · rw [State.left_alnGroup, alnRun_running, alnItem_num hitem, grpCtrl_wanted _ _ _ hg, State.w_bit]

theorem cfgAck_clears (s : State) (n : Nat) (h : s.lanes ∧ n < 16 ∧ s.w.alnOn = true) :
    ∃ u, exec (.cfgAck n) s = .next u ∧ u.reg (ALN_OUT_CTRL_cfg_stale n) = 0 := by
  obtain ⟨hl, hn, hon⟩ := h
  have hexec : exec (.cfgAck n) s = .next (s.left (s.w.set (ALN_OUT_CTRL_cfg_stale n) 0)) := by
    show execCfgAck n s = _
    unfold execCfgAck
    rw [show wfCfgAck n = true from decide_eq_true hn, runL_left hl, if_pos hon]
  exact ⟨_, hexec, W.get_set_same (by simp) 0⟩

/-- Settles O19, command by command: a record by where it is placed, a set by what the group holds while sets close, a group
that runs by the registers that no closing set writes. -/
theorem alignmentCommands : Obligations.AlignmentCommands :=
  ⟨recordPlace_places, recordPlace_strays, recordPlace_refuses, setOpen_opens, setOpen_idle, setExpire_expires, setExpire_waits,
   latencySample_samples, alnCtrlWrite_runs, alnGrpCtrlWrite_runs, cfgAck_clears⟩

end Running

end Sys2Proof.Machine

/-! # Grid analytics (R128 to R155)

What each operation of grid analytics leaves in its tables of monitors, rules and parameters, the state a notice is processed in,
and the registers that a selection latches. -/

namespace Sys2Proof.Machine

section Analytics

open SameOff Spot

/-! ## Grid analytics and what lies outside it -/

section
variable {w v : W}

theorem gan_of_sameOff (h : SameOff (Sparing [.gan] []) w v) : v.gan = w.gan := h.parts .gan (by simp)

@[simp] theorem ev_gan (w : W) (f : Fld) (n : Nat) : (w.ev f n).gan = w.gan := gan_of_sameOff (by simp)
@[simp] theorem ev_if_gan (w : W) (f : Fld) (n : Nat) (c : Prop) [Decidable c] : (if c then w.ev f n else w).gan = w.gan := by
  split <;> simp
@[simp] theorem tally_gan (w : W) (e : Nat) : (w.tally e).gan = w.gan := gan_of_sameOff (by simp)
@[simp] theorem dirty_gan (w : W) : w.dirty.gan = w.gan := gan_of_sameOff (by simp)
@[simp] theorem push_gan (w : W) (producer consumer : Nat) (y : QUnit) : (w.push producer consumer y).gan = w.gan :=
  gan_of_sameOff (by simp)
@[simp] theorem showSvy_gan (w : W) : w.showSvy.gan = w.gan := gan_of_sameOff (by simp)
@[simp] theorem showRule_gan (w : W) (n : Nat) : (w.showRule n).gan = w.gan := gan_of_sameOff (by simp)
@[simp] theorem at_gan (w : W) (t : Nat) : (w.at_ t).gan = w.gan := w.at_part t (p := .gan) (by decide)

@[simp] theorem setMon_gan (w : W) (kind num : Nat) (m : GanMon) :
    (w.setMon kind num m).gan = { w.gan with mons := tblPut (W.ganKey kind num) m w.gan.mons } := rfl
@[simp] theorem setTun_gan (w : W) (n : Nat) (x : GanTun) :
    (w.setTun n x).gan = { w.gan with tuns := tblPut n x w.gan.tuns } := rfl
@[simp] theorem setRule_gan (w : W) (n : Nat) (x : GanRule) :
    (w.setRule n x).gan = { w.gan with rules := tblPut n x w.gan.rules } := rfl
@[simp] theorem setSvy_gan (w : W) (x : GanSvy) : (w.setSvy x).gan = { w.gan with svy := x } := rfl

/-- What every step of a fold leaves of the tables, the fold leaves. -/
theorem foldl_gan {α β : Type} {K : GanState → β} {f : W → α → W} (h : ∀ (x : W) (e : α), K (f x e).gan = K x.gan)
    (l : List α) (w : W) : K (l.foldl f w).gan = K w.gan := by
  induction l generalizing w with
  | nil => rfl
  | cons e l ih => rw [List.foldl_cons, ih, h]

/-- The items with their parameters in place rest on the pattern and the parameters alone. -/
theorem ganItems_congr (hpat : v.pat = w.pat) (hparams : v.gan.params = w.gan.params) (kind : Nat) :
    v.ganItems kind = w.ganItems kind := by rw [W.ganItems, hpat, hparams, W.ganItems]

theorem ganItem_congr (hpat : v.pat = w.pat) (hparams : v.gan.params = w.gan.params) (kind num : Nat) :
    v.ganItem kind num = w.ganItem kind num := by rw [W.ganItem, ganItems_congr hpat hparams, W.ganItem]

theorem ganHas_congr (hpat : v.pat = w.pat) (e : Nat) : v.ganHas e = w.ganHas e := by rw [W.ganHas, hpat, W.ganHas]

end

theorem State.left_mon (s : State) (w : W) (kind num : Nat) : (s.left w).w.mon kind num = w.mon kind num := rfl
theorem State.left_tun (s : State) (w : W) (n : Nat) : (s.left w).w.tun n = w.tun n := rfl
theorem State.left_rule (s : State) (w : W) (n : Nat) : (s.left w).w.rule n = w.rule n := rfl

/-! ## Records for the Crier (R151) -/

/-- Records that wait and are sent change no table but that of the waiting ones. -/
theorem sendHits_gan (n : Nat) (w : W) : ∃ l, (W.sendHits n w).gan = { w.gan with waiting := l } := by
  induction n generalizing w with
  | zero => exact ⟨w.gan.waiting, rfl⟩
  | succ n ih =>
    unfold W.sendHits
    split
    · exact ⟨w.gan.waiting, rfl⟩
    next b t _ =>
      split
      · obtain ⟨l, hl⟩ := ih (({ w with gan := { w.gan with waiting := t } } : W).push 0x07 0x08 ⟨.bytes b, 64, false⟩)
        exact ⟨l, by rw [hl, push_gan]⟩
      · exact ⟨w.gan.waiting, by rw [ev_gan]⟩

theorem sendHit_gan (w : W) (kind : Nat) (b : List Byte) : ∃ l, (w.sendHit kind b).gan = { w.gan with waiting := l } := by
  unfold W.sendHit
  split
  · exact ⟨w.gan.waiting, rfl⟩
  · exact (sendHits_gan _ _).imp fun l hl => hl.trans (by simp)

@[simp] theorem sendHit_mons (w : W) (kind : Nat) (b : List Byte) : (w.sendHit kind b).gan.mons = w.gan.mons := by
  obtain ⟨l, hl⟩ := sendHit_gan w kind b
  rw [hl]

@[simp] theorem sendHit_rules (w : W) (kind : Nat) (b : List Byte) : (w.sendHit kind b).gan.rules = w.gan.rules := by
  obtain ⟨l, hl⟩ := sendHit_gan w kind b
  rw [hl]

theorem ganFlush_none {w : W} (h : w.gan.waiting = []) : w.ganFlush = w := by rw [W.ganFlush, h]; rfl

/-! ## The monitors stay while a set is evaluated -/

section
variable (w : W) (n : Nat) (i : List Byte) (s : GanSet)

@[simp] theorem tunRestart_mons : (w.tunRestart n).gan.mons = w.gan.mons := by simp [W.tunRestart]

@[simp] theorem tunSample_mons (v : Option W32) : (w.tunSample n i s v).gan.mons = w.gan.mons := by
  unfold W.tunSample
  dsimp only
  split
  · rfl
  · split <;> simp

@[simp] theorem tuner_mons : (w.tuner s).gan.mons = w.gan.mons := by
  unfold W.tuner
  split
  · rfl
  · refine foldl_gan (K := GanState.mons) (fun x e => ?_) _ w
    dsimp only
    repeat' split
    all_goals simp

@[simp] theorem ruleEval_mons : (w.ruleEval i s).gan.mons = w.gan.mons := by
  unfold W.ruleEval
  dsimp only
  repeat' split
  all_goals simp

@[simp] theorem rulePass_mons (island : Bool) : (w.rulePass s island).gan.mons = w.gan.mons := by
  unfold W.rulePass
  split
  · rfl
  · exact foldl_gan (fun x e => ruleEval_mons x e s) _ w

@[simp] theorem svyTick_mons : (w.svyTick s).gan.mons = w.gan.mons := by
  unfold W.svyTick
  dsimp only
  split <;> simp only [ev_if_gan, tally_gan, W.draw_gan, W.set_gan, showSvy_gan, setSvy_gan]

end

/-! ## Monitors (R133 to R136) -/

section
variable (w : W) (n : Nat) (i : List Byte) (s : GanSet) (b : List Byte)

theorem freqMon_params : (w.freqMon n i s b).gan.params = w.gan.params := rfl

theorem pairMon_params : (w.pairMon n i s b).gan.params = w.gan.params := by
  unfold W.pairMon
  dsimp only
  repeat' split
  all_goals rfl

theorem monKind_params {f : W → Nat → List Byte → GanSet → List Byte → W}
    (h : ∀ w n i s b, (f w n i s b).gan.params = w.gan.params) (kind : Nat) :
    (w.monKind kind s f).gan.params = w.gan.params := by
  refine foldl_gan (K := GanState.params) (fun x e => ?_) _ w
  split
  · exact h ..
  · rfl

/-- The frequency monitors and the angle pairs take their values before the level monitors. -/
def W.measured (w : W) (s : GanSet) : W := (w.monKind 1 s W.freqMon).monKind 2 s W.pairMon

theorem measured_pat : (w.measured s).pat = w.pat :=
  SameOff.parts (P := Sparing [.pat] []) (p := .pat)
    ((monKind_iff (by simp) _ _).mpr ((monKind_iff (by simp) _ _).mpr (refl w))) (by simp)

theorem measured_params : (w.measured s).gan.params = w.gan.params :=
  (monKind_params _ s pairMon_params 2).trans (monKind_params w s freqMon_params 1)

/-- The only level monitor of a set that holds its entry. -/
theorem monitors_level {w : W} {n : Nat} {i z : List Byte} {s : GanSet} (hhas : w.ganHas 2 = true)
    (hitems : w.ganItems 6 = [(n, i)]) (hslot : slotOf s (le i 4 2) = some z) :
    w.monitors s = (w.measured s).levelMon n i s z := by
  have hitems' : (w.measured s).ganItems 6 = [(n, i)] :=
    (ganItems_congr (measured_pat w s) (measured_params w s) 6).trans hitems
  rw [W.monitors, if_pos hhas, ← W.measured, W.monKind, hitems']
  simp only [List.foldl_cons, List.foldl_nil, hslot]

theorem setMon_mon (kind num : Nat) (m : GanMon) : (w.setMon kind num m).mon kind num = m := by
  rw [W.mon, setMon_gan, tblGet_tblPut_same, Option.getD_some]

/-- A level monitor with a usable value (R136). -/
theorem levelMon_usable {b : List Byte} {x : W32} (h : usable b (le i 6 1) (le i 7 1) = some x) :
    (w.levelMon n i s b).mon 6 n = { w.mon 6 n with
      outs := bitNat (f32Lt (BitVec.ofNat 32 (le i 12 4)) x) + 2 * bitNat (f32Lt x (BitVec.ofNat 32 (le i 8 4))) + 8
      upd := some s.closed
      val := x } := by
  unfold W.levelMon
  simp only [h]
  exact setMon_mon ..

end

/-! ## A set evaluated (R128, R149) -/

/-- Both passes of a set, before it is counted. -/
def W.evaluated (w : W) (s : GanSet) : W :=
  let w := ((w.monitors s).tuner s).rulePass s false
  let w := if w.ganHas 4 then w.svyUpdate s else w
  let w := if w.ganHas 4 && s.group == w.get GAN_SVY_CFG_pace_group then w.svyTick s else w
  w.rulePass s true

section
variable {w : W} {b : List Byte}

theorem ganNotice_marker (h : le b 0 1 = 2) : w.ganNotice b = { w with gan := { w.gan with
    base := tblPut (le b 1 1) (readStamp false 0 (w.rdBytes (le b 8 8) 64) 16) w.gan.base } } := if_pos h

theorem ganNotice_set (h : le b 0 1 ≠ 2) : w.ganNotice b =
    ((w.evaluated (w.readSet (le b 8 8))).set GAN_SETS_CNT_v
      ((w.evaluated (w.readSet (le b 8 8))).get GAN_SETS_CNT_v + 1)).tally 0x50 := if_neg h

theorem evaluated_mons (w : W) (s : GanSet) : (w.evaluated s).gan.mons = (w.monitors s).gan.mons := by
  unfold W.evaluated
  dsimp only
  rw [rulePass_mons]
  split <;> split <;> simp [W.svyUpdate]

theorem evaluated_setsCnt (w : W) (s : GanSet) : (w.evaluated s).get GAN_SETS_CNT_v = w.get GAN_SETS_CNT_v := by
  obtain ⟨hqueue, htally⟩ := queueApart_spared (ps := []) (fs := [GAN_SETS_CNT_v]) (by simp) (by simp [QueueApart])
  have hrules : MayRuleEval (Sparing [] [GAN_SETS_CNT_v]) :=
    ⟨⟨hqueue, htally, by simp, by simp⟩, by simp, fun q => by simp; omega⟩
  have hsurvey : MaySvyTick (Sparing [] [GAN_SETS_CNT_v]) := by simp
  have hkeep : SameOff (Sparing [] [GAN_SETS_CNT_v]) w (w.evaluated s) := by
    simp [W.evaluated, hrules, hsurvey]
  exact hkeep.get_eq (by simp)

theorem ganNotice_setsCnt (h : le b 0 1 ≠ 2) :
    (w.ganNotice b).get GAN_SETS_CNT_v = (w.get GAN_SETS_CNT_v + 1) % 2 ^ 32 := by
  have htally : ∀ x : W, (x.tally 0x50).get GAN_SETS_CNT_v = x.get GAN_SETS_CNT_v := fun x =>
    SameOff.get_eq (ps := []) (fs := [GAN_SETS_CNT_v]) (by simp) (by simp)
  rw [ganNotice_set h, htally, W.get_set_same (by decide), evaluated_setsCnt]

theorem ganNotice_mon (h : le b 0 1 ≠ 2) (kind num : Nat) :
    (w.ganNotice b).mon kind num = (w.monitors (w.readSet (le b 8 8))).mon kind num := by
  rw [ganNotice_set h, W.mon, tally_gan, W.set_gan, evaluated_mons, W.mon]

end

/-! ## A notice taken (R128) -/

/-- What taking a notice from its queue may change. -/
def NoticeQueue : Spot → Prop
  | part p => p ∈ [.tb, .irq, .prf, .que, .aln]
  | fld f => 0x40120000 ≤ f.addr
  | byte _ => False
  | zero => False

@[simp] theorem noticeQueue_part {p : Part} : NoticeQueue (part p) ↔ p ∈ [.tb, .irq, .prf, .que, .aln] := Iff.rfl
@[simp] theorem noticeQueue_fld {f : Fld} : NoticeQueue (fld f) ↔ 0x40120000 ≤ f.addr := Iff.rfl

/-- The working state that the notice taken at the instant `t` is processed in. -/
def State.noticing (s : State) (t : Nat) : W :=
  W.sendNotices ((s.w.at_ t).popQ 0x06 0x07).aln.notices.length ((s.w.at_ t).popQ 0x06 0x07)

/-- What a byte read rests on. -/
theorem rd8_congr {w v : W} (hfree : v.free = w.free) (hout : v.out = w.out) (hzeroed : v.zeroed = w.zeroed)
    (hmem : v.mem = w.mem) (a : Nat) : v.rd8 a = w.rd8 a := by
  rw [W.rd8, hfree, hout, hzeroed, hmem, W.rd8]

section
variable (s : State) (t : Nat)

theorem noticing_sameOff : SameOff NoticeQueue s.w (s.noticing t) := by
  have hqueue : MayQueue NoticeQueue := by simp [Nat.le_add_right_of_le]
  have htally : MayTally NoticeQueue := by simp
  exact (sendNotices_iff ⟨hqueue, htally, by simp⟩ _).mpr ((popQ_iff hqueue _ _).mpr
    ((advance_iff ⟨by simp, htally⟩ t).mpr (refl s.w)))

theorem noticing_gan : (s.noticing t).gan = s.dev.gan := (noticing_sameOff s t).parts .gan (by simp)
theorem noticing_pat : (s.noticing t).pat = s.dev.pat := (noticing_sameOff s t).parts .pat (by simp)

theorem noticing_sparing {fs : List Fld} (hf : ∀ f ∈ fs, f.addr < 0x40120000) :
    SameOff (Sparing [] fs) s.w (s.noticing t) := by
  refine (noticing_sameOff s t).mono fun x hx => ?_
  cases x with
  | part p => simp
  | fld f => exact fun g hg => .inl (Nat.ne_of_gt (Nat.lt_of_lt_of_le (hf g hg) hx))
  | byte a => trivial
  | zero => trivial

theorem noticing_rd8 (a : Nat) : (s.noticing t).rd8 a = s.w.rd8 a := by
  have hsame := noticing_sameOff s t
  have hout : (s.noticing t).out = [] := List.eq_nil_iff_forall_not_mem.mpr fun e he => by
    simpa using (hsame.out id e id).mp he
  exact rd8_congr (hsame.parts .free (by simp)) hout (hsame.zeroed id) hsame.mem a

theorem noticing_rdBytes (a n : Nat) : (s.noticing t).rdBytes a n = s.w.rdBytes a n := by
  simp only [W.rdBytes, noticing_rd8]

theorem noticing_readSet (a : Nat) : (s.noticing t).readSet a = s.w.readSet a := by
  simp only [W.readSet, noticing_rdBytes, noticing_gan, State.w_toDev]

end

/-- The hypotheses of a notice that is processed. -/
structure Noticed (s : State) (b : List Byte) : Prop where
  loom : s.w.loom = true
  waiting : s.dev.gan.waiting = []
  head : ∃ q, s.w.headOf 0x06 0x07 = some q ∧ q.body = .bytes b ∧ q.aborted = false
  enabled : s.bitOf GAN_CTRL_enable = true

theorem exec_notice {s : State} {b : List Byte} (h : Noticed s b) (t : Nat) :
    exec (.notice t) s = .next (s.left ((s.noticing t).ganNotice b)) := by
  obtain ⟨q, hhead, hbody, hwhole⟩ := h.head
  have hwaits : (s.w.at_ t).gan.waiting = [] := by rw [at_gan]; exact h.waiting
  have hhead' : (s.w.at_ t).headOf 0x06 0x07 = some q := by
    rw [W.headOf, W.at_pat, ← hhead, W.headOf]
    simp only [W.qState, at_que]
  have hbit : (s.noticing t).bit GAN_CTRL_enable = true :=
    ((noticing_sparing s t (fs := [GAN_CTRL_enable]) (by simp)).bit_eq (by simp)).trans h.enabled
  show execNotice t s = _
  refine (run_left _ _ _).trans (congrArg (fun v : W => Host.Outcome.next (s.left v)) ?_)
  simp only [ganFlush_none hwaits, at_loom, h.loom, hwaits, hhead', hbody, hwhole, List.isEmpty_nil, Bool.not_true,
    Bool.not_false, Bool.or_self, Bool.false_eq_true, if_false, Bool.and_true]
  rw [← State.noticing]
  exact if_pos hbit

theorem notice_marker (s : State) (t : Nat) (q : QUnit) (b : List Byte) (h : s.w.loom = true ∧ s.dev.gan.waiting = [] ∧
    s.w.headOf 6 7 = some q ∧ q.body = .bytes b ∧ q.aborted = false ∧ s.bitOf GAN_CTRL_enable = true ∧ le b 0 1 = 2) :
    ∃ u, exec (.notice t) s = .next u ∧
      tblGet u.dev.gan.base (le b 1 1) = some (readStamp false 0 (s.w.rdBytes (le b 8 8) 64) 16) := by
  obtain ⟨hloom, hwaits, hhead, hbody, hwhole, hen, hkind⟩ := h
  refine ⟨_, exec_notice ⟨hloom, hwaits, ⟨q, hhead, hbody, hwhole⟩, hen⟩ t, ?_⟩
  rw [State.left_dev, ganNotice_marker hkind, noticing_rdBytes]
  exact tblGet_tblPut_same ..

theorem notice_counts (s : State) (t : Nat) (q : QUnit) (b : List Byte) (h : s.w.loom = true ∧ s.dev.gan.waiting = [] ∧
    s.w.headOf 6 7 = some q ∧ q.body = .bytes b ∧ q.aborted = false ∧ s.bitOf GAN_CTRL_enable = true ∧ le b 0 1 ≠ 2) :
    ∃ u, exec (.notice t) s = .next u ∧ u.reg GAN_SETS_CNT_v = (s.reg GAN_SETS_CNT_v + 1) % 2 ^ 32 := by
  obtain ⟨hloom, hwaits, hhead, hbody, hwhole, hen, hkind⟩ := h
  refine ⟨_, exec_notice ⟨hloom, hwaits, ⟨q, hhead, hbody, hwhole⟩, hen⟩ t, ?_⟩
  rw [State.left_reg, ganNotice_setsCnt hkind,
    (noticing_sparing s t (fs := [GAN_SETS_CNT_v]) (by simp)).get_eq (by simp), State.w_get]

theorem notice_level (s : State) (t n : Nat) (q : QUnit) (b i z : List Byte) (x : W32) (h : s.w.loom = true ∧
    s.dev.gan.waiting = [] ∧ s.w.headOf 6 7 = some q ∧ q.body = .bytes b ∧ q.aborted = false ∧
    s.bitOf GAN_CTRL_enable = true ∧ le b 0 1 ≠ 2 ∧ s.w.ganHas 2 = true ∧ s.w.ganItems 6 = [(n, i)] ∧
    slotOf (s.w.readSet (le b 8 8)) (le i 4 2) = some z ∧ usable z (le i 6 1) (le i 7 1) = some x) :
    ∃ u, exec (.notice t) s = .next u ∧ (u.w.mon 6 n).val = x ∧
      (u.w.mon 6 n).outs = bitNat (f32Lt (BitVec.ofNat 32 (le i 12 4)) x) +
        2 * bitNat (f32Lt x (BitVec.ofNat 32 (le i 8 4))) + 8 ∧
      (u.w.mon 6 n).upd = some (s.w.readSet (le b 8 8)).closed := by
  obtain ⟨hloom, hwaits, hhead, hbody, hwhole, hen, hkind, hhas, hitems, hslot, hvalue⟩ := h
  have hhas' : (s.noticing t).ganHas 2 = true := (ganHas_congr (noticing_pat s t) 2).trans hhas
  have hitems' : (s.noticing t).ganItems 6 = [(n, i)] :=
    (ganItems_congr (noticing_pat s t) (congrArg GanState.params (noticing_gan s t)) 6).trans hitems
  refine ⟨_, exec_notice ⟨hloom, hwaits, ⟨q, hhead, hbody, hwhole⟩, hen⟩ t, ?_⟩
  rw [State.left_mon, ganNotice_mon hkind, noticing_readSet, monitors_level hhas' hitems' hslot, levelMon_usable _ _ _ _ hvalue]
  exact ⟨rfl, rfl, rfl⟩

/-! ## Tuner reports (R140) -/

theorem tunReport_tun (w : W) (n : Nat) (i : List Byte) (sec : Nat) : ∃ x : GanTun, (w.tunReport n i sec).tun n = x ∧
    x.rptSec = sec ∧ x.rptSeq = ((w.tun n).rptSeq + 1) % 65536 ∧ x.due = none ∧ x.dampUpd = some w.ns := by
  unfold W.tunReport
  dsimp only
  rw [W.tun, tally_gan, setTun_gan, tblGet_tblPut_same, Option.getD_some]
  exact ⟨_, rfl, rfl, rfl, rfl, rfl⟩

theorem tunerReport_writes (s : State) (signal t sec : Nat) (i : List Byte) (h : signal < 512 ∧ s.w.loom = true ∧
    s.w.ganHas 3 = true ∧ s.w.ganItem 3 signal = some i ∧ (s.w.tun signal).due = some sec) :
    ∃ u, exec (.tunerReport signal t) s = .next u ∧ (u.w.tun signal).rptSec = sec ∧
      (u.w.tun signal).rptSeq = ((s.w.tun signal).rptSeq + 1) % 65536 ∧ (u.w.tun signal).due = none ∧
      (u.w.tun signal).dampUpd = some (s.nsAt t) := by
  obtain ⟨hsignal, hloom, hhas, hitem, hdue⟩ := h
  have htun : (s.w.at_ t).tun signal = s.w.tun signal := by rw [W.tun, at_gan, W.tun]
  have hitem' : (s.w.at_ t).ganItem 3 signal = some i :=
    (ganItem_congr (W.at_pat _ t) (congrArg GanState.params (at_gan _ t)) 3 signal).trans hitem
  have hhas' : (s.w.at_ t).ganHas 3 = true := (ganHas_congr (W.at_pat _ t) 3).trans hhas
  have hexec : exec (.tunerReport signal t) s = .next (s.left ((s.w.at_ t).tunReport signal i sec)) := by
    show execTunerReport signal t s = _
    unfold execTunerReport
    rw [show wfTunerReport signal = true from decide_eq_true hsignal]
    refine (run_left _ _ _).trans (congrArg (fun v : W => Host.Outcome.next (s.left v)) ?_)
    simp only [hitem', htun, hdue, at_loom, hloom, hhas', Bool.and_self, if_true]
  obtain ⟨x, hx, hsec, hseq, hnone, hupd⟩ := tunReport_tun (s.w.at_ t) signal i sec
  refine ⟨_, hexec, ?_⟩
  rw [State.left_tun, hx]
  exact ⟨hsec, htun ▸ hseq, hnone, hupd.trans (congrArg some (at_nsAt s t))⟩

/-! ## Parameters (R154) -/

/-- What GAN_PARAM_STATUS answers to a write of GAN_PARAM_DATA. -/
def W.paramStatus (w : W) (v : W32) : Nat :=
  match w.ganItem (w.get GAN_PARAM_SEL_kind) (w.get GAN_PARAM_SEL_number) with
  | none => 1
  | some i =>
    if w.get GAN_PARAM_SEL_word = 3 then 2
    else (W.paramWord i (w.get GAN_PARAM_SEL_kind) (w.get GAN_PARAM_SEL_word) v.toNat).2

theorem paramWord_status (i : List Byte) (kind word v : Nat) : (W.paramWord i kind word v).2 ≤ 3 := by
  unfold W.paramWord
  dsimp only
  repeat' split
  all_goals simp

/-- The parameters of an item replaced. -/
def W.putParams (w : W) (key : Nat) (b : List Byte) : W :=
  { w with gan := { w.gan with params := tblPut key b w.gan.params } }

section
variable {w : W} {v : W32}

theorem paramStatus_le (w : W) (v : W32) : w.paramStatus v ≤ 3 := by
  unfold W.paramStatus
  split
  · decide
  · split
    · decide
    · exact paramWord_status ..

theorem paramWrite_accepts {i : List Byte}
    (hitem : w.ganItem (w.get GAN_PARAM_SEL_kind) (w.get GAN_PARAM_SEL_number) = some i)
    (hword : w.get GAN_PARAM_SEL_word ≠ 3)
    (hok : (W.paramWord i (w.get GAN_PARAM_SEL_kind) (w.get GAN_PARAM_SEL_word) v.toNat).2 = 0) :
    w.paramWrite v = (w.set GAN_PARAM_STATUS_result 0).putParams
      (W.ganKey (w.get GAN_PARAM_SEL_kind) (w.get GAN_PARAM_SEL_number))
      ((W.paramWord i (w.get GAN_PARAM_SEL_kind) (w.get GAN_PARAM_SEL_word) v.toNat).1.drop 4) := by
  unfold W.paramWrite W.putParams
  simp only [hitem, if_neg hword, hok, if_true]

theorem paramWrite_refuses (h : ∀ i ∈ (w.ganItem (w.get GAN_PARAM_SEL_kind) (w.get GAN_PARAM_SEL_number)).toList,
    w.get GAN_PARAM_SEL_word = 3 ∨ (W.paramWord i (w.get GAN_PARAM_SEL_kind) (w.get GAN_PARAM_SEL_word) v.toNat).2 ≠ 0) :
    w.paramWrite v = w.set GAN_PARAM_STATUS_result (w.paramStatus v) := by
  unfold W.paramWrite W.paramStatus
  cases hitem : w.ganItem (w.get GAN_PARAM_SEL_kind) (w.get GAN_PARAM_SEL_number) with
  | none => simp only [hitem]
  | some i =>
    by_cases hword : w.get GAN_PARAM_SEL_word = 3
    · simp only [hitem, hword, if_true]
    · have hbad := (h i (by rw [hitem]; exact List.mem_singleton_self i)).resolve_left hword
      simp only [hitem, if_neg hword, if_neg hbad]

end

theorem exec_paramWrite {s : State} (hl : s.lanes) (v : W32) :
    exec (.paramWrite v) s = .next (s.left (s.w.paramWrite v).dirty) :=
  runL_left hl "PARAM_WRITE" fun w => (w.paramWrite v).dirty

theorem paramWrite_replaces (s : State) (v : W32) (i : List Byte) (h : s.lanes ∧ s.w.ganItem (s.reg GAN_PARAM_SEL_kind)
    (s.reg GAN_PARAM_SEL_number) = some i ∧ s.reg GAN_PARAM_SEL_word ≠ 3 ∧ (W.paramWord i (s.reg GAN_PARAM_SEL_kind)
    (s.reg GAN_PARAM_SEL_word) v.toNat).2 = 0) :
    ∃ u, exec (.paramWrite v) s = .next u ∧ u.reg GAN_PARAM_STATUS_result = 0 ∧
      tblGet u.dev.gan.params (W.ganKey (s.reg GAN_PARAM_SEL_kind) (s.reg GAN_PARAM_SEL_number)) =
        some ((W.paramWord i (s.reg GAN_PARAM_SEL_kind) (s.reg GAN_PARAM_SEL_word) v.toNat).1.drop 4) := by
  obtain ⟨hl, hitem, hword, hok⟩ := h
  have hwrite := paramWrite_accepts (w := s.w) (v := v) hitem hword hok
  refine ⟨_, exec_paramWrite hl v, ?_, ?_⟩
  · rw [State.left_reg, dirty_get _ (by decide), hwrite]
    exact W.get_set_same (w := s.w) (by decide) 0
  · rw [State.left_dev, dirty_gan, hwrite]
    exact tblGet_tblPut_same ..

theorem paramWrite_keeps (s : State) (v : W32) (h : s.lanes ∧ ∀ i ∈ (s.w.ganItem (s.reg GAN_PARAM_SEL_kind)
    (s.reg GAN_PARAM_SEL_number)).toList, s.reg GAN_PARAM_SEL_word = 3 ∨
    (W.paramWord i (s.reg GAN_PARAM_SEL_kind) (s.reg GAN_PARAM_SEL_word) v.toNat).2 ≠ 0) :
    ∃ u, exec (.paramWrite v) s = .next u ∧ u.dev.gan = s.dev.gan ∧ u.reg GAN_PARAM_STATUS_result = s.w.paramStatus v := by
  obtain ⟨hl, hbad⟩ := h
  have hwrite := paramWrite_refuses (w := s.w) (v := v) hbad
  refine ⟨_, exec_paramWrite hl v, ?_, ?_⟩
  · rw [State.left_dev, dirty_gan, hwrite]
    rfl
  · rw [State.left_reg, dirty_get _ (by decide), hwrite, W.get_set_same (by decide)]
    exact Nat.mod_eq_of_lt (Nat.lt_succ_of_le (paramStatus_le s.w v))

/-! ## Rules sent to IDLE (R149, R150) -/

section
variable {w v : W}

theorem ruleIdle_rule (w : W) (i : List Byte) (report : Bool) (n : Nat) : (w.ruleIdle i report).rule n =
    if rNum i = n then { w.rule n with state := 0, count := 0 } else w.rule n := by
  have hrules : (w.ruleIdle i report).gan.rules =
      tblPut (rNum i) { w.rule (rNum i) with state := 0, count := 0 } w.gan.rules := by
    unfold W.ruleIdle
    dsimp only
    split <;> simp
  rw [W.rule, hrules]
  split
  next h => rw [h, tblGet_tblPut_same, Option.getD_some]
  next h => rw [tblGet_tblPut_other _ _ h, W.rule]

/-- The rules of a list go IDLE, the others keep their state. -/
theorem rulesIdle_state (l : List (List Byte)) (w : W) (report : Bool) (n : Nat) :
    ((l.foldl (fun w i => w.ruleIdle i report) w).rule n).state =
      if l.any (fun i => rNum i == n) then 0 else (w.rule n).state := by
  induction l generalizing w with
  | nil => rfl
  | cons i l ih =>
    rw [List.foldl_cons, ih, ruleIdle_rule, List.any_cons]
    by_cases hl : l.any (fun i => rNum i == n) = true
    · rw [hl, Bool.or_true, if_pos rfl, if_pos rfl]
    · rw [Bool.not_eq_true] at hl
      by_cases hn : rNum i = n <;> simp [hl, hn]

/-- What sends a rule to IDLE may change. -/
@[simp] abbrev MayRuleIdle (P : Spot → Prop) (i : List Byte) : Prop :=
  MaySendHits P ∧ P (fld (GAN_RULE_ACTIVE_v (rNum i / 32)))

theorem ruleIdle_iff {P : Spot → Prop} {i : List Byte} (h : MayRuleIdle P i) (report : Bool) :
    SameOff P w (v.ruleIdle i report) ↔ SameOff P w v := by
  refine drop_iff ?_
  unfold W.ruleIdle W.showRule
  simp [h]

theorem rulesIdle_get {f : Fld} (hf : f.addr < 0x40120000 ∧ GAN_EVENT_hit_wait.Apart f) (report : Bool)
    (l : List (List Byte)) (hl : ∀ i ∈ l, (GAN_RULE_ACTIVE_v (rNum i / 32)).Apart f) (w : W) :
    (l.foldl (fun w i => w.ruleIdle i report) w).get f = w.get f := by
  obtain ⟨hqueue, htally⟩ := queueApart_spared (ps := []) (fs := [f]) (by simp)
    fun g hg => List.mem_singleton.mp hg ▸ .inl hf.1
  induction l generalizing w with
  | nil => rfl
  | cons i l ih =>
    have hidle : MayRuleIdle (Sparing [] [f]) i :=
      ⟨⟨hqueue, htally, by simp, by simpa using hf.2⟩, by simpa using hl i List.mem_cons_self⟩
    rw [List.foldl_cons, ih fun j hj => hl j (List.mem_cons_of_mem i hj)]
    exact ((ruleIdle_iff hidle report).mpr (refl w)).get_eq (by simp)

end

/-! ## GAN_RULE_EN, GAN_RULE_ACK and GAN_CTRL -/

/-- The enabled rules of a word that a write of GAN_RULE_EN disables. -/
def W.disabled (w : W) (word : Nat) (v : W32) : List (List Byte) :=
  w.ganRules.filter (fun i => rNum i / 32 == word && w.ruleEnabled (rNum i) && !tst v.toNat (rNum i % 32))

/-- The LATCHED rules that a write of GAN_RULE_ACK names. -/
def W.acked (w : W) (word : Nat) (v : W32) : List (List Byte) :=
  w.ganRules.filter (fun i => rNum i / 32 == word && tst v.toNat (rNum i % 32) && (w.rule (rNum i)).state == 4)

theorem ruleEnable_enables (s : State) (word : Nat) (v : W32) (h : s.lanes ∧ word < 32 ∧ s.w.ganHas 2 = true) :
    ∃ u, exec (.ruleEnable word v) s = .next u ∧
      u.reg (GAN_RULE_EN_v word) = v.toNat &&& s.w.ruleBits word (fun _ => true) ∧
      ∀ i ∈ s.w.ganRules, rNum i / 32 = word → s.w.ruleEnabled (rNum i) = true → tst v.toNat (rNum i % 32) = false →
        (u.w.rule (rNum i)).state = 0 := by
  obtain ⟨hl, hword, hhas⟩ := h
  have hexec : exec (.ruleEnable word v) s = .next (s.left ((s.w.disabled word v).foldl (fun w i => w.ruleIdle i true)
      (s.w.set (GAN_RULE_EN_v word) (v.toNat &&& s.w.ruleBits word (fun _ => true))).dirty)) := by
    show execRuleEnable word v s = _
    unfold execRuleEnable
    rw [show wfRuleEnable word = true from decide_eq_true hword, runL_left hl]
    simp only [hhas, Bool.not_true, Bool.false_eq_true, if_false, W.disabled]
  refine ⟨_, hexec, ?_, fun i hi hnum hen hoff => ?_⟩
  · have hactive : ∀ i ∈ s.w.disabled word v, (GAN_RULE_ACTIVE_v (rNum i / 32)).Apart (GAN_RULE_EN_v word) := fun i _ =>
      .inl (by dsimp only; omega)
    have hbits : v.toNat &&& s.w.ruleBits word (fun _ => true) < 2 ^ 32 := Nat.lt_of_le_of_lt Nat.and_le_left v.isLt
    rw [State.left_reg, rulesIdle_get ⟨by dsimp only; omega, .inl (by dsimp only; omega)⟩ true _ hactive,
      dirty_get _ (by dsimp only; omega), W.get_set_same (by simp)]
    exact Nat.mod_eq_of_lt hbits
  · rw [State.left_rule, rulesIdle_state, if_pos]
    exact List.any_eq_true.mpr ⟨i, List.mem_filter.mpr ⟨hi, by simp [hnum, hen, hoff]⟩, beq_self_eq_true _⟩

theorem ruleAck_acknowledges (s : State) (word : Nat) (v : W32) (h : s.lanes ∧ word < 32 ∧ s.w.ganHas 2 = true) :
    ∃ u, exec (.ruleAck word v) s = .next u ∧ ∀ i ∈ s.w.ganRules, (u.w.rule (rNum i)).state =
      if rNum i / 32 = word ∧ tst v.toNat (rNum i % 32) = true ∧ (s.w.rule (rNum i)).state = 4 then 0
      else (s.w.rule (rNum i)).state := by
  obtain ⟨hl, hword, hhas⟩ := h
  have hexec : exec (.ruleAck word v) s =
      .next (s.left ((s.w.acked word v).foldl (fun w i => w.ruleIdle i true) s.w)) := by
    show execRuleAck word v s = _
    unfold execRuleAck
    rw [show wfRuleAck word = true from decide_eq_true hword, runL_left hl]
    simp only [hhas, Bool.not_true, Bool.false_eq_true, if_false, W.acked]
  refine ⟨_, hexec, fun i hi => ?_⟩
  rw [State.left_rule, rulesIdle_state]
  refine if_congr ?_ rfl rfl
  simp only [W.acked, List.any_eq_true, List.mem_filter, Bool.and_eq_true, beq_iff_eq]
  constructor
  · rintro ⟨j, ⟨-, ⟨hnum, hbit⟩, hstate⟩, hj⟩
    rw [hj] at hnum hbit hstate
    exact ⟨hnum, hbit, hstate⟩
  · exact fun ⟨hnum, hbit, hstate⟩ => ⟨i, ⟨hi, ⟨hnum, hbit⟩, hstate⟩, rfl⟩

/-- The bits of GAN_CTRL written. -/
def W.ganCtrl (w : W) (n : Nat) : W :=
  (((w.set GAN_CTRL_enable n).set GAN_CTRL_rules_enable (n / 2)).set GAN_CTRL_stale_ms (n / 65536)).dirty

theorem ganCtrlWrite_sets (s : State) (v : W32) (hl : s.lanes) :
    ∃ u, exec (.ganCtrlWrite v) s = .next u ∧ u.reg GAN_CTRL_enable = v.toNat % 2 ∧
      u.reg GAN_CTRL_rules_enable = v.toNat / 2 % 2 ∧ u.reg GAN_CTRL_stale_ms = v.toNat / 65536 ∧
      (v.toNat / 2 % 2 = 0 → ∀ i ∈ s.w.ganRules, (u.w.rule (rNum i)).state = 0) := by
  have hpat : (s.w.ganCtrl v.toNat).pat = s.w.pat :=
    SameOff.parts (P := Sparing [.pat] []) (p := .pat) (by simp [W.ganCtrl]) (by simp)
  have hrules : (s.w.ganCtrl v.toNat).ganRules = s.w.ganRules := by rw [W.ganRules, hpat, W.ganRules]
  have hexec : exec (.ganCtrlWrite v) s = .next (s.left
      ((if tst v.toNat 1 then [] else s.w.ganRules).foldl (fun w i => w.ruleIdle i false) (s.w.ganCtrl v.toNat))) := by
    show execGanCtrlWrite v s = _
    unfold execGanCtrlWrite
    rw [runL_left hl]
    dsimp only
    rw [← W.ganCtrl, hrules]
    split <;> rfl
  have hkeep : ∀ {f : Fld}, f.addr = 0x40070000 → (s.left ((if tst v.toNat 1 then [] else s.w.ganRules).foldl
      (fun w i => w.ruleIdle i false) (s.w.ganCtrl v.toNat))).reg f = (s.w.ganCtrl v.toNat).get f := fun hf =>
    rulesIdle_get ⟨by rw [hf]; decide, .inl (by rw [hf]; decide)⟩ false _ (fun i _ => .inl (by rw [hf]; dsimp only; omega)) _
  refine ⟨_, hexec, ?_, ?_, ?_, fun hoff i hi => ?_⟩
  · rw [hkeep rfl, W.ganCtrl, dirty_get _ (by decide), W.get_set_other (by decide), W.get_set_other (by decide),
      W.get_set_same (by decide)]
    rfl
  · rw [hkeep rfl, W.ganCtrl, dirty_get _ (by decide), W.get_set_other (by decide), W.get_set_same (by decide)]
    rfl
  · rw [hkeep rfl, W.ganCtrl, dirty_get _ (by decide), W.get_set_same (by decide)]
    exact Nat.mod_eq_of_lt (by have := v.isLt; dsimp only; omega)
  · have htst : tst v.toNat 1 = false := by simp [tst, hoff]
    rw [State.left_rule, rulesIdle_state, htst, if_neg Bool.false_ne_true, if_pos]
    exact List.any_eq_true.mpr ⟨i, hi, beq_self_eq_true _⟩

/-! ## Selections (R154) -/

section
variable {w : W} {f g : Fld}

theorem get_setB_other (h : f.Apart g) (b : Bool) : (w.setB f b).get g = w.get g := W.get_set_other h _
theorem bit_setB_other (h : f.Apart g) (b : Bool) : (w.setB f b).bit g = w.bit g := W.bit_set_other h _

end

/-- The rule that a selection shows. -/
def W.shownRule (w : W) (n : Nat) : GanRule := if w.ganRules.any (fun i => rNum i == n) then w.rule n else GanRule.empty

/-- The monitor that a selection shows. -/
def W.shownMon (w : W) (kind num : Nat) : GanMon := if kind = 1 ∨ kind = 2 ∨ kind = 6 then w.mon kind num else GanMon.empty

/-- The registers of a Tuner selection before its modes and energies. -/
def W.latchReport (w : W) (n : Nat) : W :=
  let x := w.tun n
  let w := (w.set GAN_TUN_SEL_signal n).set GAN_TUN_INFO_modes x.modes.length
  let w := (w.setB GAN_TUN_INFO_modes_valid x.modesValid).setB GAN_TUN_INFO_bands_valid x.bandsValid
  let w := (w.set GAN_TUN_INFO_report_seq x.rptSeq).set GAN_TUN_RPT_NS_v 0
  (w.set GAN_TUN_RPT_SEC_LO_v (x.rptSec % 2 ^ 32)).set GAN_TUN_RPT_SEC_HI_v (x.rptSec / 2 ^ 32)

section
variable (w : W) (n : Nat)

theorem latchRule_shows : (w.latchRule n).get GAN_RULE_SEL_rule = n % 2 ^ 10 ∧
    (w.latchRule n).get GAN_RULE_STATE_state = (w.shownRule n).state % 2 ^ 3 ∧
    (w.latchRule n).get GAN_RULE_STATE_count = (w.shownRule n).count % 2 ^ 16 ∧
    (w.latchRule n).get GAN_RULE_HITS_v = (w.shownRule n).hits % 2 ^ 32 := by
  unfold W.latchRule
  refine ⟨?_, ?_, ?_, ?_⟩
  all_goals simp (disch := decide) only [W.get_set_other, get_setB_other, W.get_set_same] <;> rfl

theorem latchReport_shows : (w.latchReport n).get GAN_TUN_SEL_signal = n % 2 ^ 9 ∧
    (w.latchReport n).get GAN_TUN_INFO_report_seq = (w.tun n).rptSeq % 2 ^ 16 ∧
    (w.latchReport n).get GAN_TUN_RPT_SEC_LO_v = (w.tun n).rptSec % 2 ^ 32 := by
  unfold W.latchReport
  refine ⟨?_, ?_, ?_⟩
  all_goals simp (disch := decide) only [W.get_set_other, get_setB_other, W.get_set_same, Nat.mod_mod]

/-- The modes and energies have registers of their own, behind the report's. -/
theorem latchTun_get {f : Fld} (hf : f.addr < 0x40070660) : (w.latchTun n).get f = (w.latchReport n).get f := by
  have hapart : ∀ {a lo width : Nat}, 0x40070660 ≤ a → Sparing [] [f] (fld ⟨a, lo, width⟩) := fun ha g hg =>
    .inl (by rw [List.mem_singleton.mp hg]; exact Nat.ne_of_gt (Nat.lt_of_lt_of_le hf ha))
  refine SameOff.get_eq (ps := []) (fs := [f]) (SameOff.foldl (fun x k => ?_) _ (w.latchReport n)) List.mem_cons_self
  dsimp only
  iterate 5 refine (set_iff (hapart (by omega)) _).mpr ?_
  exact refl x

theorem latchNode_shows : (w.latchNode n).get GAN_SVY_NODE_SEL_index = n % 2 ^ 15 ∧
    (w.latchNode n).get GAN_SVY_NODE_label = (tblGet w.gan.svy.labels n).getD 0 % 2 ^ 13 ∧
    (w.latchNode n).bit GAN_SVY_NODE_separated = w.separated n ∧
    (w.latchNode n).bit GAN_SVY_NODE_stale = w.gan.svy.stale.contains n := by
  unfold W.latchNode
  refine ⟨?_, ?_, ?_, ?_⟩
  all_goals simp (disch := decide) only [W.get_set_other, get_setB_other, W.get_set_same, bit_setB_other,
    W.bit_setB_same] <;> rfl

theorem latchEdge_shows {x : GanEdge} (h : tblGet w.gan.svy.edges n = some x) :
    (w.latchEdge n).get GAN_SVY_EDGE_SEL_index = n % 2 ^ 15 ∧
    (w.latchEdge n).bit GAN_SVY_EDGE_open = (x.freqOpen || x.statusOpen) ∧
    (w.latchEdge n).bit GAN_SVY_EDGE_by_status = x.statusOpen ∧
    (w.latchEdge n).bit GAN_SVY_EDGE_by_freq = x.freqOpen ∧
    (w.latchEdge n).bit GAN_SVY_EDGE_status_unknown = x.statusUnknown ∧
    (w.latchEdge n).bit GAN_SVY_EDGE_freq_unknown = x.freqUnknown := by
  unfold W.latchEdge
  rw [h, Option.getD_some]
  refine ⟨?_, ?_, ?_, ?_, ?_, ?_⟩
  all_goals simp (disch := decide) only [W.get_set_other, get_setB_other, W.get_set_same, W.bit_set_other, bit_setB_other,
    W.bit_setB_same]

theorem latchMon_shows (kind num : Nat) : (w.latchMon kind num).get GAN_MON_SEL_kind = kind % 2 ^ 4 ∧
    (w.latchMon kind num).get GAN_MON_VAL_v = (w.shownMon kind num).val.toNat ∧
    (w.latchMon kind num).get GAN_MON_RATE_v = (w.shownMon kind num).rate.toNat ∧
    (w.latchMon kind num).get GAN_MON_OUT_outputs = (w.shownMon kind num).outs % 2 ^ GAN_MON_OUT_outputs.width := by
  unfold W.latchMon
  refine ⟨?_, ?_, ?_, ?_⟩
  all_goals simp (disch := decide) only [W.get_set_other, W.get_set_same]
  · exact Nat.mod_eq_of_lt (w.shownMon kind num).val.isLt
  · exact Nat.mod_eq_of_lt (w.shownMon kind num).rate.isLt
  · rfl

end

/-- What a write of a selection latches. -/
def W.selected (w : W) (sel : GanSel) (n : Nat) : W :=
  match sel with
  | .rule => if w.ganHas 2 then w.latchRule (n % 1024) else w
  | .tuner => if w.ganHas 3 then w.latchTun (n % 512) else w
  | .node => if w.ganHas 4 then w.latchNode (n % 32768) else w
  | .edge => if w.ganHas 4 then w.latchEdge (n % 32768) else w
  | .monitor => if w.ganHas 2 then w.latchMon (n % 16) (n / 65536) else w

theorem exec_ganSelLatch {s : State} (hl : s.lanes) {sel : GanSel} {v : W32} {w : W} (h : s.w.selected sel v.toNat = w) :
    exec (.ganSelLatch sel v) s = .next (s.left w) := by
  have hrun := runL_left hl "GAN_SEL_LATCH" fun w => w.selected sel v.toNat
  rw [h] at hrun
  rw [← hrun]
  cases sel <;> rfl

section
variable (s : State) (v : W32)

theorem ganSelLatch_rule (h : s.lanes ∧ s.w.ganHas 2 = true) :
    ∃ u, exec (.ganSelLatch .rule v) s = .next u ∧ u.reg GAN_RULE_SEL_rule = v.toNat % 1024 ∧
      u.reg GAN_RULE_STATE_state = (if s.w.ganRules.any (fun i => rNum i == v.toNat % 1024) then
        (s.w.rule (v.toNat % 1024)).state % 8 else 0) ∧
      u.reg GAN_RULE_STATE_count = (if s.w.ganRules.any (fun i => rNum i == v.toNat % 1024) then
        (s.w.rule (v.toNat % 1024)).count % 65536 else 0) ∧
      u.reg GAN_RULE_HITS_v = (if s.w.ganRules.any (fun i => rNum i == v.toNat % 1024) then
        (s.w.rule (v.toNat % 1024)).hits % 2 ^ 32 else 0) := by
  obtain ⟨hl, hhas⟩ := h
  obtain ⟨hsel, hstate, hcount, hhits⟩ := latchRule_shows s.w (v.toNat % 1024)
  refine ⟨_, exec_ganSelLatch hl (if_pos hhas), ?_⟩
  simp only [State.left_reg, hsel, hstate, hcount, hhits, W.shownRule]
  refine ⟨Nat.mod_mod _ _, ?_⟩
  split_ifs <;> exact ⟨rfl, rfl, rfl⟩

theorem ganSelLatch_tuner (h : s.lanes ∧ s.w.ganHas 3 = true) :
    ∃ u, exec (.ganSelLatch .tuner v) s = .next u ∧ u.reg GAN_TUN_SEL_signal = v.toNat % 512 ∧
      u.reg GAN_TUN_INFO_report_seq = (s.w.tun (v.toNat % 512)).rptSeq % 65536 ∧
      u.reg GAN_TUN_RPT_SEC_LO_v = (s.w.tun (v.toNat % 512)).rptSec % 2 ^ 32 := by
  obtain ⟨hl, hhas⟩ := h
  obtain ⟨hsel, hseq, hsec⟩ := latchReport_shows s.w (v.toNat % 512)
  refine ⟨_, exec_ganSelLatch hl (if_pos hhas), ?_⟩
  simp only [State.left_reg]
  rw [latchTun_get _ _ (by decide), latchTun_get _ _ (by decide), latchTun_get _ _ (by decide)]
  exact ⟨hsel.trans (Nat.mod_mod _ _), hseq, hsec⟩

theorem ganSelLatch_node (h : s.lanes ∧ s.w.ganHas 4 = true) :
    ∃ u, exec (.ganSelLatch .node v) s = .next u ∧ u.reg GAN_SVY_NODE_SEL_index = v.toNat % 32768 ∧
      u.reg GAN_SVY_NODE_label = (tblGet s.dev.gan.svy.labels (v.toNat % 32768)).getD 0 % 8192 ∧
      u.bitOf GAN_SVY_NODE_separated = s.w.separated (v.toNat % 32768) ∧
      u.bitOf GAN_SVY_NODE_stale = s.dev.gan.svy.stale.contains (v.toNat % 32768) := by
  obtain ⟨hl, hhas⟩ := h
  obtain ⟨hsel, hshown⟩ := latchNode_shows s.w (v.toNat % 32768)
  exact ⟨_, exec_ganSelLatch hl (if_pos hhas), hsel.trans (Nat.mod_mod _ _), hshown⟩

theorem ganSelLatch_edge (x : GanEdge) (h : s.lanes ∧ s.w.ganHas 4 = true ∧
    tblGet s.dev.gan.svy.edges (v.toNat % 32768) = some x) :
    ∃ u, exec (.ganSelLatch .edge v) s = .next u ∧ u.reg GAN_SVY_EDGE_SEL_index = v.toNat % 32768 ∧
      u.bitOf GAN_SVY_EDGE_open = (x.freqOpen || x.statusOpen) ∧ u.bitOf GAN_SVY_EDGE_by_status = x.statusOpen ∧
      u.bitOf GAN_SVY_EDGE_by_freq = x.freqOpen ∧ u.bitOf GAN_SVY_EDGE_status_unknown = x.statusUnknown ∧
      u.bitOf GAN_SVY_EDGE_freq_unknown = x.freqUnknown := by
  obtain ⟨hl, hhas, hedge⟩ := h
  obtain ⟨hsel, hshown⟩ := latchEdge_shows s.w (v.toNat % 32768) hedge
  exact ⟨_, exec_ganSelLatch hl (if_pos hhas), hsel.trans (Nat.mod_mod _ _), hshown⟩

theorem ganSelLatch_monitor (h : s.lanes ∧ s.w.ganHas 2 = true) :
    ∃ u, exec (.ganSelLatch .monitor v) s = .next u ∧ u.reg GAN_MON_SEL_kind = v.toNat % 16 ∧
      u.reg GAN_MON_VAL_v = (if v.toNat % 16 ∈ [1, 2, 6] then
        (s.w.mon (v.toNat % 16) (v.toNat / 65536)).val.toNat else 0) ∧
      u.reg GAN_MON_RATE_v = (if v.toNat % 16 ∈ [1, 2, 6] then
        (s.w.mon (v.toNat % 16) (v.toNat / 65536)).rate.toNat else 0) ∧
      u.reg GAN_MON_OUT_outputs = (if v.toNat % 16 ∈ [1, 2, 6] then
        (s.w.mon (v.toNat % 16) (v.toNat / 65536)).outs % 2 ^ GAN_MON_OUT_outputs.width else 0) := by
  obtain ⟨hl, hhas⟩ := h
  obtain ⟨hkind, hval, hrate, houts⟩ := latchMon_shows s.w (v.toNat % 16) (v.toNat / 65536)
  refine ⟨_, exec_ganSelLatch hl (if_pos hhas), ?_⟩
  simp only [State.left_reg, hkind, hval, hrate, houts, W.shownMon, List.mem_cons, List.not_mem_nil, or_false]
  refine ⟨Nat.mod_mod _ _, ?_⟩
  split_ifs <;> exact ⟨rfl, rfl, rfl⟩

end

/-- Settles O20, command by command: a notice by the two passes that keep the count and the monitors, a rule by the fold that
sends rules to IDLE, a selection by the registers it latches. -/
theorem analyticsCommands : Obligations.AnalyticsCommands :=
  ⟨notice_marker, notice_counts, notice_level, tunerReport_writes, paramWrite_replaces, paramWrite_keeps, ruleEnable_enables,
   ruleAck_acknowledges, ganSelLatch_rule, ganSelLatch_tuner, ganSelLatch_node, ganSelLatch_edge, ganSelLatch_monitor,
   ganCtrlWrite_sets⟩

end Analytics

end Sys2Proof.Machine
